-- ==== Sys2Proof/Word.lean ====
section
/-! DEFINITION. The words, byte strings and operand records the commands and the state are made of.
A register holds 32 bits (R33), a table entry at most 32 bytes (R35), the time base 80 bits (R132). -/

namespace Sys2Proof

/-- A register of the register space (R33). -/
abbrev W32 := BitVec 32
/-- An address, or the nanosecond part of the time base (R132). -/
abbrev W64 := BitVec 64
/-- The time base: whole nanoseconds above a 16-bit fraction (R132). -/
abbrev W80 := BitVec 80
/-- A table entry, 32 bytes (R35, R89). -/
abbrev W256 := BitVec 256
/-- One byte. -/
abbrev Byte := BitVec 8

/-- Sparse data by index: strictly rising keys, and no entry equal to what an unlisted key reads as. -/
abbrev Store (α : Type) := List (Nat × α)

/-- Who makes a register access (R41, R49): the active management core pair, the host of a partition, or the
debug master. -/
inductive Requester where
  | mgmt
  | part (p : Fin 32)
  | debug
  deriving DecidableEq, Repr

/-- The kinds of transaction layer packet the part tells apart (R92, R103, R119). -/
inductive TlpKind where
  | memWrite | defWrite | memRead | atomic | ioRead | ioWrite | cfgRead | cfgWrite | message | completion
  deriving DecidableEq, Repr

/-- Completion status of PCI Express: Successful, Unsupported Request, Request Retry Status, Completer Abort. -/
inductive CplStatus where
  | sc | ur | rrs | ca
  deriving DecidableEq, Repr

/-- One transaction layer packet, its header fields and payload (R464). -/
structure Tlp where
  kind : TlpKind
  tc : Fin 8 := 0
  addr : W64 := 0
  /-- Payload bytes of a write, AtomicOp or completion; bytes asked for by a read (0: a zero-length read). -/
  len : Nat := 0
  reqId : BitVec 16 := 0
  tag : BitVec 14 := 0
  data : List Byte := []
  poison : Bool := false
  /-- The AT field. -/
  addrType : BitVec 2 := 0
  relaxed : Bool := false
  noSnoop : Bool := false
  /-- ID-based ordering. -/
  ido : Bool := false
  /-- TH, with the processing hint it brings. -/
  hint : Option (BitVec 2) := none
  ecrc : Option W32 := none
  /-- The IDE MAC bytes when the packet carries the IDE prefix. -/
  ide : Option (List Byte) := none
  /-- The IDE prefix DW, and how many of the other end-to-end prefixes come before it. -/
  idePrefix : W32 := 0x92000000
  ideAt : Nat := 0
  prefixes : List W32 := []
  byteEn : BitVec 8 := 255
  /-- Which AtomicOp: 0 FetchAdd, 1 Swap, 2 CAS (R207). -/
  atomOp : Fin 3 := 0
  /-- A locked read (R208). -/
  locked : Bool := false
  /-- Routing of a message: 0 to the root, 2 by ID, 3 broadcast from the root, 4 local, 5 gathered (R103, R104). -/
  route : Fin 8 := 0
  /-- Bytes 10 to 15 of a message's header. -/
  msgBytes : BitVec 48 := 0
  /-- Completions: status, whether this one ends its request, completer and remaining byte count. -/
  status : CplStatus := .sc
  last : Bool := true
  cplId : BitVec 16 := 0
  byteCount : Nat := 0
  /-- Configuration requests and ID-routed messages: bus number and device/function; Type 0 when true. -/
  bus : Byte := 0
  devfn : Byte := 0
  type0 : Bool := false
  deriving DecidableEq, Repr

/-- A memory fault that an access meets (R293): one copy or a single bit, or both copies or two bits. -/
inductive EccFault where
  | corrected | uncorrectable
  deriving DecidableEq, Repr

/-- What a packet of VC4 carries (R235, R259, R260, R270, R272). -/
inductive Vc4 where
  | offer (fid : Nat) (key nonce head : List Byte)
  | proof (part : Nat) (signature : List Byte)
  | accept
  | reject
  | resume (value : List Byte)
  /-- A register read or write of a partition carried for BAR4, with its number (R272). -/
  | regRead (part addr len n : Nat)
  | regWrite (part addr : Nat) (data : List Byte) (be : Nat)
  | regData (n : Nat) (data : Option (List Byte))
  /-- A direct write of the home device to a bridge of a port here, or a change at that port for the home shadow (R270). -/
  | relay (part port off : Nat) (value : W32)
  | change (part port off : Nat) (value : W32)
  /-- A reset of the partition's virtual switch at a port: whether its link is held up, and whether it has a bridge (R216,
  R270). -/
  | reset (part port : Nat) (hold bridged : Bool)
  /-- A report asked for and returned between managers (R261, R413). -/
  | report (kind : Nat) (data : List Byte)
  deriving DecidableEq, Repr

/-- An 8-byte slot of a Moaben link's stream: packet data, or a control block's 64 bits (R234, R237). -/
inductive LineSlot where
  | data (d : W64)
  | ctl (d : W64)
  deriving DecidableEq, Repr

/-- A read of a counter's low word: its address, and whether the counter array finds it uncorrectable (R41, R293). -/
structure CounterRead where
  addr : Nat
  ue : Bool := false
  deriving DecidableEq, Repr

/-- A margining command: its payload, its type (1 asks for a capability, the others are steps and limits) and receiver
number; and what the sampler reports for each eye (R286, R287). -/
structure MarginAnswer where
  report : Nat
  seen : List Nat := []
  type : Nat := 1
  receiver : Nat := 0
  deriving DecidableEq, Repr

/-- What ends a scan's dwell: the errors counted, and whether the lane has received a signal all along (R287). -/
structure ScanResult where
  errors : Nat
  signal : Bool := true
  deriving DecidableEq, Repr

/-- The three times of an ECHO in 2^-16 ns: its sending and its return by this device's clock, its arrival by the peer's
(R251). -/
structure EchoTimes where
  sent : Nat
  heard : Nat
  back : Nat
  deriving DecidableEq, Repr

/-- The single bits, TYPE and TAG_HI of a packet's header (R235). -/
structure HeadFlags where
  bank : Bool := false
  live : Bool := false
  null : Bool := false
  mcast : Bool := false
  replay : Bool := false
  type : Nat := 0
  tagHi : Nat := 0
  deriving DecidableEq, Repr

/-- A time exchange's request: the link it came on and the number of the exchange (R256). -/
structure TsyncReq where
  link : Nat
  exchange : Nat
  deriving DecidableEq, Repr

/-- The gate and input voltage of a slot channel's conversion, in mV (R363, R375). -/
structure ChannelVolts where
  gate : Nat
  vin : Nat
  deriving DecidableEq, Repr

/-- A channel of a slot, and the voltage over its shunt in µV as the fast comparator finds it (R372). -/
structure ChannelSense where
  ch : Nat
  sense : Nat
  deriving DecidableEq, Repr

/-- A block as a lane received it, and whether a packet was being received (R229, R243). -/
structure LineBlock where
  bits : BitVec 69
  open' : Bool := false
  deriving DecidableEq, Repr

end Sys2Proof
end

