-- ==== Sys2Proof/Config.lean ====
section
/-! DEFINITION. What the spec leaves open, as constants without a body: nothing in Lean can evaluate them, so a
statement about them holds for every value. Each is applied to the operands it depends on, or to the counter
`State.free` where a fresh value is meant (log entry 3). -/

namespace Sys2Proof.Config

/-- A fresh word: nonces (R417), the order of a choice the spec does not fix. DESIGN CHOICE, log entry 3. -/
opaque freeWord : Nat → W256
/-- A fresh choice among several (R227's free tag, R339's spurious failure). DESIGN CHOICE, log entry 3. -/
opaque freeNat : Nat → Nat
/-- The fixed function of R105 that spreads frames over the usable links: ingress core port, destination fabric ID,
destination core port, traffic class. The spec names its arguments and not the function; log entry 9. -/
opaque linkChoice : Nat → Nat → Nat → Nat → Nat
/-- SHAKE256 of a byte string, so many bytes out (FIPS 202, which the spec cites and does not restate); log entry 4. -/
opaque shake256 : List Byte → Nat → List Byte
/-- SLH-DSA signing with the device key (FIPS 205, which the spec cites and does not restate); log entry 4. -/
opaque slhSign : List Byte → List Byte → List Byte
/-- SLH-DSA verification: public key, message, signature (FIPS 205); log entry 4. -/
opaque slhVerify : List Byte → List Byte → List Byte → Bool

/-- Partition that owns a port of another device which this device has been told nothing of, by fabric ID and core port
(R101); log entry 95. -/
opaque portOwner : Nat → Nat → Nat
/-- Primary bus number of the upstream bridge of a partition whose home is another device that has not told it (R101, R205),
by partition; log entry 108. -/
opaque homeBus : Nat → Nat
/-- Cells whose credits a PCIe port advertises when it may, by core port, core cycle, and cells that its credits out there
could still bring: R67 bounds the advertisement and does not give it; log entry 92. -/
opaque creditGrant : Nat → Nat → Nat → Nat

/-- Full scale of the converter of a slot channel's output voltage, in mV, by channel: R365 gives its resolution and not its
range; log entry 112. -/
opaque voutScale : Nat → Nat
/-- Slot Power Limit Value and Scale (bits [7:0] and [9:8]) that firmware writes from the current limits of a slot's two
channels (R219): the spec names the source and not the rule; log entry 102. -/
opaque slotPower : Nat → Nat → Nat

/-- Operand bits [63:12] of a TRAIN control block by its OP and what it has to say: R237 names the contents and not their
places; log entry 98. -/
opaque trainOperands : Nat → List Nat → Nat
/-- Body of a VC4 packet: the spec names what it carries and not its bytes (R259, R270, R272); log entry 98. -/
opaque vc4Bytes : Vc4 → List Byte

/-- What the boot ROM holds, by address: its content is the part's own (R315). -/
opaque bootRom : Nat → Byte
/-- SRAM that nothing has written since a device-wide reset, by reset and offset (R317); log entry 3. -/
opaque sramByte : Nat → Nat → Byte
/-- SPI flash as the board has programmed it, by offset; log entry 3. -/
opaque flashByte : Nat → Byte
/-- SHAKE256 of the vendor root key and the version, as the boot ROM holds them (R409, R412). -/
opaque vendorRoot : List Byte
opaque bootVersion : List Byte
/-- SLH-DSA-SHAKE-256s verification of signed images: public key, message, signature (R408, FIPS 205); log entry 4. -/
opaque slhVerifyS : List Byte → List Byte → List Byte → Bool
/-- PK.root of a key pair from SK.seed, SK.prf and PK.seed (R406, FIPS 205); log entry 4. -/
opaque pkRoot : List Byte → List Byte

end Sys2Proof.Config
end

