-- ==== Sys2Proof/Syntax.lean ====
section
/-! DEFINITION. The commands the block takes: one constructor per row of spec/opcode_table.json, with the operands that
say which instance is meant and what the part observed at its pins, links and memories. -/

namespace Sys2Proof

/-- The commands: one constructor per row of the table of operations and events, in the table's order but for those
without operands, which stand last: Lean's compiler gives the first 244 constructors a tag that may carry operands. -/
inductive Instr where
  /-- REGISTER_WRITE (R48): A write to a register that has no row of its own reaches its page, is stored and takes effect in hardware within 51.2 ns. -/
  | registerWrite (r : Requester) (addr : Nat) (value : W32)
  /-- STRAY_ACCESS (R31): An access to an unimplemented page reads zero, ignores the write and increments DEV_STRAY_ACCESS. -/
  | strayAccess (r : Requester) (addr : Nat) (write : Bool)
  /-- PARTIAL_WRITE (R33): A write of fewer than 4 bytes is ignored and increments DEV_PARTIAL_WRITE. -/
  | partialWrite (r : Requester) (addr : Nat)
  /-- EVT_CLR (R37): A write to EVT_CLR clears the masked event bits only if its SEQ matches and no event occurs in that cycle. -/
  | evtClr (r : Requester) (page : Nat) (mask : Nat) (seq : Nat)
  /-- COUNTER_LOW_READ (R41): A 4-byte read of a counter's low word latches its high word and counter offset for the requester. -/
  | counterLowRead (r : Requester) (read : CounterRead)
  /-- COUNTER_HIGH_READ (R41): A 4-byte read of a counter's high word returns the latched value when the latch holds that counter, otherwise the current high word. -/
  | counterHighRead (r : Requester) (addr : Nat)
  /-- COUNTER_CLEAR (R42): A write to a counter's low word clears the whole counter, with a same-cycle increment applied after the clear. -/
  | counterClear (r : Requester) (addr : Nat)
  /-- TB_READ_LATCH (R133): A read of SLU_TB_LO captures the whole 80-bit time base into the requester's latch. -/
  | tbReadLatch (r : Requester)
  /-- TBL_NOP (R43): A TBL_OP NOP starts and completes in the cycle of its write, setting DONE and OWNER without touching any entry. -/
  | tblNop (r : Requester) (page : Nat)
  /-- TBL_READ (R43): A TBL_OP READ starts copying the indexed entry into TBL_DATA0-7. -/
  | tblRead (r : Requester) (page : Nat)
  /-- TBL_WRITE (R43): A TBL_OP WRITE starts writing TBL_DATA0-7 atomically into the indexed entry, or is DENIED for protected tables. -/
  | tblWrite (r : Requester) (page : Nat)
  /-- TBL_READ_CLEAR (R43): A TBL_OP READ_CLEAR reads a counter-array entry and clears it in the same table cycle, or ends BADOP on other tables. -/
  | tblReadClear (r : Requester) (page : Nat)
  /-- TBL_OP_DONE (R43): An indirect table operation completes within 256 core cycles, setting DONE, ERR and OWNER and loading TBL_DATA on reads. -/
  | tblOpDone (page : Nat) (copy0 : Bool) (copy1 : Bool)
  /-- FRAME_ARRIVAL (R22): A frame's header enters at a PCIe or engine core port, is checked, furrow-stamped, timestamped, looked up, rights-checked, admitted, stored and queued. -/
  | frameArrival (port : Nat) (tlp : Tlp) (whole : Bool) (meet : Option (Nat × Nat × Bool × Bool))
  /-- RESERVATION_GRANTED (R55): A non-posted request waiting at ingress obtains its completion reservation and is admitted. -/
  | reservationGranted (port : Nat)
  /-- PROXY_TAG_GRANTED (R101): A request waiting for a free proxy tag receives one, with a proxy record, and proceeds. -/
  | proxyTagGranted (port : Nat)
  /-- ORIGINATED_TAG_GRANTED (R227): A request the CX256 originates, waiting for a free tag of the allowed width, receives one and proceeds. -/
  | originatedTagGranted (port : Nat)
  /-- COPY_START (R60): An egress port selects its next ready queue head and starts transmitting the copy. -/
  | copyStart (port : Nat) (credits : Nat) (kind : Nat) (got : W32) (cell : Nat)
  /-- COPY_DEPART (R52): A copy's last byte leaves; its reference is dropped and the weir credited. -/
  | copyDepart (port : Nat) (refUe : Option (Nat × Nat))
  /-- LATE_ERROR (R64): A fault found in a cut-through copy after its head left ends the copy by its egress's means. -/
  | lateError (port : Nat) (cause : Nat) (got : W32) (cell : Nat)
  /-- UNDERRUN (R65): A cut-through copy needing a cell not yet stored is ended and counted. -/
  | underrun (port : Nat)
  /-- UNDERRUN_RESEND (R65): Once the underrun frame is fully stored and checked it is sent again whole in store-and-forward. -/
  | underrunResend (port : Nat)
  /-- AGE_DISCARD (R75): A head-of-queue copy older than BUF_AGE_LIMIT is discarded, counted, refused or ledgered AGE. -/
  | ageDiscard (port : Nat) (queue : Nat)
  /-- WEIR_GOV_TICK (R70): Every 100 µs the weir governor raises or lowers each port's LIMIT within its bounds and logs changes. -/
  | weirGovTick (withheld : List (Nat × Nat))
  /-- LIVE_POOL_WRITE (R74): A write to BUF_LIVE_POOL resizes the live pool, evicting candidates if below occupancy. -/
  | livePoolWrite (cells : Nat)
  /-- CPL_POOL_WRITE (R54): A write to BUF_CPL_POOL resizes the completion reserve, clamped so the ordered pool keeps 16,384 cells. -/
  | cplPoolWrite (cells : Nat)
  /-- LEDGER_WRITEBACK (R81): Within 1 µs of records, PROD is written back to PIDX_ADDR as a 4-byte posted write. -/
  | ledgerWriteback (ring : Nat)
  /-- PORT_LINK_DOWN (R82): A PCIe or Moaben port's link goes down, advancing its epoch and starting a flush. -/
  | portLinkDown (port : Nat)
  /-- FLUSH_REMOVE (R83): The flush removes one older-epoch copy, discarding, ledgering or refusing it as its type requires. -/
  | flushRemove (port : Nat)
  /-- FLUSH_DONE (R83): A port flush ends, clearing FLUSHING and FLUSH_ALL and releasing held egress. -/
  | flushDone (port : Nat)
  /-- PORT_LINK_UP (R84): A port's link comes up; ingress is accepted at once and egress waits for any flush to end. -/
  | portLinkUp (port : Nat) (rate : Nat) (width : Nat) (flit : Bool)
  /-- COMPLETION_ARRIVAL (R102): A completion enters and is routed by proxy record or ID route, retiring its tag record. -/
  | completionArrival (port : Nat) (tlp : Tlp) (whole : Bool) (ue : Bool)
  /-- TAG_RECORD_TIMEOUT (R102): A tag record whose request has not ended within MAP_PROXY_CTO retires and releases its reservation. -/
  | tagRecordTimeout (id : Nat)
  /-- BANK_CE_LIMIT (R87): A bank's corrected errors reaching CE_LIMIT in one second raise an event and, with AUTO, retire it. -/
  | bankCeLimit (bank : Nat)
  /-- BANK_RETIRE (R88): A retirement request stops allocation in a bank and brings in a spare, or is refused. -/
  | bankRetire (bank : Nat)
  /-- MAP_COMMIT (R97): A write to MAP_COMMIT checks the staged entry and writes it atomically into the named index and bank. -/
  | mapCommit (index : Nat) (bankB : Bool)
  /-- MIRROR_SLOT_WRITE (R115): A mirror capture obtains management-pool cells and is written as a slot to its ring, advancing PROD. -/
  | mirrorSlotWrite (session : Nat)
  /-- MIRROR_WRITEBACK (R115): Within 1 µs of slots, a session's PROD is written back to its PIDX_ADDR. -/
  | mirrorWriteback (session : Nat)
  /-- MCM_MODE_WRITE (R118): A write changing MODE, SLOT_LOG2 or RING_LOG2 of a session sets its PROD to 0. -/
  | mcmModeWrite (session : Nat) (value : W32)
  /-- SAMPLE_N_WRITE (R118): A write to MCM_SAMPLE_N restarts the session's capture count. -/
  | sampleNWrite (session : Nat) (n : Nat)
  /-- ACL_SWEEP (R128): A write to ACL_SWEEP with GO advances the rule epoch and starts or extends a sweep. -/
  | aclSweep (waitNp : Bool)
  /-- PTM_REQUEST (R222): A PTM Request on a card-facing port is answered with the time base, or refused when PTM is disabled. -/
  | ptmRequest (port : Nat)
  /-- FRAME_SYNC_EDGE (R138): An active FRAME_SYNC edge is captured, accepted or ignored as stray, counted and used by the tracker. -/
  | frameSyncEdge (falling : Bool)
  /-- ARM (R142): A write of ARM to an arm slot checks and arms its trigger, or refuses it with a cause. -/
  | arm (group : Nat) (slot : Nat) (kind : Nat) (bank : Bool)
  /-- CANCEL (R145): A write of CANCEL to an ARMED slot whose instant has not arrived makes it CANCELLED. -/
  | cancel (group : Nat) (slot : Nat)
  /-- COMMIT_FIRE (R143): A commit's instant arrives and its gate group selects its BANK for later-stamped lookups. -/
  | commitFire (group : Nat) (slot : Nat)
  /-- SLOT_FIRED (R144): Once every frame stamped before the instant has been looked up, the slot reads FIRED. -/
  | slotFired (group : Nat) (slot : Nat)
  /-- GATE_FORCE (R146): A write to SLU_GATE_FORCE with GO selects a bank for a group at once. -/
  | gateForce (group : Nat) (bank : Bool)
  /-- DOORBELL (R154): A write to INST_Q_PROD makes descriptors pending, or is refused and counted. -/
  | doorbell (inst : Nat) (ring : Nat) (prod : W32)
  /-- RING_ENABLE (R156): Writing EN from 0 to 1 sets PROD and DONE to 0 and the ring to IDLE. -/
  | ringEnable (inst : Nat) (ring : Nat)
  /-- RING_DISABLE (R156): Writing EN to 0 disables the ring once its current descriptor finishes, dropping pending ones. -/
  | ringDisable (inst : Nat) (ring : Nat)
  /-- RING_RESUME (R156): Writing RESUME on a HALTED ring makes its next descriptor current. -/
  | ringResume (inst : Nat) (ring : Nat)
  /-- DESCRIPTOR_FETCH (R155): An engine fetches descriptors of an enabled ring up to eight ahead while headgate and BME allow. -/
  | descriptorFetch (inst : Nat) (ring : Nat)
  /-- CONTEXT_GRANT (R157): A waiting ring receives a free engine context and its next descriptor becomes current. -/
  | contextGrant (engine : Nat)
  /-- SOURCE_READ_ISSUE (R177): An engine issues a source read once it holds a tag, reorder space and reservation. -/
  | sourceReadIssue (engine : Nat)
  /-- ENGINE_WRITE_ISSUE (R159): On its turn an engine context issues the next destination write in line order. -/
  | engineWriteIssue (engine : Nat)
  /-- ENGINE_COMPLETION (R178): A read completion reaches an engine, is verified and placed in the reorder buffer by address. -/
  | engineCompletion (engine : Nat) (rb : Bool)
  /-- DESCRIPTOR_FINISH (R164): A descriptor finishes; its record is written in ring order, DONE advances and MSI-X is sent. -/
  | descriptorFinish (inst : Nat) (ring : Nat)
  /-- TIMED_RELEASE (R176): A ring held by a TIMED descriptor is released at the first cycle at or after the instant. -/
  | timedRelease (inst : Nat) (ring : Nat)
  /-- ENG_CTO_EXPIRY (R181): An engine read unanswered within ENG_CTO in normal service is completed with poisoned zeros. -/
  | engCtoExpiry (id : Nat)
  /-- ENG_CTO_RECOV_EXPIRY (R182): A recovery-class read timeout ends the descriptor with CTO, halts the ring and reports AER. -/
  | engCtoRecovExpiry (id : Nat)
  /-- ENGINE_ABORT (R184): Writing ENG_CTL.ABORT stops every current descriptor of the engine and enters ABORTING. -/
  | engineAbort (engine : Nat)
  /-- ENGINE_STOPPED (R184): Once all tags of an aborting engine have retired, it reads STOPPED. -/
  | engineStopped (engine : Nat)
  /-- ENGINE_RESTART (R184): Writing RESTART while STOPPED returns the engine to IDLE. -/
  | engineRestart (engine : Nat)
  /-- MSIX_PENDING_SEND (R192): A pending MSI-X message is sent once vector, function, enable and BME all allow it. -/
  | msixPendingSend (inst : Nat) (vector : Nat)
  /-- CONFIG_READ (R188): A configuration read of a virtual function is served in hardware from its shadow. -/
  | configRead (port : Nat) (tlp : Tlp) (ue : Bool)
  /-- CONFIG_WRITE (R215): A configuration write updates the shadow; direct fields act in hardware and mediated fields are queued. -/
  | configWrite (port : Nat) (tlp : Tlp) (ue : Bool)
  /-- BME_CLEAR (R200): Clearing Bus Master Enable stops new requests and halts current descriptors with BME_OFF. -/
  | bmeClear (inst : Nat)
  /-- FUNCTION_LEVEL_RESET (R198): A tenant's Initiate Function Level Reset starts a forced reset of the instance. -/
  | functionLevelReset (inst : Nat)
  /-- POWER_STATE_D3HOT (R201): Writing PowerState D3hot stops BAR0 decode, acting as a BME clear if not quiesced. -/
  | powerStateD3hot (inst : Nat)
  /-- SECONDARY_BUS_RESET (R216): Setting Secondary Bus Reset resets the virtual switch or hot-resets one downstream link. -/
  | secondaryBusReset (port : Nat)
  /-- DPC_RELEASE (R218): A host clearing DPC Trigger Status lets the held port retrain. -/
  | dpcRelease (port : Nat)
  /-- POWER_CONTROLLER_OFF (R220): Power Controller Control written to 1 turns both channels of the slot off. -/
  | powerControllerOff (port : Nat)
  /-- POWER_CONTROLLER_ON (R220): Power Controller Control written to 0 allows an insertion sequence if a card is present and not latched. -/
  | powerControllerOn (port : Nat)
  /-- INST_NOP (R196): CMD NOP requests no transition. -/
  | instNop (inst : Nat)
  /-- CREATE (R196): CMD CREATE moves a FREE instance into SETUP for firmware to build its function. -/
  | create (inst : Nat)
  /-- DESTROY (R196): CMD DESTROY moves a RESET or FROZEN instance into SETUP to be freed. -/
  | destroy (inst : Nat)
  /-- FREEZE (R203): CMD FREEZE closes the headgate and discards run-ahead data, waiting to freeze the instance. -/
  | freeze (inst : Nat)
  /-- SAVE (R205): CMD SAVE writes the save record of a FROZEN instance to memory and issues a closing read. -/
  | save (inst : Nat)
  /-- RESTORE (R206): CMD RESTORE reads a save record for a FREE instance. -/
  | restore (inst : Nat)
  /-- THAW (R196): CMD THAW moves a FROZEN instance to ACTIVE or RECOVERY with the headgate open. -/
  | thaw (inst : Nat)
  /-- RECOVER (R196): CMD RECOVER moves an ACTIVE or RESET instance to RECOVERY. -/
  | recover (inst : Nat)
  /-- SERVE (R196): CMD SERVE moves a RECOVERY instance to ACTIVE. -/
  | serve (inst : Nat)
  /-- CREATE_DONE (R186): Firmware completes CREATE; the function appears at reset values and Presence Detect Changed is raised. -/
  | createDone (inst : Nat)
  /-- DESTROY_DONE (R196): Firmware completes DESTROY and the instance becomes FREE. -/
  | destroyDone (inst : Nat)
  /-- RESTORE_DONE (R206): The record has been read and checked; the instance enters FROZEN with rings restored, or stays FREE. -/
  | restoreDone (inst : Nat)
  /-- RESTORE_XFER_TIMEOUT (R206): A restore read taking more than 10 ms refuses the restore with cause XFER. -/
  | restoreXferTimeout (inst : Nat)
  /-- FREEZE_DONE (R203): The instance is idle and its destination sets fenced, so it becomes FROZEN, or the FREEZE is refused. -/
  | freezeDone (inst : Nat)
  /-- SAVE_DONE (R205): The closing zero-length read of a SAVE completes and the command reads DONE. -/
  | saveDone (inst : Nat)
  /-- SAVE_XFER_TIMEOUT (R205): A save read taking more than 10 ms ends SAVE as REFUSED with cause XFER. -/
  | saveXferTimeout (inst : Nat)
  /-- HEADGATE_OPEN (R197): Writing HG_OPEN 1 opens the headgate, moving an instance in RESET to ACTIVE. -/
  | headgateOpen (inst : Nat)
  /-- HEADGATE_CLOSE (R197): Writing HG_OPEN 0 stops new descriptors; current ones run to their end. -/
  | headgateClose (inst : Nat)
  /-- INSTANCE_IDLE (R197): With the headgate closed and no descriptor, tag or write left, IDLE becomes 1. -/
  | instanceIdle (inst : Nat)
  /-- FORCE_RESET (R198): FORCE_RESET closes the headgate, drops pending and stops current descriptors, and waits for tags. -/
  | forceReset (inst : Nat)
  /-- RESET_TAG_TIMEOUT (R198): A tag of a resetting instance not returned within 10 ms retires. -/
  | resetTagTimeout (id : Nat)
  /-- INSTANCE_RESET_DONE (R198): With no tag left, the shadow, MSI-X and rings are reset and the instance enters RESET. -/
  | instanceResetDone (inst : Nat)
  /-- OCTET_CONFIG_WRITE (R210): A write to PHY_OCTET_MODE or PHY_OCTET_PORTS reshapes ports when disabled, or is refused. -/
  | octetConfigWrite (octet : Nat) (mode : Bool) (value : W32)
  /-- PORT_CONFIG_WRITE (R212): A write to ROLE, PART or SLOT of PEP_PORT_CTL applies while disabled, or is refused. -/
  | portConfigWrite (port : Nat) (value : W32)
  /-- PCIE_LINK_DISABLE (R82): Writing PEP_LINK_CTL.DISABLE 1 takes the link down with epoch and flush. -/
  | pcieLinkDisable (port : Nat)
  /-- HOT_RESET (R216): Writing HOT_RESET sends hot reset on a downstream link, taking it down. -/
  | hotReset (port : Nat)
  /-- PCIE_RETRAIN (R207): Writing RETRAIN retrains the PCIe link. -/
  | pcieRetrain (port : Nat) (rate : Nat) (width : Nat)
  /-- L1_ENTRY (R225): A link whose ends enable ASPM and whose egress queues are empty enters L1. -/
  | l1Entry (port : Nat)
  /-- LANE_MARGIN_COMMAND (R286): A host Lane Margining command runs on the margin sampler, pre-empting a scan. -/
  | laneMarginCommand (octet : Nat) (lane : Nat) (active : Bool) (errors : Nat) (answer : MarginAnswer)
  /-- FORWARDED_CLOCK_DETECT (R249): A Moaben link in DETECT receives the forwarded clock and moves to ALIGN. -/
  | forwardedClockDetect (link : Nat)
  /-- LANE_LOCK (R232): A lane finds 64 consecutive valid blocks at an offset and locks. -/
  | laneLock (link : Nat) (lane : Nat) (line : Nat) (len : Nat) (aligns : List (Nat × Nat))
  /-- LANE_UNLOCK (R232): Sixteen bad blocks in the last 64 unlock a lane and the link retrains. -/
  | laneUnlock (link : Nat) (lane : Nat) (blocks : List (BitVec 69))
  /-- HELLO_RECEIVE (R251): A HELLO sets speed, width and window, is answered with ECHO, and its fabric ID is checked. -/
  | helloReceive (link : Nat) (fid : Nat) (speed : Nat) (width : Nat) (win : Nat) (lanes : Nat)
  /-- ECHO_RECEIVE (R251): An ECHO's time of arrival gives MFL_RTT and headroom. -/
  | echoReceive (link : Nat) (times : EchoTimes)
  /-- TRAIN_TIMEOUT (R249): TRAIN not reaching AUTH within 10 ms returns the link to DETECT. -/
  | trainTimeout (link : Nat)
  /-- MOABEN_PACKET_RECEIVE (R243): A whole packet arrives and is accepted, NAKed or discarded as a duplicate by its sequence number. -/
  | moabenPacketReceive (link : Nat) (seq : Nat) (vc : Nat) (fid : Nat) (dest : Nat) (srcFid : Nat) (length : Nat) (gate : Nat)
      (flags : HeadFlags) (fur : W32) (slots : List LineSlot) (bad : Bool) (tlp : Option Tlp)
  /-- ACK_SEND (R245): After ACK_N packets or ACK_T, the receiver sends an ACK of the last accepted packet. -/
  | ackSend (link : Nat)
  /-- ACK_RECEIVE (R245): An ACK acknowledges unacknowledged packets up to its SEQ and updates the XOFF mask. -/
  | ackReceive (link : Nat) (seq : Nat) (mask : Nat)
  /-- NAK_RECEIVE (R246): A NAK acknowledges up to s − 1 and replays from s. -/
  | nakReceive (link : Nat) (seq : Nat) (mask : Nat)
  /-- REPLAY_TIMEOUT (R246): No acknowledgement progress for REPLAY_TMO replays from the oldest packet. -/
  | replayTimeout (link : Nat)
  /-- XOFF_RECEIVE (R240): An XOFF stops new packets on the named VC. -/
  | xoffReceive (link : Nat) (mask : Nat)
  /-- XON_RECEIVE (R240): An XON releases the named VC. -/
  | xonReceive (link : Nat) (mask : Nat)
  /-- XOFF_RESEND (R240): While any VC is in XOFF, and once after the last XON, the mask is sent again every MFL_RTT. -/
  | xoffResend (link : Nat)
  /-- MFL_RETRAIN (R247): A retrain realigns lanes and exchanges HELLO, keeping replay buffer, sequence numbers and epoch. -/
  | mflRetrain (link : Nat)
  /-- RETRAIN_DONE (R247): A retrain completes and the link resumes with the replay. -/
  | retrainDone (link : Nat)
  /-- RETRAIN_TIMEOUT (R247): A retrain not ended within 50 µs takes the link down. -/
  | retrainTimeout (link : Nat)
  /-- LINK_CHANGE (R252): Writing MFL_LINK_CTL.CHANGE stops new packets, drains acknowledgements and sends CHANGE. -/
  | linkChange (link : Nat)
  /-- CHANGE_RECEIVE (R252): A CHANGE from the peer makes both ends retrain at the new settings. -/
  | changeReceive (link : Nat) (speed : Nat) (width : Nat) (lanes : Nat)
  /-- READY_RECEIVE (R252): The READY exchange ends the change and the link resumes. -/
  | readyReceive (link : Nat)
  /-- CHANGE_TIMEOUT (R252): A change that cannot retrain within 50 µs takes the link down. -/
  | changeTimeout (link : Nat)
  /-- REMAP_RECEIVE (R253): A REMAP moves a lane position onto the spare from the next row. -/
  | remapReceive (link : Nat) (position : Nat)
  /-- SPARE_MAP (R253): Writing MFL_LANE_MAP.GO maps the spare onto a lane or returns a repaired lane. -/
  | spareMap (link : Nat) (position : Nat)
  /-- MFL_LINK_ENABLE (R257): Writing MFL_LINK_CTL.ENABLE 1 lets the link train and authenticate. -/
  | mflLinkEnable (link : Nat)
  /-- MFL_LINK_DISABLE (R250): Writing MFL_LINK_CTL.ENABLE 0 takes the link down. -/
  | mflLinkDisable (link : Nat)
  /-- LANE_GOV_TICK (R254): Every 100 ms the lane-health governor maps a hot lane to the spare, narrows the link or requests re-equalisation. -/
  | laneGovTick (errors : List (Nat × Nat))
  /-- TSYNC_REQUEST_SEND (R256): Every PERIOD_US a disciplined device sends TSYNC REQ on its reference link. -/
  | tsyncRequestSend (link : Nat)
  /-- TSYNC_REQ_RECEIVE (R256): A TSYNC REQ is answered with RSP carrying t2 and FUP carrying t3. -/
  | tsyncReqReceive (req : TsyncReq)
  /-- TSYNC_FUP_RECEIVE (R256): The follower computes offset and delay, discarding bad exchanges, and feeds discipline. -/
  | tsyncFupReceive (link : Nat) (exchange : Nat) (t2 : Nat) (t3 : Nat)
  /-- AUTH_OFFER_RECEIVE (R259): A peer OFFER is received, its key hash stored, and signing of the two OFFERs starts. -/
  | authOfferReceive (link : Nat) (fid : Nat) (key : List Byte) (nonce : List Byte) (head : List Byte)
  /-- AUTH_PROOF_RECEIVE (R259): A peer PROOF is verified and its hash checked against enabled list entries, answered ACCEPT or REJECT. -/
  | authProofReceive (link : Nat) (signature : List Byte)
  /-- AUTH_ACCEPT_RECEIVE (R259): ACCEPT from a peer already accepted moves the link to UP and stores the resumption chain. -/
  | authAcceptReceive (link : Nat)
  /-- AUTH_REJECT_RECEIVE (R261): REJECT from the peer puts the link in STRANGER with cause PEER_REJECT. -/
  | authRejectReceive (link : Nat)
  /-- AUTH_RESUME_RECEIVE (R260): A RESUME chain value is checked, moving the link to UP or falling back to full authentication. -/
  | authResumeReceive (link : Nat) (value : List Byte)
  /-- AUTH_TIMEOUT (R259): A link not leaving AUTH within 400 ms becomes STRANGER with cause TIMEOUT. -/
  | authTimeout (link : Nat)
  /-- SIGN_DONE (R407): A signing context completes its signature and it is sent as PROOF or report. -/
  | signDone (ctx : Nat)
  /-- AUTH_LIST_EDIT (R261): An edit of MFL_AUTH_LIST discards the chain and drops or re-authenticates peers. -/
  | authListEdit (link : Nat) (index : Nat) (value : W256)
  /-- AUTH_EN_WRITE (R261): A write to MFL_AUTH_EN enables or disables list entries with the same effect on peers. -/
  | authEnWrite (link : Nat) (en : Nat)
  /-- REAUTH (R260): Writing REAUTH discards the link's resumption chain. -/
  | reauth (link : Nat)
  /-- MGMT_PACKET_RECEIVE (R270): An MGMT packet on VC4 relays a remote bridge write, state change or BAR4 request. -/
  | mgmtPacketReceive (link : Nat) (src : Nat) (dst : Nat) (body : Vc4)
  /-- BAR4_REMOTE_READ (R272): A BAR4 read for another device is carried there as an MGMT packet and completed, or refused. -/
  | bar4RemoteRead (port : Nat) (tlp : Tlp)
  /-- BAR4_REMOTE_WRITE (R272): A BAR4 write for another device is carried as a posted MGMT packet, or discarded and counted. -/
  | bar4RemoteWrite (port : Nat) (tlp : Tlp)
  /-- LOOP_SET (R277): A write of PHY_LOOP_CTL or MFL_LOOP_CTL sets a loop, taking a live link down, or is refused by mode. -/
  | loopSet (unit' : Nat) (value : W32)
  /-- LOOPBACK_ENTRY (R279): A link partner leads the port into PCI Express Loopback as follower; the link counts as down. -/
  | loopbackEntry (port : Nat)
  /-- PRBS_START (R280): A write to the PRBS control starts generators and checkers on the lanes, or is refused. -/
  | prbsStart (unit' : Nat) (value : W32) (counts : List (Nat × Nat))
  /-- PRBS_LOCK (R281): A checker locks after 64 consecutive predicted bits. -/
  | prbsLock (unit' : Nat) (lane : Nat)
  /-- PRBS_LOCK_LOST (R281): Sixteen errored words in the last 64 lose checker lock. -/
  | prbsLockLost (unit' : Nat) (lane : Nat) (errors : Nat) (units : Nat)
  /-- PRBS_RATE_ABORT (R282): A port changing rate stops PRBS on its octet with ABORTED_RATE. -/
  | prbsRateAbort (octet : Nat) (counts : List (Nat × Nat))
  /-- EYE_SCAN_START (R287): Writing EYE_CTL GO starts a margin sampler scan, ending at once if margining is busy or no signal. -/
  | eyeScanStart (unit' : Nat) (value : W32) (signal : Bool)
  /-- EYE_SCAN_STOP (R287): Writing STOP ends the scan with the errors counted so far. -/
  | eyeScanStop (unit' : Nat) (errors : Nat)
  /-- EYE_SCAN_DONE (R287): A scan completes its dwell and reads DONE. -/
  | eyeScanDone (unit' : Nat) (scan : ScanResult)
  /-- EQ_REDO (R288): A REDO write or governor request takes the port through Recovery with equalisation. -/
  | eqRedo (octet : Nat) (sub : Nat)
  /-- EQ_REDO_TIMEOUT (R288): A redo not returning to L0 within 50 ms retrains from Detect. -/
  | eqRedoTimeout (port : Nat)
  /-- SCRUB_READ (R294): The scrubber reads both copies of a routing-table entry and repairs one bad copy. -/
  | scrubRead (table : Nat) (index : Nat) (copy0 : Bool) (copy1 : Bool)
  /-- ERROR_INJECT (R300): Writing ERR_INJECT GO arms corruption of the next COUNT copies at a port. -/
  | errorInject (type : Nat) (port : Nat) (count : Nat)
  /-- RECORD_RING_WRITE (R305): A queued error record is delivered to a partition's host record ring, advancing PROD. -/
  | recordRingWrite (part : Nat)
  /-- PAIR_SELFTEST_DONE (R313): A stopped pair's self-test ends and it reads STANDBY or FAILED. -/
  | pairSelftestDone (pair : Nat) (pass : Bool)
  /-- CORE_LOAD (R316): A core load is checked by map and MPU and performed, faulting on errors or timeouts. -/
  | coreLoad (addr : Nat) (size : Nat) (user : Bool) (ecc : Option EccFault)
  /-- CORE_STORE (R340): A core store is checked and enters the store buffer in program order. -/
  | coreStore (addr : Nat) (size : Nat) (data : Nat) (user : Bool) (ecc : Option EccFault)
  /-- CORE_FENCE (R341): A FENCE waits until earlier accesses in its predecessor set are complete. -/
  | coreFence (kind : Nat) (pred : Nat)
  /-- CORE_LR (R339): An LR registers a reservation on its 64-byte granule. -/
  | coreLr (addr : Nat) (wide : Bool) (user : Bool) (ecc : Option EccFault)
  /-- CORE_SC (R339): An SC stores only under a valid reservation and always clears it. -/
  | coreSc (addr : Nat) (data : Nat) (wide : Bool) (user : Bool) (fail : Bool) (ecc : Option EccFault)
  /-- CORE_AMO (R339): An AMO on SRAM is performed single-copy atomically, faulting elsewhere. -/
  | coreAmo (op : Fin 9) (addr : Nat) (data : Nat) (wide : Bool) (user : Bool) (ecc : Option EccFault)
  /-- MAILBOX_RETIRE (R322): Writing MGT_MBX_RETIRE frees the head entry and releases a held completion. -/
  | mailboxRetire (part : Nat)
  /-- HCMD_DOORBELL (R323): A write to MGT_HCMD_DB sets the partition's pending bit, or counts a merge. -/
  | hcmdDoorbell (part : Nat)
  /-- HCMD_TAKE (R323): Writing MGT_HCMD_TAKE clears a partition's pending bit. -/
  | hcmdTake (part : Nat)
  /-- GET_FW_INFO (R323): Host command GET_FW_INFO returns MGT_FW_STS and the versions of both slots. -/
  | getFwInfo (part : Nat) (vec : Nat) (irq : Bool)
  /-- ATTEST (R414): Host command ATTEST queues a request for a signed attestation report with the host's nonce. -/
  | attest (part : Nat) (nonce : List Byte) (buffer : W64) (vec : Nat) (irq : Bool)
  /-- ATTEST_PEER_REQUEST (R414): A fabric peer's VC4 request queues a report for its nonce, or is answered BUSY. -/
  | attestPeerRequest (link : Nat) (nonce : List Byte)
  /-- SQ_HEAD_WRITE (R325): Writing MGT_SQ_HEAD frees sample-queue entries, capped at the tail. -/
  | sqHeadWrite (head : Nat)
  /-- FIRMWARE_UPDATE (R330): Writing MGT_UPDATE_CTL GO enters UPDATE and warm-resets the pair to load the named slot. -/
  | firmwareUpdate (slot : Nat)
  /-- CUL_BARRIER (R342): Writing CUL_BARRIER starts a barrier over every posted culvert write queued before it. -/
  | culBarrier (r : Requester)
  /-- BARRIER_DONE (R342): Every write a barrier waited for has completed or failed, and its view reads DONE. -/
  | barrierDone (r : Requester)
  /-- PWRLOSS_CLEAR (R344): Writing DEV_PWRLOSS_CLR clears the power-loss capture, keeping LOSSES. -/
  | pwrlossClear (r : Requester)
  /-- LOCAL_ACCESS (R351): An access to a chip select is ordered, split and queued as posted, non-posted or prefetched. -/
  | localAccess (r : Requester) (cs : Nat) (addr : Nat) (len : Nat) (write : Bool) (data : List Byte)
  /-- LB_CYCLE_END (R349): LB_RDY_N ends the last data phase and the chip select is released. -/
  | lbCycleEnd (data : List Byte)
  /-- CUL_REVIVE (R359): Writing a REVIVE bit clears DEAD on a chip select. -/
  | culRevive (mask : Nat)
  /-- SIDEBAND_POLL (R361): Every POLL_US the sideband inputs are sampled and debounced levels update. -/
  | sidebandPoll (levels : W32)
  /-- INTERRUPT_POLL (R361): Every poll period LB_INT_N is sampled and an event raised for each asserted input. -/
  | interruptPoll (asserted : Nat)
  /-- SPV_SAMPLE (R365): Every 10 µs each channel's current and voltage are converted and energy accumulated. -/
  | spvSample (slot : Nat) (ch : Nat) (sense : Nat) (vout : Nat) (volts : ChannelVolts)
  /-- ENERGY_READ (R366): A read of SPV_ENERGY_LO latches the HI word for the requester. -/
  | energyRead (r : Requester) (slot : Nat) (ch : Nat)
  /-- MEAS_CLEAR (R366): Writing SPV_MEAS_CLR clears I_PEAK or restarts the energy counts. -/
  | measClear (slot : Nat) (value : W32)
  /-- FAST_TRIP (R372): Current above the fast-trip threshold starts the gate pull-down within 1 µs. -/
  | fastTrip (slot : Nat) (ch : ChannelSense)
  /-- CURRENT_LIMIT_START (R371): Current regulation at LIMIT becomes active and the fault timer starts. -/
  | currentLimitStart (slot : Nat) (ch : Nat)
  /-- FAULT_TIMER_EXPIRY (R371): The fault timer reaching SPV_FAULT_TIMER trips the channel with cause TIMER. -/
  | faultTimerExpiry (slot : Nat) (ch : Nat)
  /-- FAULT_TIMER_STOP (R371): Regulation inactive for 100 ticks stops the fault timer and returns it to idle. -/
  | faultTimerStop (slot : Nat) (ch : Nat)
  /-- GATE_RISE_TIMEOUT (R375): A gate not reaching VIN + 6 V within GATE_RISE_MAX trips with cause FET_GATE. -/
  | gateRiseTimeout (slot : Nat) (ch : Nat)
  /-- FET_SHORT (R376): VOUT present with the gate off or below VTH fences the slot and may pulse SPV_UPTRIP_N. -/
  | fetShort (slot : Nat) (ch : Nat) (turnOn : Bool)
  /-- INSERTION_START (R369): With all insertion conditions met, both enabled channels start their ramps. -/
  | insertionStart (slot : Nat)
  /-- RAMP_END (R369): A channel's VOUT reaches THR; its ramp ends and its gate rises to full enhancement. -/
  | rampEnd (slot : Nat) (ch : Nat)
  /-- CHANNEL_POWER_GOOD (R377): The qualification count reaching DELAY_US asserts channel power-good, and slot power-good when all agree. -/
  | channelPowerGood (slot : Nat) (ch : Nat)
  /-- PERST_RELEASE (R220): 100 ms after slot power-good, SLOT_PERST_N_n is released. -/
  | perstRelease (slot : Nat)
  /-- PG_LOST (R379): VOUT below the loss threshold for 16 ticks deasserts channel power-good with a record. -/
  | pgLost (slot : Nat) (ch : Nat)
  /-- SLOT_ON (R369): Writing SPV_SLOT_CTL.ON 1 commands the slot on, starting insertion when allowed. -/
  | slotOn (slot : Nat)
  /-- SLOT_OFF (R374): Writing ON 0 deasserts power-good and asserts PERST, cancelling retries and holds. -/
  | slotOff (slot : Nat)
  /-- SLOT_OFF_GATES (R374): 100 ticks after a turn-off, both gates are pulled down. -/
  | slotOffGates (slot : Nat)
  /-- FORCE_ON (R370): Writing FORCE_ON turns the channel gate fully on with power-good asserted without qualification. -/
  | forceOn (slot : Nat) (ch : Nat) (on : Bool)
  /-- SLOT_RETRY (R381): A due retry of a TRIPPED slot increments the retry count and starts insertion. -/
  | slotRetry (slot : Nat)
  /-- RETRY_WINDOW_END (R381): The retry window closing with the slot ON resets the retry count. -/
  | retryWindowEnd (slot : Nat)
  /-- SLOT_REMOVAL (R382): SLOT_PRSNT_N_n high for 10 ms turns the slot off and turns a pending retry into a hold. -/
  | slotRemoval (slot : Nat)
  /-- SLOT_INSERTION (R382): SLOT_PRSNT_N_n low for INS_DEB is recognised, resetting retries after a long absence and waiting out any hold. -/
  | slotInsertion (slot : Nat)
  /-- LATCH_CLEAR (R384): Writing SPV_LATCH_CLR moves LATCHED or FENCED slots to OFF with retries cleared. -/
  | latchClear (mask : W32)
  /-- HIST_LEVEL_SAMPLE (R394): Every TEL_HIST_PERIOD a level-source unit records a value into its bins and statistics. -/
  | histLevelSample (unit' : Nat)
  /-- HIST_SNAPSHOT (R396): Writing TEL_HIST_SNAP copies units into snapshot tables in one cycle, clearing them if asked. -/
  | histSnapshot (units : Nat) (clear : Bool)
  /-- HIST_CONFIG_WRITE (R396): Writing CFG or BASE of a unit clears that unit. -/
  | histConfigWrite (unit' : Nat) (base : Bool) (value : W32)
  /-- SAMPLER_CAPTURE (R398): At every N-th occurrence a sampler captures a record within 8 cycles into the sample ring. -/
  | samplerCapture (sampler : Nat) (moved : Bool) (other : Nat)
  /-- SAMPLER_N_WRITE (R397): A write to TEL_SMP_N restarts the sampler's count. -/
  | samplerNWrite (sampler : Nat) (n : Nat)
  /-- OTP_PROGRAM (R402): Writing SEC_OTP_PROG GO starts burning set bits into an OTP word, or is refused. -/
  | otpProgram (word : Nat)
  /-- OTP_PROGRAM_DONE (R402): The burn is read back and ends DONE, or FAILED with an OTP_FAIL record. -/
  | otpProgramDone (missing : W32)
  /-- LIFECYCLE_ADVANCE (R404): Writing SEC_LIFECYCLE_ADV burns an allowed lifecycle bit, or is refused. -/
  | lifecycleAdvance (target : Nat)
  /-- IMAGE_VERIFY (R410): Writing SEC_VERIFY GO starts verifying an image at a core address, or is refused while BUSY. -/
  | imageVerify (type : Nat)
  /-- MEASUREMENT_EXTEND (R412): Writing SEC_MEAS_EXT extends M4-M7 with the extension data, ignoring indices 0-3. -/
  | measurementExtend (index : Nat)
  /-- DEBUG_UNLOCK (R417): Writing SEC_UNLOCK GO starts verifying the unlock token in the token buffer. -/
  | debugUnlock (len : Nat)
  /-- DEBUG_ACCESS (R415): A debug master access is performed, or denied and logged under the lifecycle and locked regions. -/
  | debugAccess (kind : Nat) (addr : Nat) (len : Nat) (data : List Byte)
  /-- IDENTITY_DERIVED (R406): After reset, SEC finishes deriving the identity key pair and its hash. -/
  | identityDerived (ok : Bool)
  /-- RESET_RELEASE (R421): RST_N rising with rails in range samples straps and leaves RESET for LIMP. -/
  | resetRelease (mode : Nat) (smb : Nat) (portcfg : Nat)
  /-- OTP_LOADED (R421): OTP is loaded, putting lifecycle, DEV_SUBSYS and strap layout into effect. -/
  | otpLoaded (fail : Bool)
  /-- EARLY_SELFTEST_DONE (R421): The boot ROM, SRAM, core pairs, bank 0, queues and tables finish their start-up tests. -/
  | earlySelftestDone (items : Nat) (pairs : Nat) (banks : Nat)
  /-- BG_SELFTEST_DONE (R426): The background self-test ends and BG_DONE becomes 1. -/
  | bgSelftestDone (banks : Nat) (engines : Nat) (spv : Bool)
  /-- MODE_REQ_INVALID (R432): A DEV_MODE request for RESET, LIMP, SAFE, UPDATE, STANDBY or a reserved code is refused with TARGET. -/
  | modeReqInvalid (req : Nat)
  /-- MAIN_POWER_LOSS (R226): Main rails fail with VDD_AON present; the loss is captured and the device enters STANDBY. -/
  | mainPowerLoss (rail : Nat)
  /-- STANDBY_WAKE (R226): A presence change or supervisor fault in STANDBY asserts WAKE#. -/
  | standbyWake (slot : Nat) (present : Bool) (fault : Bool)
  /-- RESET_LINK (R445): CLK_RST_CTL.LINK takes the selected Moaben links down to retrain. -/
  | resetLink (mask : Nat)
  /-- SUBSYS_RESET_DONE (R445): A subsystem reset completes within 20 µs. -/
  | subsysResetDone (sub : Nat)
  /-- SUPPLY_UNDERVOLTAGE (R449): A main rail below 93 % is captured in the always-on log and causes a device-wide reset. -/
  | supplyUndervoltage (rail : Nat)
  /-- SUPPLY_OVERVOLTAGE (R449): A rail above 107 % writes a SUPPLY_OV record and asserts ALERT_N. -/
  | supplyOvervoltage (rails : Nat)
  /-- THERMAL_GOV_TICK (R451): Every 10 ms the thermal governor steps engine rate and requests DRAIN above T_DRAIN. -/
  | thermalGovTick (sensors : List Nat)
  /-- RECORD_RING_WRITEBACK (R305): Within 1 µs of delivering error records to a partition's host record ring, PROD is written back to the ring's PIDX_ADDR. -/
  | recordRingWriteback (part : Nat)
  /-- PHY_CALIBRATION_DONE (R421): PCIe octet and Moaben PHY calibration ends about 7 ms after reset release, setting failed octets OFF or failed links disabled and starting training of the strap layout's ports. -/
  | phyCalibrationDone (octets : Nat) (links : Nat)
  /-- BAD_BLOCK_RECEIVE (R243): A Moaben block judged bad while no packet is open is lost and the receiver sends a NAK for NEXT_RX, rate-limited. -/
  | badBlockReceive (link : Nat) (lane : Nat) (block : LineBlock)
  /-- POOL_SPACE_GRANTED (R465): A frame formed by the CX256, waiting at its origin for its pool, obtains its cells and is stored. -/
  | poolSpaceGranted
  /-- LEDGER_WRITE (R81): A queued ledger record obtains ledger-pool cells and is written to its ring slot, advancing PROD. -/
  | ledgerWrite
  /-- RETIRE_DONE (R88): The last cell of a draining bank is freed and the bank becomes RETIRED. -/
  | retireDone
  /-- MAP_COMMIT_DONE (R98): A commit completes within 64 core cycles and MAP_COMMIT_STS reads DONE. -/
  | mapCommitDone
  /-- SWEEP_NP_TIMEOUT (R129): When NP_TMO passes, the sweep stops waiting for older non-posted requests and may set NP_EXPIRED. -/
  | sweepNpTimeout
  /-- SWEEP_DONE (R129): Every older copy has gone, and with WAIT_NP every older request ended, so the sweep reads DONE. -/
  | sweepDone
  /-- PPS_IN_EDGE (R134): A rising PPS_IN edge is captured and, with SRC PPS, is a reference event for discipline. -/
  | ppsInEdge
  /-- TB_HOLDOVER (R135): With no usable reference for 2 s or no link, discipline enters HOLDOVER and keeps its increment. -/
  | tbHoldover
  /-- TB_SET (R136): A write to SLU_TB_SET with GO loads the time base and fires commits whose instants it passes over. -/
  | tbSet
  /-- FRAME_SYNC_MISSING (R139): No edge by the expected time plus WINDOW acts under POLICY: flywheel edge, hold or cancel. -/
  | frameSyncMissing
  /-- FRAME_SYNC_LOST (R139): No edge for 16 expected periods moves the tracker to NONE and FRAME discipline to HOLDOVER. -/
  | frameSyncLost
  /-- ROUTE_GOV_TICK (R264): On a link state change and every 1 ms the route governor updates the routing view and USE_ALT. -/
  | routeGovTick
  /-- ISOLATE_ENTERED (R308): The entry flush ends; ISOLATE_ENTRY is recorded and DEV_MODE reads ISOLATE. -/
  | isolateEntered
  /-- ISOLATE_EXIT (R310): Writing ERR_ISO_CTL.EXIT starts the scrub and rebuild, or is refused outside ISOLATE. -/
  | isolateExit
  /-- ISOLATE_EXIT_DONE (R310): Scrub and rebuild end; traffic resumes and the mode returns to PRIOR, or the exit is refused. -/
  | isolateExitDone
  /-- FATAL_ACK (R303): Writing FATAL_ACK releases the FIRST_FATAL capture. -/
  | fatalAck
  /-- LOCKSTEP_MISMATCH (R313): A lockstep checker mismatch triggers failover to the standby pair. -/
  | lockstepMismatch
  /-- MGT_PAIR_SWAP (R313): Writing MGT_PAIR_SWAP.GO fails over to the standby pair, or is refused. -/
  | mgtPairSwap
  /-- MACHINE_TIMER (R321): MGT_MTIME reaching MGT_TIMECMP asserts the machine timer interrupt. -/
  | machineTimer
  /-- ATTEST_REPORT_DONE (R414): A signed report is written to its destination and STATUS is written last. -/
  | attestReportDone
  /-- SAMPLE_GOV_TICK (R326): Every PERIOD_MS the sample-rate governor doubles or halves N for governed sessions. -/
  | sampleGovTick
  /-- WDOG_KICK (R327): Writing MGT_WDOG_KICK restarts the watchdog period. -/
  | wdogKick
  /-- WDOG_WARN (R327): Half the watchdog period without a kick asserts WDOG_WARN. -/
  | wdogWarn
  /-- WDOG_EXPIRE (R327): A full watchdog period without a kick triggers failover. -/
  | wdogExpire
  /-- BOOT_LOAD_DONE (R329): The boot ROM finishes loading and verifying a slot, falling back to the other on failure. -/
  | bootLoadDone
  /-- UPDATE_DONE (R330): Firmware writing DONE ends the update or restart and returns the mode to PRIOR. -/
  | updateDone
  /-- UPDATE_LATE (R330): DONE not written 500 ms after GO returns the mode to PRIOR with cause LATE. -/
  | updateLate
  /-- LB_CYCLE_START (R349): The bridge wins the free bus and starts the address phases of the next queued access. -/
  | lbCycleStart
  /-- CUL_TIMEOUT_EXPIRY (R358): A bus cycle exceeding CUL_TIMEOUT ends; a write fails and marks the chip select DEAD. -/
  | culTimeoutExpiry
  /-- LB_BUS_REQUEST (R357): The external master asserts LB_BREQ_N and is granted the bus at the next free clock. -/
  | lbBusRequest
  /-- LB_BUS_RELEASE (R357): The external master deasserts LB_BREQ_N and LB_BGNT_N is released. -/
  | lbBusRelease
  /-- PREFETCH_EXPIRE (R355): A prefetch buffer 1 µs old is invalidated. -/
  | prefetchExpire
  /-- CUL_WARM_RESET (R360): Writing WARM_RST holds new accesses and drains the posted queue for up to 10 µs. -/
  | culWarmReset
  /-- CUL_WARM_RESET_DONE (R360): The warm reset discards the rest, ends queued reads, pulses LB_RST_N and accepts accesses again. -/
  | culWarmResetDone
  /-- SIDEBAND_WAKE (R362): LB_SB[31] low for 1 ms in STANDBY with WAKE_EN asserts WAKE#. -/
  | sidebandWake
  /-- UPTRIP_END (R376): After UPTRIP_MS, SPV_UPTRIP_N is released. -/
  | uptripEnd
  /-- IMAGE_VERIFY_DONE (R409): A verification ends DONE, extending M2 for configuration, or refused with an IMAGE_REFUSED record. -/
  | imageVerifyDone
  /-- DEBUG_UNLOCK_DONE (R417): The token check ends, entering DEBUG_OPEN or refusing, and the debug nonce is renewed. -/
  | debugUnlockDone
  /-- RESET_ASSERT (R444): RST_N low for 1 µs causes a device-wide reset with outputs released. -/
  | resetAssert
  /-- SAFE_UART_LINE (R428): Every 1 s in SAFE the UART sends the failure line. -/
  | safeUartLine
  /-- STAT_PATTERN_TOGGLE (R438): Every 1 s in SAFE, STAT alternates between 0x2 and FAIL_CODE − 1. -/
  | statPatternToggle
  /-- SAFE_SPI_RELEASE (R429): 1 s after entry to SAFE the SPI flash pins are tri-stated. -/
  | safeSpiRelease
  /-- MODE_REQ_STANDALONE (R432): A DEV_MODE request for STANDALONE is checked and takes effect or is refused. -/
  | modeReqStandalone
  /-- MODE_REQ_PARTITIONED (R432): A DEV_MODE request for PARTITIONED is checked and takes effect or is refused. -/
  | modeReqPartitioned
  /-- MODE_REQ_COMPOSED (R432): A DEV_MODE request for COMPOSED is checked and takes effect or is refused. -/
  | modeReqComposed
  /-- MODE_REQ_FABRIC (R432): A DEV_MODE request for FABRIC is checked and takes effect or is refused. -/
  | modeReqFabric
  /-- MODE_REQ_ISOLATE (R432): A DEV_MODE request for ISOLATE starts ISOLATE entry or is refused. -/
  | modeReqIsolate
  /-- MODE_REQ_DRAIN (R433): A DEV_MODE request for DRAIN closes headgates and refuses new requests, or is refused. -/
  | modeReqDrain
  /-- MODE_REQ_DIAGNOSTIC (R435): A DEV_MODE request for DIAGNOSTIC enters it from LIMP, drained DRAIN or ISOLATE, or is refused. -/
  | modeReqDiagnostic
  /-- DRAIN_COMPLETE (R434): With no copy, every instance IDLE and no proxy record, DRAINED becomes 1. -/
  | drainComplete
  /-- DRAIN_TIMEOUT (R434): DRAIN_CTL.TMO_MS after entry, remaining copies are flushed and DRAINED becomes 1. -/
  | drainTimeout
  /-- MAIN_POWER_RETURN (R430): Main rails return and the device goes from STANDBY to RESET, releasing WAKE#. -/
  | mainPowerReturn
  /-- TREF_LOST (R440): No TREF_CLK edge for 50 ns puts the synthesisers in holdover with a record. -/
  | trefLost
  /-- TREF_RESTORED (R440): TREF_CLK running again for 1 ms slews the synthesisers back to lock and clears HOLDOVER. -/
  | trefRestored
  /-- RESET_MGT (R445): CLK_RST_CTL.MGT resets both core pairs and starts a firmware restart. -/
  | resetMgt
  /-- RESET_CUL (R445): CLK_RST_CTL.CUL discards the posted queue and resets the culvert bridge. -/
  | resetCul
  /-- RESET_TEL (R445): CLK_RST_CTL.TEL clears every telemetry table, ring and log. -/
  | resetTel
  /-- RESET_SHAKE (R445): CLK_RST_CTL.SHAKE ends running verifications and restarts signatures. -/
  | resetShake
  /-- RESET_DEVICE (R444): CLK_RST_CTL.DEVICE causes a device-wide reset. -/
  | resetDevice
  /-- AON_UNDERVOLTAGE (R449): VDD_AON below 93 % makes the device absent. -/
  | aonUndervoltage
  /-- CRITICAL_TEMPERATURE (R453): 120 °C for 100 µs sets CRIT_SEEN and causes a device-wide reset held until cool. -/
  | criticalTemperature
  /-- CRITICAL_COOL (R453): The hottest sensor below 95 °C releases the hold on RESET. -/
  | criticalCool
  /-- LIFECYCLE_ADVANCE_DONE (R404): The burn of a lifecycle bit completes within 800 µs, ending the BUSY operation and raising OP_DONE. -/
  | lifecycleAdvanceDone
  /-- CORE_LOAD_TIMEOUT (R316): A core load through core port 88 or a host path not answered within MGT_CTO raises a load access fault, captured in MGT_BERR with a BUS_ERR record. -/
  | coreLoadTimeout
  /-- SMBUS_STATUS_READ (R420, R428): An SMBus Block Read with command 0x00, at the port's address, returns mode, self-test and
  firmware status. -/
  | smbusStatusRead
  deriving DecidableEq, Repr

end Sys2Proof
end

