-- ==== Sys2Proof/Machine/Bits.lean ====
section
/-! DEFINITION. Bit fields (R6), byte order (R7), sparse stores and the CRC-32C of R168. -/

namespace Sys2Proof.Machine

/-- Bits [hi:lo] of a number (R6). -/
def bits (v hi lo : Nat) : Nat := v / 2 ^ lo % 2 ^ (hi - lo + 1)

/-- Bit n of a number. -/
def bit (v n : Nat) : Bool := v / 2 ^ n % 2 == 1

/-- `v` with bits [hi:lo] replaced by `x`. -/
def putBits (v hi lo x : Nat) : Nat := v - bits v hi lo * 2 ^ lo + x % 2 ^ (hi - lo + 1) * 2 ^ lo

/-- A field whose values are 0 to `top` and the one value `none` beyond: another value stores the nearest of the two ends,
`top` when both are as near (R5; log entry 90). -/
def nearestOf (top none v : Nat) : Nat := if v ≤ top then v else if v - top ≤ none - v then top else none

/-- A Boolean as a bit. -/
def ofBool (b : Bool) : Nat := if b then 1 else 0

/-- The little-endian bytes of a number (R7). -/
def leBytes : Nat → Nat → List Byte
  | 0, _ => []
  | n + 1, v => BitVec.ofNat 8 v :: leBytes n (v / 256)

/-- The big-endian bytes of a number, as PCI Express headers hold them. -/
def beBytes (n v : Nat) : List Byte := (leBytes n v).reverse

/-- The number whose little-endian bytes these are (R7). -/
def leNat : List Byte → Nat
  | [] => 0
  | b :: bs => b.toNat + 256 * leNat bs

/-- `a / b` rounded up. -/
def ceilDiv (a b : Nat) : Nat := (a + b - 1) / b

/-- An `n`-bit two's complement number saturated at its ends and encoded (SLU_TB_STS.PHASE_ERR). -/
def satSigned (n : Nat) (x : Int) : Nat :=
  let m : Int := 2 ^ (n - 1) - 1
  let y := if x > m then m else if x < -m then -m else x
  (y % 2 ^ n).toNat

/-- The two's complement value of an `n`-bit field. -/
def signedOf (n v : Nat) : Int := if v < 2 ^ (n - 1) then v else (v : Int) - 2 ^ n

/-! ### Sparse stores -/

/-- What a store holds at a key; `d` is what an unlisted key reads as. -/
def storeGet {α : Type} (d : α) : Store α → Nat → α
  | [], _ => d
  | (k, v) :: m, q => if q = k then v else storeGet d m q

/-- A store without a key. -/
def storeDrop {α : Type} (q : Nat) : Store α → Store α
  | [] => []
  | (k, w) :: m => if q = k then storeDrop q m else (k, w) :: storeDrop q m

/-- A store with one key listed, the keys kept in rising order. -/
def storeInsert {α : Type} (q : Nat) (v : α) : Store α → Store α
  | [] => [(q, v)]
  | (k, w) :: m =>
    if q < k then (q, v) :: (k, w) :: m
    else if q = k then (q, v) :: m
    else (k, w) :: storeInsert q v m

/-- A store with one key set, in canonical form: writing what an unlisted key reads as removes the entry. -/
def storePut {α : Type} [DecidableEq α] (d : α) (q : Nat) (v : α) : Store α → Store α
  | [] => if v = d then [] else [(q, v)]
  | e :: m => if v = d then storeDrop q (e :: m) else storeInsert q v (e :: m)

/-- Canonical form: keys strictly rising from `lo` on, no entry equal to the unlisted value. -/
def storeWfFrom {α : Type} [DecidableEq α] (d : Nat → α) : Nat → Store α → Bool
  | _, [] => true
  | lo, (k, v) :: m => decide (lo ≤ k) && decide (v ≠ d k) && storeWfFrom d (k + 1) m

/-- Canonical form of a store. -/
def storeWf {α : Type} [DecidableEq α] (d : Nat → α) (m : Store α) : Bool := storeWfFrom d 0 m

/-! ### CRC-32C -/

/-- One bit of the reflected CRC register (R168). -/
def crcBit (c : W32) : W32 := if c.getLsbD 0 then (c >>> 1) ^^^ 0x82F63B78 else c >>> 1

/-- One byte into the CRC register. -/
def crcByte (c : W32) (b : Byte) : W32 :=
  let c := c ^^^ b.setWidth 32
  crcBit (crcBit (crcBit (crcBit (crcBit (crcBit (crcBit (crcBit c)))))))

/-- The CRC register after a byte string. -/
def crcRun : W32 → List Byte → W32
  | c, [] => c
  | c, b :: bs => crcRun (crcByte c b) bs

/-- The standard CRC-32C: start at all ones, complemented result (R168, CONT = 0). -/
def crc32c (bs : List Byte) : W32 := ~~~ crcRun 0xFFFFFFFF bs

/-- CRC-32C continued from an earlier result (R168, CONT = 1). -/
def crc32cCont (r : W32) (bs : List Byte) : W32 := ~~~ crcRun (~~~ r) bs

/-! ### Lists -/

/-- The element at a position replaced. -/
def setAt {α : Type} : List α → Nat → α → List α
  | [], _, _ => []
  | _ :: xs, 0, v => v :: xs
  | x :: xs, n + 1, v => x :: setAt xs n v

/-- Numbers below `n`, in rising order. -/
def upTo (n : Nat) : List Nat := List.range n

/-- The first of `k` places after a pointer that a test accepts: how every arbiter grants (R59). -/
def rotate (k ptr : Nat) (ok : Nat → Bool) : Option Nat := ((upTo k).map fun d => (ptr + 1 + d) % k).find? ok

end Sys2Proof.Machine
end

