-- ==== Sys2Proof/Machine/Operands.lean ====
section
/-! DEFINITION. The operand forms of the commands: a packet's header, its size in bytes and cells (R18), its canonical
frame and furrow word (R289, R464), and what kind of request it is (R119).
The byte layout of a PCI Express header is PRESUMED from the standard the spec cites (log entry 7). -/

namespace Sys2Proof

open Sys2Proof.Machine

/-- Posted: a memory write or a message. -/
def Tlp.posted (t : Tlp) : Bool := t.kind == .memWrite || t.kind == .message

/-- A completion. -/
def Tlp.isCpl (t : Tlp) : Bool := t.kind == .completion

/-- Non-posted: every other request (R55). -/
def Tlp.nonPosted (t : Tlp) : Bool := !t.posted && !t.isCpl

/-- A request that carries data. -/
def Tlp.carriesData (t : Tlp) : Bool :=
  match t.kind with
  | .memWrite | .defWrite | .atomic | .ioWrite | .cfgWrite => true
  | .message | .completion => !t.data.isEmpty
  | .memRead | .ioRead | .cfgRead => false

/-- Payload bytes the packet itself carries. -/
def Tlp.payload (t : Tlp) : Nat := if t.carriesData then t.len else 0

/-- Memory requests: the ones a window can match (R92, R119). -/
def Tlp.isMem (t : Tlp) : Bool :=
  match t.kind with
  | .memWrite | .defWrite | .memRead | .atomic => true
  | _ => false

/-- Does the header need a 64-bit address (R100: the shortest form)? -/
def Tlp.long (t : Tlp) : Bool := t.isMem && decide (2 ^ 32 ≤ t.addr.toNat)

/-- Header bytes: four DW for 64-bit addresses and messages, three otherwise. -/
def Tlp.headerLen (t : Tlp) : Nat := if t.long || t.kind == .message then 16 else 12

/-- Bytes of TLP header and payload (R18). -/
def Tlp.bytes (t : Tlp) : Nat := t.headerLen + t.payload

/-- Cells of a frame: ⌈B / 256⌉ (R18). -/
def Tlp.cells (t : Tlp) : Nat := ceilDiv t.bytes 256

/-- Fmt and Type of the header's first byte. -/
def Tlp.fmtType (t : Tlp) : Nat :=
  let w := ofBool t.long * 0x20
  match t.kind with
  | .memRead => if t.locked then 0x01 + w else w
  | .memWrite => 0x40 + w
  | .defWrite => 0x5B + w
  | .atomic => 0x4C + t.atomOp.val + w
  | .ioRead => 0x02
  | .ioWrite => 0x42
  | .cfgRead => if t.type0 then 0x04 else 0x05
  | .cfgWrite => if t.type0 then 0x44 else 0x45
  | .message => (if t.data.isEmpty then 0x30 else 0x70) + t.route.val
  | .completion => if t.data.isEmpty then 0x0A else 0x4A

/-- Completion status field. -/
def cplCode : CplStatus → Nat
  | .sc => 0
  | .ur => 1
  | .rrs => 2
  | .ca => 4

/-- The header in non-Flit Mode form, with TD, EP and tag bits [9:0] (R464 step 2). -/
def Tlp.header (t : Tlp) : List Byte :=
  let tag := t.tag.toNat
  let dws := ceilDiv t.len 4
  let b1 := bits tag 9 9 * 128 + t.tc.val * 16 + bits tag 8 8 * 8 + ofBool t.ido * 4 + ofBool t.hint.isSome
  let b2 := ofBool t.ecrc.isSome * 128 + ofBool t.poison * 64 + ofBool t.relaxed * 32 + ofBool t.noSnoop * 16 + t.addrType.toNat * 4
    + bits dws 9 8
  let first := [BitVec.ofNat 8 t.fmtType, BitVec.ofNat 8 b1, BitVec.ofNat 8 b2, BitVec.ofNat 8 dws]
  match t.kind with
  | .completion =>
    first ++ beBytes 2 t.cplId.toNat ++ [BitVec.ofNat 8 (cplCode t.status * 32 + bits t.byteCount 11 8),
      BitVec.ofNat 8 t.byteCount] ++ beBytes 2 t.reqId.toNat ++ [BitVec.ofNat 8 tag, t.addr.setWidth 8 &&& 0x7F]
  | .cfgRead | .cfgWrite =>
    first ++ beBytes 2 t.reqId.toNat ++ [BitVec.ofNat 8 tag, t.byteEn, t.bus, t.devfn]
      ++ beBytes 2 (bits t.addr.toNat 11 2 * 4)
  | .message =>
    first ++ beBytes 2 t.reqId.toNat ++ [BitVec.ofNat 8 tag, t.byteEn, t.bus, t.devfn]
      ++ beBytes 6 t.msgBytes.toNat
  | _ =>
    first ++ beBytes 2 t.reqId.toNat ++ [BitVec.ofNat 8 tag, t.byteEn]
      ++ beBytes (if t.long then 8 else 4) (t.addr.toNat / 4 * 4 + (t.hint.getD 0).toNat)

/-- Its end-to-end prefixes in the order it carries them (R464 step 1). The IDE prefix
stands among the others where the packet carries it; its type, 0x92, is PRESUMED (log entry 7). -/
def Tlp.prefixDws (t : Tlp) : List W32 :=
  if t.ide.isSome then t.prefixes.take t.ideAt ++ [t.idePrefix] ++ t.prefixes.drop t.ideAt else t.prefixes

/-- The packet in non-Flit Mode form: prefixes, header, payload, digest (R464 steps 1 to 4). -/
def Tlp.wire (t : Tlp) : List Byte :=
  t.prefixDws.flatMap (fun p => beBytes 4 p.toNat) ++ t.header
    ++ (if t.carriesData then t.data else [])
    ++ (match t.ide with
        | some mac => mac
        | none => match t.ecrc with
          | some e => leBytes 4 e.toNat
          | none => [])

/-- The canonical frame: the wire form and the trailer DW with tag bits [13:10] (R464 step 5). -/
def Tlp.canonical (t : Tlp) : List Byte := t.wire ++ leBytes 4 (bits t.tag.toNat 13 10)

/-- The furrow word of a packet (R289). -/
def furrow (t : Tlp) : W32 := crc32c (Tlp.canonical t)

/-- Cells reserved for the completions of a non-posted request (R55). -/
def Tlp.reserve (t : Tlp) : Nat :=
  match t.kind with
  | .memRead => ceilDiv t.len 64 + 1
  | _ => 1

/-- Does a memory request cross a 4 KiB boundary (R123)? -/
def Tlp.crosses (t : Tlp) : Bool := t.isMem && decide (4096 < t.addr.toNat % 4096 + t.len)

/-- TYPE of the deny log and of an error record's frame detail (R125, R301). -/
def Tlp.denyType (t : Tlp) : Nat :=
  match t.kind with
  | .memWrite => 0
  | .defWrite => 1
  | .memRead => if t.len = 0 then 3 else 2
  | .atomic => 4
  | .completion => 6
  | _ => 5

/-- Type column of an egress queue: posted, non-posted, completion (R58). -/
def Tlp.queueType (t : Tlp) : Nat := if t.posted then 0 else if t.isCpl then 2 else 1

end Sys2Proof
end

