-- ==== Sys2Proof/Machine/RegMap.lean ====
section
/-! DEFINITION. The register map: the pages of R30, the fields of every register with access code, reset value and
range (R5, R11, R12), page capabilities (R35), and what a register reads as after reset. -/

namespace Sys2Proof.Machine

/-- The blocks of R30; `spvs` is a slot page of SPV. -/
inductive Block where
  | dev | clk | sec | mgt | cul | spv | spvs | tel | err | swc | buf | map | acl | mcm | slu | eng | vim | pep | phy | mfl
  deriving DecidableEq, Repr

/-- The access codes of R12 that a register field carries. -/
inductive Acc where
  | ro | rw | wo | lck
  deriving DecidableEq, Repr

/-- One field: bits [hi:lo], access, reset value and range; `signed` fields are two's complement. -/
structure FieldSpec where
  hi : Nat
  lo : Nat
  acc : Acc
  reset : Nat
  min : Int
  max : Int
  signed : Bool

/-- One register of a page, repeated along `dims` (stride in bytes, count). -/
structure RegSpec where
  name : String
  off : Nat
  dims : List (Nat × Nat)
  fields : List FieldSpec

/-- A field of the register at `addr`. -/
structure Fld where
  addr : Nat
  hi : Nat
  lo : Nat
  deriving DecidableEq, Repr

def ro (hi lo reset : Nat) : FieldSpec := ⟨hi, lo, .ro, reset, 0, 2 ^ (hi - lo + 1) - 1, false⟩
def wo (hi lo : Nat) : FieldSpec := ⟨hi, lo, .wo, 0, 0, 2 ^ (hi - lo + 1) - 1, false⟩
def rw (hi lo reset : Nat) : FieldSpec := ⟨hi, lo, .rw, reset, 0, 2 ^ (hi - lo + 1) - 1, false⟩
def rwr (hi lo reset min max : Nat) : FieldSpec := ⟨hi, lo, .rw, reset, min, max, false⟩
def rws (hi lo : Nat) (min max : Int) : FieldSpec := ⟨hi, lo, .rw, 0, min, max, true⟩
def lck (hi lo min max : Nat) : FieldSpec := ⟨hi, lo, .lck, 0, min, max, false⟩

/-- Registers of DEV page 0. The spec gives VENDOR and REVISION of DEV_IDENT no value: 0 is the model's choice (log entry
43). -/
def regsDEV0 : List RegSpec :=
  [⟨"DEV_ALIVE", 0x020, [], [ro 31 0 203778577]⟩,
   ⟨"DEV_IDENT", 0x028, [], [ro 15 0 0, ro 23 16 0]⟩,
   ⟨"DEV_SUBSYS", 0x02C, [], [ro 15 0 0, ro 31 16 0]⟩,
   ⟨"DEV_MODE_STS", 0x030, [], [ro 1 0 0, ro 5 2 0, ro 11 8 0, ro 12 12 0, ro 13 13 0, ro 14 14 0, ro 15 15 0, ro 23 16 0]⟩,
   ⟨"DEV_SELFTEST_FAIL", 0x034, [], [ro 15 1 0]⟩,
   ⟨"DEV_STRAP", 0x038, [], [ro 2 0 0, ro 6 4 0, ro 11 8 0]⟩,
   ⟨"DEV_MODE", 0x100, [], [ro 3 0 1, wo 11 8, wo 31 31]⟩,
   ⟨"DEV_DRAIN_CTL", 0x104, [], [rwr 15 0 1000 1 60000]⟩]

/-- Registers of DEV page 1. -/
def regsDEV1 : List RegSpec :=
  [⟨"DEV_PWRLOSS_STS", 0x020, [], [ro 0 0 0, ro 3 1 0, ro 12 8 0, ro 22 16 0, ro 31 24 0]⟩,
   ⟨"DEV_PWRLOSS_POSTED", 0x024, [], [ro 19 0 0]⟩,
   ⟨"DEV_PWRLOSS_TB_LO", 0x028, [], [ro 31 0 0]⟩,
   ⟨"DEV_PWRLOSS_TB_HI", 0x02C, [], [ro 31 0 0]⟩,
   ⟨"DEV_PWRLOSS_CLR", 0x100, [], [wo 0 0]⟩]

/-- Registers of CLK page 0. -/
def regsCLK0 : List RegSpec :=
  [⟨"CLK_STS", 0x020, [], [ro 0 0 0, ro 1 1 0]⟩,
   ⟨"CLK_SUPPLY_STS", 0x024, [], [ro 7 0 0, ro 15 8 0]⟩,
   ⟨"CLK_RST_CTL", 0x100, [], [wo 0 0, wo 1 1, wo 2 2, wo 3 3, wo 15 8, wo 31 31]⟩]

/-- Registers of CLK page 1. -/
def regsCLK1 : List RegSpec :=
  [⟨"CLK_THERM_STS", 0x020, [], [ro 11 0 0, ro 12 12 0]⟩,
   ⟨"CLK_THERM_CL", 0x024, [(4, 4)], [ro 11 0 0]⟩,
   ⟨"CLK_THERM_GOV", 0x100, [], [rw 0 0 1, rw 3 1 7, rwr 7 4 3 1 15, rwr 15 8 100 85 104, rwr 23 16 105 90 105]⟩]

/-- Registers of SEC page 0. -/
def regsSEC0 : List RegSpec :=
  [⟨"SEC_LIFECYCLE", 0x020, [], [ro 2 0 0, ro 6 4 0, ro 11 8 0, ro 15 12 0, ro 22 16 0]⟩,
   ⟨"SEC_OP_STS", 0x024, [], [ro 1 0 0, ro 5 2 0, ro 9 8 0, ro 15 12 0, ro 17 16 0, ro 23 20 0]⟩,
   ⟨"SEC_ID_HASH", 0x040, [(4, 8)], [ro 31 0 0]⟩]

/-- Registers of SEC page 2. -/
def regsSEC2 : List RegSpec :=
  [⟨"SEC_OTP_PROG", 0x100, [], [wo 10 0, wo 31 31]⟩,
   ⟨"SEC_OTP_DATA", 0x104, [], [rw 31 0 0]⟩,
   ⟨"SEC_LIFECYCLE_ADV", 0x108, [], [wo 2 0, wo 31 31]⟩,
   ⟨"SEC_VERIFY_LO", 0x10C, [], [rw 31 0 0]⟩,
   ⟨"SEC_VERIFY_HI", 0x110, [], [rw 31 0 0]⟩,
   ⟨"SEC_VERIFY", 0x114, [], [wo 1 0, wo 31 31]⟩,
   ⟨"SEC_EXT_DATA", 0x120, [(4, 8)], [rw 31 0 0]⟩,
   ⟨"SEC_MEAS_EXT", 0x140, [], [wo 2 0, wo 31 31]⟩]

/-- Registers of SEC page 3. -/
def regsSEC3 : List RegSpec :=
  [⟨"SEC_DEBUG_NONCE", 0x040, [(4, 8)], [ro 31 0 0]⟩,
   ⟨"SEC_UNLOCK", 0x100, [], [wo 15 0, wo 31 31]⟩,
   ⟨"SEC_LOCK_BASE_LO", 0x200, [(16, 16)], [lck 31 0 0 4294967295]⟩,
   ⟨"SEC_LOCK_BASE_HI", 0x204, [(16, 16)], [lck 31 0 0 4294967295]⟩,
   ⟨"SEC_LOCK_CFG", 0x208, [(16, 16)], [lck 0 0 0 1, lck 13 8 12 63]⟩]

/-- Registers of MGT page 0. -/
def regsMGT0 : List RegSpec :=
  [⟨"MGT_PAIR_STS", 0x020, [], [ro 1 0 0, ro 3 2 1, ro 6 4 0, ro 7 7 0]⟩,
   ⟨"MGT_FW_STS", 0x024, [], [ro 0 0 0, ro 1 1 0, ro 15 8 0, ro 23 16 0]⟩,
   ⟨"MGT_UPDATE_STS", 0x028, [], [ro 1 0 0, ro 5 2 0, ro 11 8 0, ro 31 16 0]⟩,
   ⟨"MGT_BERR_LO", 0x030, [], [ro 31 0 0]⟩,
   ⟨"MGT_BERR_HI", 0x034, [], [ro 31 0 0]⟩,
   ⟨"MGT_BERR_STS", 0x038, [], [ro 2 0 0, ro 3 3 0]⟩,
   ⟨"MGT_IRQ_PEND_LO", 0x03C, [], [ro 31 0 0]⟩,
   ⟨"MGT_IRQ_PEND_HI", 0x040, [], [ro 31 0 0]⟩,
   ⟨"MGT_IRQ_INT_STS", 0x044, [], [ro 3 0 0]⟩,
   ⟨"MGT_MTIME_LO", 0x048, [], [ro 31 0 0]⟩,
   ⟨"MGT_MTIME_HI", 0x04C, [], [ro 31 0 0]⟩,
   ⟨"MGT_HCMD_PEND", 0x050, [], [ro 31 0 0]⟩,
   ⟨"MGT_PAIR_SWAP", 0x100, [], [wo 0 0]⟩,
   ⟨"MGT_FAILOVER_VEC_LO", 0x104, [], [rw 31 2 0, ro 1 0 0]⟩,
   ⟨"MGT_FAILOVER_VEC_HI", 0x108, [], [rw 31 0 0]⟩,
   ⟨"MGT_WDOG", 0x10C, [], [rwr 13 0 100 1 10000, rw 16 16 1]⟩,
   ⟨"MGT_WDOG_KICK", 0x110, [], [wo 0 0]⟩,
   ⟨"MGT_UPDATE_CTL", 0x114, [], [wo 0 0, wo 1 1, wo 2 2]⟩,
   ⟨"MGT_CTO", 0x118, [], [rwr 16 0 10000 100 100000]⟩,
   ⟨"MGT_IRQ_EN_LO", 0x11C, [], [rw 31 0 0]⟩,
   ⟨"MGT_IRQ_EN_HI", 0x120, [], [rw 31 0 0]⟩,
   ⟨"MGT_IRQ_INT_EN", 0x124, [], [rw 3 0 0]⟩,
   ⟨"MGT_TIMECMP_LO", 0x128, [], [rw 31 0 4294967295]⟩,
   ⟨"MGT_TIMECMP_HI", 0x12C, [], [rw 31 0 4294967295]⟩]

/-- Registers of MGT page 1. -/
def regsMGT1 : List RegSpec :=
  [⟨"MGT_MPU_STS", 0x020, [], [ro 1 0 0, ro 8 4 0, ro 14 10 0, ro 15 15 0]⟩,
   ⟨"MGT_MPU_ADDR_LO", 0x024, [], [ro 31 0 0]⟩,
   ⟨"MGT_MPU_ADDR_HI", 0x028, [], [ro 31 0 0]⟩,
   ⟨"MGT_MPU_CTL", 0x100, [], [rw 0 0 0, rw 1 1 0]⟩,
   ⟨"MGT_MPU_BASE_LO", 0x200, [(512, 2), (16, 32)], [rw 31 0 0]⟩,
   ⟨"MGT_MPU_BASE_HI", 0x204, [(512, 2), (16, 32)], [rw 31 0 0]⟩,
   ⟨"MGT_MPU_CFG", 0x208, [(512, 2), (16, 32)], [rw 0 0 0, rw 1 1 0, rw 2 2 0, rw 3 3 0, rw 4 4 0, rw 5 5 0, rwr 13 8 12 5 63]⟩]

/-- Registers of MGT page 2. -/
def regsMGT2 : List RegSpec :=
  [⟨"MGT_MBX_STS", 0x020, [(4, 32)], [ro 6 0 0, ro 13 8 0, ro 16 16 0]⟩,
   ⟨"MGT_MBX_RETIRE", 0x100, [], [wo 4 0, wo 31 31]⟩,
   ⟨"MGT_HCMD_TAKE", 0x104, [], [wo 4 0, wo 31 31]⟩,
   ⟨"MGT_HCMD_LO", 0x200, [(16, 32)], [rw 31 12 0, ro 11 0 0]⟩,
   ⟨"MGT_HCMD_HI", 0x204, [(16, 32)], [rw 31 0 0]⟩,
   ⟨"MGT_HCMD_DB", 0x208, [(16, 32)], [wo 31 0]⟩]

/-- Registers of MGT page 3. -/
def regsMGT3 : List RegSpec :=
  [⟨"MGT_SQ_STS", 0x020, [], [ro 12 0 0, ro 27 16 0]⟩,
   ⟨"MGT_SQ_HEAD", 0x100, [], [rw 11 0 0]⟩,
   ⟨"MGT_SQ_GOV", 0x104, [], [rw 0 0 1, rwr 7 4 2 1 15, rwr 17 8 10 1 1000, rw 27 24 15]⟩,
   ⟨"MGT_SQ_NMIN", 0x108, [], [rwr 24 0 1 1 16777216]⟩,
   ⟨"MGT_SQ_NMAX", 0x10C, [], [rwr 24 0 16777216 1 16777216]⟩]

/-- Registers of CUL page 0. -/
def regsCUL0 : List RegSpec :=
  [⟨"CUL_STS", 0x020, [], [ro 0 0 0, ro 14 8 0, ro 20 16 0, ro 31 24 0]⟩,
   ⟨"CUL_BARRIER_STS", 0x024, [], [ro 0 0 0, ro 1 1 0, ro 4 2 0]⟩,
   ⟨"CUL_BARRIER_ADDR", 0x028, [], [ro 31 0 0]⟩,
   ⟨"CUL_BARRIER", 0x100, [], [wo 0 0]⟩,
   ⟨"CUL_TIMEOUT", 0x104, [], [rwr 13 0 64 1 16000]⟩,
   ⟨"CUL_CTL", 0x108, [], [wo 0 0, rw 1 1 1, wo 15 8]⟩]

/-- Registers of CUL page 1. -/
def regsCUL1 : List RegSpec :=
  [⟨"CUL_CS_CFG", 0x100, [(4, 8)], [rw 0 0 0, rwr 2 1 0 0 2, rw 7 4 0, rwr 10 8 0 0 4]⟩]

/-- Registers of CUL page 2. -/
def regsCUL2 : List RegSpec :=
  [⟨"CUL_SB_STS", 0x020, [], [ro 31 0 0]⟩,
   ⟨"CUL_INT_STS", 0x024, [], [ro 7 0 0]⟩,
   ⟨"CUL_SB_CTL", 0x100, [], [rwr 9 0 10 1 1000, rwr 15 12 3 1 15, rw 16 16 0]⟩,
   ⟨"CUL_INT_CTL", 0x104, [], [rwr 9 0 10 1 1000]⟩,
   ⟨"CUL_SB_EVT", 0x108, [], [rw 31 0 0]⟩]

/-- Registers of SPV page 0. -/
def regsSPV0 : List RegSpec :=
  [⟨"SPV_GLB_STS", 0x020, [], [ro 23 0 0]⟩,
   ⟨"SPV_GLB_LATCH", 0x024, [], [ro 23 0 0]⟩,
   ⟨"SPV_VIN", 0x028, [], [ro 15 0 0, ro 31 16 0]⟩,
   ⟨"SPV_GLB_CTL", 0x100, [], [rw 0 0 1, rw 1 1 0, rwr 15 8 10 1 255]⟩,
   ⟨"SPV_LATCH_CLR", 0x104, [], [wo 23 0]⟩]

/-- Registers of TEL page 2. -/
def regsTEL2 : List RegSpec :=
  [⟨"TEL_HIST_CFG", 0x100, [(8, 16)], [rwr 4 0 0 0 8, rw 14 8 0, rwr 17 16 0 0 2, rw 18 18 0, rw 28 24 0]⟩,
   ⟨"TEL_HIST_BASE", 0x104, [(8, 16)], [rw 31 0 0]⟩,
   ⟨"TEL_HIST_SNAP", 0x180, [], [wo 15 0, wo 16 16]⟩,
   ⟨"TEL_HIST_PERIOD", 0x184, [], [rwr 15 0 100 8 65535]⟩]

/-- Registers of TEL page 3. -/
def regsTEL3 : List RegSpec :=
  [⟨"TEL_SMP_STS", 0x020, [], [ro 7 0 0]⟩,
   ⟨"TEL_SMP_CTL", 0x100, [(8, 4)], [rw 5 0 0, rw 14 8 0, rw 16 16 0]⟩,
   ⟨"TEL_SMP_N", 0x104, [(8, 4)], [rwr 23 0 1 1 16777215]⟩]

/-- Registers of TEL page 4. -/
def regsTEL4 : List RegSpec :=
  [⟨"TEL_GOV_NEXT0", 0x020, [], [ro 5 0 0, ro 13 8 0, ro 21 16 0, ro 29 24 0]⟩,
   ⟨"TEL_GOV_NEXT1", 0x024, [], [ro 5 0 0, ro 13 8 0]⟩]

/-- Registers of ERR page 0. -/
def regsERR0 : List RegSpec :=
  [⟨"ERR_STS", 0x020, [], [ro 9 0 0, ro 10 10 0, ro 11 11 0, ro 21 12 0, ro 31 22 0]⟩,
   ⟨"ERR_ISO_STS", 0x024, [], [ro 1 0 0, ro 3 2 0, ro 5 4 0, ro 11 8 0]⟩,
   ⟨"ERR_CTL", 0x100, [], [rwr 7 0 64 1 255, rwr 10 8 3 0 6, wo 11 11, rwr 25 16 10 1 1000]⟩,
   ⟨"ERR_ESC", 0x104, [], [rw 7 0 16]⟩,
   ⟨"ERR_ISO_CTL", 0x108, [], [wo 0 0]⟩,
   ⟨"ERR_INJECT", 0x10C, [], [rw 1 0 0, rwr 14 8 0 0 87, rwr 19 16 1 1 15, wo 31 31]⟩]

/-- Registers of SWC page 0. -/
def regsSWC0 : List RegSpec :=
  [⟨"SWC_EGR_CTL", 0x100, [], [rw 3 0 4]⟩]

/-- Registers of SWC page 1. -/
def regsSWC1 : List RegSpec :=
  [⟨"SWC_FWD", 0x100, [(4, 88)], [rw 0 0 0, rw 1 1 0, rwr 7 4 2 1 15]⟩,
   ⟨"SWC_FWD_88", 0x260, [], [ro 0 0 0, ro 1 1 0, rwr 7 4 2 1 15]⟩]

/-- Registers of SWC page 2. -/
def regsSWC2 : List RegSpec :=
  [⟨"SWC_WEIR", 0x100, [(4, 64)], [rw 12 0 64]⟩,
   ⟨"SWC_WEIR_F", 0x200, [(4, 8)], [rw 12 0 256]⟩,
   ⟨"SWC_WEIR_E", 0x220, [(4, 16)], [rw 12 0 32]⟩,
   ⟨"SWC_WEIR_88", 0x260, [], [ro 12 0 0]⟩,
   ⟨"SWC_WEIR_BOUND", 0x400, [(4, 64)], [rwr 12 0 16 1 8191, rwr 28 16 512 1 8191]⟩,
   ⟨"SWC_WEIR_BOUND_F", 0x500, [(4, 8)], [rwr 12 0 64 1 8191, rwr 28 16 1024 1 8191]⟩,
   ⟨"SWC_WEIR_BOUND_E", 0x520, [(4, 16)], [rwr 12 0 16 1 8191, rwr 28 16 128 1 8191]⟩]

/-- Registers of BUF page 0. -/
def regsBUF0 : List RegSpec :=
  [⟨"BUF_POOL_USED", 0x020, [(4, 5)], [ro 18 0 0]⟩,
   ⟨"BUF_ORD_SIZE", 0x034, [], [ro 18 0 11264]⟩,
   ⟨"BUF_LIVE_POOL", 0x100, [], [rwr 17 0 49152 0 131072]⟩,
   ⟨"BUF_CPL_POOL", 0x104, [], [rwr 17 0 65536 8192 131072]⟩,
   ⟨"BUF_AGE_LIMIT", 0x108, [], [rwr 15 0 2000 16 64000]⟩,
   ⟨"BUF_WEIR_GOV", 0x110, [], [rw 0 0 0, rwr 7 4 4 1 15, rwr 11 8 2 1 15, rwr 22 16 50 1 100, rwr 30 24 50 1 100]⟩]

/-- Registers of BUF page 1. -/
def regsBUF1 : List RegSpec :=
  [⟨"BUF_BANK_STS", 0x020, [(4, 16)], [ro 2 0 0, ro 12 8 0]⟩,
   ⟨"BUF_BANK_STS_16", 0x060, [], [ro 2 0 1, ro 12 8 31]⟩,
   ⟨"BUF_BANK_RETIRE_STS", 0x070, [], [ro 1 0 0, ro 12 8 0]⟩,
   ⟨"BUF_SPARE_CTL", 0x100, [], [rw 0 0 1, rwr 31 16 1000 1 65535]⟩,
   ⟨"BUF_BANK_RETIRE", 0x104, [], [wo 4 0, wo 8 8]⟩]

/-- Registers of BUF page 2. -/
def regsBUF2 : List RegSpec :=
  [⟨"BUF_LEDGER_EGRESS", 0x100, [(4, 88)], [rw 7 0 0, rw 8 8 0]⟩]

/-- Registers of MAP page 0. -/
def regsMAP0 : List RegSpec :=
  [⟨"MAP_COMMIT_STS", 0x020, [], [ro 1 0 0, ro 5 2 0, ro 31 16 0]⟩,
   ⟨"MAP_STAGE", 0x100, [(4, 8)], [rw 31 0 0]⟩,
   ⟨"MAP_COMMIT", 0x120, [], [wo 15 0, wo 16 16, wo 31 31]⟩,
   ⟨"MAP_MISS_POLICY", 0x130, [], [rw 31 0 4294967295]⟩,
   ⟨"MAP_SELF", 0x134, [], [rw 3 0 0]⟩,
   ⟨"MAP_PROXY_CTO", 0x138, [], [rwr 9 0 64 1 1000]⟩]

/-- Registers of MAP page 2. -/
def regsMAP2 : List RegSpec :=
  [⟨"MAP_LINK_USABLE", 0x020, [], [ro 7 0 0]⟩,
   ⟨"MAP_ROUTE_GOV", 0x100, [], [rw 0 0 1, rwr 7 4 1 1 8, rwr 25 16 10 1 1000]⟩,
   ⟨"MAP_ROUTE_ALT_FORCE", 0x104, [], [rw 15 0 0]⟩]

/-- Registers of ACL page 0. -/
def regsACL0 : List RegSpec :=
  [⟨"ACL_EPOCH", 0x020, [], [ro 15 0 0, ro 19 16 0]⟩,
   ⟨"ACL_SWEEP_STS", 0x024, [], [ro 1 0 0, ro 2 2 0, ro 3 3 0, ro 31 16 0]⟩,
   ⟨"ACL_OLD", 0x028, [], [ro 19 0 0, ro 31 20 0]⟩,
   ⟨"ACL_SWEEP", 0x100, [], [wo 0 0, wo 1 1]⟩,
   ⟨"ACL_SWEEP_CTL", 0x104, [], [rwr 9 0 64 1 1000]⟩,
   ⟨"ACL_CTL", 0x108, [], [rw 7 0 16]⟩]

/-- Registers of MCM page 1. -/
def regsMCM1 : List RegSpec :=
  [⟨"MCM_PROD", 0x020, [(4, 4)], [ro 31 0 0]⟩,
   ⟨"MCM_MODE", 0x100, [(32, 4)], [rwr 1 0 0 0 2, rwr 3 2 0 0 2, rw 10 4 0, rw 15 11 0, rwr 19 16 8 8 13, rwr 23 20 4 4 15]⟩,
   ⟨"MCM_RING_BASE_LO", 0x104, [(32, 4)], [rw 31 0 0]⟩,
   ⟨"MCM_RING_BASE_HI", 0x108, [(32, 4)], [rw 31 0 0]⟩,
   ⟨"MCM_PIDX_LO", 0x10C, [(32, 4)], [rw 31 0 0]⟩,
   ⟨"MCM_PIDX_HI", 0x110, [(32, 4)], [rw 31 0 0]⟩,
   ⟨"MCM_SAMPLE_N", 0x114, [(32, 4)], [rwr 24 0 1 1 16777216]⟩,
   ⟨"MCM_MIRROR_CELLS", 0x180, [], [rwr 9 0 512 0 768]⟩]

/-- Registers of SLU page 0. -/
def regsSLU0 : List RegSpec :=
  [⟨"SLU_TB_LO", 0x020, [], [ro 31 0 0]⟩,
   ⟨"SLU_TB_HI", 0x024, [], [ro 31 0 0]⟩,
   ⟨"SLU_TB_FRAC", 0x028, [], [ro 15 0 0]⟩,
   ⟨"SLU_TB_STS", 0x02C, [], [ro 1 0 0, ro 2 2 0, ro 31 16 0]⟩,
   ⟨"SLU_FS_LAST_LO", 0x030, [], [ro 31 0 0]⟩,
   ⟨"SLU_FS_LAST_HI", 0x034, [], [ro 31 0 0]⟩,
   ⟨"SLU_FS_PERIOD", 0x038, [], [ro 31 0 0]⟩,
   ⟨"SLU_FS_STS", 0x03C, [], [ro 1 0 0]⟩,
   ⟨"SLU_GATE_STS", 0x040, [], [ro 15 0 0]⟩,
   ⟨"SLU_TB_CTL", 0x100, [], [rw 1 0 0, rw 2 2 1, rw 3 3 0, rw 6 4 0, rw 10 8 0, rwr 23 16 50 1 200, rwr 31 24 8 1 255]⟩,
   ⟨"SLU_TB_SET_LO", 0x104, [], [rw 31 0 0]⟩,
   ⟨"SLU_TB_SET_HI", 0x108, [], [rw 31 0 0]⟩,
   ⟨"SLU_TB_SET", 0x10C, [], [wo 0 0]⟩,
   ⟨"SLU_FS_CTL", 0x110, [], [rw 0 0 0, rwr 2 1 1 0 2, rwr 27 8 1000 8 1000000]⟩,
   ⟨"SLU_FS_COUNT", 0x114, [], [rw 31 0 0]⟩,
   ⟨"SLU_FRAME_ORIGIN_LO", 0x118, [], [rw 31 0 0]⟩,
   ⟨"SLU_FRAME_ORIGIN_HI", 0x11C, [], [rw 31 0 0]⟩,
   ⟨"SLU_FRAME_PERIOD", 0x120, [], [rwr 31 0 320000000 16000 4294967295]⟩,
   ⟨"SLU_GATE_FORCE", 0x124, [], [wo 3 0, wo 4 4, wo 31 31]⟩]

/-- Registers of SLU page 1. -/
def regsSLU1 : List RegSpec :=
  [⟨"SLU_ARM_W0", 0x100, [(64, 16), (16, 4)], [rw 31 0 0]⟩,
   ⟨"SLU_ARM_W1", 0x104, [(64, 16), (16, 4)], [rw 31 0 0]⟩,
   ⟨"SLU_ARM_W2", 0x108, [(64, 16), (16, 4)], [rw 15 0 0]⟩,
   ⟨"SLU_ARM_CTL", 0x10C, [(64, 16), (16, 4)], [wo 0 0, wo 1 1, rw 2 2 0, rw 3 3 0, ro 6 4 0, ro 9 8 0]⟩]

/-- Registers of ENG page 0. -/
def regsENG0 : List RegSpec :=
  [⟨"ENG_STS", 0x020, [], [ro 1 0 0, ro 7 4 0, ro 11 8 0, ro 21 12 0, ro 25 22 0]⟩,
   ⟨"ENG_BUF_STS", 0x024, [], [ro 18 0 0]⟩,
   ⟨"ENG_RA_STS", 0x028, [], [ro 16 0 0]⟩,
   ⟨"ENG_CTL", 0x100, [], [wo 0 0, wo 1 1, rw 2 2 1, rwr 14 8 64 0 64]⟩,
   ⟨"ENG_SIZE", 0x104, [], [rwr 3 0 9 6 12, rwr 11 8 9 6 12]⟩,
   ⟨"ENG_CTO", 0x108, [], [rwr 9 0 50 10 1000]⟩,
   ⟨"ENG_CTO_RECOV", 0x10C, [], [rwr 16 0 1000 100 100000]⟩]

/-- Registers of VIM page 0. -/
def regsVIM0 : List RegSpec :=
  [⟨"VIM_INST_STS", 0x020, [], [ro 2 0 0, ro 3 3 0, ro 4 4 0, ro 5 5 0, ro 7 6 0, ro 11 8 0, ro 31 16 0]⟩,
   ⟨"VIM_INST_TAGS", 0x024, [], [ro 12 0 0]⟩,
   ⟨"VIM_INST_OWNER", 0x100, [], [rw 4 0 0, rw 15 8 0, rw 28 24 0]⟩,
   ⟨"VIM_INST_CTL", 0x104, [], [wo 3 0, rw 4 4 0, rw 5 5 1, rw 6 6 0, wo 8 8]⟩,
   ⟨"VIM_INST_RING", 0x108, [], [rw 3 0 0, rw 7 7 0, rw 11 8 0, rw 15 15 0, rw 19 16 0, rw 23 23 0, rw 27 24 0, rw 31 31 0]⟩,
   ⟨"VIM_INST_SAVE_LO", 0x10C, [], [rw 31 12 0, ro 11 0 0]⟩,
   ⟨"VIM_INST_SAVE_HI", 0x110, [], [rw 31 0 0]⟩]

/-- Registers of PEP page 0. -/
def regsPEP0 : List RegSpec :=
  [⟨"PEP_PORT_STS", 0x020, [], [ro 0 0 0, ro 1 1 0, ro 2 2 0, ro 3 3 0, ro 6 4 0, ro 12 8 0, ro 19 16 0]⟩,
   ⟨"PEP_DPC_REASON", 0x024, [], [ro 2 0 0]⟩,
   ⟨"PEP_PORT_CTL", 0x100, [], [rw 1 0 0, rw 12 8 0, rw 20 16 31, rw 24 24 0]⟩,
   ⟨"PEP_LINK_CTL", 0x104, [], [rw 0 0 0, wo 1 1, wo 2 2, rw 3 3 1, rwr 6 4 6 1 6]⟩,
   ⟨"PEP_LATE_ERR", 0x108, [], [rw 0 0 0]⟩,
   ⟨"PEP_TAG_CTL", 0x10C, [], [rwr 1 0 0 0 2]⟩]

/-- Registers of PHY page 0. -/
def regsPHY0 : List RegSpec :=
  [⟨"PHY_OCTET_MODE", 0x100, [], [rwr 2 0 0 0 5]⟩,
   ⟨"PHY_OCTET_PORTS", 0x104, [], [rw 5 0 0, rw 7 7 0, rw 13 8 0, rw 15 15 0, rw 21 16 0, rw 23 23 0, rw 29 24 0, rw 31 31 0]⟩]

/-- Registers of PHY page 1. -/
def regsPHY1 : List RegSpec :=
  [⟨"PHY_TEST_STS", 0x020, [], [ro 8 0 0, ro 18 16 0, ro 21 20 0, ro 22 22 0]⟩,
   ⟨"PHY_EYE_STS", 0x024, [], [ro 1 0 0, ro 3 2 0, ro 31 8 0]⟩,
   ⟨"PHY_LOOP_CTL", 0x100, [], [rw 1 0 0, rw 15 8 0]⟩,
   ⟨"PHY_PRBS_CTL", 0x104, [], [rwr 2 0 4 0 4, rw 3 3 0, rw 4 4 0, rwr 7 5 3 1 6, rw 15 8 0]⟩,
   ⟨"PHY_EQ_CTL", 0x108, [], [rwr 15 0 1000 1 65535, rwr 27 16 60 1 3600, rw 29 28 0, wo 31 31]⟩,
   ⟨"PHY_TX_OVR", 0x140, [(4, 8)], [rwr 3 0 0 0 12, rwr 12 8 0 0 18, rw 16 16 0]⟩,
   ⟨"PHY_EYE_CTL", 0x10C, [], [rwr 3 0 0 0 7, wo 4 4, wo 5 5, rws 14 8 (-32) (32), rws 22 16 (-50) (50), rw 27 24 0, rwr 29 28 0 0 2]⟩,
   ⟨"PHY_RX_CTL", 0x180, [(4, 8)], [rw 0 0 0, rw 1 1 1, rw 7 4 0, rw 12 8 0]⟩]

/-- Registers of MFL page 0. -/
def regsMFL0 : List RegSpec :=
  [⟨"MFL_LINK_STS", 0x020, [], [ro 3 0 0, ro 5 4 0, ro 7 6 0, ro 11 8 15, ro 12 12 0, ro 19 16 0, ro 24 20 0, ro 29 25 0]⟩,
   ⟨"MFL_SEQ_STS", 0x024, [], [ro 11 0 0, ro 27 16 0]⟩,
   ⟨"MFL_REPLAY_STS", 0x028, [], [ro 11 0 0, ro 31 12 0]⟩,
   ⟨"MFL_RTT", 0x02C, [], [ro 15 0 0]⟩,
   ⟨"MFL_HEADROOM", 0x030, [], [ro 12 0 0]⟩,
   ⟨"MFL_TSYNC_STS", 0x034, [], [ro 15 0 0, ro 31 16 0]⟩,
   ⟨"MFL_AL_LOCK", 0x038, [], [ro 7 0 64, ro 15 8 16, ro 24 16 0]⟩,
   ⟨"MFL_LINK_CTL", 0x100, [], [rw 0 0 0, wo 1 1, wo 2 2, rwr 5 4 2 0 2, rwr 7 6 2 0 2]⟩,
   ⟨"MFL_ACK_CTL", 0x104, [], [rwr 7 0 32 1 255, rwr 20 8 256 32 4096]⟩,
   ⟨"MFL_REPLAY_LIMIT", 0x108, [], [rwr 3 0 4 1 8]⟩,
   ⟨"MFL_REPLAY_CTL", 0x10C, [], [rwr 12 0 2000 256 8000, rwr 25 16 512 32 512]⟩,
   ⟨"MFL_TSYNC_CTL", 0x110, [], [rwr 19 0 1000 64 1000000]⟩,
   ⟨"MFL_TSYNC_CORR", 0x114, [], [rw 15 0 0]⟩]

/-- Registers of MFL page 1. -/
def regsMFL1 : List RegSpec :=
  [⟨"MFL_LANE_ERR", 0x020, [(4, 9)], [ro 23 0 0]⟩,
   ⟨"MFL_LANE_MAP", 0x100, [], [rw 3 0 15, wo 8 8]⟩,
   ⟨"MFL_LANE_GOV", 0x104, [], [rw 0 0 1, rwr 7 4 3 1 15, rwr 9 8 0 0 2]⟩,
   ⟨"MFL_LANE_THR", 0x108, [], [rwr 15 0 100 1 65535, rwr 31 16 10000 1 65535]⟩]

/-- Registers of MFL page 2. -/
def regsMFL2 : List RegSpec :=
  [⟨"MFL_AUTH_STS", 0x020, [], [ro 2 0 0, ro 6 4 0, ro 18 8 0]⟩,
   ⟨"MFL_AUTH_EN", 0x100, [], [rw 15 0 0, wo 16 16]⟩]

/-- Registers of MFL page 3. -/
def regsMFL3 : List RegSpec :=
  [⟨"MFL_TEST_STS", 0x020, [], [ro 8 0 0, ro 18 16 0, ro 21 20 0, ro 22 22 0]⟩,
   ⟨"MFL_EYE_STS", 0x024, [], [ro 1 0 0, ro 3 2 0, ro 31 8 0]⟩,
   ⟨"MFL_LOOP_CTL", 0x100, [], [rw 1 0 0, rw 16 8 0]⟩,
   ⟨"MFL_PRBS_CTL", 0x104, [], [rwr 2 0 4 0 4, rw 3 3 0, rw 4 4 0, rw 6 5 3, rw 16 8 0]⟩,
   ⟨"MFL_TX_EQ", 0x108, [], [rwr 3 0 4 0 12, rwr 12 8 12 0 24, rwr 19 16 8 0 12]⟩,
   ⟨"MFL_EYE_CTL", 0x10C, [], [rwr 3 0 0 0 8, wo 4 4, wo 5 5, rws 14 8 (-32) (32), rws 22 16 (-50) (50), rw 27 24 0, rwr 29 28 0 0 2]⟩,
   ⟨"MFL_RX_CTL", 0x180, [(4, 9)], [rw 0 0 0, rw 1 1 1, rw 7 4 0, rw 12 8 0]⟩]

/-- Registers of the slot pages of SPV page 8 + n. -/
def regsSPVS0 : List RegSpec :=
  [⟨"SPV_SLOT_STS", 0x020, [], [ro 2 0 0, ro 4 4 0, ro 5 5 0, ro 6 6 0, ro 10 8 0, ro 19 16 0]⟩,
   ⟨"SPV_CH_STS", 0x024, [(4, 2)], [ro 0 0 0, ro 1 1 0, ro 2 2 0, ro 3 3 0, ro 31 16 0]⟩,
   ⟨"SPV_MEAS_V", 0x030, [(16, 2)], [ro 15 0 0, ro 31 16 0]⟩,
   ⟨"SPV_MEAS_I", 0x034, [(16, 2)], [ro 15 0 0, ro 31 16 0]⟩,
   ⟨"SPV_MEAS_P", 0x038, [(16, 2)], [ro 19 0 0]⟩,
   ⟨"SPV_ENERGY_LO", 0x050, [(8, 2)], [ro 31 0 0]⟩,
   ⟨"SPV_ENERGY_HI", 0x054, [(8, 2)], [ro 31 0 0]⟩,
   ⟨"SPV_SLOT_CTL", 0x100, [], [rw 0 0 0]⟩,
   ⟨"SPV_MEAS_CLR", 0x104, [], [wo 0 0, wo 1 1]⟩,
   ⟨"SPV_CH_CTL", 0x110, [(32, 2)], [rw 0 0 1, rw 1 1 0, rwr 15 8 10 1 100]⟩,
   ⟨"SPV_ILIMIT0", 0x114, [], [rwr 15 0 2500 500 20000, rwr 23 20 8 5 15]⟩,
   ⟨"SPV_RSHUNT0", 0x118, [], [rwr 15 0 2000 100 50000]⟩,
   ⟨"SPV_FAULT_TIMER0", 0x11C, [], [rwr 15 0 5000 100 60000]⟩,
   ⟨"SPV_PG_CFG0", 0x120, [], [rwr 15 0 11040 1000 14000, rwr 31 16 2000 1 65535]⟩,
   ⟨"SPV_GATE_CFG0", 0x124, [], [rwr 7 0 20 1 200, rwr 13 8 20 10 50]⟩,
   ⟨"SPV_ILIMIT1", 0x134, [], [rwr 15 0 3000 500 20000, rwr 23 20 8 5 15]⟩,
   ⟨"SPV_RSHUNT1", 0x138, [], [rwr 15 0 5000 100 50000]⟩,
   ⟨"SPV_FAULT_TIMER1", 0x13C, [], [rwr 15 0 5000 100 60000]⟩,
   ⟨"SPV_PG_CFG1", 0x140, [], [rwr 15 0 3003 1000 14000, rwr 31 16 2000 1 65535]⟩,
   ⟨"SPV_GATE_CFG1", 0x144, [], [rwr 7 0 20 1 200, rwr 13 8 20 10 50]⟩,
   ⟨"SPV_RETRY", 0x180, [], [rw 2 0 3, rwr 15 4 10 1 600, rwr 31 16 60 1 3600]⟩,
   ⟨"SPV_RESEAT", 0x184, [], [rwr 15 0 2000 100 60000, rwr 31 16 100 10 1000]⟩]

/-- The registers of a page, by block and page number (R30). -/
def pageRegs : Block → Nat → List RegSpec
  | .dev, 0 => regsDEV0
  | .dev, 1 => regsDEV1
  | .clk, 0 => regsCLK0
  | .clk, 1 => regsCLK1
  | .sec, 0 => regsSEC0
  | .sec, 2 => regsSEC2
  | .sec, 3 => regsSEC3
  | .mgt, 0 => regsMGT0
  | .mgt, 1 => regsMGT1
  | .mgt, 2 => regsMGT2
  | .mgt, 3 => regsMGT3
  | .cul, 0 => regsCUL0
  | .cul, 1 => regsCUL1
  | .cul, 2 => regsCUL2
  | .spv, 0 => regsSPV0
  | .tel, 2 => regsTEL2
  | .tel, 3 => regsTEL3
  | .tel, 4 => regsTEL4
  | .err, 0 => regsERR0
  | .swc, 0 => regsSWC0
  | .swc, 1 => regsSWC1
  | .swc, 2 => regsSWC2
  | .buf, 0 => regsBUF0
  | .buf, 1 => regsBUF1
  | .buf, 2 => regsBUF2
  | .map, 0 => regsMAP0
  | .map, 2 => regsMAP2
  | .acl, 0 => regsACL0
  | .mcm, 1 => regsMCM1
  | .slu, 0 => regsSLU0
  | .slu, 1 => regsSLU1
  | .eng, 0 => regsENG0
  | .vim, 0 => regsVIM0
  | .pep, 0 => regsPEP0
  | .phy, 0 => regsPHY0
  | .phy, 1 => regsPHY1
  | .mfl, 0 => regsMFL0
  | .mfl, 1 => regsMFL1
  | .mfl, 2 => regsMFL2
  | .mfl, 3 => regsMFL3
  | .spvs, 0 => regsSPVS0
  | _, _ => []

/-- Where an address lies: block, instance, page within the instance and offset within the page (R30). -/
structure PageAt where
  block : Block
  inst : Nat
  page : Nat
  off : Nat
  deriving DecidableEq, Repr

/-- The page of an address of the 16 MiB register space, none where no page is implemented (R30, R31). -/
def pageAt (a : Nat) : Option PageAt :=
  let p := a / 4096
  let off := a % 4096
  if p < 4 then some ⟨.dev, 0, p, off⟩
  else if p < 8 then some ⟨.clk, 0, p - 4, off⟩
  else if p < 12 then some ⟨.sec, 0, p - 8, off⟩
  else if p < 16 then some ⟨.mgt, 0, p - 12, off⟩
  else if p < 20 then some ⟨.cul, 0, p - 16, off⟩
  else if p < 0x20 then none
  else if p < 0x28 then some ⟨.spv, 0, p - 0x20, off⟩
  else if p < 0x40 then some ⟨.spvs, p - 0x28, 0, off⟩
  else if p < 0x50 then some ⟨.tel, 0, p - 0x40, off⟩
  else if p < 0x60 then some ⟨.err, 0, p - 0x50, off⟩
  else if p < 0x100 then none
  else if p < 0x110 then some ⟨.swc, 0, p - 0x100, off⟩
  else if p < 0x120 then some ⟨.buf, 0, p - 0x110, off⟩
  else if p < 0x130 then some ⟨.map, 0, p - 0x120, off⟩
  else if p < 0x140 then some ⟨.acl, 0, p - 0x130, off⟩
  else if p < 0x150 then some ⟨.mcm, 0, p - 0x140, off⟩
  else if p < 0x160 then some ⟨.slu, 0, p - 0x150, off⟩
  else if p < 0x200 then none
  else if p < 0x210 then some ⟨.eng, p - 0x200, 0, off⟩
  else if p < 0x400 then none
  else if p < 0x600 then some ⟨.vim, p - 0x400, 0, off⟩
  else if p < 0x800 then none
  else if p < 0x900 then some ⟨.pep, (p - 0x800) / 4, (p - 0x800) % 4, off⟩
  else if p < 0x960 then some ⟨.phy, (p - 0x900) / 4, (p - 0x900) % 4, off⟩
  else if p < 0xA00 then none
  else if p < 0xA40 then some ⟨.mfl, (p - 0xA00) / 8, (p - 0xA00) % 8, off⟩
  else none

/-- Offsets a repeated register occupies: does `d` bytes past its base fall on one of its members? -/
def inDims : List (Nat × Nat) → Nat → Bool
  | [], d => d == 0
  | (st, n) :: ds, d => d / st < n && inDims ds (d % st)

/-- The specification of the block register at an address, common registers of R35 apart. -/
def regSpec (a : Nat) : Option RegSpec :=
  match pageAt a with
  | none => none
  | some p => (pageRegs p.block p.page).find? fun r => decide (r.off ≤ p.off) && inDims r.dims (p.off - r.off)

/-- What a register reads as after a device-wide reset (R11): the fields' reset values in place.
`BUF_BANK_STS[j].LOGICAL` resets to `j` (R88). -/
def regReset (a : Nat) : W32 :=
  match regSpec a with
  | none => 0
  | some r =>
    let v := BitVec.ofNat 32 (r.fields.foldl (fun n f => n + f.reset * 2 ^ f.lo) 0)
    if 0x111020 ≤ a ∧ a < 0x111060 then v ||| BitVec.ofNat 32 ((a - 0x111020) / 4 * 256) else v

/-- Implemented event bits of a page (R35, the event tables of the chapters). -/
def pageNevt : Block → Nat → Nat
  | .dev, 0 => 5 | .clk, 0 => 2 | .clk, 1 => 2 | .sec, 0 => 4 | .mgt, 0 => 6 | .mgt, 1 => 1 | .mgt, 3 => 2
  | .cul, 0 => 3 | .cul, 2 => 9 | .spv, 0 => 1 | .spvs, 0 => 6 | .tel, 3 => 1 | .tel, 4 => 6 | .err, 0 => 6
  | .swc, 0 => 2 | .swc, 3 => 2 | .buf, 0 => 3 | .buf, 1 => 3 | .map, 0 => 2 | .map, 2 => 4 | .mcm, 0 => 1
  | .mcm, 1 => 1 | .slu, 0 => 7 | .acl, 0 => 3 | .eng, 0 => 5 | .vim, 0 => 4 | .pep, 0 => 4 | .phy, 0 => 1
  | .phy, 1 => 4 | .mfl, 0 => 3 | .mfl, 1 => 2 | .mfl, 2 => 3 | .mfl, 3 => 3
  | _, _ => 0

/-- Size of an indirect table: entries and bytes of an entry; `none` where the page has no such table (R35). -/
def tableSize : Block → Nat → Nat → Option (Nat × Nat)
  | .swc, 3, 0 => some (89, 8)
  | .buf, 2, 0 => some (256, 32)
  | .map, 0, 0 => some (65536, 32)
  | .map, 0, 1 => some (65536, 32)
  | .map, 1, 0 => some (8192, 4)
  | .map, 2, 0 => some (16, 4)
  | .map, 2, 1 => some (32, 4)
  | .mcm, 0, 0 => some (8192, 8)
  | .mcm, 0, 1 => some (32768, 16)
  | .acl, 0, 0 => some (16, 16)
  | .eng, 0, 0 => some (16, 32)
  | .mgt, 2, 0 => some (2048, 16)
  | .cul, 1, 0 => some (32, 8)
  | .tel, 0, 0 => some (8192, 8)
  | .tel, 1, 0 => some (72, 32)
  | .tel, 2, 0 => some (512, 8)
  | .tel, 2, 1 => some (512, 8)
  | .tel, 2, 2 => some (16, 32)
  | .tel, 2, 3 => some (16, 32)
  | .tel, 3, 0 => some (256, 32)
  | .tel, 4, 0 => some (384, 32)
  | .tel, 5, 0 => some (2848, 8)
  | .err, 0, 0 => some (4096, 32)
  | .err, 0, 1 => some (4096, 8)
  | .err, 0, 2 => some (32, 32)
  | .mfl, 2, 0 => some (16, 32)
  | .mfl, 2, 1 => some (1, 32)
  | .sec, 1, 1 => some (8, 32)
  | .sec, 1, 2 => some (256, 32)
  | .sec, 1, 3 => some (16, 32)
  | .sec, 3, 0 => some (1024, 32)
  | _, _, _ => none

/-- PAGE_CAP.NTBL: tables reachable on a page (R35). SEC page 1 has tables 1 to 3 and no table 0 (log entry 5). -/
def pageNtbl : Block → Nat → Nat
  | .swc, 3 => 1 | .buf, 2 => 1 | .map, 0 => 2 | .map, 1 => 1 | .map, 2 => 2 | .mcm, 0 => 2 | .acl, 0 => 1
  | .eng, 0 => 1 | .mgt, 2 => 1 | .cul, 1 => 1 | .tel, 0 => 1 | .tel, 1 => 1 | .tel, 2 => 4 | .tel, 3 => 1
  | .tel, 4 => 1 | .tel, 5 => 1 | .err, 0 => 3 | .mfl, 2 => 2 | .sec, 1 => 4 | .sec, 3 => 1
  | _, _ => 0

/-- Counter arrays: the tables READ_CLEAR is for (R43, R389, R390, R393); histogram bins are none (log entry 45). -/
def counterTable : Block → Nat → Nat → Bool
  | .tel, 0, 0 => true | .tel, 1, 0 => true | .tel, 5, 0 => true
  | _, _, _ => false

/-- First offset past a page's counters, from 0x808 (R35); 0x808 where there are none. -/
def pageCounterEnd : Block → Nat → Nat
  | .dev, 0 => 0x828 | .clk, 0 => 0x818 | .sec, 0 => 0x820 | .mgt, 0 => 0x838 | .mgt, 1 => 0x810 | .mgt, 2 => 0x820
  | .mgt, 3 => 0x818 | .cul, 0 => 0x830 | .spvs, 0 => 0x830 | .err, 0 => 0x848 | .swc, 0 => 0x830 | .buf, 0 => 0x858
  | .map, 0 => 0x858 | .map, 2 => 0x818 | .mcm, 0 => 0x828 | .mcm, 1 => 0x868 | .acl, 0 => 0x830 | .slu, 0 => 0x840
  | .eng, 0 => 0x860 | .vim, 0 => 0x830 | .pep, 0 => 0x828 | .phy, 0 => 0x810 | .phy, 2 => 0x8D0 | .mfl, 0 => 0x870
  | .mfl, 1 => 0x850 | .mfl, 2 => 0x820 | .mfl, 3 => 0x898
  | _, _ => 0x808

/-- Pages that hold a hazard register of R50. -/
def pageHaz : Block → Nat → Bool
  | .dev, 0 | .clk, 0 | .sec, 2 | .mgt, 0 | .cul, 0 | .spv, 0 | .spvs, 0 | .err, 0 | .swc, 2 | .buf, 0 | .buf, 1
  | .map, 0 | .slu, 0 | .mcm, 1 | .eng, 0 | .vim, 0 | .pep, 0 | .phy, 1 | .mfl, 0 | .mfl, 1 | .mfl, 2 | .mfl, 3 => true
  | _, _ => false

/-- The block code of R30; VIM pages of instances 256 to 511 read 0x0041. -/
def blockCode : Block → Nat → Nat
  | .dev, _ => 1 | .clk, _ => 2 | .sec, _ => 3 | .mgt, _ => 4 | .cul, _ => 5 | .spv, _ => 6 | .spvs, _ => 6
  | .tel, _ => 7 | .err, _ => 8 | .swc, _ => 0x10 | .buf, _ => 0x11 | .map, _ => 0x12 | .acl, _ => 0x13
  | .mcm, _ => 0x14 | .slu, _ => 0x15 | .eng, _ => 0x20 | .vim, i => if i < 256 then 0x40 else 0x41
  | .pep, _ => 0x80 | .phy, _ => 0x90 | .mfl, _ => 0xA0

/-- PAGE_ID: block code, instance and page (R30, R35). -/
def pageId (p : PageAt) : W32 :=
  let inst := match p.block with
    | .eng | .pep | .phy | .mfl => p.inst
    | .vim => p.inst % 256
    | _ => 0
  let page := match p.block with
    | .spvs => 8 + p.inst
    | _ => p.page
  BitVec.ofNat 32 (blockCode p.block p.inst * 65536 + inst * 256 + page)

/-- PAGE_CAP (R35). -/
def pageCap (p : PageAt) : W32 :=
  let bit (b : Bool) (n : Nat) : Nat := if b then 2 ^ n else 0
  BitVec.ofNat 32 (bit (pageNtbl p.block p.page != 0) 0 + bit (pageCounterEnd p.block p.page != 0x808) 1
    + bit (pageHaz p.block p.page) 2 + pageNevt p.block p.page * 256 + pageNtbl p.block p.page * 65536)

/-- Is there a counter at this offset of the page (R35, R40)? -/
def isCounter (p : PageAt) : Bool :=
  p.off / 8 * 8 == 0x800 || p.off / 8 * 8 == 0xEF8 ||
    (decide (0x808 ≤ p.off) && decide (p.off < pageCounterEnd p.block p.page))

/-- The key of a table entry in the table store: page number, table, index. -/
def tblKey (page table index : Nat) : Nat := page * 2 ^ 32 + table * 2 ^ 24 + index

/-- What a table entry reads as before anything has written it: 0 but for MGT of the interrupt routing of
implemented pages (R306), SIZE_LOG2 of the ring tables (R79, R305) and MIN of the histogram units (R395), and
SIZE_LOG2 of the culvert ranges (R350). -/
def tblReset (key : Nat) : W256 :=
  let page := key / 2 ^ 32
  let table := key / 2 ^ 24 % 256
  let index := key % 2 ^ 24
  if page = 0x50 ∧ table = 1 then (if (pageAt (index * 4096)).isSome then 1 <<< 40 else 0)
  else if page = 0x50 ∧ table = 2 then 4 <<< 128
  else if page = 0x112 ∧ table = 0 then 4 <<< 128
  else if page = 0x42 ∧ (table = 2 ∨ table = 3) then 0xFFFFFFFFFFFFFFFF
  else if page = 0x11 ∧ table = 0 then 0x800
  else 0

end Sys2Proof.Machine
end

