-- ==== Sys2Proof/Machine/RegNames.lean ====
section
/-! DEFINITION. The register names of the spec: addresses in the register space (R10), fields (R12) and counters
(R40), each with the indices its chapter gives. -/

namespace Sys2Proof.Machine.R

abbrev DEV_ALIVE : Nat := 0x20
abbrev DEV_ALIVE_ALIVE : Fld := ⟨0x20, 31, 0⟩
abbrev DEV_IDENT : Nat := 0x28
abbrev DEV_IDENT_VENDOR : Fld := ⟨0x28, 15, 0⟩
abbrev DEV_IDENT_REVISION : Fld := ⟨0x28, 23, 16⟩
abbrev DEV_SUBSYS : Nat := 0x2C
abbrev DEV_SUBSYS_SVID : Fld := ⟨0x2C, 15, 0⟩
abbrev DEV_SUBSYS_SSID : Fld := ⟨0x2C, 31, 16⟩
abbrev DEV_MODE_STS : Nat := 0x30
abbrev DEV_MODE_STS_RESULT : Fld := ⟨0x30, 1, 0⟩
abbrev DEV_MODE_STS_CAUSE : Fld := ⟨0x30, 5, 2⟩
abbrev DEV_MODE_STS_PRIOR : Fld := ⟨0x30, 11, 8⟩
abbrev DEV_MODE_STS_BG_DONE : Fld := ⟨0x30, 12, 12⟩
abbrev DEV_MODE_STS_FW_RUNNING : Fld := ⟨0x30, 13, 13⟩
abbrev DEV_MODE_STS_DRAINED : Fld := ⟨0x30, 14, 14⟩
abbrev DEV_MODE_STS_THERMAL : Fld := ⟨0x30, 15, 15⟩
abbrev DEV_MODE_STS_FAIL_CODE : Fld := ⟨0x30, 23, 16⟩
abbrev DEV_SELFTEST_FAIL : Nat := 0x34
abbrev DEV_SELFTEST_FAIL_FAILED : Fld := ⟨0x34, 15, 1⟩
abbrev DEV_STRAP : Nat := 0x38
abbrev DEV_STRAP_MODE : Fld := ⟨0x38, 2, 0⟩
abbrev DEV_STRAP_SMBADDR : Fld := ⟨0x38, 6, 4⟩
abbrev DEV_STRAP_PORTCFG : Fld := ⟨0x38, 11, 8⟩
abbrev DEV_MODE : Nat := 0x100
abbrev DEV_MODE_CODE : Fld := ⟨0x100, 3, 0⟩
abbrev DEV_MODE_REQ : Fld := ⟨0x100, 11, 8⟩
abbrev DEV_MODE_GO : Fld := ⟨0x100, 31, 31⟩
abbrev DEV_DRAIN_CTL : Nat := 0x104
abbrev DEV_DRAIN_CTL_TMO_MS : Fld := ⟨0x104, 15, 0⟩
abbrev DEV_PWRLOSS_STS : Nat := 0x1020
abbrev DEV_PWRLOSS_STS_VALID : Fld := ⟨0x1020, 0, 0⟩
abbrev DEV_PWRLOSS_STS_RAIL : Fld := ⟨0x1020, 3, 1⟩
abbrev DEV_PWRLOSS_STS_SB : Fld := ⟨0x1020, 12, 8⟩
abbrev DEV_PWRLOSS_STS_CUL : Fld := ⟨0x1020, 22, 16⟩
abbrev DEV_PWRLOSS_STS_LOSSES : Fld := ⟨0x1020, 31, 24⟩
abbrev DEV_PWRLOSS_POSTED : Nat := 0x1024
abbrev DEV_PWRLOSS_POSTED_POSTED : Fld := ⟨0x1024, 19, 0⟩
abbrev DEV_PWRLOSS_TB_LO : Nat := 0x1028
abbrev DEV_PWRLOSS_TB_LO_NS : Fld := ⟨0x1028, 31, 0⟩
abbrev DEV_PWRLOSS_TB_HI : Nat := 0x102C
abbrev DEV_PWRLOSS_TB_HI_NS : Fld := ⟨0x102C, 31, 0⟩
abbrev DEV_PWRLOSS_CLR : Nat := 0x1100
abbrev DEV_PWRLOSS_CLR_CLR : Fld := ⟨0x1100, 0, 0⟩
abbrev CLK_STS : Nat := 0x4020
abbrev CLK_STS_LOCKED : Fld := ⟨0x4020, 0, 0⟩
abbrev CLK_STS_HOLDOVER : Fld := ⟨0x4020, 1, 1⟩
abbrev CLK_SUPPLY_STS : Nat := 0x4024
abbrev CLK_SUPPLY_STS_UV : Fld := ⟨0x4024, 7, 0⟩
abbrev CLK_SUPPLY_STS_OV : Fld := ⟨0x4024, 15, 8⟩
abbrev CLK_RST_CTL : Nat := 0x4100
abbrev CLK_RST_CTL_MGT : Fld := ⟨0x4100, 0, 0⟩
abbrev CLK_RST_CTL_CUL : Fld := ⟨0x4100, 1, 1⟩
abbrev CLK_RST_CTL_TEL : Fld := ⟨0x4100, 2, 2⟩
abbrev CLK_RST_CTL_SHAKE : Fld := ⟨0x4100, 3, 3⟩
abbrev CLK_RST_CTL_LINK : Fld := ⟨0x4100, 15, 8⟩
abbrev CLK_RST_CTL_DEVICE : Fld := ⟨0x4100, 31, 31⟩
abbrev CLK_THERM_STS : Nat := 0x5020
abbrev CLK_THERM_STS_HOTTEST : Fld := ⟨0x5020, 11, 0⟩
abbrev CLK_THERM_STS_CRIT_SEEN : Fld := ⟨0x5020, 12, 12⟩
abbrev CLK_THERM_CL (i : Nat) : Nat := 0x5024 + 0x4 * i
abbrev CLK_THERM_CL_T (i : Nat) : Fld := ⟨0x5024 + 0x4 * i, 11, 0⟩
abbrev CLK_THERM_GOV : Nat := 0x5100
abbrev CLK_THERM_GOV_EN : Fld := ⟨0x5100, 0, 0⟩
abbrev CLK_THERM_GOV_MAX_STEP : Fld := ⟨0x5100, 3, 1⟩
abbrev CLK_THERM_GOV_HYST : Fld := ⟨0x5100, 7, 4⟩
abbrev CLK_THERM_GOV_T_START : Fld := ⟨0x5100, 15, 8⟩
abbrev CLK_THERM_GOV_T_DRAIN : Fld := ⟨0x5100, 23, 16⟩
abbrev SEC_LIFECYCLE : Nat := 0x8020
abbrev SEC_LIFECYCLE_STATE : Fld := ⟨0x8020, 2, 0⟩
abbrev SEC_LIFECYCLE_BASE_STATE : Fld := ⟨0x8020, 6, 4⟩
abbrev SEC_LIFECYCLE_ENROLLED : Fld := ⟨0x8020, 11, 8⟩
abbrev SEC_LIFECYCLE_REVOKED : Fld := ⟨0x8020, 15, 12⟩
abbrev SEC_LIFECYCLE_SVN_MIN : Fld := ⟨0x8020, 22, 16⟩
abbrev SEC_OP_STS : Nat := 0x8024
abbrev SEC_OP_STS_OTP_RESULT : Fld := ⟨0x8024, 1, 0⟩
abbrev SEC_OP_STS_OTP_CAUSE : Fld := ⟨0x8024, 5, 2⟩
abbrev SEC_OP_STS_VERIFY_RESULT : Fld := ⟨0x8024, 9, 8⟩
abbrev SEC_OP_STS_VERIFY_CAUSE : Fld := ⟨0x8024, 15, 12⟩
abbrev SEC_OP_STS_UNLOCK_RESULT : Fld := ⟨0x8024, 17, 16⟩
abbrev SEC_OP_STS_UNLOCK_CAUSE : Fld := ⟨0x8024, 23, 20⟩
abbrev SEC_ID_HASH (i : Nat) : Nat := 0x8040 + 0x4 * i
abbrev SEC_ID_HASH_HASH (i : Nat) : Fld := ⟨0x8040 + 0x4 * i, 31, 0⟩
abbrev SEC_OTP_PROG : Nat := 0xA100
abbrev SEC_OTP_PROG_WORD : Fld := ⟨0xA100, 10, 0⟩
abbrev SEC_OTP_PROG_GO : Fld := ⟨0xA100, 31, 31⟩
abbrev SEC_OTP_DATA : Nat := 0xA104
abbrev SEC_OTP_DATA_DATA : Fld := ⟨0xA104, 31, 0⟩
abbrev SEC_LIFECYCLE_ADV : Nat := 0xA108
abbrev SEC_LIFECYCLE_ADV_TARGET : Fld := ⟨0xA108, 2, 0⟩
abbrev SEC_LIFECYCLE_ADV_GO : Fld := ⟨0xA108, 31, 31⟩
abbrev SEC_VERIFY_LO : Nat := 0xA10C
abbrev SEC_VERIFY_LO_ADDR : Fld := ⟨0xA10C, 31, 0⟩
abbrev SEC_VERIFY_HI : Nat := 0xA110
abbrev SEC_VERIFY_HI_ADDR : Fld := ⟨0xA110, 31, 0⟩
abbrev SEC_VERIFY : Nat := 0xA114
abbrev SEC_VERIFY_TYPE : Fld := ⟨0xA114, 1, 0⟩
abbrev SEC_VERIFY_GO : Fld := ⟨0xA114, 31, 31⟩
abbrev SEC_EXT_DATA (i : Nat) : Nat := 0xA120 + 0x4 * i
abbrev SEC_EXT_DATA_DATA (i : Nat) : Fld := ⟨0xA120 + 0x4 * i, 31, 0⟩
abbrev SEC_MEAS_EXT : Nat := 0xA140
abbrev SEC_MEAS_EXT_INDEX : Fld := ⟨0xA140, 2, 0⟩
abbrev SEC_MEAS_EXT_GO : Fld := ⟨0xA140, 31, 31⟩
abbrev SEC_DEBUG_NONCE (i : Nat) : Nat := 0xB040 + 0x4 * i
abbrev SEC_DEBUG_NONCE_NONCE (i : Nat) : Fld := ⟨0xB040 + 0x4 * i, 31, 0⟩
abbrev SEC_UNLOCK : Nat := 0xB100
abbrev SEC_UNLOCK_LEN : Fld := ⟨0xB100, 15, 0⟩
abbrev SEC_UNLOCK_GO : Fld := ⟨0xB100, 31, 31⟩
abbrev SEC_LOCK_BASE_LO (i : Nat) : Nat := 0xB200 + 0x10 * i
abbrev SEC_LOCK_BASE_LO_BASE (i : Nat) : Fld := ⟨0xB200 + 0x10 * i, 31, 0⟩
abbrev SEC_LOCK_BASE_HI (i : Nat) : Nat := 0xB204 + 0x10 * i
abbrev SEC_LOCK_BASE_HI_BASE (i : Nat) : Fld := ⟨0xB204 + 0x10 * i, 31, 0⟩
abbrev SEC_LOCK_CFG (i : Nat) : Nat := 0xB208 + 0x10 * i
abbrev SEC_LOCK_CFG_EN (i : Nat) : Fld := ⟨0xB208 + 0x10 * i, 0, 0⟩
abbrev SEC_LOCK_CFG_SIZE_LOG2 (i : Nat) : Fld := ⟨0xB208 + 0x10 * i, 13, 8⟩
abbrev MGT_PAIR_STS : Nat := 0xC020
abbrev MGT_PAIR_STS_A_STATE : Fld := ⟨0xC020, 1, 0⟩
abbrev MGT_PAIR_STS_B_STATE : Fld := ⟨0xC020, 3, 2⟩
abbrev MGT_PAIR_STS_CAUSE : Fld := ⟨0xC020, 6, 4⟩
abbrev MGT_PAIR_STS_LOST : Fld := ⟨0xC020, 7, 7⟩
abbrev MGT_FW_STS : Nat := 0xC024
abbrev MGT_FW_STS_SLOT : Fld := ⟨0xC024, 0, 0⟩
abbrev MGT_FW_STS_FALLBACK : Fld := ⟨0xC024, 1, 1⟩
abbrev MGT_FW_STS_MINOR : Fld := ⟨0xC024, 15, 8⟩
abbrev MGT_FW_STS_MAJOR : Fld := ⟨0xC024, 23, 16⟩
abbrev MGT_UPDATE_STS : Nat := 0xC028
abbrev MGT_UPDATE_STS_RESULT : Fld := ⟨0xC028, 1, 0⟩
abbrev MGT_UPDATE_STS_CAUSE : Fld := ⟨0xC028, 5, 2⟩
abbrev MGT_UPDATE_STS_PRIOR : Fld := ⟨0xC028, 11, 8⟩
abbrev MGT_UPDATE_STS_ELAPSED : Fld := ⟨0xC028, 31, 16⟩
abbrev MGT_BERR_LO : Nat := 0xC030
abbrev MGT_BERR_LO_ADDR : Fld := ⟨0xC030, 31, 0⟩
abbrev MGT_BERR_HI : Nat := 0xC034
abbrev MGT_BERR_HI_ADDR : Fld := ⟨0xC034, 31, 0⟩
abbrev MGT_BERR_STS : Nat := 0xC038
abbrev MGT_BERR_STS_CAUSE : Fld := ⟨0xC038, 2, 0⟩
abbrev MGT_BERR_STS_WRITE : Fld := ⟨0xC038, 3, 3⟩
abbrev MGT_IRQ_PEND_LO : Nat := 0xC03C
abbrev MGT_IRQ_PEND_LO_PEND : Fld := ⟨0xC03C, 31, 0⟩
abbrev MGT_IRQ_PEND_HI : Nat := 0xC040
abbrev MGT_IRQ_PEND_HI_PEND : Fld := ⟨0xC040, 31, 0⟩
abbrev MGT_IRQ_INT_STS : Nat := 0xC044
abbrev MGT_IRQ_INT_STS_STS : Fld := ⟨0xC044, 3, 0⟩
abbrev MGT_MTIME_LO : Nat := 0xC048
abbrev MGT_MTIME_LO_NS : Fld := ⟨0xC048, 31, 0⟩
abbrev MGT_MTIME_HI : Nat := 0xC04C
abbrev MGT_MTIME_HI_NS : Fld := ⟨0xC04C, 31, 0⟩
abbrev MGT_HCMD_PEND : Nat := 0xC050
abbrev MGT_HCMD_PEND_PEND : Fld := ⟨0xC050, 31, 0⟩
abbrev MGT_PAIR_SWAP : Nat := 0xC100
abbrev MGT_PAIR_SWAP_GO : Fld := ⟨0xC100, 0, 0⟩
abbrev MGT_FAILOVER_VEC_LO : Nat := 0xC104
abbrev MGT_FAILOVER_VEC_LO_VEC : Fld := ⟨0xC104, 31, 2⟩
abbrev MGT_FAILOVER_VEC_HI : Nat := 0xC108
abbrev MGT_FAILOVER_VEC_HI_VEC : Fld := ⟨0xC108, 31, 0⟩
abbrev MGT_WDOG : Nat := 0xC10C
abbrev MGT_WDOG_PERIOD_MS : Fld := ⟨0xC10C, 13, 0⟩
abbrev MGT_WDOG_EN : Fld := ⟨0xC10C, 16, 16⟩
abbrev MGT_WDOG_KICK : Nat := 0xC110
abbrev MGT_WDOG_KICK_KICK : Fld := ⟨0xC110, 0, 0⟩
abbrev MGT_UPDATE_CTL : Nat := 0xC114
abbrev MGT_UPDATE_CTL_GO : Fld := ⟨0xC114, 0, 0⟩
abbrev MGT_UPDATE_CTL_SLOT : Fld := ⟨0xC114, 1, 1⟩
abbrev MGT_UPDATE_CTL_DONE : Fld := ⟨0xC114, 2, 2⟩
abbrev MGT_CTO : Nat := 0xC118
abbrev MGT_CTO_US : Fld := ⟨0xC118, 16, 0⟩
abbrev MGT_IRQ_EN_LO : Nat := 0xC11C
abbrev MGT_IRQ_EN_LO_EN : Fld := ⟨0xC11C, 31, 0⟩
abbrev MGT_IRQ_EN_HI : Nat := 0xC120
abbrev MGT_IRQ_EN_HI_EN : Fld := ⟨0xC120, 31, 0⟩
abbrev MGT_IRQ_INT_EN : Nat := 0xC124
abbrev MGT_IRQ_INT_EN_EN : Fld := ⟨0xC124, 3, 0⟩
abbrev MGT_TIMECMP_LO : Nat := 0xC128
abbrev MGT_TIMECMP_LO_CMP : Fld := ⟨0xC128, 31, 0⟩
abbrev MGT_TIMECMP_HI : Nat := 0xC12C
abbrev MGT_TIMECMP_HI_CMP : Fld := ⟨0xC12C, 31, 0⟩
abbrev MGT_MPU_STS : Nat := 0xD020
abbrev MGT_MPU_STS_CAUSE : Fld := ⟨0xD020, 1, 0⟩
abbrev MGT_MPU_STS_REGION0 : Fld := ⟨0xD020, 8, 4⟩
abbrev MGT_MPU_STS_REGION1 : Fld := ⟨0xD020, 14, 10⟩
abbrev MGT_MPU_STS_PAIR : Fld := ⟨0xD020, 15, 15⟩
abbrev MGT_MPU_ADDR_LO : Nat := 0xD024
abbrev MGT_MPU_ADDR_LO_ADDR : Fld := ⟨0xD024, 31, 0⟩
abbrev MGT_MPU_ADDR_HI : Nat := 0xD028
abbrev MGT_MPU_ADDR_HI_ADDR : Fld := ⟨0xD028, 31, 0⟩
abbrev MGT_MPU_CTL : Nat := 0xD100
abbrev MGT_MPU_CTL_MISALIGN_TRAP_A : Fld := ⟨0xD100, 0, 0⟩
abbrev MGT_MPU_CTL_MISALIGN_TRAP_B : Fld := ⟨0xD100, 1, 1⟩
abbrev MGT_MPU_BASE_LO (i j : Nat) : Nat := 0xD200 + 0x200 * i + 0x10 * j
abbrev MGT_MPU_BASE_LO_BASE (i j : Nat) : Fld := ⟨0xD200 + 0x200 * i + 0x10 * j, 31, 0⟩
abbrev MGT_MPU_BASE_HI (i j : Nat) : Nat := 0xD204 + 0x200 * i + 0x10 * j
abbrev MGT_MPU_BASE_HI_BASE (i j : Nat) : Fld := ⟨0xD204 + 0x200 * i + 0x10 * j, 31, 0⟩
abbrev MGT_MPU_CFG (i j : Nat) : Nat := 0xD208 + 0x200 * i + 0x10 * j
abbrev MGT_MPU_CFG_EN (i j : Nat) : Fld := ⟨0xD208 + 0x200 * i + 0x10 * j, 0, 0⟩
abbrev MGT_MPU_CFG_R (i j : Nat) : Fld := ⟨0xD208 + 0x200 * i + 0x10 * j, 1, 1⟩
abbrev MGT_MPU_CFG_W (i j : Nat) : Fld := ⟨0xD208 + 0x200 * i + 0x10 * j, 2, 2⟩
abbrev MGT_MPU_CFG_X (i j : Nat) : Fld := ⟨0xD208 + 0x200 * i + 0x10 * j, 3, 3⟩
abbrev MGT_MPU_CFG_M (i j : Nat) : Fld := ⟨0xD208 + 0x200 * i + 0x10 * j, 4, 4⟩
abbrev MGT_MPU_CFG_LOCK (i j : Nat) : Fld := ⟨0xD208 + 0x200 * i + 0x10 * j, 5, 5⟩
abbrev MGT_MPU_CFG_SIZE_LOG2 (i j : Nat) : Fld := ⟨0xD208 + 0x200 * i + 0x10 * j, 13, 8⟩
abbrev MGT_MBX_STS (i : Nat) : Nat := 0xE020 + 0x4 * i
abbrev MGT_MBX_STS_COUNT (i : Nat) : Fld := ⟨0xE020 + 0x4 * i, 6, 0⟩
abbrev MGT_MBX_STS_HEAD (i : Nat) : Fld := ⟨0xE020 + 0x4 * i, 13, 8⟩
abbrev MGT_MBX_STS_HELD (i : Nat) : Fld := ⟨0xE020 + 0x4 * i, 16, 16⟩
abbrev MGT_MBX_RETIRE : Nat := 0xE100
abbrev MGT_MBX_RETIRE_PART : Fld := ⟨0xE100, 4, 0⟩
abbrev MGT_MBX_RETIRE_GO : Fld := ⟨0xE100, 31, 31⟩
abbrev MGT_HCMD_TAKE : Nat := 0xE104
abbrev MGT_HCMD_TAKE_PART : Fld := ⟨0xE104, 4, 0⟩
abbrev MGT_HCMD_TAKE_GO : Fld := ⟨0xE104, 31, 31⟩
abbrev MGT_HCMD_LO (i : Nat) : Nat := 0xE200 + 0x10 * i
abbrev MGT_HCMD_LO_ADDR (i : Nat) : Fld := ⟨0xE200 + 0x10 * i, 31, 12⟩
abbrev MGT_HCMD_HI (i : Nat) : Nat := 0xE204 + 0x10 * i
abbrev MGT_HCMD_HI_ADDR (i : Nat) : Fld := ⟨0xE204 + 0x10 * i, 31, 0⟩
abbrev MGT_HCMD_DB (i : Nat) : Nat := 0xE208 + 0x10 * i
abbrev MGT_HCMD_DB_DB (i : Nat) : Fld := ⟨0xE208 + 0x10 * i, 31, 0⟩
abbrev MGT_SQ_STS : Nat := 0xF020
abbrev MGT_SQ_STS_COUNT : Fld := ⟨0xF020, 12, 0⟩
abbrev MGT_SQ_STS_HEAD : Fld := ⟨0xF020, 27, 16⟩
abbrev MGT_SQ_HEAD : Nat := 0xF100
abbrev MGT_SQ_HEAD_HEAD : Fld := ⟨0xF100, 11, 0⟩
abbrev MGT_SQ_GOV : Nat := 0xF104
abbrev MGT_SQ_GOV_EN : Fld := ⟨0xF104, 0, 0⟩
abbrev MGT_SQ_GOV_HYST : Fld := ⟨0xF104, 7, 4⟩
abbrev MGT_SQ_GOV_PERIOD_MS : Fld := ⟨0xF104, 17, 8⟩
abbrev MGT_SQ_GOV_SESSIONS : Fld := ⟨0xF104, 27, 24⟩
abbrev MGT_SQ_NMIN : Nat := 0xF108
abbrev MGT_SQ_NMIN_N : Fld := ⟨0xF108, 24, 0⟩
abbrev MGT_SQ_NMAX : Nat := 0xF10C
abbrev MGT_SQ_NMAX_N : Fld := ⟨0xF10C, 24, 0⟩
abbrev CUL_STS : Nat := 0x10020
abbrev CUL_STS_EXT_OWNS : Fld := ⟨0x10020, 0, 0⟩
abbrev CUL_STS_PQ_USED : Fld := ⟨0x10020, 14, 8⟩
abbrev CUL_STS_RQ_USED : Fld := ⟨0x10020, 20, 16⟩
abbrev CUL_STS_DEAD : Fld := ⟨0x10020, 31, 24⟩
abbrev CUL_BARRIER_STS : Nat := 0x10024
abbrev CUL_BARRIER_STS_DONE : Fld := ⟨0x10024, 0, 0⟩
abbrev CUL_BARRIER_STS_FAILED : Fld := ⟨0x10024, 1, 1⟩
abbrev CUL_BARRIER_STS_CS : Fld := ⟨0x10024, 4, 2⟩
abbrev CUL_BARRIER_ADDR : Nat := 0x10028
abbrev CUL_BARRIER_ADDR_ADDR : Fld := ⟨0x10028, 31, 0⟩
abbrev CUL_BARRIER : Nat := 0x10100
abbrev CUL_BARRIER_GO : Fld := ⟨0x10100, 0, 0⟩
abbrev CUL_TIMEOUT : Nat := 0x10104
abbrev CUL_TIMEOUT_US : Fld := ⟨0x10104, 13, 0⟩
abbrev CUL_CTL : Nat := 0x10108
abbrev CUL_CTL_WARM_RST : Fld := ⟨0x10108, 0, 0⟩
abbrev CUL_CTL_PF_EN : Fld := ⟨0x10108, 1, 1⟩
abbrev CUL_CTL_REVIVE : Fld := ⟨0x10108, 15, 8⟩
abbrev CUL_CS_CFG (i : Nat) : Nat := 0x11100 + 0x4 * i
abbrev CUL_CS_CFG_EN (i : Nat) : Fld := ⟨0x11100 + 0x4 * i, 0, 0⟩
abbrev CUL_CS_CFG_ORDER (i : Nat) : Fld := ⟨0x11100 + 0x4 * i, 2, 1⟩
abbrev CUL_CS_CFG_SETUP (i : Nat) : Fld := ⟨0x11100 + 0x4 * i, 7, 4⟩
abbrev CUL_CS_CFG_BURST_LOG2 (i : Nat) : Fld := ⟨0x11100 + 0x4 * i, 10, 8⟩
abbrev CUL_SB_STS : Nat := 0x12020
abbrev CUL_SB_STS_LEVEL : Fld := ⟨0x12020, 31, 0⟩
abbrev CUL_INT_STS : Nat := 0x12024
abbrev CUL_INT_STS_INT : Fld := ⟨0x12024, 7, 0⟩
abbrev CUL_SB_CTL : Nat := 0x12100
abbrev CUL_SB_CTL_POLL_US : Fld := ⟨0x12100, 9, 0⟩
abbrev CUL_SB_CTL_DEBOUNCE : Fld := ⟨0x12100, 15, 12⟩
abbrev CUL_SB_CTL_WAKE_EN : Fld := ⟨0x12100, 16, 16⟩
abbrev CUL_INT_CTL : Nat := 0x12104
abbrev CUL_INT_CTL_POLL : Fld := ⟨0x12104, 9, 0⟩
abbrev CUL_SB_EVT : Nat := 0x12108
abbrev CUL_SB_EVT_EVT : Fld := ⟨0x12108, 31, 0⟩
abbrev SPV_GLB_STS : Nat := 0x20020
abbrev SPV_GLB_STS_PG : Fld := ⟨0x20020, 23, 0⟩
abbrev SPV_GLB_LATCH : Nat := 0x20024
abbrev SPV_GLB_LATCH_LATCHED : Fld := ⟨0x20024, 23, 0⟩
abbrev SPV_VIN : Nat := 0x20028
abbrev SPV_VIN_VIN12 : Fld := ⟨0x20028, 15, 0⟩
abbrev SPV_VIN_VIN3V3 : Fld := ⟨0x20028, 31, 16⟩
abbrev SPV_GLB_CTL : Nat := 0x20100
abbrev SPV_GLB_CTL_GOV_EN : Fld := ⟨0x20100, 0, 0⟩
abbrev SPV_GLB_CTL_UPTRIP_EN : Fld := ⟨0x20100, 1, 1⟩
abbrev SPV_GLB_CTL_UPTRIP_MS : Fld := ⟨0x20100, 15, 8⟩
abbrev SPV_LATCH_CLR : Nat := 0x20104
abbrev SPV_LATCH_CLR_SLOTS : Fld := ⟨0x20104, 23, 0⟩
abbrev SPV_SLOT_STS (i : Nat) : Nat := 0x28020 + 0x1000 * i
abbrev SPV_SLOT_STS_STATE (i : Nat) : Fld := ⟨0x28020 + 0x1000 * i, 2, 0⟩
abbrev SPV_SLOT_STS_PRESENT (i : Nat) : Fld := ⟨0x28020 + 0x1000 * i, 4, 4⟩
abbrev SPV_SLOT_STS_PG (i : Nat) : Fld := ⟨0x28020 + 0x1000 * i, 5, 5⟩
abbrev SPV_SLOT_STS_PERST (i : Nat) : Fld := ⟨0x28020 + 0x1000 * i, 6, 6⟩
abbrev SPV_SLOT_STS_RETRIES (i : Nat) : Fld := ⟨0x28020 + 0x1000 * i, 10, 8⟩
abbrev SPV_SLOT_STS_CAUSE (i : Nat) : Fld := ⟨0x28020 + 0x1000 * i, 19, 16⟩
abbrev SPV_CH_STS (i j : Nat) : Nat := 0x28024 + 0x1000 * i + 0x4 * j
abbrev SPV_CH_STS_ON (i j : Nat) : Fld := ⟨0x28024 + 0x1000 * i + 0x4 * j, 0, 0⟩
abbrev SPV_CH_STS_PG (i j : Nat) : Fld := ⟨0x28024 + 0x1000 * i + 0x4 * j, 1, 1⟩
abbrev SPV_CH_STS_LIMITING (i j : Nat) : Fld := ⟨0x28024 + 0x1000 * i + 0x4 * j, 2, 2⟩
abbrev SPV_CH_STS_FT_RUN (i j : Nat) : Fld := ⟨0x28024 + 0x1000 * i + 0x4 * j, 3, 3⟩
abbrev SPV_CH_STS_FT_US (i j : Nat) : Fld := ⟨0x28024 + 0x1000 * i + 0x4 * j, 31, 16⟩
abbrev SPV_MEAS_V (i j : Nat) : Nat := 0x28030 + 0x1000 * i + 0x10 * j
abbrev SPV_MEAS_V_VOUT (i j : Nat) : Fld := ⟨0x28030 + 0x1000 * i + 0x10 * j, 15, 0⟩
abbrev SPV_MEAS_V_GATE (i j : Nat) : Fld := ⟨0x28030 + 0x1000 * i + 0x10 * j, 31, 16⟩
abbrev SPV_MEAS_I (i j : Nat) : Nat := 0x28034 + 0x1000 * i + 0x10 * j
abbrev SPV_MEAS_I_I (i j : Nat) : Fld := ⟨0x28034 + 0x1000 * i + 0x10 * j, 15, 0⟩
abbrev SPV_MEAS_I_I_PEAK (i j : Nat) : Fld := ⟨0x28034 + 0x1000 * i + 0x10 * j, 31, 16⟩
abbrev SPV_MEAS_P (i j : Nat) : Nat := 0x28038 + 0x1000 * i + 0x10 * j
abbrev SPV_MEAS_P_P (i j : Nat) : Fld := ⟨0x28038 + 0x1000 * i + 0x10 * j, 19, 0⟩
abbrev SPV_ENERGY_LO (i j : Nat) : Nat := 0x28050 + 0x1000 * i + 0x8 * j
abbrev SPV_ENERGY_LO_E (i j : Nat) : Fld := ⟨0x28050 + 0x1000 * i + 0x8 * j, 31, 0⟩
abbrev SPV_ENERGY_HI (i j : Nat) : Nat := 0x28054 + 0x1000 * i + 0x8 * j
abbrev SPV_ENERGY_HI_E (i j : Nat) : Fld := ⟨0x28054 + 0x1000 * i + 0x8 * j, 31, 0⟩
abbrev SPV_SLOT_CTL (i : Nat) : Nat := 0x28100 + 0x1000 * i
abbrev SPV_SLOT_CTL_ON (i : Nat) : Fld := ⟨0x28100 + 0x1000 * i, 0, 0⟩
abbrev SPV_MEAS_CLR (i : Nat) : Nat := 0x28104 + 0x1000 * i
abbrev SPV_MEAS_CLR_PEAK (i : Nat) : Fld := ⟨0x28104 + 0x1000 * i, 0, 0⟩
abbrev SPV_MEAS_CLR_ENERGY (i : Nat) : Fld := ⟨0x28104 + 0x1000 * i, 1, 1⟩
abbrev SPV_CH_CTL (i j : Nat) : Nat := 0x28110 + 0x1000 * i + 0x20 * j
abbrev SPV_CH_CTL_EN (i j : Nat) : Fld := ⟨0x28110 + 0x1000 * i + 0x20 * j, 0, 0⟩
abbrev SPV_CH_CTL_FORCE_ON (i j : Nat) : Fld := ⟨0x28110 + 0x1000 * i + 0x20 * j, 1, 1⟩
abbrev SPV_CH_CTL_RAMP_MS (i j : Nat) : Fld := ⟨0x28110 + 0x1000 * i + 0x20 * j, 15, 8⟩
abbrev SPV_ILIMIT0 (i : Nat) : Nat := 0x28114 + 0x1000 * i
abbrev SPV_ILIMIT0_LIMIT (i : Nat) : Fld := ⟨0x28114 + 0x1000 * i, 15, 0⟩
abbrev SPV_ILIMIT0_FAST_X4 (i : Nat) : Fld := ⟨0x28114 + 0x1000 * i, 23, 20⟩
abbrev SPV_RSHUNT0 (i : Nat) : Nat := 0x28118 + 0x1000 * i
abbrev SPV_RSHUNT0_UOHM (i : Nat) : Fld := ⟨0x28118 + 0x1000 * i, 15, 0⟩
abbrev SPV_FAULT_TIMER0 (i : Nat) : Nat := 0x2811C + 0x1000 * i
abbrev SPV_FAULT_TIMER0_US (i : Nat) : Fld := ⟨0x2811C + 0x1000 * i, 15, 0⟩
abbrev SPV_PG_CFG0 (i : Nat) : Nat := 0x28120 + 0x1000 * i
abbrev SPV_PG_CFG0_THR (i : Nat) : Fld := ⟨0x28120 + 0x1000 * i, 15, 0⟩
abbrev SPV_PG_CFG0_DELAY_US (i : Nat) : Fld := ⟨0x28120 + 0x1000 * i, 31, 16⟩
abbrev SPV_GATE_CFG0 (i : Nat) : Nat := 0x28124 + 0x1000 * i
abbrev SPV_GATE_CFG0_RISE_MAX_MS (i : Nat) : Fld := ⟨0x28124 + 0x1000 * i, 7, 0⟩
abbrev SPV_GATE_CFG0_VTH (i : Nat) : Fld := ⟨0x28124 + 0x1000 * i, 13, 8⟩
abbrev SPV_ILIMIT1 (i : Nat) : Nat := 0x28134 + 0x1000 * i
abbrev SPV_ILIMIT1_LIMIT (i : Nat) : Fld := ⟨0x28134 + 0x1000 * i, 15, 0⟩
abbrev SPV_ILIMIT1_FAST_X4 (i : Nat) : Fld := ⟨0x28134 + 0x1000 * i, 23, 20⟩
abbrev SPV_RSHUNT1 (i : Nat) : Nat := 0x28138 + 0x1000 * i
abbrev SPV_RSHUNT1_UOHM (i : Nat) : Fld := ⟨0x28138 + 0x1000 * i, 15, 0⟩
abbrev SPV_FAULT_TIMER1 (i : Nat) : Nat := 0x2813C + 0x1000 * i
abbrev SPV_FAULT_TIMER1_US (i : Nat) : Fld := ⟨0x2813C + 0x1000 * i, 15, 0⟩
abbrev SPV_PG_CFG1 (i : Nat) : Nat := 0x28140 + 0x1000 * i
abbrev SPV_PG_CFG1_THR (i : Nat) : Fld := ⟨0x28140 + 0x1000 * i, 15, 0⟩
abbrev SPV_PG_CFG1_DELAY_US (i : Nat) : Fld := ⟨0x28140 + 0x1000 * i, 31, 16⟩
abbrev SPV_GATE_CFG1 (i : Nat) : Nat := 0x28144 + 0x1000 * i
abbrev SPV_GATE_CFG1_RISE_MAX_MS (i : Nat) : Fld := ⟨0x28144 + 0x1000 * i, 7, 0⟩
abbrev SPV_GATE_CFG1_VTH (i : Nat) : Fld := ⟨0x28144 + 0x1000 * i, 13, 8⟩
abbrev SPV_RETRY (i : Nat) : Nat := 0x28180 + 0x1000 * i
abbrev SPV_RETRY_MAX (i : Nat) : Fld := ⟨0x28180 + 0x1000 * i, 2, 0⟩
abbrev SPV_RETRY_INTERVAL (i : Nat) : Fld := ⟨0x28180 + 0x1000 * i, 15, 4⟩
abbrev SPV_RETRY_WINDOW_S (i : Nat) : Fld := ⟨0x28180 + 0x1000 * i, 31, 16⟩
abbrev SPV_RESEAT (i : Nat) : Nat := 0x28184 + 0x1000 * i
abbrev SPV_RESEAT_RESEAT_MIN_MS (i : Nat) : Fld := ⟨0x28184 + 0x1000 * i, 15, 0⟩
abbrev SPV_RESEAT_INS_DEB_MS (i : Nat) : Fld := ⟨0x28184 + 0x1000 * i, 31, 16⟩
abbrev TEL_HIST_CFG (i : Nat) : Nat := 0x42100 + 0x8 * i
abbrev TEL_HIST_CFG_SOURCE (i : Nat) : Fld := ⟨0x42100 + 0x8 * i, 4, 0⟩
abbrev TEL_HIST_CFG_PORT (i : Nat) : Fld := ⟨0x42100 + 0x8 * i, 14, 8⟩
abbrev TEL_HIST_CFG_CLASS (i : Nat) : Fld := ⟨0x42100 + 0x8 * i, 17, 16⟩
abbrev TEL_HIST_CFG_LOG (i : Nat) : Fld := ⟨0x42100 + 0x8 * i, 18, 18⟩
abbrev TEL_HIST_CFG_WSHIFT (i : Nat) : Fld := ⟨0x42100 + 0x8 * i, 28, 24⟩
abbrev TEL_HIST_BASE (i : Nat) : Nat := 0x42104 + 0x8 * i
abbrev TEL_HIST_BASE_BASE (i : Nat) : Fld := ⟨0x42104 + 0x8 * i, 31, 0⟩
abbrev TEL_HIST_SNAP : Nat := 0x42180
abbrev TEL_HIST_SNAP_UNITS : Fld := ⟨0x42180, 15, 0⟩
abbrev TEL_HIST_SNAP_CLEAR : Fld := ⟨0x42180, 16, 16⟩
abbrev TEL_HIST_PERIOD : Nat := 0x42184
abbrev TEL_HIST_PERIOD_NS : Fld := ⟨0x42184, 15, 0⟩
abbrev TEL_SMP_STS : Nat := 0x43020
abbrev TEL_SMP_STS_NEXT : Fld := ⟨0x43020, 7, 0⟩
abbrev TEL_SMP_CTL (i : Nat) : Nat := 0x43100 + 0x8 * i
abbrev TEL_SMP_CTL_EVENT (i : Nat) : Fld := ⟨0x43100 + 0x8 * i, 5, 0⟩
abbrev TEL_SMP_CTL_PORT (i : Nat) : Fld := ⟨0x43100 + 0x8 * i, 14, 8⟩
abbrev TEL_SMP_CTL_EN (i : Nat) : Fld := ⟨0x43100 + 0x8 * i, 16, 16⟩
abbrev TEL_SMP_N (i : Nat) : Nat := 0x43104 + 0x8 * i
abbrev TEL_SMP_N_N (i : Nat) : Fld := ⟨0x43104 + 0x8 * i, 23, 0⟩
abbrev TEL_GOV_NEXT0 : Nat := 0x44020
abbrev TEL_GOV_NEXT0_G0 : Fld := ⟨0x44020, 5, 0⟩
abbrev TEL_GOV_NEXT0_G1 : Fld := ⟨0x44020, 13, 8⟩
abbrev TEL_GOV_NEXT0_G2 : Fld := ⟨0x44020, 21, 16⟩
abbrev TEL_GOV_NEXT0_G3 : Fld := ⟨0x44020, 29, 24⟩
abbrev TEL_GOV_NEXT1 : Nat := 0x44024
abbrev TEL_GOV_NEXT1_G4 : Fld := ⟨0x44024, 5, 0⟩
abbrev TEL_GOV_NEXT1_G5 : Fld := ⟨0x44024, 13, 8⟩
abbrev ERR_STS : Nat := 0x50020
abbrev ERR_STS_LOG_NEXT : Fld := ⟨0x50020, 9, 0⟩
abbrev ERR_STS_WRAPPED : Fld := ⟨0x50020, 10, 10⟩
abbrev ERR_STS_FATAL_VALID : Fld := ⟨0x50020, 11, 11⟩
abbrev ERR_STS_FIRST_FATAL : Fld := ⟨0x50020, 21, 12⟩
abbrev ERR_STS_FAULTED : Fld := ⟨0x50020, 31, 22⟩
abbrev ERR_ISO_STS : Nat := 0x50024
abbrev ERR_ISO_STS_STATE : Fld := ⟨0x50024, 1, 0⟩
abbrev ERR_ISO_STS_RESULT : Fld := ⟨0x50024, 3, 2⟩
abbrev ERR_ISO_STS_CAUSE : Fld := ⟨0x50024, 5, 4⟩
abbrev ERR_ISO_STS_PRIOR : Fld := ⟨0x50024, 11, 8⟩
abbrev ERR_CTL : Nat := 0x50100
abbrev ERR_CTL_RATE : Fld := ⟨0x50100, 7, 0⟩
abbrev ERR_CTL_ALERT_LEVEL : Fld := ⟨0x50100, 10, 8⟩
abbrev ERR_CTL_FATAL_ACK : Fld := ⟨0x50100, 11, 11⟩
abbrev ERR_CTL_SCRUB_MS : Fld := ⟨0x50100, 25, 16⟩
abbrev ERR_ESC : Nat := 0x50104
abbrev ERR_ESC_PORT_THR : Fld := ⟨0x50104, 7, 0⟩
abbrev ERR_ISO_CTL : Nat := 0x50108
abbrev ERR_ISO_CTL_EXIT : Fld := ⟨0x50108, 0, 0⟩
abbrev ERR_INJECT : Nat := 0x5010C
abbrev ERR_INJECT_TYPE : Fld := ⟨0x5010C, 1, 0⟩
abbrev ERR_INJECT_PORT : Fld := ⟨0x5010C, 14, 8⟩
abbrev ERR_INJECT_COUNT : Fld := ⟨0x5010C, 19, 16⟩
abbrev ERR_INJECT_GO : Fld := ⟨0x5010C, 31, 31⟩
abbrev SWC_EGR_CTL : Nat := 0x100100
abbrev SWC_EGR_CTL_ORD_MIN : Fld := ⟨0x100100, 3, 0⟩
abbrev SWC_FWD (i : Nat) : Nat := 0x101100 + 0x4 * i
abbrev SWC_FWD_ORD_CT (i : Nat) : Fld := ⟨0x101100 + 0x4 * i, 0, 0⟩
abbrev SWC_FWD_LIVE_CT (i : Nat) : Fld := ⟨0x101100 + 0x4 * i, 1, 1⟩
abbrev SWC_FWD_LEAD (i : Nat) : Fld := ⟨0x101100 + 0x4 * i, 7, 4⟩
abbrev SWC_FWD_88 : Nat := 0x101260
abbrev SWC_FWD_88_ORD_CT : Fld := ⟨0x101260, 0, 0⟩
abbrev SWC_FWD_88_LIVE_CT : Fld := ⟨0x101260, 1, 1⟩
abbrev SWC_FWD_88_LEAD : Fld := ⟨0x101260, 7, 4⟩
abbrev SWC_WEIR (i : Nat) : Nat := 0x102100 + 0x4 * i
abbrev SWC_WEIR_LIMIT (i : Nat) : Fld := ⟨0x102100 + 0x4 * i, 12, 0⟩
abbrev SWC_WEIR_F (i : Nat) : Nat := 0x102200 + 0x4 * i
abbrev SWC_WEIR_F_LIMIT (i : Nat) : Fld := ⟨0x102200 + 0x4 * i, 12, 0⟩
abbrev SWC_WEIR_E (i : Nat) : Nat := 0x102220 + 0x4 * i
abbrev SWC_WEIR_E_LIMIT (i : Nat) : Fld := ⟨0x102220 + 0x4 * i, 12, 0⟩
abbrev SWC_WEIR_88 : Nat := 0x102260
abbrev SWC_WEIR_88_LIMIT : Fld := ⟨0x102260, 12, 0⟩
abbrev SWC_WEIR_BOUND (i : Nat) : Nat := 0x102400 + 0x4 * i
abbrev SWC_WEIR_BOUND_MIN (i : Nat) : Fld := ⟨0x102400 + 0x4 * i, 12, 0⟩
abbrev SWC_WEIR_BOUND_MAX (i : Nat) : Fld := ⟨0x102400 + 0x4 * i, 28, 16⟩
abbrev SWC_WEIR_BOUND_F (i : Nat) : Nat := 0x102500 + 0x4 * i
abbrev SWC_WEIR_BOUND_F_MIN (i : Nat) : Fld := ⟨0x102500 + 0x4 * i, 12, 0⟩
abbrev SWC_WEIR_BOUND_F_MAX (i : Nat) : Fld := ⟨0x102500 + 0x4 * i, 28, 16⟩
abbrev SWC_WEIR_BOUND_E (i : Nat) : Nat := 0x102520 + 0x4 * i
abbrev SWC_WEIR_BOUND_E_MIN (i : Nat) : Fld := ⟨0x102520 + 0x4 * i, 12, 0⟩
abbrev SWC_WEIR_BOUND_E_MAX (i : Nat) : Fld := ⟨0x102520 + 0x4 * i, 28, 16⟩
abbrev BUF_POOL_USED (i : Nat) : Nat := 0x110020 + 0x4 * i
abbrev BUF_POOL_USED_CELLS (i : Nat) : Fld := ⟨0x110020 + 0x4 * i, 18, 0⟩
abbrev BUF_ORD_SIZE : Nat := 0x110034
abbrev BUF_ORD_SIZE_CELLS : Fld := ⟨0x110034, 18, 0⟩
abbrev BUF_LIVE_POOL : Nat := 0x110100
abbrev BUF_LIVE_POOL_CELLS : Fld := ⟨0x110100, 17, 0⟩
abbrev BUF_CPL_POOL : Nat := 0x110104
abbrev BUF_CPL_POOL_CELLS : Fld := ⟨0x110104, 17, 0⟩
abbrev BUF_AGE_LIMIT : Nat := 0x110108
abbrev BUF_AGE_LIMIT_LIMIT : Fld := ⟨0x110108, 15, 0⟩
abbrev BUF_WEIR_GOV : Nat := 0x110110
abbrev BUF_WEIR_GOV_EN : Fld := ⟨0x110110, 0, 0⟩
abbrev BUF_WEIR_GOV_STEP : Fld := ⟨0x110110, 7, 4⟩
abbrev BUF_WEIR_GOV_HYST : Fld := ⟨0x110110, 11, 8⟩
abbrev BUF_WEIR_GOV_HI_PCT : Fld := ⟨0x110110, 22, 16⟩
abbrev BUF_WEIR_GOV_LO_PCT : Fld := ⟨0x110110, 30, 24⟩
abbrev BUF_LEDGER_EGRESS (i : Nat) : Nat := 0x112100 + 0x4 * i
abbrev BUF_LEDGER_EGRESS_RING (i : Nat) : Fld := ⟨0x112100 + 0x4 * i, 7, 0⟩
abbrev BUF_LEDGER_EGRESS_EN (i : Nat) : Fld := ⟨0x112100 + 0x4 * i, 8, 8⟩
abbrev BUF_BANK_STS (i : Nat) : Nat := 0x111020 + 0x4 * i
abbrev BUF_BANK_STS_STATE (i : Nat) : Fld := ⟨0x111020 + 0x4 * i, 2, 0⟩
abbrev BUF_BANK_STS_LOGICAL (i : Nat) : Fld := ⟨0x111020 + 0x4 * i, 12, 8⟩
abbrev BUF_BANK_STS_16 : Nat := 0x111060
abbrev BUF_BANK_STS_16_STATE : Fld := ⟨0x111060, 2, 0⟩
abbrev BUF_BANK_STS_16_LOGICAL : Fld := ⟨0x111060, 12, 8⟩
abbrev BUF_BANK_RETIRE_STS : Nat := 0x111070
abbrev BUF_BANK_RETIRE_STS_RESULT : Fld := ⟨0x111070, 1, 0⟩
abbrev BUF_BANK_RETIRE_STS_BANK : Fld := ⟨0x111070, 12, 8⟩
abbrev BUF_SPARE_CTL : Nat := 0x111100
abbrev BUF_SPARE_CTL_AUTO : Fld := ⟨0x111100, 0, 0⟩
abbrev BUF_SPARE_CTL_CE_LIMIT : Fld := ⟨0x111100, 31, 16⟩
abbrev BUF_BANK_RETIRE : Nat := 0x111104
abbrev BUF_BANK_RETIRE_BANK : Fld := ⟨0x111104, 4, 0⟩
abbrev BUF_BANK_RETIRE_GO : Fld := ⟨0x111104, 8, 8⟩
abbrev MAP_COMMIT_STS : Nat := 0x120020
abbrev MAP_COMMIT_STS_RESULT : Fld := ⟨0x120020, 1, 0⟩
abbrev MAP_COMMIT_STS_CAUSE : Fld := ⟨0x120020, 5, 2⟩
abbrev MAP_COMMIT_STS_INDEX : Fld := ⟨0x120020, 31, 16⟩
abbrev MAP_STAGE (i : Nat) : Nat := 0x120100 + 0x4 * i
abbrev MAP_STAGE_DATA (i : Nat) : Fld := ⟨0x120100 + 0x4 * i, 31, 0⟩
abbrev MAP_COMMIT : Nat := 0x120120
abbrev MAP_COMMIT_INDEX : Fld := ⟨0x120120, 15, 0⟩
abbrev MAP_COMMIT_BANK : Fld := ⟨0x120120, 16, 16⟩
abbrev MAP_COMMIT_GO : Fld := ⟨0x120120, 31, 31⟩
abbrev MAP_MISS_POLICY : Nat := 0x120130
abbrev MAP_MISS_POLICY_UP : Fld := ⟨0x120130, 31, 0⟩
abbrev MAP_SELF : Nat := 0x120134
abbrev MAP_SELF_FID : Fld := ⟨0x120134, 3, 0⟩
abbrev MAP_PROXY_CTO : Nat := 0x120138
abbrev MAP_PROXY_CTO_MS : Fld := ⟨0x120138, 9, 0⟩
abbrev MAP_LINK_USABLE : Nat := 0x122020
abbrev MAP_LINK_USABLE_USABLE : Fld := ⟨0x122020, 7, 0⟩
abbrev MAP_ROUTE_GOV : Nat := 0x122100
abbrev MAP_ROUTE_GOV_EN : Fld := ⟨0x122100, 0, 0⟩
abbrev MAP_ROUTE_GOV_MIN_PRI : Fld := ⟨0x122100, 7, 4⟩
abbrev MAP_ROUTE_GOV_RESTORE_HOLD : Fld := ⟨0x122100, 25, 16⟩
abbrev MAP_ROUTE_ALT_FORCE : Nat := 0x122104
abbrev MAP_ROUTE_ALT_FORCE_FORCE : Fld := ⟨0x122104, 15, 0⟩
abbrev MCM_PROD (i : Nat) : Nat := 0x141020 + 0x4 * i
abbrev MCM_PROD_PROD (i : Nat) : Fld := ⟨0x141020 + 0x4 * i, 31, 0⟩
abbrev MCM_MODE (i : Nat) : Nat := 0x141100 + 0x20 * i
abbrev MCM_MODE_MODE (i : Nat) : Fld := ⟨0x141100 + 0x20 * i, 1, 0⟩
abbrev MCM_MODE_SRC_KIND (i : Nat) : Fld := ⟨0x141100 + 0x20 * i, 3, 2⟩
abbrev MCM_MODE_SRC_PORT (i : Nat) : Fld := ⟨0x141100 + 0x20 * i, 10, 4⟩
abbrev MCM_MODE_PART (i : Nat) : Fld := ⟨0x141100 + 0x20 * i, 15, 11⟩
abbrev MCM_MODE_SLOT_LOG2 (i : Nat) : Fld := ⟨0x141100 + 0x20 * i, 19, 16⟩
abbrev MCM_MODE_RING_LOG2 (i : Nat) : Fld := ⟨0x141100 + 0x20 * i, 23, 20⟩
abbrev MCM_RING_BASE_LO (i : Nat) : Nat := 0x141104 + 0x20 * i
abbrev MCM_RING_BASE_LO_BASE (i : Nat) : Fld := ⟨0x141104 + 0x20 * i, 31, 0⟩
abbrev MCM_RING_BASE_HI (i : Nat) : Nat := 0x141108 + 0x20 * i
abbrev MCM_RING_BASE_HI_BASE (i : Nat) : Fld := ⟨0x141108 + 0x20 * i, 31, 0⟩
abbrev MCM_PIDX_LO (i : Nat) : Nat := 0x14110C + 0x20 * i
abbrev MCM_PIDX_LO_PIDX (i : Nat) : Fld := ⟨0x14110C + 0x20 * i, 31, 0⟩
abbrev MCM_PIDX_HI (i : Nat) : Nat := 0x141110 + 0x20 * i
abbrev MCM_PIDX_HI_PIDX (i : Nat) : Fld := ⟨0x141110 + 0x20 * i, 31, 0⟩
abbrev MCM_SAMPLE_N (i : Nat) : Nat := 0x141114 + 0x20 * i
abbrev MCM_SAMPLE_N_N (i : Nat) : Fld := ⟨0x141114 + 0x20 * i, 24, 0⟩
abbrev MCM_MIRROR_CELLS : Nat := 0x141180
abbrev MCM_MIRROR_CELLS_CELLS : Fld := ⟨0x141180, 9, 0⟩
abbrev ACL_EPOCH : Nat := 0x130020
abbrev ACL_EPOCH_EPOCH : Fld := ⟨0x130020, 15, 0⟩
abbrev ACL_EPOCH_DENY_NEXT : Fld := ⟨0x130020, 19, 16⟩
abbrev ACL_SWEEP_STS : Nat := 0x130024
abbrev ACL_SWEEP_STS_STATE : Fld := ⟨0x130024, 1, 0⟩
abbrev ACL_SWEEP_STS_NP_EXPIRED : Fld := ⟨0x130024, 2, 2⟩
abbrev ACL_SWEEP_STS_WAIT_NP : Fld := ⟨0x130024, 3, 3⟩
abbrev ACL_SWEEP_STS_ELAPSED : Fld := ⟨0x130024, 31, 16⟩
abbrev ACL_OLD : Nat := 0x130028
abbrev ACL_OLD_OLD_FRAMES : Fld := ⟨0x130028, 19, 0⟩
abbrev ACL_OLD_OLD_NP : Fld := ⟨0x130028, 31, 20⟩
abbrev ACL_SWEEP : Nat := 0x130100
abbrev ACL_SWEEP_GO : Fld := ⟨0x130100, 0, 0⟩
abbrev ACL_SWEEP_WAIT_NP : Fld := ⟨0x130100, 1, 1⟩
abbrev ACL_SWEEP_CTL : Nat := 0x130104
abbrev ACL_SWEEP_CTL_NP_TMO : Fld := ⟨0x130104, 9, 0⟩
abbrev ACL_CTL : Nat := 0x130108
abbrev ACL_CTL_REC_PER_MS : Fld := ⟨0x130108, 7, 0⟩
abbrev SLU_TB_LO : Nat := 0x150020
abbrev SLU_TB_LO_NS : Fld := ⟨0x150020, 31, 0⟩
abbrev SLU_TB_HI : Nat := 0x150024
abbrev SLU_TB_HI_NS : Fld := ⟨0x150024, 31, 0⟩
abbrev SLU_TB_FRAC : Nat := 0x150028
abbrev SLU_TB_FRAC_FRAC : Fld := ⟨0x150028, 15, 0⟩
abbrev SLU_TB_STS : Nat := 0x15002C
abbrev SLU_TB_STS_STATE : Fld := ⟨0x15002C, 1, 0⟩
abbrev SLU_TB_STS_ON_ALT : Fld := ⟨0x15002C, 2, 2⟩
abbrev SLU_TB_STS_PHASE_ERR : Fld := ⟨0x15002C, 31, 16⟩
abbrev SLU_FS_LAST_LO : Nat := 0x150030
abbrev SLU_FS_LAST_LO_NS : Fld := ⟨0x150030, 31, 0⟩
abbrev SLU_FS_LAST_HI : Nat := 0x150034
abbrev SLU_FS_LAST_HI_NS : Fld := ⟨0x150034, 31, 0⟩
abbrev SLU_FS_PERIOD : Nat := 0x150038
abbrev SLU_FS_PERIOD_PERIOD : Fld := ⟨0x150038, 31, 0⟩
abbrev SLU_FS_STS : Nat := 0x15003C
abbrev SLU_FS_STS_STATE : Fld := ⟨0x15003C, 1, 0⟩
abbrev SLU_GATE_STS : Nat := 0x150040
abbrev SLU_GATE_STS_BANK : Fld := ⟨0x150040, 15, 0⟩
abbrev SLU_TB_CTL : Nat := 0x150100
abbrev SLU_TB_CTL_SRC : Fld := ⟨0x150100, 1, 0⟩
abbrev SLU_TB_CTL_AUTO_STEP : Fld := ⟨0x150100, 2, 2⟩
abbrev SLU_TB_CTL_ALT_EN : Fld := ⟨0x150100, 3, 3⟩
abbrev SLU_TB_CTL_LINK : Fld := ⟨0x150100, 6, 4⟩
abbrev SLU_TB_CTL_ALT_LINK : Fld := ⟨0x150100, 10, 8⟩
abbrev SLU_TB_CTL_SLEW_PPM : Fld := ⟨0x150100, 23, 16⟩
abbrev SLU_TB_CTL_LOCK_NS : Fld := ⟨0x150100, 31, 24⟩
abbrev SLU_TB_SET_LO : Nat := 0x150104
abbrev SLU_TB_SET_LO_NS : Fld := ⟨0x150104, 31, 0⟩
abbrev SLU_TB_SET_HI : Nat := 0x150108
abbrev SLU_TB_SET_HI_NS : Fld := ⟨0x150108, 31, 0⟩
abbrev SLU_TB_SET : Nat := 0x15010C
abbrev SLU_TB_SET_GO : Fld := ⟨0x15010C, 0, 0⟩
abbrev SLU_FS_CTL : Nat := 0x150110
abbrev SLU_FS_CTL_EDGE : Fld := ⟨0x150110, 0, 0⟩
abbrev SLU_FS_CTL_POLICY : Fld := ⟨0x150110, 2, 1⟩
abbrev SLU_FS_CTL_WINDOW : Fld := ⟨0x150110, 27, 8⟩
abbrev SLU_FS_COUNT : Nat := 0x150114
abbrev SLU_FS_COUNT_COUNT : Fld := ⟨0x150114, 31, 0⟩
abbrev SLU_FRAME_ORIGIN_LO : Nat := 0x150118
abbrev SLU_FRAME_ORIGIN_LO_NS : Fld := ⟨0x150118, 31, 0⟩
abbrev SLU_FRAME_ORIGIN_HI : Nat := 0x15011C
abbrev SLU_FRAME_ORIGIN_HI_NS : Fld := ⟨0x15011C, 31, 0⟩
abbrev SLU_FRAME_PERIOD : Nat := 0x150120
abbrev SLU_FRAME_PERIOD_PERIOD : Fld := ⟨0x150120, 31, 0⟩
abbrev SLU_GATE_FORCE : Nat := 0x150124
abbrev SLU_GATE_FORCE_GROUP : Fld := ⟨0x150124, 3, 0⟩
abbrev SLU_GATE_FORCE_BANK : Fld := ⟨0x150124, 4, 4⟩
abbrev SLU_GATE_FORCE_GO : Fld := ⟨0x150124, 31, 31⟩
abbrev SLU_ARM_W0 (i j : Nat) : Nat := 0x151100 + 0x40 * i + 0x10 * j
abbrev SLU_ARM_W0_W (i j : Nat) : Fld := ⟨0x151100 + 0x40 * i + 0x10 * j, 31, 0⟩
abbrev SLU_ARM_W1 (i j : Nat) : Nat := 0x151104 + 0x40 * i + 0x10 * j
abbrev SLU_ARM_W1_W (i j : Nat) : Fld := ⟨0x151104 + 0x40 * i + 0x10 * j, 31, 0⟩
abbrev SLU_ARM_W2 (i j : Nat) : Nat := 0x151108 + 0x40 * i + 0x10 * j
abbrev SLU_ARM_W2_FRAC (i j : Nat) : Fld := ⟨0x151108 + 0x40 * i + 0x10 * j, 15, 0⟩
abbrev SLU_ARM_CTL (i j : Nat) : Nat := 0x15110C + 0x40 * i + 0x10 * j
abbrev SLU_ARM_CTL_ARM (i j : Nat) : Fld := ⟨0x15110C + 0x40 * i + 0x10 * j, 0, 0⟩
abbrev SLU_ARM_CTL_CANCEL (i j : Nat) : Fld := ⟨0x15110C + 0x40 * i + 0x10 * j, 1, 1⟩
abbrev SLU_ARM_CTL_KIND (i j : Nat) : Fld := ⟨0x15110C + 0x40 * i + 0x10 * j, 2, 2⟩
abbrev SLU_ARM_CTL_BANK (i j : Nat) : Fld := ⟨0x15110C + 0x40 * i + 0x10 * j, 3, 3⟩
abbrev SLU_ARM_CTL_STATE (i j : Nat) : Fld := ⟨0x15110C + 0x40 * i + 0x10 * j, 6, 4⟩
abbrev SLU_ARM_CTL_CAUSE (i j : Nat) : Fld := ⟨0x15110C + 0x40 * i + 0x10 * j, 9, 8⟩
abbrev ENG_STS (i : Nat) : Nat := 0x200020 + 0x1000 * i
abbrev ENG_STS_STATE (i : Nat) : Fld := ⟨0x200020 + 0x1000 * i, 1, 0⟩
abbrev ENG_STS_CONTEXTS (i : Nat) : Fld := ⟨0x200020 + 0x1000 * i, 7, 4⟩
abbrev ENG_STS_RATE_STEP (i : Nat) : Fld := ⟨0x200020 + 0x1000 * i, 11, 8⟩
abbrev ENG_STS_TAGS (i : Nat) : Fld := ⟨0x200020 + 0x1000 * i, 21, 12⟩
abbrev ENG_STS_LOG_NEXT (i : Nat) : Fld := ⟨0x200020 + 0x1000 * i, 25, 22⟩
abbrev ENG_BUF_STS (i : Nat) : Nat := 0x200024 + 0x1000 * i
abbrev ENG_BUF_STS_RB_BYTES (i : Nat) : Fld := ⟨0x200024 + 0x1000 * i, 18, 0⟩
abbrev ENG_RA_STS (i : Nat) : Nat := 0x200028 + 0x1000 * i
abbrev ENG_RA_STS_RA_BYTES (i : Nat) : Fld := ⟨0x200028 + 0x1000 * i, 16, 0⟩
abbrev ENG_CTL (i : Nat) : Nat := 0x200100 + 0x1000 * i
abbrev ENG_CTL_ABORT (i : Nat) : Fld := ⟨0x200100 + 0x1000 * i, 0, 0⟩
abbrev ENG_CTL_RESTART (i : Nat) : Fld := ⟨0x200100 + 0x1000 * i, 1, 1⟩
abbrev ENG_CTL_RA_EN (i : Nat) : Fld := ⟨0x200100 + 0x1000 * i, 2, 2⟩
abbrev ENG_CTL_RA_KIB (i : Nat) : Fld := ⟨0x200100 + 0x1000 * i, 14, 8⟩
abbrev ENG_SIZE (i : Nat) : Nat := 0x200104 + 0x1000 * i
abbrev ENG_SIZE_MAX_RD_LOG2 (i : Nat) : Fld := ⟨0x200104 + 0x1000 * i, 3, 0⟩
abbrev ENG_SIZE_MAX_WR_LOG2 (i : Nat) : Fld := ⟨0x200104 + 0x1000 * i, 11, 8⟩
abbrev ENG_CTO (i : Nat) : Nat := 0x200108 + 0x1000 * i
abbrev ENG_CTO_MS (i : Nat) : Fld := ⟨0x200108 + 0x1000 * i, 9, 0⟩
abbrev ENG_CTO_RECOV (i : Nat) : Nat := 0x20010C + 0x1000 * i
abbrev ENG_CTO_RECOV_US (i : Nat) : Fld := ⟨0x20010C + 0x1000 * i, 16, 0⟩
abbrev VIM_INST_STS (i : Nat) : Nat := 0x400020 + 0x1000 * i
abbrev VIM_INST_STS_STATE (i : Nat) : Fld := ⟨0x400020 + 0x1000 * i, 2, 0⟩
abbrev VIM_INST_STS_IDLE (i : Nat) : Fld := ⟨0x400020 + 0x1000 * i, 3, 3⟩
abbrev VIM_INST_STS_HG (i : Nat) : Fld := ⟨0x400020 + 0x1000 * i, 4, 4⟩
abbrev VIM_INST_STS_D3HOT (i : Nat) : Fld := ⟨0x400020 + 0x1000 * i, 5, 5⟩
abbrev VIM_INST_STS_CMD_RESULT (i : Nat) : Fld := ⟨0x400020 + 0x1000 * i, 7, 6⟩
abbrev VIM_INST_STS_CAUSE (i : Nat) : Fld := ⟨0x400020 + 0x1000 * i, 11, 8⟩
abbrev VIM_INST_STS_ABANDONED (i : Nat) : Fld := ⟨0x400020 + 0x1000 * i, 31, 16⟩
abbrev VIM_INST_TAGS (i : Nat) : Nat := 0x400024 + 0x1000 * i
abbrev VIM_INST_TAGS_TAGS (i : Nat) : Fld := ⟨0x400024 + 0x1000 * i, 12, 0⟩
abbrev VIM_INST_OWNER (i : Nat) : Nat := 0x400100 + 0x1000 * i
abbrev VIM_INST_OWNER_TENANT_PART (i : Nat) : Fld := ⟨0x400100 + 0x1000 * i, 4, 0⟩
abbrev VIM_INST_OWNER_FUNC (i : Nat) : Fld := ⟨0x400100 + 0x1000 * i, 15, 8⟩
abbrev VIM_INST_OWNER_MGR_PART (i : Nat) : Fld := ⟨0x400100 + 0x1000 * i, 28, 24⟩
abbrev VIM_INST_CTL (i : Nat) : Nat := 0x400104 + 0x1000 * i
abbrev VIM_INST_CTL_CMD (i : Nat) : Fld := ⟨0x400104 + 0x1000 * i, 3, 0⟩
abbrev VIM_INST_CTL_HG_OPEN (i : Nat) : Fld := ⟨0x400104 + 0x1000 * i, 4, 4⟩
abbrev VIM_INST_CTL_AUTO_OPEN (i : Nat) : Fld := ⟨0x400104 + 0x1000 * i, 5, 5⟩
abbrev VIM_INST_CTL_RESTORE_CFG (i : Nat) : Fld := ⟨0x400104 + 0x1000 * i, 6, 6⟩
abbrev VIM_INST_CTL_FORCE_RESET (i : Nat) : Fld := ⟨0x400104 + 0x1000 * i, 8, 8⟩
abbrev VIM_INST_RING (i : Nat) : Nat := 0x400108 + 0x1000 * i
abbrev VIM_INST_RING_ENGINE_0 (i : Nat) : Fld := ⟨0x400108 + 0x1000 * i, 3, 0⟩
abbrev VIM_INST_RING_BOUND_0 (i : Nat) : Fld := ⟨0x400108 + 0x1000 * i, 7, 7⟩
abbrev VIM_INST_RING_ENGINE_1 (i : Nat) : Fld := ⟨0x400108 + 0x1000 * i, 11, 8⟩
abbrev VIM_INST_RING_BOUND_1 (i : Nat) : Fld := ⟨0x400108 + 0x1000 * i, 15, 15⟩
abbrev VIM_INST_RING_ENGINE_2 (i : Nat) : Fld := ⟨0x400108 + 0x1000 * i, 19, 16⟩
abbrev VIM_INST_RING_BOUND_2 (i : Nat) : Fld := ⟨0x400108 + 0x1000 * i, 23, 23⟩
abbrev VIM_INST_RING_ENGINE_3 (i : Nat) : Fld := ⟨0x400108 + 0x1000 * i, 27, 24⟩
abbrev VIM_INST_RING_BOUND_3 (i : Nat) : Fld := ⟨0x400108 + 0x1000 * i, 31, 31⟩
abbrev VIM_INST_SAVE_LO (i : Nat) : Nat := 0x40010C + 0x1000 * i
abbrev VIM_INST_SAVE_LO_ADDR (i : Nat) : Fld := ⟨0x40010C + 0x1000 * i, 31, 12⟩
abbrev VIM_INST_SAVE_HI (i : Nat) : Nat := 0x400110 + 0x1000 * i
abbrev VIM_INST_SAVE_HI_ADDR (i : Nat) : Fld := ⟨0x400110 + 0x1000 * i, 31, 0⟩
abbrev PEP_PORT_STS (i : Nat) : Nat := 0x800020 + 0x4000 * i
abbrev PEP_PORT_STS_DL_ACTIVE (i : Nat) : Fld := ⟨0x800020 + 0x4000 * i, 0, 0⟩
abbrev PEP_PORT_STS_FLIT (i : Nat) : Fld := ⟨0x800020 + 0x4000 * i, 1, 1⟩
abbrev PEP_PORT_STS_PRESENT (i : Nat) : Fld := ⟨0x800020 + 0x4000 * i, 2, 2⟩
abbrev PEP_PORT_STS_DPC (i : Nat) : Fld := ⟨0x800020 + 0x4000 * i, 3, 3⟩
abbrev PEP_PORT_STS_RATE (i : Nat) : Fld := ⟨0x800020 + 0x4000 * i, 6, 4⟩
abbrev PEP_PORT_STS_WIDTH (i : Nat) : Fld := ⟨0x800020 + 0x4000 * i, 12, 8⟩
abbrev PEP_PORT_STS_CAUSE (i : Nat) : Fld := ⟨0x800020 + 0x4000 * i, 19, 16⟩
abbrev PEP_DPC_REASON (i : Nat) : Nat := 0x800024 + 0x4000 * i
abbrev PEP_DPC_REASON_REASON (i : Nat) : Fld := ⟨0x800024 + 0x4000 * i, 2, 0⟩
abbrev PEP_PORT_CTL (i : Nat) : Nat := 0x800100 + 0x4000 * i
abbrev PEP_PORT_CTL_ROLE (i : Nat) : Fld := ⟨0x800100 + 0x4000 * i, 1, 0⟩
abbrev PEP_PORT_CTL_PART (i : Nat) : Fld := ⟨0x800100 + 0x4000 * i, 12, 8⟩
abbrev PEP_PORT_CTL_SLOT (i : Nat) : Fld := ⟨0x800100 + 0x4000 * i, 20, 16⟩
abbrev PEP_PORT_CTL_HOLD_DOWN (i : Nat) : Fld := ⟨0x800100 + 0x4000 * i, 24, 24⟩
abbrev PEP_LINK_CTL (i : Nat) : Nat := 0x800104 + 0x4000 * i
abbrev PEP_LINK_CTL_DISABLE (i : Nat) : Fld := ⟨0x800104 + 0x4000 * i, 0, 0⟩
abbrev PEP_LINK_CTL_HOT_RESET (i : Nat) : Fld := ⟨0x800104 + 0x4000 * i, 1, 1⟩
abbrev PEP_LINK_CTL_RETRAIN (i : Nat) : Fld := ⟨0x800104 + 0x4000 * i, 2, 2⟩
abbrev PEP_LINK_CTL_FLIT_EN (i : Nat) : Fld := ⟨0x800104 + 0x4000 * i, 3, 3⟩
abbrev PEP_LINK_CTL_MAX_RATE (i : Nat) : Fld := ⟨0x800104 + 0x4000 * i, 6, 4⟩
abbrev PEP_LATE_ERR (i : Nat) : Nat := 0x800108 + 0x4000 * i
abbrev PEP_LATE_ERR_POLICY (i : Nat) : Fld := ⟨0x800108 + 0x4000 * i, 0, 0⟩
abbrev PEP_TAG_CTL (i : Nat) : Nat := 0x80010C + 0x4000 * i
abbrev PEP_TAG_CTL_WIDTH (i : Nat) : Fld := ⟨0x80010C + 0x4000 * i, 1, 0⟩
abbrev PHY_OCTET_MODE (i : Nat) : Nat := 0x900100 + 0x4000 * i
abbrev PHY_OCTET_MODE_MODE (i : Nat) : Fld := ⟨0x900100 + 0x4000 * i, 2, 0⟩
abbrev PHY_OCTET_PORTS (i : Nat) : Nat := 0x900104 + 0x4000 * i
abbrev PHY_OCTET_PORTS_PORT0 (i : Nat) : Fld := ⟨0x900104 + 0x4000 * i, 5, 0⟩
abbrev PHY_OCTET_PORTS_EN0 (i : Nat) : Fld := ⟨0x900104 + 0x4000 * i, 7, 7⟩
abbrev PHY_OCTET_PORTS_PORT1 (i : Nat) : Fld := ⟨0x900104 + 0x4000 * i, 13, 8⟩
abbrev PHY_OCTET_PORTS_EN1 (i : Nat) : Fld := ⟨0x900104 + 0x4000 * i, 15, 15⟩
abbrev PHY_OCTET_PORTS_PORT2 (i : Nat) : Fld := ⟨0x900104 + 0x4000 * i, 21, 16⟩
abbrev PHY_OCTET_PORTS_EN2 (i : Nat) : Fld := ⟨0x900104 + 0x4000 * i, 23, 23⟩
abbrev PHY_OCTET_PORTS_PORT3 (i : Nat) : Fld := ⟨0x900104 + 0x4000 * i, 29, 24⟩
abbrev PHY_OCTET_PORTS_EN3 (i : Nat) : Fld := ⟨0x900104 + 0x4000 * i, 31, 31⟩
abbrev PHY_TEST_STS (i : Nat) : Nat := 0x901020 + 0x4000 * i
abbrev PHY_TEST_STS_LOCK (i : Nat) : Fld := ⟨0x901020 + 0x4000 * i, 8, 0⟩
abbrev PHY_TEST_STS_RATE (i : Nat) : Fld := ⟨0x901020 + 0x4000 * i, 18, 16⟩
abbrev PHY_TEST_STS_RESULT (i : Nat) : Fld := ⟨0x901020 + 0x4000 * i, 21, 20⟩
abbrev PHY_TEST_STS_LOOP_REFUSED (i : Nat) : Fld := ⟨0x901020 + 0x4000 * i, 22, 22⟩
abbrev PHY_EYE_STS (i : Nat) : Nat := 0x901024 + 0x4000 * i
abbrev PHY_EYE_STS_STATE (i : Nat) : Fld := ⟨0x901024 + 0x4000 * i, 1, 0⟩
abbrev PHY_EYE_STS_CAUSE (i : Nat) : Fld := ⟨0x901024 + 0x4000 * i, 3, 2⟩
abbrev PHY_EYE_STS_ERRORS (i : Nat) : Fld := ⟨0x901024 + 0x4000 * i, 31, 8⟩
abbrev PHY_LOOP_CTL (i : Nat) : Nat := 0x901100 + 0x4000 * i
abbrev PHY_LOOP_CTL_MODE (i : Nat) : Fld := ⟨0x901100 + 0x4000 * i, 1, 0⟩
abbrev PHY_LOOP_CTL_LANES (i : Nat) : Fld := ⟨0x901100 + 0x4000 * i, 15, 8⟩
abbrev PHY_PRBS_CTL (i : Nat) : Nat := 0x901104 + 0x4000 * i
abbrev PHY_PRBS_CTL_PATTERN (i : Nat) : Fld := ⟨0x901104 + 0x4000 * i, 2, 0⟩
abbrev PHY_PRBS_CTL_GEN_EN (i : Nat) : Fld := ⟨0x901104 + 0x4000 * i, 3, 3⟩
abbrev PHY_PRBS_CTL_CHK_EN (i : Nat) : Fld := ⟨0x901104 + 0x4000 * i, 4, 4⟩
abbrev PHY_PRBS_CTL_RATE (i : Nat) : Fld := ⟨0x901104 + 0x4000 * i, 7, 5⟩
abbrev PHY_PRBS_CTL_LANES (i : Nat) : Fld := ⟨0x901104 + 0x4000 * i, 15, 8⟩
abbrev PHY_EQ_CTL (i : Nat) : Nat := 0x901108 + 0x4000 * i
abbrev PHY_EQ_CTL_REEQ_THR (i : Nat) : Fld := ⟨0x901108 + 0x4000 * i, 15, 0⟩
abbrev PHY_EQ_CTL_REEQ_HOLD (i : Nat) : Fld := ⟨0x901108 + 0x4000 * i, 27, 16⟩
abbrev PHY_EQ_CTL_SUBPORT (i : Nat) : Fld := ⟨0x901108 + 0x4000 * i, 29, 28⟩
abbrev PHY_EQ_CTL_REDO (i : Nat) : Fld := ⟨0x901108 + 0x4000 * i, 31, 31⟩
abbrev PHY_TX_OVR (i j : Nat) : Nat := 0x901140 + 0x4000 * i + 0x4 * j
abbrev PHY_TX_OVR_PRE (i j : Nat) : Fld := ⟨0x901140 + 0x4000 * i + 0x4 * j, 3, 0⟩
abbrev PHY_TX_OVR_POST (i j : Nat) : Fld := ⟨0x901140 + 0x4000 * i + 0x4 * j, 12, 8⟩
abbrev PHY_TX_OVR_EN (i j : Nat) : Fld := ⟨0x901140 + 0x4000 * i + 0x4 * j, 16, 16⟩
abbrev PHY_EYE_CTL (i : Nat) : Nat := 0x90110C + 0x4000 * i
abbrev PHY_EYE_CTL_LANE (i : Nat) : Fld := ⟨0x90110C + 0x4000 * i, 3, 0⟩
abbrev PHY_EYE_CTL_GO (i : Nat) : Fld := ⟨0x90110C + 0x4000 * i, 4, 4⟩
abbrev PHY_EYE_CTL_STOP (i : Nat) : Fld := ⟨0x90110C + 0x4000 * i, 5, 5⟩
abbrev PHY_EYE_CTL_T_OFF (i : Nat) : Fld := ⟨0x90110C + 0x4000 * i, 14, 8⟩
abbrev PHY_EYE_CTL_V_OFF (i : Nat) : Fld := ⟨0x90110C + 0x4000 * i, 22, 16⟩
abbrev PHY_EYE_CTL_DWELL (i : Nat) : Fld := ⟨0x90110C + 0x4000 * i, 27, 24⟩
abbrev PHY_EYE_CTL_EYE (i : Nat) : Fld := ⟨0x90110C + 0x4000 * i, 29, 28⟩
abbrev PHY_RX_CTL (i j : Nat) : Nat := 0x901180 + 0x4000 * i + 0x4 * j
abbrev PHY_RX_CTL_FREEZE (i j : Nat) : Fld := ⟨0x901180 + 0x4000 * i + 0x4 * j, 0, 0⟩
abbrev PHY_RX_CTL_DFE_EN (i j : Nat) : Fld := ⟨0x901180 + 0x4000 * i + 0x4 * j, 1, 1⟩
abbrev PHY_RX_CTL_CTLE (i j : Nat) : Fld := ⟨0x901180 + 0x4000 * i + 0x4 * j, 7, 4⟩
abbrev PHY_RX_CTL_VGA (i j : Nat) : Fld := ⟨0x901180 + 0x4000 * i + 0x4 * j, 12, 8⟩
abbrev MFL_TEST_STS (i : Nat) : Nat := 0xA03020 + 0x8000 * i
abbrev MFL_TEST_STS_LOCK (i : Nat) : Fld := ⟨0xA03020 + 0x8000 * i, 8, 0⟩
abbrev MFL_TEST_STS_RATE (i : Nat) : Fld := ⟨0xA03020 + 0x8000 * i, 18, 16⟩
abbrev MFL_TEST_STS_RESULT (i : Nat) : Fld := ⟨0xA03020 + 0x8000 * i, 21, 20⟩
abbrev MFL_TEST_STS_LOOP_REFUSED (i : Nat) : Fld := ⟨0xA03020 + 0x8000 * i, 22, 22⟩
abbrev MFL_EYE_STS (i : Nat) : Nat := 0xA03024 + 0x8000 * i
abbrev MFL_EYE_STS_STATE (i : Nat) : Fld := ⟨0xA03024 + 0x8000 * i, 1, 0⟩
abbrev MFL_EYE_STS_CAUSE (i : Nat) : Fld := ⟨0xA03024 + 0x8000 * i, 3, 2⟩
abbrev MFL_EYE_STS_ERRORS (i : Nat) : Fld := ⟨0xA03024 + 0x8000 * i, 31, 8⟩
abbrev MFL_LOOP_CTL (i : Nat) : Nat := 0xA03100 + 0x8000 * i
abbrev MFL_LOOP_CTL_MODE (i : Nat) : Fld := ⟨0xA03100 + 0x8000 * i, 1, 0⟩
abbrev MFL_LOOP_CTL_LANES (i : Nat) : Fld := ⟨0xA03100 + 0x8000 * i, 16, 8⟩
abbrev MFL_PRBS_CTL (i : Nat) : Nat := 0xA03104 + 0x8000 * i
abbrev MFL_PRBS_CTL_PATTERN (i : Nat) : Fld := ⟨0xA03104 + 0x8000 * i, 2, 0⟩
abbrev MFL_PRBS_CTL_GEN_EN (i : Nat) : Fld := ⟨0xA03104 + 0x8000 * i, 3, 3⟩
abbrev MFL_PRBS_CTL_CHK_EN (i : Nat) : Fld := ⟨0xA03104 + 0x8000 * i, 4, 4⟩
abbrev MFL_PRBS_CTL_RATE (i : Nat) : Fld := ⟨0xA03104 + 0x8000 * i, 6, 5⟩
abbrev MFL_PRBS_CTL_LANES (i : Nat) : Fld := ⟨0xA03104 + 0x8000 * i, 16, 8⟩
abbrev MFL_TX_EQ (i : Nat) : Nat := 0xA03108 + 0x8000 * i
abbrev MFL_TX_EQ_PRE (i : Nat) : Fld := ⟨0xA03108 + 0x8000 * i, 3, 0⟩
abbrev MFL_TX_EQ_POST (i : Nat) : Fld := ⟨0xA03108 + 0x8000 * i, 12, 8⟩
abbrev MFL_TX_EQ_AMP (i : Nat) : Fld := ⟨0xA03108 + 0x8000 * i, 19, 16⟩
abbrev MFL_EYE_CTL (i : Nat) : Nat := 0xA0310C + 0x8000 * i
abbrev MFL_EYE_CTL_LANE (i : Nat) : Fld := ⟨0xA0310C + 0x8000 * i, 3, 0⟩
abbrev MFL_EYE_CTL_GO (i : Nat) : Fld := ⟨0xA0310C + 0x8000 * i, 4, 4⟩
abbrev MFL_EYE_CTL_STOP (i : Nat) : Fld := ⟨0xA0310C + 0x8000 * i, 5, 5⟩
abbrev MFL_EYE_CTL_T_OFF (i : Nat) : Fld := ⟨0xA0310C + 0x8000 * i, 14, 8⟩
abbrev MFL_EYE_CTL_V_OFF (i : Nat) : Fld := ⟨0xA0310C + 0x8000 * i, 22, 16⟩
abbrev MFL_EYE_CTL_DWELL (i : Nat) : Fld := ⟨0xA0310C + 0x8000 * i, 27, 24⟩
abbrev MFL_EYE_CTL_EYE (i : Nat) : Fld := ⟨0xA0310C + 0x8000 * i, 29, 28⟩
abbrev MFL_RX_CTL (i j : Nat) : Nat := 0xA03180 + 0x8000 * i + 0x4 * j
abbrev MFL_RX_CTL_FREEZE (i j : Nat) : Fld := ⟨0xA03180 + 0x8000 * i + 0x4 * j, 0, 0⟩
abbrev MFL_RX_CTL_DFE_EN (i j : Nat) : Fld := ⟨0xA03180 + 0x8000 * i + 0x4 * j, 1, 1⟩
abbrev MFL_RX_CTL_CTLE (i j : Nat) : Fld := ⟨0xA03180 + 0x8000 * i + 0x4 * j, 7, 4⟩
abbrev MFL_RX_CTL_VGA (i j : Nat) : Fld := ⟨0xA03180 + 0x8000 * i + 0x4 * j, 12, 8⟩
abbrev MFL_LINK_STS (i : Nat) : Nat := 0xA00020 + 0x8000 * i
abbrev MFL_LINK_STS_STATE (i : Nat) : Fld := ⟨0xA00020 + 0x8000 * i, 3, 0⟩
abbrev MFL_LINK_STS_SPEED (i : Nat) : Fld := ⟨0xA00020 + 0x8000 * i, 5, 4⟩
abbrev MFL_LINK_STS_WIDTH (i : Nat) : Fld := ⟨0xA00020 + 0x8000 * i, 7, 6⟩
abbrev MFL_LINK_STS_SPARE_FOR (i : Nat) : Fld := ⟨0xA00020 + 0x8000 * i, 11, 8⟩
abbrev MFL_LINK_STS_REVERSED (i : Nat) : Fld := ⟨0xA00020 + 0x8000 * i, 12, 12⟩
abbrev MFL_LINK_STS_PEER_FID (i : Nat) : Fld := ⟨0xA00020 + 0x8000 * i, 19, 16⟩
abbrev MFL_LINK_STS_XOFF_RX (i : Nat) : Fld := ⟨0xA00020 + 0x8000 * i, 24, 20⟩
abbrev MFL_LINK_STS_XOFF_TX (i : Nat) : Fld := ⟨0xA00020 + 0x8000 * i, 29, 25⟩
abbrev MFL_SEQ_STS (i : Nat) : Nat := 0xA00024 + 0x8000 * i
abbrev MFL_SEQ_STS_NEXT_TX (i : Nat) : Fld := ⟨0xA00024 + 0x8000 * i, 11, 0⟩
abbrev MFL_SEQ_STS_NEXT_RX (i : Nat) : Fld := ⟨0xA00024 + 0x8000 * i, 27, 16⟩
abbrev MFL_REPLAY_STS (i : Nat) : Nat := 0xA00028 + 0x8000 * i
abbrev MFL_REPLAY_STS_UNACKED (i : Nat) : Fld := ⟨0xA00028 + 0x8000 * i, 11, 0⟩
abbrev MFL_REPLAY_STS_BYTES (i : Nat) : Fld := ⟨0xA00028 + 0x8000 * i, 31, 12⟩
abbrev MFL_RTT (i : Nat) : Nat := 0xA0002C + 0x8000 * i
abbrev MFL_RTT_NS (i : Nat) : Fld := ⟨0xA0002C + 0x8000 * i, 15, 0⟩
abbrev MFL_HEADROOM (i : Nat) : Nat := 0xA00030 + 0x8000 * i
abbrev MFL_HEADROOM_CELLS (i : Nat) : Fld := ⟨0xA00030 + 0x8000 * i, 12, 0⟩
abbrev MFL_TSYNC_STS (i : Nat) : Nat := 0xA00034 + 0x8000 * i
abbrev MFL_TSYNC_STS_OFFSET (i : Nat) : Fld := ⟨0xA00034 + 0x8000 * i, 15, 0⟩
abbrev MFL_TSYNC_STS_DELAY (i : Nat) : Fld := ⟨0xA00034 + 0x8000 * i, 31, 16⟩
abbrev MFL_AL_LOCK (i : Nat) : Nat := 0xA00038 + 0x8000 * i
abbrev MFL_AL_LOCK_LOCK (i : Nat) : Fld := ⟨0xA00038 + 0x8000 * i, 7, 0⟩
abbrev MFL_AL_LOCK_LOSS (i : Nat) : Fld := ⟨0xA00038 + 0x8000 * i, 15, 8⟩
abbrev MFL_AL_LOCK_LOCKED (i : Nat) : Fld := ⟨0xA00038 + 0x8000 * i, 24, 16⟩
abbrev MFL_LINK_CTL (i : Nat) : Nat := 0xA00100 + 0x8000 * i
abbrev MFL_LINK_CTL_ENABLE (i : Nat) : Fld := ⟨0xA00100 + 0x8000 * i, 0, 0⟩
abbrev MFL_LINK_CTL_RETRAIN (i : Nat) : Fld := ⟨0xA00100 + 0x8000 * i, 1, 1⟩
abbrev MFL_LINK_CTL_CHANGE (i : Nat) : Fld := ⟨0xA00100 + 0x8000 * i, 2, 2⟩
abbrev MFL_LINK_CTL_SPEED (i : Nat) : Fld := ⟨0xA00100 + 0x8000 * i, 5, 4⟩
abbrev MFL_LINK_CTL_WIDTH (i : Nat) : Fld := ⟨0xA00100 + 0x8000 * i, 7, 6⟩
abbrev MFL_ACK_CTL (i : Nat) : Nat := 0xA00104 + 0x8000 * i
abbrev MFL_ACK_CTL_ACK_N (i : Nat) : Fld := ⟨0xA00104 + 0x8000 * i, 7, 0⟩
abbrev MFL_ACK_CTL_ACK_T (i : Nat) : Fld := ⟨0xA00104 + 0x8000 * i, 20, 8⟩
abbrev MFL_REPLAY_LIMIT (i : Nat) : Nat := 0xA00108 + 0x8000 * i
abbrev MFL_REPLAY_LIMIT_LIMIT (i : Nat) : Fld := ⟨0xA00108 + 0x8000 * i, 3, 0⟩
abbrev MFL_REPLAY_CTL (i : Nat) : Nat := 0xA0010C + 0x8000 * i
abbrev MFL_REPLAY_CTL_TMO (i : Nat) : Fld := ⟨0xA0010C + 0x8000 * i, 12, 0⟩
abbrev MFL_REPLAY_CTL_WIN_KIB (i : Nat) : Fld := ⟨0xA0010C + 0x8000 * i, 25, 16⟩
abbrev MFL_TSYNC_CTL (i : Nat) : Nat := 0xA00110 + 0x8000 * i
abbrev MFL_TSYNC_CTL_PERIOD_US (i : Nat) : Fld := ⟨0xA00110 + 0x8000 * i, 19, 0⟩
abbrev MFL_TSYNC_CORR (i : Nat) : Nat := 0xA00114 + 0x8000 * i
abbrev MFL_TSYNC_CORR_CORR (i : Nat) : Fld := ⟨0xA00114 + 0x8000 * i, 15, 0⟩
abbrev MFL_LANE_ERR (i j : Nat) : Nat := 0xA01020 + 0x8000 * i + 0x4 * j
abbrev MFL_LANE_ERR_R (i j : Nat) : Fld := ⟨0xA01020 + 0x8000 * i + 0x4 * j, 23, 0⟩
abbrev MFL_LANE_MAP (i : Nat) : Nat := 0xA01100 + 0x8000 * i
abbrev MFL_LANE_MAP_SPARE_FOR (i : Nat) : Fld := ⟨0xA01100 + 0x8000 * i, 3, 0⟩
abbrev MFL_LANE_MAP_GO (i : Nat) : Fld := ⟨0xA01100 + 0x8000 * i, 8, 8⟩
abbrev MFL_LANE_GOV (i : Nat) : Nat := 0xA01104 + 0x8000 * i
abbrev MFL_LANE_GOV_EN (i : Nat) : Fld := ⟨0xA01104 + 0x8000 * i, 0, 0⟩
abbrev MFL_LANE_GOV_HYST (i : Nat) : Fld := ⟨0xA01104 + 0x8000 * i, 7, 4⟩
abbrev MFL_LANE_GOV_MIN_WIDTH (i : Nat) : Fld := ⟨0xA01104 + 0x8000 * i, 9, 8⟩
abbrev MFL_LANE_THR (i : Nat) : Nat := 0xA01108 + 0x8000 * i
abbrev MFL_LANE_THR_SPARE_THR (i : Nat) : Fld := ⟨0xA01108 + 0x8000 * i, 15, 0⟩
abbrev MFL_LANE_THR_NARROW_THR (i : Nat) : Fld := ⟨0xA01108 + 0x8000 * i, 31, 16⟩
abbrev MFL_AUTH_STS (i : Nat) : Nat := 0xA02020 + 0x8000 * i
abbrev MFL_AUTH_STS_RESULT (i : Nat) : Fld := ⟨0xA02020 + 0x8000 * i, 2, 0⟩
abbrev MFL_AUTH_STS_CAUSE (i : Nat) : Fld := ⟨0xA02020 + 0x8000 * i, 6, 4⟩
abbrev MFL_AUTH_STS_CHAIN_LEFT (i : Nat) : Fld := ⟨0xA02020 + 0x8000 * i, 18, 8⟩
abbrev MFL_AUTH_EN (i : Nat) : Nat := 0xA02100 + 0x8000 * i
abbrev MFL_AUTH_EN_EN (i : Nat) : Fld := ⟨0xA02100 + 0x8000 * i, 15, 0⟩
abbrev MFL_AUTH_EN_REAUTH (i : Nat) : Fld := ⟨0xA02100 + 0x8000 * i, 16, 16⟩
abbrev DEV_STRAY_ACCESS : Nat := 0x808
abbrev DEV_PARTIAL_WRITE : Nat := 0x810
abbrev DEV_DRAIN_DROP : Nat := 0x818
abbrev DEV_MODE_REFUSED : Nat := 0x820
abbrev CLK_RST_IGNORED : Nat := 0x4808
abbrev CLK_SUBSYS_RST : Nat := 0x4810
abbrev SEC_VERIFIES : Nat := 0x8808
abbrev SEC_SIGNS : Nat := 0x8810
abbrev SEC_DEBUG_DENIALS : Nat := 0x8818
abbrev MGT_FAILOVERS : Nat := 0xC808
abbrev MGT_WDOG_EXPIRE : Nat := 0xC810
abbrev MGT_SRAM_CE : Nat := 0xC818
abbrev MGT_FOREIGN_WR : Nat := 0xC820
abbrev MGT_SWAP_REFUSED : Nat := 0xC828
abbrev MGT_RST_DISCARD : Nat := 0xC830
abbrev MGT_MPU_FAULTS : Nat := 0xD808
abbrev MGT_HCMD_MERGED : Nat := 0xE808
abbrev MGT_MBX_ENQ : Nat := 0xE810
abbrev MGT_MBX_RRS : Nat := 0xE818
abbrev MGT_SQ_ENQ : Nat := 0xF808
abbrev MGT_SQ_DROP : Nat := 0xF810
abbrev CUL_RST_DISCARD : Nat := 0x10808
abbrev CUL_TIMEOUTS : Nat := 0x10810
abbrev CUL_DEAD_FAIL : Nat := 0x10818
abbrev CUL_PF_HIT : Nat := 0x10820
abbrev CUL_EXT_GRANTS : Nat := 0x10828
abbrev SPV_TRIPS (i : Nat) : Nat := 0x28808 + 0x1000 * i
abbrev SPV_FAST_TRIPS (i : Nat) : Nat := 0x28810 + 0x1000 * i
abbrev SPV_RETRIES (i : Nat) : Nat := 0x28818 + 0x1000 * i
abbrev SPV_REMOVALS (i : Nat) : Nat := 0x28820 + 0x1000 * i
abbrev SPV_PG_LOST (i : Nat) : Nat := 0x28828 + 0x1000 * i
abbrev ERR_RECORDS : Nat := 0x50808
abbrev ERR_SUPPRESSED : Nat := 0x50810
abbrev ERR_FURROW_LINK_RX : Nat := 0x50818
abbrev ERR_ISO_DROP : Nat := 0x50820
abbrev ERR_ISO_ENTRIES : Nat := 0x50828
abbrev ERR_SCRUB_FIXED : Nat := 0x50830
abbrev ERR_RING_LOST : Nat := 0x50838
abbrev ERR_ESCALATIONS : Nat := 0x50840
abbrev SWC_CT_FRAMES : Nat := 0x100808
abbrev SWC_CT_FALLBACK : Nat := 0x100810
abbrev SWC_LATE_ERR : Nat := 0x100818
abbrev SWC_UNDERRUN : Nat := 0x100820
abbrev SWC_SF_DISCARD : Nat := 0x100828
abbrev BUF_EVICT : Nat := 0x110808
abbrev BUF_LIVE_REFUSED : Nat := 0x110810
abbrev BUF_AGE_P : Nat := 0x110818
abbrev BUF_AGE_NP : Nat := 0x110820
abbrev BUF_AGE_CPL : Nat := 0x110828
abbrev BUF_FLUSH_P : Nat := 0x110830
abbrev BUF_FLUSH_NP : Nat := 0x110838
abbrev BUF_FLUSH_CPL : Nat := 0x110840
abbrev BUF_STALE_CPL : Nat := 0x110848
abbrev BUF_LEDGER_LOST : Nat := 0x110850
abbrev MAP_MISS_P : Nat := 0x120808
abbrev MAP_MISS_NP : Nat := 0x120810
abbrev MAP_OVERLAP : Nat := 0x120818
abbrev MAP_DROP : Nat := 0x120820
abbrev MAP_NOROUTE : Nat := 0x120828
abbrev MAP_COMMIT_COLLIDE : Nat := 0x120830
abbrev MAP_ECRC_REFUSED : Nat := 0x120838
abbrev MAP_PROXY_STALE : Nat := 0x120840
abbrev MAP_ID_MISS : Nat := 0x120848
abbrev MAP_NOROUTE_CPL : Nat := 0x120850
abbrev MAP_FAILOVERS : Nat := 0x122808
abbrev MAP_REMOTE_REG_FAIL : Nat := 0x122810
abbrev MCM_BAD_GROUP : Nat := 0x140808
abbrev MCM_COPIES : Nat := 0x140810
abbrev MCM_LINK_NOROUTE : Nat := 0x140818
abbrev MCM_LINK_SUBST : Nat := 0x140820
abbrev MCM_MIRROR_REC (i : Nat) : Nat := 0x141808 + 0x8 * i
abbrev MCM_MIRROR_DROP (i : Nat) : Nat := 0x141828 + 0x8 * i
abbrev MCM_SAMPLED (i : Nat) : Nat := 0x141848 + 0x8 * i
abbrev ACL_DENY_P : Nat := 0x130808
abbrev ACL_DENY_NP : Nat := 0x130810
abbrev ACL_ACS_VIOL : Nat := 0x130818
abbrev ACL_REC_SUPPRESSED : Nat := 0x130820
abbrev ACL_SWEEPS : Nat := 0x130828
abbrev SLU_FLIPS : Nat := 0x150808
abbrev SLU_ARM_REFUSED : Nat := 0x150810
abbrev SLU_ARM_COLLIDE : Nat := 0x150818
abbrev SLU_FS_EDGES : Nat := 0x150820
abbrev SLU_FS_FLYWHEEL : Nat := 0x150828
abbrev SLU_FS_STRAY : Nat := 0x150830
abbrev SLU_FORCED : Nat := 0x150838
abbrev ENG_DESC_DONE (i : Nat) : Nat := 0x200808 + 0x1000 * i
abbrev ENG_BYTES_RD (i : Nat) : Nat := 0x200810 + 0x1000 * i
abbrev ENG_BYTES_WR (i : Nat) : Nat := 0x200818 + 0x1000 * i
abbrev ENG_HALTS (i : Nat) : Nat := 0x200820 + 0x1000 * i
abbrev ENG_POISON_FILL (i : Nat) : Nat := 0x200828 + 0x1000 * i
abbrev ENG_CTO_HALT (i : Nat) : Nat := 0x200830 + 0x1000 * i
abbrev ENG_LATE_CPL (i : Nat) : Nat := 0x200838 + 0x1000 * i
abbrev ENG_DISCARDED (i : Nat) : Nat := 0x200840 + 0x1000 * i
abbrev ENG_FENCE_IMPLICIT (i : Nat) : Nat := 0x200848 + 0x1000 * i
abbrev ENG_DB_REFUSED (i : Nat) : Nat := 0x200850 + 0x1000 * i
abbrev ENG_ABORT_TMO (i : Nat) : Nat := 0x200858 + 0x1000 * i
abbrev VIM_RRS (i : Nat) : Nat := 0x400808 + 0x1000 * i
abbrev VIM_MED_WR (i : Nat) : Nat := 0x400810 + 0x1000 * i
abbrev VIM_FOREIGN_WR (i : Nat) : Nat := 0x400818 + 0x1000 * i
abbrev VIM_FORCED_RESETS (i : Nat) : Nat := 0x400820 + 0x1000 * i
abbrev VIM_ABANDONED (i : Nat) : Nat := 0x400828 + 0x1000 * i
abbrev PEP_UR_GEN (i : Nat) : Nat := 0x800808 + 0x4000 * i
abbrev PEP_IDE_REFUSED (i : Nat) : Nat := 0x800810 + 0x4000 * i
abbrev PEP_CFG_REFUSED (i : Nat) : Nat := 0x800818 + 0x4000 * i
abbrev PEP_DPC_ENTRIES (i : Nat) : Nat := 0x800820 + 0x4000 * i
abbrev PHY_CFG_REFUSED (i : Nat) : Nat := 0x900808 + 0x4000 * i
abbrev PHY_PRBS_ERR (i j : Nat) : Nat := 0x902808 + 0x4000 * i + 0x8 * j
abbrev PHY_PRBS_BITS (i j : Nat) : Nat := 0x902848 + 0x4000 * i + 0x8 * j
abbrev PHY_RX_ERR (i j : Nat) : Nat := 0x902888 + 0x4000 * i + 0x8 * j
abbrev PHY_REEQ (i : Nat) : Nat := 0x9028C8 + 0x4000 * i
abbrev MFL_PRBS_ERR (i j : Nat) : Nat := 0xA03808 + 0x8000 * i + 0x8 * j
abbrev MFL_PRBS_BITS (i j : Nat) : Nat := 0xA03850 + 0x8000 * i + 0x8 * j
abbrev MFL_TX_PKTS (i : Nat) : Nat := 0xA00808 + 0x8000 * i
abbrev MFL_RX_PKTS (i : Nat) : Nat := 0xA00810 + 0x8000 * i
abbrev MFL_NAK_TX (i : Nat) : Nat := 0xA00818 + 0x8000 * i
abbrev MFL_REPLAYS (i : Nat) : Nat := 0xA00820 + 0x8000 * i
abbrev MFL_REPLAY_TMO (i : Nat) : Nat := 0xA00828 + 0x8000 * i
abbrev MFL_DUP_RX (i : Nat) : Nat := 0xA00830 + 0x8000 * i
abbrev MFL_NULL_RX (i : Nat) : Nat := 0xA00838 + 0x8000 * i
abbrev MFL_RETRAINS (i : Nat) : Nat := 0xA00840 + 0x8000 * i
abbrev MFL_LINK_DOWNS (i : Nat) : Nat := 0xA00848 + 0x8000 * i
abbrev MFL_REPLAY_LOST (i : Nat) : Nat := 0xA00850 + 0x8000 * i
abbrev MFL_XOFF_TX (i : Nat) : Nat := 0xA00858 + 0x8000 * i
abbrev MFL_HUNT_WRAP (i : Nat) : Nat := 0xA00860 + 0x8000 * i
abbrev MFL_TSYNC_DISCARD (i : Nat) : Nat := 0xA00868 + 0x8000 * i
abbrev MFL_LANE_BAD (i j : Nat) : Nat := 0xA01808 + 0x8000 * i + 0x8 * j
abbrev MFL_AUTH_FULL (i : Nat) : Nat := 0xA02808 + 0x8000 * i
abbrev MFL_AUTH_RESUME (i : Nat) : Nat := 0xA02810 + 0x8000 * i
abbrev MFL_AUTH_FAIL (i : Nat) : Nat := 0xA02818 + 0x8000 * i

end Sys2Proof.Machine.R
end

