-- ==== Sys2Proof/Machine/State.lean ====
section
/-! DEFINITION. The state of the part as plain data: every register, counter and table of the register space as sparse
stores over the reset values of the register map, the frames and queues, and what each subsystem keeps beside its
registers; the queue of commands; reset. -/

namespace Sys2Proof.Machine

/-! ### Register accesses, time and gates -/

/-- The time base and its discipline (R132, R134). `sub` is what lies below 2^-16 ns, in units of
1 / (5 · 10^9 · 2^16) of it (log entry 6); `era` counts steps (R136). -/
structure TimeBase where
  time : W80 := 0
  sub : Nat := 0
  /-- Rate correction in units of 2^-16 parts per thousand million. -/
  rate : Int := 0
  good : Nat := 0
  /-- Core cycle of the last reference event, or of the last change of SRC (R135). -/
  lastRef : Nat := 0
  era : Nat := 0
  deriving DecidableEq, Repr

/-- The FRAME_SYNC tracker (R138, R139). -/
structure FrameSync where
  /-- Capture of the last counted edge, real or flywheel. -/
  last : Option W80 := none
  lastReal : Bool := false
  /-- An expected edge was missed since the last counted edge. -/
  missed : Bool := false
  /-- The time from which the next edge is expected one period later. -/
  base : W80 := 0
  /-- Measured intervals, latest first, in 2^-16 ns, at most sixteen. -/
  intervals : List Nat := []
  /-- Offsets of consecutive stray edges from their expected times, latest first. -/
  strays : List Int := []
  /-- Expected periods without an edge. -/
  quiet : Nat := 0
  deriving DecidableEq, Repr

/-- A commit that has fired, or a forced bank: from `instant` on the group selects `bank` (R141, R146). -/
structure Fired where
  instant : Nat
  bank : Bool
  era : Nat
  deriving DecidableEq, Repr

/-- A latch of R41 and R133: which counter (or 0x20 for the time base, 0x30 for FS_LAST) and what it held. -/
structure Latch where
  off : Nat := 0
  high : Nat := 0
  valid : Bool := false
  deriving DecidableEq, Repr

/-! ### The switch core and the buffer -/

/-- The pools of R53. -/
inductive Pool where
  | ordered | live | completion | management | ledger
  deriving DecidableEq, Repr

/-- Where a frame was formed: on a link, by an engine for an instance, or by the part itself at core port 88. -/
inductive Origin where
  | link
  | engine (inst : Nat)
  | device
  deriving DecidableEq, Repr

/-- A frame held in the buffer, with what its cell descriptor carries (R18, R22, R51, R127, R148). -/
structure Frame where
  id : Nat
  tlp : Tlp
  /-- The furrow word carried (R289). -/
  furrow : W32 := 0
  ingress : Nat
  origin : Origin := .link
  /-- Ingress timestamp and the era of the time base it was taken in (R136, R140). -/
  stamp : Nat := 0
  era : Nat := 0
  /-- Core cycle of the ingress timestamp: age is counted from it (R75, R77). -/
  born : Nat := 0
  live : Bool := false
  prio : Nat := 0
  pool : Pool := .ordered
  /-- Physical bank of each cell (R51). -/
  banks : List Nat := []
  /-- Every cell is stored and the ingress link check has passed. -/
  whole : Bool := true
  ruleEpoch : Nat := 0
  /-- Stamped before the latest ACL_SWEEP (R128). -/
  older : Bool := false
  part : Option Nat := none
  window : Nat := 0xFFFF
  gate : Nat := 0
  bank : Bool := false
  lookedUp : Bool := false
  fseq : Nat := 0
  /-- Tag record of a non-posted request (R102). -/
  record : Option Nat := none
  /-- Port epoch of the ingress port as the frame entered (R82). -/
  epoch : Nat := 0
  mcast : Bool := false
  group : Nat := 0
  srcFid : Nat := 0
  deriving DecidableEq, Repr

/-- What the packet's owner has to be told, and what its departure means, beyond the packet itself. -/
inductive Purpose where
  | data
  | ledgerRec (ring : Nat)
  | ledgerIdx (ring : Nat)
  | recordRec (part : Nat)
  | recordIdx (part : Nat)
  | mirror (session : Nat)
  | mgmt
  deriving DecidableEq, Repr

/-- One copy of a frame in an egress queue (R58, R82). -/
structure Copy where
  id : Nat := 0
  frame : Nat
  egress : Nat
  queue : Nat
  /-- Address with which the copy leaves (R100, R110). -/
  addr : W64 := 0
  portEpoch : Nat := 0
  /-- Cut-through: requested while the copy waits (R61), its effective mode once it has started (R62). -/
  ct : Bool := false
  /-- In transmission. -/
  sending : Bool := false
  /-- Cells that the bank arbiters have read for it (R17, R59). -/
  cellsRead : Nat := 0
  /-- Begun in transmission after an underrun, whole (R65). -/
  resend : Bool := false
  ring : Option Nat := none
  /-- Requester ID and tag with which the copy leaves, when changed (R101, R102). -/
  newReqId : Option (BitVec 16) := none
  newTag : Option (BitVec 14) := none
  /-- Destination fabric ID and core port of the link header (R105). -/
  dstFid : Nat := 0
  dest : Nat := 0
  purpose : Purpose := .data
  /-- Core cycle at which the copy's transmission began. -/
  started : Nat := 0
  /-- As it started, its egress could end it by entering DPC alone (R62, R218). -/
  contain : Bool := false
  /-- Queued for the port before the fifteenth link-down of the running flush (R85). -/
  condemned : Bool := false
  /-- An injected error it meets as it leaves: type of ERR_INJECT (R300); the furrow words carried and computed where they
  differ at an engine (R301). -/
  spoilt : Option Nat := none
  furrows : Option (W32 × W32) := none
  /-- Sent on a Moaben link, sequence number not yet acknowledged (R129, R244). -/
  unacked : Bool := false
  /-- Stamped before the latest ACL_SWEEP (R128). -/
  older : Bool := false
  deriving DecidableEq, Repr

/-- What a waiting frame waits for (R55, R101, R227, R465). -/
inductive WaitFor where
  | reservation
  | proxyTag
  | originatedTag
  | pool
  /-- An earlier non-posted request of its ingress, egress and traffic class that waits for a proxy tag (R23). -/
  | order
  deriving DecidableEq, Repr

/-- A frame that waits at its ingress, at the switch core or at its point of origin, with the copies it will have. -/
structure Waiting where
  frame : Frame
  need : WaitFor
  copies : List Copy := []
  deriving DecidableEq, Repr

/-- The tag record of a non-posted request, with its reservation; a proxy record when `proxy` is set (R101, R102). -/
structure TagRec where
  id : Nat
  reqId : BitVec 16
  tag : BitVec 14
  ingress : Nat
  /-- Port epoch of the ingress port at entry (R82, R86). -/
  epoch : Nat := 0
  fid : Nat := 0
  part : Option Nat := none
  /-- Cells still reserved (R55). -/
  reserved : Nat := 0
  /-- Core cycle of the admission. -/
  admitted : Nat := 0
  /-- Proxy requester ID and tag, and the partition whose management function lends them. -/
  proxy : Option (BitVec 16 × BitVec 14 × Nat) := none
  window : Nat := 0xFFFF
  older : Bool := false
  /-- Retired, its reservation held until its Unsupported Request has left (R55). -/
  ended : Bool := false
  /-- Issued by an engine: tracked there (R102, R177). -/
  engine : Bool := false
  /-- Core cycle at which the request left, when it has (R394 CPL_LATENCY), and the port it left at. -/
  left : Option (Nat × Nat) := none
  live : Bool := false
  deriving DecidableEq, Repr

/-- What the part keeps for one core port (R60, R70, R82 to R85, R298, R51). -/
structure PortSt where
  up : Bool := false
  /-- ASPM L1 (R225). -/
  l1 : Bool := false
  epoch : Nat := 0
  flushing : Bool := false
  flushAll : Bool := false
  /-- Link-downs of the running flush (R85). -/
  downs : Nat := 0
  /-- Class of the last fifteen frame starts, latest first: true for an ordered one (R60). -/
  starts : List Bool := []
  /-- Rotating pointers: queue class, then type within each class (R59, R60). -/
  classPtr : Nat := 3
  typePtrs : List Nat := [2, 2, 2, 2]
  /-- Rotating pointer over the logical banks (R51). -/
  bankPtr : Nat := 15
  /-- Live frames received (R80 FSEQ). -/
  fseq : Nat := 0
  /-- The weir governor's counts and the interval's peak charge (R70). -/
  weirUp : Nat := 0
  weirDown : Nat := 0
  weirPeak : Nat := 0
  /-- Core cycles of the interval in which the port withheld credits or held XOFF because of its own weir (R70). -/
  withheld : Nat := 0
  /-- Cells that the credits a PCIe port has advertised could still bring (R67). -/
  credit : Nat := 0
  /-- Core cycles of the errors counted towards PORT_THR (R298). -/
  errors : List Nat := []
  /-- XOFF sent on VC0 and VC1 (R68). -/
  xoff : Bool := false
  /-- Time idle towards the next slot, in 1/80 ns (R392). -/
  idle : Nat := 0
  /-- Core cycle of the last equalisation redo, and whether one is still under way (R288). -/
  redoAt : Option Nat := none
  redoing : Bool := false
  deriving DecidableEq, Repr

/-- A ledger record waiting in the device ledger queue (R80, R81): its fields but LAP, which the write fills in. -/
structure LedgerRec where
  ring : Nat
  time : Nat
  addr : W64
  len : Nat
  reason : Nat
  prio : Nat
  arrival : Bool
  mcast : Bool
  window : Nat
  ingress : Nat
  fseq : Nat
  egress : Nat
  deriving DecidableEq, Repr

structure Switch where
  frames : List Frame := []
  /-- Every copy of every queue; the order of one queue is the order of this list (R58). -/
  copies : List Copy := []
  waiting : List Waiting := []
  tags : List TagRec := []
  nextId : Nat := 0
  ports : Store PortSt := []
  ledgerQ : List LedgerRec := []
  /-- Rings with a PROD writeback due (R81). -/
  ledgerDue : List Nat := []
  /-- First core cycle in which each physical bank has a free write slot (R17, R51). -/
  writeSlots : Store Nat := []
  /-- Last winners of the arbiters of bank writes and bank reads, by physical bank, and of the crossbar path to each
  egress, 88 where none has won yet (R59). -/
  writeWinner : Store Nat := []
  readWinner : Store Nat := []
  pathWinner : Store Nat := []
  /-- Core cycles of the corrected errors of each logical bank within the last second (R87). -/
  bankCe : Store (List Nat) := []
  deriving DecidableEq, Repr

/-! ### Sweep, mirrors, samplers, errors -/

/-- The rule sweep (R128 to R131): core cycle of the latest write, and whether it still waits for requests. -/
structure Sweep where
  start : Nat := 0
  /-- Core cycle, from 1, of the last write that started a sweep, and the epoch before the first one of that cycle (R128). -/
  wrote : Nat := 0
  before : Nat := 0
  waitNp : Bool := false
  deriving DecidableEq, Repr

/-- The core cycle, counted from 1, of the last good MAP_COMMIT, its index, and both banks of the entry as lookups of that
cycle still see them (R98). -/
structure OldEntry where
  cycle : Nat
  index : Nat
  a : W256
  b : W256
  deriving DecidableEq, Repr

/-- A page's events in one core cycle, counted from 1 (R37): has one occurred, and what the clears of that cycle took away: their
number, the EVENTS bits, and EVT_FIRST as it was. -/
structure EvtCycle where
  cycle : Nat := 0
  raised : Bool := false
  clears : Nat := 0
  cleared : Nat := 0
  first : W32 := 0
  deriving DecidableEq, Repr

/-- A mirror capture that waits to be written to its ring (R115, R117). -/
structure Capture where
  header : W256
  bytes : List Byte
  /-- Management-pool cells that its writes take (R116). -/
  cells : Nat := 0
  deriving DecidableEq, Repr

/-- A mirror or sample session (R114 to R118). -/
structure Session where
  seq : Nat := 0
  count : Nat := 0
  captures : List Capture := []
  writeback : Bool := false
  deriving DecidableEq, Repr

/-- An occurrence that has triggered a capture not yet made: its frame, its core cycle, and what was sampled (R398). -/
structure SampleDue where
  cause : Option Frame
  since' : Nat
  event : Nat
  port : Nat
  deriving DecidableEq, Repr

/-- A sampler's counts (R397, R399), and its captures due, oldest first. -/
structure Sampler where
  count : Nat := 0
  seq : Nat := 0
  due : List SampleDue := []
  deriving DecidableEq, Repr

/-- Error records of one CODE (R304): core cycles of those written, and the number suppressed since. -/
structure CodeSt where
  times : List Nat := []
  suppressed : Nat := 0
  deriving DecidableEq, Repr

/-- A routing-table entry with a bad copy (R293): table as R302 numbers it, index, and which copies are bad. -/
structure BadEntry where
  table : Nat
  index : Nat
  copy0 : Bool
  copy1 : Bool
  deriving DecidableEq, Repr

/-- A containment action that waits for the one under way to end (R299): level PORT or LINK at a core port, INSTANCE, or
PARTITION (R297). -/
inductive Action where
  | port (n : Nat)
  | inst (i : Nat)
  | part (p : Nat)
  deriving DecidableEq, Repr

/-- Error handling (R297 to R311). -/
structure ErrSt where
  /-- Records made, suppressed ones included (R301 SEQ). -/
  seq : Nat := 0
  codes : Store CodeSt := []
  /-- Core cycles of the denial records of R125. -/
  denials : List Nat := []
  bad : List BadEntry := []
  /-- Records on their way to host rings: partition and bytes (R305). -/
  ringQ : List (Nat × List Byte) := []
  ringDue : List Nat := []
  /-- The armed injection: TYPE, PORT and copies left (ERR_INJECT). -/
  inject : Option (Nat × Nat × Nat) := none
  /-- Isolation: SEQ of the causing record, time of entry, copies dropped (R302, R308). -/
  isoCause : Nat := 0xFFFFFFFF
  isoTime : Nat := 0
  isoDropped : Nat := 0
  /-- Actions of errors found while the entry to ISOLATE runs (R299). -/
  deferred : List Action := []
  /-- The widest action of the core cycle in which it was taken: level DEVICE, or the PARTITION named (R299). -/
  wide : Option (Nat × Option Nat) := none
  /-- Routing-table entries written, and the core cycle of it, in which the scrubber skips them (R294). -/
  wrote : List (Nat × Nat) := []
  wroteAt : Nat := 0
  /-- Records placed in the log since the device-wide reset (R303). -/
  logged : Nat := 0
  deriving DecidableEq, Repr

/-! ### Engines and instances -/

/-- Source bytes received for a descriptor, at an offset of its source stream (R178). -/
structure Seg where
  off : Nat
  data : List Byte
  poison : Bool
  deriving DecidableEq, Repr

/-- One entry of a ring's destination set (R170): window, egress core port, fabric ID, traffic class, the address last
written through it, whether it is fenced inside the device (R172), and the writes of it not yet gone. -/
structure DestEntry where
  window : Nat
  egress : Nat
  fid : Nat
  tc : Nat
  addr : W64
  inside : Bool
  frames : List Nat := []
  deriving DecidableEq, Repr

/-- A fence in progress: entries still to be read, and reads still outstanding (R171). `failed` once a read returned an
error or timed out (R173). -/
structure Fence where
  toRead : List DestEntry := []
  outstanding : Nat := 0
  waits : List DestEntry := []
  failed : Bool := false
  deriving DecidableEq, Repr

/-- A descriptor that has started and has not finished (R157, R158, R164). -/
structure DescRun where
  n : Nat
  raw : BitVec 512
  /-- Holds a context: it has not issued its last request (R157). -/
  current : Bool := true
  started : Nat := 0
  /-- Source bytes asked for, and those received and not yet released (R178). -/
  readPos : Nat := 0
  segs : List Seg := []
  /-- Run-ahead reads made for it: address, window, length (R179, R180). -/
  aheadReads : List (W64 × Nat × Nat) := []
  /-- Destination bytes issued; for CHECK, source bytes handled. -/
  pos : Nat := 0
  /-- Bytes of the write at `pos` that turns have moved (R157). -/
  moved : Nat := 0
  crc : W32 := 0
  poison : Bool := false
  filled : Bool := false
  /-- Status once it has ended (R168), and RESULT of an error (R163). -/
  status : Option Nat := none
  result : Nat := 0
  /-- TIMED: the settled instant, none while edge K has not been counted (R175); released at this time base value. -/
  instant : Option Nat := none
  released : Option Nat := none
  late : Bool := false
  missed : Bool := false
  fence : Option Fence := none
  fencedInside : Bool := false
  deriving DecidableEq, Repr

/-- A ring of an instance, beside its queue registers (R153 to R158). -/
structure RingSt where
  /-- Descriptors fetched and not started: count, bytes, and the status the fetch ended them with, 0 for none (R155,
  R168). -/
  fetched : List (Nat × BitVec 512 × Nat) := []
  /-- Count of the next descriptor to fetch. -/
  nextFetch : Nat := 0
  /-- Started descriptors in ring order; the last may be current. -/
  runs : List DescRun := []
  dest : List DestEntry := []
  /-- An implicit fence in progress, the ninth entry it leaves, and the descriptor whose write added it (R170). -/
  implicit : Option (Fence × DestEntry × Nat) := none
  /-- The fence of a FREEZE (R203). -/
  freeze : Option Fence := none
  /-- Core cycle of the latest accepted doorbell, and PROD before the first of that cycle (R202). -/
  rung : Option (Nat × Nat) := none
  /-- EN = 0 written while a descriptor is current (R156). -/
  disabling : Bool := false
  /-- Restored and not thawed: the ring reads IDLE (R206). -/
  restored : Bool := false
  /-- Run-ahead bytes held for descriptors not yet current: their reads (R179). -/
  ahead : List DescRun := []
  deriving DecidableEq, Repr

/-- What an engine's read is for (R155, R171, R177). -/
inductive ReadFor where
  | fetch (n : Nat)
  | source (n : Nat) (off : Nat)
  | fence (n : Nat)
  | implicit
  | freeze
  deriving DecidableEq, Repr

/-- An outstanding engine read (R177): its tag, where its completion goes, and its completion reservation. -/
structure EngTag where
  id : Nat
  engine : Nat
  inst : Nat
  ring : Nat
  reqId : BitVec 16
  tag : BitVec 14
  why : ReadFor
  addr : W64 := 0
  len : Nat := 0
  window : Nat := 0xFFFF
  issued : Nat := 0
  /-- Run-ahead when issued (R179). -/
  ahead : Bool := false
  /-- Its data is discarded when it returns (R183). -/
  discard : Bool := false
  /-- Left over by an ABORT or by ISOLATE: it retires after ENG_CTO_RECOV (R183, R308). -/
  stopped : Bool := false
  /-- Recovery class when issued (R182). -/
  recovery : Bool := false
  reserved : Nat := 0
  got : Nat := 0
  /-- Core cycle at which the request left, and the port it left at (R394 CPL_LATENCY). -/
  left : Option (Nat × Nat) := none
  older : Bool := false
  deriving DecidableEq, Repr

/-- What comes with a completion delivered to an engine: a furrow word that does not fit, its ingress core port, and the
furrow words carried and computed (R178, R301). -/
structure Delivery where
  bad : Bool := false
  ingress : Nat := 0x7F
  carried : W32 := 0
  got : W32 := 0
  deriving DecidableEq, Repr

/-- An engine, beside its registers: rotating pointers over its rings (R157). -/
structure EngSt where
  ctxPtr : Nat := 0
  turnPtr : Nat := 0
  readPtr : Nat := 0
  /-- Completions delivered to the engine and not yet taken (R178), with a furrow word that did not match (R290). -/
  inbox : List (Tlp × Delivery) := []
  /-- RESTART is written by hardware once STOPPED (R297). -/
  autoRestart : Bool := false
  deriving DecidableEq, Repr

/-- An instance, beside its page (R194 to R206). -/
structure InstSt where
  /-- The running command and the core cycle it began. -/
  cmd : Nat := 0
  cmdStart : Nat := 0
  /-- Core cycle, from 1, of the latest command written other than NOP (R202). -/
  cmdAt : Nat := 0
  /-- Frozen from RECOVERY, or to return there (R196, R204); headgate setting when FREEZE was written. -/
  fromRecovery : Bool := false
  hgAtFreeze : Bool := false
  frozenFrom : Nat := 0
  /-- A reset in progress started by FLR, and the descriptors it abandoned (R198, R199). -/
  byFlr : Bool := false
  abandoned : Nat := 0
  resetStart : Nat := 0
  deriving DecidableEq, Repr

/-! ### Moaben links -/

/-- A packet of VC4: what it carries, the fabric IDs it goes between, and the cells of the management pool it holds while
it waits to be sent, 0 while it waits for them (R238, R465). -/
structure Vc4Packet where
  body : Vc4
  src : Nat := 0
  dst : Nat := 0
  cells : Nat := 0
  deriving DecidableEq, Repr

/-- What is still to be sent of a packet on the lanes: the slots of its link header and of its body; `null` once a NULL
control block ends it after the header, `started` once its first slot has gone (R234 to R236). -/
structure TxPacket where
  seq : Nat
  head : List W64
  body : List W64
  null : Bool := false
  started : Bool := false
  deriving DecidableEq, Repr

/-- A packet of a link's replay buffer (R244, R246, R250): the frame and copy it carries, none for a packet of VC4. -/
structure Packet where
  seq : Nat
  vc : Nat
  frame : Option Frame := none
  copy : Option Copy := none
  vc4 : Option Vc4Packet := none
  bytes : Nat := 0
  null : Bool := false
  /-- Its replay copy holds an uncorrectable error (R293, R300). -/
  ue : Bool := false
  /-- Its copy is still in transmission. -/
  sending : Bool := false
  /-- Replays counted since the last retrain it caused, and whether it has caused one. -/
  count : Nat := 0
  retrained : Bool := false
  deriving DecidableEq, Repr

/-- A Moaben link, beside its registers (R243 to R262). -/
structure LinkSt where
  /-- Forwarded clock seen (R249). -/
  clock : Bool := false
  replay : List Packet := []
  /-- Packets of VC4 that wait to be sent (R239, R241). -/
  vc4 : List Vc4Packet := []
  /-- Scrambler states of the transmitter and of the receiver by physical lane, 8 the spare (R230). -/
  txScr : List Nat := (List.range 9).map fun l => 1 + 0x01111111 * l
  rxScr : List Nat := (List.range 9).map fun l => 1 + 0x01111111 * l
  /-- Row counts within the 16,384 rows of an ALIGN period, sent and received, and rows sent in all (R231). -/
  txRow : Nat := 0
  rxRow : Nat := 0
  rows : Nat := 0
  /-- Time since the row on the lanes began, in 1/5 ns. -/
  rowTime : Nat := 0
  /-- Control blocks and packets that wait for slots, and the blocks of the row on the lanes by physical lane (R234,
  R239). -/
  ctl : List W64 := []
  tx : List TxPacket := []
  onLanes : List (Option (BitVec 69)) := []
  /-- By physical lane, the last 64 blocks received, a bit set for a bad one, bit 0 the latest, and the value of `rows` it
  stands for (R232). -/
  marks : List (Nat × Nat) := List.replicate 9 (0, 0)
  /-- The lanes have locked and been aligned since ALIGN, RETRAIN or CHANGE was entered (R233). -/
  aligned : Bool := false
  /-- A change of the spare's position under way: the position this end's receiver, and its transmitter, goes to at the
  next ALIGN row (R253). -/
  remap : Option Nat := none
  remapTx : Option Nat := none
  /-- Core cycle of the last acknowledgement progress, or of the first transmission after all was acknowledged. -/
  progress : Nat := 0
  /-- NAK outstanding: core cycle at which it was sent (R243). -/
  nak : Option Nat := none
  /-- Packets accepted since the last ACK, and the core cycle of the first (R245). -/
  sinceAck : Nat := 0
  firstAck : Nat := 0
  lastSeq : Nat := 0
  /-- Peer's replay window in KiB (R242), its speed and width ceilings and deskewed lanes as HELLO gave them (R251). -/
  peerWin : Nat := 512
  hello : Option (Nat × Nat × Nat × Nat × Nat) := none
  lanes : Nat := 0x1FF
  /-- Lane positions in service (R251, R254). -/
  set : Nat := 0xFF
  /-- An ECHO has come in this training (R251). -/
  echoed : Bool := false
  /-- Positions this end sends on, and the one of them it sends on the spare lane (R251, R253). -/
  txSet : Nat := 0xFF
  txSpare : Nat := 0xF
  /-- Lane set that the peer's CHANGE has asked this end to send on (R252, R254). -/
  txAsk : Option Nat := none
  /-- Position that the governor's narrower set needs on the spare lane (R254). -/
  spareWant : Option Nat := none
  /-- Replay window settled at the last training (MFL_REPLAY_CTL.WIN_KIB takes effect there). -/
  win : Nat := 512
  /-- MFL_TX_EQ as the last training, retrain or change took it (R284). -/
  txEq : W32 := 0x00080C04
  /-- Core cycle at which STATE was entered. -/
  entered : Nat := 0
  /-- Core cycle of the last mask sent, and whether one more is due after the last XON (R240). -/
  maskAt : Nat := 0
  xonDue : Bool := false
  /-- A change of width and speed in progress: new speed, width, lanes, and whether CHANGE has been sent (R252). -/
  change : Option (Nat × Nat × Nat × Bool) := none
  /-- Its settings are on the lanes; READY has been sent; READY has come (R252). -/
  applied : Bool := false
  readySent : Bool := false
  peerReady : Bool := false
  /-- Consecutive hot evaluations of each lane (R254), and the bad blocks of the last ten 100 ms intervals. -/
  hot : List Nat := [0, 0, 0, 0, 0, 0, 0, 0, 0]
  bins : List (List Nat) := []
  seen : List Nat := [0, 0, 0, 0, 0, 0, 0, 0, 0]
  /-- TSYNC: exchange number, t1 of the running exchange, and once its RSP has come its t2 and number (R256). -/
  tsN : Nat := 0
  tsAt : Nat := 0
  ts1 : Option Nat := none
  ts24 : Option (Nat × Nat) := none
  /-- Authentication: our nonce and seed, the OFFERs exchanged, whether the peer is accepted and has accepted (R259). -/
  seed : List Byte := []
  nonce : List Byte := []
  ourOffer : List Byte := []
  peerOffer : List Byte := []
  peerHead : List Byte := []
  signing : Bool := false
  weAccept : Bool := false
  peerAccept : Bool := false
  /-- Resumption chain: our seed and its uses, the last value accepted from the peer (R260). -/
  chain : Option (List Byte × Nat × List Byte) := none
  /-- Hash of the last peer accepted on the link (R262). -/
  lastPeer : Option W256 := none
  resumed : Bool := false
  deriving DecidableEq, Repr

/-- A BAR4 read carried to another device (R272): its number, the request, the link it left on. -/
structure RemoteRead where
  n : Nat
  frame : Frame
  link : Nat
  fid : Nat := 0
  deriving DecidableEq, Repr

/-! ### Slot power -/

/-- A channel of a slot, beside its page (R366, R371). -/
structure Chan where
  /-- Energy in units of 10 nJ: mW × 10 µs. -/
  energy : Nat := 0
  /-- Core cycle at which the fault timer's count started. -/
  ftStart : Nat := 0
  ramping : Bool := false
  /-- Start of the running turn-on, and whether its gate has not been seen at VIN + 6 V (R375). -/
  onAt : Nat := 0
  rising : Bool := false
  /-- Core cycle since which the samples show VOUT above 10 % of VIN with the gate commanded off (R376). -/
  shortFrom : Option Nat := none
  /-- Core cycle from which the channel's qualification counts at the earliest (R377, R378). -/
  qualFrom : Nat := 0
  /-- Core cycle at which current regulation was last found active (R371). -/
  limAt : Nat := 0
  /-- Core cycle since which the samples show VOUT below THR − THR/32 (R379). -/
  lowFrom : Option Nat := none
  deriving DecidableEq, Repr

/-- A slot of the power supervisor, beside its page (R374, R381, R382). Instants are core cycles. -/
structure Slot where
  ch0 : Chan := {}
  ch1 : Chan := {}
  retryDue : Option Nat := none
  windowEnd : Option Nat := none
  holdUntil : Option Nat := none
  /-- First tick of the high level that led to the removal. -/
  absentFrom : Nat := 0
  /-- A turn-off whose gates fall 100 ticks later. -/
  offAt : Option Nat := none
  /-- Slot power-good asserted at this instant, PERST still asserted. -/
  pgAt : Option Nat := none
  deriving DecidableEq, Repr

/-- What a tick of the slot power supervisor finds (R368): slot, then channel. -/
inductive SpvEvent where
  /-- Software writes, and Power Controller Control of the slot's bridge. `edge`: ON was 0, or FORCE_ON had another value. -/
  | on (n : Nat) (edge : Bool)
  | off (n : Nat)
  | control (n : Nat) (on : Bool)
  | force (n c : Nat) (on edge : Bool)
  | latchClear (mask : Nat)
  | measClear (n v : Nat)
  /-- The comparator has fired; the checks of the transistor; the fault timer. -/
  | fast (n c : Nat)
  | fetShort (n c : Nat) (turnOn : Bool)
  | gateRise (n c : Nat)
  | limitStart (n c : Nat)
  | timerStop (n c : Nat)
  | timerExpiry (n c : Nat)
  | offGates (n : Nat)
  /-- Presence. -/
  | removal (n : Nat)
  | insertion (n : Nat)
  /-- The end of a ramp, and power-good. -/
  | rampEnd (n c : Nat)
  | pgLost (n c : Nat)
  | pgGood (n c : Nat)
  | perstRelease (n : Nat)
  /-- The slot power governor, and insertion sequences. -/
  | retry (n : Nat)
  | windowEnd (n : Nat)
  | start (n : Nat)
  deriving DecidableEq, Repr

/-! ### Reads issued at core port 88 -/

/-- What a read issued at core port 88 is for (R205, R206, R315). -/
inductive CoreWhy where
  | save (i : Nat)
  | restore (i off : Nat)
  | load
  | debug
  deriving DecidableEq, Repr

/-- A read issued at core port 88: its tag record, and what came back. -/
structure CoreRead where
  id : Nat
  why : CoreWhy
  len : Nat
  data : List Byte := []
  done : Bool := false
  failed : Bool := false
  /-- The next read of the list is the rest of this access, past a 4 KiB boundary (R123). -/
  more : Bool := false
  /-- MGT_BERR_STS.CAUSE of a failure (R316). -/
  cause : Nat := 0
  deriving DecidableEq, Repr

/-! ### Security (R401 to R418) -/

/-- What a verification uses as it stood when it started (R409): lifecycle state, ENROLLED and REVOKED, SVN_MIN. -/
structure Policy where
  state : Nat
  slots : Nat
  svnMin : Nat
  ownerOnly : Bool
  vendorDebug : Bool
  deriving DecidableEq, Repr

/-- Who asked for a report: a host with its command block, buffer, vector and IRQ bit, or a fabric peer on a link
(R414). -/
inductive Asker where
  | host (part : Nat) (buffer : W64) (vec : Nat) (irq : Bool)
  | peer (link : Nat)
  deriving DecidableEq, Repr

/-- What SEC keeps beside its registers and tables. -/
structure SecSt where
  /-- OTP words (R401). -/
  otp : Store W32 := []
  /-- Private and public identity key (R406). -/
  priv : List Byte := []
  pub : List Byte := []
  /-- A burn in progress: word, bits, the lifecycle bit it advances, and the core cycle of its start (R402, R404). -/
  burn : Option (Nat × Nat × Option Nat × Nat) := none
  /-- A verification in progress: TYPE, core address and policy (R410). -/
  verify : Option (Nat × Nat × Policy) := none
  /-- A token check in progress: length and policy (R417). -/
  unlock : Option (Nat × Policy) := none
  /-- Entry of the debug deny log that the next denial takes (table 3 of SEC page 1). -/
  denyNext : Nat := 0
  /-- DEBUG_OPEN entered since reset, and the state it was entered from (R413, R403). -/
  opened : Bool := false
  base : Nat := 0
  /-- Core cycle of the last unlock, and the lifecycle state before it (R417). -/
  unlocked : Option (Nat × Nat) := none
  /-- Core cycle, from 1, in which the debug master set a lockable register (R416). -/
  debugLocks : Store Nat := []
  /-- Requests for reports in arrival order, with their nonces; the body and signature of the first (R413, R414). -/
  asks : List (Asker × List Byte) := []
  body : List Byte := []
  report : Option (List Byte) := none
  /-- Lockable registers written since the last device-wide reset (R12, R416). -/
  locked : Store Bool := []
  deriving DecidableEq, Repr

/-! ### SerDes test units (R276 to R288): units 0 to 23 are the PCIe octets, 24 to 31 the Moaben links -/

/-- What a unit keeps beside its registers. -/
structure TestUnit where
  /-- Lanes on which a host margining command is active (R287). -/
  margin : List Nat := []
  /-- Lanes on which generators have been started, until GEN_EN and CHK_EN are 0 (R280). -/
  gen : Nat := 0
  /-- PRBS has stopped at a rate change and not been restarted (R282). -/
  stopped : Bool := false
  /-- Lane of the running scan. -/
  scanLane : Nat := 0
  /-- Receiver errors of each lane in the last ten 100 ms intervals, and consecutive hot evaluations (R255, R288). -/
  bins : List (List Nat) := []
  hot : List Nat := [0, 0, 0, 0, 0, 0, 0, 0]
  deriving DecidableEq, Repr

/-! ### The culvert bridge (R348 to R362) -/

/-- Whose access it is: an access of the active pair by its number, a host's request through a LOCAL window, an access of a
requester that no packet carries, or a read of the debug master by its number among the responses it holds (R335). -/
inductive LbFrom where
  | core (op : Nat)
  | host (frame : Frame)
  | req (r : Requester)
  | debug (read : Nat)
  deriving DecidableEq, Repr

/-- An access of the culvert bridge (R350, R351). -/
structure LbOp where
  id : Nat := 0
  src : LbFrom
  cs : Nat
  /-- Local address as the requester gives it, before ORDER. -/
  addr : Nat
  len : Nat
  write : Bool
  posted : Bool := false
  data : List Byte := []
  /-- Reads the whole aligned 32-byte block into a prefetch buffer (R355). -/
  prefetch : Bool := false
  /-- A write to its chip select has entered since: the block read is not kept (R355). -/
  stale : Bool := false
  /-- Pieces still to be performed: local addresses in rising order (R351). -/
  todo : List (List Nat) := []
  /-- Bytes read so far, by local address. -/
  got : Store Byte := []
  deriving DecidableEq, Repr

/-- A prefetch buffer: 32 local bytes from an aligned local address (R355). -/
structure Prefetch where
  cs : Nat
  base : Nat
  data : List Byte
  made : Nat
  deriving DecidableEq, Repr

/-- A barrier under way: its requester's view, the writes it waits for, and the first that failed (R342, R359). -/
structure Barrier where
  view : Nat
  waits : List Nat
  failed : Option (Nat × Nat) := none
  /-- A FENCE's barrier whose earlier stores have not all reached the bridge: each one that does joins it. -/
  gather : Bool := false
  deriving DecidableEq, Repr

/-- A requester's view of its last barrier (CUL_BARRIER_STS, CUL_BARRIER_ADDR). -/
structure BarrierView where
  done : Bool := false
  failed : Bool := false
  cs : Nat := 0
  addr : Nat := 0
  deriving DecidableEq, Repr

structure Culvert where
  /-- Accesses accepted, in the order they reached the bridge (R356). -/
  ops : List LbOp := []
  /-- Accesses that wait to be accepted, in order (R354). -/
  door : List LbOp := []
  /-- Core cycle at which the bus cycle of the first access began; none while the bridge is off the bus. -/
  running : Option Nat := none
  /-- Core cycle at which the bridge asked for the bus (R358). -/
  asked : Nat := 0
  /-- LB_BREQ_N is asserted and not yet granted (R357). -/
  extReq : Bool := false
  prefetch : List Prefetch := []
  /-- Reads of this core cycle that a prefetch buffer serves, with their bytes; a write that enters in the same cycle sends
  them to the bus (R355). -/
  hits : List (LbOp × List Byte) := []
  barriers : List Barrier := []
  views : Store BarrierView := []
  /-- Start of a warm reset under way (R360). -/
  warm : Option Nat := none
  /-- LB_RST_N is asserted until this core cycle. -/
  lbRst : Nat := 0
  /-- Consecutive polls that found a new level, by sideband bit (R361). -/
  sbCount : Store Nat := []
  sbAt : Nat := 0
  intAt : Nat := 0
  nextId : Nat := 0
  deriving DecidableEq, Repr

/-! ### The management complex (R312 to R343) -/

/-- An access of the active pair (R335 to R341). -/
inductive CoreKind where
  | load | store | lr
  /-- `fail`: the core chooses to fail it (R339). -/
  | sc (fail : Bool)
  /-- 0 swap, 1 add, 2 xor, 3 and, 4 or, 5 min, 6 max, 7 minu, 8 maxu. -/
  | amo (op : Fin 9)
  /-- Predecessor set as bits I 8, O 4, R 2, W 1. -/
  | fence (pred : Nat)
  deriving DecidableEq, Repr

structure CoreOp where
  id : Nat
  kind : CoreKind
  addr : Nat := 0
  /-- Bytes: 1, 2, 4 or 8. -/
  size : Nat := 8
  data : Nat := 0
  /-- Made in user mode (R318). -/
  user : Bool := false
  /-- A memory fault its word of SRAM shows (R316). -/
  ecc : Option EccFault := none
  /-- Sent on and not answered yet, with the core cycle of its issue. -/
  issued : Option Nat := none
  /-- Culvert writes a FENCE waits for, once it has reached the front. -/
  fence : Bool := false
  deriving DecidableEq, Repr

/-- An LR/SC loop as its accesses show it (R339): its address and bytes, whether an SC of it has failed, and whether an LR is
the pair's last access. -/
structure ScLoop where
  addr : Nat
  size : Nat
  failed : Bool := false
  armed : Bool := true
  deriving DecidableEq, Repr

/-- A store of the store buffer (R340). -/
structure SbEntry where
  id : Nat
  addr : Nat
  data : List Byte
  ecc : Option EccFault := none
  deriving DecidableEq, Repr

/-- A trigger of a failover in the core cycle that runs (R313, R314): its cause so far, the pair that it stopped, and whether
another pair was in STANDBY. -/
structure Trigger where
  cause : Nat
  pair : Nat
  found : Bool
  deriving DecidableEq, Repr

structure Mgt where
  /-- Accesses of the active pair not yet performed, in program order. -/
  ops : List CoreOp := []
  nextOp : Nat := 0
  /-- The store buffer, oldest first (R340). -/
  sb : List SbEntry := []
  /-- Reservation: 64-byte granule and the core cycle of its LR (R339). -/
  resv : Option (Nat × Nat) := none
  loop : Option ScLoop := none
  /-- Stores buffered before a warm reset: until when they drain, and the number of the first access after it (R343). -/
  drain : Option (Nat × Nat) := none
  /-- The machine timer interrupt is asserted (R321). -/
  timer : Bool := false
  /-- The debug master has halted the pair, and instructions it may step (R415). -/
  halted : Bool := false
  steps : Nat := 0
  /-- Frames of stores through core port 88 and host paths (R341). -/
  stores : List Nat := []
  /-- mcause and mtval of the pair's last trap (R315). -/
  trap : Option (Nat × Nat) := none
  /-- Management SRAM by offset; what nothing has written since the last device-wide reset is not defined (R317), a free
  value of the reset's own (`era`). -/
  sram : Store (Option Byte) := []
  era : Nat := 0
  /-- SPI flash by offset, as the board holds it; a byte not listed is a free value of its own. -/
  flash : Store (Option Byte) := []
  /-- Core cycle of the last kick, and whether WDOG_WARN is asserted (R327). -/
  kickAt : Nat := 0
  warned : Bool := false
  /-- Address at which the active pair last started, in machine mode (R313, R314), and the core cycle of a failover whose new
  pair has not executed its first instruction (R313). -/
  entry : Nat := 0
  startAt : Option Nat := none
  /-- A failover triggered in this core cycle; its error record is written at the cycle's end. -/
  trig : Option Trigger := none
  /-- Doorbells of host commands by partition: the core cycle of the last one, plus 1 (R323). -/
  bells : Store Nat := []
  /-- A pair runs the boot ROM, which loads this slot first; none: the slot the boot table names (R329, R330). -/
  booting : Bool := true
  bootSlot : Option Nat := none
  /-- An update or restart is BUSY: core cycle of its GO (R330, R331), and whether it is a restart. -/
  updateAt : Nat := 0
  restart : Bool := false
  /-- Counts of the sample-rate governor (R326). -/
  hi : Nat := 0
  lo : Nat := 0
  deriving DecidableEq, Repr

/-! ### Clocks, supplies, temperature and pins (R419 to R454) -/

structure Board where
  /-- The main rails are present; VDD_AON is present. -/
  power : Bool := true
  aon : Bool := true
  /-- WAKE# is asserted (R226, R362). -/
  wake : Bool := false
  /-- RESET is held for the temperature (R453). -/
  hot : Bool := false
  /-- RST_N is low; core cycles spent in RESET, and how many the last source asks for (R444). -/
  rstLow : Bool := false
  inReset : Nat := 0
  need : Nat := 0
  /-- The thermal governor's DRAIN condition stands (R452), and has come up in UPDATE or ISOLATE (R430). -/
  hotDrain : Bool := false
  drainDue : Bool := false
  /-- `cool` of each cluster (R451). -/
  cool : Store Nat := []
  /-- Subsystem resets in progress: bit of CLK_RST_CTL and the core cycle it began (R445, R446). -/
  resets : Store (Option Nat) := []
  /-- MGT_MTIME at the entry to holdover (R440). -/
  holdover : Nat := 0
  /-- STAT shows FAIL_CODE − 1 in SAFE (R438), and the core cycle of its last change. -/
  statCode : Bool := false
  statAt : Nat := 0
  uartAt : Nat := 0
  /-- The SPI flash pins are tri-stated (R429). -/
  spiOff : Bool := false
  /-- Self-test items that have passed or failed since reset, as bits (R421). -/
  tested : Nat := 0
  /-- Octets and Moaben links that failed calibration, and engines that failed self-test (R426). -/
  badLinks : Nat := 0
  badEngines : Nat := 0
  /-- Slots whose card the presence debounce of the always-on domain knows while the registers are in reset (R382, R436). -/
  cards : Nat := 0
  deriving DecidableEq, Repr

/-! ### Faults and refusals -/

/-- Why a step stops. Safe: the machine stops where the spec gives no outcome. -/
inductive Fault where
  /-- Raised by a register write that changes a reserved field: the spec does not define the outcome (R46). Safe. -/
  | reservedFieldChanged (addr : Nat)
  deriving DecidableEq, Repr

/-- Why a command is not run. -/
inductive Refusal where
  /-- Raised by the arm of a command that has no meaning in the model yet. Safe: no next state is claimed. -/
  | notModelled (mnemonic : String)
  deriving DecidableEq, Repr

/-- What the last command returned to its requester or put on the pins (log entry 8: the model's own record). -/
inductive Answer where
  | none
  | words (ws : List W32)
  | packet (port : Nat) (t : Tlp)
  | bytes (bs : List Byte)
  /-- A trap of the active pair: mcause and mtval (R315, R316). -/
  | trap (cause addr : Nat)
  /-- Status DENIED of the debug port (R415). -/
  | denied
  deriving DecidableEq, Repr

/-- An indirect table operation in progress on a page (R43): code, TBL_INDEX and data as they stood at its write, and
its requester's number. -/
structure TblRun where
  op : Nat
  index : W32
  data : W256
  owner : Nat
  deriving DecidableEq, Repr

/-- The machine. -/
structure State where
  /-- Commands waiting, first in, first out: the block's queue. -/
  pending : List Instr := []
  /-- The model's own counter of free values drawn (log entry 3). -/
  free : Nat := 0
  /-- A reserved field has been written with a changed value (R46): the spec defines nothing from here on. -/
  undef : Option Nat := Option.none
  answer : Answer := .none
  /-- Core cycles since the device left RESET (R77, R132, R321). -/
  now : Nat := 0
  /-- The service mode (R431): held through UPDATE, ISOLATE, DRAIN and DIAGNOSTIC. LIMP at reset. -/
  service : Nat := 1
  regs : Store W32 := []
  ctrs : Store Nat := []
  tbls : Store W256 := []
  /-- Core cycle, from 1, in which a page's EVENTS last left zero (R36). -/
  firstAt : Store Nat := []
  /-- The last core cycle in which a page's events occurred or were cleared (R37). -/
  evtCycles : Store EvtCycle := []
  /-- Latches of R41, keyed by 64 × page + requester. -/
  latches : Store Latch := []
  /-- Indirect table operations in progress, by page number. -/
  tblRuns : Store (Option TblRun) := []
  tb : TimeBase := {}
  fs : FrameSync := {}
  gates : Store (List Fired) := []
  /-- Instants of armed slots, once fixed (R143), keyed by 4 × group + slot. -/
  armInst : Store (Option Nat) := []
  /-- Slots whose commit has fired and that do not read FIRED yet (R144). -/
  firing : List Nat := []
  sw : Switch := {}
  sweep : Sweep := {}
  mapOld : Option OldEntry := Option.none
  sessions : Store Session := []
  samplers : Store Sampler := []
  /-- Sample queue entries by slot (R325). -/
  samples : Store (BitVec 1280) := []
  /-- Entries written by each governor (R400 SEQ). -/
  govSeq : Store Nat := []
  err : ErrSt := {}
  /-- Configuration shadows, keyed by 4096 × function + offset (R187, R213, R215). -/
  shadows : Store W32 := []
  /-- Queue registers and MSI-X tables behind BAR0 of an instance and BAR2 of a management function, keyed by
  65536 × function + offset (R153, R191, R214). -/
  bars : Store W32 := []
  /-- Rings, keyed by 4 × instance + ring. -/
  rings : Store RingSt := []
  engines : Store EngSt := []
  engTags : List EngTag := []
  /-- Tags of engine reads that have retired, latest first: requester ID, tag, engine (R178). -/
  retiredTags : List (BitVec 16 × BitVec 14 × Nat) := []
  insts : Store InstSt := []
  /-- Ring whose event set an MSI-X pending bit last, keyed by 8 × instance + vector (R192). -/
  pbaRing : Store Nat := []
  /-- Downstream bridges of partitions homed here whose ports lie on other devices: partition, fabric ID, port,
  as the last reset of the partition's virtual switch fixed them (R213, R270). -/
  remoteBridges : List (Nat × Nat × Nat) := []
  /-- Downstream ports of partitions on other devices, as their devices have announced them: partition, fabric ID,
  port (R270). -/
  remotePorts : List (Nat × Nat × Nat) := []
  /-- Words of downstream ports last relayed to the home of their partition, keyed by 4096 × port + offset (R270). -/
  relayed : Store (Option W32) := []
  /-- Partitions for which ports here have been announced to another device, and remote bridges whose device is out of reach:
  partition, fabric ID, port (R270, R271). -/
  announced : Store (Option Nat) := []
  goneRemotes : List (Nat × Nat × Nat) := []
  /-- Uncorrectable errors at downstream ports that trigger DPC, to be acted on in the next core cycle: port and status
  bit (R218). -/
  dpcDue : List (Nat × Nat) := []
  /-- Octets to which X16 has been written and which wait for the other of their pair (R210). -/
  octetAsk : List Nat := []
  /-- Ports here to which the home of their partition has given no bridge (R213). -/
  unbridged : List Nat := []
  /-- Words of downstream ports of other devices as their devices last announced them, keyed by 4096 × function + offset
  (R270, R271). -/
  remoteWords : Store W32 := []
  /-- Primary bus numbers of partitions homed on other devices, as those have told them (R101, R270). -/
  homeBuses : Store (Option Nat) := []
  links : Store LinkSt := []
  tests : Store TestUnit := []
  /-- Core cycle of each governor's last evaluation, by governor (R254, R264, R326, R451), and of each histogram unit's
  last level sample, at 16 + unit (R394). -/
  govAt : Store Nat := []
  /-- The fabric route governor: up_since of each link, and was_usable (R264). -/
  upSince : Store (Option Nat) := []
  wasUsable : Nat := 0
  /-- Next number of a BAR4 access, and the reads whose data is awaited (R272). -/
  bar4Next : Nat := 0
  bar4 : List RemoteRead := []
  /-- Bus-number writes whose completion is held until firmware retires their mailbox entry: partition and request
  (R215, R322). -/
  heldCpl : List (Nat × Frame) := []
  /-- Reads issued at core port 88 and not yet used (R205, R206, R315). -/
  coreReads : List CoreRead := []
  sec : SecSt := {}
  cul : Culvert := {}
  mgt : Mgt := {}
  board : Board := {}
  slots : Store Slot := []
  /-- Core cycle from which DRAIN's timeout runs (R434). -/
  drainAt : Nat := 0
  /-- Core cycle of the entry to SAFE (R429). -/
  safeAt : Nat := 0
  /-- SPV_UPTRIP_N is pulled low until this core cycle (R376). -/
  uptrip : Option Nat := Option.none
  /-- What the supervisor's next tick will find, in the order it came (R368). -/
  spvDue : List SpvEvent := []
  deriving DecidableEq, Repr

/-- The machine right after reset: RST_N released, DEV_MODE.CODE LIMP, every register at its reset value, nothing
queued (R11, R29, R421). -/
def State.reset : State := {}

end Sys2Proof.Machine
end

