-- ==== Sys2Proof/Machine/Ops.lean ====
section
/-! DEFINITION. The named operations over registers, fields, counters, tables, time, ports, frames and pools. -/

namespace Sys2Proof.Machine

/-- What a command answers. -/
abbrev Out := Host.Outcome State Fault Refusal

/-! ### Registers and fields (R10, R12) -/

/-- The stored value of a register. -/
def State.reg (s : State) (a : Nat) : W32 := storeGet (regReset a) s.regs a

/-- A register set to a value, as hardware sets it. -/
def State.setReg (s : State) (a : Nat) (v : W32) : State := { s with regs := storePut (regReset a) a v s.regs }

/-- The value of a field. -/
def State.fget (s : State) (f : Fld) : Nat := bits (s.reg f.addr).toNat f.hi f.lo

/-- Is a one-bit field set? -/
def State.flag (s : State) (f : Fld) : Bool := s.fget f == 1

/-- A field set to a value, the rest of the register kept. -/
def State.fset (s : State) (f : Fld) (v : Nat) : State :=
  s.setReg f.addr (BitVec.ofNat 32 (putBits (s.reg f.addr).toNat f.hi f.lo v))

/-- A 64-bit value held in two registers, low word first. -/
def State.pair (s : State) (lo hi : Nat) : Nat := (s.reg lo).toNat + (s.reg hi).toNat * 2 ^ 32

/-- Two registers set to the halves of a 64-bit value. -/
def State.setPair (s : State) (lo hi v : Nat) : State :=
  (s.setReg lo (BitVec.ofNat 32 v)).setReg hi (BitVec.ofNat 32 (v / 2 ^ 32))

/-! ### Modes (R29) -/

abbrev mRESET : Nat := 0
abbrev mLIMP : Nat := 1
abbrev mSAFE : Nat := 2
abbrev mSTANDALONE : Nat := 3
abbrev mPARTITIONED : Nat := 4
abbrev mCOMPOSED : Nat := 5
abbrev mFABRIC : Nat := 6
abbrev mUPDATE : Nat := 7
abbrev mISOLATE : Nat := 8
abbrev mDRAIN : Nat := 9
abbrev mSTANDBY : Nat := 10
abbrev mDIAGNOSTIC : Nat := 11

/-- The device mode (R29). -/
def State.mode (s : State) : Nat := s.fget R.DEV_MODE_CODE

/-- A change of device mode; the service mode follows in LIMP and in the four service modes (R431). -/
def State.setMode (s : State) (m : Nat) : State :=
  let s := s.fset R.DEV_MODE_CODE m
  if m = mLIMP ∨ m = mSTANDALONE ∨ m = mPARTITIONED ∨ m = mCOMPOSED ∨ m = mFABRIC then { s with service := m } else s

/-- In RESET and STANDBY no command of the data plane has an effect (R29, R436, R444). -/
def State.alive (s : State) : Bool := s.mode != mRESET && s.mode != mSTANDBY

/-! ### Counters (R40) -/

/-- Where a counter stops: 2^48 − 1 (R40). -/
def counterMax : Nat := 2 ^ 48 - 1

/-- The value of a counter. -/
def State.ctr (s : State) (a : Nat) : Nat := storeGet 0 s.ctrs a

/-- A counter set to a value. -/
def State.setCtr (s : State) (a v : Nat) : State := { s with ctrs := storePut 0 a (min v counterMax) s.ctrs }

/-- A counter advanced by `n`, saturating; no counter runs in RESET and STANDBY (R40). -/
def State.bumpBy (s : State) (a n : Nat) : State := if s.alive then s.setCtr a (s.ctr a + n) else s

/-- A counter advanced by one. -/
def State.bump (s : State) (a : Nat) : State := s.bumpBy a 1

/-! ### Indirect tables (R35) -/

/-- A table entry. -/
def State.tbl (s : State) (page table index : Nat) : W256 :=
  storeGet (tblReset (tblKey page table index)) s.tbls (tblKey page table index)

/-- A table entry set. -/
def State.setTbl (s : State) (page table index : Nat) (v : W256) : State :=
  { s with tbls := storePut (tblReset (tblKey page table index)) (tblKey page table index) v s.tbls }

/-- A field of a table entry. -/
def State.tget (s : State) (page table index hi lo : Nat) : Nat := bits (s.tbl page table index).toNat hi lo

/-- A field of a table entry set. -/
def State.tset (s : State) (page table index hi lo v : Nat) : State :=
  s.setTbl page table index (BitVec.ofNat 256 (putBits (s.tbl page table index).toNat hi lo v))

/-- A counter field of a table entry advanced by `n`, stopping at its largest value (R40, R395). -/
def State.tbump (s : State) (page table index hi lo n : Nat) : State :=
  if s.alive then s.tset page table index hi lo (min (s.tget page table index hi lo + n) (2 ^ (hi - lo + 1) - 1)) else s

/-- A sampler's count of an occurrence; the N-th one triggers a capture (R397). -/
def State.countSample (s : State) (k : Nat) (n : Nat) (f : Option Frame) : State :=
  let x : Sampler := storeGet {} s.samplers k
  let c := x.count + n
  let m := max 1 (s.fget (R.TEL_SMP_N_N k))
  let d : SampleDue := {
    cause := f, since' := s.now, event := s.fget (R.TEL_SMP_CTL_EVENT k), port := s.fget (R.TEL_SMP_CTL_PORT k) }
  let x := if m ≤ c then { x with count := (c - m) % m, due := x.due ++ [d] } else { x with count := c }
  { s with samplers := storePut {} k x s.samplers }

/-- `n` more occurrences of an event of R389 at a core port, counted and offered to the samplers with the frame that
caused them (R389, R397). -/
def State.tel (s : State) (event port : Nat) (n : Nat := 1) (f : Option Frame := none) : State :=
  let s := s.tbump 0x40 0 (event * 128 + port) 47 0 n
  if s.mode = mLIMP then s
  else (upTo 4).foldl (fun s k =>
    if s.flag (R.TEL_SMP_CTL_EN k) && s.fget (R.TEL_SMP_CTL_EVENT k) == event && s.fget (R.TEL_SMP_CTL_PORT k) == port then
      s.countSample k n f
    else s) s

/-- Slots of a link port counted in a category of R392: 0 RETIRED, 1 WASTED, 2 FRONT, 3 BACK. Ports 72 to 88 have
none. -/
def State.linkSlots (s : State) (port category n : Nat) : State :=
  if port < 72 then s.tbump 0x41 0 port (48 * category + 47) (48 * category) n else s

/-- Bin of a value in a histogram unit (R395). -/
def histBin (log : Bool) (wshift base v : Nat) : Nat :=
  if v < base then 0
  else if log then ((upTo 31).filter fun i => i != 0 && decide (base * 2 ^ (i - 1) ≤ v)).length
    + ofBool (decide (base * 2 ^ 30 ≤ v))
  else min (1 + (v - base) / 2 ^ wshift) 31

/-- A value recorded in one unit: its bin, and MIN, MAX, COUNT and SUM (R395). -/
def State.histRecord (s : State) (u v : Nat) : State :=
  let b := histBin (s.flag (R.TEL_HIST_CFG_LOG u)) (s.fget (R.TEL_HIST_CFG_WSHIFT u)) (s.reg (R.TEL_HIST_BASE u)).toNat v
  let s := s.tbump 0x42 0 (32 * u + b) 47 0 1
  let s := s.tset 0x42 2 u 63 0 (min (s.tget 0x42 2 u 63 0) v)
  let s := s.tset 0x42 2 u 127 64 (max (s.tget 0x42 2 u 127 64) v)
  (s.tbump 0x42 2 u 175 128 1).tbump 0x42 2 u 255 192 v

/-- An occurrence offered to every histogram unit whose source, port and class match; none records in LIMP (R394). -/
def State.hist (s : State) (source port : Nat) (live : Bool) (v : Nat) : State :=
  if s.mode = mLIMP then s
  else (upTo 16).foldl (fun s u =>
    let cls := s.fget (R.TEL_HIST_CFG_CLASS u)
    let takes := s.fget (R.TEL_HIST_CFG_SOURCE u) == source
      && (source == 8 || s.fget (R.TEL_HIST_CFG_PORT u) == port)
      && (decide (3 < source) || cls == 0 || (cls == 2 && live) || (cls == 1 && !live))
    if takes then s.histRecord u v else s) s

/-! ### Time (R132) -/

/-- Core cycles in a nanosecond count: 1.25 per nanosecond. -/
def cyclesOfNs (n : Nat) : Nat := ceilDiv (n * 5) 4
def cyclesPerUs : Nat := 1250
def cyclesPerMs : Nat := 1250000
def cyclesPerS : Nat := 1250000000

/-- The time base as a number of 2^-16 ns. -/
def State.time80 (s : State) : Nat := s.tb.time.toNat

/-- The time base in whole nanoseconds. -/
def State.ns (s : State) : Nat := s.time80 / 65536

/-- MGT_MTIME: nanoseconds since the device left RESET, never stepped (R321). -/
def State.mtime (s : State) : Nat := s.now * 4 / 5

/-! ### Core ports (R15) -/

def State.port (s : State) (n : Nat) : PortSt := storeGet {} s.sw.ports n

def State.setPort (s : State) (n : Nat) (p : PortSt) : State :=
  { s with sw := { s.sw with ports := storePut {} n p s.sw.ports } }

def State.modPort (s : State) (n : Nat) (f : PortSt → PortSt) : State := s.setPort n (f (s.port n))

def isPcie (n : Nat) : Bool := decide (n < 64)
def isMoaben (n : Nat) : Bool := decide (64 ≤ n) && decide (n < 72)
def isEngine (n : Nat) : Bool := decide (72 ≤ n) && decide (n < 88)
def isMgmt (n : Nat) : Bool := n == 88

/-- ROLE of a PCIe port: 1 UPSTREAM, 2 DOWNSTREAM (R212). -/
def State.role (s : State) (p : Nat) : Nat := s.fget (R.PEP_PORT_CTL_ROLE p)

/-- The partition that owns a PCIe port (R212). -/
def State.portPart (s : State) (p : Nat) : Nat := s.fget (R.PEP_PORT_CTL_PART p)

/-- The local upstream port of a partition (R212). -/
def State.upstreamOf (s : State) (part : Nat) : Option Nat :=
  (upTo 64).find? fun p => s.role p == 1 && s.portPart p == part && s.flag (R.PEP_PORT_STS_PRESENT p)

/-- The local downstream ports of a partition, in ascending order (R213). -/
def State.downstreamOf (s : State) (part : Nat) : List Nat :=
  (upTo 64).filter fun p => s.role p == 2 && s.portPart p == part && s.flag (R.PEP_PORT_STS_PRESENT p)

/-- This device's fabric ID (MAP_SELF). -/
def State.selfFid (s : State) : Nat := s.fget R.MAP_SELF_FID

/-- Home of a partition: fabric ID and upstream core port, through the partition home table where no local upstream
port exists (R269). -/
def State.homeOf (s : State) (part : Nat) : Option (Nat × Nat) :=
  match s.upstreamOf part with
  | some p => some (s.selfFid, p)
  | none =>
    if s.tget 0x122 1 part 0 0 = 1 then some (s.tget 0x122 1 part 4 1, s.tget 0x122 1 part 10 5) else none

/-- Does a PCIe port carry traffic: it is an upstream port, or a downstream port of a partition that has an upstream port
and a bridge there: where it is local, among its first 63; where it is not, unless its home says otherwise (R212, R213)? -/
def State.carries (s : State) (n : Nat) : Bool :=
  let p := s.portPart n
  s.role n == 1 || (s.role n == 2 && (s.homeOf p).isSome
    && (if (s.upstreamOf p).isNone then !s.unbridged.contains n else ((s.downstreamOf p).take 63).contains n))

/-- Is an egress a PCIe port whose link is down, that is flushing (R223), or that carries no traffic? -/
def State.shut (s : State) (e : Nat) : Bool := isPcie e && (!(s.port e).up || (s.port e).flushing || !s.carries e)

/-- Data rate of a core port's link as a fraction (kb/s): PCIe by rate, width and encoding (R391), Moaben by speed and
width (R228), engines and core port 88 as R15 and R16 give. -/
def State.rate (s : State) (n : Nat) : Nat × Nat :=
  if isPcie n then
    let code := s.fget (R.PEP_PORT_STS_RATE n)
    let w := s.fget (R.PEP_PORT_STS_WIDTH n)
    let raw := match code with
      | 1 => 2500000 | 2 => 5000000 | 3 => 8000000 | 4 => 16000000 | 5 => 32000000 | 6 => 64000000 | _ => 0
    if s.flag (R.PEP_PORT_STS_FLIT n) then (raw * w * 236, 256)
    else if code < 3 then (raw * w * 8, 10)
    else (raw * w * 128, 130)
  else if isMoaben n then
    let f := n - 64
    (64000000 * 2 ^ s.fget (R.MFL_LINK_STS_SPEED f) * 2 ^ s.fget (R.MFL_LINK_STS_WIDTH f), 4)
  else if isEngine n then (256000000, 1)
  else (64000000, 1)

/-- Is the first port's data rate at least the second's (R62)? -/
def State.rateGe (s : State) (a b : Nat) : Bool :=
  decide ((s.rate b).1 * (s.rate a).2 ≤ (s.rate a).1 * (s.rate b).2)

/-! ### Frames and copies -/

def State.frame? (s : State) (id : Nat) : Option Frame := s.sw.frames.find? (·.id == id)

def State.modFrame (s : State) (id : Nat) (f : Frame → Frame) : State :=
  { s with sw := { s.sw with frames := s.sw.frames.map fun x => if x.id = id then f x else x } }

def State.setCopies (s : State) (cs : List Copy) : State := { s with sw := { s.sw with copies := cs } }

/-- Copies of a frame that still hold a reference: queued or in transmission (R52). -/
def State.copiesOf (s : State) (id : Nat) : List Copy := s.sw.copies.filter fun c => c.frame == id && !c.unacked

/-- Ordered cells a port's weir is charged with: admitted frames and waiting requests that entered there, those for the
culvert included (R67, R101, R354). -/
def State.weirHeld (s : State) (n : Nat) : Nat :=
  (s.sw.frames.filter fun f => f.ingress == n && f.pool == .ordered).foldl (fun k f => k + f.tlp.cells) 0
    + (s.sw.waiting.filter fun w => w.frame.ingress == n && w.frame.pool == .ordered).foldl
      (fun k w => k + w.frame.tlp.cells) 0
    + s.cul.door.foldl (fun k o => match o.src with
      | .host f => if f.ingress = n ∧ f.pool = .ordered then k + f.tlp.cells else k
      | _ => k) 0

/-- Cells of copies queued for a port. -/
def State.queuedCells (s : State) (n : Nat) : Nat :=
  (s.sw.copies.filter fun c => c.egress == n && !c.unacked).foldl
    (fun k c => k + match s.frame? c.frame with
      | some f => f.tlp.cells
      | none => 0) 0

/-- Slot time of a link port in units of 1/16 ns, 0 while its link is down (R391). -/
def State.slotTime (s : State) (n : Nat) : Nat :=
  let r := s.rate n
  if 72 ≤ n ∨ !(s.port n).up ∨ r.1 = 0 then 0 else ceilDiv (4096 * 8000000 * r.2) r.1

/-- Slots spent so far by the copy in transmission at a port (R392). -/
def State.slotsPending (s : State) (n : Nat) : Nat :=
  match s.sw.copies.find? fun c => c.egress == n && c.sending && !c.unacked with
  | none => 0
  | some c =>
    if s.slotTime n = 0 then 0
    else min 255 (min ((s.now - c.started) * 64 / (5 * s.slotTime n)) (match s.frame? c.frame with
      | some f => f.tlp.cells
      | none => 0))

/-- The slots a port has spent on the copy in transmission are wasted (R392). -/
def State.wasteSlots (s : State) (n : Nat) : State := s.linkSlots n 1 (s.slotsPending n)

/-! ### Pools (R53 to R56) -/

/-- LIMP's pools: in LIMP, in SAFE, and in DIAGNOSTIC entered from LIMP (R56, R435). -/
def State.limpPools (s : State) : Bool :=
  s.mode == mLIMP || s.mode == mSAFE || s.mode == mRESET || s.service == mLIMP

/-- Banks in service: physical banks ACTIVE, by logical number (R88); in LIMP logical bank 0 alone (R56). -/
def State.activeBanks (s : State) : List (Nat × Nat) :=
  let all := (upTo 17).filterMap fun j =>
    let v := (s.reg (0x111020 + 4 * j)).toNat
    if bits v 2 0 = 0 then some (bits v 12 8, j) else none
  if s.limpPools then all.filter fun b => b.1 == 0 else all

/-- Cells in use in a pool; for the completion reserve, cells reserved or in use (BUF_POOL_USED). -/
def State.poolUsed (s : State) (k : Pool) : Nat :=
  (s.sw.frames.filter fun f => f.pool == k).foldl (fun n f => n + f.tlp.cells) 0
    + (if k = .completion then s.sw.tags.foldl (fun n t => n + t.reserved) 0 + s.engTags.foldl (fun n t => n + t.reserved) 0
       else 0)
    + (if k = .management then s.links.foldl (fun n e => e.2.vc4.foldl (fun n p => n + p.cells) n) 0 else 0)

/-- The ordered pool that the other pools leave (R53), by their written sizes at least 16,384 cells (R54). A completion
reserve made smaller than what is reserved shrinks as reservations are released (R56). -/
def State.ordSize (s : State) : Nat :=
  if s.limpPools then 11264
  else 16384 * s.activeBanks.length - 1536 - max (s.fget R.BUF_CPL_POOL_CELLS) (s.poolUsed .completion)
    - s.fget R.BUF_LIVE_POOL_CELLS

/-- Size of a pool (R53, R56). -/
def State.poolSize (s : State) : Pool → Nat
  | .management => 1024
  | .ledger => if s.limpPools then 0 else 512
  | .completion => if s.limpPools then 4096 else s.fget R.BUF_CPL_POOL_CELLS
  | .live => if s.limpPools then 0 else s.fget R.BUF_LIVE_POOL_CELLS
  | .ordered => s.ordSize

/-- Free cells of a pool. -/
def State.poolFree (s : State) (k : Pool) : Nat := s.poolSize k - s.poolUsed k

/-- Cells held in a physical bank. -/
def State.bankUsed (s : State) (j : Nat) : Nat :=
  s.sw.frames.foldl (fun n f => n + (f.banks.filter (· == j)).length) 0

/-- Cells held and write slots taken of the physical banks while a frame's cells are placed, with the ingress port's
pointer: a bank writes one cell in a core cycle (R17, R51). -/
structure Placing where
  used : List Nat
  slots : Store Nat
  ptr : Nat
  deriving DecidableEq, Repr

/-- The next bank after the pointer, by logical number, that has a free cell and a free write slot, in the first core cycle
from `now` on in which a bank has both; with that cycle (R51, R59). -/
def nextBank (active : List (Nat × Nat)) (x : Placing) (now : Nat) : Option (Nat × Nat × Nat) :=
  let room := active.filter fun b => decide (x.used.getD b.2 0 < 16384)
  let from' (b : Nat × Nat) : Nat := max now (storeGet 0 x.slots b.2)
  match room with
  | [] => none
  | b :: bs =>
    let t := bs.foldl (fun t b => min t (from' b)) (from' b)
    ((upTo 16).map fun d => (x.ptr + 1 + d) % 16).findSome? fun l =>
      (room.find? fun b => b.1 == l && from' b == t).map fun b => (b.1, b.2, t)

/-- Physical banks for `n` cells, and what is left of the banks after them (R51). -/
def allotBanks (active : List (Nat × Nat)) (now : Nat) : Nat → Placing → List Nat × Placing
  | 0, x => ([], x)
  | n + 1, x =>
    match nextBank active x now with
    | none => ([], x)
    | some (l, j, t) =>
      let r := allotBanks active now n
        { used := setAt x.used j (x.used.getD j 0 + 1), slots := storePut 0 j (t + 1) x.slots, ptr := l }
      (j :: r.1, r.2)

/-- The interval's highest weir charge of a port follows its charge (R70). -/
def State.notePeak (s : State) (n : Nat) : State :=
  s.modPort n fun p => { p with weirPeak := max p.weirPeak (s.weirHeld n) }

/-- A frame placed in the buffer: its cells spread by the ingress port's rotating pointer over banks with a free cell and a
free write slot (R51, R59). -/
def State.store (s : State) (f : Frame) : State :=
  let r := allotBanks s.activeBanks s.now f.tlp.cells
    { used := (upTo 17).map s.bankUsed, slots := s.sw.writeSlots, ptr := (s.port f.ingress).bankPtr }
  let s := s.modPort f.ingress fun p => { p with bankPtr := r.2.ptr }
  let s : State := { s with sw := { s.sw with
    frames := s.sw.frames ++ [{ f with banks := r.1 }], writeSlots := r.2.slots
    writeWinner := r.1.foldl (fun w b => storePut 88 b f.ingress w) s.sw.writeWinner } }
  s.notePeak f.ingress

/-- A frame kept waiting at its ingress, at the switch core or at its point of origin, with its copies (R55, R101, R227,
R465). -/
def State.wait (s : State) (f : Frame) (need : WaitFor) (cs : List Copy) : State :=
  ({ s with sw := { s.sw with waiting := s.sw.waiting ++ [{ frame := f, need := need, copies := cs }] } } : State).notePeak
    f.ingress

/-- A fresh frame identity. -/
def State.fresh (s : State) : Nat × State := (s.sw.nextId, { s with sw := { s.sw with nextId := s.sw.nextId + 1 } })

/-- A copy placed at the tail of its queue, with its port's epoch (R58, R82). -/
def State.enqueue (s : State) (c : Copy) : State :=
  let (id, s) := s.fresh
  let c := { c with id := id, portEpoch := (s.port c.egress).epoch }
  -- A frame queued for a link in ASPM L1 starts the exit at once (R225).
  let s := if (s.port c.egress).l1 then s.modPort c.egress fun p => { p with l1 := false } else s
  s.setCopies (s.sw.copies ++ [c])

/-- The queue of a copy: live priorities 12 to 15, then 3 × (traffic class mod 4) + type (R58). -/
def queueOf (f : Frame) : Nat := if f.live then 12 + f.prio else 3 * (f.tlp.tc.val % 4) + f.tlp.queueType

/-- A fresh free value (log entry 3). -/
def State.drawNat (s : State) : Nat × State := (Config.freeNat s.free, { s with free := s.free + 1 })

def State.drawWord (s : State) : W256 × State := (Config.freeWord s.free, { s with free := s.free + 1 })

/-- What is known of the tests of a unit (R281, R287, R288). -/
def State.testUnit (s : State) (u : Nat) : TestUnit := storeGet {} s.tests u

def State.modTest (s : State) (u : Nat) (f : TestUnit → TestUnit) : State :=
  { s with tests := storePut {} u (f (s.testUnit u)) s.tests }

/-! ### Links -/

/-- Links that R105 may choose from: the mask of the destination's route entry that USE_ALT selects, within the
routing view (R105, R263). -/
def State.routeLinks (s : State) (fid : Nat) : List Nat :=
  let e := (s.tbl 0x122 0 fid).toNat
  let mask := if bits e 16 16 = 1 then bits e 15 8 else bits e 7 0
  (upTo 8).filter fun f => bit mask f && bit (s.fget R.MAP_LINK_USABLE_USABLE) f

/-- The link R105 chooses: a fixed function, which the spec does not give, of ingress core port, destination fabric
ID, destination core port and traffic class, among the usable links (log entry 9). -/
def State.chooseLink (s : State) (ingress fid dest tc : Nat) : Option Nat :=
  let ls := s.routeLinks fid
  if s.service = mFABRIC then
    ls[Config.linkChoice ingress fid dest tc % ls.length]?
  else none

/-- Reserved completion cells of a tag record given back, all of them. -/
def State.dropTag (s : State) (id : Nat) : State :=
  { s with sw := { s.sw with tags := s.sw.tags.filter fun t => t.id != id } }

def State.modTag (s : State) (id : Nat) (f : TagRec → TagRec) : State :=
  { s with sw := { s.sw with tags := s.sw.tags.map fun t => if t.id = id then f t else t } }

/-- Every outstanding engine tag changed in place. -/
def State.modEngTags (s : State) (f : EngTag → EngTag) : State := { s with engTags := s.engTags.map f }

end Sys2Proof.Machine
end

