-- ==== Sys2Proof/Machine/Shadows.lean ====
section
/-! DEFINITION. Configuration shadows (R187, R213 to R215): which function is which, what a register reads as, which of
its bits software may write, and the AER, slot, DPC and MSI-X fields the rest of the model uses.
The places of the standard registers within a bridge's or management function's space are PRESUMED from the PCI Express
standard the spec cites (log entry 10); the instance's capability offsets are R187's. -/

namespace Sys2Proof.Machine

/-- Functions with a shadow: the partition's upstream bridge, management function and engine bridge, a local
downstream port's bridge, a virtual instance, and the bridge of a port of another device (R213, R270). -/
inductive Fn where
  | up (part : Nat)
  | mgmt (part : Nat)
  | engBridge (part : Nat)
  | down (port : Nat)
  | inst (i : Nat)
  | remote (fid port : Nat)
  deriving DecidableEq, Repr

/-- Number of a function in the shadow and BAR stores. -/
def Fn.num : Fn → Nat
  | .up p => p
  | .mgmt p => 32 + p
  | .engBridge p => 64 + p
  | .down n => 128 + n
  | .inst i => 256 + i
  | .remote f n => 1024 + 64 * f + n

/-- A bridge (Type 1 header). -/
def Fn.isBridge : Fn → Bool
  | .mgmt _ => false
  | .inst _ => false
  | _ => true

/-- A card-facing downstream bridge, local or of another device. -/
def Fn.isDown : Fn → Bool
  | .down _ => true
  | .remote _ _ => true
  | _ => false

/-! Offsets within configuration space. -/
abbrev cCommand : Nat := 0x04
abbrev cBuses : Nat := 0x18
abbrev cIo : Nat := 0x1C
abbrev cMemory : Nat := 0x20
abbrev cPrefetch : Nat := 0x24
abbrev cPrefBaseHi : Nat := 0x28
abbrev cPrefLimitHi : Nat := 0x2C
abbrev cBridgeCtl : Nat := 0x3C
abbrev cPmcsr : Nat := 0x44
abbrev cMsix : Nat := 0x50
abbrev cDevCtl : Nat := 0x68
abbrev cLinkCtl : Nat := 0x70
abbrev cSlotCap : Nat := 0x74
abbrev cSlotCtl : Nat := 0x78
abbrev cDevCtl2 : Nat := 0x88
abbrev cAerUncSts : Nat := 0x104
abbrev cAerUncMask : Nat := 0x108
abbrev cAerUncSev : Nat := 0x10C
abbrev cAerCorSts : Nat := 0x110
abbrev cAerCorMask : Nat := 0x114
abbrev cAerCtl : Nat := 0x118
abbrev cAerHeader : Nat := 0x11C
abbrev cAcs : Nat := 0x164
abbrev cDpcCtl : Nat := 0x174
abbrev cDpcSts : Nat := 0x178
abbrev cPtmCtl : Nat := 0x198

/-- Reset content of a shadow register, identity fields apart (R187, R207, R214, R219, R221, R222). -/
def cfgReset (fn off : Nat) : W32 :=
  let inst := 256 ≤ fn ∧ fn < 1024
  let mgmt := 32 ≤ fn ∧ fn < 64
  let down := (128 ≤ fn ∧ fn < 192) ∨ 1024 ≤ fn
  let engBr := 64 ≤ fn ∧ fn < 96
  let bridge := ¬ inst ∧ ¬ mgmt
  match off with
  | 0x04 => 0x00100000
  | 0x08 => if bridge then 0x06040000 else 0x08800000
  | 0x0C => if bridge then 0x00810000 else if mgmt then 0x00800000 else 0
  | 0x10 => if mgmt then 0x4 else 0
  | 0x18 => if mgmt then 0x4 else 0
  | 0x1C => if bridge then 0x000000F0 else 0
  | 0x20 => if mgmt then 0x4 else if bridge then 0x0000FFF0 else 0
  | 0x24 => if bridge then 0x0001FFF1 else 0
  | 0x34 => 0x40
  | 0x40 => if inst then 0x00035001 else if bridge then 0x48036001 else 0xC0035001
  | 0x44 => 0x8
  | 0x50 => if inst then 0x00076011 else if mgmt then 0x001F6011 else 0
  | 0x54 => if inst then 0x8000 else if mgmt then 0x2 else 0
  | 0x58 => if inst then 0x9000 else if mgmt then 0x8002 else 0
  | 0x60 => if inst ∨ mgmt then 0x00020010 else if engBr then 0x0162A010 else if down then 0x8162A010 else 0x8052A010
  | 0x64 => if inst then 0x10008005 else 0x8025
  | 0x68 => 0x2810
  | 0x6C => if down then 0x00100906 else 0x0906
  | 0x74 => if down then 0x00000062 else if engBr then 0x00000060 else 0
  | 0x78 => if down then 0x03C0 else 0
  | 0x84 => if down ∨ engBr then 0x00230060 else if bridge then 0x00230040 else 0x00030000
  | 0x8C => 0x0000007E
  | 0xA0 => if bridge then 0x0000000D else 0
  | 0x100 => if inst then 0x0001000E else if down then 0x16020001 else if mgmt then 0x15020001 else if engBr then 0x00020001
    else 0x1A020001
  | 0x10C => if inst then 0 else 0x00462030
  | 0x114 => if inst then 0 else 0x00006000
  | 0x150 => if mgmt then 0x0001000E else 0
  | 0x160 => if down then 0x1701000D else 0
  | 0x164 => if down then 0x5F else 0
  | 0x170 => if down then 0x1901001D else 0
  | 0x174 => if down then 0x80 else 0
  | 0x190 => if down then 0x1A01001F else 0
  | 0x194 => if down then 0x00000106 else 0
  | 0x1A0 => if bridge ∧ ¬ engBr then 0x1B010025 else 0
  | 0x1A4 => if bridge ∧ ¬ engBr then 0x80000001 else 0
  | 0x1B0 => if bridge ∧ ¬ engBr then 0x20010027 else 0
  -- Device 3: 14-bit tags as completer and requester (R207).
  | 0x200 => if bridge ∧ ¬ engBr then 0x0001002F else 0
  | 0x204 => if bridge ∧ ¬ engBr then 0x00000006 else 0
  | _ => 0

/-- The stored word of a shadow register. -/
def State.cfg (s : State) (fn off : Nat) : W32 := storeGet (cfgReset fn off) s.shadows (fn * 4096 + off)

def State.setCfg (s : State) (fn off : Nat) (v : W32) : State :=
  { s with shadows := storePut (cfgReset fn off) (fn * 4096 + off) v s.shadows }

/-- A field of a shadow register. -/
def State.cfgBits (s : State) (fn off hi lo : Nat) : Nat := bits (s.cfg fn off).toNat hi lo

def State.putCfg (s : State) (fn off hi lo v : Nat) : State :=
  s.setCfg fn off (BitVec.ofNat 32 (putBits (s.cfg fn off).toNat hi lo v))

/-- Bits set in a shadow register. -/
def State.orCfg (s : State) (fn off : Nat) (m : W32) : State := s.setCfg fn off (s.cfg fn off ||| m)

/-- Every shadow register and BAR register of a function back at its reset value (R198, R216). -/
def State.clearFn (s : State) (fn : Nat) : State :=
  { s with
    shadows := s.shadows.filter fun e => e.1 / 4096 != fn
    bars := s.bars.filter fun e => e.1 / 65536 != fn }

/-- A word behind a BAR: the vector control words of an MSI-X table reset to masked (R191, R198). -/
def barReset (fn off : Nat) : W32 :=
  if 256 ≤ fn ∧ 0x8000 ≤ off ∧ off < 0x8080 ∧ off % 16 = 12 then 1
  else if fn < 64 ∧ off < 0x200 ∧ off % 16 = 12 then 1
  else if 256 ≤ fn ∧ off < 0x400 ∧ off % 0x100 = 0x10 then 4
  else 0

def State.bar (s : State) (fn off : Nat) : W32 := storeGet (barReset fn off) s.bars (fn * 65536 + off)

def State.setBar (s : State) (fn off : Nat) (v : W32) : State :=
  { s with bars := storePut (barReset fn off) (fn * 65536 + off) v s.bars }

/-- Class of the function for its identity: Device ID (R214). -/
def deviceId (fn : Nat) : Nat := if 256 ≤ fn ∧ fn < 1024 then 0xC25F else 0xC256

/-- Has the port of a downstream bridge a slot (R219)? -/
def State.slotted (s : State) (p : Nat) : Bool := decide (s.fget (R.PEP_PORT_CTL_SLOT p) < 24)

/-! ### Instances of a partition (R185, R186, R195) -/

/-- Do instances and engine bridges exist now (R185)? -/
def State.instancesExist (s : State) : Bool := s.service == mCOMPOSED || s.service == mFABRIC

/-- State of an instance (R195). -/
def State.instState (s : State) (i : Nat) : Nat := s.fget (R.VIM_INST_STS_STATE i)

abbrev iFREE : Nat := 0
abbrev iSETUP : Nat := 1
abbrev iRESET : Nat := 2
abbrev iACTIVE : Nat := 3
abbrev iRECOVERY : Nat := 4
abbrev iFROZEN : Nat := 5
abbrev iRESETTING : Nat := 6

/-- Instances that are not FREE, from the registers that are not at reset. -/
def State.liveInsts (s : State) : List Nat :=
  (s.regs.filter fun e => decide (0x400000 ≤ e.1) && decide (e.1 < 0x600000) && e.1 % 4096 == 0x20
    && e.2.toNat % 8 != 0).map fun e => (e.1 - 0x400000) / 4096

/-- Does a function appear for an instance (R185, R186)? -/
def State.instPresent (s : State) (i : Nat) : Bool :=
  s.instancesExist && s.instState i != iFREE && s.instState i != iSETUP

/-- Tenant partition of an instance. -/
def State.instPart (s : State) (i : Nat) : Nat := s.fget (R.VIM_INST_OWNER_TENANT_PART i)

/-- Instances of a partition. -/
def State.instsOf (s : State) (part : Nat) : List Nat := s.liveInsts.filter fun i => s.instPart i == part

/-! ### Octets and their ports (R209, R210) -/

/-- Sub-ports of an octet mode. -/
def subPorts (mode : Nat) : Nat :=
  match mode with
  | 0 => 1 | 1 => 2 | 2 => 3 | 3 => 4 | 4 => 1 | _ => 0

def State.octetMode (s : State) (k : Nat) : Nat := s.fget (R.PHY_OCTET_MODE_MODE k)

/-- Port numbers that octet `k` forms. In X16 the even octet forms the pair's port once both octets read X16, and the
odd octet forms none (R209, R210; log entry 26). -/
def State.octetPorts (s : State) (k : Nat) : List Nat :=
  let mode := s.octetMode k
  let v := (s.reg (R.PHY_OCTET_PORTS k)).toNat
  let n := if mode = 4 then (if k % 2 = 0 && s.octetMode (k + 1) == 4 then 1 else 0) else subPorts mode
  ((upTo n).filter fun j => bit v (8 * j + 7)).map fun j => bits v (8 * j + 5) (8 * j)

/-- Every port number formed, with repeats. -/
def State.formedPorts (s : State) : List Nat := (upTo 24).flatMap s.octetPorts

/-- The first octet that forms a port. -/
def State.octetOf (s : State) (n : Nat) : Option Nat := (upTo 24).find? fun k => (s.octetPorts k).contains n

/-- Lanes of a port as its octet forms it (R209). -/
def State.portWidth (s : State) (n : Nat) : Nat :=
  match s.octetOf n with
  | none => 1
  | some k => match s.octetMode k with
    | 4 => 16
    | 0 => 8
    | 1 => 4
    | 2 => if bits (s.reg (R.PHY_OCTET_PORTS k)).toNat 5 0 = n then 4 else 2
    | _ => 2

/-- Lane margining of a port is ready while its link runs at 16 GT/s or more (R286; PRESUMED from the standard, log entry
103). -/
def State.marginReady (s : State) (n : Nat) : W32 :=
  if s.flag (R.PEP_PORT_STS_DL_ACTIVE n) && decide (4 ≤ s.fget (R.PEP_PORT_STS_RATE n)) then 0x30000 else 0

/-- Link Capabilities with the widest width of a port (R207, R209). -/
def State.linkCap (s : State) (n : Nat) (v : W32) : W32 := BitVec.ofNat 32 (putBits v.toNat 9 4 (s.portWidth n))

/-- Link Status of a bridge as its port's link stands: speed, width and Data Link Layer Link Active (R219, R220). -/
def State.linkStatus (s : State) (p : Nat) (v : W32) : W32 :=
  let w := putBits v.toNat 19 16 (s.fget (R.PEP_PORT_STS_RATE p))
  let w := putBits w 25 20 (s.fget (R.PEP_PORT_STS_WIDTH p))
  BitVec.ofNat 32 (putBits w 29 29 (s.fget (R.PEP_PORT_STS_DL_ACTIVE p)))

/-- Slot Power Limit Value and Scale of a slot, from its supervisor's limits (R219). -/
def State.slotLimit (s : State) (k : Nat) : Nat :=
  Config.slotPower (s.fget (R.SPV_ILIMIT0_LIMIT k)) (s.fget (R.SPV_ILIMIT1_LIMIT k)) % 1024

/-- What a configuration read returns, with identity, link status, slot number and presence in place (R187, R214, R219
to R221). -/
def State.cfgRead (s : State) (fn off : Nat) : W32 :=
  let v := s.cfg fn off
  let inst := decide (256 ≤ fn) && decide (fn < 1024)
  let mgmt := decide (32 ≤ fn) && decide (fn < 64)
  -- Capabilities of a port on another device, as that device has announced them (R219, R270).
  let there := if 1024 ≤ fn then storeGet 0 s.remoteWords (4096 * fn + off) else 0
  match off with
  | 0x00 => BitVec.ofNat 32 (s.fget R.DEV_IDENT_VENDOR + deviceId fn * 65536)
  | 0x08 => v ||| BitVec.ofNat 32 (s.fget R.DEV_IDENT_REVISION)
  | 0x2C => if inst || mgmt then s.reg R.DEV_SUBSYS else v
  | 0x60 => if there ≠ 0 then there else if decide (128 ≤ fn) && decide (fn < 192) && !s.slotted (fn - 128) then 0x8062A010 else v
  | 0x6C => if there ≠ 0 then there else if decide (fn < 32) then
      (match s.upstreamOf fn with
       | some p => s.linkCap p v
       | none => v)
    else if decide (128 ≤ fn) && decide (fn < 192) then s.linkCap (fn - 128) v else v
  | 0x70 => if decide (fn < 32) then
      (match s.upstreamOf fn with
       | some p => s.linkStatus p v
       | none => v)
    else if decide (128 ≤ fn) && decide (fn < 192) then s.linkStatus (fn - 128) v else v
  | 0x74 => if decide (128 ≤ fn) && decide (fn < 192) then
      (if s.slotted (fn - 128) then v ||| BitVec.ofNat 32 ((s.fget (R.PEP_PORT_CTL_SLOT (fn - 128)) + 1) * 2 ^ 19
        + s.slotLimit (s.fget (R.PEP_PORT_CTL_SLOT (fn - 128))) * 2 ^ 7) else 0)
    else if fn < 1024 then v else there
  | 0x78 => if decide (128 ≤ fn) && decide (fn < 192) then
      (if s.slotted (fn - 128) then BitVec.ofNat 32 (putBits v.toNat 22 22
        (s.fget (R.SPV_SLOT_STS_PRESENT (s.fget (R.PEP_PORT_CTL_SLOT (fn - 128)))))) else 0)
    else if decide (64 ≤ fn) && decide (fn < 96) then
      BitVec.ofNat 32 (putBits v.toNat 22 22 (ofBool ((s.instsOf (fn - 64)).any s.instPresent)))
    else v
  | 0xA4 => if inst || mgmt then v else s.reg R.DEV_SUBSYS
  | 0x1B4 => if decide (fn < 32) then (s.upstreamOf fn).elim v s.marginReady
    else if decide (128 ≤ fn) && decide (fn < 192) then s.marginReady (fn - 128) else v
  | _ => v

/-- Requester ID of a partition's management function: bus of the upstream bridge's primary side, device 0, function 1
(R101, R213; the bus is the Primary Bus Number shadow, log entry 11). Of a partition homed on another device it is what that
device has told, or a free value (log entry 108). -/
def State.mgmtReqId (s : State) (part : Nat) : BitVec 16 :=
  let bus := if (s.upstreamOf part).isNone && (s.homeOf part).isSome then
      (storeGet none s.homeBuses part).getD (Config.homeBus part) % 256
    else s.cfgBits (Fn.up part).num cBuses 7 0
  BitVec.ofNat 16 (bus * 256 + 1)

/-- Bus Master Enable of a function. -/
def State.busMaster (s : State) (fn : Nat) : Bool := s.cfgBits fn cCommand 2 2 == 1

/-- Memory Space Enable of a function. -/
def State.memSpace (s : State) (fn : Nat) : Bool := s.cfgBits fn cCommand 1 1 == 1

/-- The function is in D3hot. -/
def State.d3hot (s : State) (fn : Nat) : Bool := s.cfgBits fn cPmcsr 1 0 == 3

/-- The bridge that stands for a PCIe port (R217): upstream bridge of a host port, downstream bridge of a card port. -/
def State.portFn (s : State) (p : Nat) : Nat :=
  if s.role p = 1 then (Fn.up (s.portPart p)).num else (Fn.down p).num

end Sys2Proof.Machine
end

