-- ==== Sys2Proof/Machine/Flags.lean ====
section
/-! DEFINITION. Status flags and the signals they drive: device-formed writes, management-function interrupt vectors
(R217, R306), page events with their sequence number (R36 to R38), advanced error reporting (R217), and governor
decision logs (R400). -/

namespace Sys2Proof.Machine

/-! ### Frames the part forms itself -/

/-- Has a sweep been started in this core cycle (R128)? -/
def State.sweptNow (s : State) : Bool := s.sweep.wrote == s.now + 1

/-- The rule epoch of a lookup now: in the core cycle of a write of ACL_SWEEP the old one (R127, R128). -/
def State.stampEpoch (s : State) : Nat := if s.sweptNow then s.sweep.before else s.fget R.ACL_EPOCH_EPOCH

/-- A frame around a packet: stamped now, its furrow word computed as it is formed (R140, R290). -/
def State.formFrame (s : State) (id ingress : Nat) (t : Tlp) (pool : Pool) (origin : Origin) : Frame :=
  { id := id, tlp := t, furrow := furrow t, ingress := ingress, origin := origin, stamp := s.time80, era := s.tb.era,
    born := s.now, pool := pool, ruleEpoch := s.stampEpoch, older := s.sweptNow, srcFid := s.selfFid }

abbrev isoNORMAL : Nat := 0

/-- Is the device in ISOLATE, or on its way into it or out of it (R308 to R310)? -/
def State.isolating (s : State) : Bool := s.mode == mISOLATE || s.fget R.ERR_ISO_STS_STATE != isoNORMAL

/-- Does a frame wait for cells of a pool? The next ones wait behind it (R23, R465). -/
def State.poolQueue (s : State) (k : Pool) : Bool := s.sw.waiting.any fun w => w.need == .pool && w.frame.pool == k

/-- A frame and its copies admitted when its pool has room and no earlier one waits for it, kept waiting at its point of
origin otherwise (R465). -/
def State.admitOrWait (s : State) (f : Frame) (cs : List Copy) : State :=
  if f.tlp.cells ≤ s.poolFree f.pool ∧ s.poolQueue f.pool = false then cs.foldl State.enqueue (s.store f)
  else s.wait f .pool cs

/-- Egress of a frame towards a core port of a device of the fabric: the port itself, or the link that R105 chooses. -/
def State.egressTo (s : State) (ingress fid dest tc : Nat) : Option Nat :=
  if fid = s.selfFid then some dest
  else (s.chooseLink ingress fid dest tc).map (· + 64)

/-- A posted write formed at core port 88 and sent without lookup to a core port of a device (R81, R305, R465); with no
fabric route it is discarded and counted (R106), and so it is towards a port that is down or flushing (R223). -/
def State.devicePost (s : State) (t : Tlp) (pool : Pool) (fid dest : Nat) (why : Purpose) : State :=
  match s.egressTo 88 fid dest t.tc.val with
  | none => s.bump R.MAP_NOROUTE
  | some e =>
    if s.shut e then s.bump R.BUF_FLUSH_P
    else
    let (id, s) := s.fresh
    let f := s.formFrame id 88 t pool .device
    let c : Copy :=
      { frame := id, egress := e, queue := queueOf f, addr := t.addr, dstFid := fid, dest := dest, purpose := why }
    s.admitOrWait f [c]

/-- A posted write to the upstream port of a partition under the requester ID of its management function. -/
def State.postToHost (s : State) (part : Nat) (addr : W64) (data : List Byte) (pool : Pool) (why : Purpose) : State :=
  match s.homeOf part with
  | none => s
  | some (fid, p) =>
    s.devicePost { kind := .memWrite, addr := addr, len := data.length, data := data, reqId := s.mgmtReqId part }
      pool fid p why

/-! ### Interrupt vectors of the management functions (R217, R306) -/

/-- The page interrupt's level: EVENTS & EVT_MASK.EN is non-zero (R38). -/
def State.pageIrq (s : State) (page : Nat) : Bool :=
  ((s.reg (page * 4096 + 0x10)).toNat &&& (s.reg (page * 4096 + 0x18)).toNat) % 65536 != 0

/-- Pages whose EVT_STS is not at its reset value: only these can be asserted. -/
def State.eventPages (s : State) : List Nat :=
  (s.regs.filter fun e => e.1 % 4096 == 0x10).map fun e => e.1 / 4096

/-- The OR of the page interrupts routed to a vector of a partition's management function (R217, R306). -/
def State.vectorLevel (s : State) (part vec : Nat) : Bool :=
  s.eventPages.any fun pg => s.pageIrq pg && s.tget 0x50 1 pg part part == 1 && s.tget 0x50 1 pg 36 32 == vec

/-- A message of a management function's vector, sent when the function may send it and pending otherwise (R217). -/
def State.mgmtMessage (s : State) (part vec : Nat) : State :=
  let fn := (Fn.mgmt part).num
  let ctl := (s.cfg fn cMsix).toNat
  let may := bit ctl 31 && !bit ctl 30 && s.busMaster fn && !bit (s.bar fn (16 * vec + 12)).toNat 0
  if may then
    s.postToHost part (BitVec.ofNat 64 ((s.bar fn (16 * vec)).toNat + (s.bar fn (16 * vec + 4)).toNat * 2 ^ 32))
      (leBytes 4 (s.bar fn (16 * vec + 8)).toNat) .management .data
  else s.setBar fn 0x8000 (s.bar fn 0x8000 ||| (1 <<< vec))

/-- Messages of the vectors a page is routed to, for those whose OR went from 0 to 1 (R217). -/
def State.sendVectors (s : State) (page : Nat) (before : Nat → Bool) : State :=
  let vec := s.tget 0x50 1 page 36 32
  (upTo 32).foldl (fun s p =>
    if s.tget 0x50 1 page p p = 1 && !before p && s.vectorLevel p vec then s.mgmtMessage p vec else s) s

/-! ### Page events -/

/-- What has happened to a page's events in this core cycle (R37). -/
def State.evtCycle (s : State) (page : Nat) : EvtCycle :=
  let e := storeGet {} s.evtCycles page
  if e.cycle = s.now + 1 then e else { cycle := s.now + 1 }

/-- An event occurs on a page: the clears of the same core cycle are ignored after all, and counted (R37). -/
def State.evtWins (s : State) (page : Nat) : State :=
  let e := s.evtCycle page
  let s : State := { s with evtCycles := storePut {} page { cycle := s.now + 1, raised := true } s.evtCycles }
  if e.clears = 0 then s
  else
    let sts := s.reg (page * 4096 + 0x10)
    ((s.setReg (page * 4096 + 0x10) (sts ||| BitVec.ofNat 32 e.cleared)).setReg (page * 4096 + 0x1C) e.first).bumpBy
      (page * 4096 + 0x800) e.clears

/-- Occurrences of events on a page in one core cycle: SEQ advances by their number, their bits are set, and EVT_FIRST
captures the lowest-numbered of the cycle in which EVENTS leaves zero (R36). Its SEQ is the one after all of them (log entry
12); commands with no idle step between them fall in one core cycle (log entry 2). -/
def State.raiseAll (s : State) (page : Nat) (evs : List Nat) : State :=
  if evs.isEmpty then s
  else
    let s := s.evtWins page
    let sts := (s.reg (page * 4096 + 0x10)).toNat
    let seq := (bits sts 31 16 + evs.length) % 65536
    let ev := evs.foldl (fun m e => m ||| 2 ^ e) (bits sts 15 0)
    let vec := s.tget 0x50 1 page 36 32
    let before := fun p => s.vectorLevel p vec
    let s' := s.setReg (page * 4096 + 0x10) (BitVec.ofNat 32 (seq * 65536 + ev))
    let first := bits sts 15 0 == 0
    let low := if first then 15 else bits (s.reg (page * 4096 + 0x1C)).toNat 3 0
    let s' := if first || storeGet 0 s.firstAt page == s.now + 1 then
        ({ s' with firstAt := storePut 0 page (s.now + 1) s'.firstAt } : State).setReg (page * 4096 + 0x1C)
          (BitVec.ofNat 32 (seq * 65536 + 0x80 + evs.foldl min low))
      else s'
    if s'.pageIrq page then s'.sendVectors page before else s'

/-- One occurrence of an event of a page, by page number. -/
def State.raise (s : State) (page ev : Nat) : State := if s.alive then s.raiseAll page [ev] else s

/-- A change of mode: PRIOR, MODE_CHANGE, and what leaving DRAIN clears (DEV_MODE_STS, R434). -/
def State.enterMode (s : State) (m : Nat) : State :=
  if s.mode = m then s
  else
    let old := s.mode
    let s := (s.fset R.DEV_MODE_STS_PRIOR old).setMode m
    let s := if old = mDRAIN then s.fset R.DEV_MODE_STS_DRAINED 0 else s
    let s := if old = mDRAIN ∧ m ≠ mISOLATE then s.fset R.DEV_MODE_STS_THERMAL 0 else s
    -- Links join the routing view afresh in FABRIC mode, which an UPDATE entered from it does not leave (R257, R264).
    let s : State := if m = mFABRIC ∧ old ≠ mUPDATE then { s with wasUsable := 0 } else s
    s.raise 0x000 0

/-- ALERT_N asserted by a record that is not of the alerting level: event 4 of ERR page 0 (R307; log entry 35). -/
def State.alert (s : State) : State := s.raise 0x50 4

/-- ALERT_N: event 4 of ERR page 0, ISOLATE and SAFE (R307, R427). -/
def State.alertN (s : State) : Bool :=
  s.alive && (bit (s.reg 0x50010).toNat 4 || s.mode == mISOLATE || s.mode == mSAFE)

/-- A clear of page events: only with the current sequence number, and with no event of the page in the same core cycle (R37).
Once no event is left, the whole of EVT_FIRST reads 0 (R36, log entry 12). -/
def State.evtClear (s : State) (page mask seq : Nat) : State :=
  let sts := (s.reg (page * 4096 + 0x10)).toNat
  let e := s.evtCycle page
  if seq = bits sts 31 16 ∧ e.raised = false then
    let left := bits sts 15 0 - (bits sts 15 0 &&& mask)
    let e := { e with
      clears := e.clears + 1, cleared := e.cleared ||| (bits sts 15 0 &&& mask)
      first := if e.clears = 0 then s.reg (page * 4096 + 0x1C) else e.first }
    let s : State := { s with evtCycles := storePut {} page e s.evtCycles }
    let s := s.setReg (page * 4096 + 0x10) (BitVec.ofNat 32 (bits sts 31 16 * 65536 + left))
    if left = 0 then s.setReg (page * 4096 + 0x1C) 0 else s
  else s.bump (page * 4096 + 0x800)

/-! ### Advanced error reporting (R217) -/

/-- Requester ID of a function of a partition homed here: the upstream bridge and the management function on the primary
bus, the downstream bridges in order and the engine bridge on the internal bus (R213). -/
def State.fnReqId (s : State) (fn part : Nat) : BitVec 16 :=
  let inner := s.cfgBits (Fn.up part).num cBuses 15 8 * 256
  let below := (s.downstreamOf part).map (fun n => (Fn.down n).num)
    ++ (s.remoteBridges.filter fun r => r.1 == part).map (fun r => (Fn.remote r.2.1 r.2.2).num)
  if fn < 32 then BitVec.ofNat 16 (s.cfgBits fn cBuses 7 0 * 256)
  else if fn < 64 then s.mgmtReqId part
  else if fn < 96 then BitVec.ofNat 16 (inner + 31 * 8 + 1)
  else BitVec.ofNat 16 (inner + (below.idxOf fn) / 2 * 8 + (below.idxOf fn) % 2)

/-- Does the upstream bridge pass an error message on to the host: SERR# Enable of its Bridge Control, and of its Command
for an uncorrectable one (PRESUMED from the standard, log entry 10)? -/
def State.passesError (s : State) (fn : Nat) (corrected : Bool) : Bool :=
  s.cfgBits fn cBridgeCtl 17 17 == 1 && (corrected || s.cfgBits fn cCommand 8 8 == 1)

/-- An error message of a function, under that function's ID, through the partition's upstream port (R217, log entry 10).
Where the partition is homed on another device, that device sends it once the change has been relayed (R270). -/
def State.errSignal (s : State) (fn part : Nat) (code : BitVec 8) : State :=
  match s.upstreamOf part with
  | none => s
  | some p =>
    if decide (64 ≤ fn) && !s.passesError (Fn.up part).num (code == 0x30) then s
    else s.devicePost { kind := .message, reqId := s.fnReqId fn part, byteEn := code } .management s.selfFid p .data

/-- Status, First Error Pointer and header log of an error in a function's AER capability. -/
def State.aerLog (s : State) (fn b : Nat) (hdr : List Byte) : State :=
  let first := s.cfg fn cAerUncSts == 0
  let s := s.orCfg fn cAerUncSts (1 <<< b)
  let s := if first then s.putCfg fn cAerCtl 4 0 b else s
  if first ∧ !hdr.isEmpty then
    (upTo 4).foldl (fun s k => s.setCfg fn (cAerHeader + 4 * k)
      (BitVec.ofNat 32 (leNat ((hdr.drop (4 * k)).take 4).reverse))) s
  else s

/-- An uncorrectable error in a function's AER capability; an unmasked one is signalled to the partition's host by an
error message through its upstream port (log entry 10). -/
def State.aerUncorrectable (s : State) (fn part b : Nat) (hdr : List Byte) : State :=
  let masked := bit (s.cfg fn cAerUncMask).toNat b
  let fatal := bit (s.cfg fn cAerUncSev).toNat b
  let s := s.aerLog fn b hdr
  let s := s.orCfg fn cDevCtl (if fatal then 1 <<< 18 else 1 <<< 17)
  let enabled := s.cfgBits fn cDevCtl (if fatal then 2 else 1) (if fatal then 2 else 1) == 1 || s.cfgBits fn cCommand 8 8 == 1
  if masked || !enabled then s else s.errSignal fn part (if fatal then 0x33 else 0x31)

/-- A corrected or advisory error in a function's AER capability (R217). -/
def State.aerCorrectable (s : State) (fn part b : Nat) : State :=
  let masked := bit (s.cfg fn cAerCorMask).toNat b
  let s := (s.orCfg fn cAerCorSts (1 <<< b)).orCfg fn cDevCtl (1 <<< 16)
  if masked || s.cfgBits fn cDevCtl 0 0 != 1 then s else s.errSignal fn part 0x30

/-- An error the standard makes advisory when its severity is non-fatal: logged, and signalled as a corrected one (R217,
log entry 10). -/
def State.aerAdvise (s : State) (fn part b : Nat) (hdr : List Byte) : State :=
  if bit (s.cfg fn cAerUncSev).toNat b then s.aerUncorrectable fn part b hdr
  else (s.aerLog fn b hdr).aerCorrectable fn part 13

/-- AER status bits of the standard that R217 names. -/
abbrev aerDlProtocol : Nat := 4
abbrev aerSurpriseDown : Nat := 5
abbrev aerPoisoned : Nat := 12
abbrev aerCompletionTimeout : Nat := 14
abbrev aerMalformed : Nat := 18
abbrev aerEcrc : Nat := 19
abbrev aerUnsupported : Nat := 20
abbrev aerAcs : Nat := 21
abbrev aerInternal : Nat := 22
abbrev aerCorrectedInternal : Nat := 14
abbrev aerReceiver : Nat := 0
abbrev aerBadTlp : Nat := 6

/-- Does an uncorrectable error of a downstream bridge trigger DPC: enabled by its host for the error's severity, unmasked,
and the port not in DPC already (R218)? -/
def State.triggersDpc (s : State) (n b : Nat) : Bool :=
  let fn := (Fn.down n).num
  let en := s.cfgBits fn cDpcCtl 17 16
  s.role n == 2 && en != 0 && !bit (s.cfg fn cAerUncMask).toNat b && (bit (s.cfg fn cAerUncSev).toNat b || en == 2)
    && !s.flag (R.PEP_PORT_STS_DPC n)

/-- A corrected error of a physical port, logged by its bridge (R217); other core ports log none. -/
def State.portCorrected (s : State) (port b : Nat) : State :=
  if isPcie port then s.aerCorrectable (s.portFn port) (s.portPart port) b else s

/-- An uncorrectable error logged by the bridge of a PCIe port (R217); other core ports raise none. -/
def State.portAer (s : State) (port b : Nat) (hdr : List Byte) : State :=
  if isPcie port then
    let s := s.aerUncorrectable (s.portFn port) (s.portPart port) b hdr
    if s.triggersDpc port b then { s with dpcDue := s.dpcDue ++ [(port, b)] } else s
  else s

/-- The same for an error of the advisory kind: a poisoned packet received, or a non-posted request answered with
Unsupported Request. With its severity fatal it is an uncorrectable error like any other, and may trigger DPC (R218). -/
def State.portAdvise (s : State) (port b : Nat) (hdr : List Byte) : State :=
  if isPcie port then
    if bit (s.cfg (s.portFn port) cAerUncSev).toNat b then s.portAer port b hdr
    else s.aerAdvise (s.portFn port) (s.portPart port) b hdr
  else s

/-! ### Governor decision logs (R400) -/

/-- One entry in governor `g`'s log: action, subject, old and new value, measure. -/
def State.govLog (s : State) (g action subject old new measure : Nat) : State :=
  let f : Fld := if g < 4 then ⟨0x44020, 8 * g + 5, 8 * g⟩ else ⟨0x44024, 8 * (g - 4) + 5, 8 * (g - 4)⟩
  let k := s.fget f
  let n := storeGet 0 s.govSeq g
  let e := s.ns + g * 2 ^ 64 + action * 2 ^ 72 + subject * 2 ^ 80 + old % 2 ^ 32 * 2 ^ 96 + new % 2 ^ 32 * 2 ^ 128
    + measure % 2 ^ 32 * 2 ^ 160 + n % 2 ^ 32 * 2 ^ 192
  let s := s.setTbl 0x44 0 (64 * g + k) (BitVec.ofNat 256 e)
  let s := s.fset f ((k + 1) % 64)
  let s := { s with govSeq := storePut 0 g (n + 1) s.govSeq }
  s.raise 0x44 g

abbrev gWEIR : Nat := 0
abbrev gLANE : Nat := 1
abbrev gSAMPLE : Nat := 2
abbrev gTHERMAL : Nat := 3
abbrev gSLOT : Nat := 4
abbrev gROUTE : Nat := 5
abbrev aNO_ACTION : Nat := 0
abbrev aRAISE : Nat := 1
abbrev aLOWER : Nat := 2
abbrev aREMAP : Nat := 3
abbrev aNARROW : Nat := 4
abbrev aREEQ : Nat := 5
abbrev aRETRY : Nat := 6
abbrev aLATCH : Nat := 7
abbrev aHOLD : Nat := 8
abbrev aCOUNT_RESET : Nat := 9
abbrev aFAILOVER : Nat := 10
abbrev aRESTORE : Nat := 11
abbrev aLINK_ADDED : Nat := 12
abbrev aLINK_REMOVED : Nat := 13
abbrev aDRAIN : Nat := 14
abbrev aBOUND_ERROR : Nat := 15

end Sys2Proof.Machine
end

