-- ==== Sys2Proof/Machine/Errors.lean ====
section
/-! DEFINITION. Error records (R301 to R305), the drop ledger's entries (R78 to R81), Unsupported Request completions
(R26), and what becomes of a copy that is lost (R83). -/

namespace Sys2Proof.Machine

/-! ### Containment levels and codes (R297, R302) -/

abbrev lvNOTICE : Nat := 0
abbrev lvFRAME : Nat := 1
abbrev lvINSTANCE : Nat := 2
abbrev lvPORT : Nat := 3
abbrev lvLINK : Nat := 4
abbrev lvPARTITION : Nat := 5
abbrev lvDEVICE : Nat := 6

abbrev eFURROW_LATE : Nat := 0x0001
abbrev eFURROW_SF : Nat := 0x0002
abbrev eXFORM_MISMATCH : Nat := 0x0003
abbrev eLINK_DOWN_TAIL : Nat := 0x0004
abbrev eCELL_CE : Nat := 0x0010
abbrev eCELL_UE : Nat := 0x0011
abbrev eTABLE_CE : Nat := 0x0012
abbrev eTABLE_UE : Nat := 0x0013
abbrev eQUEUE_UE : Nat := 0x0014
abbrev eREFCOUNT_UE : Nat := 0x0015
abbrev eSHADOW_UE : Nat := 0x0016
abbrev eREPLAY_UE : Nat := 0x0017
abbrev eRB_UE : Nat := 0x0018
abbrev ePROXY_UE : Nat := 0x0019
abbrev eCOUNTER_UE : Nat := 0x001A
abbrev eOVERLAP : Nat := 0x0020
abbrev eID_MISS : Nat := 0x0021
abbrev eNOROUTE_CPL : Nat := 0x0022
abbrev eACL_DENY : Nat := 0x0023
abbrev ePOISON_DROP : Nat := 0x0024
abbrev eESCALATION : Nat := 0x0025
abbrev eFORCED_RESET : Nat := 0x0030
abbrev ePEER_CHANGED : Nat := 0x0040
abbrev eISOLATE_ENTRY : Nat := 0x0050
abbrev eISOLATE_EXIT : Nat := 0x0051

/-- Is a host record ring enabled (R305)? -/
def State.recordRingOn (s : State) (part : Nat) : Bool := s.tget 0x50 2 part 133 133 == 1

/-- PROD of a partition's ring has advanced, so it is due at PIDX_ADDR (R81 step 3, R305). -/
def State.ringOwed (s : State) (part : Nat) : State :=
  if s.err.ringDue.contains part then s else { s with err := { s.err with ringDue := s.err.ringDue ++ [part] } }

/-- A record queued for the ring of a partition, or lost when the queue holds 256 (R305). -/
def State.deliverRecord (s : State) (part : Nat) (bs : List Byte) : State :=
  if !s.recordRingOn part then s
  else if s.err.ringQ.length < 256 then { s with err := { s.err with ringQ := s.err.ringQ ++ [(part, bs)] } }
  else
    let prod := s.tget 0x50 2 part 191 160
    let s := s.tset 0x50 2 part 191 160 (prod + 1)
    let s := s.tset 0x50 2 part 223 192 (min (s.tget 0x50 2 part 223 192 + 1) (2 ^ 32 - 1))
    ((s.ringOwed part).bump R.ERR_RING_LOST).raise 0x50 5

/-- The bits of an error record (R301): `detail` starts at bit 256. -/
def recordBits (time code level : Nat) (part : Option Nat) (port fid suppressed seq detail : Nat) : Nat :=
  time + code * 2 ^ 64 + level * 2 ^ 80 + (match part with
    | some p => 2 ^ 83 + p * 2 ^ 84
    | none => 0) + port * 2 ^ 96 + fid * 2 ^ 104 + min suppressed 65535 * 2 ^ 112 + seq % 2 ^ 32 * 2 ^ 128
    + detail * 2 ^ 256

/-- Records of a CODE written in the last millisecond (R304). -/
def State.recentRecords (s : State) (code : Nat) : List Nat :=
  (storeGet {} s.err.codes code).times.filter fun t => decide (s.now < t + cyclesPerMs)

/-- The record in a log slot (R303). -/
def State.logSlot (s : State) (slot : Nat) : Nat :=
  (upTo 4).foldl (fun v q => v + (s.tbl 0x50 0 (4 * slot + q)).toNat * 2 ^ (256 * q)) 0

/-- A log slot set (R303). -/
def State.setLogSlot (s : State) (slot v : Nat) : State :=
  (upTo 4).foldl (fun s q => s.setTbl 0x50 0 (4 * slot + q) (BitVec.ofNat 256 (v / 2 ^ (256 * q)))) s

/-- A record placed in the next log slot (R303). -/
def State.logRecord (s : State) (v level : Nat) : State :=
  let slot := s.fget R.ERR_STS_LOG_NEXT
  let s := s.setLogSlot slot v
  let s := s.fset R.ERR_STS_LOG_NEXT ((slot + 1) % 1024)
  let s := if 1024 ≤ s.err.logged then s.fset R.ERR_STS_WRAPPED 1 else s
  let s : State := { s with err := { s.err with logged := s.err.logged + 1 } }
  let s := if level = lvDEVICE ∧ s.fget R.ERR_STS_FATAL_VALID = 0 then
      (s.fset R.ERR_STS_FATAL_VALID 1).fset R.ERR_STS_FIRST_FATAL slot
    else s
  (s.bump R.ERR_RECORDS).raise 0x50 0

/-- How many of the last records of this core cycle have a greater CODE, so that one of `code` goes before them (R299). -/
def State.recordsAfter (s : State) (code : Nat) : Nat :=
  let here := s.err.codes.foldl (fun n (c : Nat × CodeSt) => n + (c.2.times.filter (· == s.now)).length) 0
  let slot := s.fget R.ERR_STS_LOG_NEXT
  ((upTo (min here 1023)).takeWhile fun j => decide (code < bits (s.logSlot ((slot + 1023 - j) % 1024)) 79 64)).length

/-- SEQ of the next record of a CODE (R299, R301). -/
def State.nextSeq (s : State) (code : Nat) : Nat :=
  match s.recordsAfter code with
  | 0 => s.err.seq
  | m => if (s.recentRecords code).length < s.fget R.ERR_CTL_RATE then
      bits (s.logSlot ((s.fget R.ERR_STS_LOG_NEXT + 1024 - m) % 1024)) 159 128
    else s.err.seq

/-- A record of this core cycle changes places with the one before it, in the log and in the host rings, each place keeping
its SEQ (R299). FIRST_FATAL and the record that ISOLATE names follow. -/
def State.swapRecords (s : State) (a b : Nat) : State :=
  let x := s.logSlot a
  let y := s.logSlot b
  let later := putBits x 159 128 (bits y 159 128)
  let first := putBits y 159 128 (bits x 159 128)
  let has (p v : Nat) : Bool := s.err.ringQ.contains (p, leBytes 128 v)
  let ring (r : Nat × List Byte) : Nat × List Byte :=
    if r.2 == leBytes 128 x then (r.1, leBytes 128 (if has r.1 y then first else later))
    else if r.2 == leBytes 128 y then (r.1, leBytes 128 (if has r.1 x then later else first))
    else r
  let fatal := s.fget R.ERR_STS_FIRST_FATAL
  let fatal' := if s.fget R.ERR_STS_FATAL_VALID = 0 then fatal else if fatal = b then a
    else if fatal = a ∧ bits y 82 80 ≠ lvDEVICE then b else fatal
  let cause := if s.err.isoCause % 2 ^ 32 = bits x 159 128 then bits y 159 128
    else if s.err.isoCause % 2 ^ 32 = bits y 159 128 then bits x 159 128 else s.err.isoCause
  let s : State := { s with err := { s.err with ringQ := s.err.ringQ.map ring, isoCause := cause } }
  ((s.setLogSlot a first).setLogSlot b later).fset R.ERR_STS_FIRST_FATAL fatal'

/-- An error record made: rate-limited per CODE, logged, delivered to host rings, and alerting (R301 to R307); those of one
core cycle stand in the order of their CODEs (R299). The containment action of its level is not taken here. -/
def State.record (s : State) (code level : Nat) (part : Option Nat) (port detail : Nat) : State :=
  let seq := s.err.seq
  let c := storeGet {} s.err.codes code
  let recent := s.recentRecords code
  let after := s.recordsAfter code
  let slot := s.fget R.ERR_STS_LOG_NEXT
  let s := { s with err := { s.err with seq := seq + 1 } }
  let s :=
    if recent.length < s.fget R.ERR_CTL_RATE then
      let v := recordBits s.ns code level part port s.selfFid c.suppressed seq detail
      let s := { s with err := { s.err with codes := storePut {} code { times := recent ++ [s.now] } s.err.codes } }
      let s := s.logRecord v level
      let s := if level = lvDEVICE then (upTo 32).foldl (fun s p => s.deliverRecord p (leBytes 128 v)) s
        else match part with
          | some p => s.deliverRecord p (leBytes 128 v)
          | none => s
      (upTo after).foldl (fun s j => s.swapRecords ((slot + 2047 - j) % 1024) ((slot + 2048 - j) % 1024)) s
    else
      let c := { times := recent, suppressed := c.suppressed + 1 }
      ({ s with err := { s.err with codes := storePut {} code c s.err.codes } }).bump R.ERR_SUPPRESSED
  if s.fget R.ERR_CTL_ALERT_LEVEL ≤ level then s.raise 0x50 4 else s

/-- The frame detail of a record (R301), from bit 256 on. -/
def frameDetail (f : Frame) (addr : W64) (reqId : BitVec 16) (tag : BitVec 14) (egress : Nat) (got extra : Nat) : Nat :=
  addr.toNat + f.window * 2 ^ 64 + reqId.toNat * 2 ^ 80 + tag.toNat * 2 ^ 96 + f.ingress * 2 ^ 112 + egress * 2 ^ 120
    + f.furrow.toNat * 2 ^ 128 + got * 2 ^ 160 + f.tlp.denyType * 2 ^ 192 + ofBool f.live * 2 ^ 195
    + ofBool f.mcast * 2 ^ 196 + f.tlp.payload * 2 ^ 200 + extra * 2 ^ 224

/-- A record about a frame as it arrived, found at its ingress port. -/
def State.recordFrame (s : State) (code level : Nat) (f : Frame) (extra : Nat := 0) : State :=
  s.record code level f.part f.ingress
    (frameDetail f f.tlp.addr f.tlp.reqId f.tlp.tag 0x7F f.furrow.toNat extra)

/-- A record about a copy, found at its egress port. -/
def State.recordCopy (s : State) (code level : Nat) (f : Frame) (c : Copy) (got extra : Nat) : State :=
  s.record code level f.part c.egress
    (frameDetail f c.addr (c.newReqId.getD f.tlp.reqId) (c.newTag.getD f.tlp.tag) c.egress got extra)

/-! ### The drop ledger (R78 to R81) -/

/-- Is a ledger ring in use (R78)? -/
def State.ringOn (s : State) (r : Nat) : Bool := s.tget 0x112 0 r 133 133 == 1

/-- The ring a lost copy is recorded in (R78, R112). -/
def State.ringOf (s : State) (f : Frame) (c : Copy) : Option Nat :=
  let r := if !f.mcast && !f.lookedUp && isMoaben f.ingress then
      (if decide (c.egress < 88) && s.flag (R.BUF_LEDGER_EGRESS_EN c.egress) then some (s.fget (R.BUF_LEDGER_EGRESS_RING c.egress)) else none)
    else c.ring
  r.filter s.ringOn

/-- A PROD writeback of a ledger ring falls due (R81). -/
def State.owe (s : State) (ring : Nat) : State :=
  { s with sw := { s.sw with
    ledgerDue := if s.sw.ledgerDue.contains ring then s.sw.ledgerDue else s.sw.ledgerDue ++ [ring] } }

/-- A loss placed in the device ledger queue, or counted as lost when the queue holds 1,024: its slot lies ahead of those of
the queued records (R81, log entry 106). -/
def State.ledger (s : State) (r : LedgerRec) : State :=
  if s.sw.ledgerQ.length < 1024 then { s with sw := { s.sw with ledgerQ := s.sw.ledgerQ ++ [r] } }
  else
    let s := s.tset 0x112 0 r.ring 191 160 (s.tget 0x112 0 r.ring 191 160 + 1)
    let s := s.tset 0x112 0 r.ring 223 192 (min (s.tget 0x112 0 r.ring 223 192 + 1) (2 ^ 32 - 1))
    -- PROD has advanced, so it is due at PIDX_ADDR (R81 step 3).
    let s := s.owe r.ring
    (s.bump R.BUF_LEDGER_LOST).raise 0x110 0

abbrev lrEVICT : Nat := 0
abbrev lrAGE : Nat := 1
abbrev lrPORT_DOWN : Nat := 2
abbrev lrLATE_CUT : Nat := 3

/-- A lost live copy ledgered when it has a ring (R78, R80, R112). -/
def State.ledgerCopy (s : State) (f : Frame) (c : Copy) (reason : Nat) (arrival : Bool := false)
    (egress : Option Nat := none) : State :=
  if !f.live then s
  else match s.ringOf f c with
    | none => s
    | some r => s.ledger { ring := r, time := s.ns, addr := c.addr, len := f.tlp.payload, reason := reason,
                           prio := f.prio, arrival := arrival, mcast := f.mcast, window := f.window,
                           ingress := f.ingress, fseq := f.fseq, egress := egress.getD c.egress }

/-! ### Unsupported Request completions (R26, R55) -/

/-- Where completions towards a request's origin leave: the port it entered at, or for a request that entered on a
Moaben link the link that the route table gives towards its source device (log entry 13). -/
def State.returnEgress (s : State) (ingress fid : Nat) (tc : Nat) : Option Nat :=
  if isMoaben ingress then s.egressTo 88 fid 0x7F tc else some ingress

/-- Has the port of a tag record's request gone down since it entered (R82, R86)? -/
def State.staleTag (s : State) (r : TagRec) : Bool := decide (r.ingress < 72) && r.epoch != (s.port r.ingress).epoch

/-- A completion for which no route exists is discarded, counted and recorded (R106, R267). -/
def State.cplNoRoute (s : State) (f : Frame) : State :=
  (s.bump R.MAP_NOROUTE_CPL).recordFrame eNOROUTE_CPL lvFRAME f

/-- A completion formed by the part for a request that entered as `f`, drawn from the request's reservation (R55,
R465). The request's tag record retires; what is left of its reservation goes when the completion has left (R55). One
towards a port that has gone down since is discarded (R83, R86). -/
def State.complete (s : State) (f : Frame) (st : CplStatus) (data : List Byte) : State :=
  let t : Tlp := { kind := .completion, tc := f.tlp.tc, len := data.length, data := data, reqId := f.tlp.reqId,
                   tag := f.tlp.tag, status := st, byteCount := data.length,
                   addr := f.tlp.addr, cplId := match f.part with
                     | some p => s.mgmtReqId p
                     | none => 0 }
  let (id, s) := s.fresh
  let g := { s.formFrame id 88 t .completion .device with record := f.record, part := f.part }
  let s := match f.record with
    | some r => (s.modTag r fun t => { t with ended := true, reserved := t.reserved - g.tlp.cells }).modEngTags fun x =>
        if x.id = r then { x with reserved := x.reserved - g.tlp.cells } else x
    | none => s
  let drop (s : State) : State := match f.record with
    | some r => s.dropTag r
    | none => s
  if s.sw.tags.any fun r => f.record == some r.id && s.staleTag r then drop (s.bump R.BUF_STALE_CPL)
  else match s.returnEgress f.ingress f.srcFid t.tc.val with
  | none => drop (s.cplNoRoute g)
  | some e =>
    if isPcie e && !s.carries e then drop (s.bump R.BUF_FLUSH_CPL)
    else (s.store g).enqueue
      { frame := id, egress := e, queue := queueOf g, addr := t.addr, dstFid := f.srcFid, dest := f.ingress }

/-- A refused non-posted request answered with Unsupported Request (R26), counted at its port and logged in its
bridge's AER (R217). -/
def State.unsupported (s : State) (f : Frame) : State :=
  let s := s.complete f .ur []
  let s := s.tel 17 f.ingress 1 (some f)
  let s := if isPcie f.ingress then s.bump (R.PEP_UR_GEN f.ingress) else s
  s.portAdvise f.ingress aerUnsupported f.tlp.header

/-! ### Copies that go -/

/-- Frames without a copy left return their cells (R52); a completion that ends a retired record gives back the rest of
its reservation (R55). -/
def State.reap (s : State) : State :=
  let gone := s.sw.frames.filter fun f => (s.copiesOf f.id).isEmpty
  let ended := gone.filterMap fun f => if f.tlp.isCpl then f.record else none
  { s with sw := { s.sw with
      frames := s.sw.frames.filter fun f => !(s.copiesOf f.id).isEmpty
      tags := s.sw.tags.filter fun t => !(t.ended && ended.contains t.id) } }

/-- A copy taken out of the queues. -/
def State.removeCopy (s : State) (id : Nat) : State := s.setCopies (s.sw.copies.filter fun c => c.id != id)

/-- A copy lost by a flush, by ageing or with its link: posted copies are discarded and live ones ledgered, non-posted
requests answered with Unsupported Request, completions discarded; each counted by type (R75, R83). -/
def State.loseCopy (s : State) (c : Copy) (reason ctrP ctrNp ctrCpl : Nat) : State :=
  match s.frame? c.frame with
  | none => s.removeCopy c.id
  | some f =>
    let s := s.removeCopy c.id
    let s := match f.tlp.queueType with
      | 0 => (s.ledgerCopy f c reason).bump ctrP
      | 1 => (s.unsupported f).bump ctrNp
      | _ => s.bump ctrCpl
    s.reap

/-- A copy removed by the flush of its port (R83). -/
def State.flushCopy (s : State) (c : Copy) : State :=
  (s.loseCopy c lrPORT_DOWN R.BUF_FLUSH_P R.BUF_FLUSH_NP R.BUF_FLUSH_CPL).tel 14 c.egress 1 (s.frame? c.frame)

end Sys2Proof.Machine
end

