-- ==== Sys2Proof/Machine/Lanes.lean ====
section
/-! DEFINITION. What a Moaben link's lanes carry, bit by bit: the 69-bit block (R229), the scrambler (R230), control blocks
(R231, R237), the link header and the slots of a packet (R234, R235), and the hunt for block boundaries and the order of
lanes that training finds (R232, R233). -/

namespace Sys2Proof.Machine

/-! ### The block (R229) -/

/-- The XOR of 64 bits. -/
def parity64 (d : Nat) : Bool := (upTo 64).foldl (fun p k => p != bit d k) false

/-- The 69 bits of a block in line order, bit 0 the first sent, from its 64 scrambled bits. -/
def blockOf (ctl : Bool) (d : W64) : BitVec 69 :=
  let v := d.toNat
  let p := parity64 v
  BitVec.ofNat 69 (ofBool (!ctl) + ofBool ctl * 2 + bits v 31 0 * 2 ^ 2 + ofBool (!bit v 31) * 2 ^ 34 + bits v 63 32 * 2 ^ 35
    + ofBool p * 2 ^ 67 + ofBool (!p) * 2 ^ 68)

/-- The 64 bits a block carries, as received. -/
def blockData (b : BitVec 69) : W64 := BitVec.ofNat 64 (bits b.toNat 33 2 + bits b.toNat 66 35 * 2 ^ 32)

/-- A control block, by H. -/
def blockCtl (b : BitVec 69) : Bool := bit b.toNat 1

/-- A block the receiver does not judge bad: H valid, S0, P and S1 as the bits received ask. -/
def blockGood (b : BitVec 69) : Bool :=
  let v := b.toNat
  bit v 0 != bit v 1 && bit v 34 != bit v 33 && bit v 67 == parity64 (blockData b).toNat && bit v 68 != bit v 67

/-! ### The scrambler (R230) -/

/-- The next `n` scrambler bits, the first lowest, and the state after them: s(n) = s(n - 31) XOR s(n - 28), bit 0 of the
state being s(n - 31) (log entry 98). -/
def scramble : Nat → Nat → Nat × Nat
  | 0, st => (0, st)
  | n + 1, st =>
    let b := (st ^^^ (st >>> 3)) % 2
    let x := scramble n (st / 2 + b * 2 ^ 30)
    (b + 2 * x.1, x.2)

/-- 64 bits scrambled, or descrambled, with a lane's state. -/
def scrambled (st : Nat) (d : W64) : W64 := d ^^^ BitVec.ofNat 64 (scramble 64 st).1

/-- The state after a data or control block. -/
def scrNext (st : Nat) : Nat := (scramble 64 st).2

/-- Seed of a physical lane at the start of training. -/
def laneSeed (l : Nat) : Nat := 0x00000001 + 0x01111111 * l

/-! ### Control blocks (R231, R237) -/

abbrev cbIDLE : Nat := 0x01
abbrev cbACK : Nat := 0x02
abbrev cbNAK : Nat := 0x03
abbrev cbXOFF : Nat := 0x04
abbrev cbXON : Nat := 0x05
abbrev cbTSYNC : Nat := 0x06
abbrev cbTRAIN : Nat := 0x07
abbrev cbALIGN : Nat := 0x08
abbrev cbNULL : Nat := 0x09

abbrev opHELLO : Nat := 0
abbrev opECHO : Nat := 1
abbrev opREMAP : Nat := 2
abbrev opCHANGE : Nat := 3
abbrev opREADY : Nat := 4

def ctlIdle : W64 := BitVec.ofNat 64 cbIDLE

/-- ACK or NAK with a sequence number and the current XOFF mask. -/
def ctlSeq (type seq mask : Nat) : W64 := BitVec.ofNat 64 (type + seq % 4096 * 2 ^ 8 + mask % 32 * 2 ^ 24)

/-- XOFF or XON of a VC, with the current XOFF mask. -/
def ctlFlow (type vc mask : Nat) : W64 := BitVec.ofNat 64 (type + vc % 8 * 2 ^ 8 + mask % 32 * 2 ^ 24)

/-- TSYNC: kind 0 REQ, 1 RSP, 2 FUP, the exchange and 48 bits of time. -/
def ctlTsync (kind exchange ns : Nat) : W64 :=
  BitVec.ofNat 64 (cbTSYNC + kind % 4 * 2 ^ 8 + exchange % 64 * 2 ^ 10 + ns % 2 ^ 48 * 2 ^ 16)

/-- TRAIN of an OP with what it has to say. -/
def ctlTrain (op : Nat) (fields : List Nat) : W64 :=
  BitVec.ofNat 64 (cbTRAIN + op % 16 * 2 ^ 8 + Config.trainOperands op fields % 2 ^ 52 * 2 ^ 12)

/-- ALIGN of a lane, with its scrambler state and the row count. -/
def ctlAlign (lane st row : Nat) : W64 :=
  BitVec.ofNat 64 (cbALIGN + lane % 16 * 2 ^ 8 + st % 2 ^ 31 * 2 ^ 16 + row % 2 ^ 16 * 2 ^ 48)

/-- NULL, with the number of the packet it ends. -/
def ctlNull (seq : Nat) : W64 := BitVec.ofNat 64 (cbNULL + seq % 4096 * 2 ^ 8)

/-! ### Packets (R234, R235) -/

/-- Bytes of a TLP in the form packets carry: prefixes, header, payload and digest (R464 steps 1 to 4). -/
def wireLen (t : Tlp) : Nat :=
  (if t.ide.isSome then 4 else 0) + 4 * t.prefixes.length + t.bytes
    + (match t.ide with
       | some mac => mac.length
       | none => if t.ecrc.isSome then 4 else 0)

/-- Bytes of a packet: link header and body in 32-byte granules. -/
def packetBytes (body : Nat) : Nat := 32 * ceilDiv (16 + body) 32

/-- The longest packet: 130 granules. -/
abbrev maxPacket : Nat := 4160

/-- TYPE of a VC4 packet. -/
def vc4Type : Vc4 → Nat
  | .offer _ _ _ _ | .proof _ _ | .accept | .reject | .resume _ => 1
  | _ => 2

/-- The link header's fields as the table lays them out. -/
def linkHeader (seq vc fid dest srcFid length gate : Nat) (bank live null mcast replay : Bool) (type tagHi fur : Nat) : Nat :=
  seq % 4096 + vc % 8 * 2 ^ 12 + fid % 16 * 2 ^ 16 + dest % 8192 * 2 ^ 20 + srcFid % 16 * 2 ^ 33 + length % 256 * 2 ^ 37
    + gate % 16 * 2 ^ 45 + ofBool bank * 2 ^ 49 + ofBool live * 2 ^ 50 + ofBool null * 2 ^ 51 + ofBool mcast * 2 ^ 52
    + ofBool replay * 2 ^ 53 + type % 4 * 2 ^ 54 + tagHi % 16 * 2 ^ 56 + fur % 2 ^ 32 * 2 ^ 64

/-- A header of a packet that has ended with NULL: no TLP follows, and LENGTH is 1 (R235, R236). -/
def nullHeader (h : Nat) : Nat := putBits (putBits h 51 51 1) 44 37 1

/-- The slots of a header. -/
def headSlots (h : Nat) : List W64 := [BitVec.ofNat 64 h, BitVec.ofNat 64 (h / 2 ^ 64)]

/-- Slots of a byte string, its last padded with zeros. -/
def slotsOf : Nat → List Byte → List W64
  | 0, _ => []
  | n + 1, bs => BitVec.ofNat 64 (leNat (bs.take 8)) :: slotsOf n (bs.drop 8)

/-- Slots of a packet's body: as many as its granules hold beside the header. -/
def bodySlots (bytes : Nat) (bs : List Byte) : List W64 := slotsOf ((bytes - 16) / 8) bs

/-- The stream without its control blocks, from which packets are rebuilt. -/
def rebuild (ss : List LineSlot) : List W64 :=
  ss.filterMap fun x => match x with
    | .data d => some d
    | .ctl _ => none

/-- The header that a packet's slots begin with. -/
def headerOf (ss : List LineSlot) : Option Nat :=
  match rebuild ss with
  | a :: b :: _ => some (a.toNat + b.toNat * 2 ^ 64)
  | _ => none

/-- Is a packet ended by a NULL control block that names it? -/
def endedNull (ss : List LineSlot) (seq : Nat) : Bool := ss.any fun x => x == .ctl (ctlNull seq)

/-- The next slot a transmitter sends, and what is left: control blocks ahead of any packet data, a header in full before
its body, NULL in place of the next slot of a packet that has been ended, IDLE with nothing to send (R234, R236, R239). -/
def nextSlot (ctl : List W64) (tx : List TxPacket) : LineSlot × List W64 × List TxPacket :=
  match ctl, tx with
  | d :: rest, _ => (.ctl d, rest, tx)
  | [], [] => (.ctl ctlIdle, [], [])
  | [], p :: ps =>
    match p.head, p.null, p.body with
    | [], true, _ => (.ctl (ctlNull p.seq), [], ps)
    | [], false, [] => (.ctl ctlIdle, [], ps)
    | [], false, [d] => (.data d, [], ps)
    | [], false, d :: ds => (.data d, [], { p with body := ds, started := true } :: ps)
    | d :: ds, _, _ => (.data d, [], { p with head := ds, started := true } :: ps)

/-! ### Hunting, lock and deskew (R232, R233) -/

/-- The hunt over a stretch of line bits, from a position with so many valid blocks in a row at an offset: where the lane
locks, if it does, and the hunts that have tried all 69 offsets. -/
def hunt (line len : Nat) : Nat → Nat → Nat → Nat → Nat → Option Nat × Nat
  | 0, _, _, _, wraps => (none, wraps)
  | n + 1, pos, good, off, wraps =>
    if good = 64 then (some pos, wraps)
    else if len < pos + 69 then (none, wraps)
    else if blockGood (BitVec.ofNat 69 (line / 2 ^ pos)) then hunt line len n (pos + 69) (good + 1) off wraps
    else hunt line len n (pos + 1) 0 ((off + 1) % 69) (if off = 68 then wraps + 1 else wraps)

/-- The row in which most lanes' ALIGN blocks arrive. -/
def mainRow (as : List (Nat × Nat)) : Nat :=
  (as.foldl (fun (b : Nat × Nat) x =>
    let n := (as.filter fun y => y.2 == x.2).length
    if b.2 < n then (x.2, n) else b) (0, 0)).1

/-- What a physical lane names itself in an order of lanes. -/
def laneName (reversed : Bool) (l : Nat) : Nat := if reversed && decide (l < 8) then 7 - l else l

/-- Do the lanes come in reversed order? -/
def laneOrder (as : List (Nat × Nat)) : Bool :=
  let fit (r : Bool) : Nat := ((upTo 8).filter fun l => (as[l]?).any fun x => x.1 == laneName r l).length
  decide (fit false < fit true)

/-- Lanes that pass deskew, as positions: those that name their place in the order found, in the row of the others. -/
def deskewed (as : List (Nat × Nat)) : Nat :=
  ((upTo 9).filter fun p => (as[laneName (laneOrder as) p]?).any fun x => x.1 == p && x.2 == mainRow as).foldl
    (fun n p => n + 2 ^ p) 0

/-- Bad blocks among the last 64. -/
def badMarks (w : Nat) : Nat := ((upTo 64).filter (bit w)).length

/-- Core cycles take 4 and rows 10, 20 or 40 fifths of a nanosecond (R228). -/
def rowFifths (speed : Nat) : Nat := if speed = 2 then 10 else if speed = 1 then 20 else 40

end Sys2Proof.Machine
end

