-- ==== Sys2Proof/Machine/Lookup.lean ====
section
/-! DEFINITION. The window table's lookup (R89 to R96, R141), the gauntlet (R119 to R126), the bridge decode (R95,
R213), admission and push-out (R57, R71 to R73), forwarding modes (R61, R62), and the weirs' XOFF (R68). -/

namespace Sys2Proof.Machine

/-! ### Window entries -/

/-- A window entry as matched: its index and its 256 bits (R89). -/
structure Win where
  idx : Nat
  bankB : Bool
  raw : Nat
  deriving DecidableEq, Repr

def Win.valid (w : Win) : Bool := bit w.raw 0
def Win.kind (w : Win) : Nat := bits w.raw 3 1
def Win.sizeLog2 (w : Win) : Nat := bits w.raw 9 4
def Win.fwd (w : Win) : Nat := bits w.raw 11 10
def Win.base (w : Win) : Nat := bits w.raw 63 12 * 4096
def Win.xlate (w : Win) : Nat := bits w.raw 127 64
def Win.visible (w : Win) (p : Nat) : Bool := bit w.raw (128 + p)
def Win.rd (w : Win) (p : Nat) : Bool := bit w.raw (160 + p)
def Win.wr (w : Win) (p : Nat) : Bool := bit w.raw (192 + p)
def Win.target (w : Win) : Nat := bits w.raw 236 224
def Win.gate (w : Win) : Nat := bits w.raw 240 237
def Win.idemp (w : Win) : Bool := bit w.raw 241
def Win.live (w : Win) : Bool := bit w.raw 242
def Win.ledger (w : Win) : Bool := bit w.raw 243
def Win.ledgerIdx (w : Win) : Nat := bits w.raw 251 244
def Win.session (w : Win) : Nat := bits w.raw 253 252
def Win.mirrored (w : Win) : Bool := bit w.raw 254
def Win.e2cRefuse (w : Win) : Bool := bit w.raw 255

abbrev kPORT : Nat := 0
abbrev kMCAST : Nat := 1
abbrev kENGINE : Nat := 2
abbrev kLOCAL : Nat := 3
abbrev kDROP : Nat := 4

/-- The bank a group selects for a lookup stamped `t` in era `era` of the time base: the BANK of its latest fired
commit whose instant is at or before `t`. A commit of an earlier era counts as fired at the step that ended it (R136,
R141); of a later era, as not fired yet. -/
def State.bankOf (s : State) (g t era : Nat) : Bool :=
  match (storeGet [] s.gates g).find? fun c =>
      decide (c.era < era) || (c.era == era && decide (c.instant ≤ t)) with
  | some c => c.bank
  | none => false

/-- The bank of a group for a lookup stamped now (SLU_GATE_STS). -/
def State.bankNow (s : State) (g : Nat) : Bool := s.bankOf g s.time80 s.tb.era

/-- A window entry as a lookup sees it now: in the core cycle of a commit the old one (R98). -/
def State.winEntry (s : State) (bank i : Nat) : W256 :=
  match s.mapOld with
  | some o => if o.cycle = s.now + 1 ∧ o.index = i then (if bank = 0 then o.a else o.b) else s.tbl 0x120 bank i
  | none => s.tbl 0x120 bank i

/-- The gate group of an index, held once for both banks (R97). -/
def State.gateOf (s : State) (i : Nat) : Nat := bits (s.winEntry 0 i).toNat 240 237

/-- The entry of an index that a lookup stamped `t` sees (R93). -/
def State.winAt (s : State) (i t era : Nat) : Win :=
  let b := s.bankOf (s.gateOf i) t era
  ⟨i, b, (s.winEntry (ofBool b) i).toNat⟩

/-- Indices with an entry that is not all zero, in rising order: no other can match. -/
def State.winIndices (s : State) : List Nat :=
  let a := (s.tbls.filter fun e => e.1 / 2 ^ 24 == 0x120 * 256).map fun e => e.1 % 2 ^ 24
  let b := (s.tbls.filter fun e => e.1 / 2 ^ 24 == 0x120 * 256 + 1).map fun e => e.1 % 2 ^ 24
  let l := a ++ b.filter fun i => !a.contains i
  match s.mapOld with
  | some o => if o.cycle = s.now + 1 ∧ l.contains o.index = false then o.index :: l else l
  | none => l

/-- Is an entry bad in both copies (R293)? Table numbers are those of R302. -/
def State.faulted (s : State) (table index : Nat) : Bool :=
  s.err.bad.any fun b => b.table == table && b.index == index && b.copy0 && b.copy1

/-- The window entries a lookup finds bad: every index it reads, in the bank its gate group selects (R294). -/
def State.badWindows (s : State) (t era : Nat) : List (Nat × Nat) :=
  (s.err.bad.filter fun b => decide (b.table < 2) && b.copy0 && b.copy1
    && s.bankOf (s.gateOf b.index) t era == (b.table == 1)).map fun b => (b.table, b.index)

/-- Does an entry match an address for a requester partition (R92, R93)? `none` is core port 88. -/
def Win.matches (w : Win) (part : Option Nat) (a : Nat) : Bool :=
  w.valid && a / 2 ^ w.sizeLog2 * 2 ^ w.sizeLog2 == w.base && (match part with
    | none => true
    | some p => w.visible p)

/-- Indices that match, in rising order; entries bad in both copies take no part (R309). -/
def State.hits (s : State) (part : Option Nat) (a t era : Nat) : List Win :=
  (s.winIndices.map fun i => s.winAt i t era).filter fun w =>
    w.matches part a && !s.faulted (ofBool w.bankB) w.idx

/-- The lowest and the next lowest index among several hits (R94). -/
def twoLowest (ws : List Win) : Nat × Nat :=
  let a := ws.foldl (fun m w => min m w.idx) 0xFFFF
  (a, (ws.filter fun w => w.idx != a).foldl (fun m w => min m w.idx) 0xFFFF)

/-! ### The gauntlet (R119, R122) -/

abbrev cNO_RD : Nat := 0
abbrev cNO_WR : Nat := 1
abbrev cNO_RDWR : Nat := 2
abbrev cISOLATION : Nat := 3
abbrev cACS_SV : Nat := 4
abbrev cACS_TB : Nat := 5

/-- The cause for which a window's rights deny a request, if any (R119). -/
def rightsDenied (t : Tlp) (rd wr : Bool) : Option Nat :=
  match t.kind with
  | .memWrite | .defWrite => if wr then none else some cNO_WR
  | .memRead =>
    if t.len = 0 then (if rd || wr then none else some cNO_RDWR) else if rd then none else some cNO_RD
  | .atomic => if rd && wr then none else if rd then some cNO_WR else if wr then some cNO_RD else some cNO_RDWR
  | _ => none

/-- Does isolation of R122 deny a PORT window towards another partition's port? A TARGET on another device has no route in
these modes (R96, R106). -/
def State.isolationDenies (s : State) (part : Nat) (w : Win) : Bool :=
  (s.service == mLIMP || s.service == mSTANDALONE || s.service == mPARTITIONED) && w.kind == kPORT
    && bits w.target 10 7 == s.selfFid && s.portPart (bits w.target 6 0) != part

/-- The gauntlet's verdict on a request that matched one window: `none` lets it pass (R119, R120, R122). -/
def State.gauntlet (s : State) (part : Option Nat) (t : Tlp) (w : Win) : Option Nat :=
  match part with
  | none => none
  | some p =>
    -- A missing right is reported as such; isolation denies what the rights would let pass (log entry 14).
    match rightsDenied t (w.rd p) (w.wr p) with
    | some c => some c
    | none => if s.isolationDenies p w then some cISOLATION else none

/-- A denial: counted, logged in AER and in the deny log, and recorded at most REC_PER_MS times in a millisecond; a
non-posted request receives Unsupported Request unless an engine issued it (R124, R125). -/
def State.deny (s : State) (f : Frame) (cause : Nat) (window : Nat) : State :=
  let f := { f with window := window }
  let s := s.bump (if f.tlp.posted then R.ACL_DENY_P else R.ACL_DENY_NP)
  let s := if cause = cACS_SV ∨ cause = cACS_TB then s.bump R.ACL_ACS_VIOL else s
  let s := s.tel 6 f.ingress 1 (some f)
  let k := s.fget R.ACL_EPOCH_DENY_NEXT
  let e := f.tlp.addr.toNat + window * 2 ^ 64 + f.part.getD 0 * 2 ^ 80 + f.ingress * 2 ^ 88 + 2 ^ 95
    + f.tlp.denyType * 2 ^ 96 + cause * 2 ^ 100 + f.tlp.reqId.toNat * 2 ^ 112
  let s := s.setTbl 0x130 0 k (BitVec.ofNat 256 e)
  let s := (s.fset R.ACL_EPOCH_DENY_NEXT ((k + 1) % 16)).raise 0x130 0
  let s := s.portAer f.ingress aerAcs f.tlp.header
  let recent := s.err.denials.filter fun t => decide (s.now < t + cyclesPerMs)
  let s :=
    if recent.length < s.fget R.ACL_CTL_REC_PER_MS then
      ({ s with err := { s.err with denials := recent ++ [s.now] } }).recordFrame eACL_DENY lvFRAME f cause
    else s.bump R.ACL_REC_SUPPRESSED
  if f.tlp.nonPosted && (f.origin == .link || f.origin == .device) then s.unsupported f else s

/-! ### The bridge decode (R95, R191, R213) -/

/-- Where the decode of a partition's own hierarchy sends an address. -/
inductive Decode where
  | mgmtBar (bar off : Nat)
  | inst (i off : Nat)
  | down (port : Nat)
  | remote (fid port : Nat)
  deriving DecidableEq, Repr

/-- Is an address in a bridge's memory or prefetchable range, as its shadow holds them, with Memory Space Enable (R215)? -/
def State.inBridge (s : State) (fn a : Nat) : Bool :=
  let m := (s.cfg fn cMemory).toNat
  let p := (s.cfg fn cPrefetch).toNat
  let lo := bits p 15 4 * 2 ^ 20 + (s.cfg fn cPrefBaseHi).toNat * 2 ^ 32
  let hi := bits p 31 20 * 2 ^ 20 + 0xFFFFF + (s.cfg fn cPrefLimitHi).toNat * 2 ^ 32
  s.memSpace fn && !s.d3hot fn && ((decide (bits m 15 4 * 2 ^ 20 ≤ a) && decide (a ≤ bits m 31 20 * 2 ^ 20 + 0xFFFFF))
    || (decide (lo ≤ a) && decide (a ≤ hi)))

/-- Does an instance's BAR0 decode (R191)? -/
def State.instDecodes (s : State) (i : Nat) : Bool :=
  let fn := (Fn.inst i).num
  s.instPresent i && s.memSpace fn && !s.d3hot fn

/-- The bridges of a partition on this device: its first 63 downstream ports (R213). -/
def State.bridgesOf (s : State) (part : Nat) : List Nat := (s.downstreamOf part).take 63

/-- The decode of an address within a partition's hierarchy: management function, instances behind the engine bridge,
downstream bridges in order (R95, R191, R213, R214). -/
def State.bridgeDecode (s : State) (part a : Nat) : Option Decode :=
  -- Away from its home a partition has the bridges of its ports here alone (R213, R270).
  if (s.upstreamOf part).isNone then
    ((s.bridgesOf part).find? fun p => !s.unbridged.contains p && s.inBridge (Fn.down p).num a).map .down
  else
    let m := (Fn.mgmt part).num
    let base (off size : Nat) : Nat :=
      ((s.cfg m off).toNat + (s.cfg m (off + 4)).toNat * 2 ^ 32) / size * size
    let hit (off size : Nat) : Bool := decide (base off size ≤ a) && decide (a < base off size + size)
    if s.memSpace m && !s.d3hot m && hit 0x10 (2 ^ 24) then some (.mgmtBar 0 (a - base 0x10 (2 ^ 24)))
    else if s.memSpace m && !s.d3hot m && hit 0x18 (2 ^ 16) then some (.mgmtBar 2 (a - base 0x18 (2 ^ 16)))
    else if s.memSpace m && !s.d3hot m && hit 0x20 (2 ^ 28) then some (.mgmtBar 4 (a - base 0x20 (2 ^ 28)))
    else
      let eb := (Fn.engBridge part).num
      let i := if s.instancesExist && s.inBridge eb a then
          s.liveInsts.find? fun i => s.instPart i == part && s.instDecodes i
            && bits (s.cfg (Fn.inst i).num 0x10).toNat 31 16 == a / 65536
        else none
      match i with
      | some i => some (.inst i (a % 65536))
      | none =>
        match (s.bridgesOf part).find? fun p => s.inBridge (Fn.down p).num a with
        | some p => some (.down p)
        | none =>
          (s.remoteBridges.find? fun r => r.1 == part && s.inBridge (Fn.remote r.2.1 r.2.2).num a).map
            fun r => .remote r.2.1 r.2.2

/-- Is an I/O address in the I/O range of a bridge (R225; the range register is log entry 10's)? -/
def State.inBridgeIo (s : State) (fn a : Nat) : Bool :=
  let v := (s.cfg fn cIo).toNat
  !s.d3hot fn && s.cfgBits fn cCommand 0 0 == 1 && decide (bits v 7 4 * 4096 ≤ a) && decide (a ≤ bits v 15 12 * 4096 + 4095)

/-- The decode of an I/O address within a partition's hierarchy. -/
def State.ioDecode (s : State) (part a : Nat) : Option Decode :=
  match (s.bridgesOf part).find? fun p => s.inBridgeIo (Fn.down p).num a with
  | some p => some (.down p)
  | none =>
    (s.remoteBridges.find? fun r => r.1 == part && s.inBridgeIo (Fn.remote r.2.1 r.2.2).num a).map
      fun r => .remote r.2.1 r.2.2

/-! ### Destinations -/

/-- Where a looked-up request goes. -/
inductive Dest where
  /-- A PCIe core port of a device of the fabric. -/
  | port (fid p : Nat)
  /-- BAR0 of an instance, here or on another device. -/
  | inst (fid i off : Nat)
  /-- A BAR of the requester partition's management function. -/
  | mgmtBar (bar off : Nat)
  /-- A culvert chip select and local-bus address. -/
  | culvert (cs addr : Nat)
  | mcast (group : Nat)
  /-- Discarded on purpose (R90). -/
  | dropped
  /-- Sent nowhere: a miss under a refusing policy (R95). -/
  | miss
  deriving DecidableEq, Repr

/-- Destination of a matched window (R90, R96). -/
def State.winDest (s : State) (w : Win) (a : Nat) : Dest :=
  let limited := s.service == mLIMP || s.service == mSTANDALONE || s.service == mPARTITIONED
  if (w.kind = kMCAST ∨ w.kind = kENGINE) ∧ limited then .dropped
  else if w.kind = kPORT then .port (bits w.target 10 7) (bits w.target 6 0)
  else if w.kind = kMCAST then .mcast w.target
  else if w.kind = kENGINE then .inst (bits w.target 12 9) (bits w.target 8 0) (a % 65536)
  else if w.kind = kLOCAL then .culvert (bits w.target 2 0) ((a + w.xlate) % 2 ^ 32)
  else .dropped

/-- ACS P2P Request Redirect of a card's bridge sends what the decode would give another downstream bridge upstream,
unless the request is translated and Direct Translated P2P is enabled (R126). -/
def State.redirected (s : State) (ingress : Nat) (t : Tlp) : Bool :=
  isPcie ingress && s.role ingress == 2 && s.cfgBits (Fn.down ingress).num cAcs 18 18 == 1
    && !(t.addrType == 2 && s.cfgBits (Fn.down ingress).num cAcs 22 22 == 1)

/-- Destination of a request that matches no window: the bridge decode, then the partition's upstream port where the
policy sends misses there, else refusal (R93, R95). -/
def State.missDest (s : State) (part : Nat) (ingress : Nat) (t : Tlp) : Dest :=
  let up := s.homeOf part
  let atUp := up == some (s.selfFid, ingress)
  let upward : Dest := if bit (s.fget R.MAP_MISS_POLICY_UP) part && !atUp then (match up with
    | some (fid, p) => .port fid p
    | none => .miss) else .miss
  match (if t.isMem then s.bridgeDecode part t.addr.toNat else s.ioDecode part t.addr.toNat) with
  | some (.mgmtBar b o) => .mgmtBar b o
  | some (.inst i o) => .inst s.selfFid i o
  | some (.down p) =>
    if s.redirected ingress t && p != ingress then (match up with
      | some (fid, q) => .port fid q
      | none => .miss)
    else .port s.selfFid p
  | some (.remote fid p) =>
    -- A bridge of a port on another device is a downstream bridge of the partition too (R126, R213).
    if s.redirected ingress t then (match up with
      | some (fid, q) => .port fid q
      | none => .miss)
    else .port fid p
  | none => upward

/-! ### Forwarding modes (R61, R62) -/

/-- Is cut-through requested for a frame (R61)? -/
def State.ctRequested (s : State) (f : Frame) (fwd : Nat) : Bool :=
  if s.service = mLIMP then false
  else if fwd = 1 then false
  else if fwd = 2 then true
  else if f.live then s.flag (R.SWC_FWD_LIVE_CT f.ingress)
  else s.flag (R.SWC_FWD_ORD_CT f.ingress)

/-- Can an egress end a bad frame cleanly (R62)? -/
def State.endsCleanly (s : State) (e : Nat) : Bool :=
  if isMoaben e then true
  else if isPcie e then
    if !s.flag (R.PEP_PORT_STS_FLIT e) then true
    else s.role e == 2 && s.cfgBits (Fn.down e).num cDpcCtl 17 16 != 0 && s.flag (R.PEP_LATE_ERR_POLICY e)
  else false

/-! ### Admission and push-out (R71 to R74) -/

/-- A live frame fully stored with no copy in transmission (R72). -/
def State.candidate (s : State) (f : Frame) : Bool :=
  f.live && f.whole && (s.copiesOf f.id).all fun c => !c.sending

/-- Oldest first: earliest ingress timestamp, then lower ingress core port (R72). -/
def olderThan (a b : Frame) : Bool := decide (a.stamp < b.stamp) || (a.stamp == b.stamp && decide (a.ingress < b.ingress))

def oldest : List Frame → Option Frame
  | [] => none
  | f :: fs => match oldest fs with
    | none => some f
    | some g => if olderThan g f then some g else some f

/-- An evicted frame: every queued copy removed and ledgered (R73). -/
def State.evict (s : State) (v : Frame) : State :=
  let cs := s.copiesOf v.id
  let s := cs.foldl (fun s c => (((s.removeCopy c.id).ledgerCopy v c lrEVICT).bump R.BUF_EVICT).tel 11 c.egress 1 (some v)) s
  s.reap

/-- Candidates of a priority. -/
def State.candidatesAt (s : State) (q : Nat) : List Frame := s.sw.frames.filter fun f => s.candidate f && f.prio == q

/-- Evictions of priority `q` until `need` cells are free (R71); `fuel` bounds their number. -/
def State.evictAt (s : State) (q need : Nat) (egresses : List Nat) : Nat → State × Nat
  | 0 => (s, need)
  | fuel + 1 =>
    if need = 0 then (s, need)
    else
      let cs := s.candidatesAt q
      let near := cs.filter fun v => (s.copiesOf v.id).any fun c => egresses.contains c.egress
      match oldest near, oldest cs with
      | some v, _ => (s.evict v).evictAt q (need - v.tlp.cells) egresses fuel
      | none, some v => (s.evict v).evictAt q (need - v.tlp.cells) egresses fuel
      | none, none => (s, need)

/-- Room made for a live frame (R71): `none` when lower-priority candidates cannot make enough. -/
def State.makeRoom (s : State) (f : Frame) (egresses : List Nat) : Option State :=
  let need := f.tlp.cells - s.poolFree .live
  if need = 0 then some s
  else
    let cells := (upTo f.prio).foldl (fun n q => (s.candidatesAt q).foldl (fun n v => n + v.tlp.cells) n) 0
    if cells < need then none
    else some ((upTo f.prio).foldl
      (fun r q => State.evictAt r.1 q r.2 egresses (r.1.sw.frames.length + 1)) (s, need)).1

/-- A live frame refused on arrival: each copy it would have had is ledgered with ARRIVAL (R71, R112). -/
def State.refuseLive (s : State) (f : Frame) (cs : List Copy) : State :=
  let s := (s.bump R.BUF_LIVE_REFUSED).tel 12 f.ingress 1 (some f)
  cs.foldl (fun s c => s.ledgerCopy f c lrEVICT true) s

/-- A frame admitted with its copies: a live one as R71 gives, an ordered one always (R67). -/
def State.takeIn (s : State) (f : Frame) (cs : List Copy) : State :=
  -- What was stamped before the latest ACL_SWEEP stays older while its frame waits (R128).
  let cs := if f.older then cs.map fun c => { c with older := true } else cs
  if cs.isEmpty then s
  else if f.live then
    match s.makeRoom f (cs.map (·.egress)) with
    | none => s.refuseLive f cs
    | some s => cs.foldl State.enqueue (s.store f)
  else cs.foldl State.enqueue (s.store f)

/-! ### Weirs towards Moaben links (R68) -/

/-- Level at which a link sends XOFF: LIMIT × 32 less its headroom. -/
def State.xoffLevel (s : State) (n : Nat) : Nat :=
  s.fget (R.SWC_WEIR_F_LIMIT (n - 64)) * 32 - s.fget (R.MFL_HEADROOM_CELLS (n - 64))

/-- Moaben links that are UP. -/
def State.linkUp (s : State) (f : Nat) : Bool := s.fget (R.MFL_LINK_STS_STATE f) == 6

/-- Sum of the headrooms of the links that are up. -/
def State.headrooms (s : State) : Nat :=
  (upTo 8).foldl (fun n f => if s.linkUp f then n + s.fget (R.MFL_HEADROOM_CELLS f) else n) 0

def State.link (s : State) (f : Nat) : LinkSt := storeGet {} s.links f

def State.modLink (s : State) (f : Nat) (g : LinkSt → LinkSt) : State :=
  { s with links := storePut {} f (g (s.link f)) s.links }

/-- Is VC4 open in the link's state (R249)? -/
def State.vc4Open (s : State) (f : Nat) : Bool :=
  let st := s.fget (R.MFL_LINK_STS_STATE f)
  st == 3 || st == 4 || st == 5 || st == 6

/-- Does a link's transmitter send rows? It idles in DISABLED, and in DETECT only the forwarded clock runs (R249; log
entry 98). -/
def State.transmits (s : State) (f : Nat) : Bool := decide (2 ≤ s.fget (R.MFL_LINK_STS_STATE f))

/-- A control block for a link: it takes the next free slot (R239). -/
def State.sendCtl (s : State) (f : Nat) (d : W64) : State :=
  if s.transmits f then s.modLink f fun l => { l with ctl := l.ctl ++ [d] } else s

/-- XOFF or XON of every VC that a change of the mask stops or releases, each XOFF block counted (R240). -/
def State.sendMask (s : State) (f old mask : Nat) : State :=
  ([0, 1, 4] : List Nat).foldl (fun s v =>
    if bit mask v == bit old v then s
    else if bit mask v then (s.sendCtl f (ctlFlow cbXOFF v mask)).bump (R.MFL_XOFF_TX f)
    else s.sendCtl f (ctlFlow cbXON v mask)) s

/-- XOFF and XON of each Moaben link: VC0 and VC1 of a link that is UP by its weir and by the free ordered cells, held
through ISOLATE (R68, R308), with R68's hysteresis for any XOFF sent before (log entry 106); VC4, wherever it is open, by the free cells of the management pool (R238). The mask goes out
as it changes (R240). -/
def State.updateLinks (s : State) : State :=
  (upTo 8).foldl (fun s f =>
    let n := 64 + f
    let held := s.weirHeld n
    let short := decide (s.poolFree .ordered < s.headrooms)
    let was := (s.port n).xoff
    if !s.vc4Open f then s
    else
      let now := s.linkUp f && (s.mode == mISOLATE || s.fget R.ERR_ISO_STS_STATE != 0 || short
        || decide (s.xoffLevel n ≤ held) || (was && decide (s.xoffLevel n < held + 32)))
      let old := s.fget (R.MFL_LINK_STS_XOFF_RX f)
      let mask := ofBool now * 3 + ofBool (decide (s.poolFree .management < 256)) * 16
      if mask = old then s
      else
        let s := s.modPort n fun p => { p with xoff := now }
        let s := s.fset (R.MFL_LINK_STS_XOFF_RX f) mask
        (s.modLink f fun l => { l with maskAt := s.now, xonDue := mask == 0 }).sendMask f old mask) s

/-- PCIe core ports whose link is up. -/
def State.portsUp (s : State) : List Nat := (s.sw.ports.filter fun e => isPcie e.1 && e.2.up).map (·.1)

/-- Cells that the credits of all PCIe ports could still bring. -/
def State.creditsOut (s : State) : Nat := s.sw.ports.foldl (fun n e => n + e.2.credit) 0

/-- Cells that a PCIe port may still advertise credits for: within its weir, and within the free ordered pool less the
credits already out and the cells held back for the Moaben links (R67, R68, R69). -/
def State.creditRoom (s : State) (n : Nat) : Nat :=
  min (s.fget (R.SWC_WEIR_LIMIT n) * 32 - (s.weirHeld n + (s.port n).credit))
    (s.poolFree .ordered - s.headrooms - s.creditsOut)

/-- A PCIe port advertises posted and non-posted credits (R67): how many is its own choice within the room (log entry
92). -/
def State.advertise (s : State) (n : Nat) : State :=
  s.modPort n fun p => { p with credit := p.credit + min (Config.creditGrant n s.now p.credit) (s.creditRoom n) }

/-- Flow control of links and PCIe ports as charges and pools stand now (R67 to R69). -/
def State.updateXoff (s : State) : State := s.portsUp.foldl State.advertise s.updateLinks

end Sys2Proof.Machine
end

