-- ==== Sys2Proof/Machine/Rings.lean ====
section
/-! DEFINITION. Rings, contexts and instances as the rest of the model sees them: queue registers (R153 to R156), what a
ring reads as, halting (R169), discarded run-ahead reads (R180), the start of a reset (R198) and the stop of the engines
(R183, R308). -/

namespace Sys2Proof.Machine

/-! ### Queue registers (R153 to R156) -/

abbrev qBASE : Nat := 0x00
abbrev qCMPL : Nat := 0x08
abbrev qCFG : Nat := 0x10
abbrev qPROD : Nat := 0x18
abbrev qDONE : Nat := 0x1C
abbrev qSTS : Nat := 0x20
abbrev qHALT_IDX : Nat := 0x24

/-- A queue register of ring `q` of instance `i`. -/
def State.qreg (s : State) (i q off : Nat) : Nat := (s.bar (Fn.inst i).num (0x100 * q + off)).toNat

def State.setQreg (s : State) (i q off v : Nat) : State := s.setBar (Fn.inst i).num (0x100 * q + off) (BitVec.ofNat 32 v)

/-- A field of a queue register set. -/
def State.putQreg (s : State) (i q off hi lo v : Nat) : State :=
  s.setQreg i q off (putBits (s.qreg i q off) hi lo v)

def State.qaddr (s : State) (i q off : Nat) : Nat := s.qreg i q off + s.qreg i q (off + 4) * 2 ^ 32

def State.qSize (s : State) (i q : Nat) : Nat := 2 ^ bits (s.qreg i q qCFG) 4 0

def State.qEnabled (s : State) (i q : Nat) : Bool := bit (s.qreg i q qCFG) 16

def State.qTc (s : State) (i q : Nat) : Nat := bits (s.qreg i q qCFG) 10 8

def State.halted (s : State) (i q : Nat) : Bool := bits (s.qreg i q qSTS) 2 0 == 4

/-- Is a ring bound, and to which engine (VIM_INST_RING)? -/
def State.bound (s : State) (i q : Nat) : Bool := bit (s.reg (R.VIM_INST_RING i)).toNat (8 * q + 7)

def State.engineOf (s : State) (i q : Nat) : Nat := bits (s.reg (R.VIM_INST_RING i)).toNat (8 * q + 3) (8 * q)

/-! ### Rings -/

def State.ring (s : State) (i q : Nat) : RingSt := storeGet {} s.rings (4 * i + q)

def State.setRing (s : State) (i q : Nat) (r : RingSt) : State := { s with rings := storePut {} (4 * i + q) r s.rings }

def State.modRing (s : State) (i q : Nat) (f : RingSt → RingSt) : State := s.setRing i q (f (s.ring i q))

def State.inst (s : State) (i : Nat) : InstSt := storeGet {} s.insts i

def State.modInst (s : State) (i : Nat) (f : InstSt → InstSt) : State :=
  { s with insts := storePut {} i (f (s.inst i)) s.insts }

def State.eng (s : State) (e : Nat) : EngSt := storeGet {} s.engines e

def State.modEng (s : State) (e : Nat) (f : EngSt → EngSt) : State :=
  { s with engines := storePut {} e (f (s.eng e)) s.engines }

/-- Descriptors accepted by doorbells and not finished (R154). -/
def State.outstanding (s : State) (i q : Nat) : Nat := (s.qreg i q qPROD + 2 ^ 32 - s.qreg i q qDONE) % 2 ^ 32

/-- Descriptors that have not started. -/
def State.pendingDescs (s : State) (i q : Nat) : Nat := s.outstanding i q - (s.ring i q).runs.length

/-- Is a run held by a FENCE or TIMED descriptor (R171, R175)? -/
def DescRun.opcode (r : DescRun) : Nat := bits r.raw.toNat 7 0

def DescRun.holds (r : DescRun) : Bool := (r.opcode == 7 || r.opcode == 8) && r.current && r.status.isNone

/-- A run that occupies a context (R157). -/
def DescRun.busy (r : DescRun) : Bool := r.current && r.status.isNone && !(r.opcode == 7 || r.opcode == 8)

/-- Rings bound to an engine, by key 4 × instance + ring, in rising order. -/
def State.boundRings (s : State) (e : Nat) : List Nat :=
  s.liveInsts.flatMap fun i => ((upTo 4).filter fun q => s.bound i q && s.engineOf i q == e).map fun q => 4 * i + q

/-- Busy contexts of an engine (R157). -/
def State.contexts (s : State) (e : Nat) : Nat :=
  ((s.boundRings e).filter fun k => (storeGet {} s.rings k : RingSt).runs.any DescRun.busy).length

/-- Outstanding tags of an engine and of an instance. -/
def State.tagsOf (s : State) (e : Nat) : List EngTag := s.engTags.filter fun t => t.engine == e

def State.instTags (s : State) (i : Nat) : List EngTag := s.engTags.filter fun t => t.inst == i

/-- Is the headgate open now (R197)? -/
def State.headgate (s : State) (i : Nat) : Bool := s.flag (R.VIM_INST_STS_HG i)

/-- May the engines serve rings at all now (R150, R308, R431)? -/
def State.enginesRun (s : State) : Bool :=
  s.instancesExist && s.mode != mISOLATE && s.mode != mSAFE && s.mode != mSTANDBY
    && s.fget R.ERR_ISO_STS_STATE == 0

/-- May an engine start descriptors: neither ABORTING nor STOPPED (R184)? -/
def State.engineReady (s : State) (e : Nat) : Bool := s.fget (R.ENG_STS_STATE e) < 2 && s.enginesRun

/-- May an instance issue requests: Bus Master Enable set, in D0 (R200, R201)? -/
def State.mayIssue (s : State) (i : Nat) : Bool := s.busMaster (Fn.inst i).num && !s.d3hot (Fn.inst i).num

/-- STATE and HOLD of a ring (INST_Q_STS): a halt stands, then a held or running descriptor, then what keeps the next
one from starting. Where several causes hold the ring at once the first of UNBOUND, ENGINE, HEADGATE, BME reads (log
entry 15). -/
def State.ringState (s : State) (i q : Nat) : Nat × Nat :=
  let r := s.ring i q
  if !s.qEnabled i q then (0, 0)
  else if s.halted i q then (4, 0)
  else match r.runs.find? fun d => d.current && d.status.isNone with
    | some d => if d.opcode = 7 then (3, 2) else if d.opcode = 8 then (3, 1) else (2, 0)
    | none =>
      if r.restored then (1, 0)
      else if !s.bound i q then (3, 6)
      else if !s.engineReady (s.engineOf i q) then (3, 5)
      -- HEADGATE reads once what had started has finished (R197).
      else if !s.headgate i then (if r.runs.any fun d => d.status.isNone then (2, 0) else (3, 3))
      else if !s.mayIssue i then (if s.outstanding i q = 0 then (1, 0) else (3, 4))
      else if s.outstanding i q = 0 then (1, 0) else (2, 0)

/-! ### Discarded run-ahead reads (R180) -/

/-- One entry of an engine's discarded-read log. -/
def State.discardLog (s : State) (e i q : Nat) (read : W64 × Nat × Nat) (cause : Nat) : State :=
  let k := s.fget (R.ENG_STS_LOG_NEXT e)
  let v := read.1.toNat + read.2.1 * 2 ^ 64 + read.2.2 * 2 ^ 80 + cause * 2 ^ 93 + i * 2 ^ 96 + q * 2 ^ 105 + 2 ^ 107
    + s.instPart i * 2 ^ 112 + s.ns * 2 ^ 128
  let s := s.setTbl (0x200 + e) 0 k (BitVec.ofNat 256 v)
  ((s.fset (R.ENG_STS_LOG_NEXT e) ((k + 1) % 16)).bump (R.ENG_DISCARDED e)).raise (0x200 + e) 1

/-- Causes of R180. -/
abbrev dABORT : Nat := 0
abbrev dRESET : Nat := 1
abbrev dBME : Nat := 2
abbrev dFENCE : Nat := 3
abbrev dSTOP : Nat := 4

/-- Run-ahead data of a ring discarded, each read logged; what still returns for it is discarded too (R180, R183). -/
def State.discardAhead (s : State) (i q cause : Nat) : State :=
  let r := s.ring i q
  let e := s.engineOf i q
  let reads := r.ahead.flatMap fun d => d.aheadReads
  let s := reads.foldl (fun s x => s.discardLog e i q x cause) s
  let s := s.modRing i q fun r => { r with ahead := [] }
  { s with engTags := s.engTags.map fun t =>
      if t.inst = i ∧ t.ring = q ∧ t.ahead = true then { t with discard := true } else t }

/-! ### Ends and halts (R169) -/

abbrev stOK : Nat := 0x00
abbrev stPOISON_FILL : Nat := 0x01
abbrev stDENIED : Nat := 0x10
abbrev stUNMAPPED : Nat := 0x11
abbrev stKIND_MISMATCH : Nat := 0x12
abbrev stCTO : Nat := 0x13
abbrev stBAD_DESC : Nat := 0x14
abbrev stABORTED : Nat := 0x15
abbrev stFENCE_FAILED : Nat := 0x16
abbrev stCOMPLETER_ABORT : Nat := 0x17
abbrev stRECORD_FAILED : Nat := 0x18
abbrev stBME_OFF : Nat := 0x19
abbrev stFETCH_POISON : Nat := 0x1A

/-- RESULT of an error: window index, and 0 source, 1 destination, 2 ring access (R163). -/
def errResult (window side : Nat) : Nat := window % 2 ^ 16 + side * 2 ^ 16

/-- The run of a descriptor changed in place. -/
def State.modRun (s : State) (i q n : Nat) (f : DescRun → DescRun) : State :=
  s.modRing i q fun r => { r with runs := r.runs.map fun d => if d.n = n then f d else d }

/-- Source reads of a descriptor that return from now on are discarded (R169). -/
def State.discardReads (s : State) (i q n : Nat) : State :=
  { s with engTags := s.engTags.map fun t =>
      if t.inst = i ∧ t.ring = q ∧ (match t.why with
        | .source m _ => m == n
        | .fence m => m == n
        | _ => false) = true then { t with discard := true } else t }

/-- A descriptor ended with a status that halts the ring: it issues nothing more (R169). Its run waits for
DESCRIPTOR_FINISH to write its record in turn. -/
def State.endDesc (s : State) (i q n status result : Nat) : State :=
  (s.modRun i q n fun d =>
    if d.status.isSome then d else { d with status := some status, result := result, current := false, segs := [] }).discardReads
    i q n

/-- Sets a vector's pending bit for an event of a ring (R192). -/
def State.pendVector (s : State) (i q v : Nat) : State :=
  let fn := (Fn.inst i).num
  let s := s.setBar fn 0x9000 (s.bar fn 0x9000 ||| (1 <<< v))
  { s with pbaRing := storePut 0 (8 * i + v) q s.pbaRing }

/-- A ring becomes HALTED for descriptor `n` (R169); ERR_VEC's message is due. -/
def State.haltRing (s : State) (i q n status : Nat) : State :=
  let e := s.engineOf i q
  let s := s.discardAhead i q dSTOP
  let s := s.putQreg i q qSTS 2 0 4
  let s := s.putQreg i q qSTS 15 8 status
  let s := s.setQreg i q qHALT_IDX n
  let s := (s.bump (R.ENG_HALTS e)).raise (0x200 + e) 0
  if bit (s.qreg i q qCFG) 15 then s.pendVector i q (bits (s.qreg i q qCFG) 14 12) else s

/-- The destination set when an implicit fence is cut short: the ninth entry joins the eight, none of them fenced yet
(R170). -/
def RingSt.destNow (r : RingSt) : List DestEntry := match r.implicit with
  | some (_, d, _) => r.dest ++ [d]
  | none => r.dest

/-- A ring disabled now: pending descriptors dropped, run-ahead data discarded, fetches on their way dropped (R156,
R180). -/
def State.ringOff (s : State) (i q : Nat) : State :=
  let s := s.discardAhead i q dSTOP
  let s := s.modEngTags fun t => if t.inst = i ∧ t.ring = q ∧ (match t.why with
    | .fetch _ => true
    | _ => false) = true then { t with discard := true } else t
  let s := s.modRing i q fun r => { dest := r.destNow, freeze := r.freeze }
  (s.putQreg i q qCFG 16 16 0).putQreg i q qSTS 2 0 0

/-- A ring whose EN = 0 waited for its current descriptor is disabled once no started descriptor is left (R156). -/
def State.settleOff (s : State) (i q : Nat) : State :=
  if (s.ring i q).disabling && (s.ring i q).runs.isEmpty then s.ringOff i q else s

/-- Reads of an instance discarded in this nanosecond and logged with cause STOP, logged with cause BME instead (R180,
R202). -/
def State.stopIsBme (s : State) (i : Nat) : State :=
  (upTo 16).foldl (fun s e => (upTo 16).foldl (fun s k =>
    let v := (s.tbl (0x200 + e) 0 k).toNat
    if bits v 104 96 = i ∧ bits v 107 107 = 1 ∧ bits v 95 93 = dSTOP ∧ bits v 191 128 = s.ns then
      s.setTbl (0x200 + e) 0 k (BitVec.ofNat 256 (putBits v 95 93 dBME))
    else s) s) s

/-- Bus Master Enable withdrawn or D3hot entered: descriptors that have started stop with BME_OFF and their rings halt
without a record; what still returns is discarded, and a FREEZE waits for the tags alone (R183, R200 to R202). One that
had issued its last request stops too, since its record could not be written (log entry 22). -/
def State.stopBme (s : State) (i : Nat) : State :=
  -- Before a FREEZE of the same core cycle (R202): what it discarded goes for BME.
  let s := if (s.inst i).cmd = 3 ∧ (s.inst i).cmdStart = s.now then s.stopIsBme i else s
  let s := (upTo 4).foldl (fun s q =>
    let s := s.discardAhead i q dBME
    let runs := (s.ring i q).runs
    let s := s.modRing i q fun r => { r with
      runs := [], fetched := [], dest := r.destNow, implicit := none
      freeze := r.freeze.map fun f => { f with toRead := [], outstanding := 0 } }
    match runs.getLast? with
    | none => s
    | some d =>
      ((s.setQreg i q qDONE ((s.qreg i q qDONE + runs.length) % 2 ^ 32)).haltRing i q d.n stBME_OFF).settleOff i q) s
  s.modEngTags fun t => if t.inst = i then { t with discard := true } else t

/-- The engine put in ABORTING: current descriptors end ABORTED, run-ahead data goes (R183, R184). -/
def State.abortEngine (s : State) (e : Nat) : State :=
  let s := s.fset (R.ENG_STS_STATE e) 2
  (s.boundRings e).foldl (fun s k =>
    let s := s.discardAhead (k / 4) (k % 4) dABORT
    -- A FENCE whose reads have all been issued is no longer current (R157, R184).
    match (s.ring (k / 4) (k % 4)).runs.find? fun d => d.current && d.status.isNone
        && !(d.opcode == 7 && d.fence.any fun f => f.toRead.isEmpty) with
    | some d =>
      let s := (s.endDesc (k / 4) (k % 4) d.n stABORTED (errResult 0xFFFF 0)).modRing (k / 4) (k % 4) fun r =>
        { r with dest := r.destNow, implicit := none }
      s.modEngTags fun t => if t.inst = k / 4 ∧ t.ring = k % 4 ∧ (t.discard || t.why == .implicit) = true then
        { t with discard := true, stopped := true } else t
    | none => s) s

/-! ### Instances (R195 to R198) -/

def State.setInstState (s : State) (i st : Nat) : State := s.fset (R.VIM_INST_STS_STATE i) st

abbrev ciNONE : Nat := 0
abbrev ciSTATE : Nat := 1
abbrev ciBUSY : Nat := 2
abbrev ciMODE : Nat := 3
abbrev ciFUNC : Nat := 4
abbrev ciFW : Nat := 5
abbrev ciBIND : Nat := 6
abbrev ciCHECK : Nat := 7
abbrev ciVERSION : Nat := 8
abbrev ciXFER : Nat := 9
abbrev ciRESET : Nat := 10

/-- Page number of an instance's VIM page. -/
def vimPage (i : Nat) : Nat := 0x400 + i

/-- A command of an instance ends REFUSED with a cause (R196). -/
def State.cmdRefused (s : State) (i cause : Nat) : State :=
  ((s.fset (R.VIM_INST_STS_CMD_RESULT i) 3).fset (R.VIM_INST_STS_CAUSE i) cause).raise (vimPage i) 1

/-- A command of an instance ends DONE (R196). -/
def State.cmdDone (s : State) (i : Nat) : State :=
  (((s.fset (R.VIM_INST_STS_CMD_RESULT i) 2).fset (R.VIM_INST_STS_CAUSE i) 0).modInst i fun x => { x with cmd := 0 }).raise
    (vimPage i) 0

/-- Descriptors of an instance current or pending (R198). -/
def State.unfinished (s : State) (i : Nat) : Nat :=
  (upTo 4).foldl (fun n q => n + (if s.qEnabled i q then s.pendingDescs i q else 0) + ((s.ring i q).runs.filter fun d => d.current && d.status.isNone).length) 0

/-- Steps 1 to 3 of a forced reset, or of an FLR (R198); ignored while one runs (R202), in FREE and in SETUP. -/
def State.startReset (s : State) (i : Nat) (byFlr : Bool) : State :=
  let st := s.instState i
  if st = iFREE ∨ st = iSETUP then s
  else if st = iRESETTING then
    -- FLR and FORCE_RESET in one core cycle are one FORCE_RESET (R199, R202).
    if !byFlr && (s.inst i).byFlr && (s.inst i).resetStart == s.now then s.modInst i fun x => { x with byFlr := false } else s
  else
    let busy := (s.inst i).cmd != 0
    -- Of one core cycle the reset applies first: a doorbell is ignored, and a command is judged in RESETTING (R202).
    let s := (upTo 4).foldl (fun s q => match (s.ring i q).rung with
      | some (at', prod) => if at' = s.now then s.setQreg i q qPROD prod else s
      | none => s) s
    let n := s.unfinished i
    let s := (s.fset (R.VIM_INST_STS_HG i) 0).fset (R.VIM_INST_CTL_HG_OPEN i) 0
    let s := s.setInstState i iRESETTING
    let s := if (s.inst i).cmdAt = s.now + 1 then s.cmdRefused i ciSTATE else if busy then s.cmdRefused i ciRESET else s
    let s := (upTo 4).foldl (fun s q => (s.discardAhead i q dRESET).setRing i q {}) s
    let s := s.modEngTags fun t => if t.inst = i then { t with discard := true } else t
    -- A SAVE that ends so leaves its closing read to no one (R205).
    let s : State := { s with coreReads := s.coreReads.filter fun r => r.why != .save i }
    s.modInst i fun _ => { byFlr := byFlr, abandoned := n, resetStart := s.now }

/-- The engines stop their current descriptors for ISOLATE without records; each runs again from its start at the exit
(R308, R310). -/
def State.stopForIsolate (s : State) : State :=
  let lost := s.engTags.filterMap fun t => match t.why with
    | .fetch n => some (t.inst, t.ring, n)
    | _ => none
  let s := s.modEngTags fun t => { t with discard := true, stopped := true }
  s.rings.foldl (fun (s : State) (k : Nat × RingSt) =>
    let i := k.1 / 4
    let q := k.1 % 4
    let s := s.discardAhead i q dSTOP
    -- A ring that EN = 0 is waiting to disable runs no stopped descriptor again (R156).
    (s.modRing i q fun r =>
      let keep := r.runs.filter fun d => d.status.isSome
      let again := r.runs.filter fun d => d.status.isNone
      { r with
        runs := keep, dest := r.destNow, implicit := none
        -- Behind a fetch that is lost everything is fetched again, in order (R155, R310).
        fetched := again.map (fun d => (d.n, d.raw, 0)) ++ r.fetched.takeWhile fun x =>
          !lost.any fun y => y.1 == i && y.2.1 == q && decide ((y.2.2 + 2 ^ 32 - x.1) % 2 ^ 32 ≥ 2 ^ 31) }).settleOff i q) s

end Sys2Proof.Machine
end

