-- ==== Sys2Proof/Machine/Slots.lean ====
section
/-! DEFINITION. The slot power supervisor's operations: trips and the governor's answer (R373, R376, R381), turn-off
(R374), the insertion conditions (R364, R369) and power-good (R377). -/

namespace Sys2Proof.Machine

abbrev slOFF : Nat := 0
abbrev slWAIT : Nat := 1
abbrev slRAMP : Nat := 2
abbrev slQUALIFY : Nat := 3
abbrev slON : Nat := 4
abbrev slTRIPPED : Nat := 5
abbrev slLATCHED : Nat := 6
abbrev slFENCED : Nat := 7

abbrev tcTIMER : Nat := 1
abbrev tcFAST : Nat := 2
abbrev tcFET_GATE : Nat := 3
abbrev tcFET_SHORT : Nat := 4

/-- Page number of a slot's page. -/
def slotPage (n : Nat) : Nat := 0x28 + n

/-- Supervisor ticks of 1 µs, in core cycles (R368). -/
def ticks (n : Nat) : Nat := n * cyclesPerUs

def State.slot (s : State) (n : Nat) : Slot := storeGet {} s.slots n

def State.modSlot (s : State) (n : Nat) (f : Slot → Slot) : State :=
  { s with slots := storePut {} n (f (s.slot n)) s.slots }

def Slot.chan (x : Slot) (c : Nat) : Chan := if c = 0 then x.ch0 else x.ch1

def Slot.setChan (x : Slot) (c : Nat) (f : Chan → Chan) : Slot :=
  if c = 0 then { x with ch0 := f x.ch0 } else { x with ch1 := f x.ch1 }

def State.slotState (s : State) (n : Nat) : Nat := s.fget (R.SPV_SLOT_STS_STATE n)

def State.setSlotState (s : State) (n st : Nat) : State := s.fset (R.SPV_SLOT_STS_STATE n) st

/-- Slot n is LATCHED or FENCED (SPV_GLB_LATCH). -/
def State.slotLatched (s : State) (n : Nat) : Bool := s.slotState n == slLATCHED || s.slotState n == slFENCED

/-- The core port served by a slot, and its partition (R388). -/
def State.slotPort (s : State) (n : Nat) : Option Nat :=
  (upTo 64).find? fun p => s.fget (R.PEP_PORT_CTL_SLOT p) == n && s.flag (R.PEP_PORT_STS_PRESENT p)

/-- A record of R388: detail bits count from bit 256 of the record. -/
def State.slotRecord (s : State) (code n detail : Nat) : State :=
  match s.slotPort n with
  | some p => s.record code lvNOTICE (some (s.portPart p)) p (n + detail)
  | none => s.record code lvNOTICE none 0x7F (n + detail)

/-- Slot Status bits of the slot's downstream bridge set (R220). -/
def State.slotBits (s : State) (n : Nat) (m : W32) : State :=
  match s.slotPort n with
  | some p => if s.role p = 2 then s.orCfg (Fn.down p).num cSlotCtl m else s
  | none => s

/-- Slot Status of PCI Express in the upper half of the slot control word. -/
abbrev ssPowerFault : W32 := 1 <<< 17
abbrev ssPresenceChanged : W32 := 1 <<< 19
abbrev ssCommandCompleted : W32 := 1 <<< 20
abbrev ssLinkChanged : W32 := 1 <<< 24

/-- The slot's power-good set or cleared: with it SPV_PG_n, and SLOT_PERST_N_n at once when it goes (R220, R377). -/
def State.setSlotPg (s : State) (n : Nat) (on : Bool) : State :=
  if s.flag (R.SPV_SLOT_STS_PG n) = on then s
  else
    let s := s.fset (R.SPV_SLOT_STS_PG n) (ofBool on)
    let g := s.fget R.SPV_GLB_STS_PG
    let s := s.fset R.SPV_GLB_STS_PG (putBits g n n (ofBool on))
    let s := if on then s.modSlot n fun x => { x with pgAt := some s.now }
      else (s.fset (R.SPV_SLOT_STS_PERST n) 1).modSlot n fun x => { x with pgAt := none }
    s.raise (slotPage n) 4

/-- Both gates of a slot pulled down: its channels off, their timers idle (R371, R373). -/
def State.gatesDown (s : State) (n : Nat) : State :=
  let s := (upTo 2).foldl (fun s c =>
    (((s.fset (R.SPV_CH_STS_ON n c) 0).fset (R.SPV_CH_STS_PG n c) 0).fset (R.SPV_CH_STS_LIMITING n c) 0).fset
      (R.SPV_CH_STS_FT_RUN n c) 0) s
  s.modSlot n fun x => { x with
    offAt := none, ch0 := { x.ch0 with ramping := false, rising := false }
    ch1 := { x.ch1 with ramping := false, rising := false } }

/-- The slot's current in mA: that of its channels' last samples (R400). -/
def State.slotCurrent (s : State) (n : Nat) : Nat := s.fget (R.SPV_MEAS_I_I n 0) + s.fget (R.SPV_MEAS_I_I n 1)

/-- Power-good away and PERST asserted, at once (R373, R374). -/
def State.perstNow (s : State) (n : Nat) : State := (s.setSlotPg n false).fset (R.SPV_SLOT_STS_PERST n) 1

/-- Detail of a trip record: channel, current and VOUT of the last sample (R388). -/
def State.tripDetail (s : State) (n c : Nat) : Nat :=
  c * 2 ^ 5 + s.fget (R.SPV_MEAS_I_I n c) * 2 ^ 16 + s.fget (R.SPV_MEAS_V_VOUT n c) * 2 ^ 32

/-- The slot power governor on a trip (R381); nothing is scheduled while it is disabled (R383). -/
def State.govTrip (s : State) (n : Nat) : State :=
  let k := s.fget (R.SPV_SLOT_STS_RETRIES n)
  if !s.flag R.SPV_GLB_CTL_GOV_EN then (s.setSlotState n slTRIPPED).modSlot n fun x => { x with retryDue := none }
  else if k = s.fget (R.SPV_RETRY_MAX n) then
    let s := (s.setSlotState n slLATCHED).fset R.SPV_GLB_LATCH_LATCHED (putBits (s.fget R.SPV_GLB_LATCH_LATCHED) n n 1)
    let s := s.raise (slotPage n) 1
    let s := s.slotBits n ssPowerFault
    (s.slotRecord 0x0104 n (k * 2 ^ 65)).govLog gSLOT aLATCH n k k (s.slotCurrent n)
  else
    let s := s.modSlot n fun x => { x with
      windowEnd := if k = 0 then some (s.now + s.fget (R.SPV_RETRY_WINDOW_S n) * cyclesPerS) else x.windowEnd
      retryDue := some (s.now + s.fget (R.SPV_RETRY_INTERVAL n) * 100 * cyclesPerMs) }
    s.setSlotState n slTRIPPED

/-- A trip of a channel turns the whole slot off (R373). A slot that is not on has nothing to trip. -/
def State.trip (s : State) (n c cause : Nat) : State :=
  let on := s.flag (R.SPV_CH_STS_ON n c)
  if !on then s
  else
    let detail := s.tripDetail n c
    let gate := s.fget (R.SPV_MEAS_V_GATE n c)
    let s := (s.gatesDown n).perstNow n
    let s := s.slotBits n ssPowerFault
    let s := ((s.fset (R.SPV_SLOT_STS_CAUSE n) cause).bump (R.SPV_TRIPS n)).raise (slotPage n) 0
    let s := if cause = tcFAST then s.bump (R.SPV_FAST_TRIPS n) else s
    let s := if cause = tcFET_GATE then s.raise (slotPage n) 2 else s
    let code := if cause = tcTIMER then 0x0100 else if cause = tcFAST then 0x0101 else 0x0102
    let s := s.slotRecord code n (detail + if cause = tcFET_GATE then gate * 2 ^ 48 else 0)
    s.govTrip n

/-- Is an enabled channel valid (R364)? -/
def State.chanValid (s : State) (n c : Nat) : Bool :=
  let lim := if c = 0 then s.fget (R.SPV_ILIMIT0_LIMIT n) else s.fget (R.SPV_ILIMIT1_LIMIT n)
  let fast := if c = 0 then s.fget (R.SPV_ILIMIT0_FAST_X4 n) else s.fget (R.SPV_ILIMIT1_FAST_X4 n)
  let rs := if c = 0 then s.fget (R.SPV_RSHUNT0_UOHM n) else s.fget (R.SPV_RSHUNT1_UOHM n)
  -- mA × µΩ = nV
  decide (2500000 ≤ lim * rs) && decide (lim * fast * rs ≤ 4 * 50000000)

def State.chanEnabled (s : State) (n c : Nat) : Bool := s.flag (R.SPV_CH_CTL_EN n c)

/-- Channel of a slot that is enabled and not valid. -/
def State.badChannel (s : State) (n : Nat) : Option Nat := (upTo 2).find? fun c => s.chanEnabled n c && !s.chanValid n c

/-- Power Controller Control of the slot's bridge is 1: off (R220). -/
def State.powerControllerOff (s : State) (n : Nat) : Bool :=
  match s.slotPort n with
  | some p => s.role p == 2 && s.cfgBits (Fn.down p).num cSlotCtl 10 10 == 1
  | none => false

/-- The conditions of R369 but for the validity of the channels; none starts in SAFE, STANDBY, or before the
supervisor's self-test has passed, or while a turn-off runs (R374, R386, R426, R427). -/
def State.insertionAllowed (s : State) (n : Nat) : Bool :=
  s.flag (R.SPV_SLOT_CTL_ON n) && !s.powerControllerOff n && s.flag (R.SPV_SLOT_STS_PRESENT n) && !s.slotLatched n
    && decide (10800 ≤ s.fget R.SPV_VIN_VIN12) && decide (2970 ≤ s.fget R.SPV_VIN_VIN3V3)
    && (s.slot n).holdUntil.all (fun t => decide (t ≤ s.now)) && (s.slot n).offAt.isNone
    && s.mode != mSAFE && s.mode != mSTANDBY && s.mode != mRESET
    && s.flag R.DEV_MODE_STS_BG_DONE && !bit (s.reg R.DEV_SELFTEST_FAIL).toNat 13
    && (s.chanEnabled n 0 || s.chanEnabled n 1)


/-- A turn-off requested by software or the host: power-good and PERST first, the gates 100 ticks later; a pending
retry and any hold are cancelled (R374). -/
def State.slotOff (s : State) (n : Nat) : State :=
  let s := s.perstNow n
  let on := (upTo 2).any fun c => s.flag (R.SPV_CH_STS_ON n c)
  let s := s.modSlot n fun x => { x with retryDue := none, holdUntil := none, offAt := if on then some s.now else none }
  if s.slotLatched n then s else s.setSlotState n slOFF

/-- A slot waits for its insertion when it is commanded on and present (R380). -/
def State.slotWait (s : State) (n : Nat) : State :=
  if s.flag (R.SPV_SLOT_STS_PRESENT n) && !s.slotLatched n && !s.powerControllerOff n
      && (s.slotState n == slOFF || s.slotState n == slTRIPPED) then s.setSlotState n slWAIT else s

/-- Slot power-good follows its enabled channels, and the state with it (R377, R380). -/
def State.judgePg (s : State) (n : Nat) : State :=
  let all := (upTo 2).all fun c => !s.chanEnabled n c || s.flag (R.SPV_CH_STS_PG n c)
  let some' := (upTo 2).any fun c => s.flag (R.SPV_CH_STS_ON n c)
  -- With both channels disabled the slot never turns on (R364), and a turn-off goes on (R374).
  let enabled := s.chanEnabled n 0 || s.chanEnabled n 1
  if !some' || !enabled || (s.slot n).offAt.isSome || s.slotLatched n then s
  else if all then (s.setSlotPg n true).setSlotState n slON
  else
    let s := s.perstNow n
    s.setSlotState n (if (s.slot n).ch0.ramping || (s.slot n).ch1.ramping then slRAMP else slQUALIFY)

/-- Both enabled channels start their ramps; a forced one has its gate fully on at once (R369, R370). -/
def State.startRamps (s : State) (n : Nat) : State :=
  let forced (c : Nat) : Bool := s.chanEnabled n c && s.flag (R.SPV_CH_CTL_FORCE_ON n c)
  let ramps (c : Nat) : Bool := s.chanEnabled n c && !forced c
  let t := (upTo 2).foldl (fun s c => if s.chanEnabled n c then s.fset (R.SPV_CH_STS_ON n c) 1 else s) s
  let t := (upTo 2).foldl (fun t c => if forced c then t.fset (R.SPV_CH_STS_PG n c) 1 else t) t
  let t := t.modSlot n fun x => { x with
    offAt := none, retryDue := none, holdUntil := none
    ch0 := { x.ch0 with ramping := ramps 0, rising := s.chanEnabled n 0, onAt := s.now }
    ch1 := { x.ch1 with ramping := ramps 1, rising := s.chanEnabled n 1, onAt := s.now } }
  let t := (t.fset (R.SPV_SLOT_STS_PERST n) 1).setSlotState n slRAMP
  if ramps 0 || ramps 1 then t else t.judgePg n

/-- The voltage in mV up to which a ramping channel has driven its output: a slope of VIN ÷ RAMP_MS (R369). -/
def State.rampLevel (s : State) (n c : Nat) : Nat :=
  let vin := s.fget (if c = 0 then R.SPV_VIN_VIN12 else R.SPV_VIN_VIN3V3)
  min vin (vin * (s.now - ((s.slot n).chan c).onAt) / (s.fget (R.SPV_CH_CTL_RAMP_MS n c) * cyclesPerMs))

/-- An insertion sequence, or WAIT with a record where an enabled channel is not valid (R364). -/
def State.insertion (s : State) (n : Nat) : State :=
  match s.badChannel n with
  | some c => ((s.setSlotState n slWAIT).raise (slotPage n) 5).slotRecord 0x0107 n (c * 2 ^ 5)
  | none => s.startRamps n

/-- Every slot turned off in the order of R374, for SAFE (R427). -/
def State.slotsOff (s : State) : State :=
  (upTo 24).foldl (fun s n => if s.slotState n = slOFF then s else s.slotOff n) s

end Sys2Proof.Machine
end

