-- ==== Sys2Proof/Machine/Contain.lean ====
section
/-! DEFINITION. What takes ports, links, partitions and the data plane out of service: link-downs with epoch and flush
(R82 to R85, R250), late errors (R64, R218), the virtual switch reset (R216), escalation (R298), and errors of level
DEVICE (R308, R427). -/

namespace Sys2Proof.Machine

/-! ### Packets sent on a Moaben link (R235, R243, R244) -/

/-- Bytes of the replay buffer's packets. -/
def State.unackedBytes (s : State) (f : Nat) : Nat := (s.link f).replay.foldl (fun n p => n + p.bytes) 0

/-- MFL_REPLAY_STS as the replay buffer stands. -/
def State.showReplay (s : State) (f : Nat) : State :=
  let s := s.fset (R.MFL_REPLAY_STS_UNACKED f) (s.link f).replay.length
  s.fset (R.MFL_REPLAY_STS_BYTES f) (s.unackedBytes f)

/-- Virtual channel of a frame on a Moaben link (R238). -/
def vcOf (f : Frame) : Nat := if f.live then 3 else f.tlp.queueType

/-- Bus of a downstream port's link: a Type 1 configuration request to it leaves as Type 0 (PRESUMED from the standard, log
entry 10). -/
def State.typeZero (s : State) (n : Nat) (t : Tlp) : Bool :=
  (t.kind == .cfgRead || t.kind == .cfgWrite) && isPcie n && s.role n == 2
    && s.cfgBits (Fn.down n).num cBuses 15 8 == t.bus.toNat

/-- The packet as a copy carries it: address, requester ID and tag of the copy (R100, R101, R102). -/
def State.copyTlp (s : State) (f : Frame) (c : Copy) : Tlp :=
  let t := f.tlp
  { t with addr := if t.isMem then c.addr else t.addr, reqId := c.newReqId.getD t.reqId, tag := c.newTag.getD t.tag
           type0 := t.type0 || s.typeZero c.egress t }

/-- What a packet carries on the lanes: its header's slots and its body's, a retransmission marked so (R235, R236). -/
def State.txPacket (s : State) (p : Packet) (replay : Bool) : TxPacket :=
  let len := p.bytes / 32
  match p.frame, p.copy, p.vc4 with
  | some fr, some c, _ =>
    let t := s.copyTlp fr c
    let fur := if t = fr.tlp then fr.furrow else furrow t
    let h := linkHeader p.seq p.vc c.dstFid (if fr.mcast then fr.group else c.dest) fr.srcFid len fr.gate fr.bank fr.live false
      fr.mcast replay 0 (bits t.tag.toNat 13 10) fur.toNat
    if p.null then { seq := p.seq, head := headSlots (nullHeader h), body := [0, 0] }
    else { seq := p.seq, head := headSlots h, body := bodySlots p.bytes t.wire }
  | _, _, some v =>
    { seq := p.seq, body := bodySlots p.bytes (Config.vc4Bytes v.body)
      head := headSlots (linkHeader p.seq 4 v.dst 88 v.src len 0 false false false false replay (vc4Type v.body) 0 0) }
  | _, _, none =>
    { seq := p.seq, body := [0, 0]
      head := headSlots (linkHeader p.seq p.vc 0 0 s.selfFid 1 0 false false true false replay 0 0 0) }

/-- A new packet: it takes the next sequence number, a place in the replay buffer, and slots on the lanes (R234, R243,
R244). -/
def State.pushPacket (s : State) (f : Nat) (p : Packet) : State :=
  let seq := s.fget ⟨R.MFL_SEQ_STS f, 11, 0⟩
  let p := { p with seq := seq }
  let s := s.modLink f fun l => { l with
    replay := l.replay ++ [p]
    tx := l.tx ++ [s.txPacket p false]
    progress := if l.replay.isEmpty then s.now else l.progress }
  ((s.fset ⟨R.MFL_SEQ_STS f, 11, 0⟩ ((seq + 1) % 4096)).bump (R.MFL_TX_PKTS f)).showReplay f

/-- A copy ended on a Moaben link by a NULL control block in place of its next slot: its packet keeps its number and stays
in the replay buffer as a header with NULL and no body (R62, R236). -/
def State.endOnLink (s : State) (c : Copy) : State :=
  if isMoaben c.egress then
    let f := c.egress - 64
    let mine (p : Packet) : Bool := p.sending && p.copy.any fun x => x.id == c.id
    match (s.link f).replay.find? mine with
    | none => s
    | some p =>
      (s.modLink f fun l => { l with
        replay := l.replay.map fun x =>
          if mine x then { x with null := true, sending := false, bytes := 32 } else x
        tx := l.tx.map fun x => if x.seq = p.seq then { x with null := true } else x }).showReplay f
  else s

def State.unackedVc4 (s : State) (f : Nat) : Nat :=
  ((s.link f).replay.filter fun p => p.vc == 4).foldl (fun n p => n + p.bytes) 0

/-- May a new packet of so many bytes be sent under the replay window (R244)? -/
def State.windowOpen (s : State) (f bytes : Nat) : Bool :=
  decide ((s.link f).replay.length < 2047) && decide (s.unackedBytes f + bytes ≤ 1024 * (s.link f).win)

/-- Body bytes of a VC4 packet; a signature goes in parts of 4,096 bytes (R235, R259; log entry 24). -/
def vc4Body : Vc4 → Nat
  | .offer _ key nonce head => 1 + key.length + nonce.length + head.length
  | .proof _ sig => sig.length
  | .accept => 0
  | .reject => 0
  | .resume v => v.length
  | .regRead _ _ _ _ => 16
  | .regWrite _ _ d _ => 16 + d.length
  | .regData _ d => 8 + (match d with
    | some x => x.length
    | none => 0)
  | .relay _ _ _ _ => 16
  | .change _ _ _ _ => 16
  | .reset _ _ _ _ => 16
  | .report _ d => 8 + d.length

/-- VC4 packets of a link that wait for cells of the management pool get them, in order, while the pool has them and
nothing else waits for it (R238, R465). -/
def State.poolVc4 : List Vc4Packet → State → Nat → State
  | [], s, _ => s
  | p :: rest, s, f =>
    let n := ceilDiv (packetBytes (vc4Body p.body)) 256
    if p.cells ≠ 0 then State.poolVc4 rest (s.modLink f fun l => { l with vc4 := l.vc4 ++ [p] }) f
    else if n ≤ s.poolFree .management ∧ s.poolQueue .management = false ∧ (s.link f).vc4.all (fun x => x.cells != 0) then
      State.poolVc4 rest (s.modLink f fun l => { l with vc4 := l.vc4 ++ [{ p with cells := n }] }) f
    else State.poolVc4 rest (s.modLink f fun l => { l with vc4 := l.vc4 ++ [p] }) f

/-- Has every packet with a number begun to go out? A new one is taken only then, so that the peer's XOFF holds all but the
one the transmitter has begun (R239, R242). -/
def LinkSt.begun (l : LinkSt) : Bool := l.tx.all (·.started)

/-- VC4 packets that have their cells sent in order while VC4 is open, the peer has not stopped it and 32 KiB are not
outstanding (R239, R241); the rest waits. -/
def State.drainVc4 : List Vc4Packet → State → Nat → State
  | [], s, f => s.modLink f fun l => { l with vc4 := [] }
  | p :: rest, s, f =>
    let b := packetBytes (vc4Body p.body)
    if p.cells ≠ 0 && s.vc4Open f && !bit (s.fget (R.MFL_LINK_STS_XOFF_TX f)) 4 && decide (s.unackedVc4 f + b ≤ 32768)
        && s.windowOpen f b && (s.link f).change.isNone && (s.link f).begun then
      State.drainVc4 rest (s.pushPacket f { seq := 0, vc := 4, vc4 := some p, bytes := b }) f
    else s.modLink f fun l => { l with vc4 := p :: rest }

/-- The waiting VC4 packets of a link, as far as pool and link let them go. -/
def State.retryVc4 (s : State) (f : Nat) : State :=
  let ps := (s.link f).vc4
  let s := State.poolVc4 ps (s.modLink f fun l => { l with vc4 := [] }) f
  State.drainVc4 (s.link f).vc4 s f

/-- A packet of VC4 between two devices put on a link (R238, R239). -/
def State.sendMgmt (s : State) (f src dst : Nat) (v : Vc4) : State :=
  (s.modLink f fun l => { l with vc4 := l.vc4 ++ [{ body := v, src := src, dst := dst }] }).retryVc4 f

/-- A VC4 packet of this device for the peer of a link. -/
def State.sendVc4 (s : State) (f : Nat) (v : Vc4) : State :=
  s.sendMgmt f s.selfFid (s.fget (R.MFL_LINK_STS_PEER_FID f)) v

/-- The link that a VC4 packet for a device takes: one of its route entry's that is UP, in the routing view or not
(R263, R270, R272); which one is R105's choice (log entry 9). -/
def State.vc4Link (s : State) (fid : Nat) : Option Nat :=
  let e := (s.tbl 0x122 0 fid).toNat
  let mask := if bits e 16 16 = 1 then bits e 15 8 else bits e 7 0
  let ls := (upTo 8).filter fun f => bit mask f && s.linkUp f
  if s.service = mFABRIC then ls[Config.linkChoice 88 fid 0x7F 0 % ls.length]? else none

/-! ### Port epochs and flushes (R82 to R85) -/

/-- The epoch advances and the flush starts or goes on; the fifteenth link-down sets FLUSH_ALL (R82, R83, R85). -/
def State.startFlush (s : State) (n : Nat) : State :=
  let p := s.port n
  let downs := if p.flushing then p.downs + 1 else 1
  let all := p.flushAll || decide (15 ≤ downs)
  let s := s.setPort n { p with
    up := false, l1 := false, redoing := false, epoch := (p.epoch + 1) % 16, flushing := true, downs := downs, flushAll := all, xoff := false
    credit := 0 }
  let s := if all && !p.flushAll then
      s.setCopies (s.sw.copies.map fun c => if c.egress = n then { c with condemned := true } else c)
    else s
  if p.flushing then s else s.raise 0x103 0

/-- Copies in transmission at a port whose link goes down are lost and handled as removed ones (R83). -/
def State.loseSending (s : State) (n : Nat) : State :=
  (s.sw.copies.filter fun c => c.egress == n && c.sending && !c.unacked).foldl State.flushCopy s

/-- Link status of a PCIe port going down: DL_ACTIVE, and the bridge's Link and Slot Status (R220). -/
def State.pcieInactive (s : State) (n : Nat) : State :=
  let was := s.flag (R.PEP_PORT_STS_DL_ACTIVE n)
  let s := s.fset (R.PEP_PORT_STS_DL_ACTIVE n) 0
  let s := if was then s.raise (0x800 + 4 * n) 0 else s
  if s.role n = 2 then
    if was then s.orCfg (Fn.down n).num cSlotCtl ssLinkChanged else s
  else s

/-- What a link-down does to the queues of one core port. -/
def State.linkLoss (s : State) (n : Nat) : State :=
  let s := s.wasteSlots n
  let s := if isPcie n then s.pcieInactive n else s
  (s.startFlush n).loseSending n

/-- Does an egress end a bad copy by entering DPC (R62)? A copy keeps the answer that stood as it started (R218). -/
def State.contains (s : State) (e : Nat) : Bool :=
  isPcie e && s.flag (R.PEP_PORT_STS_FLIT e) && s.role e == 2 && s.cfgBits (Fn.down e).num cDpcCtl 17 16 != 0
    && s.flag (R.PEP_LATE_ERR_POLICY e)

/-- DPC reasons (PEP_DPC_REASON). -/
abbrev dpcERR_FATAL : Nat := 1
abbrev dpcERR_NONFATAL : Nat := 2
abbrev dpcSW_TRIGGER : Nat := 3
abbrev dpcLATE_CORRUPT : Nat := 4
abbrev dpcSURPRISE_DOWN : Nat := 5

/-- Entry to DPC of a downstream port's bridge (R218): status with a Trigger Reason, cause, counter and event. -/
def State.enterDpcWhy (s : State) (n reason why : Nat) : State :=
  let s := s.fset (R.PEP_PORT_STS_DPC n) 1
  let s := s.fset (R.PEP_DPC_REASON_REASON n) reason
  let s := (s.putCfg (Fn.down n).num cDpcSts 2 0 (1 + why * 2)).putCfg (Fn.down n).num cDpcSts 6 5 (ofBool (why == 3))
  (s.bump (R.PEP_DPC_ENTRIES n)).raise (0x800 + 4 * n) 1

/-- Trigger Reason 0b00 for errors the port itself finds, 0b01 and 0b10 for a received ERR_NONFATAL and ERR_FATAL, 0b11
for software (R218). -/
def State.enterDpc (s : State) (n reason : Nat) : State :=
  s.enterDpcWhy n reason (if reason = dpcERR_NONFATAL then 1 else if reason = dpcERR_FATAL then 2
    else if reason = dpcSW_TRIGGER then 3 else 0)

/-- A port whose copy was ended by entering DPC: its bridge reports Uncorrectable Internal Error with the packet's header
(R218). -/
def State.dpcLate (s : State) (n : Nat) (hdr : List Byte) : State :=
  (s.portAer n aerInternal hdr).enterDpc n dpcLATE_CORRUPT

/-- A copy ended as a late error at its egress: counted, removed, ledgered with a reason when it has one (R64). -/
def State.endLate (s : State) (f : Frame) (c : Copy) (reason : Option Nat) : State :=
  let s := ((s.wasteSlots c.egress).bump R.SWC_LATE_ERR).tel 9 c.egress 1 (some f)
  let s := (s.raise 0x100 0).endOnLink c
  let s := match reason with
    | some r => s.ledgerCopy f c r
    | none => s
  s.removeCopy c.id

/-- A frame whose ingress link goes down before its tail is lost whole: copies in transmission are ended, others
removed; one Unsupported Request answers a non-posted one (R64). Ports whose egress enters DPC for it are returned, with
the header they report. -/
def State.loseTail (s : State) (f : Frame) : State × List (Nat × List Byte) :=
  let cs := s.copiesOf f.id
  let started := cs.filter fun c => c.sending && c.contain
  let s := cs.foldl (fun s c =>
    if c.sending then s.endLate f c (some lrPORT_DOWN)
    else ((s.bump R.SWC_LATE_ERR).ledgerCopy f c lrPORT_DOWN).removeCopy c.id) s
  let s := if f.tlp.nonPosted then s.unsupported f else s
  let s := s.recordFrame eLINK_DOWN_TAIL lvFRAME f
  (s.reap, started.map fun c => (c.egress, f.tlp.header))

/-- A waiting request whose ingress link goes down before its tail is lost in the same way; one that still waits for its
reservation has none that an Unsupported Request could use (log entry 93). -/
def State.loseWaiting (s : State) (w : Waiting) : State :=
  let f := w.frame
  let s : State := { s with sw := { s.sw with waiting := s.sw.waiting.erase w } }
  let s := s.bumpBy R.SWC_LATE_ERR w.copies.length
  let s := if f.tlp.nonPosted && f.record.isSome then s.unsupported f else s
  s.recordFrame eLINK_DOWN_TAIL lvFRAME f

/-- Every frame that has not arrived whole on a link that went down, waiting ones included. -/
def State.loseTails (s : State) (n : Nat) : State × List (Nat × List Byte) :=
  let s := (s.sw.waiting.filter fun w => w.frame.ingress == n && !w.frame.whole).foldl State.loseWaiting s
  (s.sw.frames.filter fun f => f.ingress == n && !f.whole).foldl
    (fun r f => let x := r.1.loseTail f
                (x.1, r.2 ++ x.2)) (s, [])

/-- A link-down, and those of the ports that enter DPC for copies it ends; `fuel` bounds the chain of them, in which no port
stands twice. -/
def State.portDownN : Nat → State → Nat → State
  | 0, s, _ => s
  | fuel + 1, s, n =>
    if !(s.port n).up then s
    else
      let s := s.linkLoss n
      let r := s.loseTails n
      r.2.foldl (fun s m => State.portDownN fuel (s.dpcLate m.1 m.2) m.1) r.1

/-- A core port's link goes down (R82). A port that is already down starts nothing anew. -/
def State.portDown (s : State) (n : Nat) : State := State.portDownN 72 s n

/-- A core port's link comes up: ingress is accepted at once; egress waits while a flush runs (R84). -/
def State.portUp (s : State) (n : Nat) : State := s.modPort n fun p => { p with up := true, l1 := false }

/-! ### The virtual switch reset (R216) -/

/-- A remote bridge shows its port's link and slot as the owning device last announced them (R270). -/
def State.showRemote (s : State) (fid port : Nat) : State :=
  let fn := (Fn.remote fid port).num
  let word (off : Nat) : Nat := (storeGet 0 s.remoteWords (4096 * fn + off)).toNat
  let link := word cLinkCtl
  let s := ((s.putCfg fn cLinkCtl 19 16 (bits link 19 16)).putCfg fn cLinkCtl 25 20 (bits link 25 20)).putCfg fn cLinkCtl 29 29
    (bits link 29 29)
  s.putCfg fn cSlotCtl 22 22 (bits (word cSlotCtl) 22 22)

/-- What a reset of a partition's virtual switch brings to its ports on other devices: their bridges' shadows are reset, and
their links receive hot reset unless they are held; a port past the 63rd learns that it has no bridge (R213, R216, R270). -/
def State.resetRemotes (s : State) (part : Nat) (hold : Bool) : State :=
  (s.remotePorts.filter fun r => r.1 == part).foldl (fun s r =>
    match s.vc4Link r.2.1 with
    | none => s
    | some l => s.sendMgmt l s.selfFid r.2.1 (.reset part r.2.2 hold (s.remoteBridges.contains r))) s

/-- Offsets under which a device says that a port of its own no longer is one of a partition's downstream ports, and asks for
a port's state afresh (log entry 108). -/
abbrev portGoneOff : Nat := 0x1020
abbrev askOff : Nat := 0x1024

/-- Offset under which a home device tells the primary bus number of a partition's upstream bridge (log entry 108). -/
abbrev homeBusOff : Nat := 0x1018

/-- A device with a port of a partition is told the primary bus number of the partition's upstream bridge (R101, R270). -/
def State.tellBus (s : State) (part fid port : Nat) : State :=
  match s.vc4Link fid with
  | some l => s.sendMgmt l s.selfFid fid (.relay part port homeBusOff (BitVec.ofNat 32 (s.cfgBits (Fn.up part).num cBuses 7 0)))
  | none => s

/-- The partition's remote bridges, fixed at its reset: after its local ports, by fabric ID and port, 63 in all (R213,
R270). -/
def State.fixBridges (s : State) (part : Nat) : State :=
  let loc := s.downstreamOf part
  let known := s.remotePorts.filter fun r => r.1 == part
  let sorted := (upTo 16).flatMap fun f => (upTo 64).filterMap fun p =>
    if known.any fun r => r.2.1 == f && r.2.2 == p then some (part, f, p) else none
  let others := s.remoteBridges.filter fun r => r.1 != part
  let s : State := { s with remoteBridges := others ++ sorted.take (63 - loc.length) }
  let s := (s.remoteBridges.filter fun r => r.1 == part).foldl (fun s r => s.showRemote r.2.1 r.2.2) s
  if 63 < loc.length + sorted.length then s.raise 0x122 3 else s

/-- Bridges and management function back at reset values, ID routes and mailbox cleared (R216 step 1). -/
def State.clearSwitch (s : State) (part : Nat) : State :=
  let s := (s.downstreamOf part).foldl (fun s p => s.fset (R.PEP_PORT_STS_DPC p) 0) s
  let fns := [(Fn.up part).num, (Fn.mgmt part).num, (Fn.engBridge part).num]
    ++ (s.downstreamOf part).map (fun p => (Fn.down p).num)
    ++ (s.remoteBridges.filter fun r => r.1 == part).map fun r => (Fn.remote r.2.1 r.2.2).num
  let s := fns.foldl State.clearFn s
  let tbls := s.tbls.filter fun e => !(e.1 / 2 ^ 24 == 0x121 * 256 && e.1 % 2 ^ 24 / 256 == part)
  let held := s.heldCpl.filter fun h => h.1 != part
  let s : State := { s with tbls := tbls, heldCpl := held }
  s.setReg (R.MGT_MBX_STS part) 0

/-- The virtual switch of a partition is reset (R216). -/
def State.resetSwitch (s : State) (part : Nat) : State :=
  let hold := match s.upstreamOf part with
    | some p => s.flag (R.PEP_PORT_CTL_HOLD_DOWN p)
    | none => false
  let s := (s.clearSwitch part).fixBridges part
  let s := s.resetRemotes part hold
  let s := if hold then s else (s.downstreamOf part).foldl State.portDown s
  (s.instsOf part).foldl (fun s i => s.startReset i false) s

/-- Uncorrectable Internal Error of a copy: at the bridge of its egress port, at that of the ingress port where the egress
has none (R217, R300). -/
def State.bridgeAer (s : State) (f : Frame) (c : Copy) : State :=
  s.portAer (if isPcie c.egress then c.egress else f.ingress) aerInternal f.tlp.header

/-- A PCIe port's link goes down; an upstream port's takes its partition's virtual switch with it (R216). -/
def State.pcieDown (s : State) (n : Nat) : State :=
  let was := (s.port n).up
  let s := s.portDown n
  if was && s.role n == 1 then s.resetSwitch (s.portPart n) else s

/-! ### Moaben link-downs (R250) -/

abbrev lsDISABLED : Nat := 0
abbrev lsDETECT : Nat := 1
abbrev lsALIGN : Nat := 2
abbrev lsTRAIN : Nat := 3
abbrev lsAUTH : Nat := 4
abbrev lsSTRANGER : Nat := 5
abbrev lsUP : Nat := 6
abbrev lsRETRAIN : Nat := 7
abbrev lsCHANGE : Nat := 8

def State.linkState (s : State) (f : Nat) : Nat := s.fget (R.MFL_LINK_STS_STATE f)

/-- Page number of a link's page k. -/
def linkPage (f k : Nat) : Nat := 0xA00 + 8 * f + k

/-- A change of link state (R249). -/
def State.setLinkState (s : State) (f st : Nat) : State :=
  if s.linkState f = st then s
  else
    let s := (s.fset (R.MFL_LINK_STS_STATE f) st).modLink f fun l => { l with
      entered := s.now
      -- Training and a retrain take MFL_TX_EQ as it stands; a spare mapping does not (R284).
      txEq := if st = lsALIGN ∨ st = lsRETRAIN then s.reg (R.MFL_TX_EQ f) else l.txEq }
    s.raise (linkPage f 0) 0

/-- In service, as far as link-downs go (R250). -/
def State.linkLive (s : State) (f : Nat) : Bool :=
  s.linkState f == lsUP || s.linkState f == lsRETRAIN || s.linkState f == lsCHANGE

/-- A packet of the replay buffer lost with its link (R250). -/
def State.losePacket (s : State) (f : Nat) (p : Packet) : State :=
  let s := s.bump (R.MFL_REPLAY_LOST f)
  match p.frame, p.copy with
  | some fr, some c =>
    if p.null then s
    else if fr.tlp.nonPosted then s.unsupported fr
    else if fr.tlp.posted then s.ledgerCopy fr c lrPORT_DOWN
    else s
  | _, _ => s

/-- VC4 packets that a link-down loses: unacknowledged ones and those not sent yet. -/
def State.lostVc4 (s : State) (f : Nat) : List Vc4Packet := (s.link f).replay.filterMap (·.vc4) ++ (s.link f).vc4

/-- Packets of VC4 lost with a link (R250, R270, R272): a read of this device receives Unsupported Request, one on its way
from another device is answered so, and so is one whose data is lost; writes are counted; a port's news goes out again. -/
def State.loseVc4 (gone : List Vc4Packet) (s : State) : State :=
  gone.foldl (fun s p => match p.body with
    | .regRead _ _ _ n =>
      if p.src = s.selfFid then
        let rs := s.bar4.filter fun r => r.n == n
        rs.foldl (fun s r => s.complete r.frame .ur []) { s with bar4 := s.bar4.filter fun r => r.n != n }
      else match s.vc4Link p.src with
        | some l => s.sendMgmt l s.selfFid p.src (.regData n none)
        | none => s
    | .regWrite _ _ _ _ => s.bump R.MAP_REMOTE_REG_FAIL
    | .regData n _ => match s.vc4Link p.dst with
      | some l => s.sendMgmt l p.src p.dst (.regData n none)
      | none => s
    | .change _ port off _ =>
      if p.src = s.selfFid then { s with relayed := storePut none (4096 * port + off) none s.relayed } else s
    | _ => s) s

/-- What a link forgets when it leaves training without having been in service. -/
def State.forgetTraining (s : State) (f : Nat) : State :=
  let s := s.modLink f fun l => { l with
    hello := none, echoed := false, replay := [], vc4 := [], ctl := [], tx := [], nak := none, sinceAck := 0
    signing := false, weAccept := false, peerAccept := false, ourOffer := [], peerOffer := [] }
  (s.setReg (R.MFL_SEQ_STS f) 0).setReg (R.MFL_REPLAY_STS f) 0

/-- A Moaben link leaves service for another state: epoch, flush, replay buffer lost (R250). One that was not in service
forgets its training and loses what VC4 held. -/
def State.moabenDown (s : State) (f next : Nat) : State :=
  if !s.linkLive f then
    if s.linkState f = next then s
    else State.loseVc4 (s.lostVc4 f) ((s.forgetTraining f).setLinkState f next)
  else
    let gone := s.lostVc4 f
    -- A copy still in transmission is lost with its port (R83).
    let lost := (s.link f).replay.filter fun p => !p.sending
    let s := (s.bump (R.MFL_LINK_DOWNS f)).raise (linkPage f 0) 2
    -- A time exchange still open is lost (R256).
    let s := if (s.link f).ts1.isSome then s.bump (R.MFL_TSYNC_DISCARD f) else s
    let s := s.setLinkState f next
    let s := s.setCopies (s.sw.copies.filter fun c => !(c.egress == 64 + f && c.unacked))
    let s := lost.foldl (fun s p => s.losePacket f p) s
    let s := s.modLink f fun l => { l with
      replay := [], vc4 := [], ctl := [], tx := [], nak := none, sinceAck := 0, change := none, remap := none
      remapTx := none, ts1 := none, ts24 := none }
    let s := (s.setReg (R.MFL_SEQ_STS f) 0).setReg (R.MFL_REPLAY_STS f) 0
    let s := (s.fset (R.MFL_LINK_STS_XOFF_RX f) 0).fset (R.MFL_LINK_STS_XOFF_TX f) 0
    (State.loseVc4 gone s).portDown (64 + f)

/-! ### ISOLATE and SAFE (R308, R427) -/

/-- Modes that ISOLATE is entered from (R308). -/
def State.isolatable (s : State) : Bool :=
  let m := s.mode
  m == mSTANDALONE || m == mPARTITIONED || m == mCOMPOSED || m == mFABRIC || m == mUPDATE || m == mDRAIN || m == mDIAGNOSTIC

abbrev isoENTERING : Nat := 1
abbrev isoISOLATED : Nat := 2
abbrev isoEXITING : Nat := 3

/-- The entry to ISOLATE begins: admission stops, the mode left is stored, the engines stop (R308 steps 1 and 3).
ISOLATE_ENTERED ends it. -/
def State.startIsolate (s : State) (cause : Nat) : State :=
  let s := (s.fset R.ERR_ISO_STS_STATE isoENTERING).fset R.ERR_ISO_STS_PRIOR s.mode
  let s : State := { s with err := { s.err with isoCause := cause, isoTime := s.ns, isoDropped := 0 } }
  s.stopForIsolate.updateXoff

/-- The headgate as the state, HG_OPEN, the mode and a FREEZE leave it (R195, R197, R203, R433). -/
def State.refreshHg (s : State) (i : Nat) : State :=
  let st := s.instState i
  let hg := (st == iACTIVE || st == iRECOVERY) && s.flag (R.VIM_INST_CTL_HG_OPEN i) && s.mode != mDRAIN
    && (s.inst i).cmd != 3
  let s := s.fset (R.VIM_INST_STS_HG i) (ofBool hg)
  if hg then s.fset (R.VIM_INST_STS_IDLE i) 0 else s

/-- Every headgate as the mode leaves it (R431, R433). -/
def State.refreshHgs (s : State) : State := s.liveInsts.foldl State.refreshHg s

/-- Entry to DRAIN (R433): headgates close and admission follows from the mode; DRAINED is awaited from now on. -/
def State.enterDrain (s : State) (thermal : Bool) : State :=
  let s := s.enterMode mDRAIN
  ({ s with drainAt := s.now } : State).fset R.DEV_MODE_STS_THERMAL (ofBool thermal) |>.refreshHgs

/-- The end of UPDATE or ISOLATE: the mode left comes back, or DRAIN in its place when the thermal governor's condition
has come up meanwhile (R430). -/
def State.returnTo (s : State) (prior : Nat) : State :=
  if s.board.drainDue && decide (mSTANDALONE ≤ prior) && decide (prior ≤ mFABRIC) then
    ({ s with board := { s.board with drainDue := false } } : State).enterDrain true
  else (s.enterMode prior).refreshHgs

/-- Every copy that has not started is removed as R308 step 2 gives, without ledger; `count` says whether ERR_ISO_DROP
counts it. -/
def State.flushEverything (s : State) (count : Bool) : State :=
  (s.sw.copies.filter fun c => !c.sending && !c.unacked).foldl (fun (s : State) (c : Copy) =>
    let s := if count then
        (({ s with err := { s.err with isoDropped := s.err.isoDropped + 1 } } : State).bump R.ERR_ISO_DROP)
      else s
    match s.frame? c.frame with
    | none => s.removeCopy c.id
    | some f =>
      let s := s.removeCopy c.id
      (if f.tlp.nonPosted then s.unsupported f else s).reap) s

/-- Entry to SAFE: queues flushed, slots off, Moaben links disabled, engines stopped (R427). -/
def State.enterSafe (s : State) : State :=
  let s := s.enterMode mSAFE
  let s := s.flushEverything false
  let s := s.slotsOff
  let s := (upTo 8).foldl (fun s f => (s.moabenDown f lsDISABLED).fset (R.MFL_LINK_CTL_ENABLE f) 0) s
  { s.stopForIsolate with safeAt := s.now }

/-- A self-test item fails: its bit, and for a fatal one in LIMP the move to SAFE with the first item's value (R426). -/
def State.selftestFail (s : State) (item : Nat) (fatal : Bool) : State :=
  let s := s.setReg R.DEV_SELFTEST_FAIL (s.reg R.DEV_SELFTEST_FAIL ||| (1 <<< item))
  if fatal && s.mode == mLIMP then
    (if s.fget R.DEV_MODE_STS_FAIL_CODE = 0 then s.fset R.DEV_MODE_STS_FAIL_CODE item else s).enterSafe
  else if fatal then s
  else s.raise 0x000 2

abbrev itTABLES : Nat := 9
abbrev itQUEUES : Nat := 10

/-- An error of level DEVICE: recorded, then SAFE in LIMP, ISOLATE elsewhere; one during an exit ends it (R308, R310). -/
def State.deviceError (s : State) (code : Nat) (part : Option Nat) (port detail : Nat) : State :=
  let seq := s.nextSeq code
  let s := s.record code lvDEVICE part port detail
  if s.mode = mLIMP then s.selftestFail (if code = eREFCOUNT_UE then itQUEUES else itTABLES) true
  else if s.mode = mISOLATE ∧ s.fget R.ERR_ISO_STS_STATE = isoEXITING then
    (((s.fset R.ERR_ISO_STS_STATE isoISOLATED).fset R.ERR_ISO_STS_RESULT 3).fset R.ERR_ISO_STS_CAUSE 2).raise 0x50 3
  else if s.isolatable ∧ s.fget R.ERR_ISO_STS_STATE = isoNORMAL then
    { s.startIsolate seq with err := { (s.startIsolate seq).err with wide := some (s.now, none) } }
  else s

/-- A routing-table entry with both copies bad is met (R293, R294). -/
def State.tableUe (s : State) (table index : Nat) (part : Option Nat) (port : Nat) : State :=
  s.deviceError eTABLE_UE part port (table + index * 2 ^ 8)

/-- Every bad entry that a use of the tables reads (R294). -/
def State.tablesUe (s : State) (es : List (Nat × Nat)) (part : Option Nat) (port : Nat) : State :=
  es.foldl (fun s e => s.tableUe e.1 e.2 part port) s

/-! ### Levels and escalation (R297, R298) -/

/-- An engine put in ABORTING for a PORT action restarts by hardware once STOPPED (R297). -/
def State.engineContained (s : State) (e : Nat) : State :=
  if s.fget (R.ENG_STS_STATE e) < 2 then
    (s.abortEngine e).modEng e fun x => { x with autoRestart := true }
  else s

/-- Is a containment action under way that others wait for (R299)? -/
def State.containing (s : State) : Bool := s.fget R.ERR_ISO_STS_STATE == isoENTERING

/-- Has a wider action of this core cycle covered one for a partition's port, instance or bridge already (R299)? -/
def State.covered (s : State) (part : Option Nat) : Bool :=
  match s.err.wide with
  | some (t, p) => t == s.now && (p.isNone || (part.isSome && p == part))
  | none => false

/-- Does an action at a core port wait for one there: the entry to ISOLATE, a flush of the port, an engine's abort
(R299)? -/
def State.portBusy (s : State) (n : Nat) : Bool :=
  s.containing || (s.port n).flushing || (isEngine n && s.fget (R.ENG_STS_STATE (n - 72)) == 2)

/-- An action put off until the one under way has ended (R299). -/
def State.defer (s : State) (a : Action) : State :=
  { s with err := { s.err with deferred := if s.err.deferred.contains a then s.err.deferred else s.err.deferred ++ [a] } }

/-- Level PORT at an egress core port, or LINK for a Moaben one (R297 to R299). Firmware hears of one at core port 88 by its
record's event (R306). -/
def State.containPort (s : State) (n : Nat) : State :=
  if s.covered (if isPcie n then some (s.portPart n) else none) then s
  else if s.portBusy n then s.defer (.port n)
  else if isPcie n then s.pcieDown n
  else if isMoaben n then s.moabenDown (n - 64) lsDETECT
  else if isEngine n then s.engineContained (n - 72)
  else
    -- Core port 88: the management pool's queues are flushed, wherever its frames lie, and firmware is interrupted (R297; log
    -- entry 110).
    let mine (c : Copy) : Bool := c.egress == 88 || (s.frame? c.frame).any fun f => f.pool == .management
    let s' : State := { s with sw := { s.sw with
      waiting := s.sw.waiting.filter fun w => !(w.frame.origin == .device && w.frame.pool == .management) } }
    ((s.sw.copies.filter fun c => mine c && !c.sending && !c.unacked).foldl State.flushCopy s').raise 0x50 4

/-- One more furrow, transform or cell error counted against an egress; at PORT_THR within 1 s it escalates (R298). -/
def State.countError (s : State) (n : Nat) : State :=
  let thr := s.fget R.ERR_ESC_PORT_THR
  let recent := s.now :: (s.port n).errors.filter fun t => decide (s.now < t + cyclesPerS)
  let s := s.modPort n fun p => { p with errors := recent }
  if thr != 0 && decide (thr ≤ recent.length) then
    let s := s.modPort n fun p => { p with errors := [] }
    let level := if isMoaben n then lvLINK else lvPORT
    let part := if isPcie n then some (s.portPart n) else none
    let s := s.record eESCALATION level part n (n + min recent.length 255 * 2 ^ 8)
    (s.bump R.ERR_ESCALATIONS).containPort n
  else s

end Sys2Proof.Machine
end

