-- ==== Sys2Proof/Machine/Power.lean ====
section
/-! DEFINITION. The commands of the slot power supervisor: samples, trips and timers, insertion, power-good, and the
events of the slot power governor. A time-driven command acts only once its time has come (log entry 16). -/

namespace Sys2Proof.Machine

/-- Steps of a conversion's full scale: 12 bits, in LIMP 8 (R365). -/
def State.adcSteps (s : State) : Nat := if s.mode = mLIMP then 256 else 4096

/-- A conversion at the resolution in force: the steps of the full scale that a value reaches (R365). -/
def State.adc (s : State) (full x : Nat) : Nat := min (x * s.adcSteps / full) (s.adcSteps - 1)

/-- THR of a channel's power-good, in mV. -/
def State.pgThr (s : State) (n c : Nat) : Nat := if c = 0 then s.fget (R.SPV_PG_CFG0_THR n) else s.fget (R.SPV_PG_CFG1_THR n)

/-- SPV_SAMPLE: one conversion of a channel: sense voltage in µV, output, gate and input voltage in mV (R363, R365), and 10 µs
of energy (R366). A gate at VIN + 6 V ends the check of a turn-on (R375). A sample below THR starts the qualification again
(R377), and one more than 5 % below LIMIT shows regulation inactive (R367, R371). -/
def execSpvSample (slot ch sense vout : Nat) (volts : ChannelVolts) (s : State) : Out :=
  let n := slot % 24
  let c := ch % 2
  let rs := if c = 0 then s.fget (R.SPV_RSHUNT0_UOHM n) else s.fget (R.SPV_RSHUNT1_UOHM n)
  let lim := if c = 0 then s.fget (R.SPV_ILIMIT0_LIMIT n) else s.fget (R.SPV_ILIMIT1_LIMIT n)
  let thr := s.pgThr n c
  let i := min (s.adc 50000 sense * 50000 * 1000 / (s.adcSteps * rs)) 65535
  let v := min (s.adc (Config.voutScale c) vout * Config.voutScale c / s.adcSteps) 65535
  let p := i * v / 1000
  let limits := s.flag (R.SPV_CH_STS_LIMITING n c) && decide (95 * lim ≤ 100 * i)
  let s := ((s.fset (R.SPV_MEAS_I_I n c) i).fset (R.SPV_MEAS_V_VOUT n c) v).fset (R.SPV_MEAS_V_GATE n c) (min volts.gate 65535)
  let s := s.fset (R.SPV_MEAS_I_I_PEAK n c) (max i (s.fget (R.SPV_MEAS_I_I_PEAK n c)))
  let s := s.fset (R.SPV_MEAS_P_P n c) (min p (2 ^ 20 - 1))
  let s := s.fset (if c = 0 then R.SPV_VIN_VIN12 else R.SPV_VIN_VIN3V3) (min volts.vin 65535)
  let s := s.modSlot n fun x => x.setChan c fun k => { k with
      energy := k.energy + p, rising := k.rising && decide (volts.gate < volts.vin + 6000)
      shortFrom := if s.flag (R.SPV_CH_STS_ON n c) || decide (v * 10 ≤ volts.vin) then none else some (k.shortFrom.getD s.now)
      qualFrom := if v < thr then s.now else k.qualFrom
      lowFrom := if v < thr - thr / 32 then some (k.lowFrom.getD s.now) else none
      limAt := if limits then s.now else k.limAt }
  let s := s.fset (R.SPV_CH_STS_LIMITING n c) (ofBool limits)
  .next (s.setPair (R.SPV_ENERGY_LO n c) (R.SPV_ENERGY_HI n c) (((s.slot n).chan c).energy / 100))

/-- MEAS_CLEAR: SPV_MEAS_CLR clears the peaks of both channels or both energy counts (R366). -/
def State.measClear (s : State) (n v : Nat) : State :=
  let s := if bit v 0 then (s.fset (R.SPV_MEAS_I_I_PEAK n 0) 0).fset (R.SPV_MEAS_I_I_PEAK n 1) 0 else s
  if bit v 1 then
    let s := s.modSlot n fun x => { x with ch0 := { x.ch0 with energy := 0 }, ch1 := { x.ch1 with energy := 0 } }
    (s.setPair (R.SPV_ENERGY_LO n 0) (R.SPV_ENERGY_HI n 0) 0).setPair (R.SPV_ENERGY_LO n 1) (R.SPV_ENERGY_HI n 1) 0
  else s

/-- Does a channel's current exceed LIMIT × FAST_X4 / 4 (R372)? -/
def State.fastOver (s : State) (n c sense : Nat) : Bool :=
  let lim := if c = 0 then s.fget (R.SPV_ILIMIT0_LIMIT n) else s.fget (R.SPV_ILIMIT1_LIMIT n)
  let fast := if c = 0 then s.fget (R.SPV_ILIMIT0_FAST_X4 n) else s.fget (R.SPV_ILIMIT1_FAST_X4 n)
  let rs := if c = 0 then s.fget (R.SPV_RSHUNT0_UOHM n) else s.fget (R.SPV_RSHUNT1_UOHM n)
  -- mA × µΩ = nV
  decide (lim * fast * rs < 4 * 1000 * sense)

/-- Regulation becomes active on a channel that is on and not forced (R370), and its fault timer starts; the qualification
of power-good starts again once the timer is idle (R371, R378). -/
def State.limitStart (s : State) (n c : Nat) : State :=
  if !s.flag (R.SPV_CH_STS_ON n c) || s.flag (R.SPV_CH_CTL_FORCE_ON n c) then s
  else
    let run := s.flag (R.SPV_CH_STS_FT_RUN n c)
    let s := (s.fset (R.SPV_CH_STS_LIMITING n c) 1).fset (R.SPV_CH_STS_FT_RUN n c) 1
    s.modSlot n fun x => x.setChan c fun k => { k with ftStart := if run then k.ftStart else s.now, limAt := s.now }

/-- The count reaches SPV_FAULT_TIMER and the channel trips (R371). -/
def State.timerExpiry (s : State) (n c : Nat) : State :=
  let us := if c = 0 then s.fget (R.SPV_FAULT_TIMER0_US n) else s.fget (R.SPV_FAULT_TIMER1_US n)
  if s.flag (R.SPV_CH_STS_FT_RUN n c) && decide (((s.slot n).chan c).ftStart + ticks us ≤ s.now) then
    s.trip n c tcTIMER
  else s

/-- 100 ticks since regulation was last found active return the timer to idle (R371). -/
def State.timerStop (s : State) (n c : Nat) : State :=
  if s.flag (R.SPV_CH_STS_FT_RUN n c) && decide (((s.slot n).chan c).limAt + ticks 100 ≤ s.now) then
    -- Qualification starts again from here (R378).
    let s := s.modSlot n fun x => x.setChan c fun k => { k with qualFrom := s.now }
    ((s.fset (R.SPV_CH_STS_LIMITING n c) 0).fset (R.SPV_CH_STS_FT_RUN n c) 0).fset (R.SPV_CH_STS_FT_US n c) 0
  else s

/-- GATE_RISE_MAX after the start of a turn-on, forced ones included, the gate has not been seen at VIN + 6 V (R370, R375). -/
def State.gateRise (s : State) (n c : Nat) : State :=
  let k := (s.slot n).chan c
  let ms := if c = 0 then s.fget (R.SPV_GATE_CFG0_RISE_MAX_MS n) else s.fget (R.SPV_GATE_CFG1_RISE_MAX_MS n)
  if k.rising && decide (k.onAt + ms * cyclesPerMs ≤ s.now) then s.trip n c tcFET_GATE else s

/-- The link of a slot's port taken down; it stays disabled while the slot is FENCED (R376). -/
def State.slotLinkDown (s : State) (n : Nat) : State :=
  match s.slotPort n with
  | some p => s.pcieDown p
  | none => s

/-- Does a channel show a damaged transistor: VOUT above 10 % of VIN for more than 50 ms with the gate commanded off, or
during a turn-on with the gate below VTH (R376)? -/
def State.fetShorted (s : State) (n c : Nat) (turnOn : Bool) : Bool :=
  let vin := s.fget (if c = 0 then R.SPV_VIN_VIN12 else R.SPV_VIN_VIN3V3)
  let vth := if c = 0 then s.fget (R.SPV_GATE_CFG0_VTH n) else s.fget (R.SPV_GATE_CFG1_VTH n)
  if turnOn then s.flag (R.SPV_CH_STS_ON n c) && decide (vin < 10 * s.fget (R.SPV_MEAS_V_VOUT n c))
    && decide (s.fget (R.SPV_MEAS_V_GATE n c) < 100 * vth)
  else ((s.slot n).chan c).shortFrom.any fun t => decide (t + 50 * cyclesPerMs < s.now)

/-- FET_SHORT: the slot is fenced, its port's link held disabled, and SPV_UPTRIP_N pulsed when enabled (R376). -/
def State.fetShort (s : State) (n c : Nat) (turnOn : Bool) : State :=
  if s.slotState n = slFENCED ∨ s.fetShorted n c turnOn = false then s else
  let detail := s.tripDetail n c + s.fget (R.SPV_MEAS_V_GATE n c) * 2 ^ 48 + ofBool turnOn * 2 ^ 64
  let s := (s.gatesDown n).perstNow n
  let s := s.slotBits n ssPowerFault
  let s := (s.setSlotState n slFENCED).fset (R.SPV_SLOT_STS_CAUSE n) tcFET_SHORT
  let s := s.fset R.SPV_GLB_LATCH_LATCHED (putBits (s.fget R.SPV_GLB_LATCH_LATCHED) n n 1)
  let s := s.modSlot n fun x => { x with retryDue := none, holdUntil := none }
  let s := s.raiseAll (slotPage n) [1, 2]
  let s := (s.slotRecord 0x0103 n detail).slotLinkDown n
  if s.flag R.SPV_GLB_CTL_UPTRIP_EN then
    ({ s with uptrip := some (s.now + s.fget R.SPV_GLB_CTL_UPTRIP_MS * cyclesPerMs) } : State).raise 0x20 0
  else s

/-- UPTRIP_END: SPV_UPTRIP_N is released after UPTRIP_MS (R376). -/
def execUptripEnd (s : State) : Out :=
  match s.uptrip with
  | some t => .next (if t ≤ s.now then { s with uptrip := none } else s)
  | none => .next s

/-- With every condition of R369 met, a waiting slot's channels start (R364, R369). A slot that waits out a hold starts by
SLOT_RETRY, which counts the cancelled retry, while the governor runs (R381, R383). -/
def State.slotStart (s : State) (n : Nat) : State :=
  let free := (s.slot n).holdUntil = none ∨ s.flag R.SPV_GLB_CTL_GOV_EN = false
  if s.slotState n = slWAIT ∧ free ∧ s.insertionAllowed n = true then s.insertion n else s

/-- A ramping channel's VOUT has reached THR, as its last sample shows (R369). -/
def State.rampEnd (s : State) (n c : Nat) : State :=
  if s.slotState n != slRAMP || decide (s.fget (R.SPV_MEAS_V_VOUT n c) < s.pgThr n c) then s
  else
    let s := s.modSlot n fun x => x.setChan c fun k => { k with ramping := false, qualFrom := s.now }
    if (s.slot n).ch0.ramping || (s.slot n).ch1.ramping then s else s.setSlotState n slQUALIFY

/-- The qualification count reaches DELAY_US, with VOUT at THR and the fault timer idle (R377, R378); none goes on while the
slot is being turned off (R374). -/
def State.pgGood (s : State) (n c : Nat) : State :=
  let us := if c = 0 then s.fget (R.SPV_PG_CFG0_DELAY_US n) else s.fget (R.SPV_PG_CFG1_DELAY_US n)
  let k := (s.slot n).chan c
  if s.flag (R.SPV_CH_STS_ON n c) && !s.flag (R.SPV_CH_STS_FT_RUN n c) && !k.ramping && (s.slot n).offAt.isNone
      && decide (s.pgThr n c ≤ s.fget (R.SPV_MEAS_V_VOUT n c)) && decide (k.qualFrom + ticks us ≤ s.now) then
    (s.fset (R.SPV_CH_STS_PG n c) 1).judgePg n
  else s

/-- PERST is released 100 ms after the slot's power-good (R220). -/
def State.perstRelease (s : State) (n : Nat) : State :=
  match (s.slot n).pgAt with
  | some t =>
    if t + 100 * cyclesPerMs ≤ s.now then
      (s.fset (R.SPV_SLOT_STS_PERST n) 0).modSlot n fun x => { x with pgAt := none }
    else s
  | none => s

/-- An undervoltage of 16 ticks with the timer idle, as the samples show it, takes a channel's power-good away (R379). -/
def State.pgLost (s : State) (n c : Nat) : State :=
  if s.flag (R.SPV_CH_STS_PG n c) && !s.flag (R.SPV_CH_STS_FT_RUN n c)
      && ((s.slot n).chan c).lowFrom.any (fun t => decide (t + ticks 16 ≤ s.now)) then
    let detail := c * 2 ^ 5 + s.fget (R.SPV_MEAS_V_VOUT n c) * 2 ^ 32
    let s := s.modSlot n fun x => x.setChan c fun k => { k with qualFrom := s.now }
    let s := (s.fset (R.SPV_CH_STS_PG n c) 0).judgePg n
    (s.bump (R.SPV_PG_LOST n)).slotRecord 0x0106 n detail
  else s

/-- ON written 1 (R369, R383); `edge`: it was 0. -/
def State.commandOn (s : State) (n : Nat) (edge : Bool) : State :=
  if s.slotState n = slTRIPPED ∧ (edge = false ∨ s.flag R.SPV_GLB_CTL_GOV_EN = true) then s else s.slotWait n

/-- 100 ticks after a turn-off both gates are pulled down (R374). -/
def State.offGates (s : State) (n : Nat) : State :=
  match (s.slot n).offAt with
  | some t => if t + ticks 100 ≤ s.now then s.gatesDown n else s
  | none => s

/-- FORCE_ON: the gate fully on with power-good at once, or back to normal control (R370); a slot with both channels disabled
never turns on (R364). -/
def State.commandForce (s : State) (n c : Nat) (on was : Bool) : State :=
  if s.slotLatched n || !s.alive || !(s.chanEnabled n 0 || s.chanEnabled n 1) then s
  else if on then
    let up := s.flag (R.SPV_CH_STS_ON n c)
    let s := ((s.fset (R.SPV_CH_STS_ON n c) 1).fset (R.SPV_CH_STS_PG n c) 1).fset (R.SPV_CH_STS_LIMITING n c) 0
    let s := s.fset (R.SPV_CH_STS_FT_RUN n c) 0
    (s.modSlot n fun x => x.setChan c fun k => { k with
      ramping := false, onAt := if up then k.onAt else s.now, rising := k.rising || !up }).judgePg n
  else if was then
    if s.pgThr n c ≤ s.fget (R.SPV_MEAS_V_VOUT n c) then s
    else
      let s := s.modSlot n fun x => x.setChan c fun k => { k with qualFrom := s.now }
      (s.fset (R.SPV_CH_STS_PG n c) 0).judgePg n
  else s

/-- A due retry counts and starts an insertion (R381); a slot that waits out a hold takes its cancelled retry in the same
way. -/
def State.slotRetry (s : State) (n : Nat) : State :=
  let k := s.fget (R.SPV_SLOT_STS_RETRIES n)
  let due := match (s.slot n).retryDue with
    | some t => decide (t ≤ s.now)
    | none => false
  let held := match (s.slot n).holdUntil with
    | some t => decide (t ≤ s.now)
    | none => false
  if s.flag R.SPV_GLB_CTL_GOV_EN && ((s.slotState n == slTRIPPED && due) || (s.slotState n == slWAIT && held))
      && s.insertionAllowed n then
    -- A channel that is not valid keeps the sequence from starting (R364, R369).
    if (s.badChannel n).isSome then (if s.slotState n = slWAIT then s.insertion n else s) else
    let s := (s.fset (R.SPV_SLOT_STS_RETRIES n) (min (k + 1) 7)).bump (R.SPV_RETRIES n)
    let s := s.modSlot n fun x => { x with retryDue := none, holdUntil := none }
    let s := s.govLog gSLOT aRETRY n k (k + 1) (s.slotCurrent n)
    s.insertion n
  else s

/-- The retry window has closed and the slot is ON: the count is reset (R381). -/
def State.windowClose (s : State) (n : Nat) : State :=
  match (s.slot n).windowEnd with
  | some t =>
    if s.flag R.SPV_GLB_CTL_GOV_EN = true ∧ t ≤ s.now ∧ s.slotState n = slON then
      let k := s.fget (R.SPV_SLOT_STS_RETRIES n)
      let s := (s.fset (R.SPV_SLOT_STS_RETRIES n) 0).modSlot n fun x => { x with windowEnd := none }
      s.govLog gSLOT aCOUNT_RESET n k 0 (s.slotCurrent n)
    else s
  | none => s

/-- The card has been gone for 10 ms: the slot goes off at once, and a pending retry becomes a hold
(R220, R381, R382). -/
def State.cardGone (s : State) (n : Nat) : State :=
  if !s.flag (R.SPV_SLOT_STS_PRESENT n) then s
  else
    let pending := (s.slot n).retryDue
    let s := (s.fset (R.SPV_SLOT_STS_PRESENT n) 0).perstNow n
    let s := s.gatesDown n
    let s := s.modSlot n fun x => { x with
      holdUntil := pending, retryDue := none, absentFrom := s.now - 10 * cyclesPerMs }
    let s := if s.slotLatched n then s else s.setSlotState n slOFF
    let s := (s.bump (R.SPV_REMOVALS n)).raise (slotPage n) 3
    let s := s.slotBits n ssPresenceChanged
    let s := s.slotRecord 0x0105 n (ofBool pending.isSome * 2 ^ 68)
    if pending.isSome then
      let k := s.fget (R.SPV_SLOT_STS_RETRIES n)
      s.govLog gSLOT aHOLD n k k (s.slotCurrent n)
    else s

/-- The card has been in for INS_DEB: a long absence resets the retries (R381, R382). -/
def State.cardIn (s : State) (n : Nat) : State :=
  if s.flag (R.SPV_SLOT_STS_PRESENT n) then s
  else
    let absence := s.now - s.fget (R.SPV_RESEAT_INS_DEB_MS n) * cyclesPerMs - (s.slot n).absentFrom
    let s := s.fset (R.SPV_SLOT_STS_PRESENT n) 1
    let k := s.fget (R.SPV_SLOT_STS_RETRIES n)
    let s := if s.fget (R.SPV_RESEAT_RESEAT_MIN_MS n) * cyclesPerMs ≤ absence then
        let s := (s.fset (R.SPV_SLOT_STS_RETRIES n) 0).modSlot n fun x => { x with windowEnd := none, holdUntil := none }
        if k = 0 then s else s.govLog gSLOT aCOUNT_RESET n k 0 (s.slotCurrent n)
      else s
    let s := (s.raise (slotPage n) 3).slotBits n ssPresenceChanged
    if s.flag (R.SPV_SLOT_CTL_ON n) then s.slotWait n else s

/-- SPV_LATCH_CLR releases LATCHED and FENCED slots (R384). -/
def State.latchClear (s : State) (mask : Nat) : State :=
  (upTo 24).foldl (fun s n =>
    if bit mask n && s.slotLatched n then
      let s := (s.setSlotState n slOFF).fset (R.SPV_SLOT_STS_RETRIES n) 0
      let s := s.fset R.SPV_GLB_LATCH_LATCHED (putBits (s.fget R.SPV_GLB_LATCH_LATCHED) n n 0)
      let s := s.modSlot n fun x => { x with windowEnd := none, retryDue := none, holdUntil := none }
      if s.flag (R.SPV_SLOT_CTL_ON n) then s.slotWait n else s
    else s) s

/-! ### The supervisor's tick (R368, R385) -/

/-- Place of an event in its tick: software writes; then a damaged transistor, which goes before every trip of its slot; the
trips, channel 0 first and a fast one before the others of its channel; the fault timers and gates; presence; ramps and
power-good; the governor (R368, R385; log entry 113). -/
def SpvEvent.place : SpvEvent → Nat
  | .on _ _ => 0
  | .off _ => 0
  | .control _ _ => 0
  | .force _ _ _ _ => 0
  | .latchClear _ => 0
  | .measClear _ _ => 0
  | .fetShort _ _ _ => 1
  | .fast _ c => if c = 0 then 2 else 5
  | .gateRise _ c => if c = 0 then 3 else 6
  | .timerExpiry _ c => if c = 0 then 4 else 7
  | .limitStart _ _ => 8
  | .timerStop _ _ => 8
  | .offGates _ => 8
  | .removal _ => 9
  | .insertion _ => 9
  | .rampEnd _ _ => 10
  | .pgLost _ _ => 11
  | .pgGood _ _ => 11
  | .perstRelease _ => 11
  | .retry _ => 12
  | .windowEnd _ => 13
  | .start _ => 14

/-- What a tick does about one event. -/
def State.spvApply (s : State) : SpvEvent → State
  | .on n edge => s.commandOn n edge
  | .off n => s.slotOff n
  | .control n on =>
    if !on then s.slotOff n
    else if s.slotLatched n then s.slotBits n ssPowerFault
    else if s.flag (R.SPV_SLOT_CTL_ON n) then s.slotWait n
    else s
  | .force n c on edge => s.commandForce n c on edge
  | .latchClear mask => s.latchClear mask
  | .measClear n v => s.measClear n v
  | .fast n c => s.trip n c tcFAST
  | .fetShort n c turnOn => s.fetShort n c turnOn
  | .gateRise n c => s.gateRise n c
  | .limitStart n c => s.limitStart n c
  | .timerStop n c => s.timerStop n c
  | .timerExpiry n c => s.timerExpiry n c
  | .offGates n => s.offGates n
  | .removal n => s.cardGone n
  | .insertion n => s.cardIn n
  | .rampEnd n c => s.rampEnd n c
  | .pgLost n c => s.pgLost n c
  | .pgGood n c => s.pgGood n c
  | .perstRelease n => s.perstRelease n
  | .retry n => s.slotRetry n
  | .windowEnd n => s.windowClose n
  | .start n => s.slotStart n

/-- One tick of the supervisor: what has come since the last one, step by step (R368). -/
def State.spvTick (s : State) : State :=
  (upTo 15).foldl (fun t k => (s.spvDue.filter fun e => e.place == k).foldl State.spvApply t) { s with spvDue := [] }

/-- Something for the supervisor's next tick. With the registers in reset nothing ticks: presence is then noted at once
(R386). -/
def State.spvEvent (s : State) (e : SpvEvent) : State :=
  if s.alive then { s with spvDue := s.spvDue ++ [e] } else s.spvApply e

/-- SPV_SLOT_CTL.ON written (R369, R374). -/
def State.writeSlotCtl (s : State) (n : Nat) (on : Bool) : State :=
  let was := s.flag (R.SPV_SLOT_CTL_ON n)
  (s.fset (R.SPV_SLOT_CTL_ON n) (ofBool on)).spvEvent (if on then .on n !was else .off n)

/-- SPV_CH_CTL.FORCE_ON written (R370). -/
def State.writeForce (s : State) (n c : Nat) (on : Bool) : State :=
  let was := s.flag (R.SPV_CH_CTL_FORCE_ON n c)
  (s.fset (R.SPV_CH_CTL_FORCE_ON n c) (ofBool on)).spvEvent (.force n c on was)

/-! ### The commands, for the supervisor's next tick -/

/-- MEAS_CLEAR (R366). -/
def execMeasClear (slot : Nat) (value : W32) (s : State) : Out := .next (s.spvEvent (.measClear (slot % 24) value.toNat))

/-- FAST_TRIP: the comparator finds a channel's current; above the threshold it fires, and the next tick records the trip
(R372, R373). -/
def execFastTrip (slot : Nat) (ch : ChannelSense) (s : State) : Out :=
  let n := slot % 24
  let c := ch.ch % 2
  .next (if s.fastOver n c ch.sense then s.spvEvent (.fast n c) else s)

/-- CURRENT_LIMIT_START (R371). -/
def execCurrentLimitStart (slot ch : Nat) (s : State) : Out := .next (s.spvEvent (.limitStart (slot % 24) (ch % 2)))

/-- FAULT_TIMER_EXPIRY (R371). -/
def execFaultTimerExpiry (slot ch : Nat) (s : State) : Out := .next (s.spvEvent (.timerExpiry (slot % 24) (ch % 2)))

/-- FAULT_TIMER_STOP (R371). -/
def execFaultTimerStop (slot ch : Nat) (s : State) : Out := .next (s.spvEvent (.timerStop (slot % 24) (ch % 2)))

/-- GATE_RISE_TIMEOUT (R375). -/
def execGateRiseTimeout (slot ch : Nat) (s : State) : Out := .next (s.spvEvent (.gateRise (slot % 24) (ch % 2)))

/-- FET_SHORT (R376). -/
def execFetShort (slot ch : Nat) (turnOn : Bool) (s : State) : Out :=
  .next (s.spvEvent (.fetShort (slot % 24) (ch % 2) turnOn))

/-- INSERTION_START (R369). -/
def execInsertionStart (slot : Nat) (s : State) : Out := .next (s.spvEvent (.start (slot % 24)))

/-- RAMP_END (R369). -/
def execRampEnd (slot ch : Nat) (s : State) : Out := .next (s.spvEvent (.rampEnd (slot % 24) (ch % 2)))

/-- CHANNEL_POWER_GOOD (R377). -/
def execChannelPowerGood (slot ch : Nat) (s : State) : Out := .next (s.spvEvent (.pgGood (slot % 24) (ch % 2)))

/-- PERST_RELEASE (R220). -/
def execPerstRelease (slot : Nat) (s : State) : Out := .next (s.spvEvent (.perstRelease (slot % 24)))

/-- PG_LOST (R379). -/
def execPgLost (slot ch : Nat) (s : State) : Out := .next (s.spvEvent (.pgLost (slot % 24) (ch % 2)))

/-- SLOT_ON: SPV_SLOT_CTL.ON written 1 (R369). -/
def execSlotOn (slot : Nat) (s : State) : Out := .next (s.writeSlotCtl (slot % 24) true)

/-- SLOT_OFF: SPV_SLOT_CTL.ON written 0 (R374). -/
def execSlotOff (slot : Nat) (s : State) : Out := .next (s.writeSlotCtl (slot % 24) false)

/-- SLOT_OFF_GATES (R374). -/
def execSlotOffGates (slot : Nat) (s : State) : Out := .next (s.spvEvent (.offGates (slot % 24)))

/-- FORCE_ON (R370). -/
def execForceOn (slot ch : Nat) (on : Bool) (s : State) : Out := .next (s.writeForce (slot % 24) (ch % 2) on)

/-- SLOT_RETRY (R381). -/
def execSlotRetry (slot : Nat) (s : State) : Out := .next (s.spvEvent (.retry (slot % 24)))

/-- RETRY_WINDOW_END (R381). -/
def execRetryWindowEnd (slot : Nat) (s : State) : Out := .next (s.spvEvent (.windowEnd (slot % 24)))

/-- SLOT_REMOVAL (R382). -/
def execSlotRemoval (slot : Nat) (s : State) : Out := .next (s.spvEvent (.removal (slot % 24)))

/-- SLOT_INSERTION (R382). -/
def execSlotInsertion (slot : Nat) (s : State) : Out := .next (s.spvEvent (.insertion (slot % 24)))

/-- LATCH_CLEAR (R384). -/
def execLatchClear (mask : W32) (s : State) : Out := .next (s.spvEvent (.latchClear mask.toNat))

end Sys2Proof.Machine
end

