-- ==== Sys2Proof/Machine/Forward.lean ====
section
/-! DEFINITION. Forwarding of a looked-up request: the lookup's verdict (R22, R93 to R100, R208), unicast with requester
change, tags and forwarding mode (R100, R101, R227), multicast replication (R107 to R112, R268), and the captures of
mirror and sample sessions (R114 to R118, R325). -/

namespace Sys2Proof.Machine

/-! ### Verdict of the lookup and of the checks behind it -/

/-- What the lookup and the checks behind it decide. -/
inductive Verdict where
  | go (win : Option Win) (dest : Dest)
  | overlap (a b : Nat)
  | denied (win : Win) (cause : Nat)
  | ecrc (win : Win)
  | badTable (entries : List (Nat × Nat))
  deriving DecidableEq, Repr

/-- Lookup, gauntlet and E2C_CHECK of a request (R93, R94, R100, R119, R294). An entry with both copies bad stops a
lookup outside ISOLATE and is left out of it there (R309). -/
def State.lookup (s : State) (part : Option Nat) (ingress : Nat) (t : Tlp) (stamp era : Nat) : Verdict :=
  match (if s.mode = mISOLATE then [] else s.badWindows stamp era) with
  | b :: bs => .badTable (b :: bs)
  | [] =>
    match (if t.isMem then s.hits part t.addr.toNat stamp era else []) with
    | [] => match part with
      | some p => .go none (s.missDest p ingress t)
      | none => .go none .miss
    | [w] => match s.gauntlet part t w with
      | some c => .denied w c
      | none =>
        if w.e2cRefuse && t.ecrc.isSome then .ecrc w
        else .go (some w) (s.winDest w t.addr.toNat)
    | ws => .overlap (twoLowest ws).1 (twoLowest ws).2

/-- An overlap fault (R94). -/
def State.overlapFault (s : State) (f : Frame) (a b : Nat) : State :=
  ((s.bump R.MAP_OVERLAP).raise 0x120 0).recordFrame eOVERLAP lvFRAME f (a + b * 2 ^ 16)

/-! ### Sample queue (R325) -/

/-- An entry at the tail of the sample queue, or a drop when 4,096 are in use. -/
def State.pushSample (s : State) (e : BitVec 1280) : State :=
  let n := s.fget R.MGT_SQ_STS_COUNT
  if n < 4096 then
    let k := (s.fget R.MGT_SQ_STS_HEAD + n) % 4096
    let s : State := { s with samples := storePut 0 k e s.samples }
    (s.fset R.MGT_SQ_STS_COUNT (n + 1)).bump R.MGT_SQ_ENQ
  else (s.bump R.MGT_SQ_DROP).raise 0x0F 0

/-! ### Mirror and sample sessions (R114 to R118) -/

def State.session (s : State) (k : Nat) : Session := storeGet {} s.sessions k

def State.modSession (s : State) (k : Nat) (f : Session → Session) : State :=
  { s with sessions := storePut {} k (f (s.session k)) s.sessions }

/-- Bytes of a slot of session k. -/
def State.slotBytes (s : State) (k : Nat) : Nat := 2 ^ s.fget (R.MCM_MODE_SLOT_LOG2 k)

/-- Cells of the posted writes that carry a mirror header and so many frame bytes to a slot's address: writes of at most
4 KiB, each with the header its address asks for (R18, R115). -/
def slotCells (addr bytes : Nat) : Nat :=
  let n := 32 + bytes
  (upTo (ceilDiv n 4096)).foldl (fun k i =>
    let t : Tlp := { kind := .memWrite, addr := BitVec.ofNat 64 (addr + 4096 * i), len := min 4096 (n - 4096 * i) }
    k + t.cells) 0

/-- Management-pool cells that captures have claimed and not written yet (R116). -/
def State.captureCells (s : State) : Nat :=
  (upTo 4).foldl (fun n k => (s.session k).captures.foldl (fun n c => n + c.cells) n) 0

/-- Address of the slot that a session's next capture takes (R115). -/
def State.nextSlotAddr (s : State) (k : Nat) : Nat :=
  s.pair (R.MCM_RING_BASE_LO k) (R.MCM_RING_BASE_HI k)
    + s.slotBytes k * (((s.reg (R.MCM_PROD k)).toNat + (s.session k).captures.length) % 2 ^ s.fget (R.MCM_MODE_RING_LOG2 k))

/-- Management-pool cells that mirror writes hold or have claimed, in all sessions (R116). -/
def State.mirrorCells (s : State) : Nat :=
  (s.sw.frames.filter fun f => s.sw.copies.any fun c => c.frame == f.id && (match c.purpose with
    | .mirror _ => true
    | _ => false)).foldl (fun n f => n + f.tlp.cells) 0
    + s.captureCells

/-- A dropped capture: SEQ advances and PROD does not (R116). -/
def State.dropCapture (s : State) (k : Nat) : State := (s.bump (R.MCM_MIRROR_DROP k)).raise 0x141 0

/-- One session's capture of a frame: a mirror slot, or the N-th frame sampled, with one SEQ for both (R115 to R118, log entry
105). -/
def State.captureIn (s : State) (k : Nat) (f : Frame) (t : Tlp) (atEgress : Bool) (egress : Nat) (refused : Bool)
    (window : Nat) : State :=
  let bs := t.wire
  let tagHi := bits t.tag.toNat 13 10
  if s.fget (R.MCM_MODE_MODE k) = 1 then
    let room := s.slotBytes k - 32
    let h := s.ns + bs.length % 8192 * 2 ^ 64 + ofBool (decide (room < bs.length)) * 2 ^ 80 + ofBool atEgress * 2 ^ 81
      + ofBool refused * 2 ^ 82 + f.ingress * 2 ^ 88 + egress * 2 ^ 96 + window * 2 ^ 104 + s.selfFid * 2 ^ 120
      + tagHi * 2 ^ 124 + (s.session k).seq % 2 ^ 32 * 2 ^ 128 + f.furrow.toNat * 2 ^ 160
    let cells := slotCells (s.nextSlotAddr k) (min room bs.length)
    let fits := decide (s.mirrorCells + cells ≤ s.fget R.MCM_MIRROR_CELLS_CELLS)
      && decide (s.captureCells + cells ≤ s.poolFree .management)
    let s := s.modSession k fun x => { x with
      seq := x.seq + 1
      captures := if fits then x.captures ++ [{ header := BitVec.ofNat 256 h, bytes := bs.take room, cells := cells }]
        else x.captures }
    if fits then s else s.dropCapture k
  else
    let n := (s.session k).count + 1
    if n < s.fget (R.MCM_SAMPLE_N_N k) then s.modSession k fun x => { x with count := n }
    else
      let e := s.ns + k * 2 ^ 64 + ofBool atEgress * 2 ^ 66 + f.ingress * 2 ^ 72 + egress * 2 ^ 80 + window * 2 ^ 88
        + bs.length % 8192 * 2 ^ 104 + tagHi * 2 ^ 117 + (s.session k).seq % 2 ^ 32 * 2 ^ 128
        + leNat (bs.take 128) * 2 ^ 256
      let full := decide (4096 ≤ s.fget R.MGT_SQ_STS_COUNT)
      let s := s.pushSample (BitVec.ofNat 1280 e)
      let s := s.modSession k fun x => { x with count := 0, seq := x.seq + 1 }
      if full then s else s.bump (R.MCM_SAMPLED k)

/-- The captures of a frame at its lookup or as a copy of it starts (R114); frames from core port 88 are never
captured. -/
def State.capture (s : State) (f : Frame) (t : Tlp) (atEgress : Bool) (egress : Nat) (refused : Bool)
    (win : Option Win) : State :=
  if isMgmt f.ingress then s
  else (upTo 4).foldl (fun s k =>
    let kind := s.fget (R.MCM_MODE_SRC_KIND k)
    let takes := if kind = 0 then !atEgress && s.fget (R.MCM_MODE_SRC_PORT k) == f.ingress
      else if kind = 1 then atEgress && s.fget (R.MCM_MODE_SRC_PORT k) == egress
      else !atEgress && !t.isCpl && (match win with
        | some w => w.mirrored && w.session == k
        | none => false)
    if s.fget (R.MCM_MODE_MODE k) != 0 && takes then
      s.captureIn k f t atEgress egress refused (match win with
        | some w => w.idx
        | none => f.window)
    else s) s

/-! ### Tags the part assigns (R227) -/

/-- Tag bits allowed at an egress: PEP_TAG_CTL.WIDTH of a PCIe port; 8 towards a Moaben link, whose far port's setting
is not known here (log entry 17). -/
def State.tagBits (s : State) (e : Nat) : Nat :=
  if isPcie e then (match s.fget (R.PEP_TAG_CTL_WIDTH e) with
    | 0 => 8
    | 1 => 10
    | _ => 14)
  else 8

/-- Tags of a requester ID in use. -/
def State.usedTags (s : State) (rid : BitVec 16) : List Nat :=
  (s.engTags.filter fun t => t.reqId == rid).map (·.tag.toNat)
    ++ s.sw.tags.filterMap fun t => match t.proxy with
      | some (r, g, _) => if r = rid then some g.toNat else none
      | none => none

/-- A free tag of the allowed width, any but 0: which one is not defined (R227). -/
def State.freeTag (s : State) (rid : BitVec 16) (e : Nat) : Option (BitVec 14 × State) :=
  let used := s.usedTags rid
  let free := (upTo (2 ^ s.tagBits e)).filter fun g => g != 0 && !used.contains g
  let r := s.drawNat
  (free[r.1 % free.length]?).map fun g => (BitVec.ofNat 14 g, r.2)

/-! ### Unicast -/

/-- Partition that owns a PCIe port of a device: by this device's ports, by what other devices have announced and by the
home table; of a port that none of these names, a free value, for the spec does not say how a device learns it (R101, R212,
R269, R270; log entry 95). -/
def State.ownerOf (s : State) (fid p : Nat) : Option Nat :=
  if fid = s.selfFid then some (s.portPart p)
  else match (s.remotePorts.find? fun r => r.2.1 == fid && r.2.2 == p) with
    | some r => some r.1
    | none => match (upTo 32).find? fun q => s.upstreamOf q == none && s.homeOf q == some (fid, p) with
      | some q => some q
      | none => if isPcie p then some (Config.portOwner fid p % 32) else none

/-- What became of a frame on its way to an egress queue. -/
inductive Sent where
  | ok | waits | noRoute | portDown | ide | asleep
  deriving DecidableEq, Repr

/-- Loss of a posted frame for which no route exists (R106). -/
def State.loseNoRoute (s : State) (f : Frame) (addr : W64) (ring : Option Nat) : State :=
  let c : Copy := { frame := f.id, egress := 0x7F, queue := 0, addr := addr, ring := ring }
  (s.bump R.MAP_NOROUTE).ledgerCopy f c lrPORT_DOWN false (some 0x7F)

/-- Does one of these requests wait for a tag, that this one must not pass: same ingress, egress and traffic class (R23)? -/
def behindOf (ws : List Waiting) (f : Frame) (c : Copy) : Bool :=
  ws.any fun w => (w.need == .proxyTag || w.need == .originatedTag || w.need == .order) && w.frame.ingress == f.ingress
    && w.frame.tlp.tc == f.tlp.tc && w.copies.any fun x => x.egress == c.egress

/-- The same of all that wait. -/
def State.behind (s : State) (f : Frame) (c : Copy) : Bool := behindOf s.sw.waiting f c

/-- A non-posted request under the requester ID of partition `o`'s management function and a free tag of it, or waiting for
one (R101, R227). -/
def State.proxied (s : State) (f : Frame) (c : Copy) (o : Nat) (record : Option Nat) : State × Sent :=
  let rid := s.mgmtReqId o
  let c := { c with newReqId := some rid }
  -- A tag freed meanwhile is for the request that has waited longest (R23).
  match (if s.behind f c then none else s.freeTag rid c.egress) with
  | none => (s.wait { f with record := record } .proxyTag [c], .waits)
  | some (g, s) =>
    let s := match record with
      | some r => s.modTag r fun t => { t with proxy := some (rid, g, o) }
      | none => s
    (s.takeIn f [{ c with newTag := some g }], .ok)

/-- A unicast copy placed: its requester ID, and for a non-posted request of another partition its proxy tag, as its
egress partition `owner` gives them (R101); then admission (R67, R71). `record` names the tag record that a proxy tag
goes to. -/
def State.place (s : State) (f : Frame) (c : Copy) (owner : Option Nat) (record : Option Nat) : State × Sent :=
  match owner.filter fun o => f.part != some o with
  | none =>
    if f.tlp.nonPosted && s.behind f c then (s.wait { f with record := record } .order [c], .waits)
    else (s.takeIn f [c], .ok)
  | some o =>
    if f.tlp.posted then (s.takeIn f [{ c with newReqId := some (s.mgmtReqId o) }], .ok) else s.proxied f c o record

/-- Does the bridge of an egress port, in D3hot, forward no memory or I/O request of its own partition (R225; the data
plane of other partitions is unaffected)? -/
def State.asleep (s : State) (f : Frame) (e : Nat) : Bool :=
  isPcie e && f.part == some (s.portPart e) && s.d3hot (s.portFn e)
    && (f.tlp.isMem || f.tlp.kind == .ioRead || f.tlp.kind == .ioWrite)

/-- A frame sent to a core port of a device: route (R105, R106), port state (R223), IDE check (R208), forwarding mode
(R62), then `place`. Losses of posted frames are counted and ledgered here; a refused non-posted one is left to its
origin. -/
def State.sendTo (s : State) (f : Frame) (fid p : Nat) (addr : W64) (fwd : Nat) (ring : Option Nat)
    (record : Option Nat := none) (why : Purpose := .data) : State × Sent :=
  match s.egressTo f.ingress fid p f.tlp.tc.val with
  | none => (if f.tlp.posted then s.loseNoRoute f addr ring else s, .noRoute)
  | some e =>
    let c : Copy :=
      { frame := f.id, egress := e, queue := queueOf f, addr := addr, ring := ring, dstFid := fid, dest := p, purpose := why }
    if s.shut e then
      (if f.tlp.posted then (s.bump R.BUF_FLUSH_P).ledgerCopy f c lrPORT_DOWN else s, .portDown)
    else if s.asleep f e then (s, .asleep)
    else
      let owner := s.ownerOf fid p
      if f.tlp.ide.isSome && (addr != f.tlp.addr || (owner.filter fun o => f.part != some o).isSome) then
        (if isPcie f.ingress then s.bump (R.PEP_IDE_REFUSED f.ingress) else s, .ide)
      else
        s.place f { c with ct := s.ctRequested f fwd } owner record

/-! ### Multicast (R107 to R112, R268) -/

/-- A group entry, and a target entry. -/
def State.group (s : State) (g : Nat) : Nat := (s.tbl 0x140 0 g).toNat

def State.target (s : State) (i : Nat) : Nat := (s.tbl 0x140 1 i).toNat

/-- Is a group entry usable (R109)? -/
def groupUsable (g : Nat) : Bool :=
  bit g 0 && decide (bits g 22 8 + bits g 7 1 ≤ 32768)
    && decide (bits g 7 1 + ((upTo 8).filter fun f => bit g (24 + f)).length ≤ 88)

/-- The bad entries a use of a group meets: the group entry, or else its target entries (R294). -/
def State.badGroup (s : State) (k : Nat) : List (Nat × Nat) :=
  let g := s.group k
  if s.faulted 2 k then [(2, k)]
  else if !groupUsable g then []
  else ((upTo (bits g 7 1)).map (· + bits g 22 8)).filterMap fun i => if s.faulted 3 i then some (3, i) else none

/-- The links that carry a group's copies: each of FWD_LINKS in the routing view, else its substitute; and how many
copies have none (R110, R268). The link the frame arrived on is left out. -/
def State.groupLinks (s : State) (f : Frame) (k : Nat) : List Nat × Nat × Nat :=
  let g := s.group k
  let arrived := if isMoaben f.ingress then some (f.ingress - 64) else none
  let want := (upTo 8).filter fun l => bit g (24 + l) && arrived != some l
  let inView := fun l => bit (s.fget R.MAP_LINK_USABLE_USABLE) l && s.service == mFABRIC
  let direct := want.filter inView
  (want.filter fun l => !inView l).foldl (fun (r : List Nat × Nat × Nat) l =>
    match s.chooseLink f.ingress (s.fget (R.MFL_LINK_STS_PEER_FID l)) k f.tlp.tc.val with
    | some m => if r.1.contains m || arrived == some m then (r.1, r.2.1, r.2.2 + 1) else (r.1 ++ [m], r.2.1 + 1, r.2.2)
    | none => (r.1, r.2.1, r.2.2 + 1)) (direct, 0, 0)

/-- The copies of a multicast frame for its local targets, with the address and requester ID each leaves with (R101,
R110, R291). One that came over a link takes the ID of its egress port's partition (log entry 108). -/
def State.targetCopies (s : State) (f : Frame) (k : Nat) : List Copy :=
  let g := s.group k
  ((upTo (bits g 7 1)).map (· + bits g 22 8)).filterMap fun i =>
    let t := s.target i
    if bit t 70 && bits t 11 0 == 0 then
      let p := bits t 69 64
      let own := f.part == some (s.portPart p)
      some { frame := f.id, egress := p, queue := queueOf f, addr := f.tlp.addr + BitVec.ofNat 64 t,
             ring := if bit t 71 then some (bits t 79 72) else none, dstFid := s.selfFid, dest := p,
             newReqId := if own then none else some (s.mgmtReqId (s.portPart p)) }
    else none

/-- Replication of a multicast frame by this device's group entry (R110): `none` when the group is unusable, already
counted (R109). Copies for ports that are down are discarded and counted (R223), and link copies without a link (R268);
the rest come back with their requested forwarding mode. -/
def State.replicate (s : State) (f : Frame) (k fwd : Nat) : Option (State × List Copy) :=
  let g := s.group k
  if !groupUsable g then none
  else
    let ring := if bit g 23 then some (bits g 39 32) else none
    let (ls, subst, missing) := s.groupLinks f k
    let s := (s.bumpBy R.MCM_LINK_SUBST subst).bumpBy R.MCM_LINK_NOROUTE missing
    let base : Copy := { frame := f.id, egress := 0x7F, queue := queueOf f, addr := f.tlp.addr, ring := ring, dest := k }
    let s := (upTo missing).foldl (fun s _ => s.ledgerCopy f base lrPORT_DOWN false (some 0x7F)) s
    let all := s.targetCopies f k
      ++ ls.map fun l => { base with egress := 64 + l }
    let down := all.filter fun c => s.shut c.egress
    let awake : List Copy := all.filter fun c => !s.shut c.egress
    let live : List Copy := awake.filter fun c => !s.asleep f c.egress
    -- A bridge in D3hot takes no copy: it is discarded and reported as a posted request refused (R225, R26).
    let s := if live.length = awake.length then s else s.portAer f.ingress aerUnsupported f.tlp.header
    let s := down.foldl (fun s c => (s.bump R.BUF_FLUSH_P).ledgerCopy f c lrPORT_DOWN) s
    some (s, live.map fun c => { c with ct := s.ctRequested f fwd })

/-- A multicast frame replicated and admitted, or discarded with its group (R109, R110). -/
def State.sendGroup (s : State) (f : Frame) (k fwd : Nat) : State :=
  let f := { f with mcast := true, group := k }
  match s.replicate f k fwd with
  | none => (s.bump R.MCM_BAD_GROUP).raise 0x140 0
  | some (s, cs) =>
    let s := s.takeIn f cs
    if (s.frame? f.id).isSome then s.bumpBy R.MCM_COPIES cs.length else s

/-- Would a multicast frame's copies change what its IDE MAC covers (R208)? -/
def State.groupIde (s : State) (f : Frame) (k : Nat) : Bool :=
  f.tlp.ide.isSome && (s.targetCopies f k).any fun c => c.addr != f.tlp.addr || c.newReqId.isSome

end Sys2Proof.Machine
end

