-- ==== Sys2Proof/Machine/Descriptors.lean ====
section
/-! DEFINITION. Descriptors as data: their fields (R160, R161), the checks of R162, the geometry of source and
destination pieces (R152, R161), the bytes a destination piece carries (R165 to R167), and completion records (R163). -/

namespace Sys2Proof.Machine

/-! ### Fields (R160) -/

def dField (d : BitVec 512) (hi lo : Nat) : Nat := bits d.toNat hi lo

def dOpcode (d : BitVec 512) : Nat := dField d 7 0
def dCmpl (d : BitVec 512) : Bool := bit d.toNat 8
def dIrq (d : BitVec 512) : Bool := bit d.toNat 9
def dVec (d : BitVec 512) : Nat := dField d 12 10
def dNoRa (d : BitVec 512) : Bool := bit d.toNat 13
def dWrTc (d : BitVec 512) : Nat := dField d 18 16
def dRdTc (d : BitVec 512) : Nat := dField d 22 20
def dUser (d : BitVec 512) : Nat := dField d 63 32
def dSrc (d : BitVec 512) : Nat := dField d 127 64
def dDst (d : BitVec 512) : Nat := dField d 191 128
def dLength (d : BitVec 512) : Nat := dField d 223 192
def dLines (d : BitVec 512) : Nat := dField d 239 224
def dSrcStride (d : BitVec 512) : Int := signedOf 32 (dField d 287 256)
def dDstStride (d : BitVec 512) : Int := signedOf 32 (dField d 319 288)
def dOpx0 (d : BitVec 512) : Nat := dField d 351 320
def dOpx1 (d : BitVec 512) : Nat := dField d 383 352

abbrev opCOPY : Nat := 1
abbrev opCOPY2D : Nat := 2
abbrev opFILL : Nat := 3
abbrev opREPACK : Nat := 4
abbrev opMCOPY : Nat := 5
abbrev opCHECK : Nat := 6
abbrev opFENCE : Nat := 7
abbrev opTIMED : Nat := 8

/-- Opcodes that read sources, and that write destinations (R161). -/
def readsSource (o : Nat) : Bool := o == opCOPY || o == opCOPY2D || o == opREPACK || o == opMCOPY || o == opCHECK
def writesDest (o : Nat) : Bool := o == opCOPY || o == opCOPY2D || o == opFILL || o == opREPACK || o == opMCOPY

/-- Number of lines: COPY has one (R161). -/
def lineCount (d : BitVec 512) : Nat := if dOpcode d = opCOPY then 1 else dLines d

/-! ### Sample layouts of REPACK (R167) -/

def samples (d : BitVec 512) : Nat := bits (dOpx0 d) 23 0
def srcLayout (d : BitVec 512) : Nat := bits (dOpx1 d) 3 0
def dstLayout (d : BitVec 512) : Nat := bits (dOpx1 d) 7 4
def srcSwap (d : BitVec 512) : Nat := bits (dOpx1 d) 9 8
def dstSwap (d : BitVec 512) : Nat := bits (dOpx1 d) 11 10
def rounds (d : BitVec 512) : Bool := bit (dOpx1 d) 12

/-- Bits of a sample in a layout. -/
def sampleBits (layout : Nat) : Nat := if layout = 3 ∨ layout = 5 then 12 else 10

/-- Bytes per line for S samples, before a swap's rounding. -/
def layoutBytes (layout s : Nat) : Nat :=
  match layout with
  | 0 => 4 * ceilDiv s 3
  | 4 => ceilDiv (10 * s) 8
  | 5 => ceilDiv (12 * s) 8
  | _ => 2 * s

/-- Bytes per line with the rounding to whole swap units. -/
def swapBytes (swap n : Nat) : Nat := if swap = 1 then 2 * ceilDiv n 2 else if swap = 2 then 4 * ceilDiv n 4 else n

/-- Where byte k of a line stands once its unit is swapped. -/
def swapPos (swap k : Nat) : Nat :=
  if swap = 1 then k / 2 * 2 + (1 - k % 2) else if swap = 2 then k / 4 * 4 + (3 - k % 4) else k

/-- First stream bit of sample j. -/
def sampleAt (layout j : Nat) : Nat :=
  match layout with
  | 0 => 32 * (j / 3) + 10 * (j % 3)
  | 1 => 16 * j + 6
  | 2 => 16 * j
  | 3 => 16 * j + 4
  | 4 => 10 * j
  | _ => 12 * j

/-- The sample and its bit that stream bit m holds, none for a bit written 0. -/
def sampleOf (layout m : Nat) : Option (Nat × Nat) :=
  match layout with
  | 0 => if m % 32 < 30 then some (3 * (m / 32) + m % 32 / 10, m % 32 % 10) else none
  | 1 => if 6 ≤ m % 16 then some (m / 16, m % 16 - 6) else none
  | 2 => if m % 16 < 10 then some (m / 16, m % 16) else none
  | 3 => if 4 ≤ m % 16 then some (m / 16, m % 16 - 4) else none
  | 4 => some (m / 10, m % 10)
  | _ => some (m / 12, m % 12)

/-- A sample converted between widths (R167). -/
def convert (old new : Nat) (round : Bool) (v : Nat) : Nat :=
  if old = new then v
  else if old < new then v * 4
  else if round then min ((v + 2) / 4) 1023 else v / 4

/-! ### Geometry (R161) -/

def srcLine (d : BitVec 512) : Nat :=
  if dOpcode d = opREPACK then swapBytes (srcSwap d) (layoutBytes (srcLayout d) (samples d)) else dLength d

def dstLine (d : BitVec 512) : Nat :=
  if dOpcode d = opREPACK then swapBytes (dstSwap d) (layoutBytes (dstLayout d) (samples d)) else dLength d

/-- Source bytes read and destination bytes written in all. -/
def srcTotal (d : BitVec 512) : Nat := if readsSource (dOpcode d) then srcLine d * lineCount d else 0
def dstTotal (d : BitVec 512) : Nat := if writesDest (dOpcode d) then dstLine d * lineCount d else 0

/-- Address of a byte of a stream of lines: line start, with the stride ignored for one line. -/
def streamAddr (base : Nat) (stride : Int) (line lines pos : Nat) : Nat :=
  let i := if line = 0 then 0 else pos / line
  let st : Int := if lines = 1 then 0 else stride
  ((base : Int) + (i : Int) * st).toNat + (if line = 0 then 0 else pos % line)

/-- The piece at a stream position: address and length, split at line ends and at multiples of 2^lim (R152). -/
def piece (base : Nat) (stride : Int) (line lines lim pos : Nat) : Nat × Nat :=
  let a := streamAddr base stride line lines pos
  (a, min (line - pos % line) (2 ^ lim - a % 2 ^ lim))

def srcPiece (d : BitVec 512) (lim pos : Nat) : Nat × Nat := piece (dSrc d) (dSrcStride d) (srcLine d) (lineCount d) lim pos

def dstPiece (d : BitVec 512) (lim pos : Nat) : Nat × Nat := piece (dDst d) (dDstStride d) (dstLine d) (lineCount d) lim pos

/-! ### R162 -/

/-- Do all lines of a stream lie within 0 and 2^64 - 1? Strides are linear, so the first and last line decide. -/
def linesFit (base : Nat) (stride : Int) (line lines : Nat) : Bool :=
  let last : Int := (base : Int) + ((lines - 1 : Nat) : Int) * (if lines = 1 then 0 else stride)
  decide (0 ≤ last) && decide (last + line ≤ 2 ^ 64) && decide (base + line ≤ 2 ^ 64)

/-- Does a descriptor break a condition of R162, and so end BAD_DESC before any request? -/
def badDesc (d : BitVec 512) : Bool :=
  let o := dOpcode d
  let lines := lineCount d
  let lenUsed := o == opCOPY || o == opCOPY2D || o == opFILL || o == opMCOPY || o == opCHECK
  let linesUsed := o == opCOPY2D || o == opFILL || o == opREPACK || o == opMCOPY || o == opCHECK
  o == 0 || decide (8 < o)
    || dField d 15 14 != 0 || bit d.toNat 19 || dField d 31 23 != 0 || dField d 255 240 != 0 || dField d 511 384 != 0
    || (lenUsed && (dLength d == 0 || (decide (1 < lines) && decide (16777215 < dLength d))))
    || (linesUsed && dLines d == 0)
    || (readsSource o && decide (3 < dRdTc d))
    || (o == opREPACK && (samples d == 0 || bits (dOpx0 d) 31 24 != 0 || bits (dOpx1 d) 31 13 != 0
      || decide (5 < srcLayout d) || decide (5 < dstLayout d) || srcSwap d == 3 || dstSwap d == 3))
    || (o == opCHECK && bits (dOpx1 d) 31 1 != 0)
    || (o == opFENCE && bits (dOpx0 d) 31 1 != 0)
    || (o == opTIMED && (bits (dOpx0 d) 31 17 != 0
      || (bit (dOpx0 d) 16 && (bits (dSrc d) 63 62 != 0 || decide (bits (dSrc d) 61 32 < 32)))))
    || (readsSource o && !linesFit (dSrc d) (dSrcStride d) (srcLine d) lines)
    || (writesDest o && !linesFit (dDst d) (dDstStride d) (dstLine d) lines)
    || (writesDest o && decide (1 < lines) && decide ((dDstStride d).natAbs < dstLine d))

/-! ### Source bytes held (R178) -/

/-- The byte at a position of the source stream with its poison mark, none when it has not come. -/
def sourceByte : List Seg → Nat → Option (Byte × Bool)
  | [], _ => none
  | g :: gs, p =>
    if g.off ≤ p then (match g.data[p - g.off]? with
      | some b => some (b, g.poison)
      | none => sourceByte gs p)
    else sourceByte gs p

/-- Bytes of a run held in the reorder buffer. -/
def DescRun.held (r : DescRun) : Nat := r.segs.foldl (fun n g => n + g.data.length) 0

/-! ### Destination bytes -/

/-- A sample of a source line, from the bytes held: value and poison. -/
def gatherSample (d : BitVec 512) (gs : List Seg) (lineStart j : Nat) : Option (Nat × Bool) :=
  let w := sampleBits (srcLayout d)
  (upTo w).foldl (fun r b =>
    match r with
    | none => none
    | some (v, p) =>
      let m := sampleAt (srcLayout d) j + b
      (sourceByte gs (lineStart + swapPos (srcSwap d) (m / 8))).map fun x =>
        (v + ofBool (x.1.toNat.testBit (m % 8)) * 2 ^ b, p || x.2)) (some (0, false))

/-- One destination byte of a line of REPACK (R167). -/
def repackByte (d : BitVec 512) (gs : List Seg) (line k : Nat) : Option (Byte × Bool) :=
  let sk := swapPos (dstSwap d) k
  let fromW := sampleBits (srcLayout d)
  let toW := sampleBits (dstLayout d)
  ((upTo 8).foldl (fun (r : Option (Nat × Bool)) b =>
    match r with
    | none => none
    | some (v, p) =>
      match sampleOf (dstLayout d) (8 * sk + b) with
      | none => some (v, p)
      | some (j, n) =>
        if samples d ≤ j ∨ layoutBytes (dstLayout d) (samples d) ≤ sk then some (v, p)
        else (gatherSample d gs (line * srcLine d) j).map fun x =>
          (v + ofBool ((convert fromW toW (rounds d) x.1).testBit n) * 2 ^ b, p || x.2)) (some (0, false))).map
    fun x => (BitVec.ofNat 8 x.1, x.2)

/-- The byte at a position of the destination stream, none while a source byte it needs is missing (R165 to R167). -/
def destByte (d : BitVec 512) (gs : List Seg) (pos : Nat) : Option (Byte × Bool) :=
  if dOpcode d = opFILL then some (BitVec.ofNat 8 (dSrc d / 256 ^ (pos % dstLine d % 8)), false)
  else if dOpcode d = opREPACK then repackByte d gs (pos / dstLine d) (pos % dstLine d)
  else sourceByte gs pos

/-- `n` bytes of the destination stream from a position on. -/
def destBytes (d : BitVec 512) (gs : List Seg) (pos : Nat) : Nat → Option (List Byte × Bool)
  | 0 => some ([], false)
  | n + 1 => match destByte d gs pos with
    | none => none
    | some (b, p) => (destBytes d gs (pos + 1) n).map fun r => (b :: r.1, p || r.2)

/-- `n` bytes of the source stream from a position on. -/
def sourceBytes (gs : List Seg) (pos : Nat) : Nat → Option (List Byte × Bool)
  | 0 => some ([], false)
  | n + 1 => match sourceByte gs pos with
    | none => none
    | some (b, p) => (sourceBytes gs (pos + 1) n).map fun r => (b :: r.1, p || r.2)

/-- First sample with a bit at or after bit `m` of a line, `m` a multiple of 32. -/
def sampleFrom (layout m : Nat) : Nat :=
  match layout with
  | 0 => 3 * (m / 32)
  | 4 => m / 10
  | 5 => m / 12
  | _ => m / 16

/-- First source position still needed once destination bytes up to `pos` are written: for REPACK, from the word that holds
the first sample still to be written. -/
def sourceNeeded (d : BitVec 512) (pos : Nat) : Nat :=
  if dOpcode d = opREPACK then
    pos / dstLine d * srcLine d
      + sampleAt (srcLayout d) (sampleFrom (dstLayout d) (8 * (pos % dstLine d / 4 * 4))) / 32 * 4
  else pos

/-- Segments that hold nothing from a position on are released from the reorder buffer. -/
def releaseSegs (gs : List Seg) (pos : Nat) : List Seg := gs.filter fun g => decide (pos < g.off + g.data.length)

/-! ### Completion records (R163) -/

/-- The bytes of a completion record. -/
def recordBytes (n status size : Nat) (poison late missed inside : Bool) (user result done : Nat) : List Byte :=
  leBytes 16 (n % 65536 + status * 2 ^ 16 + ofBool poison * 2 ^ 24 + ofBool late * 2 ^ 25 + ofBool missed * 2 ^ 26
    + ofBool inside * 2 ^ 27 + (1 - n / size % 2) * 2 ^ 31 + user * 2 ^ 32 + result % 2 ^ 32 * 2 ^ 64
    + min done (2 ^ 32 - 1) * 2 ^ 96)

end Sys2Proof.Machine
end

