-- ==== Sys2Proof/Machine/Present.lean ====
section
/-! DEFINITION. Requests presented to the switch core by an engine or at core port 88: class and window of a frame
(R57, R148), entry counts (R389), refused misses (R95), and how an engine's request is looked up, tagged and issued or
refused (R155, R165, R170, R177, R227). -/

namespace Sys2Proof.Machine

/-- The address with which a request through a window leaves (R100). -/
def Win.out (w : Win) (a : W64) : W64 := a + BitVec.ofNat 64 w.xlate

/-- The ledger ring of a window (R78). -/
def Win.ring (w : Win) : Option Nat := if w.ledger then some w.ledgerIdx else none

/-- A frame with what its lookup fixes: window, gate group and bank (R148), and class (R57); under LIMP's pools every frame
is of the ordered class (R56). -/
def State.classify (s : State) (f : Frame) (win : Option Win) : Frame :=
  match win with
  | none => { f with lookedUp := true }
  | some w =>
    let live := f.tlp.kind == .memWrite && decide (4 ≤ f.tlp.tc.val) && w.live && !s.limpPools
    { f with
      window := w.idx, gate := w.gate, bank := w.bankB, lookedUp := true, live := live
      prio := if live then f.tlp.tc.val - 4 else 0
      pool := if live then .live else f.pool }

/-- FSEQ: a live frame takes the count of live frames its ingress port has received, itself included (R80). -/
def State.stampLive (s : State) (f : Frame) : Frame × State :=
  if f.live then
    let n := ((s.port f.ingress).fseq + 1) % 2 ^ 32
    ({ f with fseq := n }, s.modPort f.ingress fun p => { p with fseq := n })
  else (f, s)

/-- A frame enters at its ingress core port (R389 events 0 and 1, R394 FRAME_CELLS). -/
def State.entered (s : State) (f : Frame) : State :=
  let s := (s.tel 0 f.ingress 1 (some f)).tel 1 f.ingress f.tlp.bytes (some f)
  s.hist 3 f.ingress f.live f.tlp.cells

/-- A request refused on a miss (R95): counted, and a posted one logged in its bridge's AER; a non-posted one is left
to its origin. -/
def State.missRefused (s : State) (f : Frame) : State :=
  if f.tlp.posted then (s.bump R.MAP_MISS_P).portAer f.ingress aerUnsupported f.tlp.header
  else s.bump R.MAP_MISS_NP

/-- A request refused or sent upstream on a miss, counted (R389 LOOKUP_MISS, R95). -/
def State.countMiss (s : State) (f : Frame) (win : Option Win) : State :=
  match f.part with
  | some p => if win.isNone && f.tlp.isMem && (s.bridgeDecode p f.tlp.addr.toNat).isNone then s.tel 4 f.ingress 1 (some f) else s
  | none => s

/-- The egress core port towards a core port of a device, for a capture; 0x7F where there is none (R117). -/
def State.shownEgress (s : State) (f : Frame) (fid p : Nat) : Nat := (s.egressTo f.ingress fid p f.tlp.tc.val).getD 0x7F

/-- EGRESS of a capture made at the lookup (R117): the egress core port of a frame for one port, 88 for a request that ends in
the part itself (log entry 96), 0x7F for a refused, dropped or multicast one. -/
def State.lookEgress (s : State) (f : Frame) (dest : Dest) : Nat :=
  match dest with
  | .port fid p => s.shownEgress f fid p
  | .inst fid _ _ => s.shownEgress f fid 88
  | .mgmtBar _ _ => 88
  | .culvert _ _ => 88
  | .mcast _ => 0x7F
  | .dropped => 0x7F
  | .miss => 0x7F

/-! ### Engine requests -/

/-- What an engine's request may match (R165): a COPY, FILL or REPACK destination, an MCOPY destination, a source, or
a ring access, message or fence. -/
inductive Want where
  | dest | mdest | source | access
  deriving DecidableEq, Repr

/-- How an engine's request fared: issued, with what its destination-set entry holds (R170), or refused with a status
and window. -/
inductive Issue where
  | ok (window egress fid frame : Nat) (live mcast : Bool)
  | failed (status window : Nat)
  deriving DecidableEq, Repr

/-- Requester ID of an instance: its engine bridge's secondary bus and its function number (R185). -/
def State.instReqId (s : State) (i : Nat) : BitVec 16 :=
  BitVec.ofNat 16 (s.cfgBits (Fn.engBridge (s.instPart i)).num cBuses 15 8 * 256 + s.fget (R.VIM_INST_OWNER_FUNC i))

/-- Room under an engine's weir and in the ordered pool, beyond the cells held back for Moaben links (R67, R68). -/
def State.engineFits (s : State) (n cells : Nat) : Bool :=
  decide (s.weirHeld n + cells ≤ s.fget (R.SWC_WEIR_LIMIT n) * 32) && decide (cells + s.headrooms ≤ s.poolFree .ordered)

/-- Does a destination not suit what the descriptor wants (R165)? -/
def kindWrong (want : Want) (win : Option Win) (dest : Dest) : Bool :=
  match want, win with
  | .dest, some w => w.kind != kPORT
  | .mdest, some w => w.kind != kMCAST
  | .source, some w => w.kind == kMCAST || w.kind == kENGINE || w.kind == kLOCAL
  | .access, _ => false
  | .mdest, none => dest != .miss
  | _, none => match dest with
    | .inst _ _ _ => true
    | _ => false

/-- A request of engine port `n` towards a core port of a device, under the tag record of `et` when it is a read. -/
def State.engineUnicast (s : State) (f : Frame) (win : Option Win) (fid p : Nat) (et : Option EngTag) :
    Option (State × Issue) :=
  let addr := match win with
    | some w => w.out f.tlp.addr
    | none => f.tlp.addr
  let fwd := match win with
    | some w => w.fwd
    | none => 0
  let ring := win.bind Win.ring
  let widx := f.window
  match s.egressTo f.ingress fid p f.tlp.tc.val with
  | none =>
    if f.tlp.posted then some (s.loseNoRoute f addr ring, .ok widx 0x7F fid f.id f.live false)
    else some (s, .failed stUNMAPPED widx)
  | some e =>
    match et with
    | none =>
      if s.asleep f e then some (s, .failed stUNMAPPED widx)
      else some ((s.sendTo f fid p addr fwd ring).1, .ok widx e fid f.id f.live false)
    | some x =>
      if s.asleep f e || s.shut e then some (s, .failed stUNMAPPED widx)
      else
        let other := (s.ownerOf fid p).any fun o => f.part != some o
        let c : Copy := { frame := f.id, egress := e, queue := queueOf f, addr := addr, ring := ring,
                          ct := s.ctRequested f fwd, dstFid := fid, dest := p }
        let x := { x with window := widx, issued := s.now, reserved := f.tlp.reserve }
        let rec' : TagRec := { id := x.id, reqId := f.tlp.reqId, tag := x.tag, ingress := f.ingress, fid := s.selfFid,
                               part := f.part, admitted := s.now, window := widx, engine := true }
        -- A tag freed meanwhile is for the read that has waited longest (R23).
        match (if s.behind f c then none else s.freeTag f.tlp.reqId e) with
        | none =>
          let s : State := { s with engTags := s.engTags ++ [x] }
          let s := if other then { s with sw := { s.sw with tags := s.sw.tags ++ [rec'] } } else s
          some (s.wait { f with record := some x.id } .originatedTag [c], .ok widx e fid f.id false false)
        | some (g, s) =>
          let s : State := { s with engTags := s.engTags ++ [{ x with tag := g }] }
          let s := if other then { s with sw := { s.sw with tags := s.sw.tags ++ [{ rec' with tag := g }] } } else s
          let f := { f with tlp := { f.tlp with tag := g }, record := some x.id }
          some ((s.place { f with furrow := furrow f.tlp } c (s.ownerOf fid p) (some x.id)).1,
            .ok widx e fid f.id false false)

/-- A request of an engine for instance `i`: lookup, gauntlet and the kind the descriptor wants, then its way out;
`none` while the weir or a pool holds it back (R67, R177). `et` is the tag that a read will hold. Log entries 96 and 109: a
request refused for its KIND is captured as refused; one that a bridge decodes to a BAR0 ends as one of a wrong KIND. -/
def State.engineSend (s : State) (e i : Nat) (t : Tlp) (want : Want) (et : Option EngTag) : Option (State × Issue) :=
  let n := 72 + e
  let part := s.instPart i
  let t := { t with reqId := s.instReqId i }
  let (id, s) := s.fresh
  let f := { s.formFrame id n t .ordered (.engine i) with part := some part, lookedUp := true }
  if et.isSome && decide (s.poolFree .completion < t.reserve) then none
  else match s.lookup (some part) n t s.time80 s.tb.era with
    | .badTable es =>
      some (((s.entered f).capture f t false 0x7F true none).tablesUe es (some part) n, .failed stUNMAPPED 0xFFFF)
    | .overlap a b =>
      some ((((s.entered f).capture f t false 0x7F true none).overlapFault f a b).tel 5 n 1 (some f),
        .failed stUNMAPPED 0xFFFF)
    | .denied w c => some (((s.entered f).capture f t false 0x7F true (some w)).deny f c w.idx, .failed stDENIED w.idx)
    | .ecrc w => some ((s.entered f).capture f t false 0x7F true (some w), .failed stUNMAPPED w.idx)
    | .go win dest =>
      let f := s.classify f win
      if kindWrong want win dest then
        some ((s.entered f).capture f t false 0x7F true win, .failed stKIND_MISMATCH f.window)
      else if !f.live && !s.engineFits n f.tlp.cells then none
      else
        let (f, s) := s.stampLive f
        let s := ((s.entered f).countMiss f win).capture f t false (s.lookEgress f dest) (dest == .miss) win
        match dest with
        | .port fid p => s.engineUnicast f win fid p et
        | .mcast g =>
          if t.posted then
            some (s.sendGroup f g (match win with
              | some w => w.fwd
              | none => 0), .ok f.window 0x7F s.selfFid f.id f.live true)
          else some (s, .failed stUNMAPPED f.window)
        | .dropped =>
          if t.posted then some (s.bump R.MAP_DROP, .ok f.window 0x7F s.selfFid f.id false true)
          else some (s, .failed stUNMAPPED f.window)
        | .miss => some (s.missRefused f, .failed stUNMAPPED 0xFFFF)
        | _ => some (s, .failed stUNMAPPED f.window)

end Sys2Proof.Machine
end

