-- ==== Sys2Proof/Machine/Bar0.lean ====
section
/-! DEFINITION. BAR0 of a virtual instance (R153 to R156, R191): queue registers, doorbells, enabling, disabling and
resuming rings, the MSI-X table and pending bits (R192). -/

namespace Sys2Proof.Machine

/-! ### Rings enabled, disabled, resumed -/

/-- EN goes from 0 to 1: PROD, DONE and DB_REFUSED cleared, the ring idle (R156). The destination set stays: its
entries last until the ring's next fence (R170). -/
def State.ringEnable (s : State) (i q : Nat) : State :=
  let s := (s.setQreg i q qPROD 0).setQreg i q qDONE 0
  let s := (s.putQreg i q qSTS 2 0 0).putQreg i q qSTS 31 24 0
  let s := s.modRing i q fun r => { dest := r.dest }
  s.putQreg i q qCFG 16 16 1

/-- EN = 0 written: at once, or when the descriptors that have started have finished (R156). -/
def State.ringDisable (s : State) (i q : Nat) : State :=
  if !s.qEnabled i q then s
  else if (s.ring i q).runs.isEmpty then s.ringOff i q
  else s.modRing i q fun r => { r with disabling := true }

/-- RESUME = 1: a halted ring goes on; ignored in any other state (R156). -/
def State.ringResume (s : State) (i q : Nat) : State := if s.halted i q then s.putQreg i q qSTS 2 0 0 else s

/-- Descriptors at or beyond PROD that have not started are no longer pending: what was fetched or read ahead for them goes
(R154; log entry 97). -/
def State.dropWithdrawn (s : State) (i q : Nat) : State :=
  let n := s.outstanding i q
  let done := s.qreg i q qDONE
  let out (k : Nat) : Bool := decide (n ≤ (k + 2 ^ 32 - done) % 2 ^ 32)
  let started (k : Nat) : Bool := (s.ring i q).runs.any fun d => d.n == k
  let gone (k : Nat) : Bool := out k && !started k
  let reads := ((s.ring i q).ahead.filter fun d => gone d.n).flatMap fun d => d.aheadReads
  let s := reads.foldl (fun s x => s.discardLog (s.engineOf i q) i q x dSTOP) s
  let s := s.modRing i q fun r => { r with
    fetched := r.fetched.filter (fun x => !gone x.1), ahead := r.ahead.filter fun d => !gone d.n }
  s.modEngTags fun t => if t.inst = i ∧ t.ring = q ∧ (match t.why with
    | .fetch k => gone k
    | .source k _ => gone k
    | _ => false) = true then { t with discard := true } else t

/-- The doorbell (R154, R156): ignored while EN reads 0; refused when more descriptors would be pending than the ring
holds. -/
def State.doorbell (s : State) (i q : Nat) (v : W32) : State :=
  if !s.qEnabled i q || s.instState i == iRESETTING then s
  else if (v.toNat + 2 ^ 32 - s.qreg i q qDONE) % 2 ^ 32 ≤ s.qSize i q then
    let s := s.modRing i q fun r => { r with rung := match r.rung with
      | some (at', prod) => some (s.now, if at' = s.now then prod else s.qreg i q qPROD)
      | none => some (s.now, s.qreg i q qPROD) }
    (s.setQreg i q qPROD v.toNat).dropWithdrawn i q
  else
    let n := bits (s.qreg i q qSTS) 31 24
    let s := s.putQreg i q qSTS 31 24 (min (n + 1) 255)
    if s.bound i q then s.bump (R.ENG_DB_REFUSED (s.engineOf i q)) else s

/-- A write of INST_Q_CFG: the other fields only while EN reads 0, values outside a field's range stored as the nearest
in range (R5, R156). EN = 1 written while EN = 0 waits for the current descriptor changes nothing (log entry 109). -/
def State.writeQcfg (s : State) (i q v : Nat) : State :=
  let en := bit v 16
  if s.qEnabled i q then (if en then s else s.ringDisable i q)
  else
    let s := s.putQreg i q qCFG 4 0 (max 4 (min (bits v 4 0) 16))
    let s := s.putQreg i q qCFG 10 8 (min (bits v 10 8) 3)
    let s := s.putQreg i q qCFG 15 12 (bits v 15 12)
    if en then s.ringEnable i q else s

/-! ### The register view -/

/-- A 4-byte read of BAR0 (R191). -/
def State.bar0Read (s : State) (i off : Nat) : W32 :=
  if off < 0x400 then
    let q := off / 0x100
    let r := off % 0x100
    if r = qCFG then
      BitVec.ofNat 32 (putBits (putBits (s.qreg i q qCFG) 27 24 (s.engineOf i q)) 28 28 (ofBool (s.bound i q)))
    else if r = qSTS then
      let st := s.ringState i q
      BitVec.ofNat 32 (putBits (putBits (s.qreg i q qSTS) 2 0 st.1) 6 4 st.2)
    else if r = 0x14 ∨ 0x28 ≤ r then 0
    else s.bar (Fn.inst i).num off
  else if 0x8000 ≤ off ∧ off < 0x8080 ∨ off = 0x9000 then s.bar (Fn.inst i).num off
  else 0

/-- A 4-byte write of BAR0 (R191); reserved offsets and read-only registers ignore it. -/
def State.bar0Write (s : State) (i off : Nat) (v : W32) : State :=
  let fn := (Fn.inst i).num
  if off < 0x400 then
    let q := off / 0x100
    let r := off % 0x100
    if r = qCFG then s.writeQcfg i q v.toNat
    else if r = 0x14 then (if bit v.toNat 0 then s.ringResume i q else s)
    else if r = qPROD then s.doorbell i q v
    else if s.qEnabled i q then s
    else if r = qBASE then s.setBar fn off (v &&& 0xFFFFFFC0)
    else if r = qCMPL then s.setBar fn off (v &&& 0xFFFFFFF0)
    else if r = qBASE + 4 ∨ r = qCMPL + 4 then s.setBar fn off v
    else s
  else if 0x8000 ≤ off ∧ off < 0x8080 then
    s.setBar fn off (if off % 16 = 12 then v &&& 1 else if off % 16 = 0 then v &&& 0xFFFFFFFC else v)
  else s

/-- Bytes read from a memory request that reaches BAR0: as 4-byte reads in ascending order (R191). -/
def State.bar0ReadBytes (s : State) (i off len : Nat) : List Byte :=
  let first := off / 4 * 4
  let ws := (upTo (ceilDiv (off % 4 + len) 4)).flatMap fun k => leBytes 4 (s.bar0Read i ((first + 4 * k) % 65536)).toNat
  (ws.drop (off % 4)).take len

/-- A memory write that reaches BAR0: its whole aligned words, in ascending order; pieces of fewer than 4 bytes are
ignored (R191). -/
def State.bar0WriteBytes (s : State) (i off : Nat) (bs : List Byte) : State :=
  let skip := (4 - off % 4) % 4
  let whole := bs.drop skip
  (upTo (whole.length / 4)).foldl (fun s k =>
    s.bar0Write i ((off + skip + 4 * k) % 65536) (BitVec.ofNat 32 (leNat ((whole.drop (4 * k)).take 4)))) s

/-! ### Messages (R192) -/

/-- May a message of vector `v` be sent: vector and function unmasked, MSI-X enabled, Bus Master Enable, and no reset under way (R192, R198)? -/
def State.msixMay (s : State) (i v : Nat) : Bool :=
  let fn := (Fn.inst i).num
  let ctl := (s.cfg fn cMsix).toNat
  bit ctl 31 && !bit ctl 30 && !bit (s.bar fn (0x8000 + 16 * v + 12)).toNat 0 && s.mayIssue i
    && s.instState i != iRESETTING

/-- A pending message sent by the engine of the ring whose event set the bit last, and the bit cleared (R192). One that
is refused on its way is gone with its bit (log entry 18). -/
def State.sendPending (s : State) (i v : Nat) : State :=
  let fn := (Fn.inst i).num
  let q := storeGet 0 s.pbaRing (8 * i + v)
  if !bit (s.bar fn 0x9000).toNat v || !s.msixMay i v || !s.instPresent i || !s.bound i q then s
  else
    let w (k : Nat) : Nat := (s.bar fn (0x8000 + 16 * v + 4 * k)).toNat
    let t : Tlp := { kind := .memWrite, tc := Fin.ofNat 8 (s.qTc i q), addr := BitVec.ofNat 64 (w 0 + w 1 * 2 ^ 32),
                     len := 4, data := leBytes 4 (w 2) }
    match s.engineSend (s.engineOf i q) i t .access none with
    | none => s
    | some (s, _) => s.setBar fn 0x9000 (s.bar fn 0x9000 &&& ~~~ ((1 : W32) <<< v))

/-- An event of a ring that calls for a message: pending, and sent when it may be (R164, R192). -/
def State.fireVector (s : State) (i q v : Nat) : State := (s.pendVector i q v).sendPending i v

end Sys2Proof.Machine
end

