-- ==== Sys2Proof/Machine/Engines.lean ====
section
/-! DEFINITION. The commands of the flume engines (R150 to R184): doorbells and rings, fetches, contexts, source reads
and run-ahead, destination writes and implicit fences, completions, finishing, timeouts and aborts. -/

namespace Sys2Proof.Machine

/-! ### Rings -/

/-- DOORBELL: a write of INST_Q_PROD (R154). -/
def execDoorbell (inst ring : Nat) (prod : W32) (s : State) : Out := .next (s.doorbell (inst % 512) (ring % 4) prod)

/-- RING_ENABLE: EN written 1 (R156). -/
def execRingEnable (inst ring : Nat) (s : State) : Out :=
  let i := inst % 512
  let q := ring % 4
  .next (if s.qEnabled i q then s else s.ringEnable i q)

/-- RING_DISABLE: EN written 0 (R156). -/
def execRingDisable (inst ring : Nat) (s : State) : Out := .next (s.ringDisable (inst % 512) (ring % 4))

/-- RING_RESUME: RESUME written 1 (R156). -/
def execRingResume (inst ring : Nat) (s : State) : Out := .next (s.ringResume (inst % 512) (ring % 4))

/-! ### Fetch (R155) -/

/-- May descriptors of a ring be fetched and made current now (R155, R156)? -/
def State.ringServed (s : State) (i q : Nat) : Bool :=
  s.qEnabled i q && !s.halted i q && !(s.ring i q).disabling && s.bound i q && s.headgate i && s.mayIssue i
    && s.instPresent i && s.engineReady (s.engineOf i q)

/-- Descriptor fetches of a ring still to return. -/
def State.fetching (s : State) (i q : Nat) : Nat :=
  (s.engTags.filter fun t => t.inst == i && t.ring == q && !t.discard && (match t.why with
    | .fetch _ => true
    | _ => false)).length

/-- A fetched descriptor in its place by count (fetches may return in any order). -/
def insertFetched (x : Nat × BitVec 512 × Nat) (done : Nat) :
    List (Nat × BitVec 512 × Nat) → List (Nat × BitVec 512 × Nat)
  | [] => [x]
  | y :: ys =>
    if (x.1 + 2 ^ 32 - done) % 2 ^ 32 < (y.1 + 2 ^ 32 - done) % 2 ^ 32 then x :: y :: ys
    else y :: insertFetched x done ys

def State.fetchedOne (s : State) (i q n : Nat) (raw : BitVec 512) (status : Nat) : State :=
  let done := s.qreg i q qDONE
  s.modRing i q fun r => { r with fetched := insertFetched (n, raw, status) done r.fetched }

/-- Descriptors started and not finished, fetched or being fetched. -/
def State.taken (s : State) (i q : Nat) : Nat :=
  (s.ring i q).runs.length + (s.ring i q).fetched.length + s.fetching i q

/-- The recovery class of R182: DIAGNOSTIC mode, or an instance in RECOVERY. -/
def State.recoveryClass (s : State) (i : Nat) : Bool := s.mode == mDIAGNOSTIC || s.instState i == iRECOVERY

/-- A read tag about to be issued. -/
def State.newTag (s : State) (e i q : Nat) (why : ReadFor) (addr : W64) (len : Nat) (ahead : Bool) : EngTag × State :=
  let (id, s) := s.fresh
  ({ id := id, engine := e, inst := i, ring := q, reqId := s.instReqId i, tag := 0, why := why, addr := addr, len := len,
     ahead := ahead, recovery := s.recoveryClass i }, s)

/-- A read of an engine: a free tag of 512, then `engineSend` (R150, R177). -/
def State.engineRead (s : State) (e i q tc : Nat) (addr : W64) (len : Nat) (why : ReadFor) (want : Want) (ahead : Bool) :
    Option (State × Issue) :=
  if 512 ≤ (s.tagsOf e).length then none
  else
    let (x, s) := s.newTag e i q why addr len ahead
    (s.engineSend e i { kind := .memRead, tc := Fin.ofNat 8 tc, addr := addr, len := len } want (some x)).map fun r =>
      -- With a tag outstanding the instance is not idle (R197).
      (if r.1.flag (R.VIM_INST_STS_IDLE i) && r.1.engTags.any (fun t => t.inst == i) then r.1.fset (R.VIM_INST_STS_IDLE i) 0
       else r.1, r.2)

/-- Bytes of the reorder buffer reserved: source reads outstanding and data held (ENG_BUF_STS). -/
def State.rbBytes (s : State) (e : Nat) : Nat :=
  (s.tagsOf e).foldl (fun n t => n + t.len - t.got) 0
    + (s.boundRings e).foldl (fun n k =>
      let r : RingSt := storeGet {} s.rings k
      (r.runs ++ r.ahead).foldl (fun n d => n + d.held) n) 0

/-- DESCRIPTOR_FETCH: the next pending descriptor of a ring is read, at most eight ahead of the current one, in TC0, with
reorder-buffer space for it (R154, R155, R177). -/
def execDescriptorFetch (inst ring : Nat) (s : State) : Out :=
  let i := inst % 512
  let q := ring % 4
  let e := s.engineOf i q
  let n := (s.qreg i q qDONE + s.taken i q) % 2 ^ 32
  if !s.ringServed i q || decide (8 ≤ (s.ring i q).fetched.length + s.fetching i q)
      || decide (s.outstanding i q ≤ s.taken i q) || decide (262144 < s.rbBytes e + 64) then .next s
  else
    let addr := BitVec.ofNat 64 (s.qaddr i q qBASE + 64 * (n % s.qSize i q))
    match s.engineRead e i q 0 addr 64 (.fetch n) .access false with
    | none => .next s
    | some (s, .ok _ _ _ _ _ _) => .next s
    | some (s, .failed _ _) => .next (s.fetchedOne i q n 0 stRECORD_FAILED)

/-! ### Contexts (R157, R162, R175) -/

/-- The fence a FENCE or a FREEZE starts over a destination set (R171, R172). -/
def fenceOf (ds : List DestEntry) : Fence :=
  { toRead := ds.filter fun d => !d.inside, waits := ds.filter fun d => d.inside }

/-- The settled instant of a TIMED descriptor, none while edge K is still to come, and whether it has passed (R175). -/
def State.timedInstant (s : State) (d : BitVec 512) : Option Nat × Bool :=
  let frac := bits (dOpx0 d) 15 0
  if !bit (dOpx0 d) 16 then
    let t := dSrc d * 65536 + frac
    (some t, decide (t < s.time80))
  else
    let k := bits (dSrc d) 31 0
    let off := bits (dSrc d) 61 32 * 65536 + frac
    let ahead := (k + 2 ^ 32 - s.fget R.SLU_FS_COUNT_COUNT) % 2 ^ 32
    if ahead = 0 then
      let t := (match s.fs.last with
        | some x => x.toNat
        | none => 0) + off
      (some t, decide (t < s.time80))
    else if ahead < 2 ^ 31 then (none, false)
    else (some 0, true)

/-- A TIMED descriptor released now (R176). -/
def State.releaseTimed (s : State) (i q n : Nat) (late missed : Bool) : State :=
  let t := s.ns
  s.modRun i q n fun d =>
    { d with status := some stOK, current := false, released := some t, result := t % 2 ^ 32, late := late, missed := missed }

/-- A fetched descriptor becomes current: with its run-ahead data, ended at once when its fetch or its fields are bad,
held when it is a FENCE or TIMED (R157, R162, R171, R175). -/
def State.startDesc (s : State) (i q n : Nat) (raw : BitVec 512) (status : Nat) : State :=
  let r := s.ring i q
  let base : DescRun := (r.ahead.find? fun d => d.n == n).getD { n := n, raw := raw, started := s.now }
  let inside := r.destNow.any (·.inside)
  let o := dOpcode raw
  let crc : W32 := if bit (dOpx1 raw) 0 then ~~~ (BitVec.ofNat 32 (dOpx0 raw)) else 0xFFFFFFFF
  let d : DescRun :=
    if status ≠ 0 then { base with current := false, status := some status, result := 0xFFFF + 2 * 2 ^ 16 }
    else if badDesc raw then { base with current := false, status := some stBAD_DESC, result := 0xFFFF }
    else if base.status.isSome then { base with current := false, segs := [] }
    else if o = opFENCE then
      -- The ninth entry of an implicit fence still under way is in the set too (R170, R171).
      { base with current := true, fence := some (fenceOf r.destNow), fencedInside := inside, started := s.now }
    else { base with current := true, started := s.now, crc := if base.pos = 0 then crc else base.crc }
  let s := s.modRing i q fun r => { r with
    fetched := r.fetched.drop 1, runs := r.runs ++ [d], ahead := r.ahead.filter fun x => x.n != n, restored := false }
  -- What was read ahead is the current descriptor's from now on.
  let s := s.modEngTags fun t =>
    if t.inst = i ∧ t.ring = q ∧ (match t.why with
      | .source m _ => m == n
      | _ => false) = true then { t with ahead := false } else t
  if d.status.isNone && o == opTIMED then
    let t := s.timedInstant raw
    let s := s.modRun i q n fun d => { d with instant := t.1 }
    if t.2 then s.releaseTimed i q n true false else s
  else s

/-- The next ring after a pointer, among those an engine serves, that a test accepts (R59, R157). -/
def State.nextRing (s : State) (e ptr : Nat) (ok : Nat → Nat → Bool) : Option Nat :=
  let ks := s.boundRings e
  let good := fun k => ok (k / 4) (k % 4)
  match ks.find? fun k => decide (ptr < k) && good k with
  | some k => some k
  | none => ks.find? fun k => good k

/-- Has a ring a descriptor to start: served, nothing current, the next one fetched (R157, R158)? A ring with a
descriptor that has ended with a halting status starts none. -/
def State.canStart (s : State) (i q : Nat) : Bool :=
  let r := s.ring i q
  s.ringServed i q && r.runs.all (fun d => !(d.current && d.status.isNone) && (match d.status with
    | some st => decide (st < 0x10)
    | none => true)) && decide (r.runs.length < s.outstanding i q) && (match r.fetched with
    | (n, _, _) :: _ => n == (s.qreg i q qDONE + r.runs.length) % 2 ^ 32
    | [] => false)

/-- CONTEXT_GRANT: a free context goes to the next waiting ring of the rotating pointer (R157). -/
def execContextGrant (engine : Nat) (s : State) : Out :=
  let e := engine % 16
  if 8 ≤ s.contexts e then .next s
  else match s.nextRing e (s.eng e).ctxPtr s.canStart with
    | none => .next s
    | some k =>
      let s := s.modEng e fun x => { x with ctxPtr := k }
      match (s.ring (k / 4) (k % 4)).fetched with
      | (n, raw, st) :: _ => .next (s.startDesc (k / 4) (k % 4) n raw st)
      | [] => .next s

/-! ### Source reads (R152, R171, R177, R179) -/

/-- Run-ahead bytes held or outstanding (ENG_RA_STS). -/
def State.raBytes (s : State) (e : Nat) : Nat :=
  ((s.tagsOf e).filter fun t => t.ahead && !t.discard).foldl (fun n t => n + t.len - t.got) 0
    + (s.boundRings e).foldl (fun n k =>
      (storeGet {} s.rings k : RingSt).ahead.foldl (fun n d => n + d.held) n) 0

/-- The descriptors behind the current one that may be read ahead: none behind a TIMED one, none with NO_RA, none that
is bad; reading stops at the first that is not through (R179). -/
def aheadOf (r : RingSt) : List (Nat × BitVec 512 × Nat) → Option (DescRun × BitVec 512)
  | [] => none
  | (n, raw, st) :: rest =>
    let d : DescRun := (r.ahead.find? fun x => x.n == n).getD { n := n, raw := raw, current := false }
    if st ≠ 0 ∨ badDesc raw ∨ dOpcode raw = opTIMED ∨ d.status.isSome then none
    else if !readsSource (dOpcode raw) then aheadOf r rest
    else if dNoRa raw then none
    else if d.readPos < srcTotal raw then some (d, raw)
    else aheadOf r rest

/-- The run-ahead read a ring may make now: while an earlier descriptor is current or a FENCE holds it, within
RA_KIB, through a window with IDEMP = 1 (R179). -/
def State.aheadRead (s : State) (e i q : Nat) : Option (DescRun × BitVec 512 × Nat × Nat × Nat) :=
  let r := s.ring i q
  match r.runs.find? fun d => d.current && d.status.isNone with
  | none => none
  | some c =>
    if !s.flag (R.ENG_CTL_RA_EN e) || c.opcode == opTIMED || !s.ringServed i q then none
    else match aheadOf r r.fetched with
      | none => none
      | some (d, raw) =>
        let pc := srcPiece raw (s.fget (R.ENG_SIZE_MAX_RD_LOG2 e)) d.readPos
        let t : Tlp := { kind := .memRead, addr := BitVec.ofNat 64 pc.1, len := pc.2 }
        let idemp := match s.lookup (some (s.instPart i)) (72 + e) t s.time80 s.tb.era with
          | .go (some w) _ => if w.idemp then some w.idx else none
          | _ => none
        match idemp with
        | none => none
        | some w =>
          if s.raBytes e + pc.2 ≤ 1024 * s.fget (R.ENG_CTL_RA_KIB e) then some (d, raw, pc.1, pc.2, w) else none

/-- The next read a ring has to issue. -/
inductive NextRead where
  | fence (why : ReadFor) (d : DestEntry)
  | source (n : Nat) (raw : BitVec 512) (off : Nat)
  | ahead (d : DescRun) (raw : BitVec 512) (addr len window : Nat)
  deriving DecidableEq, Repr

/-- Fences first, then the current descriptor's sources, then run-ahead. -/
def State.nextRead (s : State) (e i q : Nat) : Option NextRead :=
  let r := s.ring i q
  let cur := r.runs.find? fun d => d.current && d.status.isNone
  if !s.mayIssue i || !s.enginesRun then none
  else match r.freeze with
  | some { toRead := d :: _, .. } => some (.fence .freeze d)
  | _ =>
    if s.halted i q then none
    else match r.implicit with
    | some ({ toRead := d :: _, .. }, _, _) => some (.fence .implicit d)
    | _ =>
      match cur with
      | none => none
      | some c =>
        match c.fence with
        | some { toRead := d :: _, .. } => some (.fence (.fence c.n) d)
        | _ =>
          if c.opcode != opFENCE && c.opcode != opTIMED && decide (c.readPos < srcTotal c.raw) then
            some (.source c.n c.raw c.readPos)
          else (s.aheadRead e i q).map fun x => .ahead x.1 x.2.1 x.2.2.1 x.2.2.2.1 x.2.2.2.2

/-- A fence of a ring changed in place. -/
def State.modFence (s : State) (i q : Nat) (why : ReadFor) (f : Fence → Fence) : State :=
  match why with
  | .fence n => s.modRun i q n fun d => { d with fence := d.fence.map f }
  | .implicit => s.modRing i q fun r => { r with implicit := r.implicit.map fun x => (f x.1, x.2) }
  | .freeze => s.modRing i q fun r => { r with freeze := r.freeze.map f }
  | _ => s

/-- Has a descriptor issued its last request (R157)? -/
def DescRun.allIssued (d : DescRun) : Bool :=
  decide (srcTotal d.raw ≤ d.readPos) && (d.opcode == opCHECK || decide (dstTotal d.raw ≤ d.pos))

/-- A context is released once the last request has been issued (R157). -/
def State.release (s : State) (i q n : Nat) : State :=
  s.modRun i q n fun d =>
    if d.opcode != opFENCE && d.opcode != opTIMED && d.allIssued then { d with current := false } else d

/-- One read of a ring issued; nothing happens while tags, buffer space, reservation or weir forbid it (R177). -/
def State.issueRead (s : State) (e i q : Nat) (x : NextRead) : State :=
  match x with
  | .fence why d =>
    match s.engineRead e i q d.tc d.addr 0 why .access false with
    | none => s
    | some (s, .ok _ _ _ _ _ _) =>
      s.modFence i q why fun f => { f with toRead := f.toRead.drop 1, outstanding := f.outstanding + 1 }
    | some (s, .failed _ _) => s.modFence i q why fun f => { f with toRead := f.toRead.drop 1, failed := true }
  | .source n raw off =>
    let pc := srcPiece raw (s.fget (R.ENG_SIZE_MAX_RD_LOG2 e)) off
    if 262144 < s.rbBytes e + pc.2 then s
    else match s.engineRead e i q (dRdTc raw) (BitVec.ofNat 64 pc.1) pc.2 (.source n off) .source false with
      | none => s
      | some (s, .ok _ _ _ _ _ _) => (s.modRun i q n fun d => { d with readPos := off + pc.2 }).release i q n
      | some (s, .failed st w) => s.endDesc i q n st (errResult w 0)
  | .ahead d raw addr len w =>
    if 262144 < s.rbBytes e + len then s
    else match s.engineRead e i q (dRdTc raw) (BitVec.ofNat 64 addr) len (.source d.n d.readPos) .source true with
      | none => s
      | some (s, .ok _ _ _ _ _ _) =>
        let d' := { d with readPos := d.readPos + len, aheadReads := d.aheadReads ++ [(BitVec.ofNat 64 addr, w, len)] }
        s.modRing i q fun r => { r with ahead := r.ahead.filter (fun y => y.n != d.n) ++ [d'] }
      | some (s, .failed st w) =>
        let d' := { d with status := some st, result := errResult w 0 }
        s.modRing i q fun r => { r with ahead := r.ahead.filter (fun y => y.n != d.n) ++ [d'] }

/-- SOURCE_READ_ISSUE: the next ring with a read to make, by the rotating pointer, issues it (R157, R177). -/
def execSourceReadIssue (engine : Nat) (s : State) : Out :=
  let e := engine % 16
  if 3 ≤ s.fget (R.ENG_STS_STATE e) then .next s
  else match s.nextRing e (s.eng e).readPtr fun i q => (s.nextRead e i q).isSome with
    | none => .next s
    | some k =>
      match s.nextRead e (k / 4) (k % 4) with
      | none => .next s
      | some x => .next ((s.modEng e fun y => { y with readPtr := k }).issueRead e (k / 4) (k % 4) x)

/-! ### Destination writes (R159, R165 to R170) -/

/-- Have all copies of a frame gone, in the sense of R129: none queued, in transmission, waiting or unacknowledged? -/
def State.frameGone (s : State) (id : Nat) : Bool :=
  s.sw.copies.all (fun c => c.frame != id) && s.sw.waiting.all fun w => w.frame.id != id

/-- Is a fence over: every read returned, every write of the entries fenced inside gone (R171, R172)? -/
def State.fenceOver (s : State) (f : Fence) : Bool :=
  f.toRead.isEmpty && f.outstanding == 0 && f.waits.all fun d => d.frames.all s.frameGone

/-- An implicit fence that is over: the set holds only the ninth entry; one that failed ends the descriptor whose write
added it (R170, R173). -/
def State.settleImplicit (s : State) (i q : Nat) : State :=
  match (s.ring i q).implicit with
  | none => s
  | some (f, d, n) =>
    if !s.fenceOver f then s
    else
      let s := s.modRing i q fun r => { r with implicit := none, dest := [d] }
      if f.failed then s.endDesc i q n stFENCE_FAILED (errResult 0xFFFF 1) else s

/-- The destination set after a write (R170): its entry's last address, a new entry, or a ninth one, which starts an
implicit fence of the other eight. -/
def State.addDest (s : State) (i q n : Nat) (d : DestEntry) : State :=
  let r := s.ring i q
  let same := fun (x : DestEntry) => x.window == d.window && x.egress == d.egress && x.fid == d.fid && x.tc == d.tc
  let keep := fun (x : DestEntry) => x.frames.filter fun k => !s.frameGone k
  if r.dest.any same then
    s.modRing i q fun r => { r with
      dest := r.dest.map fun x => if same x then { x with addr := d.addr, inside := d.inside, frames := keep x ++ d.frames } else x }
  else if r.dest.length < 8 then s.modRing i q fun r => { r with dest := r.dest ++ [d] }
  else (s.modRing i q fun r => { r with implicit := some (fenceOf r.dest, d, n) }).bump
    (R.ENG_FENCE_IMPLICIT (s.engineOf i q))

/-- The destination piece a run can write now: address, bytes and poison. -/
def State.readyWrite (s : State) (e : Nat) (d : DescRun) : Option (Nat × List Byte × Bool) :=
  if writesDest d.opcode && decide (d.pos < dstTotal d.raw) then
    let pc := dstPiece d.raw (s.fget (R.ENG_SIZE_MAX_WR_LOG2 e)) d.pos
    (destBytes d.raw d.segs d.pos pc.2).map fun b => (pc.1, b.1, b.2)
  else none

/-- Bytes of a run's destination stream that a turn with `room` bytes left can move towards its next write, when they are
there (R157). -/
def State.readyCell (s : State) (e : Nat) (d : DescRun) (room : Nat) : Option Nat :=
  if writesDest d.opcode && decide (d.pos < dstTotal d.raw) then
    let n := min room ((dstPiece d.raw (s.fget (R.ENG_SIZE_MAX_WR_LOG2 e)) d.pos).2 - d.moved)
    (destBytes d.raw d.segs (d.pos + d.moved) n).map fun _ => n
  else none

/-- The source bytes a CHECK can take in one turn, up to 256 (R157). -/
def readyCheck (d : DescRun) : Option (List Byte × Bool) :=
  if d.opcode == opCHECK && decide (d.pos < srcTotal d.raw) then
    let n := min 256 (srcTotal d.raw - d.pos)
    match sourceBytes d.segs d.pos n with
    | some r => some r
    | none => none
  else none

/-- The run of a ring that a turn can move: the current one, or a CHECK that still has bytes to take (R157). -/
def State.turnRun (s : State) (e i q : Nat) : Option DescRun :=
  let r := s.ring i q
  if s.halted i q then none
  else r.runs.find? fun d => d.status.isNone && ((readyCheck d).isSome
    || (d.current && (match r.implicit with
        | some (f, _, _) => s.fenceOver f
        | none => true) && s.mayIssue i && s.enginesRun && (s.readyCell e d 256).isSome))

/-- Part of a turn: what a run with `room` bytes of its cell left moves towards one write, with the write once all its bytes
have moved; and the bytes moved (R157). -/
def State.turnPart (s : State) (e i q : Nat) (d : DescRun) (room : Nat) : State × Nat :=
  match s.readyCell e d room, s.readyWrite e d with
  | none, _ => (s, 0)
  | some n, none => (s.modRun i q d.n fun x => { x with moved := x.moved + n }, n)
  | some n, some (addr, bs, p) =>
    if d.moved + n < bs.length then (s.modRun i q d.n fun x => { x with moved := x.moved + n }, n)
    else
    let t : Tlp := { kind := .memWrite, tc := Fin.ofNat 8 (dWrTc d.raw), addr := BitVec.ofNat 64 addr, len := bs.length,
                     data := bs, poison := p }
    match s.engineSend e i t (if d.opcode = opMCOPY then .mdest else .dest) none with
    | none => (s, 0)
    | some (s, .failed st w) => (s.endDesc i q d.n st (errResult w 1), 0)
    | some (s, .ok w eg fid fr live mcast) =>
      let s := s.bumpBy (R.ENG_BYTES_WR e) bs.length
      let s := s.modRun i q d.n fun x => { x with
        pos := x.pos + bs.length, moved := 0, poison := x.poison || p
        segs := releaseSegs x.segs (sourceNeeded x.raw (x.pos + bs.length)) }
      let s := s.release i q d.n
      (s.addDest i q d.n { window := w, egress := eg, fid := fid, tc := dWrTc d.raw, addr := t.addr,
                           inside := live || mcast || decide (4 ≤ dWrTc d.raw), frames := [fr] }, n)

/-- What is left of a turn: a cell of 256 bytes of the destination stream may take several writes (R157). -/
def State.turnParts (e i q n : Nat) : Nat → Nat → State → State
  | 0, _, s => s
  | fuel + 1, room, s =>
    match s.turnRun e i q with
    | some d =>
      if d.n = n ∧ 0 < room ∧ (readyCheck d).isNone = true then
        let r := s.turnPart e i q d room
        if r.2 = 0 then r.1 else State.turnParts e i q n fuel (room - r.2) r.1
      else s
    | none => s

/-- One turn of a run: a cell of its destination stream, or bytes of a CHECK (R157). -/
def State.turn (s : State) (e i q : Nat) (d : DescRun) : State :=
  match readyCheck d with
  | some (bs, p) =>
    s.modRun i q d.n fun x => { x with
      pos := x.pos + bs.length, crc := crcRun x.crc bs, poison := x.poison || p
      segs := releaseSegs x.segs (x.pos + bs.length) }
  | none => State.turnParts e i q d.n 256 256 s

/-- ENGINE_WRITE_ISSUE: one turn: the next busy context of the rotating pointer moves a cell of its destination stream, in
line order, or source bytes of a CHECK (R157, R159). -/
def execEngineWriteIssue (engine : Nat) (s : State) : Out :=
  let e := engine % 16
  match s.nextRing e (s.eng e).turnPtr fun i q => (s.turnRun e i q).isSome with
  | none => .next s
  | some k =>
    let i := k / 4
    let q := k % 4
    let s := (s.modEng e fun x => { x with turnPtr := k }).settleImplicit i q
    match s.turnRun e i q with
    | none => .next s
    | some d => .next (s.turn e i q d)

/-! ### Completions (R178) -/

def State.retireTag (s : State) (id : Nat) : State :=
  let gone := (s.engTags.filter fun t => t.id == id).map fun t => (t.reqId, t.tag, t.engine)
  let kept := s.retiredTags.filter fun x => gone.all fun y => x.1 != y.1 || x.2.1 != y.2.1
  { s with engTags := s.engTags.filter (fun t => t.id != id), retiredTags := gone ++ kept }

/-- The run that a source read is for, current, waiting or ahead, changed in place. -/
def State.modSource (s : State) (i q n : Nat) (f : DescRun → DescRun) : State :=
  s.modRing i q fun r => { r with
    runs := r.runs.map (fun d => if d.n = n ∧ d.status = none then f d else d)
    ahead := r.ahead.map fun d => if d.n = n ∧ d.status = none then f d else d }

/-- A source read that ends in an error ends its descriptor: at once when it has started, when its turn comes otherwise
(R169). -/
def State.sourceFailed (s : State) (i q n status window : Nat) : State :=
  if (s.ring i q).ahead.any fun d => d.n == n then
    s.modRing i q fun r => { r with
      ahead := r.ahead.map fun d => if d.n = n then { d with status := some status, result := errResult window 0 } else d }
  else s.endDesc i q n status (errResult window 0)

/-- Bytes of a fetched descriptor. -/
def descOf (bs : List Byte) : BitVec 512 := BitVec.ofNat 512 (leNat (bs.take 64))

/-- A completion for an outstanding tag (R155, R165, R173, R178). A descriptor fetch that is refused ends RECORD_FAILED (log
entry 109). -/
def State.takeCompletion (s : State) (x : EngTag) (c : Tlp) (poison : Bool) : State :=
  let s' := if c.last || c.status != .sc then s.retireTag x.id
    else s.modEngTags fun t => if t.id = x.id then { t with got := t.got + c.data.length } else t
  if x.discard then s'
  else match x.why with
    | .fetch n =>
      if c.status != .sc then s'.fetchedOne x.inst x.ring n 0 stRECORD_FAILED
      else s'.fetchedOne x.inst x.ring n (descOf c.data) (if poison then stFETCH_POISON else 0)
    | .source n off =>
      match c.status with
      | .sc => (s'.bumpBy (R.ENG_BYTES_RD x.engine) c.data.length).modSource x.inst x.ring n fun d =>
          { d with segs := d.segs ++ [{ off := off + x.got, data := c.data, poison := poison }] }
      | .ca => s'.sourceFailed x.inst x.ring n stCOMPLETER_ABORT x.window
      | _ => s'.sourceFailed x.inst x.ring n stUNMAPPED x.window
    | why =>
      let ends := c.last || c.status != .sc
      s'.modFence x.inst x.ring why fun f => { f with
        outstanding := if ends then f.outstanding - 1 else f.outstanding, failed := f.failed || c.status != .sc }

/-- ENGINE_COMPLETION: the next completion delivered to an engine is verified and taken by its tag; `rb` is an
uncorrectable error of the reorder buffer met on the way, which poisons the bytes (R178, R290, R293). -/
def execEngineCompletion (engine : Nat) (rb : Bool) (s : State) : Out :=
  let e := engine % 16
  match (s.eng e).inbox with
  | [] => .next s
  | (c, bad) :: rest =>
    let s := s.modEng e fun x => { x with inbox := rest }
    match s.engTags.find? fun t => t.engine == e && t.reqId == c.reqId && t.tag == c.tag with
    | none => .next (s.bump (R.ENG_LATE_CPL e))
    | some x =>
      let hurt := (bad.bad || rb) && !c.data.isEmpty
      let s := if hurt then
          s.record eRB_UE lvFRAME (some (s.instPart x.inst)) (72 + e)
            (x.addr.toNat + x.window * 2 ^ 64 + c.reqId.toNat * 2 ^ 80 + c.tag.toNat * 2 ^ 96 + bad.ingress * 2 ^ 112
              + (72 + e) * 2 ^ 120 + bad.carried.toNat * 2 ^ 128 + bad.got.toNat * 2 ^ 160 + 6 * 2 ^ 192 + c.data.length * 2 ^ 200)
        else s
      -- A furrow word that does not fit counts against the engine's core port (R298).
      let s := s.takeCompletion x c (c.poison || hurt)
      .next (if bad.bad then s.countError (72 + e) else s)

/-! ### Finishing (R163, R164, R169) -/

/-- Source reads of a descriptor still outstanding. -/
def State.readsOut (s : State) (i q n : Nat) : Bool :=
  s.engTags.any fun t => t.inst == i && t.ring == q && !t.discard && (match t.why with
    | .source m _ => m == n
    | _ => false)

/-- The status with which the head descriptor finishes now, none while it cannot (R164). -/
def State.finishStatus (s : State) (i q : Nat) (d : DescRun) : Option Nat :=
  match d.status with
  | some st => some st
  | none =>
    let implicit := (s.ring i q).implicit.any fun x => x.2.2 == d.n
    if d.opcode = opFENCE then (match d.fence with
      | some f => if s.fenceOver f then some (if f.failed then stFENCE_FAILED else stOK) else none
      | none => none)
    else if d.opcode = opTIMED then none
    else if d.allIssued && (d.opcode != opCHECK || decide (srcTotal d.raw ≤ d.pos)) && !s.readsOut i q d.n && !implicit then
      some (if d.filled then stPOISON_FILL else stOK)
    else none

/-- Statuses whose descriptors write no record (R169). -/
def noRecord (st : Nat) : Bool := st == stRECORD_FAILED || st == stBME_OFF || st == stFETCH_POISON

/-- The completion record as a write of the engine (R163). -/
def State.recordTlp (s : State) (i q st : Nat) (d : DescRun) : Tlp :=
  let result := if st = stFENCE_FAILED ∧ d.status.isNone = true then errResult 0xFFFF 1 else if st < 0x10 then (if d.opcode = opCHECK then (~~~ d.crc).toNat else d.result) else d.result
  { kind := .memWrite, tc := Fin.ofNat 8 (s.qTc i q),
    addr := BitVec.ofNat 64 (s.qaddr i q qCMPL + 16 * (d.n % s.qSize i q)), len := 16,
    data := recordBytes d.n st (s.qSize i q) d.poison d.late d.missed d.fencedInside (dUser d.raw) result d.pos }

/-- The head descriptor leaves its ring: DONE advances (R164). -/
def State.popRun (s : State) (i q n : Nat) : State :=
  let s := s.modRing i q fun r => { r with runs := r.runs.filter fun x => x.n != n }
  s.setQreg i q qDONE ((s.qreg i q qDONE + 1) % 2 ^ 32)

/-- A ring that halts sets its later current descriptor aside: it goes on from where it stands once the ring is resumed
(R157, R169; log entry 20). -/
def State.setAside (s : State) (i q : Nat) : State :=
  s.modRing i q fun r =>
    let held := r.runs.filter fun d => d.current && d.status.isNone
    { r with runs := r.runs.filter (fun d => !(d.current && d.status.isNone))
             fetched := held.map (fun d => (d.n, d.raw, 0)) ++ r.fetched
             ahead := r.ahead ++ held.map fun d => { d with aheadReads := [] } }

/-- The end of a descriptor whose status lets its ring go on (R164). -/
def State.finishGood (s : State) (i q st : Nat) (d : DescRun) : State :=
  let e := s.engineOf i q
  let s := s.popRun i q d.n
  let s := if d.opcode = opFENCE then s.modRing i q fun r => { r with dest := [] } else s
  let s := if d.opcode = opFENCE ∧ bit (dOpx0 d.raw) 0 then s.discardAhead i q dFENCE else s
  let s := if st < 0x10 then s.bump (R.ENG_DESC_DONE e) else s
  let s := s.hist 7 (72 + e) false ((s.now - d.started) * 4 / 5)
  let s := if dIrq d.raw then s.fireVector i q (dVec d.raw) else s
  s.settleOff i q

/-- The end of a descriptor whose status halts its ring (R169). -/
def State.finishHalt (s : State) (i q st : Nat) (d : DescRun) : State :=
  let e := s.engineOf i q
  let s := s.popRun i q d.n
  let s := s.hist 7 (72 + e) false ((s.now - d.started) * 4 / 5)
  let s := if st = stFENCE_FAILED ∧ d.opcode = opFENCE then s.modRing i q fun r => { r with dest := [] } else s
  -- IRQ sends VEC after the record whatever the status (R160).
  let s := if dIrq d.raw then s.fireVector i q (dVec d.raw) else s
  let s := (s.haltRing i q d.n st).setAside i q
  let s := if bit (s.qreg i q qCFG) 15 then s.sendPending i (bits (s.qreg i q qCFG) 14 12) else s
  s.settleOff i q

/-- The head descriptor finished with a status (R164, R169): its record where it has one, then its end. A record that is
refused halts the ring with RECORD_FAILED. -/
def State.finishWith (s : State) (i q st : Nat) (d : DescRun) : State :=
  let halts := decide (0x10 ≤ st)
  let wants := if halts then !noRecord st && s.mayIssue i else dCmpl d.raw
  if !wants then (if halts then s.finishHalt i q st d else s.finishGood i q st d)
  else if !s.mayIssue i then s
  else match s.engineSend (s.engineOf i q) i (s.recordTlp i q st d) .access none with
    | none => s
    | some (s, .ok _ _ _ _ _ _) => if halts then s.finishHalt i q st d else s.finishGood i q st d
    | some (s, .failed _ w) => s.finishHalt i q stRECORD_FAILED { d with result := errResult w 2 }

/-- DESCRIPTOR_FINISH: the first descriptor of a ring that has started finishes when it can: its record is written in
ring order, DONE advances, its message is sent (R158, R164). -/
def execDescriptorFinish (inst ring : Nat) (s : State) : Out :=
  let i := inst % 512
  let q := ring % 4
  let s := s.settleImplicit i q
  match (s.ring i q).runs with
  | [] => .next s
  | d :: _ =>
    match s.finishStatus i q d with
    | none => .next s
    | some st => .next (s.finishWith i q st d)

/-- TIMED_RELEASE: a held ring is released in the first core cycle at or after the instant (R176). -/
def execTimedRelease (inst ring : Nat) (s : State) : Out :=
  let i := inst % 512
  let q := ring % 4
  match (s.ring i q).runs.find? fun d => d.current && d.status.isNone && d.opcode == opTIMED with
  | none => .next s
  | some d => match d.instant with
    | none => .next s
    | some t => .next (if t ≤ s.time80 then s.releaseTimed i q d.n false false else s)

/-! ### Timeouts (R181, R182, R184, R198) -/

/-- AER Completion Timeout of an instance's partition through its engine bridge (R182). -/
def State.engineAer (s : State) (i : Nat) : State :=
  s.aerUncorrectable (Fn.engBridge (s.instPart i)).num (s.instPart i) aerCompletionTimeout []

/-- A read that timed out in normal service is completed inside the engine with poisoned zeros; a fence fails (R173,
R181). -/
def State.fillRead (s : State) (x : EngTag) : State :=
  let s := s.retireTag x.id
  if x.discard then s
  else match x.why with
    | .fetch n =>
      ((s.fetchedOne x.inst x.ring n 0 stFETCH_POISON).bump (R.ENG_POISON_FILL x.engine)).raise (0x200 + x.engine) 2
    | .source n off =>
      let s := s.modSource x.inst x.ring n fun d =>
        { d with filled := true, segs := d.segs ++
            [{ off := off + x.got, data := List.replicate (x.len - x.got) 0, poison := true }] }
      (s.bump (R.ENG_POISON_FILL x.engine)).raise (0x200 + x.engine) 2
    | why => s.modFence x.inst x.ring why fun f => { f with outstanding := f.outstanding - 1, failed := true }

/-- ENG_CTO_EXPIRY: an engine read is not answered within ENG_CTO (R181). -/
def execEngCtoExpiry (id : Nat) (s : State) : Out :=
  match s.engTags.find? fun t => t.id == id with
  | none => .next s
  | some x =>
    -- What an abort or ISOLATE has left over retires after ENG_CTO_RECOV (R183, R308).
    if !x.recovery && !x.stopped && s.instState x.inst != iRESETTING && decide (x.issued + cyclesPerMs * s.fget (R.ENG_CTO_MS x.engine) ≤ s.now) then .next (s.fillRead x)
    else .next s

/-- A read that timed out in the recovery class is reported, and ends its descriptor with CTO unless that has ended before
(R182). -/
def State.ctoRead (s : State) (x : EngTag) : State :=
  let s := s.retireTag x.id
  let s := if x.discard then s else match x.why with
    | .fetch n => s.fetchedOne x.inst x.ring n 0 stCTO
    | .source n _ => s.sourceFailed x.inst x.ring n stCTO x.window
    | why => s.modFence x.inst x.ring why fun f => { f with outstanding := f.outstanding - 1, failed := true }
  ((s.bump (R.ENG_CTO_HALT x.engine)).raise (0x200 + x.engine) 3).engineAer x.inst

/-- ENG_CTO_RECOV_EXPIRY: a read of the recovery class, or one left over by an abort or by ISOLATE, is not answered within
ENG_CTO_RECOV of its issue (R182, R183, R308, log entry 109). -/
def execEngCtoRecovExpiry (id : Nat) (s : State) : Out :=
  match s.engTags.find? fun t => t.id == id with
  | none => .next s
  | some x =>
    let due := decide (x.issued + cyclesPerUs * s.fget (R.ENG_CTO_RECOV_US x.engine) ≤ s.now)
    if !due then .next s
    else if x.stopped then
      let s := s.retireTag x.id
      .next (if s.fget (R.ENG_STS_STATE x.engine) = 2 then s.bump (R.ENG_ABORT_TMO x.engine) else s)
    -- While the instance is being reset its tags retire by RESET_TAG_TIMEOUT (R182, R198).
    else if x.recovery && s.instState x.inst != iRESETTING then .next (s.ctoRead x)
    else .next s

/-- RESET_TAG_TIMEOUT: a tag of an instance being reset retires 10 ms after its reset began; an FLR reports it (R182,
R198). -/
def execResetTagTimeout (id : Nat) (s : State) : Out :=
  match s.engTags.find? fun t => t.id == id with
  | none => .next s
  | some x =>
    if s.instState x.inst == iRESETTING && decide ((s.inst x.inst).resetStart + 10 * cyclesPerMs ≤ s.now) then
      let s := s.retireTag x.id
      .next (if (s.inst x.inst).byFlr then (s.bump (R.ENG_CTO_HALT x.engine)).engineAer x.inst else s)
    else .next s

/-! ### Aborts (R183, R184) -/

/-- ENGINE_ABORT: ENG_CTL.ABORT written 1. -/
def execEngineAbort (engine : Nat) (s : State) : Out := .next (s.abortEngine (engine % 16))

/-- ENGINE_STOPPED: the last tag of an ABORTING engine has retired; one stopped for a PORT action goes on by itself
(R184, R297). -/
def execEngineStopped (engine : Nat) (s : State) : Out :=
  let e := engine % 16
  if s.fget (R.ENG_STS_STATE e) != 2 || !(s.tagsOf e).isEmpty then .next s
  else
    let again := (s.eng e).autoRestart
    let s := (s.fset (R.ENG_STS_STATE e) (if again then 0 else 3)).raise (0x200 + e) 4
    .next (s.modEng e fun x => { x with autoRestart := false })

/-- RESTART in STOPPED returns the engine to IDLE (R184), unless it has failed its self-test (R426). -/
def State.engineRestart (s : State) (e : Nat) : State :=
  if s.fget (R.ENG_STS_STATE e) = 3 ∧ bit s.board.badEngines e = false then s.fset (R.ENG_STS_STATE e) 0 else s

/-- ENGINE_RESTART: ENG_CTL.RESTART written 1. -/
def execEngineRestart (engine : Nat) (s : State) : Out := .next (s.engineRestart (engine % 16))

/-- MSIX_PENDING_SEND: a pending message that may be sent now is sent and its bit cleared (R192). -/
def execMsixPendingSend (inst vector : Nat) (s : State) : Out := .next (s.sendPending (inst % 512) (vector % 8))

end Sys2Proof.Machine
end

