-- ==== Sys2Proof/Machine/Core88.lean ====
section
/-! DEFINITION. Requests issued at core port 88: posted writes towards a partition's upstream port, and reads with tag
record, reservation, pool and proxy tag (R55, R101, R102, R227, R465). -/

namespace Sys2Proof.Machine

/-- A read of core port 88 with its reservation and pool: given its tag and queued, or kept waiting for what it lacks
(R55, R227, R465). -/
def State.launchCore (s : State) (f : Frame) (c : Copy) (owner : Option Nat) : State :=
  match f.record with
  | none => s
  | some r =>
    let reserved := (s.sw.tags.find? fun t => t.id == r).any fun t => t.reserved != 0
    if !reserved && decide (s.poolFree .completion < f.tlp.reserve) then s.wait f .reservation [c]
    else
      let s := s.modTag r fun t => { t with reserved := f.tlp.reserve }
      if s.poolQueue .management || decide (s.poolFree .management < f.tlp.cells) then s.wait f .pool [c]
      else (s.place f c owner (some r)).1

/-- A read issued at core port 88 towards a core port of a device, without lookup; false when it has no way out (R106,
R223). -/
def State.coreRead (s : State) (fid p : Nat) (addr : W64) (len : Nat) (why : CoreWhy) : State × Bool :=
  match s.egressTo 88 fid p 0 with
  | none => (s, false)
  | some e =>
    if s.shut e then (s, false)
    else
      let (id, s) := s.fresh
      let t : Tlp := { kind := .memRead, addr := addr, len := len }
      let f := { s.formFrame id 88 t .management .device with record := some id }
      let x : TagRec := { id := id, reqId := 0, tag := 0, ingress := 88, fid := s.selfFid, admitted := s.now }
      let s : State := { s with
        sw := { s.sw with tags := s.sw.tags ++ [x] }
        coreReads := s.coreReads ++ [{ id := id, why := why, len := len }] }
      let c : Copy := { frame := id, egress := e, queue := queueOf f, addr := addr, dstFid := fid, dest := p, purpose := .mgmt }
      (s.launchCore f c (s.ownerOf fid p), true)

/-- A response that the debug master has at once, held behind those of its earlier reads (R335). -/
def State.debugGives (s : State) (bs : List Byte) : State :=
  if s.coreReads.any fun r => r.why == .debug then
    let (id, s) := s.fresh
    { s with coreReads := s.coreReads ++ [{ id := id, why := .debug, len := bs.length, data := bs, done := true }] }
  else { s with answer := .bytes bs }

/-- What a completion for a read of core port 88 brings (R205, R206, R316). -/
def State.coreAnswer (s : State) (record : Nat) (c : Tlp) : State :=
  { s with coreReads := s.coreReads.map fun r =>
      if r.id = record then
        { r with
          data := r.data ++ c.data, done := c.last || c.status != .sc
          failed := r.failed || c.status != .sc || c.poison
          cause := if r.cause != 0 then r.cause else match c.status with
            | .sc => if c.poison then 4 else 0
            | .ca => 2
            | _ => 1 }
      else r }

end Sys2Proof.Machine
end

