-- ==== Sys2Proof/Machine/Culvert.lean ====
section
/-! DEFINITION. The culvert local-bus bridge (R342, R348 to R362): accesses split and queued, bus cycles, prefetch
buffers, timeouts and DEAD chip selects, barriers, the warm reset, and the sideband and interrupt inputs. -/

namespace Sys2Proof.Machine

/-- Number of a requester: partitions 0 to 31, 32 the management complex, 33 the debug master (TBL_STS.OWNER). -/
def reqNum : Requester → Nat
  | .part p => p.val
  | .mgmt => 32
  | .debug => 33

/-! ### Answers to the active pair (R315, R316) -/

/-- A trap of the pair: the reservation is cleared (R339), and accesses behind the instruction are never made. -/
def State.coreTrap (s : State) (cause addr : Nat) : State :=
  { s with mgt := { s.mgt with trap := some (cause, addr), resv := none, loop := none, ops := [] }, answer := .trap cause addr }

/-- RISC-V exception codes that R315 and R336 name (PRESUMED from the RISC-V specification, log entry 30). -/
abbrev xLoadMisaligned : Nat := 4
abbrev xLoadAccess : Nat := 5
abbrev xStoreMisaligned : Nat := 6
abbrev xStoreAccess : Nat := 7

/-- An access of the pair performed, with what it returns; the answer to a load that has ended before is dropped. -/
def State.coreDone (s : State) (id : Nat) (data : List Byte) : State :=
  if s.mgt.ops.all fun o => o.id != id then s
  else { s with mgt := { s.mgt with ops := s.mgt.ops.filter fun o => o.id != id }, answer := .bytes data }

abbrev beUR : Nat := 1
abbrev beCA : Nat := 2
abbrev beTIMEOUT : Nat := 3
abbrev bePOISON : Nat := 4
abbrev beSRAM_UE : Nat := 5

/-- MGT_BERR holds the address and cause of the last bus error (R316). -/
def State.captureBerr (s : State) (addr cause write : Nat) : State :=
  ((s.setPair R.MGT_BERR_LO R.MGT_BERR_HI addr).fset R.MGT_BERR_STS_CAUSE cause).fset R.MGT_BERR_STS_WRITE write

/-- A BUS_ERR record (R334). -/
def State.busErrRecord (s : State) (addr cause : Nat) : State :=
  s.record 0x0207 lvNOTICE none 0x7F (addr % 2 ^ 64 + cause * 2 ^ 64)

/-- A load of the pair that fails: captured, recorded, and a load access fault (R316). -/
def State.coreLoadFails (s : State) (id cause : Nat) : State :=
  match s.mgt.ops.find? fun o => o.id == id with
  | none => s
  | some o => (((s.captureBerr o.addr cause 0).raise 0x0C 3).busErrRecord o.addr cause).coreTrap xLoadAccess o.addr

/-! ### Byte order and splitting (R350, R351) -/

/-- Local address of a requester's byte under ORDER: LE, BE16 or BE32. -/
def localAddr (order a : Nat) : Nat := if order = 1 then a ^^^ 1 else if order = 2 then a ^^^ 3 else a

/-- Local addresses of an access, in the order of its requester's bytes. -/
def State.lbAddrs (s : State) (cs addr len : Nat) : List Nat :=
  (upTo len).map fun k => localAddr (s.fget (R.CUL_CS_CFG_ORDER cs)) ((addr + k) % 2 ^ 32)

/-- The lowest local-bus address of an access, as its failure is logged. -/
def State.lbLocal (s : State) (o : LbOp) : Nat := (s.lbAddrs o.cs o.addr o.len).min?.getD o.addr

/-- Local addresses in rising order, cut at every aligned boundary of 2^(BURST_LOG2 + 1) bytes. -/
def splitPieces (unit : Nat) : List Nat → List (List Nat)
  | [] => []
  | a :: as =>
    match splitPieces unit as with
    | [] => [[a]]
    | p :: ps => if a / unit = (p.headD 0) / unit then (a :: p) :: ps else [a] :: p :: ps

/-- Insertion into a rising list. -/
def insertNat (x : Nat) : List Nat → List Nat
  | [] => [x]
  | y :: ys => if x ≤ y then x :: y :: ys else y :: insertNat x ys

def State.lbPieces (s : State) (cs : Nat) (as : List Nat) : List (List Nat) :=
  splitPieces (2 ^ (s.fget (R.CUL_CS_CFG_BURST_LOG2 cs) + 1)) (as.foldl (fun l a => insertNat a l) [])

/-! ### Ranges (R353) -/

/-- The lowest-numbered VALID entry of the range table that holds a local address of a chip select. -/
def State.lbRange (s : State) (cs addr : Nat) : Option Nat :=
  ((upTo 32).map fun k => (s.tbl 0x11 0 k).toNat).find? fun e =>
    let size := 2 ^ bits e 13 8
    bit e 0 && bits e 3 1 == cs && addr / size * size == bits e 63 32 / size * size

def State.lbPosted (s : State) (cs addr : Nat) : Bool := (s.lbRange cs addr).any fun e => bit e 4
def State.lbPrefetch (s : State) (cs addr : Nat) : Bool := (s.lbRange cs addr).any fun e => bit e 5

/-! ### The queues -/

/-- Requester of an access, as acceptance tells them apart (R354). -/
def LbOp.who (o : LbOp) : Nat :=
  match o.src with
  | .core _ => 32
  | .host f => f.part.getD 34
  | .req r => reqNum r
  | .debug _ => 33

/-- Entries of the posted queue that a write takes: 64 bytes each (R354). -/
def LbOp.entries (o : LbOp) : Nat := if o.write && o.posted then max 1 (ceilDiv o.len 64) else 0

def State.lbPostedUsed (s : State) : Nat := s.cul.ops.foldl (fun n o => n + o.entries) 0
def State.lbReads (s : State) : Nat := (s.cul.ops.filter fun o => !o.write).length + s.cul.hits.length

/-- CUL_STS.PQ_USED and RQ_USED as the queues stand. -/
def State.showCul (s : State) : State :=
  (s.fset R.CUL_STS_PQ_USED (min s.lbPostedUsed 64)).fset R.CUL_STS_RQ_USED (min s.lbReads 16)

def State.dead (s : State) (cs : Nat) : Bool := bit (s.fget R.CUL_STS_DEAD) cs

/-! ### Barriers (R342, R359) -/

def State.setView (s : State) (who : Nat) (v : BarrierView) : State :=
  { s with cul := { s.cul with views := storePut {} who v s.cul.views } }

/-- A write that a barrier may wait for has ended; the first that failed is kept. -/
def State.barrierSees (s : State) (id : Nat) (failed : Option (Nat × Nat)) : State :=
  { s with cul := { s.cul with barriers := s.cul.barriers.map fun b =>
      if id ∈ b.waits then
        { b with waits := b.waits.filter (· != id), failed := match b.failed with
            | some x => some x
            | none => failed }
      else b } }

/-- A barrier that waits for nothing more completes: its view is written, and failures are reported (R359). -/
def State.barrierEnds (s : State) (b : Barrier) : State :=
  let s := s.setView b.view { done := true, failed := b.failed.isSome, cs := (b.failed.getD (0, 0)).1,
                              addr := (b.failed.getD (0, 0)).2 }
  match b.failed with
  | none => s
  | some (cs, a) => (s.raise 0x10 1).busErrRecord (2 ^ 32 * (cs + 1) + a) beTIMEOUT

/-- The barrier of a view whose last write has ended, if any, is completed and leaves. -/
def State.barrierSettle (s : State) (who : Nat) : State :=
  match s.cul.barriers.find? fun b => b.view == who && b.waits.isEmpty && !b.gather with
  | none => s
  | some b =>
    ({ s with cul := { s.cul with barriers := s.cul.barriers.filter fun x => x != b } } : State).barrierEnds b

/-- A barrier of a requester starts over writes already queued (R342). It replaces an earlier one that still waits, whose
writes and failures it takes over (R359). -/
def State.barrierStart (s : State) (who : Nat) (waits : List Nat) (gather : Bool) : State :=
  let old := s.cul.barriers.find? fun b => b.view == who
  let more := (old.elim [] (·.waits)).filter fun w => !waits.contains w
  { s with cul := { s.cul with
      barriers := (s.cul.barriers.filter fun b => b.view != who)
        ++ [{ view := who, waits := waits ++ more, failed := old.bind (·.failed), gather := gather || old.any (·.gather) }] } }

/-- Every write that a requester's barrier waits for has reached the bridge. -/
def State.barrierWhole (s : State) (who : Nat) : State :=
  { s with cul := { s.cul with barriers := s.cul.barriers.map fun b => if b.view = who then { b with gather := false } else b } }

/-- A write of the pair that reaches the bridge joins the barrier of a FENCE behind it (R342). -/
def State.barrierJoin (s : State) (o : LbOp) : State :=
  if o.who != 32 then s
  else
    { s with cul := { s.cul with barriers := s.cul.barriers.map fun b =>
        if b.view = 32 ∧ b.gather = true then { b with waits := b.waits ++ [o.id] } else b } }

/-- Does a barrier of a requester still wait? -/
def State.barrierOpen (s : State) (who : Nat) : Bool := s.cul.barriers.any fun b => b.view == who

/-- CUL_BARRIER.GO (R342): every posted local-bus write in the queue is waited for; the view shows the new barrier. -/
def State.culBarrier (s : State) (r : Requester) : State :=
  let waits := (s.cul.ops.filter fun o => o.write && o.posted).map (·.id)
  (s.setView (reqNum r) {}).barrierStart (reqNum r) waits false

/-- CUL_BARRIER (R342). -/
def execCulBarrier (r : Requester) (s : State) : Out := .next (s.culBarrier r)

/-- BARRIER_DONE: every write the barrier waited for has ended, and its view reads DONE (R342). -/
def execBarrierDone (r : Requester) (s : State) : Out := .next (s.barrierSettle (reqNum r))

/-! ### Accesses that end -/

/-- An access leaves the bridge. -/
def State.lbDrop (s : State) (id : Nat) : State :=
  ({ s with cul := { s.cul with ops := s.cul.ops.filter fun o => o.id != id } } : State).showCul

/-- Data of an access answered to its requester. -/
def State.lbAnswer (s : State) (o : LbOp) (data : List Byte) : State :=
  match o.src with
  | .core id => if o.write then s else s.coreDone id data
  | .host f => if f.tlp.nonPosted then s.complete f .sc data else s
  | .req _ => { s with answer := .bytes data }
  | .debug id => s.coreAnswer id { kind := .completion, data := data, len := data.length }

/-- A read that ends without data: Completer Abort, or a load access fault (R358). -/
def State.lbReadFails (s : State) (o : LbOp) : State :=
  match o.src with
  | .core id => s.coreLoadFails id beTIMEOUT
  | .host f => s.complete f .ca []
  | .req _ => { s with answer := .denied }
  | .debug id => s.coreAnswer id { kind := .completion, status := .ca }

/-- A write that fails: what a barrier sees, and Completer Abort where the request is non-posted (log entry 31). -/
def State.lbWriteFails (s : State) (o : LbOp) : State :=
  let s := s.barrierSees o.id (some (o.cs, s.lbLocal o))
  match o.src with
  | .host f => if f.tlp.nonPosted then s.complete f .ca [] else s
  | _ => s

/-- A write to a DEAD chip select: it fails at once and is counted (R359). -/
def State.lbDeadFails (s : State) (o : LbOp) : State := ((s.lbDrop o.id).lbWriteFails o).bump R.CUL_DEAD_FAIL

/-- The timeout of an access (R358): a write fails and its chip select becomes DEAD, with every queued write to it. -/
def State.lbTimeout (s : State) (o : LbOp) : State :=
  let s := (s.lbDrop o.id).bump R.CUL_TIMEOUTS
  if !o.write then (s.raise 0x10 0).lbReadFails o
  else
    let s := s.fset R.CUL_STS_DEAD (putBits (s.fget R.CUL_STS_DEAD) o.cs o.cs 1)
    let s := s.raiseAll 0x10 [0, 2]
    let s := (s.busErrRecord (2 ^ 32 * (o.cs + 1) + s.lbLocal o) beTIMEOUT).lbWriteFails o
    -- A write whose bus cycle runs ends with that cycle.
    let busy := if s.cul.running.isSome then s.cul.ops.head?.map (·.id) else none
    (s.cul.ops.filter fun x => x.write && x.cs == o.cs && busy != some x.id).foldl State.lbDeadFails s

/-! ### Acceptance (R352, R354, R355) -/

/-- Does the bridge take new accesses now (R360)? -/
def State.culOpen (s : State) : Bool := s.alive && s.cul.warm.isNone && decide (s.cul.lbRst ≤ s.now)

/-- May an access be accepted: its requester has no non-posted write in the bridge, and its queue has room (R354,
R356)? -/
def State.lbMay (s : State) (o : LbOp) : Bool :=
  s.culOpen && !(s.cul.ops.any fun x => x.write && !x.posted && x.who == o.who)
    && (if o.write then decide (s.lbPostedUsed < 64) && decide (s.lbPostedUsed + o.entries ≤ 64) else decide (s.lbReads < 16))

/-- Every prefetch buffer invalidated. -/
def State.dropPrefetch (s : State) : State := { s with cul := { s.cul with prefetch := [] } }

/-- A valid buffer that holds every byte of a read (R355). -/
def State.prefetchHit (s : State) (o : LbOp) (as : List Nat) : Option Prefetch :=
  if s.flag R.CUL_CTL_PF_EN && s.lbPrefetch o.cs o.addr then
    s.cul.prefetch.find? fun p => p.cs == o.cs && decide (s.now < p.made + cyclesPerUs)
      && as.all fun a => a / 32 * 32 == p.base
  else none

/-- A read queued for the bus, with the whole block of a PREFETCH range (R355). -/
def State.lbReadQueue (s : State) (o : LbOp) : State :=
  let as := s.lbAddrs o.cs o.addr o.len
  let pre := s.flag R.CUL_CTL_PF_EN && s.lbPrefetch o.cs o.addr && as.all fun a => a / 32 == (as.headD 0) / 32
  let all := if pre then (upTo 32).map fun k => (as.headD 0) / 32 * 32 + k else as
  let s : State := if s.cul.ops.isEmpty then { s with cul := { s.cul with asked := s.now } } else s
  ({ s with cul := { s.cul with ops := s.cul.ops ++ [{ o with prefetch := pre, stale := false, todo := s.lbPieces o.cs all }] } } :
    State).showCul

/-- The cycle's prefetch hits are answered, but for those whose chip select a write of the same cycle has met (R355). -/
def State.culHits (s : State) : State :=
  s.cul.hits.foldl (fun s x => if x.1.stale then s.lbReadQueue x.1 else (s.bump R.CUL_PF_HIT).lbAnswer x.1 x.2)
    { s with cul := { s.cul with hits := [] } }

/-- An access accepted by the bridge. -/
def State.lbAccept (s : State) (o : LbOp) : State :=
  let as := s.lbAddrs o.cs o.addr o.len
  let (id, s) := (s.cul.nextId, { s with cul := { s.cul with nextId := s.cul.nextId + 1 } })
  let o := { o with id := id }
  if o.write then
    let s : State := { s with cul := { s.cul with
      prefetch := s.cul.prefetch.filter fun p => p.cs != o.cs
      hits := s.cul.hits.map fun x => if x.1.cs = o.cs then ({ x.1 with stale := true }, x.2) else x
      ops := s.cul.ops.map fun x => if x.cs = o.cs then { x with stale := true } else x } }
    let s := s.barrierJoin o
    if s.dead o.cs then s.lbDeadFails o
    else if !s.flag (R.CUL_CS_CFG_EN o.cs) then s.lbTimeout o
    else
      let s : State := if s.cul.ops.isEmpty then { s with cul := { s.cul with asked := s.now } } else s
      ({ s with cul := { s.cul with ops := s.cul.ops ++ [{ o with todo := s.lbPieces o.cs as }] } } : State).showCul
  else if !s.flag (R.CUL_CS_CFG_EN o.cs) then s.lbTimeout o
  else match s.prefetchHit o as with
    | some p => { s with cul := { s.cul with hits := s.cul.hits ++ [(o, as.map fun a => p.data.getD (a - p.base) 0)] } }
    | none => s.lbReadQueue o

/-- The first access at the door that may come in, with no earlier one of its requester before it (R354). -/
def State.lbNext (s : State) : List LbOp → List Nat → Option LbOp
  | [], _ => none
  | o :: os, seen => if !seen.contains o.who && s.lbMay o then some o else s.lbNext os (o.who :: seen)

/-- Accesses let in while there is room; `fuel` bounds their number. -/
def State.culPumpN : Nat → State → State
  | 0, s => s
  | fuel + 1, s =>
    match s.lbNext s.cul.door [] with
    | none => s
    | some o => State.culPumpN fuel (({ s with cul := { s.cul with door := s.cul.door.erase o } } : State).lbAccept o)

def State.culPump (s : State) : State := State.culPumpN s.cul.door.length s

/-- An access reaches the bridge (R351, R354). -/
def State.lbEnter (s : State) (o : LbOp) : State :=
  let o := { o with posted := o.write && s.lbPosted o.cs o.addr }
  ({ s with cul := { s.cul with door := s.cul.door ++ [o] } } : State).culPump

/-- LOCAL_ACCESS: an access of a requester to a chip select (R351). The active pair's and the hosts' own accesses come
with CORE_LOAD, CORE_STORE and FRAME_ARRIVAL. -/
def execLocalAccess (r : Requester) (cs addr len : Nat) (write : Bool) (data : List Byte) (s : State) : Out :=
  let o : LbOp := { src := .req r, cs := cs % 8, addr := addr % 2 ^ 32, len := if write then data.length else len % 4097
                    write := write, data := data }
  if r = .debug ∧ write = false then
    -- Its response is retired behind those of its earlier reads (R335).
    let (id, s) := s.fresh
    .next (({ s with coreReads := s.coreReads ++ [{ id := id, why := .debug, len := o.len }] } : State).lbEnter
      { o with src := .debug id })
  else .next (s.lbEnter o)

/-! ### Bus cycles (R349, R357) -/

/-- A DEAD chip select's write, or an access with nothing to transfer, ends without a cycle once it is the first. -/
def State.lbFinish (s : State) (o : LbOp) : State :=
  let s := s.lbDrop o.id
  if o.write then (s.barrierSees o.id none).lbAnswer o []
  else
    let as := s.lbAddrs o.cs o.addr o.len
    let base := (as.headD 0) / 32 * 32
    let block : List Byte := (upTo 32).map fun k => storeGet 0 o.got (base + k)
    let all := s.cul.prefetch ++ [{ cs := o.cs, base := base, made := s.now, data := block }]
    let s : State := if o.prefetch && !o.stale then { s with cul := { s.cul with prefetch := all.drop (all.length - 4) } }
      else s
    s.lbAnswer o (as.map fun a => storeGet 0 o.got a)

/-- The bridge asks for the bus for what is next. -/
def State.lbAsk (s : State) : State := { s with cul := { s.cul with running := none, asked := s.now } }

/-- The external master takes a free bus when it has asked (R357). -/
def State.lbGrant (s : State) : State :=
  if s.cul.extReq && s.cul.running.isNone && !s.flag R.CUL_STS_EXT_OWNS then
    -- A block that a read is still fetching is not kept (R355).
    let s : State := { s with cul := { s.cul with extReq := false, ops := s.cul.ops.map fun x => { x with stale := true } } }
    (s.fset R.CUL_STS_EXT_OWNS 1).dropPrefetch.bump R.CUL_EXT_GRANTS
  else s

/-- LB_CYCLE_START: the bridge wins the free bus for the next piece of its first access (R349, R357). -/
def execLbCycleStart (s : State) : Out :=
  if s.cul.running.isSome || s.flag R.CUL_STS_EXT_OWNS || s.cul.extReq || !s.alive then .next s
  else match s.cul.ops with
    | [] => .next s
    | o :: _ =>
      if o.todo.isEmpty then .next ((s.lbFinish o).lbAsk.culPump)
      else if o.write && s.dead o.cs then .next ((s.lbDeadFails o).lbAsk.culPump)
      else .next { s with cul := { s.cul with running := some s.now } }

/-- Bus clocks of a cycle at the least: two address phases, setup, a turnaround for a read, one clock a data phase
(R349). -/
def State.lbClocks (s : State) (o : LbOp) (p : List Nat) : Nat :=
  let phases := (p.getLastD 0) / 2 - (p.headD 0) / 2 + 1
  2 + s.fget (R.CUL_CS_CFG_SETUP o.cs) + ofBool (!o.write) + phases

/-- LB_CYCLE_END: the last data phase ends with ready; `data` are the bytes read, in rising local address (R349). -/
def execLbCycleEnd (data : List Byte) (s : State) : Out :=
  match s.cul.running, s.cul.ops with
  | some t, o :: os => match o.todo with
    | [] => .next s
    | p :: ps =>
      -- A bus clock is 12.5 core cycles.
      if 2 * s.now < 2 * t + 25 * s.lbClocks o p then .next s
      else
        let got := if o.write then o.got
          else (p.zip (upTo p.length)).foldl (fun g a => storePut 0 a.1 (data.getD a.2 0) g) o.got
        let o := { o with todo := ps, got := got }
        let s : State := { s with cul := { s.cul with ops := o :: os } }
        .next ((if ps.isEmpty then s.lbFinish o else s).lbAsk.lbGrant.culPump)
  | _, _ => .next s

/-- CUL_TIMEOUT_EXPIRY: the first access has waited CUL_TIMEOUT since the bridge asked for the bus (R358). -/
def execCulTimeoutExpiry (s : State) : Out :=
  match s.cul.ops with
  | [] => .next s
  | o :: _ =>
    if s.cul.asked + s.fget R.CUL_TIMEOUT_US * cyclesPerUs ≤ s.now then .next ((s.lbAsk.lbTimeout o).lbAsk.lbGrant.culPump)
    else .next s

/-- LB_BUS_REQUEST: LB_BREQ_N asserted; the bus is granted at the next free clock (R357). -/
def execLbBusRequest (s : State) : Out :=
  if s.flag R.CUL_STS_EXT_OWNS then .next s
  else .next ({ s with cul := { s.cul with extReq := true } } : State).lbGrant

/-- LB_BUS_RELEASE: LB_BREQ_N deasserted, LB_BGNT_N released (R357). -/
def execLbBusRelease (s : State) : Out :=
  .next (({ s with cul := { s.cul with extReq := false } } : State).fset R.CUL_STS_EXT_OWNS 0)

/-- PREFETCH_EXPIRE: buffers 1 µs old are invalidated (R355). -/
def State.prefetchExpire (s : State) : State :=
  { s with cul := { s.cul with prefetch := s.cul.prefetch.filter fun p => decide (s.now < p.made + cyclesPerUs) } }

def execPrefetchExpire (s : State) : Out := .next s.prefetchExpire

/-- DEAD cleared for the chip selects of a mask (R359). -/
def State.culRevive (s : State) (mask : Nat) : State :=
  let d := s.fget R.CUL_STS_DEAD
  s.fset R.CUL_STS_DEAD (d - (d &&& mask % 256))

/-- CUL_REVIVE (R359). -/
def execCulRevive (mask : Nat) (s : State) : Out := .next (s.culRevive mask)

/-! ### The warm reset (R343, R360) -/

/-- CUL_CTL.WARM_RST: new accesses wait, the posted queue drains (R360). -/
def State.culWarm (s : State) : State :=
  match s.cul.warm with
  | some _ => s
  | none => { s with cul := { s.cul with warm := some s.now } }

/-- CUL_WARM_RESET (R360). -/
def execCulWarmReset (s : State) : Out := .next s.culWarm

/-- Posted writes left in the bridge are discarded and counted; a barrier sees them as failed (log entry 31). -/
def State.culDiscard (s : State) : State :=
  (s.cul.ops.filter fun o => o.write && o.posted).foldl
    (fun s o => ((s.lbDrop o.id).lbWriteFails o).bump R.CUL_RST_DISCARD) s

/-- Queued reads end as timeouts do, without a bus cycle (R360). -/
def State.culEndReads (s : State) : State :=
  let s := s.culHits
  (s.cul.ops.filter fun o => !o.write).foldl (fun s o => (s.lbDrop o.id).lbReadFails o) s

/-- CUL_WARM_RESET_DONE: the queue is drained or 10 µs have passed, and no non-posted write is on the bus; the rest is
discarded, reads end, LB_RST_N is pulsed (R360). -/
def execCulWarmResetDone (s : State) : Out :=
  match s.cul.warm with
  | none => .next s
  | some t =>
    let busy := s.cul.running.isSome && (match s.cul.ops with
      | o :: _ => o.write && !o.posted
      | [] => false)
    if busy || (s.lbPostedUsed != 0 && decide (s.now < t + 10 * cyclesPerUs)) then .next s
    else
      let s := (s.culDiscard.culEndReads.dropPrefetch).lbAsk
      .next ({ s with cul := { s.cul with warm := none, lbRst := s.now + cyclesPerUs } } : State).lbGrant

/-! ### The pins of the bus (R348, R349) -/

/-- What the local bus's outputs show; true and `some` mean asserted and driven. `shared` says that the CX256 drives the
shared outputs. -/
structure LbPins where
  shared : Bool := true
  cs : Option Nat := none
  adv : Bool := false
  write : Bool := false
  /-- Byte lanes 1 and 0 of a data phase. -/
  be : Nat := 0
  ad : Option (BitVec 16) := none
  grant : Bool := false
  rst : Bool := false
  deriving DecidableEq, Repr

/-- The byte that a write puts at a local address. -/
def State.lbByte (s : State) (o : LbOp) (a : Nat) : Byte := o.data.getD ((s.lbAddrs o.cs o.addr o.len).idxOf a) 0

/-- A bus cycle in its clock `k`: two address phases, setup with a read's turnaround, then data phases; the last one shown
lasts until LB_RDY_N ends it. -/
def State.lbClock (s : State) (o : LbOp) (p : List Nat) (k : Nat) : LbPins :=
  let a := p.headD 0 / 2 * 2
  let setup := 2 + s.fget (R.CUL_CS_CFG_SETUP o.cs) + ofBool (!o.write)
  let pins : LbPins := { cs := some o.cs, write := o.write }
  if k = 0 then { pins with adv := true, ad := some (BitVec.ofNat 16 a) }
  else if k = 1 then { pins with adv := true, ad := some (BitVec.ofNat 16 (a / 65536)) }
  else if k < setup then pins
  else
    let d := a + 2 * min (k - setup) (p.getLastD 0 / 2 - a / 2)
    { pins with
      be := ofBool (p.contains d) + ofBool (p.contains (d + 1)) * 2
      ad := if o.write then some ((s.lbByte o (d + 1)) ++ (s.lbByte o d)) else none }

/-- The local bus's outputs now (R348, R349, R357, R360); in RESET and STANDBY the board holds its devices in reset
(R437). -/
def State.lbPins (s : State) : LbPins :=
  let rst := decide (s.now < s.cul.lbRst)
  if !s.alive then { shared := false, rst := true }
  else if s.flag R.CUL_STS_EXT_OWNS then { shared := false, grant := true, rst := rst }
  else match s.cul.running, s.cul.ops with
    | some t, o :: _ => { s.lbClock o (o.todo.headD []) (2 * (s.now - t) / 25) with rst := rst }
    | _, _ => { rst := rst }

/-! ### Sideband and interrupt inputs (R361, R362) -/

/-- One sideband bit at a poll: a new level counts once it has been found DEBOUNCE times in a row. -/
def State.sbBit (s : State) (levels i : Nat) : State × Bool :=
  let old := bit (s.reg R.CUL_SB_STS).toNat i
  let count (n : Nat) (s : State) : State := { s with cul := { s.cul with sbCount := storePut 0 i n s.cul.sbCount } }
  if bit levels i = old then (count 0 s, false)
  else
    let n := storeGet 0 s.cul.sbCount i + 1
    if n < s.fget R.CUL_SB_CTL_DEBOUNCE then (count n s, false)
    else ((count 0 s).setReg R.CUL_SB_STS (s.reg R.CUL_SB_STS ^^^ (1 <<< i)), bit (s.reg R.CUL_SB_EVT).toNat i)

/-- SIDEBAND_POLL: LB_SB sampled, POLL_US after the last poll (R361). -/
def execSidebandPoll (levels : W32) (s : State) : Out :=
  if s.now < s.cul.sbAt + s.fget R.CUL_SB_CTL_POLL_US * cyclesPerUs then .next s
  else
    let s : State := { s with cul := { s.cul with sbAt := s.now } }
    let r := (upTo 32).foldl (fun (r : State × Bool) i => let x := r.1.sbBit levels.toNat i
                                                          (x.1, r.2 || x.2)) (s, false)
    .next (if r.2 then r.1.raise 0x12 8 else r.1)

/-- INTERRUPT_POLL: LB_INT_N sampled; `asserted` are the inputs found low (R361). -/
def execInterruptPoll (asserted : Nat) (s : State) : Out :=
  if 2 * s.now < 2 * s.cul.intAt + 25 * s.fget R.CUL_INT_CTL_POLL || !s.alive then .next s
  else
    let s : State := { s with cul := { s.cul with intAt := s.now } }
    let s := s.fset R.CUL_INT_STS_INT asserted
    .next (s.raiseAll 0x12 ((upTo 8).filter fun k => bit asserted k))

/-- SIDEBAND_WAKE: LB_SB[31] low for 1 ms in STANDBY with WAKE_EN (R362). -/
def execSidebandWake (s : State) : Out :=
  .next (if s.mode = mSTANDBY ∧ s.flag R.CUL_SB_CTL_WAKE_EN = true then { s with board := { s.board with wake := true } }
    else s)

end Sys2Proof.Machine
end

