-- ==== Sys2Proof/Machine/Instances.lean ====
section
/-! DEFINITION. The commands of the virtual instances (R185 to R206): lifecycle, headgate, resets, freeze, save and
restore. -/

namespace Sys2Proof.Machine

/-! ### Headgate and idle (R197) -/

/-- Is an instance idle: headgate closed, nothing started, no tag outstanding, every write out of its engine (R197)? -/
def State.instQuiet (s : State) (i : Nat) : Bool :=
  !s.headgate i && (upTo 4).all (fun q => (s.ring i q).runs.isEmpty) && (s.instTags i).isEmpty
    && s.sw.waiting.all fun w => w.frame.origin != .engine i

/-- The fences of a FREEZE start once the instance is idle (R203). With Bus Master Enable clear no request can be issued,
and only entries fenced inside are waited for (R200, R202; log entry 22). -/
def State.startFreezeFences (s : State) (i : Nat) : State :=
  (upTo 4).foldl (fun s q =>
    -- A ring that halted during an implicit fence has its ninth entry to be fenced too (R170).
    let f := fenceOf (s.ring i q).destNow
    let f := if s.mayIssue i then f else { f with toRead := [] }
    s.modRing i q fun r => { r with freeze := some f, dest := r.destNow, implicit := none }) s

/-- INSTANCE_IDLE: IDLE becomes 1 (R197). -/
def execInstanceIdle (inst : Nat) (s : State) : Out :=
  let i := inst % 512
  if s.instState i == iFREE || s.flag (R.VIM_INST_STS_IDLE i) || !s.instQuiet i then .next s
  else
    let s := (s.fset (R.VIM_INST_STS_IDLE i) 1).raise (vimPage i) 3
    .next (if (s.inst i).cmd = 3 ∧ (upTo 4).all (fun q => (s.ring i q).freeze.isNone) = true then s.startFreezeFences i else s)

/-- HG_OPEN written 1: in RESET the instance goes to ACTIVE (R196). -/
def State.headgateOpen (s : State) (i : Nat) : State :=
  if s.instState i = iRESETTING then s
  else
    let s := s.fset (R.VIM_INST_CTL_HG_OPEN i) 1
    let s := if s.instState i = iRESET then s.setInstState i iACTIVE else s
    s.refreshHg i

def State.headgateClose (s : State) (i : Nat) : State := (s.fset (R.VIM_INST_CTL_HG_OPEN i) 0).refreshHg i

/-- HEADGATE_OPEN (R196, R197). -/
def execHeadgateOpen (inst : Nat) (s : State) : Out := .next (s.headgateOpen (inst % 512))

/-- HEADGATE_CLOSE (R197). -/
def execHeadgateClose (inst : Nat) (s : State) : Out := .next (s.headgateClose (inst % 512))

/-! ### Presence and function reset (R186, R198, R221) -/

/-- A function of a partition appears or disappears: Presence Detect of its engine bridge (R186, R221). -/
def State.presence (s : State) (part : Nat) : State :=
  let fn := (Fn.engBridge part).num
  let any := (s.instsOf part).any s.instPresent
  (s.orCfg fn cSlotCtl ssPresenceChanged).putCfg fn cSlotCtl 22 22 (ofBool any)

/-- A function at its reset values, but for Max_Payload_Size, which an FLR leaves (R198; PCI Express names it among the
fields an FLR does not change, log entry 10); MSI-X masked, PBA 0, rings disabled. -/
def State.resetFunction (s : State) (i : Nat) : State :=
  let fn := (Fn.inst i).num
  let mps := s.cfgBits fn cDevCtl 7 5
  let s : State := { s with
    shadows := s.shadows.filter fun e => e.1 / 4096 != fn
    bars := s.bars.filter fun e => !(e.1 / 65536 == fn && decide (0x8000 ≤ e.1 % 65536)) }
  let s := s.putCfg fn cDevCtl 7 5 mps
  (upTo 4).foldl (fun s q =>
    let s := (s.setRing i q {}).putQreg i q qCFG 16 16 0
    ((s.setQreg i q qPROD 0).setQreg i q qDONE 0).putQreg i q qSTS 2 0 0) s

/-- Everything behind a function gone (R186). -/
def State.dropFunction (s : State) (i : Nat) : State :=
  (upTo 4).foldl (fun s q => s.setRing i q {}) (s.clearFn (Fn.inst i).num)

/-! ### Commands (R196) -/

/-- States a command may be written in. -/
def cmdFrom (cmd st : Nat) : Bool :=
  match cmd with
  | 0 => true
  | 1 => st == iFREE
  | 2 => st == iRESET || st == iFROZEN
  | 3 => st == iACTIVE || st == iRECOVERY || st == iRESET
  | 4 => st == iFROZEN
  | 5 => st == iFREE
  | 6 => st == iFROZEN
  | 7 => st == iACTIVE || st == iRESET
  | 8 => st == iRECOVERY
  | _ => false

/-- The cause for which a command is refused at once, if any: BUSY, STATE, MODE, FUNC, FW (R196, R206, R269; the order
and FW's condition are log entry 21). -/
def State.cmdCause (s : State) (i cmd : Nat) : Option Nat :=
  let part := s.instPart i
  let others := (s.instsOf part).filter (· != i)
  let func := fun j => s.fget (R.VIM_INST_OWNER_FUNC j)
  if (s.inst i).cmd ≠ 0 then some ciBUSY
  else if !cmdFrom cmd (s.instState i) then some ciSTATE
  else if cmd != 0 && !s.instancesExist then some ciMODE
  else if (cmd = 1 ∨ cmd = 5) ∧ (s.upstreamOf part).isNone then some ciMODE
  else if (cmd = 1 ∨ cmd = 5) ∧ (256 ≤ others.length ∨ others.any (fun j => func j == func i)) then some ciFUNC
  else if (cmd = 1 ∨ cmd = 2 ∨ cmd = 5) ∧ !s.flag R.DEV_MODE_STS_FW_RUNNING then some ciFW
  else none

/-- A command begins: BUSY (R196). -/
def State.cmdBusy (s : State) (i cmd : Nat) : State :=
  ((s.fset (R.VIM_INST_STS_CMD_RESULT i) 1).fset (R.VIM_INST_STS_CAUSE i) 0).modInst i fun x =>
    { x with cmd := cmd, cmdStart := s.now }

/-- A running command ends REFUSED (R196). -/
def State.cmdFailed (s : State) (i cause : Nat) : State := (s.modInst i fun x => { x with cmd := 0 }).cmdRefused i cause

/-- A command written: refused with its cause, or `go` (R196). -/
def State.command (s : State) (i cmd : Nat) (go : State → State) : State :=
  let s := if cmd = 0 then s else s.modInst i fun x => { x with cmdAt := s.now + 1 }
  match s.cmdCause i cmd with
  | some c => s.cmdRefused i c
  | none => go s

/-- CREATE and DESTROY begin in SETUP; a function that was there disappears (R186, R196). -/
def State.createInst (s : State) (i : Nat) : State := s.command i 1 fun s => (s.cmdBusy i 1).setInstState i iSETUP

def State.destroyInst (s : State) (i : Nat) : State :=
  s.command i 2 fun s =>
    let s := (s.cmdBusy i 2).setInstState i iSETUP
    (s.dropFunction i).presence (s.instPart i)

/-- FREEZE closes the headgate, discards run-ahead data and waits (R203). -/
def State.freezeInst (s : State) (i : Nat) : State :=
  s.command i 3 fun s =>
    let st := s.instState i
    let hg := s.flag (R.VIM_INST_CTL_HG_OPEN i)
    let s := (s.cmdBusy i 3).modInst i fun x => { x with fromRecovery := st == iRECOVERY, hgAtFreeze := hg, frozenFrom := st }
    let s := s.refreshHg i
    let s := (upTo 4).foldl (fun s q => s.discardAhead i q dSTOP) s
    if s.flag (R.VIM_INST_STS_IDLE i) then s.startFreezeFences i else s

/-- Bytes of a save record before CHECK (R204). -/
def State.saveBody (s : State) (i : Nat) : List Byte :=
  let fn := (Fn.inst i).num
  let x := s.inst i
  let head := 0x53565843 + 1 * 2 ^ 32 + s.fget R.MGT_FW_STS_MAJOR * 2 ^ 48 + s.ns % 2 ^ 64 * 2 ^ 64 + s.selfFid * 2 ^ 128
    + i * 2 ^ 136 + s.instPart i * 2 ^ 148 + s.fget (R.VIM_INST_OWNER_FUNC i) * 2 ^ 160 + ofBool x.hgAtFreeze * 2 ^ 168
    + ofBool x.fromRecovery * 2 ^ 169 + ofBool (s.d3hot fn) * 2 ^ 170
  let ring (q : Nat) : Nat :=
    let w := fun o => (s.bar0Read i (0x100 * q + o)).toNat
    s.qaddr i q qBASE + s.qaddr i q qCMPL * 2 ^ 64 + w qCFG * 2 ^ 128 + w qPROD * 2 ^ 160 + w qDONE * 2 ^ 192
      + w qSTS * 2 ^ 224 + w qHALT_IDX * 2 ^ 256
  leBytes 64 head ++ (upTo 4).flatMap (fun q => leBytes 64 (ring q))
    ++ (upTo 32).flatMap (fun k => leBytes 4 (s.bar fn (0x8000 + 4 * k)).toNat)
    ++ leBytes 64 (s.bar fn 0x9000).toNat
    ++ (upTo 256).flatMap (fun k => leBytes 4 (s.cfgRead fn (4 * k)).toNat)
    ++ List.replicate (0xFFC - 0x600) 0

/-- Size of the pieces in which a save record is written and read: any port accepts them (log entry 23). -/
abbrev savePiece : Nat := 128

/-- SAVE: the record is written to the manager's host and a zero-length read follows (R205). -/
def State.saveInst (s : State) (i : Nat) : State :=
  s.command i 4 fun s =>
    let s := s.cmdBusy i 4
    let part := s.fget (R.VIM_INST_OWNER_MGR_PART i)
    let addr := s.pair (R.VIM_INST_SAVE_LO i) (R.VIM_INST_SAVE_HI i)
    let body := s.saveBody i
    let bs := body ++ leBytes 4 (crc32c body).toNat
    match s.homeOf part with
    | none => s.cmdFailed i ciXFER
    | some (fid, p) =>
      let s := (upTo (4096 / savePiece)).foldl (fun s k =>
        s.postToHost part (BitVec.ofNat 64 (addr + savePiece * k)) ((bs.drop (savePiece * k)).take savePiece) .management .mgmt) s
      match s.coreRead fid p (BitVec.ofNat 64 (addr + 4095)) 0 (.save i) with
      | (s, true) => s
      | (s, false) => s.cmdFailed i ciXFER

/-- RESTORE: the record is read from the manager's host (R206). -/
def State.restoreInst (s : State) (i : Nat) : State :=
  s.command i 5 fun s =>
    let s := (s.cmdBusy i 5).setInstState i iSETUP
    let part := s.fget (R.VIM_INST_OWNER_MGR_PART i)
    let addr := s.pair (R.VIM_INST_SAVE_LO i) (R.VIM_INST_SAVE_HI i)
    match s.homeOf part with
    | none => (s.setInstState i iFREE).cmdFailed i ciXFER
    | some (fid, p) =>
      let r := (upTo (4096 / savePiece)).foldl (fun (r : State × Bool) k =>
        let x := r.1.coreRead fid p (BitVec.ofNat 64 (addr + savePiece * k)) savePiece (.restore i (savePiece * k))
        (x.1, r.2 && x.2)) (s, true)
      if r.2 then r.1 else (r.1.setInstState i iFREE).cmdFailed i ciXFER

/-- THAW: FROZEN to ACTIVE with HG_OPEN = 1, or to RECOVERY (R196). -/
def State.thawInst (s : State) (i : Nat) : State :=
  s.command i 6 fun s =>
    let s := (upTo 4).foldl (fun s q => s.modRing i q fun r => { r with restored := false }) s
    let s := if (s.inst i).fromRecovery then s.setInstState i iRECOVERY
      else (s.setInstState i iACTIVE).fset (R.VIM_INST_CTL_HG_OPEN i) 1
    (s.refreshHg i).cmdDone i

/-- RECOVER and SERVE (R196). -/
def State.moveInst (s : State) (i cmd st : Nat) : State := s.command i cmd fun s => ((s.setInstState i st).refreshHg i).cmdDone i

/-- A command code written to VIM_INST_CTL.CMD (R196); reserved codes are refused with STATE (log entry 21). -/
def State.instCommand (s : State) (i cmd : Nat) : State :=
  match cmd with
  | 0 => s.command i 0 fun s => s.cmdDone i
  | 1 => s.createInst i
  | 2 => s.destroyInst i
  | 3 => s.freezeInst i
  | 4 => s.saveInst i
  | 5 => s.restoreInst i
  | 6 => s.thawInst i
  | 7 => s.moveInst i 7 iRECOVERY
  | 8 => s.moveInst i 8 iACTIVE
  | _ => s.cmdRefused i ciSTATE

/-- INST_NOP: CMD NOP. -/
def execInstNop (inst : Nat) (s : State) : Out := .next (s.instCommand (inst % 512) 0)

/-- CREATE (R196). -/
def execCreate (inst : Nat) (s : State) : Out := .next (s.createInst (inst % 512))

/-- DESTROY (R196). -/
def execDestroy (inst : Nat) (s : State) : Out := .next (s.destroyInst (inst % 512))

/-- FREEZE (R203). -/
def execFreeze (inst : Nat) (s : State) : Out := .next (s.freezeInst (inst % 512))

/-- SAVE (R205). -/
def execSave (inst : Nat) (s : State) : Out := .next (s.saveInst (inst % 512))

/-- RESTORE (R206). -/
def execRestore (inst : Nat) (s : State) : Out := .next (s.restoreInst (inst % 512))

/-- THAW (R196). -/
def execThaw (inst : Nat) (s : State) : Out := .next (s.thawInst (inst % 512))

/-- RECOVER (R196). -/
def execRecover (inst : Nat) (s : State) : Out := .next (s.moveInst (inst % 512) 7 iRECOVERY)

/-- SERVE (R196). -/
def execServe (inst : Nat) (s : State) : Out := .next (s.moveInst (inst % 512) 8 iACTIVE)

/-! ### Commands that end -/

/-- CREATE_DONE: the function appears at its reset values, in RESET (R186, R196). -/
def execCreateDone (inst : Nat) (s : State) : Out :=
  let i := inst % 512
  if (s.inst i).cmd != 1 then .next s
  else
    let s := (s.dropFunction i).setInstState i iRESET
    .next ((s.presence (s.instPart i)).cmdDone i)

/-- DESTROY_DONE: the instance is FREE (R196). -/
def execDestroyDone (inst : Nat) (s : State) : Out :=
  let i := inst % 512
  if (s.inst i).cmd != 2 then .next s
  else .next ((s.setInstState i iFREE).cmdDone i)

/-- FREEZE_DONE: every fence is over, and the instance is FROZEN; one that failed refuses the FREEZE and leaves the
instance in its earlier state with the headgate closed (R203). -/
def execFreezeDone (inst : Nat) (s : State) : Out :=
  let i := inst % 512
  let fs := (upTo 4).map fun q => (s.ring i q).freeze
  let ended := fs.all fun f => match f with
    | some f => s.fenceOver f
    | none => false
  if (s.inst i).cmd != 3 || !ended || !(s.instTags i).isEmpty then .next s
  else
    let failed := fs.any fun f => match f with
      | some f => f.failed
      | none => false
    let s := (upTo 4).foldl (fun s q => s.modRing i q fun r =>
      { r with freeze := none, dest := if failed then r.dest else [] }) s
    if failed then .next ((s.fset (R.VIM_INST_CTL_HG_OPEN i) 0).cmdFailed i ciXFER)
    else .next (((s.setInstState i iFROZEN).cmdDone i).refreshHg i)

/-- SAVE_DONE: the closing read has completed (R205). -/
def execSaveDone (inst : Nat) (s : State) : Out :=
  let i := inst % 512
  match s.coreReads.find? fun r => r.why == .save i && r.done with
  | none => .next s
  | some r =>
    let s : State := { s with coreReads := s.coreReads.filter fun x => x.why != .save i }
    if (s.inst i).cmd != 4 then .next s
    else .next (if r.failed then s.cmdFailed i ciXFER else s.cmdDone i)

/-- SAVE_XFER_TIMEOUT: the closing read has taken more than 10 ms (R205). -/
def execSaveXferTimeout (inst : Nat) (s : State) : Out :=
  let i := inst % 512
  if (s.inst i).cmd != 4 || decide (s.now ≤ (s.inst i).cmdStart + 10 * cyclesPerMs) then .next s
  else
    let s : State := { s with coreReads := s.coreReads.filter fun x => x.why != .save i }
    .next (s.cmdFailed i ciXFER)

/-- The pieces of a restore of an instance. -/
def State.restoreReads (s : State) (i : Nat) : List CoreRead :=
  s.coreReads.filter fun r => match r.why with
    | .restore j _ => j == i
    | _ => false

def State.dropRestoreReads (s : State) (i : Nat) : State :=
  { s with coreReads := s.coreReads.filter fun r => match r.why with
      | .restore j _ => j != i
      | _ => true }

/-- A word of a record. -/
def recWord (bs : List Byte) (off : Nat) : Nat := leNat ((bs.drop off).take 4)

/-- The cause for which a record that was read is refused, if any (R206). -/
def State.restoreCause (s : State) (i : Nat) (bs : List Byte) : Option Nat :=
  if recWord bs 0 ≠ 0x53565843 ∨ recWord bs 4 % 2 ^ 16 ≠ 1 ∨ recWord bs 0xFFC ≠ (crc32c (bs.take 0xFFC)).toNat then some ciCHECK
  else if recWord bs 4 / 2 ^ 16 ≠ s.fget R.MGT_FW_STS_MAJOR then some ciVERSION
  else if (upTo 4).any fun q => bit (recWord bs (0x40 + 0x40 * q + 16)) 16 && !s.bound i q then some ciBIND
  else none

/-- Ring state taken from a record (R204, R206). -/
def State.restoreRing (s : State) (i q : Nat) (bs : List Byte) : State :=
  let w := fun k => recWord bs (0x40 + 0x40 * q + 4 * k)
  let s := (upTo 4).foldl (fun s k => s.setQreg i q (4 * k) (w k)) s
  let s := s.setQreg i q qCFG (putBits (w 4) 31 24 0)
  let s := ((s.setQreg i q qPROD (w 5)).setQreg i q qDONE (w 6)).setQreg i q qHALT_IDX (w 8)
  let halted := bits (w 7) 2 0 == 4
  let s := s.setQreg i q qSTS (ofBool halted * 4 + bits (w 7) 15 8 * 2 ^ 8)
  s.setRing i q { restored := bit (w 4) 16 && !halted }

/-- Configuration shadow, MSI-X table and PBA taken from a record (R206). -/
def State.restoreCfg (s : State) (i : Nat) (bs : List Byte) : State :=
  let fn := (Fn.inst i).num
  let s := (upTo 32).foldl (fun s k => s.setBar fn (0x8000 + 4 * k) (BitVec.ofNat 32 (recWord bs (0x140 + 4 * k)))) s
  let s := s.setBar fn 0x9000 (BitVec.ofNat 32 (recWord bs 0x1C0 % 256))
  (upTo 256).foldl (fun s k =>
    -- Identity words are this device's own (R187).
    if k = 0 ∨ k = 2 ∨ k = 11 then s else s.setCfg fn (4 * k) (BitVec.ofNat 32 (recWord bs (0x200 + 4 * k)))) s

/-- RESTORE_DONE: the whole record has come and firmware has done its part: refused, or FROZEN with its state (R206). -/
def execRestoreDone (inst : Nat) (s : State) : Out :=
  let i := inst % 512
  let rs := s.restoreReads i
  if (s.inst i).cmd != 5 || rs.any (fun r => !r.done) || rs.isEmpty then .next s
  else
    let bs := rs.flatMap (·.data)
    let s := s.dropRestoreReads i
    if rs.any (·.failed) then .next ((s.setInstState i iFREE).cmdFailed i ciXFER)
    else match s.restoreCause i bs with
      | some c => .next ((s.setInstState i iFREE).cmdFailed i c)
      | none =>
        let s := s.dropFunction i
        let s := (upTo 4).foldl (fun s q => s.restoreRing i q bs) s
        let s := if s.flag (R.VIM_INST_CTL_RESTORE_CFG i) then s.restoreCfg i bs else s
        let s := s.modInst i fun x => { x with
          fromRecovery := bit (recWord bs 20) 9, hgAtFreeze := bit (recWord bs 20) 8, frozenFrom := iFROZEN }
        let s := (s.fset (R.VIM_INST_STS_D3HOT i) (ofBool (s.d3hot (Fn.inst i).num))).setInstState i iFROZEN
        .next ((s.presence (s.instPart i)).cmdDone i)

/-- RESTORE_XFER_TIMEOUT: the record has not been read within 10 ms (R206). -/
def execRestoreXferTimeout (inst : Nat) (s : State) : Out :=
  let i := inst % 512
  if (s.inst i).cmd != 5 || decide (s.now ≤ (s.inst i).cmdStart + 10 * cyclesPerMs)
      || (s.restoreReads i).all (·.done) then .next s
  else .next (((s.dropRestoreReads i).setInstState i iFREE).cmdFailed i ciXFER)

/-! ### Resets (R198 to R202) -/

/-- FORCE_RESET (R198). -/
def execForceReset (inst : Nat) (s : State) : Out := .next (s.startReset (inst % 512) false)

/-- FUNCTION_LEVEL_RESET: Initiate Function Level Reset written 1 by the tenant (R198). -/
def execFunctionLevelReset (inst : Nat) (s : State) : Out := .next (s.startReset (inst % 512) true)

/-- INSTANCE_RESET_DONE: steps 4 and 5 once no tag remains; after an FLR with AUTO_OPEN on to ACTIVE (R198, R199). -/
def execInstanceResetDone (inst : Nat) (s : State) : Out :=
  let i := inst % 512
  if s.instState i != iRESETTING || !(s.instTags i).isEmpty then .next s
  else
    let x := s.inst i
    let s := (s.resetFunction i).setInstState i iRESET
    let s := (s.fset (R.VIM_INST_STS_ABANDONED i) (min x.abandoned 65535)).fset (R.VIM_INST_STS_D3HOT i) 0
    let s := ((s.bumpBy (R.VIM_ABANDONED i) x.abandoned).bump (R.VIM_FORCED_RESETS i)).raise (vimPage i) 2
    let s := s.record eFORCED_RESET lvINSTANCE (some (s.instPart i)) 0x7F (i + min x.abandoned 65535 * 2 ^ 16)
    let s := s.modInst i fun _ => {}
    .next (if x.byFlr && s.flag (R.VIM_INST_CTL_AUTO_OPEN i) then
        (((s.setInstState i iACTIVE).fset (R.VIM_INST_CTL_HG_OPEN i) 1).refreshHg i)
      else s)

/-- The tenant clears Bus Master Enable (R200). -/
def State.bmeClear (s : State) (i : Nat) : State :=
  let fn := (Fn.inst i).num
  -- A write that meets RESETTING receives Request Retry Status and changes nothing (R190).
  if s.instPresent i && s.busMaster fn && s.instState i != iRESETTING then (s.putCfg fn cCommand 2 2 0).stopBme i else s

/-- BME_CLEAR (R200). -/
def execBmeClear (inst : Nat) (s : State) : Out := .next (s.bmeClear (inst % 512))

/-- The tenant writes PowerState = D3hot (R201). -/
def State.enterD3hot (s : State) (i : Nat) : State :=
  let fn := (Fn.inst i).num
  if s.instPresent i && !s.d3hot fn && s.instState i != iRESETTING then
    ((s.putCfg fn cPmcsr 1 0 3).fset (R.VIM_INST_STS_D3HOT i) 1).stopBme i
  else s

/-- POWER_STATE_D3HOT (R201). -/
def execPowerStateD3hot (inst : Nat) (s : State) : Out := .next (s.enterD3hot (inst % 512))

/-- A write of VIM_INST_CTL by a requester that may make it: FORCE_RESET first, then the fields, then CMD (R194, R202). -/
def State.writeInstCtl (s : State) (i v : Nat) : State :=
  let s := (s.fset (R.VIM_INST_CTL_AUTO_OPEN i) (bits v 5 5)).fset (R.VIM_INST_CTL_RESTORE_CFG i) (bits v 6 6)
  let s := if bit v 8 then s.startReset i false else s
  let s := if bit v 4 then s.headgateOpen i else s.headgateClose i
  -- A reset that has just ended a command leaves its result to be read (R198).
  if bit v 8 ∧ bits v 3 0 = 0 ∧ s.instState i = iRESETTING then s else s.instCommand i (bits v 3 0)

/-- A write of VIM_INST_RING: a ring's byte is ignored while that ring is enabled and bound (R156). -/
def State.writeInstRing (s : State) (i v : Nat) : State :=
  (upTo 4).foldl (fun s q =>
    if s.qEnabled i q && s.bound i q then s
    else s.fset ⟨R.VIM_INST_RING i, 8 * q + 7, 8 * q⟩ (bits v (8 * q + 7) (8 * q))) s

end Sys2Proof.Machine
end

