-- ==== Sys2Proof/Machine/Moaben.lean ====
section
/-! DEFINITION. The Moaben link layer (R228 to R256): lanes, training, sequence numbers, acknowledgement and replay,
flow control, changes while running, the lane-health governor, and packets of VC4. -/

namespace Sys2Proof.Machine

/-- May links train and authenticate in this mode (R257)? -/
def State.linksAllowed (s : State) : Bool :=
  let m := s.mode
  m != mRESET && m != mLIMP && m != mSAFE && m != mSTANDBY && m != mDIAGNOSTIC

/-- Does the link layer take packets (R249)? Those sent before RETRAIN or CHANGE was entered may still come in. -/
def State.listens (s : State) (f : Nat) : Bool := s.linkLive f || s.vc4Open f

/-! ### Acknowledgement and replay (R245, R246) -/

/-- A packet acknowledged: its copy has gone (R129, R244). -/
def State.packetGone (s : State) (p : Packet) : State :=
  match p.copy with
  | some c => if p.null then s else s.removeCopy c.id
  | none => s

/-- An acknowledgement up to and including `a` (R245). -/
def State.acknowledge (s : State) (f a : Nat) : State :=
  let rs := (s.link f).replay
  match rs with
  | [] => s
  | p :: _ =>
    let d := (a % 4096 + 4096 - p.seq) % 4096
    if d < rs.length then
      let s := (rs.take (d + 1)).foldl State.packetGone s
      (s.modLink f fun l => { l with replay := l.replay.drop (d + 1), progress := s.now }).showReplay f
    else s

/-- HELLO: what a link says of itself, fabric ID, ceilings, window, lanes (R251). -/
def State.sendHello (s : State) (f : Nat) : State :=
  s.sendCtl f (ctlTrain opHELLO [s.selfFid, s.fget ⟨R.MFL_LINK_CTL f, 5, 4⟩, s.fget ⟨R.MFL_LINK_CTL f, 7, 6⟩,
    s.fget (R.MFL_REPLAY_CTL_WIN_KIB f), (s.link f).lanes])

/-- Back to DETECT from training, authentication or STRANGER (R249). -/
def State.toDetect (s : State) (f : Nat) : State := State.loseVc4 (s.lostVc4 f) ((s.forgetTraining f).setLinkState f lsDETECT)

/-- A retrain starts (R247): lanes realign and HELLO is exchanged again. A link of which nothing but VC4 is open trains
again instead (log entry 99). -/
def State.startRetrain (s : State) (f : Nat) : State :=
  let st := s.linkState f
  if st = lsUP then
    let s := s.setLinkState f lsRETRAIN
    let s := (s.modLink f fun l => { l with hello := none, echoed := false, aligned := false }).sendHello f
    (s.bump (R.MFL_RETRAINS f)).raise (linkPage f 0) 1
  else if s.vc4Open f then s.toDetect f
  else s

/-- Packets sent again, oldest first and ahead of new ones, behind one whose slots have begun (R239, R246); their cells are
wasted slots (R392). -/
def State.resend (s : State) (f : Nat) (ps : List Packet) : State :=
  let s := s.modLink f fun l => { l with tx := (l.tx.filter fun x => x.started) ++ ps.map fun p => s.txPacket p true }
  s.linkSlots (64 + f) 1 (ps.foldl (fun n p => n + ceilDiv p.bytes 256) 0)

/-- A link that cannot go on: down from service, and back to DETECT from the states before it. -/
def State.linkLost (s : State) (f : Nat) : State :=
  if s.linkLive f then s.moabenDown f lsDETECT else s.toDetect f

/-- A replay from packet `q` on, a retrain, or a link-down past the limit (R246). -/
def State.replayFrom (s : State) (f q : Nat) : State :=
  match (s.link f).replay.find? fun p => p.seq == q with
  | none => s
  | some p =>
    let s := s.bump (R.MFL_REPLAYS f)
    let set (g : Packet → Packet) (s : State) : State := s.modLink f fun l =>
      { l with replay := l.replay.map fun x => if x.seq = q then g x else x }
    if s.fget (R.MFL_REPLAY_LIMIT_LIMIT f) < p.count + 1 then
      if p.retrained then s.linkLost f
      else (set (fun x => { x with count := 0, retrained := true }) s).startRetrain f
    else if (s.link f).replay.any fun x => x.ue then
      -- A replay copy that cannot be corrected (R293): level LINK.
      (s.record eREPLAY_UE lvLINK none (64 + f) f).linkLost f
    else
      let s := set (fun x => { x with count := x.count + 1 }) s
      s.resend f ((s.link f).replay.dropWhile fun x => x.seq != q)

/-- The peer's XOFF mask (R240). -/
def State.obeyMask (s : State) (f mask : Nat) : State := s.fset (R.MFL_LINK_STS_XOFF_TX f) (mask % 32)

/-- The link enters CHANGE to go to new settings, which its rows take once what it has to say at the old ones is out; the
lanes then realign and HELLO is exchanged again (R252). The change takes MFL_TX_EQ as it stands (R284). -/
def State.enterChange (s : State) (f speed width set : Nat) : State :=
  (s.setLinkState f lsCHANGE).modLink f fun l => { l with
    change := some (speed, width, set, true), hello := none, echoed := false, aligned := false, txEq := s.reg (R.MFL_TX_EQ f)
    applied := false, readySent := false, peerReady := false }

/-- Step 3 of a change, once every packet is acknowledged: CHANGE goes out (R252). -/
def State.changeReady (s : State) (f : Nat) : State :=
  match (s.link f).change with
  | some (sp, w, set, false) =>
    if (s.link f).replay.isEmpty && s.linkState f == lsUP then
      -- A governor's change names the position that goes to the spare lane with it (R253, R254).
      let s := s.enterChange f sp w set
      let s := match (s.link f).spareWant with
        | some p => s.sendCtl f (ctlTrain opREMAP [p])
        | none => s
      s.sendCtl f (ctlTrain opCHANGE [sp, w, set])
    else s
  | _ => s

/-- An ACK of the last packet accepted, with the current mask (R240, R245). -/
def State.sendAck (s : State) (f : Nat) : State :=
  (s.modLink f fun l => { l with sinceAck := 0 }).sendCtl f
    (ctlSeq cbACK (s.fget ⟨R.MFL_SEQ_STS f, 27, 16⟩ + 4095) (s.fget (R.MFL_LINK_STS_XOFF_RX f)))

/-- A good ACK block taken (R240, R245). -/
def State.ackGot (s : State) (f seq mask : Nat) : State :=
  (((s.acknowledge f seq).obeyMask f mask).changeReady f).retryVc4 f

/-- A good NAK block taken: it acknowledges up to s - 1 and replays from s (R245, R246). -/
def State.nakGot (s : State) (f seq mask : Nat) : State :=
  let s := (s.acknowledge f (seq % 4096 + 4095)).obeyMask f mask
  (s.changeReady f).replayFrom f (seq % 4096)

/-- A good XOFF or XON block taken (R240). -/
def State.flowGot (s : State) (f mask : Nat) : State := (s.obeyMask f mask).retryVc4 f

/-- ACK_SEND: an ACK falls due (R245). -/
def execAckSend (link : Nat) (s : State) : Out :=
  let f := link % 8
  let l := s.link f
  let due := decide (s.fget (R.MFL_ACK_CTL_ACK_N f) ≤ l.sinceAck)
    || (l.sinceAck != 0 && decide (l.firstAck + cyclesOfNs (s.fget (R.MFL_ACK_CTL_ACK_T f)) ≤ s.now))
  .next (if due then s.sendAck f else s)

/-- ACK_RECEIVE: a good ACK block (R240, R245). -/
def execAckReceive (link seq mask : Nat) (s : State) : Out :=
  .next (s.ackGot (link % 8) seq mask)

/-- NAK_RECEIVE: it acknowledges up to s - 1 and replays from s (R245, R246). -/
def execNakReceive (link seq mask : Nat) (s : State) : Out :=
  .next (s.nakGot (link % 8) seq mask)

/-- REPLAY_TIMEOUT: no acknowledgement progress for REPLAY_TMO (R246). -/
def execReplayTimeout (link : Nat) (s : State) : Out :=
  let f := link % 8
  match (s.link f).replay with
  | [] => .next s
  | p :: _ =>
    if s.vc4Open f && decide ((s.link f).progress + cyclesOfNs (s.fget (R.MFL_REPLAY_CTL_TMO f)) ≤ s.now) then
      let s := (s.bump (R.MFL_REPLAY_TMO f)).modLink f fun l => { l with progress := s.now }
      .next (s.replayFrom f p.seq)
    else .next s

/-! ### Receiving (R243) -/

/-- A NAK for NEXT_RX, at most one until the sequence moves on or MFL_RTT + ACK_T has passed (R243). -/
def State.sendNak (s : State) (f : Nat) : State :=
  let wait := cyclesOfNs (s.fget ⟨R.MFL_RTT f, 15, 0⟩ + s.fget (R.MFL_ACK_CTL_ACK_T f))
  let may := match (s.link f).nak with
    | none => true
    | some t => decide (t + wait < s.now)
  if may then
    ((s.bump (R.MFL_NAK_TX f)).modLink f fun l => { l with nak := some s.now }).sendCtl f
      (ctlSeq cbNAK (s.fget ⟨R.MFL_SEQ_STS f, 27, 16⟩) (s.fget (R.MFL_LINK_STS_XOFF_RX f)))
  else s

/-- Sequence check of a whole packet (R243): accepted or not, and what the link layer does about it. -/
def State.rxPacket (s : State) (f seq : Nat) (bad null : Bool) : State × Bool :=
  let next := s.fget ⟨R.MFL_SEQ_STS f, 27, 16⟩
  let d := (seq % 4096 + 4096 - next) % 4096
  if bad then (s.sendNak f, false)
  else if d = 0 then
    let s := s.fset ⟨R.MFL_SEQ_STS f, 27, 16⟩ ((next + 1) % 4096)
    let s := s.modLink f fun l => { l with
      nak := none, sinceAck := l.sinceAck + 1, firstAck := if l.sinceAck = 0 then s.now else l.firstAck }
    let s := s.bump (R.MFL_RX_PKTS f)
    if null then (s.bump (R.MFL_NULL_RX f), false) else (s, true)
  else if d ≤ 2047 then (s.sendNak f, false)
  else ((s.bump (R.MFL_DUP_RX f)).sendAck f, false)

/-- A packet of VC4 received as the next one: it takes its number as any packet does (R243, R245; log entry 100). -/
def State.rxVc4 (s : State) (f : Nat) : State :=
  if s.listens f then (s.rxPacket f (s.fget ⟨R.MFL_SEQ_STS f, 27, 16⟩) false false).1 else s

/-! ### Flow control (R239, R240) -/

/-- XOFF_RECEIVE (R240). -/
def execXoffReceive (link mask : Nat) (s : State) : Out := .next (s.flowGot (link % 8) mask)

/-- XON_RECEIVE (R240). -/
def execXonReceive (link mask : Nat) (s : State) : Out :=
  .next (s.flowGot (link % 8) mask)

/-- XOFF_RESEND: the mask again, every MFL_RTT while any VC is stopped, and once more after the last XON (R240). -/
def execXoffResend (link : Nat) (s : State) : Out :=
  let f := link % 8
  let mask := s.fget (R.MFL_LINK_STS_XOFF_RX f)
  let due := s.vc4Open f && decide ((s.link f).maskAt + cyclesOfNs (s.fget ⟨R.MFL_RTT f, 15, 0⟩) ≤ s.now)
    && (mask != 0 || (s.link f).xonDue)
  if due then
    let s := s.modLink f fun l => { l with maskAt := s.now, xonDue := false }
    -- The mask travels in an XOFF of a VC it stops, or in an XON.
    let vc := (([0, 1, 4] : List Nat).find? (bit mask)).getD 0
    let s := s.sendCtl f (ctlFlow (if mask = 0 then cbXON else cbXOFF) vc mask)
    .next (if mask = 0 then s else s.bump (R.MFL_XOFF_TX f))
  else .next s

/-! ### Lanes and training (R232, R233, R242, R249, R251) -/

/-- Lane sets of a width code (R254). -/
def laneSets : Nat → List Nat
  | 2 => [0xFF]
  | 1 => [0x0F, 0xF0]
  | _ => [0x03, 0x0C, 0x30, 0xC0]

/-- The members of a lane set that are not good. -/
def badMembers (set good : Nat) : List Nat := (upTo 8).filter fun p => bit set p && !bit good p

/-- Can a lane set run, the spare carrying at most one member? -/
def setRuns (good set : Nat) : Bool :=
  let b := badMembers set good
  b.isEmpty || (b.length == 1 && bit good 8)

/-- The widest width up to a ceiling that a deskewed lane set supports, with its positions (R251). -/
def widest (good ceiling : Nat) : Option (Nat × Nat) :=
  ((upTo 3).reverse.filter fun w => decide (w ≤ ceiling)).findSome? fun w =>
    ((laneSets w).find? (setRuns good)).map fun set => (w, set)

/-- HEADROOM of R242 in cells, from RTT, rate in bytes per ns, and the peer's window. -/
def headroomCells (rtt speed width win : Nat) : Nat :=
  ceilDiv (2 * rtt * 2 ^ (speed + width + 1) + 4160 + win * 1024) 256

/-- Position of the spare lane changed (R253): SPARE_MAPPED when it differs. -/
def State.setSpare (s : State) (f p : Nat) : State :=
  if s.fget (R.MFL_LINK_STS_SPARE_FOR f) = p then s
  else ((s.fset (R.MFL_LINK_STS_SPARE_FOR f) p).fset (R.MFL_LANE_MAP_SPARE_FOR f) p).raise (linkPage f 1) 0

/-- The lane set of a width that a deskewed lane set supports. -/
def setFor (good width : Nat) : Option Nat := (laneSets width).find? (setRuns good)

/-- The position on the spare lane: a member of the set that has no lane of its own, else the one mapped to it already, which
nothing but REMAP takes back (R251, R253, R254). -/
def spareFor (set good mapped : Nat) : Nat :=
  match badMembers set good with
  | p :: _ => p
  | [] => mapped

/-- Speed, width, the lane set of each direction and headroom taken (R242, R251): what comes in by this end's deskewed
lanes, what goes out by the peer's, or by the set its CHANGE has asked for. Training starts with no mapping. -/
def State.applyWidth (s : State) (f speed width set : Nat) : State :=
  let l := s.link f
  let fresh := s.linkState f == lsTRAIN
  let mapped := l.spareWant.getD (if fresh then 0xF else s.fget (R.MFL_LINK_STS_SPARE_FOR f))
  let there := l.hello.elim 0x1FF fun h => h.2.2.2.2
  let out := match l.txAsk.filter fun a => (laneSets width).contains a with
    | some a => a
    | none => (setFor there width).getD set
  let s := (s.fset (R.MFL_LINK_STS_SPEED f) speed).fset (R.MFL_LINK_STS_WIDTH f) width
  let s := (s.setSpare f (spareFor set l.lanes mapped)).modLink f fun l => { l with
    set := set, txSet := out, txSpare := spareFor out there (if fresh then 0xF else l.txSpare) }
  (s.fset (R.MFL_HEADROOM_CELLS f) (headroomCells (s.fget ⟨R.MFL_RTT f, 15, 0⟩) speed width (s.link f).peerWin)).updateXoff

/-- Width and speed settled from both HELLOs; none when the lanes support no width (R251). -/
def State.settle (s : State) (f : Nat) : Option State :=
  match (s.link f).hello with
  | none => none
  | some (_, sp, w, _, lanes) =>
    let speed := min sp (s.fget ⟨R.MFL_LINK_CTL f, 5, 4⟩)
    -- A retrain keeps the lane set in service where its lanes still run, and widens nothing (R247, R254).
    let again := s.linkState f == lsRETRAIN
    let own := s.fget ⟨R.MFL_LINK_CTL f, 7, 6⟩
    let own := if again then min own (s.fget (R.MFL_LINK_STS_WIDTH f)) else own
    match widest (s.link f).lanes (min w own), widest lanes w with
    | some (a, _), some (b, _) => (widest (s.link f).lanes (min a b)).map fun x =>
        let set := (s.link f).set
        s.applyWidth f speed x.1 (if again && (laneSets x.1).contains set && setRuns (s.link f).lanes set then set else x.2)
    | _, _ => none

/-- The settings of a change go onto the lanes, and HELLO goes out at them (R252). -/
def State.changeApply (s : State) (f : Nat) : State :=
  match (s.link f).change with
  | some (sp, w, set, true) =>
    if s.linkState f != lsCHANGE || (s.link f).applied then s
    else ((s.applyWidth f sp w set).modLink f fun l => { l with applied := true }).sendHello f
  | _ => s

/-- READY once this end has realigned at the new settings, and back to service once the peer's has come too: packets not yet
acknowledged go first (R252). A set the realigned lanes cannot run waits for the timeout. -/
def State.changeGo (s : State) (f : Nat) : State :=
  match (s.link f).change with
  | some (sp, w, set, true) =>
    if s.linkState f != lsCHANGE || !(s.link f).aligned || !setRuns (s.link f).lanes set then s
    else
      let s := s.changeApply f
      let s := if (s.link f).readySent then s
        else (s.modLink f fun l => { l with readySent := true }).sendCtl f (ctlTrain opREADY [])
      if !(s.link f).peerReady then s
      else
        let s := s.applyWidth f sp w set
        let s := (s.setLinkState f lsUP).modLink f fun l => { l with
          change := none, applied := false, readySent := false, peerReady := false, txAsk := none, spareWant := none
          progress := s.now }
        ((s.resend f (s.link f).replay).retryVc4 f).updateXoff
  | _ => s

/-- Is a link held down by a loop or PRBS on one of its lanes (R277, R280)? -/
def State.linkTested (s : State) (f : Nat) : Bool :=
  (s.fget (R.MFL_LOOP_CTL_MODE f) != 0 && s.fget (R.MFL_LOOP_CTL_LANES f) != 0)
    || (s.testUnit (24 + f)).gen != 0

/-- FORWARDED_CLOCK_DETECT: the forwarded clock is there, and hunting starts (R249). -/
def execForwardedClockDetect (link : Nat) (s : State) : Out :=
  let f := link % 8
  if s.linkState f == lsDETECT && s.linksAllowed && !s.linkTested f && s.flag (R.MFL_LINK_CTL_ENABLE f) then
    let s := (s.forgetTraining f).fset ⟨R.MFL_AL_LOCK f, 24, 16⟩ 0
    -- Training starts: scramblers at their seeds, rows counted afresh (R230, R231).
    .next ((s.modLink f fun l => { l with
      clock := true, lanes := 0, aligned := false, txScr := (upTo 9).map laneSeed, rxScr := (upTo 9).map laneSeed
      txRow := 0, rxRow := 0, rowTime := 0, marks := List.replicate 9 (0, 0), set := 0xFF, txSet := 0xFF, txSpare := 0xF
      txAsk := none, spareWant := none }).setLinkState f lsALIGN)
  else .next s

/-- Every lane locked: those that fail deskew are dropped and training goes on with the rest (R233). -/
def State.align (s : State) (f : Nat) (aligns : List (Nat × Nat)) : State :=
  let st := s.linkState f
  if s.linksAllowed && (st == lsALIGN || st == lsRETRAIN || st == lsCHANGE) then
    let good := deskewed aligns
    let s := (s.modLink f fun x => { x with lanes := good, aligned := true }).fset ⟨R.MFL_LINK_STS f, 12, 12⟩
      (ofBool (laneOrder aligns))
    if st = lsALIGN then
      if 2 ≤ ((upTo 9).filter fun k => bit good k).length then (s.setLinkState f lsTRAIN).sendHello f else s.toDetect f
    else s.changeGo f
  else s

/-- LANE_LOCK: a lane hunts over `len` bits of its line and locks where 64 blocks in a row are valid; `aligns` is the lane
each physical lane's ALIGN block names and the row it arrives in, heeded once all nine have locked (R232, R233). -/
def execLaneLock (link lane line len : Nat) (aligns : List (Nat × Nat)) (s : State) : Out :=
  let f := link % 8
  let l := lane % 9
  let h := hunt line len (len + 2) 0 0 0 0
  let s := s.bumpBy (R.MFL_HUNT_WRAP f) h.2
  if h.1.isNone then .next s
  else
    let now := putBits (s.fget ⟨R.MFL_AL_LOCK f, 24, 16⟩) l l 1
    let s := s.fset ⟨R.MFL_AL_LOCK f, 24, 16⟩ now
    .next (if now = 0x1FF then s.align f aligns else s)

/-- A lane's bad block, counted; the sixteenth among the last 64 unlocks the lane, which hunts again, and the link retrains
(R229, R232, R254). Blocks of the rows since the last one marked were good. -/
def State.badBlock (s : State) (f l : Nat) : State :=
  let s := s.bump (R.MFL_LANE_BAD f l)
  let x := s.link f
  let m := x.marks.getD l (0, 0)
  let w := (m.1 * 2 ^ min 64 (max 1 (x.rows - m.2)) + 1) % 2 ^ 64
  let s := s.modLink f fun x => { x with
    seen := setAt x.seen l (x.seen.getD l 0 + 1), marks := setAt x.marks l (w, max x.rows (m.2 + 1)) }
  let locked := s.fget ⟨R.MFL_AL_LOCK f, 24, 16⟩
  if 16 ≤ badMarks w ∧ bit locked l = true then
    let s := s.modLink f fun x => { x with marks := setAt x.marks l (0, x.rows) }
    (s.fset ⟨R.MFL_AL_LOCK f, 24, 16⟩ (putBits locked l l 0)).startRetrain f
  else s

/-- TRAIN_TIMEOUT: TRAIN has not reached AUTH within 10 ms, or ALIGN has fewer than two usable lanes (R249). -/
def execTrainTimeout (link : Nat) (s : State) : Out :=
  let f := link % 8
  let st := s.linkState f
  let lanes := ((upTo 9).filter fun k => bit (s.fget ⟨R.MFL_AL_LOCK f, 24, 16⟩) k).length
  if (st == lsTRAIN && decide ((s.link f).entered + 10 * cyclesPerMs ≤ s.now)) || (st == lsALIGN && decide (lanes < 2)) then
    .next (s.toDetect f)
  else .next s

/-- MFL_LINK_CTL.ENABLE written 1 (R249, R257); ignored for a link that failed calibration (R426). -/
def State.linkEnable (s : State) (f : Nat) : State :=
  if bit s.board.badLinks f then s
  else
    let s := s.fset ⟨R.MFL_LINK_CTL f, 0, 0⟩ 1
    if s.linkState f = lsDISABLED then s.toDetect f else s

/-- MFL_LINK_CTL.ENABLE written 0: the link goes down (R250). -/
def State.linkDisable (s : State) (f : Nat) : State :=
  (s.fset ⟨R.MFL_LINK_CTL f, 0, 0⟩ 0).moabenDown f lsDISABLED

/-- MFL_LINK_ENABLE (R257). -/
def execMflLinkEnable (link : Nat) (s : State) : Out := .next (s.linkEnable (link % 8))

/-- MFL_LINK_DISABLE (R250). -/
def execMflLinkDisable (link : Nat) (s : State) : Out := .next (s.linkDisable (link % 8))

/-- MFL_RETRAIN: MFL_LINK_CTL.RETRAIN written 1 (R247). -/
def execMflRetrain (link : Nat) (s : State) : Out := .next (s.startRetrain (link % 8))

/-- RETRAIN_DONE: lanes realigned and HELLO exchanged again: the link is UP and its replay resumes (R247). -/
def execRetrainDone (link : Nat) (s : State) : Out :=
  let f := link % 8
  if s.linkState f != lsRETRAIN || !(s.link f).echoed || !(s.link f).aligned then .next s
  else match s.settle f with
    | none => .next s
    | some s =>
      let s := (s.setLinkState f lsUP).modLink f fun l => { l with progress := s.now }
      -- A replay copy that cannot be corrected (R293): level LINK.
      if (s.link f).replay.any fun x => x.ue then .next ((s.record eREPLAY_UE lvLINK none (64 + f) f).moabenDown f lsDETECT)
      else .next (((s.resend f (s.link f).replay).changeReady f).retryVc4 f).updateXoff

/-- RETRAIN_TIMEOUT: 50 µs have passed (R247). -/
def execRetrainTimeout (link : Nat) (s : State) : Out :=
  let f := link % 8
  .next (if s.linkState f == lsRETRAIN && decide ((s.link f).entered + 50 * cyclesPerUs ≤ s.now) then s.moabenDown f lsDETECT
    else s)

/-- Taps of a lane's transmitter in 1/64 of AMP, pre-cursor, main cursor and post-cursor, as the last training, retrain or
change took them: the data lanes and the spare (0 to 8) have all three, the forwarded-clock lane the main cursor alone
(R284). -/
def LinkSt.taps (l : LinkSt) (lane : Nat) : Int × Int × Int :=
  let pre := bits l.txEq.toNat 3 0
  let post := bits l.txEq.toNat 12 8
  (if lane < 9 then -pre else 0, 64 - pre - post, if lane < 9 then -post else 0)

/-! ### Changes while running (R252, R253) -/

/-- A change of width, speed or lane set starts: no new packets, CHANGE once all are acknowledged (R252). -/
def State.startChange (s : State) (f speed width set : Nat) : State :=
  if s.linkState f != lsUP || (s.link f).change.isSome then s
  else (s.modLink f fun l => { l with change := some (speed, width, set, false) }).changeReady f

/-- MFL_LINK_CTL.CHANGE written 1: to the register's SPEED and WIDTH, as the lanes support them (R252). -/
def State.linkChange (s : State) (f : Nat) : State :=
  match widest (s.link f).lanes (s.fget ⟨R.MFL_LINK_CTL f, 7, 6⟩) with
  | some (w, set) => s.startChange f (s.fget ⟨R.MFL_LINK_CTL f, 5, 4⟩) w set
  | none => s

/-- LINK_CHANGE (R252). -/
def execLinkChange (link : Nat) (s : State) : Out := .next (s.linkChange (link % 8))

/-- CHANGE_RECEIVE: the peer changes; where both ends do, the lower speed and the narrower width stand (R252). -/
def execChangeReceive (link speed width lanes : Nat) (s : State) : Out :=
  let f := link % 8
  if s.linkState f != lsUP && s.linkState f != lsCHANGE then .next s
  else
    -- The set is the one the peer receives on; this end receives on the like where its lanes run (log entry 25).
    let mine := if setRuns (s.link f).lanes (lanes % 256) then lanes % 256
      else (setFor (s.link f).lanes (width % 3)).getD (lanes % 256)
    let (sp, w, set) := match (s.link f).change with
      | some (a, b, c, _) => if width % 3 < b then (min a speed, width % 3, mine) else (min a speed, b, c)
      | none => (speed % 3, width % 3, mine)
    .next ((s.enterChange f sp w set).modLink f fun l => { l with txAsk := some (lanes % 256) })

/-- READY_RECEIVE: both ends have retrained at the new settings and resume, packets not yet acknowledged first
(R252). -/
def execReadyReceive (link : Nat) (s : State) : Out :=
  let f := link % 8
  if s.linkState f != lsCHANGE || (s.link f).change.isNone then .next s
  else .next ((s.modLink f fun l => { l with peerReady := true }).changeGo f)

/-- CHANGE_TIMEOUT: the change could not retrain within 50 µs (R252). -/
def execChangeTimeout (link : Nat) (s : State) : Out :=
  let f := link % 8
  .next (if s.linkState f == lsCHANGE && decide ((s.link f).entered + 50 * cyclesPerUs ≤ s.now) then s.moabenDown f lsDETECT
    else s)

/-- REMAP_RECEIVE: the peer asks for a position on the spare lane, or back on its own: the transmitter stops new packets
and sends the position there from the next row (R253, log entry 25). -/
def execRemapReceive (link position : Nat) (s : State) : Out :=
  let f := link % 8
  let p := if position % 16 < 8 then position % 16 else 0xF
  let st := s.linkState f
  .next (if st = lsUP ∨ st = lsCHANGE then
      (s.setLinkState f lsCHANGE).modLink f fun l => { l with txSpare := p, remapTx := some p }
    else if lsTRAIN ≤ st then s.modLink f fun l => { l with txSpare := p, remapTx := some p }
    else s)

/-- MFL_LANE_MAP written with GO = 1: REMAP goes out, and the receiver goes to the new lane set at the first ALIGN row it
sees there (R253). A link of which no training has found lanes yet takes them from its training. -/
def State.spareMap (s : State) (f p : Nat) : State :=
  let p := if p < 8 then p else 0xF
  let s := s.fset (R.MFL_LANE_MAP_SPARE_FOR f) p
  if s.linkState f < lsTRAIN then s
  else
    let s := if s.linkState f = lsUP then s.setLinkState f lsCHANGE else s
    (s.modLink f fun l => { l with remap := some p }).sendCtl f (ctlTrain opREMAP [p])

/-- A spare mapping over in both directions: the link resumes, and packets that the switch broke are replayed as any others
(R253). -/
def State.remapOver (s : State) (f : Nat) : State :=
  let l := s.link f
  if l.remap.isNone && l.remapTx.isNone && s.linkState f == lsCHANGE && l.change.isNone then
    ((s.setLinkState f lsUP).retryVc4 f).updateXoff
  else s

/-- The transmitter's half is over with the ALIGN row it sends on the new lane set (R253). -/
def State.remapSent (s : State) (f : Nat) : State :=
  if (s.link f).remapTx.isNone then s else (s.modLink f fun l => { l with remapTx := none }).remapOver f

/-- An ALIGN block on a lane tells the receiver that the peer sends on the new lane set: on the spare lane in a row that only
the short period of a change has, or on the lane a position goes back to. The receiver switches there (R253, R231). -/
def State.remapSeen (s : State) (f lane row : Nat) : State :=
  match (s.link f).remap with
  | none => s
  | some p =>
    let back := laneName (s.flag (R.MFL_LINK_STS_REVERSED f)) (s.fget (R.MFL_LINK_STS_SPARE_FOR f))
    let there := if p < 8 then lane == 8 && row != 0
      else lane == back || s.fget (R.MFL_LINK_STS_SPARE_FOR f) == 0xF
    if there then ((s.setSpare f p).modLink f fun l => { l with remap := none }).remapOver f else s

def execSpareMap (link position : Nat) (s : State) : Out := .next (s.spareMap (link % 8) (position % 16))

/-! ### The lane-health governor (R254) -/

/-- Bad blocks of a physical lane over the bins held. -/
def laneSum (bins : List (List Nat)) (l : Nat) : Nat := bins.foldl (fun n b => n + b.getD l 0) 0

/-- One evaluation of one link. Its log entries name the lane in service with the most bad blocks, and SPARE_FOR. -/
def State.laneGov (s : State) (f : Nat) : State :=
  let x := s.link f
  let bins := (x.seen :: x.bins).take 10
  let r := (upTo 9).map (laneSum bins)
  let thr := s.fget (R.MFL_LANE_THR_SPARE_THR f)
  let en := s.flag (R.MFL_LANE_GOV_EN f)
  let hot := (upTo 9).map fun l => if en && decide (thr ≤ r.getD l 0) then x.hot.getD l 0 + 1 else 0
  let s := s.modLink f fun l => { l with bins := bins, seen := List.replicate 9 0, hot := hot }
  let s := (upTo 9).foldl (fun s l => s.setReg (R.MFL_LANE_ERR f l) (BitVec.ofNat 32 (min (r.getD l 0) (2 ^ 24 - 1)))) s
  if s.linkState f != lsUP || !en || x.change.isSome then s
  else
    let spare := s.fget (R.MFL_LINK_STS_SPARE_FOR f)
    let phys := fun p => if p = spare then 8 else laneName (s.flag (R.MFL_LINK_STS_REVERSED f)) p
    let ps := (upTo 8).filter fun p => bit x.set p
    let w := ps.foldl (fun (b : Option Nat) p => match b with
      | none => some p
      | some q => if r.getD (phys q) 0 < r.getD (phys p) 0 then some p else some q) none
    match w with
    | none => s
    | some w =>
      let m := r.getD (phys w) 0
      let width := s.fget (R.MFL_LINK_STS_WIDTH f)
      let nthr := s.fget (R.MFL_LANE_THR_NARROW_THR f)
      if hot.getD (phys w) 0 < s.fget (R.MFL_LANE_GOV_HYST f) then s
      else if spare = 0xF ∧ r.getD 8 0 < thr then
        (s.spareMap f w).govLog gLANE aREMAP (16 * f + phys w) spare w m
      else if nthr ≤ m ∧ s.fget (R.MFL_LANE_GOV_MIN_WIDTH f) < width then
        -- A position already on the spare lane stays there (R254); the spare is free for another only without one.
        let fit (p : Nat) : Bool := decide (r.getD (phys p) 0 < nthr) && (p == spare || bit x.lanes p)
        let free := spare == 0xF && fit 8
        let good := ((upTo 8).filter fit).foldl (fun n p => n + 2 ^ p) (if free then 256 else 0)
        -- Never below MIN_WIDTH (R28).
        match (widest good (width - 1)).filter fun y => decide (s.fget (R.MFL_LANE_GOV_MIN_WIDTH f) ≤ y.1) with
        | some (nw, set) =>
          let s := (s.modLink f fun l => { l with spareWant := (badMembers set good).head? }).startChange f
            (s.fget (R.MFL_LINK_STS_SPEED f)) nw set
          (s.govLog gLANE aNARROW (16 * f + phys w) spare (s.fget (R.MFL_LINK_STS_SPARE_FOR f)) m).raise (linkPage f 1) 1
        | none => s.govLog gLANE aNO_ACTION (16 * f + phys w) spare spare m
      else s.govLog gLANE aNO_ACTION (16 * f + phys w) spare spare m

end Sys2Proof.Machine
end

