-- ==== Sys2Proof/Machine/Fabric.lean ====
section
/-! DEFINITION. Fabric mode (R257 to R271): HELLO and ECHO with the peer's fabric ID, authentication, resumption and
strangers, the routing view, and remote bridges that lose their device. -/

namespace Sys2Proof.Machine

/-! ### Keys, lists and chains (R259 to R261) -/

/-- SHAKE256 with a 32-byte output, as a number. -/
def hash32 (bs : List Byte) : W256 := BitVec.ofNat 256 (leNat (Config.shake256 bs 32))

/-- `n` applications of SHAKE256 with a 32-byte output. -/
def hashN : Nat → List Byte → List Byte
  | 0, x => x
  | n + 1, x => hashN n (Config.shake256 x 32)

/-- PEER_KEY_HASH (R262). -/
def State.peerHash (s : State) (f : Nat) : W256 := s.tbl (linkPage f 2) 1 0

/-- Is a key hash on the link's approved list, in an enabled entry (R259)? -/
def State.listed (s : State) (f : Nat) (h : W256) : Bool :=
  (upTo 16).any fun k => bit (s.fget (R.MFL_AUTH_EN_EN f)) k && s.tbl (linkPage f 2) 0 k == h

/-- A fresh 32-byte value (log entry 3). -/
def State.drawBytes (s : State) : List Byte × State :=
  let (w, s) := s.drawWord
  (leBytes 32 w.toNat, s)

/-- CHAIN_LEFT as the chain stands. -/
def State.showChain (s : State) (f : Nat) : State :=
  s.fset (R.MFL_AUTH_STS_CHAIN_LEFT f) (match (s.link f).chain with
    | some (_, uses, _) => 1024 - uses
    | none => 0)

def State.dropChain (s : State) (f : Nat) : State := (s.modLink f fun l => { l with chain := none }).showChain f

/-- The bytes of an OFFER (R259). -/
def offerBytes (fid : Nat) (key nonce head : List Byte) : List Byte := [BitVec.ofNat 8 fid] ++ key ++ nonce ++ head

/-- A full authentication starts: an OFFER with a fresh nonce and the head of a fresh chain (R259). -/
def State.offer (s : State) (f : Nat) : State :=
  let (nonce, s) := s.drawBytes
  let (seed, s) := s.drawBytes
  let head := hashN 1024 seed
  let s := s.modLink f fun l => { l with
    seed := seed, nonce := nonce, ourOffer := offerBytes s.selfFid s.sec.pub nonce head, signing := false
    weAccept := false, peerAccept := false, resumed := false, peerOffer := [] }
  s.sendVc4 f (.offer s.selfFid s.sec.pub nonce head)

/-- Entry to AUTH: RESUME while a chain is held and not used up, an OFFER otherwise (R259, R260). -/
def State.startAuth (s : State) (f : Nat) : State :=
  if !s.linksAllowed then s
  else
  let s := (s.setLinkState f lsAUTH).modLink f fun l => { l with weAccept := false, peerAccept := false, peerOffer := [] }
  match (s.link f).chain with
  | some (seed, uses, _) =>
    if uses < 1024 then
      (s.modLink f fun l => { l with resumed := true }).sendVc4 f (.resume (hashN (1023 - uses) seed))
    else s.offer f
  | none => s.offer f

abbrev acNOT_LISTED : Nat := 1
abbrev acBAD_SIG : Nat := 2
abbrev acDUP_FID : Nat := 3
abbrev acFID_CONFLICT : Nat := 4
abbrev acPEER_REJECT : Nat := 5
abbrev acTIMEOUT : Nat := 6

/-- The link becomes STRANGER; one in service goes down for it (R250, R261). -/
def State.toStranger (s : State) (f cause : Nat) : State :=
  let s := if s.linkLive f then s.moabenDown f lsSTRANGER else s.setLinkState f lsSTRANGER
  let s := (s.fset (R.MFL_AUTH_STS_RESULT f) 3).fset (R.MFL_AUTH_STS_CAUSE f) cause
  (s.bump (R.MFL_AUTH_FAIL f)).raise (linkPage f 2) 0

/-- An authenticated link enters service (R259, R260, R84). -/
def State.authUp (s : State) (f : Nat) : State :=
  let l := s.link f
  -- A resumption proves the last peer accepted, whatever key an OFFER refused since has shown (R260, R262).
  let s := s.modLink f fun l => { l with
    lastPeer := if l.resumed then l.lastPeer else some (s.peerHash f)
    chain := if l.resumed then l.chain else some (l.seed, 0, l.peerHead) }
  let s := (s.fset (R.MFL_AUTH_STS_RESULT f) (if l.resumed then 2 else 1)).fset (R.MFL_AUTH_STS_CAUSE f) 0
  let s := s.bump (if l.resumed then R.MFL_AUTH_RESUME f else R.MFL_AUTH_FULL f)
  let s := ((s.showChain f).setLinkState f lsUP).raise (linkPage f 2) 2
  (s.portUp (64 + f)).updateXoff

/-- UP once this end has accepted its peer and has received ACCEPT (R259 step 4). -/
def State.tryUp (s : State) (f : Nat) : State :=
  if (s.link f).weAccept && (s.link f).peerAccept && s.linkState f == lsAUTH then s.authUp f else s

/-! ### HELLO and ECHO (R251, R258) -/

/-- Does another link in UP bind a fabric ID to a different key hash (R258)? -/
def State.fidConflict (s : State) (f fid : Nat) (h : W256) : Bool :=
  (upTo 8).any fun g => g != f && s.linkState g == lsUP && s.fget (R.MFL_LINK_STS_PEER_FID g) == fid
    && (s.link g).lastPeer.any fun k => k != h

/-- Training goes on once HELLO and ECHO have both come (R251). -/
def State.trained (s : State) (f : Nat) : State :=
  if s.linkState f != lsTRAIN || !(s.link f).echoed then s
  else match s.settle f with
    | none => s
    | some s =>
      let s := s.modLink f fun l => { l with win := s.fget (R.MFL_REPLAY_CTL_WIN_KIB f) }
      s.startAuth f

/-- HELLO_RECEIVE: the peer's fabric ID, ceilings, window and lanes, answered with ECHO; the fabric ID is checked (R251,
R258). Whether it is bound to another identity is checked as soon as the peer's identity is known, by its OFFER or its
RESUME. -/
def execHelloReceive (link fid speed width win lanes : Nat) (s : State) : Out :=
  let f := link % 8
  let st := s.linkState f
  let fid := fid % 16
  let take (s : State) : State := (s.fset (R.MFL_LINK_STS_PEER_FID f) fid).modLink f fun l => { l with
    hello := some (fid, min speed 2, min width 2, win, lanes), peerWin := win }
  let s := if s.linksAllowed && (st == lsTRAIN || st == lsRETRAIN || st == lsCHANGE) then
      s.sendCtl f (ctlTrain opECHO [s.time80])
    else s
  if !s.linksAllowed then .next s
  else if st = lsTRAIN then
    let s := take s
    if fid = s.selfFid then .next (s.toStranger f acDUP_FID)
    else .next (s.trained f)
  else if st = lsRETRAIN ∨ st = lsCHANGE then
    if s.fget (R.MFL_LINK_STS_PEER_FID f) = fid then .next (take s) else .next (s.moabenDown f lsDETECT)
  else .next s

/-- Round trip from the time a HELLO left, its time of arrival at the peer as ECHO returns it, and the time ECHO came, in
2^-16 ns: the way out and the way back, in which the peer's clock cancels, rounded up to whole ns (R251). -/
def roundTrip (sent heard back : Nat) : Nat :=
  ceilDiv (((heard : Int) - sent) + ((back : Int) - heard)).toNat 65536

/-- ECHO_RECEIVE: the round trip is measured (R251). -/
def execEchoReceive (link : Nat) (times : EchoTimes) (s : State) : Out :=
  let f := link % 8
  let st := s.linkState f
  if s.linksAllowed && (st == lsTRAIN || st == lsRETRAIN || st == lsCHANGE) then
    let s := (s.fset ⟨R.MFL_RTT f, 15, 0⟩ (min (roundTrip times.sent times.heard times.back) 65535)).modLink f fun l => { l with echoed := true }
    .next (s.trained f)
  else .next s

/-! ### Authentication (R259 to R262) -/

/-- AUTH_OFFER_RECEIVE: the peer's key hash is stored, a change of peer is reported, and signing starts (R259, R262). An
OFFER against a RESUME falls back to full authentication (R260). -/
def execAuthOfferReceive (link fid : Nat) (key nonce head : List Byte) (s : State) : Out :=
  let f := link % 8
  let s := s.rxVc4 f
  if s.linkState f != lsAUTH || !s.linksAllowed then .next s
  else
    let h := hash32 key
    let s := s.setTbl (linkPage f 2) 1 0 h
    let s := match (s.link f).lastPeer with
      | some k => if k = h then s
        else (s.record ePEER_CHANGED lvNOTICE none 0x7F (f + k.toNat * 2 ^ 256 + h.toNat * 2 ^ 512)).raise (linkPage f 2) 1
      | none => s
    if s.fidConflict f (s.fget (R.MFL_LINK_STS_PEER_FID f)) h then .next (s.toStranger f acFID_CONFLICT)
    else
      let s := if (s.link f).resumed then (s.dropChain f).offer f else s
      .next (s.modLink f fun l => { l with
        peerOffer := offerBytes (fid % 16) key nonce head, peerHead := head, signing := true
        -- An ACCEPT of a RESUME is none of what this OFFER begins (R260).
        weAccept := false, peerAccept := false })

/-- The message both ends sign: the two OFFERs in ascending order of fabric ID (R259). -/
def State.offersSigned (s : State) (f : Nat) : List Byte :=
  let l := s.link f
  let a := (l.ourOffer.headD 0).toNat
  let b := (l.peerOffer.headD 0).toNat
  if a ≤ b then l.ourOffer ++ l.peerOffer else l.peerOffer ++ l.ourOffer

/-- Parts of a signature, 4,096 bytes each (R235). -/
def proofParts (sig : List Byte) : List Vc4 :=
  (upTo (ceilDiv sig.length 4096)).map fun k => .proof k ((sig.drop (4096 * k)).take 4096)

/-- A link's signature is made: it goes out as a PROOF (R259 step 2, R407). -/
def State.linkSigned (s : State) (f : Nat) : State :=
  if !(s.link f).signing || s.linkState f != lsAUTH then s
  else
    let sig := Config.slhSign s.sec.priv (s.offersSigned f)
    let s := (s.modLink f fun l => { l with signing := false }).bump R.SEC_SIGNS
    (proofParts sig).foldl (fun s v => s.sendVc4 f v) s

/-- AUTH_PROOF_RECEIVE: the peer's signature over both OFFERs, whole; it is verified against the key it offered, and the
key against the list (R259 step 3, R261). -/
def execAuthProofReceive (link : Nat) (signature : List Byte) (s : State) : Out :=
  let f := link % 8
  let s := s.rxVc4 f
  if s.linkState f != lsAUTH || !s.linksAllowed || (s.link f).peerOffer.isEmpty then .next s
  else
    let key := ((s.link f).peerOffer.drop 1).take 64
    if !Config.slhVerify key (s.offersSigned f) signature then .next ((s.sendVc4 f .reject).toStranger f acBAD_SIG)
    else if !s.listed f (s.peerHash f) then .next ((s.sendVc4 f .reject).toStranger f acNOT_LISTED)
    else .next (((s.modLink f fun l => { l with weAccept := true }).sendVc4 f .accept).tryUp f)

/-- AUTH_ACCEPT_RECEIVE (R259). -/
def execAuthAcceptReceive (link : Nat) (s : State) : Out :=
  let f := link % 8
  let s := s.rxVc4 f
  -- With neither a RESUME of this end's out nor an OFFER of the peer's in, it answers a RESUME given up since (R260).
  let stale := !(s.link f).resumed && (s.link f).peerOffer.isEmpty
  if s.linkState f != lsAUTH || !s.linksAllowed || stale then .next s
  else .next ((s.modLink f fun l => { l with peerAccept := true }).tryUp f)

/-- AUTH_REJECT_RECEIVE (R261). -/
def execAuthRejectReceive (link : Nat) (s : State) : Out :=
  let f := link % 8
  let s := s.rxVc4 f
  .next (if s.linkState f == lsAUTH && s.linksAllowed then s.toStranger f acPEER_REJECT else s)

/-- AUTH_RESUME_RECEIVE: the next value of the peer's chain, or a fall back to full authentication (R260). -/
def execAuthResumeReceive (link : Nat) (value : List Byte) (s : State) : Out :=
  let f := link % 8
  let s := s.rxVc4 f
  if s.linkState f != lsAUTH || !s.linksAllowed then .next s
  else match (s.link f).chain with
    | some (seed, uses, last) =>
      if (s.link f).resumed && Config.shake256 value 32 == last && decide (uses < 1024) then
        -- The chain proves the last peer accepted: its identity is checked against other links (R258).
        if (s.link f).lastPeer.any (fun h => s.fidConflict f (s.fget (R.MFL_LINK_STS_PEER_FID f)) h) then
          .next (s.toStranger f acFID_CONFLICT)
        else
          let s := (s.modLink f fun l => { l with chain := some (seed, uses + 1, value), weAccept := true }).showChain f
          .next ((s.sendVc4 f .accept).tryUp f)
      else .next ((s.dropChain f).offer f)
    -- No chain is held: the answer is a full authentication, already begun when this end sent an OFFER in this AUTH.
    | none => .next (if (s.link f).resumed || (s.link f).ourOffer.isEmpty then s.offer f else s)

/-- AUTH_TIMEOUT: 400 ms in AUTH (R259). -/
def execAuthTimeout (link : Nat) (s : State) : Out :=
  let f := link % 8
  .next (if s.linkState f == lsAUTH && decide ((s.link f).entered + 400 * cyclesPerMs ≤ s.now) then s.toStranger f acTIMEOUT
    else s)

/-- Key hash of a link's peer: the one accepted while the link is in service, else the last OFFER's (R261, R262). -/
def State.judgedHash (s : State) (f : Nat) : W256 :=
  if s.linkLive f then (s.link f).lastPeer.getD (s.peerHash f) else s.peerHash f

/-- What an edit of the approved list or its enables does; `was` says whether the peer's hash was enabled before it (R260,
R261). -/
def State.authEdited (s : State) (f : Nat) (was : Bool) : State :=
  let s := s.dropChain f
  let on := s.listed f (s.judgedHash f)
  if s.linkLive f && !on then s.toStranger f acNOT_LISTED
  else if s.linkState f == lsSTRANGER && on && !was then s.startAuth f
  else s

/-- A WRITE of an entry of MFL_AUTH_LIST (R261). -/
def State.authList (s : State) (f k : Nat) (v : W256) : State :=
  (s.setTbl (linkPage f 2) 0 k v).authEdited f (s.listed f (s.peerHash f))

/-- A write of MFL_AUTH_EN: enables, and REAUTH (R260, R261). -/
def State.authEn (s : State) (f v : Nat) : State :=
  let was := s.fget (R.MFL_AUTH_EN_EN f)
  let on := s.listed f (s.peerHash f)
  let s := s.fset (R.MFL_AUTH_EN_EN f) (bits v 15 0)
  let s := if bits v 15 0 = was then s else s.authEdited f on
  if bit v 16 then s.dropChain f else s

/-- AUTH_LIST_EDIT (R261). -/
def execAuthListEdit (link index : Nat) (value : W256) (s : State) : Out := .next (s.authList (link % 8) (index % 16) value)

/-- AUTH_EN_WRITE: the enables written (R261). -/
def execAuthEnWrite (link en : Nat) (s : State) : Out := .next (s.authEn (link % 8) (en % 65536))

/-- REAUTH: the chain is discarded (R260). -/
def execReauth (link : Nat) (s : State) : Out := .next (s.dropChain (link % 8))

/-! ### Remote bridges that lose their device (R271) -/

/-- A remote bridge reports a surprise removal, once (R271). -/
def State.remoteGone (s : State) (fn : Nat) : State :=
  let s : State := { s with remoteWords := s.remoteWords.filter fun e => e.1 != 4096 * fn + cLinkCtl && e.1 != 4096 * fn + cSlotCtl }
  let s := if s.cfgBits fn cLinkCtl 29 29 = 1 then
      (s.putCfg fn cLinkCtl 29 29 0).orCfg fn cSlotCtl ssLinkChanged
    else s
  if s.cfgBits fn cSlotCtl 22 22 = 1 then (s.putCfg fn cSlotCtl 22 22 0).orCfg fn cSlotCtl ssPresenceChanged else s

/-- Every remote bridge whose device has no VC4 route (R271). -/
def State.checkRemotes (s : State) : State :=
  s.remoteBridges.foldl (fun s r =>
    match s.vc4Link r.2.1 with
    | none => { s.remoteGone (Fn.remote r.2.1 r.2.2).num with
        goneRemotes := if s.goneRemotes.contains r then s.goneRemotes else s.goneRemotes ++ [r] }
    -- When the route returns, the port's device is asked for its state afresh.
    | some l =>
      if s.goneRemotes.contains r then
        ({ s with goneRemotes := s.goneRemotes.filter (· != r) } : State).sendMgmt l s.selfFid r.2.1 (.relay r.1 r.2.2 askOff 0)
      else s) s

/-- Reads through BAR4 of a device to which no route is left: nothing will come for them (R272). -/
def State.checkBar4 (s : State) : State :=
  let lost := s.bar4.filter fun r => (s.vc4Link r.fid).isNone
  if lost.isEmpty then s
  else lost.foldl (fun s r => s.complete r.frame .ur []) { s with bar4 := s.bar4.filter fun r => (s.vc4Link r.fid).isSome }

/-! ### The fabric route governor (R263 to R265) -/

def State.usableMask (s : State) : Nat := s.fget R.MAP_LINK_USABLE_USABLE

/-- One link of the governor's first loop. -/
def State.routeLink (s : State) (f : Nat) : State :=
  let u := bit s.usableMask f
  let since := storeGet none s.upSince f
  if !s.linkUp f then
    let s : State := { s with upSince := storePut none f none s.upSince }
    if u then
      let s := s.fset R.MAP_LINK_USABLE_USABLE (putBits s.usableMask f f 0)
      s.govLog gROUTE aLINK_REMOVED f 1 0 s.usableMask
    else s
  else if u then s
  else
    let t := since.getD s.now
    let s : State := { s with upSince := storePut none f (some t) s.upSince }
    if !bit s.wasUsable f || decide (t + s.fget R.MAP_ROUTE_GOV_RESTORE_HOLD * cyclesPerS ≤ s.now) then
      let s : State := { s with wasUsable := putBits s.wasUsable f f 1 }
      let s := s.fset R.MAP_LINK_USABLE_USABLE (putBits s.usableMask f f 1)
      s.govLog gROUTE aLINK_ADDED f 0 1 s.usableMask
    else s

/-- Usable links of a mask. -/
def State.maskUsable (s : State) (mask : Nat) : Nat := ((upTo 8).filter fun f => bit mask f && bit s.usableMask f).length

/-- USE_ALT of a fabric ID set, with its event where it changes. -/
def State.setUseAlt (s : State) (d : Nat) (b : Bool) : State :=
  if bit (s.tbl 0x122 0 d).toNat 16 = b then s else (s.tset 0x122 0 d 16 16 (ofBool b)).raise 0x122 (if b then 0 else 1)

/-- One fabric ID of the governor's second loop. -/
def State.routeFid (s : State) (d : Nat) : State :=
  let e := (s.tbl 0x122 0 d).toNat
  let p := s.maskUsable (bits e 7 0)
  let a := s.maskUsable (bits e 15 8)
  let min := s.fget R.MAP_ROUTE_GOV_MIN_PRI
  let use := bit e 16
  if d = s.selfFid then s
  else if bit (s.fget R.MAP_ROUTE_ALT_FORCE_FORCE) d then
    if use then s else (s.setUseAlt d true).govLog gROUTE aFAILOVER d 0 1 s.usableMask
  else if !use && decide (p < min) && decide (p < a) then
    ((s.setUseAlt d true).govLog gROUTE aFAILOVER d 0 1 s.usableMask).bump R.MAP_FAILOVERS
  else if use && decide (min ≤ p) then (s.setUseAlt d false).govLog gROUTE aRESTORE d 1 0 s.usableMask
  else s

/-- With EN = 0 the routing view follows the links and USE_ALT the forced mask (R265). -/
def State.routeFollow (s : State) : State :=
  if s.flag R.MAP_ROUTE_GOV_EN then s
  else
    let mask := ((upTo 8).filter s.linkUp).foldl (fun n f => n + 2 ^ f) 0
    let s := if s.usableMask = mask then s else s.fset R.MAP_LINK_USABLE_USABLE mask
    (upTo 16).foldl (fun s d => s.setUseAlt d (bit (s.fget R.MAP_ROUTE_ALT_FORCE_FORCE) d)) s

/-- The governor's evaluation, or with EN = 0 what follows the links and the forced mask (R264, R265). -/
def State.routeGov (s : State) : State :=
  (if s.flag R.MAP_ROUTE_GOV_EN then (upTo 16).foldl State.routeFid ((upTo 8).foldl State.routeLink s)
   else s.routeFollow).checkRemotes

/-- Training and authentication stop in a mode that does not allow them (R257). -/
def State.stopTraining (s : State) : State :=
  if s.linksAllowed then s
  else (upTo 8).foldl (fun s f =>
    let st := s.linkState f
    if st = lsALIGN ∨ st = lsTRAIN ∨ st = lsAUTH then s.toDetect f else s) s

/-- ROUTE_GOV_TICK: a change of link state, or 1 ms since the last evaluation (R264). -/
def execRouteGovTick (s : State) : Out := .next s.routeGov

end Sys2Proof.Machine
end

