-- ==== Sys2Proof/Machine/Security.lean ====
section
/-! DEFINITION. Security (R401 to R418): the OTP and its burns, the lifecycle, identity, signed images, measurements,
attestation reports, and debug unlock. -/

namespace Sys2Proof.Machine

/-! ### OTP (R401) -/

def State.otpWord (s : State) (w : Nat) : Nat := (storeGet 0 s.sec.otp w).toNat

/-- Bits set in a word: never cleared (R401). -/
def State.otpSet (s : State) (w v : Nat) : State :=
  { s with sec := { s.sec with otp := storePut 0 w (storeGet 0 s.sec.otp w ||| BitVec.ofNat 32 v) s.sec.otp } }

/-- Copies of a lifecycle bit that are 1. -/
def State.lifeCopies (s : State) (b : Nat) : Nat := ((upTo 4).filter fun w => bit (s.otpWord w) b).length

/-- A lifecycle bit: the majority of its four copies (R401). -/
def State.lifeBit (s : State) (b : Nat) : Bool := decide (3 ≤ s.lifeCopies b)

abbrev lcBLANK : Nat := 0
abbrev lcPROVISIONED : Nat := 1
abbrev lcOWNED : Nat := 2
abbrev lcDEBUG_OPEN : Nat := 3
abbrev lcRETIRED : Nat := 4

/-- The lifecycle state of the OTP bits (R403). -/
def State.baseState (s : State) : Nat :=
  if s.lifeBit 2 then lcRETIRED else if s.lifeBit 1 then lcOWNED else if s.lifeBit 0 then lcPROVISIONED else lcBLANK

/-- Bits set in words 26 and 27 (R401). -/
def State.svnMin (s : State) : Nat :=
  ((upTo 32).filter fun b => bit (s.otpWord 26) b).length + ((upTo 32).filter fun b => bit (s.otpWord 27) b).length

/-- SEC_LIFECYCLE but for STATE, as the OTP stands. -/
def State.showOtp (s : State) : State :=
  let s := (s.fset R.SEC_LIFECYCLE_BASE_STATE s.baseState).fset R.SEC_LIFECYCLE_ENROLLED (s.otpWord 60)
  (s.fset R.SEC_LIFECYCLE_REVOKED (s.otpWord 60 / 16)).fset R.SEC_LIFECYCLE_SVN_MIN s.svnMin

/-- The fields that the OTP gives: SEC_LIFECYCLE, whose STATE starts as the base state, and DEV_SUBSYS; loaded before the
first register access is accepted (R11, R401, R403). -/
def State.otpFields (s : State) : State :=
  let s := s.showOtp
  let s := ({ s with sec := { s.sec with base := s.baseState } } : State).fset R.SEC_LIFECYCLE_STATE s.baseState
  s.setReg R.DEV_SUBSYS (BitVec.ofNat 32 (s.otpWord 24))

def State.lifeState (s : State) : Nat := s.fget R.SEC_LIFECYCLE_STATE

abbrev scSTATE : Nat := 1
abbrev scLOCKED_WORD : Nat := 2
abbrev scLAST_KEY : Nat := 3
abbrev scBUSY : Nat := 4
abbrev scFAILED : Nat := 5
abbrev scFORMAT : Nat := 6
abbrev scLENGTH : Nat := 7
abbrev scKEY_NOT_ALLOWED : Nat := 8
abbrev scKEY_REVOKED : Nat := 9
abbrev scKEY_MISMATCH : Nat := 10
abbrev scROLLBACK : Nat := 11
abbrev scBAD_SIG : Nat := 12
abbrev scNONCE : Nat := 13
abbrev scDEVICE : Nat := 14

/-- A refusal in an operation's RESULT and CAUSE; one for BUSY leaves the running operation's RESULT (log entry 32). -/
def State.secRefuse (s : State) (result cause : Fld) (why : Nat) : State :=
  if why = scBUSY then s.fset cause why else (s.fset result 3).fset cause why

/-- Slots ENROLLED and not REVOKED, as a mask. -/
def slotsLeft (w60 : Nat) : Nat := w60 % 16 - (w60 % 16 &&& w60 / 16 % 16)

/-- Cause for which a write of SEC_OTP_PROG is refused (R402). -/
def State.otpRefused (s : State) (w v : Nat) : Option Nat :=
  let w60 := s.otpWord 60
  let slot := (w - 28) / 8
  if s.lifeState = lcRETIRED ∨ (4 ≤ w ∧ w ≤ 23 ∧ s.lifeState ≠ lcBLANK) then some scSTATE
  else if w ≤ 3 ∨ (w = 60 ∧ v % 16 &&& w60 % 16 ≠ 0) ∨ (28 ≤ w ∧ w ≤ 59 ∧ bit w60 slot = true) then some scLOCKED_WORD
  else if w = 60 ∧ s.lifeState = lcOWNED ∧ slotsLeft w60 ≠ 0 ∧ slotsLeft (w60 ||| v) = 0 then some scLAST_KEY
  else if s.sec.burn.isSome then some scBUSY
  else none

/-- SEC_OTP_PROG written with GO (R402). -/
def State.otpProgram (s : State) (w : Nat) : State :=
  let v := (s.reg R.SEC_OTP_DATA).toNat
  match s.otpRefused w v with
  | some c => s.secRefuse R.SEC_OP_STS_OTP_RESULT R.SEC_OP_STS_OTP_CAUSE c
  | none =>
    let s := (s.fset R.SEC_OP_STS_OTP_RESULT 1).fset R.SEC_OP_STS_OTP_CAUSE 0
    { s with sec := { s.sec with burn := some (w, v, none, s.now) } }

/-- OTP_PROGRAM: SEC_OTP_PROG written by the management complex (R402). -/
def execOtpProgram (word : Nat) (s : State) : Out := .next (s.otpProgram (word % 2048))

/-- OTP_PROGRAM_DONE: the word is read back; `missing` are bits that did not burn (R402). -/
def execOtpProgramDone (missing : W32) (s : State) : Out :=
  match s.sec.burn with
  | some (w, v, none, _) =>
    let s : State := { s with sec := { s.sec with burn := none } }
    let s := (s.otpSet w (v &&& (~~~ missing).toNat)).showOtp
    let s := if v &&& missing.toNat = 0 then s.fset R.SEC_OP_STS_OTP_RESULT 2
      else ((s.fset R.SEC_OP_STS_OTP_RESULT 3).fset R.SEC_OP_STS_OTP_CAUSE scFAILED).record 0x0301 lvNOTICE none 0x7F w
    .next (s.raise 0x08 0)
  | _ => .next s

/-! ### Lifecycle (R404) -/

/-- Is an advance from the OTP's state to `target` allowed (R404)? -/
def State.mayAdvance (s : State) (target : Nat) : Bool :=
  if target = lcPROVISIONED then s.baseState == lcBLANK && (upTo 20).any fun k => s.otpWord (4 + k) != 0
  else if target = lcOWNED then s.baseState == lcPROVISIONED && slotsLeft (s.otpWord 60) != 0
  else target == lcRETIRED

/-- SEC_LIFECYCLE_ADV written with GO (R404). -/
def State.lifecycleAdvance (s : State) (target : Nat) : State :=
  if !s.mayAdvance target then s.secRefuse R.SEC_OP_STS_OTP_RESULT R.SEC_OP_STS_OTP_CAUSE scSTATE
  else if s.sec.burn.isSome then s.secRefuse R.SEC_OP_STS_OTP_RESULT R.SEC_OP_STS_OTP_CAUSE scBUSY
  else
    let s := (s.fset R.SEC_OP_STS_OTP_RESULT 1).fset R.SEC_OP_STS_OTP_CAUSE 0
    { s with sec := { s.sec with burn := some (0, 0, some target, s.now) } }

/-- LIFECYCLE_ADVANCE (R404). -/
def execLifecycleAdvance (target : Nat) (s : State) : Out := .next (s.lifecycleAdvance (target % 8))

/-- LIFECYCLE_ADVANCE_DONE: the bit is burnt in all four words; BASE_STATE follows at once (R401, R404). -/
def execLifecycleAdvanceDone (s : State) : Out :=
  match s.sec.burn with
  | some (_, _, some target, _) =>
    let old := s.baseState
    let s : State := { s with sec := { s.sec with burn := none } }
    let b := if target = lcPROVISIONED then 1 else if target = lcOWNED then 2 else 4
    let s := ((upTo 4).foldl (fun s w => s.otpSet w b) s).showOtp
    let s := s.record 0x0302 lvNOTICE none 0x7F (old + s.baseState * 2 ^ 4)
    .next ((s.fset R.SEC_OP_STS_OTP_RESULT 2).raise 0x08 0)
  | _ => .next s

/-! ### Main memory of the core map (R315, R317) -/

/-- A byte of a main-memory region of R315, none outside them. -/
def State.memByte (s : State) (a : Nat) : Option Byte :=
  if a < 0x40000 then some (Config.bootRom a)
  else if 0x8000000 ≤ a ∧ a < 0x8400000 then
    some ((storeGet none s.mgt.sram (a - 0x8000000)).getD (Config.sramByte s.mgt.era (a - 0x8000000)))
  else if 0x20000000 ≤ a ∧ a < 0x20100000 then
    let o := a - 0x20000000
    some (if o % 256 < 160 then BitVec.ofNat 8 ((storeGet 0 s.samples (o / 256)).toNat / 256 ^ (o % 256)) else 0)
  else if 0x50000000 ≤ a ∧ a < 0x51000000 then
    some ((storeGet none s.mgt.flash (a - 0x50000000)).getD (Config.flashByte (a - 0x50000000)))
  else none

/-- Bytes of main memory; a byte outside it reads 0 to SEC (log entry 33). -/
def State.memBytes (s : State) (a n : Nat) : List Byte := (upTo n).map fun k => (s.memByte (a + k)).getD 0

/-- Bytes stored in SRAM. -/
def State.sramPut (s : State) (off : Nat) (bs : List Byte) : State :=
  let m := (bs.zip (upTo bs.length)).foldl (fun m b => storePut none (off + b.2) (some b.1) m) s.mgt.sram
  { s with mgt := { s.mgt with sram := m } }

/-! ### Signed images (R408, R409) -/

def State.policy (s : State) : Policy :=
  { state := if s.lifeState = lcDEBUG_OPEN then s.sec.base else s.lifeState
    slots := s.otpWord 60 % 256, svnMin := s.svnMin, ownerOnly := bit (s.otpWord 25) 1, vendorDebug := bit (s.otpWord 25) 0 }

/-- Field of a header: `n` bytes from `off`. -/
def hdr (h : List Byte) (off n : Nat) : Nat := leNat ((h.drop off).take n)

/-- Is a KEY_ID allowed for a TYPE (R403, R417)? -/
def keyAllowed (p : Policy) (type key : Nat) : Bool :=
  let vendor := key == 0
  let owner := decide (1 ≤ key) && decide (key ≤ 4)
  if p.state = lcBLANK then vendor && type != 3
  else if p.state = lcPROVISIONED then vendor
  else if p.state = lcOWNED then
    (if type = 1 then owner || (vendor && !p.ownerOnly) else if type = 2 then owner else owner || (vendor && p.vendorDebug))
  else false

/-- Body limit of a TYPE (R409). -/
def bodyLimit (type : Nat) : Nat := if type = 1 then 3145728 else if type = 2 then 2067104 else 512

/-- SHAKE256 of the key an image may be signed by, as 32 bytes (R409). -/
def State.keyHash (s : State) (key : Nat) : List Byte :=
  if key = 0 then Config.vendorRoot else (upTo 8).flatMap fun k => leBytes 4 (s.otpWord (28 + 8 * (key - 1) + k))

/-- The first check of R409 that an image fails: header, then what follows it. -/
def State.imageCause (s : State) (p : Policy) (type : Nat) (h : List Byte) (body sig : List Byte) : Option Nat :=
  let key := hdr h 5 1
  if type = 0 ∨ hdr h 0 4 ≠ 0x474D4943 ∨ hdr h 6 2 ≠ 1 ∨ hdr h 4 1 ≠ type ∨ hdr h 0x0B 5 ≠ 0 ∨ hdr h 0x14 0x2C ≠ 0 ∨ hdr h 0x80 0x80 ≠ 0
  then some scFORMAT
  -- A BODY_LEN that is no multiple of 16 fails the same check (R408, log entry 104).
  else if bodyLimit type < hdr h 0x10 4 ∨ hdr h 0x10 4 % 16 ≠ 0 then some scLENGTH
  else if !keyAllowed p type key then some scKEY_NOT_ALLOWED
  else if key ≠ 0 ∧ (bit p.slots (key - 1) = false ∨ bit p.slots (key + 3) = true) then some scKEY_REVOKED
  else if Config.shake256 ((h.drop 0x40).take 64) 32 ≠ s.keyHash key then some scKEY_MISMATCH
  else if hdr h 0x0A 1 < p.svnMin then some scROLLBACK
  else if !Config.slhVerifyS ((h.drop 0x40).take 64) (h ++ body) sig then some scBAD_SIG
  else none

/-- Header, body and signature of an image at a core address; a body longer than its TYPE allows is not read. -/
def State.imageAt (s : State) (a type : Nat) : List Byte × List Byte × List Byte :=
  let h := s.memBytes a 256
  let n := hdr h 0x10 4
  if bodyLimit type < n then (h, [], []) else (h, s.memBytes (a + 256) n, s.memBytes (a + 256 + n) 29792)

/-- An image verified: counted, and recorded when it fails (R409). -/
def State.verifyImage (s : State) (p : Policy) (type : Nat) (img : List Byte × List Byte × List Byte) : Option Nat × State :=
  let s := s.bump R.SEC_VERIFIES
  match s.imageCause p type img.1 img.2.1 img.2.2 with
  | none => (none, s)
  | some c => (some c, (s.record 0x0300 lvNOTICE none 0x7F (c + type % 4 * 2 ^ 8 + hdr img.1 5 1 % 8 * 2 ^ 12)).raise 0x08 1)

/-! ### Measurements (R412) -/

/-- An extension of Mi with 32 bytes. -/
def State.extend (s : State) (i : Nat) (x : List Byte) : State :=
  s.setTbl 0x09 1 i (hash32 (leBytes 32 (s.tbl 0x09 1 i).toNat ++ x))

/-- SEC_MEAS_EXT written with GO: M4 to M7 only (R412). -/
def State.measExt (s : State) (i : Nat) : State :=
  if i < 4 then s else s.extend i ((upTo 8).flatMap fun k => leBytes 4 (s.reg (R.SEC_EXT_DATA k)).toNat)

/-- MEASUREMENT_EXTEND (R412). -/
def execMeasurementExtend (index : Nat) (s : State) : Out := .next (s.measExt (index % 8))

/-! ### Verification by firmware (R410) -/

/-- SEC_VERIFY written with GO (R410). -/
def State.imageVerify (s : State) (type : Nat) : State :=
  if s.sec.verify.isSome then s.secRefuse R.SEC_OP_STS_VERIFY_RESULT R.SEC_OP_STS_VERIFY_CAUSE scBUSY
  else
    let s := (s.fset R.SEC_OP_STS_VERIFY_RESULT 1).fset R.SEC_OP_STS_VERIFY_CAUSE 0
    { s with sec := { s.sec with verify := some (type, s.pair R.SEC_VERIFY_LO R.SEC_VERIFY_HI, s.policy) } }

/-- IMAGE_VERIFY (R410). -/
def execImageVerify (type : Nat) (s : State) : Out := .next (s.imageVerify (type % 4))

/-- IMAGE_VERIFY_DONE: M2 takes each configuration image that verifies (R409, R412). -/
def execImageVerifyDone (s : State) : Out :=
  match s.sec.verify with
  | none => .next s
  | some (type, a, p) =>
    let s : State := { s with sec := { s.sec with verify := none } }
    let img := s.imageAt a type
    let (c, s) := s.verifyImage p type img
    let s := match c with
      | none =>
        let s := s.fset R.SEC_OP_STS_VERIFY_RESULT 2
        if type = 2 then s.extend 2 (Config.shake256 (img.1 ++ img.2.1) 32) else s
      | some c => (s.fset R.SEC_OP_STS_VERIFY_RESULT 3).fset R.SEC_OP_STS_VERIFY_CAUSE c
    .next (s.raise 0x08 0)

/-! ### Identity (R406) -/

/-- The identity seed: words 4 to 19. -/
def State.idSeed (s : State) : List Byte := (upTo 16).flatMap fun k => leBytes 4 (s.otpWord (4 + k))

/-- "CX256-IDENT-1". -/
def identString : List Byte := [0x43, 0x58, 0x32, 0x35, 0x36, 0x2D, 0x49, 0x44, 0x45, 0x4E, 0x54, 0x2D, 0x31]

/-- SEC_ID_HASH. -/
def State.idHash (s : State) : List Byte := (upTo 8).flatMap fun k => leBytes 4 (s.reg (R.SEC_ID_HASH k)).toNat

/-- The key pair and its hash, outside BLANK and RETIRED (R406). -/
def State.deriveIdentity (s : State) : State :=
  if s.lifeState = lcBLANK ∨ s.lifeState = lcRETIRED then s
  else
    let out := Config.shake256 (identString ++ s.idSeed) 96
    let pub := out.drop 64 ++ Config.pkRoot out
    let s : State := { s with sec := { s.sec with priv := out, pub := pub } }
    let h := Config.shake256 pub 32
    (upTo 8).foldl (fun s k => s.setReg (R.SEC_ID_HASH k) (BitVec.ofNat 32 (leNat ((h.drop (4 * k)).take 4)))) s

/-- IDENTITY_DERIVED: the derivation ends and M0 is extended once; a key that fails its check is fatal outside BLANK
(R406, R412, R426). -/
def execIdentityDerived (ok : Bool) (s : State) : Out :=
  if bit s.board.tested 8 || !s.alive then .next s
  else
    let s : State := { s with board := { s.board with tested := s.board.tested ||| 2 ^ 8 } }
    let s := s.deriveIdentity
    let s := s.extend 0 (Config.shake256
      (Config.bootVersion ++ [BitVec.ofNat 8 s.lifeState] ++ leBytes 4 (s.otpWord 25) ++ s.idHash) 32)
    .next (if ok || s.lifeState == lcBLANK then s else s.selftestFail 8 true)

/-! ### Attestation (R413, R414) -/

/-- Body of a report, taken when signing starts (R413). -/
def State.reportBody (s : State) (nonce : List Byte) : List Byte :=
  leBytes 4 0x54414D43 ++ leBytes 2 1 ++ [BitVec.ofNat 8 s.lifeState,
    BitVec.ofNat 8 (s.fget R.MGT_FW_STS_FALLBACK + 2 * ofBool s.sec.opened), BitVec.ofNat 8 (s.fget R.MGT_FW_STS_SLOT),
    BitVec.ofNat 8 (s.fget R.MGT_FW_STS_MINOR), BitVec.ofNat 8 (s.fget R.MGT_FW_STS_MAJOR), BitVec.ofNat 8 s.svnMin,
    BitVec.ofNat 8 s.selfFid, BitVec.ofNat 8 (s.otpWord 60 % 16), BitVec.ofNat 8 (s.otpWord 60 / 16 % 16), 0]
    ++ leBytes 8 s.ns ++ ((upTo 4).flatMap fun k => leBytes 4 (s.otpWord (20 + k))) ++ leBytes 24 0
    ++ (nonce ++ leBytes 32 0).take 32 ++ (s.sec.pub ++ leBytes 64 0).take 64
    ++ ((upTo 32).flatMap fun k => leBytes 4 (s.otpWord (28 + k)))
    ++ ((upTo 8).flatMap fun i => leBytes 32 (s.tbl 0x09 1 i).toNat) ++ leBytes 32 0

/-- The request at the head of the queue starts its signature (R407, R414). -/
def State.startReport (s : State) : State :=
  match s.sec.asks with
  | [] => s
  | a :: _ => { s with sec := { s.sec with body := s.reportBody a.2, report := none } }

/-- A request joins the queue of 16 (R414); false when it is full. -/
def State.askReport (s : State) (a : Asker) (nonce : List Byte) : State × Bool :=
  if 16 ≤ s.sec.asks.length then (s, false)
  else
    let first := s.sec.asks.isEmpty
    let s : State := { s with sec := { s.sec with asks := s.sec.asks ++ [(a, nonce)] } }
    (if first then s.startReport else s, true)

/-- Address of a partition's command block (R323). -/
def State.hcmdBlock (s : State) (p : Nat) : Nat := s.pair (R.MGT_HCMD_LO p) (R.MGT_HCMD_HI p)

/-- A write on the host path of a partition (R315): refused in SAFE and ISOLATE as any other request (R309, R427). -/
def State.hostPost (s : State) (p addr : Nat) (data : List Byte) (why : Purpose) : State :=
  if s.mode = mSAFE then s
  else if s.isolating then
    { s.bump R.ERR_ISO_DROP with err := { s.err with isoDropped := s.err.isoDropped + 1 } }
  else s.postToHost p (BitVec.ofNat 64 addr) data .management why

/-- A write of firmware through the host path of a partition (R315). -/
def State.hostWrite (s : State) (p addr : Nat) (data : List Byte) : State := s.hostPost p (addr % 2 ^ 56) data .data

/-- STATUS written last, and the completion vector sent when IRQ is 1 (R323). -/
def State.hcmdStatus (s : State) (p status vec : Nat) (irq : Bool) : State :=
  let s := s.hostWrite p (s.hcmdBlock p + 2) (leBytes 2 status)
  if irq then s.mgmtMessage p (vec % 32) else s

/-- ATTEST: the host command's nonce, buffer, vector and IRQ bit (R414). -/
def execAttest (part : Nat) (nonce : List Byte) (buffer : W64) (vec : Nat) (irq : Bool) (s : State) : Out :=
  let p := part % 32
  let (s, ok) := s.askReport (.host p buffer vec irq) nonce
  .next (if ok then s else s.hcmdStatus p 2 vec irq)

/-- ATTEST_PEER_REQUEST: a peer's nonce on VC4, in STRANGER too; BUSY when the queue is full (R261, R414). -/
def execAttestPeerRequest (link : Nat) (nonce : List Byte) (s : State) : Out :=
  let f := link % 8
  if !s.vc4Open f then .next s
  else
    let (s, ok) := s.askReport (.peer f) nonce
    .next (if ok then s else s.sendVc4 f (.report 2 []))

/-- SIGN_DONE: contexts 0 to 7 sign for the links, context 8 for attestation (R407); nothing is signed in BLANK, where no
key exists, and in RETIRED (R403, R405). -/
def execSignDone (ctx : Nat) (s : State) : Out :=
  let c := ctx % 9
  if s.lifeState = lcBLANK ∨ s.lifeState = lcRETIRED then .next s
  else if c < 8 then .next (s.linkSigned c)
  else if s.sec.asks.isEmpty || s.sec.report.isSome then .next s
  else
    let r := s.sec.body ++ Config.slhSign s.sec.priv s.sec.body
    .next (({ s with sec := { s.sec with report := some r } } : State).bump R.SEC_SIGNS)

/-- Bytes cut into pieces of at most `n`; `fuel` bounds their number. -/
def chunks (n : Nat) : Nat → List Byte → List (List Byte)
  | 0, _ => []
  | fuel + 1, bs => if bs.isEmpty then [] else bs.take n :: chunks n fuel (bs.drop n)

/-- Bytes written to a host's memory in pieces of 128 bytes, in rising order (log entry 34). -/
def State.hostWriteAll (s : State) (p addr : Nat) (bs : List Byte) : State :=
  -- The first piece ends at a multiple of 128, so that none crosses a 4 KiB boundary (R123).
  let n := 128 - addr % 128
  (bs.take n :: chunks 128 (bs.length / 128 + 1) (bs.drop n)).foldl
    (fun (r : State × Nat) b => (if b.isEmpty then r.1 else r.1.hostWrite p r.2 b, r.2 + b.length)) (s, addr) |>.1

/-- ATTEST_REPORT_DONE: the signed report goes to its destination, STATUS last, and the next request starts (R414). -/
def execAttestReportDone (s : State) : Out :=
  match s.sec.report, s.sec.asks with
  | some r, (a, _) :: rest =>
    let s : State := { s with sec := { s.sec with asks := rest, report := none, body := [] } }
    let s := match a with
      | .host p buffer vec irq => (s.hostWriteAll p buffer.toNat r).hcmdStatus p 1 vec irq
      | .peer f => (chunks 4096 (r.length / 4096 + 1) r).foldl (fun s b => s.sendVc4 f (.report 1 b)) s
    .next s.startReport
  | _, _ => .next s

/-! ### Debug unlock (R417) -/

/-- SEC_DEBUG_NONCE takes a fresh value. -/
def State.freshNonce (s : State) : State :=
  let (w, s) := s.drawWord
  (upTo 8).foldl (fun s k => s.setReg (R.SEC_DEBUG_NONCE k) (BitVec.ofNat 32 (w.toNat / 2 ^ (32 * k)))) s

def State.debugNonce (s : State) : List Byte := (upTo 8).flatMap fun k => leBytes 4 (s.reg (R.SEC_DEBUG_NONCE k)).toNat

/-- SEC_UNLOCK written with GO and the token's length (R417). -/
def State.debugUnlock (s : State) (len : Nat) : State :=
  if s.sec.unlock.isSome then s.secRefuse R.SEC_OP_STS_UNLOCK_RESULT R.SEC_OP_STS_UNLOCK_CAUSE scBUSY
  else
    let s := (s.fset R.SEC_OP_STS_UNLOCK_RESULT 1).fset R.SEC_OP_STS_UNLOCK_CAUSE 0
    { s with sec := { s.sec with unlock := some (max 1 (min len 32768), s.policy) } }

/-- DEBUG_UNLOCK (R417). -/
def execDebugUnlock (len : Nat) (s : State) : Out := .next (s.debugUnlock len)

/-- The token buffer's bytes. -/
def State.token (s : State) (len : Nat) : List Byte :=
  ((upTo (ceilDiv len 32)).flatMap fun k => leBytes 32 (s.tbl 0x0B 0 k).toNat).take len

/-- What a token fails: the image's checks, then NONCE and KEY_HASH (R417). -/
def State.tokenCheck (s : State) (len : Nat) (p : Policy) : Option Nat × State × List Byte :=
  let t := s.token len
  let h := t.take 256
  let n := hdr h 0x10 4
  let body := (t.drop 256).take n
  let r := s.verifyImage p 3 (h, body, (t.drop (256 + n)).take 29792)
  let c := match r.1 with
    | some c => some c
    | none => if body.take 32 ≠ s.debugNonce then some scNONCE
      else if (body.drop 32).take 32 ≠ s.idHash then some scDEVICE else none
  (c, r.2, h ++ body)

/-- DEBUG_UNLOCK_DONE: DEBUG_OPEN or refusal, and a fresh nonce either way (R417). -/
def execDebugUnlockDone (s : State) : Out :=
  match s.sec.unlock with
  | none => .next s
  | some (len, p) =>
    let s : State := { s with sec := { s.sec with unlock := none } }
    let (c, s, signed) := s.tokenCheck len p
    let s := match c with
      | none =>
        let was := s.lifeState
        let s := (s.fset R.SEC_OP_STS_UNLOCK_RESULT 2).extend 3 (Config.shake256 signed 32)
        let s := s.fset R.SEC_LIFECYCLE_STATE lcDEBUG_OPEN
        let s : State := { s with sec := { s.sec with opened := true, base := p.state, unlocked := some (s.now, was) } }
        (s.record 0x0303 lvNOTICE none 0x7F was).raiseAll 0x08 [0, 3]
      | some c =>
        let s := (s.fset R.SEC_OP_STS_UNLOCK_RESULT 3).fset R.SEC_OP_STS_UNLOCK_CAUSE c
        (s.record 0x0304 lvNOTICE none 0x7F c).raise 0x08 0
    .next s.freshNonce

/-- A verification that the engine's reset ends fails with cause DEVICE: its image is refused, or its token with a fresh
nonce (R409, R417, R418, R445). -/
def State.cutVerify (s : State) : State :=
  let s := match s.sec.verify with
    | none => s
    | some (type, a, _) =>
      let s := (s.fset R.SEC_OP_STS_VERIFY_RESULT 3).fset R.SEC_OP_STS_VERIFY_CAUSE scDEVICE
      (s.record 0x0300 lvNOTICE none 0x7F (scDEVICE + type % 4 * 2 ^ 8 + hdr (s.memBytes a 256) 5 1 % 8 * 2 ^ 12)).raiseAll
        0x08 [0, 1]
  match s.sec.unlock with
  | none => s
  | some _ =>
    let s := (s.fset R.SEC_OP_STS_UNLOCK_RESULT 3).fset R.SEC_OP_STS_UNLOCK_CAUSE scDEVICE
    ((s.record 0x0304 lvNOTICE none 0x7F scDEVICE).raise 0x08 0).freshNonce

/-- The SHAKE subsystem reset: running verifications end with cause DEVICE, signatures in progress start again (R445). -/
def State.shakeReset (s : State) : State :=
  let s := s.cutVerify
  let s : State := { s with sec := { s.sec with verify := none, unlock := none } }
  if s.sec.report.isSome then s else s.startReport

end Sys2Proof.Machine
end

