-- ==== Sys2Proof/Machine/HostPorts.lean ====
section
/-! DEFINITION. PCI Express ports and the host view (R207 to R227): configuration requests to virtual functions, direct
and mediated writes with their mailbox, ports that come up and go down, hot reset, DPC, octets and port assignment,
ASPM and PTM. Places of bits within standard registers are PRESUMED (log entry 10). -/

namespace Sys2Proof.Machine

/-! ### Targets of configuration requests (R103, R104, R185, R213) -/

/-- The virtual downstream bridges of a partition in the order of R213. -/
def State.bridgeList (s : State) (part : Nat) : List Fn :=
  (s.bridgesOf part).map Fn.down
    ++ (s.remoteBridges.filter fun r => r.1 == part).map fun r => Fn.remote r.2.1 r.2.2

/-- Where a configuration request goes. -/
inductive CfgTo where
  | fn (f : Fn)
  | port (fid p : Nat)
  | none
  deriving DecidableEq, Repr

/-- Target on a bus whose ID route is known (R103, R104). -/
def State.cfgRouted (s : State) (part bus devfn : Nat) : CfgTo :=
  let e := (s.tbl 0x121 0 (part * 256 + bus)).toNat
  if !bit e 0 then .none
  else if bits e 2 1 = 2 then
    match (s.instsOf part).find? fun i => s.instPresent i && s.fget (R.VIM_INST_OWNER_FUNC i) == devfn with
    | some i => .fn (.inst i)
    | none => .none
  else if bits e 2 1 = 0 then .port (bits e 13 10) (bits e 9 3)
  else if bits e 2 1 = 3 then .fn (.mgmt part)
  else match s.homeOf part with
    | some (fid, p) => .port fid p
    | none => .none

/-- Target of a configuration request of a partition's host (R213): Type 0 names a function of the primary bus; Type 1
on the internal bus a bridge; other buses follow the ID routes. -/
def State.cfgTarget (s : State) (part : Nat) (t : Tlp) : CfgTo :=
  let devfn := t.devfn.toNat
  if t.type0 then
    if devfn = 0 then .fn (.up part) else if devfn = 1 then .fn (.mgmt part) else .none
  else if s.mode = mSAFE then .none
  else
    let up := (Fn.up part).num
    let bus := t.bus.toNat
    if bus < s.cfgBits up cBuses 15 8 ∨ s.cfgBits up cBuses 23 16 < bus then .none
    else if bus = s.cfgBits up cBuses 15 8 then
      if devfn = 249 then (if s.instancesExist then .fn (.engBridge part) else .none)
      else if devfn % 8 < 2 then
        match (s.bridgeList part)[devfn / 8 * 2 + devfn % 8]? with
        | some f => .fn f
        | none => .none
      else .none
    else s.cfgRouted part bus devfn

/-! ### Write masks (R189, R215) -/

/-- Bits of a word that software may write: with direct effect, mediated, and write-one-to-clear. -/
structure CfgMask where
  direct : Nat := 0
  mediated : Nat := 0
  clear : Nat := 0
  /-- Write-one-to-clear bits of status registers that R215's direct list leaves out. -/
  clearMed : Nat := 0
  deriving DecidableEq, Repr

/-- All write-one-to-clear bits. -/
def CfgMask.w1c (m : CfgMask) : Nat := m.clear ||| m.clearMed

/-- Write masks of an instance function (R187, R189). -/
def instMask (off : Nat) : CfgMask :=
  match off with
  | 0x04 => { direct := 0x6, mediated := 0x540, clear := 0xF9000000 }
  | 0x0C => { mediated := 0xFF }
  | 0x10 => { direct := 0xFFFF0000 }
  | 0x3C => { mediated := 0xFF }
  | 0x44 => { direct := 0x3 }
  | 0x50 => { direct := 0xC0000000 }
  | 0x68 => { direct := 0x8000, mediated := 0x7FFF, clear := 0xF0000 }
  | 0x88 => { mediated := 0x13FF }
  | _ => {}

/-- Write masks of the AER capability, which bridges and the management function share. -/
def aerMask (off : Nat) : CfgMask :=
  match off with
  | 0x104 => { clear := 0x017FF030 }
  | 0x108 => { direct := 0x017FF030 }
  | 0x10C => { direct := 0x017FF030 }
  | 0x110 => { clear := 0xF1C1 }
  | 0x114 => { direct := 0xF1C1 }
  | 0x118 => { direct := 0x140 }
  | _ => {}

/-- Write masks of the management function (R214, R215). -/
def mgmtMask (off : Nat) : CfgMask :=
  match off with
  | 0x04 => { direct := 0x546, clearMed := 0xF9000000 }
  | 0x0C => { mediated := 0xFF }
  | 0x10 => { mediated := 0xFF000000 }
  | 0x14 => { mediated := 0xFFFFFFFF }
  | 0x18 => { mediated := 0xFFFF0000 }
  | 0x1C => { mediated := 0xFFFFFFFF }
  | 0x20 => { mediated := 0xF0000000 }
  | 0x24 => { mediated := 0xFFFFFFFF }
  | 0x3C => { mediated := 0xFF }
  | 0x44 => { direct := 0x103, clear := 0x8000 }
  | 0x50 => { direct := 0xC0000000 }
  | 0x68 => { direct := 0xF, mediated := 0x7FF0, clear := 0xF0000 }
  | 0x70 => { direct := 0x1CB }
  | 0x88 => { mediated := 0x13FF }
  | _ => aerMask off

/-- Write masks of a virtual bridge (R215); the slot and DPC registers are those of card-facing bridges, slot control
also of the engine bridge (R219, R221). -/
def bridgeMask (f : Fn) (off : Nat) : CfgMask :=
  let eng := match f with
    | .engBridge _ => true
    | _ => false
  match off with
  | 0x04 => { direct := 0x547, clearMed := 0xF9000000 }
  | 0x0C => { mediated := 0xFF }
  | 0x18 => { mediated := 0xFFFFFF }
  | 0x1C => { mediated := 0xF0F0, clearMed := 0xF9000000 }
  | 0x20 => { direct := 0xFFF0FFF0 }
  | 0x24 => { direct := 0xFFF0FFF0 }
  | 0x28 => { direct := 0xFFFFFFFF }
  | 0x2C => { direct := 0xFFFFFFFF }
  | 0x3C => { direct := 0x430000, mediated := 0xFF }
  | 0x44 => { direct := 0x103, clear := 0x8000 }
  | 0x68 => { direct := 0xF, mediated := 0x7FF0, clear := 0xF0000 }
  | 0x70 => if f.isDown then { direct := 0xEDB, clearMed := 0xC0000000 } else { direct := 0x2CB }
  | 0x78 => if f.isDown then { direct := 0x143A, clearMed := 0x01FF0000 } else if eng then { direct := 0x1038, clearMed := 0x01FF0000 }
    else {}
  | 0x88 => { mediated := 0x13FF }
  | 0x90 => { mediated := 0x1FFF }
  | 0x164 => if f.isDown then { direct := 0x5F0000 } else {}
  | 0x174 => if f.isDown then { direct := 0x1F0000 } else {}
  | 0x178 => if f.isDown then { clear := 0x9 } else {}
  | 0x198 => if f.isDown then { direct := 0x3 } else {}
  | 0x208 => if eng then {} else { mediated := 0x4 }
  | _ => if !eng && decide (0x1B8 ≤ off) && decide (off < 0x1F8) then { mediated := 0xFF7F } else aerMask off

def cfgMask (f : Fn) (off : Nat) : CfgMask :=
  match f with
  | .inst _ => instMask off
  | .mgmt _ => mgmtMask off
  | _ => bridgeMask f off

/-- The 32-bit mask of byte enables. -/
def beMask (be : Nat) : Nat := (upTo 4).foldl (fun m k => if bit be k then m + 255 * 256 ^ k else m) 0

/-- A word after a write under byte enables: writable bits take the value, write-one-to-clear bits written 1 go. -/
def cfgMerge (m : CfgMask) (old v be : Nat) : Nat :=
  let w := (m.direct ||| m.mediated) &&& beMask be
  let c := m.w1c &&& v &&& beMask be
  let kept := old - (old &&& w)
  let kept := kept - (kept &&& c)
  kept ||| (v &&& w)

/-- Is a write mediated: it covers mediated bits, and either changes one of them or covers no direct field (R189,
R215; log entry 27)? -/
def cfgMediated (m : CfgMask) (old v be : Nat) : Bool :=
  let cover := beMask be
  (m.mediated ||| m.clearMed) &&& cover != 0
    && ((m.direct ||| m.clear) &&& cover == 0 || (old &&& m.mediated &&& cover) != (v &&& m.mediated &&& cover)
      || (old &&& v &&& m.clearMed &&& cover) != 0)

/-! ### Direct effects -/

/-- Downstream link of a bridge reset or disabled: the link goes down (R216). -/
def State.hotReset (s : State) (n : Nat) : State := if s.role n = 2 then s.pcieDown n else s

/-- Secondary Bus Reset at the bridge of a port: of the virtual switch, or of one link (R216). -/
def State.secondaryReset (s : State) (n : Nat) : State :=
  if s.role n = 1 then s.resetSwitch (s.portPart n) else s.hotReset n

/-- DPC Trigger Status cleared: the port may retrain (R218). -/
def State.dpcRelease (s : State) (n : Nat) : State :=
  (s.fset (R.PEP_PORT_STS_DPC n) 0).putCfg (Fn.down n).num cDpcSts 0 0 0

/-- DPC by software trigger, while a trigger is enabled (R218). -/
def State.dpcSoftware (s : State) (n : Nat) : State :=
  if s.cfgBits (Fn.down n).num cDpcCtl 17 16 = 0 ∨ s.flag (R.PEP_PORT_STS_DPC n) = true then s
  else (s.enterDpc n dpcSW_TRIGGER).pcieDown n

/-- Power Controller Control written 1 (R220). -/
def State.pccOff (s : State) (n : Nat) : State :=
  let k := s.fget (R.PEP_PORT_CTL_SLOT n)
  if k < 24 then s.spvEvent (.control k false) else s

/-- Power Controller Control written 0: an insertion may start; a latched slot stays off with Power Fault Detected
(R220). -/
def State.pccOn (s : State) (n : Nat) : State :=
  let k := s.fget (R.PEP_PORT_CTL_SLOT n)
  if k < 24 then s.spvEvent (.control k true) else s

/-- Effects of a word written at a local card-facing bridge, from its value before and the value written (R215, R216,
R218, R220). -/
def State.downEffect (s : State) (n off old v be : Nat) : State :=
  let fn := (Fn.down n).num
  let new := (s.cfg fn off).toNat
  let rose (b : Nat) : Bool := !bit old b && bit new b
  let fell (b : Nat) : Bool := bit old b && !bit new b
  match off with
  | 0x3C => if rose 22 then s.hotReset n else s
  | 0x70 => if rose 4 then s.hotReset n else s
  | 0x78 =>
    let s := if beMask be % 65536 = 0 then s else s.orCfg fn cSlotCtl ssCommandCompleted
    if rose 10 then s.pccOff n else if fell 10 then s.pccOn n else s
  | 0x174 => if bit (v &&& beMask be) 22 then s.dpcSoftware n else s
  | 0x178 => if fell 0 then s.dpcRelease n else s
  | _ => s

/-- Messages of a management function sent on unmask, for vectors whose interrupt is still asserted; a pending bit whose
interrupt has gone is cleared (R217). -/
def State.mgmtUnmask (s : State) (part : Nat) : State :=
  let fn := (Fn.mgmt part).num
  let ctl := (s.cfg fn cMsix).toNat
  (upTo 32).foldl (fun s v =>
    if bit (s.bar fn 0x8000).toNat v && bit ctl 31 && !bit ctl 30 && s.busMaster fn && !bit (s.bar fn (16 * v + 12)).toNat 0
    then
      let s := s.setBar fn 0x8000 (s.bar fn 0x8000 &&& ~~~ ((1 : W32) <<< v))
      if s.vectorLevel part v then s.mgmtMessage part v else s
    else s) s

/-- Effects of a word written at an instance function (R189, R198, R200, R201). -/
def State.instEffect (s : State) (i off old v be : Nat) : State :=
  let fn := (Fn.inst i).num
  let new := (s.cfg fn off).toNat
  match off with
  | 0x04 => if bit old 2 && !bit new 2 then s.stopBme i else s
  | 0x44 =>
    if bits old 1 0 != 3 && bits new 1 0 == 3 then (s.fset (R.VIM_INST_STS_D3HOT i) 1).stopBme i
    else s.fset (R.VIM_INST_STS_D3HOT i) (ofBool (bits new 1 0 == 3))
  | 0x68 => if bit (v &&& beMask be) 15 then (s.putCfg fn cDevCtl 15 15 0).startReset i true else s
  | _ => s

/-- What a write of a word does once the shadow holds it. -/
def State.fnEffect (s : State) (f : Fn) (off old v be : Nat) : State :=
  match f with
  | .up p =>
    if off = cBuses then (s.remotePorts.filter fun r => r.1 == p).foldl (fun s r => s.tellBus p r.2.1 r.2.2) s
    else if off = cBridgeCtl && !bit old 22 && bit (s.cfg f.num off).toNat 22 then s.resetSwitch p else s
  | .mgmt p => if off = cMsix ∨ off = cCommand then s.mgmtUnmask p else s
  | .engBridge _ => s
  | .down n => s.downEffect n off old v be
  | .inst i => s.instEffect i off old v be
  | .remote fid n =>
    -- Direct writes travel to the owning device; Command Completed is set here (R219, R270).
    let m := cfgMask f off
    if m.direct ||| m.w1c = 0 ∧ off ≠ cBuses then s
    else
      let s := if off = cSlotCtl then s.orCfg f.num cSlotCtl ssCommandCompleted else s
      let w := ((s.cfg f.num off).toNat &&& m.direct) ||| (v &&& m.w1c &&& beMask be)
      let w := if off = cDpcCtl then w ||| (v &&& beMask be &&& 0x400000) else w
      -- The port's own device judges Source Validation by the bridge's buses (R126).
      let w := if off = cBuses then (s.cfg f.num off).toNat else w
      match s.vc4Link fid, s.remoteBridges.find? fun r => r.2.1 == fid && r.2.2 == n with
      | some l, some r => s.sendMgmt l s.selfFid fid (.relay r.1 n off (BitVec.ofNat 32 w))
      | _, _ => s

/-- A word written to a function's shadow with its effects. -/
def State.cfgStore (s : State) (f : Fn) (off v be : Nat) : State :=
  let old := (s.cfg f.num off).toNat
  let m := cfgMask f off
  let m := match f with
    | .down n => if off = cSlotCtl ∧ !s.slotted n then {} else m
    | _ => m
  -- A power state that is not supported is discarded (R187, R225).
  let v := if off = cPmcsr ∧ (bits v 1 0 = 1 ∨ bits v 1 0 = 2) then putBits v 1 0 (bits old 1 0) else v
  (s.setCfg f.num off (BitVec.ofNat 32 (cfgMerge m old v be))).fnEffect f off old v be

/-! ### The mediation mailbox (R190, R215, R322) -/

/-- KIND and NUM of a mailbox entry. -/
def State.mbxKind (s : State) (part : Nat) : Fn → Nat × Nat
  | .up _ => (0, 0)
  | .engBridge _ => (2, 0)
  | .mgmt _ => (3, 0)
  | .inst i => (4, i)
  | f => (1, ((upTo 63).find? fun k => (s.bridgeList part)[k]? == some f).getD 0)

/-- An entry at the tail of a partition's mailbox (R322). -/
def State.mbxPlace (s : State) (part : Nat) (f : Fn) (off be data old : Nat) (held : Bool) : State :=
  let count := s.fget (R.MGT_MBX_STS_COUNT part)
  let slot := (s.fget (R.MGT_MBX_STS_HEAD part) + count) % 64
  let (kind, num) := s.mbxKind part f
  let e := data + old * 2 ^ 32 + off * 2 ^ 64 + be * 2 ^ 76 + part * 2 ^ 80 + kind * 2 ^ 85 + num * 2 ^ 88 + ofBool held * 2 ^ 97
  let s := s.setTbl 0x0E 0 (64 * part + slot) (BitVec.ofNat 256 e)
  let s := s.fset (R.MGT_MBX_STS_COUNT part) (count + 1)
  let s := if count = 0 then s.fset (R.MGT_MBX_STS_HELD part) (ofBool held) else s
  let s := match f with
    | .inst i => s.bump (R.VIM_MED_WR i)
    | _ => s
  s.bump R.MGT_MBX_ENQ

/-- The head entry retires: it is freed, HEAD advances, and a held completion is released (R322). -/
def State.mbxRetire (s : State) (part : Nat) : State :=
  let count := s.fget (R.MGT_MBX_STS_COUNT part)
  if count = 0 then s
  else
    let head := s.fget (R.MGT_MBX_STS_HEAD part)
    let held := s.tget 0x0E 0 (64 * part + head) 97 97 == 1
    let next := (head + 1) % 64
    let s := (s.fset (R.MGT_MBX_STS_COUNT part) (count - 1)).fset (R.MGT_MBX_STS_HEAD part) next
    let s := s.fset (R.MGT_MBX_STS_HELD part) (if 1 < count then s.tget 0x0E 0 (64 * part + next) 97 97 else 0)
    if !held then s
    else match s.heldCpl.find? fun h => h.1 == part with
      | none => s
      | some h =>
        let s : State := { s with heldCpl := s.heldCpl.erase h }
        s.complete h.2 .sc []

/-- MAILBOX_RETIRE: MGT_MBX_RETIRE written (R322). -/
def execMailboxRetire (part : Nat) (s : State) : Out := .next (s.mbxRetire (part % 32))

/-! ### Configuration requests served in hardware (R188, R215) -/

/-- A word as a configuration read returns it; an instance that is RESETTING reads its reset values (R190). -/
def State.cfgView (s : State) (f : Fn) (off : Nat) : W32 :=
  match f with
  | .inst i => if s.instState i = iRESETTING then (s.clearFn f.num).cfgRead f.num off else s.cfgRead f.num off
  | _ => s.cfgRead f.num off

/-- In LIMP before FW_RUNNING a bus-number write at a virtual bridge of partition 0 writes its ID routes in hardware:
every bus from the secondary to the subordinate one leads to a card's bridge's link, and every bus outside the switch's
range upstream (R104, R424). -/
def State.limpRoutes (s : State) (f : Fn) : State :=
  match f with
  | .up _ =>
    let lo := s.cfgBits f.num cBuses 15 8
    let hi := s.cfgBits f.num cBuses 23 16
    (upTo 256).foldl (fun s b =>
      if b < lo ∨ hi < b then s.setTbl 0x121 0 b (BitVec.ofNat 256 (1 + 1 * 2 ^ 1)) else s) s
  | .down n =>
    let lo := s.cfgBits f.num cBuses 15 8
    let hi := s.cfgBits f.num cBuses 23 16
    let s := (upTo 256).foldl (fun s b =>
      if s.tget 0x121 0 b 0 0 = 1 ∧ s.tget 0x121 0 b 9 3 = n then s.setTbl 0x121 0 b 0 else s) s
    (upTo 256).foldl (fun s b =>
      if lo ≤ b ∧ b ≤ hi ∧ 0 < lo then s.setTbl 0x121 0 b (BitVec.ofNat 256 (1 + n * 2 ^ 3 + s.selfFid * 2 ^ 10)) else s) s
  | _ => s

/-- A configuration write to a virtual function (R189, R190, R215): mediated writes queue, but in LIMP before FW_RUNNING
hardware applies every write (R424), and while an update or restart is BUSY they are retried (R330 to R332). -/
def State.cfgWrite (s : State) (fr : Frame) (part : Nat) (f : Fn) : State :=
  let off := fr.tlp.addr.toNat % 4096 / 4 * 4
  let be := fr.tlp.byteEn.toNat % 16
  let v := leNat (fr.tlp.data.take 4)
  let old := (s.cfg f.num off).toNat
  let m := cfgMask f off
  let limp := s.mode == mLIMP && !s.flag R.DEV_MODE_STS_FW_RUNNING
  let med := cfgMediated m old v be && !limp
  let inst := match f with
    | .inst i => some i
    | _ => none
  let rrs (s : State) : State := match inst with
    | some i => if med then s.bump (R.VIM_RRS i) else s
    | none => s
  -- What an instance's direct fields are written with takes effect even where the mediated ones are refused (R189; log
  -- entry 27).
  let direct (s : State) : State := if inst.isSome then s.cfgStore f off (old &&& m.mediated ||| (v - (v &&& m.mediated))) be else s
  if inst.any fun i => s.instState i == iRESETTING then (rrs s).complete fr .rrs []
  else if med && s.fget R.MGT_UPDATE_STS_RESULT == 1 then (direct (rrs s)).complete fr .rrs []
  else if med && decide (64 ≤ s.fget (R.MGT_MBX_STS_COUNT part)) then (direct ((rrs s).bump R.MGT_MBX_RRS)).complete fr .rrs []
  else
    let held := off == cBuses && f.isBridge && med
    let s := if med then s.mbxPlace part f off be (cfgMerge m old v be) old held else s
    let s := s.cfgStore f off v be
    let s := if limp && off == cBuses then s.limpRoutes f else s
    if held then { s with heldCpl := s.heldCpl ++ [(part, fr)] } else s.complete fr .sc []

/-- A configuration request served by a virtual function. -/
def State.serveCfg (s : State) (fr : Frame) (part : Nat) (f : Fn) : State :=
  if fr.tlp.kind = .cfgWrite then s.cfgWrite fr part f
  else s.complete fr .sc (leBytes 4 (s.cfgView f (fr.tlp.addr.toNat % 4096 / 4 * 4)).toNat)

/-! ### Writes at a bridge that have rows of their own -/

/-- SECONDARY_BUS_RESET: Secondary Bus Reset set in the bridge of a port (R216). -/
def execSecondaryBusReset (port : Nat) (s : State) : Out := .next (s.secondaryReset (port % 64))

/-- DPC_RELEASE: the host clears DPC Trigger Status (R218). -/
def execDpcRelease (port : Nat) (s : State) : Out := .next (s.dpcRelease (port % 64))

/-- A write of Power Controller Control by the host (R219, R220). -/
def State.writePcc (s : State) (n : Nat) (off : Bool) : State :=
  if !s.slotted n || s.role n != 2 then s
  else
    let fn := (Fn.down n).num
    let was := s.cfgBits fn cSlotCtl 10 10 == 1
    let s := (s.putCfg fn cSlotCtl 10 10 (ofBool off)).orCfg fn cSlotCtl ssCommandCompleted
    if was == off then s else if off then s.pccOff n else s.pccOn n

/-- POWER_CONTROLLER_OFF (R220). -/
def execPowerControllerOff (port : Nat) (s : State) : Out := .next (s.writePcc (port % 64) true)

/-- POWER_CONTROLLER_ON (R220). -/
def execPowerControllerOn (port : Nat) (s : State) : Out := .next (s.writePcc (port % 64) false)

/-! ### Octets and ports (R209 to R212) -/

/-- Sub-port of a lane in a mode (R209). -/
def laneSub (mode l : Nat) : Nat :=
  match mode with
  | 1 => l / 4
  | 2 => if l < 4 then 0 else l / 2 - 1
  | 3 => l / 2
  | _ => 0

/-- The port that a lane of an octet belongs to, none for a lane of no enabled sub-port. -/
def State.laneOwner (s : State) (k l : Nat) : Option Nat :=
  let mode := s.octetMode k
  let k0 := if mode = 4 then k / 2 * 2 else k
  let whole := mode != 4 || (s.octetMode k0 == 4 && s.octetMode (k0 + 1) == 4)
  let v := (s.reg (R.PHY_OCTET_PORTS k0)).toNat
  let j := laneSub mode l
  if whole && decide (j < subPorts mode) && bit v (8 * j + 7) then some (bits v (8 * j + 5) (8 * j)) else none

/-- Lanes of an octet in a loop, or whose generators were started and not stopped since (R278, R280). -/
def State.testedLanes (s : State) (k : Nat) : Nat :=
  (if s.fget (R.PHY_LOOP_CTL_MODE k) = 0 then 0 else s.fget (R.PHY_LOOP_CTL_LANES k))
    ||| (s.testUnit k).gen

/-- Is a port's link held down by a loop or PRBS on one of its lanes (R277, R280)? -/
def State.heldByTest (s : State) (n : Nat) : Bool :=
  (upTo 24).any fun k => s.testedLanes k != 0 && (upTo 8).any fun l => bit (s.testedLanes k) l && s.laneOwner k l == some n

/-- Does a list hold a number twice? -/
def hasTwice : List Nat → Bool
  | [] => false
  | x :: xs => xs.contains x || hasTwice xs

/-- PEP_PORT_STS.PRESENT as the octets stand. -/
def State.showPorts (s : State) : State :=
  (upTo 64).foldl (fun s n => s.fset (R.PEP_PORT_STS_PRESENT n) (ofBool (s.formedPorts.contains n))) s

/-- The state with one octet's register written as a whole pair or alone. X16 is written to both octets of its pair. -/
def State.octetWritten (s : State) (k : Nat) (mode : Bool) (v : Nat) : State :=
  if !mode then s.setReg (R.PHY_OCTET_PORTS k) (BitVec.ofNat 32 (v &&& 0xBFBFBFBF))
  else if bits v 2 0 = 4 then (s.fset (R.PHY_OCTET_MODE_MODE (k / 2 * 2)) 4).fset (R.PHY_OCTET_MODE_MODE (k / 2 * 2 + 1)) 4
  else s.fset (R.PHY_OCTET_MODE_MODE k) (min (bits v 2 0) 5)

/-- A write of PHY_OCTET_MODE or PHY_OCTET_PORTS (R210). X16 is applied once it has been written to both octets of the
pair: the first write waits, and nothing changes until the second comes; another mode written meanwhile takes it back. A
write to one octet alone that would part a pair in X16 is refused (log entry 26). -/
def State.writeOctet (s : State) (k : Nat) (mode : Bool) (v : Nat) : State :=
  let x16 := mode && bits v 2 0 == 4
  let other := k / 2 * 2 + (1 - k % 2)
  if x16 && s.octetMode k != 4 && !s.octetAsk.contains other then
    { s with octetAsk := if s.octetAsk.contains k then s.octetAsk else s.octetAsk ++ [k] }
  else
    let t := s.octetWritten k mode v
    let mine := if s.octetMode k = 4 ∨ t.octetMode k = 4 then [k / 2 * 2, k / 2 * 2 + 1] else [k]
    let ports := mine.flatMap s.octetPorts ++ mine.flatMap t.octetPorts
    let parts := mode && !x16 && s.octetMode k == 4 && s.octetMode other == 4
    if ports.any (fun n => !s.flag (R.PEP_LINK_CTL_DISABLE n)) || hasTwice t.formedPorts || parts then
      (s.bump (R.PHY_CFG_REFUSED k)).raise (0x900 + 4 * k) 0
    else
      let t := if mode then { t with octetAsk := s.octetAsk.filter fun e => e != k && !(x16 && e == other) } else t
      t.showPorts

/-- OCTET_CONFIG_WRITE (R210). -/
def execOctetConfigWrite (octet : Nat) (mode : Bool) (value : W32) (s : State) : Out :=
  .next (s.writeOctet (octet % 24) mode value.toNat)

/-- A refused write of PEP_PORT_CTL (R212). -/
def State.portRefused (s : State) (n cause : Nat) : State :=
  ((s.fset (R.PEP_PORT_STS_CAUSE n) cause).bump (R.PEP_CFG_REFUSED n)).raise (0x800 + 4 * n) 3

/-- A write of PEP_PORT_CTL (R212); a port that becomes UPSTREAM for a partition with a valid home entry raises the
conflict of R269. -/
def State.writePortCtl (s : State) (n v : Nat) : State :=
  let role := min (bits v 1 0) 2
  let part := bits v 12 8
  let slot := bits v 20 16
  let slot := nearestOf 23 31 slot
  let same := role == s.role n && part == s.portPart n && slot == s.fget (R.PEP_PORT_CTL_SLOT n)
  let dup := role == 1 && (upTo 64).any fun m => m != n && s.role m == 1 && s.portPart m == part
  if same then s.fset (R.PEP_PORT_CTL_HOLD_DOWN n) (bits v 24 24)
  else if !s.flag (R.PEP_LINK_CTL_DISABLE n) then s.portRefused n 1
  else if dup then s.portRefused n 2
  else
    let s := s.setReg (R.PEP_PORT_CTL n) (BitVec.ofNat 32 (role + part * 2 ^ 8 + slot * 2 ^ 16 + bits v 24 24 * 2 ^ 24))
    if role = 1 ∧ s.tget 0x122 1 part 0 0 = 1 then s.raise 0x122 2 else s

/-- PORT_CONFIG_WRITE (R212). -/
def execPortConfigWrite (port : Nat) (value : W32) (s : State) : Out := .next (s.writePortCtl (port % 64) value.toNat)

/-! ### Links that come up and go down (R82, R84, R207, R216, R218, R225) -/

/-- Is the card of a port held off its link by a FENCED slot (R376)? -/
def State.fenced (s : State) (n : Nat) : Bool :=
  s.slotted n && s.slotState (s.fget (R.PEP_PORT_CTL_SLOT n)) == slFENCED

/-- May a port's link train: present, in a role, not disabled by either register, not in DPC, under no test, its slot not
FENCED, nor held in hot reset? -/
def State.mayTrain (s : State) (n : Nat) : Bool :=
  let fn := (Fn.down n).num
  s.alive && s.flag (R.PEP_PORT_STS_PRESENT n) && (s.role n == 1 || s.role n == 2)
    && !s.flag (R.PEP_LINK_CTL_DISABLE n) && !s.flag (R.PEP_PORT_STS_DPC n) && !s.heldByTest n && !s.fenced n
    && !(s.role n == 2 && (s.cfgBits fn cLinkCtl 4 4 == 1 || s.cfgBits fn cBridgeCtl 22 22 == 1))

/-- The highest rate a port may take: MAX_RATE, and 8 GT/s in LIMP (R207) and where LIMP's ceiling stays (R435). -/
def State.rateCeiling (s : State) (n : Nat) : Nat :=
  let m := s.fget (R.PEP_LINK_CTL_MAX_RATE n)
  if s.service = mLIMP then min m 3 else m

/-- Base of a test unit's control page: PHY page 1 of an octet, or MFL page 3 of a link. -/
def testBase (u : Nat) : Nat := if u < 24 then 0x901000 + 0x4000 * u else 0xA03000 + 0x8000 * (u - 24)

def testPage (u : Nat) : Nat := testBase u / 4096

def testLanes (u : Nat) : Nat := if u < 24 then 8 else 9

/-- A field of a unit's register. -/
def tfld (u off hi lo : Nat) : Fld := ⟨testBase u + off, hi, lo⟩

/-- LANES of a unit's control register. -/
def lanesFld (u off : Nat) : Fld := tfld u off (7 + testLanes u) 8

/-- What locked checkers counted, lane by lane: errored bits, and units of 1,024 bits (R281). -/
def State.prbsCount (s : State) (u : Nat) (xs : List (Nat × Nat)) : State :=
  let err := if u < 24 then R.PHY_PRBS_ERR u 0 else R.MFL_PRBS_ERR (u - 24) 0
  let cnt := if u < 24 then R.PHY_PRBS_BITS u 0 else R.MFL_PRBS_BITS (u - 24) 0
  (upTo (testLanes u)).foldl (fun s l =>
    match xs[l]? with
    | some x => if bit (s.fget (tfld u 0x20 8 0)) l then (s.bumpBy (err + 8 * l) x.1).bumpBy (cnt + 8 * l) x.2 else s
    | none => s) s

/-- What the locked checkers of a unit counted until something other than a command that brings the counts stops them:
only the receivers know it, a free choice (R281, log entry 3). -/
def State.prbsTake (s : State) (u : Nat) : State :=
  if s.fget (tfld u 0x20 8 0) = 0 then s
  else
    let xs := (upTo (testLanes u)).map fun l => (Config.freeNat (s.free + 2 * l), Config.freeNat (s.free + 2 * l + 1))
    ({ s with free := s.free + 2 * testLanes u } : State).prbsCount u xs

/-- PRBS on an octet stops with ABORTED_RATE, and stays stopped until a write restarts it (R282). -/
def State.prbsAbort (s : State) (k : Nat) : State :=
  if (s.flag (R.PHY_PRBS_CTL_GEN_EN k) || s.flag (R.PHY_PRBS_CTL_CHK_EN k)) && !(s.testUnit k).stopped then
    ((s.fset (R.PHY_TEST_STS_RESULT k) 3).fset (R.PHY_TEST_STS_LOCK k) 0).modTest k fun x => { x with stopped := true }
  else s

/-- The width a port's link takes: the widest the standard knows that the ends settle, within the port's lanes (R207,
R209). -/
def State.trainWidth (s : State) (n width : Nat) : Nat :=
  ([16, 8, 4, 2].find? fun w => decide (w ≤ min width (s.portWidth n))).getD 1

/-- Rate, width and Flit Mode of a link that has trained (R207): RATE_CHANGE when one changes. PRBS on the port's octets
stops when the rate of an up link changes (R282). -/
def State.setLink (s : State) (n rate width : Nat) (flit : Bool) : State × Bool :=
  let rate := max 1 (min rate (s.rateCeiling n))
  let width := s.trainWidth n width
  let s := if (s.port n).up && s.fget (R.PEP_PORT_STS_RATE n) != rate then
      (upTo 24).foldl (fun s k => if (upTo 8).any (fun l => s.laneOwner k l == some n) then (s.prbsTake k).prbsAbort k else s) s
    else s
  let flit := rate == 6 || (flit && decide (3 ≤ rate) && s.flag (R.PEP_LINK_CTL_FLIT_EN n))
  let changed := s.fget (R.PEP_PORT_STS_RATE n) != rate || s.fget (R.PEP_PORT_STS_WIDTH n) != width
  (((s.fset (R.PEP_PORT_STS_RATE n) rate).fset (R.PEP_PORT_STS_WIDTH n) width).fset (R.PEP_PORT_STS_FLIT n) (ofBool flit),
    changed)

/-- A link that runs faster than its ceiling has become goes down to it (R207). -/
def State.rateFalls (s : State) (n : Nat) : State :=
  if (s.port n).up && decide (s.rateCeiling n < s.fget (R.PEP_PORT_STS_RATE n)) then
    let (s, changed) := s.setLink n (s.rateCeiling n) (s.fget (R.PEP_PORT_STS_WIDTH n)) (s.flag (R.PEP_PORT_STS_FLIT n))
    if changed then s.raise (0x800 + 4 * n) 2 else s
  else s

/-- A PCIe port reaches DL_Active (R84, R220). -/
def State.pcieUp (s : State) (n rate width : Nat) (flit : Bool) : State :=
  let (s, changed) := s.setLink n rate width flit
  let s := (s.fset (R.PEP_PORT_STS_DL_ACTIVE n) 1).portUp n
  let s := if s.role n = 2 then s.orCfg (Fn.down n).num cSlotCtl ssLinkChanged else s
  s.raiseAll (0x800 + 4 * n) (if changed then [0, 2] else [0])

/-- PORT_LINK_UP: a port's link comes up at a rate, width and mode; a Moaben one has come up with its authentication
(R84, R207). -/
def execPortLinkUp (port rate width : Nat) (flit : Bool) (s : State) : Out :=
  let n := port % 72
  if isPcie n then .next (if s.mayTrain n && !(s.port n).up then s.pcieUp n rate width flit else s)
  else .next (if s.linkLive (n - 64) && !(s.port n).up then s.portUp n else s)

/-- The triggers a downstream bridge's host enables, for an uncorrectable error newly logged (R218): bit `b` of the
status, by its severity. -/
def State.dpcOnError (s : State) (n b reason : Nat) : State :=
  if s.triggersDpc n b then s.enterDpcWhy n reason 0 else s

/-- A link that goes down unasked: Surprise Down at a port without a slot, which may trigger DPC; a slot's removal is
expected (R217 to R219). -/
def State.surpriseDown (s : State) (n : Nat) : State :=
  let s := if s.role n = 2 && !s.slotted n && (s.port n).up then
      (s.portAer n aerSurpriseDown []).dpcOnError n aerSurpriseDown dpcSURPRISE_DOWN
    else s
  s.pcieDown n

/-- PORT_LINK_DOWN: a PCIe or Moaben port's link goes down (R82). -/
def execPortLinkDown (port : Nat) (s : State) : Out :=
  let n := port % 72
  -- A link that is disabled stays so, and one still in training starts afresh (R249, R257).
  .next (if isPcie n then s.surpriseDown n else if s.linkState (n - 64) = lsDISABLED then s else s.linkLost (n - 64))

/-- PEP_LINK_CTL.DISABLE written 1 (R82). -/
def State.pcieDisable (s : State) (n : Nat) : State := (s.fset (R.PEP_LINK_CTL_DISABLE n) 1).pcieDown n

/-- PCIE_LINK_DISABLE (R82). -/
def execPcieLinkDisable (port : Nat) (s : State) : Out := .next (s.pcieDisable (port % 64))

/-- HOT_RESET: PEP_LINK_CTL.HOT_RESET written 1 (R216). -/
def execHotReset (port : Nat) (s : State) : Out := .next (s.hotReset (port % 64))

/-- PCIE_RETRAIN: the link retrains without going down, to the rate and width its ends settle (R207). -/
def execPcieRetrain (port rate width : Nat) (s : State) : Out :=
  let n := port % 64
  if !s.flag (R.PEP_PORT_STS_DL_ACTIVE n) then .next s
  else
    -- A redo of equalisation ends when the link is back at L0 (R288).
    let s := s.modPort n fun p => { p with redoing := false }
    let (s, changed) := s.setLink n rate width (s.flag (R.PEP_PORT_STS_FLIT n))
    .next (if changed then s.raise (0x800 + 4 * n) 2 else s)

/-- L1_ENTRY: ASPM L1, enabled at this end in Link Control, with empty egress queues; the partner's enable is the
observation (R225). -/
def execL1Entry (port : Nat) (s : State) : Out :=
  let n := port % 64
  let idle := s.sw.copies.all fun c => c.egress != n || c.unacked
  .next (if (s.port n).up && s.cfgBits (s.portFn n) cLinkCtl 1 1 == 1 && idle then s.modPort n fun p => { p with l1 := true }
    else s)

/-- PTM_REQUEST: answered with the time base in whole nanoseconds while PTM Enable is 1; otherwise an Unsupported
Request of that bridge (R222). -/
def execPtmRequest (port : Nat) (s : State) : Out :=
  let n := port % 64
  if s.role n != 2 || !(s.port n).up then .next s
  else if s.cfgBits (Fn.down n).num cPtmCtl 0 0 = 1 then
    .next { s with answer := .words [BitVec.ofNat 32 s.ns, BitVec.ofNat 32 (s.ns / 2 ^ 32)] }
  else .next (s.portAer n aerUnsupported [])

end Sys2Proof.Machine
end

