-- ==== Sys2Proof/Machine/Isolation.lean ====
section
/-! DEFINITION. Error handling commands (R293 to R311): the scrubber, error injection, host record rings, and the entry
to and exit from ISOLATE. -/

namespace Sys2Proof.Machine

/-! ### Routing-table faults (R293, R294, R311) -/

/-- ERR_STS.FAULTED follows the entries with both copies bad. -/
def State.showFaulted (s : State) : State :=
  s.fset R.ERR_STS_FAULTED (min 1023 (s.err.bad.filter fun b => b.copy0 && b.copy1).length)

/-- An entry found bad in one or both copies, remembered. -/
def State.noteBad (s : State) (table index : Nat) (c0 c1 : Bool) : State :=
  let old := s.err.bad.find? fun b => b.table == table && b.index == index
  let b : BadEntry := { table := table, index := index, copy0 := c0 || old.any (·.copy0), copy1 := c1 || old.any (·.copy1) }
  let rest := s.err.bad.filter fun b => !(b.table == table && b.index == index)
  if c0 || c1 then ({ s with err := { s.err with bad := rest ++ [b] } } : State).showFaulted else s

/-- Writing an entry clears its fault (R311). -/
def State.clearFault (s : State) (table index : Nat) : State :=
  ({ s with err := { s.err with bad := s.err.bad.filter fun b => !(b.table == table && b.index == index) } } : State).showFaulted

/-- An entry written in this core cycle (R294). -/
def State.wroteEntry (s : State) (table index : Nat) : State :=
  { s with err := { s.err with
    wrote := (if s.err.wroteAt = s.now then s.err.wrote else []) ++ [(table, index)], wroteAt := s.now } }

/-- One bad copy: it is rewritten from the good one (R293, R294). -/
def State.tableCe (s : State) (table index copy : Nat) : State :=
  ((s.clearFault table index).bump R.ERR_SCRUB_FIXED).record eTABLE_CE lvNOTICE none 0x7F (table + index * 2 ^ 8 + copy * 2 ^ 24)

/-- What a read of an entry finds of its two copies: a repair, or an error of level DEVICE (R293, R294). In ISOLATE an
entry already known to be bad is left out (R309). -/
def State.readEntry (s : State) (table index : Nat) (c0 c1 : Bool) : State :=
  let known := s.faulted table index
  let s := s.noteBad table index c0 c1
  match s.err.bad.find? fun b => b.table == table && b.index == index with
  | none => s
  | some b =>
    if b.copy0 && b.copy1 then
      (if known && s.mode == mISOLATE then s else s.tableUe table index none 0x7F)
    else s.tableCe table index (ofBool b.copy1)

/-- SCRUB_READ: the scrubber reads both copies of an entry and finds each good or bad (R294). -/
def execScrubRead (table index : Nat) (copy0 copy1 : Bool) (s : State) : Out :=
  -- An entry written in this core cycle is skipped until the next pass.
  let skip := s.err.wroteAt == s.now && s.err.wrote.contains (table % 8, index)
  .next (if s.alive && !skip then s.readEntry (table % 8) index copy0 copy1 else s)

/-! ### Injection (R300) -/

/-- A write of ERR_INJECT with GO (ERR_INJECT). -/
def State.armInject (s : State) (type port count : Nat) : State :=
  let port := min (port % 128) 87
  let count := max 1 (count % 16)
  let s := ((s.fset R.ERR_INJECT_TYPE type).fset R.ERR_INJECT_PORT port).fset R.ERR_INJECT_COUNT count
  { s with err := { s.err with inject := some (type % 4, port, count) } }

/-- ERROR_INJECT (R300). -/
def execErrorInject (type port count : Nat) (s : State) : Out := .next (s.armInject type port count)

/-- What an armed injection does to a copy that leaves at a port: the kind, with one copy fewer left. -/
def State.injected (s : State) (n : Nat) : Option Nat × State :=
  match s.err.inject with
  | some (ty, p, left) =>
    if p = n ∧ (ty ≠ 3 ∨ isMoaben n = true) then
      (some ty, { s with err := { s.err with inject := if left ≤ 1 then none else some (ty, p, left - 1) } })
    else (none, s)
  | none => (none, s)

/-- FATAL_ACK: the capture of FIRST_FATAL is released (R303). -/
def execFatalAck (s : State) : Out := .next (s.fset R.ERR_STS_FATAL_VALID 0)

/-! ### Host record rings (R305) -/

/-- Is the delivery of records held (R305)? -/
def State.recordsHeld (s : State) : Bool := s.fget R.ERR_ISO_STS_STATE != isoNORMAL

/-- RECORD_RING_WRITE: the oldest queued record of a partition goes to its ring once the management pool has room
(R305). -/
def execRecordRingWrite (part : Nat) (s : State) : Out :=
  let p := part % 32
  match s.err.ringQ.find? fun r => r.1 == p with
  | none => .next s
  | some r =>
    if s.recordsHeld || s.poolFree .management == 0 then .next s
    else
      let s : State := { s with err := { s.err with ringQ := s.err.ringQ.erase r } }
      if !s.recordRingOn p then .next s
      else
        let prod := s.tget 0x50 2 p 191 160
        let slot := prod % 2 ^ s.tget 0x50 2 p 132 128
        let s := s.postToHost p (BitVec.ofNat 64 (s.tget 0x50 2 p 63 0 + 128 * slot)) r.2 .management (.recordRec p)
        let s := s.tset 0x50 2 p 191 160 (prod + 1)
        .next { s with err := { s.err with ringDue := if s.err.ringDue.contains p then s.err.ringDue else s.err.ringDue ++ [p] } }

/-- RECORD_RING_WRITEBACK: PROD goes to PIDX_ADDR behind its records (R81, R305). -/
def execRecordRingWriteback (part : Nat) (s : State) : Out :=
  let p := part % 32
  if !s.err.ringDue.contains p || s.poolFree .management == 0 then .next s
  else
    let s : State := { s with err := { s.err with ringDue := s.err.ringDue.filter (· != p) } }
    .next (s.postToHost p (BitVec.ofNat 64 (s.tget 0x50 2 p 127 64)) (leBytes 4 (s.tget 0x50 2 p 191 160)) .management
      (.recordIdx p))

/-! ### ISOLATE (R308 to R310) -/

/-- A frame that waits for admission when ISOLATE is entered: a posted one discarded, a non-posted one of a link refused;
one of the part's own reads at core port 88 fails. -/
def State.dropWaiting (s : State) (w : Waiting) : State :=
  let s := s.bump R.ERR_ISO_DROP
  let s : State := { s with err := { s.err with isoDropped := s.err.isoDropped + 1 } }
  match w.frame.origin with
  | .link => if w.frame.tlp.nonPosted then s.unsupported w.frame else s
  | .engine _ => s
  | .device => match w.frame.record with
    | some r => (s.coreAnswer r { kind := .completion, status := .ur }).dropTag r
    | none => s

/-- An action that was put off (R299). -/
def State.act (s : State) (a : Action) : State :=
  match a with
  | .port n => s.containPort n
  | .inst i => s.startReset i false
  | .part p => match s.upstreamOf p with
    | some n => s.pcieDown n
    | none => s

/-- The actions put off are taken, in the order their errors were found (R299). -/
def State.actDeferred (s : State) : State :=
  let s' : State := { s with err := { s.err with deferred := [] } }
  s.err.deferred.foldl State.act s'

/-- ISOLATE_ENTERED: the entry ends: every copy that has not started is flushed, the record is written, and the device is
in ISOLATE (R308). -/
def execIsolateEntered (s : State) : Out :=
  if s.fget R.ERR_ISO_STS_STATE != isoENTERING then .next s
  else
    let ws := s.sw.waiting
    let s := s.flushEverything true
    let s : State := { s with sw := { s.sw with waiting := [] } }
    let s := ws.foldl State.dropWaiting s
    let prior := s.fget R.ERR_ISO_STS_PRIOR
    let s := s.record eISOLATE_ENTRY lvDEVICE none 0x7F (s.err.isoCause % 2 ^ 32 + prior * 2 ^ 32)
    let s := (s.enterMode mISOLATE).fset R.ERR_ISO_STS_STATE isoISOLATED
    let s := if s.fget R.DEV_MODE_STS_RESULT = 1 then s.fset R.DEV_MODE_STS_RESULT 2 else s
    .next ((s.bump R.ERR_ISO_ENTRIES).raise 0x50 1).actDeferred.updateXoff

/-- ERR_ISO_CTL.EXIT written 1 (R310): refused with STATE outside ISOLATE, and without effect while an exit runs. -/
def State.isolateExit (s : State) : State :=
  let st := s.fget R.ERR_ISO_STS_STATE
  if s.mode = mISOLATE ∧ st = isoISOLATED then
    ((s.fset R.ERR_ISO_STS_STATE isoEXITING).fset R.ERR_ISO_STS_RESULT 1).fset R.ERR_ISO_STS_CAUSE 0
  else if st = isoEXITING then s
  else ((s.fset R.ERR_ISO_STS_RESULT 3).fset R.ERR_ISO_STS_CAUSE 3).raise 0x50 3

/-- ISOLATE_EXIT (R310). -/
def execIsolateExit (s : State) : Out := .next s.isolateExit

/-- ISOLATE_EXIT_DONE: refused while an entry has both copies bad; otherwise the mode returns to PRIOR and traffic
resumes (R310, R434). -/
def execIsolateExitDone (s : State) : Out :=
  if s.fget R.ERR_ISO_STS_STATE != isoEXITING then .next s
  else if s.err.bad.any fun b => b.copy0 && b.copy1 then
    .next ((((s.fset R.ERR_ISO_STS_STATE isoISOLATED).fset R.ERR_ISO_STS_RESULT 3).fset R.ERR_ISO_STS_CAUSE 1).raise 0x50 3)
  else
    let prior := s.fget R.ERR_ISO_STS_PRIOR
    let s := ((s.fset R.ERR_ISO_STS_STATE isoNORMAL).fset R.ERR_ISO_STS_RESULT 2).fset R.ERR_ISO_STS_CAUSE 0
    let s := s.returnTo prior
    let s := if prior = mDRAIN then { s.fset R.DEV_MODE_STS_DRAINED 0 with drainAt := s.now } else s
    let s := s.record eISOLATE_EXIT lvDEVICE none 0x7F
      (s.err.isoTime % 2 ^ 64 + s.ns % 2 ^ 64 * 2 ^ 64 + s.err.isoDropped % 2 ^ 64 * 2 ^ 128)
    .next ((s.raise 0x50 2).updateXoff)

end Sys2Proof.Machine
end

