-- ==== Sys2Proof/Machine/Sluice.lean ====
section
/-! DEFINITION. The sluice (R132 to R149, R466): the time base and its discipline, steps, FRAME_SYNC, gate groups, arm
slots and commits, and the TSYNC exchange of Moaben links (R256). Instants are counted in 2^-16 ns. -/

namespace Sys2Proof.Machine

/-! ### Slots -/

abbrev asIDLE : Nat := 0
abbrev asARMED : Nat := 1
abbrev asFIRED : Nat := 2
abbrev asCANCELLED : Nat := 3
abbrev asREFUSED : Nat := 4
abbrev asMISSED : Nat := 5

def State.armState (s : State) (g k : Nat) : Nat := s.fget (R.SLU_ARM_CTL_STATE g k)

def State.armKind (s : State) (g k : Nat) : Nat := s.fget (R.SLU_ARM_CTL_KIND g k)

/-- A slot that is ARMED and whose commit has not fired: one that has reads ARMED until R144 holds. -/
def State.waitingSlot (s : State) (g k : Nat) : Bool := s.armState g k == asARMED && !s.firing.contains (4 * g + k)

/-- All slots, by group and number. -/
def allSlots : List (Nat × Nat) := (upTo 16).flatMap fun g => (upTo 4).map fun k => (g, k)

/-- OFFSET of a FRAME trigger in 2^-16 ns: below 32 ns it is taken as 32 ns (R142). -/
def State.armOffset (s : State) (g k : Nat) : Nat :=
  let o := (s.reg (R.SLU_ARM_W1 g k)).toNat % 2 ^ 30
  if o < 32 then 32 * 65536 else o * 65536 + s.fget (R.SLU_ARM_W2_FRAC g k)

/-- T of a TIME trigger in 2^-16 ns. -/
def State.armTime (s : State) (g k : Nat) : Nat :=
  ((s.reg (R.SLU_ARM_W0 g k)).toNat + (s.reg (R.SLU_ARM_W1 g k)).toNat * 2 ^ 32) * 65536 + s.fget (R.SLU_ARM_W2_FRAC g k)

/-- What makes two triggers the same (R142). -/
def State.armKey (s : State) (g k : Nat) : Nat × Nat × Nat :=
  if s.armKind g k = 0 then (0, s.armTime g k, 0) else (1, (s.reg (R.SLU_ARM_W0 g k)).toNat, s.armOffset g k)

/-- Instant of a slot, once it is fixed (R143). -/
def State.instantOf (s : State) (g k : Nat) : Option Nat := storeGet none s.armInst (4 * g + k)

def State.setInstant (s : State) (g k : Nat) (t : Option Nat) : State :=
  { s with armInst := storePut none (4 * g + k) t s.armInst }

/-! ### Commits (R141, R143) -/

/-- The bank of a group's latest fired commit. -/
def State.latestBank (s : State) (g : Nat) : Bool :=
  match storeGet [] s.gates g with
  | [] => false
  | c :: _ => c.bank

def State.pushFired (s : State) (g : Nat) (c : Fired) : State :=
  { s with gates := storePut [] g (c :: storeGet [] s.gates g) s.gates }

/-- A commit fires: its group selects its bank from the instant on (R143). -/
def State.fireSlot (s : State) (g k t : Nat) : State :=
  let b := s.flag (R.SLU_ARM_CTL_BANK g k)
  let was := s.latestBank g
  let s := s.pushFired g { instant := t, bank := b, era := s.tb.era }
  let s : State := { s with firing := s.firing ++ [4 * g + k] }
  if was = b then s else s.bump R.SLU_FLIPS

/-- Slots of a group whose instant is at or before a limit, with their instants, by slot number. -/
def State.dueSlots (s : State) (g limit : Nat) : List (Nat × Nat) :=
  (upTo 4).filterMap fun k =>
    if s.waitingSlot g k then (match s.instantOf g k with
      | some t => if t ≤ limit then some (t, k) else none
      | none => none)
    else none

/-- Commits of a group fired in one core cycle, in the order given; two of them raise event 5 (R143). -/
def State.fireAll (s : State) (g : Nat) (xs : List (Nat × Nat)) : State :=
  let s := xs.foldl (fun s x => s.fireSlot g x.2 x.1) s
  if 2 ≤ xs.length then s.raise 0x150 5 else s

/-- Every commit whose instant has arrived fires, lower slots first (R143). -/
def State.fireDue (s : State) : State := (upTo 16).foldl (fun s g => s.fireAll g (s.dueSlots g s.time80)) s

/-- Insertion by instant, then slot. -/
def insertDue (x : Nat × Nat) : List (Nat × Nat) → List (Nat × Nat)
  | [] => [x]
  | y :: ys => if x.1 < y.1 ∨ (x.1 = y.1 ∧ x.2 ≤ y.2) then x :: y :: ys else y :: insertDue x ys

/-- A step of the time base to a value: commits it passes over fire first, the latest instant last (R136). -/
def State.stepTime (s : State) (v : Nat) : State :=
  let s := (upTo 16).foldl (fun s g => s.fireAll g ((s.dueSlots g v).foldr insertDue [])) s
  let s : State := { s with tb := { s.tb with time := BitVec.ofNat 80 v, sub := 0, era := s.tb.era + 1 } }
  s.raise 0x150 6

/-! ### Discipline (R134, R135) -/

abbrev tbFREE : Nat := 0
abbrev tbACQUIRING : Nat := 1
abbrev tbLOCKED : Nat := 2
abbrev tbHOLDOVER : Nat := 3

/-- SLU_TB_STS.STATE set, with its event. -/
def State.setTbState (s : State) (st : Nat) : State :=
  if s.fget R.SLU_TB_STS_STATE = st then s else (s.fset R.SLU_TB_STS_STATE st).raise 0x150 4

/-- Is any slot of any group ARMED, those that have fired left out (R134, log entry 78)? -/
def State.anyArmed (s : State) : Bool := allSlots.any fun x => s.waitingSlot x.1 x.2

/-- A value within ±m. -/
def clampInt (m x : Int) : Int := if x > m then m else if x < -m then -m else x

/-- One reference event captured at `c` with its ideal instant (R134). One that ends HOLDOVER is judged as in ACQUIRING, with
the good count kept (log entry 78). -/
def State.discipline (s : State) (c ideal : Int) : State :=
  let st := s.fget R.SLU_TB_STS_STATE
  let s := if st = tbHOLDOVER ∨ st = tbFREE then s.setTbState tbACQUIRING else s
  let e := c - ideal
  let step := s.fget R.SLU_TB_STS_STATE == tbACQUIRING && s.flag R.SLU_TB_CTL_AUTO_STEP && decide (1000 * 65536 < e.natAbs)
    && !s.anyArmed
  let s := if step then s.stepTime ((s.time80 : Int) - e).toNat else s
  let e := if step then 0 else e
  let slew : Int := s.fget R.SLU_TB_CTL_SLEW_PPM * 1000 * 65536
  let lock := s.fget R.SLU_TB_CTL_LOCK_NS * 65536
  let good := if e.natAbs ≤ lock then s.tb.good + 1 else 0
  let s := s.fset R.SLU_TB_STS_PHASE_ERR (satSigned 16 (e.tdiv 65536))
  let s := s.hist 8 0 false (e.natAbs / 65536)
  let s : State := { s with tb := { s.tb with rate := clampInt slew (-e), good := good, lastRef := s.now } }
  let s := if 4 ≤ good then s.setTbState tbLOCKED else s
  if s.fget R.SLU_TB_STS_STATE = tbLOCKED ∧ 4 * lock < e.natAbs then
    { s.setTbState tbACQUIRING with tb := { s.tb with good := 0 } }
  else s

abbrev srcFREE : Nat := 0
abbrev srcPPS : Nat := 1
abbrev srcFRAME : Nat := 2
abbrev srcFABRIC : Nat := 3

/-- What a change of SLU_TB_CTL.SRC does: FREE without a reference, ACQUIRING with one (R134; log entry 28). -/
def State.sourceChanged (s : State) (old : Nat) : State :=
  let src := s.fget R.SLU_TB_CTL_SRC
  if src = old then s
  else
    let s : State := { s with tb := { s.tb with good := 0, lastRef := s.now } }
    s.setTbState (if src = srcFREE then tbFREE else tbACQUIRING)

/-- The nearest of the instants `origin + n × period`. -/
def nearestInstant (origin period c : Int) : Int := origin + (2 * (c - origin) + period) / (2 * period) * period

/-- PPS_IN_EDGE: a reference event while SRC is PPS (R134). -/
def execPpsInEdge (s : State) : Out :=
  .next (if s.alive && s.fget R.SLU_TB_CTL_SRC == srcPPS then
      s.discipline s.time80 (nearestInstant 0 (1000000000 * 65536) s.time80)
    else s)

/-- The link that FABRIC discipline uses now, and whether it is the alternate one (R135). -/
def State.refLink (s : State) : Option (Nat × Bool) :=
  let l := s.fget R.SLU_TB_CTL_LINK
  let a := s.fget R.SLU_TB_CTL_ALT_LINK
  if s.linkLive l then some (l, false)
  else if s.flag R.SLU_TB_CTL_ALT_EN && s.linkUp a then some (a, true)
  else none

/-- TB_HOLDOVER: no usable link, or no reference event for 2 s (R135). -/
def execTbHoldover (s : State) : Out :=
  let src := s.fget R.SLU_TB_CTL_SRC
  let late := decide (s.tb.lastRef + 2 * cyclesPerS ≤ s.now)
  let due := (src == srcFABRIC && s.refLink.isNone) || ((src == srcPPS || src == srcFRAME) && late)
  .next (if due then s.setTbState tbHOLDOVER else s)

/-- TB_SET: SLU_TB_SET with GO = 1 (R136). -/
def State.tbSet (s : State) : State := s.stepTime (s.pair R.SLU_TB_SET_LO R.SLU_TB_SET_HI * 65536)

def execTbSet (s : State) : Out := .next s.tbSet

/-! ### FRAME_SYNC (R138, R139) -/

abbrev fsNONE : Nat := 0
abbrev fsACQUIRING : Nat := 1
abbrev fsLOCKED : Nat := 2
abbrev fsFLYWHEEL : Nat := 3

def State.fsState (s : State) : Nat := s.fget R.SLU_FS_STS_STATE

/-- WINDOW in 2^-16 ns. -/
def State.fsWindow (s : State) : Nat := s.fget R.SLU_FS_CTL_WINDOW * 65536

/-- The tracker's period: what SLU_FS_PERIOD holds (R138). -/
def State.fsPeriod (s : State) : Nat := (s.reg R.SLU_FS_PERIOD).toNat * 4096

/-- When the next edge is expected (R139). -/
def State.fsExpected (s : State) : Nat := s.fs.base.toNat + s.fsPeriod

def State.modFs (s : State) (f : FrameSync → FrameSync) : State := { s with fs := f s.fs }

/-- Do values agree within a window? -/
def agree (w : Nat) : List Int → Bool
  | [] => true
  | x :: xs => decide (xs.foldl max x - xs.foldl min x ≤ w)

/-- SLU_FS_PERIOD as the measured intervals give it (R138). -/
def State.showPeriod (s : State) : State :=
  let xs := s.fs.intervals
  s.setReg R.SLU_FS_PERIOD (BitVec.ofNat 32 (if xs.isEmpty then 0 else xs.foldl (· + ·) 0 / xs.length / 4096))

/-- Triggers that wait for edge `n` get their instants: arm slots (R143) and TIMED descriptors (R175). -/
def State.fixInstants (s : State) (n t : Nat) : State :=
  let s := allSlots.foldl (fun s x =>
    if s.waitingSlot x.1 x.2 && s.armKind x.1 x.2 == 1 && (s.instantOf x.1 x.2).isNone
        && (s.reg (R.SLU_ARM_W0 x.1 x.2)).toNat == n then s.setInstant x.1 x.2 (some (t + s.armOffset x.1 x.2))
    else s) s
  s.rings.foldl (fun s k => s.modRing (k.1 / 4) (k.1 % 4) fun r => { r with
    runs := r.runs.map fun d =>
      if d.opcode == opTIMED && d.instant.isNone && d.status.isNone && bits (dSrc d.raw) 31 0 == n then
        { d with instant := some (t + bits (dSrc d.raw) 61 32 * 65536 + bits (dOpx0 d.raw) 15 0) }
      else d }) s

/-- An edge counted at time `t`, real or flywheel (R138). -/
def State.countEdge (s : State) (real : Bool) (t : Nat) : State :=
  let n := (s.fget R.SLU_FS_COUNT_COUNT + 1) % 2 ^ 32
  let x := s.fs
  let measured := match x.last with
    | some l => if real && x.lastReal && !x.missed then [t - l.toNat] else []
    | none => []
  let s := s.modFs fun x => { x with
    intervals := (measured ++ x.intervals).take 16
    last := some (BitVec.ofNat 80 t), lastReal := real, missed := false, base := BitVec.ofNat 80 t
    strays := if real then [] else x.strays, quiet := if real then 0 else x.quiet }
  let s := (s.setReg R.SLU_FS_COUNT (BitVec.ofNat 32 n)).setPair R.SLU_FS_LAST_LO R.SLU_FS_LAST_HI (t / 65536)
  let s := (s.bump (if real then R.SLU_FS_EDGES else R.SLU_FS_FLYWHEEL)).showPeriod
  -- An instant that has passed when its edge is counted arrives with the count (R143).
  (s.fixInstants n t).fireDue

/-- A counted real edge is a reference event while SRC is FRAME (R134). -/
def State.frameRef (s : State) (t : Nat) : State :=
  if s.fget R.SLU_TB_CTL_SRC = srcFRAME then
    let origin : Int := s.pair R.SLU_FRAME_ORIGIN_LO R.SLU_FRAME_ORIGIN_HI * 65536
    s.discipline t (nearestInstant origin ((s.fget R.SLU_FRAME_PERIOD_PERIOD) * 4096) t)
  else s

/-- An active edge at time `t`: counted, or ignored as stray (R138, R139). -/
def State.frameEdge (s : State) (t : Nat) : State :=
  let st := s.fsState
  if st = fsNONE ∨ st = fsACQUIRING then
    -- Intervals are counted from the time the tracker leaves NONE (R138).
    let s := if st = fsNONE then s.modFs fun x => { x with intervals := [] } else s
    let s := (s.countEdge true t).fset R.SLU_FS_STS_STATE fsACQUIRING
    let eight := s.fs.intervals.take 8
    let s := if eight.length = 8 ∧ agree s.fsWindow (eight.map Int.ofNat) = true then s.fset R.SLU_FS_STS_STATE fsLOCKED else s
    s.frameRef t
  else
    let off : Int := (t : Int) - s.fsExpected
    if off.natAbs ≤ s.fsWindow then ((s.countEdge true t).fset R.SLU_FS_STS_STATE fsLOCKED).frameRef t
    else
      let s := (s.bump R.SLU_FS_STRAY).modFs fun x => { x with strays := (off :: x.strays).take 4 }
      if s.fs.strays.length = 4 ∧ agree s.fsWindow s.fs.strays = true then
        (((s.countEdge true t).fset R.SLU_FS_STS_STATE fsLOCKED).raise 0x150 3).frameRef t
      else s

/-- FRAME_SYNC_EDGE: an edge at the pin in this core cycle; only the direction that EDGE selects is active (R138). -/
def execFrameSyncEdge (falling : Bool) (s : State) : Out :=
  .next (if s.alive && falling == s.flag R.SLU_FS_CTL_EDGE then s.frameEdge s.time80 else s)

/-- What POLICY = CANCEL does at a missed edge (R139). -/
def State.missFrames (s : State) : State :=
  let s := allSlots.foldl (fun s x =>
    if s.waitingSlot x.1 x.2 && s.armKind x.1 x.2 == 1 && (s.instantOf x.1 x.2).isNone then
      s.fset (R.SLU_ARM_CTL_STATE x.1 x.2) asMISSED
    else s) s
  s.rings.foldl (fun s k =>
    match k.2.runs.find? fun d => d.opcode == opTIMED && d.current && d.status.isNone && d.instant.isNone with
    | some d => s.releaseTimed (k.1 / 4) (k.1 % 4) d.n false true
    | none => s) s

/-- FRAME_SYNC_MISSING: no edge by the expected time plus WINDOW (R139). -/
def execFrameSyncMissing (s : State) : Out :=
  let st := s.fsState
  let t := s.fsExpected
  if (st == fsLOCKED || st == fsFLYWHEEL) && decide (t + s.fsWindow < s.time80) then
    let policy := s.fget R.SLU_FS_CTL_POLICY
    let s := s.modFs fun x => { x with quiet := x.quiet + 1 }
    let s :=
      if policy = 1 then s.countEdge false t
      else
        let s := s.modFs fun x => { x with missed := true, base := BitVec.ofNat 80 t }
        if policy = 2 then s.missFrames else s
    .next ((s.fset R.SLU_FS_STS_STATE fsFLYWHEEL).raise 0x150 2)
  else .next s

/-- FRAME_SYNC_LOST: sixteen expected periods without an edge (R135, R139). -/
def execFrameSyncLost (s : State) : Out :=
  if 16 ≤ s.fs.quiet then
    let s := s.modFs fun x => { x with missed := true, strays := [], quiet := 0 }
    let s := s.fset R.SLU_FS_STS_STATE fsNONE
    .next (if s.fget R.SLU_TB_CTL_SRC = srcFRAME then s.setTbState tbHOLDOVER else s)
  else .next s

/-! ### Arming (R142, R145, R146) -/

/-- Cause for which an arm write is refused, in the order of R142. -/
def State.armCause (s : State) (g k : Nat) : Option Nat :=
  let m := s.mode
  if m = mLIMP ∨ m = mSAFE ∨ m = mDIAGNOSTIC then some 3
  else
    let late := if s.armKind g k = 0 then decide (s.armTime g k < s.time80 + 1000 * 65536)
      else
        let ahead := ((s.reg (R.SLU_ARM_W0 g k)).toNat + 2 ^ 32 - s.fget R.SLU_FS_COUNT_COUNT) % 2 ^ 32
        ahead == 0 || decide (2 ^ 31 ≤ ahead)
    if late then some 1
    else if (upTo 4).any fun j => j != k && s.waitingSlot g j && s.armKey g j == s.armKey g k then some 2
    else none

/-- A write of SLU_ARM_CTL (R142, R145); a cancel ignored on a slot that has fired is not counted (log entry 78). -/
def State.writeArmCtl (s : State) (g k v : Nat) : State :=
  if s.armState g k = asARMED then
    if bit v 1 then (if s.firing.contains (4 * g + k) then s else s.fset (R.SLU_ARM_CTL_STATE g k) asCANCELLED)
    else s.bump R.SLU_ARM_COLLIDE
  else
    let s := (s.fset (R.SLU_ARM_CTL_KIND g k) (bits v 2 2)).fset (R.SLU_ARM_CTL_BANK g k) (bits v 3 3)
    if !bit v 0 then s
    else match s.armCause g k with
      | some c =>
        (((s.fset (R.SLU_ARM_CTL_STATE g k) asREFUSED).fset (R.SLU_ARM_CTL_CAUSE g k) c).bump R.SLU_ARM_REFUSED).raise 0x150 1
      | none =>
        let s := (s.fset (R.SLU_ARM_CTL_STATE g k) asARMED).fset (R.SLU_ARM_CTL_CAUSE g k) 0
        s.setInstant g k (if s.armKind g k = 0 then some (s.armTime g k) else none)

/-- A write of W0, W1 or W2, which an ARMED slot holds (R142). -/
def State.writeArmWord (s : State) (g k w v : Nat) : State :=
  if s.armState g k = asARMED then s.bump R.SLU_ARM_COLLIDE
  else s.setReg (R.SLU_ARM_W0 g k + 4 * w) (BitVec.ofNat 32 (if w = 2 then v % 65536 else v))

/-- ARM: SLU_ARM_CTL written with ARM = 1 (R142). -/
def execArm (group slot kind : Nat) (bank : Bool) (s : State) : Out :=
  .next (s.writeArmCtl (group % 16) (slot % 4) (1 + kind % 2 * 4 + ofBool bank * 8))

/-- CANCEL: SLU_ARM_CTL written with CANCEL = 1, KIND and BANK as read (R145). -/
def execCancel (group slot : Nat) (s : State) : Out :=
  let g := group % 16
  let k := slot % 4
  .next (s.writeArmCtl g k (2 + s.armKind g k * 4 + s.fget (R.SLU_ARM_CTL_BANK g k) * 8))

/-- COMMIT_FIRE: a commit whose instant has arrived fires, and with it every other one of this core cycle, in every group
(R141, R143). -/
def execCommitFire (group slot : Nat) (s : State) : Out :=
  if (s.dueSlots (group % 16) s.time80).any fun x => x.2 == slot % 4 then .next s.fireDue else .next s

/-- Does a request stamped before the instant of a slot that fires still wait for its lookup (R55, R144)? -/
def State.lookupsLeft (s : State) (g k : Nat) : Bool :=
  let t := (s.instantOf g k).getD 0
  let era := match (storeGet [] s.gates g).find? fun c => c.instant == t with
    | some c => c.era
    | none => s.tb.era
  s.sw.waiting.any fun w => w.need == .reservation && w.frame.origin == .link && isPcie w.frame.ingress
    && (decide (w.frame.era < era) || (w.frame.era == era && decide (w.frame.stamp < t)))

/-- SLOT_FIRED: every frame stamped before the instant has been looked up, and the slot reads FIRED (R144). -/
def execSlotFired (group slot : Nat) (s : State) : Out :=
  let g := group % 16
  let k := slot % 4
  if s.firing.contains (4 * g + k) && !s.lookupsLeft g k then
    let s : State := { s with firing := s.firing.filter (· != 4 * g + k) }
    .next (((s.fset (R.SLU_ARM_CTL_STATE g k) asFIRED).setInstant g k none).raise 0x150 0)
  else .next s

/-- SLU_GATE_FORCE with GO = 1: lookups stamped in a later core cycle see the bank (R146). -/
def State.gateForce (s : State) (g : Nat) (bank : Bool) : State :=
  (s.pushFired g { instant := s.time80 + 1, bank := bank, era := s.tb.era }).bump R.SLU_FORCED

/-- GATE_FORCE (R146). -/
def execGateForce (group : Nat) (bank : Bool) (s : State) : Out := .next (s.gateForce (group % 16) bank)

/-! ### TSYNC (R256) -/

/-- Receive-path correction in 2^-16 ns. -/
def State.tsCorr (s : State) (f : Nat) : Int := signedOf 16 (s.fget (R.MFL_TSYNC_CORR_CORR f)) * 4096

/-- Whole nanoseconds of an arrival now on a link. -/
def State.tsArrival (s : State) (f : Nat) : Nat := (((s.time80 : Int) + s.tsCorr f) / 65536).toNat

/-- TSYNC_REQUEST_SEND: every PERIOD_US on the link that disciplines the time base; an exchange still open is lost
(R256). -/
def execTsyncRequestSend (link : Nat) (s : State) : Out :=
  let f := link % 8
  let uses := s.fget R.SLU_TB_CTL_SRC == srcFABRIC && s.refLink.any fun x => x.1 == f
  if uses && s.linkUp f && decide ((s.link f).tsAt + s.fget (R.MFL_TSYNC_CTL_PERIOD_US f) * cyclesPerUs ≤ s.now) then
    let s := if (s.link f).ts1.isSome then s.bump (R.MFL_TSYNC_DISCARD f) else s
    let s := s.modLink f fun l => { l with tsN := (l.tsN + 1) % 64, tsAt := s.now, ts1 := some s.ns, ts24 := none }
    .next (s.sendCtl f (ctlTsync 0 (s.link f).tsN s.ns))
  else .next s

/-- A REQ answered: RSP with t2 and FUP with t3, each 48 bits; the answer holds both. -/
def State.tsyncReq (s : State) (f exchange : Nat) : State :=
  if s.linkUp f then
    let t2 := s.tsArrival f
    let s := (s.sendCtl f (ctlTsync 1 exchange t2)).sendCtl f (ctlTsync 2 exchange s.ns)
    { s with answer := .words [BitVec.ofNat 32 t2, BitVec.ofNat 32 (t2 / 2 ^ 32 % 2 ^ 16), BitVec.ofNat 32 s.ns,
      BitVec.ofNat 32 (s.ns / 2 ^ 32 % 2 ^ 16)] }
  else s

/-- TSYNC_REQ_RECEIVE (R256). -/
def execTsyncReqReceive (req : TsyncReq) (s : State) : Out := .next (s.tsyncReq (req.link % 8) (req.exchange % 64))

/-- A 48-bit time widened with the receiver's own upper bits (R256). -/
def State.widen (s : State) (t : Nat) : Nat := s.ns / 2 ^ 48 * 2 ^ 48 + t % 2 ^ 48

/-- The RSP of the open exchange: its t2 is kept until the FUP comes. -/
def State.tsyncRsp (s : State) (f exchange t2 : Nat) : State :=
  if s.linkUp f && (s.link f).ts1.isSome && exchange == (s.link f).tsN then
    s.modLink f fun l => { l with ts24 := some (t2, exchange) }
  else s

/-- The FUP of the open exchange ends it: offset and delay, or its discard, without its RSP too; it feeds discipline
(R134, R256). t4 is the FUP's arrival, t3 its sending. A FUP of an exchange given up earlier is nothing to the open one. -/
def State.tsyncFup (s : State) (f exchange t3 : Nat) : State :=
  match (s.link f).ts1 with
  | none => s
  | some t1 =>
    if !s.linkUp f || exchange != (s.link f).tsN then s
    else
      let rsp := (s.link f).ts24
      let s := s.modLink f fun l => { l with ts1 := none, ts24 := none }
      match rsp with
      | none => s.bump (R.MFL_TSYNC_DISCARD f)
      | some (t2, _) =>
        let t4 := s.tsArrival f
        let a : Int := (s.widen t2 : Int) - t1
        let b : Int := (t4 : Int) - s.widen t3
        if 2 * ((s.fget ⟨R.MFL_RTT f, 15, 0⟩ : Int) + 8) < a + b then s.bump (R.MFL_TSYNC_DISCARD f)
        else
          let s := s.fset (R.MFL_TSYNC_STS_OFFSET f) (satSigned 16 ((a - b).tdiv 2))
          let s := s.fset (R.MFL_TSYNC_STS_DELAY f) (min ((a + b) / 2).toNat 65535)
          if s.fget R.SLU_TB_CTL_SRC = srcFABRIC ∧ s.refLink.any (fun x => x.1 == f) = true then
            s.discipline (t4 * 65536) (t4 * 65536 + (a - b) * 32768)
          else s

/-- TSYNC_FUP_RECEIVE: RSP with t2 and FUP with t3 of an exchange have come (R256). -/
def execTsyncFupReceive (link exchange t2 t3 : Nat) (s : State) : Out :=
  .next ((s.tsyncRsp (link % 8) (exchange % 64) t2).tsyncFup (link % 8) (exchange % 64) t3)

end Sys2Proof.Machine
end

