-- ==== Sys2Proof/Machine/Telemetry.lean ====
section
/-! DEFINITION. Telemetry commands (R394 to R399): level samples, snapshots and configuration of the histogram units,
and the samplers' captures. Counting itself stands with the operations that cause it. -/

namespace Sys2Proof.Machine

/-! ### Histogram units (R394 to R396) -/

/-- Pool number k of BUF_POOL_USED. -/
def poolOf : Nat → Pool
  | 0 => .ordered
  | 1 => .live
  | 2 => .completion
  | 3 => .management
  | _ => .ledger

/-- The value of a unit's level source, none for an event source (R394). -/
def State.level (s : State) (u : Nat) : Option Nat :=
  let p := s.fget (R.TEL_HIST_CFG_PORT u)
  match s.fget (R.TEL_HIST_CFG_SOURCE u) with
  | 4 => some (s.queuedCells p)
  | 5 => some (s.weirHeld p)
  | 6 => if p % 8 < 5 then some (s.poolUsed (poolOf (p % 8))) else some 0
  | _ => none

/-- HIST_LEVEL_SAMPLE: a level unit records once its period has passed (R394). -/
def execHistLevelSample (unit' : Nat) (s : State) : Out :=
  let u := unit' % 16
  let due := decide (storeGet 0 s.govAt (16 + u) + cyclesOfNs (s.fget R.TEL_HIST_PERIOD_NS) ≤ s.now)
  match s.level u with
  | none => .next s
  | some v =>
    if !due || s.mode == mLIMP || !s.alive then .next s
    else
      let s : State := { s with govAt := storePut 0 (16 + u) s.now s.govAt }
      .next (s.histRecord u v)

/-- A unit cleared (R396). -/
def State.histClear (s : State) (u : Nat) : State :=
  let s := (upTo 32).foldl (fun s i => s.setTbl 0x42 0 (32 * u + i) 0) s
  s.setTbl 0x42 2 u 0xFFFFFFFFFFFFFFFF

/-- A write of TEL_HIST_SNAP (R396). -/
def State.histSnap (s : State) (units : Nat) (clear : Bool) : State :=
  (upTo 16).foldl (fun s u =>
    if bit units u then
      let s := (upTo 32).foldl (fun s i => s.setTbl 0x42 1 (32 * u + i) (s.tbl 0x42 0 (32 * u + i))) s
      let s := s.setTbl 0x42 3 u (s.tbl 0x42 2 u)
      if clear then s.histClear u else s
    else s) s

/-- HIST_SNAPSHOT (R396). -/
def execHistSnapshot (units : Nat) (clear : Bool) (s : State) : Out := .next (s.histSnap units clear)

/-- A write of CFG or BASE of a unit, which clears it; BASE = 0 with LOG = 1 is stored as 1 (R395, R396). -/
def State.histConfig (s : State) (u : Nat) (base : Bool) (v : Nat) : State :=
  let s :=
    if base then s.setReg (R.TEL_HIST_BASE u) (BitVec.ofNat 32 v)
    else
      let s := s.fset (R.TEL_HIST_CFG_SOURCE u) (min (bits v 4 0) 8)
      let s := (s.fset (R.TEL_HIST_CFG_PORT u) (bits v 14 8)).fset (R.TEL_HIST_CFG_CLASS u) (min (bits v 17 16) 2)
      (s.fset (R.TEL_HIST_CFG_LOG u) (bits v 18 18)).fset (R.TEL_HIST_CFG_WSHIFT u) (bits v 28 24)
  let s := if s.flag (R.TEL_HIST_CFG_LOG u) && s.reg (R.TEL_HIST_BASE u) == 0 then s.setReg (R.TEL_HIST_BASE u) 1 else s
  s.histClear u

/-- HIST_CONFIG_WRITE (R396). -/
def execHistConfigWrite (unit' : Nat) (base : Bool) (value : W32) (s : State) : Out :=
  .next (s.histConfig (unit' % 16) base value.toNat)

/-! ### Samplers (R397 to R399) -/

def State.sampler (s : State) (k : Nat) : Sampler := storeGet {} s.samplers k

def State.modSampler (s : State) (k : Nat) (f : Sampler → Sampler) : State :=
  { s with samplers := storePut {} k (f (s.sampler k)) s.samplers }

/-- SAMPLER_CAPTURE: the counting stage holds the causing frame, has moved on to another frame of the buffer, or holds
none (R398). The oldest capture due is made. -/
def execSamplerCapture (sampler : Nat) (moved : Bool) (other : Nat) (s : State) : Out :=
  let k := sampler % 4
  match (s.sampler k).due with
  | [] => .next s
  | d :: ds =>
    let held := if moved then s.frame? other else d.cause
    let exact' := !moved && d.cause.isSome
    let seq := (s.sampler k).seq
    let e := s.ns + d.event * 2 ^ 64 + ofBool exact' * 2 ^ 70 + min (s.now - d.since') 8 * 2 ^ 72 + k * 2 ^ 76
      + d.port * 2 ^ 80 + (match held with
        | some f => 2 ^ 78 + f.ingress * 2 ^ 88 + f.window * 2 ^ 96
          + (if f.tlp.isCpl then 0 else f.tlp.addr.toNat) * 2 ^ 128 + f.furrow.toNat * 2 ^ 224
        | none => 0) + seq % 2 ^ 32 * 2 ^ 192
    let n := s.fget ⟨R.TEL_SMP_STS, 7, 0⟩
    let s := (s.setTbl 0x43 0 n (BitVec.ofNat 256 e)).fset ⟨R.TEL_SMP_STS, 7, 0⟩ ((n + 1) % 256)
    .next ((s.modSampler k fun x => { x with due := ds, seq := seq + 1 }).raise 0x43 0)

/-- A write of TEL_SMP_N, which restarts the count (R397). -/
def State.samplerN (s : State) (k n : Nat) : State :=
  (s.fset (R.TEL_SMP_N_N k) (max 1 (n % 2 ^ 24))).modSampler k fun x => { x with count := 0 }

/-- SAMPLER_N_WRITE (R397). -/
def execSamplerNWrite (sampler n : Nat) (s : State) : Out := .next (s.samplerN (sampler % 4) n)

/-- A write of TEL_SMP_CTL: events 15 and 16 cannot be sampled (R397). -/
def State.samplerCtl (s : State) (k v : Nat) : State :=
  let ev := bits v 5 0
  let s := (s.fset (R.TEL_SMP_CTL_EVENT k) ev).fset (R.TEL_SMP_CTL_PORT k) (bits v 14 8)
  s.fset (R.TEL_SMP_CTL_EN k) (if ev = 15 ∨ ev = 16 then 0 else bits v 16 16)

end Sys2Proof.Machine
end

