-- ==== Sys2Proof/Machine/Complex.lean ====
section
/-! DEFINITION. The management complex (R312 to R334): core pairs and failover, the boot ROM's loads, firmware restarts
and UPDATE mode, the watchdog, the machine timer, host commands, and the sample queue with its governor. -/

namespace Sys2Proof.Machine

/-! ### Core pairs (R312 to R314) -/

abbrev pcLOCKSTEP : Nat := 1
abbrev pcWDOG : Nat := 2
abbrev pcSWAP : Nat := 3
abbrev pcNO_STANDBY : Nat := 4

def pairFld (p : Nat) : Fld := if p = 0 then R.MGT_PAIR_STS_A_STATE else R.MGT_PAIR_STS_B_STATE

/-- State of a pair: 0 ACTIVE, 1 STANDBY, 2 TESTING, 3 FAILED. -/
def State.pairState (s : State) (p : Nat) : Nat := s.fget (pairFld p)

/-- The active pair. -/
def State.activePair (s : State) : Nat := if s.pairState 0 = 0 then 0 else 1

def State.lost (s : State) : Bool := s.flag R.MGT_PAIR_STS_LOST

/-- An update or a firmware restart is BUSY (R330, R331). -/
def State.updating (s : State) : Bool := s.fget R.MGT_UPDATE_STS_RESULT == 1

/-- A warm reset of the pair: accesses not performed are discarded; stores in the buffer drain for 2 µs more (R343);
what is left then goes at `storesExpire`. LOCK of the pair's MPU regions clears (R319). -/
def State.warmReset (s : State) (pair : Nat) : State :=
  let s : State := { s with mgt := { s.mgt with
    ops := [], resv := none, loop := none, trap := none, entry := 0, startAt := none
    drain := if s.mgt.sb.isEmpty then none else some ((s.mgt.drain.map (·.1)).getD (s.now + 2 * cyclesPerUs), s.mgt.nextOp) } }
  (upTo 32).foldl (fun s r => s.fset (R.MGT_MPU_CFG_LOCK pair r) 0) s

/-- Buffered stores of before a warm reset that are left after 2 µs are discarded and counted (R343). -/
def State.storesExpire (s : State) : State :=
  match s.mgt.drain with
  | none => s
  | some (t, bound) =>
    let left := s.mgt.sb.filter fun e => decide (e.id < bound)
    if s.now < t ∧ left ≠ [] then s
    else
      let s : State := { s with mgt := { s.mgt with drain := none, sb := s.mgt.sb.filter fun e => decide (bound ≤ e.id) } }
      s.bumpBy R.MGT_RST_DISCARD left.length

/-- The management complex stops (R314). -/
def State.mgtLost (s : State) : State :=
  if s.lost then s
  else
    let s : State := { s with mgt := { s.mgt with booting := false, ops := [] } }
    ((s.fset R.MGT_PAIR_STS_LOST 1).record 0x0205 lvNOTICE none 0x7F 0).alert

/-- The boot ROM reloads the running slot as a firmware restart (R331). -/
def State.firmwareRestart (s : State) : State :=
  let m := s.mode
  if m = mRESET ∨ m = mSTANDBY then s
  -- The boot ROM resumes its SAFE reporting and loads nothing.
  else if m = mSAFE then s.fset R.DEV_MODE_STS_FW_RUNNING 0
  else if s.updating then
    let s : State := { s with mgt := { s.mgt with booting := true } }
    if m = mLIMP then s.fset R.DEV_MODE_STS_FW_RUNNING 0 else s
  else
    let s : State := { s with mgt := { s.mgt with
      booting := true, bootSlot := some (s.fget R.MGT_FW_STS_SLOT), updateAt := s.now, restart := true, warned := false } }
    let s := (s.fset R.MGT_UPDATE_STS_RESULT 1).fset R.MGT_UPDATE_STS_CAUSE 0
    let s := (s.fset R.MGT_UPDATE_STS_PRIOR m).fset R.MGT_UPDATE_STS_ELAPSED 0
    if mSTANDALONE ≤ m ∧ m ≤ mFABRIC then s.enterMode mUPDATE
    else if m = mLIMP then s.fset R.DEV_MODE_STS_FW_RUNNING 0
    else s

/-- MGT_FAILOVER_VEC. -/
def State.failoverVec (s : State) : Nat := s.pair R.MGT_FAILOVER_VEC_LO R.MGT_FAILOVER_VEC_HI

/-- Error code of a failover's cause (R334). -/
def failoverCode (cause : Nat) : Nat := if cause = pcLOCKSTEP then 0x0200 else if cause = pcWDOG then 0x0201 else 0x0202

/-- Is a failover under way: its new pair has not executed its first instruction, 10 µs after the trigger at the latest
(R313)? -/
def State.failing (s : State) : Bool := s.mgt.startAt.any fun t => decide (s.now < t + 10 * cyclesPerUs)

/-- A failover trigger that joins one of the same core cycle: the cause is the first of LOCKSTEP, WDOG and SWAP (R313). -/
def State.joinTrigger (s : State) (t : Trigger) (cause : Nat) : State :=
  if cause = pcSWAP ∧ t.found = false then s.bump R.MGT_SWAP_REFUSED
  else if t.cause ≤ cause then s
  else
    let s : State := { s with mgt := { s.mgt with trig := some { t with cause } } }
    if t.found then s.fset R.MGT_PAIR_STS_CAUSE cause else s

/-- The error record of a core cycle's failover, written when the cycle ends (R313, R314, R334). -/
def State.failoverRecord (s : State) : State :=
  match s.mgt.trig with
  | none => s
  | some t =>
    let s : State := { s with mgt := { s.mgt with trig := none } }
    if t.found then s.record (failoverCode t.cause) lvNOTICE none 0x7F t.pair else s.record 0x0204 lvNOTICE none 0x7F t.cause

/-- A failover trigger (R313, R314). The other triggers of its core cycle join it. -/
def State.failover (s : State) (cause : Nat) : State :=
  let a := s.activePair
  let b := 1 - a
  match s.mgt.trig with
  | some t => s.joinTrigger t cause
  | none =>
  if s.failing || !s.alive then s
  else if s.lost then (if cause = pcSWAP ∧ s.pairState b ≠ 1 then s.bump R.MGT_SWAP_REFUSED else s)
  else if s.pairState b = 1 then
    let s := (s.warmReset a).fset (pairFld a) 2
    let s := (s.fset (pairFld b) 0).fset R.MGT_PAIR_STS_CAUSE cause
    let s : State := { s with mgt := { s.mgt with
      kickAt := s.now, warned := false, entry := s.failoverVec, startAt := some s.now, trig := some ⟨cause, a, true⟩ } }
    let s := (s.bump R.MGT_FAILOVERS).raise 0x0C 0
    -- During an update its step 2 runs again on the new pair (R330); a pair that starts in boot ROM reloads firmware.
    if s.updating || s.failoverVec == 0 then s.firmwareRestart else s
  else if cause = pcSWAP then s.bump R.MGT_SWAP_REFUSED
  else
    let s := (s.warmReset a).fset R.MGT_PAIR_STS_CAUSE pcNO_STANDBY
    let s : State := { s with mgt := { s.mgt with kickAt := s.now, warned := false, trig := some ⟨cause, a, false⟩ } }
    s.firmwareRestart

/-- LOCKSTEP_MISMATCH (R313). -/
def execLockstepMismatch (s : State) : Out := .next (s.failover pcLOCKSTEP)

/-- MGT_PAIR_SWAP: GO written (R313). -/
def execMgtPairSwap (s : State) : Out := .next (s.failover pcSWAP)

/-- A pair's self-test has failed (R334, R426). -/
def State.pairFails (s : State) (p : Nat) : State :=
  let s := (s.fset (pairFld p) 3).record 0x0203 lvNOTICE none 0x7F p
  (s.selftestFail 4 false).raise 0x0C 1

/-- PAIR_SELFTEST_DONE: a stopped pair reads STANDBY or FAILED (R313). -/
def execPairSelftestDone (pair : Nat) (pass : Bool) (s : State) : Out :=
  let p := pair % 2
  if s.pairState p != 2 then .next s
  else if pass then .next ((s.fset (pairFld p) 1).raise 0x0C 1)
  else
    let s := s.pairFails p
    .next (if s.pairState 0 = 3 ∧ s.pairState 1 = 3 then s.mgtLost else s)

/-! ### The boot ROM's loads (R329, R330, R411) -/

abbrev slotAddr (k : Nat) : Nat := if k = 0 then 0x50010000 else 0x50410000

/-- A copy of the boot table: MAGIC and CHECK valid, SEQ, FW_SLOT, CFG_SLOT (R410). -/
def State.bootTable (s : State) (k : Nat) : Option (Nat × Nat × Nat) :=
  let bs := s.memBytes (0x50000000 + 0x1000 * k) 4096
  if hdr bs 0 4 = 0x54424D43 ∧ BitVec.ofNat 32 (hdr bs 0xFFC 4) = crc32c (bs.take 0xFFC) then
    some (hdr bs 4 4, hdr bs 8 1, hdr bs 9 1)
  else none

/-- The firmware slot that two copies of the boot table name: the later SEQ of two valid ones, slot A with none (R411,
R466). -/
def slotNamed : Option (Nat × Nat × Nat) → Option (Nat × Nat × Nat) → Nat
  | some a, some b => if (b.1 + 2 ^ 32 - a.1) % 2 ^ 32 < 2 ^ 31 then b.2.1 % 2 else a.2.1 % 2
  | some a, none => a.2.1 % 2
  | none, some b => b.2.1 % 2
  | none, none => 0

def State.tableSlot (s : State) : Nat := slotNamed (s.bootTable 0) (s.bootTable 1)

/-- A verified image enters service: SRAM, M1, version, FW_RUNNING (R317, R330, R412). -/
def State.bootImage (s : State) (slot : Nat) (fallback : Bool) (img : List Byte × List Byte × List Byte) : State :=
  let s := (s.sramPut 0 img.2.1).extend 1 (Config.shake256 (img.1 ++ img.2.1) 32)
  let s := (s.fset R.MGT_FW_STS_SLOT slot).fset R.MGT_FW_STS_FALLBACK (ofBool fallback)
  let s := (s.fset R.MGT_FW_STS_MINOR (hdr img.1 8 1)).fset R.MGT_FW_STS_MAJOR (hdr img.1 9 1)
  let s : State := { s with mgt := { s.mgt with booting := false, kickAt := s.now, warned := false } }
  s.fset R.DEV_MODE_STS_FW_RUNNING 1

/-- Load and verification of one slot. -/
def State.trySlot (s : State) (slot : Nat) : Option (List Byte × List Byte × List Byte) × State :=
  let img := s.imageAt (slotAddr slot) 1
  let r := s.verifyImage s.policy 1 img
  (if r.1.isNone then some img else none, r.2)

/-- BOOT_LOAD_DONE: the boot ROM has loaded and verified a slot, or the other one (R329, R330). At start-up none of them
verifying is a fatal failure too (R426); the complex is lost either way (R314). -/
def execBootLoadDone (s : State) : Out :=
  let strap := s.fget R.DEV_STRAP_MODE
  if !s.mgt.booting || !s.alive || s.mode == mSAFE || s.lost then .next s
  else match s.mgt.bootSlot with
    | none =>
      if strap = 1 then .next s
      else
        let first := if strap = 3 then 1 else s.tableSlot
        match s.trySlot first with
        | (some img, s) => .next (s.bootImage first false img)
        | (none, s) => match s.trySlot (1 - first) with
          | (some img, s) => .next (s.bootImage (1 - first) true img)
          | (none, s) => .next ((({ s with mgt := { s.mgt with booting := false } } : State).selftestFail 0x0E true).mgtLost)
    | some slot =>
      match s.trySlot slot with
      | (some img, s) => .next (s.bootImage slot false img)
      | (none, s) =>
        let running := s.fget R.MGT_FW_STS_SLOT
        match s.trySlot running with
        | (some img, s) => .next ((s.bootImage running true img).record 0x0208 lvNOTICE none 0x7F slot)
        | (none, s) => .next s.mgtLost

/-! ### UPDATE (R330 to R332) -/

/-- A refused MGT_UPDATE_CTL: causes 1 MODE, 2 BUSY; a running update keeps its RESULT (log entry 32). -/
def State.updateRefused (s : State) (cause : Nat) : State :=
  let s := if cause = 2 ∧ s.updating = true then s else s.fset R.MGT_UPDATE_STS_RESULT 3
  (s.fset R.MGT_UPDATE_STS_CAUSE cause).raise 0x0C 5

/-- GO with SLOT (R330). -/
def State.updateStart (s : State) (slot : Nat) : State :=
  let m := s.mode
  if s.updating || s.failing then s.updateRefused 2
  else if m < mSTANDALONE ∨ mFABRIC < m then s.updateRefused 1
  else
    let s := s.warmReset s.activePair
    let s : State := { s with mgt := { s.mgt with
      booting := true, bootSlot := some slot, updateAt := s.now, restart := false, warned := false } }
    let s := (s.fset R.MGT_UPDATE_STS_RESULT 1).fset R.MGT_UPDATE_STS_CAUSE 0
    let s := (s.fset R.MGT_UPDATE_STS_PRIOR m).fset R.MGT_UPDATE_STS_ELAPSED 0
    s.enterMode mUPDATE

/-- FIRMWARE_UPDATE (R330). -/
def execFirmwareUpdate (slot : Nat) (s : State) : Out := .next (s.updateStart (slot % 2))

/-- An update or restart ends: the watchdog resumes with a full period, and the mode returns to the one left; in ISOLATE,
and while it is being entered, its exit will return there (R330, R332). -/
def State.updateEnds (s : State) (result cause event : Nat) : State :=
  let prior := s.fget R.MGT_UPDATE_STS_PRIOR
  let s := (s.fset R.MGT_UPDATE_STS_RESULT result).fset R.MGT_UPDATE_STS_CAUSE cause
  let s := s.fset R.MGT_UPDATE_STS_ELAPSED ((s.now - s.mgt.updateAt) / cyclesPerMs)
  let s : State := { s with mgt := { s.mgt with kickAt := s.now, warned := false, restart := false } }
  let s := s.raise 0x0C event
  let back := decide (s.mode = mISOLATE) || s.fget R.ERR_ISO_STS_STATE == isoENTERING
  let s := if back && s.fget R.ERR_ISO_STS_PRIOR == mUPDATE then s.fset R.ERR_ISO_STS_PRIOR prior else s
  if s.mode = mUPDATE then s.returnTo prior else s

/-- DONE written: ignored while nothing is BUSY (R330). -/
def State.updateDone (s : State) : State := if s.updating then s.updateEnds 2 0 4 else s

/-- UPDATE_DONE (R330). -/
def execUpdateDone (s : State) : Out := .next s.updateDone

/-- UPDATE_LATE: 500 ms after GO without DONE (R330). -/
def execUpdateLate (s : State) : Out :=
  if s.updating && decide (s.mgt.updateAt + 500 * cyclesPerMs ≤ s.now) then
    let slot := s.mgt.bootSlot.getD 0
    .next ((s.record 0x0209 lvNOTICE none 0x7F slot).updateEnds 3 3 5)
  else .next s

/-! ### The watchdog (R327) -/

/-- The watchdog runs: enabled, firmware running, no update or restart BUSY (R327, R331; log entry 36). -/
def State.watched (s : State) : Bool :=
  s.flag R.MGT_WDOG_EN && s.flag R.DEV_MODE_STS_FW_RUNNING && !s.updating && !s.lost && s.alive

/-- Half the period has passed without a kick: WDOG_WARN's level (R320, R327). -/
def State.wdogWarned (s : State) : Bool :=
  s.watched && decide (2 * s.mgt.kickAt + s.fget R.MGT_WDOG_PERIOD_MS * cyclesPerMs ≤ 2 * s.now)

/-- The whole period has passed without a kick (R327). -/
def State.wdogDue (s : State) : Bool :=
  s.watched && decide (s.mgt.kickAt + s.fget R.MGT_WDOG_PERIOD_MS * cyclesPerMs ≤ s.now)

/-- MGT_WDOG_KICK.KICK written 1. An expiry that is due is applied, and the kick ignored (R327). -/
def State.wdogKick (s : State) : State :=
  if s.wdogDue then s
  else if s.flag R.MGT_WDOG_EN then { s with mgt := { s.mgt with kickAt := s.now, warned := false } } else s

/-- WDOG_KICK (R327). -/
def execWdogKick (s : State) : Out := .next s.wdogKick

/-- WDOG_WARN: half the period without a kick (R327). -/
def execWdogWarn (s : State) : Out :=
  if s.wdogWarned && !s.mgt.warned then
    .next (({ s with mgt := { s.mgt with warned := true } } : State).raise 0x0C 2)
  else .next s

/-- WDOG_EXPIRE: the whole period without a kick (R327). -/
def execWdogExpire (s : State) : Out :=
  if s.wdogDue then
    .next ((s.bump R.MGT_WDOG_EXPIRE).failover pcWDOG)
  else .next s

/-! ### Interrupts of the active pair (R320, R321) -/

/-- MGT_IRQ_PEND: bit l is the OR of the page interrupts routed with MGT = 1 and MGT_LINE = l (R306, R320). -/
def State.irqPend (s : State) : Nat :=
  (s.eventPages.filter fun pg => s.pageIrq pg && s.tget 0x50 1 pg 40 40 == 1).foldl
    (fun m pg => m ||| 2 ^ s.tget 0x50 1 pg 46 41) 0

/-- MGT_IRQ_INT_STS: MBX, HCMD, SQ, WDOG_WARN. -/
def State.irqInt (s : State) : Nat :=
  ofBool ((upTo 32).any fun p => s.fget (R.MGT_MBX_STS_COUNT p) != 0) + ofBool (s.reg R.MGT_HCMD_PEND != 0) * 2
    + ofBool (s.fget R.MGT_SQ_STS_COUNT != 0) * 4 + ofBool s.wdogWarned * 8

/-- The machine external interrupt of the active pair (R320). -/
def State.externalIrq (s : State) : Bool :=
  s.irqPend &&& s.pair R.MGT_IRQ_EN_LO R.MGT_IRQ_EN_HI != 0 || s.irqInt &&& s.fget R.MGT_IRQ_INT_EN_EN != 0

/-- The machine timer interrupt's level: MGT_MTIME ≥ MGT_TIMECMP (R321). -/
def State.timerLevel (s : State) : Bool := decide (s.pair R.MGT_TIMECMP_LO R.MGT_TIMECMP_HI ≤ s.mtime)

/-- The machine timer interrupt as the pair sees it. -/
def State.timerShow (s : State) : State := { s with mgt := { s.mgt with timer := s.timerLevel } }

/-- MACHINE_TIMER (R321). -/
def execMachineTimer (s : State) : Out := .next s.timerShow

/-! ### Host commands (R323) -/

/-- A doorbell: the pending bit, or a merge. -/
def State.hcmdDoorbell (s : State) (p : Nat) : State :=
  let s : State := { s with mgt := { s.mgt with bells := storePut 0 p (s.now + 1) s.mgt.bells } }
  if bit (s.reg R.MGT_HCMD_PEND).toNat p then s.bump R.MGT_HCMD_MERGED
  else s.setReg R.MGT_HCMD_PEND (s.reg R.MGT_HCMD_PEND ||| (1 <<< p))

/-- HCMD_DOORBELL (R323). -/
def execHcmdDoorbell (part : Nat) (s : State) : Out := .next (s.hcmdDoorbell (part % 32))

/-- MGT_HCMD_TAKE: the pending bit is cleared, but for a doorbell of the same core cycle. -/
def State.hcmdTake (s : State) (p : Nat) : State :=
  if storeGet 0 s.mgt.bells p = s.now + 1 then s
  else s.setReg R.MGT_HCMD_PEND (s.reg R.MGT_HCMD_PEND &&& ~~~ ((1 : W32) <<< p))

/-- HCMD_TAKE (R323). -/
def execHcmdTake (part : Nat) (s : State) : Out := .next (s.hcmdTake (part % 32))

/-- GET_FW_INFO: MGT_FW_STS, then MINOR and MAJOR of slots A and B as their headers hold them, from byte 64 of the block;
STATUS last (R323; the layout of the body is log entry 37). -/
def execGetFwInfo (part vec : Nat) (irq : Bool) (s : State) : Out :=
  let p := part % 32
  let ver (k : Nat) : List Byte := s.memBytes (slotAddr k + 8) 2
  let s := s.hostWrite p (s.hcmdBlock p + 64) (leBytes 4 (s.reg R.MGT_FW_STS).toNat ++ ver 0 ++ ver 1)
  .next (s.hcmdStatus p 1 vec irq)

/-! ### The sample queue (R325, R326) -/

/-- MGT_SQ_HEAD written: entries below it are freed, and a head beyond the tail stores the tail (R325). -/
def State.sqHead (s : State) (h : Nat) : State :=
  let n := s.fget R.MGT_SQ_STS_COUNT
  let old := s.fget R.MGT_SQ_STS_HEAD
  let d := min ((h % 4096 + 4096 - old) % 4096) n
  let new := (old + d) % 4096
  ((s.fset R.MGT_SQ_STS_HEAD new).fset R.MGT_SQ_STS_COUNT (n - d)).fset R.MGT_SQ_HEAD_HEAD new

/-- SQ_HEAD_WRITE (R325). -/
def execSqHeadWrite (head : Nat) (s : State) : Out := .next (s.sqHead head)

/-- N of a session set: its count starts again (R118, R326). -/
def State.setN (s : State) (k n : Nat) : State :=
  (s.setReg (R.MCM_SAMPLE_N k) (BitVec.ofNat 32 n)).modSession k fun x => { x with count := 0 }

/-- The sample-rate governor changes a session's N; a change is logged (R326). -/
def State.govN (s : State) (k n c action : Nat) : State :=
  let old := s.fget (R.MCM_SAMPLE_N_N k)
  -- Every write restarts the session's count, one of the same value too.
  if n = old then s.setN k n else ((s.setN k n).govLog gSAMPLE action k old n c).raise 0x0F 1

/-- One governed session at an evaluation. -/
def State.govSession (s : State) (c k : Nat) : State :=
  if !bit (s.fget R.MGT_SQ_GOV_SESSIONS) k || s.fget (R.MCM_MODE_MODE k) != 2 then s
  else
    let hyst := s.fget R.MGT_SQ_GOV_HYST
    let s := if hyst ≤ s.mgt.hi then
        s.govN k (max (s.fget R.MGT_SQ_NMIN_N) (min (2 * s.fget (R.MCM_SAMPLE_N_N k)) (s.fget R.MGT_SQ_NMAX_N))) c aRAISE
      else s
    if hyst ≤ s.mgt.lo then s.govN k (min (s.fget R.MGT_SQ_NMAX_N) (max (s.fget (R.MCM_SAMPLE_N_N k) / 2) (s.fget R.MGT_SQ_NMIN_N))) c aLOWER else s

/-- The governor's evaluation (R326). -/
def State.sampleGov (s : State) : State :=
  let c := s.fget R.MGT_SQ_STS_COUNT
  let hi := if 3072 < c then s.mgt.hi + 1 else 0
  let lo := if c < 1024 then s.mgt.lo + 1 else 0
  let s : State := { s with mgt := { s.mgt with hi := hi, lo := lo } }
  let s := (upTo 4).foldl (fun s k => s.govSession c k) s
  let hyst := s.fget R.MGT_SQ_GOV_HYST
  { s with mgt := { s.mgt with hi := if hyst ≤ hi then 0 else hi, lo := if hyst ≤ lo then 0 else lo } }

/-- SAMPLE_GOV_TICK: PERIOD_MS after the last evaluation (R326). -/
def execSampleGovTick (s : State) : Out :=
  let due := decide (storeGet 0 s.govAt gSAMPLE + s.fget R.MGT_SQ_GOV_PERIOD_MS * cyclesPerMs ≤ s.now)
  if s.flag R.MGT_SQ_GOV_EN && due && s.alive then
    .next (({ s with govAt := storePut 0 gSAMPLE s.now s.govAt } : State).sampleGov)
  else .next s

end Sys2Proof.Machine
end

