-- ==== Sys2Proof/Machine/Buffer.lean ====
section
/-! DEFINITION. The shared buffer's own commands (chapter 3): banks, pools, the weir governor, ageing, the ledger writer,
the port flush, underruns and late errors. -/

namespace Sys2Proof.Machine

/-! ### Banks (R87, R88) -/

abbrev bkACTIVE : Nat := 0
abbrev bkSPARE : Nat := 1
abbrev bkDRAINING : Nat := 2
abbrev bkRETIRED : Nat := 3
abbrev bkFAILED : Nat := 4

/-- BUF_BANK_STS of a physical bank, and its logical bank. -/
def bankFld (j : Nat) : Fld := ⟨0x111020 + 4 * j, 2, 0⟩
def bankLogical (j : Nat) : Fld := ⟨0x111020 + 4 * j, 12, 8⟩

/-- A spare bank, if one is left. -/
def State.spareBank (s : State) : Option Nat := (upTo 17).find? fun j => s.fget (bankFld j) == bkSPARE

/-- The ordered pool that so many banks in service leave, from the written pool sizes (R53). -/
def State.ordWith (s : State) (banks : Nat) : Int :=
  (16384 * banks : Int) - 1536 - s.fget R.BUF_CPL_POOL_CELLS - s.fget R.BUF_LIVE_POOL_CELLS

/-- Physical banks ACTIVE. -/
def State.banksActive (s : State) : Nat := ((upTo 17).filter fun j => s.fget (bankFld j) == bkACTIVE).length

/-- A retirement requested by software or by AUTO (R87, R88); one refused while another is BUSY leaves RESULT and BANK (log
entry 32). The pools are judged by their written sizes in LIMP too (log entry 114). -/
def State.bankRetire (s : State) (j : Nat) : State :=
  let st := s.fget (bankFld j)
  let spare := s.spareBank
  if 16 < j ∨ st ≠ bkACTIVE ∨ s.fget R.BUF_BANK_RETIRE_STS_RESULT = 1
      ∨ (spare = none ∧ s.ordWith (s.banksActive - 1) < 16384) then
    let s := if s.fget R.BUF_BANK_RETIRE_STS_RESULT = 1 then s
      else (s.fset R.BUF_BANK_RETIRE_STS_RESULT 3).fset R.BUF_BANK_RETIRE_STS_BANK j
    s.raise 0x111 2
  else
    let l := s.fget (bankLogical j)
    let s := (s.fset (bankFld j) bkDRAINING).fset (bankLogical j) 0x1F
    let s := match spare with
      | some k => (s.fset (bankFld k) bkACTIVE).fset (bankLogical k) l
      | none => s
    ((s.fset R.BUF_BANK_RETIRE_STS_RESULT 1).fset R.BUF_BANK_RETIRE_STS_BANK j).updateXoff

/-- BANK_RETIRE: BUF_BANK_RETIRE written with GO (R88). -/
def execBankRetire (bank : Nat) (s : State) : Out := .next (s.bankRetire (bank % 32))

/-- Corrected errors of a logical bank within the last second (R87). -/
def State.recentCe (s : State) (bank : Nat) : List Nat :=
  (storeGet [] s.sw.bankCe bank).filter fun t => decide (s.now < t + cyclesPerS)

def State.setBankCe (s : State) (bank : Nat) (ts : List Nat) : State :=
  { s with sw := { s.sw with bankCe := storePut [] bank ts s.sw.bankCe } }

/-- A corrected error of a cell counted against its logical bank (R87, R293). -/
def State.countCe (s : State) (physical : Nat) : State :=
  if physical < 17 ∧ s.fget (bankFld physical) = bkACTIVE then
    let l := s.fget (bankLogical physical)
    s.setBankCe l (s.recentCe l ++ [s.now])
  else s

/-- BANK_CE_LIMIT: a logical bank's corrected errors within one second have reached CE_LIMIT: event 0, and under AUTO the
retirement of its physical bank (R87). The count then starts again (log entry 94). -/
def execBankCeLimit (bank : Nat) (s : State) : Out :=
  let l := bank % 16
  if (s.recentCe l).length < s.fget R.BUF_SPARE_CTL_CE_LIMIT then .next s
  else
    let s := (s.setBankCe l []).raise 0x111 0
    .next (if s.flag R.BUF_SPARE_CTL_AUTO then
        (match s.activeBanks.find? fun b => b.1 == l with
         | some b => s.bankRetire b.2
         | none => s)
      else s)

/-- RETIRE_DONE: the last cell of the draining bank has been freed (R88). -/
def execRetireDone (s : State) : Out :=
  match (upTo 17).find? fun j => s.fget (bankFld j) == bkDRAINING with
  | some j =>
    .next (if s.bankUsed j = 0 then
        ((s.fset (bankFld j) bkRETIRED).fset R.BUF_BANK_RETIRE_STS_RESULT 2).raise 0x111 1
      else s)
  | none => .next s

/-! ### Pools (R54, R74) -/

/-- The oldest candidate of the lowest priority that has one (R74). -/
def State.lowestCandidate (s : State) : Option Frame := (upTo 4).findSome? fun q => oldest (s.candidatesAt q)

/-- Evictions until the live pool's occupancy fits its size (R74); `fuel` bounds their number. -/
def State.shrinkLive : Nat → State → State
  | 0, s => s
  | fuel + 1, s =>
    if s.poolUsed .live ≤ s.poolSize .live then s
    else match s.lowestCandidate with
      | some f => State.shrinkLive fuel ((s.evict f).raise 0x110 2)
      | none => s

/-- A size clamped so that the ordered pool keeps 16,384 cells, `other` being the other written pool (R54). -/
def State.poolClamp (s : State) (cells lo other : Nat) : Nat :=
  min (max lo (min cells 131072)) (16384 * s.banksActive - 1536 - 16384 - other)

/-- BUF_LIVE_POOL written (R54, R74). In LIMP it takes effect when the device leaves LIMP (R56). -/
def State.livePool (s : State) (cells : Nat) : State :=
  let s := s.fset R.BUF_LIVE_POOL_CELLS (s.poolClamp cells 0 (s.fget R.BUF_CPL_POOL_CELLS))
  if s.limpPools then s else (State.shrinkLive (s.sw.frames.length + 1) s).updateXoff

/-- LIVE_POOL_WRITE (R74). -/
def execLivePoolWrite (cells : Nat) (s : State) : Out := .next (s.livePool cells)

/-- BUF_CPL_POOL written (R54). -/
def State.cplPool (s : State) (cells : Nat) : State :=
  (s.fset R.BUF_CPL_POOL_CELLS (s.poolClamp cells 8192 (s.fget R.BUF_LIVE_POOL_CELLS))).updateXoff

/-- CPL_POOL_WRITE (R54). -/
def execCplPoolWrite (cells : Nat) (s : State) : Out := .next (s.cplPool cells)

/-! ### The weir governor (R70) -/

/-- LIMIT of a port changed by the governor, logged when it changed. -/
def State.weirSet (s : State) (n new action w : Nat) : State :=
  let old := s.fget (R.SWC_WEIR_LIMIT n)
  if new = old then s else (s.fset (R.SWC_WEIR_LIMIT n) new).govLog gWEIR action n old new w

/-- One interval of the weir governor at one core port; `w` is its withheld share in % (R70). -/
def State.weirStep (s : State) (n w : Nat) : State :=
  let limit := s.fget (R.SWC_WEIR_LIMIT n)
  let lo := s.fget (R.SWC_WEIR_BOUND_MIN n)
  let hi := s.fget (R.SWC_WEIR_BOUND_MAX n)
  let step := s.fget R.BUF_WEIR_GOV_STEP
  let p := s.port n
  let held := s.weirHeld n
  let peak := max p.weirPeak held
  -- The next interval begins with the charge that stands now.
  let s := s.modPort n fun p => { p with weirPeak := held }
  if hi < lo then s.govLog gWEIR aBOUND_ERROR n limit limit w
  else
    let (up, down) :=
      if s.fget R.BUF_WEIR_GOV_HI_PCT ≤ w ∧ step * 32 ≤ s.poolFree .ordered then (p.weirUp + 1, 0)
      else if peak * 100 < s.fget R.BUF_WEIR_GOV_LO_PCT * limit * 32 then (0, p.weirDown + 1)
      else (0, 0)
    let hyst := s.fget R.BUF_WEIR_GOV_HYST
    let s := s.modPort n fun p => { p with
      weirUp := if hyst ≤ up then 0 else up, weirDown := if hyst ≤ down then 0 else down }
    -- Neither step leaves the bounds, whatever software has written to LIMIT (R28).
    let s := if hyst ≤ up then s.weirSet n (max lo (min (limit + step) hi)) aRAISE w else s
    if hyst ≤ down then s.weirSet n (min hi (max (limit - step) lo)) aLOWER w else s

/-- Share in % of an interval of so many core cycles during which a port withheld (R70). -/
def State.withheldPct (s : State) (n cycles : Nat) : Nat := (s.port n).withheld * 100 / max 1 cycles

/-- WEIR_GOV_TICK: every 100 µs, with the share of the interval that each port withheld: what the core cycles have counted, or
what the port's credit logic reports for itself where that is more (R70, log entry 107). -/
def execWeirGovTick (withheld : List (Nat × Nat)) (s : State) : Out :=
  if s.alive && s.flag R.BUF_WEIR_GOV_EN && decide (storeGet 0 s.govAt 0 + 100 * cyclesPerUs ≤ s.now) then
    let cycles := s.now - storeGet 0 s.govAt 0
    let s : State := { s with govAt := storePut 0 0 s.now s.govAt }
    .next ((upTo 88).foldl (fun s n =>
      let w := min 100 (max (s.withheldPct n cycles) (storeGet 0 withheld n))
      (s.modPort n fun p => { p with withheld := 0 }).weirStep n w) s).updateXoff
  else .next s

/-! ### Ageing (R75 to R77) -/

/-- The copy at the head of a queue that has not started. -/
def State.headOf (s : State) (n q : Nat) : Option Copy :=
  s.sw.copies.find? fun c => c.egress == n && c.queue == q && !c.unacked && !c.sending

/-- Is a frame older than BUF_AGE_LIMIT (R75, R77)? -/
def State.overAge (s : State) (f : Frame) : Bool :=
  decide (f.born + s.fget R.BUF_AGE_LIMIT_LIMIT * cyclesPerUs < s.now)

/-- A copy discarded for its age: counted by type, a live one ledgered (R75). -/
def State.ageCopy (s : State) (c : Copy) : State :=
  ((s.loseCopy c lrAGE R.BUF_AGE_P R.BUF_AGE_NP R.BUF_AGE_CPL).tel 13 c.egress 1 (s.frame? c.frame)).raise 0x110 1

/-- AGE_DISCARD: the head of a queue is older than BUF_AGE_LIMIT (R75). -/
def execAgeDiscard (port queue : Nat) (s : State) : Out :=
  match s.headOf (port % 89) (queue % 16) with
  | none => .next s
  | some c => if (s.frame? c.frame).any s.overAge then .next (s.ageCopy c).updateXoff else .next s

/-- An over-age head of a queue that a test accepts. -/
def State.agedHead (s : State) (ok : Copy → Bool) : Option Copy :=
  s.sw.copies.find? fun c => ok c && !c.unacked && !c.sending && (s.frame? c.frame).any s.overAge
    && (s.headOf c.egress c.queue).any fun h => h.id == c.id

/-- The check of every core cycle: over-age heads of the queues that a test accepts are discarded (R75); `fuel` bounds their
number. -/
def State.ageOut (ok : Copy → Bool) : Nat → State → State
  | 0, s => s
  | fuel + 1, s => match s.agedHead ok with
    | none => s
    | some c => State.ageOut ok fuel (s.ageCopy c)

/-- The check at every queue. -/
def State.ageHeads (s : State) : State :=
  if (s.agedHead fun _ => true).isNone then s
  else (State.ageOut (fun _ => true) (s.sw.copies.length + 1) s).updateXoff

/-! ### The ledger writer (R80, R81) -/

/-- A ledger record's 256 bits, LAP and the fabric ID of the writing device filled in (R80). -/
def State.ledgerBits (s : State) (r : LedgerRec) : Nat :=
  let prod := s.tget 0x112 0 r.ring 191 160
  r.time % 2 ^ 64 + r.addr.toNat * 2 ^ 64 + r.len % 8192 * 2 ^ 128 + r.reason * 2 ^ 144 + r.prio * 2 ^ 148
    + ofBool r.arrival * 2 ^ 150 + ofBool r.mcast * 2 ^ 151 + prod / 2 ^ s.tget 0x112 0 r.ring 132 128 % 256 * 2 ^ 152
    + r.window * 2 ^ 160 + s.selfFid * 2 ^ 176 + r.ingress * 2 ^ 184 + r.fseq % 2 ^ 32 * 2 ^ 192 + r.egress * 2 ^ 224

/-- A posted write of the ledger pool towards the consumer of a ring (R79, R81). -/
def State.ledgerPost (s : State) (ring addr : Nat) (data : List Byte) (why : Purpose) : State :=
  s.devicePost { kind := .memWrite, addr := BitVec.ofNat 64 addr, len := data.length, data := data,
                 reqId := s.mgmtReqId (s.tget 0x112 0 ring 156 152) }
    .ledger (s.tget 0x112 0 ring 147 144) (s.tget 0x112 0 ring 142 136 % 64) why

/-- LEDGER_WRITE: the oldest record of the ledger queue goes to its slot once the ledger pool has a cell (R81). -/
def execLedgerWrite (s : State) : Out :=
  match s.sw.ledgerQ with
  | [] => .next s
  | r :: rest =>
    if s.poolFree .ledger == 0 then .next s
    else
      let s : State := { s with sw := { s.sw with ledgerQ := rest } }
      -- A ring entry with both copies bad is found by the write that uses it, which has nowhere to go (R293, R294).
      if s.faulted 7 r.ring then .next (s.tableUe 7 r.ring none 88) else
      if !s.ringOn r.ring then .next s
      else
        let prod := s.tget 0x112 0 r.ring 191 160
        let slot := prod % 2 ^ s.tget 0x112 0 r.ring 132 128
        let s := s.ledgerPost r.ring (s.tget 0x112 0 r.ring 63 0 + 32 * slot) (leBytes 32 (s.ledgerBits r)) (.ledgerRec r.ring)
        .next ((s.tset 0x112 0 r.ring 191 160 (prod + 1)).owe r.ring)

/-- LEDGER_WRITEBACK: PROD goes to PIDX_ADDR behind its records (R81). -/
def execLedgerWriteback (ring : Nat) (s : State) : Out :=
  let r := ring % 256
  if !s.sw.ledgerDue.contains r || s.poolFree .ledger == 0 then .next s
  else
    let s : State := { s with sw := { s.sw with ledgerDue := s.sw.ledgerDue.filter (· != r) } }
    if s.faulted 7 r then .next (s.tableUe 7 r none 88) else
    .next (s.ledgerPost r (s.tget 0x112 0 r 127 64) (leBytes 4 (s.tget 0x112 0 r 191 160)) (.ledgerIdx r))

/-! ### The flush (R83 to R85) -/

/-- Copies that the running flush of a port still has to remove. -/
def State.flushLeft (s : State) (n : Nat) : List Copy :=
  let p := s.port n
  if !p.flushing then []
  else s.sw.copies.filter fun c => c.egress == n && !c.unacked && !c.sending
    && (c.portEpoch != p.epoch || (p.flushAll && c.condemned))

/-- FLUSH_REMOVE: the next older copy goes (R83). -/
def execFlushRemove (port : Nat) (s : State) : Out :=
  match s.flushLeft (port % 72) with
  | [] => .next s
  | c :: _ => .next (s.flushCopy c).updateXoff

/-- FLUSH_DONE: no older copy is left (R83 to R85). -/
def execFlushDone (port : Nat) (s : State) : Out :=
  let n := port % 72
  if (s.port n).flushing && (s.flushLeft n).isEmpty then
    let s := s.modPort n fun p => { p with flushing := false, flushAll := false, downs := 0 }
    let s := s.setCopies (s.sw.copies.map fun c => if c.egress = n then { c with condemned := false } else c)
    .next (s.raise 0x103 1)
  else .next s

/-! ### Underruns and late errors (R64, R65) -/

/-- The copy in transmission at a port. -/
def State.sendingAt (s : State) (n : Nat) : Option Copy :=
  s.sw.copies.find? fun c => c.egress == n && c.sending && !c.unacked

/-- The egress of an ended copy enters DPC where that was how it could end the copy (R62, R218). -/
def State.containLate (s : State) (f : Frame) (c : Copy) : State :=
  if c.contain then (s.dpcLate c.egress f.tlp.header).pcieDown c.egress else s

/-- UNDERRUN: the cut-through copy in transmission needs a cell that is not stored yet; it is ended and will be sent
again whole (R65). -/
def execUnderrun (port : Nat) (s : State) : Out :=
  match s.sendingAt (port % 88) with
  | none => .next s
  | some c => match s.frame? c.frame with
    | none => .next s
    | some f =>
      if !c.ct || f.whole then .next s
      else
        let s := (((s.wasteSlots c.egress).bump R.SWC_UNDERRUN).tel 10 c.egress 1 (some f)).raise 0x100 1
        let s := s.endOnLink c
        let s := s.setCopies (s.sw.copies.map fun x =>
          if x.id = c.id then { x with sending := false, ct := false, resend := true } else x)
        .next (s.containLate f c).updateXoff

/-- UNDERRUN_RESEND: the frame of an underrun copy is fully stored and checked: the copy may start again, whole (R65). -/
def execUnderrunResend (port : Nat) (s : State) : Out :=
  match s.sw.copies.find? fun c => c.egress == port % 88 && c.resend && !c.sending && !c.unacked with
  | none => .next s
  | some c => .next (s.modFrame c.frame fun f => { f with whole := true })

/-- What spoils a cut-through copy after its head has left (R64, R291). -/
abbrev leFURROW : Nat := 0
abbrev leECC : Nat := 1
abbrev leLINK_CHECK : Nat := 2
abbrev leNULLIFIED : Nat := 3
abbrev leXFORM : Nat := 4

/-- A frame whose tail fails its link check or that its sender nullifies: every copy goes, with no ledger record and no
Unsupported Request; its reservation and tag record go with it (R64). The copies whose ports enter DPC for it are returned. -/
def State.dropTail (s : State) (f : Frame) : State × List Copy :=
  let cs := s.copiesOf f.id
  let s := cs.foldl (fun s c => if c.sending then s.endLate f c none else s.removeCopy c.id) s
  let s := match f.record with
    | some r => s.dropTag r
    | none => s
  (s.reap, cs.filter fun c => c.sending && c.contain)

/-- A cut-through copy spoilt by its furrow word, by an ECC error, or by its header change: recorded, ended, answered and
counted against its egress (R64, R217, R291, R298, R300). -/
def State.lateFault (s : State) (f : Frame) (c : Copy) (code got cell : Nat) : State :=
  let level := if code = eFURROW_LATE ∧ c.contain = true then lvPORT else lvFRAME
  let s := s.recordCopy code level f c got cell
  let s := if c.contain then s else s.bridgeAer f c
  let s := s.endLate f c (if f.live then some lrLATE_CUT else none)
  let s := (if f.tlp.nonPosted then s.unsupported f else s).reap
  ((s.containLate f c).countError c.egress).updateXoff

/-- A frame queued for a port whose tail has not come. -/
def State.openAt (s : State) (n : Nat) : Option Frame :=
  s.sw.frames.find? fun f => !f.whole && (s.copiesOf f.id).any fun c => c.egress == n

/-- A tail that fails its link check is a Bad TLP at the PCIe port it came in by (R217). -/
def State.tailCheck (s : State) (f : Frame) (cause : Nat) : State :=
  if cause = leLINK_CHECK then s.portCorrected f.ingress aerBadTlp else s

/-- LATE_ERROR: a fault of the cut-through copy in transmission at a port; `got` is the furrow word found, `cell` the
bank and cell of an ECC error (R64, R291, R298, R300). -/
def execLateError (port cause : Nat) (got : W32) (cell : Nat) (s : State) : Out :=
  let tail := cause == leLINK_CHECK || cause == leNULLIFIED
  match s.sendingAt (port % 88) with
  | none =>
    -- A frame none of whose copies has started is lost with its tail as well.
    if tail then (match s.openAt (port % 88) with
      | some f => .next ((s.dropTail f).1.tailCheck f cause).updateXoff
      | none => .next s)
    else .next s
  | some c => match s.frame? c.frame with
    | none => .next s
    | some f =>
      if !c.ct || (tail && f.whole) then .next s
      else if tail then
        let r := s.dropTail f
        .next ((r.2.foldl (fun s c => s.containLate f c) r.1).tailCheck f cause).updateXoff
      else
        let code := if cause = leECC then eCELL_UE else if cause = leXFORM then eXFORM_MISMATCH else eFURROW_LATE
        .next (s.lateFault f c code (if cause = leFURROW then got.toNat else f.furrow.toNat)
          (if cause = leECC then cell % 2 ^ 26 else 0))

end Sys2Proof.Machine
end

