-- ==== Sys2Proof/Machine/Modes.lean ====
section
/-! DEFINITION. Start-up, self-test, device modes (chapter 20), clocks, resets, supplies, temperature (chapter 21) and the
pins that follow from them. -/

namespace Sys2Proof.Machine

/-! ### Device-wide reset (R343, R344, R444) -/

/-- Registers that VDD_AON keeps through a device-wide reset: the straps and the always-on log (R344, R419). -/
def keptRegs : List Nat :=
  [R.DEV_STRAP, R.DEV_PWRLOSS_STS, R.DEV_PWRLOSS_POSTED, R.DEV_PWRLOSS_TB_LO, R.DEV_PWRLOSS_TB_HI]

/-- Slots with a card, as the presence debounce knows: PRESENT, or what it keeps while the registers are in reset. -/
def State.cardsKnown (s : State) : Nat :=
  if s.alive then (upTo 24).foldl (fun n k => n + s.fget (R.SPV_SLOT_STS_PRESENT k) * 2 ^ k) 0 else s.board.cards

/-- The first core cycle after RESET: the synthesisers are locked to TREF_CLK, and the supervisor shows the cards it knows
of (R382, R439; log entry 91). -/
def State.firstCycle (s : State) : State :=
  (upTo 24).foldl (fun s n => if bit s.board.cards n then s.fset (R.SPV_SLOT_STS_PRESENT n) 1 else s)
    (if s.flag R.CLK_STS_HOLDOVER then s else s.fset R.CLK_STS_LOCKED 1)

/-- A device-wide reset: the mode is RESET, or STANDBY without main rails, for at least `need` core cycles; what lies in
OTP, in flash and behind VDD_AON stays (R343, R344, R362, R444, R453). -/
def State.deviceReset (s : State) (need : Nat) : State :=
  let left := if s.mode = mRESET then s.board.need - s.board.inReset else 0
  let t : State := { State.reset with
    pending := s.pending, free := s.free + 1, undef := s.undef
    sec := { otp := s.sec.otp }
    mgt := { flash := s.mgt.flash, era := s.free }
    board := { power := s.board.power, aon := s.board.aon, wake := s.board.wake, hot := s.board.hot,
               rstLow := s.board.rstLow, need := max left need, cards := s.cardsKnown } }
  let t := keptRegs.foldl (fun t a => t.setReg a (s.reg a)) t
  let t := t.fset R.CLK_THERM_STS_CRIT_SEEN (s.fget R.CLK_THERM_STS_CRIT_SEEN)
  let t := t.fset R.CUL_SB_CTL_WAKE_EN (s.fget R.CUL_SB_CTL_WAKE_EN)
  t.setMode (if s.board.power then mRESET else mSTANDBY)

/-! ### The strap layout (R211) -/

/-- MODE and PORTS of an octet under a layout (R211, R401). -/
def State.layoutOctet (s : State) (cfg k : Nat) : Nat × Nat :=
  let x16 := (4, if k % 2 = 0 then 0x80 + k / 2 else 0)
  if cfg = 1 then (0, 0x80 + k)
  else if cfg = 2 then (1, 0x80 + 2 * k + (0x80 + 2 * k + 1) * 256)
  else if cfg = 3 then (if k < 2 then (4, if k = 0 then 0x80 else 0) else (0, 0x80 + (k - 1)))
  else if cfg = 0xF ∧ bit (s.otpWord 25) 2 = true then (min (bits (s.otpWord (64 + 2 * k)) 2 0) 5, s.otpWord (65 + 2 * k))
  else x16

/-- The strap layout takes effect at reset release: octets, then PART 0, the lowest port UPSTREAM and the others DOWNSTREAM
(R11, R211). -/
def State.strapLayout (s : State) : State :=
  let cfg := s.fget R.DEV_STRAP_PORTCFG
  let s := (upTo 24).foldl (fun s k =>
    let x := s.layoutOctet cfg k
    (s.fset (R.PHY_OCTET_MODE_MODE k) x.1).setReg (R.PHY_OCTET_PORTS k) (BitVec.ofNat 32 (x.2 &&& 0xBFBFBFBF))) s
  let s := s.showPorts
  let ports := (upTo 64).filter fun n => s.flag (R.PEP_PORT_STS_PRESENT n)
  match ports with
  | [] => s
  | first :: _ => ports.foldl (fun s n =>
      (s.fset (R.PEP_PORT_CTL_ROLE n) (if n = first then 1 else 2)).fset (R.PEP_PORT_CTL_PART n) 0) s

/-- May the device leave RESET (R444, R453)? -/
def State.mayLeave (s : State) : Bool :=
  s.mode == mRESET && s.board.power && s.board.aon && !s.board.hot && !s.board.rstLow
    && decide (s.board.need ≤ s.board.inReset)

/-- The device leaves RESET for LIMP (R421, R440, R453). -/
def State.leaveReset (s : State) : State :=
  if !s.mayLeave then s
  else
    let s : State := { s.setMode mLIMP with now := 0, board := { s.board with inReset := 0, need := 0 } }
    let s := s.freshNonce.otpFields.strapLayout
    if s.flag R.CLK_THERM_STS_CRIT_SEEN then
      ((s.record 0x0405 lvNOTICE none 0x7F 0).alert).fset R.CLK_THERM_STS_CRIT_SEEN 0
    else s

/-- One core cycle in RESET (R444). -/
def State.resetTick (s : State) : State :=
  ({ s with board := { s.board with inReset := s.board.inReset + 1 } } : State).leaveReset

/-- The always-on log's capture of a main rail that fails (R344). -/
def State.capture344 (s : State) (rail : Nat) : State :=
  let losses := min 255 (s.fget R.DEV_PWRLOSS_STS_LOSSES + 1)
  let posted := (s.sw.copies.filter fun c => !c.unacked && (match s.frame? c.frame with
    | some f => f.tlp.posted
    | none => false)).length
  let s := (s.fset R.DEV_PWRLOSS_STS_VALID 1).fset R.DEV_PWRLOSS_STS_RAIL rail
  let s := s.fset R.DEV_PWRLOSS_STS_SB (min 16 s.mgt.sb.length)
  let s := s.fset R.DEV_PWRLOSS_STS_CUL (s.fget R.CUL_STS_PQ_USED)
  let s := (s.fset R.DEV_PWRLOSS_STS_LOSSES losses).fset R.DEV_PWRLOSS_POSTED_POSTED (min posted (2 ^ 20 - 1))
  s.setPair R.DEV_PWRLOSS_TB_LO R.DEV_PWRLOSS_TB_HI (s.ns % 2 ^ 64)

/-- Core cycles of 10 µs and of 1 ms (R444). -/
def us10 : Nat := 10 * cyclesPerUs

/-- RESET_ASSERT: RST_N has been low for 1 µs (R444). -/
def execResetAssert (s : State) : Out :=
  let s : State := { s with board := { s.board with rstLow := true } }
  .next (if s.mode = mSTANDBY ∨ s.board.aon = false then s else s.deviceReset us10)

/-- RESET_RELEASE: RST_N rises with the rails in range: the straps are sampled, and the device leaves RESET for LIMP once
its time there is over (R419, R421, R444). -/
def execResetRelease (mode smb portcfg : Nat) (s : State) : Out :=
  if s.mode != mRESET then .next s
  else
    let s : State := { s with board := { s.board with rstLow := false, power := true, aon := true } }
    let s := ((s.fset R.DEV_STRAP_MODE mode).fset R.DEV_STRAP_SMBADDR smb).fset R.DEV_STRAP_PORTCFG portcfg
    .next s.leaveReset

/-- RESET_DEVICE: CLK_RST_CTL.DEVICE (R444). -/
def State.resetDevice (s : State) : State := if s.alive then s.deviceReset us10 else s

def execResetDevice (s : State) : Out := .next s.resetDevice

/-- SUPPLY_UNDERVOLTAGE: a main rail below 93 % (R344, R449). -/
def execSupplyUndervoltage (rail : Nat) (s : State) : Out :=
  .next (if s.board.power && s.board.aon then (s.capture344 (min rail 6)).deviceReset cyclesPerMs else s)

/-- MAIN_POWER_LOSS: the main rails fail with VDD_AON present (R226, R344, R430). -/
def execMainPowerLoss (rail : Nat) (s : State) : Out :=
  if s.board.power && s.board.aon then
    let s := s.capture344 (min rail 6)
    .next (({ s with board := { s.board with power := false } } : State).deviceReset cyclesPerMs)
  else .next s

/-- AON_UNDERVOLTAGE: the device is absent; only OTP and flash outlast it (R344, R449). -/
def execAonUndervoltage (s : State) : Out :=
  let t : State := { State.reset with
    pending := s.pending, free := s.free + 1, undef := s.undef
    sec := { otp := s.sec.otp }
    mgt := { flash := s.mgt.flash, era := s.free }
    board := { power := false, aon := false, rstLow := s.board.rstLow, need := cyclesPerMs } }
  .next (t.setMode mRESET)

/-- MAIN_POWER_RETURN: the main rails are back: STANDBY gives way to RESET, and WAKE# is released (R226, R430). -/
def execMainPowerReturn (s : State) : Out :=
  .next (if s.board.power then s
    else
      ({ s with board := { s.board with power := true, aon := true, wake := false, inReset := 0, need := cyclesPerMs } } :
        State).setMode mRESET)

/-- STANDBY_WAKE: a presence change or a supervisor fault asserts WAKE# (R226). -/
def execStandbyWake (slot : Nat) (present fault : Bool) (s : State) : Out :=
  if s.mode != mSTANDBY then .next s
  else
    let n := slot % 24
    let cards := if fault then s.board.cards else putBits s.board.cards n n (ofBool present)
    .next { s with board := { s.board with wake := true, cards := cards } }

/-! ### Start-up (R211, R421, R426) -/

def State.tested (s : State) (items : Nat) : State :=
  { s with board := { s.board with tested := s.board.tested ||| items } }

/-- OTP_LOADED: lifecycle, DEV_SUBSYS and the strap layout, loaded before the first access, are in effect; a read error, or copies split two against two,
is fatal, and so is RETIRED (R401, R403, R405, R421, R426). -/
def execOtpLoaded (fail : Bool) (s : State) : Out :=
  if s.mode != mLIMP || bit s.board.tested 1 then .next s
  else
    let split := (upTo 3).any fun b => s.lifeCopies b == 2
    let s := (s.tested 0x8002).otpFields
    let st := s.sec.base
    let s := s.strapLayout
    let s := if fail || split then s.selftestFail 1 true else s
    .next (if st = lcRETIRED then s.selftestFail 0xF true else s)

/-- One of the two pairs fails its start-up test: it reads FAILED, and the other one is active (R313, R334, R426). -/
def State.pairStartFails (s : State) (p : Nat) : State :=
  let s := s.pairFails p
  if s.pairState (1 - p) = 1 then s.fset (pairFld (1 - p)) 0 else s

/-- A physical bank fails its test: it reads FAILED, and a spare takes its logical number (R88, R426). -/
def State.bankFails (s : State) (j : Nat) : State :=
  let l := s.fget (bankLogical j)
  let s := (s.fset (bankFld j) bkFAILED).fset (bankLogical j) 0x1F
  if l = 0x1F then s
  else match s.spareBank with
    | some k => (s.fset (bankFld k) bkACTIVE).fset (bankLogical k) l
    | none => s

/-- EARLY_SELFTEST_DONE: the tests of the first 2 ms end; `items` are the failed ones of ROM, MGT_SRAM, TABLES and QUEUES
by their values, `pairs` the failed pairs, `banks` bit 0 for bank 0 and bit 1 for bank 16 (R421, R426). -/
def execEarlySelftestDone (items pairs banks : Nat) (s : State) : Out :=
  if !s.alive || bit s.board.tested 2 then .next s
  else
    let s := s.tested 0x063C
    let s := [2, 3].foldl (fun s i => if bit items i then s.selftestFail i true else s) s
    let s := (upTo 2).foldl (fun s p => if bit pairs p then s.pairStartFails p else s) s
    let s := if bits pairs 1 0 = 3 then (s.selftestFail 4 true).mgtLost else s
    let s := if bit banks 0 then
        (let s := if bit banks 1 then s.bankFails 16 else s
         (s.bankFails 0).selftestFail 5 (bit banks 1))
      else s
    .next ([9, 10].foldl (fun s i => if bit items i then s.selftestFail i true else s) s)

/-- PHY_CALIBRATION_DONE: failed octets are OFF, failed links stay disabled, and the strap layout's ports may train
(R421, R426). -/
def execPhyCalibrationDone (octets links : Nat) (s : State) : Out :=
  if !s.alive || bit s.board.tested 6 then .next s
  else
    let up := s.upstreamOf 0
    let carries (k : Nat) : Bool := (upTo 8).any fun l => match s.laneOwner k l with
      | some n => up == some n
      | none => false
    let bad := (upTo 24).filter fun k => bit octets k
    let fatal := bad.any carries
    let s := s.tested 0xC0
    let s := (bad.foldl (fun s k => s.fset (R.PHY_OCTET_MODE_MODE k) 5) s).showPorts
    let s := if bad.isEmpty then s else s.selftestFail 6 fatal
    if links % 256 = 0 then .next s
    else
      let s : State := { s with board := { s.board with badLinks := links % 256 } }
      let s := (upTo 8).foldl (fun s f => if bit links f then s.linkDisable f else s) s
      .next (s.selftestFail 7 false)

/-- Logical banks that no bank in service backs. -/
def State.unbacked (s : State) : Nat :=
  ((upTo 16).filter fun l => (upTo 17).all fun j => !(s.fget (bankFld j) == bkACTIVE && s.fget (bankLogical j) == l)).length

/-- BG_SELFTEST_DONE: the background tests of banks 1 to 16, engines and supervisor end (R421, R426). -/
def execBgSelftestDone (banks engines : Nat) (spv : Bool) (s : State) : Out :=
  if !s.alive || s.flag R.DEV_MODE_STS_BG_DONE then .next s
  else
    let s := s.tested 0x3800
    let bad := (upTo 17).filter fun j => decide (j ≠ 0) && bit banks j
    let s := bad.foldl State.bankFails s
    let s := if bad.isEmpty then s else s.selftestFail 0xB (decide (2 < s.unbacked) || decide (s.ordWith s.banksActive < 16384))
    let s := if engines % 65536 = 0 then s
      else
        let s : State := { s with board := { s.board with badEngines := engines % 65536 } }
        ((upTo 16).foldl (fun s e => if bit engines e then s.fset (R.ENG_STS_STATE e) 3 else s) s).selftestFail 0xC false
    let s := if spv then s.selftestFail 0xD true else s
    .next ((s.fset R.DEV_MODE_STS_BG_DONE 1).raise 0x000 4)

/-! ### SAFE (R428, R429, R438) -/

/-- One hexadecimal digit in ASCII. -/
def hexDigit (n : Nat) : Byte := BitVec.ofNat 8 (if n < 10 then 48 + n else 55 + n)

/-- The UART's line in SAFE (R428). -/
def State.uartLine (s : State) : List Byte :=
  let c := s.fget R.DEV_MODE_STS_FAIL_CODE
  let f := (s.reg R.DEV_SELFTEST_FAIL).toNat % 65536
  [0x53, 0x41, 0x46, 0x45, 0x20, hexDigit (c / 16), hexDigit (c % 16), 0x20, hexDigit (f / 4096), hexDigit (f / 256 % 16),
   hexDigit (f / 16 % 16), hexDigit (f % 16), 0x0D, 0x0A]

/-- A core pair runs the boot ROM in SAFE: some pair works, the ROM passed, and no firmware was entered. -/
def State.romRuns (s : State) : Bool :=
  s.mode == mSAFE && !bit (s.reg R.DEV_SELFTEST_FAIL).toNat 2 && !s.lost && !s.flag R.DEV_MODE_STS_FW_RUNNING
    && (s.pairState 0 == 0 || s.pairState 1 == 0)

/-- SAFE_UART_LINE (R426, R428). -/
def execSafeUartLine (s : State) : Out :=
  if s.romRuns && decide (max s.safeAt s.board.uartAt + cyclesPerS ≤ s.now) then
    .next { s with board := { s.board with uartAt := s.now }, answer := .bytes s.uartLine }
  else .next s

/-- STAT_PATTERN_TOGGLE (R438). -/
def execStatPatternToggle (s : State) : Out :=
  if s.mode == mSAFE && decide (max s.safeAt s.board.statAt + cyclesPerS ≤ s.now) then
    .next { s with board := { s.board with statAt := s.now, statCode := !s.board.statCode } }
  else .next s

/-- STAT[3:0] (R436 to R438). -/
def State.stat (s : State) : Nat :=
  if s.board.aon = false ∨ s.mode = mRESET then 0xF
  else if s.mode = mSAFE then (if s.board.statCode then s.fget R.DEV_MODE_STS_FAIL_CODE - 1 else 2)
  else s.mode

/-- SAFE_SPI_RELEASE (R429). -/
def execSafeSpiRelease (s : State) : Out :=
  if s.mode == mSAFE && decide (s.safeAt + cyclesPerS ≤ s.now) then
    .next { s with board := { s.board with spiOff := true } }
  else .next s

/-- The 7-bit address at which an SMBus port answers (R420). -/
def State.smbusAddr (s : State) (port : Nat) : Nat := (if port % 2 = 0 then 0x58 else 0x68) + s.fget R.DEV_STRAP_SMBADDR

/-- SMBUS_STATUS_READ: a Block Read with command 0x00, at the address at which the port answers (R420, R428). -/
def execSmbusStatusRead (s : State) : Out :=
  if s.alive then
    .next { s with answer := .bytes (leBytes 4 (s.reg R.DEV_MODE_STS).toNat ++ leBytes 2 (s.reg R.DEV_SELFTEST_FAIL).toNat
      ++ leBytes 2 (s.reg R.MGT_FW_STS).toNat) }
  else .next s

/-! ### Mode requests (R430 to R435) -/

abbrev mcTARGET : Nat := 1
abbrev mcSTATE : Nat := 2
abbrev mcBUSY : Nat := 3
abbrev mcNOT_READY : Nat := 4
abbrev mcINSTANCES : Nat := 5
abbrev mcPARTITIONS : Nat := 6
abbrev mcTHERMAL : Nat := 7
abbrev mcTEST_ACTIVE : Nat := 8
abbrev mcSTRAP : Nat := 9

/-- A mode of service, 0x3 to 0x6. -/
def serviceMode (m : Nat) : Bool := decide (mSTANDALONE ≤ m) && decide (m ≤ mFABRIC)

/-- The modes that a mode leads to on request (R430). -/
def leads (m req : Nat) : Bool :=
  if m = mLIMP then serviceMode req || req == mDIAGNOSTIC
  else if serviceMode m then (serviceMode req && req != m) || req == mISOLATE || req == mDRAIN
  else if m = mDRAIN then serviceMode req || req == mISOLATE || req == mDIAGNOSTIC
  else if m = mDIAGNOSTIC then serviceMode req || req == mISOLATE
  else false

/-- Is a loop or a PRBS generator set anywhere (R278, R280)? -/
def State.testActive (s : State) : Bool :=
  (upTo 24).any (fun k => s.fget (R.PHY_LOOP_CTL_MODE k) != 0 || s.flag (R.PHY_PRBS_CTL_GEN_EN k))
    || (upTo 8).any fun f => s.fget (R.MFL_LOOP_CTL_MODE f) != 0 || s.flag (R.MFL_PRBS_CTL_GEN_EN f)

/-- The cause for which a request is refused, in the order of R432. -/
def State.modeCause (s : State) (req : Nat) : Option Nat :=
  let m := s.mode
  if s.fget R.DEV_STRAP_MODE = 2 ∧ req ≠ mDIAGNOSTIC then some mcSTRAP
  else if !(serviceMode req || req == mISOLATE || req == mDRAIN || req == mDIAGNOSTIC) then some mcTARGET
  else if s.fget R.DEV_MODE_STS_RESULT = 1 ∨ s.fget R.ERR_ISO_STS_STATE = isoENTERING ∨ s.fget R.ERR_ISO_STS_STATE = isoEXITING
      ∨ s.updating = true then some mcBUSY
  else if !leads m req || (req == mDIAGNOSTIC && m == mDRAIN && !s.flag R.DEV_MODE_STS_DRAINED) then some mcSTATE
  else if m = mLIMP ∧ !(s.flag R.DEV_MODE_STS_BG_DONE && s.flag R.DEV_MODE_STS_FW_RUNNING) then some mcNOT_READY
  else if m = mDRAIN ∧ s.flag R.DEV_MODE_STS_THERMAL = true ∧ s.board.hotDrain = true then some mcTHERMAL
  else if m = mDIAGNOSTIC ∧ s.testActive = true then some mcTEST_ACTIVE
  else if (req = mSTANDALONE ∨ req = mPARTITIONED) ∧ s.liveInsts ≠ [] then some mcINSTANCES
  else if req = mSTANDALONE ∧ (upTo 64).any (fun n => s.flag (R.PEP_PORT_STS_PRESENT n) && s.portPart n != 0) then
    some mcPARTITIONS
  else none

/-- DEV_MODE written with GO (R432). A request for ISOLATE stays BUSY until the entry ends (R308). -/
def State.modeRequest (s : State) (req : Nat) : State :=
  if !s.alive then s
  else match s.modeCause req with
    | some c =>
      let s := if s.fget R.DEV_MODE_STS_RESULT = 1 then s
        else (s.fset R.DEV_MODE_STS_RESULT 3).fset R.DEV_MODE_STS_CAUSE c
      (s.bump R.DEV_MODE_REFUSED).raise 0x000 1
    | none =>
      let s := s.fset R.DEV_MODE_STS_CAUSE 0
      if req = mISOLATE then (s.fset R.DEV_MODE_STS_RESULT 1).startIsolate 0xFFFFFFFF
      else
        let s := s.fset R.DEV_MODE_STS_RESULT 2
        (if req = mDRAIN then s.enterDrain false else (s.enterMode req).stopTraining.refreshHgs).updateXoff

/-- MODE_REQ_STANDALONE (R432). -/
def execModeReqStandalone (s : State) : Out := .next (s.modeRequest mSTANDALONE)
/-- MODE_REQ_PARTITIONED (R432). -/
def execModeReqPartitioned (s : State) : Out := .next (s.modeRequest mPARTITIONED)
/-- MODE_REQ_COMPOSED (R432). -/
def execModeReqComposed (s : State) : Out := .next (s.modeRequest mCOMPOSED)
/-- MODE_REQ_FABRIC (R432). -/
def execModeReqFabric (s : State) : Out := .next (s.modeRequest mFABRIC)
/-- MODE_REQ_ISOLATE (R308, R432). -/
def execModeReqIsolate (s : State) : Out := .next (s.modeRequest mISOLATE)
/-- MODE_REQ_DRAIN (R433). -/
def execModeReqDrain (s : State) : Out := .next (s.modeRequest mDRAIN)
/-- MODE_REQ_DIAGNOSTIC (R435). -/
def execModeReqDiagnostic (s : State) : Out := .next (s.modeRequest mDIAGNOSTIC)

/-- MODE_REQ_INVALID: RESET, LIMP, SAFE, UPDATE, STANDBY or a reserved code (R432). -/
def execModeReqInvalid (req : Nat) (s : State) : Out :=
  let r := req % 16
  .next (if serviceMode r || r == mISOLATE || r == mDRAIN || r == mDIAGNOSTIC then s else s.modeRequest r)

/-- The buffer holds no copy: those acknowledged or not that have left on a Moaben link are not in it. -/
def State.noCopies (s : State) : Bool := s.sw.copies.all fun c => c.unacked

/-- DRAIN_COMPLETE: no copy, every instance IDLE, no proxy record (R434). -/
def execDrainComplete (s : State) : Out :=
  if s.mode == mDRAIN && !s.flag R.DEV_MODE_STS_DRAINED && s.noCopies
      && s.liveInsts.all (fun i => s.flag (R.VIM_INST_STS_IDLE i)) && s.sw.tags.all (fun t => t.proxy.isNone) then
    .next ((s.fset R.DEV_MODE_STS_DRAINED 1).raise 0x000 3)
  else .next s

/-- DRAIN_TIMEOUT: what remains is flushed, and outstanding tags retire as for an abort (R184, R434). -/
def execDrainTimeout (s : State) : Out :=
  if s.mode == mDRAIN && !s.flag R.DEV_MODE_STS_DRAINED
      && decide (s.drainAt + s.fget R.DEV_DRAIN_CTL_TMO_MS * cyclesPerMs ≤ s.now) then
    let left := s.sw.copies.filter fun c => !c.unacked && !c.sending
    let s := (left.foldl (fun (s : State) (c : Copy) => (s.flushCopy c).bump R.DEV_DRAIN_DROP) s).updateXoff
    let s := s.modEngTags fun t => { t with discard := true, recovery := true }
    .next ((s.fset R.DEV_MODE_STS_DRAINED 1).raise 0x000 3)
  else .next s

/-! ### Reference clock and supplies (R440, R449, R454) -/

/-- TREF_LOST (R440). -/
def execTrefLost (s : State) : Out :=
  if !s.alive || s.flag R.CLK_STS_HOLDOVER then .next s
  else
    let s := (s.fset R.CLK_STS_HOLDOVER 1).fset R.CLK_STS_LOCKED 0
    let s : State := { s with board := { s.board with holdover := s.mtime } }
    .next (((s.raise 0x004 0).record 0x0400 lvNOTICE none 0x7F 0).alert)

/-- TREF_RESTORED (R440). -/
def execTrefRestored (s : State) : Out :=
  if !s.alive || !s.flag R.CLK_STS_HOLDOVER then .next s
  else
    let s := (s.fset R.CLK_STS_HOLDOVER 0).fset R.CLK_STS_LOCKED 1
    .next ((s.raise 0x004 0).record 0x0401 lvNOTICE none 0x7F ((s.mtime - s.board.holdover) % 2 ^ 64))

/-- SUPPLY_OVERVOLTAGE: the overvoltage monitors as they now stand, one bit for each rail; each that trips writes a record
(R449, R454). -/
def execSupplyOvervoltage (rails : Nat) (s : State) : Out :=
  if !s.alive then .next s
  else
    let was := s.fget R.CLK_SUPPLY_STS_OV
    let s := s.fset R.CLK_SUPPLY_STS_OV (rails % 256)
    .next ((upTo 8).foldl (fun s i =>
      if bit rails i && !bit was i then ((s.raise 0x004 1).record 0x0402 lvNOTICE none 0x7F i).alert else s) s)

/-! ### Temperature (R450 to R453) -/

/-- The readings of the twelve sensors shown (R450). -/
def State.showTemps (s : State) (ts : List Nat) : State :=
  let s := s.fset R.CLK_THERM_STS_HOTTEST (min 4095 (ts.foldl max 0))
  (upTo 4).foldl (fun s c => s.fset (R.CLK_THERM_CL_T c) (min 4095 (ts.getD c 0))) s

/-- RATE_STEP of the engines of a cluster (R451). -/
def State.rateStep (s : State) (c k t : Nat) (action : Nat) : State :=
  let old := s.fget (R.ENG_STS_RATE_STEP (4 * c))
  let s := (upTo 4).foldl (fun s j => s.fset (R.ENG_STS_RATE_STEP (4 * c + j)) k) s
  (s.govLog gTHERMAL action (4 * c) old k t).raise 0x005 0

/-- The thermal governor at one cluster (R451). -/
def State.thermCluster (s : State) (c : Nat) : State :=
  let t := max (s.fget (R.CLK_THERM_CL_T c)) (s.fget R.CLK_THERM_STS_HOTTEST)
  let start := s.fget R.CLK_THERM_GOV_T_START * 10
  let hyst := s.fget R.CLK_THERM_GOV_HYST * 10
  let k := s.fget (R.ENG_STS_RATE_STEP (4 * c))
  let cool := storeGet 0 s.board.cool c
  let setCool (n : Nat) (s : State) : State := { s with board := { s.board with cool := storePut 0 c n s.board.cool } }
  if start ≤ t ∧ k < s.fget R.CLK_THERM_GOV_MAX_STEP then s.rateStep c (k + 1) t aLOWER
  else if t + hyst < start ∧ 0 < k then
    if 4 ≤ cool + 1 then setCool 0 (s.rateStep c (min (k - 1) (s.fget R.CLK_THERM_GOV_MAX_STEP)) t aRAISE) else setCool (cool + 1) s
  else setCool 0 s

/-- The DRAIN condition of the thermal governor (R430, R451, R452). -/
def State.thermDrain (s : State) : State :=
  let hot := s.fget R.CLK_THERM_STS_HOTTEST
  let drain := s.fget R.CLK_THERM_GOV_T_DRAIN * 10
  let was := s.board.hotDrain
  let now := decide (drain ≤ hot) || (was && decide (drain ≤ hot + s.fget R.CLK_THERM_GOV_HYST * 10))
  let s : State := { s with board := { s.board with hotDrain := now } }
  if hot < drain then s
  else if serviceMode s.mode then
    if s.fget R.ERR_ISO_STS_STATE = isoENTERING then { s with board := { s.board with drainDue := true } }
    else ((s.enterDrain true).govLog gTHERMAL aDRAIN 0 0 0 hot).raise 0x005 1
  else if s.mode = mUPDATE ∨ s.mode = mISOLATE then { s with board := { s.board with drainDue := true } }
  else if was then s
  else s.record 0x0404 lvNOTICE none 0x7F (hot % 4096)

/-- The DRAIN condition ends once the hottest sensor reads below T_DRAIN − HYST, whatever EN holds by then (R452). -/
def State.thermCool (s : State) : State :=
  if s.fget R.CLK_THERM_STS_HOTTEST + s.fget R.CLK_THERM_GOV_HYST * 10 < s.fget R.CLK_THERM_GOV_T_DRAIN * 10 then
    { s with board := { s.board with hotDrain := false } }
  else s

/-- THERMAL_GOV_TICK: every 10 ms, with the readings of the sensors in 0.1 °C (R450 to R452). -/
def execThermalGovTick (sensors : List Nat) (s : State) : Out :=
  if s.alive && decide (storeGet 0 s.govAt 3 + 10 * cyclesPerMs ≤ s.now) then
    let s := ({ s with govAt := storePut 0 3 s.now s.govAt } : State).showTemps sensors
    .next (if s.flag R.CLK_THERM_GOV_EN then ((upTo 4).foldl State.thermCluster s).thermDrain else s.thermCool)
  else .next s

/-- CRITICAL_TEMPERATURE: 120 °C for 100 µs (R444, R453). -/
def execCriticalTemperature (s : State) : Out :=
  if !s.alive then .next s
  else
    let s := s.fset R.CLK_THERM_STS_CRIT_SEEN 1
    .next (({ s with board := { s.board with hot := true } } : State).deviceReset us10)

/-- CRITICAL_COOL: the hottest sensor reads below 95 °C (R453). -/
def execCriticalCool (s : State) : Out :=
  .next (({ s with board := { s.board with hot := false } } : State).leaveReset)

/-! ### Subsystem resets (R445, R446) -/

/-- Both core pairs are reset at once (R319, R331, R343, R445). A complex that has stopped stays so (R314). -/
def State.resetMgt (s : State) : State :=
  let s := s.bumpBy R.MGT_RST_DISCARD s.mgt.sb.length
  let s : State := { s with mgt := { s.mgt with sb := [] } }
  if s.lost then s
  else
    let s : State := { s with mgt := { s.mgt with
      ops := [], resv := none, loop := none, drain := none, halted := false, stores := [], trap := none, warned := false
      entry := 0, startAt := none } }
    let s := (upTo 2).foldl (fun s p => (upTo 32).foldl (fun s r => s.fset (R.MGT_MPU_CFG_LOCK p r) 0) s) s
    let a := if s.pairState 0 = 3 then 1 else 0
    let s := s.fset (pairFld a) 0
    let s := if s.pairState (1 - a) = 3 then s else s.fset (pairFld (1 - a)) 1
    s.firmwareRestart

/-- The culvert bridge reset at once: its registers return to reset, but for CUL_RST_DISCARD and WAKE_EN (R343, R445). -/
def State.resetCul (s : State) : State :=
  let s := s.culDiscard.culEndReads
  let s := (s.cul.ops.filter fun o => o.write).foldl (fun s o => (s.lbDrop o.id).lbWriteFails o) s
  let wake := s.fget R.CUL_SB_CTL_WAKE_EN
  let cul (a : Nat) : Bool := decide (0x10000 ≤ a) && decide (a < 0x14000)
  let s : State := { s with
    regs := s.regs.filter fun e => !cul e.1
    ctrs := s.ctrs.filter fun e => !cul e.1 || e.1 == R.CUL_RST_DISCARD
    tblRuns := s.tblRuns.filter fun e => !cul (e.1 * 4096)
    cul := { door := s.cul.door, nextId := s.cul.nextId, extReq := s.cul.extReq || s.flag R.CUL_STS_EXT_OWNS
             lbRst := s.now + cyclesPerUs } }
  (s.fset R.CUL_SB_CTL_WAKE_EN wake).lbGrant

/-- Telemetry reset: tables, rings, logs and configuration (R445). -/
def State.resetTel (s : State) : State :=
  let tel (a : Nat) : Bool := decide (0x40000 ≤ a) && decide (a < 0x50000)
  { s with
    regs := s.regs.filter fun e => !tel e.1
    ctrs := s.ctrs.filter fun e => !tel e.1
    tbls := s.tbls.filter fun e => !(decide (0x40 ≤ e.1 / 2 ^ 32) && decide (e.1 / 2 ^ 32 < 0x50))
    tblRuns := s.tblRuns.filter fun e => !tel (e.1 * 4096)
    samplers := [], govSeq := [] }

/-- A Moaben link taken down to retrain, its control registers kept (R250, R445). -/
def State.resetLink (s : State) (f : Nat) : State :=
  if s.linkState f = lsDISABLED then s
  else if s.linkLive f then s.moabenDown f lsDETECT
  else s.toDetect f

/-- One subsystem reset, by its bit of CLK_RST_CTL. -/
def State.resetOne (s : State) (b : Nat) : State :=
  if b = 0 then s.resetMgt else if b = 1 then s.resetCul else if b = 2 then s.resetTel else if b = 3 then s.shakeReset
  else s.resetLink (b - 8)

/-- The subsystem bits of CLK_RST_CTL. -/
def subsystems : List Nat := [0, 1, 2, 3, 8, 9, 10, 11, 12, 13, 14, 15]

/-- CLK_RST_CTL written (R444 to R446, R454). -/
def State.subsysReset (s : State) (v : Nat) : State :=
  if !s.alive then s
  else if bit v 31 then s.resetDevice
  else
    let asked := subsystems.filter fun b => bit v b
    let busy := asked.filter fun b => (storeGet none s.board.resets b).isSome
    let todo := asked.filter fun b => (storeGet none s.board.resets b).isNone
    let s := s.bumpBy R.CLK_RST_IGNORED busy.length
    if todo.isEmpty then s
    else
      let s := todo.foldl State.resetOne s
      let s : State := { s with board := { s.board with
        resets := todo.foldl (fun m b => storePut none b (some s.now) m) s.board.resets } }
      (s.bumpBy R.CLK_SUBSYS_RST todo.length).record 0x0403 lvNOTICE none 0x7F (v % 2 ^ 32)

/-- RESET_MGT (R445). -/
def execResetMgt (s : State) : Out := .next (s.subsysReset 1)
/-- RESET_CUL (R445). -/
def execResetCul (s : State) : Out := .next (s.subsysReset 2)
/-- RESET_TEL (R445). -/
def execResetTel (s : State) : Out := .next (s.subsysReset 4)
/-- RESET_SHAKE (R445). -/
def execResetShake (s : State) : Out := .next (s.subsysReset 8)
/-- RESET_LINK: for each link of the mask (R445). -/
def execResetLink (mask : Nat) (s : State) : Out := .next (s.subsysReset (mask % 256 * 256))

/-- SUBSYS_RESET_DONE: the reset of a subsystem is over (R445). -/
def execSubsysResetDone (sub : Nat) (s : State) : Out :=
  if (storeGet none s.board.resets sub).isSome && (sub != 1 || decide (s.cul.lbRst ≤ s.now)) then
    .next { s with board := { s.board with resets := storePut none sub none s.board.resets } }
  else .next s

end Sys2Proof.Machine
end

