-- ==== Sys2Proof/Machine/Map.lean ====
section
/-! DEFINITION. Edits of the window table (R91, R97, R98), the rule sweep (R127 to R131), and the mirror and sample
sessions' own writes (R115, R116, R118). -/

namespace Sys2Proof.Machine

/-! ### Commits (R91, R97, R98) -/

abbrev mapSIZE : Nat := 1
abbrev mapALIGN : Nat := 2
abbrev mapKIND : Nat := 3
abbrev mapTARGET : Nat := 4
abbrev mapXLATE : Nat := 5
abbrev mapENGINE_SIZE : Nat := 6
abbrev mapLOCAL_RANGE : Nat := 7

/-- Is TARGET out of range for a KIND (R90)? -/
def targetBad (kind target : Nat) : Bool :=
  if kind = kPORT then decide (63 < bits target 6 0) || bits target 12 11 != 0
  else if kind = kLOCAL then bits target 12 3 != 0
  else false

/-- Does a LOCAL window reach 2^32 after translation, the sum taken without wrapping (R91)? -/
def localBad (base xlate size : Nat) : Bool := decide (2 ^ 32 ≤ base + xlate + 2 ^ size - 1)

/-- The cause for which a staged entry is refused (R91). -/
def stageCause (e : Nat) : Option Nat :=
  let w : Win := ⟨0, false, e⟩
  if !w.valid then none
  else if w.sizeLog2 < 12 ∨ 52 < w.sizeLog2 then some mapSIZE
  else if w.base % 2 ^ w.sizeLog2 ≠ 0 then some mapALIGN
  else if 4 < w.kind ∨ w.fwd = 3 then some mapKIND
  else if targetBad w.kind w.target then some mapTARGET
  else if w.xlate % 4096 ≠ 0 then some mapXLATE
  else if w.kind = kENGINE ∧ w.sizeLog2 ≠ 16 then some mapENGINE_SIZE
  else if w.kind = kLOCAL ∧ localBad w.base w.xlate w.sizeLog2 = true then some mapLOCAL_RANGE
  else none

/-- The staged entry: MAP_STAGE0 to MAP_STAGE7. -/
def State.staged (s : State) : Nat :=
  (upTo 8).foldl (fun n k => n + (s.reg (R.MAP_STAGE k)).toNat * 2 ^ (32 * k)) 0

/-- A commit of a staged entry: refused with its cause, or in its bank at once (R97, R98). -/
def State.commitEntry (s : State) (index : Nat) (bankB : Bool) (e : Nat) : State :=
  let s := s.fset R.MAP_COMMIT_STS_INDEX index
  match stageCause e with
  | some c => ((s.fset R.MAP_COMMIT_STS_RESULT 3).fset R.MAP_COMMIT_STS_CAUSE c).raise 0x120 1
  | none =>
    let b := ofBool bankB
    -- A lookup of this core cycle sees the old entry (R98).
    let s : State := { s with
      mapOld := some { cycle := s.now + 1, index := index, a := s.tbl 0x120 0 index, b := s.tbl 0x120 1 index } }
    let s := (s.setTbl 0x120 b index (BitVec.ofNat 256 e)).tset 0x120 (1 - b) index 240 237 (bits e 240 237)
    let s := (s.clearFault b index).wroteEntry b index
    (s.fset R.MAP_COMMIT_STS_RESULT 1).fset R.MAP_COMMIT_STS_CAUSE 0

/-- MAP_COMMIT written with GO (R97, R98): a good entry is in its bank at once, and BUSY ends with MAP_COMMIT_DONE. -/
def State.mapCommit (s : State) (index : Nat) (bankB : Bool) : State :=
  if s.fget R.MAP_COMMIT_STS_RESULT = 1 then s.bump R.MAP_COMMIT_COLLIDE else s.commitEntry index bankB s.staged

/-- MAP_COMMIT (R97, R98). -/
def execMapCommit (index : Nat) (bankB : Bool) (s : State) : Out := .next (s.mapCommit (index % 65536) bankB)

/-- MAP_COMMIT_DONE (R98). -/
def execMapCommitDone (s : State) : Out :=
  .next (if s.fget R.MAP_COMMIT_STS_RESULT = 1 then s.fset R.MAP_COMMIT_STS_RESULT 2 else s)

/-! ### The rule sweep (R127 to R131) -/

/-- Older copies not yet gone (ACL_OLD): queued, in transmission, or sent on a Moaben link and not acknowledged; those
of frames that wait after their lookup among them. -/
def State.oldFrames (s : State) : Nat :=
  (s.sw.copies.filter fun c => c.older).length
    + s.sw.waiting.foldl (fun n w => n + (w.copies.filter fun c => c.older).length) 0

/-- Older non-posted requests not yet ended (ACL_OLD, R129): a record stands until its last completion has left and its
reservation is released. -/
def State.oldNp (s : State) : Nat :=
  (s.sw.tags.filter fun t => t.older && !t.engine).length + (s.engTags.filter fun t => t.older).length

/-- Everything stamped before now becomes older (R128). A request that waits for its reservation has not been looked up
yet (R55); one of a Moaben link was stamped as its header arrived (R127). -/
def State.markOlder (s : State) : State :=
  let old (c : Copy) : Copy := { c with older := true }
  { s with
    sw := { s.sw with
      frames := s.sw.frames.map fun f => { f with older := true }
      copies := s.sw.copies.map old
      waiting := s.sw.waiting.map fun w =>
        if w.need = .reservation ∧ isMoaben w.frame.ingress = false then w else { w with frame := { w.frame with older := true }, copies := w.copies.map old }
      tags := s.sw.tags.map fun t =>
        if s.sw.waiting.any (fun w => w.need == .reservation && w.frame.record == some t.id) then t else { t with older := true } }
    engTags := s.engTags.map fun t => { t with older := true } }

/-- ACL_SWEEP written with GO (R128, R131). -/
def State.aclSweep (s : State) (waitNp : Bool) : State :=
  let busy := s.fget R.ACL_SWEEP_STS_STATE == 1
  let before := s.stampEpoch
  let w := waitNp || (busy && s.flag R.ACL_SWEEP_STS_WAIT_NP)
  let s := (s.fset R.ACL_EPOCH_EPOCH ((s.fget R.ACL_EPOCH_EPOCH + 1) % 65536)).markOlder
  let s := ((s.fset R.ACL_SWEEP_STS_STATE 1).fset R.ACL_SWEEP_STS_NP_EXPIRED 0).fset R.ACL_SWEEP_STS_WAIT_NP (ofBool w)
  ({ s with sweep := { start := s.now, waitNp := w, wrote := s.now + 1, before := before } } : State).bump R.ACL_SWEEPS

/-- ACL_SWEEP (R128). -/
def execAclSweep (waitNp : Bool) (s : State) : Out := .next (s.aclSweep waitNp)

/-- SWEEP_NP_TIMEOUT: the sweep no longer waits for older non-posted requests (R129). -/
def execSweepNpTimeout (s : State) : Out :=
  if s.fget R.ACL_SWEEP_STS_STATE == 1 && s.sweep.waitNp
      && decide (s.sweep.start + s.fget R.ACL_SWEEP_CTL_NP_TMO * cyclesPerMs ≤ s.now) then
    let s : State := { s with sweep := { s.sweep with waitNp := false } }
    .next (if s.oldNp = 0 then s else s.fset R.ACL_SWEEP_STS_NP_EXPIRED 1)
  else .next s

/-- Length of the running sweep in units of 4 µs (ACL_SWEEP_STS.ELAPSED), from the last write (log entry 114). -/
def State.sweepElapsed (s : State) : Nat := min 0xFFFF ((s.now - s.sweep.start) / (4 * cyclesPerUs))

/-- SWEEP_DONE: every older copy has gone, and with WAIT_NP every older request ended (R129). -/
def execSweepDone (s : State) : Out :=
  if s.fget R.ACL_SWEEP_STS_STATE == 1 && s.oldFrames == 0 && (!s.sweep.waitNp || s.oldNp == 0) then
    let s := (s.fset R.ACL_SWEEP_STS_STATE 2).fset R.ACL_SWEEP_STS_ELAPSED s.sweepElapsed
    .next (if s.alive then s.raiseAll 0x130 (if s.flag R.ACL_SWEEP_STS_NP_EXPIRED then [1, 2] else [1]) else s)
  else .next s

/-! ### Mirror and sample sessions (R115, R116, R118) -/

/-- MCM_MODE written (R118): a change of MODE, SLOT_LOG2 or RING_LOG2 sets PROD to 0; each field keeps to its range. -/
def State.writeMcmMode (s : State) (k v : Nat) : State :=
  let old := (s.reg (R.MCM_MODE k)).toNat
  let new := min (bits v 1 0) 2 + min (bits v 3 2) 2 * 2 ^ 2 + min (bits v 10 4) 87 * 2 ^ 4 + bits v 15 11 * 2 ^ 11
    + max 8 (min (bits v 19 16) 13) * 2 ^ 16 + max 4 (bits v 23 20) * 2 ^ 20
  let s := s.setReg (R.MCM_MODE k) (BitVec.ofNat 32 new)
  if bits old 1 0 = bits new 1 0 ∧ bits old 23 16 = bits new 23 16 then s else s.fset (R.MCM_PROD_PROD k) 0

/-- MCM_MODE_WRITE (R118). -/
def execMcmModeWrite (session : Nat) (value : W32) (s : State) : Out := .next (s.writeMcmMode (session % 4) value.toNat)

/-- SAMPLE_N_WRITE (R118). -/
def execSampleNWrite (session n : Nat) (s : State) : Out := .next (s.setN (session % 4) (max 1 (min n 16777216)))

/-- A posted write of core port 88 looked up and checked as a request of a partition: the window of KIND PORT it may
leave through, or what the lookup and the gauntlet do with a write they refuse (R94, R95, R115, R116, R120, R124, R294). -/
def State.mirrorWin (s : State) (part : Nat) (a : Nat) (data : List Byte) : State × Option (Win × Nat × Nat) :=
  let t : Tlp := { kind := .memWrite, addr := BitVec.ofNat 64 a, len := data.length, data := data }
  let f := { s.formFrame s.sw.nextId 88 t .management .device with part := some part }
  match s.lookup (some part) 88 t s.time80 s.tb.era with
  | .go (some w) dest => (match dest with
    | .port fid p => (s, some (w, fid, p))
    | .dropped => (s.bump R.MAP_DROP, none)
    | _ => (s, none))
  | .go none .miss => (s.missRefused f, none)
  | .go none _ => (s, none)
  | .overlap i j => (((s.overlapFault f i j).tel 5 88 1 (some f)), none)
  | .denied w c => (s.deny f c w.idx, none)
  | .ecrc _ => (s, none)
  | .badTable es => (s.tablesUe es (some part) 88, none)

/-- One such write sent on its way. -/
def State.mirrorPost (s : State) (w : Win) (fid p a : Nat) (data : List Byte) (why : Purpose) : State :=
  let (id, s) := s.fresh
  let t : Tlp := { kind := .memWrite, addr := BitVec.ofNat 64 a, len := data.length, data := data }
  let f := { s.formFrame id 88 t .management .device with window := w.idx, gate := w.gate, bank := w.bankB, lookedUp := true }
  (s.sendTo f fid p (w.out t.addr) w.fwd none none why).1

/-- The pieces of a slot, 4 KiB at most, with their windows; none when one of them has no window, and the first of those
ends the slot (R115, R116). -/
def State.mirrorPieces (s : State) (part a : Nat) :
    List (List Byte) → State × Option (List (Win × Nat × Nat × Nat × List Byte))
  | [] => (s, some [])
  | d :: ds =>
    match s.mirrorWin part a d with
    | (s, none) => (s, none)
    | (s, some (w, fid, p)) =>
      match s.mirrorPieces part (a + d.length) ds with
      | (s, some xs) => (s, some ((w, fid, p, a, d) :: xs))
      | (s, none) => (s, none)

/-- MIRROR_SLOT_WRITE: the oldest capture of a session goes to its slot, or is dropped (R115, R116). -/
def execMirrorSlotWrite (session : Nat) (s : State) : Out :=
  let k := session % 4
  match (s.session k).captures with
  | [] => .next s
  | c :: rest =>
    if s.poolFree .management < c.cells || s.poolQueue .management then .next s
    else
      let s := s.modSession k fun x => { x with captures := rest }
      let prod := (s.reg (R.MCM_PROD k)).toNat
      let base := s.pair (R.MCM_RING_BASE_LO k) (R.MCM_RING_BASE_HI k)
      let a := base + s.slotBytes k * (prod % 2 ^ s.fget (R.MCM_MODE_RING_LOG2 k))
      let data := leBytes 32 c.header.toNat ++ c.bytes
      match s.mirrorPieces (s.fget (R.MCM_MODE_PART k)) a (chunks 4096 3 data) with
      | (s, none) => .next (s.dropCapture k)
      | (s, some xs) =>
        let s := xs.foldl (fun s x => s.mirrorPost x.1 x.2.1 x.2.2.1 x.2.2.2.1 x.2.2.2.2 (.mirror k)) s
        let s := (s.fset (R.MCM_PROD_PROD k) (prod + 1)).bump (R.MCM_MIRROR_REC k)
        .next (s.modSession k fun x => { x with writeback := true })

/-- MIRROR_WRITEBACK: PROD goes to PIDX_ADDR behind its slots, within the cells of mirror writes; one without a window of
KIND PORT, or denied, is dropped as a capture is (R115, R116, R120). -/
def execMirrorWriteback (session : Nat) (s : State) : Out :=
  let k := session % 4
  if !(s.session k).writeback || s.poolFree .management == 0 || s.poolQueue .management
      || decide (s.fget R.MCM_MIRROR_CELLS_CELLS < s.mirrorCells + 1) then .next s
  else
    let s := s.modSession k fun x => { x with writeback := false }
    let a := s.pair (R.MCM_PIDX_LO k) (R.MCM_PIDX_HI k)
    let data := leBytes 4 (s.reg (R.MCM_PROD k)).toNat
    match s.mirrorWin (s.fget (R.MCM_MODE_PART k)) a data with
    | (s, some (w, fid, p)) => .next (s.mirrorPost w fid p a data (.mirror k))
    | (s, none) => .next (s.dropCapture k)

end Sys2Proof.Machine
end

