-- ==== Sys2Proof/Machine/RegView.lean ====
section
/-! DEFINITION. What registers and table entries read as (R31 to R41, R133, R366): identification, views that hardware
computes, counters and their latches, and the indirect table port (R35, R43 to R45). -/

namespace Sys2Proof.Machine

/-! ### Views that hardware computes -/

/-- 32 bits of a number from bit `lo` on. -/
def word (n lo : Nat) : W32 := BitVec.ofNat 32 (n / 2 ^ lo)

/-- A register's value with one field replaced. -/
def withField (v : W32) (hi lo x : Nat) : W32 := BitVec.ofNat 32 (putBits v.toNat hi lo x)

/-- The banks of the sixteen gate groups as they stand (SLU_GATE_STS). -/
def State.gateBanks (s : State) : Nat := (upTo 16).foldl (fun n g => n + ofBool (s.bankNow g) * 2 ^ g) 0

/-- Rate at which PRBS runs on a unit whose control page lies at an address, 0 while none does: that of an up port of the
octet, else RATE (R282). -/
def State.prbsRun (s : State) (base u : Nat) : Nat :=
  let ctl := (s.reg (base + 0x104)).toNat
  if bits ctl 4 3 = 0 ∨ (s.testUnit u).stopped = true then 0
  else if u < 24 then
    match ((upTo 8).filterMap (s.laneOwner u)).find? fun n => (s.port n).up with
    | some n => s.fget (R.PEP_PORT_STS_RATE n)
    | none => bits ctl 7 5
  else bits ctl 6 5

/-- A register whose value hardware computes; `v` is what it holds stored. -/
def State.blockView (s : State) (r : Requester) (p : PageAt) (v : W32) : W32 :=
  match p.block, p.page, p.off with
  | .mgt, 0, 0x028 => if s.updating then withField v 31 16 ((s.now - s.mgt.updateAt) / cyclesPerMs) else v
  | .mgt, 0, 0x03C => word s.irqPend 0
  | .mgt, 0, 0x040 => word s.irqPend 32
  | .mgt, 0, 0x044 => word s.irqInt 0
  | .cul, 0, 0x024 =>
    let b : BarrierView := storeGet {} s.cul.views (reqNum r)
    word (ofBool b.done + ofBool b.failed * 2 + b.cs * 4) 0
  | .cul, 0, 0x028 => word (storeGet ({} : BarrierView) s.cul.views (reqNum r)).addr 0
  | .buf, 0, 0x034 => word s.ordSize 0
  | .acl, 0, 0x024 => if s.fget R.ACL_SWEEP_STS_STATE = 1 then withField v 31 16 s.sweepElapsed else v
  | .acl, 0, 0x028 => word (min s.oldFrames (2 ^ 20 - 1) + min s.oldNp 4095 * 2 ^ 20) 0
  | .slu, 0, 0x02C => withField v 2 2 (ofBool (s.fget R.SLU_TB_CTL_SRC == 3 && s.refLink.any (·.2)))
  | .slu, 0, 0x040 => word s.gateBanks 0
  | .phy, 1, 0x020 => withField v 18 16 (s.prbsRun (0x901000 + 0x4000 * p.inst) p.inst)
  | .mfl, 3, 0x020 => withField v 18 16 (s.prbsRun (0xA03000 + 0x8000 * p.inst) (24 + p.inst))
  -- An engine that is neither ABORTING nor STOPPED runs while a context is busy or a tag is out (ENG_STS).
  | .eng, _, 0x020 =>
    let busy := decide (0 < s.contexts p.inst) || !(s.tagsOf p.inst).isEmpty
    let v := if bits v.toNat 1 0 < 2 then withField v 1 0 (ofBool busy) else v
    withField (withField v 7 4 (s.contexts p.inst)) 21 12 (s.tagsOf p.inst).length
  | .eng, _, 0x024 => word (s.rbBytes p.inst) 0
  | .eng, _, 0x028 => word (s.raBytes p.inst) 0
  | .vim, _, 0x024 => word (s.instTags p.inst).length 0
  | .buf, 0, o => if 0x020 ≤ o ∧ o < 0x034 then word (s.poolUsed (poolOf ((o - 0x020) / 4))) 0 else v
  | .spvs, _, o =>
    if (o = 0x024 ∨ o = 0x028) ∧ bit v.toNat 3 = true then
      withField v 31 16 (min 65535 ((s.now - ((s.slot p.inst).chan ((o - 0x024) / 4)).ftStart) / cyclesPerUs))
    else v
  | _, _, _ => v

/-- 64-bit values whose low word latches the high one: MGT_MTIME, SLU_FS_LAST, SPV_ENERGY (R321, R366, SLU_FS_LAST_LO):
offset of the low word and the value. -/
def State.wideAt (s : State) (p : PageAt) : Option (Nat × Nat) :=
  let o := p.off / 8 * 8
  match p.block, p.page with
  | .mgt, 0 => if o = 0x048 then some (o, s.mtime % 2 ^ 64) else none
  | .slu, 0 => if o = 0x030 then some (o, match s.fs.last with
      | some t => t.toNat / 65536
      | none => 0) else none
  | .spvs, _ => if o = 0x050 ∨ o = 0x058 then some (o, ((s.slot p.inst).chan ((o - 0x050) / 8)).energy / 100 % 2 ^ 64) else none
  | _, _ => none

/-! ### Latches (R41, R133) -/

/-- The latch of a requester on a page. -/
def State.latchOf (s : State) (r : Requester) (page : Nat) : Latch := storeGet {} s.latches (64 * page + reqNum r)

/-- A low word read: the latch of the page takes the offset and what goes with it, whether it is a counter's or another
register's that latches (R41, R133; log entry 46). -/
def State.takeLatch (s : State) (r : Requester) (page off high : Nat) : State :=
  { s with latches := storePut {} (64 * page + reqNum r) { off := off, high := high, valid := true } s.latches }

/-- What a later word returns: the latched value when the latch holds the same counter, else the current one. -/
def State.latchedOr (s : State) (r : Requester) (page off current : Nat) : Nat :=
  let l := s.latchOf r page
  if l.valid && l.off == off then l.high else current

/-- A 4-byte read of one word of a counter (R41). -/
def State.counterRead (s : State) (r : Requester) (a : Nat) : W32 × State :=
  let base := a / 8 * 8
  let v := s.ctr base
  if a % 8 = 0 then (word v 0, s.takeLatch r (a / 4096) (base % 4096) (v / 2 ^ 32))
  else (word (s.latchedOr r (a / 4096) (base % 4096) (v / 2 ^ 32)) 0, s)

/-- A 4-byte read of a word of the time base (R133): SLU_TB_LO latches all 80 bits. -/
def State.timeRead (s : State) (r : Requester) (off : Nat) : W32 × State :=
  if off = 0x020 then (word s.time80 16, s.takeLatch r 0x150 0x020 s.time80)
  else
    let t := s.latchedOr r 0x150 0x020 s.time80
    (if off = 0x024 then word t 48 else word (t % 65536) 0, s)

/-! ### Reads -/

/-- Do a requester's accesses reach a page? In SAFE hosts reach only the pages R427 names; in RESET and STANDBY none. -/
def State.decodes (s : State) (r : Requester) (a : Nat) : Bool :=
  let page := a / 4096
  (pageAt a).isSome && (match r with
    | .part _ => s.mode != mSAFE || decide (page < 10) || page == 0x50
    | _ => true)

/-- PHY_RX_CTL and MFL_RX_CTL while FREEZE is 0: CTLE and VGA read what adaptation has found, which the spec leaves to
the channel: free values (R285, log entry 3). -/
def State.rxAdapted (s : State) (v : W32) : W32 × State :=
  let (c, s) := s.drawNat
  let (g, s) := s.drawNat
  (withField (withField v 7 4 c) 12 8 g, s)

/-- Is a register one lane's receiver control? -/
def isRxCtl (p : PageAt) : Bool :=
  (p.block == .phy && p.page == 1 && decide (0x180 ≤ p.off) && decide (p.off < 0x1A0))
    || (p.block == .mfl && p.page == 3 && decide (0x180 ≤ p.off) && decide (p.off < 0x1A4))

/-- A 4-byte read of the register space by a requester, with its side effects (R31 to R41). -/
def State.regRead (s : State) (r : Requester) (a : Nat) : W32 × State :=
  if !s.alive then (0, s)
  else if !s.decodes r a then (0, s.bump R.DEV_STRAY_ACCESS)
  else match pageAt a with
    | none => (0, s)
    | some p =>
      let page := a / 4096
      if p.off = 0x000 then (pageId p, s)
      else if p.off = 0x004 then (0x100, s)
      else if p.off = 0x008 then (pageCap p, s)
      else if isCounter p then s.counterRead r a
      else if p.block == .slu && p.page == 0 && decide (0x020 ≤ p.off) && decide (p.off ≤ 0x028) then s.timeRead r p.off
      else if isRxCtl p && !bit (s.reg a).toNat 0 then s.rxAdapted (s.reg a)
      else match s.wideAt p with
        | some (o, v) =>
          if p.off = o then (word v 0, s.takeLatch r page o (v / 2 ^ 32)) else (word (s.latchedOr r page o (v / 2 ^ 32)) 0, s)
        | none => (s.blockView r p (s.reg a), s)

/-- Words read one after the other in ascending order, nothing between them (R34; log entry 2). -/
def State.readWords (s : State) (r : Requester) (a : Nat) : Nat → List W32 × State
  | 0 => ([], s)
  | n + 1 =>
    let x := s.regRead r a
    let y := State.readWords x.2 r (a + 4) n
    (x.1 :: y.1, y.2)

/-- A read of `len` bytes (R33, R34): 8 aligned bytes of a counter, or of the time base at SLU_TB_LO, at once; anything
else in 4-byte reads in ascending order. -/
def State.busRead (s : State) (r : Requester) (a len : Nat) : List Byte × State :=
  let a := a % 2 ^ 24
  let whole := decide (len = 8) && decide (a % 8 = 0) && s.alive && s.decodes r a
  if whole && (pageAt a).any isCounter then (leBytes 8 (s.ctr a), s)
  else if whole && a == R.SLU_TB_LO then (leBytes 8 (s.time80 / 65536), (s.timeRead r 0x020).2)
  else
    let x := s.readWords r (a / 4 * 4) (ceilDiv (a % 4 + len) 4)
    (((x.1.flatMap fun w => leBytes 4 w.toNat).drop (a % 4)).take len, x.2)

/-! ### Table entries -/

/-- The port state table (SWC page 3). -/
def State.portEntry (s : State) (n : Nat) : Nat :=
  let p := s.port n
  (if n < 72 then p.epoch else 0) + ofBool p.flushing * 2 ^ 4 + ofBool p.flushAll * 2 ^ 5 + s.queuedCells n * 2 ^ 8
    + s.weirHeld n * 2 ^ 32

/-- An entry as a READ returns it: computed fields in place, the identity seed hidden (R401), and no more than the
entry's bytes. -/
def State.entryView (s : State) (p : PageAt) (page table index bytes : Nat) : Nat :=
  let v := (s.tbl page table index).toNat
  (match p.block, p.page, table with
   | .swc, 3, 0 => s.portEntry index
   | .tel, 1, 0 => putBits (putBits v 207 192 (s.slotTime index)) 215 208 (s.slotsPending index)
   | .sec, 1, 2 =>
     (upTo 8).foldl (fun n k =>
       let w := 8 * index + k
       n + (if 4 ≤ w ∧ w ≤ 19 then 0 else s.otpWord w) * 2 ^ (32 * k)) 0
   | _, _, _ => v) % 2 ^ (8 * bytes)

/-- How a WRITE to a table ends: refused, clearing the counters it names (R42), or storing fields. -/
inductive TblAccess where
  | denied
  | counters
  /-- Writable and read-only bits; the rest is reserved. -/
  | fields (rw ro : Nat)
  deriving DecidableEq, Repr

/-- Bits [hi:lo] set. -/
def ones (hi lo : Nat) : Nat := (2 ^ (hi - lo + 1) - 1) * 2 ^ lo

/-- Access of each table (R42, R45, R79, R104, R107, R108, R263, R269, R303 to R306, R353, R393, R396, R400, R412). Tables the
spec gives no writable field refuse a WRITE (log entry 38). -/
def tblAccess (b : Block) (page table : Nat) : TblAccess :=
  match b, page, table with
  | .buf, 2, 0 => .fields (ones 133 0 + ones 142 136 + ones 147 144 + ones 156 152) (ones 223 160)
  | .map, 1, 0 => .fields (ones 13 0) 0
  | .map, 2, 0 => .fields (ones 15 0) (ones 16 16)
  | .map, 2, 1 => .fields (ones 10 0) 0
  | .mcm, 0, 0 => .fields (ones 39 0) 0
  | .mcm, 0, 1 => .fields (ones 79 0) 0
  | .cul, 1, 0 => .fields (ones 5 0 + ones 13 8 + ones 63 32) 0
  | .err, 0, 1 => .fields (ones 36 0 + ones 46 40) 0
  | .err, 0, 2 => .fields (ones 133 0) (ones 223 160)
  | .mfl, 2, 0 => .fields (ones 255 0) 0
  | .sec, 3, 0 => .fields (ones 255 0) 0
  | .tel, 0, 0 | .tel, 1, 0 | .tel, 5, 0 => .counters
  | _, _, _ => .denied

/-- A field of an entry held to its range (R5). -/
def clampField (v hi lo lower upper : Nat) : Nat := putBits v hi lo (max lower (min (bits v hi lo) upper))

/-- Fields with a range (R79, R104, R107, R305, R353). -/
def tblClamp (b : Block) (page table v : Nat) : Nat :=
  match b, page, table with
  | .buf, 2, 0 => clampField (clampField v 132 128 4 16) 142 136 0 63
  | .map, 1, 0 => clampField v 9 3 0 63
  | .mcm, 0, 0 => clampField v 7 1 0 88
  | .cul, 1, 0 => clampField v 13 8 8 32
  | .err, 0, 2 => clampField v 132 128 4 12
  | _, _, _ => v

/-- Number of a routing table in error records (R302), by its place. -/
def routingTable (b : Block) (page table : Nat) : Option Nat :=
  match b, page, table with
  | .map, 0, 0 => some 0
  | .map, 0, 1 => some 1
  | .mcm, 0, 0 => some 2
  | .mcm, 0, 1 => some 3
  | .map, 1, 0 => some 4
  | .map, 2, 0 => some 5
  | .map, 2, 1 => some 6
  | .buf, 2, 0 => some 7
  | _, _, _ => none

/-- A WRITE of an entry's fields, with what the entry's chapter makes follow: PROD and LOST restart when EN rises (R79),
a home entry may conflict (R269), an interrupt may be routed anew (R306), an approved list is judged (R258), a routing entry
is whole again (R311). -/
def State.storeEntry (s : State) (p : PageAt) (page table index rw ro v : Nat) : State :=
  let old := (s.tbl page table index).toNat
  let new := tblClamp p.block p.page table (v &&& rw) ||| (old &&& ro)
  let ring := (p.block == .buf && p.page == 2) || (p.block == .err && p.page == 0 && table == 2)
  let new := if ring && bit new 133 && !bit old 133 then putBits new 223 160 0 else new
  let vec := bits new 36 32
  let before := fun q => s.vectorLevel q vec
  if p.block == .mfl then s.authList p.inst index (BitVec.ofNat 256 v)
  else
    let t := s.setTbl page table index (BitVec.ofNat 256 new)
    let t := match routingTable p.block p.page table with
      | some k => (t.clearFault k index).wroteEntry k index
      | none => t
    if p.block == .map && p.page == 2 && table == 1 && bit new 0 && (t.upstreamOf index).isSome then t.raise 0x122 2
    else if p.block == .err && table == 1 && t.pageIrq index then t.sendVectors index before
    else t

/-- An entry of a counter array cleared (R42, R43): all of it, but for SLOT_T and PENDING of the top-down table. -/
def State.clearEntry (s : State) (page table index : Nat) : State := s.setTbl page table index 0

/-! ### The indirect table port (R43, R44) -/

/-- TBL_INDEX, TBL_STS and TBL_DATA of a page. -/
def tblIndexAt (page : Nat) : Nat := page * 4096 + 0xF00
def tblStsAt (page : Nat) : Nat := page * 4096 + 0xF08
def tblDataAt (page k : Nat) : Nat := page * 4096 + 0xF20 + 4 * k

/-- TBL_DATA0 to TBL_DATA7 as one entry. -/
def State.tblData (s : State) (page : Nat) : Nat :=
  (upTo 8).foldl (fun n k => n + (s.reg (tblDataAt page k)).toNat * 2 ^ (32 * k)) 0

def State.setTblData (s : State) (page v : Nat) : State :=
  (upTo 8).foldl (fun s k => s.setReg (tblDataAt page k) (word v (32 * k))) s

/-- TBL_STS: BUSY, DONE, ERR and OWNER. -/
def State.setTblSts (s : State) (page : Nat) (busy done : Bool) (err owner : Nat) : State :=
  s.setReg (tblStsAt page) (word (ofBool busy + ofBool done * 2 + err * 4 + owner * 2 ^ 8) 0)

/-- The operation in progress on a page. -/
def State.tblRun (s : State) (page : Nat) : Option TblRun := storeGet none s.tblRuns page

/-- TBL_OP written (R43, R44): refused while BUSY; a NOP completes at once; the others are under way, with ERR as it stood
(log entry 45). -/
def State.tblOp (s : State) (r : Requester) (page op : Nat) : State :=
  if (s.tblRun page).isSome then s.bump (page * 4096 + 0xEF8)
  else if op % 4 = 0 then s.setTblSts page false true 0 (reqNum r)
  else
    let run : TblRun := { op := op % 4, index := s.reg (tblIndexAt page), data := BitVec.ofNat 256 (s.tblData page), owner := reqNum r }
    let s : State := { s with tblRuns := storePut none page (some run) s.tblRuns }
    s.setTblSts page true false (bits (s.reg (tblStsAt page)).toNat 4 2) (reqNum r)

/-- The end of an operation on an entry in range: the state after it, its ERR, and for reads the data. `c0` and `c1` say
which of the entry's copies is found bad, for an entry held once either means an uncorrectable error (R43, R293). -/
def State.tblEnd (s : State) (p : PageAt) (page : Nat) (run : TblRun) (table index bytes : Nat) (c0 c1 : Bool) :
    State × Nat × Option Nat :=
  let twice := routingTable p.block p.page table
  if run.op = 2 then
    match tblAccess p.block p.page table with
    | .denied => (s, 3, none)
    | .counters => (s.clearEntry page table index, 0, none)
    | .fields rw ro =>
      if p.block == .map && p.page == 1 && decide (run.owner < 32) then (s, 3, none)
      else
        let v := run.data.toNat % 2 ^ (8 * bytes)
        let old := s.entryView p page table index bytes
        -- A reserved field of the entry is not written back as read (R46).
        let s := if (v ^^^ old) &&& (ones (8 * bytes - 1) 0 - (rw ||| ro)) = 0 then s
          else ({ s with undef := some (page * 4096 + 0xF04) } : State)
        (s.storeEntry p page table index rw ro v, 0, none)
  else if run.op = 3 ∧ counterTable p.block p.page table = false then (s, 4, none)
  else
    let v := s.entryView p page table index bytes
    let bad := match twice with
      | some k => (c0 && c1) || s.faulted k index
      | none => c0 || c1
    let s := match twice with
      | some k => if c0 || c1 then s.readEntry k index c0 c1 else s
      | none =>
        if !bad then s
        else if counterTable p.block p.page table then
          -- Of the four counters of a top-down entry, the one that the memory finds bad (log entry 3).
          let d := s.drawNat
          let k := if p.block == .tel && p.page == 1 then d.1 % 4 else 0
          (d.2.tset page table index (48 * k + 47) (48 * k) counterMax).record eCOUNTER_UE lvNOTICE none 0x7F (page * 4096 + 0xF00)
        else s.record eTABLE_UE lvNOTICE none 0x7F (0xFF + index * 2 ^ 8)
    -- The raw bits of a bad entry are not known: a free value (log entry 3).
    let (raw, s) := if bad then (let d := s.drawWord
                                 (d.1.toNat % 2 ^ (8 * bytes), d.2)) else (v, s)
    let s := if run.op = 3 then s.clearEntry page table index else s
    (s, if bad then 2 else 0, some raw)

/-- An operation completes (R43): DONE, ERR and OWNER, and TBL_DATA on reads; one on a table the page does not have ends with
RANGE (log entry 5). -/
def State.tblDone (s : State) (page : Nat) (c0 c1 : Bool) : State :=
  match s.tblRun page, pageAt (page * 4096) with
  | some run, some p =>
    let s : State := { s with tblRuns := storePut none page none s.tblRuns }
    let table := run.index.toNat / 2 ^ 24
    let index := run.index.toNat % 2 ^ 24
    match tableSize p.block p.page table with
    | none => s.setTblSts page false true 1 run.owner
    | some (entries, bytes) =>
      if entries ≤ index then s.setTblSts page false true 1 run.owner
      else
        let (s, err, data) := s.tblEnd p page run table index bytes c0 c1
        let s := match data with
          | some v => s.setTblData page v
          | none => s
        s.setTblSts page false true err run.owner
  | _, _ => s

end Sys2Proof.Machine
end

