-- ==== Sys2Proof/Machine/Serdes.lean ====
section
/-! DEFINITION. SerDes control and test loops (R276 to R288): loops, PRBS, eye scans, host margining, equalisation
redos, and the lane-health governor over both kinds of lane (R254, R255). Unit `u` is octet `u` for u < 24 and Moaben link
`u - 24` otherwise; both have one register layout. What checkers and samplers counted is the commands' observation. -/

namespace Sys2Proof.Machine

/-- Modes in which loops and PRBS are refused (R276). -/
def State.testsRefused (s : State) : Bool :=
  s.mode == mLIMP || s.mode == mSAFE || s.mode == mSTANDBY || s.mode == mRESET

/-- Is a lane idle (R276)? -/
def State.laneIdle (s : State) (u l : Nat) : Bool :=
  if u < 24 then
    match s.laneOwner u l with
    | none => true
    | some n => s.flag (R.PEP_LINK_CTL_DISABLE n)
  else !s.flag ⟨R.MFL_LINK_CTL (u - 24), 0, 0⟩

/-- Lanes of a unit in a loop. -/
def State.loopedLanes (s : State) (u : Nat) : Nat := if s.fget (tfld u 0x100 1 0) = 0 then 0 else s.fget (lanesFld u 0x100)

/-- The link of a lane taken down, unless the lane is idle (R277). -/
def State.downLane (s : State) (u l : Nat) : State :=
  if s.laneIdle u l then s
  else if u < 24 then
    match s.laneOwner u l with
    | some n => s.pcieDown n
    | none => s
  else if s.linkLive (u - 24) then s.moabenDown (u - 24) lsDETECT
  else if s.linkState (u - 24) = lsDISABLED then s
  else s.toDetect (u - 24)

/-- The links of a set of lanes taken down. -/
def State.downLanes (s : State) (u lanes : Nat) : State :=
  (upTo (testLanes u)).foldl (fun s l => if bit lanes l then s.downLane u l else s) s

/-! ### Loops (R276 to R279) -/

/-- A write of PHY_LOOP_CTL or MFL_LOOP_CTL. -/
def State.loopSet (s : State) (u v : Nat) : State :=
  let mode := bits v 1 0
  let lanes := bits v (7 + testLanes u) 8
  if mode != 0 && lanes != 0 && s.testsRefused then (s.fset (tfld u 0x20 22 22) 1).raise (testPage u) 0
  else
    let s := (s.fset (tfld u 0x100 1 0) mode).fset (lanesFld u 0x100) lanes
    let s := s.fset (tfld u 0x20 22 22) 0
    if mode = 0 then s else s.downLanes u lanes

/-- LOOP_SET (R277, R278). -/
def execLoopSet (unit' : Nat) (value : W32) (s : State) : Out := .next (s.loopSet (unit' % 32) value.toNat)

/-- LOOPBACK_ENTRY: a link partner leads a port into Loopback; its link counts as down (R279). -/
def execLoopbackEntry (port : Nat) (s : State) : Out := .next (s.pcieDown (port % 64))

/-- Coefficients in 1/48 of the transmitter of a lane under override: pre-cursor, main cursor, post-cursor; none while the
lane's own training settles them (R283). -/
def State.txOverride (s : State) (k l : Nat) : Option (Nat × Nat × Nat) :=
  let x := (s.reg (testBase k + 0x140 + 4 * l)).toNat
  let used := bit (s.loopedLanes k) l
    || ((s.flag (tfld k 0x104 3 3) || s.flag (tfld k 0x104 4 4)) && bit (s.fget (lanesFld k 0x104)) l && !(s.testUnit k).stopped)
  if bit x 16 && used then some (bits x 3 0, 48 - bits x 3 0 - bits x 12 8, bits x 12 8) else none

/-! ### PRBS (R280 to R282) -/

/-- A write of PHY_PRBS_CTL or MFL_PRBS_CTL: refused by mode when it starts anything, and as a whole outside DIAGNOSTIC when
its lanes include one in use; a generator on a lane in use takes its link down (R276, R280, R282). -/
def State.prbsWrite (s : State) (u v : Nat) : State :=
  let lanes := bits v (7 + testLanes u) 8
  let starts := bits v 4 3 != 0
  let busy := (upTo (testLanes u)).any fun l => bit lanes l && !s.laneIdle u l && !bit (s.loopedLanes u) l
  if starts && s.testsRefused then (s.fset (tfld u 0x20 21 20) 2).raise (testPage u) 0
  else if s.mode != mDIAGNOSTIC && busy then (s.fset (tfld u 0x20 21 20) 1).raise (testPage u) 0
  else
    let s := (s.fset (tfld u 0x104 2 0) (min (bits v 2 0) 4)).fset (tfld u 0x104 4 3) (bits v 4 3)
    let s := if u < 24 then s.fset (tfld u 0x104 7 5) (max 1 (min (bits v 7 5) 6)) else s.fset (tfld u 0x104 6 5) (min (bits v 6 5) 2)
    let s := (s.fset (lanesFld u 0x104) lanes).fset (tfld u 0x20 21 20) 0
    let s := s.fset (tfld u 0x20 8 0) 0
    let s := s.modTest u fun x => { x with
      stopped := false
      gen := if bit v 3 then lanes else if starts then x.gen &&& lanes else 0 }
    if bit v 3 then s.downLanes u (lanes - (lanes &&& s.loopedLanes u)) else s

/-- PRBS_START: the control is written, after what the checkers running until then had counted (R280). -/
def execPrbsStart (unit' : Nat) (value : W32) (counts : List (Nat × Nat)) (s : State) : Out :=
  let u := unit' % 32
  .next ((s.prbsCount u counts).prbsWrite u value.toNat)

/-- Does a checker run on a lane? -/
def State.checking (s : State) (u l : Nat) : Bool :=
  s.flag (tfld u 0x104 4 4) && bit (s.fget (lanesFld u 0x104)) l && !(s.testUnit u).stopped

/-- PRBS_LOCK (R281). -/
def execPrbsLock (unit' lane : Nat) (s : State) : Out :=
  let u := unit' % 32
  let l := lane % testLanes u
  .next (if s.checking u l then s.fset (tfld u 0x20 8 0) (putBits (s.fget (tfld u 0x20 8 0)) l l 1) else s)

/-- PRBS_LOCK_LOST: sixteen errored words of 64, with what the checker counted while locked (R281). -/
def execPrbsLockLost (unit' lane errors units : Nat) (s : State) : Out :=
  let u := unit' % 32
  let l := lane % testLanes u
  if bit (s.fget (tfld u 0x20 8 0)) l then
    let s := s.prbsCount u (List.replicate l (0, 0) ++ [(errors, units)])
    .next ((s.fset (tfld u 0x20 8 0) (putBits (s.fget (tfld u 0x20 8 0)) l l 0)).raise (testPage u) 1)
  else .next s

/-- PRBS_RATE_ABORT: a port of the octet changes rate (R282). -/
def execPrbsRateAbort (octet : Nat) (counts : List (Nat × Nat)) (s : State) : Out :=
  let k := octet % 24
  .next ((s.prbsCount k counts).prbsAbort k)

/-! ### Eye scans and margining (R286, R287) -/

abbrev eyBUSY : Nat := 1
abbrev eyDONE : Nat := 2
abbrev eyENDED : Nat := 3

/-- A scan ends with a state, cause and errors. -/
def State.eyeEnd (s : State) (u st cause errors : Nat) : State :=
  let s := (s.fset (tfld u 0x24 1 0) st).fset (tfld u 0x24 3 2) cause
  (s.fset (tfld u 0x24 31 8) (min errors (2 ^ 24 - 1))).raise (testPage u) 2

/-- A two's complement field value clamped to ±m, encoded in 7 bits. -/
def clamp7 (m v : Nat) : Nat := ((clampInt m (signedOf 7 v)) % 128).toNat

/-- The RW fields of EYE_CTL (R5). -/
def State.eyeFields (s : State) (u v : Nat) : State :=
  let s := s.fset (tfld u 0x10C 3 0) (min (bits v 3 0) (testLanes u - 1))
  let s := (s.fset (tfld u 0x10C 14 8) (clamp7 32 (bits v 14 8))).fset (tfld u 0x10C 22 16) (clamp7 50 (bits v 22 16))
  (s.fset (tfld u 0x10C 27 24) (bits v 27 24)).fset (tfld u 0x10C 29 28) (min (bits v 29 28) 2)

/-- GO: the scan starts, or ends at once (R287). A GO during a scan finds the sampler taken and does nothing. -/
def State.eyeGo (s : State) (u : Nat) (signal : Bool) : State :=
  let l := s.fget (tfld u 0x10C 3 0)
  if s.fget (tfld u 0x24 1 0) = eyBUSY then s
  else if (s.testUnit u).margin.contains l then s.eyeEnd u eyENDED 1 0
  else if !signal then s.eyeEnd u eyENDED 3 0
  else
    let s := (s.fset (tfld u 0x24 1 0) eyBUSY).fset (tfld u 0x24 3 2) 0
    (s.fset (tfld u 0x24 31 8) 0).modTest u fun x => { x with scanLane := l }

/-- EYE_SCAN_START: EYE_CTL written with GO, with or without a signal at the lane (R287). -/
def execEyeScanStart (unit' : Nat) (value : W32) (signal : Bool) (s : State) : Out :=
  let u := unit' % 32
  .next ((s.eyeFields u value.toNat).eyeGo u signal)

/-- A running scan ends with the errors counted so far. -/
def State.eyeStop (s : State) (u st cause errors : Nat) : State :=
  if s.fget (tfld u 0x24 1 0) = eyBUSY then s.eyeEnd u st cause errors else s

/-- EYE_SCAN_STOP (R287). -/
def execEyeScanStop (unit' errors : Nat) (s : State) : Out := .next (s.eyeStop (unit' % 32) eyENDED 0 errors)

/-- EYE_SCAN_DONE: the dwell is over, or the lane has lost its signal and the scan ends (R287). -/
def execEyeScanDone (unit' : Nat) (scan : ScanResult) (s : State) : Out :=
  .next (if scan.signal then s.eyeStop (unit' % 32) eyDONE 0 scan.errors else s.eyeStop (unit' % 32) eyENDED 3 scan.errors)

/-- What a receiver's margining capabilities are, by the payload of the command that asks for one (R286, log entry 103):
capability bits, voltage and timing steps, their offsets in % of a UI and of a volt, sampling rates, and lanes less one. -/
def marginReport (lanes payload : Nat) : Option Nat :=
  match payload with
  | 0x88 => some 0x1F
  | 0x89 => some 50
  | 0x8A => some 32
  | 0x8B => some 50
  | 0x8C => some 25
  | 0x8D => some 63
  | 0x8E => some 63
  | 0x90 => some (lanes - 1)
  | _ => none

/-- Lane of its port that a lane of an octet is (R209). -/
def State.portLane (s : State) (k l : Nat) : Nat :=
  match s.octetMode k with
  | 0 => l
  | 4 => k % 2 * 8 + l
  | 1 => l % 4
  | 2 => if l < 4 then l else l % 2
  | _ => l % 2

/-- LANE_MARGIN_COMMAND: a host's margining command becomes active on a lane, pre-empting a scan there, or ends. `answer.report` is
its payload: one that asks for a capability is answered as the part has it, and any other command with what the sampler
reports, the worst of the three eyes at 64 GT/s (R286, R287). Lane control and status of the port's bridge show the command
and its answer. -/
def execLaneMarginCommand (octet lane : Nat) (active : Bool) (errors : Nat) (answer : MarginAnswer)
    (s : State) : Out :=
  let u := octet % 24
  let l := lane % 8
  let s := if active && (s.testUnit u).scanLane == l then s.eyeStop u eyENDED 2 errors else s
  let s := s.modTest u fun x => { x with
    margin := if active then (if x.margin.contains l then x.margin else x.margin ++ [l]) else x.margin.filter (· != l) }
  let port := s.laneOwner u l
  let pam4 := port.any fun n => s.fget (R.PEP_PORT_STS_RATE n) == 6
  let seen := if pam4 then (answer.seen.take 3).foldl max 0 else answer.seen.headD 0
  let asks := if answer.type = 1 then marginReport (port.elim 1 s.portWidth) answer.report else none
  let w := asks.getD seen
  let s := match port with
    | some n => if active then
        s.setCfg (s.portFn n) (0x1B8 + 4 * s.portLane u l) (BitVec.ofNat 32
          (answer.receiver % 8 + answer.type % 8 * 8 + answer.report % 256 * 256
            + (answer.receiver % 8 + answer.type % 8 * 8 + w % 256 * 256) * 65536))
      else s
    | none => s
  .next { s with answer := .words [BitVec.ofNat 32 w] }

/-! ### Equalisation (R255, R288) -/

/-- A redo of a port's equalisation: counted at its octet, reported and logged; DL_Active is kept. -/
def State.eqRedo (s : State) (k l n measure : Nat) : State :=
  if !s.flag (R.PEP_PORT_STS_DL_ACTIVE n) then s
  else
    let s := s.modPort n fun p => { p with redoAt := some s.now, redoing := true }
    ((s.bump (R.PHY_REEQ k)).raise (0x901 + 4 * k) 3).govLog gLANE aREEQ (k * 16 + l) 0 0 measure

/-- REDO written with SUBPORT: the port of that sub-port, whatever REEQ_HOLD (R288). -/
def State.eqRequest (s : State) (k sub : Nat) : State :=
  let s := s.fset (R.PHY_EQ_CTL_SUBPORT k) sub
  match (upTo 8).find? fun l => laneSub (s.octetMode k) l == sub && (s.laneOwner k l).isSome with
  | some l => match s.laneOwner k l with
    | some n => s.eqRedo k l n 0
    | none => s
  | none => s

/-- EQ_REDO (R288). -/
def execEqRedo (octet sub : Nat) (s : State) : Out := .next (s.eqRequest (octet % 24) (sub % 4))

/-- EQ_REDO_TIMEOUT: a redo has not returned the port to L0 within 50 ms: it retrains from Detect (R288). -/
def execEqRedoTimeout (port : Nat) (s : State) : Out :=
  let n := port % 64
  let p := s.port n
  if p.redoing && p.redoAt.any fun t => decide (t + 50 * cyclesPerMs ≤ s.now) then
    .next ((s.modPort n fun p => { p with redoing := false }).pcieDown n)
  else .next s

/-- The governor's evaluation of one octet; enable and HYST are those of link 0's register (R255; log entry 29). -/
def State.octetGov (s : State) (k : Nat) (seen : List Nat) : State :=
  let x := s.testUnit k
  let bins := (seen :: x.bins).take 10
  let r := (upTo 8).map (laneSum bins)
  let thr := s.fget (R.PHY_EQ_CTL_REEQ_THR k)
  let en := s.flag (R.MFL_LANE_GOV_EN 0)
  let hot := (upTo 8).map fun l => if en && decide (thr ≤ r.getD l 0) then x.hot.getD l 0 + 1 else 0
  let s := s.modTest k fun x => { x with bins := if bins.all (fun b => b.all (· == 0)) then [] else bins, hot := hot }
  if !en then s
  else (upTo 8).foldl (fun s l =>
    match s.laneOwner k l with
    | some n =>
      let free := (s.port n).redoAt.all fun t => decide (t + s.fget (R.PHY_EQ_CTL_REEQ_HOLD k) * cyclesPerS ≤ s.now)
      if decide (s.fget (R.MFL_LANE_GOV_HYST 0) ≤ hot.getD l 0) && free && decide (0 < hot.getD l 0) then s.eqRedo k l n (r.getD l 0)
      else s
    | none => s) s

/-- LANE_GOV_TICK: every 100 ms both halves of the governor; the receiver errors that PCIe lanes met since the last one
are (octet × 8 + lane, count) (R254, R255, R288). -/
def execLaneGovTick (errors : List (Nat × Nat)) (s : State) : Out :=
  if storeGet 0 s.govAt gLANE + 100 * cyclesPerMs ≤ s.now then
    let s : State := { s with govAt := storePut 0 gLANE s.now s.govAt }
    let s := errors.foldl (fun s e =>
      let s := s.bumpBy (R.PHY_RX_ERR (e.1 / 8 % 24) (e.1 % 8)) e.2
      -- A receiver error is logged at the bridge of the lane's port (R217); FEC corrects those of Flit Mode (R288).
      match s.laneOwner (e.1 / 8 % 24) (e.1 % 8) with
      | some n => if e.2 = 0 || s.flag (R.PEP_PORT_STS_FLIT n) then s else s.portCorrected n aerReceiver
      | none => s) s
    let s := (upTo 8).foldl State.laneGov s
    .next ((upTo 24).foldl (fun s k =>
      s.octetGov k ((upTo 8).map fun l => (errors.filter fun e => e.1 == 8 * k + l).foldl (fun n e => n + e.2) 0)) s)
  else .next s

end Sys2Proof.Machine
end

