-- ==== Sys2Proof/Machine/RegBus.lean ====
section
/-! DEFINITION. Writes of the register space (R5, R12, R31 to R49, R194, R319, R324): fields stored within their ranges,
actions of write-only fields, and the commands of chapter 2 that read and write registers. -/

namespace Sys2Proof.Machine

/-! ### Fields (R5, R12, R46) -/

/-- A field's value held to its range, two's complement for signed fields (R5). -/
def clampTo (f : FieldSpec) (x : Nat) : Nat :=
  let w := f.hi - f.lo + 1
  let y : Int := if f.signed then signedOf w x else x
  ((max f.min (min y f.max)) % 2 ^ w).toNat

/-- Bits that no field of a register covers. -/
def reservedBits (fs : List FieldSpec) : Nat := ones 31 0 - fs.foldl (fun n f => n + ones f.hi f.lo) 0

/-- A register after a write: RW fields take the value, a lockable one only before its first write; the rest is kept. -/
def storeFields (fs : List FieldSpec) (locked : Bool) (old v : Nat) : Nat :=
  fs.foldl (fun n f =>
    match f.acc with
    | .rw => putBits n f.hi f.lo (clampTo f (bits v f.hi f.lo))
    | .lck => if locked then n else putBits n f.hi f.lo (clampTo f (bits v f.hi f.lo))
    | _ => n) old

/-- Has a register a field that is written once (R12)? -/
def lockable (a : Nat) : Bool := (regSpec a).any fun r => r.fields.any fun f => f.acc == .lck

/-- The plain part of a write: fields stored, and a changed reserved field noted (R46). -/
def State.storeReg (s : State) (a : Nat) (v : W32) : State :=
  match regSpec a with
  | none => s
  | some r =>
    let old := s.reg a
    let t := s.setReg a (BitVec.ofNat 32 (storeFields r.fields (storeGet false s.sec.locked a) old.toNat v.toNat))
    let t : State := if lockable a then { t with sec := { t.sec with locked := storePut false a true t.sec.locked } } else t
    if (old ^^^ v).toNat &&& reservedBits r.fields = 0 then t else { t with undef := some a }

/-! ### Who may write (R104, R194, R319, R324, R402) -/

/-- Is a write of a requester without effect? VIM pages belong to their manager, MGT pages to the management complex but
for a partition's own host command registers, an MPU region to its pair and the debug master while it is not locked, and
SEC_OTP_PROG to the management complex. -/
def State.writeBarred (s : State) (r : Requester) (p : PageAt) : Bool :=
  match p.block, r with
  | .vim, .part k => s.fget (R.VIM_INST_OWNER_MGR_PART p.inst) != k.val
  | .mgt, .part k => !(p.page == 2 && decide (0x200 + 16 * k.val ≤ p.off) && decide (p.off ≤ 0x208 + 16 * k.val))
  | .mgt, _ =>
    if p.page == 1 && decide (0x200 ≤ p.off) && decide (p.off < 0x600) then
      let i := (p.off - 0x200) / 0x200
      s.flag (R.MGT_MPU_CFG_LOCK i ((p.off - 0x200) % 0x200 / 16)) || (r == .mgmt && s.activePair != i)
    else false
  | .sec, .part _ => p.page == 2 && p.off == 0x100
  | .sec, .debug => p.page == 2 && p.off == 0x100
  | _, _ => false

/-- Writes without effect that are counted (R194, R324). -/
def State.countForeign (s : State) (r : Requester) (p : PageAt) : State :=
  match p.block, r with
  | .vim, .part _ => s.bump (R.VIM_FOREIGN_WR p.inst)
  | .mgt, .part _ => s.bump R.MGT_FOREIGN_WR
  | _, _ => s

/-! ### Actions of writes -/

/-- DEV_PWRLOSS_CLR: the capture is cleared, LOSSES stays (R344). -/
def State.pwrlossClear (s : State) : State :=
  let s := s.setReg R.DEV_PWRLOSS_STS (withField 0 31 24 (s.fget R.DEV_PWRLOSS_STS_LOSSES))
  ((s.setReg R.DEV_PWRLOSS_POSTED 0).setReg R.DEV_PWRLOSS_TB_LO 0).setReg R.DEV_PWRLOSS_TB_HI 0

/-- MAP_SELF is ignored in FABRIC mode (R105). -/
def State.writeSelf (s : State) (a : Nat) (v : W32) : State := if s.mode = mFABRIC then s else s.storeReg a v

/-- MGT_WDOG written: a watchdog that starts to run has its full period (R327, log entry 36). -/
def State.wdogSet (s : State) (a : Nat) (v : W32) : State :=
  let was := s.flag R.MGT_WDOG_EN
  let s := s.storeReg a v
  if was || !s.flag R.MGT_WDOG_EN then s else { s with mgt := { s.mgt with kickAt := s.now, warned := false } }

/-- PHY_TX_OVR: PRE + POST above 18 stores POST = 18 − PRE (R283). -/
def State.writeTxOvr (s : State) (a : Nat) (v : W32) : State :=
  let s := s.storeReg a v
  let w := (s.reg a).toNat
  if 18 < bits w 3 0 + bits w 12 8 then s.setReg a (withField (s.reg a) 12 8 (18 - bits w 3 0)) else s

/-- VIM_INST_OWNER: TENANT_PART and FUNC only while the instance is FREE, MGR_PART not by partitions (R194). -/
def State.writeOwner (s : State) (r : Requester) (i a : Nat) (v : W32) : State :=
  let old := (s.reg a).toNat
  let v := v.toNat
  let v := if s.instState i = iFREE then v else putBits (putBits v 4 0 (bits old 4 0)) 15 8 (bits old 15 8)
  let v := match r with
    | .part _ => putBits v 28 24 (bits old 28 24)
    | _ => v
  s.storeReg a (BitVec.ofNat 32 v)

/-- A bus write of an eye-scan control: GO looks for a signal, which no register tells: a free choice (log entry 3). -/
def State.writeEye (s : State) (u a : Nat) (v : W32) : State :=
  let s := s.storeReg a v
  -- What the sampler counted until then is its own (R287).
  let s := if bit v.toNat 5 then (let d := s.drawNat; d.2.eyeStop u eyENDED 0 d.1) else s
  if bit v.toNat 4 then
    let d := s.drawNat
    d.2.eyeGo u (d.1 % 2 == 1)
  else s

/-- PEP_LINK_CTL: the fields, then DISABLE's change and HOT_RESET (R82, R216). -/
def State.writePepLink (s : State) (n a : Nat) (v : W32) : State :=
  let was := s.flag (R.PEP_LINK_CTL_DISABLE n)
  let s := s.storeReg a v
  let s := if s.flag (R.PEP_LINK_CTL_DISABLE n) && !was then s.pcieDisable n else s
  let s := s.rateFalls n
  if bit v.toNat 1 then s.hotReset n else s

/-- MFL_LINK_CTL: SPEED and WIDTH, then ENABLE's change, RETRAIN and CHANGE (R247, R250, R252, R257). -/
def State.writeMflLink (s : State) (f a : Nat) (v : W32) : State :=
  let was := s.flag (R.MFL_LINK_CTL_ENABLE f)
  let s := s.storeReg a (withField v 0 0 (ofBool was))
  let s := if bit v.toNat 0 then (if was then s else s.linkEnable f) else if was then s.linkDisable f else s
  let s := if bit v.toNat 1 then s.startRetrain f else s
  if bit v.toNat 2 then s.linkChange f else s

/-- CUL_CTL (R355, R359, R360). -/
def State.writeCulCtl (s : State) (a : Nat) (v : W32) : State :=
  let s := s.storeReg a v
  let s := if bits v.toNat 15 8 = 0 then s else s.culRevive (bits v.toNat 15 8)
  if bit v.toNat 0 then s.culWarm else s

/-- ENG_CTL (R182 to R184). -/
def State.writeEngCtl (s : State) (e a : Nat) (v : W32) : State :=
  let s := s.storeReg a v
  let s := if bit v.toNat 0 then s.abortEngine e else s
  if bit v.toNat 1 then s.engineRestart e else s

/-- SPV_CH_CTL (R369, R370). -/
def State.writeChCtl (s : State) (n c a : Nat) (v : W32) : State :=
  let was := s.flag (R.SPV_CH_CTL_FORCE_ON n c)
  let on := bit v.toNat 1
  let s := s.storeReg a (withField v 1 1 (ofBool was))
  if on = was then s else s.writeForce n c on

/-- ERR_INJECT (R300). -/
def State.writeInject (s : State) (a : Nat) (v : W32) : State :=
  let s := s.storeReg a v
  if bit v.toNat 31 then s.armInject (bits v.toNat 1 0) (bits v.toNat 14 8) (bits v.toNat 19 16) else s

/-- SLU_TB_CTL: a change of SRC starts the discipline afresh (R135). -/
def State.writeTbCtl (s : State) (a : Nat) (v : W32) : State :=
  let old := s.fget R.SLU_TB_CTL_SRC
  (s.storeReg a v).sourceChanged old

/-- Does a reserved field of a register change under a write? For registers whose writes do not go through `storeReg`. -/
def State.noteReserved (s : State) (a : Nat) (v : W32) : State :=
  match regSpec a with
  | none => s
  | some r => if (s.reg a ^^^ v).toNat &&& reservedBits r.fields = 0 then s else { s with undef := some a }

/-- Registers of the device, clock, security and management blocks whose writes act. -/
def State.writeCtlA (s : State) (r : Requester) (p : PageAt) (a : Nat) (v : W32) : Option State :=
  let x := v.toNat
  match p.block, p.page, p.off with
  | .dev, 0, 0x100 => some (if bit x 31 then s.modeRequest (bits x 11 8) else s)
  | .dev, 1, 0x100 => some (if bit x 0 then s.pwrlossClear else s)
  | .clk, 0, 0x100 => some (s.subsysReset x)
  | .sec, 2, 0x100 => some (if bit x 31 then s.otpProgram (bits x 10 0) else s)
  | .sec, 2, 0x108 => some (if bit x 31 then s.lifecycleAdvance (bits x 2 0) else s)
  | .sec, 2, 0x114 => some (if bit x 31 then s.imageVerify (bits x 1 0) else s)
  | .sec, 2, 0x140 => some (if bit x 31 then s.measExt (bits x 2 0) else s)
  | .sec, 3, 0x100 => some (if bit x 31 then s.debugUnlock (bits x 15 0) else s)
  | .mgt, 0, 0x100 => some (if bit x 0 then s.failover pcSWAP else s)
  | .mgt, 0, 0x10C => some (s.wdogSet a v)
  | .mgt, 0, 0x110 => some (if bit x 0 then s.wdogKick else s)
  | .mgt, 0, 0x114 =>
    let s := if bit x 2 then s.updateDone else s
    some (if bit x 0 then s.updateStart (bits x 1 1) else s)
  | .mgt, 0, 0x128 => some (s.storeReg a v).timerShow
  | .mgt, 0, 0x12C => some (s.storeReg a v).timerShow
  | .mgt, 2, 0x100 => some (if bit x 31 then s.mbxRetire (bits x 4 0) else s)
  | .mgt, 2, 0x104 => some (if bit x 31 then s.hcmdTake (bits x 4 0) else s)
  | .mgt, 2, o => if 0x200 ≤ o ∧ o < 0x400 ∧ o % 16 = 8 then some (s.hcmdDoorbell ((o - 0x200) / 16 % 32)) else none
  | .mgt, 3, 0x100 => some (s.sqHead (bits x 11 0))
  | .cul, 0, 0x100 => some (if bit x 0 then s.culBarrier r else s)
  | .cul, 0, 0x108 => some (s.writeCulCtl a v)
  | _, _, _ => none

/-- Registers of slot power, telemetry, errors and the switch core whose writes act. -/
def State.writeCtlB (s : State) (p : PageAt) (a : Nat) (v : W32) : Option State :=
  let x := v.toNat
  match p.block, p.page, p.off with
  | .spv, 0, 0x104 => some (s.spvEvent (.latchClear (bits x 23 0)))
  | .spvs, _, 0x100 => some (s.writeSlotCtl p.inst (bit x 0))
  | .spvs, _, 0x104 => some (s.spvEvent (.measClear p.inst x))
  | .spvs, _, 0x110 => some (s.writeChCtl p.inst 0 a v)
  | .spvs, _, 0x130 => some (s.writeChCtl p.inst 1 a v)
  | .tel, 2, 0x180 => some (s.histSnap (bits x 15 0) (bit x 16))
  | .tel, 2, o => if 0x100 ≤ o ∧ o < 0x180 then some (s.histConfig ((o - 0x100) / 8) (o % 8 == 4) x) else none
  | .tel, 3, o =>
    if 0x100 ≤ o ∧ o < 0x120 then
      some (if o % 8 = 0 then s.samplerCtl ((o - 0x100) / 8) x else s.samplerN ((o - 0x100) / 8) (min (bits x 23 0) 16777215))
    else none
  | .err, 0, 0x100 =>
    let s := s.storeReg a v
    some (if bit x 11 then s.fset R.ERR_STS_FATAL_VALID 0 else s)
  | .err, 0, 0x108 => some (if bit x 0 then s.isolateExit else s)
  | .err, 0, 0x10C => some (s.writeInject a v)
  | .swc, 2, _ => some (s.storeReg a v).updateXoff
  | .buf, 0, 0x100 => some (s.livePool (bits x 17 0))
  | .buf, 0, 0x104 => some (s.cplPool (bits x 17 0))
  | .buf, 1, 0x104 => some (if bit x 8 then s.bankRetire (bits x 4 0) else s)
  | .map, 0, 0x120 => some (if bit x 31 then s.mapCommit (bits x 15 0) (bit x 16)
      else if s.fget R.MAP_COMMIT_STS_RESULT = 1 then s.bump R.MAP_COMMIT_COLLIDE else s)
  | .map, 0, 0x134 => some (s.writeSelf a v)
  | .acl, 0, 0x100 => some (if bit x 0 then s.aclSweep (bit x 1) else s)
  | .mcm, 1, o =>
    if 0x100 ≤ o ∧ o < 0x180 ∧ o % 32 = 0 then some (s.writeMcmMode ((o - 0x100) / 32) x)
    else if 0x100 ≤ o ∧ o < 0x180 ∧ o % 32 = 0x14 then some (s.setN ((o - 0x100) / 32) (max 1 (min (bits x 24 0) 16777216)))
    else none
  | _, _, _ => none

/-- Registers of the sluice, engines, instances, ports and links whose writes act. -/
def State.writeCtlC (s : State) (r : Requester) (p : PageAt) (a : Nat) (v : W32) : Option State :=
  let x := v.toNat
  match p.block, p.page, p.off with
  | .slu, 0, 0x100 => some (s.writeTbCtl a v)
  | .slu, 0, 0x10C => some (if bit x 0 then s.tbSet else s)
  | .slu, 0, 0x124 => some (if bit x 31 then s.gateForce (bits x 3 0) (bit x 4) else s)
  | .slu, 1, o =>
    if 0x100 ≤ o ∧ o < 0x500 then
      let g := (o - 0x100) / 64
      let k := o % 64 / 16
      some (if o % 16 = 12 then s.writeArmCtl g k x else s.writeArmWord g k (o % 16 / 4) x)
    else none
  | .eng, _, 0x100 => some (s.writeEngCtl p.inst a v)
  | .vim, _, 0x100 => some (s.writeOwner r p.inst a v)
  | .vim, _, 0x104 => some (s.writeInstCtl p.inst x)
  | .vim, _, 0x108 => some (s.writeInstRing p.inst x)
  | .pep, 0, 0x100 => some (s.writePortCtl p.inst x)
  | .pep, 0, 0x104 => some (s.writePepLink p.inst a v)
  | .phy, 0, 0x100 => some (s.writeOctet p.inst true x)
  | .phy, 0, 0x104 => some (s.writeOctet p.inst false x)
  | .phy, 1, 0x100 => some (s.loopSet p.inst x)
  | .phy, 1, 0x104 => some (s.prbsWrite p.inst x)
  | .phy, 1, 0x108 =>
    let s := s.storeReg a v
    some (if bit x 31 then s.eqRequest p.inst (bits x 29 28) else s)
  | .phy, 1, 0x10C => some (s.writeEye p.inst a v)
  | .phy, 1, o => if 0x140 ≤ o ∧ o < 0x160 then some (s.writeTxOvr a v) else none
  | .mfl, 0, 0x100 => some (s.writeMflLink p.inst a v)
  | .mfl, 1, 0x100 =>
    let v := withField v 3 0 (nearestOf 7 15 (bits x 3 0))
    some (if bit x 8 then s.spareMap p.inst (bits v.toNat 3 0) else s.storeReg a v)
  | .mfl, 2, 0x100 =>
    let s := s.authEn p.inst (bits x 15 0)
    some (if bit x 16 then s.dropChain p.inst else s)
  | .mfl, 3, 0x100 => some (s.loopSet (24 + p.inst) x)
  | .mfl, 3, 0x104 => some (s.prbsWrite (24 + p.inst) x)
  | .mfl, 3, 0x10C => some (s.writeEye (24 + p.inst) a v)
  | _, _, _ => none

/-- A block register written: the register's action where it has one, its fields otherwise. -/
def State.writeBlock (s : State) (r : Requester) (p : PageAt) (a : Nat) (v : W32) : State :=
  let acted := match s.writeCtlA r p a v with
    | some t => some t
    | none => match s.writeCtlB p a v with
      | some t => some t
      | none => s.writeCtlC r p a v
  match acted with
  | some t => if (s.noteReserved a v).undef.isSome && t.undef.isNone then { t with undef := some a } else t
  | none => s.storeReg a v

/-- EVT_MASK: an event newly enabled may assert the page interrupt (R38, R217). -/
def State.writeMask (s : State) (page : Nat) (v : W32) : State :=
  let vec := s.tget 0x50 1 page 36 32
  let before := fun q => s.vectorLevel q vec
  let t := s.setReg (page * 4096 + 0x18) (BitVec.ofNat 32 (v.toNat % 65536))
  let t := if t.pageIrq page then t.sendVectors page before else t
  if v.toNat < 65536 then t else { t with undef := some (page * 4096 + 0x18) }

/-- The indirect table port of a page that has one (R35, R43). -/
def State.writePort (s : State) (r : Requester) (page off : Nat) (v : W32) : State :=
  if off = 0xF00 then s.setReg (tblIndexAt page) v
  else if off = 0xF04 then
    let t := s.tblOp r page (v.toNat % 4)
    if v.toNat < 4 then t else { t with undef := some (page * 4096 + 0xF04) }
  else if 0xF20 ≤ off ∧ off < 0xF40 then s.setReg (page * 4096 + off) v
  else s

/-- Lockable registers of one core cycle: firmware's write is the one stored though the debug master's came first (R49,
R416). -/
def State.lckOrder (s : State) (r : Requester) (a : Nat) : State :=
  if r = .mgmt ∧ storeGet 0 s.sec.debugLocks a = s.now + 1 then
    { s with sec := { s.sec with locked := storePut false a false s.sec.locked, debugLocks := storePut 0 a 0 s.sec.debugLocks } }
  else if r = .debug ∧ lockable a = true ∧ storeGet false s.sec.locked a = false then
    { s with sec := { s.sec with debugLocks := storePut 0 a (s.now + 1) s.sec.debugLocks } }
  else s

/-- A 4-byte write of the register space by a requester (R12, R31, R35, R37, R42). -/
def State.regWrite (s : State) (r : Requester) (a : Nat) (v : W32) : State :=
  if !s.alive then s
  else if !s.decodes r a then s.bump R.DEV_STRAY_ACCESS
  else match pageAt a with
    | none => s
    | some p =>
      let page := a / 4096
      if s.writeBarred r p then s.countForeign r p
      else if p.off = 0x014 then s.evtClear page (v.toNat % 65536) (v.toNat / 65536)
      else if p.off = 0x018 then s.writeMask page v
      else if isCounter p then (if a % 8 = 0 then s.setCtr a 0 else s)
      else if 0xF00 ≤ p.off then (if pageNtbl p.block p.page = 0 then s else s.writePort r page p.off v)
      else (s.lckOrder r a).writeBlock r p a v

/-- Words written one after the other in ascending order (R34). -/
def State.writeWords (s : State) (r : Requester) (a : Nat) : List W32 → State
  | [] => s
  | w :: ws => State.writeWords (s.regWrite r a w) r (a + 4) ws

/-- A write of fewer than 4 bytes of a register: ignored and counted, or stray (R31, R33). -/
def State.partialWrite (s : State) (r : Requester) (a : Nat) : State :=
  if s.decodes r a then s.bump R.DEV_PARTIAL_WRITE else s.bump R.DEV_STRAY_ACCESS

/-- The 4-byte words of a byte string. -/
def wordsOf (bs : List Byte) : List W32 :=
  (upTo (bs.length / 4)).map fun k => BitVec.ofNat 32 (leNat ((bs.drop (4 * k)).take 4))

/-- A write of bytes (R33, R34): whole aligned words in ascending order, and the pieces before and after them. -/
def State.busWrite (s : State) (r : Requester) (a : Nat) (bs : List Byte) : State :=
  let a := a % 2 ^ 24
  let skip := min bs.length ((4 - a % 4) % 4)
  let rest := bs.drop skip
  let tail := rest.length % 4
  let s := if skip = 0 then s else s.partialWrite r a
  let s := s.writeWords r (a + skip) (wordsOf rest)
  if tail = 0 then s else s.partialWrite r (a + skip + (rest.length - tail))

/-- The end of a command that may write registers: a fault where a reserved field was changed, since the spec gives the
device no behaviour from there on (R46). -/
def State.finish (s : State) : Out :=
  match s.undef with
  | some a => .fault (.reservedFieldChanged a)
  | none => .next s

/-- A read whose words the command's requester receives; the debug master's is retired behind its earlier reads (R335). -/
def State.answerRead (r : Requester) (x : W32 × State) : State :=
  if r == .debug && x.2.coreReads.any fun y => y.why == .debug then x.2.debugGives (leBytes 4 x.1.toNat)
  else { x.2 with answer := .words [x.1] }

/-! ### The commands -/

/-- REGISTER_WRITE: a 4-byte write reaches its page (R48). -/
def execRegisterWrite (r : Requester) (addr : Nat) (value : W32) (s : State) : Out :=
  (s.regWrite r (addr % 2 ^ 24 / 4 * 4) value).finish

/-- STRAY_ACCESS: an access to a page that is not implemented (R31). -/
def execStrayAccess (r : Requester) (addr : Nat) (write : Bool) (s : State) : Out :=
  let a := addr % 2 ^ 24 / 4 * 4
  if s.decodes r a then .next s
  else if write then .next (s.regWrite r a 0)
  else .next (State.answerRead r (s.regRead r a))

/-- PARTIAL_WRITE: a write of one to three bytes within a register (R33). -/
def execPartialWrite (r : Requester) (addr : Nat) (s : State) : Out := .next (s.partialWrite r (addr % 2 ^ 24))

/-- EVT_CLR (R37). -/
def execEvtClr (r : Requester) (page mask seq : Nat) (s : State) : Out :=
  .next (s.regWrite r (page % 4096 * 4096 + 0x14) (BitVec.ofNat 32 (mask % 65536 + seq % 65536 * 65536)))

/-- Is there a counter at an address? -/
def counterAt (a : Nat) : Bool := (pageAt a).any isCounter

/-- COUNTER_LOW_READ (R41); `read.ue` says that the counter array finds the counter uncorrectable: it reads 2^48 − 1, unknown
(R293). -/
def execCounterLowRead (r : Requester) (read : CounterRead) (s : State) : Out :=
  let a := read.addr % 2 ^ 24 / 8 * 8
  .next (if counterAt a then
      State.answerRead r ((if read.ue && s.alive then
        (s.setCtr a counterMax).record eCOUNTER_UE lvNOTICE none 0x7F a else s).regRead r a)
    else s)

/-- COUNTER_HIGH_READ (R41). -/
def execCounterHighRead (r : Requester) (addr : Nat) (s : State) : Out :=
  let a := addr % 2 ^ 24 / 8 * 8
  .next (if counterAt a then State.answerRead r (s.regRead r (a + 4)) else s)

/-- COUNTER_CLEAR: a write of any value to a counter's low word (R42). -/
def execCounterClear (r : Requester) (addr : Nat) (s : State) : Out :=
  let a := addr % 2 ^ 24 / 8 * 8
  .next (if counterAt a then s.regWrite r a 0 else s)

/-- TB_READ_LATCH: a 4-byte read of SLU_TB_LO (R133). -/
def execTbReadLatch (r : Requester) (s : State) : Out := .next (State.answerRead r (s.regRead r R.SLU_TB_LO))

/-- TBL_OP written on a page that has an indirect table port. -/
def State.tblWrite (s : State) (r : Requester) (page op : Nat) : State :=
  s.regWrite r (page % 4096 * 4096 + 0xF04) (BitVec.ofNat 32 op)

/-- TBL_NOP (R43). -/
def execTblNop (r : Requester) (page : Nat) (s : State) : Out := .next (s.tblWrite r page 0)

/-- TBL_READ (R43). -/
def execTblRead (r : Requester) (page : Nat) (s : State) : Out := .next (s.tblWrite r page 1)

/-- TBL_WRITE (R43, R45). -/
def execTblWrite (r : Requester) (page : Nat) (s : State) : Out := .next (s.tblWrite r page 2)

/-- TBL_READ_CLEAR (R43). -/
def execTblReadClear (r : Requester) (page : Nat) (s : State) : Out := .next (s.tblWrite r page 3)

/-- TBL_OP_DONE: the operation in progress on a page completes; which copies of its entry are found bad (R43, R293). -/
def execTblOpDone (page : Nat) (copy0 copy1 : Bool) (s : State) : Out := (s.tblDone (page % 4096) copy0 copy1).finish

/-- PWRLOSS_CLEAR (R344). -/
def execPwrlossClear (r : Requester) (s : State) : Out := .next (s.regWrite r R.DEV_PWRLOSS_CLR 1)

/-- ENERGY_READ: SPV_ENERGY_LO read, HI latched (R366). -/
def execEnergyRead (r : Requester) (slot ch : Nat) (s : State) : Out :=
  .next (State.answerRead r (s.regRead r (R.SPV_ENERGY_LO (slot % 24) (ch % 2))))

end Sys2Proof.Machine
end

