-- ==== Sys2Proof/Machine/Consume.lean ====
section
/-! DEFINITION. Requests that end in the part itself: BARs of management functions and instances (R191, R214, R272,
R296), the register space of other devices through BAR4, culvert windows (R352), configuration requests (R103, R215),
and refusals (R26, R95, R217). -/

namespace Sys2Proof.Machine

/-! ### Refusals -/

/-- An uncorrectable error logged at a downstream port triggers its DPC where its host has enabled it (R218). -/
def State.dpcError (s : State) (n b : Nat) : State :=
  let fatal := bit (s.cfg (Fn.down n).num cAerUncSev).toNat b
  let t := s.dpcOnError n b (if fatal then dpcERR_FATAL else dpcERR_NONFATAL)
  if t.flag (R.PEP_PORT_STS_DPC n) && !s.flag (R.PEP_PORT_STS_DPC n) then t.pcieDown n else t

/-- An error logged at an ingress port, with what it triggers there. -/
def State.ingressError (s : State) (f : Frame) (b : Nat) : State :=
  if isPcie f.ingress then (s.portAer f.ingress b f.tlp.header).dpcError f.ingress b else s

/-- A request refused: a non-posted one receives Unsupported Request, a posted one is discarded and reported through the
ingress port's AER (R26, R95). -/
def State.refuse (s : State) (f : Frame) : State :=
  if f.tlp.nonPosted then s.unsupported f else s.ingressError f aerUnsupported

/-- A frame lost because the device stops taking requests: a non-posted one receives Unsupported Request, a posted one
counts in ERR_ISO_DROP (R308, R309). -/
def State.isoRefuse (s : State) (f : Frame) : State :=
  if f.tlp.nonPosted then s.unsupported f
  else { s.bump R.ERR_ISO_DROP with err := { s.err with isoDropped := s.err.isoDropped + 1 } }

/-- A frame whose routing meets an entry with both copies bad: the error of level DEVICE, and the frame lost with it
(R217, R293, R308). -/
def State.tableHits (s : State) (f : Frame) (es : List (Nat × Nat)) : State :=
  -- In ISOLATE the entry is left out, and what it would route is refused (R309).
  if s.mode = mISOLATE then s.isoRefuse f
  else ((s.tablesUe es f.part f.ingress).portAer f.ingress aerInternal f.tlp.header).isoRefuse f

def State.tableHit (s : State) (f : Frame) (table index : Nat) : State := s.tableHits f [(table, index)]

/-! ### ECRC of a packet the part consumes (R217) -/

/-- One bit of the reflected CRC-32 register of the PCI Express ECRC (PRESUMED, log entry 10). -/
def ecrcBit (c : W32) : W32 := if c.getLsbD 0 then (c >>> 1) ^^^ 0xEDB88320 else c >>> 1

def ecrcByte (c : W32) (b : Byte) : W32 :=
  ecrcBit (ecrcBit (ecrcBit (ecrcBit (ecrcBit (ecrcBit (ecrcBit (ecrcBit (c ^^^ b.setWidth 32))))))))

/-- The ECRC of a packet: header with its variant bits set, then payload (PRESUMED, log entry 10). -/
def ecrc (t : Tlp) : W32 :=
  let h := t.header
  let h := setAt (setAt h 0 (h.getD 0 0 ||| 1)) 2 (h.getD 2 0 ||| 0x40)
  ~~~ (h ++ if t.carriesData then t.data else []).foldl ecrcByte 0xFFFFFFFF

/-- Does a consumed packet fail its ECRC check, where that is enabled? -/
def State.ecrcFails (s : State) (f : Frame) : Bool :=
  isPcie f.ingress && s.cfgBits (s.portFn f.ingress) 0x118 8 8 == 1 && f.tlp.ecrc.any fun e => e != ecrc f.tlp

/-- A consumed packet that fails its ECRC check is logged and goes nowhere. -/
def State.ecrcDrop (s : State) (f : Frame) : State :=
  let s := match f.record with
    | some r => s.dropTag r
    | none => s
  s.ingressError f aerEcrc

/-! ### Register spaces, MSI-X tables, instances -/

/-- A zero-length read returns bytes the spec does not give: a free value (log entry 3). -/
def State.zeroRead (s : State) (f : Frame) : State :=
  let (w, s) := s.drawWord
  s.complete f .sc (leBytes 4 w.toNat)

/-- A word of BAR2: the MSI-X table of 32 vectors and its PBA (R214). -/
def State.bar2Read (s : State) (part off : Nat) : W32 :=
  if off < 0x200 ∨ off = 0x8000 then s.bar (Fn.mgmt part).num off else 0

def State.bar2Write (s : State) (part off : Nat) (v : W32) : State :=
  if off < 0x200 then
    (s.setBar (Fn.mgmt part).num off (if off % 16 = 12 then v &&& 1 else if off % 16 = 0 then v &&& 0xFFFFFFFC else v)).mgmtUnmask
      part
  else s

/-- Bytes of BAR2, and whole aligned words written to it. -/
def State.bar2Bytes (s : State) (part off len : Nat) : List Byte :=
  (((upTo (ceilDiv (off % 4 + len) 4)).flatMap fun k => leBytes 4 (s.bar2Read part (off / 4 * 4 + 4 * k)).toNat).drop (off % 4)).take
    len

def State.bar2Store (s : State) (part off : Nat) (bs : List Byte) : State :=
  let skip := (4 - off % 4) % 4
  let ws := wordsOf (bs.drop skip)
  (ws.zip (upTo ws.length)).foldl (fun s x => s.bar2Write part (off + skip + 4 * x.2) x.1) s

/-- A request that a fabric ID's slice of BAR4 sends to another device (R272). -/
def State.bar4Remote (s : State) (f : Frame) (part off : Nat) : State :=
  let fid := off / 2 ^ 24 % 16
  let a := off % 2 ^ 24
  match s.vc4Link fid with
  | none => if f.tlp.nonPosted then s.unsupported f else s.bump R.MAP_REMOTE_REG_FAIL
  | some l =>
    if f.tlp.kind = .memWrite then s.sendMgmt l s.selfFid fid (.regWrite part a f.tlp.data f.tlp.byteEn.toNat)
    else
      let n := s.bar4Next
      let s : State := { s with bar4Next := n + 1, bar4 := s.bar4 ++ [{ n := n, frame := f, link := l, fid := fid }] }
      s.sendMgmt l s.selfFid fid (.regRead part a f.tlp.len n)

/-- A poisoned write consumed: discarded and recorded (R296). -/
def State.poisonDrop (s : State) (f : Frame) : State := s.recordFrame ePOISON_DROP lvFRAME f

/-- A request that reaches a BAR of its partition's management function (R214, R272). AtomicOps and Deferrable Memory
Writes are not completed by the part (R207). -/
def State.serveBar (s : State) (f : Frame) (part bar off : Nat) : State :=
  let t := f.tlp
  let r : Requester := .part (Fin.ofNat 32 part)
  if s.ecrcFails f then s.ecrcDrop f
  else if t.kind = .atomic ∨ t.kind = .defWrite then s.unsupported f
  else if t.kind = .memWrite then
    if t.poison then s.poisonDrop f
    else if bar = 2 then s.bar2Store part off t.data
    else if bar = 4 ∧ off / 2 ^ 24 ≠ s.selfFid then s.bar4Remote f part off
    else s.busWrite r off t.data
  else if bar = 4 ∧ off / 2 ^ 24 ≠ s.selfFid then s.bar4Remote f part off
  else if t.len = 0 then s.zeroRead f
  else if bar = 2 then s.complete f .sc (s.bar2Bytes part off t.len)
  else
    let x := s.busRead r off t.len
    x.2.complete f .sc x.1

/-- A request that reaches BAR0 of an instance of this device (R191, R296). -/
def State.serveInst (s : State) (f : Frame) (i off : Nat) : State :=
  let t := f.tlp
  if s.ecrcFails f then s.ecrcDrop f
  else if !s.instDecodes i || t.kind == .atomic || t.kind == .defWrite then s.refuse f
  else if t.kind = .memWrite then (if t.poison then s.poisonDrop f else s.bar0WriteBytes i off t.data)
  else if t.len = 0 then s.zeroRead f
  else s.complete f .sc (s.bar0ReadBytes i off t.len)

/-- A request through a LOCAL window (R352, R354). -/
def State.serveCulvert (s : State) (f : Frame) (cs addr : Nat) : State :=
  let t := f.tlp
  if s.ecrcFails f then s.ecrcDrop f
  else if t.kind = .atomic ∨ t.kind = .ioRead ∨ t.kind = .ioWrite ∨ t.locked = true then s.unsupported f
  else if t.poison && t.carriesData then (if t.nonPosted then (s.poisonDrop f).unsupported f else s.poisonDrop f)
  else s.lbEnter { src := .host f, cs := cs, addr := addr, len := t.len, write := t.carriesData, data := t.data }

/-! ### Shadows found uncorrectable (R293, R300) -/

/-- FN of a SHADOW_UE record: instance with bridge 0x7F, or 0x1FF with the bridge's number: 0 to 62 downstream, 63 the engine bridge, 0x7F
the upstream bridge and the management function. -/
def State.shadowDetail (s : State) (part : Nat) : Fn → Nat
  | .inst i => i + 0x7F * 2 ^ 9
  | .engBridge _ => 0x1FF + 63 * 2 ^ 9
  | .up _ => 0x1FF + 0x7F * 2 ^ 9
  | .mgmt _ => 0x1FF + 0x7F * 2 ^ 9
  | f => 0x1FF + ((upTo 63).find? fun k => (s.bridgeList part)[k]? == some f).getD 0x7F * 2 ^ 9

/-- An uncorrectable error of a shadow: level INSTANCE resets the instance, level PARTITION takes the upstream link down
once the request is served (R297, R300). -/
def State.shadowUe (s : State) (part : Nat) (f : Fn) (serve : State → State) : State :=
  match f with
  | .inst i =>
    let s := s.record eSHADOW_UE lvINSTANCE (some part) 0x7F (s.shadowDetail part f)
    serve (if s.covered (some part) then s else if s.containing then s.defer (.inst i) else s.startReset i false)
  | _ =>
    let s := serve (s.record eSHADOW_UE lvPARTITION (some part) 0x7F (s.shadowDetail part f))
    if s.covered (some part) then s
    else if s.containing || (s.upstreamOf part).any s.portBusy then s.defer (.part part)
    else match s.upstreamOf part with
    | some p => { s.pcieDown p with err := { (s.pcieDown p).err with wide := some (s.now, some part) } }
    | none => s

end Sys2Proof.Machine
end

