-- ==== Sys2Proof/Machine/Arrival.lean ====
section
/-! DEFINITION. Frames that enter at PCIe ports (R22, R55, R92, R103, R119, R123, R126, R140, R309, R427, R433): ingress
checks, completion reservations, lookup and dispatch, messages, configuration requests and completions. -/

namespace Sys2Proof.Machine

/-! ### Where looked-up requests go -/

/-- The entry with both copies bad that the routing of a unicast frame reads: fabric route, or partition home (R294). -/
def State.fabricBad (s : State) (f : Frame) (win : Option Win) (fid : Nat) : Option (Nat × Nat) :=
  if fid ≠ s.selfFid ∧ s.faulted 5 fid = true then some (5, fid)
  else match f.part with
    | some p => if win.isNone && (s.upstreamOf p).isNone && s.faulted 6 p then some (6, p) else none
    | none => none

/-- Does an egress port block AtomicOps (R207)? -/
def State.atomicBlocked (s : State) (f : Frame) (fid p : Nat) : Bool :=
  f.tlp.kind == .atomic && fid == s.selfFid && isPcie p && s.cfgBits (s.portFn p) cDevCtl2 7 7 == 1

/-- What follows once a frame has been sent on, or could not be (R106, R208, R223, R225). -/
def State.sent (r : State × Sent) (f : Frame) : State :=
  match r.2 with
  | .ok => r.1
  | .waits => r.1
  | .noRoute => if f.tlp.nonPosted then r.1.unsupported f else r.1
  | .portDown => if f.tlp.nonPosted then r.1.unsupported f else r.1
  | .ide => r.1.refuse f
  | .asleep => r.1.refuse f

/-- A looked-up request for a core port of a device of the fabric. -/
def State.unicast (s : State) (f : Frame) (win : Option Win) (fid p : Nat) (addr : W64) : State :=
  match s.fabricBad f win fid with
  | some (t, i) => s.tableHit f t i
  | none =>
    if s.atomicBlocked f fid p then (s.portAer p 24 f.tlp.header).unsupported f
    else State.sent (s.sendTo f fid p addr (match win with
      | some w => w.fwd
      | none => 0) (win.bind Win.ring) f.record) f

/-- A looked-up request for a multicast group (R90, R107 to R110, R208). -/
def State.multicast (s : State) (f : Frame) (k fwd : Nat) : State :=
  if !f.tlp.posted then s.unsupported f
  else if s.groupIde f k then (if isPcie f.ingress then s.bump (R.PEP_IDE_REFUSED f.ingress) else s).refuse f
  else match s.badGroup k with
    | [] => s.sendGroup f k fwd
    | es => s.tableHits f es

/-- A looked-up request on its way (R90, R95). -/
def State.dispatch (s : State) (f : Frame) (win : Option Win) (dest : Dest) : State :=
  let addr := match win with
    | some w => w.out f.tlp.addr
    | none => f.tlp.addr
  match dest with
  | .port fid p => s.unicast f win fid p addr
  | .inst fid i off =>
    if fid = s.selfFid then s.serveInst f i off
    -- A request for an instance elsewhere keeps its address, and its destination names the instance (R208, log entry 40).
    else s.unicast f win fid (4096 + i) f.tlp.addr
  | .mgmtBar bar off => (match f.part with
    | some p => s.serveBar f p bar off
    | none => s)
  | .culvert cs a =>
    -- A window that translates the address cannot pass an IDE prefix (R208).
    if f.tlp.ide.isSome && addr != f.tlp.addr then
      (if isPcie f.ingress then s.bump (R.PEP_IDE_REFUSED f.ingress) else s).refuse f
    else s.serveCulvert f cs a
  | .mcast k => s.multicast f k (match win with
    | some w => w.fwd
    | none => 0)
  | .dropped => if f.tlp.posted then s.bump R.MAP_DROP else s.unsupported f
  | .miss =>
    let s := s.missRefused f
    if f.tlp.nonPosted then s.unsupported f else if isPcie f.ingress then s.dpcError f.ingress aerUnsupported else s

/-- Lookup of a request with its captures, class and counts, and what its verdict brings (R22, R93, R94, R100, R119). A DROP
window is no refusal to a capture (R117, log entry 96). -/
def State.lookUpFrame (s : State) (f : Frame) : State :=
  let t := f.tlp
  match s.lookup f.part f.ingress t f.stamp f.era with
  | .badTable es => (s.capture f t false 0x7F true none).tableHits f es
  | .overlap a b =>
    let s := (((s.capture f t false 0x7F true none).overlapFault f a b).tel 5 f.ingress 1 (some f))
    if t.nonPosted then s.unsupported f else s
  | .denied w c => ((s.capture f t false 0x7F true (some w)).deny f c w.idx).dpcError f.ingress aerAcs
  | .ecrc w => ((s.capture f t false 0x7F true (some w)).bump R.MAP_ECRC_REFUSED).refuse f
  | .go win dest =>
    let (f, s) := s.stampLive (s.classify f win)
    ((s.countMiss f win).capture f t false (s.lookEgress f dest) (dest == .miss) win).dispatch f win dest

/-! ### Configuration requests (R103, R188, R213, R215) -/

/-- A configuration request of a partition's host; only its upstream port takes them. `ue` is an uncorrectable error met
in the shadow it reads or writes. -/
def State.cfgArrive (s : State) (f : Frame) (ue : Bool) : State :=
  let part := f.part.getD 0
  let entry := part * 256 + f.tlp.bus.toNat
  let target := s.cfgTarget part f.tlp
  -- A request served by a function's shadow ends in the part itself (log entry 96).
  let s := if s.role f.ingress != 1 then s.capture f f.tlp false 0x7F true none
    else match target with
    | .fn _ => s.capture f f.tlp false 88 false none
    | .port fid p => s.capture f f.tlp false (s.shownEgress f fid p) false none
    | .none => s.capture f f.tlp false 0x7F true none
  if s.role f.ingress != 1 then s.unsupported f
  else match target with
    | .fn fn =>
      if s.ecrcFails f then s.ecrcDrop f
      -- The ID route of its bus leads to it (R103, R294).
      else if !f.tlp.type0 && s.faulted 4 entry then s.tableHit f 4 entry
      else if ue then s.shadowUe part fn fun s => s.serveCfg f part fn
      else s.serveCfg f part fn
    | .port fid p =>
      if !f.tlp.type0 && s.faulted 4 entry then s.tableHit f 4 entry
      else if fid ≠ s.selfFid ∧ (s.vc4Link fid).isNone = true then s.unsupported f
      else s.unicast f none fid p f.tlp.addr
    | .none => if !f.tlp.type0 && s.faulted 4 entry then s.tableHit f 4 entry else s.unsupported f

/-! ### Messages (R103, R104) -/

/-- Copies of a message broadcast from the root to the partition's downstream ports. -/
def State.broadcast (s : State) (f : Frame) : State :=
  let part := f.part.getD 0
  let all := (s.bridgesOf part).map (fun p => (s.selfFid, p))
    ++ (s.remoteBridges.filter fun r => r.1 == part).map fun r => (r.2.1, r.2.2)
  let cs := all.filterMap fun d => (s.egressTo f.ingress d.1 d.2 f.tlp.tc.val).map fun e =>
    ({ frame := f.id, egress := e, queue := queueOf f, addr := f.tlp.addr, dstFid := d.1, dest := d.2 } : Copy)
  let lost := (cs.filter fun c => s.shut c.egress).length
  (s.bumpBy R.BUF_FLUSH_P lost).takeIn f (cs.filter fun c => !s.shut c.egress)

/-- A received error message at a card's bridge: it may trigger DPC, and goes on to the host only where the bridge
forwards it (R104, R218; PRESUMED from the standard, log entry 10). -/
def State.errorMessage (s : State) (f : Frame) (on : State → State) : State :=
  let n := f.ingress
  let fn := (Fn.down n).num
  let en := s.cfgBits fn cDpcCtl 17 16
  let fatal := f.tlp.byteEn == 0x33
  if f.tlp.byteEn != 0x30 && s.role n == 2 && en != 0 && (fatal || en == 2) && !s.flag (R.PEP_PORT_STS_DPC n) then
    (s.enterDpc n (if fatal then dpcERR_FATAL else dpcERR_NONFATAL)).pcieDown n
  else if s.passesError fn (f.tlp.byteEn == 0x30)
      && (f.part.bind s.upstreamOf).all fun _ => s.passesError (Fn.up (f.part.getD 0)).num (f.tlp.byteEn == 0x30) then on s
  else s

/-- Egress core port of a message, for its capture: that of its one way out, 88 where it ends here, 0x7F where it is refused
or broadcast (R117). -/
def State.messageEgress (s : State) (f : Frame) : Nat :=
  let part := f.part.getD 0
  let up := match s.homeOf part with
    | some (fid, p) => s.shownEgress f fid p
    | none => 0x7F
  match f.tlp.route.val with
  | 0 => if s.role f.ingress = 1 then 0x7F else up
  | 2 =>
    let e := (s.tbl 0x121 0 (part * 256 + f.tlp.bus.toNat)).toNat
    if !bit e 0 then 0x7F
    else if bits e 2 1 = 0 then s.shownEgress f (bits e 13 10) (bits e 9 3)
    else if bits e 2 1 = 1 then up
    else 88
  | 4 => 88
  | 5 => 88
  | _ => 0x7F

/-- Is a message refused where its routing leads nowhere (R103, R104)? -/
def State.messageRefused (s : State) (f : Frame) : Bool :=
  let part := f.part.getD 0
  match f.tlp.route.val with
  | 0 => s.role f.ingress == 1 || (s.homeOf part).isNone
  | 2 =>
    let e := (s.tbl 0x121 0 (part * 256 + f.tlp.bus.toNat)).toNat
    !bit e 0 || (bits e 2 1 != 0 && (s.homeOf part).isNone)
  | 3 => s.role f.ingress != 1
  | 4 => false
  | 5 => false
  | _ => true

/-- A message routed within the partition's virtual switch (R103, R104): to the root, by ID, or from the root to every
downstream port; local and gathered ones end here, and so do those for the partition's management function and instances
(PRESUMED from the standard, log entry 10). -/
def State.routeMessage (s : State) (f : Frame) : State :=
  let no := s.messageRefused f
  let s := s.capture f f.tlp false (if no then 0x7F else s.messageEgress f) no none
  let part := f.part.getD 0
  let up (s : State) : State := match s.homeOf part with
    | some (fid, p) => s.unicast f none fid p f.tlp.addr
    | none => s.refuse f
  let isErr := f.tlp.byteEn == 0x30 || f.tlp.byteEn == 0x31 || f.tlp.byteEn == 0x33
  let entry := part * 256 + f.tlp.bus.toNat
  match f.tlp.route.val with
  | 0 => if s.role f.ingress = 1 then s.refuse f else if isErr then s.errorMessage f up else up s
  | 2 =>
    if s.faulted 4 entry then s.tableHit f 4 entry
    else
      let e := (s.tbl 0x121 0 entry).toNat
      if !bit e 0 then s.refuse f
      else if bits e 2 1 = 0 then s.unicast f none (bits e 13 10) (bits e 9 3) f.tlp.addr
      else if bits e 2 1 = 1 then up s
      -- The management function and the instances lie on the home device, where the message ends.
      else match s.homeOf part with
        | some (fid, _) => if fid = s.selfFid then s else s.unicast f none fid 88 f.tlp.addr
        | none => s.refuse f
  | 3 => if s.role f.ingress = 1 then s.broadcast f else s.refuse f
  | 4 => s
  | 5 => s
  | _ => s.refuse f

/-! ### Refusals by mode, ACS and bridges -/

/-- The BAR of its management function that a request goes to: no window matches it and the bridge decode gives one. -/
def State.barOf (s : State) (f : Frame) : Option (Nat × Nat) :=
  match f.part with
  | none => none
  | some p =>
    if f.tlp.isMem && isPcie f.ingress && (s.hits (some p) f.tlp.addr.toNat f.stamp f.era).isEmpty then
      (match s.bridgeDecode p f.tlp.addr.toNat with
       | some (.mgmtBar b o) => some (b, o)
       | _ => none)
    else none

/-- What the mode refuses (R309, R427, R433, R435): in SAFE all but configuration of functions 0 and 1 and BAR0; in
ISOLATE, from its entry to its exit, and in DRAIN and DIAGNOSTIC all but configuration and the management function's
BARs. -/
def State.modeRefuse (s : State) (f : Frame) : Option State :=
  let m := s.mode
  let cfg := f.tlp.kind == .cfgRead || f.tlp.kind == .cfgWrite
  if m = mSAFE then
    if (cfg && f.tlp.type0 && decide (f.tlp.devfn.toNat < 2)) || (s.barOf f).any (·.1 == 0) then none
    else some (if f.tlp.nonPosted then s.unsupported f else s)
  else if s.isolating then
    if cfg || (s.barOf f).isSome then none else some (s.isoRefuse f)
  else if m = mDRAIN ∨ m = mDIAGNOSTIC then
    if cfg || (s.barOf f).isSome then none
    else
      let s := s.bump R.DEV_DRAIN_DROP
      some (if f.tlp.nonPosted then s.unsupported f else s)
  else none

/-- ACS Source Validation and Translation Blocking of a card's bridge (R126). -/
def State.acsCause (s : State) (f : Frame) : Option Nat :=
  let fn := (Fn.down f.ingress).num
  let bus := f.tlp.reqId.toNat / 256
  if s.role f.ingress != 2 then none
  else if s.cfgBits fn cAcs 16 16 = 1 ∧ (bus < s.cfgBits fn cBuses 15 8 ∨ s.cfgBits fn cBuses 23 16 < bus) then some cACS_SV
  else if s.cfgBits fn cAcs 17 17 = 1 ∧ f.tlp.isMem = true ∧ f.tlp.addrType ≠ 0 then some cACS_TB
  else none

/-- Does the bridge of its ingress port take no memory or I/O request: a downstream bridge without Bus Master Enable or in
D3hot (R215, R225, log entry 10); an upstream bridge in D3hot, but for the management function's BARs on its primary side? -/
def State.bridgeShut (s : State) (f : Frame) : Bool :=
  let fn := s.portFn f.ingress
  let own := match f.part.bind fun p => s.bridgeDecode p f.tlp.addr.toNat with
    | some (.mgmtBar _ _) => true
    | _ => false
  if s.role f.ingress == 1 then s.d3hot fn && !own else s.d3hot fn || !s.busMaster fn

/-- A request that has its reservation: looked up and sent on, served here, or refused. It carries the rule epoch of this
moment (R22, R127). `ue` is as in `cfgArrive`. -/
def State.arrive (s : State) (f : Frame) (ue : Bool) : State :=
  let f := { f with ruleEpoch := s.stampEpoch, older := s.sweptNow }
  let t := f.tlp
  match s.modeRefuse f with
  | some s' => s'
  | none =>
    if !s.carries f.ingress then s.refuse f
    else if t.kind = .cfgRead ∨ t.kind = .cfgWrite then s.cfgArrive f ue
    else match s.acsCause f with
      | some c => (s.deny f c 0xFFFF).dpcError f.ingress aerAcs
      | none =>
        if t.kind = .message then s.routeMessage f
        else if t.locked || s.bridgeShut f then s.refuse f
        else s.lookUpFrame f

/-! ### Entry -/

/-- A frame around a packet that enters on a link. -/
def State.linkFrame (s : State) (n : Nat) (t : Tlp) (whole : Bool) : Frame × State :=
  let (id, s) := s.fresh
  ({ s.formFrame id n t (if t.isCpl then .completion else .ordered) .link with
       whole := whole, part := if isPcie n then some (s.portPart n) else none, epoch := (s.port n).epoch }, s)

/-- The class a frame will have, for what is recorded at its entry. -/
def State.preview (s : State) (f : Frame) : Frame :=
  if !f.tlp.isMem then f
  else match s.hits f.part f.tlp.addr.toNat f.stamp f.era with
    | [w] => s.classify f (some w)
    | _ => f

/-- The completion reservation of a non-posted request, with its tag record (R55, R102); none while the reserve has no
room. -/
def State.reserveFor (s : State) (f : Frame) : Option (Frame × State) :=
  if !f.tlp.nonPosted then some (f, s)
  else if f.tlp.reserve ≤ s.poolFree .completion then
    let r : TagRec := { id := f.id, reqId := f.tlp.reqId, tag := f.tlp.tag, ingress := f.ingress,
                        epoch := f.epoch, fid := f.srcFid, part := f.part, reserved := f.tlp.reserve,
                        admitted := s.now, older := f.older }
    some ({ f with record := some f.id }, { s with sw := { s.sw with tags := s.sw.tags ++ [r] } })
  else none

/-- Does an earlier request of a port wait for its reservation (R55)? -/
def State.reserveQueue (s : State) (n : Nat) : Bool :=
  s.sw.waiting.any fun w => w.need == .reservation && w.frame.ingress == n

/-- Does a memory request reach the register space or an instance's BAR0 here (R345)? -/
def State.performsHere (s : State) (f : Frame) : Bool :=
  f.tlp.isMem && match s.lookup f.part f.ingress f.tlp f.stamp f.era with
    | .go _ (.mgmtBar _ _) => true
    | .go _ (.inst fid _ _) => fid == s.selfFid
    | _ => false

/-- Does a posted write to the register space or an instance's BAR0 wait behind an earlier such request of its port that
waits for its reservation (R345)? -/
def State.keepsTurn (s : State) (f : Frame) : Bool :=
  f.tlp.posted && s.reserveQueue f.ingress && s.performsHere f && s.sw.waiting.any fun w =>
    w.need == .reservation && w.frame.ingress == f.ingress && s.performsHere w.frame

/-- A request at its ingress: reservation first, then `arrive` (R55). -/
def State.present (s : State) (f : Frame) (ue : Bool) : State :=
  if f.tlp.nonPosted && s.reserveQueue f.ingress || s.keepsTurn f then s.wait f .reservation []
  else match s.reserveFor f with
    | none => s.wait f .reservation []
    | some (f, s) => s.arrive f ue

/-- What a lookup finds of a routing-table entry it reads: one bad copy is mended, two are remembered for the lookup
(R293, R294). Table 8 is the free list that the frame's cells come from, bad both ways: level DEVICE, with bank and cell in
the index (R293, R300). -/
def State.meetEntry (s : State) (x : Option (Nat × Nat × Bool × Bool)) : State :=
  match x with
  | none => s
  | some (t, i, c0, c1) =>
    if t = 8 then (if c0 && c1 then s.deviceError eREFCOUNT_UE none 0x7F (i % 2 ^ 23) else s)
    else if c0 && c1 then s.noteBad (t % 8) i true true
    else if c0 || c1 then
      let s := s.noteBad (t % 8) i c0 c1
      if s.faulted (t % 8) i then s else s.tableCe (t % 8) i (ofBool c1)
    else s

/-! ### Completions (R25, R55, R86, R102, R103, R126) -/

/-- The end of a request whose completion has come: CPL_LATENCY (R394), from its departure. -/
def State.cplLatency (s : State) (left : Option (Nat × Nat)) (live : Bool) : State :=
  match left with
  | some (t, p) => s.hist 2 p live ((s.now - t) * 4 / 5)
  | none => s

/-- A completion queued towards an egress under a tag record or an engine's tag; `id` names either, and `dest` the core
port and device it is for. -/
def State.sendCpl (s : State) (f : Frame) (id : Nat) (egress fid dest : Nat) (reqId : BitVec 16) (tag : BitVec 14) : State :=
  let t := f.tlp
  let ends := t.last || t.status != .sc
  let less (k : Nat) : Nat := k - t.cells
  let s := if ends then (match s.sw.tags.find? fun r => r.id == id with
      | some r => s.cplLatency r.left r.live
      | none => match s.engTags.find? fun x => x.id == id with
        | some x => s.cplLatency x.left false
        | none => s) else s
  let s := s.modTag id fun r => { r with reserved := less r.reserved, ended := r.ended || ends }
  let s := s.modEngTags fun x => if x.id = id then { x with reserved := less x.reserved } else x
  -- Towards a port that is down or flushing it is queued under the current epoch (R84).
  if isPcie egress && !s.carries egress then
    let s := s.bump R.BUF_FLUSH_CPL
    if ends then s.dropTag id else s
  else
    let f := { f with record := if ends || egress == 88 then some id else none }
    s.takeIn f [{ frame := f.id, egress := egress, queue := queueOf f, addr := t.addr, ct := s.ctRequested f 0, dstFid := fid, dest := dest,
                  newReqId := if reqId = t.reqId then none else some reqId, newTag := if tag = t.tag then none else some tag }]

/-- A completion routed by a record: to the port its request entered at, or to the device it came from (R102). -/
def State.cplByRecord (s : State) (f : Frame) (r : TagRec) : State :=
  match s.returnEgress r.ingress r.fid f.tlp.tc.val with
  | some e => s.sendCpl f r.id e r.fid r.ingress r.reqId r.tag
  | none => s.cplNoRoute f

/-- A completion of such a record is discarded, and the record retires (R86). -/
def State.dropStale (s : State) (r : TagRec) : State := (s.bump R.BUF_STALE_CPL).dropTag r.id

/-- The proxy record a completion matches (R102). -/
def State.proxyOf (s : State) (f : Frame) : Option TagRec :=
  s.sw.tags.find? fun r => match r.proxy with
    | some (rid, g, o) => rid == f.tlp.reqId && g == f.tlp.tag && (!isPcie f.ingress || f.part == some o)
    | none => false

/-- The plain tag record a completion matches. -/
def State.plainOf (s : State) (f : Frame) : Option TagRec :=
  s.sw.tags.find? fun r => r.proxy.isNone && !r.engine && !r.ended && r.reqId == f.tlp.reqId && r.tag == f.tlp.tag
    && (!isPcie f.ingress || r.part == f.part)

/-- The engine's tag a completion answers. -/
def State.engTagOf (s : State) (f : Frame) : Option EngTag :=
  s.engTags.find? fun x => x.reqId == f.tlp.reqId && x.tag == f.tlp.tag

/-- Is a core port of a device a downstream port of a partition (R126, R213, R270)? -/
def State.isDownPort (s : State) (part fid p : Nat) : Bool :=
  if fid = s.selfFid then isPcie p && s.role p == 2 && s.portPart p == part
  else s.remoteBridges.contains (part, fid, p) || s.remotePorts.contains (part, fid, p)

/-- Where a completion goes, and what becomes of one that goes nowhere. -/
inductive CplWay where
  /-- To a core port of a device, by its tag record. -/
  | to' (r : TagRec) (fid p : Nat)
  /-- To the port its request entered at, or the device it came from, by its record (R102). -/
  | back (r : TagRec)
  /-- To the engine that issued the request, under its tag (R102, R177). -/
  | engine (x : EngTag)
  /-- For an instance whose tag has retired: to its engine, which discards it (R102, R178). -/
  | retired (engine : Nat)
  /-- To a core port of a device by its ID route, with no record: it was addressed to an instance (R103). -/
  | astray (fid p : Nat)
  /-- Older than its ingress port's link (R86). -/
  | stale (r : TagRec)
  /-- No valid ID route (R103). -/
  | miss
  /-- No record matches it (R102). -/
  | unmatched
  /-- A routing-table entry with both copies bad (R293). -/
  | bad (table index : Nat)
  /-- Its proxy record holds an uncorrectable error (R293). -/
  | proxyUe
  /-- Dropped in ISOLATE, whose entry stops admission (R308, R309). -/
  | isolated

/-- The way of a completion by its record, where the record is not older than its port's link (R86, R102). -/
def State.wayBack (s : State) (r : TagRec) : CplWay := if s.staleTag r then .stale r else .back r

/-- The instance a requester ID names (R185). -/
def State.instOfId (s : State) (part : Nat) (rid : BitVec 16) : Option Nat :=
  (s.instsOf part).find? fun i => s.instReqId i == rid

/-- The engine whose read held a tag of an instance, after the tag has retired: the engine remembers (R178), the latest read
of that tag being the one the completion can be for. -/
def State.retiredEngine (s : State) (f : Frame) (i : Nat) : Nat :=
  match s.retiredTags.find? fun x => x.1 == f.tlp.reqId && x.2.1 == f.tlp.tag with
  | some x => x.2.2
  | none => s.engineOf i 0

/-- The way of a completion routed by ID to a core port, or upstream where ACS P2P Completion Redirect says so (R103,
R126), for requests that passed through a window too (log entry 13). -/
def State.wayById (s : State) (f : Frame) (r : TagRec) (fid p : Nat) : CplWay :=
  let redirect := s.role f.ingress == 2 && s.cfgBits (Fn.down f.ingress).num cAcs 19 19 == 1 && !f.tlp.relaxed
    && s.isDownPort (f.part.getD 0) fid p && !(fid == s.selfFid && p == f.ingress)
  let (fid, p) := if redirect then (s.homeOf (f.part.getD 0)).getD (fid, p) else (fid, p)
  if fid ≠ s.selfFid ∧ s.faulted 5 fid = true then .bad 5 fid else .to' r fid p

/-- Is a completion consumed in the part: by an engine or by core port 88? -/
def CplWay.endsHere : CplWay → Bool
  | .engine _ => true
  | .retired _ => true
  | .back r => decide (72 ≤ r.ingress)
  | _ => false

/-- The way of a completion of a plain record, or for an instance; `ue` is an uncorrectable error of its record (R103, R293). -/
def State.wayId (s : State) (f : Frame) (ue : Bool) : CplWay :=
  let part := f.part.getD 0
  let entry := part * 256 + f.tlp.reqId.toNat / 256
  let e := (s.tbl 0x121 0 entry).toNat
  let inst := s.instOfId part f.tlp.reqId
  if s.faulted 4 entry then .bad 4 entry
  else match s.plainOf f with
    | some r =>
      if ue then .proxyUe
      else if s.staleTag r then .stale r
      else if !bit e 0 then .miss
      else if bits e 2 1 = 0 then s.wayById f r (bits e 13 10) (bits e 9 3)
      else match s.homeOf part with
        | some (fid, p) => if bits e 2 1 = 1 then s.wayById f r fid p else .to' r fid 88
        | none => .miss
    | none =>
      if inst.isNone then .unmatched
      else if !bit e 0 then .miss
      else if bits e 2 1 = 0 then .astray (bits e 13 10) (bits e 9 3)
      else if bits e 2 1 ≠ 2 then (match s.homeOf part with
        | some (fid, p) => .astray fid (if bits e 2 1 = 1 then p else 88)
        | none => .miss)
      else match s.engTagOf f with
        | some x => .engine x
        | none => .retired (s.retiredEngine f (inst.getD 0))

/-- The way of a completion that enters at a PCIe port (R102): by its proxy record, never by ID for the requester ID of the
partition's management function, by ID otherwise. `ue` is an uncorrectable error of its proxy record (R293). -/
def State.cplWay (s : State) (f : Frame) (ue : Bool) : CplWay :=
  match s.proxyOf f with
  | some r => if s.isolating then .isolated else if ue then .proxyUe else s.wayBack r
  | none =>
    if s.isolating then .isolated
    else if f.part.any fun p => s.mgmtReqId p == f.tlp.reqId then
      -- A request that came over the fabric carries that ID already: its record routes it (log entry 13).
      match s.plainOf f with
      | some r => if !isMoaben r.ingress then .unmatched else if ue then .proxyUe else s.wayBack r
      | none => .unmatched
    else s.wayId f ue

/-- Egress core port of a completion, for its capture: 0x7F where it goes nowhere (R117). -/
def State.wayEgress (s : State) (f : Frame) : CplWay → Nat
  | .to' _ fid p => s.shownEgress f fid p
  | .back r => (s.returnEgress r.ingress r.fid f.tlp.tc.val).getD 0x7F
  | .engine x => 72 + x.engine
  | .retired e => 72 + e
  | .astray fid p => s.shownEgress f fid p
  | _ => 0x7F

/-- A completion sent its way, or discarded as the reason for it gives. -/
def State.goWay (s : State) (f : Frame) : CplWay → State
  | .to' r fid p => match s.egressTo f.ingress fid p f.tlp.tc.val with
    | some e => s.sendCpl f r.id e fid p r.reqId r.tag
    | none => s.cplNoRoute f
  | .back r => s.cplByRecord f r
  | .engine x => s.sendCpl f x.id (72 + x.engine) s.selfFid (72 + x.engine) x.reqId x.tag
  | .retired e => s.sendCpl f f.id (72 + e) s.selfFid (72 + e) f.tlp.reqId f.tlp.tag
  | .astray fid p => match s.egressTo f.ingress fid p f.tlp.tc.val with
    | some e => s.sendCpl f f.id e fid p f.tlp.reqId f.tlp.tag
    | none => s.cplNoRoute f
  | .stale r => s.dropStale r
  | .miss => (s.bump R.MAP_ID_MISS).recordFrame eID_MISS lvFRAME f
  | .unmatched => s.bump R.MAP_PROXY_STALE
  | .bad t i => s.tableHit f t i
  | .proxyUe => (s.recordFrame ePROXY_UE lvFRAME f).portAer f.ingress aerInternal f.tlp.header
  | .isolated => s

/-- A completion that enters at a PCIe port: captured, and sent its way (R102, R103, R114). -/
def State.routeCpl (s : State) (f : Frame) (ue : Bool) : State :=
  let way := s.cplWay f ue
  let s := s.capture f f.tlp false (s.wayEgress f way) false none
  -- A completion that ends in the part has its ECRC checked (R217, R292).
  if way.endsHere && s.ecrcFails f then s.ingressError f aerEcrc else s.goWay f way

/-! ### The commands -/

/-- A packet that enters at a PCIe port whose link is up (R22, R123, R140, R217). -/
def State.frameIn (s : State) (n : Nat) (t : Tlp) (whole ue : Bool) (meet : Option (Nat × Nat × Bool × Bool)) : State :=
  if !s.alive || !isPcie n || !(s.port n).up then s
  else
    let (f, s) := s.linkFrame n t whole
    let s := s.entered (s.preview f)
    if t.crosses then s.ingressError f aerMalformed
    else
      let s := if t.poison then s.portAdvise n aerPoisoned t.header else s
      let s := s.meetEntry meet
      -- A frame that arrives on credits already granted is always admitted (R67).
      let s := if t.isCpl then s else s.modPort n fun p => { p with credit := p.credit - f.tlp.cells }
      (if t.isCpl then s.routeCpl f ue else s.present f ue).updateXoff

/-- FRAME_ARRIVAL: a packet enters at a PCIe port; `whole` says that its tail has come and passed its link check, `meet` a
routing-table entry its lookup finds bad. Engines present their requests with their own commands (R22). -/
def execFrameArrival (port : Nat) (tlp : Tlp) (whole : Bool) (meet : Option (Nat × Nat × Bool × Bool)) (s : State) : Out :=
  (s.frameIn (port % 88) tlp whole false meet).finish

/-- COMPLETION_ARRIVAL: a completion enters at a PCIe port (R102). -/
def execCompletionArrival (port : Nat) (tlp : Tlp) (whole ue : Bool) (s : State) : Out :=
  .next (if tlp.isCpl then s.frameIn (port % 64) tlp whole ue none else s)

/-- CONFIG_READ: a configuration read enters at an upstream port (R188, R215). -/
def execConfigRead (port : Nat) (tlp : Tlp) (ue : Bool) (s : State) : Out :=
  .next (if tlp.kind = .cfgRead then s.frameIn (port % 64) tlp true ue none else s)

/-- CONFIG_WRITE (R189, R215). -/
def execConfigWrite (port : Nat) (tlp : Tlp) (ue : Bool) (s : State) : Out :=
  .next (if tlp.kind = .cfgWrite then s.frameIn (port % 64) tlp true ue none else s)

/-- Does a request of a port's partition go to another device's slice of BAR4 (R272)? -/
def State.toSlice (s : State) (n : Nat) (t : Tlp) : Bool :=
  match s.barOf (s.linkFrame n t true).1 with
  | some (b, off) => b == 4 && off / 2 ^ 24 != s.selfFid
  | none => false

/-- BAR4_REMOTE_READ (R272). -/
def execBar4RemoteRead (port : Nat) (tlp : Tlp) (s : State) : Out :=
  .next (if tlp.kind = .memRead ∧ s.toSlice (port % 64) tlp = true then s.frameIn (port % 64) tlp true false none else s)

/-- BAR4_REMOTE_WRITE (R272). -/
def execBar4RemoteWrite (port : Nat) (tlp : Tlp) (s : State) : Out :=
  .next (if tlp.kind = .memWrite ∧ s.toSlice (port % 64) tlp = true then s.frameIn (port % 64) tlp true false none else s)

end Sys2Proof.Machine
end

