-- ==== Sys2Proof/Machine/Blocks.lean ====
section
/-! DEFINITION. The rows a Moaben link sends and the blocks it receives (R229 to R234, R237): slots laid on lanes, the
scramblers, ALIGN rows, and what a received block does. -/

namespace Sys2Proof.Machine

/-! ### Rows sent (R230, R231, R234) -/

/-- Rows from one ALIGN row to the next: 16,384, or 64 in training, retraining and changes (R231). -/
def State.alignPeriod (s : State) (f : Nat) : Nat :=
  let st := s.linkState f
  if st = lsAUTH ∨ st = lsSTRANGER ∨ st = lsUP then 16384 else 64

/-- Positions this end sends on, in rising order: all eight until training has settled a set (R251, R254). -/
def State.positions (s : State) (f : Nat) : List Nat :=
  if lsAUTH ≤ s.linkState f then (upTo 8).filter (bit (s.link f).txSet) else upTo 8

/-- The physical lane a position is sent on: the spare for the one mapped to it (R253). -/
def LinkSt.laneOf (l : LinkSt) (p : Nat) : Nat := if p = l.txSpare then 8 else p

/-- One slot on a position of the row that is built: the block goes to its lane, scrambled (R230, R234). -/
def State.sendSlot (s : State) (f p : Nat) : State :=
  let l := s.link f
  let lane := l.laneOf p
  let x := nextSlot l.ctl (if s.vc4Open f then l.tx else [])
  let tx := if s.vc4Open f then x.2.2 else l.tx
  let b := match x.1 with
    | .data d => blockOf false (scrambled (l.txScr.getD lane 0) d)
    | .ctl d => blockOf true (scrambled (l.txScr.getD lane 0) d)
  s.modLink f fun l => { l with ctl := x.2.1, tx := tx, onLanes := setAt l.onLanes lane (some b) }

/-- The row after the one on the lanes: an ALIGN row, unscrambled and with the scramblers at rest, or one slot for each
position in service and IDLE on a spare that is not mapped in (R230, R231, R234). -/
def State.sendRow (s : State) (f : Nat) : State :=
  let ps := s.positions f
  let l := s.link f
  let align := l.txRow % s.alignPeriod f == 0
  let lanes := ps.map l.laneOf ++ (if ps.contains l.txSpare then [] else [8])
  let s :=
    if align then
      let blocks := (upTo 9).map fun k =>
        if lanes.contains k then some (blockOf true (ctlAlign k (l.txScr.getD k 0) l.txRow)) else none
      s.modLink f fun l => { l with onLanes := blocks }
    else
      let idle := blockOf true (scrambled (l.txScr.getD 8 0) ctlIdle)
      let spare := if lanes.contains 8 then some idle else none
      let s := s.modLink f fun l => { l with onLanes := List.replicate 8 none ++ [spare] }
      let s := ps.foldl (fun s p => s.sendSlot f p) s
      s.modLink f fun l => { l with txScr := l.txScr.map scrNext }
  let s := if align then s.remapSent f else s
  let s := if l.rxRow % s.alignPeriod f == 0 then s else s.modLink f fun l => { l with rxScr := l.rxScr.map scrNext }
  let s := s.modLink f fun l => { l with txRow := (l.txRow + 1) % 16384, rxRow := (l.rxRow + 1) % 16384, rows := l.rows + 1 }
  -- With nothing left to say at the old settings, the rows of a change take the new ones (R252).
  let s := if (s.link f).ctl.isEmpty then s.changeApply f else s
  if (s.link f).begun && !(s.link f).vc4.isEmpty then s.retryVc4 f else s

/-- A core cycle of a link's rows: a row ends when its block time has passed (R228). -/
def State.linkRows (s : State) (f : Nat) : State :=
  if !s.transmits f then s
  else
    let t := (s.link f).rowTime + 4
    let row := rowFifths (s.fget (R.MFL_LINK_STS_SPEED f))
    if t < row then s.modLink f fun l => { l with rowTime := t }
    else (s.modLink f fun l => { l with rowTime := t - row }).sendRow f

/-- The rows of every link. -/
def State.rows (s : State) : State := (upTo 8).foldl State.linkRows s

/-! ### Blocks received (R229, R230, R237) -/

/-- A bad block while no packet is open calls for a NAK at once; inside a packet it spoils that packet (R243). -/
def State.badReceived (s : State) (f lane : Nat) (open' : Bool) : State :=
  let s := s.badBlock f lane
  if open' || !s.listens f then s else s.sendNak f

/-- An ALIGN block: after training, the receiver's scrambler state is checked against the one carried; a difference counts
as a bad block, and the carried state is loaded (R230, R231). -/
def State.alignBlock (s : State) (f lane d : Nat) (open' : Bool) : State :=
  let st := s.linkState f
  let carried := bits d 46 16
  let own := (s.link f).rxScr.getD lane 0
  let s := s.modLink f fun l => { l with rxScr := setAt l.rxScr lane carried, rxRow := bits d 63 48 % 16384 }
  let s := s.remapSeen f lane (bits d 63 48 % 16384)
  if own ≠ carried ∧ st ≠ lsALIGN ∧ st ≠ lsTRAIN then s.badReceived f lane open' else s

/-- Names an ALIGN block may bear on a lane: that of the order found, of either order while training looks for it (R233). -/
def State.alignNames (s : State) (f lane : Nat) : List Nat :=
  if s.linkState f = lsALIGN then [laneName false lane, laneName true lane]
  else [laneName (s.flag (R.MFL_LINK_STS_REVERSED f)) lane]

/-- A good control block's type and fields (R237). What a TRAIN or a NULL block says is told by the command of its own: the
places of TRAIN's operands are not given, and NULL stands among its packet's slots. A reserved type is a bad block. -/
def State.ctlBlock (s : State) (f lane : Nat) (d : Nat) (open' : Bool) : State :=
  let type := bits d 7 0
  let seq := bits d 19 8
  let mask := bits d 28 24
  if type = cbIDLE ∨ type = cbTRAIN ∨ type = cbNULL then s
  else if type = cbACK then s.ackGot f seq mask
  else if type = cbNAK then s.nakGot f seq mask
  else if type = cbXOFF ∨ type = cbXON then s.flowGot f mask
  else if type = cbTSYNC ∧ bits d 9 8 = 0 then s.tsyncReq f (bits d 15 10)
  else if type = cbTSYNC ∧ bits d 9 8 = 1 then s.tsyncRsp f (bits d 15 10) (bits d 63 16)
  else if type = cbTSYNC ∧ bits d 9 8 = 2 then s.tsyncFup f (bits d 15 10) (bits d 63 16)
  else s.badReceived f lane open'

/-- A block received on a lane: judged by its bits, descrambled unless it is an ALIGN block, and heeded when it is a control
block (R229, R230, R237; log entry 98). -/
def State.takeBlock (s : State) (f lane : Nat) (b : BitVec 69) (open' : Bool) : State :=
  let raw := (blockData b).toNat
  if !blockGood b then s.badReceived f lane open'
  else if !blockCtl b then s
  else if bits raw 7 0 = cbALIGN ∧ (s.alignNames f lane).contains (bits raw 11 8) = true ∧ bits raw 15 12 = 0 then
    s.alignBlock f lane raw open'
  else s.ctlBlock f lane (scrambled ((s.link f).rxScr.getD lane 0) (blockData b)).toNat open'

/-- BAD_BLOCK_RECEIVE: a block arrives on a lane, perhaps while a packet is being received; a bad one is counted and lost,
and with no packet open it calls for a NAK (R229, R243). -/
def execBadBlockReceive (link lane : Nat) (block : LineBlock) (s : State) : Out :=
  .next (s.takeBlock (link % 8) (lane % 9) block.bits block.open')

/-- LANE_UNLOCK: the last blocks a lane has received, oldest first, sixteen bad ones among 64 of which unlock it
(R232). -/
def execLaneUnlock (link lane : Nat) (blocks : List (BitVec 69)) (s : State) : Out :=
  .next (blocks.foldl (fun s b =>
    if blockGood b then s.modLink (link % 8) fun l => { l with
      marks := setAt l.marks (lane % 9) (((l.marks.getD (lane % 9) (0, 0)).1 * 2) % 2 ^ 64, (l.marks.getD (lane % 9) (0, 0)).2 + 1) }
    else s.badBlock (link % 8) (lane % 9)) s)

end Sys2Proof.Machine
end

