-- ==== Sys2Proof/Machine/Remote.lean ====
section
/-! DEFINITION. Frames that arrive over the fabric (R84, R105, R110, R121, R148, R243, R289, R308), management packets of
VC4 (R270, R272), and what waiting frames are granted: reservations, tags and pool cells (R55, R101, R102, R227, R465). -/

namespace Sys2Proof.Machine

/-! ### Frames of a Moaben link -/

/-- A frame carried on by its link header, without lookup and without a check (R105, R121). -/
def State.carry (s : State) (f : Frame) (fid dest : Nat) : State :=
  let t := f.tlp
  if fid = s.selfFid ∧ 64 ≤ dest then
    -- The destination names the instance (log entry 40).
    (if t.isMem && decide (4096 ≤ dest) then s.serveInst f (dest % 512) (t.addr.toNat % 65536)
     else if t.kind = .message then s else s.refuse f)
  else if fid ≠ s.selfFid ∧ s.faulted 5 fid = true then s.tableHit f 5 fid
  else match s.egressTo f.ingress fid dest t.tc.val with
    | none => if t.nonPosted then s.unsupported f else s.loseNoRoute f t.addr none
    | some e =>
      let c : Copy := { frame := f.id, egress := e, queue := queueOf f, addr := t.addr, dstFid := fid, dest := dest }
      if s.shut e then
        (if t.nonPosted then s.unsupported f else (s.bump R.BUF_FLUSH_P).ledgerCopy f c lrPORT_DOWN)
      -- A requester ID of its management function marks the traffic of other partitions (R101, R225).
      else if s.atomicBlocked f fid dest then (s.portAer dest 24 t.header).unsupported f
      else if s.asleep f e && t.reqId != s.mgmtReqId (s.portPart e) then s.refuse f
      -- Such a request takes a tag of that function that is free here (R227).
      else if isPcie e && t.nonPosted && t.reqId == s.mgmtReqId (s.portPart e) then
        (s.proxied f { c with ct := s.ctRequested f 0 } (s.portPart e) f.record).1
      else s.takeIn f [{ c with ct := s.ctRequested f 0 }]

/-- A request of a Moaben link that has its reservation: refused by the mode, replicated, or carried on (R110). -/
def State.fabricPass (s : State) (f : Frame) (fid dest : Nat) : State :=
  match s.modeRefuse f with
  | some s' => s'
  | none =>
    -- An INGRESS session on a link captures what enters there (R114).
    let s := s.capture f f.tlp false (if f.mcast then 0x7F else s.shownEgress f fid dest) false none
    if f.mcast then (match s.badGroup f.group with
      -- What its IDE MAC covers may not change here either (R208).
      | [] => if s.groupIde f f.group then s.refuse f else s.sendGroup f f.group 0
      | es => s.tableHits f es)
    else s.carry f fid dest

/-- The way of a completion of a Moaben link: here to a proxy record, an engine's tag or a plain record; one for another
device goes on by the route table, whether or not this device holds a record of its request (R102, R105, R267). -/
def State.fabricWay (s : State) (f : Frame) (fid dest : Nat) : CplWay :=
  if fid ≠ s.selfFid then
    match s.plainOf f with
    | none => if s.faulted 5 fid then .bad 5 fid else .astray fid dest
    | some r => if s.staleTag r then .stale r else if s.faulted 5 fid then .bad 5 fid else .to' r fid dest
  else match s.proxyOf f with
    | some r => s.wayBack r
    | none => match s.engTagOf f with
      | some x => .engine x
      | none => match s.plainOf f with
        | some r => s.wayBack r
        | none => .unmatched

/-- A completion of a Moaben link: captured, and sent its way. -/
def State.fabricCpl (s : State) (f : Frame) (fid dest : Nat) : State :=
  let way := s.fabricWay f fid dest
  let s := s.capture f f.tlp false (s.wayEgress f way) false none
  s.goWay f way

/-- A frame accepted from link `l` with the fields of its link header (R148). -/
def State.fabricIn (s : State) (l : Nat) (t : Tlp) (fid dest srcFid : Nat) (mcast live bank : Bool) (gate : Nat) : State :=
  let (f, s) := s.linkFrame (64 + l) t true
  let here := !mcast && fid == s.selfFid && decide (dest < 64)
  let f := { f with
    part := if here then some (s.portPart dest) else none, srcFid := srcFid, mcast := mcast, group := if mcast then dest else 0
    live := live, prio := if live then t.tc.val - 4 else 0, pool := if live then .live else f.pool
    gate := gate % 16, bank := bank }
  let (f, s) := s.stampLive f
  let s := s.entered f
  if s.isolating && (t.isCpl || live) then s.isoRefuse f
  else if t.isCpl then s.fabricCpl f fid dest
  else
    let c : Copy := { frame := f.id, egress := 0x7F, queue := 0, addr := t.addr, dstFid := fid, dest := dest }
    if t.nonPosted && s.reserveQueue f.ingress then s.wait f .reservation [c]
    else match s.reserveFor f with
      | none => s.wait f .reservation [c]
      | some (f, s) => s.fabricPass f fid dest

/-- The TLP of a packet, tag bits [13:10] from TAG_HI of its header (R235, R464). -/
def tlpOf (h : Nat) (t : Tlp) : Tlp :=
  { t with tag := BitVec.ofNat 14 (bits t.tag.toNat 9 0 + bits h 59 56 * 2 ^ 10) }

/-- Is a packet as long as its header says, within 130 granules (R235)? -/
def lengthFits (h : Nat) (tlp : Option Tlp) : Bool :=
  match tlp with
  | some t => bits h 44 37 * 32 == packetBytes (wireLen t) && decide (packetBytes (wireLen t) ≤ maxPacket)
  | none => true

/-- Do the slots after the header spell the TLP, which ends where its own header says, zeros to the last granule's end
(R235)? -/
def bodyFits (slots : List LineSlot) (tlp : Option Tlp) : Bool :=
  match tlp with
  | some t => (rebuild slots).drop 2 == bodySlots (packetBytes (wireLen t)) t.wire
  | none => true

/-- A whole packet of a link, its slots as they came with control blocks among them: its header read (R235), its
number checked (R243), its furrow word verified (R290), and its frame taken in. `bad` says that one of its blocks was bad. A
packet of VC4 with the next number is the command of what it carries (log entry 100). -/
def State.receivePacket (s : State) (l : Nat) (slots : List LineSlot) (bad : Bool) (tlp : Option Tlp) : Out :=
  if !s.listens l || !s.alive then .next s
  else match headerOf slots with
    | none => .next (s.sendNak l)
    | some h =>
      let seq := bits h 11 0
      let null := bit h 51 || endedNull slots seq
      let got := if s.linkLive l && !null && bits h 14 12 != 4 then tlp.map (tlpOf h) else none
      let bad := bad || !lengthFits h got || !bodyFits slots got
      let spoilt := !bad && got.any fun t => (furrow t).toNat != bits h 95 64
      let s := if spoilt then s.bump R.ERR_FURROW_LINK_RX else s
      let (s, ok) := s.rxPacket l seq (bad || spoilt) null
      match got with
      | none => .next s
      | some t =>
        if ok then (s.fabricIn l t (bits h 19 16) (bits h 32 20) (bits h 36 33) (bit h 52) (bit h 50) (bit h 49)
          (bits h 48 45)).updateXoff.finish
        else .next s

/-- MOABEN_PACKET_RECEIVE: a packet with the header its fields spell; `slots` are those that follow the header (R234,
R235). -/
def execMoabenPacketReceive (link seq vc fid dest srcFid length gate : Nat) (flags : HeadFlags) (fur : W32)
    (slots : List LineSlot) (bad : Bool) (tlp : Option Tlp) (s : State) : Out :=
  let h := linkHeader seq vc fid dest srcFid length gate flags.bank flags.live flags.null flags.mcast flags.replay flags.type
    flags.tagHi fur.toNat
  s.receivePacket (link % 8) ((headSlots h).map .data ++ slots) bad tlp

/-! ### Management packets of VC4 -/

/-- A change announced by a remote port: known from now on, and shown by its bridge, with the errors it brings (R270). -/
def State.remoteChange (s : State) (src part port off : Nat) (v : W32) : State :=
  -- A port that is no longer one of the partition's: its bridge stays until the virtual switch is next reset.
  if off = portGoneOff then { s with remotePorts := s.remotePorts.filter (· != (part, src, port)) } else
  -- A port announced afresh, or for the first time, has to know the bus (R271).
  let s := if s.remotePorts.contains (part, src, port) && off != 0x60 then s else s.tellBus part src port
  let s : State := { s with
    -- A port belongs to one partition: an announcement for another one moves it (R212, R270).
    remotePorts := if s.remotePorts.contains (part, src, port) then s.remotePorts
      else (s.remotePorts.filter fun r => r.2.1 != src || r.2.2 != port) ++ [(part, src, port)]
    remoteWords := storePut 0 (4096 * (Fn.remote src port).num + off) v s.remoteWords }
  if !s.remoteBridges.contains (part, src, port) then s
  else
    let fn := (Fn.remote src port).num
    let old := (s.cfg fn off).toNat
    let risen := (upTo 32).filter fun b => bit v.toNat b && !bit old b
    if off = cAerUncSts then risen.foldl (fun s b => s.aerUncorrectable fn part b []) s
    else if off = cAerCorSts then risen.foldl (fun s b => s.aerCorrectable fn part b) s
    else
      let m := cfgMask (Fn.remote src port) off
      let keep := old &&& m.direct
      let rest := v.toNat - (v.toNat &&& (m.direct ||| m.w1c))
      s.setCfg fn off (BitVec.ofNat 32 (keep ||| rest ||| ((old ||| v.toNat) &&& m.w1c)))

/-- A direct write at a bridge whose port lies here, carried from its home device (R270). -/
def State.relayIn (s : State) (part port off : Nat) (v : W32) : State :=
  if off = homeBusOff then { s with homeBuses := storePut none part (some (v.toNat % 256)) s.homeBuses }
  else if s.role port != 2 || s.portPart port != part then s
  else if off = askOff then { s with relayed := s.relayed.filter fun e => e.1 / 4096 != port }
  else if off = cBuses then s.setCfg (Fn.down port).num off v
  else
    let m := cfgMask (.down port) off
    let old := (s.cfg (Fn.down port).num off).toNat
    s.cfgStore (.down port) off ((old - (old &&& (m.direct ||| m.w1c))) ||| v.toNat) 0xF

/-- A reset of the virtual switch of a port's partition, told by its home device (R213, R216, R270). -/
def State.resetIn (s : State) (part port : Nat) (hold bridged : Bool) : State :=
  if s.role port != 2 || s.portPart port != part then s
  else
    let others := s.unbridged.filter (· != port)
    let s : State := { s with unbridged := if bridged then others else others ++ [port] }
    let s := (s.fset (R.PEP_PORT_STS_DPC port) 0).clearFn (Fn.down port).num
    let s : State := { s with relayed := s.relayed.filter fun e => e.1 / 4096 != port }
    if hold then s else s.pcieDown port

/-- A management packet for this device, from device `src` (R270, R272). -/
def State.mgmtIn (s : State) (src : Nat) (v : Vc4) : State :=
  match v with
  | .regRead part addr len n =>
    let x := s.busRead (.part (Fin.ofNat 32 part)) addr len
    (match x.2.vc4Link src with
     | some l => x.2.sendMgmt l x.2.selfFid src (.regData n (some x.1))
     | none => x.2)
  | .regWrite part addr data _ => s.busWrite (.part (Fin.ofNat 32 part)) addr data
  | .regData n data =>
    (match s.bar4.find? fun r => r.n == n with
     | none => s
     | some r =>
       let live := s.sw.tags.any fun t => r.frame.record == some t.id
       let s : State := { s with bar4 := s.bar4.filter fun x => x.n != n }
       if !live then s
       else match data with
         | some bs => s.complete r.frame .sc bs
         | none => s.unsupported r.frame)
  | .relay part port off v => s.relayIn part (port % 64) off v
  | .reset part port hold bridged => s.resetIn part (port % 64) hold bridged
  | .change part port off v => s.remoteChange src part (port % 64) off v
  | _ => s

/-- A management packet on its way to another device to which no VC4 route leads: a write is counted, and a read is answered
with Unsupported Request where its sender can be reached (R272). -/
def State.mgmtLost (s : State) (src : Nat) (v : Vc4) : State :=
  match v with
  | .regWrite _ _ _ _ => s.bump R.MAP_REMOTE_REG_FAIL
  | .regRead _ _ _ n => (match s.vc4Link src with
    | some l => s.sendMgmt l s.selfFid src (.regData n none)
    | none => s)
  | _ => s

/-- MGMT_PACKET_RECEIVE: a packet of VC4 that is not part of authentication, for this device or on its way to another
(R239, R270, R272). -/
def execMgmtPacketReceive (link src dst : Nat) (body : Vc4) (s : State) : Out :=
  if !s.listens (link % 8) then .next s
  else
    let s := s.rxVc4 (link % 8)
    if dst % 16 = s.selfFid then (s.mgmtIn (src % 16) body).finish
    else match s.vc4Link (dst % 16) with
      | some l => .next (s.sendMgmt l (src % 16) (dst % 16) body).updateXoff
      | none => .next (s.mgmtLost (src % 16) body)

/-! ### Grants -/

/-- The first waiting frame that a test accepts. -/
def State.firstWait (s : State) (ok : Waiting → Bool) : Option Waiting := s.sw.waiting.find? ok

/-- A waiting frame leaves its place. -/
def State.unwait (s : State) (w : Waiting) : State :=
  { s with sw := { s.sw with waiting := s.sw.waiting.erase w } }

/-- A frame of the part's own goes on with its copy; `pooled` when its pool has cells for it. -/
def State.resumeOwn (s : State) (f : Frame) (c : Copy) (pooled : Bool) : State :=
  if s.shut c.egress then
    (match f.record with
     | some r => (s.coreAnswer r { kind := .completion, status := .ur }).dropTag r
     | none => s.bump R.BUF_FLUSH_P)
  else if f.tlp.posted then s.takeIn f [c]
  else if pooled then (s.place f c (s.ownerOf c.dstFid c.dest) f.record).1
  else s.launchCore f c (s.ownerOf c.dstFid c.dest)

/-- Posted writes that waited behind a read of their port go on once they are first (R345); `fuel` bounds their number. -/
def State.freeTurns : Nat → Nat → State → State
  | 0, _, s => s
  | fuel + 1, n, s =>
    match s.firstWait fun w => w.need == .reservation && w.frame.ingress == n with
    | none => s
    | some w => if w.frame.tlp.posted then State.freeTurns fuel n ((s.unwait w).arrive w.frame false) else s

/-- RESERVATION_GRANTED: the first request that waits at a port for its reservation gets it, when the reserve has room
(R55). -/
def execReservationGranted (port : Nat) (s : State) : Out :=
  match s.firstWait fun w => w.need == .reservation && w.frame.ingress == port % 89 with
  | none => .next s
  | some w =>
    if s.poolFree .completion < w.frame.tlp.reserve then .next s
    else
      let s := s.unwait w
      match w.frame.origin, w.copies with
      | .device, c :: _ => .next (s.resumeOwn w.frame c false)
      | _, cs =>
        match s.reserveFor w.frame with
        | none => .next s
        | some (f, s) => match cs with
          | [] => (State.freeTurns s.sw.waiting.length (port % 89) (s.arrive f false)).updateXoff.finish
          | c :: _ => (s.fabricPass f c.dstFid c.dest).updateXoff.finish

/-- A request whose tag is found is stored and queued, or refused when its port has gone down meanwhile. -/
def State.tagged (s : State) (f : Frame) (c : Copy) : State :=
  if s.shut c.egress then s.unsupported f
  else if f.pool == .management && (s.poolQueue .management || decide (s.poolFree .management < f.tlp.cells)) then
    s.wait f .pool [c]
  else s.takeIn f [c]

/-- Requests that waited behind one for a proxy tag go on, in order, once it has gone (R23). -/
def State.letOn (s : State) (ws : List Waiting) : State :=
  ws.foldl (fun s w => match w.copies with
    | c :: _ =>
      let before := s.sw.waiting.takeWhile fun x => x.frame.id != w.frame.id
      if w.need == .order && !behindOf before w.frame c then (s.unwait w).tagged w.frame c else s
    | [] => s) s

/-- PROXY_TAG_GRANTED: the first request that waits for a proxy tag towards a port gets a free one (R101), and those that
waited behind it for their order alone go on (R23). -/
def execProxyTagGranted (port : Nat) (s : State) : Out :=
  match s.firstWait fun w => w.need == .proxyTag && w.copies.any fun c => c.egress == port % 72 with
  | none => .next s
  | some w => match w.copies with
    | [] => .next s
    | c :: _ =>
      let rid := c.newReqId.getD w.frame.tlp.reqId
      match s.freeTag rid c.egress with
      | none => .next s
      | some (g, s) =>
        let owner := (s.ownerOf c.dstFid c.dest).getD 0
        let s := match w.frame.record with
          | some r => s.modTag r fun t => { t with proxy := some (rid, g, owner) }
          | none => s
        let s := (s.unwait w).tagged w.frame { c with newTag := some g }
        .next (s.letOn s.sw.waiting).updateXoff

/-- ORIGINATED_TAG_GRANTED: the first engine read that waits for a tag towards a port gets a free one (R227). -/
def execOriginatedTagGranted (port : Nat) (s : State) : Out :=
  match s.firstWait fun w => w.need == .originatedTag && w.copies.any fun c => c.egress == port % 72 with
  | none => .next s
  | some w => match w.copies with
    | [] => .next s
    | c :: _ =>
      match s.freeTag w.frame.tlp.reqId c.egress with
      | none => .next s
      | some (g, s) =>
        let t := { w.frame.tlp with tag := g }
        let f := { w.frame with tlp := t, furrow := furrow t }
        let s := match f.record with
          | some r => (s.modEngTags fun x => if x.id = r then { x with tag := g } else x).modTag r fun t => { t with tag := g }
          | none => s
        -- Those that came after it are behind it still (R23).
        let after := (s.sw.waiting.dropWhile fun x => x.frame.id != w.frame.id).drop 1
        let s : State := { s with sw := { s.sw with waiting := s.sw.waiting.takeWhile fun x => x.frame.id != w.frame.id } }
        let s := if s.shut c.egress then s.unsupported f else (s.place f c (s.ownerOf c.dstFid c.dest) f.record).1
        let s : State := { s with sw := { s.sw with waiting := s.sw.waiting ++ after } }
        .next (s.letOn s.sw.waiting).updateXoff

/-- The frame of the part's own that waits for its pool and can have its cells, none passing another of its pool (R465). -/
def State.poolWaiter (s : State) : Option Waiting :=
  let first (w : Waiting) : Bool :=
    (s.firstWait fun x => x.need == .pool && x.frame.pool == w.frame.pool) == some w
  s.firstWait fun w => w.need == .pool && first w && decide (w.frame.tlp.cells ≤ s.poolFree w.frame.pool)

/-- POOL_SPACE_GRANTED: a frame of the part's own that waits for its pool gets its cells, in the order of its pool
(R465). -/
def execPoolSpaceGranted (s : State) : Out :=
  match s.poolWaiter with
  | none => .next ((upTo 8).foldl State.retryVc4 s)
  | some w => match w.copies with
    | [] => .next (s.unwait w)
    | c :: _ =>
      let s := s.unwait w
      .next (if c.newTag.isSome then (if s.shut c.egress then s.unsupported w.frame else s.takeIn w.frame [c])
        else s.resumeOwn w.frame c true)

/-- TAG_RECORD_TIMEOUT: a record retires MAP_PROXY_CTO after its admission; a read of core port 88 then fails, with no
further action otherwise (R102). -/
def execTagRecordTimeout (id : Nat) (s : State) : Out :=
  match s.sw.tags.find? fun t => t.id == id with
  | none => .next s
  | some t =>
    if !t.engine && !t.ended && decide (t.admitted + s.fget R.MAP_PROXY_CTO_MS * cyclesPerMs ≤ s.now) then
      .next ((s.coreAnswer id { kind := .completion, status := .ur }).dropTag id)
    else .next s

end Sys2Proof.Machine
end

