-- ==== Sys2Proof/Machine/Cores.lean ====
section
/-! DEFINITION. Accesses of the active pair and of the debug master (R315 to R318, R335 to R343, R403, R415, R416): the
core map, the memory protection unit, program order and the store buffer, reservations, fences, and denied accesses. -/

namespace Sys2Proof.Machine

/-! ### The core map (R315) -/

/-- A region of the core map. -/
inductive Region where
  | rom | sram | samples | regs | flash
  | culvert (cs : Nat)
  | host (part : Nat)
  | port88
  deriving DecidableEq, Repr

/-- The region of an address, and the offset in it. -/
def regionOf (a : Nat) : Option (Region × Nat) :=
  if a < 0x40000 then some (.rom, a)
  else if 0x8000000 ≤ a ∧ a < 0x8400000 then some (.sram, a - 0x8000000)
  else if 0x20000000 ≤ a ∧ a < 0x20100000 then some (.samples, a - 0x20000000)
  else if 0x40000000 ≤ a ∧ a < 0x41000000 then some (.regs, a - 0x40000000)
  else if 0x50000000 ≤ a ∧ a < 0x51000000 then some (.flash, a - 0x50000000)
  else if 0x100000000 ≤ a ∧ a < 0x900000000 then some (.culvert (a / 2 ^ 32 - 1), a % 2 ^ 32)
  else if 2 ^ 62 ≤ a ∧ a < 2 ^ 62 + 32 * 2 ^ 56 then some (.host (a / 2 ^ 56 - 64), a % 2 ^ 56)
  else if 2 ^ 63 ≤ a ∧ a < 2 ^ 64 then some (.port88, a - 2 ^ 63)
  else none

/-- The ordering channel of a region: the culvert's chip selects share one (R336). -/
def Region.channel : Region → Region
  | .culvert _ => .culvert 0
  | r => r

/-- Main memory: every region that is not I/O (R336). -/
def Region.isMain : Region → Bool
  | .rom => true
  | .sram => true
  | .samples => true
  | .flash => true
  | _ => false

/-- Are all bytes of an access in one region? -/
def oneRegion (a n : Nat) : Bool := (regionOf a).map (·.1) == (regionOf (a + n - 1)).map (·.1)

/-! ### The memory protection unit (R318) -/

/-- Does an enabled region of a pair hold an address? -/
def State.mpuHit (s : State) (pair r a : Nat) : Bool :=
  let base := s.fget (R.MGT_MPU_BASE_LO_BASE pair r) + s.fget (R.MGT_MPU_BASE_HI_BASE pair r) * 2 ^ 32
  let size := 2 ^ s.fget (R.MGT_MPU_CFG_SIZE_LOG2 pair r)
  s.flag (R.MGT_MPU_CFG_EN pair r) && a / size == base / size

abbrev mpDENIED : Nat := 1
abbrev mpNO_REGION : Nat := 2
abbrev mpOVERLAP : Nat := 3

/-- Cause and regions of the fault that an access meets, judged by its first byte. -/
def State.mpuCheck (s : State) (a : Nat) (user rd wr : Bool) : Option (Nat × Nat × Nat) :=
  let p := s.activePair
  match (upTo 32).filter fun r => s.mpuHit p r a with
  | [] => if user then some (mpNO_REGION, 0, 0) else none
  | [r] =>
    let ok := (!rd || s.flag (R.MGT_MPU_CFG_R p r)) && (!wr || s.flag (R.MGT_MPU_CFG_W p r))
    if (!user && !s.flag (R.MGT_MPU_CFG_M p r)) || ok then none else some (mpDENIED, r, 0)
  | r :: q :: _ => some (mpOVERLAP, r, q)

/-- An MPU fault captured, counted and signalled. -/
def State.mpuFault (s : State) (a : Nat) (c : Nat × Nat × Nat) : State :=
  let s := (s.fset R.MGT_MPU_STS_CAUSE c.1).fset R.MGT_MPU_STS_REGION0 c.2.1
  let s := (s.fset R.MGT_MPU_STS_REGION1 c.2.2).fset R.MGT_MPU_STS_PAIR s.activePair
  ((s.setPair R.MGT_MPU_ADDR_LO R.MGT_MPU_ADDR_HI a).bump R.MGT_MPU_FAULTS).raise 0x0D 0

/-! ### Traps of an access (R315, R318, R336, R338, R339) -/

def CoreKind.reads : CoreKind → Bool
  | .load => true
  | .lr => true
  | .amo _ => true
  | _ => false

def CoreKind.writes : CoreKind → Bool
  | .store => true
  | .sc _ => true
  | .amo _ => true
  | _ => false

/-- The accesses of an LR/SC loop (R339). -/
def CoreKind.loops : CoreKind → Bool
  | .lr => true
  | .sc _ => true
  | _ => false

/-- LR, SC and AMOs, on SRAM only (R336, R339). -/
def CoreKind.atomic : CoreKind → Bool
  | .lr => true
  | .sc _ => true
  | .amo _ => true
  | _ => false

/-- MISALIGN_TRAP of the active pair. -/
def State.misalignTrap (s : State) : Bool :=
  s.flag (if s.activePair = 0 then R.MGT_MPU_CTL_MISALIGN_TRAP_A else R.MGT_MPU_CTL_MISALIGN_TRAP_B)

/-- The trap an access takes before it is performed: map, MPU, then what its region allows (log entry 42). -/
def State.coreFault (s : State) (o : CoreOp) : Option State :=
  let plain := o.kind == .load
  let access (s : State) : Option State := some (s.coreTrap (if plain then xLoadAccess else xStoreAccess) o.addr)
  let misaligned := some (s.coreTrap (if plain then xLoadMisaligned else xStoreMisaligned) o.addr)
  match regionOf o.addr with
  | none => access s
  | some (r, _) =>
    match s.mpuCheck o.addr o.user o.kind.reads o.kind.writes with
    | some c => access (s.mpuFault o.addr c)
    | none =>
      let odd := o.addr % o.size != 0
      if o.kind.atomic then (if r != .sram then access s else if odd then misaligned else none)
      else if r.isMain then
        if !oneRegion o.addr o.size || (o.kind.writes && r != .sram) then access s
        else if odd && o.user && s.misalignTrap then misaligned
        else none
      else if odd then misaligned
      else none

/-! ### The store buffer (R340) -/

/-- Pieces of a store, cut at each 8-byte boundary (R338). -/
def storePieces (a : Nat) (bs : List Byte) : List (Nat × List Byte) :=
  let n := 8 - a % 8
  if bs.length ≤ n then [(a, bs)] else [(a, bs.take n), (a + n, bs.drop n)]

/-- The youngest buffered store's byte at an address. -/
def State.sbByte (s : State) (a : Nat) : Option Byte :=
  s.mgt.sb.foldl (fun b e => if e.addr ≤ a ∧ a < e.addr + e.data.length then e.data[a - e.addr]? else b) none

/-- Bytes of main memory as the pair reads them: a buffered store returns the stored bytes. -/
def State.coreBytes (s : State) (a n : Nat) : List Byte :=
  (upTo n).map fun k => (s.sbByte (a + k)).getD ((s.memByte (a + k)).getD 0)

/-- Is a store to main memory, or to an I/O region, in the buffer? -/
def State.sbHas (s : State) (main : Bool) : Bool :=
  s.mgt.sb.any fun e => (regionOf e.addr).any fun r => r.1.isMain == main

/-- Is a store to the channel of a region in the buffer (R337)? -/
def State.sbChannel (s : State) (r : Region) : Bool :=
  s.mgt.sb.any fun e => (regionOf e.addr).any fun x => x.1.channel == r.channel

/-- Stores sent as frames that have not left or been discarded (R341). -/
def State.storesOut (s : State) : List Nat :=
  s.mgt.stores.filter fun id => !(s.copiesOf id).isEmpty || s.sw.waiting.any fun w => w.frame.id == id

/-- An SRAM_UE record (R316, R334). -/
def State.sramUe (s : State) (off : Nat) : State := s.record 0x0206 lvNOTICE none 0x7F (off % 2 ^ 24)

/-- Bytes of a store reach the SRAM array: a part of an 8-byte word is merged with it, which an uncorrectable error
prevents (R316). -/
def State.sramStore (s : State) (off : Nat) (bs : List Byte) (ecc : Option EccFault) : State :=
  if bs.length = 8 ∧ off % 8 = 0 then s.sramPut off bs
  else match ecc with
    | none => s.sramPut off bs
    | some .corrected => (s.bump R.MGT_SRAM_CE).sramPut off bs
    | some .uncorrectable => (s.captureBerr (0x8000000 + off) beSRAM_UE 1).sramUe off

/-- A request that the pair or the debug master makes at core port 88, looked up; in ISOLATE and SAFE it is refused as
any other (R92, R309, R427). -/
def State.request88 (s : State) (f : Frame) : State :=
  if s.mode = mSAFE then (if f.tlp.nonPosted then s.unsupported f else s)
  else if s.isolating then s.isoRefuse f
  else s.lookUpFrame f

/-- A posted write at core port 88, as the frame numbered next; none while the management pool has no room (R465). -/
def State.write88 (s : State) (addr : Nat) (bs : List Byte) : Option State :=
  let t : Tlp := { kind := .memWrite, addr := BitVec.ofNat 64 addr, len := bs.length, data := bs }
  if s.poolFree .management < t.cells || s.poolQueue .management then none
  else
    let (id, s) := s.fresh
    some (s.request88 (s.formFrame id 88 t .management .device))

/-- A write on the host path of a partition: refused in ISOLATE and SAFE as any other request (R309, R315, R427). -/
def State.writeHost (s : State) (part addr : Nat) (bs : List Byte) : State :=
  s.hostPost part addr bs .mgmt

/-- The frame numbered next is one of the pair's stores. -/
def State.noteStore (s : State) (id : Nat) : State :=
  { s with mgt := { s.mgt with stores := s.storesOut ++ [id] } }

/-- A store to a host path: noted when a frame of its own has been formed for it (R341). -/
def State.storeHost (s : State) (part addr : Nat) (bs : List Byte) : State :=
  let t := s.writeHost part addr bs
  if t.sw.nextId = s.sw.nextId then t else t.noteStore s.sw.nextId

/-- The oldest store leaves the buffer when its target accepts it (R340, R343). -/
def State.sbDrain (s : State) : State :=
  match s.mgt.sb with
  | [] => s
  | e :: es =>
    let out : State := { s with mgt := { s.mgt with sb := es } }
    match regionOf e.addr with
    | some (.sram, off) => out.sramStore off e.data e.ecc
    | some (.regs, off) => out.busWrite .mgmt off e.data
    | some (.culvert cs, off) =>
      let o : LbOp := { src := .core e.id, cs := cs, addr := off, len := e.data.length, write := true, data := e.data }
      if s.lbMay { o with posted := s.lbPosted cs off } && s.cul.door.all fun x => x.who != 32 then out.lbEnter o else s
    | some (.host p, off) => out.storeHost p off e.data
    | some (.port88, off) => (match (out.noteStore s.sw.nextId).write88 off e.data with
      | some s => s
      | none => s)
    | _ => out

/-! ### Accesses performed in program order (R335 to R341) -/

/-- The access in front is marked as sent on. -/
def State.issueOp (s : State) (o : CoreOp) : State :=
  { s with
    mgt := { s.mgt with ops := s.mgt.ops.map fun x => if x.id = o.id then { x with issued := some s.now } else x }
    coreReads := s.coreReads.filter fun r => r.why != .load }

/-- A read that a requester of the core map makes at core port 88 with lookup (R92, R315). -/
def State.read88 (s : State) (addr len : Nat) (why : CoreWhy) : Option State :=
  let t : Tlp := { kind := .memRead, addr := BitVec.ofNat 64 addr, len := len }
  if s.poolFree .completion < t.reserve ∨ s.poolFree .management < t.cells ∨ s.poolQueue .management = true then none
  else
    let (id, s) := s.fresh
    let x : TagRec :=
      { id := id, reqId := 0, tag := 0, ingress := 88, fid := s.selfFid, reserved := t.reserve, admitted := s.now }
    let s : State := { s with
      sw := { s.sw with tags := s.sw.tags ++ [x] }
      coreReads := s.coreReads ++ [{ id := id, why := why, len := len }] }
    some (s.request88 { s.formFrame id 88 t .management .device with record := some id })

/-- A read on the host path of a partition; false when it has no way there (R315). -/
def State.readHost (s : State) (part addr len : Nat) (why : CoreWhy) : State × Bool :=
  if s.mode = mSAFE ∨ s.isolating = true then (s, false)
  else match s.homeOf part with
    | none => (s, false)
    | some (fid, p) => s.coreRead fid p (BitVec.ofNat 64 addr) len why

/-- A load of main memory, with what its word's check bits show (R316, R338). -/
def State.loadMain (s : State) (o : CoreOp) (r : Region) (off : Nat) : State :=
  match (if r = .sram then o.ecc else none) with
  | some .uncorrectable =>
    ((s.captureBerr o.addr beSRAM_UE 0).raise 0x0C 3).sramUe off |>.coreTrap xLoadAccess o.addr
  | some .corrected => (s.bump R.MGT_SRAM_CE).coreDone o.id (s.coreBytes o.addr o.size)
  | none => s.coreDone o.id (s.coreBytes o.addr o.size)

/-- A load of an I/O region, once no store to its channel waits in the buffer (R337). -/
def State.loadIo (s : State) (o : CoreOp) (r : Region) (off : Nat) : State :=
  if s.sbChannel r then s
  else match r with
    | .regs =>
      let x := s.busRead .mgmt off o.size
      x.2.coreDone o.id x.1
    | .culvert cs => (s.issueOp o).lbEnter { src := .core o.id, cs := cs, addr := off, len := o.size, write := false }
    | .host p =>
      let x := (s.issueOp o).readHost p off o.size .load
      if x.2 then x.1 else x.1.coreLoadFails o.id beUR
    | .port88 => ((s.issueOp o).read88 off o.size .load).getD s
    | _ => s

/-- The response of a load at core port 88 is retired (R316, R335). -/
def State.retireLoad (s : State) (o : CoreOp) : State :=
  match s.coreReads.find? fun r => r.why == .load && r.done with
  | none => s
  | some r =>
    let s : State := { s with coreReads := s.coreReads.filter fun x => x.why != .load }
    if r.failed then s.coreLoadFails o.id r.cause else s.coreDone o.id (r.data.take o.size)

/-- A store enters the buffer when its pieces have room (R340). -/
def State.storeIn (s : State) (o : CoreOp) : State :=
  let ps := storePieces o.addr (leBytes o.size o.data)
  if 16 < s.mgt.sb.length + ps.length then s
  else
    let es := ps.map fun p => ({ id := o.id, addr := p.1, data := p.2, ecc := o.ecc } : SbEntry)
    { s with mgt := { s.mgt with sb := s.mgt.sb ++ es, ops := s.mgt.ops.filter fun x => x.id != o.id } }

/-- Result of an AMO of so many bits on the memory value `m` and the register value `r`. -/
def amoResult (op bits' m r : Nat) : Nat :=
  let sm := signedOf bits' m
  let sr := signedOf bits' r
  match op with
  | 0 => r
  | 1 => (m + r) % 2 ^ bits'
  | 2 => m ^^^ r
  | 3 => m &&& r
  | 4 => m ||| r
  | 5 => if sm ≤ sr then m else r
  | 6 => if sm ≤ sr then r else m
  | 7 => min m r
  | _ => max m r

/-- Does the reservation let an SC store: held, the same 64-byte granule, at most 256 core cycles old (R339)? -/
def State.reserved (s : State) (a : Nat) : Bool :=
  match s.mgt.resv with
  | none => false
  | some (g, t) => g == a / 64 && decide (s.now ≤ t + 256)

/-- May the core choose to fail an SC: any but the second of an LR/SC loop with no other access in it, unless an interrupt
waits that it may have taken (R339; log entry 111). -/
def State.scMayFail (s : State) (o : CoreOp) : Bool :=
  s.mgt.loop != some { addr := o.addr, size := o.size, failed := true } || s.externalIrq || s.mgt.timer

/-- The loop after an LR. -/
def State.loopLr (s : State) (o : CoreOp) : Option ScLoop :=
  let again := s.mgt.loop == some { addr := o.addr, size := o.size, failed := true, armed := false }
  some { addr := o.addr, size := o.size, failed := again }

/-- The loop after an SC that has failed. -/
def State.loopSc (s : State) (o : CoreOp) : Option ScLoop :=
  match s.mgt.loop with
  | some l => if l.addr = o.addr ∧ l.size = o.size ∧ l.armed = true then some { l with failed := true, armed := false } else none
  | none => none

/-- An LR, SC or AMO on SRAM, once the store buffer is empty (R339). -/
def State.atomicOp (s : State) (o : CoreOp) (off : Nat) : State :=
  if !s.mgt.sb.isEmpty then s
  else match o.kind, o.ecc with
    | .sc fail, _ =>
      let ok := s.reserved o.addr && !(fail && s.scMayFail o)
      let s : State := { s with mgt := { s.mgt with resv := none, loop := if ok then none else s.loopSc o } }
      if ok then (s.sramStore off (leBytes o.size o.data) o.ecc).coreDone o.id (leBytes 8 0)
      else
        -- The value is not zero, and otherwise not defined.
        let x := s.drawNat
        x.2.coreDone o.id (leBytes 8 (x.1 % (2 ^ 64 - 1) + 1))
    | _, some .uncorrectable =>
      ((s.captureBerr o.addr beSRAM_UE 0).raise 0x0C 3).sramUe off |>.coreTrap xStoreAccess o.addr
    | k, ecc =>
      let s := if ecc.isSome then s.bump R.MGT_SRAM_CE else s
      let bs := s.coreBytes o.addr o.size
      match k with
      | .amo op =>
        let v := amoResult op.val (8 * o.size) (leNat bs) (o.data % 256 ^ o.size)
        (s.sramPut off (leBytes o.size v)).coreDone o.id bs
      | _ => ({ s with mgt := { s.mgt with resv := some (o.addr / 64, s.now), loop := s.loopLr o } } : State).coreDone o.id bs

/-- Culvert writes of the pair in the bridge. -/
def State.pairWrites (s : State) : List Nat := (s.cul.ops.filter fun o => o.write && o.who == 32).map (·.id)

/-- A FENCE that covers device output starts its barrier once it is in front: over the pair's culvert writes in the bridge,
and those that reach it later, which are all earlier ones (R342). -/
def State.fenceStart (s : State) (o : CoreOp) : State :=
  if o.fence then s
  else
    let s := s.barrierStart 32 s.pairWrites true
    { s with mgt := { s.mgt with ops := s.mgt.ops.map fun x => if x.id = o.id then { x with fence := true } else x } }

/-- A FENCE in front: it waits for the earlier accesses of its predecessor set (R341); one that covers device output is a
barrier over the pair's culvert writes (R342). -/
def State.fenceOp (s : State) (o : CoreOp) (pred : Nat) : State :=
  let out := bit pred 2
  let s := if out then s.fenceStart o else s
  if (bit pred 0 && s.sbHas true)
      || (out && (s.sbHas false || !s.storesOut.isEmpty || s.cul.door.any fun x => x.write && x.who == 32)) then s
  else
    let s := if out then (s.barrierWhole 32).barrierSettle 32 else s
    if out && s.barrierOpen 32 then s
    else { s with mgt := { s.mgt with ops := s.mgt.ops.filter fun x => x.id != o.id } }

/-- The access in front, when it can be performed now. -/
def State.performOp (s : State) (o : CoreOp) : State :=
  let s : State := if o.kind.loops then s else { s with mgt := { s.mgt with loop := none } }
  match o.kind with
  | .fence pred => s.fenceOp o pred
  | k =>
    if o.issued.isSome then s.retireLoad o
    else match s.coreFault o with
      | some t => t
      | none => match regionOf o.addr with
        | none => s
        | some (r, off) =>
          if k.atomic then s.atomicOp o off
          else if k.writes then s.storeIn o
          else if r.isMain then s.loadMain o r off
          else s.loadIo o r off

/-- Accesses performed in program order while the one in front can be; `fuel` bounds their number. -/
def State.corePumpN : Nat → State → State
  | 0, s => s
  | fuel + 1, s =>
    match s.mgt.ops with
    | [] => s
    | o :: _ =>
      let t := s.performOp o
      if t.mgt.ops.any fun x => x.id == o.id then t else State.corePumpN fuel t

/-- The pair's accesses go on; none while the stores of before a warm reset still drain (R343). -/
def State.corePump (s : State) : State := if s.lost || s.mgt.drain.isSome then s else State.corePumpN s.mgt.ops.length s

/-- Does the active pair execute instructions: not lost, not halted by the debug master, or stepped by it (R314, R415)? -/
def State.coreRuns (s : State) : Bool := s.alive && !s.lost && (!s.mgt.halted || s.mgt.steps != 0)

/-- An access of the active pair, in its place in program order. -/
def State.coreOp (s : State) (o : CoreOp) : State :=
  if !s.coreRuns then s
  else
    let s : State := { s with mgt := { s.mgt with
      startAt := none
      ops := s.mgt.ops ++ [{ o with id := s.mgt.nextOp }], nextOp := s.mgt.nextOp + 1, steps := s.mgt.steps - 1 } }
    s.corePump

/-- Bytes of a load or store: 1, 2, 4 or 8. -/
def accessSize (size : Nat) : Nat := 2 ^ (size % 4)

/-- Bytes of an LR, SC or AMO: 4 or 8. -/
def atomicSize (wide : Bool) : Nat := if wide then 8 else 4

/-! ### The commands of the active pair -/

/-- CORE_LOAD (R316, R336 to R338, R340). `size` is the base-2 logarithm of its bytes, `user` its mode, `ecc` what SRAM
shows. -/
def execCoreLoad (addr size : Nat) (user : Bool) (ecc : Option EccFault) (s : State) : Out :=
  (s.coreOp { id := 0, kind := .load, addr := addr % 2 ^ 64, size := accessSize size, user := user, ecc := ecc }).finish

/-- CORE_STORE (R340). -/
def execCoreStore (addr size data : Nat) (user : Bool) (ecc : Option EccFault) (s : State) : Out :=
  (s.coreOp { id := 0, kind := .store, addr := addr % 2 ^ 64, size := accessSize size, data := data, user := user,
              ecc := ecc }).finish

/-- CORE_FENCE (R341): FENCE with a predecessor set (bits I 3, O 2, R 1, W 0), FENCE.TSO, or FENCE.I, which waits for
every store. Accesses behind it wait in any case. -/
def execCoreFence (kind pred : Nat) (s : State) : Out :=
  (s.coreOp { id := 0, kind := .fence (match kind with
    | 0 => pred % 16
    | 1 => 3
    | _ => 5) }).finish

/-- CORE_LR (R339). -/
def execCoreLr (addr : Nat) (wide user : Bool) (ecc : Option EccFault) (s : State) : Out :=
  (s.coreOp { id := 0, kind := .lr, addr := addr % 2 ^ 64, size := atomicSize wide, user := user, ecc := ecc }).finish

/-- CORE_SC: `fail` says that the core chooses to fail it (R339). -/
def execCoreSc (addr data : Nat) (wide user fail : Bool) (ecc : Option EccFault) (s : State) : Out :=
  (s.coreOp { id := 0, kind := .sc fail, addr := addr % 2 ^ 64, size := atomicSize wide, data := data, user := user,
              ecc := ecc }).finish

/-- CORE_AMO: 0 swap, 1 add, 2 xor, 3 and, 4 or, 5 min, 6 max, 7 minu, 8 maxu (R339). -/
def execCoreAmo (op : Fin 9) (addr data : Nat) (wide user : Bool) (ecc : Option EccFault) (s : State) : Out :=
  (s.coreOp { id := 0, kind := .amo op, addr := addr % 2 ^ 64, size := atomicSize wide, data := data, user := user,
              ecc := ecc }).finish

/-- CORE_LOAD_TIMEOUT: the load in front has waited MGT_CTO for core port 88 or the local bus (R316, R358). -/
def execCoreLoadTimeout (s : State) : Out :=
  match s.mgt.ops with
  | [] => .next s
  | o :: _ => match o.issued, regionOf o.addr with
    | some t, some (r, _) =>
      let far := match r with
        | .host _ => true
        | .port88 => true
        | .culvert _ => true
        | _ => false
      let answered := s.coreReads.any fun r => r.why == .load && r.done
      if !far || answered || decide (s.now < t + s.fget R.MGT_CTO_US * cyclesPerUs) then .next s
      else
        let s : State := { s with coreReads := s.coreReads.filter fun r => r.why != .load }
        .next (s.coreLoadFails o.id beTIMEOUT)
    | _, _ => .next s

/-! ### The debug master (R403, R415, R416) -/

/-- Does a locked region hold an address: an enabled SEC_LOCK_REGION, the SEC pages, or MGT page 1? -/
def State.lockedAt (s : State) (a : Nat) : Bool :=
  decide (0x40008000 ≤ a ∧ a < 0x4000C000) || decide (0x4000D000 ≤ a ∧ a < 0x4000E000)
    || (upTo 16).any fun r =>
      let base := s.fget (R.SEC_LOCK_BASE_LO_BASE r) + s.fget (R.SEC_LOCK_BASE_HI_BASE r) * 2 ^ 32
      let size := 2 ^ s.fget (R.SEC_LOCK_CFG_SIZE_LOG2 r)
      s.flag (R.SEC_LOCK_CFG_EN r) && a / size == base / size

/-- What the debug master may write in every state to hand in an unlock token: the table port of SEC page 3 and SEC_UNLOCK
(R417, log entry 104). -/
def tokenPort (a : Nat) : Bool := decide (0x4000B100 ≤ a ∧ a < 0x4000B104) || decide (0x4000BF00 ≤ a ∧ a < 0x4000C000)

abbrev dkREAD : Nat := 0
abbrev dkWRITE : Nat := 1
abbrev dkRUN : Nat := 2
abbrev dkSCAN : Nat := 3
abbrev dkKEYS : Nat := 4

/-- Is a debug access denied? `addr` is the address, the run-control request, or the boundary-scan instruction
(0 BYPASS, 1 IDCODE, 2 SAMPLE). In the core cycle of an unlock it is judged under the state before (R417). -/
def State.debugDenied (s : State) (kind addr len : Nat) : Bool :=
  let life := match s.sec.unlocked with
    | some (t, was) => if t = s.now then was else s.lifeState
    | none => s.lifeState
  let closed := life == lcOWNED || life == lcRETIRED
  if kind = dkKEYS then true
  else if !closed then false
  else if kind = dkRUN then true
  else if kind = dkSCAN then decide (2 < addr)
  else (upTo len).any fun k => s.lockedAt (addr + k) && !(kind == dkWRITE && tokenPort (addr + k))

/-- A denied access: status DENIED, an entry of the deny log, a record, a count and an event (R415, R418). -/
def State.debugDeny (s : State) (kind addr : Nat) : State :=
  let e := s.ns % 2 ^ 64 + addr % 2 ^ 64 * 2 ^ 64 + kind % 8 * 2 ^ 128 + 2 ^ 131
  let s := s.setTbl 0x09 3 s.sec.denyNext (BitVec.ofNat 256 e)
  let s : State := { s with sec := { s.sec with denyNext := (s.sec.denyNext + 1) % 16 } }
  let s := (s.bump R.SEC_DEBUG_DENIALS).record 0x0305 lvNOTICE none 0x7F (addr % 2 ^ 64 + kind % 8 * 2 ^ 64)
  { s.raise 0x08 2 with answer := .denied }

/-- Run control: 0 resume, 1 halt, 2 step; beyond these, access to a register of a core, whose value is the hart's own. -/
def State.runControl (s : State) (what : Nat) : State :=
  match what with
  | 0 => { s with mgt := { s.mgt with halted := false, steps := 0 } }
  | 1 => { s with mgt := { s.mgt with halted := true, steps := 0 } }
  | 2 => if s.mgt.halted then { s with mgt := { s.mgt with steps := s.mgt.steps + 1 } } else s
  | _ =>
    let x := s.drawNat
    { x.2 with answer := .bytes (leBytes 8 (x.1 % 2 ^ 64)) }

/-- A read of the debug master through core port 88, as one request or, past a 4 KiB boundary, as two (R123). -/
def State.debugCut (s : State) (off len : Nat) (issue : State → Nat → Nat → Option State) : State :=
  let n := 4096 - off % 4096
  let refused : State := s.debugGives []
  if len ≤ n then (issue s off len).getD refused
  else match issue s off n with
    | none => refused
    | some t =>
      let first := (t.coreReads.map (·.id)).foldl max 0
      match issue t (off + n) (len - n) with
      | none => refused
      | some u => { u with coreReads := u.coreReads.map fun r => if r.id = first then { r with more := true } else r }

/-- A read of the core map by the debug master: no bytes where the map has nothing or the read finds no way. -/
def State.debugRead (s : State) (a len : Nat) : State :=
  match regionOf a with
  | none => s.debugGives []
  | some (.regs, off) =>
    let x := s.busRead .debug off len
    x.2.debugGives x.1
  | some (.culvert cs, off) =>
    let (id, s) := s.fresh
    let s : State := { s with coreReads := s.coreReads ++ [{ id := id, why := .debug, len := len }] }
    s.lbEnter { src := .debug id, cs := cs, addr := off, len := len, write := false }
  | some (.host p, off) =>
    s.debugCut off len fun s off len =>
      let x := s.readHost p off len .debug
      if x.2 then some x.1 else none
  | some (.port88, off) => s.debugCut off len fun s off len => s.read88 off len .debug
  | some _ => s.debugGives (if oneRegion a len then s.memBytes a len else [])

/-- Bytes of a write, cut at each 4 KiB boundary (R123); `fuel` bounds the pieces. -/
def cut4k : Nat → Nat → List Byte → List (Nat × List Byte)
  | 0, _, _ => []
  | fuel + 1, a, bs =>
    let n := 4096 - a % 4096
    if bs.length ≤ n then [(a, bs)] else (a, bs.take n) :: cut4k fuel (a + n) (bs.drop n)

/-- A write by the debug master clears a reservation of a granule it touches (R339). -/
def State.debugWrite (s : State) (a : Nat) (bs : List Byte) : State :=
  match regionOf a with
  | some (.sram, off) =>
    if !oneRegion a bs.length then s
    else
      let hit := s.mgt.resv.any fun r => decide (a / 64 ≤ r.1 ∧ r.1 ≤ (a + bs.length - 1) / 64)
      let s := s.sramPut off bs
      let near := s.mgt.loop.any fun l => decide (a / 64 ≤ l.addr / 64 ∧ l.addr / 64 ≤ (a + bs.length - 1) / 64)
      let s : State := if near then { s with mgt := { s.mgt with loop := none } } else s
      if hit then { s with mgt := { s.mgt with resv := none } } else s
  | some (.regs, off) => s.busWrite .debug off bs
  | some (.culvert cs, off) =>
    s.lbEnter { src := .req .debug, cs := cs, addr := off, len := bs.length, write := true, data := bs }
  | some (.host p, off) => (cut4k bs.length off bs).foldl (fun s x => s.writeHost p x.1 x.2) s
  | some (.port88, off) => (cut4k bs.length off bs).foldl (fun s x => (s.write88 x.1 x.2).getD s) s
  | _ => s

/-- The reads of the debug master's oldest access, once they have all their data: responses are retired in the order of
their requests (R335). -/
def debugDone : List CoreRead → List CoreRead
  | r :: q :: _ => if !r.done then [] else if !r.more then [r] else if q.done then [r, q] else []
  | [r] => if r.done && !r.more then [r] else []
  | [] => []

/-- Responses of the debug master's reads at core port 88. -/
def State.debugAnswer (s : State) : State :=
  let rs := debugDone (s.coreReads.filter fun r => r.why == .debug)
  if rs.isEmpty then s
  else
    { s with
      coreReads := s.coreReads.filter fun x => rs.all fun r => r.id != x.id
      answer := .bytes (if rs.any (·.failed) then [] else rs.flatMap fun r => r.data.take r.len) }

/-- DEBUG_ACCESS (R415, R416): kind 0 a read of `len` bytes, 1 a write of `data`, 2 run control, 3 a boundary-scan
instruction, 4 the key store. -/
def execDebugAccess (kind addr len : Nat) (data : List Byte) (s : State) : Out :=
  let n := if kind = dkWRITE then data.length else len % 4097
  if !s.alive then .next s
  else if s.debugDenied kind addr n then .next (s.debugDeny kind addr)
  else match kind with
    | 0 => .next (s.debugRead addr n)
    | 1 => if n = 0 then .next s else (s.debugWrite addr data).finish
    | 2 => .next (s.runControl addr)
    -- What the part's scan cells do is not described: a boundary-scan instruction changes nothing of the block.
    | _ => .next s

end Sys2Proof.Machine
end

