-- ==== Sys2Proof/Machine/Egress.lean ====
section
/-! DEFINITION. Egress (R23, R52, R58 to R66, R84, R100, R101, R103, R235, R241, R244, R290, R291, R293, R300): which queue
head starts next, what its start and its last byte do. -/

namespace Sys2Proof.Machine

/-! ### The packet that leaves -/

/-! ### Readiness (R23, R60, R63, R84) -/

/-- Bytes of a frame stored so far: all once it is whole, else what its ingress link's rate has brought. -/
def State.stored (s : State) (f : Frame) : Nat :=
  if f.whole then f.tlp.bytes
  else
    let r := s.rate f.ingress
    min f.tlp.bytes ((s.now - f.born) * r.1 / (r.2 * 10 ^ 7))

/-- Do a copy's cut-through conditions hold as it starts (R62, R218)? -/
def State.startsCt (s : State) (f : Frame) (c : Copy) : Bool :=
  c.ct && s.endsCleanly c.egress && s.rateGe f.ingress c.egress

/-- Are enough cells stored: all of them, or for a cut-through copy LEAD (R63, R66)? -/
def State.cellsReady (s : State) (f : Frame) (c : Copy) : Bool :=
  f.whole || (s.startsCt f c && decide (min f.tlp.bytes (s.fget (R.SWC_FWD_LEAD f.ingress) * 256) ≤ s.stored f))

/-- May a Moaben link take a copy now (R235, R241, R244, R252)? -/
def State.linkTakes (s : State) (l : Nat) (f : Frame) (c : Copy) : Bool :=
  s.linkUp l && (s.link l).change.isNone && (s.link l).begun && !(decide (vcOf f < 2) && bit (s.fget (R.MFL_LINK_STS_XOFF_TX l)) (vcOf f))
    && s.windowOpen l (packetBytes (wireLen (s.copyTlp f c)))

/-- Does an earlier posted copy of the same ingress and traffic class wait for the port? Nothing of that traffic class
passes it but a completion with Relaxed Ordering (R23; log entry 41). A completion that the part forms stays behind the
posted writes of its engines and of core port 88 too (R346). -/
def blocked (all : List (Copy × Frame)) (c : Copy) (f : Frame) : Bool :=
  let near (x : Copy × Frame) : Bool := x.2.tlp.posted && x.2.tlp.tc == f.tlp.tc
  !(f.tlp.isCpl && f.tlp.relaxed)
    && ((all.takeWhile fun x => x.1.id != c.id).any (fun x => near x && x.2.ingress == f.ingress)
      || (f.origin == .device && f.tlp.isCpl && all.any fun x => near x && decide (72 ≤ x.2.ingress ∧ x.2.id < f.id)))

/-- Does a completion that the part forms wait for an earlier posted write of its engines or of core port 88, towards the
same port and in the same traffic class, that still waits for its pool (R346, R465)? -/
def State.heldBack (s : State) (n : Nat) (f : Frame) : Bool :=
  f.origin == .device && f.tlp.isCpl && s.sw.waiting.any fun w =>
    w.frame.tlp.posted && w.frame.tlp.tc == f.tlp.tc && decide (72 ≤ w.frame.ingress ∧ w.frame.id < f.id)
      && w.copies.any fun c => c.egress == n

/-- The copies queued for a port that have not started, in order, with their frames. -/
def State.queued (s : State) (n : Nat) : List (Copy × Frame) :=
  (s.sw.copies.filter fun c => c.egress == n && !c.unacked && !c.sending).filterMap fun c => (s.frame? c.frame).map fun f => (c, f)

/-- Is a port's link able to take copies at all (R84, R225, R308)? -/
def State.egressOpen (s : State) (n : Nat) : Bool :=
  s.alive && s.fget R.ERR_ISO_STS_STATE != isoENTERING && !(s.port n).flushing
    && (if isPcie n then (s.port n).up && !(s.port n).l1 && !(s.port n).redoing else if isMoaben n then s.linkUp (n - 64) else true)

/-- The head of a queue, when it can start; `credits` has a bit for each queue whose head the link partner has credits for
(R60). -/
def State.readyHead (s : State) (all : List (Copy × Frame)) (n credits q : Nat) : Option (Copy × Frame) :=
  match all.find? fun x => x.1.queue == q with
  | none => none
  | some (c, f) =>
    let link := if isPcie n then bit credits q else if isMoaben n then s.linkTakes (n - 64) f c else true
    if link && s.cellsReady f c && !blocked all c f && !s.heldBack n f then some (c, f) else none

/-- The next copy of a port, and the port's pointers after it (R60). -/
def State.selectNext (s : State) (n credits : Nat) : Option (Copy × Frame × PortSt) :=
  let all := s.queued n
  let p := s.port n
  let head := s.readyHead all n credits
  let live := ([15, 14, 13, 12] : List Nat).find? fun q => (head q).isSome
  let cls := rotate 4 p.classPtr fun k => (upTo 3).any fun t => (head (3 * k + t)).isSome
  let ordTurn := match live, cls with
    | some _, some _ => decide ((p.starts.filter id).length < s.fget R.SWC_EGR_CTL_ORD_MIN)
    | none, some _ => true
    | _, none => false
  if ordTurn then
    match cls with
    | none => none
    | some k =>
      match rotate 3 (p.typePtrs.getD k 2) fun t => (head (3 * k + t)).isSome with
      | none => none
      | some t => (head (3 * k + t)).map fun x =>
          (x.1, x.2, { p with starts := (true :: p.starts).take 15, classPtr := k, typePtrs := setAt p.typePtrs k t })
  else match live with
    | none => none
    | some q => (head q).map fun x => (x.1, x.2, { p with starts := (false :: p.starts).take 15 })

/-! ### What spoils a copy as its cells are read (R66, R290, R291, R293, R300) -/

abbrev spNONE : Nat := 0
abbrev spFURROW : Nat := 1
abbrev spUE : Nat := 2
abbrev spXFORM : Nat := 3
abbrev spCE : Nat := 4
abbrev spQUEUE : Nat := 5
abbrev spREPLAY : Nat := 6

/-- A corrected cell error: counted against its bank, recorded, and logged by the management function (R87, R217, R293,
R300). -/
def State.cellCe (s : State) (f : Frame) (c : Copy) (cell : Nat) : State :=
  let s := (s.countCe (cell % 256)).recordCopy eCELL_CE lvNOTICE f c f.furrow.toNat cell
  match f.part with
  | some p => s.aerCorrectable (Fn.mgmt p).num p aerCorrectedInternal
  | none => s

/-- A store-and-forward copy that fails its checks is discarded (R66, R298). -/
def State.discardCopy (s : State) (f : Frame) (c : Copy) (code got cell : Nat) : State :=
  let s := s.recordCopy code lvFRAME f c got cell
  let s := ((s.bridgeAer f c).bump R.SWC_SF_DISCARD).removeCopy c.id
  let s := (if f.tlp.nonPosted then s.unsupported f else s).reap
  (s.countError c.egress).updateXoff

/-- A copy spoilt: discarded under store-and-forward, ended as a late error under cut-through (R64, R66). -/
def State.spoil (s : State) (f : Frame) (c : Copy) (ct : Bool) (kind got cell : Nat) : State :=
  let code := if kind = spUE then eCELL_UE else if kind = spXFORM then eXFORM_MISMATCH
    else if ct then eFURROW_LATE else eFURROW_SF
  if ct then s.lateFault f c code got (if kind = spUE then cell else 0)
  else s.discardCopy f c code got (if kind = spUE then cell else 0)

/-- A queue or descriptor error: level PORT, LINK or an engine's abort (R300). -/
def State.queueUe (s : State) (n : Nat) : State :=
  let s := s.record eQUEUE_UE (if isMoaben n then lvLINK else lvPORT) (if isPcie n then some (s.portPart n) else none) n n
  (s.portAer n aerInternal []).containPort n

/-! ### Start -/

/-- A copy's transmission begins: counts, captures, and how it goes (R61 to R63, R114, R389, R390, R394). -/
def State.beginCopy (s : State) (f : Frame) (c : Copy) (ct : Bool) (spoilt : Option Nat) : State :=
  let n := c.egress
  let hold := ct && s.contains n
  let s := s.setCopies (s.sw.copies.map fun x =>
    if x.id = c.id then { x with sending := true, started := s.now, cellsRead := 0, ct := ct, contain := hold, spoilt := spoilt } else x)
  let s : State := { s with sw := { s.sw with pathWinner := storePut 88 n f.ingress s.sw.pathWinner } }
  let s := if ct then (s.bump R.SWC_CT_FRAMES).tel 7 n 1 (some f) else s
  let s := if c.ct && !ct then (s.bump R.SWC_CT_FALLBACK).tel 8 n 1 (some f) else s
  -- On a Moaben link its packet takes a number and a place in the replay buffer as it begins (R243, R244).
  let s := if isMoaben n then
      s.pushPacket (n - 64) { seq := 0, vc := vcOf f, frame := some f, copy := some c, sending := true
                              bytes := packetBytes (wireLen (s.copyTlp f c)), ue := spoilt == some 3 }
    else s
  let s := if f.window != 0xFFFF || (isMoaben f.ingress && !f.tlp.isCpl) then
      s.tbump 0x45 0 (n * 32 + 2 * f.gate + ofBool f.bank) 47 0 1
    else s
  let s := s.capture f (s.copyTlp f c) true n false none
  -- Both times are the time base's, whatever it has been stepped by (R140, R394).
  s.hist 1 n f.live ((s.time80 + 2 ^ 80 - f.stamp % 2 ^ 80) % 2 ^ 80 / 65536)

/-- The copy selected at a port starts, or fails its checks (R60, R66). -/
def State.startCopy (s : State) (f : Frame) (c : Copy) (p : PortSt) (kind : Nat) (got : W32) (cell : Nat) : State :=
  let n := c.egress
  let ct := !c.resend && s.startsCt f c
  let (inj, s) := (s.setPort n p).injected n
  -- An injected error lies in the first cell, or inverts bit 0 of the furrow word carried (ERR_INJECT).
  let cell := if inj.isSome then f.banks.headD 0 + cell / 256 % 16384 * 256 else cell % 2 ^ 26
  let kind := match inj with
    | some 0 => spFURROW
    | some 1 => spCE
    | some 2 => spUE
    | _ => kind
  let g := if inj = some 0 then { f with furrow := f.furrow ^^^ 1 } else f
  let got := if inj = some 0 then f.furrow else got
  -- The copy in a link's replay buffer is stored with an uncorrectable error (R293).
  let replay := if inj = some 3 ∨ (kind = spREPLAY ∧ isMoaben n = true) then some 3 else none
  if kind = spCE then (s.cellCe f c cell).beginCopy f c ct replay
  else if kind = spFURROW ∧ isEngine n = true then
    let s := s.beginCopy f c ct (some 0)
    s.setCopies (s.sw.copies.map fun x => if x.id = c.id then { x with furrows := some (g.furrow, got) } else x)
  else if kind = spFURROW ∨ kind = spUE ∨ kind = spXFORM then
    let got := if kind = spFURROW then got.toNat else f.furrow.toNat
    if ct then (s.beginCopy g c ct none).spoil g { c with sending := true, ct := true, contain := s.contains n } ct kind got cell
    else s.spoil g c ct kind got cell
  else s.beginCopy f c ct replay

/-- COPY_START: an egress port with nothing in transmission selects its next ready copy (R60). `credits` has a bit for each
queue whose head the link partner has credits for; `kind` says what the reading of its cells finds, with the furrow word
computed and the cell (R66, R293). -/
def execCopyStart (port credits kind : Nat) (got : W32) (cell : Nat) (s : State) : Out :=
  let n := port % 89
  -- An over-age head never starts: the check of this core cycle discards it (R75).
  let s := if (s.agedHead fun c => c.egress == n).isNone then s
    else (State.ageOut (fun c => c.egress == n) (s.sw.copies.length + 1) s).updateXoff
  if !s.egressOpen n || (s.sendingAt n).isSome then .next s
  else match s.selectNext n credits with
    | none => .next s
    | some (c, f, p) => if kind = spQUEUE then .next (s.queueUe n) else .next (s.startCopy f c p kind got cell)

/-! ### Departure -/

/-- A non-posted request has left: CPL_LATENCY is counted from here (R394). -/
def State.noteLeft (s : State) (f : Frame) (n : Nat) : State :=
  if !f.tlp.nonPosted then s
  else match f.record with
    | none => s
    | some r =>
      (s.modTag r fun t => { t with left := some (s.now, n), live := f.live }).modEngTags fun x =>
        if x.id = r then { x with left := some (s.now, n) } else x

/-- Where a copy that has left goes: a link's replay buffer, an engine's inbox, core port 88, or out (R178, R244). -/
def State.deliver (s : State) (f : Frame) (c : Copy) (t : Tlp) : State :=
  let n := c.egress
  if isMoaben n then
    let s := s.setCopies (s.sw.copies.map fun x => if x.id = c.id then { x with sending := false, unacked := true } else x)
    s.modLink (n - 64) fun l => { l with
      replay := l.replay.map fun p => if p.copy.any (fun x => x.id == c.id) then { p with sending := false } else p }
  else
    let s := s.removeCopy c.id
    if isEngine n then s.modEng (n - 72) fun x => { x with inbox := x.inbox ++ [(t, {
        bad := c.spoilt == some 0, ingress := f.ingress
        carried := (c.furrows.map (·.1)).getD f.furrow, got := (c.furrows.map (·.2)).getD f.furrow })] }
    else if isMgmt n then (match f.record with
      | some r => s.coreAnswer r t
      | none => s)
    else s

/-- COPY_DEPART: a copy's last byte leaves; `refUe` is the bank and cell of an uncorrectable error met as its reference is
dropped (R52, R293). -/
def execCopyDepart (port : Nat) (refUe : Option (Nat × Nat)) (s : State) : Out :=
  let n := port % 89
  match s.sendingAt n with
  | none => .next s
  | some c => match s.frame? c.frame with
    | none => .next (s.removeCopy c.id)
    | some f =>
      let t := s.copyTlp f c
      let s := s.modFrame f.id fun f => { f with whole := true }
      let s := ((s.tel 2 n 1 (some f)).tel 3 n f.tlp.bytes (some f)).linkSlots n 0 f.tlp.cells
      let s := { (s.noteLeft f n).deliver f c t with answer := .packet n t }
      let s := match refUe with
        | some (bank, cell) => s.deviceError eREFCOUNT_UE none n (bank % 32 + cell % 2 ^ 18 * 2 ^ 5)
        | none => s
      .next s.reap.updateXoff

end Sys2Proof.Machine
end

