-- ==== Sys2Proof/Machine/Dispatch.lean ====
section
/-! DEFINITION. One arm per command, each a direct call of the command's meaning. -/

namespace Sys2Proof.Machine

/-- The effect of a command on everything but the queue. -/
def exec (i : Instr) (s : State) : Host.Outcome State Fault Refusal :=
  match i with
  | .registerWrite r addr value => Sys2Proof.Machine.execRegisterWrite r addr value s
  | .strayAccess r addr write => Sys2Proof.Machine.execStrayAccess r addr write s
  | .partialWrite r addr => Sys2Proof.Machine.execPartialWrite r addr s
  | .evtClr r page mask seq => Sys2Proof.Machine.execEvtClr r page mask seq s
  | .counterLowRead r read => Sys2Proof.Machine.execCounterLowRead r read s
  | .counterHighRead r addr => Sys2Proof.Machine.execCounterHighRead r addr s
  | .counterClear r addr => Sys2Proof.Machine.execCounterClear r addr s
  | .tbReadLatch r => Sys2Proof.Machine.execTbReadLatch r s
  | .tblNop r page => Sys2Proof.Machine.execTblNop r page s
  | .tblRead r page => Sys2Proof.Machine.execTblRead r page s
  | .tblWrite r page => Sys2Proof.Machine.execTblWrite r page s
  | .tblReadClear r page => Sys2Proof.Machine.execTblReadClear r page s
  | .tblOpDone page copy0 copy1 => Sys2Proof.Machine.execTblOpDone page copy0 copy1 s
  | .frameArrival port tlp whole meet => Sys2Proof.Machine.execFrameArrival port tlp whole meet s
  | .reservationGranted port => Sys2Proof.Machine.execReservationGranted port s
  | .proxyTagGranted port => Sys2Proof.Machine.execProxyTagGranted port s
  | .originatedTagGranted port => Sys2Proof.Machine.execOriginatedTagGranted port s
  | .poolSpaceGranted => Sys2Proof.Machine.execPoolSpaceGranted s
  | .copyStart port credits kind got cell => Sys2Proof.Machine.execCopyStart port credits kind got cell s
  | .copyDepart port refUe => Sys2Proof.Machine.execCopyDepart port refUe s
  | .lateError port cause got cell => Sys2Proof.Machine.execLateError port cause got cell s
  | .underrun port => Sys2Proof.Machine.execUnderrun port s
  | .underrunResend port => Sys2Proof.Machine.execUnderrunResend port s
  | .ageDiscard port queue => Sys2Proof.Machine.execAgeDiscard port queue s
  | .weirGovTick withheld => Sys2Proof.Machine.execWeirGovTick withheld s
  | .livePoolWrite cells => Sys2Proof.Machine.execLivePoolWrite cells s
  | .cplPoolWrite cells => Sys2Proof.Machine.execCplPoolWrite cells s
  | .ledgerWrite => Sys2Proof.Machine.execLedgerWrite s
  | .ledgerWriteback ring => Sys2Proof.Machine.execLedgerWriteback ring s
  | .portLinkDown port => Sys2Proof.Machine.execPortLinkDown port s
  | .flushRemove port => Sys2Proof.Machine.execFlushRemove port s
  | .flushDone port => Sys2Proof.Machine.execFlushDone port s
  | .portLinkUp port rate width flit => Sys2Proof.Machine.execPortLinkUp port rate width flit s
  | .completionArrival port tlp whole ue => Sys2Proof.Machine.execCompletionArrival port tlp whole ue s
  | .tagRecordTimeout id => Sys2Proof.Machine.execTagRecordTimeout id s
  | .bankCeLimit bank => Sys2Proof.Machine.execBankCeLimit bank s
  | .bankRetire bank => Sys2Proof.Machine.execBankRetire bank s
  | .retireDone => Sys2Proof.Machine.execRetireDone s
  | .mapCommit index bankB => Sys2Proof.Machine.execMapCommit index bankB s
  | .mapCommitDone => Sys2Proof.Machine.execMapCommitDone s
  | .mirrorSlotWrite session => Sys2Proof.Machine.execMirrorSlotWrite session s
  | .mirrorWriteback session => Sys2Proof.Machine.execMirrorWriteback session s
  | .mcmModeWrite session value => Sys2Proof.Machine.execMcmModeWrite session value s
  | .sampleNWrite session n => Sys2Proof.Machine.execSampleNWrite session n s
  | .aclSweep waitNp => Sys2Proof.Machine.execAclSweep waitNp s
  | .sweepNpTimeout => Sys2Proof.Machine.execSweepNpTimeout s
  | .sweepDone => Sys2Proof.Machine.execSweepDone s
  | .ppsInEdge => Sys2Proof.Machine.execPpsInEdge s
  | .tbHoldover => Sys2Proof.Machine.execTbHoldover s
  | .tbSet => Sys2Proof.Machine.execTbSet s
  | .ptmRequest port => Sys2Proof.Machine.execPtmRequest port s
  | .frameSyncEdge falling => Sys2Proof.Machine.execFrameSyncEdge falling s
  | .frameSyncMissing => Sys2Proof.Machine.execFrameSyncMissing s
  | .frameSyncLost => Sys2Proof.Machine.execFrameSyncLost s
  | .arm group slot kind bank => Sys2Proof.Machine.execArm group slot kind bank s
  | .cancel group slot => Sys2Proof.Machine.execCancel group slot s
  | .commitFire group slot => Sys2Proof.Machine.execCommitFire group slot s
  | .slotFired group slot => Sys2Proof.Machine.execSlotFired group slot s
  | .gateForce group bank => Sys2Proof.Machine.execGateForce group bank s
  | .doorbell inst ring prod => Sys2Proof.Machine.execDoorbell inst ring prod s
  | .ringEnable inst ring => Sys2Proof.Machine.execRingEnable inst ring s
  | .ringDisable inst ring => Sys2Proof.Machine.execRingDisable inst ring s
  | .ringResume inst ring => Sys2Proof.Machine.execRingResume inst ring s
  | .descriptorFetch inst ring => Sys2Proof.Machine.execDescriptorFetch inst ring s
  | .contextGrant engine => Sys2Proof.Machine.execContextGrant engine s
  | .sourceReadIssue engine => Sys2Proof.Machine.execSourceReadIssue engine s
  | .engineWriteIssue engine => Sys2Proof.Machine.execEngineWriteIssue engine s
  | .engineCompletion engine rb => Sys2Proof.Machine.execEngineCompletion engine rb s
  | .descriptorFinish inst ring => Sys2Proof.Machine.execDescriptorFinish inst ring s
  | .timedRelease inst ring => Sys2Proof.Machine.execTimedRelease inst ring s
  | .engCtoExpiry id => Sys2Proof.Machine.execEngCtoExpiry id s
  | .engCtoRecovExpiry id => Sys2Proof.Machine.execEngCtoRecovExpiry id s
  | .engineAbort engine => Sys2Proof.Machine.execEngineAbort engine s
  | .engineStopped engine => Sys2Proof.Machine.execEngineStopped engine s
  | .engineRestart engine => Sys2Proof.Machine.execEngineRestart engine s
  | .msixPendingSend inst vector => Sys2Proof.Machine.execMsixPendingSend inst vector s
  | .configRead port tlp ue => Sys2Proof.Machine.execConfigRead port tlp ue s
  | .configWrite port tlp ue => Sys2Proof.Machine.execConfigWrite port tlp ue s
  | .bmeClear inst => Sys2Proof.Machine.execBmeClear inst s
  | .functionLevelReset inst => Sys2Proof.Machine.execFunctionLevelReset inst s
  | .powerStateD3hot inst => Sys2Proof.Machine.execPowerStateD3hot inst s
  | .secondaryBusReset port => Sys2Proof.Machine.execSecondaryBusReset port s
  | .dpcRelease port => Sys2Proof.Machine.execDpcRelease port s
  | .powerControllerOff port => Sys2Proof.Machine.execPowerControllerOff port s
  | .powerControllerOn port => Sys2Proof.Machine.execPowerControllerOn port s
  | .instNop inst => Sys2Proof.Machine.execInstNop inst s
  | .create inst => Sys2Proof.Machine.execCreate inst s
  | .destroy inst => Sys2Proof.Machine.execDestroy inst s
  | .freeze inst => Sys2Proof.Machine.execFreeze inst s
  | .save inst => Sys2Proof.Machine.execSave inst s
  | .restore inst => Sys2Proof.Machine.execRestore inst s
  | .thaw inst => Sys2Proof.Machine.execThaw inst s
  | .recover inst => Sys2Proof.Machine.execRecover inst s
  | .serve inst => Sys2Proof.Machine.execServe inst s
  | .createDone inst => Sys2Proof.Machine.execCreateDone inst s
  | .destroyDone inst => Sys2Proof.Machine.execDestroyDone inst s
  | .restoreDone inst => Sys2Proof.Machine.execRestoreDone inst s
  | .restoreXferTimeout inst => Sys2Proof.Machine.execRestoreXferTimeout inst s
  | .freezeDone inst => Sys2Proof.Machine.execFreezeDone inst s
  | .saveDone inst => Sys2Proof.Machine.execSaveDone inst s
  | .saveXferTimeout inst => Sys2Proof.Machine.execSaveXferTimeout inst s
  | .headgateOpen inst => Sys2Proof.Machine.execHeadgateOpen inst s
  | .headgateClose inst => Sys2Proof.Machine.execHeadgateClose inst s
  | .instanceIdle inst => Sys2Proof.Machine.execInstanceIdle inst s
  | .forceReset inst => Sys2Proof.Machine.execForceReset inst s
  | .resetTagTimeout id => Sys2Proof.Machine.execResetTagTimeout id s
  | .instanceResetDone inst => Sys2Proof.Machine.execInstanceResetDone inst s
  | .octetConfigWrite octet mode value => Sys2Proof.Machine.execOctetConfigWrite octet mode value s
  | .portConfigWrite port value => Sys2Proof.Machine.execPortConfigWrite port value s
  | .pcieLinkDisable port => Sys2Proof.Machine.execPcieLinkDisable port s
  | .hotReset port => Sys2Proof.Machine.execHotReset port s
  | .pcieRetrain port rate width => Sys2Proof.Machine.execPcieRetrain port rate width s
  | .l1Entry port => Sys2Proof.Machine.execL1Entry port s
  | .laneMarginCommand octet lane active errors answer => Sys2Proof.Machine.execLaneMarginCommand octet lane active errors answer s
  | .forwardedClockDetect link => Sys2Proof.Machine.execForwardedClockDetect link s
  | .laneLock link lane line len aligns => Sys2Proof.Machine.execLaneLock link lane line len aligns s
  | .laneUnlock link lane blocks => Sys2Proof.Machine.execLaneUnlock link lane blocks s
  | .helloReceive link fid speed width win lanes => Sys2Proof.Machine.execHelloReceive link fid speed width win lanes s
  | .echoReceive link times => Sys2Proof.Machine.execEchoReceive link times s
  | .trainTimeout link => Sys2Proof.Machine.execTrainTimeout link s
  | .moabenPacketReceive link seq vc fid dest srcFid length gate flags fur slots bad tlp => Sys2Proof.Machine.execMoabenPacketReceive link seq vc fid dest srcFid length gate flags fur slots bad tlp s
  | .ackSend link => Sys2Proof.Machine.execAckSend link s
  | .ackReceive link seq mask => Sys2Proof.Machine.execAckReceive link seq mask s
  | .nakReceive link seq mask => Sys2Proof.Machine.execNakReceive link seq mask s
  | .replayTimeout link => Sys2Proof.Machine.execReplayTimeout link s
  | .xoffReceive link mask => Sys2Proof.Machine.execXoffReceive link mask s
  | .xonReceive link mask => Sys2Proof.Machine.execXonReceive link mask s
  | .xoffResend link => Sys2Proof.Machine.execXoffResend link s
  | .mflRetrain link => Sys2Proof.Machine.execMflRetrain link s
  | .retrainDone link => Sys2Proof.Machine.execRetrainDone link s
  | .retrainTimeout link => Sys2Proof.Machine.execRetrainTimeout link s
  | .linkChange link => Sys2Proof.Machine.execLinkChange link s
  | .changeReceive link speed width lanes => Sys2Proof.Machine.execChangeReceive link speed width lanes s
  | .readyReceive link => Sys2Proof.Machine.execReadyReceive link s
  | .changeTimeout link => Sys2Proof.Machine.execChangeTimeout link s
  | .remapReceive link position => Sys2Proof.Machine.execRemapReceive link position s
  | .spareMap link position => Sys2Proof.Machine.execSpareMap link position s
  | .mflLinkEnable link => Sys2Proof.Machine.execMflLinkEnable link s
  | .mflLinkDisable link => Sys2Proof.Machine.execMflLinkDisable link s
  | .laneGovTick errors => Sys2Proof.Machine.execLaneGovTick errors s
  | .tsyncRequestSend link => Sys2Proof.Machine.execTsyncRequestSend link s
  | .tsyncReqReceive req => Sys2Proof.Machine.execTsyncReqReceive req s
  | .tsyncFupReceive link exchange t2 t3 => Sys2Proof.Machine.execTsyncFupReceive link exchange t2 t3 s
  | .authOfferReceive link fid key nonce head => Sys2Proof.Machine.execAuthOfferReceive link fid key nonce head s
  | .authProofReceive link signature => Sys2Proof.Machine.execAuthProofReceive link signature s
  | .authAcceptReceive link => Sys2Proof.Machine.execAuthAcceptReceive link s
  | .authRejectReceive link => Sys2Proof.Machine.execAuthRejectReceive link s
  | .authResumeReceive link value => Sys2Proof.Machine.execAuthResumeReceive link value s
  | .authTimeout link => Sys2Proof.Machine.execAuthTimeout link s
  | .signDone ctx => Sys2Proof.Machine.execSignDone ctx s
  | .authListEdit link index value => Sys2Proof.Machine.execAuthListEdit link index value s
  | .authEnWrite link en => Sys2Proof.Machine.execAuthEnWrite link en s
  | .reauth link => Sys2Proof.Machine.execReauth link s
  | .routeGovTick => Sys2Proof.Machine.execRouteGovTick s
  | .mgmtPacketReceive link src dst body => Sys2Proof.Machine.execMgmtPacketReceive link src dst body s
  | .bar4RemoteRead port tlp => Sys2Proof.Machine.execBar4RemoteRead port tlp s
  | .bar4RemoteWrite port tlp => Sys2Proof.Machine.execBar4RemoteWrite port tlp s
  | .loopSet unit' value => Sys2Proof.Machine.execLoopSet unit' value s
  | .loopbackEntry port => Sys2Proof.Machine.execLoopbackEntry port s
  | .prbsStart unit' value counts => Sys2Proof.Machine.execPrbsStart unit' value counts s
  | .prbsLock unit' lane => Sys2Proof.Machine.execPrbsLock unit' lane s
  | .prbsLockLost unit' lane errors units => Sys2Proof.Machine.execPrbsLockLost unit' lane errors units s
  | .prbsRateAbort octet counts => Sys2Proof.Machine.execPrbsRateAbort octet counts s
  | .eyeScanStart unit' value signal => Sys2Proof.Machine.execEyeScanStart unit' value signal s
  | .eyeScanStop unit' errors => Sys2Proof.Machine.execEyeScanStop unit' errors s
  | .eyeScanDone unit' errors => Sys2Proof.Machine.execEyeScanDone unit' errors s
  | .eqRedo octet sub => Sys2Proof.Machine.execEqRedo octet sub s
  | .eqRedoTimeout port => Sys2Proof.Machine.execEqRedoTimeout port s
  | .scrubRead table index copy0 copy1 => Sys2Proof.Machine.execScrubRead table index copy0 copy1 s
  | .errorInject type port count => Sys2Proof.Machine.execErrorInject type port count s
  | .recordRingWrite part => Sys2Proof.Machine.execRecordRingWrite part s
  | .isolateEntered => Sys2Proof.Machine.execIsolateEntered s
  | .isolateExit => Sys2Proof.Machine.execIsolateExit s
  | .isolateExitDone => Sys2Proof.Machine.execIsolateExitDone s
  | .fatalAck => Sys2Proof.Machine.execFatalAck s
  | .lockstepMismatch => Sys2Proof.Machine.execLockstepMismatch s
  | .mgtPairSwap => Sys2Proof.Machine.execMgtPairSwap s
  | .pairSelftestDone pair pass => Sys2Proof.Machine.execPairSelftestDone pair pass s
  | .coreLoad addr size user ecc => Sys2Proof.Machine.execCoreLoad addr size user ecc s
  | .coreStore addr size data user ecc => Sys2Proof.Machine.execCoreStore addr size data user ecc s
  | .coreFence kind pred => Sys2Proof.Machine.execCoreFence kind pred s
  | .coreLr addr wide user ecc => Sys2Proof.Machine.execCoreLr addr wide user ecc s
  | .coreSc addr data wide user fail ecc => Sys2Proof.Machine.execCoreSc addr data wide user fail ecc s
  | .coreAmo op addr data wide user ecc => Sys2Proof.Machine.execCoreAmo op addr data wide user ecc s
  | .machineTimer => Sys2Proof.Machine.execMachineTimer s
  | .mailboxRetire part => Sys2Proof.Machine.execMailboxRetire part s
  | .hcmdDoorbell part => Sys2Proof.Machine.execHcmdDoorbell part s
  | .hcmdTake part => Sys2Proof.Machine.execHcmdTake part s
  | .getFwInfo part vec irq => Sys2Proof.Machine.execGetFwInfo part vec irq s
  | .attest part nonce buffer vec irq => Sys2Proof.Machine.execAttest part nonce buffer vec irq s
  | .attestPeerRequest link nonce => Sys2Proof.Machine.execAttestPeerRequest link nonce s
  | .attestReportDone => Sys2Proof.Machine.execAttestReportDone s
  | .sqHeadWrite head => Sys2Proof.Machine.execSqHeadWrite head s
  | .sampleGovTick => Sys2Proof.Machine.execSampleGovTick s
  | .wdogKick => Sys2Proof.Machine.execWdogKick s
  | .wdogWarn => Sys2Proof.Machine.execWdogWarn s
  | .wdogExpire => Sys2Proof.Machine.execWdogExpire s
  | .firmwareUpdate slot => Sys2Proof.Machine.execFirmwareUpdate slot s
  | .bootLoadDone => Sys2Proof.Machine.execBootLoadDone s
  | .updateDone => Sys2Proof.Machine.execUpdateDone s
  | .updateLate => Sys2Proof.Machine.execUpdateLate s
  | .culBarrier r => Sys2Proof.Machine.execCulBarrier r s
  | .barrierDone r => Sys2Proof.Machine.execBarrierDone r s
  | .pwrlossClear r => Sys2Proof.Machine.execPwrlossClear r s
  | .localAccess r cs addr len write data => Sys2Proof.Machine.execLocalAccess r cs addr len write data s
  | .lbCycleStart => Sys2Proof.Machine.execLbCycleStart s
  | .lbCycleEnd data => Sys2Proof.Machine.execLbCycleEnd data s
  | .culTimeoutExpiry => Sys2Proof.Machine.execCulTimeoutExpiry s
  | .lbBusRequest => Sys2Proof.Machine.execLbBusRequest s
  | .lbBusRelease => Sys2Proof.Machine.execLbBusRelease s
  | .prefetchExpire => Sys2Proof.Machine.execPrefetchExpire s
  | .culRevive mask => Sys2Proof.Machine.execCulRevive mask s
  | .culWarmReset => Sys2Proof.Machine.execCulWarmReset s
  | .culWarmResetDone => Sys2Proof.Machine.execCulWarmResetDone s
  | .sidebandPoll levels => Sys2Proof.Machine.execSidebandPoll levels s
  | .interruptPoll asserted => Sys2Proof.Machine.execInterruptPoll asserted s
  | .sidebandWake => Sys2Proof.Machine.execSidebandWake s
  | .spvSample slot ch sense vout volts => Sys2Proof.Machine.execSpvSample slot ch sense vout volts s
  | .energyRead r slot ch => Sys2Proof.Machine.execEnergyRead r slot ch s
  | .measClear slot value => Sys2Proof.Machine.execMeasClear slot value s
  | .fastTrip slot ch => Sys2Proof.Machine.execFastTrip slot ch s
  | .currentLimitStart slot ch => Sys2Proof.Machine.execCurrentLimitStart slot ch s
  | .faultTimerExpiry slot ch => Sys2Proof.Machine.execFaultTimerExpiry slot ch s
  | .faultTimerStop slot ch => Sys2Proof.Machine.execFaultTimerStop slot ch s
  | .gateRiseTimeout slot ch => Sys2Proof.Machine.execGateRiseTimeout slot ch s
  | .fetShort slot ch turnOn => Sys2Proof.Machine.execFetShort slot ch turnOn s
  | .uptripEnd => Sys2Proof.Machine.execUptripEnd s
  | .insertionStart slot => Sys2Proof.Machine.execInsertionStart slot s
  | .rampEnd slot ch => Sys2Proof.Machine.execRampEnd slot ch s
  | .channelPowerGood slot ch => Sys2Proof.Machine.execChannelPowerGood slot ch s
  | .perstRelease slot => Sys2Proof.Machine.execPerstRelease slot s
  | .pgLost slot ch => Sys2Proof.Machine.execPgLost slot ch s
  | .slotOn slot => Sys2Proof.Machine.execSlotOn slot s
  | .slotOff slot => Sys2Proof.Machine.execSlotOff slot s
  | .slotOffGates slot => Sys2Proof.Machine.execSlotOffGates slot s
  | .forceOn slot ch on => Sys2Proof.Machine.execForceOn slot ch on s
  | .slotRetry slot => Sys2Proof.Machine.execSlotRetry slot s
  | .retryWindowEnd slot => Sys2Proof.Machine.execRetryWindowEnd slot s
  | .slotRemoval slot => Sys2Proof.Machine.execSlotRemoval slot s
  | .slotInsertion slot => Sys2Proof.Machine.execSlotInsertion slot s
  | .latchClear mask => Sys2Proof.Machine.execLatchClear mask s
  | .histLevelSample unit' => Sys2Proof.Machine.execHistLevelSample unit' s
  | .histSnapshot units clear => Sys2Proof.Machine.execHistSnapshot units clear s
  | .histConfigWrite unit' base value => Sys2Proof.Machine.execHistConfigWrite unit' base value s
  | .samplerCapture sampler moved other => Sys2Proof.Machine.execSamplerCapture sampler moved other s
  | .samplerNWrite sampler n => Sys2Proof.Machine.execSamplerNWrite sampler n s
  | .otpProgram word => Sys2Proof.Machine.execOtpProgram word s
  | .otpProgramDone missing => Sys2Proof.Machine.execOtpProgramDone missing s
  | .lifecycleAdvance target => Sys2Proof.Machine.execLifecycleAdvance target s
  | .imageVerify type => Sys2Proof.Machine.execImageVerify type s
  | .imageVerifyDone => Sys2Proof.Machine.execImageVerifyDone s
  | .measurementExtend index => Sys2Proof.Machine.execMeasurementExtend index s
  | .debugUnlock len => Sys2Proof.Machine.execDebugUnlock len s
  | .debugUnlockDone => Sys2Proof.Machine.execDebugUnlockDone s
  | .debugAccess kind addr len data => Sys2Proof.Machine.execDebugAccess kind addr len data s
  | .identityDerived ok => Sys2Proof.Machine.execIdentityDerived ok s
  | .resetAssert => Sys2Proof.Machine.execResetAssert s
  | .resetRelease mode smb portcfg => Sys2Proof.Machine.execResetRelease mode smb portcfg s
  | .otpLoaded fail => Sys2Proof.Machine.execOtpLoaded fail s
  | .earlySelftestDone items pairs banks => Sys2Proof.Machine.execEarlySelftestDone items pairs banks s
  | .bgSelftestDone banks engines spv => Sys2Proof.Machine.execBgSelftestDone banks engines spv s
  | .safeUartLine => Sys2Proof.Machine.execSafeUartLine s
  | .statPatternToggle => Sys2Proof.Machine.execStatPatternToggle s
  | .safeSpiRelease => Sys2Proof.Machine.execSafeSpiRelease s
  | .smbusStatusRead => Sys2Proof.Machine.execSmbusStatusRead s
  | .modeReqStandalone => Sys2Proof.Machine.execModeReqStandalone s
  | .modeReqPartitioned => Sys2Proof.Machine.execModeReqPartitioned s
  | .modeReqComposed => Sys2Proof.Machine.execModeReqComposed s
  | .modeReqFabric => Sys2Proof.Machine.execModeReqFabric s
  | .modeReqIsolate => Sys2Proof.Machine.execModeReqIsolate s
  | .modeReqDrain => Sys2Proof.Machine.execModeReqDrain s
  | .modeReqDiagnostic => Sys2Proof.Machine.execModeReqDiagnostic s
  | .modeReqInvalid req => Sys2Proof.Machine.execModeReqInvalid req s
  | .drainComplete => Sys2Proof.Machine.execDrainComplete s
  | .drainTimeout => Sys2Proof.Machine.execDrainTimeout s
  | .mainPowerLoss rail => Sys2Proof.Machine.execMainPowerLoss rail s
  | .standbyWake slot present fault => Sys2Proof.Machine.execStandbyWake slot present fault s
  | .mainPowerReturn => Sys2Proof.Machine.execMainPowerReturn s
  | .trefLost => Sys2Proof.Machine.execTrefLost s
  | .trefRestored => Sys2Proof.Machine.execTrefRestored s
  | .resetMgt => Sys2Proof.Machine.execResetMgt s
  | .resetCul => Sys2Proof.Machine.execResetCul s
  | .resetTel => Sys2Proof.Machine.execResetTel s
  | .resetShake => Sys2Proof.Machine.execResetShake s
  | .resetLink mask => Sys2Proof.Machine.execResetLink mask s
  | .resetDevice => Sys2Proof.Machine.execResetDevice s
  | .subsysResetDone sub => Sys2Proof.Machine.execSubsysResetDone sub s
  | .supplyUndervoltage rail => Sys2Proof.Machine.execSupplyUndervoltage rail s
  | .aonUndervoltage => Sys2Proof.Machine.execAonUndervoltage s
  | .supplyOvervoltage rails => Sys2Proof.Machine.execSupplyOvervoltage rails s
  | .thermalGovTick sensors => Sys2Proof.Machine.execThermalGovTick sensors s
  | .criticalTemperature => Sys2Proof.Machine.execCriticalTemperature s
  | .criticalCool => Sys2Proof.Machine.execCriticalCool s
  | .recordRingWriteback part => Sys2Proof.Machine.execRecordRingWriteback part s
  | .phyCalibrationDone octets links => Sys2Proof.Machine.execPhyCalibrationDone octets links s
  | .lifecycleAdvanceDone => Sys2Proof.Machine.execLifecycleAdvanceDone s
  | .coreLoadTimeout => Sys2Proof.Machine.execCoreLoadTimeout s
  | .badBlockReceive link lane block => Sys2Proof.Machine.execBadBlockReceive link lane block s

end Sys2Proof.Machine
end

