-- ==== Sys2Proof/Machine/Tick.lean ====
section
/-! DEFINITION. One core cycle with no command waiting: what the block does by its clocks alone (log entry 2). -/

namespace Sys2Proof.Machine

/-! ### The time base (R132, R134, R143) -/

/-- The time base advanced by one core cycle: 0.8 ns × (1 + rate), what is below 2^-16 ns kept in `sub` as a numerator over
5 × 10^9 (log entry 6). -/
def State.advanceTime (s : State) : State :=
  let n := (s.tb.sub : Int) + 4 * (65536000000000 + s.tb.rate)
  { s with tb := { s.tb with time := s.tb.time + BitVec.ofInt 80 (n / 5000000000), sub := (n % 5000000000).toNat } }

/-! ### Tails (R22, R64) -/

/-- Frames all of whose bytes have come by their link's rate are whole, unless a copy waits to be sent again (R65). -/
def State.tails (s : State) : State :=
  (s.sw.frames.filter fun f => !f.whole && decide (f.tlp.bytes ≤ s.stored f)
      && !((s.copiesOf f.id).any fun c => c.resend)).foldl
    (fun s f => s.modFrame f.id fun f => { f with whole := true }) s

/-! ### Bank reads (R17, R59) -/

/-- Physical bank of the next cell that an egress port has to read for its copy in transmission; none while that cell has
not come yet. -/
def State.wantsBank (s : State) (n : Nat) : Option Nat :=
  match s.sendingAt n with
  | none => none
  | some c => match s.frame? c.frame with
    | none => none
    | some f => if f.whole || decide (256 * (c.cellsRead + 1) ≤ s.stored f) then f.banks[c.cellsRead]? else none

/-- One core cycle of a bank's read arbiter: of the ports that ask, the one next after the last winner reads a cell. -/
def State.bankRead (wants : List (Nat × Nat)) (s : State) (b : Nat) : State :=
  match rotate 89 (storeGet 88 s.sw.readWinner b) fun n => wants.contains (n, b) with
  | none => s
  | some n =>
    let s : State := { s with sw := { s.sw with readWinner := storePut 88 b n s.sw.readWinner } }
    s.setCopies (s.sw.copies.map fun x => if x.egress == n && x.sending then { x with cellsRead := x.cellsRead + 1 } else x)

/-- One core cycle of every bank's read arbiter. -/
def State.bankReads (s : State) : State :=
  let ports := (s.sw.copies.filter (·.sending)).map (·.egress)
  let wants := ports.filterMap fun n => (s.wantsBank n).map fun b => (n, b)
  if wants.isEmpty then s else (upTo 17).foldl (State.bankRead wants) s

/-! ### Slots and waiting times (R389, R391, R392) -/

/-- Heads of a port's queues that are behind no other copy, with: does it wait for its link (credits, XOFF or an ASPM
exit)? A PCIe head that could start, but for which no command has found credits, waits for them. -/
def State.headsWait (s : State) (n : Nat) : List Bool :=
  let all := s.queued n
  (upTo 16).filterMap fun q => match all.find? fun x => x.1.queue == q with
    | none => none
    | some (c, f) => if blocked all c f || s.heldBack n f then none
      else some (s.cellsReady f c && (isPcie n || !s.linkTakes (n - 64) f c))

/-- Is an idle slot starved at its back: copies queued, and every head waits for the link or for the end of a flush
(R392)? -/
def State.starvedBack (s : State) (n : Nat) : Bool :=
  if (s.port n).flushing then !(s.queued n).isEmpty else !(s.headsWait n).isEmpty && (s.headsWait n).all id

/-- Time towards an idle port's next slot, counted as starved at its back or at its front. A cycle is 64 and a slot 5 × SLOT_T units of 1/80 ns. -/
def State.idleSlots (s : State) (n : Nat) : State :=
  if s.slotTime n = 0 then s
  else if (s.sendingAt n).isSome then (if (s.port n).idle = 0 then s else s.modPort n fun p => { p with idle := 0 })
  else
    let t := (s.port n).idle + 64
    let slot := 5 * s.slotTime n
    let k := t / slot
    let s := s.modPort n fun p => { p with idle := t % slot }
    if k = 0 then s else s.linkSlots n (if s.starvedBack n then 3 else 2) k

/-- Does a port withhold credits, or hold XOFF, because of its own weir (R67, R68), an exhausted ordered pool standing for
it (R69)? -/
def State.weirHolds (s : State) (n : Nat) : Bool :=
  if isPcie n then (s.port n).up && (decide (s.fget (R.SWC_WEIR_LIMIT n) * 32 ≤ s.weirHeld n + (s.port n).credit)
    || decide (s.poolFree .ordered ≤ s.headrooms))
  else isMoaben n && (s.port n).xoff && decide (s.xoffLevel n < s.weirHeld n + 32)

/-- The cycle's accounting at one port. -/
def State.portCycle (s : State) (n : Nat) : State :=
  let waits := n < 72 && (s.sendingAt n).isNone && !(s.port n).flushing && (s.headsWait n).any id
  let s := if waits then s.tel 15 n 1 none else s
  let s := if s.weirHolds n then (s.tel 16 n 1 none).modPort n fun p => { p with withheld := p.withheld + 1 } else s
  s.idleSlots n

/-- The cycle's accounting at every port that is up. -/
def State.portCycles (s : State) : State :=
  ((s.sw.ports.filter fun e => e.2.up || e.2.xoff).map (·.1)).foldl State.portCycle s

/-! ### Relays between devices (R270) -/

/-- Words of a downstream port that its bridge on the home device shows. -/
def relayWords : List Nat := [0x60, 0x6C, cLinkCtl, cSlotCap, cSlotCtl, cDpcSts, cAerHeader, cAerHeader + 4, cAerHeader + 8, cAerHeader + 12,
  cAerUncSts, cAerCorSts]

/-- A port that is no longer a downstream port of the partition it was announced for: that partition's home is told. -/
def State.relayGone (s : State) (n : Nat) : State :=
  match storeGet none s.announced n with
  | none => s
  | some p =>
    if s.role n == 2 && s.portPart n == p then s
    else
      let s : State := { s with
        announced := storePut none n none s.announced, relayed := s.relayed.filter fun e => e.1 / 4096 != n }
      match s.homeOf p with
      | none => s
      | some (fid, _) => match s.vc4Link fid with
        | some l => s.sendMgmt l s.selfFid fid (.change p n portGoneOff 0)
        | none => s

/-- Words of a port that have changed, sent to its partition's home device. -/
def State.relayPort (s : State) (n : Nat) : State :=
  let s := s.relayGone n
  let part := s.portPart n
  if s.role n != 2 || (s.upstreamOf part).isSome then s
  else match s.homeOf part with
    | none => s
    | some (fid, _) => match s.vc4Link fid with
      -- With no route the home loses sight of the port; it is told afresh when one returns (R271).
      | none => { s with relayed := s.relayed.filter fun e => e.1 / 4096 != n }
      | some l => relayWords.foldl (fun s off =>
          let v := s.cfgRead (Fn.down n).num off
          if storeGet none s.relayed (4096 * n + off) = some v then s
          else ({ s with
            relayed := storePut none (4096 * n + off) (some v) s.relayed
            announced := storePut none n (some part) s.announced } : State).sendMgmt l s.selfFid fid (.change part n off v)) s

/-- Relays of every port, in a device that composes with others. -/
def State.relays (s : State) : State :=
  if (upTo 8).any s.linkUp || !s.relayed.isEmpty then (upTo 64).foldl State.relayPort s else s

/-! ### The cycle -/

/-- DPC of the ports where an uncorrectable error has triggered it (R218). -/
def State.dpcAct (s : State) : State :=
  let due := s.dpcDue
  if due.isEmpty then s else due.foldl (fun s x => s.dpcError x.1 x.2) { s with dpcDue := [] }

/-- Containment actions put off while another was under way (R299). -/
def State.actDue (s : State) : State := if s.err.deferred.isEmpty || s.containing then s else s.actDeferred

/-- The supervisor's tick, each microsecond (R368). -/
def State.supervise (s : State) : State :=
  if s.now % cyclesPerUs = 0 ∧ s.spvDue ≠ [] then s.spvTick else s

/-- One core cycle of a device that is not in RESET or STANDBY. -/
def State.cycle (s : State) : State :=
  let s : State := { s with now := s.now + 1, answer := .none }
  let s := (if s.now = 1 then s.firstCycle else s).advanceTime.supervise.fireDue.dpcAct.tails.bankReads.ageHeads.portCycles
  s.storesExpire.sbDrain.corePump.debugAnswer.lbGrant.culHits.culPump.actDue.failoverRecord.timerShow.routeFollow.checkRemotes.checkBar4.relays.updateLinks.rows

/-- What the block does with no command waiting. -/
def State.tick (s : State) : Out :=
  if s.mode = mRESET then .next s.resetTick
  else if s.mode = mSTANDBY then .next s
  else s.cycle.finish

end Sys2Proof.Machine
end

