-- ==== Sys2Proof/Machine/Step.lean ====
section
/-! DEFINITION. The step: the command in front of the queue, or a core cycle with none waiting. -/

namespace Sys2Proof.Machine

/-- The command in front is executed on the state with the rest of the queue; with none, a core cycle passes (log
entry 2). -/
def step (s : State) : Host.Outcome State Fault Refusal :=
  match s.pending with
  | [] => s.tick
  | c :: cs => exec c { s with pending := cs }

/-- The command that a table word spells, in front of the queue; no row of the table has bits, so the state is unchanged. -/
def State.withFetchWord (s : State) (nbits w : Nat) : State :=
  match Sys2Proof.decodeTableWord nbits w with
  | some c => { s with pending := c :: s.pending }
  | none => s

end Sys2Proof.Machine
end

