-- ==== Sys2Proof/Machine/Package.lean ====
section
/-! DEFINITION. The package's ball map (R457 to R460): which signal or rail each ball carries. No command touches it. -/

namespace Sys2Proof.Machine

/-- The rails of R447 and ground. -/
inductive Rail where
  | vss | vddCore | vddSram | peAvdd | peAvddh | mflAvdd | vddIo | vddSpv | vddAon
  deriving DecidableEq, Repr

/-- The signals of R460 and R461, by their names there; `n` is an index of an array, a slot or a port. -/
inductive Signal where
  | peTxp (n : Nat) | peTxn (n : Nat) | peRxp (n : Nat) | peRxn (n : Nat)
  | mflTxp (link n : Nat) | mflTxn (link n : Nat) | mflRxp (link n : Nat) | mflRxn (link n : Nat)
  | lbClk | lbAd (n : Nat) | lbAdvN | lbWrN | lbBeN (n : Nat) | lbCsN (n : Nat) | lbRdyN | lbBreqN | lbBgntN | lbRstN
  | lbSb (n : Nat) | lbIntN (n : Nat)
  | trefClkP | trefClkN | rstN | frameSync | ppsIn | strapMode (n : Nat) | strapSmbaddr (n : Nat) | strapPortcfg (n : Nat)
  | stat (n : Nat) | alertN | wakeN | smbScl (n : Nat) | smbSda (n : Nat) | uartTxd | uartRxd | spiSck | spiCsN | spiIo (n : Nat)
  | tck | tms | tdi | tdo | trstN
  | spvGate12 (n : Nat) | spvSnsp12 (n : Nat) | spvSnsn12 (n : Nat) | spvVout12 (n : Nat)
  | spvGate3v3 (n : Nat) | spvSnsp3v3 (n : Nat) | spvSnsn3v3 (n : Nat) | spvVout3v3 (n : Nat)
  | slotPrsntN (n : Nat) | slotPerstN (n : Nat) | spvPg (n : Nat) | spvVin12 | spvUptripN
  deriving DecidableEq, Repr

/-- What a ball carries. -/
inductive Ball where
  | signal (s : Signal)
  | rail (r : Rail)
  deriving DecidableEq, Repr

/-! ### Names (R457) -/

/-- The row letters, with their gaps. -/
def rowLetters : List Char := ['A', 'B', 'C', 'D', 'E', 'F', 'G', 'H', 'J', 'K', 'L', 'M', 'N', 'P', 'T', 'U', 'V', 'W', 'Y']

/-- The name of row `i` from the north edge: one letter for the first nineteen, then two. -/
def rowName (i : Nat) : List Char :=
  let second := rowLetters.getD (i % 19) 'A'
  if i < 19 then [second] else [rowLetters.getD (i / 19 - 1) 'A', second]

/-! ### Lane blocks (R459) -/

/-- Lane `n` of the PCIe lanes at depth `d`. -/
def peBall (n d : Nat) : Ball :=
  match d with
  | 0 => .signal (.peTxp n)
  | 1 => .signal (.peTxn n)
  | 3 => .signal (.peRxp n)
  | 4 => .signal (.peRxn n)
  | 6 => .rail .peAvdd
  | 7 => .rail .peAvddh
  | _ => .rail .vss

/-- Position `q` of a Moaben link at depth `d`. -/
def mflBall (f q d : Nat) : Ball :=
  match d with
  | 0 => .signal (.mflTxp f q)
  | 1 => .signal (.mflTxn f q)
  | 3 => .signal (.mflRxp f q)
  | 4 => .signal (.mflRxn f q)
  | 6 => .rail .mflAvdd
  | _ => .rail .vss

/-! ### Corners (R460) -/

def signalsNw : List Signal :=
  [.lbClk] ++ (upTo 16).map .lbAd ++ [.lbAdvN, .lbWrN] ++ (upTo 2).map .lbBeN ++ (upTo 8).map .lbCsN
    ++ [.lbRdyN, .lbBreqN, .lbBgntN, .lbRstN] ++ (upTo 32).map .lbSb ++ (upTo 8).map .lbIntN

def cornerNw : List Ball := signalsNw.map .signal ++ List.replicate 16 (.rail .vddIo)

def signalsNe : List Signal :=
  [.trefClkP, .trefClkN, .rstN, .frameSync, .ppsIn] ++ (upTo 3).map .strapMode ++ (upTo 3).map .strapSmbaddr
    ++ (upTo 4).map .strapPortcfg ++ (upTo 4).map .stat ++ [.alertN, .wakeN, .smbScl 0, .smbSda 0, .smbScl 1, .smbSda 1,
      .uartTxd, .uartRxd, .spiSck, .spiCsN] ++ (upTo 4).map .spiIo ++ [.tck, .tms, .tdi, .tdo, .trstN]

def cornerNe : List Ball :=
  signalsNe.map .signal ++ List.replicate 8 (.rail .vddAon) ++ List.replicate 16 (.rail .vddIo)

/-- The eleven signals of a slot. -/
def slotBalls (n : Nat) : List Ball :=
  ([.spvGate12 n, .spvSnsp12 n, .spvSnsn12 n, .spvVout12 n, .spvGate3v3 n, .spvSnsp3v3 n, .spvSnsn3v3 n, .spvVout3v3 n,
    .slotPrsntN n, .slotPerstN n, .spvPg n] : List Signal).map .signal

def cornerSw : List Ball :=
  (upTo 12).flatMap slotBalls ++ [.signal .spvVin12, .signal .spvUptripN] ++ List.replicate 11 (.rail .vddSpv)

def cornerSe : List Ball := (upTo 12).flatMap (fun n => slotBalls (12 + n)) ++ List.replicate 12 (.rail .vddSpv)

/-- An entry of a corner's list; VSS past its end. -/
def cornerBall (l : List Ball) (k : Nat) : Ball := l.getD k (.rail .vss)

/-! ### The map (R458) -/

/-- Is `x` one of the `n` numbers from `lo`? -/
def within (x lo n : Nat) : Bool := decide (lo ≤ x) && decide (x < lo + n)

/-- The ball in row `i`, 0 to 73, and column `j`, 1 to 74. -/
def ballAt (i j : Nat) : Ball :=
  if within i 0 8 && within j 14 48 then peBall (j - 14) i
  else if within i 14 48 && within j 67 8 then peBall (48 + (i - 14)) (74 - j)
  else if within i 66 8 && within j 14 48 then peBall (96 + (j - 14)) (73 - i)
  else if within i 14 48 && within j 1 8 then peBall (144 + (i - 14)) (j - 1)
  else if within i 8 8 && within j 18 40 then mflBall ((j - 18) / 10) ((j - 18) % 10) (i - 8)
  else if within i 58 8 && within j 18 40 then mflBall (4 + (j - 18) / 10) ((j - 18) % 10) (65 - i)
  else if within i 0 14 && within j 1 13 then cornerBall cornerNw (13 * i + (j - 1))
  else if within i 0 14 && within j 62 13 then cornerBall cornerNe (13 * i + (j - 62))
  else if within i 62 12 && within j 1 13 then cornerBall cornerSw (13 * (i - 62) + (j - 1))
  else if within i 62 12 && within j 62 13 then cornerBall cornerSe (13 * (i - 62) + (j - 62))
  else if (i + j) % 2 = 0 then .rail .vss
  else if within i 32 10 then .rail .vddSram
  else .rail .vddCore

end Sys2Proof.Machine
end

