-- ==== Sys2Proof/Machine/Pins.lean ====
section
/-! DEFINITION. The low-speed outputs (R374, R376, R386, R428, R429, R436, R437, R438, R461): the level of each, as the block
drives it or, where it drives nothing, as the board's termination makes it. -/

namespace Sys2Proof.Machine

/-- Levels of the outputs. A mask has a bit for each slot; a gate's bit says that it turns its transistor on. -/
structure Pins where
  stat : Nat
  alertN : Bool
  wakeN : Bool
  uptripN : Bool
  slotPerstN : Nat
  gate12 : Nat
  gate3v3 : Nat
  slotPg : Nat
  /-- Ramping channels: slot, channel, and the voltage in mV up to which the output is driven (R369). -/
  ramps : List (Nat × Nat × Nat)
  lb : LbPins
  /-- The flash pins are the block's; transmitters and forwarded clocks drive. -/
  spiDriven : Bool
  transmit : Bool
  deriving DecidableEq, Repr

/-- A mask over the slots. -/
def slotMask (f : Nat → Bool) : Nat := ((upTo 24).filter f).foldl (fun n k => n + 2 ^ k) 0

/-- While the device is absent, unpowered or in RESET, every output is released, and its termination sets the level
(R437). -/
def Pins.released : Pins :=
  { stat := 0xF, alertN := true, wakeN := true, uptripN := true, slotPerstN := 0, gate12 := 0, gate3v3 := 0, slotPg := 0, ramps := []
    lb := { shared := false, rst := true }, spiDriven := false, transmit := false }

/-- A gate turns its transistor on: commanded on, and not being pulled down by a fast trip that the next tick records
(R372). -/
def State.gateUp (s : State) (n c : Nat) : Bool := s.flag (R.SPV_CH_STS_ON n c) && !s.spvDue.contains (.fast n c)

/-- The outputs now: in STANDBY only STAT, ALERT_N and WAKE# are driven, and the supervisor holds every gate low (R436). -/
def State.pins (s : State) : Pins :=
  if s.board.aon = false ∨ s.mode = mRESET then Pins.released
  else if s.mode = mSTANDBY then { Pins.released with stat := s.stat, alertN := !s.alertN, wakeN := !s.board.wake }
  else
    { stat := s.stat, alertN := !s.alertN, wakeN := !s.board.wake, uptripN := s.uptrip.isNone
      slotPerstN := slotMask fun n => !s.flag (R.SPV_SLOT_STS_PERST n)
      gate12 := slotMask fun n => s.gateUp n 0
      gate3v3 := slotMask fun n => s.gateUp n 1
      slotPg := slotMask fun n => s.flag (R.SPV_SLOT_STS_PG n)
      ramps := (upTo 24).flatMap fun n => ((upTo 2).filter fun c => ((s.slot n).chan c).ramping && s.gateUp n c).map fun c =>
        (n, c, s.rampLevel n c)
      lb := s.lbPins, spiDriven := !s.board.spiOff, transmit := true }

end Sys2Proof.Machine
end

