-- ==== Sys2Proof/Safety.lean ====
section
/-! DEFINITION. What a run keeps, in the terms the statements use: the queue, memory in its canonical form, and bits of
the OTP, which are never cleared (R401). -/

namespace Sys2Proof.Machine

/-- The management SRAM and the flash in canonical form: no byte listed twice, none listed as not written. -/
def Memory.wf (s : State) : Bool := storeWf (fun _ => none) s.mgt.sram && storeWf (fun _ => none) s.mgt.flash

/-- The OTP in canonical form. -/
def Otp.wf (s : State) : Bool := storeWf (fun _ => 0) s.sec.otp

/-- What few commands touch: the queue, the management SRAM, the flash and the OTP. -/
def State.vault (s : State) : List Instr × Store (Option Byte) × Store (Option Byte) × Store W32 :=
  (s.pending, s.mgt.sram, s.mgt.flash, s.sec.otp)

/-- Registers that reports of events and errors write: EVT_STS and EVT_FIRST of a page (R36) and ERR_STS (R303). -/
def statusReg (a : Nat) : Bool := a % 4096 == 0x10 || a % 4096 == 0x1C || a == 0x50020

/-- The commands that may write the management SRAM or the OTP, or reset the device: accesses of the core pair and the
debug master, a firmware image loaded, an OTP burn that ends, resets and power losses, and whatever writes registers, since
CLK_RST_CTL is one. -/
def writesVault : Instr → Bool
  | .registerWrite _ _ _ | .strayAccess _ _ _ | .evtClr _ _ _ _ | .counterClear _ _ | .tblNop _ _ | .tblRead _ _
  | .tblWrite _ _ | .tblReadClear _ _ | .frameArrival _ _ _ _ | .reservationGranted _
  | .completionArrival _ _ _ _ | .configRead _ _ _ | .configWrite _ _ _ | .mgmtPacketReceive _ _ _ _
  | .bar4RemoteRead _ _ | .bar4RemoteWrite _ _ | .coreLoad _ _ _ _ | .coreStore _ _ _ _ _ | .coreFence _ _
  | .coreLr _ _ _ _ | .coreSc _ _ _ _ _ _ | .coreAmo _ _ _ _ _ _ | .bootLoadDone | .pwrlossClear _
  | .otpProgramDone _ | .debugAccess _ _ _ _ | .resetAssert | .mainPowerLoss _ | .resetMgt | .resetCul
  | .resetTel | .resetShake | .resetLink _ | .resetDevice | .supplyUndervoltage _ | .aonUndervoltage
  | .criticalTemperature | .lifecycleAdvanceDone => true
  | _ => false

/-- The commands that may write a register with a reserved field, or carry such a write: accesses of the core pair and the
debug master, register writes of any requester, packets that may hold one, and the end of a table operation (R46). -/
def writesReserved : Instr → Bool
  | .registerWrite _ _ _ | .tblOpDone _ _ _ | .frameArrival _ _ _ _ | .reservationGranted _
  | .moabenPacketReceive _ _ _ _ _ _ _ _ _ _ _ _ _ | .mgmtPacketReceive _ _ _ _ | .coreLoad _ _ _ _ | .coreStore _ _ _ _ _
  | .coreFence _ _ | .coreLr _ _ _ _ | .coreSc _ _ _ _ _ _ | .coreAmo _ _ _ _ _ _ | .debugAccess _ _ _ _ => true
  | _ => false

/-- Registers whose send-side XOFF mask any command that fills or empties the buffer may move (R68, R240). -/
def xoffRegs : List Nat := (upTo 8).map fun f => (R.MFL_LINK_STS_XOFF_RX f).addr

/-- Every register but the listed ones and those that reports write is unchanged. -/
def KeepsRegs (s t : State) (except : List Nat) : Prop := ∀ a, statusReg a = false → a ∉ except → t.reg a = s.reg a

/-- A counter has advanced by one occurrence, saturating (R40). -/
def Counted (s t : State) (a : Nat) : Prop := t.ctr a = min (s.ctr a + 1) counterMax

/-- An event of a page stands in its EVT_STS (R36). -/
def State.event (s : State) (page ev : Nat) : Bool := bit (s.reg (page * 4096 + 0x10)).toNat ev

/-- A packet of VC4 waits for a link or stands in its replay buffer (R239, R244). -/
def State.vc4Held (s : State) (l : Nat) (v : Vc4) : Prop :=
  (∃ x ∈ (s.link l).vc4, x.body = v) ∨ ∃ p ∈ (s.link l).replay, ∃ x, p.vc4 = some x ∧ x.body = v

/-- Packets of a replay buffer that an acknowledgement up to number `a` leaves outstanding; of a number that is not
outstanding it frees none (R245). -/
def leftBy (rs : List Packet) (a : Nat) : List Packet :=
  let d := (a % 4096 + 4096 - (rs.head?.elim 0 (·.seq))) % 4096
  if d < rs.length then rs.drop (d + 1) else rs

/-- A frame with a copy towards an egress is in the buffer, its packet as given. -/
def State.carriesTo (s : State) (e : Nat) (P : Frame → Copy → Prop) : Prop :=
  ∃ f ∈ s.sw.frames, ∃ c ∈ s.sw.copies, c.frame = f.id ∧ c.egress = e ∧ P f c

/-- A write of the part's own stands in the buffer or waits for its pool (R465). -/
def State.holdsWrite (s : State) (addr : W64) (data : List Byte) : Prop :=
  ∃ f ∈ s.sw.frames ++ s.sw.waiting.map (·.frame), f.tlp.kind = .memWrite ∧ f.tlp.addr = addr ∧ f.tlp.data = data

/-- A packet at a PCIe port before its reservation: its frame, and the state once the frame has been counted at its entry and
the credits it came on have been used (R22, R67, R140, R389). -/
def State.entry (s : State) (n : Nat) (t : Tlp) (whole : Bool) : Frame × State :=
  let l := s.linkFrame n t whole
  let u := l.2.entered (l.2.preview l.1)
  (l.1, if t.isCpl then u else u.modPort n fun p => { p with credit := p.credit - t.cells })

/-- What a device-wide reset leaves of `s` in `t` (R343, R344, R444): the queue, the OTP and the flash as they were; no frame, copy,
count, table entry or ring, and every register at its reset value but for the mode, the straps and what VDD_AON keeps, the presence of cards among it. -/
def State.wiped (s t : State) : Prop :=
  t.pending = s.pending ∧ t.sec.otp = s.sec.otp ∧ t.mgt.flash = s.mgt.flash ∧ t.mgt.sram = [] ∧ t.mgt.sb = [] ∧ t.sw.frames = [] ∧
  t.sw.copies = [] ∧ t.rings = [] ∧ t.ctrs = [] ∧ t.tbls = [] ∧
  (∀ a, a ∉ keptRegs → a ∉ [R.DEV_MODE, R.CLK_THERM_STS, R.CUL_SB_CTL] →
    t.reg a = regReset a) ∧
  t.reg R.DEV_STRAP = s.reg R.DEV_STRAP ∧ t.fget R.CUL_SB_CTL_WAKE_EN = s.fget R.CUL_SB_CTL_WAKE_EN ∧
  t.board.cards = s.cardsKnown

/-- Does an access of the debug master wait behind its earlier reads (R335)? -/
def State.debugReads (s : State) : Bool := s.coreReads.any fun y => y.why == .debug

/-- A requester receives a word: at once, or, where it is the debug master and earlier reads of it are out, behind their
responses (R335). -/
def Receives (s t : State) (r : Requester) (w : W32) : Prop :=
  if r = .debug ∧ s.debugReads = true then
    t.answer = s.answer ∧ ∃ id, t.coreReads = s.coreReads ++
      [{ id := id, why := .debug, len := 4, data := leBytes 4 w.toNat, done := true }]
  else t.answer = .words [w] ∧ t.coreReads = s.coreReads

/-- Fields of an entry that a WRITE stores, and those that it keeps; none where a table has no writable field (R42). -/
def TblAccess.masks : TblAccess → Option (Nat × Nat)
  | .fields rw ro => some (rw, ro)
  | _ => none

/-- A command completes, in a state of which `P` holds. -/
def Does (c : Instr) (s : State) (P : State → Prop) : Prop := ∃ t, exec c s = .next t ∧ P t

/-- A command of the slot power supervisor completes: what it brings stands for the supervisor's next tick, and `P` holds
once that tick has run (R368). -/
def Ticks (c : Instr) (s : State) (P : State → Prop) : Prop := ∃ t, exec c s = .next t ∧ P t.spvTick

end Sys2Proof.Machine
end

