-- ==== Sys2Proof/Certificates/Slice0/Obligations.lean ====
section
/-! DEFINITION. The statements for the provers: what the rules of the specification say of the block, its commands and its
state. -/

open Sys2Proof Sys2Proof.Machine


/-! ### The block and its registers (chapter 2) -/

/-- The step runs the command in front of the queue on the state with the rest of it. -/
def Obligations.StepRunsFrontCommand : Prop :=
  ∀ (c : Instr) (cs : List Instr) (s : State), step { s with pending := c :: cs } = exec c { s with pending := cs }

/-- First in, first out: a step takes the command in front and leaves the rest of the queue as it stood. -/
def Obligations.QueueIsFirstInFirstOut : Prop :=
  ∀ s t : State, step s = .next t → t.pending = s.pending.tail

/-- R401: no step, whatever its command, changes a bit of the OTP from 1 to 0. -/
def Obligations.OtpBitsAreNeverCleared : Prop :=
  ∀ (s t : State) (w : Nat), step s = .next t →
    storeGet 0 s.sec.otp w &&& storeGet 0 t.sec.otp w = storeGet 0 s.sec.otp w

/-- Every step keeps the management SRAM, the flash and the OTP in canonical form, and no step writes the flash (log
entry 52). -/
def Obligations.MemoryStaysCanonical : Prop :=
  ∀ s t : State, Memory.wf s = true → Otp.wf s = true → step s = .next t →
    Memory.wf t = true ∧ Otp.wf t = true ∧ t.mgt.flash = s.mgt.flash

/-- After reset: mode LIMP, DEV_ALIVE reads its value, every register its reset value, every counter 0, no event set, nothing
queued or stored in the switch core (R11, R29, R32, R421). The invariant of memory and OTP holds after reset. -/
def Obligations.ResetState : Prop :=
  (State.reset.mode = mLIMP ∧ State.reset.reg R.DEV_ALIVE = 0x0C256A11 ∧ (∀ a, State.reset.reg a = regReset a) ∧
      (∀ a, State.reset.ctr a = 0) ∧ (∀ page, State.reset.pageIrq page = false) ∧ State.reset.pending = [] ∧
      State.reset.sw.frames = [] ∧ State.reset.sw.copies = [] ∧ State.reset.sw.waiting = [] ∧ State.reset.sw.tags = []) ∧
  (Memory.wf State.reset = true ∧ Otp.wf State.reset = true)

/-- The frame of memory: a command that is not among those that `writesVault` lists leaves the queue, every byte of the
management SRAM and the flash, and every OTP word unchanged. -/
def Obligations.OtherCommandsLeaveMemory : Prop :=
  ∀ (c : Instr) (s t : State), writesVault c = false → exec c s = .next t →
    t.pending = s.pending ∧ t.mgt.sram = s.mgt.sram ∧ t.mgt.flash = s.mgt.flash ∧ t.sec.otp = s.sec.otp

/-- Every command completes: one that cannot carry a register write does so in every state and with every operand, and the
rest of the queue stays. The others complete too, or end in the fault that names the register whose reserved field was
changed, for which R46 defines no outcome (log entry 44); no command is refused. What each command does is stated below, family
by family. -/
def Obligations.EveryCommandCompletes : Prop :=
  (∀ (c : Instr) (s : State), writesReserved c = false → Does c s fun t => t.pending = s.pending) ∧
  (∀ (c : Instr) (s : State), writesReserved c = true →
    (Does c s fun t => t.pending = s.pending) ∨ ∃ a, exec c s = .fault (.reservedFieldChanged a))

/-- REGISTER_WRITE to a register of a block that has no action: the fields are stored by their access codes, a register with a
lockable field is locked from then on, and no other register, counter, table entry or byte of memory changes (R12, R48);
`lckOrder` takes back a lock that the debug master set in this core cycle, since firmware's write is the one stored (R49, R416). A
write that changes a reserved field ends in the fault that names the register: R46 defines no outcome (log entry 44). -/
def Obligations.RegisterWrites : Prop :=
  (∀ (s : State) (r : Requester) (addr : Nat) (v : W32), s.alive = true → s.undef = none →
      ∀ a, a = addr % 2 ^ 24 / 4 * 4 → s.decodes r a = true → ∀ p, pageAt a = some p →
      s.writeBarred r p = false → p.off ≠ 0x14 → p.off ≠ 0x18 → isCounter p = false → p.off < 0xF00 →
      ∀ x, regSpec a = some x → ∀ u, u = s.lckOrder r a →
      u.writeCtlA r p a v = none → u.writeCtlB p a v = none → u.writeCtlC r p a v = none →
      (s.reg a ^^^ v).toNat &&& reservedBits x.fields = 0 →
      Does (.registerWrite r addr v) s fun t =>
        t.reg a = BitVec.ofNat 32 (storeFields x.fields (storeGet false u.sec.locked a) (s.reg a).toNat v.toNat) ∧
        storeGet false t.sec.locked a = (storeGet false u.sec.locked a || x.fields.any fun f => f.acc == .lck) ∧
        (∀ b, b ≠ a → t.reg b = s.reg b) ∧ t.ctrs = s.ctrs ∧ t.tbls = s.tbls ∧ t.vault = s.vault) ∧
  (∀ (s : State) (r : Requester) (addr : Nat) (v : W32), s.alive = true → s.undef = none →
      ∀ a, a = addr % 2 ^ 24 / 4 * 4 → s.decodes r a = true → ∀ p, pageAt a = some p →
      s.writeBarred r p = false → p.off ≠ 0x14 → p.off ≠ 0x18 → isCounter p = false → p.off < 0xF00 →
      ∀ x, regSpec a = some x → ∀ u, u = s.lckOrder r a →
      u.writeCtlA r p a v = none → u.writeCtlB p a v = none → u.writeCtlC r p a v = none →
      (s.reg a ^^^ v).toNat &&& reservedBits x.fields ≠ 0 →
      exec (.registerWrite r addr v) s = .fault (.reservedFieldChanged a))

/-- What `storeFields` keeps of a write, for every register of the map and every field of it: an RW field takes the written
value within its range, a lockable field does so only while its register is not locked, RO and WO fields keep what they hold
(R5, R12). -/
def Obligations.FieldsFollowAccessCodes : Prop :=
  ∀ (b : Block) (page : Nat) (x : RegSpec) (f : FieldSpec) (locked : Bool) (old v : Nat), x ∈ pageRegs b page →
    f ∈ x.fields → f.lo ≤ f.hi ∧ f.hi < 32 ∧
    bits (storeFields x.fields locked old v) f.hi f.lo =
      match f.acc with
      | .rw => clampTo f (bits v f.hi f.lo)
      | .lck => if locked then bits old f.hi f.lo else clampTo f (bits v f.hi f.lo)
      | _ => bits old f.hi f.lo

/-- R324: a write by partition `k` to a register of the MGT block leaves everything as it is but MGT_FOREIGN_WR, save in its
own MGT_HCMD_LO, MGT_HCMD_HI and MGT_HCMD_DB, which it writes. -/
def Obligations.HostWritesToMgtPages : Prop :=
  ∀ (s : State) (k : Fin 32) (addr : Nat) (v : W32), ∀ a, a = addr % 2 ^ 24 / 4 * 4 → s.alive = true → s.undef = none → s.decodes (.part k) a = true → 12 ≤ a / 4096 → a / 4096 < 16 →
    (a ≠ R.MGT_HCMD_LO k → a ≠ R.MGT_HCMD_HI k → a ≠ R.MGT_HCMD_DB k →
      exec (.registerWrite (.part k) addr v) s = .next (s.bump R.MGT_FOREIGN_WR)) ∧
    (a = R.MGT_HCMD_LO k → v.toNat % 4096 = (s.reg a).toNat % 4096 →
      exec (.registerWrite (.part k) addr v) s = .next (s.setReg a v)) ∧
    (a = R.MGT_HCMD_HI k → exec (.registerWrite (.part k) addr v) s = .next (s.setReg a v)) ∧
    (a = R.MGT_HCMD_DB k →
      Does (.registerWrite (.part k) addr v) s fun t => bit (t.reg R.MGT_HCMD_PEND).toNat k = true ∧
        t.ctr R.MGT_FOREIGN_WR = s.ctr R.MGT_FOREIGN_WR)

/-- R194: a write by a partition that does not manage instance `i` to a register of its VIM page changes nothing but
VIM_FOREIGN_WR; the manager's partition may write the page, but no partition writes MGR_PART, which the management complex and
the debug master do. -/
def Obligations.VimPageWriters : Prop :=
  ∀ (s : State) (i : Fin 512) (off : Fin 1024) (v : W32), ∀ addr, addr = 0x400000 + 0x1000 * i.val + 4 * off.val →
    s.alive = true → s.undef = none →
    (∀ k : Fin 32, s.decodes (.part k) addr = true → s.fget (R.VIM_INST_OWNER_MGR_PART i) ≠ k →
      exec (.registerWrite (.part k) addr v) s = .next (s.bump (R.VIM_FOREIGN_WR i))) ∧
    (∀ k : Fin 32, s.decodes (.part k) addr = true → s.fget (R.VIM_INST_OWNER_MGR_PART i) = k → addr = R.VIM_INST_OWNER i →
      (v.toNat &&& 0xE0FF00E0) = ((s.reg addr).toNat &&& 0xE0FF00E0) →
      Does (.registerWrite (.part k) addr v) s fun t =>
        t.fget (R.VIM_INST_OWNER_MGR_PART i) = s.fget (R.VIM_INST_OWNER_MGR_PART i) ∧
        (s.instState i = iFREE → t.fget (R.VIM_INST_OWNER_FUNC i) = bits v.toNat 15 8)) ∧
    (∀ r, r = .mgmt ∨ r = .debug → addr = R.VIM_INST_OWNER i →
      (v.toNat &&& 0xE0FF00E0) = ((s.reg addr).toNat &&& 0xE0FF00E0) →
      Does (.registerWrite r addr v) s fun t => t.fget (R.VIM_INST_OWNER_MGR_PART i) = bits v.toNat 28 24)

/-- COUNTER_LOW_READ answers the low word and latches the high one for the requester, and 2^48 − 1 for a counter found
uncorrectable (R41, R293); COUNTER_HIGH_READ answers the latched
word where the latch of the page holds this counter and the current one otherwise, and leaves the latch; COUNTER_CLEAR sets the
counter to 0; no register and no other counter changes (R41, R42). TB_READ_LATCH answers bits [47:16] of the time base and
latches all 80 for the requester (R133); ENERGY_READ answers the low word of the channel's count of µJ and latches the high one
(R366). STRAY_ACCESS: an access to a page that is not implemented changes nothing but DEV_STRAY_ACCESS, and a read returns 0
(R31); PARTIAL_WRITE: a write of fewer than 4 bytes changes nothing but DEV_PARTIAL_WRITE (R33). The debug master receives its
words behind the responses of its earlier reads (R335). -/
def Obligations.RegisterReads : Prop :=
  (∀ (s : State) (r : Requester) (addr : Nat), ∀ a, a = addr % 2 ^ 24 / 8 * 8 → s.alive = true → s.decodes r a = true →
      counterAt a = true →
      (Does (.counterLowRead r ⟨addr, false⟩) s fun t => Receives s t r (word (s.ctr a) 0) ∧
        t.latchOf r (a / 4096) = { off := a % 4096, high := s.ctr a / 2 ^ 32, valid := true } ∧ t.ctrs = s.ctrs ∧
        t.regs = s.regs ∧ t.vault = s.vault) ∧
      (Does (.counterLowRead r ⟨addr, true⟩) s fun t => Receives s t r 0xFFFFFFFF ∧
        t.latchOf r (a / 4096) = { off := a % 4096, high := 0xFFFF, valid := true } ∧ KeepsRegs s t [] ∧ t.vault = s.vault) ∧
      (Does (.counterHighRead r addr) s fun t =>
        Receives s t r (word (if (s.latchOf r (a / 4096)).valid && (s.latchOf r (a / 4096)).off == a % 4096
          then (s.latchOf r (a / 4096)).high else s.ctr a / 2 ^ 32) 0) ∧
        t.latches = s.latches ∧ t.ctrs = s.ctrs ∧ t.regs = s.regs ∧ t.vault = s.vault) ∧
      ((∀ p, pageAt a = some p → s.writeBarred r p = false) → Does (.counterClear r addr) s fun t =>
        t.ctr a = 0 ∧ (∀ b, b ≠ a → t.ctr b = s.ctr b) ∧ t.regs = s.regs ∧ t.tbls = s.tbls ∧ t.vault = s.vault)) ∧
  (∀ (s : State) (r : Requester), s.alive = true →
      (s.decodes r R.SLU_TB_LO = true → Does (.tbReadLatch r) s fun t => Receives s t r (word s.time80 16) ∧
        t.latchOf r 0x150 = { off := 0x20, high := s.time80, valid := true } ∧ t.regs = s.regs ∧ t.tb = s.tb ∧
        t.vault = s.vault) ∧
      (∀ slot ch, slot < 24 → ch < 2 → s.decodes r (R.SPV_ENERGY_LO slot ch) = true →
        Does (.energyRead r slot ch) s fun t =>
          Receives s t r (word (((s.slot slot).chan ch).energy / 100 % 2 ^ 64) 0) ∧
          t.latchOf r (0x28 + slot) = { off := 0x50 + 8 * ch, high := ((s.slot slot).chan ch).energy / 100 % 2 ^ 64 / 2 ^ 32, valid := true } ∧
          t.regs = s.regs ∧ t.slots = s.slots ∧ t.vault = s.vault)) ∧
  (∀ (s : State) (r : Requester) (addr : Nat), s.alive = true →
      (∀ w, s.decodes r (addr % 2 ^ 24 / 4 * 4) = false → Does (.strayAccess r addr w) s fun t =>
        t.ctr R.DEV_STRAY_ACCESS = min (s.ctr R.DEV_STRAY_ACCESS + 1) counterMax ∧
        (∀ a, a ≠ R.DEV_STRAY_ACCESS → t.ctr a = s.ctr a) ∧ t.regs = s.regs ∧ t.tbls = s.tbls ∧ t.vault = s.vault ∧
        (w = false → Receives s t r 0)) ∧
      (s.decodes r (addr % 2 ^ 24) = true → Does (.partialWrite r addr) s fun t =>
        t.ctr R.DEV_PARTIAL_WRITE = min (s.ctr R.DEV_PARTIAL_WRITE + 1) counterMax ∧
        (∀ a, a ≠ R.DEV_PARTIAL_WRITE → t.ctr a = s.ctr a) ∧ t.regs = s.regs ∧ t.tbls = s.tbls ∧ t.vault = s.vault))

/-- R36: SEQ advances by the number of occurrences; their bits are set and those set before stay; when EVENTS was zero,
EVT_FIRST captures the lowest-numbered of that core cycle, and otherwise it holds its capture. EVT_CLR: with the current
sequence number, and no event of the page in this core cycle, the masked event bits are cleared and SEQ stays, and EVT_FIRST
reads 0 once no event is left; otherwise nothing changes but EVT_CLR_MISS. An event that follows a clear in its core cycle
takes it back: the bits it cleared stand again and the clear is counted in EVT_CLR_MISS (R36, R37; log entry 2). -/
def Obligations.PageEvents : Prop :=
  (∀ (s : State) (page : Nat) (evs : List Nat), evs ≠ [] → (∀ e ∈ evs, e < 16) →
      ∀ c, c = s.evtCycle page → c.cleared < 65536 →
      ∀ t, t = s.raiseAll page evs → ∀ sts, sts = (s.reg (page * 4096 + 0x10)).toNat →
      ∀ first, first = (if c.clears = 0 then s.reg (page * 4096 + 0x1C) else c.first) →
      ∀ old, old = bits sts 15 0 ||| (if c.clears = 0 then 0 else c.cleared) →
      bits (t.reg (page * 4096 + 0x10)).toNat 31 16 = (bits sts 31 16 + evs.length) % 65536 ∧
      (∀ e, e < 16 → bit (t.reg (page * 4096 + 0x10)).toNat e = (evs.contains e || bit old e)) ∧
      (old = 0 → bit (t.reg (page * 4096 + 0x1C)).toNat 7 = true ∧
        bits (t.reg (page * 4096 + 0x1C)).toNat 3 0 = evs.foldl min 15) ∧
      (old ≠ 0 → storeGet 0 s.firstAt page ≠ s.now + 1 → t.reg (page * 4096 + 0x1C) = first) ∧
      (old ≠ 0 → storeGet 0 s.firstAt page = s.now + 1 →
        bits (t.reg (page * 4096 + 0x1C)).toNat 3 0 = evs.foldl min (bits first.toNat 3 0)) ∧
      (s.alive = true → c.clears ≠ 0 → t.ctr (page * 4096 + 0x800) = min (s.ctr (page * 4096 + 0x800) + c.clears) counterMax)) ∧
  (∀ (s : State) (r : Requester) (page mask seq : Nat), s.alive = true → page < 4096 → mask < 65536 →
      seq < 65536 → s.decodes r (page * 4096 + 0x14) = true → ∀ p, pageAt (page * 4096 + 0x14) = some p →
      s.writeBarred r p = false →
      (seq = bits (s.reg (page * 4096 + 0x10)).toNat 31 16 → (s.evtCycle page).raised = false →
        Does (.evtClr r page mask seq) s fun t =>
        bits (t.reg (page * 4096 + 0x10)).toNat 31 16 = seq ∧
        (∀ e, e < 16 → bit (t.reg (page * 4096 + 0x10)).toNat e
          = (bit (s.reg (page * 4096 + 0x10)).toNat e && !bit mask e)) ∧
        (bits (t.reg (page * 4096 + 0x10)).toNat 15 0 = 0 → t.reg (page * 4096 + 0x1C) = 0) ∧
        (∀ a, a ≠ page * 4096 + 0x10 → a ≠ page * 4096 + 0x1C → t.reg a = s.reg a) ∧ t.ctrs = s.ctrs ∧ t.tbls = s.tbls ∧
        t.vault = s.vault) ∧
      (seq ≠ bits (s.reg (page * 4096 + 0x10)).toNat 31 16 ∨ (s.evtCycle page).raised = true →
        Does (.evtClr r page mask seq) s fun t =>
        t.ctr (page * 4096 + 0x800) = min (s.ctr (page * 4096 + 0x800) + 1) counterMax ∧
        (∀ a, a ≠ page * 4096 + 0x800 → t.ctr a = s.ctr a) ∧ t.regs = s.regs ∧ t.tbls = s.tbls ∧ t.vault = s.vault))

/-- A write of TBL_OP on a page with an indirect table port (R43, R44): a NOP sets DONE with ERR OK and names the writer; READ,
WRITE and READ_CLEAR set BUSY and take TBL_INDEX and TBL_DATA as they stand; while an operation runs, each is ignored and
counted in TBL_COLLIDE. No entry and no other register changes. TBL_OP_DONE ends the operation of a page (R43, R45): an index
out of range, or a table the page does not have (log entry 5), ends with ERR 1 and touches nothing; a READ of a good entry loads
TBL_DATA with the entry as it reads, a bad one ends with ERR 2 (R293); a WRITE stores the writable fields within their ranges, keeps
the others, restarts PROD of a ring that it turns on (R79) and makes a routing entry whole (R311), one that changes a reserved field
ends in the fault that names the register (log entry 44), one of a counter array clears the entry, and one of a table that refuses it,
the ID route table for a host's write among them, ends with ERR 3; READ_CLEAR of a table that is no counter array ends with ERR 4, with no
entry changed; READ_CLEAR of a counter array returns the entry and clears it. -/
def Obligations.TableOperations : Prop :=
  (∀ (s : State) (r : Requester) (page : Nat), page < 4096 → s.alive = true → s.decodes r (page * 4096 + 0xF04) = true →
      ∀ p, pageAt (page * 4096 + 0xF04) = some p → s.writeBarred r p = false →
      pageNtbl p.block p.page ≠ 0 →
      (s.tblRun page = none →
        (Does (.tblNop r page) s fun t => t.reg (tblStsAt page) = BitVec.ofNat 32 (2 + reqNum r * 256) ∧
          t.tblRuns = s.tblRuns ∧ t.tbls = s.tbls ∧ (∀ a, a ≠ tblStsAt page → t.reg a = s.reg a) ∧ t.vault = s.vault) ∧
        ∀ c ∈ [(Instr.tblRead r page, 1), (.tblWrite r page, 2), (.tblReadClear r page, 3)], Does c.1 s fun t =>
          t.tblRun page = some { op := c.2, index := s.reg (tblIndexAt page), data := BitVec.ofNat 256 (s.tblData page),
                                 owner := reqNum r } ∧
          bit (t.reg (tblStsAt page)).toNat 0 = true ∧ t.tbls = s.tbls ∧ (∀ a, a ≠ tblStsAt page → t.reg a = s.reg a) ∧
          t.vault = s.vault) ∧
      (s.tblRun page ≠ none → ∀ c ∈ [Instr.tblNop r page, .tblRead r page, .tblWrite r page, .tblReadClear r page],
        Does c s fun t => t.ctr (page * 4096 + 0xEF8) = min (s.ctr (page * 4096 + 0xEF8) + 1) counterMax ∧
          t.tblRuns = s.tblRuns ∧ t.tbls = s.tbls ∧ t.regs = s.regs ∧ t.vault = s.vault)) ∧
  (∀ (s : State) (page : Nat) (c0 c1 : Bool), page < 4096 → s.undef = none →
      (s.tblRun page = none → exec (.tblOpDone page c0 c1) s = .next s) ∧
      ∀ p, pageAt (page * 4096) = some p → ∀ run, s.tblRun page = some run →
      ∀ table, table = run.index.toNat / 2 ^ 24 → ∀ index, index = run.index.toNat % 2 ^ 24 →
      ((tableSize p.block p.page table).all (fun x => decide (x.1 ≤ index)) = true → Does (.tblOpDone page c0 c1) s fun t =>
        t.tblRun page = none ∧ t.reg (tblStsAt page) = word (2 + 4 + run.owner * 256) 0 ∧ t.tbls = s.tbls ∧ t.vault = s.vault) ∧
      ∀ entries bytes, tableSize p.block p.page table = some (entries, bytes) → index < entries →
      ∀ acc, acc = tblAccess p.block p.page table → ∀ cnt, cnt = counterTable p.block p.page table →
      ∀ kept, kept = (p.block == .map && p.page == 1 && decide (run.owner < 32)) →
      ∀ view, view = s.entryView p page table index bytes → ∀ twice, twice = routingTable p.block p.page table →
      ∀ bad, bad = (if twice.isSome then (c0 && c1) || twice.any fun k => s.faulted k index else c0 || c1) →
        (run.op = 2 → (acc = .denied ∨ (acc ≠ .counters ∧ kept = true)) → Does (.tblOpDone page c0 c1) s fun t => t.tblRun page = none ∧
          t.reg (tblStsAt page) = word (2 + 12 + run.owner * 256) 0 ∧ t.tbls = s.tbls ∧ t.vault = s.vault) ∧
        (run.op = 2 → acc = .counters → Does (.tblOpDone page c0 c1) s fun t => t.tblRun page = none ∧
          t.reg (tblStsAt page) = word (2 + run.owner * 256) 0 ∧ t.tbl page table index = 0 ∧ t.vault = s.vault) ∧
        (∀ rw ro, acc.masks = some (rw, ro) → run.op = 2 → kept = false → ∀ v, v = run.data.toNat % 2 ^ (8 * bytes) →
          ∀ free, free = decide ((v ^^^ view) &&& (ones (8 * bytes - 1) 0 - (rw ||| ro)) = 0) →
          ∀ old, old = (s.tbl page table index).toNat → ∀ fresh, fresh = tblClamp p.block p.page table (v &&& rw) ||| (old &&& ro) →
          ∀ ring, ring = ((p.block == .buf && p.page == 2) || (p.block == .err && p.page == 0 && table == 2)) →
          (free = false → exec (.tblOpDone page c0 c1) s = .fault (.reservedFieldChanged (page * 4096 + 0xF04))) ∧
          (free = true → Does (.tblOpDone page c0 c1) s fun t => t.tblRun page = none ∧
            t.reg (tblStsAt page) = word (2 + run.owner * 256) 0 ∧
            t.tbl page table index = BitVec.ofNat 256 (if ring && bit fresh 133 && !bit old 133 then putBits fresh 223 160 0 else fresh) ∧
            (∀ x, x < 8 → x ≠ index → t.tbl page table x = s.tbl page table x) ∧
            (∀ k, twice = some k → t.faulted k index = false) ∧ t.vault = s.vault)) ∧
        (run.op = 3 → cnt = false → Does (.tblOpDone page c0 c1) s fun t => t.tblRun page = none ∧
          t.reg (tblStsAt page) = word (2 + 16 + run.owner * 256) 0 ∧ t.tbls = s.tbls ∧ t.vault = s.vault) ∧
        ((run.op = 1 ∨ (run.op = 3 ∧ cnt = true)) → bad = false → Does (.tblOpDone page c0 c1) s fun t => t.tblRun page = none ∧
          t.reg (tblStsAt page) = word (2 + run.owner * 256) 0 ∧ (∀ k, k < 8 → t.reg (tblDataAt page k) = word view (32 * k)) ∧
          (run.op = 1 → t.tbl page table index = s.tbl page table index) ∧ (run.op = 3 → t.tbl page table index = 0) ∧
          t.vault = s.vault) ∧
        ((run.op = 1 ∨ (run.op = 3 ∧ cnt = true)) → bad = true → Does (.tblOpDone page c0 c1) s fun t => t.tblRun page = none ∧
          t.reg (tblStsAt page) = word (2 + 8 + run.owner * 256) 0 ∧ (run.op = 3 → t.tbl page table index = 0) ∧
          (∀ k, twice = some k → run.op = 1 → (s.mode = mISOLATE → s.faulted k index = true → t.tbls = s.tbls) ∧ t.faulted k index = true) ∧
          t.vault = s.vault))

/-! ### The shared buffer (chapter 3) -/

/-- BANK_RETIRE (R88): a request for a bank that is not ACTIVE, or while another is BUSY, or that leaves the ordered pool below
16,384 cells, changes no bank and raises event 2; otherwise the bank drains, a spare takes over its logical number, and RESULT
reads BUSY. RETIRE_DONE: the drained bank is RETIRED, RESULT reads DONE, event 1 is raised. BANK_CE_LIMIT (R87): nothing below
CE_LIMIT corrected errors within one second; at the limit event 0 of BUF page 1 whatever AUTO is; with AUTO 0 no bank changes, with AUTO 1 the logical bank's physical bank drains as though software
had requested it. -/
def Obligations.BufferBanks : Prop :=
  (∀ (s : State) (bank : Nat), s.alive = true → ∀ j, j = bank % 32 →
      ((16 < j ∨ s.fget (bankFld j) ≠ bkACTIVE ∨ s.fget R.BUF_BANK_RETIRE_STS_RESULT = 1 ∨
          (s.spareBank = none ∧ s.ordWith (s.banksActive - 1) < 16384)) →
        Does (.bankRetire bank) s fun t => t.event 0x111 2 = true ∧ (∀ k, k < 17 → t.reg (bankFld k).addr = s.reg (bankFld k).addr) ∧
          (s.fget R.BUF_BANK_RETIRE_STS_RESULT ≠ 1 → t.fget R.BUF_BANK_RETIRE_STS_RESULT = 3 ∧
            t.fget R.BUF_BANK_RETIRE_STS_BANK = j) ∧
          KeepsRegs s t [R.BUF_BANK_RETIRE_STS] ∧ t.vault = s.vault) ∧
      (j ≤ 16 → s.fget (bankFld j) = bkACTIVE → s.fget R.BUF_BANK_RETIRE_STS_RESULT ≠ 1 →
        (∀ k, s.spareBank = some k → Does (.bankRetire bank) s fun t =>
          t.fget (bankFld j) = bkDRAINING ∧ t.fget (bankLogical j) = 0x1F ∧ t.fget (bankFld k) = bkACTIVE ∧
          t.fget (bankLogical k) = s.fget (bankLogical j) ∧ t.fget R.BUF_BANK_RETIRE_STS_RESULT = 1 ∧
          KeepsRegs s t ([(bankFld j).addr, (bankFld k).addr, R.BUF_BANK_RETIRE_STS] ++ xoffRegs) ∧ t.vault = s.vault) ∧
        (s.spareBank = none → 16384 ≤ s.ordWith (s.banksActive - 1) → Does (.bankRetire bank) s fun t =>
          t.fget (bankFld j) = bkDRAINING ∧ t.fget R.BUF_BANK_RETIRE_STS_RESULT = 1 ∧
          KeepsRegs s t ([(bankFld j).addr, R.BUF_BANK_RETIRE_STS] ++ xoffRegs) ∧ t.vault = s.vault)) ∧
      (j < 17 → s.fget (bankFld j) = bkDRAINING → (∀ k, k < j → s.fget (bankFld k) ≠ bkDRAINING) → s.bankUsed j = 0 →
        Does .retireDone s fun t => t.fget (bankFld j) = bkRETIRED ∧ t.fget R.BUF_BANK_RETIRE_STS_RESULT = 2 ∧
          t.event 0x111 1 = true ∧ KeepsRegs s t [(bankFld j).addr, R.BUF_BANK_RETIRE_STS] ∧ t.vault = s.vault) ∧
      (j < 17 → s.fget (bankFld j) = bkDRAINING → (∀ k, k < j → s.fget (bankFld k) ≠ bkDRAINING) → s.bankUsed j ≠ 0 →
        exec .retireDone s = .next s) ∧
      ((∀ k, k < 17 → s.fget (bankFld k) ≠ bkDRAINING) → exec .retireDone s = .next s)) ∧
  (∀ (s : State) (bank : Nat), s.alive = true →
      ((s.recentCe (bank % 16)).length < s.fget R.BUF_SPARE_CTL_CE_LIMIT → exec (.bankCeLimit bank) s = .next s) ∧
      (s.fget R.BUF_SPARE_CTL_CE_LIMIT ≤ (s.recentCe (bank % 16)).length →
        (s.fget R.BUF_SPARE_CTL_AUTO = 0 ∨ (s.activeBanks.all fun b => b.1 != bank % 16) = true) →
        Does (.bankCeLimit bank) s fun t => t.event 0x111 0 = true ∧ KeepsRegs s t [] ∧ t.vault = s.vault) ∧
      ∀ l j, (s.activeBanks.find? fun b => b.1 == bank % 16) = some (l, j) →
      (s.fget R.BUF_SPARE_CTL_CE_LIMIT ≤ (s.recentCe (bank % 16)).length → s.fget R.BUF_SPARE_CTL_AUTO = 1 →
        (s.fget R.BUF_BANK_RETIRE_STS_RESULT = 1 ∨ (s.spareBank = none ∧ s.ordWith (s.banksActive - 1) < 16384)) →
        Does (.bankCeLimit bank) s fun t => t.event 0x111 0 = true ∧ t.event 0x111 2 = true ∧
          (∀ k, k < 17 → t.reg (bankFld k).addr = s.reg (bankFld k).addr) ∧ KeepsRegs s t [R.BUF_BANK_RETIRE_STS] ∧ t.vault = s.vault) ∧
      (s.fget R.BUF_SPARE_CTL_CE_LIMIT ≤ (s.recentCe (bank % 16)).length → s.fget R.BUF_SPARE_CTL_AUTO = 1 → ∀ k, s.spareBank = some k → s.fget R.BUF_BANK_RETIRE_STS_RESULT ≠ 1 →
        Does (.bankCeLimit bank) s fun t => t.event 0x111 0 = true ∧ t.fget (bankFld j) = bkDRAINING ∧
          t.fget (bankFld k) = bkACTIVE ∧ t.fget (bankLogical k) = s.fget (bankLogical j) ∧
          KeepsRegs s t ([(bankFld j).addr, (bankFld k).addr, R.BUF_BANK_RETIRE_STS] ++ xoffRegs) ∧ t.vault = s.vault))

/-- R54: a write of LIVE_POOL or CPL_POOL stores the largest value not above the written one that leaves the ordered pool
16,384 cells, within the register's range; no other register changes but the events' own and the XOFF masks that follow
the pools. LEDGER_WRITE takes the oldest record off the queue, once the ledger pool has a cell, writes it to its slot of its ring,
advances PROD and owes the ring a writeback (R81); LEDGER_WRITEBACK sends PROD of the ring to PIDX_ADDR as a 4-byte posted write of
the ledger pool, towards the ring's consumer wherever it is; a ring entry with both copies bad is found by either (R293, R294).
WEIR_GOV_TICK (R70): once in 100 µs, while EN is 1, a port whose withheld share and occupancy have asked for it for HYST intervals has
its LIMIT raised or lowered by STEP within its bounds (R28), and one whose bounds cross keeps it. The share is what the cycles have
counted, or what the port's credit logic reports where that is more (log entry 107). -/
def Obligations.PoolsLedgerAndWeir : Prop :=
  (∀ (s : State) (cells room : Nat), room = 16384 * s.banksActive - 1536 - 16384 →
      (Does (.livePoolWrite cells) s fun t =>
        t.fget R.BUF_LIVE_POOL_CELLS = min (min cells 131072) (room - s.fget R.BUF_CPL_POOL_CELLS) ∧
        (s.fget R.BUF_CPL_POOL_CELLS ≤ room → t.fget R.BUF_LIVE_POOL_CELLS + t.fget R.BUF_CPL_POOL_CELLS ≤ room) ∧
        KeepsRegs s t ([R.BUF_LIVE_POOL] ++ xoffRegs) ∧ t.vault = s.vault) ∧
      (Does (.cplPoolWrite cells) s fun t =>
        t.fget R.BUF_CPL_POOL_CELLS = min (max 8192 (min cells 131072)) (room - s.fget R.BUF_LIVE_POOL_CELLS) ∧
        KeepsRegs s t ([R.BUF_CPL_POOL] ++ xoffRegs) ∧ t.sw.frames = s.sw.frames ∧ t.sw.copies = s.sw.copies ∧
        t.vault = s.vault)) ∧
  (∀ (s : State),
      ((s.sw.ledgerQ = [] ∨ s.poolFree .ledger = 0) → exec .ledgerWrite s = .next s) ∧
      (∀ r rest, s.sw.ledgerQ = r :: rest → s.poolFree .ledger ≠ 0 →
        (s.faulted 7 r.ring = true → Does .ledgerWrite s fun t => (s.mode ≠ mLIMP → t.sw.ledgerQ = rest) ∧
          t.tget 0x112 0 r.ring 191 160 = s.tget 0x112 0 r.ring 191 160 ∧ t.vault = s.vault) ∧
        (s.faulted 7 r.ring = false → s.ringOn r.ring = true → Does .ledgerWrite s fun t => t.sw.ledgerQ = rest ∧
          t.tget 0x112 0 r.ring 191 160 = (s.tget 0x112 0 r.ring 191 160 + 1) % 2 ^ 32 ∧
          r.ring ∈ t.sw.ledgerDue ∧ t.regs = s.regs ∧ t.vault = s.vault ∧
          (∀ e, s.egressTo 88 (s.tget 0x112 0 r.ring 147 144) (s.tget 0x112 0 r.ring 142 136 % 64) 0 = some e → s.shut e = false →
            t.holdsWrite (BitVec.ofNat 64 (s.tget 0x112 0 r.ring 63 0 +
              32 * (s.tget 0x112 0 r.ring 191 160 % 2 ^ s.tget 0x112 0 r.ring 132 128))) (leBytes 32 (s.ledgerBits r)))) ∧
        (s.faulted 7 r.ring = false → s.ringOn r.ring = false →
          exec .ledgerWrite s = .next { s with sw := { s.sw with ledgerQ := rest } })) ∧
      (∀ ring, ring < 256 →
        ((ring ∉ s.sw.ledgerDue ∨ s.poolFree .ledger = 0) → exec (.ledgerWriteback ring) s = .next s) ∧
        (ring ∈ s.sw.ledgerDue → s.poolFree .ledger ≠ 0 → s.faulted 7 ring = true → Does (.ledgerWriteback ring) s fun t =>
          ring ∉ t.sw.ledgerDue ∧ t.vault = s.vault) ∧
        (ring ∈ s.sw.ledgerDue → s.poolFree .ledger ≠ 0 → s.faulted 7 ring = false → Does (.ledgerWriteback ring) s fun t =>
          ring ∉ t.sw.ledgerDue ∧ t.regs = s.regs ∧ t.tbls = s.tbls ∧ t.vault = s.vault ∧
          ∀ e, s.egressTo 88 (s.tget 0x112 0 ring 147 144) (s.tget 0x112 0 ring 142 136 % 64) 0 = some e → s.shut e = false →
            t.holdsWrite (BitVec.ofNat 64 (s.tget 0x112 0 ring 127 64)) (leBytes 4 (s.tget 0x112 0 ring 191 160)) ∧
            (s.poolQueue .ledger = false → t.carriesTo e fun f _ => f.pool = .ledger ∧ f.tlp.kind = .memWrite ∧
              f.tlp.addr = BitVec.ofNat 64 (s.tget 0x112 0 ring 127 64) ∧ f.tlp.data = leBytes 4 (s.tget 0x112 0 ring 191 160))))) ∧
  (∀ (s : State) (withheld : List (Nat × Nat)), s.alive = true →
      ∀ due, due = (s.flag R.BUF_WEIR_GOV_EN && decide (storeGet 0 s.govAt 0 + 125000 ≤ s.now)) →
      (due = false → exec (.weirGovTick withheld) s = .next s) ∧
      (due = true → ∀ hyst, hyst = s.fget R.BUF_WEIR_GOV_HYST → ∀ step, step = s.fget R.BUF_WEIR_GOV_STEP →
        Does (.weirGovTick withheld) s fun t => storeGet 0 t.govAt 0 = s.now ∧ t.vault = s.vault ∧
        ∀ n, n < 88 → ∀ limit, limit = s.fget (R.SWC_WEIR_LIMIT n) → ∀ lo, lo = s.fget (R.SWC_WEIR_BOUND_MIN n) →
          ∀ hi, hi = s.fget (R.SWC_WEIR_BOUND_MAX n) →
          ∀ w, w = min 100 (max (s.withheldPct n (s.now - storeGet 0 s.govAt 0)) (storeGet 0 withheld n)) →
          ∀ raise, raise = decide (s.fget R.BUF_WEIR_GOV_HI_PCT ≤ w ∧ step * 32 ≤ s.poolFree .ordered) →
          ∀ lower, lower = (!raise && decide (max (s.port n).weirPeak (s.weirHeld n) * 100 < s.fget R.BUF_WEIR_GOV_LO_PCT * limit * 32)) →
          ∀ ups, ups = (if raise then (s.port n).weirUp + 1 else 0) → ∀ downs, downs = (if lower then (s.port n).weirDown + 1 else 0) →
          t.fget (R.SWC_WEIR_LIMIT n) = (if hi < lo then limit
            else if hyst ≤ downs then min hi (max (limit - step) lo)
            else if hyst ≤ ups then max lo (min (limit + step) hi) else limit)))

/-- PORT_LINK_DOWN (R82, R83, R85): the port's epoch advances by one modulo 16, its flush starts or goes on and counts the
link-down, the fifteenth sets FLUSH_ALL, and no copy stays in transmission at it.
PORT_LINK_UP (R84, R207): a port that may train comes up with RATE within its ceiling, WIDTH and mode as trained; a flush that
runs goes on, with the epoch as it stands. A Moaben link in service comes up. FLUSH_REMOVE takes the next copy of an older
epoch and counts it by its type, a live one goes to its ledger ring with reason PORT_DOWN (R80, R83); FLUSH_DONE ends the
flush: FLUSH_ALL clears, the epoch stays, event 1 of SWC page 3 is raised (R84, R85). AGE_DISCARD discards an aged queue head,
counted by its type, with event 1 of BUF page 0 (R75). A copy listed afterwards under a removed copy's number is a new one. -/
def Obligations.PortsDownAndUp : Prop :=
  (∀ (s : State) (n : Nat), n < 64 → ∀ p, p = s.port n → p.up = true →
      Does (.portLinkDown n) s fun t => (t.port n).up = false ∧ (t.port n).epoch = (p.epoch + 1) % 16 ∧
        (t.port n).flushing = true ∧ (t.port n).downs = (if p.flushing then p.downs + 1 else 1) ∧
        (t.port n).flushAll = (p.flushAll || decide (15 ≤ if p.flushing then p.downs + 1 else 1)) ∧
        t.sendingAt n = none ∧ t.flag (R.PEP_PORT_STS_DL_ACTIVE n) = false ∧ t.vault = s.vault) ∧
  (∀ (s : State) (n : Nat), 64 ≤ n → n < 72 →
      (s.linkState (n - 64) = lsDISABLED → exec (.portLinkDown n) s = .next s) ∧
      (s.linkState (n - 64) ≠ lsDISABLED → Does (.portLinkDown n) s fun t => (t.port n).up = false ∧
        t.sendingAt n = none ∧ t.linkUp (n - 64) = false ∧ t.vault = s.vault)) ∧
  (∀ (s : State) (n rate width : Nat) (flit : Bool),
      (n < 64 → s.mayTrain n = true → (s.port n).up = false → Does (.portLinkUp n rate width flit) s fun t =>
        (t.port n).up = true ∧ t.flag (R.PEP_PORT_STS_DL_ACTIVE n) = true ∧
        t.fget (R.PEP_PORT_STS_RATE n) = max 1 (min rate (s.rateCeiling n)) ∧ t.fget (R.PEP_PORT_STS_WIDTH n) = s.trainWidth n width ∧
        (t.port n).epoch = (s.port n).epoch ∧ (t.port n).flushing = (s.port n).flushing ∧
        t.event (0x800 + 4 * n) 0 = true ∧ KeepsRegs s t [(R.PEP_PORT_STS_RATE n).addr] ∧ t.vault = s.vault) ∧
      (64 ≤ n → n < 72 → s.linkLive (n - 64) = true → (s.port n).up = false →
        exec (.portLinkUp n rate width flit) s = .next (s.modPort n fun p => { p with up := true, l1 := false }))) ∧
  (∀ (s : State) (n : Nat), s.alive = true →
      (∀ c rest, s.flushLeft n = c :: rest → n < 72 → s.sw.ledgerQ.length < 1024 → ∀ f, s.frame? c.frame = some f → Does (.flushRemove n) s fun t =>
        Counted s t (if f.tlp.posted then R.BUF_FLUSH_P else if f.tlp.isCpl then R.BUF_FLUSH_CPL else R.BUF_FLUSH_NP) ∧
        (f.live = true → f.tlp.posted = true → ∀ r, s.ringOf f c = some r → ∃ x : LedgerRec, t.sw.ledgerQ = s.sw.ledgerQ ++ [x] ∧
          x.ring = r ∧ x.reason = lrPORT_DOWN ∧ x.addr = c.addr ∧ x.len = f.tlp.payload ∧ x.egress = c.egress ∧ x.prio = f.prio ∧
          x.time = s.ns) ∧
        (∀ x ∈ t.sw.copies, x.id = c.id → s.sw.nextId ≤ x.id) ∧ (t.port n).epoch = (s.port n).epoch ∧
        KeepsRegs s t xoffRegs ∧ t.vault = s.vault) ∧
      (∀ q, n < 89 → q < 16 → ∀ c, s.headOf n q = some c → ∀ f, s.frame? c.frame = some f →
        f.born + s.fget R.BUF_AGE_LIMIT_LIMIT * 1250 < s.now →
        Does (.ageDiscard n q) s fun t =>
          Counted s t (if f.tlp.posted then R.BUF_AGE_P else if f.tlp.isCpl then R.BUF_AGE_CPL else R.BUF_AGE_NP) ∧
          (∀ x ∈ t.sw.copies, x.id = c.id → s.sw.nextId ≤ x.id) ∧ t.event 0x110 1 = true ∧ KeepsRegs s t xoffRegs ∧
          t.vault = s.vault) ∧
      (n < 72 → (s.port n).flushing = true → s.flushLeft n = [] → Does (.flushDone n) s fun t =>
        (t.port n).flushing = false ∧ (t.port n).flushAll = false ∧ (t.port n).downs = 0 ∧
        (t.port n).epoch = (s.port n).epoch ∧ t.event 0x103 1 = true ∧ KeepsRegs s t [] ∧ t.vault = s.vault))

/-- The copy that a port selects (R23, R60): the first of its queue, ready, with no earlier posted copy of its ingress and
traffic class before it, and no completion held behind an earlier posted write of the part's own that waits (R346). -/
def Obligations.SelectedCopyIsReadyHead : Prop :=
  ∀ (s : State) (n credits : Nat), ∀ c f p, s.selectNext n credits = some (c, f, p) →
    ((s.queued n).find? fun x => x.1.queue == c.queue) = some (c, f) ∧ s.cellsReady f c = true ∧
    blocked (s.queued n) c f = false ∧ s.heldBack n f = false ∧ (isPcie n = true → bit credits c.queue = true) ∧
    (c.queue < 12 ∨ (12 ≤ c.queue ∧ ∀ q, c.queue < q → q < 16 → s.readyHead (s.queued n) n credits q = none))

/-- COPY_START (R60, R62, R66, R75): heads of the port over age are discarded first; where no copy may start then, nothing else
happens; otherwise the selected copy starts, whatever its reading finds: with nothing found, a corrected cell, or what only its
replay copy or its engine meets, it is in transmission from now on, cut through where it may be, the port's pointers move, and at
a Moaben link its packet takes the next number (R243); with a furrow word, a cell or a header change that does not hold it is
discarded, or ended as a late error where it cuts through; a queue error is the port's. COPY_DEPART (R244): when the last byte
leaves, the packet as the copy carries it goes out,
and the copy is gone, or kept, not acknowledged, at a Moaben link. UNDERRUN: a cut-through copy whose frame is not whole is ended
and will be sent again whole, and any other goes on (R65); UNDERRUN_RESEND: its frame is whole, and nothing else changes.
LATE_ERROR: a cut-through copy spoilt by its furrow word, a cell or its header change is ended, counted and removed; one whose
frame's tail fails, or is nullified, goes with every other copy of that frame (R64). A port that ends its copies by DPC enters it
(R62, R218). Errors counted against a port are stated with no escalation threshold (R298). -/
def Obligations.Transmission : Prop :=
  (∀ (s : State) (n credits cell : Nat) (got : W32), n < 89 →
      ∀ u, u = (if (s.agedHead fun c => c.egress == n).isNone then s
        else (State.ageOut (fun c => c.egress == n) (s.sw.copies.length + 1) s).updateXoff) →
      (∀ kind, (u.egressOpen n = false ∨ (u.sendingAt n).isSome = true ∨ u.selectNext n credits = none) →
        exec (.copyStart n credits kind got cell) s = .next u) ∧
      (u.egressOpen n = true → u.sendingAt n = none → ∀ c f p, u.selectNext n credits = some (c, f, p) →
        exec (.copyStart n credits spQUEUE got cell) s = .next (u.queueUe n) ∧
        (∀ kind, kind ≠ spQUEUE → exec (.copyStart n credits kind got cell) s = .next (u.startCopy f c p kind got cell)) ∧
        (u.err.inject = none → u.frame? c.frame = some f →
          (∀ kind ∈ [spNONE, spCE, spREPLAY] ++ (if isEngine n then [spFURROW] else []),
            Does (.copyStart n credits kind got cell) s fun t =>
              (∃ x ∈ t.sw.copies, x.id = c.id ∧ x.sending = true ∧ x.started = s.now ∧ x.egress = n ∧
                x.ct = (!c.resend && u.startsCt f c)) ∧
              (isMoaben n = true → (t.link (n - 64)).replay.map (·.seq)
                = (u.link (n - 64)).replay.map (·.seq) ++ [u.fget ⟨R.MFL_SEQ_STS (n - 64), 11, 0⟩]) ∧
              (t.port n).starts = p.starts ∧ (t.port n).classPtr = p.classPtr ∧ (t.port n).typePtrs = p.typePtrs ∧
              t.vault = s.vault) ∧
          (u.fget R.ERR_ESC_PORT_THR = 0 → u.alive = true →
            ∀ kind ∈ [spUE, spXFORM] ++ (if isEngine n then [] else [spFURROW]), Does (.copyStart n credits kind got cell) s fun t =>
              ((!c.resend && u.startsCt f c) = false → Counted u t R.SWC_SF_DISCARD ∧
                ∀ x ∈ t.sw.copies, x.id = c.id → u.sw.nextId ≤ x.id) ∧
              ((!c.resend && u.startsCt f c) = true → Counted u t R.SWC_LATE_ERR ∧
                ∀ x ∈ t.sw.copies, x.id = c.id → x.sending = false) ∧ t.vault = s.vault)))) ∧
  (∀ (s : State) (n : Nat) (ref : Option (Nat × Nat)), n < 89 →
      (∀ c, s.sendingAt n = some c → ∀ f, s.frame? c.frame = some f →
        (Does (.copyDepart n ref) s fun t => t.answer = .packet n (s.copyTlp f c) ∧ t.vault = s.vault) ∧
        (ref = none → Does (.copyDepart n ref) s fun t =>
          (isMoaben n = false → t.sw.copies = s.sw.copies.filter fun x => x.id != c.id) ∧
          (isMoaben n = true → t.sw.copies = s.sw.copies.map (fun x => if x.id = c.id then { x with sending := false, unacked := true } else x) ∧
            ((t.link (n - 64)).replay.map (·.seq)) = (s.link (n - 64)).replay.map (·.seq)))) ∧
      (s.sendingAt n = none → exec (.copyDepart n ref) s = .next s)) ∧
  (∀ (s : State) (n : Nat), n < 88 → s.alive = true →
      (∀ c, s.sendingAt n = some c → ∀ f, s.frame? c.frame = some f →
        ((c.ct = false ∨ f.whole = true) → exec (.underrun n) s = .next s) ∧
        (c.ct = true → f.whole = false → Does (.underrun n) s fun t => Counted s t R.SWC_UNDERRUN ∧ t.event 0x100 1 = true ∧
          (c.contain = false → ∃ x ∈ t.sw.copies, x.id = c.id ∧ x.sending = false ∧ x.ct = false ∧ x.resend = true ∧ x.egress = n) ∧
          (c.contain = true → t.flag (R.PEP_PORT_STS_DPC n) = true) ∧ t.vault = s.vault) ∧
        (∀ cause got cell, c.ct = false → exec (.lateError n cause got cell) s = .next s) ∧
        (∀ cause ∈ [leFURROW, leECC, leXFORM], ∀ got cell, c.ct = true → s.fget R.ERR_ESC_PORT_THR = 0 →
          Does (.lateError n cause got cell) s fun t =>
            Counted s t R.SWC_LATE_ERR ∧ (∀ x ∈ t.sw.copies, x.id = c.id → x.sending = false) ∧ t.event 0x100 0 = true ∧
            (c.contain = true → t.flag (R.PEP_PORT_STS_DPC n) = true) ∧ t.vault = s.vault) ∧
        (∀ cause ∈ [leLINK_CHECK, leNULLIFIED], ∀ got cell, c.ct = true →
          (f.whole = true → exec (.lateError n cause got cell) s = .next s) ∧
          (f.whole = false → Does (.lateError n cause got cell) s fun t =>
            (∀ x ∈ t.sw.copies, x.id = c.id → x.sending = false) ∧ s.ctr R.SWC_LATE_ERR ≤ t.ctr R.SWC_LATE_ERR ∧
            (c.contain = true → t.flag (R.PEP_PORT_STS_DPC n) = true) ∧ t.vault = s.vault))) ∧
      (s.sendingAt n = none → exec (.underrun n) s = .next s) ∧
      (∀ c, (s.sw.copies.find? fun x => x.egress == n && x.resend && !x.sending && !x.unacked) = some c →
        exec (.underrunResend n) s = .next (s.modFrame c.frame fun f => { f with whole := true })) ∧
      ((s.sw.copies.find? fun x => x.egress == n && x.resend && !x.sending && !x.unacked) = none →
        exec (.underrunResend n) s = .next s))

/-! ### Frames that arrive (chapters 3 to 5) -/

/-- FRAME_ARRIVAL (R22, R55, R123, R127, R345): a posted request that crosses no 4 KiB boundary is looked up at once, but for a
write of the register space or an instance's BAR0 behind such a request of its port that waits; a non-posted
one reserves its completion cells first, under a new tag record, and waits at its ingress where the reserve has no room or an
earlier one waits. Waiting requests go on (R55, R101, R227, R465): a granted reservation is held under a tag record as the
request arrives; a granted proxy or originated tag is a free one of its requester ID, and the request is queued under it; a
frame of the part's own that waits first for its pool is admitted once it has room. -/
def Obligations.Admission : Prop :=
  (∀ (s : State) (n : Nat) (t : Tlp) (whole : Bool), n < 64 → s.alive = true → (s.port n).up = true → t.crosses = false →
      t.poison = false → t.isCpl = false → ∀ l u, s.entry n t whole = (l, u) →
      (t.posted = true → u.keepsTurn l = false → ∀ v, v = (u.arrive l false).updateXoff → v.undef = none →
        exec (.frameArrival n t whole none) s = .next v) ∧
      (t.posted = true → u.keepsTurn l = true → s.undef = none → Does (.frameArrival n t whole none) s fun v =>
        v.sw.waiting = s.sw.waiting ++ [{ frame := l, need := .reservation, copies := [] }] ∧
        v.sw.frames = s.sw.frames ∧ v.sw.copies = s.sw.copies ∧ v.vault = s.vault) ∧
      (t.nonPosted = true → u.reserveQueue n = false → t.reserve ≤ u.poolFree .completion → ∃ f w, u.reserveFor l = some (f, w) ∧ ∃ r,
        w.sw.tags = s.sw.tags ++ [r] ∧ r.reserved = t.reserve ∧ r.reqId = t.reqId ∧ r.tag = t.tag ∧ r.ingress = n ∧
        r.epoch = (s.port n).epoch ∧ f.record = some r.id ∧
        ((w.arrive f false).updateXoff.undef = none →
          exec (.frameArrival n t whole none) s = .next (w.arrive f false).updateXoff)) ∧
      (t.nonPosted = true → (u.reserveQueue n = true ∨ u.poolFree .completion < t.reserve) → s.undef = none →
        Does (.frameArrival n t whole none) s fun v => v.sw.waiting = s.sw.waiting ++ [{ frame := l, need := .reservation, copies := [] }] ∧
          v.sw.tags = s.sw.tags ∧ v.sw.frames = s.sw.frames ∧ v.sw.copies = s.sw.copies ∧ v.vault = s.vault)) ∧
  (∀ (s : State) (n : Nat),
      (n < 89 → (s.firstWait fun w => w.need == .reservation && w.frame.ingress == n) = none →
        exec (.reservationGranted n) s = .next s) ∧
      (n < 89 → ∀ w, (s.firstWait fun w => w.need == .reservation && w.frame.ingress == n) = some w →
        (s.poolFree .completion < w.frame.tlp.reserve → exec (.reservationGranted n) s = .next s) ∧
        (∀ f u, (s.unwait w).reserveFor w.frame = some (f, u) →
          w.frame.tlp.reserve ≤ s.poolFree .completion →
          (w.frame.tlp.nonPosted = true → (∃ r ∈ u.sw.tags, f.record = some r.id ∧ r.reserved = w.frame.tlp.reserve) ∧
            u.sw.waiting = s.sw.waiting.erase w) ∧
          (w.copies = [] → ∀ v, v = (State.freeTurns u.sw.waiting.length n (u.arrive f false)).updateXoff → v.undef = none →
            exec (.reservationGranted n) s = .next v) ∧
          (∀ c cs, w.copies = c :: cs → w.frame.origin ≠ .device → ∀ v, v = (u.fabricPass f c.dstFid c.dest).updateXoff →
            v.undef = none → exec (.reservationGranted n) s = .next v)) ∧
        (∀ c cs, w.copies = c :: cs → w.frame.origin = .device → w.frame.tlp.reserve ≤ s.poolFree .completion →
          exec (.reservationGranted n) s = .next ((s.unwait w).resumeOwn w.frame c false))) ∧
      (n < 72 → s.shut n = false →
        (∀ w, (s.firstWait fun w => w.need == .proxyTag && w.copies.any fun c => c.egress == n) = some w → w.frame.pool ≠ .management →
          ∀ c cs, w.copies = c :: cs → c.egress = n → c.frame = w.frame.id → w.frame.live = false →
          (∃ g, g ≠ 0 ∧ g < 2 ^ s.tagBits n ∧ g ∉ s.usedTags (c.newReqId.getD w.frame.tlp.reqId)) →
          Does (.proxyTagGranted n) s fun v => v.carriesTo n fun f x => f.tlp = w.frame.tlp ∧
            ∃ g : BitVec 14, x.newTag = some g ∧ g ≠ 0 ∧ g.toNat ∉ s.usedTags (c.newReqId.getD w.frame.tlp.reqId)) ∧
        (∀ w, (s.firstWait fun w => w.need == .originatedTag && w.copies.any fun c => c.egress == n) = some w →
          ∀ c cs, w.copies = c :: cs → c.egress = n → c.frame = w.frame.id → w.frame.live = false →
          (∀ o, s.ownerOf c.dstFid c.dest = some o → w.frame.part = some o) →
          behindOf (s.sw.waiting.takeWhile fun x => x.frame.id != w.frame.id) w.frame c = false →
          (∃ g, g ≠ 0 ∧ g < 2 ^ s.tagBits n ∧ g ∉ s.usedTags w.frame.tlp.reqId) →
          Does (.originatedTagGranted n) s fun v => v.carriesTo n fun f _ => f.tlp = { w.frame.tlp with tag := f.tlp.tag } ∧
            f.tlp.tag ≠ 0 ∧ f.tlp.tag.toNat ∉ s.usedTags w.frame.tlp.reqId)) ∧
      (∀ w rest, s.sw.waiting = w :: rest → w.need = .pool → w.frame.tlp.cells ≤ s.poolFree w.frame.pool →
        ∀ c cs, w.copies = c :: cs → c.frame = w.frame.id →
        c.newTag = none → w.frame.tlp.posted = true → w.frame.live = false → s.shut c.egress = false →
        Does .poolSpaceGranted s fun v => v.sw.waiting = rest ∧ v.carriesTo c.egress fun f _ => f.tlp = w.frame.tlp))

/-- A posted write that meets one window and whose checks pass goes, under the window's address, to the core port its window
names, here a port of this device that takes copies: it is stored and queued there, stamped with the time base at its arrival
(R22, R93, R100, R101, R140). -/
def Obligations.PostedWriteIsForwarded : Prop :=
  ∀ (s : State) (n : Nat) (t : Tlp) (whole : Bool), n < 64 → s.alive = true →
    s.undef = none → (s.port n).up = true → t.kind = .memWrite → t.crosses = false → t.poison = false → t.ide = none →
    t.locked = false → ∀ l u, s.entry n t whole = (l, u) → ∀ g, g = { l with ruleEpoch := u.stampEpoch, older := u.sweptNow } →
    u.modeRefuse g = none → u.carries n = true → u.acsCause g = none → u.bridgeShut g = false → u.keepsTurn l = false → ∀ w fid p, u.lookup l.part n t l.stamp l.era = .go (some w) (.port fid p) →
    fid = s.selfFid → w.live = false →
    p < 64 → u.shut p = false → u.asleep l p = false →
    Does (.frameArrival n t whole none) s fun v =>
      v.carriesTo p fun f c => f.tlp = t ∧ f.ingress = n ∧ f.stamp = s.time80 ∧ f.window = w.idx ∧ c.addr = w.out t.addr ∧ c.dest = p

/-- COMPLETION_ARRIVAL (R101, R102): a completion that matches a proxy record, whose requester's port has not gone down since,
leaves at that port under the requester ID and tag of the original request; one whose proxy record has an uncorrectable error
(R293) is discarded, the record standing. -/
def Obligations.CompletionReturnsToItsRequester : Prop :=
  ∀ (s : State) (n : Nat) (t : Tlp) (whole : Bool), n < 64 → s.alive = true →
    (s.port n).up = true → t.isCpl = true → t.poison = false → ∀ l u, s.entry n t whole = (l, u) →
    ∀ r, u.proxyOf l = some r →
    s.isolating = false →
    (s.staleTag r = false → r.ingress < 64 → s.shut r.ingress = false → s.carries r.ingress = true →
      Does (.completionArrival n t whole false) s fun v => v.carriesTo r.ingress fun f c => f.tlp = t ∧
        c.newReqId.getD t.reqId = r.reqId ∧ c.newTag.getD t.tag = r.tag ∧ c.dest = r.ingress) ∧
    Does (.completionArrival n t whole true) s fun v => v.sw.tags = s.sw.tags ∧ v.vault = s.vault

/-- CONFIG_READ and CONFIG_WRITE at an upstream port (R188, R189, R215, R322): a read is answered with the word that the
function shows; a mediated write enters the partition's mailbox behind its other entries, and a direct one is stored under its
byte enables and answered. BAR4_REMOTE_READ and BAR4_REMOTE_WRITE (R272): an access to another device's slice of BAR4 goes to
it in a packet of VC4, and a read waits for its data; a write with no link towards the device is discarded and counted.
TAG_RECORD_TIMEOUT (R55, R102): a record that MAP_PROXY_CTO has passed over retires, with nothing else changed in the switch
core; before that, nothing changes. -/
def Obligations.ConfigurationAndTags : Prop :=
  (∀ (s : State) (n : Nat) (t : Tlp), n < 64 → s.alive = true →
      (s.port n).up = true → s.shut n = false → (∀ r ∈ s.sw.tags, r.id = s.sw.nextId → s.staleTag r = false) → s.role n = 1 → ∀ part, part = s.portPart n →
      s.mode ≠ mSAFE → t.poison = false → t.ecrc = none → ∀ l u, s.entry n t true = (l, u) → u.reserveQueue n = false →
      1 ≤ u.poolFree .completion → ∀ fn, s.cfgTarget part t = .fn fn → ∀ off, off = t.addr.toNat % 4096 / 4 * 4 →
      (t.kind = .cfgRead → Does (.configRead n t false) s fun v => v.carriesTo n fun g _ => g.tlp.kind = .completion ∧
        g.tlp.status = .sc ∧ g.tlp.data = leBytes 4 (s.cfgView fn off).toNat ∧ g.tlp.reqId = t.reqId ∧ g.tlp.tag = t.tag) ∧
      (t.kind = .cfgWrite → s.mode ≠ mLIMP → (fn = .up part ∨ fn = .mgmt part ∨ fn = .engBridge part ∨
          ∃ i, fn = .inst i ∧ s.instState i ≠ iRESETTING ∧ off ∉ [0x04, 0x44, 0x68]) → off ≠ cBridgeCtl →
        cfgMediated (cfgMask fn off) (s.cfg fn.num off).toNat (leNat (t.data.take 4)) (t.byteEn.toNat % 16) = true →
        s.fget R.MGT_UPDATE_STS_RESULT ≠ 1 → s.fget (R.MGT_MBX_STS_COUNT part) < 64 →
        Does (.configWrite n t false) s fun v => v.fget (R.MGT_MBX_STS_COUNT part) = s.fget (R.MGT_MBX_STS_COUNT part) + 1 ∧
          v.tget 0x0E 0 (64 * part + (s.fget (R.MGT_MBX_STS_HEAD part) + s.fget (R.MGT_MBX_STS_COUNT part)) % 64) 75 64 = off) ∧
      (t.kind = .cfgWrite → fn = .engBridge part →
        cfgMediated (cfgMask fn off) (s.cfg fn.num off).toNat (leNat (t.data.take 4)) (t.byteEn.toNat % 16) = false →
        Does (.configWrite n t false) s fun v =>
          v.cfg fn.num off = BitVec.ofNat 32 (cfgMerge (cfgMask fn off) (s.cfg fn.num off).toNat (leNat (t.data.take 4)) (t.byteEn.toNat % 16)) ∧
          v.carriesTo n fun g _ => g.tlp.kind = .completion ∧ g.tlp.status = .sc)) ∧
  (∀ (s : State) (n : Nat) (t : Tlp), n < 64 → s.alive = true → (s.port n).up = true →
      s.mode = mFABRIC → s.fget R.ERR_ISO_STS_STATE = isoNORMAL → t.crosses = false → t.poison = false → t.ecrc = none →
      t.locked = false → ∀ l u, s.entry n t true = (l, u) → u.carries n = true → s.role n = 1 → u.d3hot (u.portFn n) = false →
      s.toSlice n t = true → ∀ off, u.lookup l.part n t l.stamp l.era = .go none (.mgmtBar 4 off) → off / 2 ^ 24 ≠ s.selfFid →
      (t.kind = .memRead → u.reserveQueue n = false → t.reserve ≤ u.poolFree .completion →
        ∀ k, s.vc4Link (off / 2 ^ 24 % 16) = some k → Does (.bar4RemoteRead n t) s fun v => ∃ r ∈ v.bar4, r.link = k ∧
          r.frame.tlp = t ∧ v.vc4Held k (.regRead (s.portPart n) (off % 2 ^ 24) t.len r.n)) ∧
      (t.kind = .memWrite →
        (∀ k, s.vc4Link (off / 2 ^ 24 % 16) = some k → Does (.bar4RemoteWrite n t) s fun v =>
          v.vc4Held k (.regWrite (s.portPart n) (off % 2 ^ 24) t.data t.byteEn.toNat)) ∧
        (s.vc4Link (off / 2 ^ 24 % 16) = none → Does (.bar4RemoteWrite n t) s fun v => Counted s v R.MAP_REMOTE_REG_FAIL))) ∧
  (∀ (s : State) (r : TagRec), (s.sw.tags.find? fun t => t.id == r.id) = some r → r.engine = false → r.ended = false →
      (r.admitted + s.fget R.MAP_PROXY_CTO_MS * 1250000 ≤ s.now → Does (.tagRecordTimeout r.id) s fun t =>
        t.sw.tags = s.sw.tags.filter (fun x => x.id != r.id) ∧ t.sw.frames = s.sw.frames ∧ t.sw.copies = s.sw.copies ∧
        t.regs = s.regs ∧ t.ctrs = s.ctrs ∧ t.vault = s.vault) ∧
      (s.now < r.admitted + s.fget R.MAP_PROXY_CTO_MS * 1250000 → exec (.tagRecordTimeout r.id) s = .next s))

/-- MOABEN_PACKET_RECEIVE (R121, R148, R243, R290): a packet with the number expected whose furrow word verifies advances
NEXT_RX, and a posted write for a PCIe port of this device is stored and queued there without lookup; a furrow word that does
not verify is counted, and no frame enters; none enters with another number, or where a block of the packet was bad. MGMT_PACKET_RECEIVE (R239, R270, R272): a packet for another device goes on towards
it; a register read for this device is answered to its sender with the bytes read; a write is performed as its partition. -/
def Obligations.FabricPackets : Prop :=
  (∀ (s : State) (l seq dest src : Nat) (t : Tlp) (bank : Bool) (gate : Nat) (fur : W32), l < 8 → seq < 4096 → dest < 64 →
      src < 16 → s.alive = true → s.linkLive l = true → s.undef = none → t.kind = .memWrite → packetBytes (wireLen t) ≤ maxPacket →
      ∀ n, n = packetBytes (wireLen t) / 32 → ∀ h : HeadFlags, h = { bank := bank, tagHi := bits t.tag.toNat 13 10 } →
      ∀ body, body = (bodySlots (packetBytes (wireLen t)) t.wire).map LineSlot.data →
      (fur = furrow t → seq = s.fget ⟨R.MFL_SEQ_STS l, 27, 16⟩ → s.mode = mFABRIC → s.fget R.ERR_ISO_STS_STATE = isoNORMAL →
        s.shut dest = false →
        Does (.moabenPacketReceive l seq 0 s.selfFid dest src n gate h fur body false (some t)) s fun v => v.fget ⟨R.MFL_SEQ_STS l, 27, 16⟩ = (seq + 1) % 4096 ∧ Counted s v (R.MFL_RX_PKTS l) ∧
            v.carriesTo dest fun f c => f.tlp = t ∧ f.ingress = 64 + l ∧ f.srcFid = src ∧ c.addr = t.addr ∧ f.lookedUp = false) ∧
      (fur ≠ furrow t → Does (.moabenPacketReceive l seq 0 s.selfFid dest src n gate h fur body false (some t)) s fun v =>
        Counted s v R.ERR_FURROW_LINK_RX ∧ v.sw = s.sw ∧ v.regs = s.regs ∧ v.vault = s.vault) ∧
      ((fur ≠ furrow t ∨ seq ≠ s.fget ⟨R.MFL_SEQ_STS l, 27, 16⟩) →
        Does (.moabenPacketReceive l seq 0 s.selfFid dest src n gate h fur body false (some t)) s fun v =>
          v.sw = s.sw ∧ v.vault = s.vault) ∧
      (∀ slots, Does (.moabenPacketReceive l seq 0 s.selfFid dest src n gate h fur slots true (some t)) s fun v =>
        v.sw = s.sw ∧ v.vault = s.vault)) ∧
  (∀ (s : State) (l src dst : Nat) (v : Vc4), l < 8 → src < 16 → dst < 16 → s.linkLive l = true →
      (dst ≠ s.selfFid → ∀ k, s.vc4Link dst = some k → Does (.mgmtPacketReceive l src dst v) s fun t => t.vc4Held k v ∧
        t.vault = s.vault ∧ t.tbls = s.tbls) ∧
      (dst = s.selfFid → ∀ part addr len id, v = .regRead part addr len id → s.undef = none → ∀ x,
        x = (s.rxVc4 l).busRead (.part (Fin.ofNat 32 part)) addr len → x.2.undef = none → ∀ k, x.2.vc4Link src = some k →
        Does (.mgmtPacketReceive l src dst v) s fun t => t.vc4Held k (.regData id (some x.1))) ∧
      (dst = s.selfFid → ∀ part addr data be, v = .regWrite part addr data be →
        ∀ u, u = (s.rxVc4 l).busWrite (.part (Fin.ofNat 32 part)) addr data → u.undef = none →
        exec (.mgmtPacketReceive l src dst v) s = .next u))

/-! ### Ports and configuration space (chapter 9) -/

/-- OCTET_CONFIG_WRITE (R210): with a port of the octet not disabled, before or after the write, a port number used twice, or a
pair in X16 parted by a write to one octet alone, nothing changes, and the refusal is counted and raises
event 0 of the octet's PHY page; otherwise the write is applied, and PRESENT
follows the port numbers formed. X16 waits for the second octet of its pair (log entry 26). PORT_CONFIG_WRITE (R212): a change of
ROLE, PART or SLOT is refused with CAUSE LINK_UP while
DISABLE is 0, and with DUP_UPSTREAM where the partition has another upstream port; it is applied otherwise. A refusal is
counted and raises event 3. A write that changes none of them stores HOLD_DOWN. -/
def Obligations.PortConfigurationWrites : Prop :=
  (∀ (s : State) (k : Nat) (mode : Bool) (v : W32), k < 24 → s.alive = true →
      ∀ other, other = k / 2 * 2 + (1 - k % 2) → ∀ x16, x16 = (mode && bits v.toNat 2 0 == 4) →
      ∀ u, u = s.octetWritten k mode v.toNat →
      ∀ mine, mine = (if s.octetMode k = 4 ∨ u.octetMode k = 4 then [k / 2 * 2, k / 2 * 2 + 1] else [k]) →
      (x16 = true → s.octetMode k ≠ 4 → other ∉ s.octetAsk → Does (.octetConfigWrite k mode v) s fun t =>
        k ∈ t.octetAsk ∧ t.regs = s.regs ∧ t.ctrs = s.ctrs ∧ t.vault = s.vault) ∧
      ((x16 = false ∨ s.octetMode k = 4 ∨ other ∈ s.octetAsk) →
        (((∃ n ∈ mine.flatMap s.octetPorts ++ mine.flatMap u.octetPorts, s.flag (R.PEP_LINK_CTL_DISABLE n) = false) ∨
            hasTwice u.formedPorts = true ∨ (mode = true ∧ x16 = false ∧ s.octetMode k = 4 ∧ s.octetMode other = 4)) →
          Does (.octetConfigWrite k mode v) s fun t =>
            KeepsRegs s t [] ∧ Counted s t (R.PHY_CFG_REFUSED k) ∧ t.event (0x900 + 4 * k) 0 = true ∧ t.vault = s.vault) ∧
        ((∀ n ∈ mine.flatMap s.octetPorts ++ mine.flatMap u.octetPorts, s.flag (R.PEP_LINK_CTL_DISABLE n) = true) →
          hasTwice u.formedPorts = false → (mode = false ∨ x16 = true ∨ s.octetMode k ≠ 4 ∨ s.octetMode other ≠ 4) →
          Does (.octetConfigWrite k mode v) s fun t =>
            (∀ n, n < 64 → t.flag (R.PEP_PORT_STS_PRESENT n) = u.formedPorts.contains n) ∧
            (∀ a, (∀ n, n < 64 → a ≠ (R.PEP_PORT_STS_PRESENT n).addr) → t.reg a = u.reg a) ∧ t.ctrs = s.ctrs ∧ t.vault = s.vault))) ∧
  (∀ (s : State) (k : Nat) (v : W32), k < 24 →
      (bits v.toNat 2 0 ≠ 4 → (s.octetWritten k true v.toNat).fget (R.PHY_OCTET_MODE_MODE k) = min (bits v.toNat 2 0) 5) ∧
      (∀ a, a ≠ R.PHY_OCTET_PORTS k → (s.octetWritten k false v.toNat).reg a = s.reg a) ∧
      (s.octetWritten k false v.toNat).reg (R.PHY_OCTET_PORTS k) = BitVec.ofNat 32 (v.toNat &&& 0xBFBFBFBF)) ∧
  (∀ (s : State) (n : Nat) (v : W32), n < 64 → s.alive = true → ∀ role, role = min (bits v.toNat 1 0) 2 →
      ∀ part, part = bits v.toNat 12 8 → ∀ slot, slot = nearestOf 23 31 (bits v.toNat 20 16) →
      ∀ same, same = (role == s.role n && part == s.portPart n && slot == s.fget (R.PEP_PORT_CTL_SLOT n)) →
      (same = true → Does (.portConfigWrite n v) s fun t => t.flag (R.PEP_PORT_CTL_HOLD_DOWN n) = bit v.toNat 24 ∧
        t.role n = s.role n ∧ t.portPart n = s.portPart n ∧ (∀ a, a ≠ R.PEP_PORT_CTL n → t.reg a = s.reg a) ∧ t.vault = s.vault) ∧
      (same = false →
        (s.fget (R.PEP_LINK_CTL_DISABLE n) = 0 → Does (.portConfigWrite n v) s fun t => t.fget (R.PEP_PORT_STS_CAUSE n) = 1 ∧
          Counted s t (R.PEP_CFG_REFUSED n) ∧ t.event (0x800 + 4 * n) 3 = true ∧ KeepsRegs s t [(R.PEP_PORT_STS_CAUSE n).addr] ∧
          t.vault = s.vault) ∧
        (s.fget (R.PEP_LINK_CTL_DISABLE n) = 1 → role = 1 → (∃ m, m < 64 ∧ m ≠ n ∧ s.role m = 1 ∧ s.portPart m = part) →
          Does (.portConfigWrite n v) s fun t => t.fget (R.PEP_PORT_STS_CAUSE n) = 2 ∧ Counted s t (R.PEP_CFG_REFUSED n) ∧
            t.event (0x800 + 4 * n) 3 = true ∧ KeepsRegs s t [(R.PEP_PORT_STS_CAUSE n).addr] ∧ t.vault = s.vault) ∧
        (s.fget (R.PEP_LINK_CTL_DISABLE n) = 1 → (∀ m, m < 64 → m ≠ n → s.role m = 1 → role = 1 → s.portPart m ≠ part) →
          Does (.portConfigWrite n v) s fun t => t.role n = role ∧ t.portPart n = part ∧ t.fget (R.PEP_PORT_CTL_SLOT n) = slot ∧
            t.flag (R.PEP_PORT_CTL_HOLD_DOWN n) = bit v.toNat 24 ∧ KeepsRegs s t [R.PEP_PORT_CTL n] ∧ t.vault = s.vault)))

/-- PCIE_LINK_DISABLE of any port, HOT_RESET and SECONDARY_BUS_RESET of a downstream port (R82, R83, R216): its link, where it is
up, goes down with epoch
and flush, and a disable holds in DISABLE. HOT_RESET does nothing at a port that is no downstream port, nor does
SECONDARY_BUS_RESET at a port of no bridge. SECONDARY_BUS_RESET of an
upstream port (R216): bridge and management function are back at their reset values and the mailbox is cleared, and no other
partition's are touched; with HOLD_DOWN
1 no link goes down, and with HOLD_DOWN 0 each downstream link of the partition does. Its instances are being reset after it. -/
def Obligations.SwitchResets : Prop :=
  (∀ (s : State) (n : Nat), n < 64 →
      (Does (.pcieLinkDisable n) s fun t => t.flag (R.PEP_LINK_CTL_DISABLE n) = true ∧ (t.port n).up = false ∧ t.vault = s.vault) ∧
      ((s.port n).up = true → ∀ c ∈ [(Instr.pcieLinkDisable n, true), (.hotReset n, false), (.secondaryBusReset n, false)],
        (c.2 = true ∨ s.role n = 2) → Does c.1 s fun t => (t.port n).up = false ∧
          (t.port n).epoch = ((s.port n).epoch + 1) % 16 ∧ (t.port n).flushing = true ∧ t.sendingAt n = none ∧
          t.flag (R.PEP_PORT_STS_DL_ACTIVE n) = false ∧ t.vault = s.vault) ∧
      (s.role n ≠ 2 → exec (.hotReset n) s = .next s) ∧
      (s.role n ≠ 2 → s.role n ≠ 1 → exec (.secondaryBusReset n) s = .next s)) ∧
  (∀ (s : State) (n : Nat), n < 64 → ∀ part, part = s.portPart n → s.role n = 1 → s.upstreamOf part = some n →
      Does (.secondaryBusReset n) s fun t =>
        (∀ off, off < 4096 → t.cfg (Fn.up part).num off = cfgReset (Fn.up part).num off ∧
          t.cfg (Fn.mgmt part).num off = cfgReset (Fn.mgmt part).num off) ∧
        (∀ other, other < 32 → other ≠ part → ∀ off, t.cfg (Fn.mgmt other).num off = s.cfg (Fn.mgmt other).num off) ∧
        t.reg (R.MGT_MBX_STS part) = 0 ∧
        (s.flag (R.PEP_PORT_CTL_HOLD_DOWN n) = true → ∀ m, (t.port m).up = (s.port m).up ∧ (t.port m).epoch = (s.port m).epoch) ∧
        (s.flag (R.PEP_PORT_CTL_HOLD_DOWN n) = false → ∀ m ∈ s.downstreamOf part, (s.port m).up = true →
          (t.port m).up = false ∧ (t.port m).epoch = ((s.port m).epoch + 1) % 16) ∧
        (∀ i ∈ s.instsOf part, s.instState i ≠ iFREE → s.instState i ≠ iSETUP → t.instState i = iRESETTING) ∧
        t.vault = s.vault)

/-- DPC_RELEASE, PCIE_RETRAIN, L1_ENTRY and PTM_REQUEST (R207, R218, R222, R225): the release clears DPC and its trigger
status; a link that retrains keeps its epoch and shows its new rate and width; an idle link with ASPM L1 enabled enters it; a
PTM request is answered with the time base in whole nanoseconds while PTM Enable is 1, and logged as an Unsupported Request
while it is 0. POWER_CONTROLLER_OFF and POWER_CONTROLLER_ON at the bridge of a slot (R219, R220): Command Completed is set; off
asserts PERST at the supervisor's next tick, with the slot OFF, on lets a slot that is not latched wait for its insertion and sets Power Fault
Detected for a latched one. -/
def Obligations.HotPlugAndPower : Prop :=
  (∀ (s : State) (n : Nat), n < 64 →
      (Does (.dpcRelease n) s fun t => t.flag (R.PEP_PORT_STS_DPC n) = false ∧ t.cfgBits (Fn.down n).num cDpcSts 0 0 = 0 ∧
        (∀ a, a ≠ (R.PEP_PORT_STS_DPC n).addr → t.reg a = s.reg a) ∧ t.sw = s.sw ∧ t.vault = s.vault) ∧
      (∀ rate width, s.flag (R.PEP_PORT_STS_DL_ACTIVE n) = false → exec (.pcieRetrain n rate width) s = .next s) ∧
      (∀ rate width, s.flag (R.PEP_PORT_STS_DL_ACTIVE n) = true → Does (.pcieRetrain n rate width) s fun t =>
        t.fget (R.PEP_PORT_STS_RATE n) = max 1 (min rate (s.rateCeiling n)) ∧ t.fget (R.PEP_PORT_STS_WIDTH n) = s.trainWidth n width ∧
        (t.port n).epoch = (s.port n).epoch ∧ (t.port n).up = (s.port n).up ∧ t.vault = s.vault) ∧
      ((s.port n).up = true → s.cfgBits (s.portFn n) cLinkCtl 1 1 = 1 → (∀ c ∈ s.sw.copies, c.egress = n → c.unacked = true) →
        exec (.l1Entry n) s = .next (s.setPort n { s.port n with l1 := true })) ∧
      (((s.port n).up = false ∨ s.cfgBits (s.portFn n) cLinkCtl 1 1 = 0 ∨ ∃ c ∈ s.sw.copies, c.egress = n ∧ c.unacked = false) →
        exec (.l1Entry n) s = .next s) ∧
      ((s.role n ≠ 2 ∨ (s.port n).up = false) → exec (.ptmRequest n) s = .next s) ∧
      (s.role n = 2 → (s.port n).up = true →
        (s.cfgBits (Fn.down n).num cPtmCtl 0 0 = 1 → Does (.ptmRequest n) s fun t =>
          t.answer = .words [BitVec.ofNat 32 s.ns, BitVec.ofNat 32 (s.ns / 2 ^ 32)] ∧ t.regs = s.regs ∧ t.sw = s.sw ∧
          t.vault = s.vault) ∧
        (s.cfgBits (Fn.down n).num cPtmCtl 0 0 = 0 → Does (.ptmRequest n) s fun t =>
          bit (t.cfg (s.portFn n) cAerUncSts).toNat aerUnsupported = true ∧ t.regs = s.regs ∧ t.vault = s.vault))) ∧
  (∀ (s : State) (n : Nat), n < 64 → ∀ k, k = s.fget (R.PEP_PORT_CTL_SLOT n) → k < 24 → s.role n = 2 → s.slotted n = true →
      s.slotPort k = some n → s.alive = true → s.spvDue = [] →
      (∀ c ∈ [(Instr.powerControllerOff n, 1), (.powerControllerOn n, 0)], s.cfgBits (Fn.down n).num cSlotCtl 10 10 = c.2 →
        Does c.1 s fun t => t.cfgBits (Fn.down n).num cSlotCtl 10 10 = c.2 ∧
          bit (t.cfg (Fn.down n).num cSlotCtl).toNat 20 = true ∧ t.regs = s.regs ∧ t.slots = s.slots ∧ t.spvDue = [] ∧
          t.vault = s.vault) ∧
      (s.cfgBits (Fn.down n).num cSlotCtl 10 10 = 0 → Ticks (.powerControllerOff n) s fun t =>
        t.cfgBits (Fn.down n).num cSlotCtl 10 10 = 1 ∧ bit (t.cfg (Fn.down n).num cSlotCtl).toNat 20 = true ∧
        t.flag (R.SPV_SLOT_STS_PERST k) = true ∧ t.flag (R.SPV_SLOT_STS_PG k) = false ∧
        (t.slot k).offAt = (if (upTo 2).any (fun c => s.flag (R.SPV_CH_STS_ON k c)) then some s.now else none) ∧
        (t.slot k).retryDue = none ∧
        (s.slotLatched k = false → t.slotState k = slOFF) ∧ t.vault = s.vault) ∧
      (s.cfgBits (Fn.down n).num cSlotCtl 10 10 = 1 →
        (s.slotLatched k = true → Ticks (.powerControllerOn n) s fun t => t.cfgBits (Fn.down n).num cSlotCtl 10 10 = 0 ∧
          bit (t.cfg (Fn.down n).num cSlotCtl).toNat 17 = true ∧ t.regs = s.regs ∧ t.vault = s.vault) ∧
        (s.slotState k = slOFF → s.flag (R.SPV_SLOT_CTL_ON k) = true → s.flag (R.SPV_SLOT_STS_PRESENT k) = true →
          Ticks (.powerControllerOn n) s fun t => t.cfgBits (Fn.down n).num cSlotCtl 10 10 = 0 ∧ t.slotState k = slWAIT ∧
            t.vault = s.vault))) ∧
  (∀ (s : State) (n : Nat), n < 64 → (s.slotted n = false ∨ s.role n ≠ 2) →
      exec (.powerControllerOff n) s = .next s ∧ exec (.powerControllerOn n) s = .next s)

/-! ### The mailboxes, the map, its rules and its sessions (chapters 4, 5 and 14) -/

/-- MAILBOX_RETIRE (R322): the head entry is freed and HEAD advances; an empty mailbox stays as it is. MAP_COMMIT (R91, R97,
R98): while one is BUSY it is counted and nothing else changes; a staged entry that R91 refuses changes no window and leaves
REFUSED with its CAUSE; a good one is in its bank with its gate common to both banks, and BUSY until MAP_COMMIT_DONE, which
leaves DONE. ACL_SWEEP advances EPOCH, marks every frame and copy in the switch core older, and starts, WAIT_NP standing where a running one
had it; SWEEP_NP_TIMEOUT ends
its wait for non-posted requests; SWEEP_DONE ends it once nothing older is left, with event 1, and event 2 where the wait had
expired (R128, R129, R131). Mirror and
sample sessions (R115, R116, R118): MCM_MODE keeps its fields to their ranges and sets PROD to 0 when the shape of the ring
changes; MCM_SAMPLE_N keeps to 1 to 2^24; the oldest capture goes to its slot, with PROD advanced and a writeback owed, or is
dropped with PROD as it was; the writeback sends PROD to PIDX_ADDR, and is dropped where the lookup or the gauntlet
refuses it. -/
def Obligations.MapUpdatesAndMirrors : Prop :=
  (∀ (s : State) (part : Nat), part < 32 →
      (s.fget (R.MGT_MBX_STS_COUNT part) = 0 → exec (.mailboxRetire part) s = .next s) ∧
      (s.fget (R.MGT_MBX_STS_COUNT part) ≠ 0 → Does (.mailboxRetire part) s fun t =>
        t.fget (R.MGT_MBX_STS_COUNT part) = s.fget (R.MGT_MBX_STS_COUNT part) - 1 ∧
        t.fget (R.MGT_MBX_STS_HEAD part) = (s.fget (R.MGT_MBX_STS_HEAD part) + 1) % 64 ∧
        KeepsRegs s t [(R.MGT_MBX_STS_COUNT part).addr] ∧ t.vault = s.vault)) ∧
  (∀ (s : State) (i : Nat) (b : Bool), i < 65536 → s.alive = true →
      (s.fget R.MAP_COMMIT_STS_RESULT = 1 → exec (.mapCommit i b) s = .next (s.bump R.MAP_COMMIT_COLLIDE) ∧
        exec .mapCommitDone s = .next (s.fset R.MAP_COMMIT_STS_RESULT 2)) ∧
      (s.fget R.MAP_COMMIT_STS_RESULT ≠ 1 → exec .mapCommitDone s = .next s ∧
        (∀ c, stageCause s.staged = some c → Does (.mapCommit i b) s fun t => t.tbls = s.tbls ∧
          t.fget R.MAP_COMMIT_STS_RESULT = 3 ∧ t.fget R.MAP_COMMIT_STS_CAUSE = c ∧ t.fget R.MAP_COMMIT_STS_INDEX = i ∧
          t.event 0x120 1 = true ∧ KeepsRegs s t [R.MAP_COMMIT_STS] ∧ t.vault = s.vault) ∧
        (stageCause s.staged = none → Does (.mapCommit i b) s fun t =>
          t.tbl 0x120 (ofBool b) i = BitVec.ofNat 256 s.staged ∧
          t.tget 0x120 (1 - ofBool b) i 240 237 = bits s.staged 240 237 ∧
          (∀ hi lo, (hi < 237 ∨ 240 < lo) → lo ≤ hi → hi < 256 →
            t.tget 0x120 (1 - ofBool b) i hi lo = s.tget 0x120 (1 - ofBool b) i hi lo) ∧
          (∀ page tb j, tblKey page tb j ≠ tblKey 0x120 0 i → tblKey page tb j ≠ tblKey 0x120 1 i → t.tbl page tb j = s.tbl page tb j) ∧
          t.fget R.MAP_COMMIT_STS_RESULT = 1 ∧ t.fget R.MAP_COMMIT_STS_INDEX = i ∧
          KeepsRegs s t [R.MAP_COMMIT_STS] ∧ t.vault = s.vault))) ∧
  (∀ (s : State), s.alive = true →
      (∀ w, Does (.aclSweep w) s fun t => t.fget R.ACL_EPOCH_EPOCH = (s.fget R.ACL_EPOCH_EPOCH + 1) % 65536 ∧
        (∀ c ∈ t.sw.copies, c.older = true) ∧ (∀ f ∈ t.sw.frames, f.older = true) ∧
        t.sw.copies.map (·.id) = s.sw.copies.map (·.id) ∧ t.fget R.ACL_SWEEP_STS_STATE = 1 ∧
        t.fget R.ACL_SWEEP_STS_NP_EXPIRED = 0 ∧ t.sweep.start = s.now ∧ Counted s t R.ACL_SWEEPS ∧
        t.sweep.waitNp = (w || (s.fget R.ACL_SWEEP_STS_STATE == 1 && s.flag R.ACL_SWEEP_STS_WAIT_NP)) ∧
        KeepsRegs s t [R.ACL_EPOCH, R.ACL_SWEEP_STS] ∧ t.vault = s.vault) ∧
      (s.fget R.ACL_SWEEP_STS_STATE = 1 → s.sweep.waitNp = true →
        s.sweep.start + s.fget R.ACL_SWEEP_CTL_NP_TMO * 1250000 ≤ s.now → Does .sweepNpTimeout s fun t =>
          t.sweep.waitNp = false ∧ (s.oldNp ≠ 0 → t.fget R.ACL_SWEEP_STS_NP_EXPIRED = 1) ∧ KeepsRegs s t [R.ACL_SWEEP_STS] ∧
          t.sw = s.sw ∧ t.vault = s.vault) ∧
      ((s.fget R.ACL_SWEEP_STS_STATE ≠ 1 ∨ s.sweep.waitNp = false ∨
          s.now < s.sweep.start + s.fget R.ACL_SWEEP_CTL_NP_TMO * 1250000) → exec .sweepNpTimeout s = .next s) ∧
      ((s.fget R.ACL_SWEEP_STS_STATE ≠ 1 ∨ s.oldFrames ≠ 0 ∨ (s.sweep.waitNp = true ∧ s.oldNp ≠ 0)) →
        exec .sweepDone s = .next s) ∧
      (s.fget R.ACL_SWEEP_STS_STATE = 1 → s.oldFrames = 0 → (s.sweep.waitNp = true → s.oldNp = 0) → Does .sweepDone s fun t =>
        t.fget R.ACL_SWEEP_STS_STATE = 2 ∧ t.fget R.ACL_SWEEP_STS_ELAPSED = min 0xFFFF ((s.now - s.sweep.start) / 5000) ∧
        t.event 0x130 1 = true ∧ (s.flag R.ACL_SWEEP_STS_NP_EXPIRED = true → t.event 0x130 2 = true) ∧
        KeepsRegs s t [R.ACL_SWEEP_STS] ∧ t.vault = s.vault)) ∧
  (∀ (s : State) (k : Nat), k < 4 →
      (∀ v : W32, Does (.mcmModeWrite k v) s fun t => t.fget (R.MCM_MODE_MODE k) = min (bits v.toNat 1 0) 2 ∧
        t.fget (R.MCM_MODE_SRC_KIND k) = min (bits v.toNat 3 2) 2 ∧ t.fget (R.MCM_MODE_SLOT_LOG2 k) = max 8 (min (bits v.toNat 19 16) 13) ∧
        t.fget (R.MCM_MODE_RING_LOG2 k) = max 4 (bits v.toNat 23 20) ∧
        (s.fget (R.MCM_MODE_SLOT_LOG2 k) ≠ t.fget (R.MCM_MODE_SLOT_LOG2 k) → t.fget (R.MCM_PROD_PROD k) = 0) ∧
        (∀ a, a ≠ R.MCM_MODE k → a ≠ R.MCM_PROD k → t.reg a = s.reg a) ∧ t.vault = s.vault) ∧
      (∀ n, Does (.sampleNWrite k n) s fun t => t.fget (R.MCM_SAMPLE_N_N k) = max 1 (min n 16777216) ∧
        KeepsRegs s t [(R.MCM_SAMPLE_N_N k).addr] ∧ t.vault = s.vault) ∧
      ((s.session k).captures = [] → exec (.mirrorSlotWrite k) s = .next s) ∧
      (∀ c rest, (s.session k).captures = c :: rest →
        (s.poolFree .management < c.cells ∨ s.poolQueue .management = true) → exec (.mirrorSlotWrite k) s = .next s) ∧
      (((s.session k).writeback = false ∨ s.poolFree .management = 0 ∨ s.poolQueue .management = true ∨
          s.fget R.MCM_MIRROR_CELLS_CELLS < s.mirrorCells + 1) → exec (.mirrorWriteback k) s = .next s) ∧
      (s.alive = true → ∀ c rest, (s.session k).captures = c :: rest → c.cells ≤ s.poolFree .management → s.poolQueue .management = false →
        ∀ u, u = s.modSession k (fun x => { x with captures := rest }) →
        ∀ pieces, pieces = u.mirrorPieces (s.fget (R.MCM_MODE_PART k)) (s.pair (R.MCM_RING_BASE_LO k) (R.MCM_RING_BASE_HI k)
          + s.slotBytes k * ((s.reg (R.MCM_PROD k)).toNat % 2 ^ s.fget (R.MCM_MODE_RING_LOG2 k))) (chunks 4096 3 (leBytes 32 c.header.toNat ++ c.bytes)) →
        (pieces.2 = none → Does (.mirrorSlotWrite k) s fun t => (t.session k).captures = rest ∧
          Counted s t (R.MCM_MIRROR_DROP k) ∧ t.event 0x141 0 = true ∧ KeepsRegs s t [] ∧ t.vault = s.vault) ∧
        (pieces.2 ≠ none → Does (.mirrorSlotWrite k) s fun t => (t.session k).captures = rest ∧ (t.session k).writeback = true ∧
          t.reg (R.MCM_PROD k) = s.reg (R.MCM_PROD k) + 1 ∧ Counted s t (R.MCM_MIRROR_REC k) ∧ KeepsRegs s t [R.MCM_PROD k] ∧
          t.vault = s.vault)) ∧
      ((s.session k).writeback = true → s.poolFree .management ≠ 0 → s.poolQueue .management = false → s.mirrorCells + 1 ≤ s.fget R.MCM_MIRROR_CELLS_CELLS →
        ∀ u, u = s.modSession k (fun x => { x with writeback := false }) →
        ∀ x, x = u.mirrorWin (s.fget (R.MCM_MODE_PART k)) (s.pair (R.MCM_PIDX_LO k) (R.MCM_PIDX_HI k))
          (leBytes 4 (s.reg (R.MCM_PROD k)).toNat) →
        (x.2 = none → Does (.mirrorWriteback k) s fun t => (t.session k).writeback = false ∧
          Counted s t (R.MCM_MIRROR_DROP k) ∧ t.event 0x141 0 = true ∧ KeepsRegs s t [] ∧ t.vault = s.vault) ∧
        (∀ y, x.2 = some y → Does (.mirrorWriteback k) s fun t => (t.session k).writeback = false ∧ t.vault = s.vault) ∧
        ∀ w fid p, x.2 = some (w, fid, p) → fid = s.selfFid → p < 64 → s.shut p = false →
        Does (.mirrorWriteback k) s fun t => (t.session k).writeback = false ∧ t.carriesTo p fun f c =>
          f.tlp.kind = .memWrite ∧ f.tlp.data = leBytes 4 (s.reg (R.MCM_PROD k)).toNat ∧
          c.addr = w.out (BitVec.ofNat 64 (s.pair (R.MCM_PIDX_LO k) (R.MCM_PIDX_HI k)))))

/-! ### The sluice (chapter 6) -/

/-- ARM and CANCEL (R142, R145): a slot that is ARMED ignores another ARM and counts it; a refused one reads REFUSED with its
cause, T less than 1 µs ahead being cause 1, with the refusal counted and event 1; else it is ARMED, a TIME trigger at its T. A
cancel before the commit has fired leaves CANCELLED, and no effect after. COMMIT_FIRE, SLOT_FIRED and GATE_FORCE (R141, R143,
R144, R146): a commit whose instant has come fires with every other one of that core cycle, the bank of a group's highest such slot is its
latest, two of one group raise event 5, and a change is counted as a flip; once every
earlier frame has been looked up the slot reads FIRED, with event 0; a forced bank is the latest from the next core cycle on,
and counted. -/
def Obligations.ArmedCommits : Prop :=
  (∀ (s : State) (g k kind : Nat) (bank : Bool), g < 16 → k < 4 → kind < 2 → s.alive = true →
      ∀ u, u = (s.fset (R.SLU_ARM_CTL_KIND g k) kind).fset (R.SLU_ARM_CTL_BANK g k) (ofBool bank) →
      (s.armState g k = asARMED → Does (.arm g k kind bank) s fun t => Counted s t R.SLU_ARM_COLLIDE ∧ t.regs = s.regs ∧
        t.armInst = s.armInst ∧ t.vault = s.vault) ∧
      (s.armState g k ≠ asARMED →
        (∀ c, u.armCause g k = some c → Does (.arm g k kind bank) s fun t => t.armState g k = asREFUSED ∧
          t.fget (R.SLU_ARM_CTL_CAUSE g k) = c ∧ Counted s t R.SLU_ARM_REFUSED ∧ t.event 0x150 1 = true ∧ t.armInst = s.armInst ∧
          KeepsRegs s t [R.SLU_ARM_CTL g k] ∧ t.vault = s.vault) ∧
        (s.mode ∈ [mLIMP, mSAFE, mDIAGNOSTIC] → u.armCause g k = some 3) ∧
        (s.mode ∉ [mLIMP, mSAFE, mDIAGNOSTIC] → kind = 0 → s.armTime g k < s.time80 + 1000 * 65536 → u.armCause g k = some 1) ∧
        (u.armCause g k = none → Does (.arm g k kind bank) s fun t => t.armState g k = asARMED ∧ t.armKind g k = kind ∧
          t.flag (R.SLU_ARM_CTL_BANK g k) = bank ∧ t.instantOf g k = (if kind = 0 then some (s.armTime g k) else none) ∧
          (∀ a, a ≠ R.SLU_ARM_CTL g k → t.reg a = s.reg a) ∧ t.vault = s.vault)) ∧
      (s.armState g k ≠ asARMED → Does (.cancel g k) s fun t => t.armState g k = s.armState g k ∧ (∀ a, t.reg a = s.reg a) ∧
        t.ctrs = s.ctrs ∧ t.armInst = s.armInst ∧ t.vault = s.vault) ∧
      (s.armState g k = asARMED → 4 * g + k ∉ s.firing → Does (.cancel g k) s fun t => t.armState g k = asCANCELLED ∧
        (∀ a, a ≠ R.SLU_ARM_CTL g k → t.reg a = s.reg a) ∧ t.ctrs = s.ctrs ∧ t.vault = s.vault) ∧
      (s.armState g k = asARMED → 4 * g + k ∈ s.firing → exec (.cancel g k) s = .next s)) ∧
  (∀ (s : State) (g k : Nat), g < 16 → k < 4 → s.alive = true →
      (s.waitingSlot g k = true → ∀ t0, s.instantOf g k = some t0 →
        (s.time80 < t0 → exec (.commitFire g k) s = .next s) ∧
        (t0 ≤ s.time80 → Does (.commitFire g k) s fun t => 4 * g + k ∈ t.firing ∧
          (∀ h, h < 16 → ∀ x ∈ s.dueSlots h s.time80, 4 * h + x.2 ∈ t.firing) ∧
          (∀ h, h < 16 → t.latestBank h = match (s.dueSlots h s.time80).getLast? with
            | some x => s.flag (R.SLU_ARM_CTL_BANK h x.2)
            | none => s.latestBank h) ∧
          (2 ≤ (s.dueSlots g s.time80).length → t.event 0x150 5 = true) ∧
          (((upTo 16).map fun h => (s.dueSlots h s.time80).length) = (upTo 16).map (fun h => if h = g then 1 else 0) →
            s.latestBank g ≠ s.flag (R.SLU_ARM_CTL_BANK g k) → Counted s t R.SLU_FLIPS) ∧
          KeepsRegs s t [] ∧ t.vault = s.vault)) ∧
      ((s.waitingSlot g k = false ∨ s.instantOf g k = none) → exec (.commitFire g k) s = .next s) ∧
      ((4 * g + k ∉ s.firing ∨ s.lookupsLeft g k = true) → exec (.slotFired g k) s = .next s) ∧
      (4 * g + k ∈ s.firing → s.lookupsLeft g k = false → Does (.slotFired g k) s fun t => t.armState g k = asFIRED ∧ 4 * g + k ∉ t.firing ∧
        t.instantOf g k = none ∧ t.event 0x150 0 = true ∧ KeepsRegs s t [R.SLU_ARM_CTL g k] ∧ t.vault = s.vault) ∧
      (∀ b, Does (.gateForce g b) s fun t => t.latestBank g = b ∧ (∀ h, h ≠ g → t.latestBank h = s.latestBank h) ∧
        Counted s t R.SLU_FORCED ∧ t.regs = s.regs ∧ t.vault = s.vault))

/-- PPS_IN_EDGE, TB_HOLDOVER and TB_SET (R134 to R136): an edge measures the error against the nearest second and sets the slew,
or steps the time base where AUTO_STEP allows it; two seconds without a reference, or no usable link, bring HOLDOVER; a step sets the time base to SLU_TB_SET,
with event 6. FRAME_SYNC_EDGE, FRAME_SYNC_MISSING and FRAME_SYNC_LOST (R138, R139): an edge in the window, or any before the
tracker locks, is counted with its capture; a stray one is counted apart; a missed edge leaves FLYWHEEL with event 2, and is
counted only under POLICY FLYWHEEL; after sixteen periods without an edge the tracker is back in NONE, its period as it was measured.
TSYNC_REQUEST_SEND, TSYNC_REQ_RECEIVE and TSYNC_FUP_RECEIVE (R256): a request opens an exchange with its t1; one received is
answered with t2 and t3 of 48 bits; the FUP ends the exchange with OFFSET and DELAY, discards it where its delay does not fit, and is nothing to an exchange of
another number. -/
def Obligations.TimeKeeping : Prop :=
  (∀ (s : State), s.alive = true →
      (s.fget R.SLU_TB_CTL_SRC ≠ srcPPS → exec .ppsInEdge s = .next s) ∧
      (s.fget R.SLU_TB_CTL_SRC = srcPPS →
        ∀ e : Int, e = (s.time80 : Int) - nearestInstant 0 (1000000000 * 65536) s.time80 →
        ((s.fget R.SLU_TB_CTL_AUTO_STEP = 0 ∨ s.fget R.SLU_TB_STS_STATE = tbLOCKED ∨ e.natAbs ≤ 1000 * 65536 ∨ s.anyArmed = true) →
          Does .ppsInEdge s fun t => t.tb.time = s.tb.time ∧
            t.fget R.SLU_TB_STS_PHASE_ERR = satSigned 16 (e.tdiv 65536) ∧ t.tb.lastRef = s.now ∧
            t.tb.rate = clampInt (s.fget R.SLU_TB_CTL_SLEW_PPM * 1000 * 65536) (-e) ∧
            t.tb.good = (if e.natAbs ≤ s.fget R.SLU_TB_CTL_LOCK_NS * 65536 then s.tb.good + 1 else 0) ∧
            KeepsRegs s t [R.SLU_TB_STS] ∧ t.vault = s.vault) ∧
        (s.fget R.SLU_TB_CTL_AUTO_STEP = 1 → s.fget R.SLU_TB_STS_STATE ≠ tbLOCKED → 1000 * 65536 < e.natAbs → s.anyArmed = false →
          Does .ppsInEdge s fun t => t.tb.time = BitVec.ofInt 80 ((s.time80 : Int) - e) ∧ t.event 0x150 6 = true ∧
            t.fget R.SLU_TB_STS_PHASE_ERR = 0 ∧ t.tb.lastRef = s.now ∧ t.tb.rate = 0 ∧ t.tb.good = s.tb.good + 1 ∧
            KeepsRegs s t [R.SLU_TB_STS] ∧ t.vault = s.vault)) ∧
      (∀ late, late = decide (s.tb.lastRef + 2500000000 ≤ s.now) → ∀ due, due =
          (s.fget R.SLU_TB_CTL_SRC == srcFABRIC && s.refLink.isNone
            || (s.fget R.SLU_TB_CTL_SRC == srcPPS || s.fget R.SLU_TB_CTL_SRC == srcFRAME) && late) →
       (due = false → exec .tbHoldover s = .next s) ∧
       (due = true → Does .tbHoldover s fun t => t.fget R.SLU_TB_STS_STATE = tbHOLDOVER ∧ (s.fget R.SLU_TB_STS_STATE ≠ tbHOLDOVER → t.event 0x150 4 = true) ∧ t.tb = s.tb ∧
        KeepsRegs s t [R.SLU_TB_STS] ∧ t.vault = s.vault)) ∧
      Does .tbSet s fun t => t.tb.time = BitVec.ofNat 80 (s.pair R.SLU_TB_SET_LO R.SLU_TB_SET_HI * 65536) ∧
        t.event 0x150 6 = true ∧ KeepsRegs s t [] ∧ t.vault = s.vault) ∧
  (∀ (s : State), s.alive = true →
      ((s.fsState = fsNONE ∨ s.fsState = fsACQUIRING ∨ ((s.time80 : Int) - s.fsExpected).natAbs ≤ s.fsWindow) →
        Does (.frameSyncEdge (s.flag R.SLU_FS_CTL_EDGE)) s fun t =>
          t.fget R.SLU_FS_COUNT_COUNT = (s.fget R.SLU_FS_COUNT_COUNT + 1) % 2 ^ 32 ∧ Counted s t R.SLU_FS_EDGES ∧
          t.reg R.SLU_FS_LAST_LO = BitVec.ofNat 32 s.ns ∧ t.reg R.SLU_FS_LAST_HI = BitVec.ofNat 32 (s.ns / 2 ^ 32) ∧
          (2 ≤ s.fsState → t.fsState = fsLOCKED) ∧ t.fs.last = some s.tb.time ∧ t.vault = s.vault) ∧
      (2 ≤ s.fsState → s.fsWindow < ((s.time80 : Int) - s.fsExpected).natAbs → s.fs.strays.length < 3 →
        Does (.frameSyncEdge (s.flag R.SLU_FS_CTL_EDGE)) s fun t => Counted s t R.SLU_FS_STRAY ∧ t.regs = s.regs ∧
          t.fs.strays.length = s.fs.strays.length + 1 ∧ t.vault = s.vault) ∧
      (2 ≤ s.fsState → ∀ off, off = (s.time80 : Int) - s.fsExpected → s.fsWindow < off.natAbs → s.fs.strays.length = 3 →
        (agree s.fsWindow (off :: s.fs.strays) = true → Does (.frameSyncEdge (s.flag R.SLU_FS_CTL_EDGE)) s fun t =>
          Counted s t R.SLU_FS_STRAY ∧ Counted s t R.SLU_FS_EDGES ∧ t.fsState = fsLOCKED ∧ t.event 0x150 3 = true ∧
          t.fget R.SLU_FS_COUNT_COUNT = (s.fget R.SLU_FS_COUNT_COUNT + 1) % 2 ^ 32 ∧ t.vault = s.vault) ∧
        (agree s.fsWindow (off :: s.fs.strays) = false → Does (.frameSyncEdge (s.flag R.SLU_FS_CTL_EDGE)) s fun t =>
          Counted s t R.SLU_FS_STRAY ∧ t.regs = s.regs ∧ t.vault = s.vault)) ∧
      ((s.fsState < 2 ∨ s.time80 ≤ s.fsExpected + s.fsWindow) → exec .frameSyncMissing s = .next s) ∧
      (s.fs.quiet < 16 → exec .frameSyncLost s = .next s) ∧
      exec (.frameSyncEdge (!s.flag R.SLU_FS_CTL_EDGE)) s = .next s ∧
      (2 ≤ s.fsState → s.fsExpected + s.fsWindow < s.time80 → Does .frameSyncMissing s fun t => t.fsState = fsFLYWHEEL ∧
        t.event 0x150 2 = true ∧ t.fs.quiet = s.fs.quiet + 1 ∧
        (s.fget R.SLU_FS_CTL_POLICY = 1 → t.fget R.SLU_FS_COUNT_COUNT = (s.fget R.SLU_FS_COUNT_COUNT + 1) % 2 ^ 32 ∧
          Counted s t R.SLU_FS_FLYWHEEL) ∧
        (s.fget R.SLU_FS_CTL_POLICY ≠ 1 → t.fget R.SLU_FS_COUNT_COUNT = s.fget R.SLU_FS_COUNT_COUNT) ∧ t.vault = s.vault) ∧
      (16 ≤ s.fs.quiet → Does .frameSyncLost s fun t => t.fsState = fsNONE ∧ t.reg R.SLU_FS_PERIOD = s.reg R.SLU_FS_PERIOD ∧
        t.fs.intervals = s.fs.intervals ∧ t.fs.quiet = 0 ∧
        (s.fget R.SLU_TB_CTL_SRC = srcFRAME → t.fget R.SLU_TB_STS_STATE = tbHOLDOVER) ∧ t.vault = s.vault)) ∧
  (∀ (s : State) (l x t2 t3 : Nat), l < 8 → s.linkUp l = false →
      exec (.tsyncRequestSend l) s = .next s ∧ exec (.tsyncReqReceive ⟨l, x⟩) s = .next s ∧
      exec (.tsyncFupReceive l x t2 t3) s = .next s) ∧
  (∀ (s : State) (l : Nat), l < 8 → s.alive = true → s.linkUp l = true →
      ((s.fget R.SLU_TB_CTL_SRC ≠ srcFABRIC ∨ s.refLink.any (fun x => x.1 == l) = false ∨
          s.now < (s.link l).tsAt + s.fget (R.MFL_TSYNC_CTL_PERIOD_US l) * 1250) → exec (.tsyncRequestSend l) s = .next s) ∧
      (∀ x t2 t3, (s.link l).ts1 = none → exec (.tsyncFupReceive l x t2 t3) s = .next s) ∧
      (s.fget R.SLU_TB_CTL_SRC = srcFABRIC → s.refLink.any (fun x => x.1 == l) = true →
        (s.link l).tsAt + s.fget (R.MFL_TSYNC_CTL_PERIOD_US l) * 1250 ≤ s.now → Does (.tsyncRequestSend l) s fun t =>
          (t.link l).ts1 = some s.ns ∧ (t.link l).tsN = ((s.link l).tsN + 1) % 64 ∧ (t.link l).tsAt = s.now ∧
          ((s.link l).ts1.isSome = true → Counted s t (R.MFL_TSYNC_DISCARD l)) ∧ t.regs = s.regs ∧ t.vault = s.vault) ∧
      (∀ x, x < 64 → Does (.tsyncReqReceive ⟨l, x⟩) s fun t => t.answer = .words [BitVec.ofNat 32 (s.tsArrival l),
          BitVec.ofNat 32 (s.tsArrival l / 2 ^ 32 % 2 ^ 16), BitVec.ofNat 32 s.ns, BitVec.ofNat 32 (s.ns / 2 ^ 32 % 2 ^ 16)] ∧
        (t.link l).ctl = (s.link l).ctl ++ [ctlTsync 1 x (s.tsArrival l), ctlTsync 2 x s.ns] ∧ t.regs = s.regs ∧
        t.vault = s.vault) ∧
      (∀ x t2 t3 t1, (s.link l).ts1 = some t1 → ∀ a, a = (s.widen t2 : Int) - t1 → ∀ b, b = (s.tsArrival l : Int) - s.widen t3 →
        (x % 64 = (s.link l).tsN → a + b ≤ 2 * ((s.fget ⟨R.MFL_RTT l, 15, 0⟩ : Int) + 8) → Does (.tsyncFupReceive l x t2 t3) s fun t =>
          t.fget (R.MFL_TSYNC_STS_OFFSET l) = satSigned 16 ((a - b).tdiv 2) ∧
          t.fget (R.MFL_TSYNC_STS_DELAY l) = min ((a + b) / 2).toNat 65535 ∧ (t.link l).ts1 = none ∧ t.vault = s.vault) ∧
        (x % 64 = (s.link l).tsN → 2 * ((s.fget ⟨R.MFL_RTT l, 15, 0⟩ : Int) + 8) < a + b → Does (.tsyncFupReceive l x t2 t3) s fun t =>
          Counted s t (R.MFL_TSYNC_DISCARD l) ∧ (t.link l).ts1 = none ∧ t.regs = s.regs ∧ t.vault = s.vault) ∧
        (x % 64 ≠ (s.link l).tsN → exec (.tsyncFupReceive l x t2 t3) s = .next s)))

/-! ### The flume engines (chapter 7) -/

/-- DOORBELL, RING_ENABLE, RING_DISABLE and RING_RESUME (R154, R156): a doorbell within the ring's size sets PROD, one beyond
it is refused and counted, and none has an effect while EN reads 0; enabling clears PROD and DONE; disabling takes effect at
once, or once the current descriptor has finished; a resume leaves HALTED and is ignored in other states. DESCRIPTOR_FETCH
(R154, R155): the next descriptor of a ring that is served, fewer than eight being fetched ahead, is read from BASE + 64 × (n
mod size) as 64 bytes in TC0, unless the reorder buffer, the weir or a pool holds the read back; a fetch that is refused leaves the descriptor to
end with RECORD_FAILED (log entry 20). -/
def Obligations.RingsAndFetches : Prop :=
  (∀ (s : State) (i q : Nat), i < 512 → q < 4 → s.alive = true →
      (∀ v : W32, (s.qEnabled i q = false → exec (.doorbell i q v) s = .next s) ∧
        (s.qEnabled i q = true → s.instState i ≠ iRESETTING →
          ((v.toNat + 2 ^ 32 - s.qreg i q qDONE) % 2 ^ 32 ≤ s.qSize i q → Does (.doorbell i q v) s fun t =>
            t.qreg i q qPROD = v.toNat ∧ t.qreg i q qDONE = s.qreg i q qDONE ∧ (t.ring i q).runs = (s.ring i q).runs ∧
            ((s.ring i q).ahead = [] → t.regs = s.regs ∧ t.ctrs = s.ctrs) ∧ KeepsRegs s t [R.ENG_STS (s.engineOf i q)] ∧
            t.vault = s.vault) ∧
          (s.qSize i q < (v.toNat + 2 ^ 32 - s.qreg i q qDONE) % 2 ^ 32 → Does (.doorbell i q v) s fun t =>
            t.qreg i q qPROD = s.qreg i q qPROD ∧
            bits (t.qreg i q qSTS) 31 24 = min (bits (s.qreg i q qSTS) 31 24 + 1) 255 ∧
            (s.bound i q = true → Counted s t (R.ENG_DB_REFUSED (s.engineOf i q))) ∧ t.regs = s.regs ∧ t.vault = s.vault)) ∧
        (s.instState i = iRESETTING → exec (.doorbell i q v) s = .next s)) ∧
      (s.qEnabled i q = false → Does (.ringEnable i q) s fun t => t.qEnabled i q = true ∧ t.qreg i q qPROD = 0 ∧
        t.qreg i q qDONE = 0 ∧ bits (t.qreg i q qSTS) 31 24 = 0 ∧ (t.ring i q).runs = [] ∧ t.regs = s.regs ∧ t.vault = s.vault) ∧
      (s.qEnabled i q = true → exec (.ringEnable i q) s = .next s) ∧
      (s.qEnabled i q = false → exec (.ringDisable i q) s = .next s) ∧
      (s.qEnabled i q = true →
        ((s.ring i q).runs = [] → Does (.ringDisable i q) s fun t => t.qEnabled i q = false ∧ (t.ring i q).fetched = [] ∧
          KeepsRegs s t [R.ENG_STS (s.engineOf i q)] ∧ t.vault = s.vault) ∧
        ((s.ring i q).runs ≠ [] → Does (.ringDisable i q) s fun t => t.qEnabled i q = true ∧ (t.ring i q).disabling = true ∧
          (t.ring i q).runs = (s.ring i q).runs ∧ t.regs = s.regs ∧ t.vault = s.vault)) ∧
      (s.halted i q = true → Does (.ringResume i q) s fun t => t.halted i q = false ∧ t.rings = s.rings ∧ t.regs = s.regs ∧
        t.vault = s.vault) ∧
      (s.halted i q = false → exec (.ringResume i q) s = .next s)) ∧
  (∀ (s : State) (i q : Nat), i < 512 → q < 4 → ∀ n, n = (s.qreg i q qDONE + s.taken i q) % 2 ^ 32 →
      ∀ due : Bool, due = (s.ringServed i q && decide ((s.ring i q).fetched.length + s.fetching i q < 8) &&
        decide (s.taken i q < s.outstanding i q) && decide (s.rbBytes (s.engineOf i q) + 64 ≤ 262144)) →
      ∀ read, read = s.engineRead (s.engineOf i q) i q 0 (BitVec.ofNat 64 (s.qaddr i q qBASE + 64 * (n % s.qSize i q))) 64
        (.fetch n) .access false →
      (due = true → ∀ u x, read = some (u, x) →
        (∀ w e fid f l m, x = .ok w e fid f l m → exec (.descriptorFetch i q) s = .next u) ∧
        (∀ st w, x = .failed st w → exec (.descriptorFetch i q) s = .next (u.fetchedOne i q n 0 stRECORD_FAILED))) ∧
      ((due = false ∨ read = none) → exec (.descriptorFetch i q) s = .next s))

/-- CONTEXT_GRANT (R157, R162, R168): a free context goes to the next ring of the rotating pointer; its fetched descriptor is
the ring's last started one, ended at once with the status of a bad fetch, with BAD_DESC when it breaks a condition of R162, or
with the status its run-ahead reads met, and current otherwise. TIMED descriptors (R175, R176): the instant of TIME is T + FRAC,
that of FRAME the last capture plus OFFSET where K is the count, and unsettled while K is later; granted with its instant not
passed, the ring is held until TIMED_RELEASE, which releases it at or after its instant and not before; one whose instant, or
whose K, has passed is released late at once. Without a free context or a ring to start, and without a held descriptor whose
instant is settled, nothing happens. -/
def Obligations.GrantsAndTimes : Prop :=
  (∀ (s : State) (e : Nat), e < 16 →
      ((8 ≤ s.contexts e ∨ s.nextRing e (s.eng e).ctxPtr s.canStart = none) → exec (.contextGrant e) s = .next s) ∧
      (s.contexts e < 8 → ∀ k, s.nextRing e (s.eng e).ctxPtr s.canStart = some k →
        ∀ r, r = s.ring (k / 4) (k % 4) → ∀ n raw st rest, r.fetched = (n, raw, st) :: rest →
        ∀ early, early = ((r.ahead.find? fun d => d.n == n).bind fun d => d.status) →
        ((st ≠ 0 ∨ badDesc raw = true ∨ early ≠ none ∨ dOpcode raw ≠ opTIMED) → Does (.contextGrant e) s fun t =>
          (t.eng e).ctxPtr = k ∧ (t.ring (k / 4) (k % 4)).fetched = rest ∧
          (∃ d, (t.ring (k / 4) (k % 4)).runs = r.runs ++ [d] ∧ d.n = n ∧
            d.status = (if st ≠ 0 then some st else if badDesc raw = true then some stBAD_DESC else early) ∧
            d.current = d.status.isNone) ∧ t.regs = s.regs ∧ t.vault = s.vault) ∧
        (st = 0 → badDesc raw = false → early = none → dOpcode raw = opTIMED →
          ∀ frac, frac = bits (dOpx0 raw) 15 0 →
          ∀ later, later = (bits (dSrc raw) 31 0 + 2 ^ 32 - s.fget R.SLU_FS_COUNT_COUNT) % 2 ^ 32 →
          ∀ x, x = (if bit (dOpx0 raw) 16 = false then some (dSrc raw * 65536 + frac)
            else if later = 0 then some (s.fs.last.elim 0 (·.toNat) + bits (dSrc raw) 61 32 * 65536 + frac)
            else if later < 2 ^ 31 then none else some 0) →
          ∀ passed, passed = (x.any fun y => decide (y < s.time80) || (bit (dOpx0 raw) 16 && decide (2 ^ 31 ≤ later))) →
          Does (.contextGrant e) s fun t => (t.eng e).ctxPtr = k ∧ (t.ring (k / 4) (k % 4)).fetched = rest ∧
            (∃ d ∈ (t.ring (k / 4) (k % 4)).runs, d.n = n ∧ d.instant = x ∧ (passed = false → d.status = none ∧ d.current = true) ∧
              (passed = true → d.status = some stOK ∧ d.current = false ∧ d.late = true)) ∧ t.regs = s.regs ∧ t.vault = s.vault))) ∧
  (∀ (s : State) (i q : Nat), i < 512 → q < 4 →
      ∀ held, held = ((s.ring i q).runs.find? fun d => d.current && d.status.isNone && d.opcode == opTIMED) →
      (∀ d, held = some d → ∀ t0, d.instant = some t0 →
        (t0 ≤ s.time80 → Does (.timedRelease i q) s fun t => (∃ x ∈ (t.ring i q).runs, x.n = d.n ∧
          x.status = some stOK ∧ x.released = some s.ns ∧ x.late = false) ∧ t.regs = s.regs ∧ t.vault = s.vault) ∧
        (s.time80 < t0 → exec (.timedRelease i q) s = .next s)) ∧
      ((held.bind fun d => d.instant) = none → exec (.timedRelease i q) s = .next s))

/-- SOURCE_READ_ISSUE and ENGINE_WRITE_ISSUE (R157, R159, R166, R177): the next ring of the rotating pointer reads the next
piece of its current descriptor's source once tag, buffer, reservation and weir allow; the next busy context takes up to 256
source bytes of a CHECK into its CRC, or moves the next 256 bytes of its destination stream, a piece whose bytes have all come
being written; a write that cannot go ends its descriptor with its status. ENGINE_COMPLETION (R178, R290, R293): a
completion whose tag is not outstanding is dropped and counted; the last one of a source read retires its tag, and its bytes
are held for the descriptor, poisoned where they arrived so, where their furrow word did not verify or where the reorder buffer
met an uncorrectable error; a furrow word that does not fit is stated with no escalation threshold (R298). -/
def Obligations.EngineWork : Prop :=
  (∀ (s : State) (e k : Nat), e < 16 →
      (s.fget (R.ENG_STS_STATE e) < 3 →
        (s.nextRing e (s.eng e).readPtr fun i q => (s.nextRead e i q).isSome) = some k →
        ∀ y, s.nextRead e (k / 4) (k % 4) = some y → ∀ n raw off, y = .source n raw off →
        s.rbBytes e + (srcPiece raw (s.fget (R.ENG_SIZE_MAX_RD_LOG2 e)) off).2 ≤ 262144 →
        ∀ u x, (s.modEng e fun y => { y with readPtr := k }).engineRead e (k / 4) (k % 4) (dRdTc raw)
          (BitVec.ofNat 64 (srcPiece raw (s.fget (R.ENG_SIZE_MAX_RD_LOG2 e)) off).1) (srcPiece raw (s.fget (R.ENG_SIZE_MAX_RD_LOG2 e)) off).2
          (.source n off) .source false = some (u, x) → ∀ w eg fid f l m, x = .ok w eg fid f l m →
        exec (.sourceReadIssue e) s = .next ((u.modRun (k / 4) (k % 4) n fun d =>
          { d with readPos := off + (srcPiece raw (s.fget (R.ENG_SIZE_MAX_RD_LOG2 e)) off).2 }).release (k / 4) (k % 4) n)) ∧
      ((s.nextRing e (s.eng e).turnPtr fun i q => (s.turnRun e i q).isSome) = some k →
        ∀ u, u = (s.modEng e fun x => { x with turnPtr := k }).settleImplicit (k / 4) (k % 4) → ∀ d, u.turnRun e (k / 4) (k % 4) = some d →
        (∀ bs p, readyCheck d = some (bs, p) → Does (.engineWriteIssue e) s fun t => ∃ x ∈ (t.ring (k / 4) (k % 4)).runs,
          x.n = d.n ∧ x.crc = crcRun d.crc bs ∧ x.pos = d.pos + bs.length ∧ t.regs = u.regs ∧ t.vault = s.vault) ∧
        (readyCheck d = none → ∀ n, u.readyCell e d 256 = some n →
          (n = 256 → (u.readyWrite e d = none ∨ ∃ w, u.readyWrite e d = some w ∧ d.moved + n < w.2.1.length) →
            exec (.engineWriteIssue e) s = .next (u.modRun (k / 4) (k % 4) d.n fun x => { x with moved := x.moved + n })) ∧
          ∀ a bs p, u.readyWrite e d = some (a, bs, p) → bs.length ≤ d.moved + n → ∀ v x, u.engineSend e (k / 4)
            { kind := .memWrite, tc := Fin.ofNat 8 (dWrTc d.raw), addr := BitVec.ofNat 64 a, len := bs.length, data := bs, poison := p }
            (if d.opcode = opMCOPY then .mdest else .dest) none
            = some (v, x) →
          (∀ w eg fid f l m, x = .ok w eg fid f l m → v.alive = true → Does (.engineWriteIssue e) s fun t =>
            min (v.ctr (R.ENG_BYTES_WR e) + bs.length) counterMax ≤ t.ctr (R.ENG_BYTES_WR e) ∧
            (n = 256 → t.ctr (R.ENG_BYTES_WR e) = min (v.ctr (R.ENG_BYTES_WR e) + bs.length) counterMax)) ∧
          (∀ st w, x = .failed st w → exec (.engineWriteIssue e) s = .next (v.endDesc (k / 4) (k % 4) d.n st (errResult w 1)))))) ∧
  (∀ (s : State) (e : Nat) (rb : Bool), e < 16 → s.alive = true → ∀ c dv rest, (s.eng e).inbox = (c, dv) :: rest →
      (dv.bad = true → s.fget R.ERR_ESC_PORT_THR = 0) →
      ((s.engTags.find? fun t => t.engine == e && t.reqId == c.reqId && t.tag == c.tag) = none → Does (.engineCompletion e rb) s fun t =>
        Counted s t (R.ENG_LATE_CPL e) ∧ (t.eng e).inbox = rest ∧ t.rings = s.rings ∧ t.regs = s.regs ∧ t.vault = s.vault) ∧
      (∀ x, (s.engTags.find? fun t => t.engine == e && t.reqId == c.reqId && t.tag == c.tag) = some x →
        ∀ n off, x.why = .source n off → x.discard = false → c.status = .sc → c.last = true → Does (.engineCompletion e rb) s fun t =>
          t.engTags = s.engTags.filter (fun y => y.id != x.id) ∧ (t.eng e).inbox = rest ∧
          t.ctr (R.ENG_BYTES_RD x.engine) = min (s.ctr (R.ENG_BYTES_RD x.engine) + c.data.length) counterMax ∧
          (∀ d ∈ (s.ring x.inst x.ring).runs, d.n = n → d.status = none → ∃ d' ∈ (t.ring x.inst x.ring).runs, d'.n = n ∧
            d'.segs = d.segs ++ [{ off := off + x.got, data := c.data,
                                   poison := c.poison || ((dv.bad || rb) && !c.data.isEmpty) }]) ∧ t.vault = s.vault))

/-- DESCRIPTOR_FINISH (R158, R163, R164, R169, R170, R200): an implicit fence that is over is settled first; the first
descriptor of the ring then finishes when it can. One that asks for no record leaves its ring with DONE advanced and is counted;
one with a record ends once its record has been sent, waits while nothing may be issued or the engine, a pool or the weir holds
the record back, and ends RECORD_FAILED where it is refused; one that halts its ring without a record leaves it HALTED, or
disabled where that waited for it, with its index and status. MSIX_PENDING_SEND (R192): a pending message that may be sent is
sent by the engine of the ring that set its bit, and the bit is cleared; otherwise it stays pending. -/
def Obligations.DescriptorEnds : Prop :=
  (∀ (s : State) (i q : Nat), i < 512 → q < 4 → s.alive = true → ∀ e, e = s.engineOf i q → ∀ u, u = s.settleImplicit i q →
      ((u.ring i q).runs = [] → exec (.descriptorFinish i q) s = .next u) ∧
      ∀ d ds, (u.ring i q).runs = d :: ds →
      (u.finishStatus i q d = none → exec (.descriptorFinish i q) s = .next u) ∧
      ∀ st, u.finishStatus i q d = some st →
      ∀ halts : Bool, halts = decide (0x10 ≤ st) →
      ∀ wants : Bool, wants = (if halts then !noRecord st && s.mayIssue i else dCmpl d.raw) →
      (halts = false → wants = false → Does (.descriptorFinish i q) s fun t =>
        t.qreg i q qDONE = (s.qreg i q qDONE + 1) % 2 ^ 32 ∧ Counted s t (R.ENG_DESC_DONE e) ∧
        (t.ring i q).runs = (d :: ds).filter (fun x => x.n != d.n) ∧
        (d.opcode = opFENCE → (u.ring i q).implicit = none → (t.ring i q).dest = []) ∧ t.vault = s.vault) ∧
      (halts = true → st < 256 → wants = false → Does (.descriptorFinish i q) s fun t =>
          (t.halted i q = true ∨ ((u.ring i q).disabling = true ∧ t.qEnabled i q = false)) ∧ bits (t.qreg i q qSTS) 15 8 = st ∧
          t.qreg i q qHALT_IDX = d.n % 2 ^ 32 ∧ t.qreg i q qDONE = (s.qreg i q qDONE + 1) % 2 ^ 32 ∧
          Counted s t (R.ENG_HALTS e) ∧ t.event (0x200 + e) 0 = true ∧ t.vault = s.vault) ∧
      ∀ sent, sent = u.engineSend e i (u.recordTlp i q st d) .access none →
      (wants = true → (s.mayIssue i = false ∨ sent = none) → exec (.descriptorFinish i q) s = .next u) ∧
      (wants = true → s.mayIssue i = true → ∀ v x, sent = some (v, x) →
        (∀ w eg fid f l m, x = .ok w eg fid f l m → exec (.descriptorFinish i q) s =
          .next (if halts then v.finishHalt i q st d else v.finishGood i q st d)) ∧
        (∀ c w, x = .failed c w → exec (.descriptorFinish i q) s =
          .next (v.finishHalt i q stRECORD_FAILED { d with result := errResult w 2 })))) ∧
  (∀ (s : State) (i v : Nat), i < 512 → v < 8 → ∀ q, q = storeGet 0 s.pbaRing (8 * i + v) →
      ∀ may : Bool, may = (bit (s.bar (Fn.inst i).num 0x9000).toNat v && s.msixMay i v && s.instPresent i && s.bound i q) →
      ∀ m : Tlp, m = {
        kind := .memWrite, tc := Fin.ofNat 8 (s.qTc i q), len := 4,
        addr := BitVec.ofNat 64 ((s.bar (Fn.inst i).num (0x8000 + 16 * v)).toNat + (s.bar (Fn.inst i).num (0x8000 + 16 * v + 4)).toNat * 2 ^ 32),
        data := leBytes 4 (s.bar (Fn.inst i).num (0x8000 + 16 * v + 8)).toNat } →
      ∀ sent, sent = s.engineSend (s.engineOf i q) i m .access none →
      (may = true → ∀ u x, sent = some (u, x) →
        Does (.msixPendingSend i v) s fun t => bit (t.bar (Fn.inst i).num 0x9000).toNat v = false ∧ t.regs = u.regs ∧ t.vault = s.vault) ∧
      ((may = false ∨ sent = none) → exec (.msixPendingSend i v) s = .next s))

/-- ENG_CTO_EXPIRY, ENG_CTO_RECOV_EXPIRY and RESET_TAG_TIMEOUT (R181, R182, R183, R198, R308): a read not answered in time
retires its tag. In normal service its bytes become poisoned zeros, and a fetch ends FETCH_POISON, each counted with event 2;
a fence notes a failure; what is to be discarded only retires. In the recovery class a read is counted with event 3, a fetch
ends CTO and so does the descriptor of a source read, run-ahead or started. One left over by an abort retires after
ENG_CTO_RECOV, and is counted apart while the engine is ABORTING. While the function is reset, its tags retire 10 ms after the
reset began, and count as completion timeouts in an FLR. None of the three has an effect before its time or on a read of
another class. ENGINE_ABORT, ENGINE_STOPPED and ENGINE_RESTART (R157, R183, R184, R297, R426): an abort puts the engine in
ABORTING and ends the current descriptor of each ring bound to it with ABORTED, but not a FENCE that has issued its last read;
it is STOPPED once no tag is outstanding, with event 4, or IDLE again after a PORT action; a restart returns a STOPPED engine
that passed its self-test to IDLE. -/
def Obligations.TimeoutsAndAborts : Prop :=
  (∀ (s : State) (x : EngTag), s.alive = true → (s.engTags.find? fun t => t.id == x.id) = some x → x.engine < 16 →
      ∀ fill recov reset : Bool,
      fill = (!x.recovery && !x.stopped && s.instState x.inst != iRESETTING
        && decide (x.issued + 1250000 * s.fget (R.ENG_CTO_MS x.engine) ≤ s.now)) →
      recov = ((x.stopped || (x.recovery && s.instState x.inst != iRESETTING))
        && decide (x.issued + 1250 * s.fget (R.ENG_CTO_RECOV_US x.engine) ≤ s.now)) →
      reset = (s.instState x.inst == iRESETTING && decide ((s.inst x.inst).resetStart + 12500000 ≤ s.now)) →
      (fill = true → Does (.engCtoExpiry x.id) s fun t => t.engTags = s.engTags.filter (fun y => y.id != x.id) ∧
          (x.discard = true → t.regs = s.regs ∧ t.rings = s.rings ∧ t.ctrs = s.ctrs) ∧
          (x.discard = false → ∀ n off, x.why = .source n off →
            Counted s t (R.ENG_POISON_FILL x.engine) ∧ t.event (0x200 + x.engine) 2 = true ∧
            ∀ d ∈ (s.ring x.inst x.ring).runs ++ (s.ring x.inst x.ring).ahead, d.n = n → d.status = none →
              ∃ d' ∈ (t.ring x.inst x.ring).runs ++ (t.ring x.inst x.ring).ahead, d'.n = n ∧ d'.filled = true ∧
                d'.segs = d.segs ++ [{ off := off + x.got, data := List.replicate (x.len - x.got) 0, poison := true }]) ∧
          (x.discard = false → ∀ n, x.why = .fetch n → Counted s t (R.ENG_POISON_FILL x.engine) ∧
            t.event (0x200 + x.engine) 2 = true ∧ (n, 0, stFETCH_POISON) ∈ (t.ring x.inst x.ring).fetched) ∧
          (x.discard = false → ∀ n, x.why = .fence n → t.regs = s.regs ∧ ∀ d ∈ (s.ring x.inst x.ring).runs, d.n = n →
            ∀ f, d.fence = some f → ∃ d' ∈ (t.ring x.inst x.ring).runs, d'.n = n ∧
              d'.fence = some { f with outstanding := f.outstanding - 1, failed := true }) ∧
          t.vault = s.vault) ∧
      (fill = false → exec (.engCtoExpiry x.id) s = .next s) ∧
      (recov = true → x.stopped = true → Does (.engCtoRecovExpiry x.id) s fun t =>
        t.engTags = s.engTags.filter (fun y => y.id != x.id) ∧
        (s.fget (R.ENG_STS_STATE x.engine) = 2 → Counted s t (R.ENG_ABORT_TMO x.engine)) ∧
        (s.fget (R.ENG_STS_STATE x.engine) ≠ 2 → t.ctrs = s.ctrs) ∧ t.rings = s.rings ∧ t.regs = s.regs ∧ t.vault = s.vault) ∧
      (recov = true → x.stopped = false → Does (.engCtoRecovExpiry x.id) s fun t =>
        (∀ y ∈ t.engTags, y.id ≠ x.id) ∧ Counted s t (R.ENG_CTO_HALT x.engine) ∧ t.event (0x200 + x.engine) 3 = true ∧
        (x.discard = false → ∀ n off, x.why = .source n off →
          ((s.ring x.inst x.ring).ahead.any fun d => d.n == n) = false →
          ∀ d ∈ (s.ring x.inst x.ring).runs, d.n = n → d.status = none → ∃ d' ∈ (t.ring x.inst x.ring).runs,
            d'.n = n ∧ d'.status = some stCTO ∧ d'.current = false) ∧
        (x.discard = false → ∀ n off, x.why = .source n off → ∀ d ∈ (s.ring x.inst x.ring).ahead, d.n = n →
          ∃ d' ∈ (t.ring x.inst x.ring).ahead, d'.n = n ∧ d'.status = some stCTO) ∧
        (x.discard = false → ∀ n, x.why = .fetch n → (n, 0, stCTO) ∈ (t.ring x.inst x.ring).fetched) ∧
        t.vault = s.vault) ∧
      (recov = false → exec (.engCtoRecovExpiry x.id) s = .next s) ∧
      (reset = true → Does (.resetTagTimeout x.id) s fun t =>
        t.engTags = s.engTags.filter (fun y => y.id != x.id) ∧
        ((s.inst x.inst).byFlr = true → Counted s t (R.ENG_CTO_HALT x.engine)) ∧
        ((s.inst x.inst).byFlr = false → t.ctrs = s.ctrs) ∧ t.rings = s.rings ∧ t.regs = s.regs ∧ t.vault = s.vault) ∧
      (reset = false → exec (.resetTagTimeout x.id) s = .next s)) ∧
  (∀ (s : State) (e : Nat), e < 16 → s.alive = true →
      (Does (.engineAbort e) s fun t => t.fget (R.ENG_STS_STATE e) = 2 ∧
        (∀ k ∈ s.boundRings e, ∀ cur, cur = (s.ring (k / 4) (k % 4)).runs.find? (fun d => d.current && d.status.isNone
            && !(d.opcode == 7 && d.fence.any fun f => f.toRead.isEmpty)) →
          (cur = none → (t.ring (k / 4) (k % 4)).runs = (s.ring (k / 4) (k % 4)).runs) ∧
          (∀ d, cur = some d → ∃ x ∈ (t.ring (k / 4) (k % 4)).runs, x.n = d.n ∧ x.status = some stABORTED ∧ x.current = false) ∧
          (t.ring (k / 4) (k % 4)).ahead = []) ∧
        KeepsRegs s t [R.ENG_STS e] ∧ t.vault = s.vault) ∧
      (s.fget (R.ENG_STS_STATE e) = 2 → s.tagsOf e = [] → Does (.engineStopped e) s fun t =>
        t.fget (R.ENG_STS_STATE e) = (if (s.eng e).autoRestart then 0 else 3) ∧ (t.eng e).autoRestart = false ∧
        t.event (0x200 + e) 4 = true ∧ KeepsRegs s t [R.ENG_STS e] ∧ t.vault = s.vault) ∧
      (¬ (s.fget (R.ENG_STS_STATE e) = 2 ∧ s.tagsOf e = []) → exec (.engineStopped e) s = .next s) ∧
      (s.fget (R.ENG_STS_STATE e) = 3 → bit s.board.badEngines e = false →
        exec (.engineRestart e) s = .next (s.fset (R.ENG_STS_STATE e) 0)) ∧
      (¬ (s.fget (R.ENG_STS_STATE e) = 3 ∧ bit s.board.badEngines e = false) → exec (.engineRestart e) s = .next s))

/-! ### The virtual instances (chapter 8) -/

/-- A command of an instance that may not run now is refused with its cause and event 1, and leaves the instance as it is
(R196); for each command, the state named beside it. Commands of an instance that may run (R186, R196, R203): a NOP ends DONE;
CREATE and DESTROY are BUSY in SETUP, a destroyed function being gone; FREEZE is BUSY with the headgate closed and no run-ahead
data left; THAW, RECOVER and SERVE end DONE in their states. -/
def Obligations.CommandsToInstances : Prop :=
  (∀ (s : State) (i cause : Nat), i < 512 → s.alive = true →
      ∀ c ∈ [(Instr.instNop i, 0), (.create i, 1), (.destroy i, 2), (.freeze i, 3), (.save i, 4), (.restore i, 5), (.thaw i, 6),
             (.recover i, 7), (.serve i, 8)],
        s.cmdCause i c.2 = some cause → Does c.1 s fun t => t.fget (R.VIM_INST_STS_CMD_RESULT i) = 3 ∧
          t.fget (R.VIM_INST_STS_CAUSE i) = cause ∧ t.instState i = s.instState i ∧ t.event (vimPage i) 1 = true ∧
          t.inst i = { s.inst i with cmdAt := if c.2 = 0 then (s.inst i).cmdAt else s.now + 1 } ∧
          (∀ j, j ≠ i → t.inst j = s.inst j) ∧ t.rings = s.rings ∧ t.engTags = s.engTags ∧
          KeepsRegs s t [R.VIM_INST_STS i] ∧ t.vault = s.vault) ∧
  (∀ (s : State) (i : Nat), i < 512 → s.alive = true →
      (s.cmdCause i 0 = none → Does (.instNop i) s fun t => t.fget (R.VIM_INST_STS_CMD_RESULT i) = 2 ∧
        t.instState i = s.instState i ∧ t.event (vimPage i) 0 = true ∧ KeepsRegs s t [R.VIM_INST_STS i] ∧ t.vault = s.vault) ∧
      (s.cmdCause i 1 = none → Does (.create i) s fun t => t.fget (R.VIM_INST_STS_CMD_RESULT i) = 1 ∧ t.instState i = iSETUP ∧
        (t.inst i).cmd = 1 ∧ (t.inst i).cmdStart = s.now ∧ (∀ a, a ≠ R.VIM_INST_STS i → t.reg a = s.reg a) ∧ t.vault = s.vault) ∧
      (s.cmdCause i 2 = none → Does (.destroy i) s fun t => t.fget (R.VIM_INST_STS_CMD_RESULT i) = 1 ∧ t.instState i = iSETUP ∧
        (∀ off, off < 4096 → t.cfg (Fn.inst i).num off = cfgReset (Fn.inst i).num off) ∧ (∀ q, q < 4 → t.ring i q = {}) ∧
        (∀ a, a ≠ R.VIM_INST_STS i → t.reg a = s.reg a) ∧ t.vault = s.vault) ∧
      (s.cmdCause i 3 = none → Does (.freeze i) s fun t => t.fget (R.VIM_INST_STS_CMD_RESULT i) = 1 ∧ t.headgate i = false ∧
        (t.inst i).cmd = 3 ∧ (t.inst i).frozenFrom = s.instState i ∧ (∀ q, q < 4 → (t.ring i q).ahead = []) ∧
        t.instState i = s.instState i ∧ t.vault = s.vault) ∧
      (s.cmdCause i 6 = none → Does (.thaw i) s fun t => t.fget (R.VIM_INST_STS_CMD_RESULT i) = 2 ∧
        t.instState i = (if (s.inst i).fromRecovery then iRECOVERY else iACTIVE) ∧
        ((s.inst i).fromRecovery = false → t.flag (R.VIM_INST_CTL_HG_OPEN i) = true) ∧
        (∀ q, q < 4 → (t.ring i q).restored = false) ∧ t.event (vimPage i) 0 = true ∧
        KeepsRegs s t [R.VIM_INST_STS i, R.VIM_INST_CTL i] ∧ t.vault = s.vault) ∧
      ∀ c ∈ [(Instr.recover i, 7, iRECOVERY), (.serve i, 8, iACTIVE)], s.cmdCause i c.2.1 = none → Does c.1 s fun t =>
        t.fget (R.VIM_INST_STS_CMD_RESULT i) = 2 ∧ t.instState i = c.2.2 ∧ t.event (vimPage i) 0 = true ∧
        KeepsRegs s t [R.VIM_INST_STS i] ∧ t.vault = s.vault)

/-- SAVE and RESTORE (R205, R206): the record of 4,096 bytes goes to the manager's host in pieces, followed by the zero-length
read that closes it; a restore reads the record in pieces; the command is BUSY until the transfer ends. `opened` says that
the manager partition's upstream port can be reached: it is a local port that takes copies, or the route table gives a link
towards its device. Where it cannot, the transfer fails at once: the command is REFUSED with cause XFER, the instance stays
in its state (FREE for a restore) and nothing is read. -/
def Obligations.SaveAndRestore : Prop :=
  ∀ (s : State) (i : Nat), i < 512 → s.alive = true →
    ∀ way : Option Nat, way = (s.homeOf (s.fget (R.VIM_INST_OWNER_MGR_PART i))).bind (fun h => s.egressTo 88 h.1 h.2 0) →
    ∀ opened : Bool, opened = way.any (fun e => !s.shut e) →
    ∀ addr, addr = s.pair (R.VIM_INST_SAVE_LO i) (R.VIM_INST_SAVE_HI i) →
    (s.cmdCause i 4 = none → opened = true → ∀ u, u = s.cmdBusy i 4 → Does (.save i) s fun t =>
      t.fget (R.VIM_INST_STS_CMD_RESULT i) = 1 ∧
      (t.inst i).cmd = 4 ∧ (∃ r ∈ t.coreReads, r.why = .save i ∧ r.len = 0) ∧
      (∀ k, k < 32 → t.holdsWrite (BitVec.ofNat 64 (addr + 128 * k))
        (((u.saveBody i ++ leBytes 4 (crc32c (u.saveBody i)).toNat).drop (128 * k)).take 128)) ∧ t.vault = s.vault) ∧
    (s.cmdCause i 4 = none → opened = false → Does (.save i) s fun t => t.fget (R.VIM_INST_STS_CMD_RESULT i) = 3 ∧
      t.fget (R.VIM_INST_STS_CAUSE i) = ciXFER ∧ (t.inst i).cmd = 0 ∧ t.instState i = s.instState i ∧
      t.event (vimPage i) 1 = true ∧ t.coreReads = s.coreReads ∧ KeepsRegs s t [R.VIM_INST_STS i] ∧ t.vault = s.vault) ∧
    (s.cmdCause i 5 = none → opened = true → Does (.restore i) s fun t => t.fget (R.VIM_INST_STS_CMD_RESULT i) = 1 ∧
      t.instState i = iSETUP ∧
      (t.inst i).cmd = 5 ∧ (∀ k, k < 32 → ∃ r ∈ t.coreReads, r.why = .restore i (128 * k) ∧ r.len = 128) ∧ t.vault = s.vault) ∧
    (s.cmdCause i 5 = none → opened = false → Does (.restore i) s fun t => t.fget (R.VIM_INST_STS_CMD_RESULT i) = 3 ∧
      t.fget (R.VIM_INST_STS_CAUSE i) = ciXFER ∧ (t.inst i).cmd = 0 ∧ t.instState i = iFREE ∧
      t.event (vimPage i) 1 = true ∧ t.coreReads = s.coreReads ∧ KeepsRegs s t [R.VIM_INST_STS i] ∧ t.vault = s.vault)

/-- Commands of an instance that end (R186, R196, R203, R205, R206): CREATE_DONE leaves the function at its reset values in
RESET, DESTROY_DONE leaves FREE; FREEZE_DONE leaves FROZEN with an empty destination set, or refuses the FREEZE where a fence
failed; SAVE_DONE ends with its transfer; RESTORE_DONE leaves FROZEN, or FREE with the cause for which the record is refused,
XFER where a piece failed; the two timeouts refuse with XFER. Each has no effect while its command does not run or what it
waits for has not come, but that a closing read which has come is taken away. FORCE_RESET and FUNCTION_LEVEL_RESET (R198,
R199, R202): an instance that exists and is not
being reset is RESETTING with its headgate closed, its rings empty and what returns for it discarded; a doorbell of the same
core cycle is taken back, a command of that cycle is refused with STATE and one that runs with RESET; while RESETTING only a
FORCE_RESET in the cycle of the FLR counts, and makes it a FORCE_RESET. INSTANCE_RESET_DONE
leaves the function at its reset values but for Max_Payload_Size, in RESET, or in ACTIVE after an FLR with AUTO_OPEN, and
counts. -/
def Obligations.InstanceEnds : Prop :=
  (∀ (s : State) (i : Nat), i < 512 → s.alive = true →
      ((s.inst i).cmd = 1 → Does (.createDone i) s fun t => t.instState i = iRESET ∧ t.fget (R.VIM_INST_STS_CMD_RESULT i) = 2 ∧
        (∀ off, off < 4096 → t.cfg (Fn.inst i).num off = cfgReset (Fn.inst i).num off) ∧ (t.inst i).cmd = 0 ∧ t.vault = s.vault) ∧
      ((s.inst i).cmd = 2 → Does (.destroyDone i) s fun t => t.instState i = iFREE ∧ t.fget (R.VIM_INST_STS_CMD_RESULT i) = 2 ∧
        (t.inst i).cmd = 0 ∧ t.event (vimPage i) 0 = true ∧ KeepsRegs s t [R.VIM_INST_STS i] ∧ t.vault = s.vault) ∧
      ((s.inst i).cmd ≠ 1 → exec (.createDone i) s = .next s) ∧ ((s.inst i).cmd ≠ 2 → exec (.destroyDone i) s = .next s) ∧
      (((s.inst i).cmd ≠ 3 ∨ s.instTags i ≠ [] ∨ (upTo 4).any (fun q => ((s.ring i q).freeze.any s.fenceOver) == false) = true) →
        exec (.freezeDone i) s = .next s) ∧
      ((s.inst i).cmd = 3 → s.instTags i = [] → (∀ q, q < 4 → ∃ f, (s.ring i q).freeze = some f ∧ s.fenceOver f = true) →
        ((∀ q f, q < 4 → (s.ring i q).freeze = some f → f.failed = false) → Does (.freezeDone i) s fun t =>
          t.instState i = iFROZEN ∧ t.fget (R.VIM_INST_STS_CMD_RESULT i) = 2 ∧
          (∀ q, q < 4 → (t.ring i q).dest = [] ∧ (t.ring i q).freeze = none) ∧ t.vault = s.vault) ∧
        ((∃ q f, q < 4 ∧ (s.ring i q).freeze = some f ∧ f.failed = true) → Does (.freezeDone i) s fun t =>
          t.instState i = s.instState i ∧ t.fget (R.VIM_INST_STS_CMD_RESULT i) = 3 ∧ t.fget (R.VIM_INST_STS_CAUSE i) = ciXFER ∧
          t.flag (R.VIM_INST_CTL_HG_OPEN i) = false ∧ t.vault = s.vault)) ∧
      (∀ r, (s.inst i).cmd = 4 → (s.coreReads.find? fun r => r.why == .save i && r.done) = some r → Does (.saveDone i) s fun t =>
        t.fget (R.VIM_INST_STS_CMD_RESULT i) = (if r.failed then 3 else 2) ∧ (t.inst i).cmd = 0 ∧
        (∀ x ∈ t.coreReads, x.why ≠ .save i) ∧ KeepsRegs s t [R.VIM_INST_STS i] ∧ t.vault = s.vault) ∧
      ((s.inst i).cmd ≠ 4 → (s.coreReads.any fun r => r.why == .save i && r.done) = true →
        exec (.saveDone i) s = .next { s with coreReads := s.coreReads.filter fun x => x.why != .save i }) ∧
      ((s.coreReads.any fun r => r.why == .save i && r.done) = false → exec (.saveDone i) s = .next s) ∧
      (((s.inst i).cmd ≠ 4 ∨ s.now ≤ (s.inst i).cmdStart + 12500000) → exec (.saveXferTimeout i) s = .next s) ∧
      ((s.inst i).cmd = 4 → (s.inst i).cmdStart + 12500000 < s.now → Does (.saveXferTimeout i) s fun t =>
        t.fget (R.VIM_INST_STS_CMD_RESULT i) = 3 ∧ t.fget (R.VIM_INST_STS_CAUSE i) = ciXFER ∧ (t.inst i).cmd = 0 ∧
        KeepsRegs s t [R.VIM_INST_STS i] ∧ t.vault = s.vault) ∧
      ((s.inst i).cmd = 5 → s.restoreReads i ≠ [] → (∀ r ∈ s.restoreReads i, r.done = true ∧ r.failed = false) →
        (s.restoreCause i ((s.restoreReads i).flatMap (·.data)) = none → Does (.restoreDone i) s fun t => t.instState i = iFROZEN ∧
          t.fget (R.VIM_INST_STS_CMD_RESULT i) = 2 ∧ t.vault = s.vault) ∧
        (∀ c, s.restoreCause i ((s.restoreReads i).flatMap (·.data)) = some c → Does (.restoreDone i) s fun t =>
          t.instState i = iFREE ∧ t.fget (R.VIM_INST_STS_CMD_RESULT i) = 3 ∧ t.fget (R.VIM_INST_STS_CAUSE i) = c ∧
          KeepsRegs s t [R.VIM_INST_STS i] ∧ t.vault = s.vault)) ∧
      ((s.inst i).cmd = 5 → (s.restoreReads i).all (·.done) = true → (s.restoreReads i).any (·.failed) = true →
        Does (.restoreDone i) s fun t => t.instState i = iFREE ∧ t.fget (R.VIM_INST_STS_CMD_RESULT i) = 3 ∧
          t.fget (R.VIM_INST_STS_CAUSE i) = ciXFER ∧ t.restoreReads i = [] ∧ KeepsRegs s t [R.VIM_INST_STS i] ∧
          t.vault = s.vault) ∧
      (((s.inst i).cmd ≠ 5 ∨ s.restoreReads i = [] ∨ (s.restoreReads i).all (·.done) = false) →
        exec (.restoreDone i) s = .next s) ∧
      (((s.inst i).cmd ≠ 5 ∨ s.now ≤ (s.inst i).cmdStart + 12500000 ∨ (s.restoreReads i).all (·.done) = true) →
        exec (.restoreXferTimeout i) s = .next s) ∧
      ((s.inst i).cmd = 5 → (s.inst i).cmdStart + 12500000 < s.now → (∃ r ∈ s.restoreReads i, r.done = false) →
        Does (.restoreXferTimeout i) s fun t => t.instState i = iFREE ∧ t.fget (R.VIM_INST_STS_CMD_RESULT i) = 3 ∧
          t.fget (R.VIM_INST_STS_CAUSE i) = ciXFER ∧ t.restoreReads i = [] ∧ KeepsRegs s t [R.VIM_INST_STS i] ∧ t.vault = s.vault)) ∧
  (∀ (s : State) (i : Nat), i < 512 → s.alive = true →
      (s.instState i ∉ [iFREE, iSETUP, iRESETTING] → ∀ c ∈ [(Instr.forceReset i, false), (.functionLevelReset i, true)],
        Does c.1 s fun t => t.instState i = iRESETTING ∧ t.headgate i = false ∧ t.flag (R.VIM_INST_CTL_HG_OPEN i) = false ∧
          (∀ q, q < 4 → t.ring i q = {}) ∧ (∀ x ∈ t.engTags, x.inst = i → x.discard = true) ∧ (t.inst i).byFlr = c.2 ∧
          (t.inst i).resetStart = s.now ∧ (t.inst i).cmd = 0 ∧
          ((∀ q, q < 4 → (s.ring i q).rung.all (fun x => x.1 != s.now) = true) → (t.inst i).abandoned = s.unfinished i) ∧
          (∀ q, q < 4 → ∀ x, (s.ring i q).rung = some x → x.1 = s.now → t.qreg i q qPROD = x.2 % 2 ^ 32) ∧
          ((s.inst i).cmdAt = s.now + 1 → t.fget (R.VIM_INST_STS_CMD_RESULT i) = 3 ∧ t.fget (R.VIM_INST_STS_CAUSE i) = ciSTATE) ∧
          ((s.inst i).cmdAt ≠ s.now + 1 → (s.inst i).cmd ≠ 0 →
            t.fget (R.VIM_INST_STS_CMD_RESULT i) = 3 ∧ t.fget (R.VIM_INST_STS_CAUSE i) = ciRESET) ∧ t.vault = s.vault) ∧
      (s.instState i ∈ [iFREE, iSETUP] → ∀ c ∈ [Instr.forceReset i, .functionLevelReset i], exec c s = .next s) ∧
      (s.instState i = iRESETTING → exec (.functionLevelReset i) s = .next s ∧
        ∀ one : Bool, one = ((s.inst i).byFlr && (s.inst i).resetStart == s.now) →
          exec (.forceReset i) s = .next (if one then s.modInst i fun x => { x with byFlr := false } else s)) ∧
      (s.instState i = iRESETTING → s.instTags i = [] → Does (.instanceResetDone i) s fun t =>
        t.instState i = (if (s.inst i).byFlr = true ∧ s.flag (R.VIM_INST_CTL_AUTO_OPEN i) = true then iACTIVE else iRESET) ∧
        (∀ off, off < 4096 → off ≠ cDevCtl → t.cfg (Fn.inst i).num off = cfgReset (Fn.inst i).num off) ∧
        t.cfgBits (Fn.inst i).num cDevCtl 7 5 = s.cfgBits (Fn.inst i).num cDevCtl 7 5 ∧
        (∀ q, q < 4 → t.qEnabled i q = false ∧ t.qreg i q qPROD = 0 ∧ t.qreg i q qDONE = 0) ∧
        t.fget (R.VIM_INST_STS_ABANDONED i) = min (s.inst i).abandoned 65535 ∧ Counted s t (R.VIM_FORCED_RESETS i) ∧
        t.event (vimPage i) 2 = true ∧ t.vault = s.vault) ∧
      ((s.instState i ≠ iRESETTING ∨ s.instTags i ≠ []) → exec (.instanceResetDone i) s = .next s))

/-- HEADGATE_OPEN, HEADGATE_CLOSE and INSTANCE_IDLE (R195, R196, R197, R202): opening in RESET goes to ACTIVE, and the headgate
is open in ACTIVE and RECOVERY, in a mode other than DRAIN, with no FREEZE running; in RESETTING the write is lost; closing
closes it at once; a quiet instance that exists and is not IDLE becomes IDLE with event 3, and a FREEZE that waited for that
begins its fences. BME_CLEAR and POWER_STATE_D3HOT (R156, R190, R200, R201, R202): the shadow shows the change, descriptors
that have started stop, and their rings halt with BME_OFF, or are disabled where that waited for them; what still returns for
the instance is discarded. A function that is absent, is being reset, or shows the value already is left as it is. -/
def Obligations.InstanceIssue : Prop :=
  (∀ (s : State) (i : Nat), i < 512 → s.alive = true →
      (s.instState i = iRESETTING → exec (.headgateOpen i) s = .next s) ∧
      (s.instState i ≠ iRESETTING → Does (.headgateOpen i) s fun t =>
        t.headgate i = ([iRESET, iACTIVE, iRECOVERY].contains (s.instState i) && s.mode != mDRAIN && (s.inst i).cmd != 3) ∧
        t.flag (R.VIM_INST_CTL_HG_OPEN i) = true ∧
        t.flag (R.VIM_INST_STS_IDLE i) = (s.flag (R.VIM_INST_STS_IDLE i) && !t.headgate i) ∧
        t.instState i = (if s.instState i = iRESET then iACTIVE else s.instState i) ∧
        (∀ a, a ≠ R.VIM_INST_STS i → a ≠ R.VIM_INST_CTL i → t.reg a = s.reg a) ∧ t.vault = s.vault) ∧
      (Does (.headgateClose i) s fun t => t.headgate i = false ∧ t.flag (R.VIM_INST_CTL_HG_OPEN i) = false ∧
        t.instState i = s.instState i ∧ (∀ a, a ≠ R.VIM_INST_STS i → a ≠ R.VIM_INST_CTL i → t.reg a = s.reg a) ∧ t.vault = s.vault) ∧
      (s.instState i ≠ iFREE → s.flag (R.VIM_INST_STS_IDLE i) = false → s.instQuiet i = true → Does (.instanceIdle i) s fun t =>
        t.flag (R.VIM_INST_STS_IDLE i) = true ∧ t.event (vimPage i) 3 = true ∧ KeepsRegs s t [R.VIM_INST_STS i] ∧
        ((s.inst i).cmd = 3 → ∀ q, q < 4 → (t.ring i q).freeze.isSome = true ∨ ∃ k, k < 4 ∧ (s.ring i k).freeze.isSome = true) ∧
        t.vault = s.vault) ∧
      ((s.instState i = iFREE ∨ s.flag (R.VIM_INST_STS_IDLE i) = true ∨ s.instQuiet i = false) →
        exec (.instanceIdle i) s = .next s)) ∧
  (∀ (s : State) (i : Nat), i < 512 → s.alive = true →
      ∀ c ∈ [(Instr.bmeClear i, false), (.powerStateD3hot i, true)],
      ∀ acts : Bool, acts = (s.instPresent i && s.instState i != iRESETTING &&
        if c.2 then !s.d3hot (Fn.inst i).num else s.busMaster (Fn.inst i).num) →
        (acts = false → exec c.1 s = .next s) ∧
        (acts = true → Does c.1 s fun t => (c.2 = false → t.busMaster (Fn.inst i).num = false) ∧
          (c.2 = true → t.d3hot (Fn.inst i).num = true ∧ t.flag (R.VIM_INST_STS_D3HOT i) = true) ∧
          (∀ x ∈ t.engTags, x.inst = i → x.discard = true) ∧
          (∀ q, q < 4 → (t.ring i q).runs = [] ∧ (t.ring i q).fetched = [] ∧
            ((s.ring i q).runs ≠ [] → t.halted i q = !(s.ring i q).disabling ∧ bits (t.qreg i q qSTS) 15 8 = stBME_OFF ∧
              t.qreg i q qDONE = (s.qreg i q qDONE + (s.ring i q).runs.length) % 2 ^ 32 ∧
              ((s.ring i q).disabling = true → t.qEnabled i q = false))) ∧ t.vault = s.vault))

/-! ### The Moaben links (chapter 10) -/

/-- Training of a link (R232, R233, R249, R251, R257, R258): in DETECT a forwarded clock starts the hunt of an enabled link
that no test holds; a lane that finds no boundary counts its hunts, one that locks is noted; with all nine locked, at least two
that pass deskew lead from ALIGN to TRAIN, fewer back to DETECT, and a link that retrains or changes takes the lanes anew. A HELLO
of one's own fabric ID makes a link in TRAIN a STRANGER with cause DUP_FID, another one is taken, and outside TRAIN one of
another fabric ID than before takes the link down; the ECHO gives the round trip, and with both, on lanes that allow a width, AUTH
follows; 10 ms in TRAIN, or fewer than two locked lanes in ALIGN, lead back to DETECT. ENABLE brings a
DISABLED link that passed calibration to DETECT; clearing it disables the link, and takes one in service down.
Retrains and changes of a running
link (R247, R252, R253, R254): RETRAIN takes an UP link to RETRAIN, and one of which only VC4 is open back to DETECT; once lanes
and HELLO are back it is UP with its replay
kept, or in CHANGE where a change waited, and 50 µs without that take it down to DETECT; a change waits until every packet is
acknowledged; the lower speed and the
narrower width stand where both ends change, and the lane set is the one that the peer names where this end's lanes run it; READY
applies it once this end has realigned on lanes that run the set, and 50 µs without it take the link down; a spare lane carries a
position as either end asks, through CHANGE until the next ALIGN row, and a link in training without leaving it; the lane-health
governor sums ten intervals of 100 ms. Each command has no effect in the other states. -/
def Obligations.LinkStates : Prop :=
  (∀ (s : State) (f : Nat), f < 8 → s.alive = true →
      (∀ starts : Bool, starts = (s.linkState f == lsDETECT && s.linksAllowed && !s.linkTested f && s.flag (R.MFL_LINK_CTL_ENABLE f)) →
        (starts = true → Does (.forwardedClockDetect f) s fun t =>
          t.linkState f = lsALIGN ∧ (t.link f).clock = true ∧ t.fget ⟨R.MFL_AL_LOCK f, 24, 16⟩ = 0 ∧
          t.event (linkPage f 0) 0 = true ∧
          KeepsRegs s t [R.MFL_LINK_STS f, R.MFL_AL_LOCK f, R.MFL_SEQ_STS f, R.MFL_REPLAY_STS f] ∧ t.vault = s.vault) ∧
        (starts = false → exec (.forwardedClockDetect f) s = .next s)) ∧
      (∀ l line len aligns, l < 9 → ∀ h, h = hunt line len (len + 2) 0 0 0 0 →
        (h.1 = none → exec (.laneLock f l line len aligns) s = .next (s.bumpBy (R.MFL_HUNT_WRAP f) h.2)) ∧
        (h.1 ≠ none → ∀ now, now = putBits (s.fget ⟨R.MFL_AL_LOCK f, 24, 16⟩) l l 1 →
        ∀ heeded : Bool, heeded = (now == 0x1FF && s.linksAllowed && [lsALIGN, lsRETRAIN, lsCHANGE].contains (s.linkState f)) →
        (heeded = false → Does (.laneLock f l line len aligns) s fun t => t.fget ⟨R.MFL_AL_LOCK f, 24, 16⟩ = now ∧
          t.ctr (R.MFL_HUNT_WRAP f) = min (s.ctr (R.MFL_HUNT_WRAP f) + h.2) counterMax ∧ t.links = s.links ∧
          (∀ a, a ≠ R.MFL_AL_LOCK f → t.reg a = s.reg a) ∧ t.vault = s.vault) ∧
        (heeded = true → s.linkState f = lsALIGN →
          (2 ≤ ((upTo 9).filter fun k => bit (deskewed aligns) k).length →
            Does (.laneLock f l line len aligns) s fun t => t.linkState f = lsTRAIN ∧ (t.link f).lanes = deskewed aligns ∧
              t.fget (R.MFL_LINK_STS_REVERSED f) = ofBool (laneOrder aligns) ∧ t.event (linkPage f 0) 0 = true ∧
              KeepsRegs s t [R.MFL_LINK_STS f, R.MFL_AL_LOCK f] ∧ t.vault = s.vault) ∧
          (((upTo 9).filter fun k => bit (deskewed aligns) k).length < 2 →
            Does (.laneLock f l line len aligns) s fun t => t.linkState f = lsDETECT ∧ t.event (linkPage f 0) 0 = true ∧
              t.vault = s.vault)) ∧
        (heeded = true → s.linkState f ≠ lsALIGN → Does (.laneLock f l line len aligns) s fun t =>
          (t.link f).lanes = deskewed aligns ∧ (t.link f).aligned = true ∧
          t.fget (R.MFL_LINK_STS_REVERSED f) = ofBool (laneOrder aligns) ∧
          (s.linkState f = lsRETRAIN → t.linkState f = lsRETRAIN) ∧ t.vault = s.vault))) ∧
      (∀ fid sp w win lanes, fid < 16 →
        ∀ u, u = ((s.sendCtl f (ctlTrain opECHO [s.time80])).fset (R.MFL_LINK_STS_PEER_FID f) fid).modLink f (fun l => { l with
          hello := some (fid, min sp 2, min w 2, win, lanes), peerWin := win }) →
        (s.linkState f = lsTRAIN → s.linksAllowed = true →
          (fid = s.selfFid → Does (.helloReceive f fid sp w win lanes) s fun t => t.linkState f = lsSTRANGER ∧
            t.fget (R.MFL_AUTH_STS_RESULT f) = 3 ∧ t.fget (R.MFL_AUTH_STS_CAUSE f) = acDUP_FID ∧ Counted s t (R.MFL_AUTH_FAIL f) ∧
            t.event (linkPage f 2) 0 = true ∧ KeepsRegs s t [R.MFL_LINK_STS f, R.MFL_AUTH_STS f] ∧ t.vault = s.vault) ∧
          (fid ≠ s.selfFid → ((s.link f).echoed = false ∨ u.settle f = none) → exec (.helloReceive f fid sp w win lanes) s = .next u) ∧
          (fid ≠ s.selfFid → (s.link f).echoed = true → ∀ v, u.settle f = some v →
            Does (.helloReceive f fid sp w win lanes) s fun t => t.linkState f = lsAUTH ∧
              (t.link f).win = s.fget (R.MFL_REPLAY_CTL_WIN_KIB f) ∧ t.event (linkPage f 0) 0 = true ∧ t.vault = s.vault)) ∧
        (s.linkState f ∈ [lsRETRAIN, lsCHANGE] → s.linksAllowed = true →
          (fid = s.fget (R.MFL_LINK_STS_PEER_FID f) → exec (.helloReceive f fid sp w win lanes) s = .next u) ∧
          (fid ≠ s.fget (R.MFL_LINK_STS_PEER_FID f) → Does (.helloReceive f fid sp w win lanes) s fun t =>
            t.linkState f = lsDETECT ∧ (t.link f).replay = [] ∧ Counted s t (R.MFL_LINK_DOWNS f) ∧
            t.event (linkPage f 0) 2 = true ∧ t.vault = s.vault)) ∧
        ((s.linksAllowed = false ∨ s.linkState f ∉ [lsTRAIN, lsRETRAIN, lsCHANGE]) →
          exec (.helloReceive f fid sp w win lanes) s = .next s)) ∧
      (∀ sent heard back rtt, rtt = min (roundTrip sent heard back) 65535 → ∀ u, u = (s.fset (R.MFL_RTT_NS f) rtt).modLink f (fun l => { l with echoed := true }) →
        ∀ heeded : Bool, heeded = (s.linksAllowed && [lsTRAIN, lsRETRAIN, lsCHANGE].contains (s.linkState f)) →
        (heeded = true → (s.linkState f ≠ lsTRAIN ∨ u.settle f = none) → exec (.echoReceive f ⟨sent, heard, back⟩) s = .next u) ∧
        (heeded = true → s.linkState f = lsTRAIN → ∀ v, u.settle f = some v → Does (.echoReceive f ⟨sent, heard, back⟩) s fun t => t.linkState f = lsAUTH ∧
          t.fget (R.MFL_RTT_NS f) = rtt ∧ (t.link f).win = s.fget (R.MFL_REPLAY_CTL_WIN_KIB f) ∧ t.event (linkPage f 0) 0 = true ∧
          t.vault = s.vault) ∧
        (heeded = false → exec (.echoReceive f ⟨sent, heard, back⟩) s = .next s)) ∧
      (∀ late : Bool, late = ((s.linkState f == lsTRAIN && decide ((s.link f).entered + 12500000 ≤ s.now)) ||
          (s.linkState f == lsALIGN && decide (((upTo 9).filter fun k => bit (s.fget ⟨R.MFL_AL_LOCK f, 24, 16⟩) k).length < 2))) →
        (late = true → Does (.trainTimeout f) s fun t =>
          t.linkState f = lsDETECT ∧ (t.link f).hello = none ∧ (t.link f).replay = [] ∧ t.event (linkPage f 0) 0 = true ∧
          (s.lostVc4 f = [] → KeepsRegs s t [R.MFL_LINK_STS f, R.MFL_SEQ_STS f, R.MFL_REPLAY_STS f]) ∧ t.vault = s.vault) ∧
        (late = false → exec (.trainTimeout f) s = .next s)) ∧
      (bit s.board.badLinks f = false →
        (s.linkState f = lsDISABLED → Does (.mflLinkEnable f) s fun t =>
          t.fget (R.MFL_LINK_CTL_ENABLE f) = 1 ∧ t.linkState f = lsDETECT ∧
          (s.lostVc4 f = [] → KeepsRegs s t [R.MFL_LINK_CTL f, R.MFL_LINK_STS f, R.MFL_SEQ_STS f, R.MFL_REPLAY_STS f]) ∧
          t.vault = s.vault) ∧
        (s.linkState f ≠ lsDISABLED → exec (.mflLinkEnable f) s = .next (s.fset (R.MFL_LINK_CTL_ENABLE f) 1))) ∧
      (bit s.board.badLinks f = true → exec (.mflLinkEnable f) s = .next s) ∧
      (s.linkLive f = true →
        Does (.mflLinkDisable f) s fun t => t.fget (R.MFL_LINK_CTL_ENABLE f) = 0 ∧ t.linkState f = lsDISABLED ∧
          (t.link f).replay = [] ∧ t.reg (R.MFL_SEQ_STS f) = 0 ∧ (t.port (64 + f)).up = false ∧ Counted s t (R.MFL_LINK_DOWNS f) ∧
          (t.port (64 + f)).epoch = ((s.port (64 + f)).epoch + ofBool (s.port (64 + f)).up) % 16 ∧ t.event (linkPage f 0) 2 = true ∧
          t.vault = s.vault) ∧
      (s.linkLive f = false → s.linkState f ≠ lsDISABLED → Does (.mflLinkDisable f) s fun t =>
        t.fget (R.MFL_LINK_CTL_ENABLE f) = 0 ∧ t.linkState f = lsDISABLED ∧ (t.link f).hello = none ∧ (t.link f).replay = [] ∧
        t.vault = s.vault) ∧
      (s.linkState f = lsDISABLED → exec (.mflLinkDisable f) s = .next (s.fset (R.MFL_LINK_CTL_ENABLE f) 0))) ∧
  (∀ (s : State) (f : Nat), f < 8 → s.alive = true →
      (s.linkState f = lsUP → Does (.mflRetrain f) s fun t => t.linkState f = lsRETRAIN ∧ (t.link f).echoed = false ∧
        (t.link f).replay = (s.link f).replay ∧ Counted s t (R.MFL_RETRAINS f) ∧ t.event (linkPage f 0) 1 = true ∧
        KeepsRegs s t [R.MFL_LINK_STS f] ∧ t.vault = s.vault) ∧
      (s.linkState f ≠ lsUP → s.vc4Open f = true → Does (.mflRetrain f) s fun t => t.linkState f = lsDETECT ∧
        (t.link f).hello = none ∧ t.vault = s.vault) ∧
      (s.linkState f ≠ lsUP → s.vc4Open f = false → exec (.mflRetrain f) s = .next s) ∧
      (∀ back : Bool, back = (s.linkState f == lsRETRAIN && (s.link f).echoed && (s.link f).aligned) →
        (back = true → ∀ u, s.settle f = some u → ((s.link f).replay.any fun x => x.ue) = false → Does (.retrainDone f) s fun t =>
          t.linkState f = (if (s.link f).replay = [] ∧ (s.link f).change.any (fun c => !c.2.2.2) = true then lsCHANGE else lsUP) ∧
          (s.link f).replay <+: (t.link f).replay ∧ ((s.link f).vc4 = [] → (t.link f).replay = (s.link f).replay) ∧
          (t.link f).progress = s.now ∧ t.event (linkPage f 0) 0 = true ∧ t.vault = s.vault) ∧
        (back = true → ∀ u, s.settle f = some u → ((s.link f).replay.any fun x => x.ue) = true → Does (.retrainDone f) s fun t =>
          t.linkState f = lsDETECT ∧ (t.link f).replay = [] ∧ t.event (linkPage f 0) 2 = true ∧ t.vault = s.vault) ∧
        ((back = false ∨ s.settle f = none) → exec (.retrainDone f) s = .next s)) ∧
      (∀ c ∈ [(Instr.retrainTimeout f, lsRETRAIN), (.changeTimeout f, lsCHANGE)],
        (s.linkState f = c.2 → (s.link f).entered + 62500 ≤ s.now → Does c.1 s fun t => t.linkState f = lsDETECT ∧
          (t.link f).replay = [] ∧ (t.link f).change = none ∧ (t.port (64 + f)).up = false ∧ Counted s t (R.MFL_LINK_DOWNS f) ∧
          t.event (linkPage f 0) 2 = true ∧ t.vault = s.vault) ∧
        ((s.linkState f ≠ c.2 ∨ s.now < (s.link f).entered + 62500) → exec c.1 s = .next s)) ∧
      (s.linkState f = lsUP → (s.link f).change = none →
        ∀ w set, widest (s.link f).lanes (s.fget (R.MFL_LINK_CTL_WIDTH f)) = some (w, set) →
        ((s.link f).replay = [] → Does (.linkChange f) s fun t => t.linkState f = lsCHANGE ∧
          (t.link f).change = some (s.fget (R.MFL_LINK_CTL_SPEED f), w, set, true) ∧ KeepsRegs s t [R.MFL_LINK_STS f] ∧
          t.vault = s.vault) ∧
        ((s.link f).replay ≠ [] → Does (.linkChange f) s fun t => t.regs = s.regs ∧
          (t.link f).change = some (s.fget (R.MFL_LINK_CTL_SPEED f), w, set, false) ∧ t.vault = s.vault)) ∧
      ((s.linkState f ≠ lsUP ∨ (s.link f).change ≠ none ∨ widest (s.link f).lanes (s.fget (R.MFL_LINK_CTL_WIDTH f)) = none) →
        exec (.linkChange f) s = .next s) ∧
      (∀ sp w lanes, sp < 3 → w < 3 → lanes < 256 → s.linkState f ∈ [lsUP, lsCHANGE] →
        ∀ mine, mine = (if setRuns (s.link f).lanes lanes then lanes else (setFor (s.link f).lanes w).getD lanes) →
        ((s.link f).change = none → Does (.changeReceive f sp w lanes) s fun t => t.linkState f = lsCHANGE ∧
          (t.link f).change = some (sp, w, mine, true) ∧ (t.link f).txAsk = some lanes ∧ KeepsRegs s t [R.MFL_LINK_STS f] ∧
          t.vault = s.vault) ∧
        (∀ x, (s.link f).change = some x → Does (.changeReceive f sp w lanes) s fun t => t.linkState f = lsCHANGE ∧
          (t.link f).change = some (min x.1 sp, min x.2.1 w, if w < x.2.1 then mine else x.2.2.1, true) ∧
          (t.link f).txAsk = some lanes ∧ KeepsRegs s t [R.MFL_LINK_STS f] ∧ t.vault = s.vault)) ∧
      (s.linkState f ∉ [lsUP, lsCHANGE] → ∀ sp w lanes, exec (.changeReceive f sp w lanes) s = .next s) ∧
      (s.linkState f = lsCHANGE → ∀ x, (s.link f).change = some x → x.1 < 3 → x.2.1 < 3 →
        ∀ goes : Bool, goes = (x.2.2.2 && (s.link f).aligned && setRuns (s.link f).lanes x.2.2.1) →
        (goes = true → Does (.readyReceive f) s fun t => t.linkState f = lsUP ∧ t.fget (R.MFL_LINK_STS_SPEED f) = x.1 ∧
          t.fget (R.MFL_LINK_STS_WIDTH f) = x.2.1 ∧ (t.link f).set = x.2.2.1 ∧ (t.link f).change = none ∧ t.vault = s.vault) ∧
        (goes = false → exec (.readyReceive f) s = .next (s.modLink f fun l => { l with peerReady := true }))) ∧
      ((s.linkState f ≠ lsCHANGE ∨ (s.link f).change = none) → exec (.readyReceive f) s = .next s) ∧
      (∀ p q, p < 16 → q = (if p < 8 then p else 0xF) →
          (lsTRAIN ≤ s.linkState f → Does (.remapReceive f p) s fun t =>
            (t.link f).txSpare = q ∧ (t.link f).remapTx = some q ∧
            t.linkState f = (if s.linkState f = lsUP then lsCHANGE else s.linkState f) ∧ KeepsRegs s t [R.MFL_LINK_STS f] ∧
            t.vault = s.vault) ∧
          (s.linkState f < lsTRAIN → exec (.remapReceive f p) s = .next s) ∧
          (lsTRAIN ≤ s.linkState f → Does (.spareMap f p) s fun t => t.fget (R.MFL_LANE_MAP_SPARE_FOR f) = q ∧
            t.linkState f = (if s.linkState f = lsUP then lsCHANGE else s.linkState f) ∧ (t.link f).remap = some q ∧
            (t.link f).ctl = (s.link f).ctl ++ [ctlTrain opREMAP [q]] ∧
            KeepsRegs s t [R.MFL_LINK_STS f, R.MFL_LANE_MAP f] ∧ t.vault = s.vault) ∧
          (s.linkState f < lsTRAIN → exec (.spareMap f p) s = .next (s.fset (R.MFL_LANE_MAP_SPARE_FOR f) q))) ∧
      (∀ es, storeGet 0 s.govAt gLANE + 125000000 ≤ s.now → Does (.laneGovTick es) s fun t => storeGet 0 t.govAt gLANE = s.now ∧
        (∀ l, l < 9 → t.reg (R.MFL_LANE_ERR f l)
          = BitVec.ofNat 32 (min (laneSum (((s.link f).seen :: (s.link f).bins).take 10) l) (2 ^ 24 - 1))) ∧ t.vault = s.vault) ∧
      (∀ es, s.now < storeGet 0 s.govAt gLANE + 125000000 → exec (.laneGovTick es) s = .next s))

/-- What a link in service does with what it receives (R229, R232, R237, R240, R243, R245, R246, R252, R293): an acknowledgement
frees the packets up to its number, one of a number not outstanding frees none, and a change that waited for the last of them
begins; a NAK acknowledges what comes before its number and replays from there, as 10 µs without progress do from the oldest
packet, until the limit is passed and the link retrains, or goes down if it has retrained for that packet already or a copy
cannot be corrected; an ACK that falls due is sent; masks are obeyed, and sent again while a channel is stopped and once after
the last XON; a bad block is counted, and calls for a NAK where no packet is open and none is out; a good data or idle block
does nothing more, a good control block does what its command does; a lane that loses its lock retrains the link. -/
def Obligations.LinkDelivery : Prop :=
  ∀ (s : State) (f : Nat), f < 8 → s.alive = true →
    (∀ due, due = (decide (s.fget (R.MFL_ACK_CTL_ACK_N f) ≤ (s.link f).sinceAck) ||
        ((s.link f).sinceAck != 0 && decide ((s.link f).firstAck + cyclesOfNs (s.fget (R.MFL_ACK_CTL_ACK_T f)) ≤ s.now))) →
      (due = true → Does (.ackSend f) s fun t => (t.link f).sinceAck = 0 ∧ t.regs = s.regs ∧ t.ctrs = s.ctrs ∧ t.vault = s.vault) ∧
      (due = false → exec (.ackSend f) s = .next s)) ∧
    (∀ seq mask kept, mask < 32 → kept = leftBy (s.link f).replay seq → Does (.ackReceive f seq mask) s fun t =>
        kept <+: (t.link f).replay ∧ ((s.link f).vc4 = [] → (t.link f).replay = kept) ∧
        (kept ≠ (s.link f).replay → (t.link f).progress = s.now) ∧ t.fget (R.MFL_LINK_STS_XOFF_TX f) = mask ∧
        t.linkState f = (if kept = [] ∧ s.linkState f = lsUP ∧ (s.link f).change.any (fun c => !c.2.2.2) = true then lsCHANGE
          else s.linkState f) ∧
        ((s.link f).vc4 = [] → KeepsRegs s t [R.MFL_LINK_STS f, R.MFL_REPLAY_STS f]) ∧ t.vault = s.vault) ∧
    (∀ q mask, q < 4096 → mask < 32 →
      ∀ c ∈ [(Instr.nakReceive f q mask, true, leftBy (s.link f).replay (q + 4095)), (.replayTimeout f, false, (s.link f).replay)],
        (c.2.1 = false → (c.2.2.head?.any fun p => p.seq == q) = true ∧ s.vc4Open f = true ∧
          (s.link f).progress + cyclesOfNs (s.fget (R.MFL_REPLAY_CTL_TMO f)) ≤ s.now) →
        ∀ x : Packet, (c.2.2.find? fun p => p.seq == q) = some x →
        ∀ failed, failed = decide (s.fget (R.MFL_REPLAY_LIMIT_LIMIT f) ≤ x.count) →
        ∀ lost, lost = ((failed && x.retrained) || (!failed && c.2.2.any fun p => p.ue)) →
        Does c.1 s fun t => Counted s t (R.MFL_REPLAYS f) ∧ (c.2.1 = false → Counted s t (R.MFL_REPLAY_TMO f)) ∧ t.vault = s.vault ∧
          (lost = true → t.linkState f = lsDETECT ∧ (t.link f).replay = []) ∧
          (lost = false → failed = false → t.linkState f = s.linkState f ∧
            (t.link f).replay = (c.2.2.map fun (p : Packet) => if p.seq = q then { p with count := p.count + 1 } else p) ∧
            (c.2.1 = false → (t.link f).progress = s.now) ∧ (c.2.1 = true → t.fget (R.MFL_LINK_STS_XOFF_TX f) = mask)) ∧
          (lost = false → failed = true → s.linkState f = lsUP → t.linkState f = lsRETRAIN ∧
            (t.link f).replay = (c.2.2.map fun (p : Packet) => if p.seq = q then { p with count := 0, retrained := true } else p) ∧
            Counted s t (R.MFL_RETRAINS f) ∧ t.event (linkPage f 0) 1 = true)) ∧
    (∀ seq mask kept, mask < 32 → seq < 4096 → kept = leftBy (s.link f).replay (seq + 4095) → (∀ p ∈ kept, p.seq ≠ seq) →
      Does (.nakReceive f seq mask) s fun t => (t.link f).replay = kept ∧ t.ctr (R.MFL_REPLAYS f) = s.ctr (R.MFL_REPLAYS f) ∧
        t.fget (R.MFL_LINK_STS_XOFF_TX f) = mask ∧ KeepsRegs s t [R.MFL_LINK_STS f, R.MFL_REPLAY_STS f] ∧ t.vault = s.vault) ∧
    (((s.link f).replay = [] ∨ s.vc4Open f = false ∨ s.now < (s.link f).progress + cyclesOfNs (s.fget (R.MFL_REPLAY_CTL_TMO f))) →
      exec (.replayTimeout f) s = .next s) ∧
    (∀ mask, mask < 32 → ∀ c ∈ [Instr.xoffReceive f mask, .xonReceive f mask], Does c s fun t =>
        t.fget (R.MFL_LINK_STS_XOFF_TX f) = mask ∧ ((s.link f).vc4 = [] → ∀ a, a ≠ R.MFL_LINK_STS f → t.reg a = s.reg a) ∧
        t.vault = s.vault) ∧
    (∀ due, due = (s.vc4Open f && decide ((s.link f).maskAt + cyclesOfNs (s.fget (R.MFL_RTT_NS f)) ≤ s.now) &&
        (s.fget (R.MFL_LINK_STS_XOFF_RX f) != 0 || (s.link f).xonDue)) →
      (due = true → Does (.xoffResend f) s fun t => (t.link f).maskAt = s.now ∧ (t.link f).xonDue = false ∧
        (s.fget (R.MFL_LINK_STS_XOFF_RX f) ≠ 0 → Counted s t (R.MFL_XOFF_TX f)) ∧
        (s.fget (R.MFL_LINK_STS_XOFF_RX f) = 0 → t.ctrs = s.ctrs) ∧ t.regs = s.regs ∧ t.vault = s.vault) ∧
      (due = false → exec (.xoffResend f) s = .next s)) ∧
    (∀ l b o, l < 9 → blockGood b = true →
      (blockCtl b = false → exec (.badBlockReceive f l ⟨b, o⟩) s = .next s) ∧
      ∀ raw, raw = (blockData b).toNat → ∀ align : Bool, align = (bits raw 7 0 == cbALIGN &&
        (s.alignNames f l).contains (bits raw 11 8) && bits raw 15 12 == 0) →
      ∀ d, d = (scrambled ((s.link f).rxScr.getD l 0) (blockData b)).toNat →
      (blockCtl b = true → align = true → Does (.badBlockReceive f l ⟨b, o⟩) s fun t =>
        (t.link f).rxRow = bits raw 63 48 % 16384 ∧ t.vault = s.vault) ∧
      (blockCtl b = true → align = false →
        (bits d 7 0 ∈ [cbIDLE, cbTRAIN, cbNULL] → exec (.badBlockReceive f l ⟨b, o⟩) s = .next s) ∧
        (bits d 7 0 = cbACK →
          exec (.badBlockReceive f l ⟨b, o⟩) s = exec (.ackReceive f (bits d 19 8) (bits d 28 24)) s) ∧
        (bits d 7 0 = cbNAK →
          exec (.badBlockReceive f l ⟨b, o⟩) s = exec (.nakReceive f (bits d 19 8) (bits d 28 24)) s) ∧
        (bits d 7 0 ∈ [cbXOFF, cbXON] →
          exec (.badBlockReceive f l ⟨b, o⟩) s = exec (.xoffReceive f (bits d 28 24)) s))) ∧
    (∀ l b, l < 9 → blockGood b = false →
      ∀ w, w = (((s.link f).marks.getD l (0, 0)).1 * 2 ^ min 64 (max 1 ((s.link f).rows - ((s.link f).marks.getD l (0, 0)).2)) + 1) % 2 ^ 64 →
      ∀ unlocks, unlocks = (decide (16 ≤ badMarks w) && bit (s.fget ⟨R.MFL_AL_LOCK f, 24, 16⟩) l) →
      ∀ naks, naks = (s.listens f && (s.link f).nak.all fun x =>
        decide (x + cyclesOfNs (s.fget (R.MFL_RTT_NS f) + s.fget (R.MFL_ACK_CTL_ACK_T f)) < s.now)) →
      (unlocks = false → ∀ o, Does (.badBlockReceive f l ⟨b, o⟩) s fun t => Counted s t (R.MFL_LANE_BAD f l) ∧ t.regs = s.regs ∧
        t.vault = s.vault ∧ ((o = true ∨ naks = false) → (t.link f).nak = (s.link f).nak) ∧
        (o = false → naks = true → (t.link f).nak = some s.now ∧ Counted s t (R.MFL_NAK_TX f))) ∧
      (unlocks = false → Does (.laneUnlock f l [b]) s fun t => Counted s t (R.MFL_LANE_BAD f l) ∧ t.regs = s.regs ∧
        t.vault = s.vault) ∧
      (unlocks = true → ∀ c ∈ [Instr.badBlockReceive f l ⟨b, true⟩, .badBlockReceive f l ⟨b, false⟩, .laneUnlock f l [b]],
        Does c s fun t => t.fget ⟨R.MFL_AL_LOCK f, 24, 16⟩ = putBits (s.fget ⟨R.MFL_AL_LOCK f, 24, 16⟩) l l 0 ∧
          Counted s t (R.MFL_LANE_BAD f l) ∧ t.vault = s.vault ∧
          (s.linkState f = lsUP → t.linkState f = lsRETRAIN ∧ Counted s t (R.MFL_RETRAINS f) ∧ t.event (linkPage f 0) 1 = true ∧
            KeepsRegs s t [R.MFL_AL_LOCK f, R.MFL_LINK_STS f]) ∧
          (s.linkState f ≠ lsUP → s.vc4Open f = true → t.linkState f = lsDETECT) ∧
          (s.linkState f ≠ lsUP → s.vc4Open f = false → t.linkState f = s.linkState f))) ∧
    (∀ l, l < 9 → exec (.laneUnlock f l []) s = .next s ∧
      (∀ b, blockGood b = true → Does (.laneUnlock f l [b]) s fun t => t.regs = s.regs ∧ t.ctrs = s.ctrs ∧ t.vault = s.vault) ∧
      (∀ b bs, Does (.laneUnlock f l [b]) s fun t => exec (.laneUnlock f l (b :: bs)) s = exec (.laneUnlock f l bs) t))

/-! ### Fabric mode (chapter 11) -/

/-- Authentication in AUTH (R258 to R262, R407): an OFFER gives the peer's key hash, reported where it is not the last peer's, and
signing starts; another link in service that binds the peer's fabric ID to another key makes this one a STRANGER with
FID_CONFLICT, and an OFFER against a RESUME falls back to full authentication; the signature made
goes out; a PROOF that verifies by a listed key is accepted, and the link is UP once the peer accepts too, with RESULT FULL or
RESUMED; BAD_SIG, NOT_LISTED, PEER_REJECT and 400 ms without an end lead to STRANGER; a RESUME with the next value of the
peer's chain is accepted, another one, one without a chain and one of a chain used up fall back to full authentication; an
ACCEPT that answers nothing of this end's has no effect. Outside AUTH, and in the modes in which links do not authenticate, a
packet of the exchange takes its number and has no other effect. -/
def Obligations.LinkAuthentication : Prop :=
  ∀ (s : State) (f : Nat), f < 8 → s.alive = true →
    ∀ r, r = s.rxVc4 f → ∀ runs : Bool, runs = (s.linkState f == lsAUTH && s.linksAllowed) →
    ∀ peer, peer = s.fget (R.MFL_LINK_STS_PEER_FID f) →
    (∀ fid key nonce head, fid < 16 → ∀ h, h = hash32 key →
      (runs = true → s.fidConflict f peer h = false → Does (.authOfferReceive f fid key nonce head) s fun t =>
        t.tbl (linkPage f 2) 1 0 = h ∧
        (t.link f).peerOffer = offerBytes fid key nonce head ∧ (t.link f).peerHead = head ∧ (t.link f).signing = true ∧
        (t.link f).weAccept = false ∧ (t.link f).peerAccept = false ∧ (t.link f).resumed = false ∧
        (∀ k, (s.link f).lastPeer = some k → k ≠ h → t.event (linkPage f 2) 1 = true) ∧ t.linkState f = lsAUTH ∧
        ((s.link f).resumed = false → (t.link f).chain = (s.link f).chain ∧ KeepsRegs s t [R.MFL_SEQ_STS f]) ∧
        ((s.link f).resumed = true → (t.link f).chain = none ∧ t.fget (R.MFL_AUTH_STS_CHAIN_LEFT f) = 0) ∧ t.vault = s.vault) ∧
      (runs = true → s.fidConflict f peer h = true → Does (.authOfferReceive f fid key nonce head) s fun t =>
        t.tbl (linkPage f 2) 1 0 = h ∧ t.linkState f = lsSTRANGER ∧ t.fget (R.MFL_AUTH_STS_CAUSE f) = acFID_CONFLICT ∧
        Counted s t (R.MFL_AUTH_FAIL f) ∧ t.event (linkPage f 2) 0 = true ∧ t.vault = s.vault) ∧
      (runs = false → exec (.authOfferReceive f fid key nonce head) s = .next r)) ∧
    (∀ signs : Bool, signs = ((s.link f).signing && s.linkState f == lsAUTH && s.lifeState != lcBLANK && s.lifeState != lcRETIRED) →
      (signs = true → Does (.signDone f) s fun t =>
        (t.link f).signing = false ∧ Counted s t R.SEC_SIGNS ∧ t.linkState f = lsAUTH ∧ t.vault = s.vault) ∧
      (signs = false → exec (.signDone f) s = .next s)) ∧
    (∀ sig key, key = ((s.link f).peerOffer.drop 1).take 64 →
      ∀ fails, fails = (if Config.slhVerify key (s.offersSigned f) sig = false then some acBAD_SIG
        else if s.listed f (s.peerHash f) = false then some acNOT_LISTED else none) →
      (runs = true → (s.link f).peerOffer ≠ [] → ∀ cause, fails = some cause → Does (.authProofReceive f sig) s fun t =>
        t.linkState f = lsSTRANGER ∧ t.fget (R.MFL_AUTH_STS_CAUSE f) = cause ∧ Counted s t (R.MFL_AUTH_FAIL f) ∧
        t.event (linkPage f 2) 0 = true ∧ t.vault = s.vault) ∧
      (runs = true → (s.link f).peerOffer ≠ [] → fails = none →
        ((s.link f).peerAccept = false → Does (.authProofReceive f sig) s fun t => (t.link f).weAccept = true ∧
          t.linkState f = lsAUTH ∧ t.vault = s.vault) ∧
        ((s.link f).peerAccept = true → Does (.authProofReceive f sig) s fun t => t.linkState f = lsUP ∧
          t.fget (R.MFL_AUTH_STS_RESULT f) = (if (s.link f).resumed then 2 else 1) ∧ (t.port (64 + f)).up = true ∧
          (t.link f).lastPeer = (if (s.link f).resumed then (s.link f).lastPeer else some (s.peerHash f)) ∧
          t.event (linkPage f 2) 2 = true ∧ t.vault = s.vault)) ∧
      ((runs = false ∨ (s.link f).peerOffer = []) → exec (.authProofReceive f sig) s = .next r)) ∧
    (∀ stale : Bool, stale = (!(s.link f).resumed && (s.link f).peerOffer.isEmpty) →
      (runs = true → stale = false → (s.link f).weAccept = false → Does (.authAcceptReceive f) s fun t =>
        (t.link f).peerAccept = true ∧ t.linkState f = lsAUTH ∧ KeepsRegs s t [R.MFL_SEQ_STS f] ∧ t.vault = s.vault) ∧
      (runs = true → stale = false → (s.link f).weAccept = true → Does (.authAcceptReceive f) s fun t => t.linkState f = lsUP ∧
        t.fget (R.MFL_AUTH_STS_RESULT f) = (if (s.link f).resumed then 2 else 1) ∧ (t.port (64 + f)).up = true ∧
        (t.link f).lastPeer = (if (s.link f).resumed then (s.link f).lastPeer else some (s.peerHash f)) ∧
        Counted s t (if (s.link f).resumed then R.MFL_AUTH_RESUME f else R.MFL_AUTH_FULL f) ∧ t.event (linkPage f 2) 2 = true ∧
        KeepsRegs s t (R.MFL_AUTH_STS f :: R.MFL_SEQ_STS f :: xoffRegs) ∧ t.vault = s.vault) ∧
      ((runs = false ∨ stale = true) → exec (.authAcceptReceive f) s = .next r)) ∧
    (runs = true → Does (.authRejectReceive f) s fun t => t.linkState f = lsSTRANGER ∧ t.fget (R.MFL_AUTH_STS_CAUSE f) = acPEER_REJECT ∧
      Counted s t (R.MFL_AUTH_FAIL f) ∧ KeepsRegs s t [R.MFL_LINK_STS f, R.MFL_AUTH_STS f, R.MFL_SEQ_STS f] ∧ t.vault = s.vault) ∧
    (runs = false → exec (.authRejectReceive f) s = .next r) ∧
    (∀ value x, (s.link f).chain = some x → runs = true →
      ∀ good, good = ((s.link f).resumed && Config.shake256 value 32 == x.2.2 && decide (x.2.1 < 1024)) →
      ∀ other, other = ((s.link f).lastPeer.any fun k => s.fidConflict f peer k) →
      (good = true → other = false → Does (.authResumeReceive f value) s fun t =>
        (t.link f).chain = some (x.1, x.2.1 + 1, value) ∧ t.fget (R.MFL_AUTH_STS_CHAIN_LEFT f) = 1024 - (x.2.1 + 1) ∧
        ((s.link f).peerAccept = false → (t.link f).weAccept = true ∧ t.linkState f = lsAUTH) ∧
        ((s.link f).peerAccept = true → t.linkState f = lsUP ∧ t.fget (R.MFL_AUTH_STS_RESULT f) = 2 ∧
          Counted s t (R.MFL_AUTH_RESUME f) ∧ t.event (linkPage f 2) 2 = true) ∧ t.vault = s.vault) ∧
      (good = true → other = true → Does (.authResumeReceive f value) s fun t => t.linkState f = lsSTRANGER ∧
        t.fget (R.MFL_AUTH_STS_CAUSE f) = acFID_CONFLICT ∧ Counted s t (R.MFL_AUTH_FAIL f) ∧ t.vault = s.vault) ∧
      (good = false → Does (.authResumeReceive f value) s fun t => (t.link f).chain = none ∧
        (t.link f).resumed = false ∧ t.fget (R.MFL_AUTH_STS_CHAIN_LEFT f) = 0 ∧ t.linkState f = lsAUTH ∧ t.vault = s.vault)) ∧
    (∀ value, (s.link f).chain = none → runs = true →
      (((s.link f).resumed = true ∨ (s.link f).ourOffer = []) → Does (.authResumeReceive f value) s fun t =>
        (t.link f).resumed = false ∧ (t.link f).ourOffer ≠ [] ∧ t.linkState f = lsAUTH ∧ t.vault = s.vault) ∧
      ((s.link f).resumed = false → (s.link f).ourOffer ≠ [] → exec (.authResumeReceive f value) s = .next r)) ∧
    (∀ value, runs = false → exec (.authResumeReceive f value) s = .next r) ∧
    (s.linkState f = lsAUTH → (s.link f).entered + 500000000 ≤ s.now → Does (.authTimeout f) s fun t => t.linkState f = lsSTRANGER ∧
      t.fget (R.MFL_AUTH_STS_CAUSE f) = acTIMEOUT ∧ Counted s t (R.MFL_AUTH_FAIL f) ∧
      KeepsRegs s t [R.MFL_LINK_STS f, R.MFL_AUTH_STS f] ∧ t.vault = s.vault) ∧
    ((s.linkState f ≠ lsAUTH ∨ s.now < (s.link f).entered + 500000000) → exec (.authTimeout f) s = .next s)

/-- Edits of what authenticates (R260, R261): one of the approved list or of its enables drops the chain, takes a link in
service whose peer is no longer listed to STRANGER with cause NOT_LISTED, and a STRANGER whose peer has become listed to AUTH, in
the modes in which links authenticate; the link stays as it is otherwise. Enables written as they were change nothing; REAUTH
drops the chain. The peer of a link in service is the one accepted, else that of the last OFFER.
The route governor (R264, R265): while EN reads 0 the usable links are those that are up and USE_ALT follows the forced mask;
while it reads 1 a link that is not up is not usable, a forced fabric ID uses its alternative, one whose primary mask has
fewer usable links than MIN_PRI and than its alternative fails over, one whose primary mask has MIN_PRI again is restored, and
the others stay as they are. -/
def Obligations.ListsAndRoutes : Prop :=
  ∀ (s : State), s.alive = true →
    (∀ f k v en, f < 8 → k < 16 → en < 65536 → ∀ h, h = s.judgedHash f →
      ∀ c ∈ [(Instr.authListEdit f k v, true, s.setTbl (linkPage f 2) 0 k v),
             (.authEnWrite f en, en != s.fget (R.MFL_AUTH_EN_EN f), s.fset (R.MFL_AUTH_EN_EN f) en)],
        (c.2.1 = false → exec c.1 s = .next c.2.2) ∧
        (c.2.1 = true → ∀ on was again : Bool, on = c.2.2.listed f h → was = s.listed f (s.peerHash f) →
          again = (s.linkState f == lsSTRANGER && on && !was && s.linksAllowed) →
          (s.linkLive f = true → on = false → Does c.1 s fun t => t.linkState f = lsSTRANGER ∧
            t.fget (R.MFL_AUTH_STS_CAUSE f) = acNOT_LISTED ∧ (t.link f).chain = none ∧ (t.link f).replay = [] ∧
            Counted s t (R.MFL_AUTH_FAIL f) ∧ t.event (linkPage f 0) 2 = true ∧
            t.tbl (linkPage f 2) 0 k = c.2.2.tbl (linkPage f 2) 0 k ∧ t.fget (R.MFL_AUTH_EN_EN f) = c.2.2.fget (R.MFL_AUTH_EN_EN f) ∧
            t.vault = s.vault) ∧
          (again = true → Does c.1 s fun t => t.linkState f = lsAUTH ∧ (t.link f).chain = none ∧ (t.link f).resumed = false ∧
            t.tbl (linkPage f 2) 0 k = c.2.2.tbl (linkPage f 2) 0 k ∧ t.fget (R.MFL_AUTH_EN_EN f) = c.2.2.fget (R.MFL_AUTH_EN_EN f) ∧
            t.vault = s.vault) ∧
          ((s.linkLive f = false ∨ on = true) → again = false → Does c.1 s fun t =>
            (t.link f).chain = none ∧ t.fget (R.MFL_AUTH_STS_CHAIN_LEFT f) = 0 ∧ t.linkState f = s.linkState f ∧
            t.tbls = c.2.2.tbls ∧ (∀ a, a ≠ R.MFL_AUTH_STS f → t.reg a = c.2.2.reg a) ∧ t.vault = s.vault))) ∧
    (∀ f, f < 8 → Does (.reauth f) s fun t => (t.link f).chain = none ∧ t.fget (R.MFL_AUTH_STS_CHAIN_LEFT f) = 0 ∧
      t.linkState f = s.linkState f ∧ (∀ a, a ≠ R.MFL_AUTH_STS f → t.reg a = s.reg a) ∧ t.vault = s.vault) ∧
    (s.fget R.MAP_ROUTE_GOV_EN = 0 → Does .routeGovTick s fun t =>
      (∀ f, f < 8 → bit (t.fget R.MAP_LINK_USABLE_USABLE) f = s.linkUp f) ∧
      (∀ d, d < 16 → t.tget 0x122 0 d 16 16 = ofBool (bit (s.fget R.MAP_ROUTE_ALT_FORCE_FORCE) d)) ∧
      (s.goneRemotes = [] → KeepsRegs s t [R.MAP_LINK_USABLE] ∧ t.ctrs = s.ctrs) ∧ t.vault = s.vault) ∧
    (s.fget R.MAP_ROUTE_GOV_EN = 1 → ∀ u, u = (upTo 8).foldl State.routeLink s → Does .routeGovTick s fun t =>
      (∀ f, f < 8 → s.linkUp f = false → bit (t.fget R.MAP_LINK_USABLE_USABLE) f = false) ∧
      (∀ f, f < 8 → s.linkUp f = true → bit (s.fget R.MAP_LINK_USABLE_USABLE) f = true → bit (t.fget R.MAP_LINK_USABLE_USABLE) f = true) ∧
      (∀ d, d < 16 → ∀ forced, forced = bit (s.fget R.MAP_ROUTE_ALT_FORCE_FORCE) d → ∀ uses, uses = s.tget 0x122 0 d 16 16 →
        ∀ pri, pri = u.maskUsable (s.tget 0x122 0 d 7 0) → ∀ alt, alt = u.maskUsable (s.tget 0x122 0 d 15 8) →
        t.tget 0x122 0 d 16 16 = (if d = s.selfFid then uses else if forced = true then 1
          else if uses = 0 ∧ pri < s.fget R.MAP_ROUTE_GOV_MIN_PRI ∧ pri < alt then 1
          else if s.fget R.MAP_ROUTE_GOV_MIN_PRI ≤ pri then 0 else uses) ∧
        (uses = 0 → t.tget 0x122 0 d 16 16 = 1 → t.event 0x122 0 = true)) ∧ t.vault = s.vault)

/-! ### Tests of lanes (chapter 12) -/

/-- Loops, PRBS and equalisation redos of an octet or a link (R276 to R288): a loop or a PRBS start is refused, with the
register kept, in the modes that allow none, and a PRBS write that names lanes in use outside DIAGNOSTIC; otherwise the control is
stored and the checkers start unlocked; a lock, its loss, and a change of rate show in the status; a redo keeps DL_ACTIVE and
is counted, and one that has not ended in 50 ms takes the link down, as a partner's Loopback does. Eye scans and margining
(R286, R287): GO starts a scan of its lane where a signal is there and no margining command holds the sampler, and ends at once
otherwise; STOP and the end of the dwell leave ENDED and DONE with the errors counted and event 2; a margining command
pre-empts a scan of its lane and answers with its status. -/
def Obligations.LoopsPatternsAndEyes : Prop :=
  (∀ (s : State) (u : Nat), u < 32 → s.alive = true →
      (∀ v : W32, bits v.toNat 1 0 ≠ 0 → bits v.toNat (7 + testLanes u) 8 ≠ 0 → s.testsRefused = true →
        Does (.loopSet u v) s fun t => t.fget (tfld u 0x20 22 22) = 1 ∧ t.event (testPage u) 0 = true ∧
          KeepsRegs s t [testBase u + 0x20] ∧ t.vault = s.vault) ∧
      (∀ v : W32, bits v.toNat 1 0 = 0 ∨ (s.testsRefused = false ∧
          ∀ l, l < testLanes u → bit (bits v.toNat (7 + testLanes u) 8) l = true → s.laneIdle u l = true) →
        Does (.loopSet u v) s fun t => t.fget (tfld u 0x100 1 0) = bits v.toNat 1 0 ∧
          t.fget (lanesFld u 0x100) = bits v.toNat (7 + testLanes u) 8 ∧ t.fget (tfld u 0x20 22 22) = 0 ∧
          (∀ a, a ≠ testBase u + 0x100 → a ≠ testBase u + 0x20 → t.reg a = s.reg a) ∧ t.vault = s.vault) ∧
      (∀ (v : W32) counts, bits v.toNat 4 3 ≠ 0 →
        (s.testsRefused = true → Does (.prbsStart u v counts) s fun t => t.fget (tfld u 0x20 21 20) = 2 ∧
          t.event (testPage u) 0 = true ∧ KeepsRegs s t [testBase u + 0x20] ∧ t.vault = s.vault)) ∧
      (∀ (v : W32) counts, (bits v.toNat 4 3 = 0 ∨ s.testsRefused = false) →
        (s.mode ≠ mDIAGNOSTIC → (∃ l, l < testLanes u ∧ bit (bits v.toNat (7 + testLanes u) 8) l = true ∧
            s.laneIdle u l = false ∧ bit (s.loopedLanes u) l = false) →
          Does (.prbsStart u v counts) s fun t => t.fget (tfld u 0x20 21 20) = 1 ∧ t.event (testPage u) 0 = true ∧
            KeepsRegs s t [testBase u + 0x20] ∧ t.vault = s.vault)) ∧
      (∀ (v : W32) counts, (bits v.toNat 4 3 = 0 ∨ s.testsRefused = false) →
        (∀ l, l < testLanes u → bit (bits v.toNat (7 + testLanes u) 8) l = true → s.laneIdle u l = true) →
        Does (.prbsStart u v counts) s fun t => t.fget (tfld u 0x104 2 0) = min (bits v.toNat 2 0) 4 ∧
          t.fget (tfld u 0x104 4 3) = bits v.toNat 4 3 ∧ t.fget (lanesFld u 0x104) = bits v.toNat (7 + testLanes u) 8 ∧
          t.fget (tfld u 0x20 8 0) = 0 ∧ t.fget (tfld u 0x20 21 20) = 0 ∧
          (∀ a, a ≠ testBase u + 0x104 → a ≠ testBase u + 0x20 → t.reg a = s.reg a) ∧ t.vault = s.vault) ∧
      (∀ l, l < testLanes u → (s.checking u l = true → Does (.prbsLock u l) s fun t => bit (t.fget (tfld u 0x20 8 0)) l = true ∧
          (∀ a, a ≠ testBase u + 0x20 → t.reg a = s.reg a) ∧ t.vault = s.vault) ∧
        (∀ e n, bit (s.fget (tfld u 0x20 8 0)) l = true → Does (.prbsLockLost u l e n) s fun t =>
          bit (t.fget (tfld u 0x20 8 0)) l = false ∧ t.event (testPage u) 1 = true ∧
          (u < 24 → t.ctr (R.PHY_PRBS_ERR u l) = min (s.ctr (R.PHY_PRBS_ERR u l) + e) counterMax) ∧
          (24 ≤ u → t.ctr (R.MFL_PRBS_ERR (u - 24) l) = min (s.ctr (R.MFL_PRBS_ERR (u - 24) l) + e) counterMax) ∧
          KeepsRegs s t [testBase u + 0x20] ∧ t.vault = s.vault)) ∧
      (∀ counts, u < 24 → s.flag (R.PHY_PRBS_CTL_CHK_EN u) = true → s.fget (R.PHY_TEST_STS_RESULT u) ≠ 3 →
        Does (.prbsRateAbort u counts) s fun t => t.fget (R.PHY_TEST_STS_RESULT u) = 3 ∧ t.fget (R.PHY_TEST_STS_LOCK u) = 0 ∧
          (∀ a, a ≠ testBase u + 0x20 → t.reg a = s.reg a) ∧ t.vault = s.vault) ∧
      (∀ sub l n, u < 24 → sub < 4 → s.laneOwner u l = some n → s.flag (R.PEP_PORT_STS_DL_ACTIVE n) = true →
        ((upTo 8).find? fun l => laneSub (s.octetMode u) l == sub && (s.laneOwner u l).isSome) = some l →
        Does (.eqRedo u sub) s fun t => (t.port n).redoing = true ∧ (t.port n).redoAt = some s.now ∧ Counted s t (R.PHY_REEQ u) ∧
          t.flag (R.PEP_PORT_STS_DL_ACTIVE n) = true ∧ t.fget (R.PHY_EQ_CTL_SUBPORT u) = sub ∧ t.event (0x901 + 4 * u) 3 = true ∧
          t.vault = s.vault) ∧
      (∀ n t0, n < 64 → (s.port n).up = true →
        (Does (.loopbackEntry n) s fun t => (t.port n).up = false ∧ (t.port n).epoch = ((s.port n).epoch + 1) % 16 ∧
          (t.port n).flushing = true ∧ t.flag (R.PEP_PORT_STS_DL_ACTIVE n) = false ∧ t.vault = s.vault) ∧
        ((s.port n).redoing = true → (s.port n).redoAt = some t0 → t0 + 62500000 ≤ s.now → Does (.eqRedoTimeout n) s fun t =>
          (t.port n).up = false ∧ (t.port n).redoing = false ∧ (t.port n).epoch = ((s.port n).epoch + 1) % 16 ∧
          (t.port n).flushing = true ∧ t.vault = s.vault))) ∧
  (∀ (s : State) (u : Nat), u < 32 → s.alive = true →
      (∀ (v : W32) l, l = min (bits v.toNat 3 0) (testLanes u - 1) → s.fget (tfld u 0x24 1 0) ≠ eyBUSY →
        (l ∈ (s.testUnit u).margin → ∀ g, Does (.eyeScanStart u v g) s fun t => t.fget (tfld u 0x24 1 0) = eyENDED ∧
          t.fget (tfld u 0x24 3 2) = 1 ∧ t.event (testPage u) 2 = true ∧ t.vault = s.vault) ∧
        (l ∉ (s.testUnit u).margin → (Does (.eyeScanStart u v false) s fun t => t.fget (tfld u 0x24 1 0) = eyENDED ∧
            t.fget (tfld u 0x24 3 2) = 3 ∧ t.event (testPage u) 2 = true ∧ t.vault = s.vault) ∧
          (Does (.eyeScanStart u v true) s fun t => t.fget (tfld u 0x24 1 0) = eyBUSY ∧ t.fget (tfld u 0x24 31 8) = 0 ∧
            t.fget (tfld u 0x10C 3 0) = l ∧ (t.testUnit u).scanLane = l ∧
            (∀ a, a ≠ testBase u + 0x10C → a ≠ testBase u + 0x24 → t.reg a = s.reg a) ∧ t.ctrs = s.ctrs ∧ t.vault = s.vault))) ∧
      (∀ e, s.fget (tfld u 0x24 1 0) = eyBUSY →
        ∀ c ∈ [(Instr.eyeScanStop u e, eyENDED, 0), (.eyeScanDone u ⟨e, true⟩, eyDONE, 0), (.eyeScanDone u ⟨e, false⟩, eyENDED, 3)],
        Does c.1 s fun t => t.fget (tfld u 0x24 1 0) = c.2.1 ∧ t.fget (tfld u 0x24 3 2) = c.2.2 ∧ t.fget (tfld u 0x24 31 8) = min e (2 ^ 24 - 1) ∧
          t.event (testPage u) 2 = true ∧ KeepsRegs s t [testBase u + 0x24] ∧ t.vault = s.vault) ∧
      (∀ e g, s.fget (tfld u 0x24 1 0) ≠ eyBUSY → exec (.eyeScanStop u e) s = .next s ∧ exec (.eyeScanDone u ⟨e, g⟩) s = .next s) ∧
      (∀ l e p ty rx (st : List Nat), u < 24 → l < 8 → ∀ w, w = BitVec.ofNat 32
          ((if ty = 1 then marginReport ((s.laneOwner u l).elim 1 s.portWidth) p else none).getD
          (if (s.laneOwner u l).any (fun n => s.fget (R.PEP_PORT_STS_RATE n) == 6) then (st.take 3).foldl max 0 else st.headD 0)) →
        (Does (.laneMarginCommand u l true e ⟨p, st, ty, rx⟩) s fun t => l ∈ (t.testUnit u).margin ∧ t.answer = .words [w] ∧ (s.fget (tfld u 0x24 1 0) = eyBUSY → (s.testUnit u).scanLane = l →
            t.fget (tfld u 0x24 1 0) = eyENDED ∧ t.fget (tfld u 0x24 3 2) = 2) ∧ KeepsRegs s t [testBase u + 0x24] ∧
          t.vault = s.vault) ∧
        (Does (.laneMarginCommand u l false e ⟨p, st, ty, rx⟩) s fun t => l ∉ (t.testUnit u).margin ∧ t.answer = .words [w] ∧
          t.regs = s.regs ∧ t.vault = s.vault)))

/-! ### Errors and isolation (chapter 13) -/

/-- The scrubber, injection and the host record rings (R293, R294, R300, R303, R305, R309): an entry good in both copies, or
written in this core cycle, changes nothing; one bad copy is repaired and counted; both bad begin the entry to ISOLATE, or SAFE in
LIMP, and in ISOLATE an entry known to be bad is passed by; an injection is armed with its type, a port of at most 87 and a count of
at least 1; the oldest record of a partition goes to its ring with PROD advanced and a writeback owed, which sends PROD to
PIDX_ADDR, once the management pool has room and no ISOLATE holds records back; FATAL_ACK releases the capture of the first fatal
record. Entry to and exit from ISOLATE (R308, R310, R430): the entry ends in mode ISOLATE with event 1; EXIT is taken only in
ISOLATE, and refused with cause STATE elsewhere; it ends with the mode that was left, or DRAIN where the thermal governor has
asked for it, or is refused while an entry has both copies bad. -/
def Obligations.ErrorsAndIsolation : Prop :=
  (∀ (s : State), s.alive = true →
      (∀ tb i c0 c1, tb < 8 → ∀ w, w = (s.err.wroteAt == s.now && s.err.wrote.contains (tb, i)) →
        ∀ o, o = s.err.bad.find? (fun b => b.table == tb && b.index == i) →
        ∀ b0, b0 = (c0 || o.any (·.copy0)) → ∀ b1, b1 = (c1 || o.any (·.copy1)) →
        ((w = true ∨ (o = none ∧ b0 = false ∧ b1 = false)) → exec (.scrubRead tb i c0 c1) s = .next s) ∧
        (w = false → b0 ≠ b1 → Does (.scrubRead tb i c0 c1) s fun t => Counted s t R.ERR_SCRUB_FIXED ∧
          t.err.bad = s.err.bad.filter (fun b => !(b.table == tb && b.index == i)) ∧ KeepsRegs s t [] ∧ t.vault = s.vault) ∧
        (w = false → b0 = true → b1 = true → Does (.scrubRead tb i c0 c1) s fun t => t.faulted tb i = true ∧
          (s.mode = mISOLATE → s.faulted tb i = true → t.ctrs = s.ctrs ∧ KeepsRegs s t []) ∧
          (s.isolatable = true → s.fget R.ERR_ISO_STS_STATE = isoNORMAL →
            t.fget R.ERR_ISO_STS_STATE = isoENTERING ∧ t.fget R.ERR_ISO_STS_PRIOR = s.mode ∧ t.mode = s.mode) ∧
          (s.mode = mLIMP → t.mode = mSAFE ∧ bit (t.reg R.DEV_SELFTEST_FAIL).toNat itTABLES = true) ∧ t.vault = s.vault)) ∧
      (∀ ty port n, Does (.errorInject ty port n) s fun t =>
        t.err.inject = some (ty % 4, min (port % 128) 87, max 1 (n % 16)) ∧ t.fget R.ERR_INJECT_TYPE = ty % 4 ∧
        t.fget R.ERR_INJECT_PORT = min (port % 128) 87 ∧ t.fget R.ERR_INJECT_COUNT = max 1 (n % 16) ∧
        (∀ a, a ≠ R.ERR_INJECT → t.reg a = s.reg a) ∧ t.ctrs = s.ctrs ∧ t.vault = s.vault) ∧
      (Does .fatalAck s fun t => t.fget R.ERR_STS_FATAL_VALID = 0 ∧ (∀ a, a ≠ R.ERR_STS → t.reg a = s.reg a) ∧ t.ctrs = s.ctrs ∧
        t.vault = s.vault) ∧
      (∀ p, p < 32 → ∀ o, o = s.err.ringQ.find? (fun r => r.1 == p) →
        ((o = none ∨ s.recordsHeld = true ∨ s.poolFree .management = 0) → exec (.recordRingWrite p) s = .next s) ∧
        (∀ r, o = some r → s.recordsHeld = false → s.poolFree .management ≠ 0 → Does (.recordRingWrite p) s fun t =>
          t.err.ringQ = s.err.ringQ.erase r ∧ t.regs = s.regs ∧ t.vault = s.vault ∧
          (s.recordRingOn p = false → t.tbls = s.tbls ∧ t.sw = s.sw ∧ t.ctrs = s.ctrs) ∧
          (s.recordRingOn p = true → p ∈ t.err.ringDue ∧ t.tget 0x50 2 p 191 160 = (s.tget 0x50 2 p 191 160 + 1) % 2 ^ 32 ∧
            ∀ fid q e, s.homeOf p = some (fid, q) → s.egressTo 88 fid q 0 = some e → s.shut e = false →
              t.holdsWrite (BitVec.ofNat 64 (s.tget 0x50 2 p 63 0 + 128 * (s.tget 0x50 2 p 191 160 % 2 ^ s.tget 0x50 2 p 132 128))) r.2)) ∧
        ((p ∉ s.err.ringDue ∨ s.poolFree .management = 0) → exec (.recordRingWriteback p) s = .next s) ∧
        (p ∈ s.err.ringDue → s.poolFree .management ≠ 0 → Does (.recordRingWriteback p) s fun t => p ∉ t.err.ringDue ∧
          (∀ fid q e, s.homeOf p = some (fid, q) → s.egressTo 88 fid q 0 = some e → s.shut e = false →
            t.holdsWrite (BitVec.ofNat 64 (s.tget 0x50 2 p 127 64)) (leBytes 4 (s.tget 0x50 2 p 191 160))) ∧ t.regs = s.regs ∧
          t.vault = s.vault))) ∧
  (∀ (s : State), s.alive = true →
      (s.fget R.ERR_ISO_STS_STATE = isoENTERING → Does .isolateEntered s fun t => t.mode = mISOLATE ∧
        t.fget R.ERR_ISO_STS_STATE = isoISOLATED ∧ t.event 0x50 1 = true ∧
        (s.fget R.DEV_MODE_STS_RESULT = 1 → t.fget R.DEV_MODE_STS_RESULT = 2) ∧ t.vault = s.vault) ∧
      (s.fget R.ERR_ISO_STS_STATE ≠ isoENTERING → exec .isolateEntered s = .next s) ∧
      (s.fget R.ERR_ISO_STS_STATE = isoEXITING → exec .isolateExit s = .next s) ∧
      (s.fget R.ERR_ISO_STS_STATE ≠ isoEXITING → exec .isolateExitDone s = .next s) ∧
      (s.mode = mISOLATE → s.fget R.ERR_ISO_STS_STATE = isoISOLATED → Does .isolateExit s fun t =>
        t.fget R.ERR_ISO_STS_STATE = isoEXITING ∧ t.fget R.ERR_ISO_STS_RESULT = 1 ∧ t.fget R.ERR_ISO_STS_CAUSE = 0 ∧
        (∀ a, a ≠ R.ERR_ISO_STS → t.reg a = s.reg a) ∧ t.ctrs = s.ctrs ∧ t.vault = s.vault) ∧
      (s.fget R.ERR_ISO_STS_STATE ≠ isoEXITING → ¬(s.mode = mISOLATE ∧ s.fget R.ERR_ISO_STS_STATE = isoISOLATED) →
        Does .isolateExit s fun t => t.fget R.ERR_ISO_STS_RESULT = 3 ∧ t.fget R.ERR_ISO_STS_CAUSE = 3 ∧
          t.fget R.ERR_ISO_STS_STATE = s.fget R.ERR_ISO_STS_STATE ∧ t.event 0x50 3 = true ∧ KeepsRegs s t [R.ERR_ISO_STS] ∧
          t.vault = s.vault) ∧
      (s.fget R.ERR_ISO_STS_STATE = isoEXITING →
        ((∃ b ∈ s.err.bad, b.copy0 = true ∧ b.copy1 = true) → Does .isolateExitDone s fun t =>
          t.fget R.ERR_ISO_STS_STATE = isoISOLATED ∧ t.fget R.ERR_ISO_STS_RESULT = 3 ∧ t.fget R.ERR_ISO_STS_CAUSE = 1 ∧
          t.event 0x50 3 = true ∧ KeepsRegs s t [R.ERR_ISO_STS] ∧ t.vault = s.vault) ∧
        ((∀ b ∈ s.err.bad, (b.copy0 && b.copy1) = false) → ∀ m, m = s.fget R.ERR_ISO_STS_PRIOR →
          ∀ d, d = (s.board.drainDue && decide (mSTANDALONE ≤ m) && decide (m ≤ mFABRIC)) → Does .isolateExitDone s fun t =>
          t.fget R.ERR_ISO_STS_STATE = isoNORMAL ∧ t.fget R.ERR_ISO_STS_RESULT = 2 ∧ t.mode = (if d then mDRAIN else m) ∧
          (d = true → t.fget R.DEV_MODE_STS_THERMAL = 1 ∧ t.board.drainDue = false) ∧
          t.event 0x50 2 = true ∧ t.vault = s.vault)))

/-! ### The core pairs (chapters 14 and 15) -/

/-- Core pairs (R313, R314, R321, R316): a mismatch or a swap with a STANDBY pair makes it ACTIVE and the other one TESTING,
with the cause, counted, and with event 0; without one a swap is refused and counted, and a mismatch leaves cause NO_STANDBY;
while a failover is under way both are ignored, but that of several triggers in one core cycle the first of LOCKSTEP, WDOG and
SWAP gives the cause; a self-test leaves STANDBY or FAILED with event 1, and LOST with both pairs FAILED; the timer interrupt
follows MGT_TIMECMP; a load from the hosts or the local bus that waits past MGT_CTO traps with cause TIMEOUT captured. -/
def Obligations.CorePairs : Prop :=
  ∀ (s : State), s.alive = true →
    (s.mgt.trig = none → s.failing = false → s.lost = false → s.pairState (1 - s.activePair) = 1 →
      ∀ c ∈ [(Instr.lockstepMismatch, pcLOCKSTEP), (.mgtPairSwap, pcSWAP)], Does c.1 s fun t =>
        t.pairState (1 - s.activePair) = 0 ∧ t.pairState s.activePair = 2 ∧ t.fget R.MGT_PAIR_STS_CAUSE = c.2 ∧
        Counted s t R.MGT_FAILOVERS ∧ t.event 0x0C 0 = true ∧ t.mgt.ops = [] ∧ t.mgt.resv = none ∧ t.mgt.sb = s.mgt.sb ∧
        t.mgt.entry = s.failoverVec ∧ t.vault = s.vault) ∧
    (s.mgt.trig = none → s.failing = false → s.lost = false → s.pairState (1 - s.activePair) ≠ 1 →
      exec .mgtPairSwap s = .next (s.bump R.MGT_SWAP_REFUSED) ∧
      Does .lockstepMismatch s fun t => t.fget R.MGT_PAIR_STS_CAUSE = pcNO_STANDBY ∧ t.mgt.ops = [] ∧
        (∀ p, p < 2 → t.pairState p = s.pairState p) ∧ t.vault = s.vault) ∧
    (s.mgt.trig = none → s.failing = true → exec .mgtPairSwap s = .next s ∧ exec .lockstepMismatch s = .next s) ∧
    (s.mgt.trig = none → s.failing = false → s.lost = true → exec .lockstepMismatch s = .next s ∧
      (s.pairState (1 - s.activePair) = 1 → exec .mgtPairSwap s = .next s) ∧
      (s.pairState (1 - s.activePair) ≠ 1 → exec .mgtPairSwap s = .next (s.bump R.MGT_SWAP_REFUSED))) ∧
    (∀ x, s.mgt.trig = some x →
      (x.found = false → exec .mgtPairSwap s = .next (s.bump R.MGT_SWAP_REFUSED)) ∧
      (x.found = true → x.cause ≤ pcSWAP → exec .mgtPairSwap s = .next s) ∧
      (x.cause ≤ pcLOCKSTEP → exec .lockstepMismatch s = .next s) ∧
      (pcLOCKSTEP < x.cause → Does .lockstepMismatch s fun t => t.mgt.trig = some { x with cause := pcLOCKSTEP } ∧
        (x.found = true → t.fget R.MGT_PAIR_STS_CAUSE = pcLOCKSTEP) ∧ (∀ p, p < 2 → t.pairState p = s.pairState p) ∧
        KeepsRegs s t [R.MGT_PAIR_STS] ∧ t.ctrs = s.ctrs ∧ t.vault = s.vault)) ∧
    (∀ p, p < 2 → s.pairState p = 2 →
      (Does (.pairSelftestDone p true) s fun t => t.pairState p = 1 ∧ t.pairState (1 - p) = s.pairState (1 - p) ∧
        t.event 0x0C 1 = true ∧ KeepsRegs s t [R.MGT_PAIR_STS] ∧ t.vault = s.vault) ∧
      (Does (.pairSelftestDone p false) s fun t => t.pairState p = 3 ∧ t.pairState (1 - p) = s.pairState (1 - p) ∧
        bit (t.reg R.DEV_SELFTEST_FAIL).toNat 4 = true ∧ t.event 0x0C 1 = true ∧
        t.lost = (s.lost || decide (s.pairState (1 - p) = 3)) ∧ t.vault = s.vault)) ∧
    (∀ p r, p < 2 → s.pairState p ≠ 2 → exec (.pairSelftestDone p r) s = .next s) ∧
    (Does .machineTimer s fun t => t.mgt.timer = decide (s.pair R.MGT_TIMECMP_LO R.MGT_TIMECMP_HI ≤ s.mtime) ∧ t.regs = s.regs ∧
      t.vault = s.vault) ∧
    (s.mgt.ops = [] → exec .coreLoadTimeout s = .next s) ∧
    (∀ o rest, s.mgt.ops = o :: rest → ∀ r off, regionOf o.addr = some (r, off) →
      (∀ t0, o.issued = some t0 → r.isMain = false → r ≠ .regs → (∀ x ∈ s.coreReads, x.why = .load → x.done = false) →
        t0 + 1250 * s.fget R.MGT_CTO_US ≤ s.now → Does .coreLoadTimeout s fun t => t.answer = .trap xLoadAccess o.addr ∧
        t.mgt.ops = [] ∧ t.fget R.MGT_BERR_STS_CAUSE = beTIMEOUT ∧ t.fget R.MGT_BERR_STS_WRITE = 0 ∧ t.event 0x0C 3 = true ∧
        t.vault = s.vault) ∧
      ((o.issued = none ∨ r.isMain = true ∨ r = .regs ∨ (∃ x ∈ s.coreReads, x.why = .load ∧ x.done = true) ∨
        (∃ t0 ∈ o.issued.toList, s.now < t0 + 1250 * s.fget R.MGT_CTO_US)) → exec .coreLoadTimeout s = .next s))

/-- Loads, stores and fences of the active pair (R315, R316, R318, R336 to R341), with nothing before them: a load of main memory
answers the bytes that memory and the store buffer hold, a corrected word is counted, and an uncorrectable one traps; a load of an
I/O region waits for stores to its channel, one of the registers is answered at once, the others go on their way or trap; a store
enters the buffer, cut at 8-byte boundaries, and is read back from there; an access outside the map, one the memory protection unit
denies, with its cause captured, counted and signalled, and one that its region or alignment forbids, trap with the cause of their
kind; a fence with nothing to wait for ends, and one whose predecessor set has a store in the buffer waits. LR, SC and AMOs on an
aligned word of SRAM, with the store buffer empty (R339): LR holds the 64-byte granule of its address; SC stores and answers 0 while
the reservation holds, and otherwise stores nothing and answers a value other than 0, and the reservation is gone either way; the
core may choose to fail any SC but the second of a loop that no trap has left; an AMO answers the old word and stores its result. No
other byte changes. With a store in the buffer the three wait; a halted or lost pair makes no access, and while the stores of before
a warm reset drain one only joins the others (R314, R343, R415). -/
def Obligations.CoreMemoryAccesses : Prop :=
  (∀ (s : State) (addr size : Nat) (user : Bool), addr < 2 ^ 64 → ∀ n, n = accessSize size → s.coreRuns = true →
      s.undef = none → s.mgt.ops = [] → s.mgt.drain = none →
      (∀ e r off, regionOf addr = some (r, off) → s.mpuCheck addr user true false = none →
        (r.isMain = true → oneRegion addr n = true → (addr % n ≠ 0 → user = true → s.misalignTrap = false) →
          ((r = .sram → e ≠ some .uncorrectable) → Does (.coreLoad addr size user e) s fun t =>
            t.answer = .bytes (s.coreBytes addr n) ∧ t.mgt.ops = [] ∧ t.mgt.sb = s.mgt.sb ∧ t.regs = s.regs ∧
            (if r = .sram ∧ e = some .corrected then Counted s t R.MGT_SRAM_CE else t.ctrs = s.ctrs) ∧ t.vault = s.vault) ∧
          (r = .sram → e = some .uncorrectable → Does (.coreLoad addr size user e) s fun t => t.answer = .trap xLoadAccess addr ∧
            t.fget R.MGT_BERR_STS_CAUSE = beSRAM_UE ∧ t.event 0x0C 3 = true ∧ t.mgt.resv = none ∧ t.vault = s.vault)) ∧
        (r.isMain = false → addr % n = 0 →
          (s.sbChannel r = true → Does (.coreLoad addr size user e) s fun t => t.mgt.ops.map (·.kind) = [.load] ∧
            t.mgt.sb = s.mgt.sb ∧ t.answer = s.answer ∧ t.regs = s.regs ∧ t.ctrs = s.ctrs ∧ t.vault = s.vault) ∧
          (s.sbChannel r = false → Does (.coreLoad addr size user e) s fun t => t.mgt.sb = s.mgt.sb ∧ t.vault = s.vault ∧
            if r = .regs then t.mgt.ops = [] else t.mgt.ops.map (·.kind) = [.load] ∨ t.answer = .trap xLoadAccess addr))) ∧
      (∀ data e wide fail (op : Fin 9), ∀ x ∈ [(Instr.coreLoad addr size user e, true, false, xLoadAccess),
          (.coreStore addr size data user e, false, true, xStoreAccess), (.coreLr addr wide user e, true, false, xStoreAccess),
          (.coreSc addr data wide user fail e, false, true, xStoreAccess), (.coreAmo op addr data wide user e, true, true, xStoreAccess)],
        (regionOf addr = none → Does x.1 s fun t => t.answer = .trap x.2.2.2 addr ∧ t.mgt.trap = some (x.2.2.2, addr) ∧
          t.mgt.resv = none ∧ t.mgt.sb = s.mgt.sb ∧ t.regs = s.regs ∧ t.ctrs = s.ctrs ∧ t.vault = s.vault) ∧
        (∀ r off, regionOf addr = some (r, off) → ∀ c, s.mpuCheck addr user x.2.1 x.2.2.1 = some c → c.1 < 4 → c.2.1 < 32 → c.2.2 < 32 →
          Does x.1 s fun t => t.answer = .trap x.2.2.2 addr ∧ t.fget R.MGT_MPU_STS_CAUSE = c.1 ∧
            t.fget R.MGT_MPU_STS_REGION0 = c.2.1 ∧ t.fget R.MGT_MPU_STS_REGION1 = c.2.2 ∧ Counted s t R.MGT_MPU_FAULTS ∧
            t.event 0x0D 0 = true ∧ t.mgt.resv = none ∧ t.mgt.sb = s.mgt.sb ∧ t.vault = s.vault)) ∧
      (∀ e data r off, regionOf addr = some (r, off) → ∀ x ∈ [(Instr.coreLoad addr size user e, true, false, xLoadMisaligned, xLoadAccess),
          (.coreStore addr size data user e, false, true, xStoreMisaligned, xStoreAccess)],
        s.mpuCheck addr user x.2.1 x.2.2.1 = none →
        ∀ bad, bad = (r.isMain && (!oneRegion addr n || (x.2.2.1 && r != .sram))) →
        (bad = true ∨ (addr % n ≠ 0 ∧ (r.isMain = false ∨ (user = true ∧ s.misalignTrap = true)))) →
        Does x.1 s fun t => t.answer = .trap (if bad then x.2.2.2.2 else x.2.2.2.1) addr ∧ t.mgt.ops = [] ∧ t.mgt.resv = none ∧
          t.mgt.sb = s.mgt.sb ∧ t.regs = s.regs ∧ t.ctrs = s.ctrs ∧ t.vault = s.vault) ∧
      (∀ e data r off, regionOf addr = some (r, off) → s.mpuCheck addr user false true = none →
        ((r = .sram ∧ oneRegion addr n = true ∧ (addr % n ≠ 0 → user = true → s.misalignTrap = false)) ∨
          (r.isMain = false ∧ addr % n = 0)) → ∀ ps, ps = storePieces addr (leBytes n data) →
        (s.mgt.sb.length + ps.length ≤ 16 → Does (.coreStore addr size data user e) s fun t =>
          (r = .sram → t.coreBytes addr n = leBytes n data ∧
            ∀ a, a < addr ∨ addr + n ≤ a → t.coreBytes a 1 = s.coreBytes a 1) ∧
          t.mgt.sb.map (·.data) = s.mgt.sb.map (·.data) ++ ps.map (·.2) ∧
          t.mgt.sb.map (·.addr) = s.mgt.sb.map (·.addr) ++ ps.map (·.1) ∧ t.mgt.ops = [] ∧
          t.regs = s.regs ∧ t.ctrs = s.ctrs ∧ t.vault = s.vault) ∧
        (16 < s.mgt.sb.length + ps.length → Does (.coreStore addr size data user e) s fun t =>
          t.mgt.ops.map (·.kind) = [.store] ∧ t.mgt.sb = s.mgt.sb ∧ t.regs = s.regs ∧ t.ctrs = s.ctrs ∧ t.vault = s.vault)) ∧
      (∀ k pred p, p = (if k = 0 then pred % 16 else if k = 1 then 3 else 5) →
        ((bit p 0 = true → s.sbHas true = false) → (bit p 2 = true → s.sbHas false = false ∧ s.storesOut = [] ∧ s.cul.door = [] ∧
          s.pairWrites = [] ∧ s.barrierOpen 32 = false) → Does (.coreFence k pred) s fun t =>
          t.mgt.ops = [] ∧ t.mgt.sb = s.mgt.sb ∧ t.regs = s.regs ∧ t.ctrs = s.ctrs ∧ t.vault = s.vault) ∧
        (((bit p 0 = true ∧ s.sbHas true = true) ∨ (bit p 2 = true ∧ s.sbHas false = true)) → Does (.coreFence k pred) s fun t =>
          t.mgt.ops.map (·.kind) = [.fence p] ∧ t.mgt.sb = s.mgt.sb ∧ t.regs = s.regs ∧ t.vault = s.vault))) ∧
  (∀ (s : State) (addr : Nat) (wide user : Bool), addr < 2 ^ 64 → ∀ n, n = atomicSize wide → s.coreRuns = true →
      s.undef = none → s.mgt.ops = [] → s.mgt.drain = none →
      (∀ data fail e (op : Fin 9) r off, regionOf addr = some (r, off) → ∀ x ∈ [(Instr.coreLr addr wide user e, true, false),
          (.coreSc addr data wide user fail e, false, true), (.coreAmo op addr data wide user e, true, true)],
        s.mpuCheck addr user x.2.1 x.2.2 = none →
        ((r ≠ .sram ∨ addr % n ≠ 0) → Does x.1 s fun t =>
          t.answer = .trap (if r = .sram then xStoreMisaligned else xStoreAccess) addr ∧ t.mgt.resv = none ∧ t.mgt.ops = [] ∧
          t.regs = s.regs ∧ t.ctrs = s.ctrs ∧ t.vault = s.vault) ∧
        (r = .sram → addr % n = 0 → s.mgt.sb ≠ [] → Does x.1 s fun t => t.mgt.ops.length = 1 ∧ t.mgt.sb = s.mgt.sb ∧
          t.mgt.resv = s.mgt.resv ∧ t.answer = s.answer ∧ t.regs = s.regs ∧ t.ctrs = s.ctrs ∧ t.vault = s.vault)) ∧
      (∀ off, regionOf addr = some (.sram, off) → addr % n = 0 → s.mgt.sb = [] →
        (∀ e data (op : Fin 9), e = some .uncorrectable → ∀ x ∈ [(Instr.coreLr addr wide user e, false), (.coreAmo op addr data wide user e, true)],
          s.mpuCheck addr user true x.2 = none → Does x.1 s fun t => t.answer = .trap xStoreAccess addr ∧
            t.fget R.MGT_BERR_STS_CAUSE = beSRAM_UE ∧ t.event 0x0C 3 = true ∧ t.mgt.resv = none ∧ t.vault = s.vault) ∧
        (∀ e, e ≠ some .uncorrectable → s.mpuCheck addr user true false = none → Does (.coreLr addr wide user e) s fun t =>
          t.answer = .bytes (s.coreBytes addr n) ∧ t.mgt.resv = some (addr / 64, s.now) ∧ t.regs = s.regs ∧
          (if e = some .corrected then Counted s t R.MGT_SRAM_CE else t.ctrs = s.ctrs) ∧ t.vault = s.vault) ∧
        (∀ data fail, s.mpuCheck addr user false true = none →
          ∀ may, may = (s.mgt.loop != some { addr := addr, size := n, failed := true } || s.externalIrq || s.mgt.timer) →
          (∀ e, s.reserved addr = true → (fail = true → may = false) → Does (.coreSc addr data wide user fail e) s fun t =>
            t.answer = .bytes (leBytes 8 0) ∧ t.mgt.resv = none ∧
            (∀ a, a < off ∨ off + n ≤ a → storeGet none t.mgt.sram a = storeGet none s.mgt.sram a) ∧
            (if n = 4 ∧ e = some .uncorrectable then t.mgt.sram = s.mgt.sram ∧ t.fget R.MGT_BERR_STS_CAUSE = beSRAM_UE
              else t.coreBytes addr n = leBytes n data ∧ t.regs = s.regs ∧
                if n = 4 ∧ e = some .corrected then Counted s t R.MGT_SRAM_CE else t.ctrs = s.ctrs) ∧
            t.pending = s.pending ∧ t.mgt.flash = s.mgt.flash ∧ t.sec = s.sec) ∧
          (∀ e, ((fail = true ∧ may = true) ∨ s.reserved addr = false) → Does (.coreSc addr data wide user fail e) s fun t =>
            t.answer ≠ .bytes (leBytes 8 0) ∧ t.mgt.resv = none ∧ t.regs = s.regs ∧ t.ctrs = s.ctrs ∧ t.vault = s.vault)) ∧
        (∀ (op : Fin 9) data e, e ≠ some .uncorrectable → s.mpuCheck addr user true true = none →
          Does (.coreAmo op addr data wide user e) s fun t => t.answer = .bytes (s.coreBytes addr n) ∧
          t.coreBytes addr n = leBytes n (amoResult op.val (8 * n) (leNat (s.coreBytes addr n)) (data % 256 ^ n)) ∧
          t.mgt.resv = s.mgt.resv ∧
          (∀ a, a < off ∨ off + n ≤ a → storeGet none t.mgt.sram a = storeGet none s.mgt.sram a) ∧ t.regs = s.regs ∧
          (if e = some .corrected then Counted s t R.MGT_SRAM_CE else t.ctrs = s.ctrs) ∧
          t.pending = s.pending ∧ t.mgt.flash = s.mgt.flash ∧ t.sec = s.sec))) ∧
  (∀ (s : State) (addr n data : Nat) (user wide fail : Bool) (op : Fin 9) (e : Option EccFault), s.undef = none →
      ∀ c ∈ [Instr.coreLoad addr n user e, .coreStore addr n data user e, .coreFence n data, .coreLr addr wide user e,
        .coreSc addr data wide user fail e, .coreAmo op addr data wide user e],
      (s.coreRuns = false → exec c s = .next s) ∧
      (s.coreRuns = true → s.mgt.drain ≠ none → Does c s fun t => t.mgt.ops.length = s.mgt.ops.length + 1 ∧
        t.mgt.ops.take s.mgt.ops.length = s.mgt.ops ∧ t.mgt.sb = s.mgt.sb ∧ t.answer = s.answer ∧ t.regs = s.regs ∧
        t.ctrs = s.ctrs ∧ t.vault = s.vault))

/-! ### The management complex (chapter 14) -/

/-- Host commands and the sample queue (R323, R325, R326): a doorbell sets the pending bit or merges into it, MGT_HCMD_TAKE
clears it, but for a doorbell of its own core cycle; GET_FW_INFO writes its answer from byte 64 of the block, and STATUS, towards
the partition's host wherever that is, but in ISOLATE, where the writes are dropped and counted, and in SAFE; MGT_SQ_HEAD frees
entries up to the tail; the sample-rate governor, once its period is over, doubles N of its sampling sessions when the queue has
been over 3,072 entries for HYST evaluations, halves it when it has been under 1,024, and keeps it between NMIN and NMAX. -/
def Obligations.HostCommandsAndSamples : Prop :=
  ∀ (s : State) (p : Nat), p < 32 → s.alive = true →
    (bit (s.reg R.MGT_HCMD_PEND).toNat p = false → Does (.hcmdDoorbell p) s fun t =>
      (∀ k, k < 32 → bit (t.reg R.MGT_HCMD_PEND).toNat k = (k == p || bit (s.reg R.MGT_HCMD_PEND).toNat k)) ∧
      (∀ a, a ≠ R.MGT_HCMD_PEND → t.reg a = s.reg a) ∧ t.ctrs = s.ctrs ∧ t.vault = s.vault) ∧
    (bit (s.reg R.MGT_HCMD_PEND).toNat p = true → Does (.hcmdDoorbell p) s fun t => Counted s t R.MGT_HCMD_MERGED ∧
      t.regs = s.regs ∧ (∀ a, a ≠ R.MGT_HCMD_MERGED → t.ctr a = s.ctr a) ∧ t.vault = s.vault) ∧
    (Does (.hcmdDoorbell p) s fun t => exec (.hcmdTake p) t = .next t) ∧
    (storeGet 0 s.mgt.bells p ≠ s.now + 1 → Does (.hcmdTake p) s fun t =>
      (∀ k, k < 32 → bit (t.reg R.MGT_HCMD_PEND).toNat k = (k != p && bit (s.reg R.MGT_HCMD_PEND).toNat k)) ∧
      (∀ a, a ≠ R.MGT_HCMD_PEND → t.reg a = s.reg a) ∧ t.ctrs = s.ctrs ∧ t.vault = s.vault) ∧
    (∀ vec irq, Does (.getFwInfo p vec irq) s fun t => t.regs = s.regs ∧ t.vault = s.vault ∧
      (s.mode ≠ mSAFE → s.isolating = true → (min (s.ctr R.ERR_ISO_DROP + 2) counterMax = t.ctr R.ERR_ISO_DROP)) ∧
      (∀ fid q e, s.mode ≠ mSAFE → s.isolating = false → s.homeOf p = some (fid, q) → s.egressTo 88 fid q 0 = some e → s.shut e = false →
        t.holdsWrite (BitVec.ofNat 64 ((s.hcmdBlock p + 64) % 2 ^ 56)) (leBytes 4 (s.reg R.MGT_FW_STS).toNat ++
          s.memBytes (slotAddr 0 + 8) 2 ++ s.memBytes (slotAddr 1 + 8) 2) ∧
        t.holdsWrite (BitVec.ofNat 64 ((s.hcmdBlock p + 2) % 2 ^ 56)) (leBytes 2 1))) ∧
    (∀ h d, d = min ((h % 4096 + 4096 - s.fget R.MGT_SQ_STS_HEAD) % 4096) (s.fget R.MGT_SQ_STS_COUNT) →
      Does (.sqHeadWrite h) s fun t => t.fget R.MGT_SQ_STS_HEAD = (s.fget R.MGT_SQ_STS_HEAD + d) % 4096 ∧
        t.fget R.MGT_SQ_STS_COUNT = s.fget R.MGT_SQ_STS_COUNT - d ∧
        t.fget R.MGT_SQ_HEAD_HEAD = (s.fget R.MGT_SQ_STS_HEAD + d) % 4096 ∧
        (∀ a, a ≠ R.MGT_SQ_STS → a ≠ R.MGT_SQ_HEAD → t.reg a = s.reg a) ∧ t.ctrs = s.ctrs ∧ t.vault = s.vault) ∧
    (∀ due, due = (s.flag R.MGT_SQ_GOV_EN && decide (storeGet 0 s.govAt gSAMPLE + s.fget R.MGT_SQ_GOV_PERIOD_MS * 1250000 ≤ s.now)) →
      (due = false → exec .sampleGovTick s = .next s) ∧
      (due = true → ∀ c, c = s.fget R.MGT_SQ_STS_COUNT → ∀ h, h = s.fget R.MGT_SQ_GOV_HYST →
        ∀ hi, hi = (if 3072 < c then s.mgt.hi + 1 else 0) → ∀ lo, lo = (if c < 1024 then s.mgt.lo + 1 else 0) →
        ∀ low, low = s.fget R.MGT_SQ_NMIN_N → ∀ top, top = s.fget R.MGT_SQ_NMAX_N → Does .sampleGovTick s fun t =>
          storeGet 0 t.govAt gSAMPLE = s.now ∧ t.mgt.hi = (if h ≤ hi then 0 else hi) ∧ t.mgt.lo = (if h ≤ lo then 0 else lo) ∧
          (∀ k, k < 4 → bit (s.fget R.MGT_SQ_GOV_SESSIONS) k = true → s.fget (R.MCM_MODE_MODE k) = 2 →
            ∀ n, n = s.fget (R.MCM_SAMPLE_N_N k) → ∀ m, m = (if h ≤ hi then max low (min (2 * n) top) else n) →
            t.fget (R.MCM_SAMPLE_N_N k) = (if h ≤ lo then min top (max (m / 2) low) else m)) ∧
          (∀ k, k < 4 → (bit (s.fget R.MGT_SQ_GOV_SESSIONS) k = false ∨ s.fget (R.MCM_MODE_MODE k) ≠ 2) →
            t.fget (R.MCM_SAMPLE_N_N k) = s.fget (R.MCM_SAMPLE_N_N k)) ∧
          ((h ≤ hi ∨ h ≤ lo) ∨ t.regs = s.regs) ∧ t.vault = s.vault))

/-- The watchdog, firmware updates and the boot ROM's loads (R327, R329, R330, R332, R411): a kick starts the period anew, but one in
the cycle of an expiry is ignored; half of it without one warns with event 2, all of it fails over; GO of an update in a service mode
brings UPDATE with RESULT BUSY, and is refused with its cause elsewhere, while one runs and while a failover does; the slot loaded
enters SRAM and service when it verifies, or else the other one or the running one with FALLBACK, or else the complex is lost; DONE
ends the update with the mode that was left, or DRAIN where the thermal governor has asked for it, 500 ms without it with cause
LATE; in ISOLATE the mode stays. -/
def Obligations.WatchdogAndUpdates : Prop :=
  ∀ (s : State), s.alive = true →
    (∀ due, due = (s.watched && decide (s.mgt.kickAt + s.fget R.MGT_WDOG_PERIOD_MS * 1250000 ≤ s.now)) →
      (due = false → s.fget R.MGT_WDOG_EN = 1 → Does .wdogKick s fun t => t.mgt.kickAt = s.now ∧ t.mgt.warned = false ∧
        t.regs = s.regs ∧ t.ctrs = s.ctrs ∧ t.vault = s.vault) ∧
      ((due = true ∨ s.fget R.MGT_WDOG_EN = 0) → exec .wdogKick s = .next s) ∧
      (∀ warn, warn = (s.watched && !s.mgt.warned && decide (2 * s.mgt.kickAt + s.fget R.MGT_WDOG_PERIOD_MS * 1250000 ≤ 2 * s.now)) →
        (warn = true → Does .wdogWarn s fun t => t.mgt.warned = true ∧ t.event 0x0C 2 = true ∧ t.mgt.kickAt = s.mgt.kickAt ∧
          KeepsRegs s t [] ∧ t.vault = s.vault) ∧
        (warn = false → exec .wdogWarn s = .next s)) ∧
      (due = false → exec .wdogExpire s = .next s) ∧
      (due = true → Does .wdogExpire s fun t => Counted s t R.MGT_WDOG_EXPIRE ∧ t.vault = s.vault ∧
        (s.mgt.trig = none → s.failing = true → t.regs = s.regs ∧ t.mgt = s.mgt) ∧
        (s.mgt.trig = none → s.failing = false → t.mgt.kickAt = s.now ∧ t.mgt.warned = false ∧ t.mgt.ops = [] ∧
          (s.pairState (1 - s.activePair) = 1 → t.pairState (1 - s.activePair) = 0 ∧ t.pairState s.activePair = 2 ∧
            t.fget R.MGT_PAIR_STS_CAUSE = pcWDOG ∧ Counted s t R.MGT_FAILOVERS ∧ t.event 0x0C 0 = true) ∧
          (s.pairState (1 - s.activePair) ≠ 1 → t.fget R.MGT_PAIR_STS_CAUSE = pcNO_STANDBY)))) ∧
    (∀ k, k < 2 →
      ((s.updating = true ∨ s.failing = true) → Does (.firmwareUpdate k) s fun t =>
        t.fget R.MGT_UPDATE_STS_RESULT = (if s.updating then 1 else 3) ∧
        t.fget R.MGT_UPDATE_STS_CAUSE = 2 ∧ t.event 0x0C 5 = true ∧ t.mgt = s.mgt ∧ KeepsRegs s t [R.MGT_UPDATE_STS] ∧
        t.vault = s.vault) ∧
      (s.updating = false → s.failing = false → serviceMode s.mode = false → Does (.firmwareUpdate k) s fun t =>
        t.fget R.MGT_UPDATE_STS_RESULT = 3 ∧ t.fget R.MGT_UPDATE_STS_CAUSE = 1 ∧ t.event 0x0C 5 = true ∧ t.mgt = s.mgt ∧
        KeepsRegs s t [R.MGT_UPDATE_STS] ∧ t.vault = s.vault) ∧
      (s.updating = false → s.failing = false → serviceMode s.mode = true → Does (.firmwareUpdate k) s fun t =>
        t.mode = mUPDATE ∧ t.fget R.MGT_UPDATE_STS_RESULT = 1 ∧ t.fget R.MGT_UPDATE_STS_PRIOR = s.mode ∧ t.mgt.bootSlot = some k ∧
        t.mgt.booting = true ∧ t.mgt.updateAt = s.now ∧ t.mgt.ops = [] ∧ t.event 0x000 0 = true ∧ t.vault = s.vault)) ∧
    ((s.mgt.booting = false ∨ s.mode = mSAFE ∨ s.lost = true ∨ (s.mgt.bootSlot = none ∧ s.fget R.DEV_STRAP_MODE = 1)) →
      exec .bootLoadDone s = .next s) ∧
    (s.mgt.booting = true → s.mode ≠ mSAFE → s.lost = false → (s.mgt.bootSlot = none → s.fget R.DEV_STRAP_MODE ≠ 1) →
      ∀ a, a = s.mgt.bootSlot.getD (if s.fget R.DEV_STRAP_MODE = 3 then 1 else s.tableSlot) →
      ∀ b, b = (if s.mgt.bootSlot = none then 1 - a else s.fget R.MGT_FW_STS_SLOT) →
      ∀ x, x = s.imageAt (slotAddr a) 1 → ∀ y, y = s.imageAt (slotAddr b) 1 →
      ∀ okA, okA = (s.imageCause s.policy 1 x.1 x.2.1 x.2.2).isNone → ∀ okB, okB = (s.imageCause s.policy 1 y.1 y.2.1 y.2.2).isNone →
      ((okA || okB) = true → ∀ body, body = (if okA then x.2.1 else y.2.1) → a < 2 → Does .bootLoadDone s fun t =>
        t.fget R.DEV_MODE_STS_FW_RUNNING = 1 ∧ t.fget R.MGT_FW_STS_SLOT = (if okA then a else b) ∧
        t.fget R.MGT_FW_STS_FALLBACK = (if okA then 0 else 1) ∧ (okA = true → Counted s t R.SEC_VERIFIES) ∧
        t.mgt.booting = false ∧ t.mgt.kickAt = s.now ∧
        (∀ i (v : Byte), body[i]? = some v → storeGet none t.mgt.sram i = some v) ∧
        (∀ i, body.length ≤ i → storeGet none t.mgt.sram i = storeGet none s.mgt.sram i) ∧ t.mgt.flash = s.mgt.flash ∧
        t.sec.otp = s.sec.otp ∧ t.pending = s.pending) ∧
      ((okA || okB) = false → Does .bootLoadDone s fun t => t.lost = true ∧ t.mgt.booting = false ∧ t.mgt.ops = [] ∧
        (s.mgt.bootSlot = none → bit (t.reg R.DEV_SELFTEST_FAIL).toNat 0x0E = true ∧ (s.mode = mLIMP → t.mode = mSAFE)) ∧
        t.vault = s.vault)) ∧
    (s.updating = false → exec .updateDone s = .next s) ∧
    ((s.updating = false ∨ s.now < s.mgt.updateAt + 625000000) → exec .updateLate s = .next s) ∧
    (s.updating = true → ∀ x ∈ [(Instr.updateDone, 2, 0, 4, 0), (.updateLate, 3, 3, 5, s.mgt.updateAt + 625000000)], x.2.2.2.2 ≤ s.now →
      ∀ m, m = s.fget R.MGT_UPDATE_STS_PRIOR → ∀ d, d = (s.board.drainDue && serviceMode m) → Does x.1 s fun t =>
        t.fget R.MGT_UPDATE_STS_RESULT = x.2.1 ∧ t.fget R.MGT_UPDATE_STS_CAUSE = x.2.2.1 ∧ t.mgt.kickAt = s.now ∧
        t.mgt.warned = false ∧ t.event 0x0C x.2.2.2.1 = true ∧
        t.mode = (if s.mode = mUPDATE then (if d then mDRAIN else m) else s.mode) ∧
        (s.mode = mISOLATE → s.fget R.ERR_ISO_STS_PRIOR = mUPDATE → t.fget R.ERR_ISO_STS_PRIOR = m) ∧ t.vault = s.vault)

/-! ### The culvert bridge (chapter 16) -/

/-- Accesses of the local bus (R335, R349, R351, R354, R355, R357 to R359): an access reaches an idle bridge and is cut into its
pieces, with the whole block of a prefetch range; a read that a prefetch buffer holds needs no cycle; one to a chip select that is off
ends as a timeout does, a write to a DEAD one fails and is counted; while a warm reset drains an access waits at the door; the bridge
takes the free bus for the next piece, and the last data phase answers, or the external master that has asked takes the bus; a read
that waits too long is denied, a write leaves its chip select DEAD; an external master takes the free bus, which drops the prefetch
buffers. Barriers, the warm reset and the inputs
of the local bus (R342, R359 to R362): a barrier waits for the posted writes in the queue as it starts, and reads DONE once
they have ended, FAILED with event 1 where one failed; REVIVE clears DEAD for its mask; the warm reset drains, then discards
posted writes and ends reads; a sideband level counts after DEBOUNCE polls; asserted interrupt inputs show and raise their
events; LB_SB[31] wakes the device from STANDBY. -/
def Obligations.CulvertBus : Prop :=
  (∀ (s : State), s.alive = true → s.cul.door = [] →
      (∀ (r : Requester) cs addr len data, cs < 8 → addr < 2 ^ 32 → len ≤ 4096 → data.length ≤ 4096 → s.cul.ops = [] → s.culOpen = true →
        (s.flag (R.CUL_CS_CFG_EN cs) = true →
          (∀ pf, pf = (s.flag R.CUL_CTL_PF_EN && s.lbPrefetch cs addr) → ∀ adr, adr = s.lbAddrs cs addr len →
            ∀ hit, hit = s.prefetchHit { src := .req r, cs := cs, addr := addr, len := len, write := false } adr →
            ∀ base, base = adr.headD 0 / 32 * 32 → ∀ pre, pre = (pf && adr.all fun a => a / 32 * 32 == base) →
            (hit = none → Does (.localAccess r cs addr len false data) s fun t =>
              (∃ o, t.cul.ops = [o] ∧ (r ≠ .debug → o.src = .req r) ∧ (r = .debug → t.coreReads.map (·.why) = s.coreReads.map (·.why) ++ [.debug]) ∧
                o.cs = cs ∧ o.write = false ∧ o.len = len ∧ o.prefetch = pre ∧
                o.todo = s.lbPieces cs (if pre then (upTo 32).map (base + ·) else adr)) ∧ t.cul.asked = s.now ∧ t.cul.door = [] ∧
              t.fget R.CUL_STS_RQ_USED = 1 ∧ t.fget R.CUL_STS_PQ_USED = 0 ∧ (∀ a, a ≠ R.CUL_STS → t.reg a = s.reg a) ∧
              t.vault = s.vault) ∧
            (∀ p, hit = some p → Does (.localAccess r cs addr len false data) s fun t => t.cul.ops = [] ∧ t.cul.prefetch = s.cul.prefetch ∧
              t.cul.hits.map (·.2) = s.cul.hits.map (·.2) ++ [adr.map fun a => p.data.getD (a - p.base) 0] ∧ t.regs = s.regs ∧
              t.vault = s.vault)) ∧
          (s.dead cs = false → Does (.localAccess r cs addr len true data) s fun t =>
            (∃ o, t.cul.ops = [o] ∧ o.src = .req r ∧ o.cs = cs ∧ o.write = true ∧ o.data = data ∧ o.posted = s.lbPosted cs addr ∧
              o.todo = s.lbPieces cs (s.lbAddrs cs addr data.length)) ∧ t.cul.asked = s.now ∧ t.cul.door = [] ∧
            (∀ a, a ≠ R.CUL_STS → t.reg a = s.reg a) ∧ t.vault = s.vault)) ∧
        (s.dead cs = true → Does (.localAccess r cs addr len true data) s fun t => t.cul.ops = [] ∧ Counted s t R.CUL_DEAD_FAIL ∧
          (∀ a, a ≠ R.CUL_STS → t.reg a = s.reg a) ∧ t.vault = s.vault) ∧
        (s.flag (R.CUL_CS_CFG_EN cs) = false →
          (Does (.localAccess r cs addr len false data) s fun t => t.cul.ops = [] ∧ (r ≠ .debug → t.answer = .denied) ∧
            Counted s t R.CUL_TIMEOUTS ∧ t.event 0x10 0 = true ∧ KeepsRegs s t [R.CUL_STS] ∧ t.vault = s.vault) ∧
          (s.dead cs = false → Does (.localAccess r cs addr len true data) s fun t => t.cul.ops = [] ∧ t.dead cs = true ∧
            Counted s t R.CUL_TIMEOUTS ∧ t.event 0x10 0 = true ∧ t.event 0x10 2 = true ∧ KeepsRegs s t [R.CUL_STS] ∧ t.vault = s.vault))) ∧
      (∀ (r : Requester) cs addr len w data, s.culOpen = false → Does (.localAccess r cs addr len w data) s fun t => t.cul.door.length = 1 ∧ t.cul.ops = s.cul.ops ∧
          t.regs = s.regs ∧ t.vault = s.vault) ∧
      (∀ free, free = (s.cul.running == none && !s.flag R.CUL_STS_EXT_OWNS && !s.cul.extReq) →
        ((free = false ∨ s.cul.ops = []) → exec .lbCycleStart s = .next s) ∧
        (∀ o os, free = true → s.cul.ops = o :: os → o.todo ≠ [] →
          ((o.write = true → s.dead o.cs = false) → Does .lbCycleStart s fun t => t.cul.running = some s.now ∧ t.cul.ops = s.cul.ops ∧
            t.regs = s.regs ∧ t.vault = s.vault) ∧
          (o.write = true → s.dead o.cs = true → Does .lbCycleStart s fun t => t.cul.running = none ∧ t.cul.asked = s.now ∧
            Counted s t R.CUL_DEAD_FAIL ∧ t.vault = s.vault))) ∧
      (∀ data (r : Requester) t0 o p ps, s.cul.running = some t0 → s.cul.ops = [o] → o.src = .req r → o.todo = p :: ps →
        ∀ grant, grant = (s.cul.extReq && !s.flag R.CUL_STS_EXT_OWNS) →
        (2 * t0 + 25 * s.lbClocks o p ≤ 2 * s.now →
          (ps ≠ [] → Does (.lbCycleEnd data) s fun t => (∃ x, t.cul.ops = [x] ∧ x.todo = ps ∧ x.id = o.id) ∧
            t.cul.running = none ∧ t.cul.asked = s.now ∧ t.flag R.CUL_STS_EXT_OWNS = (grant || s.flag R.CUL_STS_EXT_OWNS) ∧
            (∀ a, a ≠ R.CUL_STS → t.reg a = s.reg a) ∧ t.vault = s.vault) ∧
          (ps = [] → o.write = true → Does (.lbCycleEnd data) s fun t => t.cul.ops = [] ∧ t.cul.running = none ∧
            t.answer = .bytes [] ∧ (∀ a, a ≠ R.CUL_STS → t.reg a = s.reg a) ∧ t.vault = s.vault) ∧
          (∀ got, got = (p.zip (upTo p.length)).foldl (fun g a => storePut 0 a.1 (data.getD a.2 0) g) o.got → ps = [] → o.write = false →
            Does (.lbCycleEnd data) s fun t => t.cul.ops = [] ∧ t.cul.running = none ∧
              t.answer = .bytes ((s.lbAddrs o.cs o.addr o.len).map fun a => storeGet 0 got a) ∧
              (∀ a, a ≠ R.CUL_STS → t.reg a = s.reg a) ∧ t.vault = s.vault)) ∧
        (2 * s.now < 2 * t0 + 25 * s.lbClocks o p → exec (.lbCycleEnd data) s = .next s)) ∧
      ((s.cul.ops = [] ∨ s.now < s.cul.asked + s.fget R.CUL_TIMEOUT_US * 1250) → exec .culTimeoutExpiry s = .next s) ∧
      (∀ (r : Requester) o, s.cul.ops = [o] → o.src = .req r → o.cs < 8 → s.cul.asked + s.fget R.CUL_TIMEOUT_US * 1250 ≤ s.now →
        Does .culTimeoutExpiry s fun t => t.cul.ops = [] ∧ Counted s t R.CUL_TIMEOUTS ∧ t.event 0x10 0 = true ∧
          (o.write = false → t.answer = .denied) ∧
          (o.write = true → bit (t.fget R.CUL_STS_DEAD) o.cs = true ∧ t.event 0x10 2 = true) ∧ t.vault = s.vault) ∧
      (s.flag R.CUL_STS_EXT_OWNS = true → exec .lbBusRequest s = .next s) ∧
      (s.flag R.CUL_STS_EXT_OWNS = false →
        (s.cul.running = none → Does .lbBusRequest s fun t => t.flag R.CUL_STS_EXT_OWNS = true ∧ t.cul.prefetch = [] ∧
          t.cul.extReq = false ∧ Counted s t R.CUL_EXT_GRANTS ∧ (∀ a, a ≠ R.CUL_STS → t.reg a = s.reg a) ∧ t.vault = s.vault) ∧
        (s.cul.running ≠ none → Does .lbBusRequest s fun t => t.cul.extReq = true ∧ t.regs = s.regs ∧ t.vault = s.vault)) ∧
      (Does .lbBusRelease s fun t => t.flag R.CUL_STS_EXT_OWNS = false ∧ t.cul.extReq = false ∧
        (∀ a, a ≠ R.CUL_STS → t.reg a = s.reg a) ∧ t.vault = s.vault) ∧
      (Does .prefetchExpire s fun t => t.cul.prefetch = s.cul.prefetch.filter (fun p => decide (s.now < p.made + 1250)) ∧
        t.regs = s.regs ∧ t.cul.ops = s.cul.ops ∧ t.vault = s.vault)) ∧
  (∀ (s : State),
      (∀ (r : Requester), (∀ ws, ws = (s.cul.ops.filter fun o => o.write && o.posted).map (·.id) →
          ((s.cul.barriers.find? fun b => b.view == reqNum r) = none → Does (.culBarrier r) s fun t =>
            storeGet {} t.cul.views (reqNum r) = {} ∧ t.cul.barriers = s.cul.barriers.filter (fun b => b.view != reqNum r) ++
              [{ view := reqNum r, waits := ws }] ∧ t.regs = s.regs ∧ t.vault = s.vault) ∧
          (∀ b, (s.cul.barriers.find? fun b => b.view == reqNum r) = some b → Does (.culBarrier r) s fun t =>
            storeGet {} t.cul.views (reqNum r) = {} ∧ t.cul.barriers = s.cul.barriers.filter (fun b => b.view != reqNum r) ++
              [{ view := reqNum r, waits := ws ++ b.waits.filter (fun w => !ws.contains w), failed := b.failed, gather := b.gather }] ∧
            t.regs = s.regs ∧ t.vault = s.vault)) ∧
        (∀ b, (s.cul.barriers.find? fun b => b.view == reqNum r && b.waits.isEmpty && !b.gather) = some b →
          (b.failed = none → Does (.barrierDone r) s fun t => storeGet {} t.cul.views (reqNum r) = { done := true } ∧ b ∉ t.cul.barriers ∧
            t.regs = s.regs ∧ t.vault = s.vault) ∧
          (∀ cs a, b.failed = some (cs, a) → s.alive = true → Does (.barrierDone r) s fun t =>
            storeGet {} t.cul.views (reqNum r) = { done := true, failed := true, cs := cs, addr := a } ∧ b ∉ t.cul.barriers ∧
            t.event 0x10 1 = true ∧ KeepsRegs s t [] ∧ t.vault = s.vault)) ∧
        ((s.cul.barriers.find? fun b => b.view == reqNum r && b.waits.isEmpty && !b.gather) = none → exec (.barrierDone r) s = .next s)) ∧
      (∀ mask, Does (.culRevive mask) s fun t =>
        (∀ k, k < 8 → bit (t.fget R.CUL_STS_DEAD) k = (bit (s.fget R.CUL_STS_DEAD) k && !bit mask k)) ∧
        (∀ a, a ≠ R.CUL_STS → t.reg a = s.reg a) ∧ t.vault = s.vault) ∧
      (s.cul.warm = none → Does .culWarmReset s fun t => t.cul.warm = some s.now ∧ t.cul.ops = s.cul.ops ∧ t.regs = s.regs ∧
        t.vault = s.vault) ∧
      (s.cul.warm ≠ none → exec .culWarmReset s = .next s) ∧ (s.cul.warm = none → exec .culWarmResetDone s = .next s) ∧
      (∀ t0 o os, s.cul.warm = some t0 → s.cul.ops = o :: os → ((s.cul.running ≠ none ∧ o.write = true ∧ o.posted = false) ∨
          (s.lbPostedUsed ≠ 0 ∧ s.now < t0 + 12500)) → exec .culWarmResetDone s = .next s) ∧
      (∀ t0, s.cul.warm = some t0 → (s.cul.running = none ∨ (s.cul.ops.head?.all fun o => !o.write || o.posted) = true) →
        (s.lbPostedUsed = 0 ∨ t0 + 12500 ≤ s.now) → s.alive = true → s.ctr R.CUL_RST_DISCARD ≤ counterMax →
        Does .culWarmResetDone s fun t =>
        t.cul.warm = none ∧ t.cul.lbRst = s.now + 1250 ∧ t.cul.prefetch = [] ∧ (∀ o ∈ t.cul.ops, o.write = true ∧ o.posted = false) ∧
        t.ctr R.CUL_RST_DISCARD = min (s.ctr R.CUL_RST_DISCARD + (s.cul.ops.filter fun o => o.write && o.posted).length) counterMax ∧
        t.vault = s.vault) ∧
      (∀ levels : W32, s.now < s.cul.sbAt + s.fget R.CUL_SB_CTL_POLL_US * 1250 → exec (.sidebandPoll levels) s = .next s) ∧
      (∀ n, 2 * s.now < 2 * s.cul.intAt + 25 * s.fget R.CUL_INT_CTL_POLL → exec (.interruptPoll n) s = .next s) ∧
      (∀ levels : W32, s.cul.sbAt + s.fget R.CUL_SB_CTL_POLL_US * 1250 ≤ s.now → Does (.sidebandPoll levels) s fun t =>
        t.cul.sbAt = s.now ∧ (∀ k, k < 32 → bit (t.reg R.CUL_SB_STS).toNat k =
          (if storeGet 0 s.cul.sbCount k + 1 < s.fget R.CUL_SB_CTL_DEBOUNCE then bit (s.reg R.CUL_SB_STS).toNat k else bit levels.toNat k)) ∧
        KeepsRegs s t [R.CUL_SB_STS] ∧ t.vault = s.vault) ∧
      (∀ n, n < 256 → s.alive = true → 2 * s.cul.intAt + 25 * s.fget R.CUL_INT_CTL_POLL ≤ 2 * s.now → Does (.interruptPoll n) s fun t =>
        t.fget R.CUL_INT_STS_INT = n ∧ (∀ k, k < 8 → bit n k = true → t.event 0x12 k = true) ∧ t.cul.intAt = s.now ∧
        KeepsRegs s t [R.CUL_INT_STS] ∧ t.vault = s.vault) ∧
      (s.mode = mSTANDBY → s.fget R.CUL_SB_CTL_WAKE_EN = 1 → Does .sidebandWake s fun t => t.board.wake = true ∧ t.regs = s.regs ∧
        t.vault = s.vault) ∧
      ((s.mode ≠ mSTANDBY ∨ s.fget R.CUL_SB_CTL_WAKE_EN = 0) → exec .sidebandWake s = .next s))

/-! ### Slot power (chapter 17) -/

/-- What a command brings the slot power supervisor stands for its next tick (R368), here one with nothing else due. Turning
slots on and off (R220, R364, R369, R370, R374, R377, R380, R384): ON lets a present slot wait; with every
condition met its enabled channels start, a forced one with power-good at once, one not valid leaves it waiting with event 5;
the ramps over, it qualifies; the last
channel's power-good makes it ON with power-good, and PERST is released 100 ms later; a turn-off takes power-good and PERST at
once and the gates 100 ticks later; FORCE_ON gives power-good at once; LATCH_CLR releases the slots of its mask. Trips and the
slot power governor (R365, R366, R371 to R373, R375, R376, R379, R381, R382): a sample gives current, voltage, power and
energy at the resolution in force; regulation runs the fault timer; a trip of a channel that is on turns the whole slot off with
its cause, counted, with event 0, and with the governor on schedules a retry, or latches the slot once RETRY_MAX retries are used
up; a shorted FET
fences the slot; a due retry counts and starts; the window over, the count is reset; a removed card leaves its slot off, an
inserted one lets it wait. The full scale of the output's converter is a free value of the model (log entry 112). -/
def Obligations.SlotPower : Prop :=
  (∀ (s : State) (n c : Nat) (v : W32) (sense : Nat) (on : Bool), n < 24 → c < 2 → s.alive = true →
      s.fastOver n c sense = true →
      ∀ x ∈ [(Instr.measClear n v, SpvEvent.measClear n v.toNat), (.fastTrip n ⟨c, sense⟩, SpvEvent.fast n c),
          (.currentLimitStart n c, SpvEvent.limitStart n c), (.faultTimerExpiry n c, SpvEvent.timerExpiry n c), (.faultTimerStop n c, SpvEvent.timerStop n c),
          (.gateRiseTimeout n c, SpvEvent.gateRise n c), (.fetShort n c on, SpvEvent.fetShort n c on), (.insertionStart n, SpvEvent.start n),
          (.rampEnd n c, SpvEvent.rampEnd n c), (.channelPowerGood n c, SpvEvent.pgGood n c), (.perstRelease n, SpvEvent.perstRelease n),
          (.pgLost n c, SpvEvent.pgLost n c), (.slotOffGates n, SpvEvent.offGates n), (.slotRetry n, SpvEvent.retry n),
          (.retryWindowEnd n, SpvEvent.windowEnd n), (.slotRemoval n, SpvEvent.removal n), (.slotInsertion n, SpvEvent.insertion n),
          (.latchClear v, SpvEvent.latchClear v.toNat)],
        exec x.1 s = .next { s with spvDue := s.spvDue ++ [x.2] }) ∧
  (∀ (s : State) (n : Nat), n < 24 → s.alive = true → s.spvDue = [] →
      (s.slotState n = slOFF → s.flag (R.SPV_SLOT_STS_PRESENT n) = true → s.powerControllerOff n = false → Ticks (.slotOn n) s fun t =>
        t.flag (R.SPV_SLOT_CTL_ON n) = true ∧ t.slotState n = slWAIT ∧ KeepsRegs s t [R.SPV_SLOT_CTL n, R.SPV_SLOT_STS n] ∧
        t.vault = s.vault) ∧
      (s.slotState n = slWAIT → ((s.slot n).holdUntil = none ∨ s.flag R.SPV_GLB_CTL_GOV_EN = false) → s.insertionAllowed n = true →
        (s.badChannel n = none → Ticks (.insertionStart n) s fun t =>
          t.slotState n = (if (upTo 2).any (fun c => s.chanEnabled n c && !s.flag (R.SPV_CH_CTL_FORCE_ON n c)) then slRAMP else slON) ∧
          t.flag (R.SPV_SLOT_STS_PERST n) = true ∧
          (∀ c, c < 2 → s.chanEnabled n c = true → t.flag (R.SPV_CH_STS_ON n c) = true ∧
            ((t.slot n).chan c).ramping = !s.flag (R.SPV_CH_CTL_FORCE_ON n c) ∧
            (s.flag (R.SPV_CH_CTL_FORCE_ON n c) = true → t.flag (R.SPV_CH_STS_PG n c) = true)) ∧
          KeepsRegs s t [R.SPV_SLOT_STS n, R.SPV_CH_STS n 0, R.SPV_CH_STS n 1, R.SPV_GLB_STS] ∧ t.vault = s.vault) ∧
        (∀ c, s.badChannel n = some c → Ticks (.insertionStart n) s fun t => t.slotState n = slWAIT ∧ t.event (slotPage n) 5 = true ∧
          KeepsRegs s t [] ∧ t.vault = s.vault)) ∧
      (s.insertionAllowed n = false → Ticks (.insertionStart n) s fun t => t = s) ∧
      (∀ c, c < 2 → s.slotState n = slRAMP →
        (s.pgThr n c ≤ s.fget (R.SPV_MEAS_V_VOUT n c) → Ticks (.rampEnd n c) s fun t => ((t.slot n).chan c).ramping = false ∧
          t.slotState n = (if ((s.slot n).chan (1 - c)).ramping then slRAMP else slQUALIFY) ∧ KeepsRegs s t [R.SPV_SLOT_STS n] ∧
          t.vault = s.vault) ∧
        (s.fget (R.SPV_MEAS_V_VOUT n c) < s.pgThr n c → Ticks (.rampEnd n c) s fun t => t = s)) ∧
      (∀ c, c < 2 → s.flag (R.SPV_CH_STS_ON n c) = true → s.flag (R.SPV_CH_STS_FT_RUN n c) = false →
        ((s.slot n).chan c).ramping = false → s.slotLatched n = false → (s.slot n).offAt = none → s.chanEnabled n c = true →
        s.pgThr n c ≤ s.fget (R.SPV_MEAS_V_VOUT n c) →
        ((s.slot n).chan c).qualFrom + 1250 * (if c = 0 then s.fget (R.SPV_PG_CFG0_DELAY_US n) else s.fget (R.SPV_PG_CFG1_DELAY_US n)) ≤ s.now →
        (s.chanEnabled n (1 - c) = true → s.flag (R.SPV_CH_STS_PG n (1 - c)) = true) → Ticks (.channelPowerGood n c) s fun t =>
          t.flag (R.SPV_CH_STS_PG n c) = true ∧ t.slotState n = slON ∧ t.flag (R.SPV_SLOT_STS_PG n) = true ∧
          (s.flag (R.SPV_SLOT_STS_PG n) = false → bit (t.fget R.SPV_GLB_STS_PG) n = true ∧ (t.slot n).pgAt = some s.now ∧
            t.event (slotPage n) 4 = true) ∧
          KeepsRegs s t [R.SPV_CH_STS n c, R.SPV_SLOT_STS n, R.SPV_GLB_STS] ∧ t.vault = s.vault) ∧
      (∀ t0, (s.slot n).pgAt = some t0 →
        (t0 + 125000000 ≤ s.now → Ticks (.perstRelease n) s fun t => t.flag (R.SPV_SLOT_STS_PERST n) = false ∧ (t.slot n).pgAt = none ∧
          (∀ a, a ≠ R.SPV_SLOT_STS n → t.reg a = s.reg a) ∧ t.vault = s.vault) ∧
        (s.now < t0 + 125000000 → Ticks (.perstRelease n) s fun t => t = s)) ∧
      (Ticks (.slotOff n) s fun t => t.flag (R.SPV_SLOT_CTL_ON n) = false ∧ t.flag (R.SPV_SLOT_STS_PG n) = false ∧
        t.flag (R.SPV_SLOT_STS_PERST n) = true ∧ (t.slot n).retryDue = none ∧ (t.slot n).holdUntil = none ∧
        (t.slot n).offAt = (if (upTo 2).any (fun c => s.flag (R.SPV_CH_STS_ON n c)) then some s.now else none) ∧
        t.slotState n = (if s.slotLatched n then s.slotState n else slOFF) ∧
        KeepsRegs s t [R.SPV_SLOT_CTL n, R.SPV_SLOT_STS n, R.SPV_GLB_STS] ∧ t.vault = s.vault) ∧
      (∀ t0, (s.slot n).offAt = some t0 → t0 + 125000 ≤ s.now → Ticks (.slotOffGates n) s fun t => (t.slot n).offAt = none ∧
        (∀ c, c < 2 → t.flag (R.SPV_CH_STS_ON n c) = false ∧ t.flag (R.SPV_CH_STS_PG n c) = false ∧
          t.flag (R.SPV_CH_STS_FT_RUN n c) = false) ∧
        (∀ a, a ≠ R.SPV_CH_STS n 0 → a ≠ R.SPV_CH_STS n 1 → t.reg a = s.reg a) ∧ t.vault = s.vault) ∧
      (∀ c, c < 2 →
        (s.slotLatched n = false → (s.chanEnabled n 0 = true ∨ s.chanEnabled n 1 = true) → Ticks (.forceOn n c true) s fun t =>
          t.flag (R.SPV_CH_CTL_FORCE_ON n c) = true ∧
          t.flag (R.SPV_CH_STS_ON n c) = true ∧ t.flag (R.SPV_CH_STS_PG n c) = true ∧
          t.flag (R.SPV_CH_STS_LIMITING n c) = false ∧ t.vault = s.vault) ∧
        ((s.slotLatched n = true ∨ (s.chanEnabled n 0 = false ∧ s.chanEnabled n 1 = false)) → ∀ on, Ticks (.forceOn n c on) s fun t =>
          t.flag (R.SPV_CH_CTL_FORCE_ON n c) = on ∧ (∀ a, a ≠ R.SPV_CH_CTL n c → t.reg a = s.reg a) ∧ t.vault = s.vault) ∧
        (s.slotLatched n = false → s.flag (R.SPV_CH_CTL_FORCE_ON n c) = true → (s.chanEnabled n 0 = true ∨ s.chanEnabled n 1 = true) →
          Ticks (.forceOn n c false) s fun t => t.flag (R.SPV_CH_CTL_FORCE_ON n c) = false ∧
            t.flag (R.SPV_CH_STS_ON n c) = s.flag (R.SPV_CH_STS_ON n c) ∧
            t.flag (R.SPV_CH_STS_PG n c) = (s.flag (R.SPV_CH_STS_PG n c) && decide (s.pgThr n c ≤ s.fget (R.SPV_MEAS_V_VOUT n c))) ∧
            t.vault = s.vault)) ∧
      (∀ mask : W32, Ticks (.latchClear mask) s fun t => t.vault = s.vault ∧
        (bit mask.toNat n = false → t.slotState n = s.slotState n) ∧
        (bit mask.toNat n = true → s.slotLatched n = true →
          t.slotState n = (if s.flag (R.SPV_SLOT_CTL_ON n) && s.flag (R.SPV_SLOT_STS_PRESENT n) && !s.powerControllerOff n
            then slWAIT else slOFF) ∧
          t.fget (R.SPV_SLOT_STS_RETRIES n) = 0 ∧ bit (t.fget R.SPV_GLB_LATCH_LATCHED) n = false ∧ (t.slot n).retryDue = none))) ∧
  (∀ (s : State) (n c : Nat), n < 24 → c < 2 → s.alive = true →
      (∀ sense vout gate vin, ∀ rs, rs = (if c = 0 then s.fget (R.SPV_RSHUNT0_UOHM n) else s.fget (R.SPV_RSHUNT1_UOHM n)) →
        ∀ lim, lim = (if c = 0 then s.fget (R.SPV_ILIMIT0_LIMIT n) else s.fget (R.SPV_ILIMIT1_LIMIT n)) →
        ∀ k, k = (if s.mode = mLIMP then 256 else 4096) →
        ∀ i, i = min (min (sense * k / 50000) (k - 1) * 50000 * 1000 / (k * rs)) 65535 →
        ∀ v, v = min (min (vout * k / Config.voutScale c) (k - 1) * Config.voutScale c / k) 65535 →
        Does (.spvSample n c sense vout ⟨gate, vin⟩) s fun t =>
          t.fget (R.SPV_MEAS_I_I n c) = i ∧ t.fget (R.SPV_MEAS_V_VOUT n c) = v ∧ t.fget (R.SPV_MEAS_V_GATE n c) = min gate 65535 ∧
          t.fget (R.SPV_MEAS_I_I_PEAK n c) = max i (s.fget (R.SPV_MEAS_I_I_PEAK n c)) ∧
          t.fget (R.SPV_MEAS_P_P n c) = min (i * v / 1000) (2 ^ 20 - 1) ∧
          ((t.slot n).chan c).energy = ((s.slot n).chan c).energy + i * v / 1000 ∧
          t.fget (if c = 0 then R.SPV_VIN_VIN12 else R.SPV_VIN_VIN3V3) = min vin 65535 ∧
          t.flag (R.SPV_CH_STS_LIMITING n c) = (s.flag (R.SPV_CH_STS_LIMITING n c) && decide (95 * lim ≤ 100 * i)) ∧
          (∀ a, a ∉ [R.SPV_MEAS_I n c, R.SPV_MEAS_V n c, R.SPV_MEAS_P n c, R.SPV_ENERGY_LO n c, R.SPV_ENERGY_HI n c, R.SPV_VIN,
            R.SPV_CH_STS n c] → t.reg a = s.reg a) ∧ t.vault = s.vault) ∧
      (∀ sense, s.fastOver n c sense = false → exec (.fastTrip n ⟨c, sense⟩) s = .next s) ∧
      (∀ t0, s.uptrip = some t0 → (t0 ≤ s.now → exec .uptripEnd s = .next { s with uptrip := none }) ∧
        (s.now < t0 → exec .uptripEnd s = .next s)) ∧
      (s.spvDue = [] →
        (∀ v : W32, Ticks (.measClear n v) s fun t =>
          (bit v.toNat 0 = true → t.fget (R.SPV_MEAS_I_I_PEAK n c) = 0) ∧
          (bit v.toNat 0 = false → t.fget (R.SPV_MEAS_I_I_PEAK n c) = s.fget (R.SPV_MEAS_I_I_PEAK n c)) ∧
          (bit v.toNat 1 = true → ((t.slot n).chan c).energy = 0 ∧ t.reg (R.SPV_ENERGY_LO n c) = 0 ∧ t.reg (R.SPV_ENERGY_HI n c) = 0) ∧
          (bit v.toNat 1 = false → t.slots = s.slots) ∧ t.vault = s.vault) ∧
        (s.flag (R.SPV_CH_STS_ON n c) = true → s.flag (R.SPV_CH_CTL_FORCE_ON n c) = false →
          Ticks (.currentLimitStart n c) s fun t => t.flag (R.SPV_CH_STS_LIMITING n c) = true ∧ t.flag (R.SPV_CH_STS_FT_RUN n c) = true ∧
            (s.flag (R.SPV_CH_STS_FT_RUN n c) = false → ((t.slot n).chan c).ftStart = s.now) ∧
            (∀ a, a ≠ R.SPV_CH_STS n c → t.reg a = s.reg a) ∧ t.vault = s.vault) ∧
        ((s.flag (R.SPV_CH_STS_ON n c) = false ∨ s.flag (R.SPV_CH_CTL_FORCE_ON n c) = true) →
          Ticks (.currentLimitStart n c) s fun t => t = s) ∧
        (s.flag (R.SPV_CH_STS_ON n c) = true → ∀ sense, ∀ y ∈ [(Instr.fastTrip n ⟨c, sense⟩, tcFAST, s.fastOver n c sense),
              (.gateRiseTimeout n c, tcFET_GATE, ((s.slot n).chan c).rising && decide (((s.slot n).chan c).onAt + 1250000 *
                (if c = 0 then s.fget (R.SPV_GATE_CFG0_RISE_MAX_MS n) else s.fget (R.SPV_GATE_CFG1_RISE_MAX_MS n)) ≤ s.now)),
              (.faultTimerExpiry n c, tcTIMER, s.flag (R.SPV_CH_STS_FT_RUN n c) && decide (((s.slot n).chan c).ftStart + 1250 *
                (if c = 0 then s.fget (R.SPV_FAULT_TIMER0_US n) else s.fget (R.SPV_FAULT_TIMER1_US n)) ≤ s.now))],
            y.2.2 = true → ∀ cause, cause = y.2.1 → Ticks y.1 s fun t => t.fget (R.SPV_SLOT_STS_CAUSE n) = cause ∧ Counted s t (R.SPV_TRIPS n) ∧ t.event (slotPage n) 0 = true ∧
              (cause = tcFAST → Counted s t (R.SPV_FAST_TRIPS n)) ∧ (cause = tcFET_GATE → t.event (slotPage n) 2 = true) ∧
              t.flag (R.SPV_SLOT_STS_PG n) = false ∧ t.flag (R.SPV_SLOT_STS_PERST n) = true ∧
              (∀ k, k < 2 → t.flag (R.SPV_CH_STS_ON n k) = false) ∧
              (s.flag R.SPV_GLB_CTL_GOV_EN = false → t.slotState n = slTRIPPED ∧ (t.slot n).retryDue = none) ∧
              (s.flag R.SPV_GLB_CTL_GOV_EN = true → s.fget (R.SPV_SLOT_STS_RETRIES n) = s.fget (R.SPV_RETRY_MAX n) →
                t.slotState n = slLATCHED ∧ bit (t.fget R.SPV_GLB_LATCH_LATCHED) n = true ∧ t.event (slotPage n) 1 = true) ∧
              (s.flag R.SPV_GLB_CTL_GOV_EN = true → s.fget (R.SPV_SLOT_STS_RETRIES n) ≠ s.fget (R.SPV_RETRY_MAX n) →
                t.slotState n = slTRIPPED ∧ (t.slot n).retryDue = some (s.now + s.fget (R.SPV_RETRY_INTERVAL n) * 125000000)) ∧
              t.vault = s.vault) ∧
        (s.flag (R.SPV_CH_STS_ON n c) = false → ∀ y ∈ [Instr.gateRiseTimeout n c, .faultTimerExpiry n c],
          Ticks y s fun t => t = s) ∧
        (s.flag (R.SPV_CH_STS_FT_RUN n c) = true → ((s.slot n).chan c).limAt + 125000 ≤ s.now → Ticks (.faultTimerStop n c) s fun t =>
          t.flag (R.SPV_CH_STS_LIMITING n c) = false ∧ t.flag (R.SPV_CH_STS_FT_RUN n c) = false ∧
          t.fget (R.SPV_CH_STS_FT_US n c) = 0 ∧ t.flag (R.SPV_CH_STS_ON n c) = s.flag (R.SPV_CH_STS_ON n c) ∧
          (∀ a, a ≠ R.SPV_CH_STS n c → t.reg a = s.reg a) ∧ t.vault = s.vault) ∧
        (s.flag (R.SPV_CH_STS_FT_RUN n c) = false ∨ s.now < ((s.slot n).chan c).limAt + 125000 →
          Ticks (.faultTimerStop n c) s fun t => t = s) ∧
        (∀ on, (s.slotState n = slFENCED ∨ s.fetShorted n c on = false) → Ticks (.fetShort n c on) s fun t => t = s) ∧
        (∀ on, s.slotState n ≠ slFENCED → s.fetShorted n c on = true → Ticks (.fetShort n c on) s fun t => t.slotState n = slFENCED ∧ t.fget (R.SPV_SLOT_STS_CAUSE n) = tcFET_SHORT ∧
          bit (t.fget R.SPV_GLB_LATCH_LATCHED) n = true ∧ t.event (slotPage n) 1 = true ∧ t.event (slotPage n) 2 = true ∧
          (s.flag R.SPV_GLB_CTL_UPTRIP_EN = true → t.event 0x20 0 = true ∧
            t.uptrip = some (s.now + s.fget R.SPV_GLB_CTL_UPTRIP_MS * 1250000)) ∧
          (s.flag R.SPV_GLB_CTL_UPTRIP_EN = false → t.uptrip = s.uptrip) ∧ t.vault = s.vault) ∧
        (s.flag (R.SPV_CH_STS_PG n c) = true → s.flag (R.SPV_CH_STS_FT_RUN n c) = false → s.flag (R.SPV_CH_STS_ON n c) = true →
          s.chanEnabled n c = true → s.slotLatched n = false → (s.slot n).offAt = none →
          ∀ t0, ((s.slot n).chan c).lowFrom = some t0 → t0 + 20000 ≤ s.now →
          Ticks (.pgLost n c) s fun t => t.flag (R.SPV_CH_STS_PG n c) = false ∧
            Counted s t (R.SPV_PG_LOST n) ∧ t.flag (R.SPV_SLOT_STS_PG n) = false ∧ t.flag (R.SPV_SLOT_STS_PERST n) = true ∧
            t.vault = s.vault) ∧
        (s.flag R.SPV_GLB_CTL_GOV_EN = false → ∀ y ∈ [Instr.slotRetry n, .retryWindowEnd n], Ticks y s fun t => t = s) ∧
        (∀ t0, (s.slot n).retryDue = some t0 → s.slotState n = slTRIPPED →
          (s.flag R.SPV_GLB_CTL_GOV_EN = true → t0 ≤ s.now → s.insertionAllowed n = true → s.badChannel n = none → Ticks (.slotRetry n) s fun t =>
            t.fget (R.SPV_SLOT_STS_RETRIES n) = min (s.fget (R.SPV_SLOT_STS_RETRIES n) + 1) 7 ∧ Counted s t (R.SPV_RETRIES n) ∧
            t.slotState n = (if (upTo 2).any (fun c => s.chanEnabled n c && !s.flag (R.SPV_CH_CTL_FORCE_ON n c)) then slRAMP else slON) ∧
            (t.slot n).retryDue = none ∧ t.vault = s.vault) ∧
          (s.now < t0 → Ticks (.slotRetry n) s fun t => t = s)) ∧
        (∀ t0, (s.slot n).windowEnd = some t0 → s.flag R.SPV_GLB_CTL_GOV_EN = true → t0 ≤ s.now → s.slotState n = slON → Ticks (.retryWindowEnd n) s fun t =>
          t.fget (R.SPV_SLOT_STS_RETRIES n) = 0 ∧ (t.slot n).windowEnd = none ∧ t.slotState n = slON ∧ t.vault = s.vault) ∧
        (s.flag (R.SPV_SLOT_STS_PRESENT n) = true → Ticks (.slotRemoval n) s fun t => t.flag (R.SPV_SLOT_STS_PRESENT n) = false ∧
          t.flag (R.SPV_SLOT_STS_PERST n) = true ∧ (∀ k, k < 2 → t.flag (R.SPV_CH_STS_ON n k) = false) ∧
          (t.slot n).holdUntil = (s.slot n).retryDue ∧ (t.slot n).retryDue = none ∧ Counted s t (R.SPV_REMOVALS n) ∧
          t.event (slotPage n) 3 = true ∧ t.slotState n = (if s.slotLatched n then s.slotState n else slOFF) ∧ t.vault = s.vault) ∧
        (s.flag (R.SPV_SLOT_STS_PRESENT n) = true → Ticks (.slotInsertion n) s fun t => t = s) ∧
        (s.flag (R.SPV_SLOT_STS_PRESENT n) = false → (Ticks (.slotRemoval n) s fun t => t = s) ∧ Ticks (.slotInsertion n) s fun t =>
          t.flag (R.SPV_SLOT_STS_PRESENT n) = true ∧ t.event (slotPage n) 3 = true ∧
          (s.slotState n = slOFF → s.powerControllerOff n = false → s.flag (R.SPV_SLOT_CTL_ON n) = true → t.slotState n = slWAIT) ∧
          (s.flag (R.SPV_SLOT_CTL_ON n) = false → t.slotState n = s.slotState n) ∧
          (s.fget (R.SPV_RESEAT_RESEAT_MIN_MS n) * 1250000 ≤
              s.now - s.fget (R.SPV_RESEAT_INS_DEB_MS n) * 1250000 - (s.slot n).absentFrom → t.fget (R.SPV_SLOT_STS_RETRIES n) = 0) ∧
          t.vault = s.vault)))

/-! ### Telemetry (chapter 18) -/

/-- Histogram units and samplers (R394 to R398): a level is recorded once its period has passed, but in LIMP, counting in its bin; a
snapshot copies the units of its mask, and clears them when asked to; a write of CFG or BASE clears its unit; a capture takes
the next place of the ring, stamped with the time, and raises event 0; TEL_SMP_N stays above 0 and starts its count anew. -/
def Obligations.Telemetry : Prop :=
  ∀ (s : State), s.alive = true →
    (∀ u v b, u < 16 → s.level u = some v → v < 2 ^ 64 → s.mode ≠ mLIMP →
      b = histBin (s.flag (R.TEL_HIST_CFG_LOG u)) (s.fget (R.TEL_HIST_CFG_WSHIFT u)) (s.reg (R.TEL_HIST_BASE u)).toNat v → b < 32 →
      (storeGet 0 s.govAt (16 + u) + cyclesOfNs (s.fget R.TEL_HIST_PERIOD_NS) ≤ s.now → Does (.histLevelSample u) s fun t =>
        storeGet 0 t.govAt (16 + u) = s.now ∧
        t.tget 0x42 0 (32 * u + b) 47 0 = min (s.tget 0x42 0 (32 * u + b) 47 0 + 1) (2 ^ 48 - 1) ∧
        t.tget 0x42 2 u 127 64 = max (s.tget 0x42 2 u 127 64) v ∧ t.tget 0x42 2 u 63 0 = min (s.tget 0x42 2 u 63 0) v ∧
        t.tget 0x42 2 u 175 128 = min (s.tget 0x42 2 u 175 128 + 1) (2 ^ 48 - 1) ∧ t.regs = s.regs ∧ t.vault = s.vault ∧
        (∀ x, x < 512 → x ≠ 32 * u + b → t.tbl 0x42 0 x = s.tbl 0x42 0 x)) ∧
      (s.now < storeGet 0 s.govAt (16 + u) + cyclesOfNs (s.fget R.TEL_HIST_PERIOD_NS) → exec (.histLevelSample u) s = .next s)) ∧
    (∀ u, u < 16 → (s.level u = none ∨ s.mode = mLIMP) → exec (.histLevelSample u) s = .next s) ∧
    (∀ units clear, Does (.histSnapshot units clear) s fun t => ∀ u, u < 16 →
      (bit units u = true → (∀ i, i < 32 → t.tbl 0x42 1 (32 * u + i) = s.tbl 0x42 0 (32 * u + i) ∧
          t.tbl 0x42 0 (32 * u + i) = (if clear then 0 else s.tbl 0x42 0 (32 * u + i))) ∧
        t.tbl 0x42 3 u = s.tbl 0x42 2 u ∧ t.tbl 0x42 2 u = (if clear then 0xFFFFFFFFFFFFFFFF else s.tbl 0x42 2 u)) ∧
      (bit units u = false → (∀ i, i < 32 → t.tbl 0x42 1 (32 * u + i) = s.tbl 0x42 1 (32 * u + i) ∧
          t.tbl 0x42 0 (32 * u + i) = s.tbl 0x42 0 (32 * u + i)) ∧ t.tbl 0x42 2 u = s.tbl 0x42 2 u ∧ t.tbl 0x42 3 u = s.tbl 0x42 3 u) ∧
      t.regs = s.regs ∧ t.vault = s.vault) ∧
    (∀ u (v : W32), u < 16 → (Does (.histConfigWrite u true v) s fun t =>
        t.reg (R.TEL_HIST_BASE u) = (if s.flag (R.TEL_HIST_CFG_LOG u) && v == 0 then 1 else v) ∧ (∀ i, i < 32 → t.tbl 0x42 0 (32 * u + i) = 0) ∧ (∀ a, a ≠ R.TEL_HIST_BASE u → t.reg a = s.reg a) ∧ t.vault = s.vault) ∧
      Does (.histConfigWrite u false v) s fun t => t.fget (R.TEL_HIST_CFG_SOURCE u) = min (bits v.toNat 4 0) 8 ∧
        t.fget (R.TEL_HIST_CFG_PORT u) = bits v.toNat 14 8 ∧ t.fget (R.TEL_HIST_CFG_CLASS u) = min (bits v.toNat 17 16) 2 ∧
        t.fget (R.TEL_HIST_CFG_LOG u) = bits v.toNat 18 18 ∧ t.fget (R.TEL_HIST_CFG_WSHIFT u) = bits v.toNat 28 24 ∧
        t.reg (R.TEL_HIST_BASE u) = (if bits v.toNat 18 18 = 1 ∧ s.reg (R.TEL_HIST_BASE u) = 0 then 1 else s.reg (R.TEL_HIST_BASE u)) ∧
        (∀ i, i < 32 → t.tbl 0x42 0 (32 * u + i) = 0) ∧
        (∀ a, a ≠ R.TEL_HIST_CFG u → a ≠ R.TEL_HIST_BASE u → t.reg a = s.reg a) ∧ t.vault = s.vault) ∧
    (∀ k moved other, k < 4 → ((s.sampler k).due = [] → exec (.samplerCapture k moved other) s = .next s) ∧
      (∀ x rest, (s.sampler k).due = x :: rest → Does (.samplerCapture k moved other) s fun t => (t.sampler k).due = rest ∧
        (t.sampler k).seq = (s.sampler k).seq + 1 ∧ t.fget R.TEL_SMP_STS_NEXT = (s.fget R.TEL_SMP_STS_NEXT + 1) % 256 ∧
        t.tget 0x43 0 (s.fget R.TEL_SMP_STS_NEXT) 63 0 = s.ns % 2 ^ 64 ∧ t.event 0x43 0 = true ∧ KeepsRegs s t [R.TEL_SMP_STS] ∧
        t.vault = s.vault)) ∧
    (∀ k n, k < 4 → Does (.samplerNWrite k n) s fun t => t.fget (R.TEL_SMP_N_N k) = max 1 (n % 2 ^ 24) ∧ (t.sampler k).count = 0 ∧
      (∀ a, a ≠ R.TEL_SMP_N k → t.reg a = s.reg a) ∧ t.vault = s.vault)

/-! ### Security (chapter 19) -/

/-- OTP burns and the lifecycle (R401, R402, R404): a program or an advance that may not be made is refused with its cause (one
while another runs with BUSY), and burns nothing; one that may is BUSY until it ends, with the bits burnt set, none cleared,
and event 0; bits that did not burn leave cause FAILED; an advance sets its bit in all four copies. -/
def Obligations.OtpBurns : Prop :=
  ∀ (s : State), s.alive = true →
    (∀ w, w < 2048 → (∀ c, s.otpRefused w (s.reg R.SEC_OTP_DATA).toNat = some c → Does (.otpProgram w) s fun t =>
        t.fget R.SEC_OP_STS_OTP_RESULT = (if c = scBUSY then s.fget R.SEC_OP_STS_OTP_RESULT else 3) ∧ t.fget R.SEC_OP_STS_OTP_CAUSE = c ∧ t.sec = s.sec ∧
        (∀ a, a ≠ R.SEC_OP_STS → t.reg a = s.reg a) ∧ t.vault = s.vault) ∧
      (s.otpRefused w (s.reg R.SEC_OTP_DATA).toNat = none → Does (.otpProgram w) s fun t =>
        t.fget R.SEC_OP_STS_OTP_RESULT = 1 ∧ t.sec.burn = some (w, (s.reg R.SEC_OTP_DATA).toNat, none, s.now) ∧
        (∀ a, a ≠ R.SEC_OP_STS → t.reg a = s.reg a) ∧ t.vault = s.vault)) ∧
    (∀ (missing v : W32) w t0, s.sec.burn = some (w, v.toNat, none, t0) → Does (.otpProgramDone missing) s fun t =>
      storeGet 0 t.sec.otp w = storeGet 0 s.sec.otp w ||| (v &&& ~~~missing) ∧
      (∀ x, x ≠ w → storeGet 0 t.sec.otp x = storeGet 0 s.sec.otp x) ∧ t.sec.burn = none ∧
      (v &&& missing = 0 → t.fget R.SEC_OP_STS_OTP_RESULT = 2) ∧
      (v &&& missing ≠ 0 → t.fget R.SEC_OP_STS_OTP_RESULT = 3 ∧ t.fget R.SEC_OP_STS_OTP_CAUSE = scFAILED) ∧
      t.event 0x08 0 = true ∧ KeepsRegs s t [R.SEC_OP_STS, R.SEC_LIFECYCLE] ∧ t.pending = s.pending ∧ t.mgt = s.mgt) ∧
    ((s.sec.burn.any (·.2.2.1.isNone)) = false → ∀ missing, exec (.otpProgramDone missing) s = .next s) ∧
    ((s.sec.burn.any (·.2.2.1.isSome)) = false → exec .lifecycleAdvanceDone s = .next s) ∧
    (∀ target, target < 8 →
      (s.mayAdvance target = false → Does (.lifecycleAdvance target) s fun t => t.fget R.SEC_OP_STS_OTP_RESULT = 3 ∧
        t.fget R.SEC_OP_STS_OTP_CAUSE = scSTATE ∧ t.sec = s.sec ∧ (∀ a, a ≠ R.SEC_OP_STS → t.reg a = s.reg a) ∧ t.vault = s.vault) ∧
      (s.mayAdvance target = true → s.sec.burn ≠ none → Does (.lifecycleAdvance target) s fun t =>
        t.fget R.SEC_OP_STS_OTP_CAUSE = scBUSY ∧ t.sec = s.sec ∧ (∀ a, a ≠ R.SEC_OP_STS → t.reg a = s.reg a) ∧ t.vault = s.vault) ∧
      (s.mayAdvance target = true → s.sec.burn = none → Does (.lifecycleAdvance target) s fun t =>
        t.fget R.SEC_OP_STS_OTP_RESULT = 1 ∧ t.sec.burn = some (0, 0, some target, s.now) ∧
        (∀ a, a ≠ R.SEC_OP_STS → t.reg a = s.reg a) ∧ t.vault = s.vault)) ∧
    (∀ w v target t0, s.sec.burn = some (w, v, some target, t0) →
      Does .lifecycleAdvanceDone s fun t =>
        (∀ x, x < 4 → storeGet 0 t.sec.otp x = storeGet 0 s.sec.otp x |||
          (if target = lcPROVISIONED then 1 else if target = lcOWNED then 2 else 4)) ∧
        (∀ x, 4 ≤ x → storeGet 0 t.sec.otp x = storeGet 0 s.sec.otp x) ∧ t.sec.burn = none ∧
        t.fget R.SEC_LIFECYCLE_BASE_STATE = t.baseState ∧ t.fget R.SEC_OP_STS_OTP_RESULT = 2 ∧ t.event 0x08 0 = true ∧
        KeepsRegs s t [R.SEC_OP_STS, R.SEC_LIFECYCLE] ∧ t.pending = s.pending ∧ t.mgt = s.mgt)

/-- Images, measurements, identity and debug (R406, R409, R410, R412, R415 to R417): a verification is BUSY until it ends,
counted, with DONE and M2 extended by a configuration image or with its cause and event 1; firmware extends M4 to M7 only; a
token that passes every check opens debug, one that does not is refused with its cause, and the nonce is fresh either way; the
identity is derived once, and M0 extended; the debug master's access to a locked region is denied, logged and counted; an
allowed read of main memory is answered, behind the responses of its earlier reads (R335), one of a chip select goes its way, a
write to SRAM is stored and ends a reservation that it touches (R339); run control halts, resumes and steps; a boundary-scan
instruction changes nothing (log entry 56). A key that fails its check is fatal outside BLANK. An operation asked for while one
of its kind runs is refused with BUSY. -/
def Obligations.ImagesAndDebug : Prop :=
  ∀ (s : State), s.alive = true →
    (s.sec.verify ≠ none → ∀ ty, Does (.imageVerify ty) s fun t => t.fget R.SEC_OP_STS_VERIFY_CAUSE = scBUSY ∧
      t.fget R.SEC_OP_STS_VERIFY_RESULT = s.fget R.SEC_OP_STS_VERIFY_RESULT ∧ t.sec = s.sec ∧
      (∀ a, a ≠ R.SEC_OP_STS → t.reg a = s.reg a) ∧ t.vault = s.vault) ∧
    (s.sec.unlock ≠ none → ∀ len, Does (.debugUnlock len) s fun t => t.fget R.SEC_OP_STS_UNLOCK_CAUSE = scBUSY ∧
      t.fget R.SEC_OP_STS_UNLOCK_RESULT = s.fget R.SEC_OP_STS_UNLOCK_RESULT ∧ t.sec = s.sec ∧
      (∀ a, a ≠ R.SEC_OP_STS → t.reg a = s.reg a) ∧ t.vault = s.vault) ∧
    (s.sec.verify = none → exec .imageVerifyDone s = .next s) ∧ (s.sec.unlock = none → exec .debugUnlockDone s = .next s) ∧
    (∀ ty, ty < 4 → s.sec.verify = none → Does (.imageVerify ty) s fun t => t.fget R.SEC_OP_STS_VERIFY_RESULT = 1 ∧
      t.sec.verify = some (ty, s.pair R.SEC_VERIFY_LO R.SEC_VERIFY_HI, s.policy) ∧
      (∀ a, a ≠ R.SEC_OP_STS → t.reg a = s.reg a) ∧ t.vault = s.vault) ∧
    (∀ ty a p, s.sec.verify = some (ty, a, p) → ∀ h body sig, s.imageAt a ty = (h, body, sig) →
      (s.imageCause p ty h body sig = none → Does .imageVerifyDone s fun t => t.fget R.SEC_OP_STS_VERIFY_RESULT = 2 ∧
        t.sec.verify = none ∧ Counted s t R.SEC_VERIFIES ∧ t.event 0x08 0 = true ∧
        (ty = 2 → t.tbl 0x09 1 2 = hash32 (leBytes 32 (s.tbl 0x09 1 2).toNat ++ Config.shake256 (h ++ body) 32)) ∧
        KeepsRegs s t [R.SEC_OP_STS] ∧ t.vault = s.vault) ∧
      (∀ c, s.imageCause p ty h body sig = some c → c < 16 → Does .imageVerifyDone s fun t =>
        t.fget R.SEC_OP_STS_VERIFY_RESULT = 3 ∧ t.fget R.SEC_OP_STS_VERIFY_CAUSE = c ∧ t.sec.verify = none ∧
        Counted s t R.SEC_VERIFIES ∧ t.event 0x08 0 = true ∧ t.event 0x08 1 = true ∧ t.tbl 0x09 1 2 = s.tbl 0x09 1 2 ∧
        KeepsRegs s t [R.SEC_OP_STS] ∧ t.vault = s.vault)) ∧
    (∀ i, i < 8 → (i < 4 → exec (.measurementExtend i) s = .next s) ∧
      (4 ≤ i → Does (.measurementExtend i) s fun t => t.tbl 0x09 1 i = hash32 (leBytes 32 (s.tbl 0x09 1 i).toNat ++
          (upTo 8).flatMap fun k => leBytes 4 (s.reg (R.SEC_EXT_DATA k)).toNat) ∧
        (∀ j, j < 8 → j ≠ i → t.tbl 0x09 1 j = s.tbl 0x09 1 j) ∧ t.regs = s.regs ∧ t.vault = s.vault)) ∧
    (∀ len, s.sec.unlock = none → Does (.debugUnlock len) s fun t => t.fget R.SEC_OP_STS_UNLOCK_RESULT = 1 ∧
      t.sec.unlock = some (max 1 (min len 32768), s.policy) ∧ (∀ a, a ≠ R.SEC_OP_STS → t.reg a = s.reg a) ∧ t.vault = s.vault) ∧
    (∀ len p, s.sec.unlock = some (len, p) →
      ((s.tokenCheck len p).1 = none → Does .debugUnlockDone s fun t => t.lifeState = lcDEBUG_OPEN ∧ t.sec.opened = true ∧
        t.fget R.SEC_OP_STS_UNLOCK_RESULT = 2 ∧ t.event 0x08 0 = true ∧ t.event 0x08 3 = true ∧ t.sec.unlock = none ∧
        t.sec.base = p.state ∧ t.sec.unlocked = some (s.now, s.lifeState) ∧
        (∀ k, k < 8 → t.reg (R.SEC_DEBUG_NONCE k) = BitVec.ofNat 32 ((Config.freeWord s.free).toNat / 2 ^ (32 * k))) ∧
        t.vault = s.vault) ∧
      (∀ c, (s.tokenCheck len p).1 = some c → c < 16 → Does .debugUnlockDone s fun t => t.lifeState = s.lifeState ∧
        t.fget R.SEC_OP_STS_UNLOCK_RESULT = 3 ∧ t.fget R.SEC_OP_STS_UNLOCK_CAUSE = c ∧ t.event 0x08 0 = true ∧
        t.sec.unlock = none ∧
        (∀ k, k < 8 → t.reg (R.SEC_DEBUG_NONCE k) = BitVec.ofNat 32 ((Config.freeWord s.free).toNat / 2 ^ (32 * k))) ∧
        t.vault = s.vault)) ∧
    (∀ kind addr len data n, n = (if kind = dkWRITE then data.length else len % 4097) →
      (s.debugDenied kind addr n = true → s.sec.denyNext < 16 → Does (.debugAccess kind addr len data) s fun t => t.answer = .denied ∧
        Counted s t R.SEC_DEBUG_DENIALS ∧ t.event 0x08 2 = true ∧ t.sec.denyNext = (s.sec.denyNext + 1) % 16 ∧
        t.tget 0x09 3 s.sec.denyNext 127 64 = addr % 2 ^ 64 ∧ KeepsRegs s t [] ∧ t.vault = s.vault) ∧
      (s.debugDenied kind addr n = false →
        (kind = dkREAD → ∀ main, main = ((regionOf addr).any fun x => x.1.isMain) →
          ∀ bs, bs = (if main && oneRegion addr n then s.memBytes addr n else []) → (main = true ∨ regionOf addr = none) →
          Does (.debugAccess kind addr len data) s fun t => t.regs = s.regs ∧ t.vault = s.vault ∧
            if s.debugReads = true then t.answer = s.answer ∧ t.coreReads.map (·.data) = s.coreReads.map (·.data) ++ [bs]
            else t.answer = .bytes bs ∧ t.coreReads = s.coreReads) ∧
        (kind = dkREAD → ∀ r off, regionOf addr = some (r, off) → (match r with | .culvert _ => true | _ => false) = true → Does (.debugAccess kind addr len data) s fun t =>
          (∃ x ∈ t.coreReads, x.why = .debug ∧ x.len = n) ∧ t.vault = s.vault) ∧
        (kind = dkREAD → ∀ r off, regionOf addr = some (r, off) → r = .regs → Does (.debugAccess kind addr len data) s fun t => t.vault = s.vault) ∧
        (kind = dkWRITE → data = [] → exec (.debugAccess kind addr len data) s = .next s) ∧
        (kind = dkWRITE → s.undef = none → data ≠ [] → ∀ r off, regionOf addr = some (r, off) → r = .sram →
          (oneRegion addr n = false → exec (.debugAccess kind addr len data) s = .next s) ∧
          (oneRegion addr n = true → Does (.debugAccess kind addr len data) s fun t =>
            (∀ i (b : Byte), data[i]? = some b → storeGet none t.mgt.sram (off + i) = some b) ∧
            (∀ a, a < off ∨ off + n ≤ a → storeGet none t.mgt.sram a = storeGet none s.mgt.sram a) ∧
            t.mgt.resv = (if (s.mgt.resv.any fun r => decide (addr / 64 ≤ r.1 ∧ r.1 ≤ (addr + n - 1) / 64)) then none else s.mgt.resv) ∧
            t.regs = s.regs ∧ t.mgt.flash = s.mgt.flash ∧ t.sec = s.sec ∧ t.pending = s.pending)) ∧
        (kind = dkWRITE → s.undef = none → (regionOf addr = none ∨ ((regionOf addr).any fun x => x.1.isMain && x.1 != .sram) = true) →
          exec (.debugAccess kind addr len data) s = .next s) ∧
        (kind = dkRUN → addr < 3 → Does (.debugAccess kind addr len data) s fun t =>
          t.mgt.halted = (if addr = 0 then false else if addr = 1 then true else s.mgt.halted) ∧
          t.mgt.steps = (if addr < 2 then 0 else if s.mgt.halted then s.mgt.steps + 1 else s.mgt.steps) ∧ t.regs = s.regs ∧
          t.vault = s.vault) ∧
        (kind = dkRUN → 3 ≤ addr → Does (.debugAccess kind addr len data) s fun t => t.answer = .bytes (leBytes 8 (Config.freeNat s.free % 2 ^ 64)) ∧
          t.mgt = s.mgt ∧ t.regs = s.regs ∧ t.vault = s.vault) ∧
        (kind = dkSCAN → exec (.debugAccess kind addr len data) s = .next s))) ∧
    (∀ ok, bit s.board.tested 8 = false → (ok = true ∨ s.lifeState = lcBLANK) → Does (.identityDerived ok) s fun t =>
      bit t.board.tested 8 = true ∧ t.tbl 0x09 1 0 = hash32 (leBytes 32 (s.tbl 0x09 1 0).toNat ++ Config.shake256
        (Config.bootVersion ++ [BitVec.ofNat 8 s.lifeState] ++ leBytes 4 (s.otpWord 25) ++ t.idHash) 32) ∧
      (s.lifeState ≠ lcBLANK → s.lifeState ≠ lcRETIRED → t.sec.priv = Config.shake256 (identString ++ s.idSeed) 96) ∧
      t.vault = s.vault) ∧
    (bit s.board.tested 8 = false → s.lifeState ≠ lcBLANK → Does (.identityDerived false) s fun t =>
      bit t.board.tested 8 = true ∧ bit (t.reg R.DEV_SELFTEST_FAIL).toNat 8 = true ∧ (s.mode = mLIMP → t.mode = mSAFE)) ∧
    (∀ ok, bit s.board.tested 8 = true → exec (.identityDerived ok) s = .next s)

/-- Attestation (R407, R413, R414): a request joins the queue of 16, and the first one fixes the report's body; a full queue
answers BUSY; the body is signed by context 8, but in BLANK and RETIRED (R403, R405), and the signed report goes to its asker, in
pieces that no 128-byte line parts and with STATUS last for a host, wherever it is, and the next body is fixed. -/
def Obligations.Attestation : Prop :=
  ∀ (s : State), s.alive = true →
    (∀ p nonce buffer vec irq, p < 32 →
      (s.sec.asks.length < 16 → Does (.attest p nonce buffer vec irq) s fun t =>
        t.sec.asks = s.sec.asks ++ [(.host p buffer vec irq, nonce)] ∧ (s.sec.asks = [] → t.sec.body = s.reportBody nonce) ∧
        (s.sec.asks ≠ [] → t.sec.body = s.sec.body) ∧ t.regs = s.regs ∧ t.vault = s.vault) ∧
      (16 ≤ s.sec.asks.length → Does (.attest p nonce buffer vec irq) s fun t => t.sec = s.sec ∧ t.regs = s.regs ∧ t.vault = s.vault ∧
        (∀ fid q e, s.mode ≠ mSAFE → s.isolating = false → s.homeOf p = some (fid, q) → s.egressTo 88 fid q 0 = some e →
          s.shut e = false → t.holdsWrite (BitVec.ofNat 64 ((s.hcmdBlock p + 2) % 2 ^ 56)) (leBytes 2 2)))) ∧
    (∀ f nonce, f < 8 → (s.vc4Open f = false → exec (.attestPeerRequest f nonce) s = .next s) ∧
      (s.vc4Open f = true → s.sec.asks.length < 16 → Does (.attestPeerRequest f nonce) s fun t =>
        t.sec.asks = s.sec.asks ++ [(.peer f, nonce)] ∧ (s.sec.asks = [] → t.sec.body = s.reportBody nonce) ∧ t.regs = s.regs ∧
        t.vault = s.vault) ∧
      (s.vc4Open f = true → 16 ≤ s.sec.asks.length → Does (.attestPeerRequest f nonce) s fun t => t.vc4Held f (.report 2 []) ∧
        t.sec = s.sec ∧ t.vault = s.vault)) ∧
    (s.lifeState ≠ lcBLANK → s.lifeState ≠ lcRETIRED → s.sec.asks ≠ [] → s.sec.report = none → Does (.signDone 8) s fun t =>
      t.sec.report = some (s.sec.body ++ Config.slhSign s.sec.priv s.sec.body) ∧ Counted s t R.SEC_SIGNS ∧ t.regs = s.regs ∧
      t.vault = s.vault) ∧
    ((s.lifeState = lcBLANK ∨ s.lifeState = lcRETIRED) → ∀ c, exec (.signDone c) s = .next s) ∧
    ((s.sec.asks = [] ∨ s.sec.report ≠ none) → exec (.signDone 8) s = .next s) ∧
    ((s.sec.asks = [] ∨ s.sec.report = none) → exec .attestReportDone s = .next s) ∧
    (∀ r, s.sec.report = some r → ∀ a b rest, s.sec.asks = a :: b :: rest → Does .attestReportDone s fun t => t.sec.body = s.reportBody b.2) ∧
    (∀ r, s.sec.report = some r → ∀ nonce rest,
      (∀ f, f < 8 → s.sec.asks = (.peer f, nonce) :: rest → Does .attestReportDone s fun t => t.sec.asks = rest ∧
        t.sec.report = none ∧ (∀ b ∈ chunks 4096 (r.length / 4096 + 1) r, t.vc4Held f (.report 1 b)) ∧ t.vault = s.vault) ∧
      (∀ p buffer vec irq, s.sec.asks = (.host p buffer vec irq, nonce) :: rest → Does .attestReportDone s fun t =>
        t.sec.asks = rest ∧ t.sec.report = none ∧ t.regs = s.regs ∧ t.vault = s.vault ∧
        (∀ fid q e n, s.mode ≠ mSAFE → s.isolating = false → s.homeOf p = some (fid, q) → s.egressTo 88 fid q 0 = some e →
          s.shut e = false → r ≠ [] → n = 128 - buffer.toNat % 128 →
          t.holdsWrite (BitVec.ofNat 64 (buffer.toNat % 2 ^ 56)) (r.take n) ∧
          (∀ k, n + 128 * k < r.length →
            t.holdsWrite (BitVec.ofNat 64 ((buffer.toNat + n + 128 * k) % 2 ^ 56)) ((r.drop (n + 128 * k)).take 128)) ∧
          t.holdsWrite (BitVec.ofNat 64 ((s.hcmdBlock p + 2) % 2 ^ 56)) (leBytes 2 1))))

/-! ### Start-up and modes (chapter 20) -/

/-- Start-up (R421, R426, R428, R429, R438): what each self-test that passes leaves, and what a failure sets in
DEV_SELFTEST_FAIL, with SAFE and FAIL_CODE for a fatal one, and LOST when both pairs fail (R314); the lifecycle, DEV_SUBSYS and the strap layout from the OTP; failed
pairs, banks, octets, links and engines out of service; the UART's line, STAT's pattern and the release of the SPI pins in
SAFE; and the SMBus status read. -/
def Obligations.StartUp : Prop :=
  ∀ (s : State), s.alive = true →
    (∀ fail split, split = ((upTo 3).any fun b => s.lifeCopies b == 2) → s.mode = mLIMP → bit s.board.tested 1 = false →
      (fail = false → split = false → s.baseState ≠ lcRETIRED → Does (.otpLoaded fail) s fun t => t.lifeState = s.baseState ∧
        t.reg R.DEV_SUBSYS = BitVec.ofNat 32 (s.otpWord 24) ∧ t.mode = mLIMP ∧ bit t.board.tested 1 = true ∧
        (∀ k, k < 24 → t.fget (R.PHY_OCTET_MODE_MODE k) = (s.layoutOctet (s.fget R.DEV_STRAP_PORTCFG) k).1) ∧ t.vault = s.vault) ∧
      ((fail = true ∨ split = true) → Does (.otpLoaded fail) s fun t => t.mode = mSAFE ∧
        bit (t.reg R.DEV_SELFTEST_FAIL).toNat 1 = true ∧
        (s.fget R.DEV_MODE_STS_FAIL_CODE = 0 → t.fget R.DEV_MODE_STS_FAIL_CODE = 1) ∧ t.vault = s.vault) ∧
      (s.baseState = lcRETIRED → Does (.otpLoaded fail) s fun t => t.mode = mSAFE ∧
        bit (t.reg R.DEV_SELFTEST_FAIL).toNat 15 = true ∧ t.vault = s.vault)) ∧
    (∀ fail, s.mode ≠ mLIMP ∨ bit s.board.tested 1 = true → exec (.otpLoaded fail) s = .next s) ∧
    (∀ items pairs banks, bit s.board.tested 2 = true → exec (.earlySelftestDone items pairs banks) s = .next s) ∧
    (∀ octets links, bit s.board.tested 6 = true → exec (.phyCalibrationDone octets links) s = .next s) ∧
    (∀ banks engines spv, s.flag R.DEV_MODE_STS_BG_DONE = true → exec (.bgSelftestDone banks engines spv) s = .next s) ∧
    (∀ items pairs banks, bit s.board.tested 2 = false →
      (bits pairs 1 0 = 3 → Does (.earlySelftestDone items pairs banks) s fun t => t.lost = true ∧ (s.mode = mLIMP → t.mode = mSAFE) ∧
        t.vault = s.vault) ∧
      ((∀ i, i ∈ [2, 3, 9, 10] → bit items i = false) → bits pairs 1 0 = 0 → bit banks 0 = false →
        exec (.earlySelftestDone items pairs banks) s = .next (s.tested 0x063C)) ∧
      (∀ i, i ∈ [2, 3, 9, 10] → bit items i = true → Does (.earlySelftestDone items pairs banks) s fun t =>
        bit (t.reg R.DEV_SELFTEST_FAIL).toNat i = true ∧ (s.mode = mLIMP → t.mode = mSAFE) ∧ t.vault = s.vault) ∧
      (∀ p, p < 2 → bit pairs p = true → Does (.earlySelftestDone items pairs banks) s fun t => t.pairState p = 3 ∧
        bit (t.reg R.DEV_SELFTEST_FAIL).toNat 4 = true ∧ (bit pairs (1 - p) = false → s.pairState (1 - p) = 1 → t.pairState (1 - p) = 0) ∧
        t.vault = s.vault) ∧
      (bit banks 0 = true → Does (.earlySelftestDone items pairs banks) s fun t => t.fget (bankFld 0) = bkFAILED ∧
        bit (t.reg R.DEV_SELFTEST_FAIL).toNat 5 = true ∧ (bit banks 1 = true → s.mode = mLIMP → t.mode = mSAFE) ∧ t.vault = s.vault)) ∧
    (∀ octets links, bit s.board.tested 6 = false →
      (octets % 2 ^ 24 = 0 → links % 256 = 0 → exec (.phyCalibrationDone octets links) s = .next (s.tested 0xC0).showPorts) ∧
      (∀ k, k < 24 → bit octets k = true → Does (.phyCalibrationDone octets links) s fun t => t.fget (R.PHY_OCTET_MODE_MODE k) = 5 ∧
        bit (t.reg R.DEV_SELFTEST_FAIL).toNat 6 = true ∧ t.vault = s.vault) ∧
      (∀ f, f < 8 → bit links f = true → Does (.phyCalibrationDone octets links) s fun t => t.board.badLinks = links % 256 ∧
        t.fget (R.MFL_LINK_CTL_ENABLE f) = 0 ∧ bit (t.reg R.DEV_SELFTEST_FAIL).toNat 7 = true ∧ t.vault = s.vault)) ∧
    (∀ banks engines spv, s.flag R.DEV_MODE_STS_BG_DONE = false →
      ((∀ j, 0 < j → j < 17 → bit banks j = false) → engines % 65536 = 0 → spv = false → Does (.bgSelftestDone banks engines spv) s fun t =>
        t.flag R.DEV_MODE_STS_BG_DONE = true ∧ t.event 0x000 4 = true ∧ KeepsRegs s t [R.DEV_MODE_STS] ∧ t.vault = s.vault) ∧
      (∀ j, 0 < j → j < 17 → bit banks j = true → Does (.bgSelftestDone banks engines spv) s fun t => t.fget (bankFld j) = bkFAILED ∧
        bit (t.reg R.DEV_SELFTEST_FAIL).toNat 11 = true ∧ t.flag R.DEV_MODE_STS_BG_DONE = true ∧ t.vault = s.vault) ∧
      (∀ e, e < 16 → bit engines e = true → spv = false → Does (.bgSelftestDone banks engines spv) s fun t =>
        t.fget (R.ENG_STS_STATE e) = 3 ∧ t.board.badEngines = engines % 65536 ∧ bit (t.reg R.DEV_SELFTEST_FAIL).toNat 12 = true ∧
        t.vault = s.vault) ∧
      (spv = true → Does (.bgSelftestDone banks engines spv) s fun t => bit (t.reg R.DEV_SELFTEST_FAIL).toNat 13 = true ∧
        (s.mode = mLIMP → t.mode = mSAFE) ∧ t.vault = s.vault)) ∧
    (∀ due, due = (s.romRuns && decide (max s.safeAt s.board.uartAt + cyclesPerS ≤ s.now)) →
      (due = false → exec .safeUartLine s = .next s) ∧ (due = true → Does .safeUartLine s fun t => t.answer = .bytes s.uartLine ∧
        t.board.uartAt = s.now ∧ t.regs = s.regs ∧ t.vault = s.vault)) ∧
    (s.mode = mSAFE → max s.safeAt s.board.statAt + cyclesPerS ≤ s.now → Does .statPatternToggle s fun t =>
      t.board.statCode = !s.board.statCode ∧ t.board.statAt = s.now ∧
      (s.board.aon = true → t.stat = if s.board.statCode then 2 else s.fget R.DEV_MODE_STS_FAIL_CODE - 1) ∧ t.regs = s.regs ∧
      t.vault = s.vault) ∧
    ((s.mode ≠ mSAFE ∨ s.now < max s.safeAt s.board.statAt + cyclesPerS) → exec .statPatternToggle s = .next s) ∧
    (s.mode = mSAFE → s.safeAt + cyclesPerS ≤ s.now → exec .safeSpiRelease s = .next { s with board := { s.board with spiOff := true } }) ∧
    ((s.mode ≠ mSAFE ∨ s.now < s.safeAt + cyclesPerS) → exec .safeSpiRelease s = .next s) ∧
    s.smbusAddr 0 = 0x58 + s.fget R.DEV_STRAP_SMBADDR ∧ s.smbusAddr 1 = 0x68 + s.fget R.DEV_STRAP_SMBADDR ∧
    (Does .smbusStatusRead s fun t => t.regs = s.regs ∧ t.vault = s.vault ∧
      t.answer = .bytes (leBytes 4 (s.reg R.DEV_MODE_STS).toNat ++ leBytes 2 (s.reg R.DEV_SELFTEST_FAIL).toNat ++
        leBytes 2 (s.reg R.MGT_FW_STS).toNat))

/-- Mode requests and DRAIN (R432 to R434): a refused request counts, raises event 1 and leaves mode and registers, but for
RESULT and CAUSE, which one made while another is BUSY leaves too; a request taken enters its mode, with PRIOR and event 0; one
for ISOLATE is BUSY while the entry runs; DRAIN closes every headgate; DRAINED comes up when nothing is left, or at its timeout
with what remains flushed and counted, and the outstanding tags left to retire as an abort's do. -/
def Obligations.ModeRequests : Prop :=
  ∀ (s : State), s.alive = true →
    (∀ c m, ((c, m) ∈ [(Instr.modeReqStandalone, mSTANDALONE), (.modeReqPartitioned, mPARTITIONED), (.modeReqComposed, mCOMPOSED),
          (.modeReqFabric, mFABRIC), (.modeReqIsolate, mISOLATE), (.modeReqDrain, mDRAIN), (.modeReqDiagnostic, mDIAGNOSTIC)] ∨
        (c = .modeReqInvalid m ∧ m ∈ [mRESET, mLIMP, mSAFE, mUPDATE, mSTANDBY, 12, 13, 14, 15])) →
      (∀ k, s.modeCause m = some k → Does c s fun t => Counted s t R.DEV_MODE_REFUSED ∧ t.event 0x000 1 = true ∧ t.mode = s.mode ∧
        (s.fget R.DEV_MODE_STS_RESULT = 1 → t.reg R.DEV_MODE_STS = s.reg R.DEV_MODE_STS) ∧
        (s.fget R.DEV_MODE_STS_RESULT ≠ 1 → t.fget R.DEV_MODE_STS_RESULT = 3 ∧ t.fget R.DEV_MODE_STS_CAUSE = k) ∧
        KeepsRegs s t [R.DEV_MODE_STS] ∧ t.vault = s.vault) ∧
      (s.modeCause m = none → m ≠ mISOLATE → Does c s fun t => t.mode = m ∧ t.fget R.DEV_MODE_STS_RESULT = 2 ∧
        t.fget R.DEV_MODE_STS_PRIOR = s.mode ∧ t.event 0x000 0 = true ∧
        (m = mDRAIN → t.drainAt = s.now ∧ ∀ i ∈ s.liveInsts, t.flag (R.VIM_INST_STS_HG i) = false) ∧ t.vault = s.vault) ∧
      (s.modeCause m = none → m = mISOLATE → Does c s fun t => t.mode = s.mode ∧ t.fget R.DEV_MODE_STS_RESULT = 1 ∧
        t.fget R.ERR_ISO_STS_STATE = isoENTERING ∧ t.fget R.ERR_ISO_STS_PRIOR = s.mode ∧ t.vault = s.vault)) ∧
    (∀ m, m ∈ [mRESET, mLIMP, mSAFE, mUPDATE, mSTANDBY, 12, 13, 14, 15] → s.fget R.DEV_STRAP_MODE ≠ 2 → s.modeCause m = some mcTARGET) ∧
    (∀ m, (serviceMode (m % 16) = true ∨ m % 16 = mISOLATE ∨ m % 16 = mDRAIN ∨ m % 16 = mDIAGNOSTIC) → exec (.modeReqInvalid m) s = .next s) ∧
    (s.mode = mDRAIN → s.flag R.DEV_MODE_STS_DRAINED = true → exec .drainComplete s = .next s ∧ exec .drainTimeout s = .next s) ∧
    (s.mode = mDRAIN → s.flag R.DEV_MODE_STS_DRAINED = false →
      (∀ done, done = ((s.sw.copies.all fun x => x.unacked) && (s.liveInsts.all fun i => s.flag (R.VIM_INST_STS_IDLE i)) &&
          s.sw.tags.all fun x => x.proxy.isNone) →
        (done = true → Does .drainComplete s fun t => t.flag R.DEV_MODE_STS_DRAINED = true ∧
          t.event 0x000 3 = true ∧ KeepsRegs s t [R.DEV_MODE_STS] ∧ t.vault = s.vault) ∧
        (done = false → exec .drainComplete s = .next s)) ∧
      (s.drainAt + s.fget R.DEV_DRAIN_CTL_TMO_MS * cyclesPerMs ≤ s.now → s.ctr R.DEV_DRAIN_DROP ≤ counterMax → Does .drainTimeout s fun t =>
        t.flag R.DEV_MODE_STS_DRAINED = true ∧ t.event 0x000 3 = true ∧
        t.ctr R.DEV_DRAIN_DROP = min (s.ctr R.DEV_DRAIN_DROP
          + (s.sw.copies.filter fun c => !c.unacked && !c.sending).length) counterMax ∧
        (∀ x ∈ t.engTags, x.discard = true ∧ x.recovery = true) ∧ t.vault = s.vault) ∧
      (s.now < s.drainAt + s.fget R.DEV_DRAIN_CTL_TMO_MS * cyclesPerMs → exec .drainTimeout s = .next s)) ∧
    (s.mode ≠ mDRAIN → exec .drainComplete s = .next s ∧ exec .drainTimeout s = .next s)

/-! ### Clocks, resets and supplies (chapters 21 and 22) -/

/-- Device-wide resets (R226, R343, R344, R419, R421, R430, R444, R449, R453): each source leaves RESET, or STANDBY without
main power, with everything wiped but what R444 and VDD_AON keep; a failing main rail is captured in the always-on log, and
PWRLOSS_CLEAR clears that log but for LOSSES; RST_N's rise samples the straps, and the device leaves RESET for LIMP once its
conditions hold, with what the OTP and the straps set loaded (R11, R211). -/
def Obligations.DeviceResets : Prop :=
  ∀ (s : State),
    (s.mode = mSTANDBY ∨ s.board.aon = false → exec .resetAssert s = .next { s with board := { s.board with rstLow := true } }) ∧
    (s.board.aon = true → s.board.power = true →
      (s.mode ≠ mSTANDBY → Does .resetAssert s fun t => t.mode = mRESET ∧ t.board.rstLow = true ∧ us10 ≤ t.board.need ∧ s.wiped t) ∧
      (s.alive = true → Does .resetDevice s fun t => t.mode = mRESET ∧ us10 ≤ t.board.need ∧ s.wiped t ∧
        (∀ a ∈ keptRegs, t.reg a = s.reg a)) ∧
      (s.alive = true → Does .criticalTemperature s fun t => t.mode = mRESET ∧ t.board.hot = true ∧
        t.fget R.CLK_THERM_STS_CRIT_SEEN = 1 ∧ s.wiped t) ∧
      (∀ rail, rail < 7 → ∀ c m, (c, m) ∈ [(Instr.supplyUndervoltage rail, mRESET), (.mainPowerLoss rail, mSTANDBY)] → Does c s fun t =>
        t.mode = m ∧ cyclesPerMs ≤ t.board.need ∧ s.wiped t ∧ t.fget R.DEV_PWRLOSS_STS_VALID = 1 ∧ t.fget R.DEV_PWRLOSS_STS_RAIL = rail ∧
        t.fget R.DEV_PWRLOSS_STS_LOSSES = min 255 (s.fget R.DEV_PWRLOSS_STS_LOSSES + 1) ∧
        t.pair R.DEV_PWRLOSS_TB_LO R.DEV_PWRLOSS_TB_HI = s.ns % 2 ^ 64)) ∧
    (s.alive = false → exec .resetDevice s = .next s ∧ exec .criticalTemperature s = .next s) ∧
    ((s.board.aon = false ∨ s.board.power = false) → ∀ rail, exec (.supplyUndervoltage rail) s = .next s ∧
      exec (.mainPowerLoss rail) s = .next s) ∧
    (s.mode ≠ mSTANDBY → ∀ n present fault, exec (.standbyWake n present fault) s = .next s) ∧
    (Does .aonUndervoltage s fun t => t.mode = mRESET ∧ t.board.power = false ∧ t.board.aon = false ∧ t.pending = s.pending ∧
      t.sec.otp = s.sec.otp ∧ t.mgt.flash = s.mgt.flash ∧ t.ctrs = [] ∧ (∀ a, a ≠ R.DEV_MODE → t.reg a = regReset a)) ∧
    (s.board.power = false → Does .mainPowerReturn s fun t => t.mode = mRESET ∧ t.board.power = true ∧ t.board.wake = false ∧
      t.board.need = cyclesPerMs ∧ (∀ a, a ≠ R.DEV_MODE → t.reg a = s.reg a) ∧ t.vault = s.vault) ∧
    (s.board.power = true → exec .mainPowerReturn s = .next s) ∧
    (∀ n present fault, n < 24 → s.mode = mSTANDBY → Does (.standbyWake n present fault) s fun t => t.board.wake = true ∧
      bit t.board.cards n = (if fault then bit s.board.cards n else present) ∧ t.regs = s.regs ∧ t.vault = s.vault) ∧
    (∀ m smb cfg, m < 8 → smb < 8 → cfg < 16 → s.mode = mRESET → Does (.resetRelease m smb cfg) s fun t =>
      t.fget R.DEV_STRAP_MODE = m ∧ t.fget R.DEV_STRAP_SMBADDR = smb ∧ t.fget R.DEV_STRAP_PORTCFG = cfg ∧
      (s.board.need ≤ s.board.inReset → s.board.hot = false → t.mode = mLIMP ∧ t.now = 0 ∧ t.lifeState = s.baseState ∧
        t.reg R.DEV_SUBSYS = BitVec.ofNat 32 (s.otpWord 24) ∧ t.fget R.CLK_THERM_STS_CRIT_SEEN = 0 ∧
        ∀ k, k < 24 → t.fget (R.PHY_OCTET_MODE_MODE k) = (s.layoutOctet cfg k).1) ∧
      (s.board.inReset < s.board.need ∨ s.board.hot = true → t.mode = mRESET) ∧ t.vault = s.vault) ∧
    (s.mode ≠ mRESET → ∀ m smb cfg, exec (.resetRelease m smb cfg) s = .next s) ∧
    (∀ go, go = (s.mode == mRESET && s.board.power && s.board.aon && !s.board.rstLow && decide (s.board.need ≤ s.board.inReset)) →
      (go = false → exec .criticalCool s = .next { s with board := { s.board with hot := false } }) ∧
      (go = true → Does .criticalCool s fun t => t.mode = mLIMP ∧ t.now = 0 ∧ t.board.hot = false ∧
        t.fget R.CLK_THERM_STS_CRIT_SEEN = 0 ∧ t.vault = s.vault)) ∧
    (∀ r, (s.alive = false ∨ s.decodes r R.DEV_PWRLOSS_CLR = false) → Does (.pwrlossClear r) s fun t =>
      (∀ a ∈ [R.DEV_PWRLOSS_STS, R.DEV_PWRLOSS_POSTED, R.DEV_PWRLOSS_TB_LO, R.DEV_PWRLOSS_TB_HI], t.reg a = s.reg a) ∧ t.vault = s.vault) ∧
    (∀ r, s.alive = true → s.decodes r R.DEV_PWRLOSS_CLR = true → Does (.pwrlossClear r) s fun t =>
      t.fget R.DEV_PWRLOSS_STS_LOSSES = s.fget R.DEV_PWRLOSS_STS_LOSSES ∧ bits (t.reg R.DEV_PWRLOSS_STS).toNat 23 0 = 0 ∧
      t.reg R.DEV_PWRLOSS_POSTED = 0 ∧ t.reg R.DEV_PWRLOSS_TB_LO = 0 ∧ t.reg R.DEV_PWRLOSS_TB_HI = 0 ∧
      (∀ a, a ∉ [R.DEV_PWRLOSS_STS, R.DEV_PWRLOSS_POSTED, R.DEV_PWRLOSS_TB_LO, R.DEV_PWRLOSS_TB_HI] → t.reg a = s.reg a) ∧
      t.ctrs = s.ctrs ∧ t.vault = s.vault)

/-- Subsystem resets, the reference clock, the supplies and the temperature (R440, R445, R446, R449 to R452): a reset begun is
counted and has its effect, one of a subsystem that is being reset is ignored and counted; holdover, overvoltage and the
sensors show in their registers; the thermal governor steps its engines, RAISE never leaving a step above MAX_STEP (R28), and
requests DRAIN, at once in a service mode, later in UPDATE and ISOLATE (R430). -/
def Obligations.SubsystemsAndMonitors : Prop :=
  ∀ (s : State), s.alive = true →
    (∀ c b, (c, b) ∈ [(Instr.resetMgt, 0), (.resetCul, 1), (.resetTel, 2), (.resetShake, 3)] →
      (storeGet none s.board.resets b ≠ none → exec c s = .next (s.bump R.CLK_RST_IGNORED)) ∧
      (storeGet none s.board.resets b = none → Does c s fun t => storeGet none t.board.resets b = some s.now ∧
        Counted s t R.CLK_SUBSYS_RST ∧
        (b = 0 → t.mgt.sb = [] ∧ t.ctr R.MGT_RST_DISCARD = min (s.ctr R.MGT_RST_DISCARD + s.mgt.sb.length) counterMax ∧
          (s.lost = false → t.mgt.ops = [] ∧ t.mgt.resv = none ∧ t.mgt.halted = false) ∧
          t.mode = (if s.lost = false ∧ s.updating = false ∧ serviceMode s.mode = true then mUPDATE else s.mode)) ∧
        (b = 1 → t.cul.ops = [] ∧ t.cul.lbRst = s.now + cyclesPerUs ∧ t.fget R.CUL_SB_CTL_WAKE_EN = s.fget R.CUL_SB_CTL_WAKE_EN ∧
          t.flag R.CUL_STS_EXT_OWNS = (s.cul.extReq || s.flag R.CUL_STS_EXT_OWNS) ∧
          ∀ a, 0x10000 ≤ a → a < 0x14000 → a ≠ R.CUL_SB_CTL → a ≠ R.CUL_STS → t.reg a = regReset a) ∧
        (b = 2 → (∀ a, 0x40000 ≤ a → a < 0x50000 → t.reg a = regReset a) ∧ ∀ page table index, 0x40 ≤ page → page < 0x50 →
          table < 256 → index < 2 ^ 24 → t.tbl page table index = tblReset (tblKey page table index)) ∧
        (b = 3 → t.sec.verify = none ∧ t.sec.unlock = none ∧ t.sec.priv = s.sec.priv ∧
          (s.sec.verify ≠ none → t.fget R.SEC_OP_STS_VERIFY_RESULT = 3 ∧ t.fget R.SEC_OP_STS_VERIFY_CAUSE = scDEVICE)) ∧
        t.vault = s.vault)) ∧
    (∀ mask f, f < 8 → bit mask f = true → storeGet none s.board.resets (8 + f) = none → Does (.resetLink mask) s fun t =>
      t.linkState f = (if s.linkState f = lsDISABLED then lsDISABLED else lsDETECT) ∧
      storeGet none t.board.resets (8 + f) = some s.now ∧ t.reg (R.MFL_LINK_CTL f) = s.reg (R.MFL_LINK_CTL f) ∧ t.vault = s.vault) ∧
    (∀ mask n, n = ((upTo 8).filter fun f => bit mask f && (storeGet none s.board.resets (8 + f)).isSome).length →
      s.ctr R.CLK_RST_IGNORED ≤ counterMax → Does (.resetLink mask) s fun t =>
        t.ctr R.CLK_RST_IGNORED = min (s.ctr R.CLK_RST_IGNORED + n) counterMax ∧
        (∀ f, f < 8 → (bit mask f = false ∨ storeGet none s.board.resets (8 + f) ≠ none) → t.linkState f = s.linkState f ∧
          storeGet none t.board.resets (8 + f) = storeGet none s.board.resets (8 + f)) ∧ t.vault = s.vault) ∧
    (∀ sub, (storeGet none s.board.resets sub ≠ none → (sub ≠ 1 ∨ s.cul.lbRst ≤ s.now) → Does (.subsysResetDone sub) s fun t =>
        storeGet none t.board.resets sub = none ∧ (∀ b, b ≠ sub → storeGet none t.board.resets b = storeGet none s.board.resets b) ∧
        t.regs = s.regs ∧ t.vault = s.vault) ∧
      ((storeGet none s.board.resets sub = none ∨ (sub = 1 ∧ s.now < s.cul.lbRst)) → exec (.subsysResetDone sub) s = .next s)) ∧
    (s.flag R.CLK_STS_HOLDOVER = false → (Does .trefLost s fun t => t.flag R.CLK_STS_HOLDOVER = true ∧ t.flag R.CLK_STS_LOCKED = false ∧
      t.event 0x004 0 = true ∧ t.event 0x50 4 = true ∧ KeepsRegs s t [R.CLK_STS] ∧ t.vault = s.vault) ∧
      exec .trefRestored s = .next s) ∧
    (s.flag R.CLK_STS_HOLDOVER = true → (Does .trefRestored s fun t => t.flag R.CLK_STS_HOLDOVER = false ∧
      t.flag R.CLK_STS_LOCKED = true ∧ t.event 0x004 0 = true ∧ KeepsRegs s t [R.CLK_STS] ∧ t.vault = s.vault) ∧
      exec .trefLost s = .next s) ∧
    (∀ rails, rails < 256 → Does (.supplyOvervoltage rails) s fun t => t.fget R.CLK_SUPPLY_STS_OV = rails ∧
      (∀ i, i < 8 → bit rails i = true → bit (s.fget R.CLK_SUPPLY_STS_OV) i = false → t.event 0x004 1 = true ∧ t.event 0x50 4 = true) ∧
      KeepsRegs s t [R.CLK_SUPPLY_STS] ∧ t.vault = s.vault) ∧
    (∀ ts, (s.now < storeGet 0 s.govAt 3 + 10 * cyclesPerMs → exec (.thermalGovTick ts) s = .next s) ∧
      (storeGet 0 s.govAt 3 + 10 * cyclesPerMs ≤ s.now → Does (.thermalGovTick ts) s fun t =>
        t.fget R.CLK_THERM_STS_HOTTEST = min 4095 (ts.foldl max 0) ∧
        (∀ c, c < 4 → t.fget (R.CLK_THERM_CL_T c) = min 4095 (ts.getD c 0)) ∧
        (s.flag R.CLK_THERM_GOV_EN = false → KeepsRegs s t (R.CLK_THERM_STS :: (upTo 4).map R.CLK_THERM_CL)) ∧
        (s.flag R.CLK_THERM_GOV_EN = true → ∀ c j m k, c < 4 → j < 4 → k = s.fget (R.ENG_STS_RATE_STEP (4 * c)) →
          m = max (min 4095 (ts.getD c 0)) (min 4095 (ts.foldl max 0)) →
          t.fget (R.ENG_STS_RATE_STEP (4 * c + j)) =
            (if s.fget R.CLK_THERM_GOV_T_START * 10 ≤ m ∧ k < s.fget R.CLK_THERM_GOV_MAX_STEP then k + 1
            else if m + s.fget R.CLK_THERM_GOV_HYST * 10 < s.fget R.CLK_THERM_GOV_T_START * 10 ∧ 0 < k ∧ 3 ≤ storeGet 0 s.board.cool c
              then min (k - 1) (s.fget R.CLK_THERM_GOV_MAX_STEP)
            else s.fget (R.ENG_STS_RATE_STEP (4 * c + j)))) ∧
        (∀ hot, hot = decide (s.fget R.CLK_THERM_GOV_T_DRAIN * 10 ≤ min 4095 (ts.foldl max 0)) → ∀ svc, svc = serviceMode s.mode →
          ∀ iso, iso = decide (s.fget R.ERR_ISO_STS_STATE = isoENTERING) → ∀ en, en = s.flag R.CLK_THERM_GOV_EN →
          ((en && hot && svc && !iso) = true → t.mode = mDRAIN ∧ t.flag R.DEV_MODE_STS_THERMAL = true ∧ t.event 0x005 1 = true) ∧
          ((en && hot && svc && !iso) = false → t.mode = s.mode) ∧
          (en = true → hot = true → ((svc && iso) = true ∨ s.mode = mUPDATE ∨ s.mode = mISOLATE) → t.board.drainDue = true)) ∧
        t.vault = s.vault))

/-- The outputs and the package (R436, R437, R457, R458): RST_N low releases every output, to the level its termination sets;
where main power is lost, the supervisor holds every gate low and STAT drives 0xA; no two balls have one name, and none carry
one signal. -/
def Obligations.OutputsAndBalls : Prop :=
  (∀ s : State, s.board.aon = true → s.board.power = true →
    (s.mode ≠ mSTANDBY → Does .resetAssert s fun t => t.pins = Pins.released) ∧
    (∀ rail, rail < 7 → Does (.mainPowerLoss rail) s fun t =>
      t.pins.stat = 0xA ∧ t.pins.gate12 = 0 ∧ t.pins.gate3v3 = 0 ∧ t.pins.slotPerstN = 0 ∧ t.pins.transmit = false)) ∧
  (∀ i k, i < 74 → k < 74 → rowName i = rowName k → i = k) ∧
  (∀ i j k l, i < 74 → k < 74 → 1 ≤ j → j ≤ 74 → 1 ≤ l → l ≤ 74 → ∀ x, ballAt i j = .signal x → ballAt k l = .signal x →
    i = k ∧ j = l)
end

