-- ==== Sys2Proof/Laws/Store.lean ====
section
/-! SUPPORT. Sparse stores: a read after a write, and the canonical form every write keeps. -/

namespace Sys2Proof.Machine

theorem storeGet_storeDrop_same {α : Type} (d : α) (q : Nat) (m : Store α) : storeGet d (storeDrop q m) q = d := by
  induction m with
  | nil => rfl
  | cons a m ih =>
    obtain ⟨j, w⟩ := a
    unfold storeDrop
    split
    · exact ih
    · rename_i h
      simp [storeGet, h, ih]

theorem storeGet_storeDrop_ne {α : Type} {d : α} {q k : Nat} (m : Store α) (h : k ≠ q) :
    storeGet d (storeDrop q m) k = storeGet d m k := by
  induction m with
  | nil => rfl
  | cons a m ih =>
    obtain ⟨j, w⟩ := a
    unfold storeDrop
    split
    · subst j
      simp [storeGet, h, ih]
    · simp [storeGet, ih]

theorem storeGet_storeInsert_same {α : Type} (d : α) (q : Nat) (v : α) (m : Store α) :
    storeGet d (storeInsert q v m) q = v := by
  induction m with
  | nil => simp [storeInsert, storeGet]
  | cons a m ih =>
    obtain ⟨j, w⟩ := a
    unfold storeInsert
    split
    · simp [storeGet]
    · split
      · simp [storeGet]
      · rename_i h
        simp [storeGet, h, ih]

theorem storeGet_storeInsert_ne {α : Type} {d : α} {q k : Nat} {v : α} (m : Store α) (h : k ≠ q) :
    storeGet d (storeInsert q v m) k = storeGet d m k := by
  induction m with
  | nil => simp [storeInsert, storeGet, h]
  | cons a m ih =>
    obtain ⟨j, w⟩ := a
    unfold storeInsert
    split
    · simp [storeGet, h]
    · split
      · subst j
        simp [storeGet, h]
      · simp [storeGet, ih]

theorem storePut_eq {α : Type} [DecidableEq α] (d : α) (q : Nat) (v : α) (m : Store α) :
    storePut d q v m = if v = d then storeDrop q m else storeInsert q v m := by
  cases m <;> rfl

/-- The key written reads as written. -/
@[simp] theorem storeGet_storePut_same {α : Type} [DecidableEq α] (d : α) (q : Nat) (v : α) (m : Store α) :
    storeGet d (storePut d q v m) q = v := by
  rw [storePut_eq]
  split
  · rename_i h
    rw [h, storeGet_storeDrop_same]
  · exact storeGet_storeInsert_same d q v m

/-- A write leaves every other key alone. -/
theorem storeGet_storePut_ne {α : Type} [DecidableEq α] {d e : α} {q k : Nat} {v : α} (m : Store α) (h : k ≠ q) :
    storeGet e (storePut d q v m) k = storeGet e m k := by
  rw [storePut_eq]
  split
  · exact storeGet_storeDrop_ne m h
  · exact storeGet_storeInsert_ne m h

/-- A read after a write. -/
theorem storeGet_storePut {α : Type} [DecidableEq α] (d : Nat → α) (q k : Nat) (v : α) (m : Store α) :
    storeGet (d k) (storePut (d q) q v m) k = if k = q then v else storeGet (d k) m k := by
  split
  · rename_i h
    subst h
    simp
  · rename_i h
    exact storeGet_storePut_ne m h

theorem storeWfFrom_mono {α : Type} [DecidableEq α] {d : Nat → α} {lo hi : Nat} {m : Store α} (h : lo ≤ hi)
    (w : storeWfFrom d hi m = true) : storeWfFrom d lo m = true := by
  cases m with
  | nil => rfl
  | cons a m =>
    simp only [storeWfFrom, Bool.and_eq_true, decide_eq_true_eq] at w ⊢
    exact ⟨⟨by omega, w.1.2⟩, w.2⟩

theorem storeWfFrom_drop {α : Type} [DecidableEq α] {d : Nat → α} {q : Nat} {m : Store α} :
    ∀ {lo : Nat}, storeWfFrom d lo m = true → storeWfFrom d lo (storeDrop q m) = true := by
  induction m with
  | nil => exact fun h => h
  | cons a m ih =>
    intro lo w
    obtain ⟨j, x⟩ := a
    simp only [storeWfFrom, Bool.and_eq_true, decide_eq_true_eq] at w
    unfold storeDrop
    split
    · exact ih (storeWfFrom_mono (by omega) w.2)
    · simp [storeWfFrom, w.1.1, w.1.2, ih w.2]

theorem storeWfFrom_insert {α : Type} [DecidableEq α] {d : Nat → α} {q : Nat} {v : α} {m : Store α} (hv : v ≠ d q) :
    ∀ {lo : Nat}, lo ≤ q → storeWfFrom d lo m = true → storeWfFrom d lo (storeInsert q v m) = true := by
  induction m with
  | nil =>
    intro lo hq _
    simp [storeInsert, storeWfFrom, hq, hv]
  | cons a m ih =>
    intro lo hq w
    obtain ⟨j, x⟩ := a
    simp only [storeWfFrom, Bool.and_eq_true, decide_eq_true_eq] at w
    obtain ⟨⟨hj, hx⟩, hm⟩ := w
    unfold storeInsert
    split
    · simp [storeWfFrom, hq, hv, hx, hm]
      omega
    · split
      · subst q
        simp [storeWfFrom, hj, hv, hm]
      · have hk : j + 1 ≤ q := by omega
        simp [storeWfFrom, hj, hx, ih hk hm]

/-- A write keeps the canonical form. -/
theorem storeWf_storePut {α : Type} [DecidableEq α] {d : Nat → α} {q : Nat} {v : α} {m : Store α}
    (w : storeWf d m = true) : storeWf d (storePut (d q) q v m) = true := by
  rw [storePut_eq]
  split
  · exact storeWfFrom_drop w
  · rename_i h
    exact storeWfFrom_insert h (Nat.zero_le q) w

end Sys2Proof.Machine
end

