-- ==== Sys2Proof/Laws/Fields.lean ====
section
/-! SUPPORT. Bit fields (R6): a field read after a field write, in the same register or another. -/

namespace Sys2Proof.Machine

theorem testBit_bits (v hi lo i : Nat) : (bits v hi lo).testBit i = (decide (i < hi - lo + 1) && v.testBit (lo + i)) := by
  unfold bits
  rw [Nat.testBit_mod_two_pow, Nat.testBit_div_two_pow, Nat.add_comm i lo]

theorem putBits_eq (v hi lo x : Nat) :
    putBits v hi lo x = 2 ^ lo * (2 ^ (hi - lo + 1) * (v / 2 ^ lo / 2 ^ (hi - lo + 1)) + x % 2 ^ (hi - lo + 1)) + v % 2 ^ lo := by
  unfold putBits bits
  have h1 := Nat.div_add_mod v (2 ^ lo)
  have h2 := Nat.div_add_mod (v / 2 ^ lo) (2 ^ (hi - lo + 1))
  generalize v / 2 ^ lo / 2 ^ (hi - lo + 1) = q at *
  generalize v / 2 ^ lo % 2 ^ (hi - lo + 1) = r at *
  generalize v % 2 ^ lo = c at *
  generalize x % 2 ^ (hi - lo + 1) = y
  have h3 : v = 2 ^ lo * (2 ^ (hi - lo + 1) * q) + r * 2 ^ lo + c := by
    rw [← h1, ← h2, Nat.mul_add, Nat.mul_comm r]
  rw [Nat.mul_add, Nat.mul_comm (2 ^ lo) y]
  omega

theorem testBit_putBits (v hi lo x i : Nat) (h : lo ≤ hi) :
    (putBits v hi lo x).testBit i = if lo ≤ i ∧ i ≤ hi then x.testBit (i - lo) else v.testBit i := by
  rw [putBits_eq, Nat.testBit_two_pow_mul_add _ (Nat.mod_lt _ (Nat.two_pow_pos lo))]
  split
  · rename_i hi'
    rw [if_neg (by omega), Nat.testBit_mod_two_pow]
    simp [hi']
  · rename_i hi'
    rw [Nat.testBit_two_pow_mul_add _ (Nat.mod_lt _ (Nat.two_pow_pos _))]
    split
    · rename_i hl
      rw [if_pos (by omega), Nat.testBit_mod_two_pow]
      simp [hl]
    · rename_i hl
      rw [if_neg (by omega), Nat.testBit_div_two_pow, Nat.testBit_div_two_pow]
      congr 1
      omega

theorem bits_putBits_same (v hi lo x : Nat) (h : lo ≤ hi) : bits (putBits v hi lo x) hi lo = x % 2 ^ (hi - lo + 1) := by
  apply Nat.eq_of_testBit_eq
  intro i
  rw [testBit_bits, testBit_putBits _ _ _ _ _ h, Nat.testBit_mod_two_pow]
  by_cases hi' : i < hi - lo + 1
  · rw [if_pos (by omega)]
    simp
  · simp [hi']

theorem bits_putBits_ne (v hi lo hi' lo' x : Nat) (h : lo ≤ hi) (h' : lo' ≤ hi') (hd : hi' < lo ∨ hi < lo') :
    bits (putBits v hi lo x) hi' lo' = bits v hi' lo' := by
  apply Nat.eq_of_testBit_eq
  intro i
  rw [testBit_bits, testBit_bits, testBit_putBits _ _ _ _ _ h]
  by_cases hl : i < hi' - lo' + 1
  · rw [if_neg (by omega)]
  · simp [hl]

theorem bits_mod (v n hi lo : Nat) (h : lo ≤ hi) (hn : hi < n) : bits (v % 2 ^ n) hi lo = bits v hi lo := by
  apply Nat.eq_of_testBit_eq
  intro i
  rw [testBit_bits, testBit_bits, Nat.testBit_mod_two_pow]
  by_cases hl : i < hi - lo + 1
  · have : lo + i < n := by omega
    simp [this]
  · simp [hl]

/-- A register reads as it was set. -/
@[simp] theorem State.reg_setReg_same (s : State) (a : Nat) (v : W32) : (s.setReg a v).reg a = v :=
  storeGet_storePut_same _ _ _ _

theorem State.reg_setReg (s : State) (a b : Nat) (v : W32) : (s.setReg b v).reg a = if a = b then v else s.reg a :=
  storeGet_storePut regReset b a v s.regs

/-- A field reads as it was set, within its width. -/
theorem State.fget_fset_same (s : State) (f : Fld) (v : Nat) (h : f.lo ≤ f.hi) (h' : f.hi < 32) :
    (s.fset f v).fget f = v % 2 ^ (f.hi - f.lo + 1) := by
  unfold State.fget State.fset
  rw [State.reg_setReg_same, BitVec.toNat_ofNat, bits_mod _ _ _ _ h h', bits_putBits_same _ _ _ _ h]

/-- A field of another register is left alone. -/
theorem State.fget_fset_reg (s : State) (f g : Fld) (v : Nat) (h : g.addr ≠ f.addr) : (s.fset f v).fget g = s.fget g := by
  unfold State.fget State.fset
  rw [State.reg_setReg, if_neg h]

/-- Another field of the same register is left alone. -/
theorem State.fget_fset_ne (s : State) (f g : Fld) (v : Nat) (hf : f.lo ≤ f.hi) (hg : g.lo ≤ g.hi) (hg' : g.hi < 32)
    (h : g.hi < f.lo ∨ f.hi < g.lo) : (s.fset f v).fget g = s.fget g := by
  by_cases ha : g.addr = f.addr
  · unfold State.fget State.fset
    rw [State.reg_setReg, if_pos ha, BitVec.toNat_ofNat, bits_mod _ _ _ _ hg hg', bits_putBits_ne _ _ _ _ _ _ hf hg h, ha]
  · exact State.fget_fset_reg s f g v ha

/-- A counter reads as it was set, below its end. -/
theorem State.ctr_setCtr (s : State) (a b v : Nat) : (s.setCtr b v).ctr a = if a = b then min v counterMax else s.ctr a :=
  storeGet_storePut (fun _ => 0) b a (min v counterMax) s.ctrs

/-- A table entry reads as it was set. -/
@[simp] theorem State.tbl_setTbl_same (s : State) (page table index : Nat) (v : W256) :
    (s.setTbl page table index v).tbl page table index = v :=
  storeGet_storePut_same _ _ _ _

/-- Other table entries are left alone. -/
theorem State.tbl_setTbl_ne (s : State) {page table index page' table' index' : Nat} (v : W256)
    (h : tblKey page' table' index' ≠ tblKey page table index) :
    (s.setTbl page table index v).tbl page' table' index' = s.tbl page' table' index' :=
  storeGet_storePut_ne _ h

end Sys2Proof.Machine
end

