-- ==== Sys2Proof/Laws/FrameBase.lean ====
section
/-! SUPPORT. The vault (queue, SRAM, flash, OTP) through record updates, folds and matches: what the frame lemmas rest on. -/

namespace Sys2Proof.Machine

set_option linter.all false

@[simp] theorem vault_mk1 (s : State) (x_free : Nat) (x_undef : Option Nat) (x_answer : Answer) (x_now : Nat) (x_service : Nat) (x_regs : Store W32) (x_ctrs : Store Nat) (x_tbls : Store W256) (x_firstAt : Store Nat) (x_evtCycles : Store EvtCycle) (x_latches : Store Latch) (x_tblRuns : Store (Option TblRun)) (x_tb : TimeBase) (x_fs : FrameSync) (x_gates : Store (List Fired)) (x_armInst : Store (Option Nat)) (x_firing : List Nat) (x_sw : Switch) (x_sweep : Sweep) (x_mapOld : Option OldEntry) (x_sessions : Store Session) (x_samplers : Store Sampler) (x_samples : Store (BitVec 1280)) (x_govSeq : Store Nat) (x_err : ErrSt) (x_shadows : Store W32) (x_bars : Store W32) (x_rings : Store RingSt) (x_engines : Store EngSt) (x_engTags : List EngTag) (x_retiredTags : List (BitVec 16 × BitVec 14 × Nat)) (x_insts : Store InstSt) (x_pbaRing : Store Nat) (x_remoteBridges : List (Nat × Nat × Nat)) (x_remotePorts : List (Nat × Nat × Nat)) (x_relayed : Store (Option W32)) (x_announced : Store (Option Nat)) (x_goneRemotes : List (Nat × Nat × Nat)) (x_dpcDue : List (Nat × Nat)) (x_octetAsk : List Nat) (x_unbridged : List Nat) (x_remoteWords : Store W32) (x_homeBuses : Store (Option Nat)) (x_links : Store LinkSt) (x_tests : Store TestUnit) (x_govAt : Store Nat) (x_upSince : Store (Option Nat)) (x_wasUsable : Nat) (x_bar4Next : Nat) (x_bar4 : List RemoteRead) (x_heldCpl : List (Nat × Frame)) (x_coreReads : List CoreRead) (x_cul : Culvert) (x_board : Board) (x_slots : Store Slot) (x_drainAt : Nat) (x_safeAt : Nat) (x_uptrip : Option Nat) (x_spvDue : List SpvEvent) :
    (State.mk s.pending x_free x_undef x_answer x_now x_service x_regs x_ctrs x_tbls x_firstAt x_evtCycles x_latches x_tblRuns x_tb x_fs x_gates x_armInst x_firing x_sw x_sweep x_mapOld x_sessions x_samplers x_samples x_govSeq x_err x_shadows x_bars x_rings x_engines x_engTags x_retiredTags x_insts x_pbaRing x_remoteBridges x_remotePorts x_relayed x_announced x_goneRemotes x_dpcDue x_octetAsk x_unbridged x_remoteWords x_homeBuses x_links x_tests x_govAt x_upSince x_wasUsable x_bar4Next x_bar4 x_heldCpl x_coreReads s.sec x_cul s.mgt x_board x_slots x_drainAt x_safeAt x_uptrip x_spvDue).vault = s.vault := rfl

@[simp] theorem vault_mk2 (s : State) (x_free : Nat) (x_undef : Option Nat) (x_answer : Answer) (x_now : Nat) (x_service : Nat) (x_regs : Store W32) (x_ctrs : Store Nat) (x_tbls : Store W256) (x_firstAt : Store Nat) (x_evtCycles : Store EvtCycle) (x_latches : Store Latch) (x_tblRuns : Store (Option TblRun)) (x_tb : TimeBase) (x_fs : FrameSync) (x_gates : Store (List Fired)) (x_armInst : Store (Option Nat)) (x_firing : List Nat) (x_sw : Switch) (x_sweep : Sweep) (x_mapOld : Option OldEntry) (x_sessions : Store Session) (x_samplers : Store Sampler) (x_samples : Store (BitVec 1280)) (x_govSeq : Store Nat) (x_err : ErrSt) (x_shadows : Store W32) (x_bars : Store W32) (x_rings : Store RingSt) (x_engines : Store EngSt) (x_engTags : List EngTag) (x_retiredTags : List (BitVec 16 × BitVec 14 × Nat)) (x_insts : Store InstSt) (x_pbaRing : Store Nat) (x_remoteBridges : List (Nat × Nat × Nat)) (x_remotePorts : List (Nat × Nat × Nat)) (x_relayed : Store (Option W32)) (x_announced : Store (Option Nat)) (x_goneRemotes : List (Nat × Nat × Nat)) (x_dpcDue : List (Nat × Nat)) (x_octetAsk : List Nat) (x_unbridged : List Nat) (x_remoteWords : Store W32) (x_homeBuses : Store (Option Nat)) (x_links : Store LinkSt) (x_tests : Store TestUnit) (x_govAt : Store Nat) (x_upSince : Store (Option Nat)) (x_wasUsable : Nat) (x_bar4Next : Nat) (x_bar4 : List RemoteRead) (x_heldCpl : List (Nat × Frame)) (x_coreReads : List CoreRead) (x_cul : Culvert) (x_board : Board) (x_slots : Store Slot) (x_drainAt : Nat) (x_safeAt : Nat) (x_uptrip : Option Nat) (x_spvDue : List SpvEvent) (m : Mgt) (hm : m.sram = s.mgt.sram ∧ m.flash = s.mgt.flash) :
    (State.mk s.pending x_free x_undef x_answer x_now x_service x_regs x_ctrs x_tbls x_firstAt x_evtCycles x_latches x_tblRuns x_tb x_fs x_gates x_armInst x_firing x_sw x_sweep x_mapOld x_sessions x_samplers x_samples x_govSeq x_err x_shadows x_bars x_rings x_engines x_engTags x_retiredTags x_insts x_pbaRing x_remoteBridges x_remotePorts x_relayed x_announced x_goneRemotes x_dpcDue x_octetAsk x_unbridged x_remoteWords x_homeBuses x_links x_tests x_govAt x_upSince x_wasUsable x_bar4Next x_bar4 x_heldCpl x_coreReads s.sec x_cul m x_board x_slots x_drainAt x_safeAt x_uptrip x_spvDue).vault = s.vault := by simp [State.vault, hm]

@[simp] theorem vault_mk3 (s : State) (x_free : Nat) (x_undef : Option Nat) (x_answer : Answer) (x_now : Nat) (x_service : Nat) (x_regs : Store W32) (x_ctrs : Store Nat) (x_tbls : Store W256) (x_firstAt : Store Nat) (x_evtCycles : Store EvtCycle) (x_latches : Store Latch) (x_tblRuns : Store (Option TblRun)) (x_tb : TimeBase) (x_fs : FrameSync) (x_gates : Store (List Fired)) (x_armInst : Store (Option Nat)) (x_firing : List Nat) (x_sw : Switch) (x_sweep : Sweep) (x_mapOld : Option OldEntry) (x_sessions : Store Session) (x_samplers : Store Sampler) (x_samples : Store (BitVec 1280)) (x_govSeq : Store Nat) (x_err : ErrSt) (x_shadows : Store W32) (x_bars : Store W32) (x_rings : Store RingSt) (x_engines : Store EngSt) (x_engTags : List EngTag) (x_retiredTags : List (BitVec 16 × BitVec 14 × Nat)) (x_insts : Store InstSt) (x_pbaRing : Store Nat) (x_remoteBridges : List (Nat × Nat × Nat)) (x_remotePorts : List (Nat × Nat × Nat)) (x_relayed : Store (Option W32)) (x_announced : Store (Option Nat)) (x_goneRemotes : List (Nat × Nat × Nat)) (x_dpcDue : List (Nat × Nat)) (x_octetAsk : List Nat) (x_unbridged : List Nat) (x_remoteWords : Store W32) (x_homeBuses : Store (Option Nat)) (x_links : Store LinkSt) (x_tests : Store TestUnit) (x_govAt : Store Nat) (x_upSince : Store (Option Nat)) (x_wasUsable : Nat) (x_bar4Next : Nat) (x_bar4 : List RemoteRead) (x_heldCpl : List (Nat × Frame)) (x_coreReads : List CoreRead) (x_cul : Culvert) (x_board : Board) (x_slots : Store Slot) (x_drainAt : Nat) (x_safeAt : Nat) (x_uptrip : Option Nat) (x_spvDue : List SpvEvent) (c : SecSt) (hc : c.otp = s.sec.otp) :
    (State.mk s.pending x_free x_undef x_answer x_now x_service x_regs x_ctrs x_tbls x_firstAt x_evtCycles x_latches x_tblRuns x_tb x_fs x_gates x_armInst x_firing x_sw x_sweep x_mapOld x_sessions x_samplers x_samples x_govSeq x_err x_shadows x_bars x_rings x_engines x_engTags x_retiredTags x_insts x_pbaRing x_remoteBridges x_remotePorts x_relayed x_announced x_goneRemotes x_dpcDue x_octetAsk x_unbridged x_remoteWords x_homeBuses x_links x_tests x_govAt x_upSince x_wasUsable x_bar4Next x_bar4 x_heldCpl x_coreReads c x_cul s.mgt x_board x_slots x_drainAt x_safeAt x_uptrip x_spvDue).vault = s.vault := by simp [State.vault, hc]

@[simp] theorem vault_mk4 (s : State) (x_free : Nat) (x_undef : Option Nat) (x_answer : Answer) (x_now : Nat) (x_service : Nat) (x_regs : Store W32) (x_ctrs : Store Nat) (x_tbls : Store W256) (x_firstAt : Store Nat) (x_evtCycles : Store EvtCycle) (x_latches : Store Latch) (x_tblRuns : Store (Option TblRun)) (x_tb : TimeBase) (x_fs : FrameSync) (x_gates : Store (List Fired)) (x_armInst : Store (Option Nat)) (x_firing : List Nat) (x_sw : Switch) (x_sweep : Sweep) (x_mapOld : Option OldEntry) (x_sessions : Store Session) (x_samplers : Store Sampler) (x_samples : Store (BitVec 1280)) (x_govSeq : Store Nat) (x_err : ErrSt) (x_shadows : Store W32) (x_bars : Store W32) (x_rings : Store RingSt) (x_engines : Store EngSt) (x_engTags : List EngTag) (x_retiredTags : List (BitVec 16 × BitVec 14 × Nat)) (x_insts : Store InstSt) (x_pbaRing : Store Nat) (x_remoteBridges : List (Nat × Nat × Nat)) (x_remotePorts : List (Nat × Nat × Nat)) (x_relayed : Store (Option W32)) (x_announced : Store (Option Nat)) (x_goneRemotes : List (Nat × Nat × Nat)) (x_dpcDue : List (Nat × Nat)) (x_octetAsk : List Nat) (x_unbridged : List Nat) (x_remoteWords : Store W32) (x_homeBuses : Store (Option Nat)) (x_links : Store LinkSt) (x_tests : Store TestUnit) (x_govAt : Store Nat) (x_upSince : Store (Option Nat)) (x_wasUsable : Nat) (x_bar4Next : Nat) (x_bar4 : List RemoteRead) (x_heldCpl : List (Nat × Frame)) (x_coreReads : List CoreRead) (x_cul : Culvert) (x_board : Board) (x_slots : Store Slot) (x_drainAt : Nat) (x_safeAt : Nat) (x_uptrip : Option Nat) (x_spvDue : List SpvEvent) (m : Mgt) (hm : m.sram = s.mgt.sram ∧ m.flash = s.mgt.flash) (c : SecSt) (hc : c.otp = s.sec.otp) :
    (State.mk s.pending x_free x_undef x_answer x_now x_service x_regs x_ctrs x_tbls x_firstAt x_evtCycles x_latches x_tblRuns x_tb x_fs x_gates x_armInst x_firing x_sw x_sweep x_mapOld x_sessions x_samplers x_samples x_govSeq x_err x_shadows x_bars x_rings x_engines x_engTags x_retiredTags x_insts x_pbaRing x_remoteBridges x_remotePorts x_relayed x_announced x_goneRemotes x_dpcDue x_octetAsk x_unbridged x_remoteWords x_homeBuses x_links x_tests x_govAt x_upSince x_wasUsable x_bar4Next x_bar4 x_heldCpl x_coreReads c x_cul m x_board x_slots x_drainAt x_safeAt x_uptrip x_spvDue).vault = s.vault := by simp [State.vault, hm, hc]

theorem vault_foldl {α : Type} (f : State → α → State) (l : List α) (s : State) (h : ∀ s x, (f s x).vault = s.vault) :
    (l.foldl f s).vault = s.vault := by
  induction l generalizing s with
  | nil => rfl
  | cons x l ih => simp [ih, h]

@[simp] theorem vault_ite (c : Prop) [Decidable c] (a b : State) :
    (if c then a else b).vault = if c then a.vault else b.vault := by split <;> rfl

theorem vault_snd {α : Type} {p : α × State} {a : α} {s t : State} (h : p = (a, t)) (k : p.2.vault = s.vault) :
    t.vault = s.vault := by rw [h] at k; exact k

theorem vault_fst {α : Type} {p : State × α} {a : α} {s t : State} (h : p = (t, a)) (k : p.1.vault = s.vault) :
    t.vault = s.vault := by rw [h] at k; exact k

theorem finish_next {s t : State} (h : s.finish = .next t) : t = s := by
  unfold State.finish at h
  split at h
  · cases h
  · cases h; rfl

theorem vault_foldl_fst {α β : Type} (f : State × β → α → State × β) (l : List α) (r : State × β)
    (h : ∀ r x, (f r x).1.vault = r.1.vault) : (l.foldl f r).1.vault = r.1.vault := by
  induction l generalizing r with
  | nil => rfl
  | cons x l ih => simp [ih, h]

theorem vault_foldl_snd {α β : Type} (f : β × State → α → β × State) (l : List α) (r : β × State)
    (h : ∀ r x, (f r x).2.vault = r.2.vault) : (l.foldl f r).2.vault = r.2.vault := by
  induction l generalizing r with
  | nil => rfl
  | cons x l ih => simp [ih, h]

theorem vault_if (c : Prop) [Decidable c] (a b : State) {s : State} (ha : a.vault = s.vault) (hb : b.vault = s.vault) :
    (if c then a else b).vault = s.vault := by split <;> assumption


end Sys2Proof.Machine
end

