-- ==== Sys2Proof/Laws/Frame1.lean ====
section
/-! SUPPORT. Frame lemmas, part 1: operations that leave the queue, SRAM, flash and OTP alone. -/

namespace Sys2Proof.Machine

set_option linter.all false

@[simp] theorem State.thermCool_vault (s : State) :
    (State.thermCool s).vault = s.vault := by simp [State.thermCool]

@[simp] theorem State.setReg_vault (s : State) (a : Nat) (v : W32) :
    (State.setReg s a v).vault = s.vault := by simp [State.setReg]

@[simp] theorem State.fset_vault (s : State) (f : Fld) (v : Nat) :
    (State.fset s f v).vault = s.vault := by simp [State.fset]

@[simp] theorem State.showChain_vault (s : State) (f : Nat) :
    (State.showChain s f).vault = s.vault := by simp [State.showChain]

@[simp] theorem State.modLink_vault (s : State) (f : Nat) (g : LinkSt → LinkSt) :
    (State.modLink s f g).vault = s.vault := by simp [State.modLink]

@[simp] theorem State.dropChain_vault (s : State) (f : Nat) :
    (State.dropChain s f).vault = s.vault := by simp [State.dropChain]

@[simp] theorem State.fresh_vault (s : State) :
    (State.fresh s).2.vault = s.vault := by simp [State.fresh]

@[simp] theorem State.modEngTags_vault (s : State) (f : EngTag → EngTag) :
    (State.modEngTags s f).vault = s.vault := by simp [State.modEngTags]

@[simp] theorem State.modTag_vault (s : State) (id : Nat) (f : TagRec → TagRec) :
    (State.modTag s id f).vault = s.vault := by simp [State.modTag]

@[simp] theorem State.dropTag_vault (s : State) (id : Nat) :
    (State.dropTag s id).vault = s.vault := by simp [State.dropTag]

@[simp] theorem State.setCtr_vault (s : State) (a : Nat) (v : Nat) :
    (State.setCtr s a v).vault = s.vault := by simp [State.setCtr]

@[simp] theorem State.bumpBy_vault (s : State) (a : Nat) (n : Nat) :
    (State.bumpBy s a n).vault = s.vault := by simp [State.bumpBy]

@[simp] theorem State.bump_vault (s : State) (a : Nat) :
    (State.bump s a).vault = s.vault := by simp [State.bump]

@[simp] theorem State.setTbl_vault (s : State) (page : Nat) (table : Nat) (index : Nat) (v : W256) :
    (State.setTbl s page table index v).vault = s.vault := by simp [State.setTbl]

@[simp] theorem State.setLogSlot_vault (s : State) (slot : Nat) (v : Nat) :
    (State.setLogSlot s slot v).vault = s.vault := by
  unfold State.setLogSlot
  (repeat' (first | (simp [vault_foldl]; done) | split))

@[simp] theorem State.evtWins_vault (s : State) (page : Nat) :
    (State.evtWins s page).vault = s.vault := by simp [State.evtWins]

@[simp] theorem State.setPort_vault (s : State) (n : Nat) (p : PortSt) :
    (State.setPort s n p).vault = s.vault := by simp [State.setPort]

@[simp] theorem State.modPort_vault (s : State) (n : Nat) (f : PortSt → PortSt) :
    (State.modPort s n f).vault = s.vault := by simp [State.modPort]

@[simp] theorem State.setCopies_vault (s : State) (cs : List Copy) :
    (State.setCopies s cs).vault = s.vault := by simp [State.setCopies]

@[simp] theorem State.enqueue_vault (s : State) (c : Copy) :
    (State.enqueue s c).vault = s.vault := by simp [State.enqueue]

@[simp] theorem State.notePeak_vault (s : State) (n : Nat) :
    (State.notePeak s n).vault = s.vault := by simp [State.notePeak]

@[simp] theorem State.store_vault (s : State) (f : Frame) :
    (State.store s f).vault = s.vault := by simp [State.store]

@[simp] theorem State.wait_vault (s : State) (f : Frame) (need : WaitFor) (cs : List Copy) :
    (State.wait s f need cs).vault = s.vault := by simp [State.wait]

@[simp] theorem State.admitOrWait_vault (s : State) (f : Frame) (cs : List Copy) :
    (State.admitOrWait s f cs).vault = s.vault := by
  unfold State.admitOrWait
  (repeat' (first | (simp [vault_foldl]; done) | split))

@[simp] theorem State.devicePost_vault (s : State) (t : Tlp) (pool : Pool) (fid : Nat) (dest : Nat) (why : Purpose) :
    (State.devicePost s t pool fid dest why).vault = s.vault := by
  unfold State.devicePost
  dsimp only
  (repeat' split) <;> simp [vault_foldl]

@[simp] theorem State.postToHost_vault (s : State) (part : Nat) (addr : W64) (data : List Byte) (pool : Pool) (why : Purpose) :
    (State.postToHost s part addr data pool why).vault = s.vault := by
  unfold State.postToHost
  (repeat' split) <;> simp

@[simp] theorem State.setBar_vault (s : State) (fn : Nat) (off : Nat) (v : W32) :
    (State.setBar s fn off v).vault = s.vault := by simp [State.setBar]

@[simp] theorem State.mgmtMessage_vault (s : State) (part : Nat) (vec : Nat) :
    (State.mgmtMessage s part vec).vault = s.vault := by simp [State.mgmtMessage]

@[simp] theorem State.sendVectors_vault (s : State) (page : Nat) (before : Nat → Bool) :
    (State.sendVectors s page before).vault = s.vault := by
  unfold State.sendVectors
  dsimp only
  (repeat' split) <;> simp [vault_foldl]

@[simp] theorem State.raiseAll_vault (s : State) (page : Nat) (evs : List Nat) :
    (State.raiseAll s page evs).vault = s.vault := by simp [State.raiseAll]

@[simp] theorem State.raise_vault (s : State) (page : Nat) (ev : Nat) :
    (State.raise s page ev).vault = s.vault := by simp [State.raise]

@[simp] theorem State.logRecord_vault (s : State) (v : Nat) (level : Nat) :
    (State.logRecord s v level).vault = s.vault := by
  unfold State.logRecord
  (repeat' (first | (simp [vault_foldl, vault_foldl_fst, vault_foldl_snd, *]; done) | split | (refine vault_snd (by assumption) ?_) | (refine vault_fst (by assumption) ?_) | simp [vault_foldl, vault_foldl_fst, vault_foldl_snd, *]))

@[simp] theorem State.tset_vault (s : State) (page : Nat) (table : Nat) (index : Nat) (hi : Nat) (lo : Nat) (v : Nat) :
    (State.tset s page table index hi lo v).vault = s.vault := by simp [State.tset]

@[simp] theorem State.ringOwed_vault (s : State) (part : Nat) :
    (State.ringOwed s part).vault = s.vault := by simp [State.ringOwed]

@[simp] theorem State.deliverRecord_vault (s : State) (part : Nat) (bs : List Byte) :
    (State.deliverRecord s part bs).vault = s.vault := by simp [State.deliverRecord]

@[simp] theorem State.swapRecords_vault (s : State) (a : Nat) (b : Nat) :
    (State.swapRecords s a b).vault = s.vault := by simp [State.swapRecords]

@[simp] theorem State.record_vault (s : State) (code : Nat) (level : Nat) (part : Option Nat) (port : Nat) (detail : Nat) :
    (State.record s code level part port detail).vault = s.vault := by
  unfold State.record
  dsimp only
  (repeat' split) <;> simp [vault_foldl]

@[simp] theorem State.recordFrame_vault (s : State) (code : Nat) (level : Nat) (f : Frame) (extra : Nat) :
    (State.recordFrame s code level f extra).vault = s.vault := by simp [State.recordFrame]

@[simp] theorem State.cplNoRoute_vault (s : State) (f : Frame) :
    (State.cplNoRoute s f).vault = s.vault := by simp [State.cplNoRoute]

@[simp] theorem State.complete_vault (s : State) (f : Frame) (st : CplStatus) (data : List Byte) :
    (State.complete s f st data).vault = s.vault := by
  cases hr : f.record <;> simp only [State.complete, hr, State.fresh] <;> (repeat' split) <;> simp

@[simp] theorem State.poolVc4_vault (x0 : List Vc4Packet) (x1 : State) (x2 : Nat) :
    (State.poolVc4 x0 x1 x2).vault = x1.vault := by
  induction x0 generalizing x1 x2 with
  | nil => rfl
  | cons a l ih => unfold State.poolVc4; (repeat' (first | (simp [vault_foldl, vault_foldl_fst, vault_foldl_snd, *]; done) | split | (refine vault_snd (by assumption) ?_) | (refine vault_fst (by assumption) ?_) | simp [vault_foldl, vault_foldl_fst, vault_foldl_snd, *]))

@[simp] theorem State.showReplay_vault (s : State) (f : Nat) :
    (State.showReplay s f).vault = s.vault := by simp [State.showReplay]

@[simp] theorem State.pushPacket_vault (s : State) (f : Nat) (p : Packet) :
    (State.pushPacket s f p).vault = s.vault := by simp [State.pushPacket]

@[simp] theorem State.drainVc4_vault (x0 : List Vc4Packet) (x1 : State) (x2 : Nat) :
    (State.drainVc4 x0 x1 x2).vault = x1.vault := by
  induction x0 generalizing x1 x2 with
  | nil => rfl
  | cons a l ih => unfold State.drainVc4; (repeat' (first | (simp [vault_foldl, vault_foldl_fst, vault_foldl_snd, *]; done) | split | (refine vault_snd (by assumption) ?_) | (refine vault_fst (by assumption) ?_) | simp [vault_foldl, vault_foldl_fst, vault_foldl_snd, *]))

@[simp] theorem State.retryVc4_vault (s : State) (f : Nat) :
    (State.retryVc4 s f).vault = s.vault := by simp [State.retryVc4]

@[simp] theorem State.sendMgmt_vault (s : State) (f : Nat) (src : Nat) (dst : Nat) (v : Vc4) :
    (State.sendMgmt s f src dst v).vault = s.vault := by simp [State.sendMgmt]

@[simp] theorem State.loseVc4_vault (gone : List Vc4Packet) (s : State) :
    (State.loseVc4 gone s).vault = s.vault := by
  unfold State.loseVc4
  (repeat' (first | (simp [vault_foldl, vault_foldl_fst, vault_foldl_snd, *]; done) | split | (refine vault_snd (by assumption) ?_) | (refine vault_fst (by assumption) ?_) | (refine (vault_foldl _ _ _ (fun s x => ?_)).trans ?_) | (refine (vault_foldl_fst _ _ _ (fun s x => ?_)).trans ?_) | (refine (vault_foldl_snd _ _ _ (fun s x => ?_)).trans ?_) | simp [vault_foldl, vault_foldl_fst, vault_foldl_snd, *]))

@[simp] theorem State.setLinkState_vault (s : State) (f : Nat) (st : Nat) :
    (State.setLinkState s f st).vault = s.vault := by simp [State.setLinkState]

@[simp] theorem State.forgetTraining_vault (s : State) (f : Nat) :
    (State.forgetTraining s f).vault = s.vault := by simp [State.forgetTraining]

@[simp] theorem State.tbump_vault (s : State) (page : Nat) (table : Nat) (index : Nat) (hi : Nat) (lo : Nat) (n : Nat) :
    (State.tbump s page table index hi lo n).vault = s.vault := by simp [State.tbump]

@[simp] theorem State.countSample_vault (s : State) (k : Nat) (n : Nat) (f : Option Frame) :
    (State.countSample s k n f).vault = s.vault := by simp [State.countSample]

@[simp] theorem State.tel_vault (s : State) (event : Nat) (port : Nat) (n : Nat) (f : (Option Frame)) :
    (State.tel s event port n f).vault = s.vault := by
  unfold State.tel
  dsimp only
  (repeat' split) <;> simp [vault_foldl]

@[simp] theorem State.setCfg_vault (s : State) (fn : Nat) (off : Nat) (v : W32) :
    (State.setCfg s fn off v).vault = s.vault := by simp [State.setCfg]

@[simp] theorem State.orCfg_vault (s : State) (fn : Nat) (off : Nat) (m : W32) :
    (State.orCfg s fn off m).vault = s.vault := by simp [State.orCfg]

@[simp] theorem State.putCfg_vault (s : State) (fn : Nat) (off : Nat) (hi : Nat) (lo : Nat) (v : Nat) :
    (State.putCfg s fn off hi lo v).vault = s.vault := by simp [State.putCfg]

@[simp] theorem State.aerLog_vault (s : State) (fn : Nat) (b : Nat) (hdr : List Byte) :
    (State.aerLog s fn b hdr).vault = s.vault := by
  unfold State.aerLog
  dsimp only
  (repeat' split) <;> simp [vault_foldl]

@[simp] theorem State.errSignal_vault (s : State) (fn : Nat) (part : Nat) (code : BitVec 8) :
    (State.errSignal s fn part code).vault = s.vault := by
  unfold State.errSignal
  (repeat' split) <;> simp

@[simp] theorem State.aerUncorrectable_vault (s : State) (fn : Nat) (part : Nat) (b : Nat) (hdr : List Byte) :
    (State.aerUncorrectable s fn part b hdr).vault = s.vault := by
  unfold State.aerUncorrectable
  dsimp only
  (repeat' split) <;> simp [vault_foldl]

@[simp] theorem State.portAer_vault (s : State) (port : Nat) (b : Nat) (hdr : List Byte) :
    (State.portAer s port b hdr).vault = s.vault := by simp [State.portAer]

@[simp] theorem State.aerCorrectable_vault (s : State) (fn : Nat) (part : Nat) (b : Nat) :
    (State.aerCorrectable s fn part b).vault = s.vault := by
  unfold State.aerCorrectable
  dsimp only
  (repeat' split) <;> simp [vault_foldl]

@[simp] theorem State.aerAdvise_vault (s : State) (fn : Nat) (part : Nat) (b : Nat) (hdr : List Byte) :
    (State.aerAdvise s fn part b hdr).vault = s.vault := by simp [State.aerAdvise]

@[simp] theorem State.portAdvise_vault (s : State) (port : Nat) (b : Nat) (hdr : List Byte) :
    (State.portAdvise s port b hdr).vault = s.vault := by simp [State.portAdvise]

@[simp] theorem State.unsupported_vault (s : State) (f : Frame) :
    (State.unsupported s f).vault = s.vault := by simp [State.unsupported]

@[simp] theorem State.owe_vault (s : State) (ring : Nat) :
    (State.owe s ring).vault = s.vault := by simp [State.owe]

@[simp] theorem State.ledger_vault (s : State) (r : LedgerRec) :
    (State.ledger s r).vault = s.vault := by simp [State.ledger]

@[simp] theorem State.ledgerCopy_vault (s : State) (f : Frame) (c : Copy) (reason : Nat) (arrival : Bool) (egress : (Option Nat)) :
    (State.ledgerCopy s f c reason arrival egress).vault = s.vault := by
  unfold State.ledgerCopy
  (repeat' split) <;> simp

@[simp] theorem State.losePacket_vault (s : State) (f : Nat) (p : Packet) :
    (State.losePacket s f p).vault = s.vault := by
  unfold State.losePacket
  (repeat' split) <;> simp

@[simp] theorem State.linkSlots_vault (s : State) (port : Nat) (category : Nat) (n : Nat) :
    (State.linkSlots s port category n).vault = s.vault := by simp [State.linkSlots]

@[simp] theorem State.wasteSlots_vault (s : State) (n : Nat) :
    (State.wasteSlots s n).vault = s.vault := by simp [State.wasteSlots]

@[simp] theorem State.pcieInactive_vault (s : State) (n : Nat) :
    (State.pcieInactive s n).vault = s.vault := by simp [State.pcieInactive]

@[simp] theorem State.removeCopy_vault (s : State) (id : Nat) :
    (State.removeCopy s id).vault = s.vault := by simp [State.removeCopy]

@[simp] theorem State.reap_vault (s : State) :
    (State.reap s).vault = s.vault := by simp [State.reap]

@[simp] theorem State.loseCopy_vault (s : State) (c : Copy) (reason : Nat) (ctrP : Nat) (ctrNp : Nat) (ctrCpl : Nat) :
    (State.loseCopy s c reason ctrP ctrNp ctrCpl).vault = s.vault := by
  unfold State.loseCopy
  (repeat' split) <;> simp

@[simp] theorem State.flushCopy_vault (s : State) (c : Copy) :
    (State.flushCopy s c).vault = s.vault := by simp [State.flushCopy]

@[simp] theorem State.loseSending_vault (s : State) (n : Nat) :
    (State.loseSending s n).vault = s.vault := by
  unfold State.loseSending
  (repeat' (first | (simp [vault_foldl]; done) | split))

@[simp] theorem State.startFlush_vault (s : State) (n : Nat) :
    (State.startFlush s n).vault = s.vault := by simp [State.startFlush]

@[simp] theorem State.linkLoss_vault (s : State) (n : Nat) :
    (State.linkLoss s n).vault = s.vault := by simp [State.linkLoss]

@[simp] theorem State.loseWaiting_vault (s : State) (w : Waiting) :
    (State.loseWaiting s w).vault = s.vault := by simp [State.loseWaiting]

@[simp] theorem State.endOnLink_vault (s : State) (c : Copy) :
    (State.endOnLink s c).vault = s.vault := by
  unfold State.endOnLink
  dsimp only
  (repeat' split) <;> simp [vault_foldl]

@[simp] theorem State.endLate_vault (s : State) (f : Frame) (c : Copy) (reason : Option Nat) :
    (State.endLate s f c reason).vault = s.vault := by
  unfold State.endLate
  (repeat' split) <;> simp

@[simp] theorem State.loseTail_vault (s : State) (f : Frame) :
    (State.loseTail s f).1.vault = s.vault := by
  unfold State.loseTail
  dsimp only
  (repeat' split) <;> simp [vault_foldl]

@[simp] theorem State.loseTails_vault (s : State) (n : Nat) :
    (State.loseTails s n).1.vault = s.vault := by
  unfold State.loseTails
  (repeat' (first | (simp [vault_foldl, vault_foldl_fst, vault_foldl_snd, *]; done) | split | (refine vault_snd (by assumption) ?_) | (refine vault_fst (by assumption) ?_) | (refine (vault_foldl _ _ _ (fun s x => ?_)).trans ?_) | (refine (vault_foldl_fst _ _ _ (fun s x => ?_)).trans ?_) | (refine (vault_foldl_snd _ _ _ (fun s x => ?_)).trans ?_) | simp [vault_foldl, vault_foldl_fst, vault_foldl_snd, *]))

@[simp] theorem State.enterDpcWhy_vault (s : State) (n : Nat) (reason : Nat) (why : Nat) :
    (State.enterDpcWhy s n reason why).vault = s.vault := by simp [State.enterDpcWhy]

@[simp] theorem State.enterDpc_vault (s : State) (n : Nat) (reason : Nat) :
    (State.enterDpc s n reason).vault = s.vault := by simp [State.enterDpc]

@[simp] theorem State.dpcLate_vault (s : State) (n : Nat) (hdr : List Byte) :
    (State.dpcLate s n hdr).vault = s.vault := by simp [State.dpcLate]

@[simp] theorem State.portDownN_vault (x0 : Nat) (x1 : State) (x2 : Nat) :
    (State.portDownN x0 x1 x2).vault = x1.vault := by
  induction x0 generalizing x1 x2 with
  | zero => rfl
  | succ n ih => unfold State.portDownN; (repeat' (first | (simp [vault_foldl, vault_foldl_fst, vault_foldl_snd, *]; done) | split | (refine vault_snd (by assumption) ?_) | (refine vault_fst (by assumption) ?_) | (refine (vault_foldl _ _ _ (fun s x => ?_)).trans ?_) | (refine (vault_foldl_fst _ _ _ (fun s x => ?_)).trans ?_) | (refine (vault_foldl_snd _ _ _ (fun s x => ?_)).trans ?_) | simp [vault_foldl, vault_foldl_fst, vault_foldl_snd, *]))

@[simp] theorem State.portDown_vault (s : State) (n : Nat) :
    (State.portDown s n).vault = s.vault := by simp [State.portDown]

@[simp] theorem State.moabenDown_vault (s : State) (f : Nat) (next : Nat) :
    (State.moabenDown s f next).vault = s.vault := by
  unfold State.moabenDown
  dsimp only
  (repeat' split) <;> simp [vault_foldl]

@[simp] theorem State.toStranger_vault (s : State) (f : Nat) (cause : Nat) :
    (State.toStranger s f cause).vault = s.vault := by simp [State.toStranger]

@[simp] theorem State.sendVc4_vault (s : State) (f : Nat) (v : Vc4) :
    (State.sendVc4 s f v).vault = s.vault := by simp [State.sendVc4]

@[simp] theorem State.drawWord_vault (s : State) :
    (State.drawWord s).2.vault = s.vault := by simp [State.drawWord]

@[simp] theorem State.drawBytes_vault (s : State) :
    (State.drawBytes s).2.vault = s.vault := by simp [State.drawBytes]

@[simp] theorem State.offer_vault (s : State) (f : Nat) :
    (State.offer s f).vault = s.vault := by simp [State.offer]

@[simp] theorem State.startAuth_vault (s : State) (f : Nat) :
    (State.startAuth s f).vault = s.vault := by
  unfold State.startAuth
  dsimp only
  (repeat' split) <;> simp [vault_foldl]

@[simp] theorem State.authEdited_vault (s : State) (f : Nat) (was : Bool) :
    (State.authEdited s f was).vault = s.vault := by simp [State.authEdited]

@[simp] theorem State.authEn_vault (s : State) (f : Nat) (v : Nat) :
    (State.authEn s f v).vault = s.vault := by simp [State.authEn]

theorem execAuthEnWrite_vault (link : Nat) (en : Nat) (s : State) :
    ∀ out, (execAuthEnWrite link en s) = .next out → out.vault = s.vault := by
  intro out ht
  cases ht
  simp

@[simp] theorem State.dpcRelease_vault (s : State) (n : Nat) :
    (State.dpcRelease s n).vault = s.vault := by simp [State.dpcRelease]

@[simp] theorem State.pushFired_vault (s : State) (g : Nat) (c : Fired) :
    (State.pushFired s g c).vault = s.vault := by simp [State.pushFired]

@[simp] theorem State.fireSlot_vault (s : State) (g : Nat) (k : Nat) (t : Nat) :
    (State.fireSlot s g k t).vault = s.vault := by simp [State.fireSlot]

@[simp] theorem State.fireAll_vault (s : State) (g : Nat) (xs : List (Nat × Nat)) :
    (State.fireAll s g xs).vault = s.vault := by
  unfold State.fireAll
  dsimp only
  (repeat' split) <;> simp [vault_foldl]

@[simp] theorem State.fireDue_vault (s : State) :
    (State.fireDue s).vault = s.vault := by
  unfold State.fireDue
  (repeat' (first | (simp [vault_foldl]; done) | split))

@[simp] theorem State.barrierStart_vault (s : State) (who : Nat) (waits : List Nat) (gather : Bool) :
    (State.barrierStart s who waits gather).vault = s.vault := by simp [State.barrierStart]

@[simp] theorem State.setView_vault (s : State) (who : Nat) (v : BarrierView) :
    (State.setView s who v).vault = s.vault := by simp [State.setView]

@[simp] theorem State.culBarrier_vault (s : State) (r : Requester) :
    (State.culBarrier s r).vault = s.vault := by simp [State.culBarrier]

@[simp] theorem State.histRecord_vault (s : State) (u : Nat) (v : Nat) :
    (State.histRecord s u v).vault = s.vault := by simp [State.histRecord]

@[simp] theorem State.modTest_vault (s : State) (u : Nat) (f : TestUnit → TestUnit) :
    (State.modTest s u f).vault = s.vault := by simp [State.modTest]

@[simp] theorem State.prbsAbort_vault (s : State) (k : Nat) :
    (State.prbsAbort s k).vault = s.vault := by simp [State.prbsAbort]

@[simp] theorem State.prbsCount_vault (s : State) (u : Nat) (xs : List (Nat × Nat)) :
    (State.prbsCount s u xs).vault = s.vault := by
  unfold State.prbsCount
  (repeat' (first | (simp [vault_foldl, vault_foldl_fst, vault_foldl_snd, *]; done) | split | (refine vault_snd (by assumption) ?_) | (refine vault_fst (by assumption) ?_) | (refine (vault_foldl _ _ _ (fun s x => ?_)).trans ?_) | (refine (vault_foldl_fst _ _ _ (fun s x => ?_)).trans ?_) | (refine (vault_foldl_snd _ _ _ (fun s x => ?_)).trans ?_) | simp [vault_foldl, vault_foldl_fst, vault_foldl_snd, *]))

@[simp] theorem State.prbsTake_vault (s : State) (u : Nat) :
    (State.prbsTake s u).vault = s.vault := by simp [State.prbsTake]

@[simp] theorem State.setLink_vault (s : State) (n : Nat) (rate : Nat) (width : Nat) (flit : Bool) :
    (State.setLink s n rate width flit).1.vault = s.vault := by
  unfold State.setLink
  dsimp only
  (repeat' split) <;> simp [vault_foldl]

theorem execPcieRetrain_vault (port : Nat) (rate : Nat) (width : Nat) (s : State) :
    ∀ out, (execPcieRetrain port rate width s) = .next out → out.vault = s.vault := by
  intro out ht
  unfold execPcieRetrain at ht
  dsimp only at ht
  (repeat' split at ht) <;> cases ht <;> simp [vault_foldl]

@[simp] theorem State.showRemote_vault (s : State) (fid : Nat) (port : Nat) :
    (State.showRemote s fid port).vault = s.vault := by simp [State.showRemote]

@[simp] theorem State.fixBridges_vault (s : State) (part : Nat) :
    (State.fixBridges s part).vault = s.vault := by
  unfold State.fixBridges
  dsimp only
  (repeat' split) <;> simp [vault_foldl]

@[simp] theorem State.clearFn_vault (s : State) (fn : Nat) :
    (State.clearFn s fn).vault = s.vault := by simp [State.clearFn]

@[simp] theorem State.clearSwitch_vault (s : State) (part : Nat) :
    (State.clearSwitch s part).vault = s.vault := by
  unfold State.clearSwitch
  dsimp only
  (repeat' split) <;> simp [vault_foldl]

@[simp] theorem State.resetRemotes_vault (s : State) (part : Nat) (hold : Bool) :
    (State.resetRemotes s part hold).vault = s.vault := by
  unfold State.resetRemotes
  (repeat' (first | (simp [vault_foldl, vault_foldl_fst, vault_foldl_snd, *]; done) | split | (refine vault_snd (by assumption) ?_) | (refine vault_fst (by assumption) ?_) | (refine (vault_foldl _ _ _ (fun s x => ?_)).trans ?_) | (refine (vault_foldl_fst _ _ _ (fun s x => ?_)).trans ?_) | (refine (vault_foldl_snd _ _ _ (fun s x => ?_)).trans ?_) | simp [vault_foldl, vault_foldl_fst, vault_foldl_snd, *]))

@[simp] theorem State.modInst_vault (s : State) (i : Nat) (f : InstSt → InstSt) :
    (State.modInst s i f).vault = s.vault := by simp [State.modInst]

@[simp] theorem State.setQreg_vault (s : State) (i : Nat) (q : Nat) (off : Nat) (v : Nat) :
    (State.setQreg s i q off v).vault = s.vault := by simp [State.setQreg]

@[simp] theorem State.setInstState_vault (s : State) (i : Nat) (st : Nat) :
    (State.setInstState s i st).vault = s.vault := by simp [State.setInstState]

@[simp] theorem State.cmdRefused_vault (s : State) (i : Nat) (cause : Nat) :
    (State.cmdRefused s i cause).vault = s.vault := by simp [State.cmdRefused]

@[simp] theorem State.setRing_vault (s : State) (i : Nat) (q : Nat) (r : RingSt) :
    (State.setRing s i q r).vault = s.vault := by simp [State.setRing]

@[simp] theorem State.discardLog_vault (s : State) (e : Nat) (i : Nat) (q : Nat) (read : W64 × Nat × Nat) (cause : Nat) :
    (State.discardLog s e i q read cause).vault = s.vault := by simp [State.discardLog]

@[simp] theorem State.modRing_vault (s : State) (i : Nat) (q : Nat) (f : RingSt → RingSt) :
    (State.modRing s i q f).vault = s.vault := by simp [State.modRing]

@[simp] theorem State.discardAhead_vault (s : State) (i : Nat) (q : Nat) (cause : Nat) :
    (State.discardAhead s i q cause).vault = s.vault := by
  unfold State.discardAhead
  (repeat' (first | (simp [vault_foldl, vault_foldl_fst, vault_foldl_snd, *]; done) | split | (refine vault_snd (by assumption) ?_) | (refine vault_fst (by assumption) ?_) | (refine (vault_foldl _ _ _ (fun s x => ?_)).trans ?_) | (refine (vault_foldl_fst _ _ _ (fun s x => ?_)).trans ?_) | (refine (vault_foldl_snd _ _ _ (fun s x => ?_)).trans ?_) | simp [vault_foldl, vault_foldl_fst, vault_foldl_snd, *]))

@[simp] theorem State.startReset_vault (s : State) (i : Nat) (byFlr : Bool) : (State.startReset s i byFlr).vault = s.vault := by
  have ring (s : State) : ((upTo 4).foldl (fun s q => (s.discardAhead i q dRESET).setRing i q {}) s).vault = s.vault :=
    vault_foldl _ _ _ fun s q => by simp
  have rung (s : State) : ((upTo 4).foldl (fun s q => match (s.ring i q).rung with
      | some (at', prod) => if at' = s.now then s.setQreg i q qPROD prod else s
      | none => s) s).vault = s.vault := vault_foldl _ _ _ fun s q => by split <;> simp
  unfold State.startReset
  dsimp only
  split
  · rfl
  · split
    · split <;> simp
    · rw [State.modInst_vault]
      refine (?_ : State.vault { State.modEngTags _ _ with coreReads := _ } = _)
      generalize hs : ((upTo 4).foldl _ s) = u
      have hu : u.vault = s.vault := by rw [← hs]; exact rung s
      simp only [vault_mk1, State.modEngTags_vault, ring]
      split
      · simp [hu]
      · split <;> simp [hu]

@[simp] theorem State.resetSwitch_vault (s : State) (part : Nat) :
    (State.resetSwitch s part).vault = s.vault := by
  unfold State.resetSwitch
  dsimp only
  (repeat' split) <;> simp [vault_foldl]

@[simp] theorem State.pcieDown_vault (s : State) (n : Nat) :
    (State.pcieDown s n).vault = s.vault := by simp [State.pcieDown]

theorem execLoopbackEntry_vault (port : Nat) (s : State) :
    ∀ out, (execLoopbackEntry port s) = .next out → out.vault = s.vault := by
  intro out ht
  cases ht
  simp

@[simp] theorem State.overlapFault_vault (s : State) (f : Frame) (a : Nat) (b : Nat) :
    (State.overlapFault s f a b).vault = s.vault := by simp [State.overlapFault]

@[simp] theorem State.storeReg_vault (s : State) (a : Nat) (v : W32) :
    (State.storeReg s a v).vault = s.vault := by
  unfold State.storeReg
  (repeat' split) <;> simp

@[simp] theorem State.writeSelf_vault (s : State) (a : Nat) (v : W32) :
    (State.writeSelf s a v).vault = s.vault := by simp [State.writeSelf]

@[simp] theorem State.dpcOnError_vault (s : State) (n : Nat) (b : Nat) (reason : Nat) :
    (State.dpcOnError s n b reason).vault = s.vault := by simp [State.dpcOnError]

@[simp] theorem State.dpcError_vault (s : State) (n : Nat) (b : Nat) :
    (State.dpcError s n b).vault = s.vault := by simp [State.dpcError]

@[simp] theorem State.ingressError_vault (s : State) (f : Frame) (b : Nat) :
    (State.ingressError s f b).vault = s.vault := by simp [State.ingressError]

@[simp] theorem State.ecrcDrop_vault (s : State) (f : Frame) :
    (State.ecrcDrop s f).vault = s.vault := by
  unfold State.ecrcDrop
  (repeat' split) <;> simp

@[simp] theorem State.poisonDrop_vault (s : State) (f : Frame) :
    (State.poisonDrop s f).vault = s.vault := by simp [State.poisonDrop]

@[simp] theorem State.mgmtUnmask_vault (s : State) (part : Nat) :
    (State.mgmtUnmask s part).vault = s.vault := by
  unfold State.mgmtUnmask
  dsimp only
  (repeat' split) <;> simp [vault_foldl]

@[simp] theorem State.bar2Write_vault (s : State) (part : Nat) (off : Nat) (v : W32) :
    (State.bar2Write s part off v).vault = s.vault := by simp [State.bar2Write]

@[simp] theorem State.bar2Store_vault (s : State) (part : Nat) (off : Nat) (bs : List Byte) :
    (State.bar2Store s part off bs).vault = s.vault := by
  unfold State.bar2Store
  dsimp only
  (repeat' split) <;> simp [vault_foldl]

@[simp] theorem State.bar4Remote_vault (s : State) (f : Frame) (part : Nat) (off : Nat) :
    (State.bar4Remote s f part off).vault = s.vault := by
  unfold State.bar4Remote
  dsimp only
  (repeat' split) <;> simp [vault_foldl]

@[simp] theorem State.partialWrite_vault (s : State) (r : Requester) (a : Nat) :
    (State.partialWrite s r a).vault = s.vault := by simp [State.partialWrite]

@[simp] theorem State.countForeign_vault (s : State) (r : Requester) (p : PageAt) :
    (State.countForeign s r p).vault = s.vault := by
  unfold State.countForeign
  (repeat' split) <;> simp

@[simp] theorem State.evtClear_vault (s : State) (page : Nat) (mask : Nat) (seq : Nat) :
    (State.evtClear s page mask seq).vault = s.vault := by simp [State.evtClear]

@[simp] theorem State.writeMask_vault (s : State) (page : Nat) (v : W32) :
    (State.writeMask s page v).vault = s.vault := by simp [State.writeMask]

@[simp] theorem State.setTblSts_vault (s : State) (page : Nat) (busy : Bool) (done : Bool) (err : Nat) (owner : Nat) :
    (State.setTblSts s page busy done err owner).vault = s.vault := by simp [State.setTblSts]

@[simp] theorem State.tblOp_vault (s : State) (r : Requester) (page : Nat) (op : Nat) :
    (State.tblOp s r page op).vault = s.vault := by simp [State.tblOp]

@[simp] theorem State.writePort_vault (s : State) (r : Requester) (page : Nat) (off : Nat) (v : W32) :
    (State.writePort s r page off v).vault = s.vault := by simp [State.writePort]

@[simp] theorem State.advertise_vault (s : State) (n : Nat) :
    (State.advertise s n).vault = s.vault := by simp [State.advertise]

@[simp] theorem State.sendCtl_vault (s : State) (f : Nat) (d : W64) :
    (State.sendCtl s f d).vault = s.vault := by simp [State.sendCtl]

@[simp] theorem State.sendMask_vault (s : State) (f : Nat) (old : Nat) (mask : Nat) :
    (State.sendMask s f old mask).vault = s.vault := by simp [State.sendMask]

@[simp] theorem State.updateLinks_vault (s : State) :
    (State.updateLinks s).vault = s.vault := by
  unfold State.updateLinks
  dsimp only
  (repeat' split) <;> simp [vault_foldl]

@[simp] theorem State.updateXoff_vault (s : State) :
    (State.updateXoff s).vault = s.vault := by
  unfold State.updateXoff
  (repeat' (first | (simp [vault_foldl]; done) | split))

@[simp] theorem State.putQreg_vault (s : State) (i : Nat) (q : Nat) (off : Nat) (hi : Nat) (lo : Nat) (v : Nat) :
    (State.putQreg s i q off hi lo v).vault = s.vault := by simp [State.putQreg]

@[simp] theorem State.ringOff_vault (s : State) (i : Nat) (q : Nat) :
    (State.ringOff s i q).vault = s.vault := by simp [State.ringOff]

@[simp] theorem State.settleOff_vault (s : State) (i : Nat) (q : Nat) :
    (State.settleOff s i q).vault = s.vault := by simp [State.settleOff]

@[simp] theorem State.stopForIsolate_vault (s : State) :
    (State.stopForIsolate s).vault = s.vault := by
  unfold State.stopForIsolate
  dsimp only
  (repeat' split) <;> simp [vault_foldl]

@[simp] theorem State.startIsolate_vault (s : State) (cause : Nat) :
    (State.startIsolate s cause).vault = s.vault := by simp [State.startIsolate]

@[simp] theorem State.setMode_vault (s : State) (m : Nat) :
    (State.setMode s m).vault = s.vault := by simp [State.setMode]

@[simp] theorem State.enterMode_vault (s : State) (m : Nat) :
    (State.enterMode s m).vault = s.vault := by simp [State.enterMode]

@[simp] theorem State.refreshHg_vault (s : State) (i : Nat) :
    (State.refreshHg s i).vault = s.vault := by simp [State.refreshHg]

@[simp] theorem State.refreshHgs_vault (s : State) :
    (State.refreshHgs s).vault = s.vault := by
  unfold State.refreshHgs
  (repeat' (first | (simp [vault_foldl]; done) | split))

@[simp] theorem State.enterDrain_vault (s : State) (thermal : Bool) :
    (State.enterDrain s thermal).vault = s.vault := by simp [State.enterDrain]

@[simp] theorem State.toDetect_vault (s : State) (f : Nat) :
    (State.toDetect s f).vault = s.vault := by simp [State.toDetect]

@[simp] theorem State.stopTraining_vault (s : State) :
    (State.stopTraining s).vault = s.vault := by
  unfold State.stopTraining
  dsimp only
  (repeat' split) <;> simp [vault_foldl]

@[simp] theorem State.modeRequest_vault (s : State) (req : Nat) :
    (State.modeRequest s req).vault = s.vault := by
  unfold State.modeRequest
  (repeat' split) <;> simp

@[simp] theorem State.pwrlossClear_vault (s : State) :
    (State.pwrlossClear s).vault = s.vault := by simp [State.pwrlossClear]

@[simp] theorem State.firmwareRestart_vault (s : State) :
    (State.firmwareRestart s).vault = s.vault := by simp [State.firmwareRestart]

@[simp] theorem State.resetMgt_vault (s : State) :
    (State.resetMgt s).vault = s.vault := by
  unfold State.resetMgt
  dsimp only
  (repeat' split) <;> simp [vault_foldl]

@[simp] theorem State.showCul_vault (s : State) :
    (State.showCul s).vault = s.vault := by simp [State.showCul]

@[simp] theorem State.lbReadQueue_vault (s : State) (o : LbOp) :
    (State.lbReadQueue s o).vault = s.vault := by simp [State.lbReadQueue]

@[simp] theorem State.coreDone_vault (s : State) (id : Nat) (data : List Byte) :
    (State.coreDone s id data).vault = s.vault := by simp [State.coreDone]

@[simp] theorem State.coreAnswer_vault (s : State) (record : Nat) (c : Tlp) :
    (State.coreAnswer s record c).vault = s.vault := by simp [State.coreAnswer]

@[simp] theorem State.lbAnswer_vault (s : State) (o : LbOp) (data : List Byte) :
    (State.lbAnswer s o data).vault = s.vault := by
  unfold State.lbAnswer
  (repeat' split) <;> simp

@[simp] theorem State.culHits_vault (s : State) :
    (State.culHits s).vault = s.vault := by
  unfold State.culHits
  dsimp only
  (repeat' split) <;> simp [vault_foldl]

@[simp] theorem State.coreTrap_vault (s : State) (cause : Nat) (addr : Nat) :
    (State.coreTrap s cause addr).vault = s.vault := by simp [State.coreTrap]

@[simp] theorem State.busErrRecord_vault (s : State) (addr : Nat) (cause : Nat) :
    (State.busErrRecord s addr cause).vault = s.vault := by simp [State.busErrRecord]

@[simp] theorem State.setPair_vault (s : State) (lo : Nat) (hi : Nat) (v : Nat) :
    (State.setPair s lo hi v).vault = s.vault := by simp [State.setPair]

@[simp] theorem State.captureBerr_vault (s : State) (addr : Nat) (cause : Nat) (write : Nat) :
    (State.captureBerr s addr cause write).vault = s.vault := by simp [State.captureBerr]

@[simp] theorem State.coreLoadFails_vault (s : State) (id : Nat) (cause : Nat) :
    (State.coreLoadFails s id cause).vault = s.vault := by
  unfold State.coreLoadFails
  (repeat' split) <;> simp

@[simp] theorem State.lbReadFails_vault (s : State) (o : LbOp) :
    (State.lbReadFails s o).vault = s.vault := by
  unfold State.lbReadFails
  (repeat' split) <;> simp

@[simp] theorem State.lbDrop_vault (s : State) (id : Nat) :
    (State.lbDrop s id).vault = s.vault := by simp [State.lbDrop]

@[simp] theorem State.culEndReads_vault (s : State) :
    (State.culEndReads s).vault = s.vault := by
  unfold State.culEndReads
  (repeat' (first | (simp [vault_foldl]; done) | split))

@[simp] theorem State.barrierSees_vault (s : State) (id : Nat) (failed : Option (Nat × Nat)) :
    (State.barrierSees s id failed).vault = s.vault := by simp [State.barrierSees]

@[simp] theorem State.lbWriteFails_vault (s : State) (o : LbOp) :
    (State.lbWriteFails s o).vault = s.vault := by
  unfold State.lbWriteFails
  (repeat' split) <;> simp

@[simp] theorem State.culDiscard_vault (s : State) :
    (State.culDiscard s).vault = s.vault := by
  unfold State.culDiscard
  (repeat' (first | (simp [vault_foldl]; done) | split))

@[simp] theorem State.dropPrefetch_vault (s : State) :
    (State.dropPrefetch s).vault = s.vault := by simp [State.dropPrefetch]

@[simp] theorem State.lbGrant_vault (s : State) :
    (State.lbGrant s).vault = s.vault := by simp [State.lbGrant]

@[simp] theorem State.resetCul_vault (s : State) :
    (State.resetCul s).vault = s.vault := by
  unfold State.resetCul
  (repeat' (first | (simp [vault_foldl, vault_foldl_fst, vault_foldl_snd, *]; done) | split | (refine vault_snd (by assumption) ?_) | (refine vault_fst (by assumption) ?_) | (refine (vault_foldl _ _ _ (fun s x => ?_)).trans ?_) | (refine (vault_foldl_fst _ _ _ (fun s x => ?_)).trans ?_) | (refine (vault_foldl_snd _ _ _ (fun s x => ?_)).trans ?_) | simp [vault_foldl, vault_foldl_fst, vault_foldl_snd, *]))

@[simp] theorem State.resetTel_vault (s : State) :
    (State.resetTel s).vault = s.vault := by simp [State.resetTel]

@[simp] theorem State.freshNonce_vault (s : State) :
    (State.freshNonce s).vault = s.vault := by
  unfold State.freshNonce
  dsimp only
  (repeat' split) <;> simp [vault_foldl]

@[simp] theorem State.cutVerify_vault (s : State) :
    (State.cutVerify s).vault = s.vault := by
  unfold State.cutVerify
  dsimp only
  (repeat' split) <;> simp [vault_foldl]

@[simp] theorem State.startReport_vault (s : State) :
    (State.startReport s).vault = s.vault := by
  unfold State.startReport
  (repeat' split) <;> simp

@[simp] theorem State.shakeReset_vault (s : State) :
    (State.shakeReset s).vault = s.vault := by simp [State.shakeReset]

@[simp] theorem State.resetLink_vault (s : State) (f : Nat) :
    (State.resetLink s f).vault = s.vault := by simp [State.resetLink]

@[simp] theorem State.resetOne_vault (s : State) (b : Nat) :
    (State.resetOne s b).vault = s.vault := by simp [State.resetOne]

@[simp] theorem State.secRefuse_vault (s : State) (result : Fld) (cause : Fld) (why : Nat) :
    (State.secRefuse s result cause why).vault = s.vault := by simp [State.secRefuse]

@[simp] theorem State.otpProgram_vault (s : State) (w : Nat) :
    (State.otpProgram s w).vault = s.vault := by
  unfold State.otpProgram
  dsimp only
  (repeat' split) <;> simp [vault_foldl]

@[simp] theorem State.lifecycleAdvance_vault (s : State) (target : Nat) :
    (State.lifecycleAdvance s target).vault = s.vault := by simp [State.lifecycleAdvance]

@[simp] theorem State.imageVerify_vault (s : State) (type : Nat) :
    (State.imageVerify s type).vault = s.vault := by simp [State.imageVerify]

@[simp] theorem State.extend_vault (s : State) (i : Nat) (x : List Byte) :
    (State.extend s i x).vault = s.vault := by simp [State.extend]

@[simp] theorem State.measExt_vault (s : State) (i : Nat) :
    (State.measExt s i).vault = s.vault := by simp [State.measExt]

@[simp] theorem State.debugUnlock_vault (s : State) (len : Nat) :
    (State.debugUnlock s len).vault = s.vault := by simp [State.debugUnlock]

@[simp] theorem State.joinTrigger_vault (s : State) (t : Trigger) (cause : Nat) :
    (State.joinTrigger s t cause).vault = s.vault := by simp [State.joinTrigger]

@[simp] theorem State.warmReset_vault (s : State) (pair : Nat) :
    (State.warmReset s pair).vault = s.vault := by
  unfold State.warmReset
  dsimp only
  (repeat' split) <;> simp [vault_foldl]

@[simp] theorem State.failover_vault (s : State) (cause : Nat) :
    (State.failover s cause).vault = s.vault := by
  unfold State.failover
  (repeat' split) <;> simp

@[simp] theorem State.wdogSet_vault (s : State) (a : Nat) (v : W32) :
    (State.wdogSet s a v).vault = s.vault := by simp [State.wdogSet]

@[simp] theorem State.wdogKick_vault (s : State) :
    (State.wdogKick s).vault = s.vault := by simp [State.wdogKick]

@[simp] theorem State.returnTo_vault (s : State) (prior : Nat) :
    (State.returnTo s prior).vault = s.vault := by simp [State.returnTo]

@[simp] theorem State.updateEnds_vault (s : State) (result : Nat) (cause : Nat) (event : Nat) :
    (State.updateEnds s result cause event).vault = s.vault := by simp [State.updateEnds]

@[simp] theorem State.updateDone_vault (s : State) :
    (State.updateDone s).vault = s.vault := by simp [State.updateDone]

@[simp] theorem State.updateRefused_vault (s : State) (cause : Nat) :
    (State.updateRefused s cause).vault = s.vault := by simp [State.updateRefused]

@[simp] theorem State.updateStart_vault (s : State) (slot : Nat) :
    (State.updateStart s slot).vault = s.vault := by simp [State.updateStart]

@[simp] theorem State.timerShow_vault (s : State) :
    (State.timerShow s).vault = s.vault := by simp [State.timerShow]

@[simp] theorem State.mbxRetire_vault (s : State) (part : Nat) :
    (State.mbxRetire s part).vault = s.vault := by
  unfold State.mbxRetire
  dsimp only
  (repeat' split) <;> simp [vault_foldl]

@[simp] theorem State.hcmdTake_vault (s : State) (p : Nat) :
    (State.hcmdTake s p).vault = s.vault := by simp [State.hcmdTake]

@[simp] theorem State.hcmdDoorbell_vault (s : State) (p : Nat) :
    (State.hcmdDoorbell s p).vault = s.vault := by simp [State.hcmdDoorbell]

@[simp] theorem State.sqHead_vault (s : State) (h : Nat) :
    (State.sqHead s h).vault = s.vault := by simp [State.sqHead]

@[simp] theorem State.culRevive_vault (s : State) (mask : Nat) :
    (State.culRevive s mask).vault = s.vault := by simp [State.culRevive]

@[simp] theorem State.culWarm_vault (s : State) :
    (State.culWarm s).vault = s.vault := by
  unfold State.culWarm
  (repeat' split) <;> simp

@[simp] theorem State.writeCulCtl_vault (s : State) (a : Nat) (v : W32) :
    (State.writeCulCtl s a v).vault = s.vault := by simp [State.writeCulCtl]

@[simp] theorem State.setSlotState_vault (s : State) (n : Nat) (st : Nat) :
    (State.setSlotState s n st).vault = s.vault := by simp [State.setSlotState]

@[simp] theorem State.slotWait_vault (s : State) (n : Nat) :
    (State.slotWait s n).vault = s.vault := by simp [State.slotWait]

@[simp] theorem State.commandOn_vault (s : State) (n : Nat) (edge : Bool) :
    (State.commandOn s n edge).vault = s.vault := by simp [State.commandOn]

@[simp] theorem State.modSlot_vault (s : State) (n : Nat) (f : Slot → Slot) :
    (State.modSlot s n f).vault = s.vault := by simp [State.modSlot]

@[simp] theorem State.setSlotPg_vault (s : State) (n : Nat) (on : Bool) :
    (State.setSlotPg s n on).vault = s.vault := by simp [State.setSlotPg]

@[simp] theorem State.perstNow_vault (s : State) (n : Nat) :
    (State.perstNow s n).vault = s.vault := by simp [State.perstNow]

@[simp] theorem State.slotOff_vault (s : State) (n : Nat) :
    (State.slotOff s n).vault = s.vault := by simp [State.slotOff]

@[simp] theorem State.slotBits_vault (s : State) (n : Nat) (m : W32) :
    (State.slotBits s n m).vault = s.vault := by
  unfold State.slotBits
  (repeat' split) <;> simp

@[simp] theorem State.judgePg_vault (s : State) (n : Nat) :
    (State.judgePg s n).vault = s.vault := by simp [State.judgePg]

@[simp] theorem State.commandForce_vault (s : State) (n : Nat) (c : Nat) (on : Bool) (was : Bool) :
    (State.commandForce s n c on was).vault = s.vault := by simp [State.commandForce]

@[simp] theorem State.latchClear_vault (s : State) (mask : Nat) :
    (State.latchClear s mask).vault = s.vault := by
  unfold State.latchClear
  dsimp only
  (repeat' split) <;> simp [vault_foldl]

@[simp] theorem State.measClear_vault (s : State) (n : Nat) (v : Nat) :
    (State.measClear s n v).vault = s.vault := by simp [State.measClear]

@[simp] theorem State.gatesDown_vault (s : State) (n : Nat) :
    (State.gatesDown s n).vault = s.vault := by
  unfold State.gatesDown
  dsimp only
  (repeat' split) <;> simp [vault_foldl]

@[simp] theorem State.slotRecord_vault (s : State) (code : Nat) (n : Nat) (detail : Nat) :
    (State.slotRecord s code n detail).vault = s.vault := by
  unfold State.slotRecord
  (repeat' split) <;> simp

@[simp] theorem State.govLog_vault (s : State) (g : Nat) (action : Nat) (subject : Nat) (old : Nat) (new : Nat) (measure : Nat) :
    (State.govLog s g action subject old new measure).vault = s.vault := by simp [State.govLog]

@[simp] theorem State.govTrip_vault (s : State) (n : Nat) :
    (State.govTrip s n).vault = s.vault := by simp [State.govTrip]

@[simp] theorem State.trip_vault (s : State) (n : Nat) (c : Nat) (cause : Nat) :
    (State.trip s n c cause).vault = s.vault := by simp [State.trip]

@[simp] theorem State.slotLinkDown_vault (s : State) (n : Nat) :
    (State.slotLinkDown s n).vault = s.vault := by
  unfold State.slotLinkDown
  (repeat' split) <;> simp

@[simp] theorem State.fetShort_vault (s : State) (n : Nat) (c : Nat) (turnOn : Bool) :
    (State.fetShort s n c turnOn).vault = s.vault := by simp [State.fetShort]

@[simp] theorem State.gateRise_vault (s : State) (n : Nat) (c : Nat) :
    (State.gateRise s n c).vault = s.vault := by simp [State.gateRise]

@[simp] theorem State.limitStart_vault (s : State) (n : Nat) (c : Nat) :
    (State.limitStart s n c).vault = s.vault := by simp [State.limitStart]

@[simp] theorem State.timerStop_vault (s : State) (n : Nat) (c : Nat) :
    (State.timerStop s n c).vault = s.vault := by simp [State.timerStop]

@[simp] theorem State.timerExpiry_vault (s : State) (n : Nat) (c : Nat) :
    (State.timerExpiry s n c).vault = s.vault := by simp [State.timerExpiry]

@[simp] theorem State.offGates_vault (s : State) (n : Nat) :
    (State.offGates s n).vault = s.vault := by
  unfold State.offGates
  (repeat' split) <;> simp

@[simp] theorem State.cardGone_vault (s : State) (n : Nat) :
    (State.cardGone s n).vault = s.vault := by simp [State.cardGone]

@[simp] theorem State.cardIn_vault (s : State) (n : Nat) :
    (State.cardIn s n).vault = s.vault := by simp [State.cardIn]

@[simp] theorem State.rampEnd_vault (s : State) (n : Nat) (c : Nat) :
    (State.rampEnd s n c).vault = s.vault := by simp [State.rampEnd]

@[simp] theorem State.pgLost_vault (s : State) (n : Nat) (c : Nat) :
    (State.pgLost s n c).vault = s.vault := by simp [State.pgLost]

@[simp] theorem State.pgGood_vault (s : State) (n : Nat) (c : Nat) :
    (State.pgGood s n c).vault = s.vault := by simp [State.pgGood]

@[simp] theorem State.perstRelease_vault (s : State) (n : Nat) :
    (State.perstRelease s n).vault = s.vault := by
  unfold State.perstRelease
  (repeat' split) <;> simp

@[simp] theorem State.startRamps_vault (s : State) (n : Nat) :
    (State.startRamps s n).vault = s.vault := by
  unfold State.startRamps
  dsimp only
  (repeat' split) <;> simp [vault_foldl]

@[simp] theorem State.insertion_vault (s : State) (n : Nat) :
    (State.insertion s n).vault = s.vault := by
  unfold State.insertion
  (repeat' split) <;> simp

@[simp] theorem State.slotRetry_vault (s : State) (n : Nat) :
    (State.slotRetry s n).vault = s.vault := by simp [State.slotRetry]

@[simp] theorem State.windowClose_vault (s : State) (n : Nat) :
    (State.windowClose s n).vault = s.vault := by
  unfold State.windowClose
  (repeat' split) <;> simp

@[simp] theorem State.slotStart_vault (s : State) (n : Nat) :
    (State.slotStart s n).vault = s.vault := by simp [State.slotStart]

@[simp] theorem State.spvApply_vault (s : State) (x1 : SpvEvent) :
    (State.spvApply s x1).vault = s.vault := by
  unfold State.spvApply
  (repeat' split) <;> simp

@[simp] theorem State.spvEvent_vault (s : State) (e : SpvEvent) :
    (State.spvEvent s e).vault = s.vault := by simp [State.spvEvent]

@[simp] theorem State.writeSlotCtl_vault (s : State) (n : Nat) (on : Bool) :
    (State.writeSlotCtl s n on).vault = s.vault := by simp [State.writeSlotCtl]

@[simp] theorem State.writeForce_vault (s : State) (n : Nat) (c : Nat) (on : Bool) :
    (State.writeForce s n c on).vault = s.vault := by simp [State.writeForce]

@[simp] theorem State.writeChCtl_vault (s : State) (n : Nat) (c : Nat) (a : Nat) (v : W32) :
    (State.writeChCtl s n c a v).vault = s.vault := by simp [State.writeChCtl]

@[simp] theorem State.histClear_vault (s : State) (u : Nat) :
    (State.histClear s u).vault = s.vault := by
  unfold State.histClear
  dsimp only
  (repeat' split) <;> simp [vault_foldl]

@[simp] theorem State.histSnap_vault (s : State) (units : Nat) (clear : Bool) :
    (State.histSnap s units clear).vault = s.vault := by
  unfold State.histSnap
  dsimp only
  (repeat' split) <;> simp [vault_foldl]

@[simp] theorem State.histConfig_vault (s : State) (u : Nat) (base : Bool) (v : Nat) :
    (State.histConfig s u base v).vault = s.vault := by simp [State.histConfig]

@[simp] theorem State.samplerCtl_vault (s : State) (k : Nat) (v : Nat) :
    (State.samplerCtl s k v).vault = s.vault := by simp [State.samplerCtl]

@[simp] theorem State.modSampler_vault (s : State) (k : Nat) (f : Sampler → Sampler) :
    (State.modSampler s k f).vault = s.vault := by simp [State.modSampler]

@[simp] theorem State.samplerN_vault (s : State) (k : Nat) (n : Nat) :
    (State.samplerN s k n).vault = s.vault := by simp [State.samplerN]

@[simp] theorem State.isolateExit_vault (s : State) :
    (State.isolateExit s).vault = s.vault := by simp [State.isolateExit]

@[simp] theorem State.armInject_vault (s : State) (type : Nat) (port : Nat) (count : Nat) :
    (State.armInject s type port count).vault = s.vault := by simp [State.armInject]

@[simp] theorem State.writeInject_vault (s : State) (a : Nat) (v : W32) :
    (State.writeInject s a v).vault = s.vault := by simp [State.writeInject]

@[simp] theorem State.evict_vault (s : State) (v : Frame) :
    (State.evict s v).vault = s.vault := by
  unfold State.evict
  dsimp only
  (repeat' split) <;> simp [vault_foldl]

@[simp] theorem State.shrinkLive_vault (x0 : Nat) (x1 : State) :
    (State.shrinkLive x0 x1).vault = x1.vault := by
  induction x0 generalizing x1 with
  | zero => rfl
  | succ n ih => unfold State.shrinkLive; (repeat' (first | (simp [vault_foldl, vault_foldl_fst, vault_foldl_snd, *]; done) | split | (refine vault_snd (by assumption) ?_) | (refine vault_fst (by assumption) ?_) | simp [vault_foldl, vault_foldl_fst, vault_foldl_snd, *]))

@[simp] theorem State.livePool_vault (s : State) (cells : Nat) :
    (State.livePool s cells).vault = s.vault := by simp [State.livePool]

@[simp] theorem State.cplPool_vault (s : State) (cells : Nat) :
    (State.cplPool s cells).vault = s.vault := by simp [State.cplPool]

@[simp] theorem State.bankRetire_vault (s : State) (j : Nat) :
    (State.bankRetire s j).vault = s.vault := by
  unfold State.bankRetire
  dsimp only
  (repeat' split) <;> simp [vault_foldl]

@[simp] theorem State.wroteEntry_vault (s : State) (table : Nat) (index : Nat) :
    (State.wroteEntry s table index).vault = s.vault := by simp [State.wroteEntry]

@[simp] theorem State.showFaulted_vault (s : State) :
    (State.showFaulted s).vault = s.vault := by simp [State.showFaulted]

@[simp] theorem State.clearFault_vault (s : State) (table : Nat) (index : Nat) :
    (State.clearFault s table index).vault = s.vault := by simp [State.clearFault]

@[simp] theorem State.commitEntry_vault (s : State) (index : Nat) (bankB : Bool) (e : Nat) :
    (State.commitEntry s index bankB e).vault = s.vault := by
  unfold State.commitEntry
  (repeat' split) <;> simp

@[simp] theorem State.mapCommit_vault (s : State) (index : Nat) (bankB : Bool) :
    (State.mapCommit s index bankB).vault = s.vault := by simp [State.mapCommit]

@[simp] theorem State.markOlder_vault (s : State) :
    (State.markOlder s).vault = s.vault := by simp [State.markOlder]

@[simp] theorem State.aclSweep_vault (s : State) (waitNp : Bool) :
    (State.aclSweep s waitNp).vault = s.vault := by simp [State.aclSweep]

@[simp] theorem State.writeMcmMode_vault (s : State) (k : Nat) (v : Nat) :
    (State.writeMcmMode s k v).vault = s.vault := by simp [State.writeMcmMode]

@[simp] theorem State.modSession_vault (s : State) (k : Nat) (f : Session → Session) :
    (State.modSession s k f).vault = s.vault := by simp [State.modSession]

@[simp] theorem State.setN_vault (s : State) (k : Nat) (n : Nat) :
    (State.setN s k n).vault = s.vault := by simp [State.setN]

theorem State.writeCtlB_vault (s : State) (p : PageAt) (a : Nat) (v : W32) :
    ∀ out, (State.writeCtlB s p a v) = some out → out.vault = s.vault := by
  intro out ht
  unfold State.writeCtlB at ht
  (repeat' split at ht) <;> cases ht <;> simp

@[simp] theorem State.setTbState_vault (s : State) (st : Nat) :
    (State.setTbState s st).vault = s.vault := by simp [State.setTbState]

@[simp] theorem State.sourceChanged_vault (s : State) (old : Nat) :
    (State.sourceChanged s old).vault = s.vault := by simp [State.sourceChanged]

@[simp] theorem State.writeTbCtl_vault (s : State) (a : Nat) (v : W32) :
    (State.writeTbCtl s a v).vault = s.vault := by simp [State.writeTbCtl]

@[simp] theorem State.stepTime_vault (s : State) (v : Nat) :
    (State.stepTime s v).vault = s.vault := by
  unfold State.stepTime
  (repeat' (first | (simp [vault_foldl, vault_foldl_fst, vault_foldl_snd, *]; done) | split | (refine vault_snd (by assumption) ?_) | (refine vault_fst (by assumption) ?_) | (refine (vault_foldl _ _ _ (fun s x => ?_)).trans ?_) | (refine (vault_foldl_fst _ _ _ (fun s x => ?_)).trans ?_) | (refine (vault_foldl_snd _ _ _ (fun s x => ?_)).trans ?_) | simp [vault_foldl, vault_foldl_fst, vault_foldl_snd, *]))

@[simp] theorem State.tbSet_vault (s : State) :
    (State.tbSet s).vault = s.vault := by simp [State.tbSet]

@[simp] theorem State.gateForce_vault (s : State) (g : Nat) (bank : Bool) :
    (State.gateForce s g bank).vault = s.vault := by simp [State.gateForce]

@[simp] theorem State.setInstant_vault (s : State) (g : Nat) (k : Nat) (t : Option Nat) :
    (State.setInstant s g k t).vault = s.vault := by simp [State.setInstant]

@[simp] theorem State.writeArmCtl_vault (s : State) (g : Nat) (k : Nat) (v : Nat) :
    (State.writeArmCtl s g k v).vault = s.vault := by
  unfold State.writeArmCtl
  dsimp only
  (repeat' split) <;> simp [vault_foldl]

@[simp] theorem State.writeArmWord_vault (s : State) (g : Nat) (k : Nat) (w : Nat) (v : Nat) :
    (State.writeArmWord s g k w v).vault = s.vault := by simp [State.writeArmWord]

@[simp] theorem State.discardReads_vault (s : State) (i : Nat) (q : Nat) (n : Nat) :
    (State.discardReads s i q n).vault = s.vault := by simp [State.discardReads]

end Sys2Proof.Machine
end

