-- ==== Sys2Proof/Laws/Frame2.lean ====
section
/-! SUPPORT. Frame lemmas, part 2: operations that leave the queue, SRAM, flash and OTP alone. -/

namespace Sys2Proof.Machine

set_option linter.all false

@[simp] theorem State.modRun_vault (s : State) (i : Nat) (q : Nat) (n : Nat) (f : DescRun → DescRun) :
    (State.modRun s i q n f).vault = s.vault := by simp [State.modRun]

@[simp] theorem State.endDesc_vault (s : State) (i : Nat) (q : Nat) (n : Nat) (status : Nat) (result : Nat) :
    (State.endDesc s i q n status result).vault = s.vault := by simp [State.endDesc]

@[simp] theorem State.abortEngine_vault (s : State) (e : Nat) :
    (State.abortEngine s e).vault = s.vault := by
  unfold State.abortEngine
  (repeat' (first | (simp [vault_foldl, vault_foldl_fst, vault_foldl_snd, *]; done) | split | (refine vault_snd (by assumption) ?_) | (refine vault_fst (by assumption) ?_) | (refine (vault_foldl _ _ _ (fun s x => ?_)).trans ?_) | (refine (vault_foldl_fst _ _ _ (fun s x => ?_)).trans ?_) | (refine (vault_foldl_snd _ _ _ (fun s x => ?_)).trans ?_) | simp [vault_foldl, vault_foldl_fst, vault_foldl_snd, *]))

@[simp] theorem State.engineRestart_vault (s : State) (e : Nat) :
    (State.engineRestart s e).vault = s.vault := by simp [State.engineRestart]

@[simp] theorem State.writeEngCtl_vault (s : State) (e : Nat) (a : Nat) (v : W32) :
    (State.writeEngCtl s e a v).vault = s.vault := by simp [State.writeEngCtl]

@[simp] theorem State.writeOwner_vault (s : State) (r : Requester) (i : Nat) (a : Nat) (v : W32) :
    (State.writeOwner s r i a v).vault = s.vault := by simp [State.writeOwner]

@[simp] theorem State.headgateOpen_vault (s : State) (i : Nat) :
    (State.headgateOpen s i).vault = s.vault := by simp [State.headgateOpen]

@[simp] theorem State.headgateClose_vault (s : State) (i : Nat) :
    (State.headgateClose s i).vault = s.vault := by simp [State.headgateClose]

@[simp] theorem State.command_vault (s : State) (i : Nat) (cmd : Nat) (go : State → State) (hgo : ∀ s, (go s).vault = s.vault) :
    (State.command s i cmd go).vault = s.vault := by
  unfold State.command
  (repeat' (first | (simp [vault_foldl, vault_foldl_fst, vault_foldl_snd, *, hgo]; done) | split | (refine vault_snd (by assumption) ?_) | (refine vault_fst (by assumption) ?_) | simp [vault_foldl, vault_foldl_fst, vault_foldl_snd, *, hgo]))

@[simp] theorem State.cmdDone_vault (s : State) (i : Nat) :
    (State.cmdDone s i).vault = s.vault := by simp [State.cmdDone]

@[simp] theorem State.cmdBusy_vault (s : State) (i : Nat) (cmd : Nat) :
    (State.cmdBusy s i cmd).vault = s.vault := by simp [State.cmdBusy]

@[simp] theorem State.createInst_vault (s : State) (i : Nat) :
    (State.createInst s i).vault = s.vault := by simp [State.createInst]

@[simp] theorem State.presence_vault (s : State) (part : Nat) :
    (State.presence s part).vault = s.vault := by simp [State.presence]

@[simp] theorem State.dropFunction_vault (s : State) (i : Nat) :
    (State.dropFunction s i).vault = s.vault := by
  unfold State.dropFunction
  (repeat' (first | (simp [vault_foldl]; done) | split))

@[simp] theorem State.destroyInst_vault (s : State) (i : Nat) :
    (State.destroyInst s i).vault = s.vault := by simp [State.destroyInst]

@[simp] theorem State.startFreezeFences_vault (s : State) (i : Nat) :
    (State.startFreezeFences s i).vault = s.vault := by
  unfold State.startFreezeFences
  dsimp only
  (repeat' split) <;> simp [vault_foldl]

@[simp] theorem State.freezeInst_vault (s : State) (i : Nat) :
    (State.freezeInst s i).vault = s.vault := by
  unfold State.freezeInst
  dsimp only
  (repeat' split) <;> simp [vault_foldl]

@[simp] theorem State.cmdFailed_vault (s : State) (i : Nat) (cause : Nat) :
    (State.cmdFailed s i cause).vault = s.vault := by simp [State.cmdFailed]

@[simp] theorem State.evictAt_vault (s : State) (q : Nat) (need : Nat) (egresses : List Nat) (x4 : Nat) :
    (State.evictAt s q need egresses x4).1.vault = s.vault := by
  induction x4 generalizing s q need egresses with
  | zero => rfl
  | succ n ih => unfold State.evictAt; (repeat' (first | (simp [vault_foldl, vault_foldl_fst, vault_foldl_snd, *]; done) | split | (refine vault_snd (by assumption) ?_) | (refine vault_fst (by assumption) ?_) | simp [vault_foldl, vault_foldl_fst, vault_foldl_snd, *]))

theorem State.makeRoom_vault (s : State) (f : Frame) (egresses : List Nat) :
    ∀ out, (State.makeRoom s f egresses) = some out → out.vault = s.vault := by
  intro out ht
  unfold State.makeRoom at ht
  try dsimp only at ht
  (repeat' split at ht) <;> (first | cases ht | (injection ht with ht; subst ht)) <;> (repeat' (first | (simp [vault_foldl, vault_foldl_fst, vault_foldl_snd, *]; done) | split | (refine vault_snd (by assumption) ?_) | (refine vault_fst (by assumption) ?_) | (refine (vault_foldl _ _ _ (fun s x => ?_)).trans ?_) | (refine (vault_foldl_fst _ _ _ (fun s x => ?_)).trans ?_) | (refine (vault_foldl_snd _ _ _ (fun s x => ?_)).trans ?_) | simp [vault_foldl, vault_foldl_fst, vault_foldl_snd, *]))

@[simp] theorem State.refuseLive_vault (s : State) (f : Frame) (cs : List Copy) :
    (State.refuseLive s f cs).vault = s.vault := by
  unfold State.refuseLive
  dsimp only
  (repeat' split) <;> simp [vault_foldl]

@[simp] theorem State.takeIn_vault (s : State) (f : Frame) (cs : List Copy) : (State.takeIn s f cs).vault = s.vault := by
  have fold (l : List Copy) (s : State) : (l.foldl State.enqueue s).vault = s.vault := vault_foldl _ _ _ fun s x => by simp
  unfold State.takeIn
  generalize (if f.older then cs.map fun c => { c with older := true } else cs) = cs
  dsimp only
  split
  · rfl
  · split
    · split
      · simp
      · rw [fold, State.store_vault]
        exact State.makeRoom_vault _ _ _ _ ‹_›
    · rw [fold, State.store_vault]

@[simp] theorem State.drawNat_vault (s : State) :
    (State.drawNat s).2.vault = s.vault := by simp [State.drawNat]

theorem State.freeTag_vault (s : State) (rid : BitVec 16) (e : Nat) :
    ∀ t, (State.freeTag s rid e) = some t → t.2.vault = s.vault := by
  intro t ht
  simp only [State.freeTag, Option.map_eq_some_iff] at ht
  obtain ⟨a, _, rfl⟩ := ht
  simp

theorem State.freeTag_at {s t : State} {b : Bool} {rid : BitVec 16} {e : Nat} {g : BitVec 14}
    (h : (if b = true then none else s.freeTag rid e) = some (g, t)) : t.vault = s.vault := by
  split at h
  · cases h
  · exact State.freeTag_vault _ _ _ _ h

@[simp] theorem State.proxied_vault (s : State) (f : Frame) (c : Copy) (o : Nat) (record : Option Nat) :
    (State.proxied s f c o record).1.vault = s.vault := by
  unfold State.proxied
  dsimp only
  generalize hx : (if s.behind _ _ = true then none else s.freeTag (s.mgmtReqId o) _) = x
  rcases x with _ | ⟨g, t⟩
  · simp
  · have h := State.freeTag_at hx
    dsimp only
    rw [State.takeIn_vault]
    split
    · rw [State.modTag_vault, h]
    · exact h

@[simp] theorem State.place_vault (s : State) (f : Frame) (c : Copy) (owner : Option Nat) (record : Option Nat) :
    (State.place s f c owner record).1.vault = s.vault := by
  unfold State.place
  (repeat' (first | (simp [vault_foldl, vault_foldl_fst, vault_foldl_snd, *]; done) | split | (refine vault_snd (by assumption) ?_) | (refine vault_fst (by assumption) ?_) | simp [vault_foldl, vault_foldl_fst, vault_foldl_snd, *]))

@[simp] theorem State.launchCore_vault (s : State) (f : Frame) (c : Copy) (owner : Option Nat) :
    (State.launchCore s f c owner).vault = s.vault := by
  unfold State.launchCore
  (repeat' split) <;> simp

@[simp] theorem State.coreRead_vault (s : State) (fid : Nat) (p : Nat) (addr : W64) (len : Nat) (why : CoreWhy) :
    (State.coreRead s fid p addr len why).1.vault = s.vault := by
  unfold State.coreRead
  dsimp only
  (repeat' split) <;> simp [vault_foldl]

@[simp] theorem State.saveInst_vault (s : State) (i : Nat)  : (State.saveInst s i).vault = s.vault := by
  unfold State.saveInst
  refine State.command_vault _ _ _ _ fun s => ?_
  generalize s.saveBody i = b
  generalize upTo (4096 / savePiece) = l
  dsimp only
  split
  · rw [State.cmdFailed_vault, State.cmdBusy_vault]
  · generalize hr : State.coreRead _ _ _ _ _ _ = r
    have h := congrArg (fun p => State.vault (Prod.fst p)) hr
    rw [State.coreRead_vault, vault_foldl _ _ _ (by simp), State.cmdBusy_vault] at h
    obtain ⟨r, b⟩ := r
    cases b <;> simp [← h]

@[simp] theorem State.restoreInst_vault (s : State) (i : Nat) :
    (State.restoreInst s i).vault = s.vault := by
  unfold State.restoreInst
  (repeat' (first | (simp [vault_foldl, vault_foldl_fst, vault_foldl_snd, *]; done) | split | (refine vault_snd (by assumption) ?_) | (refine vault_fst (by assumption) ?_) | (refine (State.command_vault _ _ _ _ (fun s => ?_)).trans ?_) | (refine (vault_foldl _ _ _ (fun s x => ?_)).trans ?_) | (refine (vault_foldl_fst _ _ _ (fun s x => ?_)).trans ?_) | (refine (vault_foldl_snd _ _ _ (fun s x => ?_)).trans ?_) | simp [vault_foldl, vault_foldl_fst, vault_foldl_snd, *]))

@[simp] theorem State.thawInst_vault (s : State) (i : Nat) :
    (State.thawInst s i).vault = s.vault := by
  unfold State.thawInst
  dsimp only
  (repeat' split) <;> simp [vault_foldl]

@[simp] theorem State.moveInst_vault (s : State) (i : Nat) (cmd : Nat) (st : Nat) :
    (State.moveInst s i cmd st).vault = s.vault := by simp [State.moveInst]

@[simp] theorem State.instCommand_vault (s : State) (i : Nat) (cmd : Nat) :
    (State.instCommand s i cmd).vault = s.vault := by
  unfold State.instCommand
  (repeat' split) <;> simp

@[simp] theorem State.writeInstCtl_vault (s : State) (i : Nat) (v : Nat) :
    (State.writeInstCtl s i v).vault = s.vault := by simp [State.writeInstCtl]

@[simp] theorem State.writeInstRing_vault (s : State) (i : Nat) (v : Nat) :
    (State.writeInstRing s i v).vault = s.vault := by
  unfold State.writeInstRing
  (repeat' (first | (simp [vault_foldl]; done) | split))

@[simp] theorem State.portRefused_vault (s : State) (n : Nat) (cause : Nat) :
    (State.portRefused s n cause).vault = s.vault := by simp [State.portRefused]

@[simp] theorem State.writePortCtl_vault (s : State) (n : Nat) (v : Nat) :
    (State.writePortCtl s n v).vault = s.vault := by simp [State.writePortCtl]

@[simp] theorem State.pcieDisable_vault (s : State) (n : Nat) :
    (State.pcieDisable s n).vault = s.vault := by simp [State.pcieDisable]

@[simp] theorem State.rateFalls_vault (s : State) (n : Nat) :
    (State.rateFalls s n).vault = s.vault := by simp [State.rateFalls]

@[simp] theorem State.hotReset_vault (s : State) (n : Nat) :
    (State.hotReset s n).vault = s.vault := by simp [State.hotReset]

@[simp] theorem State.writePepLink_vault (s : State) (n : Nat) (a : Nat) (v : W32) :
    (State.writePepLink s n a v).vault = s.vault := by simp [State.writePepLink]

@[simp] theorem State.octetWritten_vault (s : State) (k : Nat) (mode : Bool) (v : Nat) :
    (State.octetWritten s k mode v).vault = s.vault := by simp [State.octetWritten]

@[simp] theorem State.showPorts_vault (s : State) :
    (State.showPorts s).vault = s.vault := by
  unfold State.showPorts
  (repeat' (first | (simp [vault_foldl]; done) | split))

@[simp] theorem State.writeOctet_vault (s : State) (k : Nat) (mode : Bool) (v : Nat) :
    (State.writeOctet s k mode v).vault = s.vault := by simp [State.writeOctet]

@[simp] theorem State.downLane_vault (s : State) (u : Nat) (l : Nat) :
    (State.downLane s u l).vault = s.vault := by
  unfold State.downLane
  (repeat' split) <;> simp

@[simp] theorem State.downLanes_vault (s : State) (u : Nat) (lanes : Nat) :
    (State.downLanes s u lanes).vault = s.vault := by
  unfold State.downLanes
  (repeat' (first | (simp [vault_foldl]; done) | split))

@[simp] theorem State.loopSet_vault (s : State) (u : Nat) (v : Nat) :
    (State.loopSet s u v).vault = s.vault := by simp [State.loopSet]

@[simp] theorem State.prbsWrite_vault (s : State) (u : Nat) (v : Nat) :
    (State.prbsWrite s u v).vault = s.vault := by simp [State.prbsWrite]

@[simp] theorem State.eqRedo_vault (s : State) (k : Nat) (l : Nat) (n : Nat) (measure : Nat) :
    (State.eqRedo s k l n measure).vault = s.vault := by simp [State.eqRedo]

@[simp] theorem State.eqRequest_vault (s : State) (k : Nat) (sub : Nat) :
    (State.eqRequest s k sub).vault = s.vault := by
  unfold State.eqRequest
  dsimp only
  (repeat' split) <;> simp [vault_foldl]

@[simp] theorem State.eyeEnd_vault (s : State) (u : Nat) (st : Nat) (cause : Nat) (errors : Nat) :
    (State.eyeEnd s u st cause errors).vault = s.vault := by simp [State.eyeEnd]

@[simp] theorem State.eyeStop_vault (s : State) (u : Nat) (st : Nat) (cause : Nat) (errors : Nat) :
    (State.eyeStop s u st cause errors).vault = s.vault := by simp [State.eyeStop]

@[simp] theorem State.eyeGo_vault (s : State) (u : Nat) (signal : Bool) :
    (State.eyeGo s u signal).vault = s.vault := by simp [State.eyeGo]

@[simp] theorem State.writeEye_vault (s : State) (u : Nat) (a : Nat) (v : W32) :
    (State.writeEye s u a v).vault = s.vault := by simp [State.writeEye]

@[simp] theorem State.writeTxOvr_vault (s : State) (a : Nat) (v : W32) :
    (State.writeTxOvr s a v).vault = s.vault := by simp [State.writeTxOvr]

@[simp] theorem State.linkEnable_vault (s : State) (f : Nat) :
    (State.linkEnable s f).vault = s.vault := by simp [State.linkEnable]

@[simp] theorem State.linkDisable_vault (s : State) (f : Nat) :
    (State.linkDisable s f).vault = s.vault := by simp [State.linkDisable]

@[simp] theorem State.sendHello_vault (s : State) (f : Nat) :
    (State.sendHello s f).vault = s.vault := by simp [State.sendHello]

@[simp] theorem State.startRetrain_vault (s : State) (f : Nat) :
    (State.startRetrain s f).vault = s.vault := by simp [State.startRetrain]

@[simp] theorem State.enterChange_vault (s : State) (f : Nat) (speed : Nat) (width : Nat) (set : Nat) :
    (State.enterChange s f speed width set).vault = s.vault := by simp [State.enterChange]

@[simp] theorem State.changeReady_vault (s : State) (f : Nat) :
    (State.changeReady s f).vault = s.vault := by
  unfold State.changeReady
  dsimp only
  (repeat' split) <;> simp [vault_foldl]

@[simp] theorem State.startChange_vault (s : State) (f : Nat) (speed : Nat) (width : Nat) (set : Nat) :
    (State.startChange s f speed width set).vault = s.vault := by simp [State.startChange]

@[simp] theorem State.linkChange_vault (s : State) (f : Nat) :
    (State.linkChange s f).vault = s.vault := by
  unfold State.linkChange
  (repeat' split) <;> simp

@[simp] theorem State.writeMflLink_vault (s : State) (f : Nat) (a : Nat) (v : W32) :
    (State.writeMflLink s f a v).vault = s.vault := by simp [State.writeMflLink]

@[simp] theorem State.spareMap_vault (s : State) (f : Nat) (p : Nat) :
    (State.spareMap s f p).vault = s.vault := by simp [State.spareMap]

theorem State.writeCtlC_vault (s : State) (r : Requester) (p : PageAt) (a : Nat) (v : W32) :
    ∀ out, (State.writeCtlC s r p a v) = some out → out.vault = s.vault := by
  intro out ht
  unfold State.writeCtlC at ht
  (repeat' split at ht) <;> cases ht <;> simp

@[simp] theorem State.noteReserved_vault (s : State) (a : Nat) (v : W32) :
    (State.noteReserved s a v).vault = s.vault := by
  unfold State.noteReserved
  (repeat' split) <;> simp

@[simp] theorem State.lckOrder_vault (s : State) (r : Requester) (a : Nat) :
    (State.lckOrder s r a).vault = s.vault := by simp [State.lckOrder]

@[simp] theorem State.zeroRead_vault (s : State) (f : Frame) :
    (State.zeroRead s f).vault = s.vault := by simp [State.zeroRead]

@[simp] theorem State.takeLatch_vault (s : State) (r : Requester) (page : Nat) (off : Nat) (high : Nat) :
    (State.takeLatch s r page off high).vault = s.vault := by simp [State.takeLatch]

@[simp] theorem State.timeRead_vault (s : State) (r : Requester) (off : Nat) :
    (State.timeRead s r off).2.vault = s.vault := by
  unfold State.timeRead
  (repeat' split) <;> simp

@[simp] theorem State.counterRead_vault (s : State) (r : Requester) (a : Nat) :
    (State.counterRead s r a).2.vault = s.vault := by
  unfold State.counterRead
  (repeat' split) <;> simp

@[simp] theorem State.rxAdapted_vault (s : State) (v : W32) :
    (State.rxAdapted s v).2.vault = s.vault := by simp [State.rxAdapted]

@[simp] theorem State.regRead_vault (s : State) (r : Requester) (a : Nat) :
    (State.regRead s r a).2.vault = s.vault := by
  unfold State.regRead
  (repeat' split) <;> simp

@[simp] theorem State.readWords_vault (s : State) (r : Requester) (a : Nat) (x3 : Nat) :
    (State.readWords s r a x3).2.vault = s.vault := by
  induction x3 generalizing s r a with
  | zero => rfl
  | succ n ih => unfold State.readWords; (repeat' (first | (simp [vault_foldl, vault_foldl_fst, vault_foldl_snd, *]; done) | split | (refine vault_snd (by assumption) ?_) | (refine vault_fst (by assumption) ?_) | simp [vault_foldl, vault_foldl_fst, vault_foldl_snd, *]))

@[simp] theorem State.busRead_vault (s : State) (r : Requester) (a : Nat) (len : Nat) :
    (State.busRead s r a len).2.vault = s.vault := by
  unfold State.busRead
  dsimp only
  (repeat' split) <;> simp [vault_foldl]

@[simp] theorem State.modFs_vault (s : State) (f : FrameSync → FrameSync) :
    (State.modFs s f).vault = s.vault := by simp [State.modFs]

@[simp] theorem State.showPeriod_vault (s : State) :
    (State.showPeriod s).vault = s.vault := by simp [State.showPeriod]

@[simp] theorem State.fixInstants_vault (s : State) (n : Nat) (t : Nat) :
    (State.fixInstants s n t).vault = s.vault := by
  unfold State.fixInstants
  dsimp only
  (repeat' split) <;> simp [vault_foldl]

@[simp] theorem State.countEdge_vault (s : State) (real : Bool) (t : Nat) :
    (State.countEdge s real t).vault = s.vault := by simp [State.countEdge]

@[simp] theorem State.hist_vault (s : State) (source : Nat) (port : Nat) (live : Bool) (v : Nat) :
    (State.hist s source port live v).vault = s.vault := by
  unfold State.hist
  dsimp only
  (repeat' split) <;> simp [vault_foldl]

@[simp] theorem State.discipline_vault (s : State) (c : Int) (ideal : Int) :
    (State.discipline s c ideal).vault = s.vault := by simp [State.discipline]

@[simp] theorem State.frameRef_vault (s : State) (t : Nat) :
    (State.frameRef s t).vault = s.vault := by simp [State.frameRef]

@[simp] theorem State.frameEdge_vault (s : State) (t : Nat) : (State.frameEdge s t).vault = s.vault := by
  unfold State.frameEdge
  dsimp only
  (repeat' split) <;> simp

theorem execFrameSyncEdge_vault (falling : Bool) (s : State) :
    ∀ out, (execFrameSyncEdge falling s) = .next out → out.vault = s.vault := by
  intro out ht
  cases ht
  simp

@[simp] theorem State.injected_vault (s : State) (n : Nat) :
    (State.injected s n).2.vault = s.vault := by
  unfold State.injected
  (repeat' split) <;> simp

@[simp] theorem State.releaseTimed_vault (s : State) (i : Nat) (q : Nat) (n : Nat) (late : Bool) (missed : Bool) :
    (State.releaseTimed s i q n late missed).vault = s.vault := by simp [State.releaseTimed]

@[simp] theorem State.pccOff_vault (s : State) (n : Nat) :
    (State.pccOff s n).vault = s.vault := by simp [State.pccOff]

@[simp] theorem State.pccOn_vault (s : State) (n : Nat) :
    (State.pccOn s n).vault = s.vault := by simp [State.pccOn]

@[simp] theorem State.writePcc_vault (s : State) (n : Nat) (off : Bool) :
    (State.writePcc s n off).vault = s.vault := by simp [State.writePcc]

theorem execPowerControllerOff_vault (port : Nat) (s : State) :
    ∀ out, (execPowerControllerOff port s) = .next out → out.vault = s.vault := by
  intro out ht
  cases ht
  simp

@[simp] theorem State.sourceFailed_vault (s : State) (i : Nat) (q : Nat) (n : Nat) (status : Nat) (window : Nat) :
    (State.sourceFailed s i q n status window).vault = s.vault := by simp [State.sourceFailed]

@[simp] theorem State.obeyMask_vault (s : State) (f : Nat) (mask : Nat) :
    (State.obeyMask s f mask).vault = s.vault := by simp [State.obeyMask]

@[simp] theorem State.packetGone_vault (s : State) (p : Packet) :
    (State.packetGone s p).vault = s.vault := by
  unfold State.packetGone
  (repeat' split) <;> simp

@[simp] theorem State.acknowledge_vault (s : State) (f : Nat) (a : Nat) :
    (State.acknowledge s f a).vault = s.vault := by
  unfold State.acknowledge
  dsimp only
  (repeat' split) <;> simp [vault_foldl]

@[simp] theorem State.linkLost_vault (s : State) (f : Nat) :
    (State.linkLost s f).vault = s.vault := by simp [State.linkLost]

@[simp] theorem State.resend_vault (s : State) (f : Nat) (ps : List Packet) :
    (State.resend s f ps).vault = s.vault := by simp [State.resend]

@[simp] theorem State.replayFrom_vault (s : State) (f : Nat) (q : Nat) :
    (State.replayFrom s f q).vault = s.vault := by
  unfold State.replayFrom
  (repeat' split) <;> simp

@[simp] theorem State.nakGot_vault (s : State) (f : Nat) (seq : Nat) (mask : Nat) :
    (State.nakGot s f seq mask).vault = s.vault := by simp [State.nakGot]

theorem execNakReceive_vault (link : Nat) (seq : Nat) (mask : Nat) (s : State) :
    ∀ out, (execNakReceive link seq mask s) = .next out → out.vault = s.vault := by
  intro out ht
  cases ht
  simp

@[simp] theorem State.sendSlot_vault (s : State) (f : Nat) (p : Nat) :
    (State.sendSlot s f p).vault = s.vault := by simp [State.sendSlot]

@[simp] theorem State.remapOver_vault (s : State) (f : Nat) :
    (State.remapOver s f).vault = s.vault := by simp [State.remapOver]

@[simp] theorem State.remapSent_vault (s : State) (f : Nat) :
    (State.remapSent s f).vault = s.vault := by simp [State.remapSent]

@[simp] theorem State.setSpare_vault (s : State) (f : Nat) (p : Nat) :
    (State.setSpare s f p).vault = s.vault := by simp [State.setSpare]

@[simp] theorem State.applyWidth_vault (s : State) (f : Nat) (speed : Nat) (width : Nat) (set : Nat) :
    (State.applyWidth s f speed width set).vault = s.vault := by simp [State.applyWidth]

@[simp] theorem State.changeApply_vault (s : State) (f : Nat) :
    (State.changeApply s f).vault = s.vault := by
  unfold State.changeApply
  (repeat' split) <;> simp

@[simp] theorem State.sendRow_vault (s : State) (f : Nat) :
    (State.sendRow s f).vault = s.vault := by
  unfold State.sendRow
  dsimp only
  (repeat' split) <;> simp [vault_foldl]

theorem execBankRetire_vault (bank : Nat) (s : State) :
    ∀ out, (execBankRetire bank s) = .next out → out.vault = s.vault := by
  intro out ht
  cases ht
  simp

@[simp] theorem State.startDesc_vault (s : State) (i : Nat) (q : Nat) (n : Nat) (raw : BitVec 512) (status : Nat) :
    (State.startDesc s i q n raw status).vault = s.vault := by simp [State.startDesc]

@[simp] theorem State.sbBit_vault (s : State) (levels : Nat) (i : Nat) :
    (State.sbBit s levels i).1.vault = s.vault := by
  unfold State.sbBit
  dsimp only
  (repeat' split) <;> simp [vault_foldl]

theorem execRecover_vault (inst : Nat) (s : State) :
    ∀ out, (execRecover inst s) = .next out → out.vault = s.vault := by
  intro out ht
  cases ht
  simp

theorem execDpcRelease_vault (port : Nat) (s : State) :
    ∀ out, (execDpcRelease port s) = .next out → out.vault = s.vault := by
  intro out ht
  cases ht
  simp

@[simp] theorem State.ringDisable_vault (s : State) (i : Nat) (q : Nat) :
    (State.ringDisable s i q).vault = s.vault := by simp [State.ringDisable]

@[simp] theorem State.ringEnable_vault (s : State) (i : Nat) (q : Nat) :
    (State.ringEnable s i q).vault = s.vault := by simp [State.ringEnable]

@[simp] theorem State.writeQcfg_vault (s : State) (i : Nat) (q : Nat) (v : Nat) :
    (State.writeQcfg s i q v).vault = s.vault := by simp [State.writeQcfg]

@[simp] theorem State.ringResume_vault (s : State) (i : Nat) (q : Nat) :
    (State.ringResume s i q).vault = s.vault := by simp [State.ringResume]

@[simp] theorem State.dropWithdrawn_vault (s : State) (i : Nat) (q : Nat) :
    (State.dropWithdrawn s i q).vault = s.vault := by
  unfold State.dropWithdrawn
  dsimp only
  (repeat' split) <;> simp [vault_foldl]

@[simp] theorem State.doorbell_vault (s : State) (i : Nat) (q : Nat) (v : W32) :
    (State.doorbell s i q v).vault = s.vault := by simp [State.doorbell]

@[simp] theorem State.bar0Write_vault (s : State) (i : Nat) (off : Nat) (v : W32) :
    (State.bar0Write s i off v).vault = s.vault := by simp [State.bar0Write]

theorem execMailboxRetire_vault (part : Nat) (s : State) :
    ∀ out, (execMailboxRetire part s) = .next out → out.vault = s.vault := by
  intro out ht
  cases ht
  simp

@[simp] theorem State.containLate_vault (s : State) (f : Frame) (c : Copy) :
    (State.containLate s f c).vault = s.vault := by simp [State.containLate]

@[simp] theorem State.setBankCe_vault (s : State) (bank : Nat) (ts : List Nat) :
    (State.setBankCe s bank ts).vault = s.vault := by simp [State.setBankCe]

theorem execBankCeLimit_vault (bank : Nat) (s : State) :
    ∀ out, (execBankCeLimit bank s) = .next out → out.vault = s.vault := by
  intro out ht
  unfold execBankCeLimit at ht
  dsimp only at ht
  (repeat' split at ht) <;> cases ht <;> simp [vault_foldl]

@[simp] theorem State.slotsOff_vault (s : State) :
    (State.slotsOff s).vault = s.vault := by
  unfold State.slotsOff
  (repeat' (first | (simp [vault_foldl]; done) | split))

@[simp] theorem State.flushEverything_vault (s : State) (count : Bool) :
    (State.flushEverything s count).vault = s.vault := by
  unfold State.flushEverything
  (repeat' (first | (simp [vault_foldl, vault_foldl_fst, vault_foldl_snd, *]; done) | split | (refine vault_snd (by assumption) ?_) | (refine vault_fst (by assumption) ?_) | (refine (vault_foldl _ _ _ (fun s x => ?_)).trans ?_) | (refine (vault_foldl_fst _ _ _ (fun s x => ?_)).trans ?_) | (refine (vault_foldl_snd _ _ _ (fun s x => ?_)).trans ?_) | simp [vault_foldl, vault_foldl_fst, vault_foldl_snd, *]))

@[simp] theorem State.enterSafe_vault (s : State) :
    (State.enterSafe s).vault = s.vault := by
  unfold State.enterSafe
  (repeat' (first | (simp [vault_foldl, vault_foldl_fst, vault_foldl_snd, *]; done) | split | (refine vault_snd (by assumption) ?_) | (refine vault_fst (by assumption) ?_) | (refine (vault_foldl _ _ _ (fun s x => ?_)).trans ?_) | (refine (vault_foldl_fst _ _ _ (fun s x => ?_)).trans ?_) | (refine (vault_foldl_snd _ _ _ (fun s x => ?_)).trans ?_) | simp [vault_foldl, vault_foldl_fst, vault_foldl_snd, *]))

@[simp] theorem State.selftestFail_vault (s : State) (item : Nat) (fatal : Bool) :
    (State.selftestFail s item fatal).vault = s.vault := by simp [State.selftestFail]

@[simp] theorem State.deviceError_vault (s : State) (code : Nat) (part : Option Nat) (port : Nat) (detail : Nat) :
    (State.deviceError s code part port detail).vault = s.vault := by simp [State.deviceError]

@[simp] theorem State.tableUe_vault (s : State) (table : Nat) (index : Nat) (part : Option Nat) (port : Nat) :
    (State.tableUe s table index part port).vault = s.vault := by simp [State.tableUe]

@[simp] theorem State.tablesUe_vault (s : State) (es : List (Nat × Nat)) (part : Option Nat) (port : Nat) :
    (State.tablesUe s es part port).vault = s.vault := by
  unfold State.tablesUe
  (repeat' (first | (simp [vault_foldl]; done) | split))

@[simp] theorem State.dropCapture_vault (s : State) (k : Nat) :
    (State.dropCapture s k).vault = s.vault := by simp [State.dropCapture]

@[simp] theorem State.pushSample_vault (s : State) (e : BitVec 1280) :
    (State.pushSample s e).vault = s.vault := by simp [State.pushSample]

@[simp] theorem State.captureIn_vault (s : State) (k : Nat) (f : Frame) (t : Tlp) (atEgress : Bool) (egress : Nat) (refused : Bool) (window : Nat) :
    (State.captureIn s k f t atEgress egress refused window).vault = s.vault := by simp [State.captureIn]

@[simp] theorem State.capture_vault (s : State) (f : Frame) (t : Tlp) (atEgress : Bool) (egress : Nat) (refused : Bool) (win : Option Win) :
    (State.capture s f t atEgress egress refused win).vault = s.vault := by
  unfold State.capture
  dsimp only
  (repeat' split) <;> simp [vault_foldl]

@[simp] theorem State.entered_vault (s : State) (f : Frame) :
    (State.entered s f).vault = s.vault := by simp [State.entered]

@[simp] theorem State.deny_vault (s : State) (f : Frame) (cause : Nat) (window : Nat) :
    (State.deny s f cause window).vault = s.vault := by simp [State.deny]

@[simp] theorem State.stampLive_vault (s : State) (f : Frame) :
    (State.stampLive s f).2.vault = s.vault := by
  unfold State.stampLive
  (repeat' split) <;> simp

@[simp] theorem State.countMiss_vault (s : State) (f : Frame) (win : Option Win) :
    (State.countMiss s f win).vault = s.vault := by
  unfold State.countMiss
  (repeat' split) <;> simp

@[simp] theorem State.loseNoRoute_vault (s : State) (f : Frame) (addr : W64) (ring : Option Nat) :
    (State.loseNoRoute s f addr ring).vault = s.vault := by simp [State.loseNoRoute]

@[simp] theorem State.sendTo_vault (s : State) (f : Frame) (fid p : Nat) (addr : W64) (fwd : Nat) (ring : Option Nat)
    (record : Option Nat) (why : Purpose) : (State.sendTo s f fid p addr fwd ring record why).1.vault = s.vault := by
  unfold State.sendTo
  dsimp only
  split
  · dsimp only; split <;> simp
  · split
    · dsimp only; split <;> simp
    · split
      · rfl
      · split
        · dsimp only; split <;> simp
        · simp

theorem State.engineUnicast_vault (s : State) (f : Frame) (win : Option Win) (fid p : Nat) (et : Option EngTag) :
    ∀ out, State.engineUnicast s f win fid p et = some out → out.1.vault = s.vault := by
  intro out ht
  unfold State.engineUnicast at ht
  dsimp only at ht
  generalize (match win with | some w => w.out f.tlp.addr | none => f.tlp.addr) = a at ht
  generalize (match win with | some w => w.fwd | none => 0) = b at ht
  split at ht
  · split at ht <;> (injection ht with ht; subst ht; simp)
  · split at ht
    · split at ht <;> (injection ht with ht; subst ht; simp)
    · split at ht
      · injection ht with ht; subst ht; simp
      · generalize hx : (if s.behind _ _ = true then none else s.freeTag _ _) = x at ht
        rcases x with _ | ⟨g, t⟩
        · injection ht with ht; subst ht
          dsimp only
          split <;> simp
        · have h := State.freeTag_at hx
          injection ht with ht; subst ht
          dsimp only
          rw [State.place_vault]
          split <;> simpa using h

theorem State.replicate_vault (s : State) (f : Frame) (k : Nat) (fwd : Nat) :
    ∀ out, (State.replicate s f k fwd) = some out → out.1.vault = s.vault := by
  intro out ht
  unfold State.replicate at ht
  try dsimp only at ht
  (repeat' split at ht) <;> (first | cases ht | (injection ht with ht; subst ht)) <;> (repeat' (first | (simp [vault_foldl, vault_foldl_fst, vault_foldl_snd, *]; done) | split | (refine vault_snd (by assumption) ?_) | (refine vault_fst (by assumption) ?_) | (refine (vault_foldl _ _ _ (fun s x => ?_)).trans ?_) | (refine (vault_foldl_fst _ _ _ (fun s x => ?_)).trans ?_) | (refine (vault_foldl_snd _ _ _ (fun s x => ?_)).trans ?_) | simp [vault_foldl, vault_foldl_fst, vault_foldl_snd, *]))

@[simp] theorem State.sendGroup_vault (s : State) (f : Frame) (k : Nat) (fwd : Nat) :
    (State.sendGroup s f k fwd).vault = s.vault := by
  unfold State.sendGroup
  (repeat' (first | (simp [vault_foldl, vault_foldl_fst, vault_foldl_snd, *]; done) | split | (refine vault_snd (by assumption) ?_) | (refine vault_fst (by assumption) ?_) | (have h := State.replicate_vault _ _ _ _ _ ‹_›; simpa using h) | simp [vault_foldl, vault_foldl_fst, vault_foldl_snd, *]))

@[simp] theorem State.missRefused_vault (s : State) (f : Frame) :
    (State.missRefused s f).vault = s.vault := by simp [State.missRefused]

end Sys2Proof.Machine
end

