-- ==== Sys2Proof/Laws/Frame3.lean ====
section
/-! SUPPORT. Frame lemmas, part 3: operations that leave the queue, SRAM, flash and OTP alone. -/

namespace Sys2Proof.Machine

set_option linter.all false

theorem State.engineSend_vault (s : State) (e i : Nat) (t : Tlp) (want : Want) (et : Option EngTag) :
    ∀ out, State.engineSend s e i t want et = some out → out.1.vault = s.vault := by
  intro out ht
  unfold State.engineSend at ht
  dsimp only at ht
  (repeat' split at ht) <;> (first | cases ht | (injection ht with ht; subst ht) | rw [State.engineUnicast_vault _ _ _ _ _ _ _ ht]) <;> simp

@[simp] theorem State.release_vault (s : State) (i : Nat) (q : Nat) (n : Nat) :
    (State.release s i q n).vault = s.vault := by simp [State.release]

@[simp] theorem State.addDest_vault (s : State) (i : Nat) (q : Nat) (n : Nat) (d : DestEntry) :
    (State.addDest s i q n d).vault = s.vault := by simp [State.addDest]

@[simp] theorem State.turnPart_vault (s : State) (e : Nat) (i : Nat) (q : Nat) (d : DescRun) (room : Nat) :
    (State.turnPart s e i q d room).1.vault = s.vault := by
  unfold State.turnPart
  (repeat' (first | (simp [vault_foldl, vault_foldl_fst, vault_foldl_snd, *]; done) | split | (refine vault_snd (by assumption) ?_) | (refine vault_fst (by assumption) ?_) | (have h := State.engineSend_vault _ _ _ _ _ _ _ ‹_›; simpa using h) | simp [vault_foldl, vault_foldl_fst, vault_foldl_snd, *]))

@[simp] theorem State.turnParts_vault (e : Nat) (i : Nat) (q : Nat) (n : Nat) (x4 : Nat) (x5 : Nat) (x6 : State) :
    (State.turnParts e i q n x4 x5 x6).vault = x6.vault := by
  induction x4 generalizing e i q n x5 x6 with
  | zero => rfl
  | succ n ih => unfold State.turnParts; (repeat' (first | (simp [vault_foldl, vault_foldl_fst, vault_foldl_snd, *]; done) | split | (refine vault_snd (by assumption) ?_) | (refine vault_fst (by assumption) ?_) | simp [vault_foldl, vault_foldl_fst, vault_foldl_snd, *]))

@[simp] theorem State.turn_vault (s : State) (e : Nat) (i : Nat) (q : Nat) (d : DescRun) :
    (State.turn s e i q d).vault = s.vault := by
  unfold State.turn
  (repeat' (first | (simp [vault_foldl, vault_foldl_fst, vault_foldl_snd, *]; done) | split | (refine vault_snd (by assumption) ?_) | (refine vault_fst (by assumption) ?_) | simp [vault_foldl, vault_foldl_fst, vault_foldl_snd, *]))

@[simp] theorem State.refuse_vault (s : State) (f : Frame) :
    (State.refuse s f).vault = s.vault := by simp [State.refuse]

@[simp] theorem State.bar0WriteBytes_vault (s : State) (i : Nat) (off : Nat) (bs : List Byte) :
    (State.bar0WriteBytes s i off bs).vault = s.vault := by
  unfold State.bar0WriteBytes
  dsimp only
  (repeat' split) <;> simp [vault_foldl]

@[simp] theorem State.serveInst_vault (s : State) (f : Frame) (i : Nat) (off : Nat) :
    (State.serveInst s f i off).vault = s.vault := by simp [State.serveInst]

@[simp] theorem State.isoRefuse_vault (s : State) (f : Frame) :
    (State.isoRefuse s f).vault = s.vault := by simp [State.isoRefuse]

@[simp] theorem State.tableHits_vault (s : State) (f : Frame) (es : List (Nat × Nat)) :
    (State.tableHits s f es).vault = s.vault := by simp [State.tableHits]

@[simp] theorem State.tableHit_vault (s : State) (f : Frame) (table : Nat) (index : Nat) :
    (State.tableHit s f table index).vault = s.vault := by simp [State.tableHit]

@[simp] theorem State.carry_vault (s : State) (f : Frame) (fid : Nat) (dest : Nat) :
    (State.carry s f fid dest).vault = s.vault := by
  unfold State.carry
  dsimp only
  (repeat' split) <;> simp [vault_foldl]

@[simp] theorem State.flowGot_vault (s : State) (f : Nat) (mask : Nat) :
    (State.flowGot s f mask).vault = s.vault := by simp [State.flowGot]

@[simp] theorem State.sramUe_vault (s : State) (off : Nat) :
    (State.sramUe s off).vault = s.vault := by simp [State.sramUe]

@[simp] theorem State.loadMain_vault (s : State) (o : CoreOp) (r : Region) (off : Nat) :
    (State.loadMain s o r off).vault = s.vault := by
  unfold State.loadMain
  (repeat' split) <;> simp

@[simp] theorem State.defer_vault (s : State) (a : Action) :
    (State.defer s a).vault = s.vault := by simp [State.defer]

@[simp] theorem State.modEng_vault (s : State) (e : Nat) (f : EngSt → EngSt) :
    (State.modEng s e f).vault = s.vault := by simp [State.modEng]

@[simp] theorem State.engineContained_vault (s : State) (e : Nat) :
    (State.engineContained s e).vault = s.vault := by simp [State.engineContained]

@[simp] theorem State.containPort_vault (s : State) (n : Nat) :
    (State.containPort s n).vault = s.vault := by
  unfold State.containPort
  dsimp only
  (repeat' split) <;> simp [vault_foldl]

@[simp] theorem State.queueUe_vault (s : State) (n : Nat) :
    (State.queueUe s n).vault = s.vault := by simp [State.queueUe]

theorem State.modeRefuse_vault (s : State) (f : Frame) :
    ∀ out, (State.modeRefuse s f) = some out → out.vault = s.vault := by
  intro out ht
  unfold State.modeRefuse at ht
  dsimp only at ht
  (repeat' split at ht) <;> cases ht <;> simp [vault_foldl]

@[simp] theorem State.fabricPass_vault (s : State) (f : Frame) (fid : Nat) (dest : Nat) :
    (State.fabricPass s f fid dest).vault = s.vault := by
  unfold State.fabricPass
  (repeat' (first | (simp [vault_foldl, vault_foldl_fst, vault_foldl_snd, *]; done) | split | (refine vault_snd (by assumption) ?_) | (refine vault_fst (by assumption) ?_) | (have h := State.modeRefuse_vault _ _ _ ‹_›; simpa using h) | simp [vault_foldl, vault_foldl_fst, vault_foldl_snd, *]))

theorem execOtpProgram_vault (word : Nat) (s : State) :
    ∀ out, (execOtpProgram word s) = .next out → out.vault = s.vault := by
  intro out ht
  cases ht
  simp

theorem execRemapReceive_vault (link : Nat) (position : Nat) (s : State) :
    ∀ out, (execRemapReceive link position s) = .next out → out.vault = s.vault := by
  intro out ht
  cases ht
  simp

@[simp] theorem State.fenceStart_vault (s : State) (o : CoreOp) :
    (State.fenceStart s o).vault = s.vault := by simp [State.fenceStart]

@[simp] theorem State.barrierEnds_vault (s : State) (b : Barrier) :
    (State.barrierEnds s b).vault = s.vault := by
  unfold State.barrierEnds
  (repeat' split) <;> simp

@[simp] theorem State.barrierSettle_vault (s : State) (who : Nat) :
    (State.barrierSettle s who).vault = s.vault := by
  unfold State.barrierSettle
  (repeat' split) <;> simp

@[simp] theorem State.barrierWhole_vault (s : State) (who : Nat) :
    (State.barrierWhole s who).vault = s.vault := by simp [State.barrierWhole]

@[simp] theorem State.fenceOp_vault (s : State) (o : CoreOp) (pred : Nat) :
    (State.fenceOp s o pred).vault = s.vault := by simp [State.fenceOp]

@[simp] theorem State.retireLoad_vault (s : State) (o : CoreOp) :
    (State.retireLoad s o).vault = s.vault := by
  unfold State.retireLoad
  (repeat' split) <;> simp

@[simp] theorem State.mpuFault_vault (s : State) (a : Nat) (c : Nat × Nat × Nat) :
    (State.mpuFault s a c).vault = s.vault := by simp [State.mpuFault]

theorem State.coreFault_vault (s : State) (o : CoreOp) :
    ∀ out, (State.coreFault s o) = some out → out.vault = s.vault := by
  intro out ht
  unfold State.coreFault at ht
  dsimp only at ht
  (repeat' split at ht) <;> cases ht <;> simp [vault_foldl]

@[simp] theorem State.storeIn_vault (s : State) (o : CoreOp) :
    (State.storeIn s o).vault = s.vault := by simp [State.storeIn]

@[simp] theorem State.barrierJoin_vault (s : State) (o : LbOp) :
    (State.barrierJoin s o).vault = s.vault := by simp [State.barrierJoin]

@[simp] theorem State.lbDeadFails_vault (s : State) (o : LbOp) :
    (State.lbDeadFails s o).vault = s.vault := by simp [State.lbDeadFails]

@[simp] theorem State.lbTimeout_vault (s : State) (o : LbOp) :
    (State.lbTimeout s o).vault = s.vault := by
  unfold State.lbTimeout
  dsimp only
  (repeat' split) <;> simp [vault_foldl]

@[simp] theorem State.lbAccept_vault (s : State) (o : LbOp) :
    (State.lbAccept s o).vault = s.vault := by
  unfold State.lbAccept
  dsimp only
  (repeat' split) <;> simp [vault_foldl]

@[simp] theorem State.culPumpN_vault (x0 : Nat) (x1 : State) :
    (State.culPumpN x0 x1).vault = x1.vault := by
  induction x0 generalizing x1 with
  | zero => rfl
  | succ n ih => unfold State.culPumpN; (repeat' (first | (simp [vault_foldl, vault_foldl_fst, vault_foldl_snd, *]; done) | split | (refine vault_snd (by assumption) ?_) | (refine vault_fst (by assumption) ?_) | simp [vault_foldl, vault_foldl_fst, vault_foldl_snd, *]))

@[simp] theorem State.culPump_vault (s : State) :
    (State.culPump s).vault = s.vault := by simp [State.culPump]

@[simp] theorem State.lbEnter_vault (s : State) (o : LbOp) :
    (State.lbEnter s o).vault = s.vault := by simp [State.lbEnter]

@[simp] theorem State.issueOp_vault (s : State) (o : CoreOp) :
    (State.issueOp s o).vault = s.vault := by simp [State.issueOp]

@[simp] theorem State.readHost_vault (s : State) (part : Nat) (addr : Nat) (len : Nat) (why : CoreWhy) :
    (State.readHost s part addr len why).1.vault = s.vault := by
  unfold State.readHost
  (repeat' split) <;> simp

@[simp] theorem State.sent_vault (r : State × Sent) (f : Frame) : (State.sent r f).vault = r.1.vault := by
  unfold State.sent
  (repeat' split) <;> simp

@[simp] theorem State.unicast_vault (s : State) (f : Frame) (win : Option Win) (fid p : Nat) (addr : W64) : (State.unicast s f win fid p addr).vault = s.vault := by
  unfold State.unicast
  split
  · simp
  · split <;> simp

@[simp] theorem State.serveCulvert_vault (s : State) (f : Frame) (cs : Nat) (addr : Nat) :
    (State.serveCulvert s f cs addr).vault = s.vault := by simp [State.serveCulvert]

@[simp] theorem State.multicast_vault (s : State) (f : Frame) (k : Nat) (fwd : Nat) :
    (State.multicast s f k fwd).vault = s.vault := by
  unfold State.multicast
  (repeat' split) <;> simp

@[simp] theorem State.retireTag_vault (s : State) (id : Nat) :
    (State.retireTag s id).vault = s.vault := by simp [State.retireTag]

@[simp] theorem State.fetchedOne_vault (s : State) (i : Nat) (q : Nat) (n : Nat) (raw : BitVec 512) (status : Nat) :
    (State.fetchedOne s i q n raw status).vault = s.vault := by simp [State.fetchedOne]

@[simp] theorem State.modSource_vault (s : State) (i : Nat) (q : Nat) (n : Nat) (f : DescRun → DescRun) :
    (State.modSource s i q n f).vault = s.vault := by simp [State.modSource]

@[simp] theorem State.modFence_vault (s : State) (i : Nat) (q : Nat) (why : ReadFor) (f : Fence → Fence) :
    (State.modFence s i q why f).vault = s.vault := by
  unfold State.modFence
  (repeat' split) <;> simp

@[simp] theorem State.takeCompletion_vault (s : State) (x : EngTag) (c : Tlp) (poison : Bool) :
    (State.takeCompletion s x c poison).vault = s.vault := by
  unfold State.takeCompletion
  (repeat' split) <;> simp

@[simp] theorem State.countError_vault (s : State) (n : Nat) :
    (State.countError s n).vault = s.vault := by simp [State.countError]

theorem execEngineCompletion_vault (engine : Nat) (rb : Bool) (s : State) :
    ∀ out, (execEngineCompletion engine rb s) = .next out → out.vault = s.vault := by
  intro out ht
  unfold execEngineCompletion at ht
  dsimp only at ht
  (repeat' split at ht) <;> cases ht <;> simp [vault_foldl]

@[simp] theorem State.remoteGone_vault (s : State) (fn : Nat) :
    (State.remoteGone s fn).vault = s.vault := by simp [State.remoteGone]

@[simp] theorem State.checkRemotes_vault (s : State) :
    (State.checkRemotes s).vault = s.vault := by
  unfold State.checkRemotes
  (repeat' (first | (simp [vault_foldl, vault_foldl_fst, vault_foldl_snd, *]; done) | split | (refine vault_snd (by assumption) ?_) | (refine vault_fst (by assumption) ?_) | (refine (vault_foldl _ _ _ (fun s x => ?_)).trans ?_) | (refine (vault_foldl_fst _ _ _ (fun s x => ?_)).trans ?_) | (refine (vault_foldl_snd _ _ _ (fun s x => ?_)).trans ?_) | simp [vault_foldl, vault_foldl_fst, vault_foldl_snd, *]))

@[simp] theorem State.setUseAlt_vault (s : State) (d : Nat) (b : Bool) :
    (State.setUseAlt s d b).vault = s.vault := by simp [State.setUseAlt]

@[simp] theorem State.routeFid_vault (s : State) (d : Nat) :
    (State.routeFid s d).vault = s.vault := by simp [State.routeFid]

@[simp] theorem State.routeLink_vault (s : State) (f : Nat) :
    (State.routeLink s f).vault = s.vault := by simp [State.routeLink]

@[simp] theorem State.routeFollow_vault (s : State) :
    (State.routeFollow s).vault = s.vault := by
  unfold State.routeFollow
  dsimp only
  (repeat' split) <;> simp [vault_foldl]

@[simp] theorem State.routeGov_vault (s : State) :
    (State.routeGov s).vault = s.vault := by
  unfold State.routeGov
  (repeat' (first | (simp [vault_foldl]; done) | split))

theorem execPtmRequest_vault (port : Nat) (s : State) :
    ∀ out, (execPtmRequest port s) = .next out → out.vault = s.vault := by
  intro out ht
  unfold execPtmRequest at ht
  dsimp only at ht
  (repeat' split at ht) <;> cases ht <;> simp [vault_foldl]

@[simp] theorem State.ledgerPost_vault (s : State) (ring : Nat) (addr : Nat) (data : List Byte) (why : Purpose) :
    (State.ledgerPost s ring addr data why).vault = s.vault := by simp [State.ledgerPost]

theorem execLedgerWriteback_vault (ring : Nat) (s : State) :
    ∀ out, (execLedgerWriteback ring s) = .next out → out.vault = s.vault := by
  intro out ht
  unfold execLedgerWriteback at ht
  dsimp only at ht
  (repeat' split at ht) <;> cases ht <;> simp [vault_foldl]

@[simp] theorem State.debugDeny_vault (s : State) (kind : Nat) (addr : Nat) :
    (State.debugDeny s kind addr).vault = s.vault := by simp [State.debugDeny]

@[simp] theorem State.dpcAct_vault (s : State) :
    (State.dpcAct s).vault = s.vault := by
  unfold State.dpcAct
  dsimp only
  (repeat' split) <;> simp [vault_foldl]

@[simp] theorem State.pairFails_vault (s : State) (p : Nat) :
    (State.pairFails s p).vault = s.vault := by simp [State.pairFails]

@[simp] theorem State.pairStartFails_vault (s : State) (p : Nat) :
    (State.pairStartFails s p).vault = s.vault := by simp [State.pairStartFails]

theorem execLivePoolWrite_vault (cells : Nat) (s : State) :
    ∀ out, (execLivePoolWrite cells s) = .next out → out.vault = s.vault := by
  intro out ht
  cases ht
  simp

@[simp] theorem State.portUp_vault (s : State) (n : Nat) :
    (State.portUp s n).vault = s.vault := by simp [State.portUp]

theorem execChangeTimeout_vault (link : Nat) (s : State) :
    ∀ out, (execChangeTimeout link s) = .next out → out.vault = s.vault := by
  intro out ht
  cases ht
  simp

theorem execAuthTimeout_vault (link : Nat) (s : State) :
    ∀ out, (execAuthTimeout link s) = .next out → out.vault = s.vault := by
  intro out ht
  cases ht
  simp

theorem execDoorbell_vault (inst : Nat) (ring : Nat) (prod : W32) (s : State) :
    ∀ out, (execDoorbell inst ring prod s) = .next out → out.vault = s.vault := by
  intro out ht
  cases ht
  simp

theorem execErrorInject_vault (type : Nat) (port : Nat) (count : Nat) (s : State) :
    ∀ out, (execErrorInject type port count s) = .next out → out.vault = s.vault := by
  intro out ht
  cases ht
  simp

@[simp] theorem State.debugGives_vault (s : State) (bs : List Byte) : (s.debugGives bs).vault = s.vault := by
  unfold State.debugGives
  split <;> simp

@[simp] theorem State.answerRead_vault (r : Requester) (x : W32 × State) : (State.answerRead r x).vault = x.2.vault := by
  unfold State.answerRead
  split <;> simp

theorem execCounterLowRead_vault (r : Requester) (read : CounterRead) (s : State) :
    ∀ out, (execCounterLowRead r read s) = .next out → out.vault = s.vault := by
  intro out ht
  cases ht
  simp

@[simp] theorem State.storesExpire_vault (s : State) :
    (State.storesExpire s).vault = s.vault := by
  unfold State.storesExpire
  (repeat' split) <;> simp

@[simp] theorem State.missFrames_vault (s : State) :
    (State.missFrames s).vault = s.vault := by
  unfold State.missFrames
  (repeat' (first | (simp [vault_foldl, vault_foldl_fst, vault_foldl_snd, *]; done) | split | (refine vault_snd (by assumption) ?_) | (refine vault_fst (by assumption) ?_) | (refine (vault_foldl _ _ _ (fun s x => ?_)).trans ?_) | (refine (vault_foldl_fst _ _ _ (fun s x => ?_)).trans ?_) | (refine (vault_foldl_snd _ _ _ (fun s x => ?_)).trans ?_) | simp [vault_foldl, vault_foldl_fst, vault_foldl_snd, *]))

theorem execFrameSyncMissing_vault (s : State) :
    ∀ out, (execFrameSyncMissing s) = .next out → out.vault = s.vault := by
  intro out ht
  unfold execFrameSyncMissing at ht
  dsimp only at ht
  (repeat' split at ht) <;> cases ht <;> simp [vault_foldl]

@[simp] theorem State.prefetchExpire_vault (s : State) :
    (State.prefetchExpire s).vault = s.vault := by simp [State.prefetchExpire]

theorem execPrefetchExpire_vault (s : State) :
    ∀ out, (execPrefetchExpire s) = .next out → out.vault = s.vault := by
  intro out ht
  cases ht
  simp

theorem execBarrierDone_vault (r : Requester) (s : State) :
    ∀ out, (execBarrierDone r s) = .next out → out.vault = s.vault := by
  intro out ht
  cases ht
  simp

theorem execSlotOn_vault (slot : Nat) (s : State) :
    ∀ out, (execSlotOn slot s) = .next out → out.vault = s.vault := by
  intro out ht
  cases ht
  simp

@[simp] theorem State.sendNak_vault (s : State) (f : Nat) :
    (State.sendNak s f).vault = s.vault := by simp [State.sendNak]

@[simp] theorem State.sendAck_vault (s : State) (f : Nat) :
    (State.sendAck s f).vault = s.vault := by simp [State.sendAck]

@[simp] theorem State.rxPacket_vault (s : State) (f : Nat) (seq : Nat) (bad : Bool) (null : Bool) :
    (State.rxPacket s f seq bad null).1.vault = s.vault := by
  unfold State.rxPacket
  dsimp only
  (repeat' split) <;> simp [vault_foldl]

@[simp] theorem State.rxVc4_vault (s : State) (f : Nat) :
    (State.rxVc4 s f).vault = s.vault := by simp [State.rxVc4]

@[simp] theorem State.authUp_vault (s : State) (f : Nat) :
    (State.authUp s f).vault = s.vault := by simp [State.authUp]

@[simp] theorem State.tryUp_vault (s : State) (f : Nat) :
    (State.tryUp s f).vault = s.vault := by simp [State.tryUp]

theorem execAuthResumeReceive_vault (link : Nat) (value : List Byte) (s : State) :
    ∀ out, (execAuthResumeReceive link value s) = .next out → out.vault = s.vault := by
  intro out ht
  unfold execAuthResumeReceive at ht
  dsimp only at ht
  (repeat' split at ht) <;> cases ht <;> simp [vault_foldl]

theorem execModeReqPartitioned_vault (s : State) :
    ∀ out, (execModeReqPartitioned s) = .next out → out.vault = s.vault := by
  intro out ht
  cases ht
  simp

@[simp] theorem State.popRun_vault (s : State) (i : Nat) (q : Nat) (n : Nat) :
    (State.popRun s i q n).vault = s.vault := by simp [State.popRun]

@[simp] theorem State.sendPending_vault (s : State) (i v : Nat) : (State.sendPending s i v).vault = s.vault := by
  unfold State.sendPending
  dsimp only
  split
  · rfl
  · split
    · rfl
    · have h := State.engineSend_vault _ _ _ _ _ _ _ ‹_›
      simpa using h

@[simp] theorem State.pendVector_vault (s : State) (i : Nat) (q : Nat) (v : Nat) :
    (State.pendVector s i q v).vault = s.vault := by simp [State.pendVector]

@[simp] theorem State.fireVector_vault (s : State) (i : Nat) (q : Nat) (v : Nat) :
    (State.fireVector s i q v).vault = s.vault := by simp [State.fireVector]

@[simp] theorem State.finishGood_vault (s : State) (i : Nat) (q : Nat) (st : Nat) (d : DescRun) :
    (State.finishGood s i q st d).vault = s.vault := by simp [State.finishGood]

@[simp] theorem State.lbFinish_vault (s : State) (o : LbOp) :
    (State.lbFinish s o).vault = s.vault := by simp [State.lbFinish]

theorem execDrainComplete_vault (s : State) :
    ∀ out, (execDrainComplete s) = .next out → out.vault = s.vault := by
  intro out ht
  unfold execDrainComplete at ht
  (repeat' split at ht) <;> cases ht <;> simp

theorem execIsolateExit_vault (s : State) :
    ∀ out, (execIsolateExit s) = .next out → out.vault = s.vault := by
  intro out ht
  cases ht
  simp

@[simp] theorem State.lbAsk_vault (s : State) :
    (State.lbAsk s).vault = s.vault := by simp [State.lbAsk]

theorem execLbCycleEnd_vault (data : List Byte) (s : State) :
    ∀ out, (execLbCycleEnd data s) = .next out → out.vault = s.vault := by
  intro out ht
  unfold execLbCycleEnd at ht
  (repeat' split at ht) <;> cases ht <;> simp

theorem execUpdateLate_vault (s : State) :
    ∀ out, (execUpdateLate s) = .next out → out.vault = s.vault := by
  intro out ht
  unfold execUpdateLate at ht
  (repeat' split at ht) <;> cases ht <;> simp

@[simp] theorem State.hostPost_vault (s : State) (p : Nat) (addr : Nat) (data : List Byte) (why : Purpose) :
    (State.hostPost s p addr data why).vault = s.vault := by simp [State.hostPost]

@[simp] theorem State.hostWrite_vault (s : State) (p : Nat) (addr : Nat) (data : List Byte) :
    (State.hostWrite s p addr data).vault = s.vault := by simp [State.hostWrite]

@[simp] theorem State.hostWriteAll_vault (s : State) (p : Nat) (addr : Nat) (bs : List Byte) :
    (State.hostWriteAll s p addr bs).vault = s.vault := by
  unfold State.hostWriteAll
  (repeat' (first | (simp [vault_foldl, vault_foldl_fst, vault_foldl_snd, *]; done) | split | (refine vault_snd (by assumption) ?_) | (refine vault_fst (by assumption) ?_) | (refine (vault_foldl _ _ _ (fun s x => ?_)).trans ?_) | (refine (vault_foldl_fst _ _ _ (fun s x => ?_)).trans ?_) | (refine (vault_foldl_snd _ _ _ (fun s x => ?_)).trans ?_) | simp [vault_foldl, vault_foldl_fst, vault_foldl_snd, *]))

theorem execTrainTimeout_vault (link : Nat) (s : State) :
    ∀ out, (execTrainTimeout link s) = .next out → out.vault = s.vault := by
  intro out ht
  unfold execTrainTimeout at ht
  dsimp only at ht
  (repeat' split at ht) <;> cases ht <;> simp [vault_foldl]

theorem execRouteGovTick_vault (s : State) :
    ∀ out, (execRouteGovTick s) = .next out → out.vault = s.vault := by
  intro out ht
  cases ht
  simp

@[simp] theorem State.limpRoutes_vault (s : State) (f : Fn) :
    (State.limpRoutes s f).vault = s.vault := by
  unfold State.limpRoutes
  dsimp only
  (repeat' split) <;> simp [vault_foldl]

@[simp] theorem State.dropTail_vault (s : State) (f : Frame) :
    (State.dropTail s f).1.vault = s.vault := by
  unfold State.dropTail
  dsimp only
  (repeat' split) <;> simp [vault_foldl]

theorem execMflRetrain_vault (link : Nat) (s : State) :
    ∀ out, (execMflRetrain link s) = .next out → out.vault = s.vault := by
  intro out ht
  cases ht
  simp

@[simp] theorem State.relayGone_vault (s : State) (n : Nat) :
    (State.relayGone s n).vault = s.vault := by
  unfold State.relayGone
  dsimp only
  (repeat' split) <;> simp [vault_foldl]

@[simp] theorem State.relayPort_vault (s : State) (n : Nat) :
    (State.relayPort s n).vault = s.vault := by
  unfold State.relayPort
  dsimp only
  (repeat' split) <;> simp [vault_foldl]

@[simp] theorem State.relays_vault (s : State) :
    (State.relays s).vault = s.vault := by
  unfold State.relays
  (repeat' (first | (simp [vault_foldl]; done) | split))

theorem execFreeze_vault (inst : Nat) (s : State) :
    ∀ out, (execFreeze inst s) = .next out → out.vault = s.vault := by
  intro out ht
  cases ht
  simp

@[simp] theorem State.unwait_vault (s : State) (w : Waiting) :
    (State.unwait s w).vault = s.vault := by simp [State.unwait]

@[simp] theorem State.resumeOwn_vault (s : State) (f : Frame) (c : Copy) (pooled : Bool) :
    (State.resumeOwn s f c pooled).vault = s.vault := by
  unfold State.resumeOwn
  (repeat' split) <;> simp

theorem State.reserveFor_vault (s : State) (f : Frame) :
    ∀ out, (State.reserveFor s f) = some out → out.2.vault = s.vault := by
  intro out ht
  unfold State.reserveFor at ht
  (repeat' split at ht) <;> cases ht <;> simp

theorem State.finish_vault (s : State) :
    ∀ out, (State.finish s) = .next out → out.vault = s.vault := by
  intro out ht
  unfold State.finish at ht
  (repeat' split at ht) <;> cases ht <;> simp

@[simp] theorem State.shadowUe_vault (s : State) (part : Nat) (f : Fn) (serve : State → State) (hserve : ∀ s, (serve s).vault = s.vault) :
    (State.shadowUe s part f serve).vault = s.vault := by
  unfold State.shadowUe
  (repeat' (first | (simp [vault_foldl, vault_foldl_fst, vault_foldl_snd, *, hserve]; done) | split | (refine vault_snd (by assumption) ?_) | (refine vault_fst (by assumption) ?_) | simp [vault_foldl, vault_foldl_fst, vault_foldl_snd, *, hserve]))

@[simp] theorem State.tellBus_vault (s : State) (part : Nat) (fid : Nat) (port : Nat) :
    (State.tellBus s part fid port).vault = s.vault := by
  unfold State.tellBus
  (repeat' split) <;> simp

@[simp] theorem State.dpcSoftware_vault (s : State) (n : Nat) :
    (State.dpcSoftware s n).vault = s.vault := by simp [State.dpcSoftware]

@[simp] theorem State.downEffect_vault (s : State) (n : Nat) (off : Nat) (old : Nat) (v : Nat) (be : Nat) :
    (State.downEffect s n off old v be).vault = s.vault := by
  unfold State.downEffect
  (repeat' split) <;> simp

@[simp] theorem State.stopIsBme_vault (s : State) (i : Nat) :
    (State.stopIsBme s i).vault = s.vault := by
  unfold State.stopIsBme
  dsimp only
  (repeat' split) <;> simp [vault_foldl]

@[simp] theorem State.haltRing_vault (s : State) (i : Nat) (q : Nat) (n : Nat) (status : Nat) :
    (State.haltRing s i q n status).vault = s.vault := by simp [State.haltRing]

@[simp] theorem State.stopBme_vault (s : State) (i : Nat) : (State.stopBme s i).vault = s.vault := by
  unfold State.stopBme
  dsimp only
  rw [State.modEngTags_vault]
  refine (vault_foldl _ _ _ fun s q => ?_).trans ?_
  · split <;> simp
  · split <;> simp

@[simp] theorem State.instEffect_vault (s : State) (i : Nat) (off : Nat) (old : Nat) (v : Nat) (be : Nat) :
    (State.instEffect s i off old v be).vault = s.vault := by
  unfold State.instEffect
  (repeat' split) <;> simp

@[simp] theorem State.fnEffect_vault (s : State) (f : Fn) (off : Nat) (old : Nat) (v : Nat) (be : Nat) :
    (State.fnEffect s f off old v be).vault = s.vault := by
  unfold State.fnEffect
  dsimp only
  (repeat' split) <;> simp [vault_foldl]

@[simp] theorem State.cfgStore_vault (s : State) (f : Fn) (off : Nat) (v : Nat) (be : Nat) :
    (State.cfgStore s f off v be).vault = s.vault := by simp [State.cfgStore]

@[simp] theorem State.mbxPlace_vault (s : State) (part : Nat) (f : Fn) (off : Nat) (be : Nat) (data : Nat) (old : Nat) (held : Bool) :
    (State.mbxPlace s part f off be data old held).vault = s.vault := by
  unfold State.mbxPlace
  (repeat' split) <;> simp

@[simp] theorem State.cfgWrite_vault (s : State) (fr : Frame) (part : Nat) (f : Fn) :
    (State.cfgWrite s fr part f).vault = s.vault := by
  unfold State.cfgWrite
  (repeat' split) <;> simp

@[simp] theorem State.serveCfg_vault (s : State) (fr : Frame) (part : Nat) (f : Fn) :
    (State.serveCfg s fr part f).vault = s.vault := by simp [State.serveCfg]

@[simp] theorem State.cfgArrive_vault (s : State) (f : Frame) (ue : Bool) :
    (State.cfgArrive s f ue).vault = s.vault := by
  unfold State.cfgArrive
  dsimp only
  (repeat' split) <;> simp [vault_foldl]

@[simp] theorem State.errorMessage_vault (s : State) (f : Frame) (on : State → State) (hon : ∀ s, (on s).vault = s.vault) :
    (State.errorMessage s f on).vault = s.vault := by
  unfold State.errorMessage
  (repeat' (first | (simp [vault_foldl, hon]; done) | split | refine vault_snd ‹_› ?_))

@[simp] theorem State.broadcast_vault (s : State) (f : Frame) :
    (State.broadcast s f).vault = s.vault := by simp [State.broadcast]

@[simp] theorem State.routeMessage_vault (s : State) (f : Frame) : (State.routeMessage s f).vault = s.vault := by
  unfold State.routeMessage
  dsimp only
  generalize hs : s.capture f f.tlp false _ _ none = s'
  have hv : s'.vault = s.vault := by simp [← hs]
  rw [← hv]
  clear hs hv
  have up (s : State) : (match s.homeOf (f.part.getD 0) with
    | some (fid, p) => s.unicast f none fid p f.tlp.addr
    | none => s.refuse f).vault = s.vault := by split <;> simp
  split
  · split
    · simp
    · split
      · exact State.errorMessage_vault _ _ _ up
      · exact up _
  · split
    · simp
    · split
      · simp
      · split
        · simp
        · split
          · exact up _
          · split
            · split <;> simp
            · simp
  · split <;> simp
  · rfl
  · rfl
  · simp

@[simp] theorem State.badBlock_vault (s : State) (f : Nat) (l : Nat) :
    (State.badBlock s f l).vault = s.vault := by simp [State.badBlock]

@[simp] theorem State.badReceived_vault (s : State) (f : Nat) (lane : Nat) (open' : Bool) :
    (State.badReceived s f lane open').vault = s.vault := by simp [State.badReceived]

end Sys2Proof.Machine
end

