-- ==== Sys2Proof/Laws/Frame4.lean ====
section
/-! SUPPORT. Frame lemmas, part 4: operations that leave the queue, SRAM, flash and OTP alone. -/

namespace Sys2Proof.Machine

set_option linter.all false

@[simp] theorem State.remapSeen_vault (s : State) (f : Nat) (lane : Nat) (row : Nat) :
    (State.remapSeen s f lane row).vault = s.vault := by
  unfold State.remapSeen
  (repeat' split) <;> simp

@[simp] theorem State.alignBlock_vault (s : State) (f : Nat) (lane : Nat) (d : Nat) (open' : Bool) :
    (State.alignBlock s f lane d open').vault = s.vault := by simp [State.alignBlock]

@[simp] theorem State.ackGot_vault (s : State) (f : Nat) (seq : Nat) (mask : Nat) :
    (State.ackGot s f seq mask).vault = s.vault := by simp [State.ackGot]

@[simp] theorem State.tsyncReq_vault (s : State) (f : Nat) (exchange : Nat) :
    (State.tsyncReq s f exchange).vault = s.vault := by simp [State.tsyncReq]

@[simp] theorem State.tsyncRsp_vault (s : State) (f : Nat) (exchange : Nat) (t2 : Nat) :
    (State.tsyncRsp s f exchange t2).vault = s.vault := by simp [State.tsyncRsp]

@[simp] theorem State.tsyncFup_vault (s : State) (f : Nat) (exchange : Nat) (t3 : Nat) :
    (State.tsyncFup s f exchange t3).vault = s.vault := by
  unfold State.tsyncFup
  dsimp only
  (repeat' split) <;> simp [vault_foldl]

@[simp] theorem State.ctlBlock_vault (s : State) (f : Nat) (lane : Nat) (d : Nat) (open' : Bool) :
    (State.ctlBlock s f lane d open').vault = s.vault := by simp [State.ctlBlock]

@[simp] theorem State.takeBlock_vault (s : State) (f : Nat) (lane : Nat) (b : BitVec 69) (open' : Bool) :
    (State.takeBlock s f lane b open').vault = s.vault := by simp [State.takeBlock]

@[simp] theorem State.tagged_vault (s : State) (f : Frame) (c : Copy) :
    (State.tagged s f c).vault = s.vault := by simp [State.tagged]

@[simp] theorem State.letOn_vault (s : State) (ws : List Waiting) :
    (State.letOn s ws).vault = s.vault := by
  unfold State.letOn
  (repeat' (first | (simp [vault_foldl, vault_foldl_fst, vault_foldl_snd, *]; done) | split | (refine vault_snd (by assumption) ?_) | (refine vault_fst (by assumption) ?_) | (refine (vault_foldl _ _ _ (fun s x => ?_)).trans ?_) | (refine (vault_foldl_fst _ _ _ (fun s x => ?_)).trans ?_) | (refine (vault_foldl_snd _ _ _ (fun s x => ?_)).trans ?_) | simp [vault_foldl, vault_foldl_fst, vault_foldl_snd, *]))

theorem execProxyTagGranted_vault (port : Nat) (s : State) :
    ∀ out, (execProxyTagGranted port s) = .next out → out.vault = s.vault := by
  intro out ht
  unfold execProxyTagGranted at ht
  try dsimp only at ht
  (repeat' split at ht) <;> (first | cases ht | (injection ht with ht; subst ht) | obtain rfl := finish_next ht) <;> (repeat' (first | (simp [vault_foldl, vault_foldl_fst, vault_foldl_snd, *]; done) | split | (refine vault_snd (by assumption) ?_) | (refine vault_fst (by assumption) ?_) | (have h := State.freeTag_vault _ _ _ _ ‹_›; simpa using h) | simp [vault_foldl, vault_foldl_fst, vault_foldl_snd, *]))

@[simp] theorem State.linkFrame_vault (s : State) (n : Nat) (t : Tlp) (whole : Bool) :
    (State.linkFrame s n t whole).2.vault = s.vault := by simp [State.linkFrame]

@[simp] theorem State.noteBad_vault (s : State) (table : Nat) (index : Nat) (c0 : Bool) (c1 : Bool) :
    (State.noteBad s table index c0 c1).vault = s.vault := by simp [State.noteBad]

@[simp] theorem State.tableCe_vault (s : State) (table : Nat) (index : Nat) (copy : Nat) :
    (State.tableCe s table index copy).vault = s.vault := by simp [State.tableCe]

@[simp] theorem State.meetEntry_vault (s : State) (x : Option (Nat × Nat × Bool × Bool)) :
    (State.meetEntry s x).vault = s.vault := by
  unfold State.meetEntry
  (repeat' split) <;> simp

@[simp] theorem State.cplLatency_vault (s : State) (left : Option (Nat × Nat)) (live : Bool) :
    (State.cplLatency s left live).vault = s.vault := by
  unfold State.cplLatency
  (repeat' split) <;> simp

@[simp] theorem State.sendCpl_vault (s : State) (f : Frame) (id : Nat) (egress : Nat) (fid : Nat) (dest : Nat) (reqId : BitVec 16) (tag : BitVec 14) :
    (State.sendCpl s f id egress fid dest reqId tag).vault = s.vault := by
  unfold State.sendCpl
  (repeat' split) <;> simp

@[simp] theorem State.cplByRecord_vault (s : State) (f : Frame) (r : TagRec) :
    (State.cplByRecord s f r).vault = s.vault := by
  unfold State.cplByRecord
  (repeat' split) <;> simp

@[simp] theorem State.dropStale_vault (s : State) (r : TagRec) :
    (State.dropStale s r).vault = s.vault := by simp [State.dropStale]

@[simp] theorem State.goWay_vault (s : State) (f : Frame) (x2 : CplWay) :
    (State.goWay s f x2).vault = s.vault := by
  unfold State.goWay
  (repeat' split) <;> simp

@[simp] theorem State.routeCpl_vault (s : State) (f : Frame) (ue : Bool) :
    (State.routeCpl s f ue).vault = s.vault := by
  unfold State.routeCpl
  dsimp only
  (repeat' split) <;> simp [vault_foldl]

@[simp] theorem State.idleSlots_vault (s : State) (n : Nat) :
    (State.idleSlots s n).vault = s.vault := by simp [State.idleSlots]

@[simp] theorem State.portCycle_vault (s : State) (n : Nat) :
    (State.portCycle s n).vault = s.vault := by simp [State.portCycle]

@[simp] theorem State.portCycles_vault (s : State) :
    (State.portCycles s).vault = s.vault := by
  unfold State.portCycles
  (repeat' (first | (simp [vault_foldl]; done) | split))

@[simp] theorem State.ageCopy_vault (s : State) (c : Copy) :
    (State.ageCopy s c).vault = s.vault := by simp [State.ageCopy]

@[simp] theorem State.ageOut_vault (ok : Copy → Bool) (x1 : Nat) (x2 : State) :
    (State.ageOut ok x1 x2).vault = x2.vault := by
  induction x1 generalizing ok x2 with
  | zero => rfl
  | succ n ih => unfold State.ageOut; (repeat' (first | (simp [vault_foldl, vault_foldl_fst, vault_foldl_snd, *]; done) | split | (refine vault_snd (by assumption) ?_) | (refine vault_fst (by assumption) ?_) | simp [vault_foldl, vault_foldl_fst, vault_foldl_snd, *]))

@[simp] theorem State.ageHeads_vault (s : State) :
    (State.ageHeads s).vault = s.vault := by simp [State.ageHeads]

@[simp] theorem State.bankRead_vault (wants : List (Nat × Nat)) (s : State) (b : Nat) :
    (State.bankRead wants s b).vault = s.vault := by
  unfold State.bankRead
  (repeat' split) <;> simp

@[simp] theorem State.bankReads_vault (s : State) :
    (State.bankReads s).vault = s.vault := by
  unfold State.bankReads
  dsimp only
  (repeat' split) <;> simp [vault_foldl]

@[simp] theorem State.modFrame_vault (s : State) (id : Nat) (f : Frame → Frame) :
    (State.modFrame s id f).vault = s.vault := by simp [State.modFrame]

@[simp] theorem State.tails_vault (s : State) :
    (State.tails s).vault = s.vault := by
  unfold State.tails
  (repeat' (first | (simp [vault_foldl]; done) | split))

@[simp] theorem State.spvTick_vault (s : State) :
    (State.spvTick s).vault = s.vault := by
  unfold State.spvTick
  (repeat' (first | (simp [vault_foldl]; done) | split))

@[simp] theorem State.supervise_vault (s : State) :
    (State.supervise s).vault = s.vault := by simp [State.supervise]

@[simp] theorem State.advanceTime_vault (s : State) :
    (State.advanceTime s).vault = s.vault := by simp [State.advanceTime]

@[simp] theorem State.firstCycle_vault (s : State) :
    (State.firstCycle s).vault = s.vault := by
  unfold State.firstCycle
  (repeat' (first | (simp [vault_foldl]; done) | split))

@[simp] theorem State.linkRows_vault (s : State) (f : Nat) :
    (State.linkRows s f).vault = s.vault := by simp [State.linkRows]

@[simp] theorem State.rows_vault (s : State) :
    (State.rows s).vault = s.vault := by
  unfold State.rows
  (repeat' (first | (simp [vault_foldl]; done) | split))

@[simp] theorem State.checkBar4_vault (s : State) :
    (State.checkBar4 s).vault = s.vault := by
  unfold State.checkBar4
  dsimp only
  (repeat' split) <;> simp [vault_foldl]

@[simp] theorem State.failoverRecord_vault (s : State) :
    (State.failoverRecord s).vault = s.vault := by
  unfold State.failoverRecord
  (repeat' split) <;> simp

@[simp] theorem State.act_vault (s : State) (a : Action) :
    (State.act s a).vault = s.vault := by
  unfold State.act
  (repeat' split) <;> simp

@[simp] theorem State.actDeferred_vault (s : State) :
    (State.actDeferred s).vault = s.vault := by
  unfold State.actDeferred
  dsimp only
  (repeat' split) <;> simp [vault_foldl]

@[simp] theorem State.actDue_vault (s : State) :
    (State.actDue s).vault = s.vault := by simp [State.actDue]

@[simp] theorem State.debugAnswer_vault (s : State) :
    (State.debugAnswer s).vault = s.vault := by simp [State.debugAnswer]

@[simp] theorem State.writeHost_vault (s : State) (part : Nat) (addr : Nat) (bs : List Byte) :
    (State.writeHost s part addr bs).vault = s.vault := by simp [State.writeHost]

@[simp] theorem State.noteStore_vault (s : State) (id : Nat) :
    (State.noteStore s id).vault = s.vault := by simp [State.noteStore]

@[simp] theorem State.storeHost_vault (s : State) (part : Nat) (addr : Nat) (bs : List Byte) :
    (State.storeHost s part addr bs).vault = s.vault := by simp [State.storeHost]

@[simp] theorem State.engineAer_vault (s : State) (i : Nat) :
    (State.engineAer s i).vault = s.vault := by simp [State.engineAer]

@[simp] theorem State.ctoRead_vault (s : State) (x : EngTag) :
    (State.ctoRead s x).vault = s.vault := by
  unfold State.ctoRead
  (repeat' split) <;> simp

theorem execEngCtoRecovExpiry_vault (id : Nat) (s : State) :
    ∀ out, (execEngCtoRecovExpiry id s) = .next out → out.vault = s.vault := by
  intro out ht
  unfold execEngCtoRecovExpiry at ht
  dsimp only at ht
  (repeat' split at ht) <;> cases ht <;> simp [vault_foldl]

theorem execFaultTimerExpiry_vault (slot : Nat) (ch : Nat) (s : State) :
    ∀ out, (execFaultTimerExpiry slot ch s) = .next out → out.vault = s.vault := by
  intro out ht
  cases ht
  simp

@[simp] theorem State.showTemps_vault (s : State) (ts : List Nat) :
    (State.showTemps s ts).vault = s.vault := by
  unfold State.showTemps
  dsimp only
  (repeat' split) <;> simp [vault_foldl]

theorem execSlotRemoval_vault (slot : Nat) (s : State) :
    ∀ out, (execSlotRemoval slot s) = .next out → out.vault = s.vault := by
  intro out ht
  cases ht
  simp

theorem execIsolateExitDone_vault (s : State) :
    ∀ out, (execIsolateExitDone s) = .next out → out.vault = s.vault := by
  intro out ht
  unfold execIsolateExitDone at ht
  (repeat' split at ht) <;> cases ht <;> simp

@[simp] theorem State.recordCopy_vault (s : State) (code : Nat) (level : Nat) (f : Frame) (c : Copy) (got : Nat) (extra : Nat) :
    (State.recordCopy s code level f c got extra).vault = s.vault := by simp [State.recordCopy]

@[simp] theorem State.bridgeAer_vault (s : State) (f : Frame) (c : Copy) :
    (State.bridgeAer s f c).vault = s.vault := by simp [State.bridgeAer]

@[simp] theorem State.lateFault_vault (s : State) (f : Frame) (c : Copy) (code : Nat) (got : Nat) (cell : Nat) :
    (State.lateFault s f c code got cell).vault = s.vault := by simp [State.lateFault]

@[simp] theorem State.secondaryReset_vault (s : State) (n : Nat) :
    (State.secondaryReset s n).vault = s.vault := by simp [State.secondaryReset]

theorem execSecondaryBusReset_vault (port : Nat) (s : State) :
    ∀ out, (execSecondaryBusReset port s) = .next out → out.vault = s.vault := by
  intro out ht
  cases ht
  simp

theorem execHeadgateClose_vault (inst : Nat) (s : State) :
    ∀ out, (execHeadgateClose inst s) = .next out → out.vault = s.vault := by
  intro out ht
  cases ht
  simp

theorem execCulWarmResetDone_vault (s : State) :
    ∀ out, (execCulWarmResetDone s) = .next out → out.vault = s.vault := by
  intro out ht
  unfold execCulWarmResetDone at ht
  dsimp only at ht
  (repeat' split at ht) <;> cases ht <;> simp [vault_foldl]

@[simp] theorem State.authList_vault (s : State) (f : Nat) (k : Nat) (v : W256) :
    (State.authList s f k v).vault = s.vault := by simp [State.authList]

theorem execAuthListEdit_vault (link : Nat) (index : Nat) (value : W256) (s : State) :
    ∀ out, (execAuthListEdit link index value s) = .next out → out.vault = s.vault := by
  intro out ht
  cases ht
  simp

@[simp] theorem State.verifyImage_vault (s : State) (p : Policy) (type : Nat) (img : List Byte × List Byte × List Byte) :
    (State.verifyImage s p type img).2.vault = s.vault := by
  unfold State.verifyImage
  dsimp only
  (repeat' split) <;> simp [vault_foldl]

@[simp] theorem State.tokenCheck_vault (s : State) (len : Nat) (p : Policy) :
    (State.tokenCheck s len p).2.1.vault = s.vault := by simp [State.tokenCheck]

theorem execFaultTimerStop_vault (slot : Nat) (ch : Nat) (s : State) :
    ∀ out, (execFaultTimerStop slot ch s) = .next out → out.vault = s.vault := by
  intro out ht
  cases ht
  simp

@[simp] theorem State.bmeClear_vault (s : State) (i : Nat) :
    (State.bmeClear s i).vault = s.vault := by simp [State.bmeClear]

theorem execBmeClear_vault (inst : Nat) (s : State) :
    ∀ out, (execBmeClear inst s) = .next out → out.vault = s.vault := by
  intro out ht
  cases ht
  simp

@[simp] theorem State.dropRestoreReads_vault (s : State) (i : Nat) :
    (State.dropRestoreReads s i).vault = s.vault := by simp [State.dropRestoreReads]

@[simp] theorem State.restoreRing_vault (s : State) (i : Nat) (q : Nat) (bs : List Byte) :
    (State.restoreRing s i q bs).vault = s.vault := by
  unfold State.restoreRing
  dsimp only
  (repeat' split) <;> simp [vault_foldl]

@[simp] theorem State.restoreCfg_vault (s : State) (i : Nat) (bs : List Byte) :
    (State.restoreCfg s i bs).vault = s.vault := by
  unfold State.restoreCfg
  dsimp only
  (repeat' split) <;> simp [vault_foldl]

theorem execRestoreDone_vault (inst : Nat) (s : State) :
    ∀ out, (execRestoreDone inst s) = .next out → out.vault = s.vault := by
  intro out ht
  unfold execRestoreDone at ht
  dsimp only at ht
  (repeat' split at ht) <;> cases ht <;> simp [vault_foldl]

theorem execLbBusRelease_vault (s : State) :
    ∀ out, (execLbBusRelease s) = .next out → out.vault = s.vault := by
  intro out ht
  cases ht
  simp

theorem execGateRiseTimeout_vault (slot : Nat) (ch : Nat) (s : State) :
    ∀ out, (execGateRiseTimeout slot ch s) = .next out → out.vault = s.vault := by
  intro out ht
  cases ht
  simp

theorem State.settle_vault (s : State) (f : Nat) : ∀ out, State.settle s f = some out → out.vault = s.vault := by
  intro out ht
  unfold State.settle at ht
  dsimp only at ht
  (repeat' split at ht) <;> first | (cases ht; done) | skip
  rw [Option.map_eq_some_iff] at ht
  obtain ⟨x, _, rfl⟩ := ht
  simp

@[simp] theorem State.trained_vault (s : State) (f : Nat) :
    (State.trained s f).vault = s.vault := by
  unfold State.trained
  (repeat' (first | (simp [vault_foldl, vault_foldl_fst, vault_foldl_snd, *]; done) | split | (refine vault_snd (by assumption) ?_) | (refine vault_fst (by assumption) ?_) | (have h := State.settle_vault _ _ _ ‹_›; simpa using h) | simp [vault_foldl, vault_foldl_fst, vault_foldl_snd, *]))

@[simp] theorem State.strapLayout_vault (s : State) :
    (State.strapLayout s).vault = s.vault := by
  unfold State.strapLayout
  dsimp only
  (repeat' split) <;> simp [vault_foldl]

theorem execMcmModeWrite_vault (session : Nat) (value : W32) (s : State) :
    ∀ out, (execMcmModeWrite session value s) = .next out → out.vault = s.vault := by
  intro out ht
  cases ht
  simp

theorem execSqHeadWrite_vault (head : Nat) (s : State) :
    ∀ out, (execSqHeadWrite head s) = .next out → out.vault = s.vault := by
  intro out ht
  cases ht
  simp

theorem execRetrainDone_vault (link : Nat) (s : State) :
    ∀ out, (execRetrainDone link s) = .next out → out.vault = s.vault := by
  intro out ht
  unfold execRetrainDone at ht
  try dsimp only at ht
  (repeat' split at ht) <;> (first | cases ht | (injection ht with ht; subst ht) | obtain rfl := finish_next ht) <;> (repeat' (first | (simp [vault_foldl, vault_foldl_fst, vault_foldl_snd, *]; done) | split | (refine vault_snd (by assumption) ?_) | (refine vault_fst (by assumption) ?_) | (have h := State.settle_vault _ _ _ ‹_›; simpa using h) | simp [vault_foldl, vault_foldl_fst, vault_foldl_snd, *]))

theorem execSampleNWrite_vault (session : Nat) (n : Nat) (s : State) :
    ∀ out, (execSampleNWrite session n s) = .next out → out.vault = s.vault := by
  intro out ht
  cases ht
  simp

theorem execEyeScanStop_vault (unit' : Nat) (errors : Nat) (s : State) :
    ∀ out, (execEyeScanStop unit' errors s) = .next out → out.vault = s.vault := by
  intro out ht
  cases ht
  simp

theorem execReplayTimeout_vault (link : Nat) (s : State) :
    ∀ out, (execReplayTimeout link s) = .next out → out.vault = s.vault := by
  intro out ht
  unfold execReplayTimeout at ht
  dsimp only at ht
  (repeat' split at ht) <;> cases ht <;> simp [vault_foldl]

theorem execMachineTimer_vault (s : State) :
    ∀ out, (execMachineTimer s) = .next out → out.vault = s.vault := by
  intro out ht
  cases ht
  simp

@[simp] theorem State.settleImplicit_vault (s : State) (i : Nat) (q : Nat) :
    (State.settleImplicit s i q).vault = s.vault := by
  unfold State.settleImplicit
  (repeat' split) <;> simp

theorem execPpsInEdge_vault (s : State) :
    ∀ out, (execPpsInEdge s) = .next out → out.vault = s.vault := by
  intro out ht
  cases ht
  simp

@[simp] theorem State.enterD3hot_vault (s : State) (i : Nat) :
    (State.enterD3hot s i).vault = s.vault := by simp [State.enterD3hot]

@[simp] theorem State.capture344_vault (s : State) (rail : Nat) :
    (State.capture344 s rail).vault = s.vault := by simp [State.capture344]

@[simp] theorem State.octetGov_vault (s : State) (k : Nat) (seen : List Nat) : (State.octetGov s k seen).vault = s.vault := by
  unfold State.octetGov
  dsimp only
  refine vault_if _ _ _ (by simp) ((vault_foldl _ _ _ fun s l => ?_).trans (by simp))
  (repeat' split) <;> simp

theorem execPgLost_vault (slot : Nat) (ch : Nat) (s : State) :
    ∀ out, (execPgLost slot ch s) = .next out → out.vault = s.vault := by
  intro out ht
  cases ht
  simp

@[simp] theorem State.hcmdStatus_vault (s : State) (p : Nat) (status : Nat) (vec : Nat) (irq : Bool) :
    (State.hcmdStatus s p status vec irq).vault = s.vault := by simp [State.hcmdStatus]

theorem execGetFwInfo_vault (part : Nat) (vec : Nat) (irq : Bool) (s : State) :
    ∀ out, (execGetFwInfo part vec irq s) = .next out → out.vault = s.vault := by
  intro out ht
  cases ht
  simp

@[simp] theorem State.fabricCpl_vault (s : State) (f : Frame) (fid : Nat) (dest : Nat) :
    (State.fabricCpl s f fid dest).vault = s.vault := by simp [State.fabricCpl]

@[simp] theorem State.fabricIn_vault (s : State) (l : Nat) (t : Tlp) (fid dest srcFid : Nat) (mcast live bank : Bool) (gate : Nat) : (State.fabricIn s l t fid dest srcFid mcast live bank gate).vault = s.vault := by
  unfold State.fabricIn
  dsimp only
  generalize Prod.fst (State.stampLive _ _) = g
  (repeat' split) <;> first | (simp; done) | (have h := State.reserveFor_vault _ _ _ ‹_›; simpa using h)

theorem State.receivePacket_vault (s : State) (l : Nat) (slots : List LineSlot) (bad : Bool) (tlp : Option Tlp) :
    ∀ out, (State.receivePacket s l slots bad tlp) = .next out → out.vault = s.vault := by
  intro out ht
  unfold State.receivePacket at ht
  dsimp only at ht
  (repeat' split at ht) <;> (first | cases ht | (injection ht with ht; subst ht) | obtain rfl := finish_next ht) <;> simp [vault_foldl]

theorem execMoabenPacketReceive_vault (link seq vc fid dest srcFid length gate : Nat) (flags : HeadFlags) (fur : W32)
    (slots : List LineSlot) (bad : Bool) (tlp : Option Tlp) (s : State) :
    ∀ out, execMoabenPacketReceive link seq vc fid dest srcFid length gate flags fur slots bad tlp s = .next out →
      out.vault = s.vault := by
  intro out h
  unfold execMoabenPacketReceive at h
  exact State.receivePacket_vault _ _ _ _ _ _ h

@[simp] theorem State.changeGo_vault (s : State) (f : Nat) :
    (State.changeGo s f).vault = s.vault := by
  unfold State.changeGo
  (repeat' split) <;> simp

@[simp] theorem State.align_vault (s : State) (f : Nat) (aligns : List (Nat × Nat)) :
    (State.align s f aligns).vault = s.vault := by simp [State.align]

theorem execCulRevive_vault (mask : Nat) (s : State) :
    ∀ out, (execCulRevive mask s) = .next out → out.vault = s.vault := by
  intro out ht
  cases ht
  simp

@[simp] theorem State.showOtp_vault (s : State) :
    (State.showOtp s).vault = s.vault := by simp [State.showOtp]

@[simp] theorem State.otpFields_vault (s : State) :
    (State.otpFields s).vault = s.vault := by simp [State.otpFields]

theorem execTsyncRequestSend_vault (link : Nat) (s : State) :
    ∀ out, (execTsyncRequestSend link s) = .next out → out.vault = s.vault := by
  intro out ht
  unfold execTsyncRequestSend at ht
  dsimp only at ht
  (repeat' split at ht) <;> cases ht <;> simp [vault_foldl]


@[simp] theorem State.setAside_vault (s : State) (i : Nat) (q : Nat) :
    (State.setAside s i q).vault = s.vault := by simp [State.setAside]

@[simp] theorem State.finishHalt_vault (s : State) (i : Nat) (q : Nat) (st : Nat) (d : DescRun) :
    (State.finishHalt s i q st d).vault = s.vault := by simp [State.finishHalt]

@[simp] theorem State.finishWith_vault (s : State) (i q st : Nat) (d : DescRun) : (State.finishWith s i q st d).vault = s.vault := by
  unfold State.finishWith
  generalize hw : (if decide (0x10 ≤ st) then !noRecord st && s.mayIssue i else dCmpl d.raw) = c
  dsimp only
  rw [hw]
  generalize decide (0x10 ≤ st) = b
  split
  · split <;> simp
  · split
    · rfl
    · split
      · rfl
      all_goals (have h := State.engineSend_vault _ _ _ _ _ _ _ ‹_›)
      · split <;> simpa using h
      · simpa using h

theorem execDescriptorFinish_vault (inst : Nat) (ring : Nat) (s : State) :
    ∀ out, (execDescriptorFinish inst ring s) = .next out → out.vault = s.vault := by
  intro out ht
  unfold execDescriptorFinish at ht
  dsimp only at ht
  (repeat' split at ht) <;> cases ht <;> simp [vault_foldl]

theorem execTbHoldover_vault (s : State) :
    ∀ out, (execTbHoldover s) = .next out → out.vault = s.vault := by
  intro out ht
  cases ht
  simp

theorem execCulWarmReset_vault (s : State) :
    ∀ out, (execCulWarmReset s) = .next out → out.vault = s.vault := by
  intro out ht
  cases ht
  simp

@[simp] theorem State.relayIn_vault (s : State) (part : Nat) (port : Nat) (off : Nat) (v : W32) :
    (State.relayIn s part port off v).vault = s.vault := by simp [State.relayIn]

theorem execSpareMap_vault (link : Nat) (position : Nat) (s : State) :
    ∀ out, (execSpareMap link position s) = .next out → out.vault = s.vault := by
  intro out ht
  cases ht
  simp

theorem execBadBlockReceive_vault (link : Nat) (lane : Nat) (block : LineBlock) (s : State) :
    ∀ out, (execBadBlockReceive link lane block s) = .next out → out.vault = s.vault := by
  intro out ht
  cases ht
  simp

theorem execCounterHighRead_vault (r : Requester) (addr : Nat) (s : State) : ∀ out, execCounterHighRead r addr s = .next out → out.vault = s.vault := by
  intro out ht
  injection ht with ht
  subst ht
  split
  · simp
  · rfl

theorem execSamplerCapture_vault (sampler : Nat) (moved : Bool) (other : Nat) (s : State) : ∀ out, execSamplerCapture sampler moved other s = .next out → out.vault = s.vault := by
  intro out ht
  unfold execSamplerCapture at ht
  dsimp only at ht
  split at ht
  · cases ht; rfl
  · injection ht with ht
    subst ht
    rw [State.raise_vault, State.modSampler_vault, State.fset_vault, State.setTbl_vault]

theorem execRetrainTimeout_vault (link : Nat) (s : State) :
    ∀ out, (execRetrainTimeout link s) = .next out → out.vault = s.vault := by
  intro out ht
  cases ht
  simp

theorem execEqRedo_vault (octet : Nat) (sub : Nat) (s : State) :
    ∀ out, (execEqRedo octet sub s) = .next out → out.vault = s.vault := by
  intro out ht
  cases ht
  simp

theorem execAgeDiscard_vault (port : Nat) (queue : Nat) (s : State) :
    ∀ out, (execAgeDiscard port queue s) = .next out → out.vault = s.vault := by
  intro out ht
  unfold execAgeDiscard at ht
  (repeat' split at ht) <;> cases ht <;> simp

@[simp] theorem State.alert_vault (s : State) :
    (State.alert s).vault = s.vault := by simp [State.alert]

theorem execSupplyOvervoltage_vault (rails : Nat) (s : State) :
    ∀ out, (execSupplyOvervoltage rails s) = .next out → out.vault = s.vault := by
  intro out ht
  unfold execSupplyOvervoltage at ht
  dsimp only at ht
  (repeat' split at ht) <;> cases ht <;> simp [vault_foldl]

theorem execLatchClear_vault (mask : W32) (s : State) :
    ∀ out, (execLatchClear mask s) = .next out → out.vault = s.vault := by
  intro out ht
  cases ht
  simp

theorem execForwardedClockDetect_vault (link : Nat) (s : State) :
    ∀ out, (execForwardedClockDetect link s) = .next out → out.vault = s.vault := by
  intro out ht
  unfold execForwardedClockDetect at ht
  dsimp only at ht
  (repeat' split at ht) <;> cases ht <;> simp [vault_foldl]

theorem execDebugUnlock_vault (len : Nat) (s : State) :
    ∀ out, (execDebugUnlock len s) = .next out → out.vault = s.vault := by
  intro out ht
  cases ht
  simp

theorem execSaveXferTimeout_vault (inst : Nat) (s : State) :
    ∀ out, (execSaveXferTimeout inst s) = .next out → out.vault = s.vault := by
  intro out ht
  unfold execSaveXferTimeout at ht
  dsimp only at ht
  (repeat' split at ht) <;> cases ht <;> simp [vault_foldl]

@[simp] theorem State.noteLeft_vault (s : State) (f : Frame) (n : Nat) :
    (State.noteLeft s f n).vault = s.vault := by
  unfold State.noteLeft
  (repeat' split) <;> simp

theorem execModeReqFabric_vault (s : State) :
    ∀ out, (execModeReqFabric s) = .next out → out.vault = s.vault := by
  intro out ht
  cases ht
  simp

@[simp] theorem State.mirrorWin_vault (s : State) (part : Nat) (a : Nat) (data : List Byte) :
    (State.mirrorWin s part a data).1.vault = s.vault := by
  unfold State.mirrorWin
  dsimp only
  (repeat' split) <;> simp [vault_foldl]

@[simp] theorem State.mirrorPieces_vault (s : State) (part : Nat) (a : Nat) (ds : List (List Byte)) : (s.mirrorPieces part a ds).1.vault = s.vault := by
  induction ds generalizing s a with
  | nil => rfl
  | cons d ds ih =>
    have h := State.mirrorWin_vault s part a d
    unfold State.mirrorPieces
    split
    · rename_i t e
      rw [e] at h; exact h
    · rename_i t w fid p e
      rw [e] at h
      have h' := ih t (a + d.length)
      split <;> (rename_i e'; rw [e'] at h'; exact h'.trans h)

theorem execThaw_vault (inst : Nat) (s : State) :
    ∀ out, (execThaw inst s) = .next out → out.vault = s.vault := by
  intro out ht
  cases ht
  simp

@[simp] theorem State.pcieUp_vault (s : State) (n : Nat) (rate : Nat) (width : Nat) (flit : Bool) :
    (State.pcieUp s n rate width flit).vault = s.vault := by simp [State.pcieUp]

theorem execPortLinkUp_vault (port : Nat) (rate : Nat) (width : Nat) (flit : Bool) (s : State) :
    ∀ out, (execPortLinkUp port rate width flit s) = .next out → out.vault = s.vault := by
  intro out ht
  unfold execPortLinkUp at ht
  dsimp only at ht
  (repeat' split at ht) <;> cases ht <;> simp [vault_foldl]

theorem execImageVerify_vault (type : Nat) (s : State) :
    ∀ out, (execImageVerify type s) = .next out → out.vault = s.vault := by
  intro out ht
  cases ht
  simp

theorem execRetryWindowEnd_vault (slot : Nat) (s : State) :
    ∀ out, (execRetryWindowEnd slot s) = .next out → out.vault = s.vault := by
  intro out ht
  cases ht
  simp

theorem execAckReceive_vault (link : Nat) (seq : Nat) (mask : Nat) (s : State) :
    ∀ out, (execAckReceive link seq mask s) = .next out → out.vault = s.vault := by
  intro out ht
  cases ht
  simp

theorem execSpvSample_vault (slot : Nat) (ch : Nat) (sense : Nat) (vout : Nat) (volts : ChannelVolts) (s : State) :
    ∀ out, (execSpvSample slot ch sense vout volts s) = .next out → out.vault = s.vault := by
  intro out ht
  cases ht
  simp

theorem execMeasurementExtend_vault (index : Nat) (s : State) :
    ∀ out, (execMeasurementExtend index s) = .next out → out.vault = s.vault := by
  intro out ht
  cases ht
  simp

end Sys2Proof.Machine
end

