-- ==== Sys2Proof/Laws/Frame5.lean ====
section
/-! SUPPORT. Frame lemmas, part 5: operations that leave the queue, SRAM, flash and OTP alone. -/

namespace Sys2Proof.Machine

set_option linter.all false

@[simp] theorem State.askReport_vault (s : State) (a : Asker) (nonce : List Byte) :
    (State.askReport s a nonce).1.vault = s.vault := by
  unfold State.askReport
  (repeat' split) <;> simp

theorem execLifecycleAdvance_vault (target : Nat) (s : State) :
    ∀ out, (execLifecycleAdvance target s) = .next out → out.vault = s.vault := by
  intro out ht
  cases ht
  simp

theorem execPrbsLockLost_vault (unit' : Nat) (lane : Nat) (errors : Nat) (units : Nat) (s : State) :
    ∀ out, (execPrbsLockLost unit' lane errors units s) = .next out → out.vault = s.vault := by
  intro out ht
  unfold execPrbsLockLost at ht
  dsimp only at ht
  (repeat' split at ht) <;> cases ht <;> simp [vault_foldl]

theorem execDestroyDone_vault (inst : Nat) (s : State) :
    ∀ out, (execDestroyDone inst s) = .next out → out.vault = s.vault := by
  intro out ht
  unfold execDestroyDone at ht
  dsimp only at ht
  (repeat' split at ht) <;> cases ht <;> simp [vault_foldl]

theorem execModeReqStandalone_vault (s : State) :
    ∀ out, (execModeReqStandalone s) = .next out → out.vault = s.vault := by
  intro out ht
  cases ht
  simp

@[simp] theorem State.readEntry_vault (s : State) (table : Nat) (index : Nat) (c0 : Bool) (c1 : Bool) :
    (State.readEntry s table index c0 c1).vault = s.vault := by
  unfold State.readEntry
  dsimp only
  (repeat' split) <;> simp [vault_foldl]

theorem execSweepDone_vault (s : State) :
    ∀ out, (execSweepDone s) = .next out → out.vault = s.vault := by
  intro out ht
  unfold execSweepDone at ht
  (repeat' split at ht) <;> cases ht <;> simp

theorem execDrainTimeout_vault (s : State) :
    ∀ out, (execDrainTimeout s) = .next out → out.vault = s.vault := by
  intro out ht
  unfold execDrainTimeout at ht
  dsimp only at ht
  (repeat' split at ht) <;> cases ht <;> simp [vault_foldl]

theorem execInstanceIdle_vault (inst : Nat) (s : State) :
    ∀ out, (execInstanceIdle inst s) = .next out → out.vault = s.vault := by
  intro out ht
  unfold execInstanceIdle at ht
  dsimp only at ht
  (repeat' split at ht) <;> cases ht <;> simp [vault_foldl]

theorem execSlotInsertion_vault (slot : Nat) (s : State) :
    ∀ out, (execSlotInsertion slot s) = .next out → out.vault = s.vault := by
  intro out ht
  cases ht
  simp

theorem execMapCommit_vault (index : Nat) (bankB : Bool) (s : State) :
    ∀ out, (execMapCommit index bankB s) = .next out → out.vault = s.vault := by
  intro out ht
  cases ht
  simp

theorem execLaneUnlock_vault (link : Nat) (lane : Nat) (blocks : List (BitVec 69)) (s : State) :
    ∀ out, (execLaneUnlock link lane blocks s) = .next out → out.vault = s.vault := by
  intro out ht
  injection ht with ht
  subst ht
  simp [vault_foldl]

theorem execPowerControllerOn_vault (port : Nat) (s : State) :
    ∀ out, (execPowerControllerOn port s) = .next out → out.vault = s.vault := by
  intro out ht
  cases ht
  simp

@[simp] theorem State.surpriseDown_vault (s : State) (n : Nat) :
    (State.surpriseDown s n).vault = s.vault := by simp [State.surpriseDown]

@[simp] theorem State.newTag_vault (s : State) (e : Nat) (i : Nat) (q : Nat) (why : ReadFor) (addr : W64) (len : Nat) (ahead : Bool) :
    (State.newTag s e i q why addr len ahead).2.vault = s.vault := by simp [State.newTag]

theorem State.engineRead_vault (s : State) (e i q tc : Nat) (addr : W64) (len : Nat) (why : ReadFor) (want : Want) (ahead : Bool) :
    ∀ out, State.engineRead s e i q tc addr len why want ahead = some out → out.1.vault = s.vault := by
  intro out ht
  unfold State.engineRead at ht
  split at ht
  · cases ht
  · dsimp only at ht
    obtain ⟨r, hr, e'⟩ := Option.map_eq_some_iff.mp ht
    subst e'
    have h := State.engineSend_vault _ _ _ _ _ _ _ hr
    dsimp only
    split <;> simpa using h

theorem execDescriptorFetch_vault (inst : Nat) (ring : Nat) (s : State) :
    ∀ out, (execDescriptorFetch inst ring s) = .next out → out.vault = s.vault := by
  intro out ht
  unfold execDescriptorFetch at ht
  try dsimp only at ht
  (repeat' split at ht) <;> (first | cases ht | (injection ht with ht; subst ht) | obtain rfl := finish_next ht) <;> (repeat' (first | (simp [vault_foldl, vault_foldl_fst, vault_foldl_snd, *]; done) | split | (refine vault_snd (by assumption) ?_) | (refine vault_fst (by assumption) ?_) | (have h := State.engineRead_vault _ _ _ _ _ _ _ _ _ _ _ ‹_›; simpa using h) | simp [vault_foldl, vault_foldl_fst, vault_foldl_snd, *]))

theorem execSweepNpTimeout_vault (s : State) :
    ∀ out, (execSweepNpTimeout s) = .next out → out.vault = s.vault := by
  intro out ht
  unfold execSweepNpTimeout at ht
  dsimp only at ht
  (repeat' split at ht) <;> (first | cases ht | (injection ht with ht; subst ht) | obtain rfl := finish_next ht) <;> simp [vault_foldl]

theorem execRestoreXferTimeout_vault (inst : Nat) (s : State) :
    ∀ out, (execRestoreXferTimeout inst s) = .next out → out.vault = s.vault := by
  intro out ht
  unfold execRestoreXferTimeout at ht
  dsimp only at ht
  (repeat' split at ht) <;> cases ht <;> simp [vault_foldl]

theorem execLocalAccess_vault (r : Requester) (cs : Nat) (addr : Nat) (len : Nat) (write : Bool) (data : List Byte) (s : State) :
    ∀ out, (execLocalAccess r cs addr len write data s) = .next out → out.vault = s.vault := by
  intro out ht
  unfold execLocalAccess at ht
  dsimp only at ht
  (repeat' split at ht) <;> (first | cases ht | (injection ht with ht; subst ht) | obtain rfl := finish_next ht) <;> simp [vault_foldl]

@[simp] theorem State.rateStep_vault (s : State) (c : Nat) (k : Nat) (t : Nat) (action : Nat) :
    (State.rateStep s c k t action).vault = s.vault := by
  unfold State.rateStep
  dsimp only
  (repeat' split) <;> simp [vault_foldl]

@[simp] theorem State.thermCluster_vault (s : State) (c : Nat) :
    (State.thermCluster s c).vault = s.vault := by
  unfold State.thermCluster
  (repeat' (first | (simp [vault_foldl, vault_foldl_fst, vault_foldl_snd, *]; done) | split | (refine vault_snd (by assumption) ?_) | (refine vault_fst (by assumption) ?_) | simp [vault_foldl, vault_foldl_fst, vault_foldl_snd, *]))

theorem execCommitFire_vault (group : Nat) (slot : Nat) (s : State) :
    ∀ out, (execCommitFire group slot s) = .next out → out.vault = s.vault := by
  intro out ht
  unfold execCommitFire at ht
  (repeat' split at ht) <;> cases ht <;> simp

theorem execLoopSet_vault (unit' : Nat) (value : W32) (s : State) :
    ∀ out, (execLoopSet unit' value s) = .next out → out.vault = s.vault := by
  intro out ht
  cases ht
  simp

theorem execMflLinkDisable_vault (link : Nat) (s : State) :
    ∀ out, (execMflLinkDisable link s) = .next out → out.vault = s.vault := by
  intro out ht
  cases ht
  simp

@[simp] theorem State.countCe_vault (s : State) (physical : Nat) :
    (State.countCe s physical).vault = s.vault := by simp [State.countCe]

theorem execSamplerNWrite_vault (sampler : Nat) (n : Nat) (s : State) :
    ∀ out, (execSamplerNWrite sampler n s) = .next out → out.vault = s.vault := by
  intro out ht
  cases ht
  simp

@[simp] theorem State.leaveReset_vault (s : State) :
    (State.leaveReset s).vault = s.vault := by
  unfold State.leaveReset
  (repeat' (first | (simp [vault_foldl, vault_foldl_fst, vault_foldl_snd, *]; done) | split | (refine vault_snd (by assumption) ?_) | (refine vault_fst (by assumption) ?_) | simp [vault_foldl, vault_foldl_fst, vault_foldl_snd, *]))

theorem execCriticalCool_vault (s : State) :
    ∀ out, (execCriticalCool s) = .next out → out.vault = s.vault := by
  intro out ht
  unfold execCriticalCool at ht
  dsimp only at ht
  (repeat' split at ht) <;> (first | cases ht | (injection ht with ht; subst ht) | obtain rfl := finish_next ht) <;> simp [vault_foldl]

theorem execResetRelease_vault (mode : Nat) (smb : Nat) (portcfg : Nat) (s : State) :
    ∀ out, (execResetRelease mode smb portcfg s) = .next out → out.vault = s.vault := by
  intro out ht
  unfold execResetRelease at ht
  dsimp only at ht
  (repeat' split at ht) <;> (first | cases ht | (injection ht with ht; subst ht) | obtain rfl := finish_next ht) <;> simp [vault_foldl]

@[simp] theorem State.portCorrected_vault (s : State) (port : Nat) (b : Nat) :
    (State.portCorrected s port b).vault = s.vault := by simp [State.portCorrected]

@[simp] theorem State.tailCheck_vault (s : State) (f : Frame) (cause : Nat) :
    (State.tailCheck s f cause).vault = s.vault := by simp [State.tailCheck]

@[simp] theorem State.tested_vault (s : State) (items : Nat) :
    (State.tested s items).vault = s.vault := by
  unfold State.tested
  (repeat' (first | (simp [vault_foldl, vault_foldl_fst, vault_foldl_snd, *]; done) | split | (refine vault_snd (by assumption) ?_) | (refine vault_fst (by assumption) ?_) | simp [vault_foldl, vault_foldl_fst, vault_foldl_snd, *]))

@[simp] theorem State.mgtLost_vault (s : State) :
    (State.mgtLost s).vault = s.vault := by
  unfold State.mgtLost
  (repeat' (first | (simp [vault_foldl, vault_foldl_fst, vault_foldl_snd, *]; done) | split | (refine vault_snd (by assumption) ?_) | (refine vault_fst (by assumption) ?_) | simp [vault_foldl, vault_foldl_fst, vault_foldl_snd, *]))

@[simp] theorem State.bankFails_vault (s : State) (j : Nat) :
    (State.bankFails s j).vault = s.vault := by
  unfold State.bankFails
  dsimp only
  (repeat' split) <;> simp [vault_foldl]

theorem execEarlySelftestDone_vault (items : Nat) (pairs : Nat) (banks : Nat) (s : State) :
    ∀ out, (execEarlySelftestDone items pairs banks s) = .next out → out.vault = s.vault := by
  intro out ht
  unfold execEarlySelftestDone at ht
  dsimp only at ht
  (repeat' split at ht) <;> cases ht <;> simp [vault_foldl]

theorem execTsyncFupReceive_vault (link : Nat) (exchange : Nat) (t2 : Nat) (t3 : Nat) (s : State) :
    ∀ out, (execTsyncFupReceive link exchange t2 t3 s) = .next out → out.vault = s.vault := by
  intro out ht
  cases ht
  simp

theorem execEchoReceive_vault (link : Nat) (times : EchoTimes) (s : State) :
    ∀ out, (execEchoReceive link times s) = .next out → out.vault = s.vault := by
  intro out ht
  unfold execEchoReceive at ht
  dsimp only at ht
  (repeat' split at ht) <;> cases ht <;> simp [vault_foldl]

@[simp] theorem State.govN_vault (s : State) (k : Nat) (n : Nat) (c : Nat) (action : Nat) :
    (State.govN s k n c action).vault = s.vault := by simp [State.govN]

theorem execFetShort_vault (slot : Nat) (ch : Nat) (turnOn : Bool) (s : State) :
    ∀ out, (execFetShort slot ch turnOn s) = .next out → out.vault = s.vault := by
  intro out ht
  cases ht
  simp

theorem execSubsysResetDone_vault (sub : Nat) (s : State) :
    ∀ out, (execSubsysResetDone sub s) = .next out → out.vault = s.vault := by
  intro out ht
  unfold execSubsysResetDone at ht
  dsimp only at ht
  (repeat' split at ht) <;> (first | cases ht | (injection ht with ht; subst ht) | obtain rfl := finish_next ht) <;> simp [vault_foldl]

theorem execSave_vault (inst : Nat) (s : State) :
    ∀ out, (execSave inst s) = .next out → out.vault = s.vault := by
  intro out ht
  cases ht
  simp

theorem execStandbyWake_vault (slot : Nat) (present : Bool) (fault : Bool) (s : State) :
    ∀ out, (execStandbyWake slot present fault s) = .next out → out.vault = s.vault := by
  intro out ht
  unfold execStandbyWake at ht
  dsimp only at ht
  (repeat' split at ht) <;> (first | cases ht | (injection ht with ht; subst ht) | obtain rfl := finish_next ht) <;> simp [vault_foldl]

theorem execHeadgateOpen_vault (inst : Nat) (s : State) :
    ∀ out, (execHeadgateOpen inst s) = .next out → out.vault = s.vault := by
  intro out ht
  cases ht
  simp

@[simp] theorem State.storeEntry_vault (s : State) (p : PageAt) (page : Nat) (table : Nat) (index : Nat) (rw : Nat) (ro : Nat) (v : Nat) :
    (State.storeEntry s p page table index rw ro v).vault = s.vault := by
  unfold State.storeEntry
  (repeat' split) <;> simp

theorem execSaveDone_vault (inst : Nat) (s : State) :
    ∀ out, (execSaveDone inst s) = .next out → out.vault = s.vault := by
  intro out ht
  unfold execSaveDone at ht
  dsimp only at ht
  (repeat' split at ht) <;> (first | cases ht | (injection ht with ht; subst ht) | obtain rfl := finish_next ht) <;> simp [vault_foldl]

theorem execMflLinkEnable_vault (link : Nat) (s : State) :
    ∀ out, (execMflLinkEnable link s) = .next out → out.vault = s.vault := by
  intro out ht
  cases ht
  simp

@[simp] theorem State.linkSigned_vault (s : State) (f : Nat) :
    (State.linkSigned s f).vault = s.vault := by
  unfold State.linkSigned
  dsimp only
  (repeat' split) <;> simp [vault_foldl]

theorem execSignDone_vault (ctx : Nat) (s : State) :
    ∀ out, (execSignDone ctx s) = .next out → out.vault = s.vault := by
  intro out ht
  unfold execSignDone at ht
  dsimp only at ht
  (repeat' split at ht) <;> (first | cases ht | (injection ht with ht; subst ht) | obtain rfl := finish_next ht) <;> simp [vault_foldl]

theorem execEnergyRead_vault (r : Requester) (slot : Nat) (ch : Nat) (s : State) :
    ∀ out, (execEnergyRead r slot ch s) = .next out → out.vault = s.vault := by
  intro out ht
  cases ht
  simp

theorem execOtpLoaded_vault (fail : Bool) (s : State) :
    ∀ out, (execOtpLoaded fail s) = .next out → out.vault = s.vault := by
  intro out ht
  unfold execOtpLoaded at ht
  (repeat' split at ht) <;> cases ht <;> simp

theorem execModeReqIsolate_vault (s : State) :
    ∀ out, (execModeReqIsolate s) = .next out → out.vault = s.vault := by
  intro out ht
  cases ht
  simp

theorem execOriginatedTagGranted_vault (port : Nat) (s : State) :
    ∀ out, (execOriginatedTagGranted port s) = .next out → out.vault = s.vault := by
  intro out ht
  unfold execOriginatedTagGranted at ht
  try dsimp only at ht
  (repeat' split at ht) <;> (first | cases ht | (injection ht with ht; subst ht) | obtain rfl := finish_next ht) <;> (repeat' (first | (simp [vault_foldl, vault_foldl_fst, vault_foldl_snd, *]; done) | split | (refine vault_snd (by assumption) ?_) | (refine vault_fst (by assumption) ?_) | (have h := State.freeTag_vault _ _ _ _ ‹_›; simpa using h) | simp [vault_foldl, vault_foldl_fst, vault_foldl_snd, *]))

theorem execDestroy_vault (inst : Nat) (s : State) :
    ∀ out, (execDestroy inst s) = .next out → out.vault = s.vault := by
  intro out ht
  cases ht
  simp

@[simp] theorem State.setTblData_vault (s : State) (page : Nat) (v : Nat) :
    (State.setTblData s page v).vault = s.vault := by
  unfold State.setTblData
  (repeat' (first | (simp [vault_foldl]; done) | split))

@[simp] theorem State.eyeFields_vault (s : State) (u : Nat) (v : Nat) :
    (State.eyeFields s u v).vault = s.vault := by simp [State.eyeFields]

theorem execEyeScanStart_vault (unit' : Nat) (value : W32) (signal : Bool) (s : State) :
    ∀ out, (execEyeScanStart unit' value signal s) = .next out → out.vault = s.vault := by
  intro out ht
  cases ht
  simp

theorem execHotReset_vault (port : Nat) (s : State) :
    ∀ out, (execHotReset port s) = .next out → out.vault = s.vault := by
  intro out ht
  cases ht
  simp

theorem execPartialWrite_vault (r : Requester) (addr : Nat) (s : State) :
    ∀ out, (execPartialWrite r addr s) = .next out → out.vault = s.vault := by
  intro out ht
  cases ht
  simp

theorem execTbReadLatch_vault (r : Requester)  (s : State) : ∀ out, execTbReadLatch r s = .next out → out.vault = s.vault := by
  intro out ht
  injection ht with ht
  subst ht
  simp

@[simp] theorem State.clearEntry_vault (s : State) (page : Nat) (table : Nat) (index : Nat) :
    (State.clearEntry s page table index).vault = s.vault := by simp [State.clearEntry]

@[simp] theorem State.tblEnd_vault (s : State) (p : PageAt) (page : Nat) (run : TblRun) (table : Nat) (index : Nat) (bytes : Nat) (c0 : Bool) (c1 : Bool) :
    (State.tblEnd s p page run table index bytes c0 c1).1.vault = s.vault := by
  unfold State.tblEnd
  (repeat' (first | (simp [vault_foldl, vault_foldl_fst, vault_foldl_snd, *]; done) | split | (refine vault_snd (by assumption) ?_) | (refine vault_fst (by assumption) ?_) | simp [vault_foldl, vault_foldl_fst, vault_foldl_snd, *]))

@[simp] theorem State.tblDone_vault (s : State) (page : Nat) (c0 : Bool) (c1 : Bool) :
    (State.tblDone s page c0 c1).vault = s.vault := by
  unfold State.tblDone
  (repeat' (first | (simp [vault_foldl, vault_foldl_fst, vault_foldl_snd, *]; done) | split | (refine vault_snd (by assumption) ?_) | (refine vault_fst (by assumption) ?_) | simp [vault_foldl, vault_foldl_fst, vault_foldl_snd, *]))

theorem execTblOpDone_vault (page : Nat) (copy0 : Bool) (copy1 : Bool) (s : State) :
    ∀ out, (execTblOpDone page copy0 copy1 s) = .next out → out.vault = s.vault := by
  intro out ht
  unfold execTblOpDone at ht
  try dsimp only at ht
  (repeat' split at ht) <;> (first | cases ht | (injection ht with ht; subst ht) | obtain rfl := finish_next ht) <;> (repeat' (first | (simp [vault_foldl, vault_foldl_fst, vault_foldl_snd, *]; done) | split | (refine vault_snd (by assumption) ?_) | (refine vault_fst (by assumption) ?_) | (have h := State.finish_vault _ _ ‹_›; simpa using h) | simp [vault_foldl, vault_foldl_fst, vault_foldl_snd, *]))

theorem execPoolSpaceGranted_vault (s : State) : ∀ out, execPoolSpaceGranted s = .next out → out.vault = s.vault := by
  intro out ht
  unfold execPoolSpaceGranted at ht
  generalize s.poolWaiter = o at ht
  rcases o with _ | w
  · dsimp only at ht
    rw [← Host.Outcome.next.inj ht]
    exact vault_foldl _ _ _ fun s x => by simp
  · dsimp only at ht
    split at ht
    · injection ht with ht; subst ht; simp
    · injection ht with ht
      subst ht
      split
      · split <;> simp
      · simp

@[simp] theorem State.beginCopy_vault (s : State) (f : Frame) (c : Copy) (ct : Bool) (spoilt : Option Nat) :
    (State.beginCopy s f c ct spoilt).vault = s.vault := by
  unfold State.beginCopy
  (repeat' (first | (simp [vault_foldl, vault_foldl_fst, vault_foldl_snd, *]; done) | split | (refine vault_snd (by assumption) ?_) | (refine vault_fst (by assumption) ?_) | simp [vault_foldl, vault_foldl_fst, vault_foldl_snd, *]))

@[simp] theorem State.cellCe_vault (s : State) (f : Frame) (c : Copy) (cell : Nat) :
    (State.cellCe s f c cell).vault = s.vault := by
  unfold State.cellCe
  (repeat' split) <;> simp

@[simp] theorem State.discardCopy_vault (s : State) (f : Frame) (c : Copy) (code : Nat) (got : Nat) (cell : Nat) :
    (State.discardCopy s f c code got cell).vault = s.vault := by simp [State.discardCopy]

@[simp] theorem State.spoil_vault (s : State) (f : Frame) (c : Copy) (ct : Bool) (kind : Nat) (got : Nat) (cell : Nat) :
    (State.spoil s f c ct kind got cell).vault = s.vault := by simp [State.spoil]

@[simp] theorem State.startCopy_vault (s : State) (f : Frame) (c : Copy) (p : PortSt) (kind : Nat) (got : W32) (cell : Nat) :
    (State.startCopy s f c p kind got cell).vault = s.vault := by simp [State.startCopy]

theorem execCopyStart_vault (port : Nat) (credits : Nat) (kind : Nat) (got : W32) (cell : Nat) (s : State) :
    ∀ out, (execCopyStart port credits kind got cell s) = .next out → out.vault = s.vault := by
  intro out ht
  unfold execCopyStart at ht
  dsimp only at ht
  (repeat' split at ht) <;> cases ht <;> simp [vault_foldl]

@[simp] theorem State.deliver_vault (s : State) (f : Frame) (c : Copy) (t : Tlp) :
    (State.deliver s f c t).vault = s.vault := by
  unfold State.deliver
  (repeat' split) <;> simp

theorem execCopyDepart_vault (port : Nat) (refUe : Option (Nat × Nat)) (s : State) :
    ∀ out, (execCopyDepart port refUe s) = .next out → out.vault = s.vault := by
  intro out ht
  unfold execCopyDepart at ht
  dsimp only at ht
  (repeat' split at ht) <;> (first | cases ht | (injection ht with ht; subst ht) | obtain rfl := finish_next ht) <;> simp [vault_foldl]

theorem execLateError_vault (port : Nat) (cause : Nat) (got : W32) (cell : Nat) (s : State) :
    ∀ out, (execLateError port cause got cell s) = .next out → out.vault = s.vault := by
  intro out ht
  unfold execLateError at ht
  dsimp only at ht
  (repeat' split at ht) <;> cases ht <;> simp [vault_foldl]

theorem execUnderrun_vault (port : Nat) (s : State) :
    ∀ out, (execUnderrun port s) = .next out → out.vault = s.vault := by
  intro out ht
  unfold execUnderrun at ht
  (repeat' split at ht) <;> cases ht <;> simp

theorem execUnderrunResend_vault (port : Nat) (s : State) :
    ∀ out, (execUnderrunResend port s) = .next out → out.vault = s.vault := by
  intro out ht
  unfold execUnderrunResend at ht
  (repeat' split at ht) <;> cases ht <;> simp

@[simp] theorem State.weirSet_vault (s : State) (n : Nat) (new : Nat) (action : Nat) (w : Nat) :
    (State.weirSet s n new action w).vault = s.vault := by simp [State.weirSet]

@[simp] theorem State.weirStep_vault (s : State) (n : Nat) (w : Nat) :
    (State.weirStep s n w).vault = s.vault := by simp [State.weirStep]

theorem execWeirGovTick_vault (withheld : List (Nat × Nat)) (s : State) :
    ∀ out, (execWeirGovTick withheld s) = .next out → out.vault = s.vault := by
  intro out ht
  unfold execWeirGovTick at ht
  dsimp only at ht
  (repeat' split at ht) <;> (first | cases ht | (injection ht with ht; subst ht) | obtain rfl := finish_next ht) <;> simp [vault_foldl]

theorem execCplPoolWrite_vault (cells : Nat) (s : State) :
    ∀ out, (execCplPoolWrite cells s) = .next out → out.vault = s.vault := by
  intro out ht
  cases ht
  simp

theorem execLedgerWrite_vault (s : State) :
    ∀ out, (execLedgerWrite s) = .next out → out.vault = s.vault := by
  intro out ht
  unfold execLedgerWrite at ht
  dsimp only at ht
  (repeat' split at ht) <;> (first | cases ht | (injection ht with ht; subst ht) | obtain rfl := finish_next ht) <;> simp [vault_foldl]

theorem execPortLinkDown_vault (port : Nat) (s : State) :
    ∀ out, (execPortLinkDown port s) = .next out → out.vault = s.vault := by
  intro out ht
  cases ht
  simp

theorem execFlushRemove_vault (port : Nat) (s : State) :
    ∀ out, (execFlushRemove port s) = .next out → out.vault = s.vault := by
  intro out ht
  unfold execFlushRemove at ht
  (repeat' split at ht) <;> cases ht <;> simp

theorem execFlushDone_vault (port : Nat) (s : State) :
    ∀ out, (execFlushDone port s) = .next out → out.vault = s.vault := by
  intro out ht
  unfold execFlushDone at ht
  dsimp only at ht
  (repeat' split at ht) <;> cases ht <;> simp [vault_foldl]

theorem execTagRecordTimeout_vault (id : Nat) (s : State) :
    ∀ out, (execTagRecordTimeout id s) = .next out → out.vault = s.vault := by
  intro out ht
  unfold execTagRecordTimeout at ht
  (repeat' split at ht) <;> cases ht <;> simp

theorem execRetireDone_vault (s : State) :
    ∀ out, (execRetireDone s) = .next out → out.vault = s.vault := by
  intro out ht
  unfold execRetireDone at ht
  (repeat' split at ht) <;> cases ht <;> simp

theorem execMapCommitDone_vault (s : State) :
    ∀ out, (execMapCommitDone s) = .next out → out.vault = s.vault := by
  intro out ht
  cases ht
  simp

@[simp] theorem State.mirrorPost_vault (s : State) (w : Win) (fid : Nat) (p : Nat) (a : Nat) (data : List Byte) (why : Purpose) :
    (State.mirrorPost s w fid p a data why).vault = s.vault := by simp [State.mirrorPost]

theorem execMirrorSlotWrite_vault (session : Nat) (s : State) : ∀ out, execMirrorSlotWrite session s = .next out → out.vault = s.vault := by
  intro out ht
  unfold execMirrorSlotWrite at ht
  dsimp only at ht
  split at ht
  · injection ht with ht; subst ht; rfl
  · split at ht
    · injection ht with ht; subst ht; rfl
    · split at ht
      · rename_i e
        injection ht with ht
        subst ht
        rw [State.dropCapture_vault]
        refine (congrArg (fun p => State.vault p.1) e).symm.trans ?_
        rw [State.mirrorPieces_vault, State.modSession_vault]
      · rename_i e
        injection ht with ht
        subst ht
        rw [State.modSession_vault, State.bump_vault, State.fset_vault]
        refine (vault_foldl _ _ _ fun s x => by simp).trans ?_
        refine (congrArg (fun p => State.vault p.1) e).symm.trans ?_
        rw [State.mirrorPieces_vault, State.modSession_vault]

theorem execMirrorWriteback_vault (session : Nat) (s : State) : ∀ out, execMirrorWriteback session s = .next out → out.vault = s.vault := by
  intro out ht
  unfold execMirrorWriteback at ht
  dsimp only at ht
  split at ht
  · injection ht with ht; subst ht; rfl
  · split at ht
    · rename_i e
      injection ht with ht
      subst ht
      rw [State.mirrorPost_vault]
      refine (congrArg (fun p => State.vault p.1) e).symm.trans ?_
      rw [State.mirrorWin_vault, State.modSession_vault]
    · rename_i e
      injection ht with ht
      subst ht
      rw [State.dropCapture_vault]
      refine (congrArg (fun p => State.vault p.1) e).symm.trans ?_
      rw [State.mirrorWin_vault, State.modSession_vault]

theorem execAclSweep_vault (waitNp : Bool) (s : State) :
    ∀ out, (execAclSweep waitNp s) = .next out → out.vault = s.vault := by
  intro out ht
  cases ht
  simp

theorem execTbSet_vault (s : State) :
    ∀ out, (execTbSet s) = .next out → out.vault = s.vault := by
  intro out ht
  cases ht
  simp

theorem execFrameSyncLost_vault (s : State) :
    ∀ out, (execFrameSyncLost s) = .next out → out.vault = s.vault := by
  intro out ht
  unfold execFrameSyncLost at ht
  (repeat' split at ht) <;> cases ht <;> simp

theorem execArm_vault (group : Nat) (slot : Nat) (kind : Nat) (bank : Bool) (s : State) :
    ∀ out, (execArm group slot kind bank s) = .next out → out.vault = s.vault := by
  intro out ht
  cases ht
  simp

theorem execCancel_vault (group : Nat) (slot : Nat) (s : State) :
    ∀ out, (execCancel group slot s) = .next out → out.vault = s.vault := by
  intro out ht
  cases ht
  simp

theorem execSlotFired_vault (group : Nat) (slot : Nat) (s : State) :
    ∀ out, (execSlotFired group slot s) = .next out → out.vault = s.vault := by
  intro out ht
  unfold execSlotFired at ht
  dsimp only at ht
  (repeat' split at ht) <;> (first | cases ht | (injection ht with ht; subst ht) | obtain rfl := finish_next ht) <;> simp [vault_foldl]

theorem execGateForce_vault (group : Nat) (bank : Bool) (s : State) :
    ∀ out, (execGateForce group bank s) = .next out → out.vault = s.vault := by
  intro out ht
  cases ht
  simp

theorem execRingEnable_vault (inst : Nat) (ring : Nat) (s : State) :
    ∀ out, (execRingEnable inst ring s) = .next out → out.vault = s.vault := by
  intro out ht
  cases ht
  simp

theorem execRingDisable_vault (inst : Nat) (ring : Nat) (s : State) :
    ∀ out, (execRingDisable inst ring s) = .next out → out.vault = s.vault := by
  intro out ht
  cases ht
  simp

theorem execRingResume_vault (inst : Nat) (ring : Nat) (s : State) :
    ∀ out, (execRingResume inst ring s) = .next out → out.vault = s.vault := by
  intro out ht
  cases ht
  simp

theorem execContextGrant_vault (engine : Nat) (s : State) :
    ∀ out, (execContextGrant engine s) = .next out → out.vault = s.vault := by
  intro out ht
  unfold execContextGrant at ht
  dsimp only at ht
  (repeat' split at ht) <;> cases ht <;> simp [vault_foldl]

@[simp] theorem State.issueRead_vault (s : State) (e i q : Nat) (x : NextRead) : (State.issueRead s e i q x).vault = s.vault := by
  unfold State.issueRead
  dsimp only
  (repeat' split) <;> first | rfl | (have h := State.engineRead_vault _ _ _ _ _ _ _ _ _ _ _ ‹_›; simpa using h)

theorem execSourceReadIssue_vault (engine : Nat) (s : State) :
    ∀ out, (execSourceReadIssue engine s) = .next out → out.vault = s.vault := by
  intro out ht
  unfold execSourceReadIssue at ht
  dsimp only at ht
  (repeat' split at ht) <;> cases ht <;> simp [vault_foldl]

theorem execEngineWriteIssue_vault (engine : Nat) (s : State) :
    ∀ out, (execEngineWriteIssue engine s) = .next out → out.vault = s.vault := by
  intro out ht
  unfold execEngineWriteIssue at ht
  dsimp only at ht
  (repeat' split at ht) <;> cases ht <;> simp [vault_foldl]

theorem execTimedRelease_vault (inst : Nat) (ring : Nat) (s : State) :
    ∀ out, (execTimedRelease inst ring s) = .next out → out.vault = s.vault := by
  intro out ht
  unfold execTimedRelease at ht
  dsimp only at ht
  (repeat' split at ht) <;> cases ht <;> simp [vault_foldl]

@[simp] theorem State.fillRead_vault (s : State) (x : EngTag) :
    (State.fillRead s x).vault = s.vault := by
  unfold State.fillRead
  (repeat' split) <;> simp

theorem execEngCtoExpiry_vault (id : Nat) (s : State) :
    ∀ out, (execEngCtoExpiry id s) = .next out → out.vault = s.vault := by
  intro out ht
  unfold execEngCtoExpiry at ht
  (repeat' split at ht) <;> cases ht <;> simp

theorem execEngineAbort_vault (engine : Nat) (s : State) :
    ∀ out, (execEngineAbort engine s) = .next out → out.vault = s.vault := by
  intro out ht
  cases ht
  simp

theorem execEngineStopped_vault (engine : Nat) (s : State) :
    ∀ out, (execEngineStopped engine s) = .next out → out.vault = s.vault := by
  intro out ht
  unfold execEngineStopped at ht
  dsimp only at ht
  (repeat' split at ht) <;> cases ht <;> simp [vault_foldl]

theorem execEngineRestart_vault (engine : Nat) (s : State) :
    ∀ out, (execEngineRestart engine s) = .next out → out.vault = s.vault := by
  intro out ht
  cases ht
  simp

theorem execMsixPendingSend_vault (inst : Nat) (vector : Nat) (s : State) :
    ∀ out, (execMsixPendingSend inst vector s) = .next out → out.vault = s.vault := by
  intro out ht
  cases ht
  simp

theorem execFunctionLevelReset_vault (inst : Nat) (s : State) :
    ∀ out, (execFunctionLevelReset inst s) = .next out → out.vault = s.vault := by
  intro out ht
  cases ht
  simp

theorem execPowerStateD3hot_vault (inst : Nat) (s : State) :
    ∀ out, (execPowerStateD3hot inst s) = .next out → out.vault = s.vault := by
  intro out ht
  cases ht
  simp

theorem execInstNop_vault (inst : Nat) (s : State) :
    ∀ out, (execInstNop inst s) = .next out → out.vault = s.vault := by
  intro out ht
  cases ht
  simp

theorem execCreate_vault (inst : Nat) (s : State) :
    ∀ out, (execCreate inst s) = .next out → out.vault = s.vault := by
  intro out ht
  cases ht
  simp

theorem execRestore_vault (inst : Nat) (s : State) :
    ∀ out, (execRestore inst s) = .next out → out.vault = s.vault := by
  intro out ht
  cases ht
  simp

theorem execServe_vault (inst : Nat) (s : State) :
    ∀ out, (execServe inst s) = .next out → out.vault = s.vault := by
  intro out ht
  cases ht
  simp

theorem execCreateDone_vault (inst : Nat) (s : State) :
    ∀ out, (execCreateDone inst s) = .next out → out.vault = s.vault := by
  intro out ht
  unfold execCreateDone at ht
  dsimp only at ht
  (repeat' split at ht) <;> cases ht <;> simp [vault_foldl]

theorem execFreezeDone_vault (inst : Nat) (s : State) :
    ∀ out, (execFreezeDone inst s) = .next out → out.vault = s.vault := by
  intro out ht
  unfold execFreezeDone at ht
  dsimp only at ht
  (repeat' split at ht) <;> cases ht <;> simp [vault_foldl]

theorem execForceReset_vault (inst : Nat) (s : State) :
    ∀ out, (execForceReset inst s) = .next out → out.vault = s.vault := by
  intro out ht
  cases ht
  simp

theorem execResetTagTimeout_vault (id : Nat) (s : State) :
    ∀ out, (execResetTagTimeout id s) = .next out → out.vault = s.vault := by
  intro out ht
  unfold execResetTagTimeout at ht
  (repeat' split at ht) <;> cases ht <;> simp

@[simp] theorem State.resetFunction_vault (s : State) (i : Nat) :
    (State.resetFunction s i).vault = s.vault := by
  unfold State.resetFunction
  (repeat' (first | (simp [vault_foldl, vault_foldl_fst, vault_foldl_snd, *]; done) | split | (refine vault_snd (by assumption) ?_) | (refine vault_fst (by assumption) ?_) | (refine (vault_foldl _ _ _ (fun s x => ?_)).trans ?_) | (refine (vault_foldl_fst _ _ _ (fun s x => ?_)).trans ?_) | (refine (vault_foldl_snd _ _ _ (fun s x => ?_)).trans ?_) | simp [vault_foldl, vault_foldl_fst, vault_foldl_snd, *]))

theorem execInstanceResetDone_vault (inst : Nat) (s : State) :
    ∀ out, (execInstanceResetDone inst s) = .next out → out.vault = s.vault := by
  intro out ht
  unfold execInstanceResetDone at ht
  dsimp only at ht
  (repeat' split at ht) <;> cases ht <;> simp [vault_foldl]

theorem execOctetConfigWrite_vault (octet : Nat) (mode : Bool) (value : W32) (s : State) :
    ∀ out, (execOctetConfigWrite octet mode value s) = .next out → out.vault = s.vault := by
  intro out ht
  cases ht
  simp

theorem execPortConfigWrite_vault (port : Nat) (value : W32) (s : State) :
    ∀ out, (execPortConfigWrite port value s) = .next out → out.vault = s.vault := by
  intro out ht
  cases ht
  simp

theorem execPcieLinkDisable_vault (port : Nat) (s : State) :
    ∀ out, (execPcieLinkDisable port s) = .next out → out.vault = s.vault := by
  intro out ht
  cases ht
  simp

theorem execL1Entry_vault (port : Nat) (s : State) :
    ∀ out, (execL1Entry port s) = .next out → out.vault = s.vault := by
  intro out ht
  cases ht
  simp

theorem execLaneMarginCommand_vault (octet : Nat) (lane : Nat) (active : Bool) (errors : Nat) (answer : MarginAnswer) (s : State) :
    ∀ out, (execLaneMarginCommand octet lane active errors answer s) = .next out → out.vault = s.vault := by
  intro out ht
  unfold execLaneMarginCommand at ht
  dsimp only at ht
  (repeat' split at ht) <;> (first | cases ht | (injection ht with ht; subst ht) | obtain rfl := finish_next ht) <;> simp [vault_foldl]

theorem execLaneLock_vault (link : Nat) (lane : Nat) (line : Nat) (len : Nat) (aligns : List (Nat × Nat)) (s : State) :
    ∀ out, (execLaneLock link lane line len aligns s) = .next out → out.vault = s.vault := by
  intro out ht
  unfold execLaneLock at ht
  dsimp only at ht
  (repeat' split at ht) <;> cases ht <;> simp [vault_foldl]

theorem execHelloReceive_vault (link fid speed width win lanes : Nat) (s : State) : ∀ out, execHelloReceive link fid speed width win lanes s = .next out → out.vault = s.vault := by
  intro out ht
  unfold execHelloReceive at ht
  dsimp only at ht
  (repeat' split at ht) <;> cases ht <;> simp

theorem execAckSend_vault (link : Nat) (s : State) :
    ∀ out, (execAckSend link s) = .next out → out.vault = s.vault := by
  intro out ht
  cases ht
  simp

theorem execXoffReceive_vault (link : Nat) (mask : Nat) (s : State) :
    ∀ out, (execXoffReceive link mask s) = .next out → out.vault = s.vault := by
  intro out ht
  cases ht
  simp

theorem execXonReceive_vault (link : Nat) (mask : Nat) (s : State) :
    ∀ out, (execXonReceive link mask s) = .next out → out.vault = s.vault := by
  intro out ht
  cases ht
  simp

theorem execXoffResend_vault (link : Nat) (s : State) :
    ∀ out, (execXoffResend link s) = .next out → out.vault = s.vault := by
  intro out ht
  unfold execXoffResend at ht
  dsimp only at ht
  (repeat' split at ht) <;> cases ht <;> simp [vault_foldl]

theorem execLinkChange_vault (link : Nat) (s : State) :
    ∀ out, (execLinkChange link s) = .next out → out.vault = s.vault := by
  intro out ht
  cases ht
  simp

theorem execChangeReceive_vault (link : Nat) (speed : Nat) (width : Nat) (lanes : Nat) (s : State) :
    ∀ out, (execChangeReceive link speed width lanes s) = .next out → out.vault = s.vault := by
  intro out ht
  unfold execChangeReceive at ht
  dsimp only at ht
  (repeat' split at ht) <;> cases ht <;> simp [vault_foldl]

theorem execReadyReceive_vault (link : Nat) (s : State) :
    ∀ out, (execReadyReceive link s) = .next out → out.vault = s.vault := by
  intro out ht
  unfold execReadyReceive at ht
  dsimp only at ht
  (repeat' split at ht) <;> cases ht <;> simp [vault_foldl]

@[simp] theorem State.laneGov_vault (s : State) (f : Nat) :
    (State.laneGov s f).vault = s.vault := by
  unfold State.laneGov
  (repeat' (first | (simp [vault_foldl, vault_foldl_fst, vault_foldl_snd, *]; done) | split | (refine vault_snd (by assumption) ?_) | (refine vault_fst (by assumption) ?_) | (have h := State.replicate_vault _ _ _ _ _ ‹_›; simpa using h) | (refine (vault_foldl _ _ _ (fun s x => ?_)).trans ?_) | (refine (vault_foldl_fst _ _ _ (fun s x => ?_)).trans ?_) | (refine (vault_foldl_snd _ _ _ (fun s x => ?_)).trans ?_) | simp [vault_foldl, vault_foldl_fst, vault_foldl_snd, *]))

theorem execLaneGovTick_vault (errors : List (Nat × Nat)) (s : State) :
    ∀ out, (execLaneGovTick errors s) = .next out → out.vault = s.vault := by
  intro out ht
  unfold execLaneGovTick at ht
  try dsimp only at ht
  (repeat' split at ht) <;> (first | cases ht | (injection ht with ht; subst ht) | obtain rfl := finish_next ht) <;> (repeat' (first | (simp [vault_foldl, vault_foldl_fst, vault_foldl_snd, *]; done) | split | (refine vault_snd (by assumption) ?_) | (refine vault_fst (by assumption) ?_) | (refine (vault_foldl _ _ _ (fun s x => ?_)).trans ?_) | (refine (vault_foldl_fst _ _ _ (fun s x => ?_)).trans ?_) | (refine (vault_foldl_snd _ _ _ (fun s x => ?_)).trans ?_) | simp [vault_foldl, vault_foldl_fst, vault_foldl_snd, *]))

theorem execTsyncReqReceive_vault (req : TsyncReq) (s : State) :
    ∀ out, (execTsyncReqReceive req s) = .next out → out.vault = s.vault := by
  intro out ht
  cases ht
  simp

theorem execAuthOfferReceive_vault (link : Nat) (fid : Nat) (key : List Byte) (nonce : List Byte) (head : List Byte) (s : State) :
    ∀ out, (execAuthOfferReceive link fid key nonce head s) = .next out → out.vault = s.vault := by
  intro out ht
  unfold execAuthOfferReceive at ht
  dsimp only at ht
  (repeat' split at ht) <;> cases ht <;> simp [vault_foldl]

theorem execAuthProofReceive_vault (link : Nat) (signature : List Byte) (s : State) :
    ∀ out, (execAuthProofReceive link signature s) = .next out → out.vault = s.vault := by
  intro out ht
  unfold execAuthProofReceive at ht
  dsimp only at ht
  (repeat' split at ht) <;> cases ht <;> simp [vault_foldl]

theorem execAuthAcceptReceive_vault (link : Nat) (s : State) :
    ∀ out, (execAuthAcceptReceive link s) = .next out → out.vault = s.vault := by
  intro out ht
  unfold execAuthAcceptReceive at ht
  dsimp only at ht
  (repeat' split at ht) <;> cases ht <;> simp [vault_foldl]

theorem execAuthRejectReceive_vault (link : Nat) (s : State) :
    ∀ out, (execAuthRejectReceive link s) = .next out → out.vault = s.vault := by
  intro out ht
  cases ht
  simp

theorem execReauth_vault (link : Nat) (s : State) :
    ∀ out, (execReauth link s) = .next out → out.vault = s.vault := by
  intro out ht
  cases ht
  simp

@[simp] theorem State.resetIn_vault (s : State) (part : Nat) (port : Nat) (hold : Bool) (bridged : Bool) :
    (State.resetIn s part port hold bridged).vault = s.vault := by
  unfold State.resetIn
  (repeat' (first | (simp [vault_foldl, vault_foldl_fst, vault_foldl_snd, *]; done) | split | (refine vault_snd (by assumption) ?_) | (refine vault_fst (by assumption) ?_) | simp [vault_foldl, vault_foldl_fst, vault_foldl_snd, *]))

@[simp] theorem State.remoteChange_vault (s : State) (src : Nat) (part : Nat) (port : Nat) (off : Nat) (v : W32) :
    (State.remoteChange s src part port off v).vault = s.vault := by
  unfold State.remoteChange
  (repeat' (first | (simp [vault_foldl, vault_foldl_fst, vault_foldl_snd, *]; done) | split | (refine vault_snd (by assumption) ?_) | (refine vault_fst (by assumption) ?_) | (refine (vault_foldl _ _ _ (fun s x => ?_)).trans ?_) | (refine (vault_foldl_fst _ _ _ (fun s x => ?_)).trans ?_) | (refine (vault_foldl_snd _ _ _ (fun s x => ?_)).trans ?_) | simp [vault_foldl, vault_foldl_fst, vault_foldl_snd, *]))

@[simp] theorem State.mgmtLost_vault (s : State) (src : Nat) (v : Vc4) :
    (State.mgmtLost s src v).vault = s.vault := by
  unfold State.mgmtLost
  (repeat' split) <;> simp

theorem execPrbsStart_vault (unit' : Nat) (value : W32) (counts : List (Nat × Nat)) (s : State) :
    ∀ out, (execPrbsStart unit' value counts s) = .next out → out.vault = s.vault := by
  intro out ht
  cases ht
  simp

theorem execPrbsLock_vault (unit' : Nat) (lane : Nat) (s : State) :
    ∀ out, (execPrbsLock unit' lane s) = .next out → out.vault = s.vault := by
  intro out ht
  cases ht
  simp

theorem execPrbsRateAbort_vault (octet : Nat) (counts : List (Nat × Nat)) (s : State) :
    ∀ out, (execPrbsRateAbort octet counts s) = .next out → out.vault = s.vault := by
  intro out ht
  cases ht
  simp

theorem execEyeScanDone_vault (unit' : Nat) (scan : ScanResult) (s : State) :
    ∀ out, (execEyeScanDone unit' scan s) = .next out → out.vault = s.vault := by
  intro out ht
  cases ht
  simp

theorem execEqRedoTimeout_vault (port : Nat) (s : State) :
    ∀ out, (execEqRedoTimeout port s) = .next out → out.vault = s.vault := by
  intro out ht
  unfold execEqRedoTimeout at ht
  dsimp only at ht
  (repeat' split at ht) <;> cases ht <;> simp [vault_foldl]

theorem execScrubRead_vault (table : Nat) (index : Nat) (copy0 : Bool) (copy1 : Bool) (s : State) :
    ∀ out, (execScrubRead table index copy0 copy1 s) = .next out → out.vault = s.vault := by
  intro out ht
  cases ht
  simp

theorem execRecordRingWrite_vault (part : Nat) (s : State) :
    ∀ out, (execRecordRingWrite part s) = .next out → out.vault = s.vault := by
  intro out ht
  unfold execRecordRingWrite at ht
  dsimp only at ht
  (repeat' split at ht) <;> (first | cases ht | (injection ht with ht; subst ht) | obtain rfl := finish_next ht) <;> simp [vault_foldl]

@[simp] theorem State.dropWaiting_vault (s : State) (w : Waiting) :
    (State.dropWaiting s w).vault = s.vault := by
  unfold State.dropWaiting
  (repeat' (first | (simp [vault_foldl, vault_foldl_fst, vault_foldl_snd, *]; done) | split | (refine vault_snd (by assumption) ?_) | (refine vault_fst (by assumption) ?_) | simp [vault_foldl, vault_foldl_fst, vault_foldl_snd, *]))

theorem execIsolateEntered_vault (s : State) :
    ∀ out, (execIsolateEntered s) = .next out → out.vault = s.vault := by
  intro out ht
  unfold execIsolateEntered at ht
  dsimp only at ht
  (repeat' split at ht) <;> (first | cases ht | (injection ht with ht; subst ht) | obtain rfl := finish_next ht) <;> simp [vault_foldl]

theorem execFatalAck_vault (s : State) :
    ∀ out, (execFatalAck s) = .next out → out.vault = s.vault := by
  intro out ht
  cases ht
  simp

theorem execLockstepMismatch_vault (s : State) :
    ∀ out, (execLockstepMismatch s) = .next out → out.vault = s.vault := by
  intro out ht
  cases ht
  simp

theorem execMgtPairSwap_vault (s : State) :
    ∀ out, (execMgtPairSwap s) = .next out → out.vault = s.vault := by
  intro out ht
  cases ht
  simp

theorem execPairSelftestDone_vault (pair : Nat) (pass : Bool) (s : State) :
    ∀ out, (execPairSelftestDone pair pass s) = .next out → out.vault = s.vault := by
  intro out ht
  unfold execPairSelftestDone at ht
  dsimp only at ht
  (repeat' split at ht) <;> cases ht <;> simp [vault_foldl]

theorem execHcmdDoorbell_vault (part : Nat) (s : State) :
    ∀ out, (execHcmdDoorbell part s) = .next out → out.vault = s.vault := by
  intro out ht
  cases ht
  simp

theorem execHcmdTake_vault (part : Nat) (s : State) :
    ∀ out, (execHcmdTake part s) = .next out → out.vault = s.vault := by
  intro out ht
  cases ht
  simp

theorem execAttest_vault (part : Nat) (nonce : List Byte) (buffer : W64) (vec : Nat) (irq : Bool) (s : State) :
    ∀ out, (execAttest part nonce buffer vec irq s) = .next out → out.vault = s.vault := by
  intro out ht
  unfold execAttest at ht
  dsimp only at ht
  (repeat' split at ht) <;> cases ht <;> simp [vault_foldl]

theorem execAttestPeerRequest_vault (link : Nat) (nonce : List Byte) (s : State) :
    ∀ out, (execAttestPeerRequest link nonce s) = .next out → out.vault = s.vault := by
  intro out ht
  unfold execAttestPeerRequest at ht
  dsimp only at ht
  (repeat' split at ht) <;> cases ht <;> simp [vault_foldl]

theorem execAttestReportDone_vault (s : State) :
    ∀ out, (execAttestReportDone s) = .next out → out.vault = s.vault := by
  intro out ht
  unfold execAttestReportDone at ht
  dsimp only at ht
  (repeat' split at ht) <;> (first | cases ht | (injection ht with ht; subst ht) | obtain rfl := finish_next ht) <;> simp [vault_foldl]

@[simp] theorem State.govSession_vault (s : State) (c : Nat) (k : Nat) :
    (State.govSession s c k).vault = s.vault := by simp [State.govSession]

@[simp] theorem State.sampleGov_vault (s : State) :
    (State.sampleGov s).vault = s.vault := by
  unfold State.sampleGov
  (repeat' (first | (simp [vault_foldl, vault_foldl_fst, vault_foldl_snd, *]; done) | split | (refine vault_snd (by assumption) ?_) | (refine vault_fst (by assumption) ?_) | (refine (vault_foldl _ _ _ (fun s x => ?_)).trans ?_) | (refine (vault_foldl_fst _ _ _ (fun s x => ?_)).trans ?_) | (refine (vault_foldl_snd _ _ _ (fun s x => ?_)).trans ?_) | simp [vault_foldl, vault_foldl_fst, vault_foldl_snd, *]))

theorem execSampleGovTick_vault (s : State) :
    ∀ out, (execSampleGovTick s) = .next out → out.vault = s.vault := by
  intro out ht
  unfold execSampleGovTick at ht
  dsimp only at ht
  (repeat' split at ht) <;> (first | cases ht | (injection ht with ht; subst ht) | obtain rfl := finish_next ht) <;> simp [vault_foldl]

theorem execWdogKick_vault (s : State) :
    ∀ out, (execWdogKick s) = .next out → out.vault = s.vault := by
  intro out ht
  cases ht
  simp

theorem execWdogWarn_vault (s : State) :
    ∀ out, (execWdogWarn s) = .next out → out.vault = s.vault := by
  intro out ht
  unfold execWdogWarn at ht
  dsimp only at ht
  (repeat' split at ht) <;> (first | cases ht | (injection ht with ht; subst ht) | obtain rfl := finish_next ht) <;> simp [vault_foldl]

theorem execWdogExpire_vault (s : State) :
    ∀ out, (execWdogExpire s) = .next out → out.vault = s.vault := by
  intro out ht
  unfold execWdogExpire at ht
  (repeat' split at ht) <;> cases ht <;> simp

theorem execFirmwareUpdate_vault (slot : Nat) (s : State) :
    ∀ out, (execFirmwareUpdate slot s) = .next out → out.vault = s.vault := by
  intro out ht
  cases ht
  simp

@[simp] theorem State.trySlot_vault (s : State) (slot : Nat) :
    (State.trySlot s slot).2.vault = s.vault := by simp [State.trySlot]

theorem execUpdateDone_vault (s : State) :
    ∀ out, (execUpdateDone s) = .next out → out.vault = s.vault := by
  intro out ht
  cases ht
  simp

theorem execCulBarrier_vault (r : Requester) (s : State) :
    ∀ out, (execCulBarrier r s) = .next out → out.vault = s.vault := by
  intro out ht
  cases ht
  simp

theorem execLbCycleStart_vault (s : State) :
    ∀ out, (execLbCycleStart s) = .next out → out.vault = s.vault := by
  intro out ht
  unfold execLbCycleStart at ht
  dsimp only at ht
  (repeat' split at ht) <;> (first | cases ht | (injection ht with ht; subst ht) | obtain rfl := finish_next ht) <;> simp [vault_foldl]

theorem execCulTimeoutExpiry_vault (s : State) :
    ∀ out, (execCulTimeoutExpiry s) = .next out → out.vault = s.vault := by
  intro out ht
  unfold execCulTimeoutExpiry at ht
  (repeat' split at ht) <;> cases ht <;> simp

theorem execLbBusRequest_vault (s : State) :
    ∀ out, (execLbBusRequest s) = .next out → out.vault = s.vault := by
  intro out ht
  unfold execLbBusRequest at ht
  dsimp only at ht
  (repeat' split at ht) <;> (first | cases ht | (injection ht with ht; subst ht) | obtain rfl := finish_next ht) <;> simp [vault_foldl]

theorem execSidebandPoll_vault (levels : W32) (s : State) :
    ∀ out, (execSidebandPoll levels s) = .next out → out.vault = s.vault := by
  intro out ht
  unfold execSidebandPoll at ht
  try dsimp only at ht
  (repeat' split at ht) <;> (first | cases ht | (injection ht with ht; subst ht) | obtain rfl := finish_next ht) <;> (repeat' (first | (simp [vault_foldl, vault_foldl_fst, vault_foldl_snd, *]; done) | split | (refine vault_snd (by assumption) ?_) | (refine vault_fst (by assumption) ?_) | (refine (vault_foldl _ _ _ (fun s x => ?_)).trans ?_) | (refine (vault_foldl_fst _ _ _ (fun s x => ?_)).trans ?_) | (refine (vault_foldl_snd _ _ _ (fun s x => ?_)).trans ?_) | simp [vault_foldl, vault_foldl_fst, vault_foldl_snd, *]))

theorem execInterruptPoll_vault (asserted : Nat) (s : State) :
    ∀ out, (execInterruptPoll asserted s) = .next out → out.vault = s.vault := by
  intro out ht
  unfold execInterruptPoll at ht
  dsimp only at ht
  (repeat' split at ht) <;> (first | cases ht | (injection ht with ht; subst ht) | obtain rfl := finish_next ht) <;> simp [vault_foldl]

theorem execSidebandWake_vault (s : State) :
    ∀ out, (execSidebandWake s) = .next out → out.vault = s.vault := by
  intro out ht
  unfold execSidebandWake at ht
  dsimp only at ht
  (repeat' split at ht) <;> (first | cases ht | (injection ht with ht; subst ht) | obtain rfl := finish_next ht) <;> simp [vault_foldl]

theorem execMeasClear_vault (slot : Nat) (value : W32) (s : State) :
    ∀ out, (execMeasClear slot value s) = .next out → out.vault = s.vault := by
  intro out ht
  cases ht
  simp

theorem execFastTrip_vault (slot : Nat) (ch : ChannelSense) (s : State) :
    ∀ out, (execFastTrip slot ch s) = .next out → out.vault = s.vault := by
  intro out ht
  cases ht
  simp

theorem execCurrentLimitStart_vault (slot : Nat) (ch : Nat) (s : State) :
    ∀ out, (execCurrentLimitStart slot ch s) = .next out → out.vault = s.vault := by
  intro out ht
  cases ht
  simp

theorem execUptripEnd_vault (s : State) :
    ∀ out, (execUptripEnd s) = .next out → out.vault = s.vault := by
  intro out ht
  unfold execUptripEnd at ht
  (repeat' split at ht) <;> cases ht <;> simp

theorem execInsertionStart_vault (slot : Nat) (s : State) :
    ∀ out, (execInsertionStart slot s) = .next out → out.vault = s.vault := by
  intro out ht
  cases ht
  simp

theorem execRampEnd_vault (slot : Nat) (ch : Nat) (s : State) :
    ∀ out, (execRampEnd slot ch s) = .next out → out.vault = s.vault := by
  intro out ht
  cases ht
  simp

theorem execChannelPowerGood_vault (slot : Nat) (ch : Nat) (s : State) :
    ∀ out, (execChannelPowerGood slot ch s) = .next out → out.vault = s.vault := by
  intro out ht
  cases ht
  simp

theorem execPerstRelease_vault (slot : Nat) (s : State) :
    ∀ out, (execPerstRelease slot s) = .next out → out.vault = s.vault := by
  intro out ht
  cases ht
  simp

theorem execSlotOff_vault (slot : Nat) (s : State) :
    ∀ out, (execSlotOff slot s) = .next out → out.vault = s.vault := by
  intro out ht
  cases ht
  simp

theorem execSlotOffGates_vault (slot : Nat) (s : State) :
    ∀ out, (execSlotOffGates slot s) = .next out → out.vault = s.vault := by
  intro out ht
  cases ht
  simp

theorem execForceOn_vault (slot : Nat) (ch : Nat) (on : Bool) (s : State) :
    ∀ out, (execForceOn slot ch on s) = .next out → out.vault = s.vault := by
  intro out ht
  cases ht
  simp

theorem execSlotRetry_vault (slot : Nat) (s : State) :
    ∀ out, (execSlotRetry slot s) = .next out → out.vault = s.vault := by
  intro out ht
  cases ht
  simp

theorem execHistLevelSample_vault (unit' : Nat) (s : State) :
    ∀ out, (execHistLevelSample unit' s) = .next out → out.vault = s.vault := by
  intro out ht
  unfold execHistLevelSample at ht
  dsimp only at ht
  (repeat' split at ht) <;> (first | cases ht | (injection ht with ht; subst ht) | obtain rfl := finish_next ht) <;> simp [vault_foldl]

theorem execHistSnapshot_vault (units : Nat) (clear : Bool) (s : State) :
    ∀ out, (execHistSnapshot units clear s) = .next out → out.vault = s.vault := by
  intro out ht
  cases ht
  simp

theorem execHistConfigWrite_vault (unit' : Nat) (base : Bool) (value : W32) (s : State) :
    ∀ out, (execHistConfigWrite unit' base value s) = .next out → out.vault = s.vault := by
  intro out ht
  cases ht
  simp

theorem execImageVerifyDone_vault (s : State) :
    ∀ out, (execImageVerifyDone s) = .next out → out.vault = s.vault := by
  intro out ht
  unfold execImageVerifyDone at ht
  dsimp only at ht
  (repeat' split at ht) <;> (first | cases ht | (injection ht with ht; subst ht) | obtain rfl := finish_next ht) <;> simp [vault_foldl]

theorem execDebugUnlockDone_vault (s : State) :
    ∀ out, (execDebugUnlockDone s) = .next out → out.vault = s.vault := by
  intro out ht
  unfold execDebugUnlockDone at ht
  dsimp only at ht
  (repeat' split at ht) <;> (first | cases ht | (injection ht with ht; subst ht) | obtain rfl := finish_next ht) <;> simp [vault_foldl]

@[simp] theorem State.runControl_vault (s : State) (what : Nat) :
    (State.runControl s what).vault = s.vault := by
  unfold State.runControl
  (repeat' (first | (simp [vault_foldl, vault_foldl_fst, vault_foldl_snd, *]; done) | split | (refine vault_snd (by assumption) ?_) | (refine vault_fst (by assumption) ?_) | simp [vault_foldl, vault_foldl_fst, vault_foldl_snd, *]))

@[simp] theorem State.deriveIdentity_vault (s : State) :
    (State.deriveIdentity s).vault = s.vault := by
  unfold State.deriveIdentity
  (repeat' (first | (simp [vault_foldl, vault_foldl_fst, vault_foldl_snd, *]; done) | split | (refine vault_snd (by assumption) ?_) | (refine vault_fst (by assumption) ?_) | (refine (vault_foldl _ _ _ (fun s x => ?_)).trans ?_) | (refine (vault_foldl_fst _ _ _ (fun s x => ?_)).trans ?_) | (refine (vault_foldl_snd _ _ _ (fun s x => ?_)).trans ?_) | simp [vault_foldl, vault_foldl_fst, vault_foldl_snd, *]))

theorem execIdentityDerived_vault (ok : Bool) (s : State) :
    ∀ out, (execIdentityDerived ok s) = .next out → out.vault = s.vault := by
  intro out ht
  unfold execIdentityDerived at ht
  dsimp only at ht
  (repeat' split at ht) <;> (first | cases ht | (injection ht with ht; subst ht) | obtain rfl := finish_next ht) <;> simp [vault_foldl]

theorem execBgSelftestDone_vault (banks : Nat) (engines : Nat) (spv : Bool) (s : State) :
    ∀ out, (execBgSelftestDone banks engines spv s) = .next out → out.vault = s.vault := by
  intro out ht
  unfold execBgSelftestDone at ht
  dsimp only at ht
  (repeat' split at ht) <;> (first | cases ht | (injection ht with ht; subst ht) | obtain rfl := finish_next ht) <;> simp [vault_foldl]

theorem execSafeUartLine_vault (s : State) :
    ∀ out, (execSafeUartLine s) = .next out → out.vault = s.vault := by
  intro out ht
  unfold execSafeUartLine at ht
  dsimp only at ht
  (repeat' split at ht) <;> (first | cases ht | (injection ht with ht; subst ht) | obtain rfl := finish_next ht) <;> simp [vault_foldl]

theorem execStatPatternToggle_vault (s : State) :
    ∀ out, (execStatPatternToggle s) = .next out → out.vault = s.vault := by
  intro out ht
  unfold execStatPatternToggle at ht
  dsimp only at ht
  (repeat' split at ht) <;> (first | cases ht | (injection ht with ht; subst ht) | obtain rfl := finish_next ht) <;> simp [vault_foldl]

theorem execSafeSpiRelease_vault (s : State) :
    ∀ out, (execSafeSpiRelease s) = .next out → out.vault = s.vault := by
  intro out ht
  unfold execSafeSpiRelease at ht
  dsimp only at ht
  (repeat' split at ht) <;> (first | cases ht | (injection ht with ht; subst ht) | obtain rfl := finish_next ht) <;> simp [vault_foldl]

theorem execSmbusStatusRead_vault (s : State) :
    ∀ out, (execSmbusStatusRead s) = .next out → out.vault = s.vault := by
  intro out ht
  unfold execSmbusStatusRead at ht
  (repeat' split at ht) <;> cases ht <;> simp

theorem execModeReqComposed_vault (s : State) :
    ∀ out, (execModeReqComposed s) = .next out → out.vault = s.vault := by
  intro out ht
  cases ht
  simp

theorem execModeReqDrain_vault (s : State) :
    ∀ out, (execModeReqDrain s) = .next out → out.vault = s.vault := by
  intro out ht
  cases ht
  simp

theorem execModeReqDiagnostic_vault (s : State) :
    ∀ out, (execModeReqDiagnostic s) = .next out → out.vault = s.vault := by
  intro out ht
  cases ht
  simp

theorem execModeReqInvalid_vault (req : Nat) (s : State) :
    ∀ out, (execModeReqInvalid req s) = .next out → out.vault = s.vault := by
  intro out ht
  cases ht
  simp

theorem execMainPowerReturn_vault (s : State) :
    ∀ out, (execMainPowerReturn s) = .next out → out.vault = s.vault := by
  intro out ht
  unfold execMainPowerReturn at ht
  dsimp only at ht
  (repeat' split at ht) <;> (first | cases ht | (injection ht with ht; subst ht) | obtain rfl := finish_next ht) <;> simp [vault_foldl]

theorem execTrefLost_vault (s : State) :
    ∀ out, (execTrefLost s) = .next out → out.vault = s.vault := by
  intro out ht
  unfold execTrefLost at ht
  dsimp only at ht
  (repeat' split at ht) <;> (first | cases ht | (injection ht with ht; subst ht) | obtain rfl := finish_next ht) <;> simp [vault_foldl]

theorem execTrefRestored_vault (s : State) :
    ∀ out, (execTrefRestored s) = .next out → out.vault = s.vault := by
  intro out ht
  unfold execTrefRestored at ht
  (repeat' split at ht) <;> cases ht <;> simp

@[simp] theorem State.thermDrain_vault (s : State) :
    (State.thermDrain s).vault = s.vault := by
  unfold State.thermDrain
  (repeat' (first | (simp [vault_foldl, vault_foldl_fst, vault_foldl_snd, *]; done) | split | (refine vault_snd (by assumption) ?_) | (refine vault_fst (by assumption) ?_) | simp [vault_foldl, vault_foldl_fst, vault_foldl_snd, *]))

theorem execThermalGovTick_vault (sensors : List Nat) (s : State) :
    ∀ out, (execThermalGovTick sensors s) = .next out → out.vault = s.vault := by
  intro out ht
  unfold execThermalGovTick at ht
  dsimp only at ht
  (repeat' split at ht) <;> (first | cases ht | (injection ht with ht; subst ht) | obtain rfl := finish_next ht) <;> simp [vault_foldl]

theorem execRecordRingWriteback_vault (part : Nat) (s : State) :
    ∀ out, (execRecordRingWriteback part s) = .next out → out.vault = s.vault := by
  intro out ht
  unfold execRecordRingWriteback at ht
  dsimp only at ht
  (repeat' split at ht) <;> (first | cases ht | (injection ht with ht; subst ht) | obtain rfl := finish_next ht) <;> simp [vault_foldl]

theorem execPhyCalibrationDone_vault (octets : Nat) (links : Nat) (s : State) :
    ∀ out, (execPhyCalibrationDone octets links s) = .next out → out.vault = s.vault := by
  intro out ht
  unfold execPhyCalibrationDone at ht
  dsimp only at ht
  (repeat' split at ht) <;> (first | cases ht | (injection ht with ht; subst ht) | obtain rfl := finish_next ht) <;> simp [vault_foldl]

theorem execCoreLoadTimeout_vault (s : State) :
    ∀ out, (execCoreLoadTimeout s) = .next out → out.vault = s.vault := by
  intro out ht
  unfold execCoreLoadTimeout at ht
  dsimp only at ht
  (repeat' split at ht) <;> (first | cases ht | (injection ht with ht; subst ht) | obtain rfl := finish_next ht) <;> simp [vault_foldl]

@[simp] theorem State.resetTick_vault (s : State) :
    (State.resetTick s).vault = s.vault := by
  unfold State.resetTick
  (repeat' (first | (simp [vault_foldl, vault_foldl_fst, vault_foldl_snd, *]; done) | split | (refine vault_snd (by assumption) ?_) | (refine vault_fst (by assumption) ?_) | simp [vault_foldl, vault_foldl_fst, vault_foldl_snd, *]))

end Sys2Proof.Machine
end

