-- ==== Sys2Proof/Laws/FrameMemory.lean ====
section
/-! SUPPORT. Frame of the few operations that write memory or the OTP, or reset the device. -/

namespace Sys2Proof.Machine

set_option linter.all false


/-- What a command may do to the queue, to memory and to the OTP: nothing to the queue; memory and the OTP stay in
canonical form; a bit of the OTP that is set stays set (R401). -/
structure VaultKept (v w : List Instr × Store (Option Byte) × Store (Option Byte) × Store W32) : Prop where
  pending : w.1 = v.1
  sram : storeWf (fun _ => none) v.2.1 = true → storeWf (fun _ => none) w.2.1 = true
  flash : w.2.2.1 = v.2.2.1
  otp : storeWf (fun _ => 0) v.2.2.2 = true → storeWf (fun _ => 0) w.2.2.2 = true
  bits : ∀ k, storeGet 0 v.2.2.2 k &&& storeGet 0 w.2.2.2 k = storeGet 0 v.2.2.2 k

@[simp] theorem VaultKept.refl (v : List Instr × Store (Option Byte) × Store (Option Byte) × Store W32) : VaultKept v v :=
  ⟨rfl, id, rfl, id, fun _ => BitVec.and_self⟩

theorem VaultKept.trans {u v w : List Instr × Store (Option Byte) × Store (Option Byte) × Store W32}
    (a : VaultKept u v) (b : VaultKept v w) : VaultKept u w where
  pending := b.pending.trans a.pending
  sram h := b.sram (a.sram h)
  flash := b.flash.trans a.flash
  otp h := b.otp (a.otp h)
  bits k := by
    have h := a.bits k
    have h' := b.bits k
    rw [← h, BitVec.and_assoc, h']

theorem vault_kept_of_eq {s t : State} (h : t.vault = s.vault) : VaultKept s.vault t.vault := h ▸ .refl _

theorem vault_kept_foldl {α : Type} (f : State → α → State) (l : List α) (s : State)
    (h : ∀ s x, VaultKept s.vault (f s x).vault) : VaultKept s.vault (l.foldl f s).vault := by
  induction l generalizing s with
  | nil => exact .refl _
  | cons x l ih => exact (h s x).trans (ih _)

theorem otp_bits_put (m : Store W32) (w k : Nat) (x : W32) :
    storeGet 0 m k &&& storeGet 0 (storePut 0 w (storeGet 0 m w ||| x) m) k = storeGet 0 m k := by
  by_cases h : k = w
  · subst h
    rw [storeGet_storePut_same]
    ext i hi
    simp +contextual
  · rw [storeGet_storePut_ne m h, BitVec.and_self]

theorem State.otpSet_kept (s : State) (w v : Nat) : VaultKept s.vault (s.otpSet w v).vault where
  pending := rfl
  sram := id
  flash := rfl
  otp h := storeWf_storePut (d := fun _ => (0 : W32)) h
  bits k := otp_bits_put _ _ _ _

theorem State.sramPut_kept (s : State) (off : Nat) (bs : List Byte) : VaultKept s.vault (s.sramPut off bs).vault where
  pending := rfl
  sram h := by
    have key : ∀ (l : List (Byte × Nat)) (m : Store (Option Byte)), storeWf (fun _ => none) m = true →
        storeWf (fun _ => none) (l.foldl (fun m b => storePut none (off + b.2) (some b.1) m) m) = true := by
      intro l
      induction l with
      | nil => exact fun _ h => h
      | cons a l ih => exact fun m h => ih _ (storeWf_storePut (d := fun _ => (none : Option Byte)) h)
    exact key _ _ h
  flash := rfl
  otp := id
  bits _ := BitVec.and_self

theorem State.deviceReset_kept (s : State) (need : Nat) : VaultKept s.vault (s.deviceReset need).vault := by
  have h : (s.deviceReset need).vault = (s.pending, [], s.mgt.flash, s.sec.otp) := by
    unfold State.deviceReset
    dsimp only
    rw [State.setMode_vault, State.fset_vault, State.fset_vault, vault_foldl _ _ _ (by simp)]
    rfl
  rw [h]
  exact ⟨rfl, fun _ => rfl, rfl, id, fun _ => BitVec.and_self⟩

theorem execAonUndervoltage_kept (s : State) :
    ∀ out, execAonUndervoltage s = .next out → VaultKept s.vault out.vault := by
  intro out ht
  injection ht with ht
  subst ht
  rw [State.setMode_vault]
  exact ⟨rfl, fun _ => rfl, rfl, id, fun _ => BitVec.and_self⟩

theorem vault_kept_getD {o : Option State} {s t : State} (h : ∀ out, o = some out → VaultKept s.vault out.vault)
    (ht : VaultKept s.vault t.vault) : VaultKept s.vault (o.getD t).vault := by
  cases o with
  | none => exact ht
  | some x => exact h x rfl


theorem State.resetDevice_kept (s : State) :
    VaultKept s.vault (State.resetDevice s).vault := by
  unfold State.resetDevice
  (repeat' (first | (simp [*, vault_foldl, vault_foldl_fst, vault_foldl_snd]; done) | (refine VaultKept.trans ?_ (State.deviceReset_kept _ _)) | split | (simp only [State.answerRead_vault]) | simp [*, vault_foldl, vault_foldl_fst, vault_foldl_snd]))

theorem State.subsysReset_kept (s : State) (v : Nat) :
    VaultKept s.vault (State.subsysReset s v).vault := by
  unfold State.subsysReset
  (repeat' (first | (simp [*, vault_foldl, vault_foldl_fst, vault_foldl_snd]; done) | (refine VaultKept.trans ?_ (State.resetDevice_kept _)) | (refine VaultKept.trans ?_ (vault_kept_foldl _ _ _ fun s x => ?_)) | split | (simp only [State.answerRead_vault]) | simp [*, vault_foldl, vault_foldl_fst, vault_foldl_snd]))

theorem State.writeCtlA_kept (s : State) (r : Requester) (p : PageAt) (a : Nat) (v : W32) :
    ∀ out, (State.writeCtlA s r p a v) = some out → VaultKept s.vault out.vault := by
  intro out ht
  unfold State.writeCtlA at ht
  try dsimp only at ht
  (repeat' split at ht) <;> (first | cases ht | (injection ht with ht; subst ht)) <;> (repeat' (first | (simp [*, vault_foldl, vault_foldl_fst, vault_foldl_snd]; done) | (refine VaultKept.trans ?_ (State.subsysReset_kept _ _)) | split | (simp only [State.answerRead_vault]) | simp [*, vault_foldl, vault_foldl_fst, vault_foldl_snd]))

theorem State.writeBlock_kept (s : State) (r : Requester) (p : PageAt) (a : Nat) (v : W32) :
    VaultKept s.vault (State.writeBlock s r p a v).vault := by
  unfold State.writeBlock
  (repeat' (first | (simp [*, vault_foldl, vault_foldl_fst, vault_foldl_snd]; done) | (have h := State.writeCtlC_vault _ _ _ _ _ _ ‹_›; simp [← h]; done) | (have h := State.writeCtlC_vault _ _ _ _ _ _ ‹_›; simp [h]; done) | (have h := State.writeCtlB_vault _ _ _ _ _ ‹_›; simp [← h]; done) | (have h := State.writeCtlB_vault _ _ _ _ _ ‹_›; simp [h]; done) | (have h := State.writeCtlA_kept _ _ _ _ _ _ ‹_›; refine VaultKept.trans ?_ (by simpa using h)) | (have h := State.writeCtlA_kept _ _ _ _ _ _ ho; simpa using h) | split | (simp only [State.answerRead_vault]) | simp [*, vault_foldl, vault_foldl_fst, vault_foldl_snd]))

theorem State.regWrite_kept (s : State) (r : Requester) (a : Nat) (v : W32) :
    VaultKept s.vault (State.regWrite s r a v).vault := by
  unfold State.regWrite
  (repeat' (first | (simp [*, vault_foldl, vault_foldl_fst, vault_foldl_snd]; done) | (refine VaultKept.trans ?_ (State.writeBlock_kept _ _ _ _ _)) | split | (simp only [State.answerRead_vault]) | simp [*, vault_foldl, vault_foldl_fst, vault_foldl_snd]))

theorem State.writeWords_kept (s : State) (r : Requester) (a : Nat) (x3 : List W32) :
    VaultKept s.vault (State.writeWords s r a x3).vault := by
  induction x3 generalizing s r a with
  | nil => exact .refl _
  | cons a l ih => unfold State.writeWords; (repeat' (first | (simp [*, vault_foldl, vault_foldl_fst, vault_foldl_snd]; done) | (refine VaultKept.trans ?_ (State.regWrite_kept _ _ _ _)) | (refine VaultKept.trans ?_ (ih _ _ _)) | split | (simp only [State.answerRead_vault]) | simp [*, vault_foldl, vault_foldl_fst, vault_foldl_snd]))

theorem State.busWrite_kept (s : State) (r : Requester) (a : Nat) (bs : List Byte) :
    VaultKept s.vault (State.busWrite s r a bs).vault := by
  unfold State.busWrite
  (repeat' (first | (simp [*, vault_foldl, vault_foldl_fst, vault_foldl_snd]; done) | (refine VaultKept.trans ?_ (State.writeWords_kept _ _ _ _)) | split | (simp only [State.answerRead_vault]) | simp [*, vault_foldl, vault_foldl_fst, vault_foldl_snd]))

theorem State.serveBar_kept (s : State) (f : Frame) (part : Nat) (bar : Nat) (off : Nat) :
    VaultKept s.vault (State.serveBar s f part bar off).vault := by
  unfold State.serveBar
  (repeat' (first | (simp [*, vault_foldl, vault_foldl_fst, vault_foldl_snd]; done) | (refine VaultKept.trans ?_ (State.busWrite_kept _ _ _ _)) | split | (simp only [State.answerRead_vault]) | simp [*, vault_foldl, vault_foldl_fst, vault_foldl_snd]))

theorem execResetAssert_kept (s : State) :
    ∀ out, (execResetAssert s) = .next out → VaultKept s.vault out.vault := by
  intro out ht
  unfold execResetAssert at ht
  try dsimp only at ht
  (repeat' split at ht) <;> (first | cases ht | (injection ht with ht; subst ht) | obtain rfl := finish_next ht) <;> (repeat' (first | (simp [*, vault_foldl, vault_foldl_fst, vault_foldl_snd]; done) | (refine VaultKept.trans ?_ (State.deviceReset_kept _ _)) | split | (simp only [State.answerRead_vault]) | simp [*, vault_foldl, vault_foldl_fst, vault_foldl_snd]))

theorem State.sramStore_kept (s : State) (off : Nat) (bs : List Byte) (ecc : Option EccFault) :
    VaultKept s.vault (State.sramStore s off bs ecc).vault := by
  unfold State.sramStore
  (repeat' (first | (simp [*, vault_foldl, vault_foldl_fst, vault_foldl_snd]; done) | (refine VaultKept.trans ?_ (State.sramPut_kept _ _ _)) | split | (simp only [State.answerRead_vault]) | simp [*, vault_foldl, vault_foldl_fst, vault_foldl_snd]))

theorem State.atomicOp_kept (s : State) (o : CoreOp) (off : Nat) : VaultKept s.vault (State.atomicOp s o off).vault := by
  unfold State.atomicOp
  dsimp only
  split
  · exact .refl _
  · split
    · split
      · rw [State.coreDone_vault]
        refine VaultKept.trans ?_ (State.sramStore_kept _ _ _ _)
        exact vault_kept_of_eq (by simp)
      · exact vault_kept_of_eq (by simp)
    · exact vault_kept_of_eq (by simp)
    · split
      · rw [State.coreDone_vault]
        refine VaultKept.trans ?_ (State.sramPut_kept _ _ _)
        split <;> exact vault_kept_of_eq (by simp)
      · refine vault_kept_of_eq ?_
        split <;> simp

theorem State.dispatch_kept (s : State) (f : Frame) (win : Option Win) (dest : Dest) :
    VaultKept s.vault (State.dispatch s f win dest).vault := by
  unfold State.dispatch
  (repeat' (first | (simp [*, vault_foldl, vault_foldl_fst, vault_foldl_snd]; done) | (refine VaultKept.trans ?_ (State.serveBar_kept _ _ _ _ _)) | split | (simp only [State.answerRead_vault]) | simp [*, vault_foldl, vault_foldl_fst, vault_foldl_snd]))

theorem State.lookUpFrame_kept (s : State) (f : Frame) :
    VaultKept s.vault (State.lookUpFrame s f).vault := by
  unfold State.lookUpFrame
  (repeat' (first | (simp [*, vault_foldl, vault_foldl_fst, vault_foldl_snd]; done) | (refine VaultKept.trans ?_ (State.dispatch_kept _ _ _ _)) | split | (simp only [State.answerRead_vault]) | simp [*, vault_foldl, vault_foldl_fst, vault_foldl_snd]))

theorem State.request88_kept (s : State) (f : Frame) :
    VaultKept s.vault (State.request88 s f).vault := by
  unfold State.request88
  (repeat' (first | (simp [*, vault_foldl, vault_foldl_fst, vault_foldl_snd]; done) | (refine VaultKept.trans ?_ (State.lookUpFrame_kept _ _)) | split | (simp only [State.answerRead_vault]) | simp [*, vault_foldl, vault_foldl_fst, vault_foldl_snd]))

theorem State.read88_kept (s : State) (addr : Nat) (len : Nat) (why : CoreWhy) :
    ∀ out, (State.read88 s addr len why) = some out → VaultKept s.vault out.vault := by
  intro out ht
  unfold State.read88 at ht
  try dsimp only at ht
  (repeat' split at ht) <;> (first | cases ht | (injection ht with ht; subst ht)) <;> (repeat' (first | (simp [*, vault_foldl, vault_foldl_fst, vault_foldl_snd]; done) | (refine VaultKept.trans ?_ (State.request88_kept _ _)) | split | (simp only [State.answerRead_vault]) | simp [*, vault_foldl, vault_foldl_fst, vault_foldl_snd]))

theorem State.loadIo_kept (s : State) (o : CoreOp) (r : Region) (off : Nat) :
    VaultKept s.vault (State.loadIo s o r off).vault := by
  unfold State.loadIo
  (repeat' (first | (simp [*, vault_foldl, vault_foldl_fst, vault_foldl_snd]; done) | (have h := State.read88_kept _ _ _ _ _ ‹_›; refine VaultKept.trans ?_ (by simpa using h)) | (have h := State.read88_kept _ _ _ _ _ ho; simpa using h) | (refine vault_kept_getD (fun out ho => ?_) (by simp)) | split | (simp only [State.answerRead_vault]) | simp [*, vault_foldl, vault_foldl_fst, vault_foldl_snd]))

theorem State.performOp_kept (s : State) (o : CoreOp) :
    VaultKept s.vault (State.performOp s o).vault := by
  unfold State.performOp
  (repeat' (first | (simp [*, vault_foldl, vault_foldl_fst, vault_foldl_snd]; done) | (refine VaultKept.trans ?_ (State.atomicOp_kept _ _ _)) | (refine VaultKept.trans ?_ (State.loadIo_kept _ _ _ _)) | (have h := State.coreFault_vault _ _ _ ‹_›; simp [← h]; done) | (have h := State.coreFault_vault _ _ _ ‹_›; simp [h]; done) | split | (simp only [State.answerRead_vault]) | simp [*, vault_foldl, vault_foldl_fst, vault_foldl_snd]))

theorem State.corePumpN_kept (x0 : Nat) (x1 : State) :
    VaultKept x1.vault (State.corePumpN x0 x1).vault := by
  induction x0 generalizing x1 with
  | zero => exact .refl _
  | succ n ih => unfold State.corePumpN; (repeat' (first | (simp [*, vault_foldl, vault_foldl_fst, vault_foldl_snd]; done) | (refine VaultKept.trans ?_ (State.performOp_kept _ _)) | (refine VaultKept.trans ?_ (ih _)) | split | (simp only [State.answerRead_vault]) | simp [*, vault_foldl, vault_foldl_fst, vault_foldl_snd]))

theorem State.corePump_kept (s : State) :
    VaultKept s.vault (State.corePump s).vault := by
  unfold State.corePump
  (repeat' (first | (simp [*, vault_foldl, vault_foldl_fst, vault_foldl_snd]; done) | (refine VaultKept.trans ?_ (State.corePumpN_kept _ _)) | split | (simp only [State.answerRead_vault]) | simp [*, vault_foldl, vault_foldl_fst, vault_foldl_snd]))

theorem State.arrive_kept (s : State) (f : Frame) (ue : Bool) :
    VaultKept s.vault (State.arrive s f ue).vault := by
  unfold State.arrive
  (repeat' (first | (simp [*, vault_foldl, vault_foldl_fst, vault_foldl_snd]; done) | (have h := State.modeRefuse_vault _ _ _ ‹_›; simp [← h]; done) | (have h := State.modeRefuse_vault _ _ _ ‹_›; simp [h]; done) | (refine VaultKept.trans ?_ (State.lookUpFrame_kept _ _)) | split | (simp only [State.answerRead_vault]) | simp [*, vault_foldl, vault_foldl_fst, vault_foldl_snd]))

theorem State.freeTurns_kept (fuel n : Nat) (s : State) : VaultKept s.vault (State.freeTurns fuel n s).vault := by
  induction fuel generalizing s with
  | zero => exact .refl _
  | succ fuel ih =>
    unfold State.freeTurns
    split
    · exact .refl _
    · rename_i w _
      split
      · refine VaultKept.trans ?_ (ih _)
        refine VaultKept.trans ?_ (State.arrive_kept _ _ _)
        exact vault_kept_of_eq (by simp)
      · exact .refl _

theorem execReservationGranted_kept (port : Nat) (s : State) :
    ∀ out, (execReservationGranted port s) = .next out → VaultKept s.vault out.vault := by
  intro out ht
  unfold execReservationGranted at ht
  try dsimp only at ht
  (repeat' split at ht) <;> (first | cases ht | (injection ht with ht; subst ht) | obtain rfl := finish_next ht) <;> (repeat' (first | (simp [*, vault_foldl, vault_foldl_fst, vault_foldl_snd]; done) | (have h := State.reserveFor_vault _ _ _ ‹_›; simp [← h]; done) | (have h := State.reserveFor_vault _ _ _ ‹_›; simp [h]; done) | (have h := State.finish_vault _ _ ‹_›; simp [← h]; done) | (have h := State.finish_vault _ _ ‹_›; simp [h]; done) | (refine VaultKept.trans ?_ (State.arrive_kept _ _ _)) | (refine VaultKept.trans ?_ (State.freeTurns_kept _ _ _)) | split | (simp only [State.answerRead_vault]) | simp [*, vault_foldl, vault_foldl_fst, vault_foldl_snd]))

theorem State.present_kept (s : State) (f : Frame) (ue : Bool) :
    VaultKept s.vault (State.present s f ue).vault := by
  unfold State.present
  (repeat' (first | (simp [*, vault_foldl, vault_foldl_fst, vault_foldl_snd]; done) | (have h := State.reserveFor_vault _ _ _ ‹_›; simp [← h]; done) | (have h := State.reserveFor_vault _ _ _ ‹_›; simp [h]; done) | (refine VaultKept.trans ?_ (State.arrive_kept _ _ _)) | split | (simp only [State.answerRead_vault]) | simp [*, vault_foldl, vault_foldl_fst, vault_foldl_snd]))

theorem State.frameIn_kept (s : State) (n : Nat) (t : Tlp) (whole ue : Bool) (meet : Option (Nat × Nat × Bool × Bool)) :
    VaultKept s.vault (State.frameIn s n t whole ue meet).vault := by
  unfold State.frameIn
  split
  · exact .refl _
  · generalize hr : s.linkFrame n t whole = r
    have h : r.2.vault = s.vault := by rw [← hr]; exact State.linkFrame_vault s n t whole
    rw [← h]
    clear h hr
    obtain ⟨f, s⟩ := r
    dsimp only
    split
    · simp
    · rw [State.updateXoff_vault]
      generalize ha : State.meetEntry _ meet = a
      have h : a.vault = s.vault := by rw [← ha]; (split <;> simp)
      rw [← h]
      clear h ha
      generalize hb : (if t.isCpl = true then a else _) = b
      have h : b.vault = a.vault := by rw [← hb]; (split <;> simp)
      rw [← h]
      split
      · simp
      · exact State.present_kept _ _ _

theorem execConfigWrite_kept (port : Nat) (tlp : Tlp) (ue : Bool) (s : State) :
    ∀ out, (execConfigWrite port tlp ue s) = .next out → VaultKept s.vault out.vault := by
  intro out ht
  unfold execConfigWrite at ht
  try dsimp only at ht
  (repeat' split at ht) <;> (first | cases ht | (injection ht with ht; subst ht) | obtain rfl := finish_next ht) <;> (repeat' (first | (simp [*, vault_foldl, vault_foldl_fst, vault_foldl_snd]; done) | (refine VaultKept.trans ?_ (State.frameIn_kept _ _ _ _ _ _)) | split | (simp only [State.answerRead_vault]) | simp [*, vault_foldl, vault_foldl_fst, vault_foldl_snd]))

theorem State.coreOp_kept (s : State) (o : CoreOp) :
    VaultKept s.vault (State.coreOp s o).vault := by
  unfold State.coreOp
  (repeat' (first | (simp [*, vault_foldl, vault_foldl_fst, vault_foldl_snd]; done) | (refine VaultKept.trans ?_ (State.corePump_kept _)) | split | (simp only [State.answerRead_vault]) | simp [*, vault_foldl, vault_foldl_fst, vault_foldl_snd]))

theorem execCoreStore_kept (addr : Nat) (size : Nat) (data : Nat) (user : Bool) (ecc : Option EccFault) (s : State) :
    ∀ out, (execCoreStore addr size data user ecc s) = .next out → VaultKept s.vault out.vault := by
  intro out ht
  unfold execCoreStore at ht
  try dsimp only at ht
  (repeat' split at ht) <;> (first | cases ht | (injection ht with ht; subst ht) | obtain rfl := finish_next ht) <;> (repeat' (first | (simp [*, vault_foldl, vault_foldl_fst, vault_foldl_snd]; done) | (have h := State.finish_vault _ _ ‹_›; simp [← h]; done) | (have h := State.finish_vault _ _ ‹_›; simp [h]; done) | (refine VaultKept.trans ?_ (State.coreOp_kept _ _)) | split | (simp only [State.answerRead_vault]) | simp [*, vault_foldl, vault_foldl_fst, vault_foldl_snd]))

theorem State.write88_kept (s : State) (addr : Nat) (bs : List Byte) :
    ∀ out, (State.write88 s addr bs) = some out → VaultKept s.vault out.vault := by
  intro out ht
  unfold State.write88 at ht
  try dsimp only at ht
  (repeat' split at ht) <;> (first | cases ht | (injection ht with ht; subst ht)) <;> (repeat' (first | (simp [*, vault_foldl, vault_foldl_fst, vault_foldl_snd]; done) | (refine VaultKept.trans ?_ (State.request88_kept _ _)) | split | (simp only [State.answerRead_vault]) | simp [*, vault_foldl, vault_foldl_fst, vault_foldl_snd]))

theorem State.sbDrain_kept (s : State) :
    VaultKept s.vault (State.sbDrain s).vault := by
  unfold State.sbDrain
  (repeat' (first | (simp [*, vault_foldl, vault_foldl_fst, vault_foldl_snd]; done) | (refine VaultKept.trans ?_ (State.busWrite_kept _ _ _ _)) | (refine VaultKept.trans ?_ (State.sramStore_kept _ _ _ _)) | (have h := State.write88_kept _ _ _ _ ‹_›; refine VaultKept.trans ?_ (by simpa using h)) | (have h := State.write88_kept _ _ _ _ ho; simpa using h) | split | (simp only [State.answerRead_vault]) | simp [*, vault_foldl, vault_foldl_fst, vault_foldl_snd]))

theorem State.cycle_kept (s : State) : VaultKept s.vault s.cycle.vault := by
  unfold State.cycle
  dsimp only
  rw [State.rows_vault, State.updateLinks_vault, State.relays_vault, State.checkBar4_vault, State.checkRemotes_vault,
    State.routeFollow_vault, State.timerShow_vault, State.failoverRecord_vault, State.actDue_vault, State.culPump_vault,
    State.culHits_vault, State.lbGrant_vault, State.debugAnswer_vault]
  refine VaultKept.trans ?_ (State.corePump_kept _)
  refine VaultKept.trans ?_ (State.sbDrain_kept _)
  refine vault_kept_of_eq ?_
  rw [State.storesExpire_vault, State.portCycles_vault, State.ageHeads_vault, State.bankReads_vault, State.tails_vault,
    State.dpcAct_vault, State.fireDue_vault, State.supervise_vault, State.advanceTime_vault]
  split
  · exact State.firstCycle_vault _
  · rfl

theorem execCoreFence_kept (kind : Nat) (pred : Nat) (s : State) :
    ∀ out, (execCoreFence kind pred s) = .next out → VaultKept s.vault out.vault := by
  intro out ht
  unfold execCoreFence at ht
  try dsimp only at ht
  (repeat' split at ht) <;> (first | cases ht | (injection ht with ht; subst ht) | obtain rfl := finish_next ht) <;> (repeat' (first | (simp [*, vault_foldl, vault_foldl_fst, vault_foldl_snd]; done) | (have h := State.finish_vault _ _ ‹_›; simp [← h]; done) | (have h := State.finish_vault _ _ ‹_›; simp [h]; done) | (refine VaultKept.trans ?_ (State.coreOp_kept _ _)) | split | (simp only [State.answerRead_vault]) | simp [*, vault_foldl, vault_foldl_fst, vault_foldl_snd]))

theorem execStrayAccess_kept (r : Requester) (addr : Nat) (write : Bool) (s : State) :
    ∀ out, (execStrayAccess r addr write s) = .next out → VaultKept s.vault out.vault := by
  intro out ht
  unfold execStrayAccess at ht
  try dsimp only at ht
  (repeat' split at ht) <;> (first | cases ht | (injection ht with ht; subst ht) | obtain rfl := finish_next ht) <;> (repeat' (first | (simp [*, vault_foldl, vault_foldl_fst, vault_foldl_snd]; done) | (refine VaultKept.trans ?_ (State.regWrite_kept _ _ _ _)) | split | (simp only [State.answerRead_vault]) | simp [*, vault_foldl, vault_foldl_fst, vault_foldl_snd]))

theorem execSupplyUndervoltage_kept (rail : Nat) (s : State) :
    ∀ out, (execSupplyUndervoltage rail s) = .next out → VaultKept s.vault out.vault := by
  intro out ht
  unfold execSupplyUndervoltage at ht
  try dsimp only at ht
  (repeat' split at ht) <;> (first | cases ht | (injection ht with ht; subst ht) | obtain rfl := finish_next ht) <;> (repeat' (first | (simp [*, vault_foldl, vault_foldl_fst, vault_foldl_snd]; done) | (refine VaultKept.trans ?_ (State.deviceReset_kept _ _)) | split | (simp only [State.answerRead_vault]) | simp [*, vault_foldl, vault_foldl_fst, vault_foldl_snd]))

theorem State.debugCut_kept (s : State) (off len : Nat) (issue : State → Nat → Nat → Option State)
    (h : ∀ s a n out, issue s a n = some out → VaultKept s.vault out.vault) :
    VaultKept s.vault (s.debugCut off len issue).vault := by
  have r : VaultKept s.vault (s.debugGives []).vault := by simp
  unfold State.debugCut
  dsimp only
  split
  · exact vault_kept_getD (fun out ho => h _ _ _ _ ho) r
  · split
    · exact r
    · rename_i t ht
      split
      · exact r
      · rename_i u hu
        have k : VaultKept s.vault u.vault := (h _ _ _ _ ht).trans (h _ _ _ _ hu)
        simpa using k

theorem State.debugRead_kept (s : State) (a : Nat) (len : Nat) : VaultKept s.vault (s.debugRead a len).vault := by
  unfold State.debugRead
  split
  · simp
  · simp
  · simp
  · refine State.debugCut_kept _ _ _ _ fun s off len out ho => ?_
    dsimp only at ho
    split at ho
    · cases ho; simp
    · cases ho
  · exact State.debugCut_kept _ _ _ _ fun s off len out ho => State.read88_kept _ _ _ _ _ ho
  · simp

theorem execOtpProgramDone_kept (missing : W32) (s : State) :
    ∀ out, (execOtpProgramDone missing s) = .next out → VaultKept s.vault out.vault := by
  intro out ht
  unfold execOtpProgramDone at ht
  try dsimp only at ht
  (repeat' split at ht) <;> (first | cases ht | (injection ht with ht; subst ht) | obtain rfl := finish_next ht) <;> (repeat' (first | (simp [*, vault_foldl, vault_foldl_fst, vault_foldl_snd]; done) | (refine VaultKept.trans ?_ (State.otpSet_kept _ _ _)) | split | (simp only [State.answerRead_vault]) | simp [*, vault_foldl, vault_foldl_fst, vault_foldl_snd]))

theorem execEvtClr_kept (r : Requester) (page : Nat) (mask : Nat) (seq : Nat) (s : State) :
    ∀ out, (execEvtClr r page mask seq s) = .next out → VaultKept s.vault out.vault := by
  intro out ht
  unfold execEvtClr at ht
  try dsimp only at ht
  (repeat' split at ht) <;> (first | cases ht | (injection ht with ht; subst ht) | obtain rfl := finish_next ht) <;> (repeat' (first | (simp [*, vault_foldl, vault_foldl_fst, vault_foldl_snd]; done) | (refine VaultKept.trans ?_ (State.regWrite_kept _ _ _ _)) | split | (simp only [State.answerRead_vault]) | simp [*, vault_foldl, vault_foldl_fst, vault_foldl_snd]))

theorem execRegisterWrite_kept (r : Requester) (addr : Nat) (value : W32) (s : State) :
    ∀ out, (execRegisterWrite r addr value s) = .next out → VaultKept s.vault out.vault := by
  intro out ht
  unfold execRegisterWrite at ht
  try dsimp only at ht
  (repeat' split at ht) <;> (first | cases ht | (injection ht with ht; subst ht) | obtain rfl := finish_next ht) <;> (repeat' (first | (simp [*, vault_foldl, vault_foldl_fst, vault_foldl_snd]; done) | (have h := State.finish_vault _ _ ‹_›; simp [← h]; done) | (have h := State.finish_vault _ _ ‹_›; simp [h]; done) | (refine VaultKept.trans ?_ (State.regWrite_kept _ _ _ _)) | split | (simp only [State.answerRead_vault]) | simp [*, vault_foldl, vault_foldl_fst, vault_foldl_snd]))

theorem execCounterClear_kept (r : Requester) (addr : Nat) (s : State) :
    ∀ out, (execCounterClear r addr s) = .next out → VaultKept s.vault out.vault := by
  intro out ht
  unfold execCounterClear at ht
  try dsimp only at ht
  (repeat' split at ht) <;> (first | cases ht | (injection ht with ht; subst ht) | obtain rfl := finish_next ht) <;> (repeat' (first | (simp [*, vault_foldl, vault_foldl_fst, vault_foldl_snd]; done) | (refine VaultKept.trans ?_ (State.regWrite_kept _ _ _ _)) | split | (simp only [State.answerRead_vault]) | simp [*, vault_foldl, vault_foldl_fst, vault_foldl_snd]))

theorem State.tblWrite_kept (s : State) (r : Requester) (page : Nat) (op : Nat) :
    VaultKept s.vault (State.tblWrite s r page op).vault := by
  unfold State.tblWrite
  (repeat' (first | (simp [*, vault_foldl, vault_foldl_fst, vault_foldl_snd]; done) | (refine VaultKept.trans ?_ (State.regWrite_kept _ _ _ _)) | split | (simp only [State.answerRead_vault]) | simp [*, vault_foldl, vault_foldl_fst, vault_foldl_snd]))

theorem execTblNop_kept (r : Requester) (page : Nat) (s : State) :
    ∀ out, (execTblNop r page s) = .next out → VaultKept s.vault out.vault := by
  intro out ht
  unfold execTblNop at ht
  try dsimp only at ht
  (repeat' split at ht) <;> (first | cases ht | (injection ht with ht; subst ht) | obtain rfl := finish_next ht) <;> (repeat' (first | (simp [*, vault_foldl, vault_foldl_fst, vault_foldl_snd]; done) | (refine VaultKept.trans ?_ (State.tblWrite_kept _ _ _ _)) | split | (simp only [State.answerRead_vault]) | simp [*, vault_foldl, vault_foldl_fst, vault_foldl_snd]))

theorem execTblRead_kept (r : Requester) (page : Nat) (s : State) :
    ∀ out, (execTblRead r page s) = .next out → VaultKept s.vault out.vault := by
  intro out ht
  unfold execTblRead at ht
  try dsimp only at ht
  (repeat' split at ht) <;> (first | cases ht | (injection ht with ht; subst ht) | obtain rfl := finish_next ht) <;> (repeat' (first | (simp [*, vault_foldl, vault_foldl_fst, vault_foldl_snd]; done) | (refine VaultKept.trans ?_ (State.tblWrite_kept _ _ _ _)) | split | (simp only [State.answerRead_vault]) | simp [*, vault_foldl, vault_foldl_fst, vault_foldl_snd]))

theorem execTblWrite_kept (r : Requester) (page : Nat) (s : State) :
    ∀ out, (execTblWrite r page s) = .next out → VaultKept s.vault out.vault := by
  intro out ht
  unfold execTblWrite at ht
  try dsimp only at ht
  (repeat' split at ht) <;> (first | cases ht | (injection ht with ht; subst ht) | obtain rfl := finish_next ht) <;> (repeat' (first | (simp [*, vault_foldl, vault_foldl_fst, vault_foldl_snd]; done) | (refine VaultKept.trans ?_ (State.tblWrite_kept _ _ _ _)) | split | (simp only [State.answerRead_vault]) | simp [*, vault_foldl, vault_foldl_fst, vault_foldl_snd]))

theorem execTblReadClear_kept (r : Requester) (page : Nat) (s : State) :
    ∀ out, (execTblReadClear r page s) = .next out → VaultKept s.vault out.vault := by
  intro out ht
  unfold execTblReadClear at ht
  try dsimp only at ht
  (repeat' split at ht) <;> (first | cases ht | (injection ht with ht; subst ht) | obtain rfl := finish_next ht) <;> (repeat' (first | (simp [*, vault_foldl, vault_foldl_fst, vault_foldl_snd]; done) | (refine VaultKept.trans ?_ (State.tblWrite_kept _ _ _ _)) | split | (simp only [State.answerRead_vault]) | simp [*, vault_foldl, vault_foldl_fst, vault_foldl_snd]))

theorem execFrameArrival_kept (port : Nat) (tlp : Tlp) (whole : Bool) (meet : Option (Nat × Nat × Bool × Bool)) (s : State) :
    ∀ out, (execFrameArrival port tlp whole meet s) = .next out → VaultKept s.vault out.vault := by
  intro out ht
  unfold execFrameArrival at ht
  try dsimp only at ht
  (repeat' split at ht) <;> (first | cases ht | (injection ht with ht; subst ht) | obtain rfl := finish_next ht) <;> (repeat' (first | (simp [*, vault_foldl, vault_foldl_fst, vault_foldl_snd]; done) | (refine VaultKept.trans ?_ (State.frameIn_kept _ _ _ _ _ _)) | (have h := State.finish_vault _ _ ‹_›; simp [← h]; done) | (have h := State.finish_vault _ _ ‹_›; simp [h]; done) | split | (simp only [State.answerRead_vault]) | simp [*, vault_foldl, vault_foldl_fst, vault_foldl_snd]))

theorem execCompletionArrival_kept (port : Nat) (tlp : Tlp) (whole : Bool) (ue : Bool) (s : State) :
    ∀ out, (execCompletionArrival port tlp whole ue s) = .next out → VaultKept s.vault out.vault := by
  intro out ht
  unfold execCompletionArrival at ht
  try dsimp only at ht
  (repeat' split at ht) <;> (first | cases ht | (injection ht with ht; subst ht) | obtain rfl := finish_next ht) <;> (repeat' (first | (simp [*, vault_foldl, vault_foldl_fst, vault_foldl_snd]; done) | (refine VaultKept.trans ?_ (State.frameIn_kept _ _ _ _ _ _)) | split | (simp only [State.answerRead_vault]) | simp [*, vault_foldl, vault_foldl_fst, vault_foldl_snd]))

theorem execConfigRead_kept (port : Nat) (tlp : Tlp) (ue : Bool) (s : State) :
    ∀ out, (execConfigRead port tlp ue s) = .next out → VaultKept s.vault out.vault := by
  intro out ht
  unfold execConfigRead at ht
  try dsimp only at ht
  (repeat' split at ht) <;> (first | cases ht | (injection ht with ht; subst ht) | obtain rfl := finish_next ht) <;> (repeat' (first | (simp [*, vault_foldl, vault_foldl_fst, vault_foldl_snd]; done) | (refine VaultKept.trans ?_ (State.frameIn_kept _ _ _ _ _ _)) | split | (simp only [State.answerRead_vault]) | simp [*, vault_foldl, vault_foldl_fst, vault_foldl_snd]))

theorem State.mgmtIn_kept (s : State) (src : Nat) (v : Vc4) :
    VaultKept s.vault (State.mgmtIn s src v).vault := by
  unfold State.mgmtIn
  (repeat' (first | (simp [*, vault_foldl, vault_foldl_fst, vault_foldl_snd]; done) | (refine VaultKept.trans ?_ (State.busWrite_kept _ _ _ _)) | split | (simp only [State.answerRead_vault]) | simp [*, vault_foldl, vault_foldl_fst, vault_foldl_snd]))

theorem execMgmtPacketReceive_kept (link : Nat) (src : Nat) (dst : Nat) (body : Vc4) (s : State) :
    ∀ out, (execMgmtPacketReceive link src dst body s) = .next out → VaultKept s.vault out.vault := by
  intro out ht
  unfold execMgmtPacketReceive at ht
  try dsimp only at ht
  (repeat' split at ht) <;> (first | cases ht | (injection ht with ht; subst ht) | obtain rfl := finish_next ht) <;> (repeat' (first | (simp [*, vault_foldl, vault_foldl_fst, vault_foldl_snd]; done) | (have h := State.finish_vault _ _ ‹_›; simp [← h]; done) | (have h := State.finish_vault _ _ ‹_›; simp [h]; done) | (refine VaultKept.trans ?_ (State.mgmtIn_kept _ _ _)) | split | (simp only [State.answerRead_vault]) | simp [*, vault_foldl, vault_foldl_fst, vault_foldl_snd]))

theorem execBar4RemoteRead_kept (port : Nat) (tlp : Tlp) (s : State) :
    ∀ out, (execBar4RemoteRead port tlp s) = .next out → VaultKept s.vault out.vault := by
  intro out ht
  unfold execBar4RemoteRead at ht
  try dsimp only at ht
  (repeat' split at ht) <;> (first | cases ht | (injection ht with ht; subst ht) | obtain rfl := finish_next ht) <;> (repeat' (first | (simp [*, vault_foldl, vault_foldl_fst, vault_foldl_snd]; done) | (refine VaultKept.trans ?_ (State.frameIn_kept _ _ _ _ _ _)) | split | (simp only [State.answerRead_vault]) | simp [*, vault_foldl, vault_foldl_fst, vault_foldl_snd]))

theorem execBar4RemoteWrite_kept (port : Nat) (tlp : Tlp) (s : State) :
    ∀ out, (execBar4RemoteWrite port tlp s) = .next out → VaultKept s.vault out.vault := by
  intro out ht
  unfold execBar4RemoteWrite at ht
  try dsimp only at ht
  (repeat' split at ht) <;> (first | cases ht | (injection ht with ht; subst ht) | obtain rfl := finish_next ht) <;> (repeat' (first | (simp [*, vault_foldl, vault_foldl_fst, vault_foldl_snd]; done) | (refine VaultKept.trans ?_ (State.frameIn_kept _ _ _ _ _ _)) | split | (simp only [State.answerRead_vault]) | simp [*, vault_foldl, vault_foldl_fst, vault_foldl_snd]))

theorem execCoreLoad_kept (addr : Nat) (size : Nat) (user : Bool) (ecc : Option EccFault) (s : State) :
    ∀ out, (execCoreLoad addr size user ecc s) = .next out → VaultKept s.vault out.vault := by
  intro out ht
  unfold execCoreLoad at ht
  try dsimp only at ht
  (repeat' split at ht) <;> (first | cases ht | (injection ht with ht; subst ht) | obtain rfl := finish_next ht) <;> (repeat' (first | (simp [*, vault_foldl, vault_foldl_fst, vault_foldl_snd]; done) | (have h := State.finish_vault _ _ ‹_›; simp [← h]; done) | (have h := State.finish_vault _ _ ‹_›; simp [h]; done) | (refine VaultKept.trans ?_ (State.coreOp_kept _ _)) | split | (simp only [State.answerRead_vault]) | simp [*, vault_foldl, vault_foldl_fst, vault_foldl_snd]))

theorem execCoreLr_kept (addr : Nat) (wide : Bool) (user : Bool) (ecc : Option EccFault) (s : State) :
    ∀ out, (execCoreLr addr wide user ecc s) = .next out → VaultKept s.vault out.vault := by
  intro out ht
  unfold execCoreLr at ht
  try dsimp only at ht
  (repeat' split at ht) <;> (first | cases ht | (injection ht with ht; subst ht) | obtain rfl := finish_next ht) <;> (repeat' (first | (simp [*, vault_foldl, vault_foldl_fst, vault_foldl_snd]; done) | (have h := State.finish_vault _ _ ‹_›; simp [← h]; done) | (have h := State.finish_vault _ _ ‹_›; simp [h]; done) | (refine VaultKept.trans ?_ (State.coreOp_kept _ _)) | split | (simp only [State.answerRead_vault]) | simp [*, vault_foldl, vault_foldl_fst, vault_foldl_snd]))

theorem execCoreSc_kept (addr : Nat) (data : Nat) (wide : Bool) (user : Bool) (fail : Bool) (ecc : Option EccFault) (s : State) :
    ∀ out, (execCoreSc addr data wide user fail ecc s) = .next out → VaultKept s.vault out.vault := by
  intro out ht
  unfold execCoreSc at ht
  try dsimp only at ht
  (repeat' split at ht) <;> (first | cases ht | (injection ht with ht; subst ht) | obtain rfl := finish_next ht) <;> (repeat' (first | (simp [*, vault_foldl, vault_foldl_fst, vault_foldl_snd]; done) | (have h := State.finish_vault _ _ ‹_›; simp [← h]; done) | (have h := State.finish_vault _ _ ‹_›; simp [h]; done) | (refine VaultKept.trans ?_ (State.coreOp_kept _ _)) | split | (simp only [State.answerRead_vault]) | simp [*, vault_foldl, vault_foldl_fst, vault_foldl_snd]))

theorem execCoreAmo_kept (op : Fin 9) (addr : Nat) (data : Nat) (wide : Bool) (user : Bool) (ecc : Option EccFault) (s : State) :
    ∀ out, (execCoreAmo op addr data wide user ecc s) = .next out → VaultKept s.vault out.vault := by
  intro out ht
  unfold execCoreAmo at ht
  try dsimp only at ht
  (repeat' split at ht) <;> (first | cases ht | (injection ht with ht; subst ht) | obtain rfl := finish_next ht) <;> (repeat' (first | (simp [*, vault_foldl, vault_foldl_fst, vault_foldl_snd]; done) | (have h := State.finish_vault _ _ ‹_›; simp [← h]; done) | (have h := State.finish_vault _ _ ‹_›; simp [h]; done) | (refine VaultKept.trans ?_ (State.coreOp_kept _ _)) | split | (simp only [State.answerRead_vault]) | simp [*, vault_foldl, vault_foldl_fst, vault_foldl_snd]))

theorem State.bootImage_kept (s : State) (slot : Nat) (fallback : Bool) (img : List Byte × List Byte × List Byte) :
    VaultKept s.vault (State.bootImage s slot fallback img).vault := by
  unfold State.bootImage
  (repeat' (first | (simp [*, vault_foldl, vault_foldl_fst, vault_foldl_snd]; done) | (refine VaultKept.trans ?_ (State.sramPut_kept _ _ _)) | split | (simp only [State.answerRead_vault]) | simp [*, vault_foldl, vault_foldl_fst, vault_foldl_snd]))

theorem State.trySlot_at {s t : State} {slot : Nat} {x : Option (List Byte × List Byte × List Byte)}
    (h : s.trySlot slot = (x, t)) : t.vault = s.vault := by
  rw [← State.trySlot_vault s slot, h]

theorem execBootLoadDone_kept (s : State) :
    ∀ out, execBootLoadDone s = .next out → VaultKept s.vault out.vault := by
  intro out ht
  unfold execBootLoadDone at ht
  dsimp only at ht
  split at ht
  · cases ht; exact .refl _
  · split at ht
    · split at ht
      · cases ht; exact .refl _
      · split at ht
        · rename_i h
          cases ht
          rw [← State.trySlot_at h]
          exact State.bootImage_kept _ _ _ _
        · rename_i h
          split at ht
          · rename_i h'
            cases ht
            rw [← State.trySlot_at h, ← State.trySlot_at h']
            exact State.bootImage_kept _ _ _ _
          · rename_i h'
            injection ht with ht
            subst ht
            exact vault_kept_of_eq (by simp [State.trySlot_at h', State.trySlot_at h])
    · split at ht
      · rename_i h
        cases ht
        rw [← State.trySlot_at h]
        exact State.bootImage_kept _ _ _ _
      · rename_i h
        split at ht
        · rename_i h'
          injection ht with ht
          subst ht
          rw [← State.trySlot_at h, ← State.trySlot_at h', State.record_vault]
          exact State.bootImage_kept _ _ _ _
        · rename_i h'
          injection ht with ht
          subst ht
          exact vault_kept_of_eq (by simp [State.trySlot_at h', State.trySlot_at h])

theorem execPwrlossClear_kept (r : Requester) (s : State) :
    ∀ out, (execPwrlossClear r s) = .next out → VaultKept s.vault out.vault := by
  intro out ht
  unfold execPwrlossClear at ht
  try dsimp only at ht
  (repeat' split at ht) <;> (first | cases ht | (injection ht with ht; subst ht) | obtain rfl := finish_next ht) <;> (repeat' (first | (simp [*, vault_foldl, vault_foldl_fst, vault_foldl_snd]; done) | (refine VaultKept.trans ?_ (State.regWrite_kept _ _ _ _)) | split | (simp only [State.answerRead_vault]) | simp [*, vault_foldl, vault_foldl_fst, vault_foldl_snd]))

theorem State.debugWrite_kept (s : State) (a : Nat) (bs : List Byte) : VaultKept s.vault (State.debugWrite s a bs).vault := by
  unfold State.debugWrite
  split
  · rename_i off _
    split
    · exact .refl _
    · refine (State.sramPut_kept s off bs).trans (vault_kept_of_eq ?_)
      dsimp only
      split <;> split <;> simp
  · exact State.busWrite_kept _ _ _ _
  · exact vault_kept_of_eq (by simp)
  · exact vault_kept_of_eq (vault_foldl _ _ _ fun s x => by simp)
  · refine vault_kept_foldl _ _ _ fun s x => ?_
    exact vault_kept_getD (fun out ho => State.write88_kept _ _ _ _ ho) (.refl _)
  · exact .refl _

theorem execDebugAccess_kept (kind : Nat) (addr : Nat) (len : Nat) (data : List Byte) (s : State) :
    ∀ out, (execDebugAccess kind addr len data s) = .next out → VaultKept s.vault out.vault := by
  intro out ht
  unfold execDebugAccess at ht
  try dsimp only at ht
  (repeat' split at ht) <;> (first | cases ht | (injection ht with ht; subst ht) | obtain rfl := finish_next ht) <;> (repeat' (first | (simp [*, vault_foldl, vault_foldl_fst, vault_foldl_snd]; done) | (refine VaultKept.trans ?_ (State.debugRead_kept _ _ _)) | (have h := State.finish_vault _ _ ‹_›; simp [← h]; done) | (have h := State.finish_vault _ _ ‹_›; simp [h]; done) | (refine VaultKept.trans ?_ (State.debugWrite_kept _ _ _)) | split | (simp only [State.answerRead_vault]) | simp [*, vault_foldl, vault_foldl_fst, vault_foldl_snd]))

theorem execMainPowerLoss_kept (rail : Nat) (s : State) :
    ∀ out, (execMainPowerLoss rail s) = .next out → VaultKept s.vault out.vault := by
  intro out ht
  unfold execMainPowerLoss at ht
  try dsimp only at ht
  (repeat' split at ht) <;> (first | cases ht | (injection ht with ht; subst ht) | obtain rfl := finish_next ht) <;> (repeat' (first | (simp [*, vault_foldl, vault_foldl_fst, vault_foldl_snd]; done) | (refine VaultKept.trans ?_ (State.deviceReset_kept _ _)) | split | (simp only [State.answerRead_vault]) | simp [*, vault_foldl, vault_foldl_fst, vault_foldl_snd]))

theorem execResetMgt_kept (s : State) :
    ∀ out, (execResetMgt s) = .next out → VaultKept s.vault out.vault := by
  intro out ht
  unfold execResetMgt at ht
  try dsimp only at ht
  (repeat' split at ht) <;> (first | cases ht | (injection ht with ht; subst ht) | obtain rfl := finish_next ht) <;> (repeat' (first | (simp [*, vault_foldl, vault_foldl_fst, vault_foldl_snd]; done) | (refine VaultKept.trans ?_ (State.subsysReset_kept _ _)) | split | (simp only [State.answerRead_vault]) | simp [*, vault_foldl, vault_foldl_fst, vault_foldl_snd]))

theorem execResetCul_kept (s : State) :
    ∀ out, (execResetCul s) = .next out → VaultKept s.vault out.vault := by
  intro out ht
  unfold execResetCul at ht
  try dsimp only at ht
  (repeat' split at ht) <;> (first | cases ht | (injection ht with ht; subst ht) | obtain rfl := finish_next ht) <;> (repeat' (first | (simp [*, vault_foldl, vault_foldl_fst, vault_foldl_snd]; done) | (refine VaultKept.trans ?_ (State.subsysReset_kept _ _)) | split | (simp only [State.answerRead_vault]) | simp [*, vault_foldl, vault_foldl_fst, vault_foldl_snd]))

theorem execResetTel_kept (s : State) :
    ∀ out, (execResetTel s) = .next out → VaultKept s.vault out.vault := by
  intro out ht
  unfold execResetTel at ht
  try dsimp only at ht
  (repeat' split at ht) <;> (first | cases ht | (injection ht with ht; subst ht) | obtain rfl := finish_next ht) <;> (repeat' (first | (simp [*, vault_foldl, vault_foldl_fst, vault_foldl_snd]; done) | (refine VaultKept.trans ?_ (State.subsysReset_kept _ _)) | split | (simp only [State.answerRead_vault]) | simp [*, vault_foldl, vault_foldl_fst, vault_foldl_snd]))

theorem execResetShake_kept (s : State) :
    ∀ out, (execResetShake s) = .next out → VaultKept s.vault out.vault := by
  intro out ht
  unfold execResetShake at ht
  try dsimp only at ht
  (repeat' split at ht) <;> (first | cases ht | (injection ht with ht; subst ht) | obtain rfl := finish_next ht) <;> (repeat' (first | (simp [*, vault_foldl, vault_foldl_fst, vault_foldl_snd]; done) | (refine VaultKept.trans ?_ (State.subsysReset_kept _ _)) | split | (simp only [State.answerRead_vault]) | simp [*, vault_foldl, vault_foldl_fst, vault_foldl_snd]))

theorem execResetLink_kept (mask : Nat) (s : State) :
    ∀ out, (execResetLink mask s) = .next out → VaultKept s.vault out.vault := by
  intro out ht
  unfold execResetLink at ht
  try dsimp only at ht
  (repeat' split at ht) <;> (first | cases ht | (injection ht with ht; subst ht) | obtain rfl := finish_next ht) <;> (repeat' (first | (simp [*, vault_foldl, vault_foldl_fst, vault_foldl_snd]; done) | (refine VaultKept.trans ?_ (State.subsysReset_kept _ _)) | split | (simp only [State.answerRead_vault]) | simp [*, vault_foldl, vault_foldl_fst, vault_foldl_snd]))

theorem execResetDevice_kept (s : State) :
    ∀ out, (execResetDevice s) = .next out → VaultKept s.vault out.vault := by
  intro out ht
  unfold execResetDevice at ht
  try dsimp only at ht
  (repeat' split at ht) <;> (first | cases ht | (injection ht with ht; subst ht) | obtain rfl := finish_next ht) <;> (repeat' (first | (simp [*, vault_foldl, vault_foldl_fst, vault_foldl_snd]; done) | (refine VaultKept.trans ?_ (State.resetDevice_kept _)) | split | (simp only [State.answerRead_vault]) | simp [*, vault_foldl, vault_foldl_fst, vault_foldl_snd]))

theorem execCriticalTemperature_kept (s : State) :
    ∀ out, (execCriticalTemperature s) = .next out → VaultKept s.vault out.vault := by
  intro out ht
  unfold execCriticalTemperature at ht
  try dsimp only at ht
  (repeat' split at ht) <;> (first | cases ht | (injection ht with ht; subst ht) | obtain rfl := finish_next ht) <;> (repeat' (first | (simp [*, vault_foldl, vault_foldl_fst, vault_foldl_snd]; done) | (refine VaultKept.trans ?_ (State.deviceReset_kept _ _)) | split | (simp only [State.answerRead_vault]) | simp [*, vault_foldl, vault_foldl_fst, vault_foldl_snd]))

theorem execLifecycleAdvanceDone_kept (s : State) :
    ∀ out, (execLifecycleAdvanceDone s) = .next out → VaultKept s.vault out.vault := by
  intro out ht
  unfold execLifecycleAdvanceDone at ht
  try dsimp only at ht
  (repeat' split at ht) <;> (first | cases ht | (injection ht with ht; subst ht) | obtain rfl := finish_next ht) <;> (repeat' (first | (simp [*, vault_foldl, vault_foldl_fst, vault_foldl_snd]; done) | (refine VaultKept.trans ?_ (State.otpSet_kept _ _ _)) | (refine VaultKept.trans ?_ (vault_kept_foldl _ _ _ fun s x => ?_)) | split | (simp only [State.answerRead_vault]) | simp [*, vault_foldl, vault_foldl_fst, vault_foldl_snd]))

theorem State.tick_kept (s : State) :
    ∀ out, (State.tick s) = .next out → VaultKept s.vault out.vault := by
  intro out ht
  unfold State.tick at ht
  try dsimp only at ht
  (repeat' split at ht) <;> (first | cases ht | (injection ht with ht; subst ht) | obtain rfl := finish_next ht) <;> (repeat' (first | (simp [*, vault_foldl, vault_foldl_fst, vault_foldl_snd]; done) | (refine VaultKept.trans ?_ (State.cycle_kept _)) | (have h := State.finish_vault _ _ ‹_›; simp [← h]; done) | (have h := State.finish_vault _ _ ‹_›; simp [h]; done) | split | (simp only [State.answerRead_vault]) | simp [*, vault_foldl, vault_foldl_fst, vault_foldl_snd]))

end Sys2Proof.Machine
end

