-- ==== Sys2Proof/Laws/Registers.lean ====
section
/-! SUPPORT. Registers that reports of events and errors leave alone: all but EVT_STS, EVT_FIRST and ERR_STS. -/

namespace Sys2Proof.Machine

set_option linter.all false


@[simp] theorem reg_mk (s : State) (a : Nat) (x_pending : List Instr) (x_free : Nat) (x_undef : Option Nat) (x_answer : Answer) (x_now : Nat) (x_service : Nat) (x_ctrs : Store Nat) (x_tbls : Store W256) (x_firstAt : Store Nat) (x_evtCycles : Store EvtCycle) (x_latches : Store Latch) (x_tblRuns : Store (Option TblRun)) (x_tb : TimeBase) (x_fs : FrameSync) (x_gates : Store (List Fired)) (x_armInst : Store (Option Nat)) (x_firing : List Nat) (x_sw : Switch) (x_sweep : Sweep) (x_mapOld : Option OldEntry) (x_sessions : Store Session) (x_samplers : Store Sampler) (x_samples : Store (BitVec 1280)) (x_govSeq : Store Nat) (x_err : ErrSt) (x_shadows : Store W32) (x_bars : Store W32) (x_rings : Store RingSt) (x_engines : Store EngSt) (x_engTags : List EngTag) (x_retiredTags : List (BitVec 16 × BitVec 14 × Nat)) (x_insts : Store InstSt) (x_pbaRing : Store Nat) (x_remoteBridges : List (Nat × Nat × Nat)) (x_remotePorts : List (Nat × Nat × Nat)) (x_relayed : Store (Option W32)) (x_announced : Store (Option Nat)) (x_goneRemotes : List (Nat × Nat × Nat)) (x_dpcDue : List (Nat × Nat)) (x_octetAsk : List Nat) (x_unbridged : List Nat) (x_remoteWords : Store W32) (x_homeBuses : Store (Option Nat)) (x_links : Store LinkSt) (x_tests : Store TestUnit) (x_govAt : Store Nat) (x_upSince : Store (Option Nat)) (x_wasUsable : Nat) (x_bar4Next : Nat) (x_bar4 : List RemoteRead) (x_heldCpl : List (Nat × Frame)) (x_coreReads : List CoreRead) (x_sec : SecSt) (x_cul : Culvert) (x_mgt : Mgt) (x_board : Board) (x_slots : Store Slot) (x_drainAt : Nat) (x_safeAt : Nat) (x_uptrip : Option Nat) (x_spvDue : List SpvEvent) :
    (State.mk x_pending x_free x_undef x_answer x_now x_service s.regs x_ctrs x_tbls x_firstAt x_evtCycles x_latches x_tblRuns x_tb x_fs x_gates x_armInst x_firing x_sw x_sweep x_mapOld x_sessions x_samplers x_samples x_govSeq x_err x_shadows x_bars x_rings x_engines x_engTags x_retiredTags x_insts x_pbaRing x_remoteBridges x_remotePorts x_relayed x_announced x_goneRemotes x_dpcDue x_octetAsk x_unbridged x_remoteWords x_homeBuses x_links x_tests x_govAt x_upSince x_wasUsable x_bar4Next x_bar4 x_heldCpl x_coreReads x_sec x_cul x_mgt x_board x_slots x_drainAt x_safeAt x_uptrip x_spvDue).reg a = s.reg a := rfl

@[simp] theorem reg_ite (c : Prop) [Decidable c] (x y : State) (a : Nat) :
    (if c then x else y).reg a = if c then x.reg a else y.reg a := by
  split <;> rfl

theorem reg_foldl {α : Type} (f : State → α → State) (l : List α) (s : State) {a : Nat} (h : ∀ s x, (f s x).reg a = s.reg a) :
    (l.foldl f s).reg a = s.reg a := by
  induction l generalizing s with
  | nil => rfl
  | cons x l ih => simp [ih, h]

theorem statusReg_ne {a : Nat} (h : statusReg a = false) (page : Nat) : a ≠ page * 4096 + 0x10 ∧ a ≠ page * 4096 + 0x1C := by
  simp only [statusReg, Bool.or_eq_false_iff, beq_eq_false_iff_ne, ne_eq] at h
  refine ⟨fun e => h.1.1 ?_, fun e => h.1.2 ?_⟩ <;> rw [e, Nat.mul_add_mod_self_right]

theorem State.reg_setReg_ne {s : State} {b a : Nat} {v : W32} (h : a ≠ b) : (s.setReg b v).reg a = s.reg a :=
  storeGet_storePut_ne _ h

theorem State.reg_fset_ne {s : State} {f : Fld} {a v : Nat} (h : a ≠ f.addr) : (s.fset f v).reg a = s.reg a :=
  State.reg_setReg_ne h

@[simp] theorem State.thermCool_reg (s : State) {a : Nat} (h : statusReg a = false) :
    (State.thermCool s).reg a = s.reg a := by simp [State.thermCool, h]



@[simp] theorem State.modLink_reg (s : State) (f : Nat) (g : LinkSt → LinkSt) {a : Nat} (h : statusReg a = false) :
    (State.modLink s f g).reg a = s.reg a := by simp [State.modLink, h]

@[simp] theorem State.fresh_reg (s : State) {a : Nat} (h : statusReg a = false) :
    (State.fresh s).2.reg a = s.reg a := by simp [State.fresh, h]

@[simp] theorem State.modEngTags_reg (s : State) (f : EngTag → EngTag) {a : Nat} (h : statusReg a = false) :
    (State.modEngTags s f).reg a = s.reg a := by simp [State.modEngTags, h]

@[simp] theorem State.modTag_reg (s : State) (id : Nat) (f : TagRec → TagRec) {a : Nat} (h : statusReg a = false) :
    (State.modTag s id f).reg a = s.reg a := by simp [State.modTag, h]

@[simp] theorem State.dropTag_reg (s : State) (id : Nat) {a : Nat} (h : statusReg a = false) :
    (State.dropTag s id).reg a = s.reg a := by simp [State.dropTag, h]

@[simp] theorem State.setCtr_reg (s : State) (aa : Nat) (v : Nat) {a : Nat} (h : statusReg a = false) :
    (State.setCtr s aa v).reg a = s.reg a := by simp [State.setCtr, h]

@[simp] theorem State.bumpBy_reg (s : State) (aa : Nat) (n : Nat) {a : Nat} (h : statusReg a = false) :
    (State.bumpBy s aa n).reg a = s.reg a := by simp [State.bumpBy, h]

@[simp] theorem State.bump_reg (s : State) (aa : Nat) {a : Nat} (h : statusReg a = false) :
    (State.bump s aa).reg a = s.reg a := by simp [State.bump, h]

@[simp] theorem State.setTbl_reg (s : State) (page : Nat) (table : Nat) (index : Nat) (v : W256) {a : Nat} (h : statusReg a = false) :
    (State.setTbl s page table index v).reg a = s.reg a := by simp [State.setTbl, h]

@[simp] theorem State.evtWins_reg (s : State) (page : Nat) {a : Nat} (h : statusReg a = false) :
    (State.evtWins s page).reg a = s.reg a := by
  have h1 : a ≠ page * 4096 + 0x10 := (statusReg_ne h page).1
  have h2 : a ≠ page * 4096 + 0x1C := (statusReg_ne h page).2
  unfold State.evtWins
  dsimp only
  split
  · rfl
  · exact (State.bumpBy_reg _ _ _ h).trans ((State.reg_setReg_ne h2).trans (State.reg_setReg_ne h1))

@[simp] theorem State.setPort_reg (s : State) (n : Nat) (p : PortSt) {a : Nat} (h : statusReg a = false) :
    (State.setPort s n p).reg a = s.reg a := by simp [State.setPort, h]

@[simp] theorem State.modPort_reg (s : State) (n : Nat) (f : PortSt → PortSt) {a : Nat} (h : statusReg a = false) :
    (State.modPort s n f).reg a = s.reg a := by simp [State.modPort, h]

@[simp] theorem State.setCopies_reg (s : State) (cs : List Copy) {a : Nat} (h : statusReg a = false) :
    (State.setCopies s cs).reg a = s.reg a := by simp [State.setCopies, h]

@[simp] theorem State.enqueue_reg (s : State) (c : Copy) {a : Nat} (h : statusReg a = false) :
    (State.enqueue s c).reg a = s.reg a := by simp [State.enqueue, h]

@[simp] theorem State.notePeak_reg (s : State) (n : Nat) {a : Nat} (h : statusReg a = false) :
    (State.notePeak s n).reg a = s.reg a := by simp [State.notePeak, h]

@[simp] theorem State.store_reg (s : State) (f : Frame) {a : Nat} (h : statusReg a = false) :
    (State.store s f).reg a = s.reg a := by simp [State.store, h]

@[simp] theorem State.wait_reg (s : State) (f : Frame) (need : WaitFor) (cs : List Copy) {a : Nat} (h : statusReg a = false) :
    (State.wait s f need cs).reg a = s.reg a := by simp [State.wait, h]

@[simp] theorem State.admitOrWait_reg (s : State) (f : Frame) (cs : List Copy) {a : Nat} (h : statusReg a = false) :
    (State.admitOrWait s f cs).reg a = s.reg a := by
  unfold State.admitOrWait
  (repeat' (first | (simp [reg_foldl, h]; done) | split))

@[simp] theorem State.devicePost_reg (s : State) (t : Tlp) (pool : Pool) (fid : Nat) (dest : Nat) (why : Purpose) {a : Nat} (h : statusReg a = false) :
    (State.devicePost s t pool fid dest why).reg a = s.reg a := by
  unfold State.devicePost
  dsimp only
  (repeat' split) <;> simp [reg_foldl, h]

@[simp] theorem State.postToHost_reg (s : State) (part : Nat) (addr : W64) (data : List Byte) (pool : Pool) (why : Purpose) {a : Nat} (h : statusReg a = false) :
    (State.postToHost s part addr data pool why).reg a = s.reg a := by
  unfold State.postToHost
  (repeat' split) <;> simp [h]

@[simp] theorem State.setBar_reg (s : State) (fn : Nat) (off : Nat) (v : W32) {a : Nat} (h : statusReg a = false) :
    (State.setBar s fn off v).reg a = s.reg a := by simp [State.setBar, h]

@[simp] theorem State.mgmtMessage_reg (s : State) (part : Nat) (vec : Nat) {a : Nat} (h : statusReg a = false) :
    (State.mgmtMessage s part vec).reg a = s.reg a := by simp [State.mgmtMessage, h]

@[simp] theorem State.sendVectors_reg (s : State) (page : Nat) (before : Nat → Bool) {a : Nat} (h : statusReg a = false) :
    (State.sendVectors s page before).reg a = s.reg a := by
  unfold State.sendVectors
  refine reg_foldl _ _ _ fun s x => ?_
  split
  · exact State.mgmtMessage_reg _ _ _ h
  · rfl

@[simp] theorem State.raiseAll_reg (s : State) (page : Nat) (evs : List Nat) {a : Nat} (h : statusReg a = false) :
    (State.raiseAll s page evs).reg a = s.reg a := by
  have h1 : a ≠ page * 4096 + 0x10 := (statusReg_ne h page).1
  have h2 : a ≠ page * 4096 + 0x1C := (statusReg_ne h page).2
  unfold State.raiseAll
  split
  · rfl
  · extract_lets s0 sts seq ev vec before s1 first low s2
    have k0 : s0.reg a = s.reg a := State.evtWins_reg _ _ h
    have k1 : s1.reg a = s.reg a := (State.reg_setReg_ne h1).trans k0
    have k2 : s2.reg a = s.reg a := by
      simp only [s2]
      split
      · exact (State.reg_setReg_ne h2).trans k1
      · exact k1
    split
    · exact (State.sendVectors_reg _ _ _ h).trans k2
    · exact k2

@[simp] theorem State.raise_reg (s : State) (page ev : Nat) {a : Nat} (h : statusReg a = false) :
    (State.raise s page ev).reg a = s.reg a := by
  unfold State.raise
  split <;> simp [h]

@[simp] theorem State.setLogSlot_reg (s : State) (slot v : Nat) {a : Nat} (h : statusReg a = false) :
    (State.setLogSlot s slot v).reg a = s.reg a := reg_foldl _ _ _ fun _ _ => State.setTbl_reg _ _ _ _ _ h

@[simp] theorem State.swapRecords_reg (s : State) (a b : Nat) {r : Nat} (h : statusReg r = false) :
    (State.swapRecords s a b).reg r = s.reg r := by
  have h' := h
  simp only [statusReg, Bool.or_eq_false_iff, beq_eq_false_iff_ne, ne_eq] at h'
  have e : ∀ {s : State} {hi lo v : Nat}, (s.fset ⟨0x50020, hi, lo⟩ v).reg r = s.reg r := State.reg_fset_ne h'.2
  exact e.trans ((State.setLogSlot_reg _ _ _ h).trans (State.setLogSlot_reg _ _ _ h))

@[simp] theorem State.logRecord_reg (s : State) (v level : Nat) {a : Nat} (h : statusReg a = false) :
    (State.logRecord s v level).reg a = s.reg a := by
  have h' := h
  simp only [statusReg, Bool.or_eq_false_iff, beq_eq_false_iff_ne, ne_eq] at h'
  have e : ∀ {s : State} {hi lo v : Nat}, (s.fset ⟨0x50020, hi, lo⟩ v).reg a = s.reg a := State.reg_fset_ne h'.2
  have hf : ∀ (s : State) (n : Nat), ((upTo 4).foldl (fun s q => s.setTbl 0x50 0 (4 * n + q) (BitVec.ofNat 256 (v / 2 ^ (256 * q)))) s).reg a
      = s.reg a := fun s n => reg_foldl _ _ _ fun _ _ => State.setTbl_reg _ _ _ _ _ h
  unfold State.logRecord
  extract_lets slot s1 s2 s3 s4 s5 s6
  have h1 : s1.reg a = s.reg a := hf s slot
  have h2 : s2.reg a = s.reg a := e.trans h1
  have h3 : s3.reg a = s.reg a := by
    simp only [s3]
    split
    · exact e.trans h2
    · exact h2
  have h5 : s5.reg a = s.reg a := h3
  have h6 : s6.reg a = s.reg a := by
    simp only [s6]
    split
    · exact (e.trans e).trans h5
    · exact h5
  rw [State.raise_reg _ _ _ h, State.bump_reg _ _ h, h6]

@[simp] theorem State.tset_reg (s : State) (page : Nat) (table : Nat) (index : Nat) (hi : Nat) (lo : Nat) (v : Nat) {a : Nat} (h : statusReg a = false) :
    (State.tset s page table index hi lo v).reg a = s.reg a := by simp [State.tset, h]

@[simp] theorem State.ringOwed_reg (s : State) (part : Nat) {a : Nat} (h : statusReg a = false) :
    (State.ringOwed s part).reg a = s.reg a := by simp [State.ringOwed, h]

@[simp] theorem State.deliverRecord_reg (s : State) (part : Nat) (bs : List Byte) {a : Nat} (h : statusReg a = false) :
    (State.deliverRecord s part bs).reg a = s.reg a := by simp [State.deliverRecord, h]

@[simp] theorem State.swaps_reg (s : State) (n slot : Nat) {a : Nat} (h : statusReg a = false) :
    ((upTo n).foldl (fun s j => s.swapRecords ((slot + 2047 - j) % 1024) ((slot + 2048 - j) % 1024)) s).reg a
      = s.reg a := reg_foldl _ _ _ fun _ _ => State.swapRecords_reg _ _ _ h

@[simp] theorem State.record_reg (s : State) (code : Nat) (level : Nat) (part : Option Nat) (port : Nat) (detail : Nat) {a : Nat} (h : statusReg a = false) :
    (State.record s code level part port detail).reg a = s.reg a := by
  unfold State.record
  dsimp only
  (repeat' split) <;> simp [reg_foldl, h]

@[simp] theorem State.recordFrame_reg (s : State) (code : Nat) (level : Nat) (f : Frame) (extra : Nat) {a : Nat} (h : statusReg a = false) :
    (State.recordFrame s code level f extra).reg a = s.reg a := by simp [State.recordFrame, h]

@[simp] theorem State.cplNoRoute_reg (s : State) (f : Frame) {a : Nat} (h : statusReg a = false) :
    (State.cplNoRoute s f).reg a = s.reg a := by simp [State.cplNoRoute, h]

@[simp] theorem State.complete_reg (s : State) (f : Frame) (st : CplStatus) (data : List Byte) {a : Nat} (h : statusReg a = false) :
    (State.complete s f st data).reg a = s.reg a := by
  cases hr : f.record <;> simp only [State.complete, hr, State.fresh] <;> (repeat' split) <;> simp [h]

@[simp] theorem State.tbump_reg (s : State) (page : Nat) (table : Nat) (index : Nat) (hi : Nat) (lo : Nat) (n : Nat) {a : Nat} (h : statusReg a = false) :
    (State.tbump s page table index hi lo n).reg a = s.reg a := by simp [State.tbump, h]

@[simp] theorem State.countSample_reg (s : State) (k : Nat) (n : Nat) (f : Option Frame) {a : Nat} (h : statusReg a = false) :
    (State.countSample s k n f).reg a = s.reg a := by simp [State.countSample, h]

@[simp] theorem State.tel_reg (s : State) (event : Nat) (port : Nat) (n : Nat) (f : (Option Frame)) {a : Nat} (h : statusReg a = false) :
    (State.tel s event port n f).reg a = s.reg a := by
  unfold State.tel
  dsimp only
  (repeat' split) <;> simp [reg_foldl, h]

@[simp] theorem State.setCfg_reg (s : State) (fn : Nat) (off : Nat) (v : W32) {a : Nat} (h : statusReg a = false) :
    (State.setCfg s fn off v).reg a = s.reg a := by simp [State.setCfg, h]

@[simp] theorem State.orCfg_reg (s : State) (fn : Nat) (off : Nat) (m : W32) {a : Nat} (h : statusReg a = false) :
    (State.orCfg s fn off m).reg a = s.reg a := by simp [State.orCfg, h]

@[simp] theorem State.putCfg_reg (s : State) (fn : Nat) (off : Nat) (hi : Nat) (lo : Nat) (v : Nat) {a : Nat} (h : statusReg a = false) :
    (State.putCfg s fn off hi lo v).reg a = s.reg a := by simp [State.putCfg, h]

@[simp] theorem State.aerLog_reg (s : State) (fn : Nat) (b : Nat) (hdr : List Byte) {a : Nat} (h : statusReg a = false) :
    (State.aerLog s fn b hdr).reg a = s.reg a := by
  unfold State.aerLog
  dsimp only
  (repeat' split) <;> simp [reg_foldl, h]

@[simp] theorem State.errSignal_reg (s : State) (fn : Nat) (part : Nat) (code : BitVec 8) {a : Nat} (h : statusReg a = false) :
    (State.errSignal s fn part code).reg a = s.reg a := by
  unfold State.errSignal
  (repeat' split) <;> simp [h]

@[simp] theorem State.aerUncorrectable_reg (s : State) (fn : Nat) (part : Nat) (b : Nat) (hdr : List Byte) {a : Nat} (h : statusReg a = false) :
    (State.aerUncorrectable s fn part b hdr).reg a = s.reg a := by
  unfold State.aerUncorrectable
  dsimp only
  (repeat' split) <;> simp [reg_foldl, h]

@[simp] theorem State.portAer_reg (s : State) (port : Nat) (b : Nat) (hdr : List Byte) {a : Nat} (h : statusReg a = false) :
    (State.portAer s port b hdr).reg a = s.reg a := by simp [State.portAer, h]

@[simp] theorem State.aerCorrectable_reg (s : State) (fn : Nat) (part : Nat) (b : Nat) {a : Nat} (h : statusReg a = false) :
    (State.aerCorrectable s fn part b).reg a = s.reg a := by
  unfold State.aerCorrectable
  dsimp only
  (repeat' split) <;> simp [reg_foldl, h]

@[simp] theorem State.aerAdvise_reg (s : State) (fn : Nat) (part : Nat) (b : Nat) (hdr : List Byte) {a : Nat} (h : statusReg a = false) :
    (State.aerAdvise s fn part b hdr).reg a = s.reg a := by simp [State.aerAdvise, h]

@[simp] theorem State.portAdvise_reg (s : State) (port : Nat) (b : Nat) (hdr : List Byte) {a : Nat} (h : statusReg a = false) :
    (State.portAdvise s port b hdr).reg a = s.reg a := by simp [State.portAdvise, h]

@[simp] theorem State.unsupported_reg (s : State) (f : Frame) {a : Nat} (h : statusReg a = false) :
    (State.unsupported s f).reg a = s.reg a := by simp [State.unsupported, h]

@[simp] theorem State.owe_reg (s : State) (ring : Nat) {a : Nat} (h : statusReg a = false) :
    (State.owe s ring).reg a = s.reg a := by simp [State.owe, h]

@[simp] theorem State.ledger_reg (s : State) (r : LedgerRec) {a : Nat} (h : statusReg a = false) :
    (State.ledger s r).reg a = s.reg a := by simp [State.ledger, h]

@[simp] theorem State.ledgerCopy_reg (s : State) (f : Frame) (c : Copy) (reason : Nat) (arrival : Bool) (egress : (Option Nat)) {a : Nat} (h : statusReg a = false) :
    (State.ledgerCopy s f c reason arrival egress).reg a = s.reg a := by
  unfold State.ledgerCopy
  (repeat' split) <;> simp [h]

@[simp] theorem State.losePacket_reg (s : State) (f : Nat) (p : Packet) {a : Nat} (h : statusReg a = false) :
    (State.losePacket s f p).reg a = s.reg a := by
  unfold State.losePacket
  (repeat' split) <;> simp [h]

@[simp] theorem State.linkSlots_reg (s : State) (port : Nat) (category : Nat) (n : Nat) {a : Nat} (h : statusReg a = false) :
    (State.linkSlots s port category n).reg a = s.reg a := by simp [State.linkSlots, h]

@[simp] theorem State.wasteSlots_reg (s : State) (n : Nat) {a : Nat} (h : statusReg a = false) :
    (State.wasteSlots s n).reg a = s.reg a := by simp [State.wasteSlots, h]

@[simp] theorem State.removeCopy_reg (s : State) (id : Nat) {a : Nat} (h : statusReg a = false) :
    (State.removeCopy s id).reg a = s.reg a := by simp [State.removeCopy, h]

@[simp] theorem State.reap_reg (s : State) {a : Nat} (h : statusReg a = false) :
    (State.reap s).reg a = s.reg a := by simp [State.reap, h]

@[simp] theorem State.loseCopy_reg (s : State) (c : Copy) (reason : Nat) (ctrP : Nat) (ctrNp : Nat) (ctrCpl : Nat) {a : Nat} (h : statusReg a = false) :
    (State.loseCopy s c reason ctrP ctrNp ctrCpl).reg a = s.reg a := by
  unfold State.loseCopy
  (repeat' split) <;> simp [h]

@[simp] theorem State.flushCopy_reg (s : State) (c : Copy) {a : Nat} (h : statusReg a = false) :
    (State.flushCopy s c).reg a = s.reg a := by simp [State.flushCopy, h]

@[simp] theorem State.loseSending_reg (s : State) (n : Nat) {a : Nat} (h : statusReg a = false) :
    (State.loseSending s n).reg a = s.reg a := by
  unfold State.loseSending
  (repeat' (first | (simp [reg_foldl, h]; done) | split))

@[simp] theorem State.startFlush_reg (s : State) (n : Nat) {a : Nat} (h : statusReg a = false) :
    (State.startFlush s n).reg a = s.reg a := by simp [State.startFlush, h]

@[simp] theorem State.loseWaiting_reg (s : State) (w : Waiting) {a : Nat} (h : statusReg a = false) :
    (State.loseWaiting s w).reg a = s.reg a := by simp [State.loseWaiting, h]

@[simp] theorem State.drawWord_reg (s : State) {a : Nat} (h : statusReg a = false) :
    (State.drawWord s).2.reg a = s.reg a := by simp [State.drawWord, h]

@[simp] theorem State.drawBytes_reg (s : State) {a : Nat} (h : statusReg a = false) :
    (State.drawBytes s).2.reg a = s.reg a := by simp [State.drawBytes, h]

@[simp] theorem State.pushFired_reg (s : State) (g : Nat) (c : Fired) {a : Nat} (h : statusReg a = false) :
    (State.pushFired s g c).reg a = s.reg a := by simp [State.pushFired, h]

@[simp] theorem State.fireSlot_reg (s : State) (g : Nat) (k : Nat) (t : Nat) {a : Nat} (h : statusReg a = false) :
    (State.fireSlot s g k t).reg a = s.reg a := by simp [State.fireSlot, h]

@[simp] theorem State.fireAll_reg (s : State) (g : Nat) (xs : List (Nat × Nat)) {a : Nat} (h : statusReg a = false) :
    (State.fireAll s g xs).reg a = s.reg a := by
  unfold State.fireAll
  dsimp only
  (repeat' split) <;> simp [reg_foldl, h]

@[simp] theorem State.fireDue_reg (s : State) {a : Nat} (h : statusReg a = false) :
    (State.fireDue s).reg a = s.reg a := by
  unfold State.fireDue
  (repeat' (first | (simp [reg_foldl, h]; done) | split))

@[simp] theorem State.barrierStart_reg (s : State) (who : Nat) (waits : List Nat) (gather : Bool) {a : Nat} (h : statusReg a = false) :
    (State.barrierStart s who waits gather).reg a = s.reg a := by simp [State.barrierStart, h]

@[simp] theorem State.setView_reg (s : State) (who : Nat) (v : BarrierView) {a : Nat} (h : statusReg a = false) :
    (State.setView s who v).reg a = s.reg a := by simp [State.setView, h]

@[simp] theorem State.culBarrier_reg (s : State) (r : Requester) {a : Nat} (h : statusReg a = false) :
    (State.culBarrier s r).reg a = s.reg a := by simp [State.culBarrier, h]

@[simp] theorem State.histRecord_reg (s : State) (u : Nat) (v : Nat) {a : Nat} (h : statusReg a = false) :
    (State.histRecord s u v).reg a = s.reg a := by simp [State.histRecord, h]

@[simp] theorem State.modTest_reg (s : State) (u : Nat) (f : TestUnit → TestUnit) {a : Nat} (h : statusReg a = false) :
    (State.modTest s u f).reg a = s.reg a := by simp [State.modTest, h]

@[simp] theorem State.showRemote_reg (s : State) (fid : Nat) (port : Nat) {a : Nat} (h : statusReg a = false) :
    (State.showRemote s fid port).reg a = s.reg a := by simp [State.showRemote, h]

@[simp] theorem State.fixBridges_reg (s : State) (part : Nat) {a : Nat} (h : statusReg a = false) :
    (State.fixBridges s part).reg a = s.reg a := by
  unfold State.fixBridges
  dsimp only
  (repeat' split) <;> simp [reg_foldl, h]

@[simp] theorem State.clearFn_reg (s : State) (fn : Nat) {a : Nat} (h : statusReg a = false) :
    (State.clearFn s fn).reg a = s.reg a := by simp [State.clearFn, h]

@[simp] theorem State.modInst_reg (s : State) (i : Nat) (f : InstSt → InstSt) {a : Nat} (h : statusReg a = false) :
    (State.modInst s i f).reg a = s.reg a := by simp [State.modInst, h]

@[simp] theorem State.setQreg_reg (s : State) (i : Nat) (q : Nat) (off : Nat) (v : Nat) {a : Nat} (h : statusReg a = false) :
    (State.setQreg s i q off v).reg a = s.reg a := by simp [State.setQreg, h]

@[simp] theorem State.setRing_reg (s : State) (i : Nat) (q : Nat) (r : RingSt) {a : Nat} (h : statusReg a = false) :
    (State.setRing s i q r).reg a = s.reg a := by simp [State.setRing, h]

@[simp] theorem State.modRing_reg (s : State) (i : Nat) (q : Nat) (f : RingSt → RingSt) {a : Nat} (h : statusReg a = false) :
    (State.modRing s i q f).reg a = s.reg a := by simp [State.modRing, h]

@[simp] theorem State.overlapFault_reg (s : State) (f : Frame) (aa : Nat) (b : Nat) {a : Nat} (h : statusReg a = false) :
    (State.overlapFault s f aa b).reg a = s.reg a := by simp [State.overlapFault, h]

@[simp] theorem State.poisonDrop_reg (s : State) (f : Frame) {a : Nat} (h : statusReg a = false) :
    (State.poisonDrop s f).reg a = s.reg a := by simp [State.poisonDrop, h]

@[simp] theorem State.mgmtUnmask_reg (s : State) (part : Nat) {a : Nat} (h : statusReg a = false) :
    (State.mgmtUnmask s part).reg a = s.reg a := by
  unfold State.mgmtUnmask
  dsimp only
  (repeat' split) <;> simp [reg_foldl, h]

@[simp] theorem State.bar2Write_reg (s : State) (part : Nat) (off : Nat) (v : W32) {a : Nat} (h : statusReg a = false) :
    (State.bar2Write s part off v).reg a = s.reg a := by simp [State.bar2Write, h]

@[simp] theorem State.bar2Store_reg (s : State) (part : Nat) (off : Nat) (bs : List Byte) {a : Nat} (h : statusReg a = false) :
    (State.bar2Store s part off bs).reg a = s.reg a := by
  unfold State.bar2Store
  dsimp only
  (repeat' split) <;> simp [reg_foldl, h]

@[simp] theorem State.partialWrite_reg (s : State) (r : Requester) (aa : Nat) {a : Nat} (h : statusReg a = false) :
    (State.partialWrite s r aa).reg a = s.reg a := by simp [State.partialWrite, h]

@[simp] theorem State.countForeign_reg (s : State) (r : Requester) (p : PageAt) {a : Nat} (h : statusReg a = false) :
    (State.countForeign s r p).reg a = s.reg a := by
  unfold State.countForeign
  (repeat' split) <;> simp [h]

@[simp] theorem State.advertise_reg (s : State) (n : Nat) {a : Nat} (h : statusReg a = false) :
    (State.advertise s n).reg a = s.reg a := by simp [State.advertise, h]

@[simp] theorem State.sendCtl_reg (s : State) (f : Nat) (d : W64) {a : Nat} (h : statusReg a = false) :
    (State.sendCtl s f d).reg a = s.reg a := by simp [State.sendCtl, h]

@[simp] theorem State.sendMask_reg (s : State) (f : Nat) (old : Nat) (mask : Nat) {a : Nat} (h : statusReg a = false) :
    (State.sendMask s f old mask).reg a = s.reg a := by simp [State.sendMask, h]

@[simp] theorem State.putQreg_reg (s : State) (i : Nat) (q : Nat) (off : Nat) (hi : Nat) (lo : Nat) (v : Nat) {a : Nat} (h : statusReg a = false) :
    (State.putQreg s i q off hi lo v).reg a = s.reg a := by simp [State.putQreg, h]

@[simp] theorem State.coreDone_reg (s : State) (id : Nat) (data : List Byte) {a : Nat} (h : statusReg a = false) :
    (State.coreDone s id data).reg a = s.reg a := by simp [State.coreDone, h]

@[simp] theorem State.coreAnswer_reg (s : State) (record : Nat) (c : Tlp) {a : Nat} (h : statusReg a = false) :
    (State.coreAnswer s record c).reg a = s.reg a := by simp [State.coreAnswer, h]

@[simp] theorem State.lbAnswer_reg (s : State) (o : LbOp) (data : List Byte) {a : Nat} (h : statusReg a = false) :
    (State.lbAnswer s o data).reg a = s.reg a := by
  unfold State.lbAnswer
  (repeat' split) <;> simp [h]

@[simp] theorem State.coreTrap_reg (s : State) (cause : Nat) (addr : Nat) {a : Nat} (h : statusReg a = false) :
    (State.coreTrap s cause addr).reg a = s.reg a := by simp [State.coreTrap, h]

@[simp] theorem State.busErrRecord_reg (s : State) (addr : Nat) (cause : Nat) {a : Nat} (h : statusReg a = false) :
    (State.busErrRecord s addr cause).reg a = s.reg a := by simp [State.busErrRecord, h]

@[simp] theorem State.barrierSees_reg (s : State) (id : Nat) (failed : Option (Nat × Nat)) {a : Nat} (h : statusReg a = false) :
    (State.barrierSees s id failed).reg a = s.reg a := by simp [State.barrierSees, h]

@[simp] theorem State.lbWriteFails_reg (s : State) (o : LbOp) {a : Nat} (h : statusReg a = false) :
    (State.lbWriteFails s o).reg a = s.reg a := by
  unfold State.lbWriteFails
  (repeat' split) <;> simp [h]

@[simp] theorem State.dropPrefetch_reg (s : State) {a : Nat} (h : statusReg a = false) :
    (State.dropPrefetch s).reg a = s.reg a := by simp [State.dropPrefetch, h]

@[simp] theorem State.startReport_reg (s : State) {a : Nat} (h : statusReg a = false) :
    (State.startReport s).reg a = s.reg a := by
  unfold State.startReport
  (repeat' split) <;> simp [h]

@[simp] theorem State.extend_reg (s : State) (i : Nat) (x : List Byte) {a : Nat} (h : statusReg a = false) :
    (State.extend s i x).reg a = s.reg a := by simp [State.extend, h]

@[simp] theorem State.measExt_reg (s : State) (i : Nat) {a : Nat} (h : statusReg a = false) :
    (State.measExt s i).reg a = s.reg a := by simp [State.measExt, h]

@[simp] theorem State.wdogKick_reg (s : State) {a : Nat} (h : statusReg a = false) :
    (State.wdogKick s).reg a = s.reg a := by simp [State.wdogKick, h]

@[simp] theorem State.culWarm_reg (s : State) {a : Nat} (h : statusReg a = false) :
    (State.culWarm s).reg a = s.reg a := by
  unfold State.culWarm
  (repeat' split) <;> simp [h]

@[simp] theorem State.modSlot_reg (s : State) (n : Nat) (f : Slot → Slot) {a : Nat} (h : statusReg a = false) :
    (State.modSlot s n f).reg a = s.reg a := by simp [State.modSlot, h]

@[simp] theorem State.slotBits_reg (s : State) (n : Nat) (m : W32) {a : Nat} (h : statusReg a = false) :
    (State.slotBits s n m).reg a = s.reg a := by
  unfold State.slotBits
  (repeat' split) <;> simp [h]

@[simp] theorem State.slotRecord_reg (s : State) (code : Nat) (n : Nat) (detail : Nat) {a : Nat} (h : statusReg a = false) :
    (State.slotRecord s code n detail).reg a = s.reg a := by
  unfold State.slotRecord
  (repeat' split) <;> simp [h]

@[simp] theorem State.histClear_reg (s : State) (u : Nat) {a : Nat} (h : statusReg a = false) :
    (State.histClear s u).reg a = s.reg a := by
  unfold State.histClear
  dsimp only
  (repeat' split) <;> simp [reg_foldl, h]

@[simp] theorem State.modSampler_reg (s : State) (k : Nat) (f : Sampler → Sampler) {a : Nat} (h : statusReg a = false) :
    (State.modSampler s k f).reg a = s.reg a := by simp [State.modSampler, h]

@[simp] theorem State.evict_reg (s : State) (v : Frame) {a : Nat} (h : statusReg a = false) :
    (State.evict s v).reg a = s.reg a := by
  unfold State.evict
  dsimp only
  (repeat' split) <;> simp [reg_foldl, h]

@[simp] theorem State.wroteEntry_reg (s : State) (table : Nat) (index : Nat) {a : Nat} (h : statusReg a = false) :
    (State.wroteEntry s table index).reg a = s.reg a := by simp [State.wroteEntry, h]

@[simp] theorem State.markOlder_reg (s : State) {a : Nat} (h : statusReg a = false) :
    (State.markOlder s).reg a = s.reg a := by simp [State.markOlder, h]

@[simp] theorem State.modSession_reg (s : State) (k : Nat) (f : Session → Session) {a : Nat} (h : statusReg a = false) :
    (State.modSession s k f).reg a = s.reg a := by simp [State.modSession, h]

@[simp] theorem State.stepTime_reg (s : State) (v : Nat) {a : Nat} (h : statusReg a = false) :
    (State.stepTime s v).reg a = s.reg a := by
  unfold State.stepTime
  dsimp only
  (repeat' split) <;> simp [reg_foldl, h]

@[simp] theorem State.tbSet_reg (s : State) {a : Nat} (h : statusReg a = false) :
    (State.tbSet s).reg a = s.reg a := by simp [State.tbSet, h]

@[simp] theorem State.gateForce_reg (s : State) (g : Nat) (bank : Bool) {a : Nat} (h : statusReg a = false) :
    (State.gateForce s g bank).reg a = s.reg a := by simp [State.gateForce, h]

@[simp] theorem State.setInstant_reg (s : State) (g : Nat) (k : Nat) (t : Option Nat) {a : Nat} (h : statusReg a = false) :
    (State.setInstant s g k t).reg a = s.reg a := by simp [State.setInstant, h]

@[simp] theorem State.discardReads_reg (s : State) (i : Nat) (q : Nat) (n : Nat) {a : Nat} (h : statusReg a = false) :
    (State.discardReads s i q n).reg a = s.reg a := by simp [State.discardReads, h]

@[simp] theorem State.modRun_reg (s : State) (i : Nat) (q : Nat) (n : Nat) (f : DescRun → DescRun) {a : Nat} (h : statusReg a = false) :
    (State.modRun s i q n f).reg a = s.reg a := by simp [State.modRun, h]

@[simp] theorem State.endDesc_reg (s : State) (i : Nat) (q : Nat) (n : Nat) (status : Nat) (result : Nat) {a : Nat} (h : statusReg a = false) :
    (State.endDesc s i q n status result).reg a = s.reg a := by simp [State.endDesc, h]

@[simp] theorem State.presence_reg (s : State) (part : Nat) {a : Nat} (h : statusReg a = false) :
    (State.presence s part).reg a = s.reg a := by simp [State.presence, h]

@[simp] theorem State.dropFunction_reg (s : State) (i : Nat) {a : Nat} (h : statusReg a = false) :
    (State.dropFunction s i).reg a = s.reg a := by
  unfold State.dropFunction
  (repeat' (first | (simp [reg_foldl, h]; done) | split))

@[simp] theorem State.startFreezeFences_reg (s : State) (i : Nat) {a : Nat} (h : statusReg a = false) :
    (State.startFreezeFences s i).reg a = s.reg a := by
  unfold State.startFreezeFences
  dsimp only
  (repeat' split) <;> simp [reg_foldl, h]

@[simp] theorem State.refuseLive_reg (s : State) (f : Frame) (cs : List Copy) {a : Nat} (h : statusReg a = false) :
    (State.refuseLive s f cs).reg a = s.reg a := by
  unfold State.refuseLive
  dsimp only
  (repeat' split) <;> simp [reg_foldl, h]

@[simp] theorem State.drawNat_reg (s : State) {a : Nat} (h : statusReg a = false) :
    (State.drawNat s).2.reg a = s.reg a := by simp [State.drawNat, h]

end Sys2Proof.Machine
end

