-- ==== Sys2Proof/Laws/State.lean ====
section
/-! SUPPORT. What each update of State leaves alone, field by field. -/

namespace Sys2Proof.Machine

@[simp] theorem State.setReg_pending (s : State) (a : Nat) (v : W32) : (s.setReg a v).pending = s.pending := rfl
@[simp] theorem State.setReg_free (s : State) (a : Nat) (v : W32) : (s.setReg a v).free = s.free := rfl
@[simp] theorem State.setReg_undef (s : State) (a : Nat) (v : W32) : (s.setReg a v).undef = s.undef := rfl
@[simp] theorem State.setReg_answer (s : State) (a : Nat) (v : W32) : (s.setReg a v).answer = s.answer := rfl
@[simp] theorem State.setReg_now (s : State) (a : Nat) (v : W32) : (s.setReg a v).now = s.now := rfl
@[simp] theorem State.setReg_service (s : State) (a : Nat) (v : W32) : (s.setReg a v).service = s.service := rfl
@[simp] theorem State.setReg_ctrs (s : State) (a : Nat) (v : W32) : (s.setReg a v).ctrs = s.ctrs := rfl
@[simp] theorem State.setReg_tbls (s : State) (a : Nat) (v : W32) : (s.setReg a v).tbls = s.tbls := rfl
@[simp] theorem State.setReg_latches (s : State) (a : Nat) (v : W32) : (s.setReg a v).latches = s.latches := rfl
@[simp] theorem State.setReg_tblRuns (s : State) (a : Nat) (v : W32) : (s.setReg a v).tblRuns = s.tblRuns := rfl
@[simp] theorem State.setReg_tb (s : State) (a : Nat) (v : W32) : (s.setReg a v).tb = s.tb := rfl
@[simp] theorem State.setReg_fs (s : State) (a : Nat) (v : W32) : (s.setReg a v).fs = s.fs := rfl
@[simp] theorem State.setReg_gates (s : State) (a : Nat) (v : W32) : (s.setReg a v).gates = s.gates := rfl
@[simp] theorem State.setReg_armInst (s : State) (a : Nat) (v : W32) : (s.setReg a v).armInst = s.armInst := rfl
@[simp] theorem State.setReg_firing (s : State) (a : Nat) (v : W32) : (s.setReg a v).firing = s.firing := rfl
@[simp] theorem State.setReg_sw (s : State) (a : Nat) (v : W32) : (s.setReg a v).sw = s.sw := rfl
@[simp] theorem State.setReg_sweep (s : State) (a : Nat) (v : W32) : (s.setReg a v).sweep = s.sweep := rfl
@[simp] theorem State.setReg_sessions (s : State) (a : Nat) (v : W32) : (s.setReg a v).sessions = s.sessions := rfl
@[simp] theorem State.setReg_samplers (s : State) (a : Nat) (v : W32) : (s.setReg a v).samplers = s.samplers := rfl
@[simp] theorem State.setReg_samples (s : State) (a : Nat) (v : W32) : (s.setReg a v).samples = s.samples := rfl
@[simp] theorem State.setReg_govSeq (s : State) (a : Nat) (v : W32) : (s.setReg a v).govSeq = s.govSeq := rfl
@[simp] theorem State.setReg_err (s : State) (a : Nat) (v : W32) : (s.setReg a v).err = s.err := rfl
@[simp] theorem State.setReg_shadows (s : State) (a : Nat) (v : W32) : (s.setReg a v).shadows = s.shadows := rfl
@[simp] theorem State.setReg_bars (s : State) (a : Nat) (v : W32) : (s.setReg a v).bars = s.bars := rfl
@[simp] theorem State.setReg_rings (s : State) (a : Nat) (v : W32) : (s.setReg a v).rings = s.rings := rfl
@[simp] theorem State.setReg_engines (s : State) (a : Nat) (v : W32) : (s.setReg a v).engines = s.engines := rfl
@[simp] theorem State.setReg_engTags (s : State) (a : Nat) (v : W32) : (s.setReg a v).engTags = s.engTags := rfl
@[simp] theorem State.setReg_insts (s : State) (a : Nat) (v : W32) : (s.setReg a v).insts = s.insts := rfl
@[simp] theorem State.setReg_pbaRing (s : State) (a : Nat) (v : W32) : (s.setReg a v).pbaRing = s.pbaRing := rfl
@[simp] theorem State.setReg_remoteBridges (s : State) (a : Nat) (v : W32) : (s.setReg a v).remoteBridges = s.remoteBridges := rfl
@[simp] theorem State.setReg_remotePorts (s : State) (a : Nat) (v : W32) : (s.setReg a v).remotePorts = s.remotePorts := rfl
@[simp] theorem State.setReg_relayed (s : State) (a : Nat) (v : W32) : (s.setReg a v).relayed = s.relayed := rfl
@[simp] theorem State.setReg_links (s : State) (a : Nat) (v : W32) : (s.setReg a v).links = s.links := rfl
@[simp] theorem State.setReg_tests (s : State) (a : Nat) (v : W32) : (s.setReg a v).tests = s.tests := rfl
@[simp] theorem State.setReg_govAt (s : State) (a : Nat) (v : W32) : (s.setReg a v).govAt = s.govAt := rfl
@[simp] theorem State.setReg_upSince (s : State) (a : Nat) (v : W32) : (s.setReg a v).upSince = s.upSince := rfl
@[simp] theorem State.setReg_wasUsable (s : State) (a : Nat) (v : W32) : (s.setReg a v).wasUsable = s.wasUsable := rfl
@[simp] theorem State.setReg_firstAt (s : State) (a : Nat) (v : W32) : (s.setReg a v).firstAt = s.firstAt := rfl
@[simp] theorem State.setReg_homeBuses (s : State) (a : Nat) (v : W32) : (s.setReg a v).homeBuses = s.homeBuses := rfl
@[simp] theorem State.setReg_octetAsk (s : State) (a : Nat) (v : W32) : (s.setReg a v).octetAsk = s.octetAsk := rfl
@[simp] theorem State.setReg_announced (s : State) (a : Nat) (v : W32) : (s.setReg a v).announced = s.announced := rfl
@[simp] theorem State.setReg_goneRemotes (s : State) (a : Nat) (v : W32) : (s.setReg a v).goneRemotes = s.goneRemotes := rfl
@[simp] theorem State.setReg_evtCycles (s : State) (a : Nat) (v : W32) : (s.setReg a v).evtCycles = s.evtCycles := rfl
@[simp] theorem State.setReg_spvDue (s : State) (a : Nat) (v : W32) : (s.setReg a v).spvDue = s.spvDue := rfl
@[simp] theorem State.setReg_mapOld (s : State) (a : Nat) (v : W32) : (s.setReg a v).mapOld = s.mapOld := rfl
@[simp] theorem State.setReg_bar4Next (s : State) (a : Nat) (v : W32) : (s.setReg a v).bar4Next = s.bar4Next := rfl
@[simp] theorem State.setReg_bar4 (s : State) (a : Nat) (v : W32) : (s.setReg a v).bar4 = s.bar4 := rfl
@[simp] theorem State.setReg_heldCpl (s : State) (a : Nat) (v : W32) : (s.setReg a v).heldCpl = s.heldCpl := rfl
@[simp] theorem State.setReg_coreReads (s : State) (a : Nat) (v : W32) : (s.setReg a v).coreReads = s.coreReads := rfl
@[simp] theorem State.setReg_sec (s : State) (a : Nat) (v : W32) : (s.setReg a v).sec = s.sec := rfl
@[simp] theorem State.setReg_cul (s : State) (a : Nat) (v : W32) : (s.setReg a v).cul = s.cul := rfl
@[simp] theorem State.setReg_mgt (s : State) (a : Nat) (v : W32) : (s.setReg a v).mgt = s.mgt := rfl
@[simp] theorem State.setReg_board (s : State) (a : Nat) (v : W32) : (s.setReg a v).board = s.board := rfl
@[simp] theorem State.setReg_slots (s : State) (a : Nat) (v : W32) : (s.setReg a v).slots = s.slots := rfl
@[simp] theorem State.setReg_drainAt (s : State) (a : Nat) (v : W32) : (s.setReg a v).drainAt = s.drainAt := rfl
@[simp] theorem State.setReg_safeAt (s : State) (a : Nat) (v : W32) : (s.setReg a v).safeAt = s.safeAt := rfl
@[simp] theorem State.setReg_uptrip (s : State) (a : Nat) (v : W32) : (s.setReg a v).uptrip = s.uptrip := rfl
@[simp] theorem State.setReg_retiredTags (s : State) (a : Nat) (v : W32) : (s.setReg a v).retiredTags = s.retiredTags := rfl
@[simp] theorem State.setReg_dpcDue (s : State) (a : Nat) (v : W32) : (s.setReg a v).dpcDue = s.dpcDue := rfl
@[simp] theorem State.setReg_unbridged (s : State) (a : Nat) (v : W32) : (s.setReg a v).unbridged = s.unbridged := rfl
@[simp] theorem State.setReg_remoteWords (s : State) (a : Nat) (v : W32) : (s.setReg a v).remoteWords = s.remoteWords := rfl

@[simp] theorem State.fset_pending (s : State) (f : Fld) (v : Nat) : (s.fset f v).pending = s.pending := rfl
@[simp] theorem State.fset_free (s : State) (f : Fld) (v : Nat) : (s.fset f v).free = s.free := rfl
@[simp] theorem State.fset_undef (s : State) (f : Fld) (v : Nat) : (s.fset f v).undef = s.undef := rfl
@[simp] theorem State.fset_answer (s : State) (f : Fld) (v : Nat) : (s.fset f v).answer = s.answer := rfl
@[simp] theorem State.fset_now (s : State) (f : Fld) (v : Nat) : (s.fset f v).now = s.now := rfl
@[simp] theorem State.fset_service (s : State) (f : Fld) (v : Nat) : (s.fset f v).service = s.service := rfl
@[simp] theorem State.fset_ctrs (s : State) (f : Fld) (v : Nat) : (s.fset f v).ctrs = s.ctrs := rfl
@[simp] theorem State.fset_tbls (s : State) (f : Fld) (v : Nat) : (s.fset f v).tbls = s.tbls := rfl
@[simp] theorem State.fset_latches (s : State) (f : Fld) (v : Nat) : (s.fset f v).latches = s.latches := rfl
@[simp] theorem State.fset_tblRuns (s : State) (f : Fld) (v : Nat) : (s.fset f v).tblRuns = s.tblRuns := rfl
@[simp] theorem State.fset_tb (s : State) (f : Fld) (v : Nat) : (s.fset f v).tb = s.tb := rfl
@[simp] theorem State.fset_fs (s : State) (f : Fld) (v : Nat) : (s.fset f v).fs = s.fs := rfl
@[simp] theorem State.fset_gates (s : State) (f : Fld) (v : Nat) : (s.fset f v).gates = s.gates := rfl
@[simp] theorem State.fset_armInst (s : State) (f : Fld) (v : Nat) : (s.fset f v).armInst = s.armInst := rfl
@[simp] theorem State.fset_firing (s : State) (f : Fld) (v : Nat) : (s.fset f v).firing = s.firing := rfl
@[simp] theorem State.fset_sw (s : State) (f : Fld) (v : Nat) : (s.fset f v).sw = s.sw := rfl
@[simp] theorem State.fset_sweep (s : State) (f : Fld) (v : Nat) : (s.fset f v).sweep = s.sweep := rfl
@[simp] theorem State.fset_sessions (s : State) (f : Fld) (v : Nat) : (s.fset f v).sessions = s.sessions := rfl
@[simp] theorem State.fset_samplers (s : State) (f : Fld) (v : Nat) : (s.fset f v).samplers = s.samplers := rfl
@[simp] theorem State.fset_samples (s : State) (f : Fld) (v : Nat) : (s.fset f v).samples = s.samples := rfl
@[simp] theorem State.fset_govSeq (s : State) (f : Fld) (v : Nat) : (s.fset f v).govSeq = s.govSeq := rfl
@[simp] theorem State.fset_err (s : State) (f : Fld) (v : Nat) : (s.fset f v).err = s.err := rfl
@[simp] theorem State.fset_shadows (s : State) (f : Fld) (v : Nat) : (s.fset f v).shadows = s.shadows := rfl
@[simp] theorem State.fset_bars (s : State) (f : Fld) (v : Nat) : (s.fset f v).bars = s.bars := rfl
@[simp] theorem State.fset_rings (s : State) (f : Fld) (v : Nat) : (s.fset f v).rings = s.rings := rfl
@[simp] theorem State.fset_engines (s : State) (f : Fld) (v : Nat) : (s.fset f v).engines = s.engines := rfl
@[simp] theorem State.fset_engTags (s : State) (f : Fld) (v : Nat) : (s.fset f v).engTags = s.engTags := rfl
@[simp] theorem State.fset_insts (s : State) (f : Fld) (v : Nat) : (s.fset f v).insts = s.insts := rfl
@[simp] theorem State.fset_pbaRing (s : State) (f : Fld) (v : Nat) : (s.fset f v).pbaRing = s.pbaRing := rfl
@[simp] theorem State.fset_remoteBridges (s : State) (f : Fld) (v : Nat) : (s.fset f v).remoteBridges = s.remoteBridges := rfl
@[simp] theorem State.fset_remotePorts (s : State) (f : Fld) (v : Nat) : (s.fset f v).remotePorts = s.remotePorts := rfl
@[simp] theorem State.fset_relayed (s : State) (f : Fld) (v : Nat) : (s.fset f v).relayed = s.relayed := rfl
@[simp] theorem State.fset_links (s : State) (f : Fld) (v : Nat) : (s.fset f v).links = s.links := rfl
@[simp] theorem State.fset_tests (s : State) (f : Fld) (v : Nat) : (s.fset f v).tests = s.tests := rfl
@[simp] theorem State.fset_govAt (s : State) (f : Fld) (v : Nat) : (s.fset f v).govAt = s.govAt := rfl
@[simp] theorem State.fset_upSince (s : State) (f : Fld) (v : Nat) : (s.fset f v).upSince = s.upSince := rfl
@[simp] theorem State.fset_wasUsable (s : State) (f : Fld) (v : Nat) : (s.fset f v).wasUsable = s.wasUsable := rfl
@[simp] theorem State.fset_firstAt (s : State) (f : Fld) (v : Nat) : (s.fset f v).firstAt = s.firstAt := rfl
@[simp] theorem State.fset_homeBuses (s : State) (f : Fld) (v : Nat) : (s.fset f v).homeBuses = s.homeBuses := rfl
@[simp] theorem State.fset_octetAsk (s : State) (f : Fld) (v : Nat) : (s.fset f v).octetAsk = s.octetAsk := rfl
@[simp] theorem State.fset_announced (s : State) (f : Fld) (v : Nat) : (s.fset f v).announced = s.announced := rfl
@[simp] theorem State.fset_goneRemotes (s : State) (f : Fld) (v : Nat) : (s.fset f v).goneRemotes = s.goneRemotes := rfl
@[simp] theorem State.fset_evtCycles (s : State) (f : Fld) (v : Nat) : (s.fset f v).evtCycles = s.evtCycles := rfl
@[simp] theorem State.fset_spvDue (s : State) (f : Fld) (v : Nat) : (s.fset f v).spvDue = s.spvDue := rfl
@[simp] theorem State.fset_mapOld (s : State) (f : Fld) (v : Nat) : (s.fset f v).mapOld = s.mapOld := rfl
@[simp] theorem State.fset_bar4Next (s : State) (f : Fld) (v : Nat) : (s.fset f v).bar4Next = s.bar4Next := rfl
@[simp] theorem State.fset_bar4 (s : State) (f : Fld) (v : Nat) : (s.fset f v).bar4 = s.bar4 := rfl
@[simp] theorem State.fset_heldCpl (s : State) (f : Fld) (v : Nat) : (s.fset f v).heldCpl = s.heldCpl := rfl
@[simp] theorem State.fset_coreReads (s : State) (f : Fld) (v : Nat) : (s.fset f v).coreReads = s.coreReads := rfl
@[simp] theorem State.fset_sec (s : State) (f : Fld) (v : Nat) : (s.fset f v).sec = s.sec := rfl
@[simp] theorem State.fset_cul (s : State) (f : Fld) (v : Nat) : (s.fset f v).cul = s.cul := rfl
@[simp] theorem State.fset_mgt (s : State) (f : Fld) (v : Nat) : (s.fset f v).mgt = s.mgt := rfl
@[simp] theorem State.fset_board (s : State) (f : Fld) (v : Nat) : (s.fset f v).board = s.board := rfl
@[simp] theorem State.fset_slots (s : State) (f : Fld) (v : Nat) : (s.fset f v).slots = s.slots := rfl
@[simp] theorem State.fset_drainAt (s : State) (f : Fld) (v : Nat) : (s.fset f v).drainAt = s.drainAt := rfl
@[simp] theorem State.fset_safeAt (s : State) (f : Fld) (v : Nat) : (s.fset f v).safeAt = s.safeAt := rfl
@[simp] theorem State.fset_uptrip (s : State) (f : Fld) (v : Nat) : (s.fset f v).uptrip = s.uptrip := rfl
@[simp] theorem State.fset_retiredTags (s : State) (f : Fld) (v : Nat) : (s.fset f v).retiredTags = s.retiredTags := rfl
@[simp] theorem State.fset_dpcDue (s : State) (f : Fld) (v : Nat) : (s.fset f v).dpcDue = s.dpcDue := rfl
@[simp] theorem State.fset_unbridged (s : State) (f : Fld) (v : Nat) : (s.fset f v).unbridged = s.unbridged := rfl
@[simp] theorem State.fset_remoteWords (s : State) (f : Fld) (v : Nat) : (s.fset f v).remoteWords = s.remoteWords := rfl

@[simp] theorem State.setCtr_pending (s : State) (a v : Nat) : (s.setCtr a v).pending = s.pending := rfl
@[simp] theorem State.setCtr_free (s : State) (a v : Nat) : (s.setCtr a v).free = s.free := rfl
@[simp] theorem State.setCtr_undef (s : State) (a v : Nat) : (s.setCtr a v).undef = s.undef := rfl
@[simp] theorem State.setCtr_answer (s : State) (a v : Nat) : (s.setCtr a v).answer = s.answer := rfl
@[simp] theorem State.setCtr_now (s : State) (a v : Nat) : (s.setCtr a v).now = s.now := rfl
@[simp] theorem State.setCtr_service (s : State) (a v : Nat) : (s.setCtr a v).service = s.service := rfl
@[simp] theorem State.setCtr_regs (s : State) (a v : Nat) : (s.setCtr a v).regs = s.regs := rfl
@[simp] theorem State.setCtr_tbls (s : State) (a v : Nat) : (s.setCtr a v).tbls = s.tbls := rfl
@[simp] theorem State.setCtr_latches (s : State) (a v : Nat) : (s.setCtr a v).latches = s.latches := rfl
@[simp] theorem State.setCtr_tblRuns (s : State) (a v : Nat) : (s.setCtr a v).tblRuns = s.tblRuns := rfl
@[simp] theorem State.setCtr_tb (s : State) (a v : Nat) : (s.setCtr a v).tb = s.tb := rfl
@[simp] theorem State.setCtr_fs (s : State) (a v : Nat) : (s.setCtr a v).fs = s.fs := rfl
@[simp] theorem State.setCtr_gates (s : State) (a v : Nat) : (s.setCtr a v).gates = s.gates := rfl
@[simp] theorem State.setCtr_armInst (s : State) (a v : Nat) : (s.setCtr a v).armInst = s.armInst := rfl
@[simp] theorem State.setCtr_firing (s : State) (a v : Nat) : (s.setCtr a v).firing = s.firing := rfl
@[simp] theorem State.setCtr_sw (s : State) (a v : Nat) : (s.setCtr a v).sw = s.sw := rfl
@[simp] theorem State.setCtr_sweep (s : State) (a v : Nat) : (s.setCtr a v).sweep = s.sweep := rfl
@[simp] theorem State.setCtr_sessions (s : State) (a v : Nat) : (s.setCtr a v).sessions = s.sessions := rfl
@[simp] theorem State.setCtr_samplers (s : State) (a v : Nat) : (s.setCtr a v).samplers = s.samplers := rfl
@[simp] theorem State.setCtr_samples (s : State) (a v : Nat) : (s.setCtr a v).samples = s.samples := rfl
@[simp] theorem State.setCtr_govSeq (s : State) (a v : Nat) : (s.setCtr a v).govSeq = s.govSeq := rfl
@[simp] theorem State.setCtr_err (s : State) (a v : Nat) : (s.setCtr a v).err = s.err := rfl
@[simp] theorem State.setCtr_shadows (s : State) (a v : Nat) : (s.setCtr a v).shadows = s.shadows := rfl
@[simp] theorem State.setCtr_bars (s : State) (a v : Nat) : (s.setCtr a v).bars = s.bars := rfl
@[simp] theorem State.setCtr_rings (s : State) (a v : Nat) : (s.setCtr a v).rings = s.rings := rfl
@[simp] theorem State.setCtr_engines (s : State) (a v : Nat) : (s.setCtr a v).engines = s.engines := rfl
@[simp] theorem State.setCtr_engTags (s : State) (a v : Nat) : (s.setCtr a v).engTags = s.engTags := rfl
@[simp] theorem State.setCtr_insts (s : State) (a v : Nat) : (s.setCtr a v).insts = s.insts := rfl
@[simp] theorem State.setCtr_pbaRing (s : State) (a v : Nat) : (s.setCtr a v).pbaRing = s.pbaRing := rfl
@[simp] theorem State.setCtr_remoteBridges (s : State) (a v : Nat) : (s.setCtr a v).remoteBridges = s.remoteBridges := rfl
@[simp] theorem State.setCtr_remotePorts (s : State) (a v : Nat) : (s.setCtr a v).remotePorts = s.remotePorts := rfl
@[simp] theorem State.setCtr_relayed (s : State) (a v : Nat) : (s.setCtr a v).relayed = s.relayed := rfl
@[simp] theorem State.setCtr_links (s : State) (a v : Nat) : (s.setCtr a v).links = s.links := rfl
@[simp] theorem State.setCtr_tests (s : State) (a v : Nat) : (s.setCtr a v).tests = s.tests := rfl
@[simp] theorem State.setCtr_govAt (s : State) (a v : Nat) : (s.setCtr a v).govAt = s.govAt := rfl
@[simp] theorem State.setCtr_upSince (s : State) (a v : Nat) : (s.setCtr a v).upSince = s.upSince := rfl
@[simp] theorem State.setCtr_wasUsable (s : State) (a v : Nat) : (s.setCtr a v).wasUsable = s.wasUsable := rfl
@[simp] theorem State.setCtr_firstAt (s : State) (a v : Nat) : (s.setCtr a v).firstAt = s.firstAt := rfl
@[simp] theorem State.setCtr_homeBuses (s : State) (a v : Nat) : (s.setCtr a v).homeBuses = s.homeBuses := rfl
@[simp] theorem State.setCtr_octetAsk (s : State) (a v : Nat) : (s.setCtr a v).octetAsk = s.octetAsk := rfl
@[simp] theorem State.setCtr_announced (s : State) (a v : Nat) : (s.setCtr a v).announced = s.announced := rfl
@[simp] theorem State.setCtr_goneRemotes (s : State) (a v : Nat) : (s.setCtr a v).goneRemotes = s.goneRemotes := rfl
@[simp] theorem State.setCtr_evtCycles (s : State) (a v : Nat) : (s.setCtr a v).evtCycles = s.evtCycles := rfl
@[simp] theorem State.setCtr_spvDue (s : State) (a v : Nat) : (s.setCtr a v).spvDue = s.spvDue := rfl
@[simp] theorem State.setCtr_mapOld (s : State) (a v : Nat) : (s.setCtr a v).mapOld = s.mapOld := rfl
@[simp] theorem State.setCtr_bar4Next (s : State) (a v : Nat) : (s.setCtr a v).bar4Next = s.bar4Next := rfl
@[simp] theorem State.setCtr_bar4 (s : State) (a v : Nat) : (s.setCtr a v).bar4 = s.bar4 := rfl
@[simp] theorem State.setCtr_heldCpl (s : State) (a v : Nat) : (s.setCtr a v).heldCpl = s.heldCpl := rfl
@[simp] theorem State.setCtr_coreReads (s : State) (a v : Nat) : (s.setCtr a v).coreReads = s.coreReads := rfl
@[simp] theorem State.setCtr_sec (s : State) (a v : Nat) : (s.setCtr a v).sec = s.sec := rfl
@[simp] theorem State.setCtr_cul (s : State) (a v : Nat) : (s.setCtr a v).cul = s.cul := rfl
@[simp] theorem State.setCtr_mgt (s : State) (a v : Nat) : (s.setCtr a v).mgt = s.mgt := rfl
@[simp] theorem State.setCtr_board (s : State) (a v : Nat) : (s.setCtr a v).board = s.board := rfl
@[simp] theorem State.setCtr_slots (s : State) (a v : Nat) : (s.setCtr a v).slots = s.slots := rfl
@[simp] theorem State.setCtr_drainAt (s : State) (a v : Nat) : (s.setCtr a v).drainAt = s.drainAt := rfl
@[simp] theorem State.setCtr_safeAt (s : State) (a v : Nat) : (s.setCtr a v).safeAt = s.safeAt := rfl
@[simp] theorem State.setCtr_uptrip (s : State) (a v : Nat) : (s.setCtr a v).uptrip = s.uptrip := rfl
@[simp] theorem State.setCtr_retiredTags (s : State) (a v : Nat) : (s.setCtr a v).retiredTags = s.retiredTags := rfl
@[simp] theorem State.setCtr_dpcDue (s : State) (a v : Nat) : (s.setCtr a v).dpcDue = s.dpcDue := rfl
@[simp] theorem State.setCtr_unbridged (s : State) (a v : Nat) : (s.setCtr a v).unbridged = s.unbridged := rfl
@[simp] theorem State.setCtr_remoteWords (s : State) (a v : Nat) : (s.setCtr a v).remoteWords = s.remoteWords := rfl

@[simp] theorem State.setTbl_pending (s : State) (page table index : Nat) (v : W256) : (s.setTbl page table index v).pending = s.pending := rfl
@[simp] theorem State.setTbl_free (s : State) (page table index : Nat) (v : W256) : (s.setTbl page table index v).free = s.free := rfl
@[simp] theorem State.setTbl_undef (s : State) (page table index : Nat) (v : W256) : (s.setTbl page table index v).undef = s.undef := rfl
@[simp] theorem State.setTbl_answer (s : State) (page table index : Nat) (v : W256) : (s.setTbl page table index v).answer = s.answer := rfl
@[simp] theorem State.setTbl_now (s : State) (page table index : Nat) (v : W256) : (s.setTbl page table index v).now = s.now := rfl
@[simp] theorem State.setTbl_service (s : State) (page table index : Nat) (v : W256) : (s.setTbl page table index v).service = s.service := rfl
@[simp] theorem State.setTbl_regs (s : State) (page table index : Nat) (v : W256) : (s.setTbl page table index v).regs = s.regs := rfl
@[simp] theorem State.setTbl_ctrs (s : State) (page table index : Nat) (v : W256) : (s.setTbl page table index v).ctrs = s.ctrs := rfl
@[simp] theorem State.setTbl_latches (s : State) (page table index : Nat) (v : W256) : (s.setTbl page table index v).latches = s.latches := rfl
@[simp] theorem State.setTbl_tblRuns (s : State) (page table index : Nat) (v : W256) : (s.setTbl page table index v).tblRuns = s.tblRuns := rfl
@[simp] theorem State.setTbl_tb (s : State) (page table index : Nat) (v : W256) : (s.setTbl page table index v).tb = s.tb := rfl
@[simp] theorem State.setTbl_fs (s : State) (page table index : Nat) (v : W256) : (s.setTbl page table index v).fs = s.fs := rfl
@[simp] theorem State.setTbl_gates (s : State) (page table index : Nat) (v : W256) : (s.setTbl page table index v).gates = s.gates := rfl
@[simp] theorem State.setTbl_armInst (s : State) (page table index : Nat) (v : W256) : (s.setTbl page table index v).armInst = s.armInst := rfl
@[simp] theorem State.setTbl_firing (s : State) (page table index : Nat) (v : W256) : (s.setTbl page table index v).firing = s.firing := rfl
@[simp] theorem State.setTbl_sw (s : State) (page table index : Nat) (v : W256) : (s.setTbl page table index v).sw = s.sw := rfl
@[simp] theorem State.setTbl_sweep (s : State) (page table index : Nat) (v : W256) : (s.setTbl page table index v).sweep = s.sweep := rfl
@[simp] theorem State.setTbl_sessions (s : State) (page table index : Nat) (v : W256) : (s.setTbl page table index v).sessions = s.sessions := rfl
@[simp] theorem State.setTbl_samplers (s : State) (page table index : Nat) (v : W256) : (s.setTbl page table index v).samplers = s.samplers := rfl
@[simp] theorem State.setTbl_samples (s : State) (page table index : Nat) (v : W256) : (s.setTbl page table index v).samples = s.samples := rfl
@[simp] theorem State.setTbl_govSeq (s : State) (page table index : Nat) (v : W256) : (s.setTbl page table index v).govSeq = s.govSeq := rfl
@[simp] theorem State.setTbl_err (s : State) (page table index : Nat) (v : W256) : (s.setTbl page table index v).err = s.err := rfl
@[simp] theorem State.setTbl_shadows (s : State) (page table index : Nat) (v : W256) : (s.setTbl page table index v).shadows = s.shadows := rfl
@[simp] theorem State.setTbl_bars (s : State) (page table index : Nat) (v : W256) : (s.setTbl page table index v).bars = s.bars := rfl
@[simp] theorem State.setTbl_rings (s : State) (page table index : Nat) (v : W256) : (s.setTbl page table index v).rings = s.rings := rfl
@[simp] theorem State.setTbl_engines (s : State) (page table index : Nat) (v : W256) : (s.setTbl page table index v).engines = s.engines := rfl
@[simp] theorem State.setTbl_engTags (s : State) (page table index : Nat) (v : W256) : (s.setTbl page table index v).engTags = s.engTags := rfl
@[simp] theorem State.setTbl_insts (s : State) (page table index : Nat) (v : W256) : (s.setTbl page table index v).insts = s.insts := rfl
@[simp] theorem State.setTbl_pbaRing (s : State) (page table index : Nat) (v : W256) : (s.setTbl page table index v).pbaRing = s.pbaRing := rfl
@[simp] theorem State.setTbl_remoteBridges (s : State) (page table index : Nat) (v : W256) : (s.setTbl page table index v).remoteBridges = s.remoteBridges := rfl
@[simp] theorem State.setTbl_remotePorts (s : State) (page table index : Nat) (v : W256) : (s.setTbl page table index v).remotePorts = s.remotePorts := rfl
@[simp] theorem State.setTbl_relayed (s : State) (page table index : Nat) (v : W256) : (s.setTbl page table index v).relayed = s.relayed := rfl
@[simp] theorem State.setTbl_links (s : State) (page table index : Nat) (v : W256) : (s.setTbl page table index v).links = s.links := rfl
@[simp] theorem State.setTbl_tests (s : State) (page table index : Nat) (v : W256) : (s.setTbl page table index v).tests = s.tests := rfl
@[simp] theorem State.setTbl_govAt (s : State) (page table index : Nat) (v : W256) : (s.setTbl page table index v).govAt = s.govAt := rfl
@[simp] theorem State.setTbl_upSince (s : State) (page table index : Nat) (v : W256) : (s.setTbl page table index v).upSince = s.upSince := rfl
@[simp] theorem State.setTbl_wasUsable (s : State) (page table index : Nat) (v : W256) : (s.setTbl page table index v).wasUsable = s.wasUsable := rfl
@[simp] theorem State.setTbl_firstAt (s : State) (page table index : Nat) (v : W256) : (s.setTbl page table index v).firstAt = s.firstAt := rfl
@[simp] theorem State.setTbl_homeBuses (s : State) (page table index : Nat) (v : W256) : (s.setTbl page table index v).homeBuses = s.homeBuses := rfl
@[simp] theorem State.setTbl_octetAsk (s : State) (page table index : Nat) (v : W256) : (s.setTbl page table index v).octetAsk = s.octetAsk := rfl
@[simp] theorem State.setTbl_announced (s : State) (page table index : Nat) (v : W256) : (s.setTbl page table index v).announced = s.announced := rfl
@[simp] theorem State.setTbl_goneRemotes (s : State) (page table index : Nat) (v : W256) : (s.setTbl page table index v).goneRemotes = s.goneRemotes := rfl
@[simp] theorem State.setTbl_evtCycles (s : State) (page table index : Nat) (v : W256) : (s.setTbl page table index v).evtCycles = s.evtCycles := rfl
@[simp] theorem State.setTbl_spvDue (s : State) (page table index : Nat) (v : W256) : (s.setTbl page table index v).spvDue = s.spvDue := rfl
@[simp] theorem State.setTbl_mapOld (s : State) (page table index : Nat) (v : W256) : (s.setTbl page table index v).mapOld = s.mapOld := rfl
@[simp] theorem State.setTbl_bar4Next (s : State) (page table index : Nat) (v : W256) : (s.setTbl page table index v).bar4Next = s.bar4Next := rfl
@[simp] theorem State.setTbl_bar4 (s : State) (page table index : Nat) (v : W256) : (s.setTbl page table index v).bar4 = s.bar4 := rfl
@[simp] theorem State.setTbl_heldCpl (s : State) (page table index : Nat) (v : W256) : (s.setTbl page table index v).heldCpl = s.heldCpl := rfl
@[simp] theorem State.setTbl_coreReads (s : State) (page table index : Nat) (v : W256) : (s.setTbl page table index v).coreReads = s.coreReads := rfl
@[simp] theorem State.setTbl_sec (s : State) (page table index : Nat) (v : W256) : (s.setTbl page table index v).sec = s.sec := rfl
@[simp] theorem State.setTbl_cul (s : State) (page table index : Nat) (v : W256) : (s.setTbl page table index v).cul = s.cul := rfl
@[simp] theorem State.setTbl_mgt (s : State) (page table index : Nat) (v : W256) : (s.setTbl page table index v).mgt = s.mgt := rfl
@[simp] theorem State.setTbl_board (s : State) (page table index : Nat) (v : W256) : (s.setTbl page table index v).board = s.board := rfl
@[simp] theorem State.setTbl_slots (s : State) (page table index : Nat) (v : W256) : (s.setTbl page table index v).slots = s.slots := rfl
@[simp] theorem State.setTbl_drainAt (s : State) (page table index : Nat) (v : W256) : (s.setTbl page table index v).drainAt = s.drainAt := rfl
@[simp] theorem State.setTbl_safeAt (s : State) (page table index : Nat) (v : W256) : (s.setTbl page table index v).safeAt = s.safeAt := rfl
@[simp] theorem State.setTbl_uptrip (s : State) (page table index : Nat) (v : W256) : (s.setTbl page table index v).uptrip = s.uptrip := rfl
@[simp] theorem State.setTbl_retiredTags (s : State) (page table index : Nat) (v : W256) : (s.setTbl page table index v).retiredTags = s.retiredTags := rfl
@[simp] theorem State.setTbl_dpcDue (s : State) (page table index : Nat) (v : W256) : (s.setTbl page table index v).dpcDue = s.dpcDue := rfl
@[simp] theorem State.setTbl_unbridged (s : State) (page table index : Nat) (v : W256) : (s.setTbl page table index v).unbridged = s.unbridged := rfl
@[simp] theorem State.setTbl_remoteWords (s : State) (page table index : Nat) (v : W256) : (s.setTbl page table index v).remoteWords = s.remoteWords := rfl

@[simp] theorem State.tset_pending (s : State) (page table index hi lo v : Nat) : (s.tset page table index hi lo v).pending = s.pending := rfl
@[simp] theorem State.tset_free (s : State) (page table index hi lo v : Nat) : (s.tset page table index hi lo v).free = s.free := rfl
@[simp] theorem State.tset_undef (s : State) (page table index hi lo v : Nat) : (s.tset page table index hi lo v).undef = s.undef := rfl
@[simp] theorem State.tset_answer (s : State) (page table index hi lo v : Nat) : (s.tset page table index hi lo v).answer = s.answer := rfl
@[simp] theorem State.tset_now (s : State) (page table index hi lo v : Nat) : (s.tset page table index hi lo v).now = s.now := rfl
@[simp] theorem State.tset_service (s : State) (page table index hi lo v : Nat) : (s.tset page table index hi lo v).service = s.service := rfl
@[simp] theorem State.tset_regs (s : State) (page table index hi lo v : Nat) : (s.tset page table index hi lo v).regs = s.regs := rfl
@[simp] theorem State.tset_ctrs (s : State) (page table index hi lo v : Nat) : (s.tset page table index hi lo v).ctrs = s.ctrs := rfl
@[simp] theorem State.tset_latches (s : State) (page table index hi lo v : Nat) : (s.tset page table index hi lo v).latches = s.latches := rfl
@[simp] theorem State.tset_tblRuns (s : State) (page table index hi lo v : Nat) : (s.tset page table index hi lo v).tblRuns = s.tblRuns := rfl
@[simp] theorem State.tset_tb (s : State) (page table index hi lo v : Nat) : (s.tset page table index hi lo v).tb = s.tb := rfl
@[simp] theorem State.tset_fs (s : State) (page table index hi lo v : Nat) : (s.tset page table index hi lo v).fs = s.fs := rfl
@[simp] theorem State.tset_gates (s : State) (page table index hi lo v : Nat) : (s.tset page table index hi lo v).gates = s.gates := rfl
@[simp] theorem State.tset_armInst (s : State) (page table index hi lo v : Nat) : (s.tset page table index hi lo v).armInst = s.armInst := rfl
@[simp] theorem State.tset_firing (s : State) (page table index hi lo v : Nat) : (s.tset page table index hi lo v).firing = s.firing := rfl
@[simp] theorem State.tset_sw (s : State) (page table index hi lo v : Nat) : (s.tset page table index hi lo v).sw = s.sw := rfl
@[simp] theorem State.tset_sweep (s : State) (page table index hi lo v : Nat) : (s.tset page table index hi lo v).sweep = s.sweep := rfl
@[simp] theorem State.tset_sessions (s : State) (page table index hi lo v : Nat) : (s.tset page table index hi lo v).sessions = s.sessions := rfl
@[simp] theorem State.tset_samplers (s : State) (page table index hi lo v : Nat) : (s.tset page table index hi lo v).samplers = s.samplers := rfl
@[simp] theorem State.tset_samples (s : State) (page table index hi lo v : Nat) : (s.tset page table index hi lo v).samples = s.samples := rfl
@[simp] theorem State.tset_govSeq (s : State) (page table index hi lo v : Nat) : (s.tset page table index hi lo v).govSeq = s.govSeq := rfl
@[simp] theorem State.tset_err (s : State) (page table index hi lo v : Nat) : (s.tset page table index hi lo v).err = s.err := rfl
@[simp] theorem State.tset_shadows (s : State) (page table index hi lo v : Nat) : (s.tset page table index hi lo v).shadows = s.shadows := rfl
@[simp] theorem State.tset_bars (s : State) (page table index hi lo v : Nat) : (s.tset page table index hi lo v).bars = s.bars := rfl
@[simp] theorem State.tset_rings (s : State) (page table index hi lo v : Nat) : (s.tset page table index hi lo v).rings = s.rings := rfl
@[simp] theorem State.tset_engines (s : State) (page table index hi lo v : Nat) : (s.tset page table index hi lo v).engines = s.engines := rfl
@[simp] theorem State.tset_engTags (s : State) (page table index hi lo v : Nat) : (s.tset page table index hi lo v).engTags = s.engTags := rfl
@[simp] theorem State.tset_insts (s : State) (page table index hi lo v : Nat) : (s.tset page table index hi lo v).insts = s.insts := rfl
@[simp] theorem State.tset_pbaRing (s : State) (page table index hi lo v : Nat) : (s.tset page table index hi lo v).pbaRing = s.pbaRing := rfl
@[simp] theorem State.tset_remoteBridges (s : State) (page table index hi lo v : Nat) : (s.tset page table index hi lo v).remoteBridges = s.remoteBridges := rfl
@[simp] theorem State.tset_remotePorts (s : State) (page table index hi lo v : Nat) : (s.tset page table index hi lo v).remotePorts = s.remotePorts := rfl
@[simp] theorem State.tset_relayed (s : State) (page table index hi lo v : Nat) : (s.tset page table index hi lo v).relayed = s.relayed := rfl
@[simp] theorem State.tset_links (s : State) (page table index hi lo v : Nat) : (s.tset page table index hi lo v).links = s.links := rfl
@[simp] theorem State.tset_tests (s : State) (page table index hi lo v : Nat) : (s.tset page table index hi lo v).tests = s.tests := rfl
@[simp] theorem State.tset_govAt (s : State) (page table index hi lo v : Nat) : (s.tset page table index hi lo v).govAt = s.govAt := rfl
@[simp] theorem State.tset_upSince (s : State) (page table index hi lo v : Nat) : (s.tset page table index hi lo v).upSince = s.upSince := rfl
@[simp] theorem State.tset_wasUsable (s : State) (page table index hi lo v : Nat) : (s.tset page table index hi lo v).wasUsable = s.wasUsable := rfl
@[simp] theorem State.tset_firstAt (s : State) (page table index hi lo v : Nat) : (s.tset page table index hi lo v).firstAt = s.firstAt := rfl
@[simp] theorem State.tset_homeBuses (s : State) (page table index hi lo v : Nat) : (s.tset page table index hi lo v).homeBuses = s.homeBuses := rfl
@[simp] theorem State.tset_octetAsk (s : State) (page table index hi lo v : Nat) : (s.tset page table index hi lo v).octetAsk = s.octetAsk := rfl
@[simp] theorem State.tset_announced (s : State) (page table index hi lo v : Nat) : (s.tset page table index hi lo v).announced = s.announced := rfl
@[simp] theorem State.tset_goneRemotes (s : State) (page table index hi lo v : Nat) : (s.tset page table index hi lo v).goneRemotes = s.goneRemotes := rfl
@[simp] theorem State.tset_evtCycles (s : State) (page table index hi lo v : Nat) : (s.tset page table index hi lo v).evtCycles = s.evtCycles := rfl
@[simp] theorem State.tset_spvDue (s : State) (page table index hi lo v : Nat) : (s.tset page table index hi lo v).spvDue = s.spvDue := rfl
@[simp] theorem State.tset_mapOld (s : State) (page table index hi lo v : Nat) : (s.tset page table index hi lo v).mapOld = s.mapOld := rfl
@[simp] theorem State.tset_bar4Next (s : State) (page table index hi lo v : Nat) : (s.tset page table index hi lo v).bar4Next = s.bar4Next := rfl
@[simp] theorem State.tset_bar4 (s : State) (page table index hi lo v : Nat) : (s.tset page table index hi lo v).bar4 = s.bar4 := rfl
@[simp] theorem State.tset_heldCpl (s : State) (page table index hi lo v : Nat) : (s.tset page table index hi lo v).heldCpl = s.heldCpl := rfl
@[simp] theorem State.tset_coreReads (s : State) (page table index hi lo v : Nat) : (s.tset page table index hi lo v).coreReads = s.coreReads := rfl
@[simp] theorem State.tset_sec (s : State) (page table index hi lo v : Nat) : (s.tset page table index hi lo v).sec = s.sec := rfl
@[simp] theorem State.tset_cul (s : State) (page table index hi lo v : Nat) : (s.tset page table index hi lo v).cul = s.cul := rfl
@[simp] theorem State.tset_mgt (s : State) (page table index hi lo v : Nat) : (s.tset page table index hi lo v).mgt = s.mgt := rfl
@[simp] theorem State.tset_board (s : State) (page table index hi lo v : Nat) : (s.tset page table index hi lo v).board = s.board := rfl
@[simp] theorem State.tset_slots (s : State) (page table index hi lo v : Nat) : (s.tset page table index hi lo v).slots = s.slots := rfl
@[simp] theorem State.tset_drainAt (s : State) (page table index hi lo v : Nat) : (s.tset page table index hi lo v).drainAt = s.drainAt := rfl
@[simp] theorem State.tset_safeAt (s : State) (page table index hi lo v : Nat) : (s.tset page table index hi lo v).safeAt = s.safeAt := rfl
@[simp] theorem State.tset_uptrip (s : State) (page table index hi lo v : Nat) : (s.tset page table index hi lo v).uptrip = s.uptrip := rfl
@[simp] theorem State.tset_retiredTags (s : State) (page table index hi lo v : Nat) : (s.tset page table index hi lo v).retiredTags = s.retiredTags := rfl
@[simp] theorem State.tset_dpcDue (s : State) (page table index hi lo v : Nat) : (s.tset page table index hi lo v).dpcDue = s.dpcDue := rfl
@[simp] theorem State.tset_unbridged (s : State) (page table index hi lo v : Nat) : (s.tset page table index hi lo v).unbridged = s.unbridged := rfl
@[simp] theorem State.tset_remoteWords (s : State) (page table index hi lo v : Nat) : (s.tset page table index hi lo v).remoteWords = s.remoteWords := rfl

@[simp] theorem State.setPort_pending (s : State) (n : Nat) (p : PortSt) : (s.setPort n p).pending = s.pending := rfl
@[simp] theorem State.setPort_free (s : State) (n : Nat) (p : PortSt) : (s.setPort n p).free = s.free := rfl
@[simp] theorem State.setPort_undef (s : State) (n : Nat) (p : PortSt) : (s.setPort n p).undef = s.undef := rfl
@[simp] theorem State.setPort_answer (s : State) (n : Nat) (p : PortSt) : (s.setPort n p).answer = s.answer := rfl
@[simp] theorem State.setPort_now (s : State) (n : Nat) (p : PortSt) : (s.setPort n p).now = s.now := rfl
@[simp] theorem State.setPort_service (s : State) (n : Nat) (p : PortSt) : (s.setPort n p).service = s.service := rfl
@[simp] theorem State.setPort_regs (s : State) (n : Nat) (p : PortSt) : (s.setPort n p).regs = s.regs := rfl
@[simp] theorem State.setPort_ctrs (s : State) (n : Nat) (p : PortSt) : (s.setPort n p).ctrs = s.ctrs := rfl
@[simp] theorem State.setPort_tbls (s : State) (n : Nat) (p : PortSt) : (s.setPort n p).tbls = s.tbls := rfl
@[simp] theorem State.setPort_latches (s : State) (n : Nat) (p : PortSt) : (s.setPort n p).latches = s.latches := rfl
@[simp] theorem State.setPort_tblRuns (s : State) (n : Nat) (p : PortSt) : (s.setPort n p).tblRuns = s.tblRuns := rfl
@[simp] theorem State.setPort_tb (s : State) (n : Nat) (p : PortSt) : (s.setPort n p).tb = s.tb := rfl
@[simp] theorem State.setPort_fs (s : State) (n : Nat) (p : PortSt) : (s.setPort n p).fs = s.fs := rfl
@[simp] theorem State.setPort_gates (s : State) (n : Nat) (p : PortSt) : (s.setPort n p).gates = s.gates := rfl
@[simp] theorem State.setPort_armInst (s : State) (n : Nat) (p : PortSt) : (s.setPort n p).armInst = s.armInst := rfl
@[simp] theorem State.setPort_firing (s : State) (n : Nat) (p : PortSt) : (s.setPort n p).firing = s.firing := rfl
@[simp] theorem State.setPort_sweep (s : State) (n : Nat) (p : PortSt) : (s.setPort n p).sweep = s.sweep := rfl
@[simp] theorem State.setPort_sessions (s : State) (n : Nat) (p : PortSt) : (s.setPort n p).sessions = s.sessions := rfl
@[simp] theorem State.setPort_samplers (s : State) (n : Nat) (p : PortSt) : (s.setPort n p).samplers = s.samplers := rfl
@[simp] theorem State.setPort_samples (s : State) (n : Nat) (p : PortSt) : (s.setPort n p).samples = s.samples := rfl
@[simp] theorem State.setPort_govSeq (s : State) (n : Nat) (p : PortSt) : (s.setPort n p).govSeq = s.govSeq := rfl
@[simp] theorem State.setPort_err (s : State) (n : Nat) (p : PortSt) : (s.setPort n p).err = s.err := rfl
@[simp] theorem State.setPort_shadows (s : State) (n : Nat) (p : PortSt) : (s.setPort n p).shadows = s.shadows := rfl
@[simp] theorem State.setPort_bars (s : State) (n : Nat) (p : PortSt) : (s.setPort n p).bars = s.bars := rfl
@[simp] theorem State.setPort_rings (s : State) (n : Nat) (p : PortSt) : (s.setPort n p).rings = s.rings := rfl
@[simp] theorem State.setPort_engines (s : State) (n : Nat) (p : PortSt) : (s.setPort n p).engines = s.engines := rfl
@[simp] theorem State.setPort_engTags (s : State) (n : Nat) (p : PortSt) : (s.setPort n p).engTags = s.engTags := rfl
@[simp] theorem State.setPort_insts (s : State) (n : Nat) (p : PortSt) : (s.setPort n p).insts = s.insts := rfl
@[simp] theorem State.setPort_pbaRing (s : State) (n : Nat) (p : PortSt) : (s.setPort n p).pbaRing = s.pbaRing := rfl
@[simp] theorem State.setPort_remoteBridges (s : State) (n : Nat) (p : PortSt) : (s.setPort n p).remoteBridges = s.remoteBridges := rfl
@[simp] theorem State.setPort_remotePorts (s : State) (n : Nat) (p : PortSt) : (s.setPort n p).remotePorts = s.remotePorts := rfl
@[simp] theorem State.setPort_relayed (s : State) (n : Nat) (p : PortSt) : (s.setPort n p).relayed = s.relayed := rfl
@[simp] theorem State.setPort_links (s : State) (n : Nat) (p : PortSt) : (s.setPort n p).links = s.links := rfl
@[simp] theorem State.setPort_tests (s : State) (n : Nat) (p : PortSt) : (s.setPort n p).tests = s.tests := rfl
@[simp] theorem State.setPort_govAt (s : State) (n : Nat) (p : PortSt) : (s.setPort n p).govAt = s.govAt := rfl
@[simp] theorem State.setPort_upSince (s : State) (n : Nat) (p : PortSt) : (s.setPort n p).upSince = s.upSince := rfl
@[simp] theorem State.setPort_wasUsable (s : State) (n : Nat) (p : PortSt) : (s.setPort n p).wasUsable = s.wasUsable := rfl
@[simp] theorem State.setPort_firstAt (s : State) (n : Nat) (p : PortSt) : (s.setPort n p).firstAt = s.firstAt := rfl
@[simp] theorem State.setPort_homeBuses (s : State) (n : Nat) (p : PortSt) : (s.setPort n p).homeBuses = s.homeBuses := rfl
@[simp] theorem State.setPort_octetAsk (s : State) (n : Nat) (p : PortSt) : (s.setPort n p).octetAsk = s.octetAsk := rfl
@[simp] theorem State.setPort_announced (s : State) (n : Nat) (p : PortSt) : (s.setPort n p).announced = s.announced := rfl
@[simp] theorem State.setPort_goneRemotes (s : State) (n : Nat) (p : PortSt) : (s.setPort n p).goneRemotes = s.goneRemotes := rfl
@[simp] theorem State.setPort_evtCycles (s : State) (n : Nat) (p : PortSt) : (s.setPort n p).evtCycles = s.evtCycles := rfl
@[simp] theorem State.setPort_spvDue (s : State) (n : Nat) (p : PortSt) : (s.setPort n p).spvDue = s.spvDue := rfl
@[simp] theorem State.setPort_mapOld (s : State) (n : Nat) (p : PortSt) : (s.setPort n p).mapOld = s.mapOld := rfl
@[simp] theorem State.setPort_bar4Next (s : State) (n : Nat) (p : PortSt) : (s.setPort n p).bar4Next = s.bar4Next := rfl
@[simp] theorem State.setPort_bar4 (s : State) (n : Nat) (p : PortSt) : (s.setPort n p).bar4 = s.bar4 := rfl
@[simp] theorem State.setPort_heldCpl (s : State) (n : Nat) (p : PortSt) : (s.setPort n p).heldCpl = s.heldCpl := rfl
@[simp] theorem State.setPort_coreReads (s : State) (n : Nat) (p : PortSt) : (s.setPort n p).coreReads = s.coreReads := rfl
@[simp] theorem State.setPort_sec (s : State) (n : Nat) (p : PortSt) : (s.setPort n p).sec = s.sec := rfl
@[simp] theorem State.setPort_cul (s : State) (n : Nat) (p : PortSt) : (s.setPort n p).cul = s.cul := rfl
@[simp] theorem State.setPort_mgt (s : State) (n : Nat) (p : PortSt) : (s.setPort n p).mgt = s.mgt := rfl
@[simp] theorem State.setPort_board (s : State) (n : Nat) (p : PortSt) : (s.setPort n p).board = s.board := rfl
@[simp] theorem State.setPort_slots (s : State) (n : Nat) (p : PortSt) : (s.setPort n p).slots = s.slots := rfl
@[simp] theorem State.setPort_drainAt (s : State) (n : Nat) (p : PortSt) : (s.setPort n p).drainAt = s.drainAt := rfl
@[simp] theorem State.setPort_safeAt (s : State) (n : Nat) (p : PortSt) : (s.setPort n p).safeAt = s.safeAt := rfl
@[simp] theorem State.setPort_uptrip (s : State) (n : Nat) (p : PortSt) : (s.setPort n p).uptrip = s.uptrip := rfl
@[simp] theorem State.setPort_retiredTags (s : State) (n : Nat) (p : PortSt) : (s.setPort n p).retiredTags = s.retiredTags := rfl
@[simp] theorem State.setPort_dpcDue (s : State) (n : Nat) (p : PortSt) : (s.setPort n p).dpcDue = s.dpcDue := rfl
@[simp] theorem State.setPort_unbridged (s : State) (n : Nat) (p : PortSt) : (s.setPort n p).unbridged = s.unbridged := rfl
@[simp] theorem State.setPort_remoteWords (s : State) (n : Nat) (p : PortSt) : (s.setPort n p).remoteWords = s.remoteWords := rfl

@[simp] theorem State.modFrame_pending (s : State) (id : Nat) (f : Frame → Frame) : (s.modFrame id f).pending = s.pending := rfl
@[simp] theorem State.modFrame_free (s : State) (id : Nat) (f : Frame → Frame) : (s.modFrame id f).free = s.free := rfl
@[simp] theorem State.modFrame_undef (s : State) (id : Nat) (f : Frame → Frame) : (s.modFrame id f).undef = s.undef := rfl
@[simp] theorem State.modFrame_answer (s : State) (id : Nat) (f : Frame → Frame) : (s.modFrame id f).answer = s.answer := rfl
@[simp] theorem State.modFrame_now (s : State) (id : Nat) (f : Frame → Frame) : (s.modFrame id f).now = s.now := rfl
@[simp] theorem State.modFrame_service (s : State) (id : Nat) (f : Frame → Frame) : (s.modFrame id f).service = s.service := rfl
@[simp] theorem State.modFrame_regs (s : State) (id : Nat) (f : Frame → Frame) : (s.modFrame id f).regs = s.regs := rfl
@[simp] theorem State.modFrame_ctrs (s : State) (id : Nat) (f : Frame → Frame) : (s.modFrame id f).ctrs = s.ctrs := rfl
@[simp] theorem State.modFrame_tbls (s : State) (id : Nat) (f : Frame → Frame) : (s.modFrame id f).tbls = s.tbls := rfl
@[simp] theorem State.modFrame_latches (s : State) (id : Nat) (f : Frame → Frame) : (s.modFrame id f).latches = s.latches := rfl
@[simp] theorem State.modFrame_tblRuns (s : State) (id : Nat) (f : Frame → Frame) : (s.modFrame id f).tblRuns = s.tblRuns := rfl
@[simp] theorem State.modFrame_tb (s : State) (id : Nat) (f : Frame → Frame) : (s.modFrame id f).tb = s.tb := rfl
@[simp] theorem State.modFrame_fs (s : State) (id : Nat) (f : Frame → Frame) : (s.modFrame id f).fs = s.fs := rfl
@[simp] theorem State.modFrame_gates (s : State) (id : Nat) (f : Frame → Frame) : (s.modFrame id f).gates = s.gates := rfl
@[simp] theorem State.modFrame_armInst (s : State) (id : Nat) (f : Frame → Frame) : (s.modFrame id f).armInst = s.armInst := rfl
@[simp] theorem State.modFrame_firing (s : State) (id : Nat) (f : Frame → Frame) : (s.modFrame id f).firing = s.firing := rfl
@[simp] theorem State.modFrame_sweep (s : State) (id : Nat) (f : Frame → Frame) : (s.modFrame id f).sweep = s.sweep := rfl
@[simp] theorem State.modFrame_sessions (s : State) (id : Nat) (f : Frame → Frame) : (s.modFrame id f).sessions = s.sessions := rfl
@[simp] theorem State.modFrame_samplers (s : State) (id : Nat) (f : Frame → Frame) : (s.modFrame id f).samplers = s.samplers := rfl
@[simp] theorem State.modFrame_samples (s : State) (id : Nat) (f : Frame → Frame) : (s.modFrame id f).samples = s.samples := rfl
@[simp] theorem State.modFrame_govSeq (s : State) (id : Nat) (f : Frame → Frame) : (s.modFrame id f).govSeq = s.govSeq := rfl
@[simp] theorem State.modFrame_err (s : State) (id : Nat) (f : Frame → Frame) : (s.modFrame id f).err = s.err := rfl
@[simp] theorem State.modFrame_shadows (s : State) (id : Nat) (f : Frame → Frame) : (s.modFrame id f).shadows = s.shadows := rfl
@[simp] theorem State.modFrame_bars (s : State) (id : Nat) (f : Frame → Frame) : (s.modFrame id f).bars = s.bars := rfl
@[simp] theorem State.modFrame_rings (s : State) (id : Nat) (f : Frame → Frame) : (s.modFrame id f).rings = s.rings := rfl
@[simp] theorem State.modFrame_engines (s : State) (id : Nat) (f : Frame → Frame) : (s.modFrame id f).engines = s.engines := rfl
@[simp] theorem State.modFrame_engTags (s : State) (id : Nat) (f : Frame → Frame) : (s.modFrame id f).engTags = s.engTags := rfl
@[simp] theorem State.modFrame_insts (s : State) (id : Nat) (f : Frame → Frame) : (s.modFrame id f).insts = s.insts := rfl
@[simp] theorem State.modFrame_pbaRing (s : State) (id : Nat) (f : Frame → Frame) : (s.modFrame id f).pbaRing = s.pbaRing := rfl
@[simp] theorem State.modFrame_remoteBridges (s : State) (id : Nat) (f : Frame → Frame) : (s.modFrame id f).remoteBridges = s.remoteBridges := rfl
@[simp] theorem State.modFrame_remotePorts (s : State) (id : Nat) (f : Frame → Frame) : (s.modFrame id f).remotePorts = s.remotePorts := rfl
@[simp] theorem State.modFrame_relayed (s : State) (id : Nat) (f : Frame → Frame) : (s.modFrame id f).relayed = s.relayed := rfl
@[simp] theorem State.modFrame_links (s : State) (id : Nat) (f : Frame → Frame) : (s.modFrame id f).links = s.links := rfl
@[simp] theorem State.modFrame_tests (s : State) (id : Nat) (f : Frame → Frame) : (s.modFrame id f).tests = s.tests := rfl
@[simp] theorem State.modFrame_govAt (s : State) (id : Nat) (f : Frame → Frame) : (s.modFrame id f).govAt = s.govAt := rfl
@[simp] theorem State.modFrame_upSince (s : State) (id : Nat) (f : Frame → Frame) : (s.modFrame id f).upSince = s.upSince := rfl
@[simp] theorem State.modFrame_wasUsable (s : State) (id : Nat) (f : Frame → Frame) : (s.modFrame id f).wasUsable = s.wasUsable := rfl
@[simp] theorem State.modFrame_firstAt (s : State) (id : Nat) (f : Frame → Frame) : (s.modFrame id f).firstAt = s.firstAt := rfl
@[simp] theorem State.modFrame_homeBuses (s : State) (id : Nat) (f : Frame → Frame) : (s.modFrame id f).homeBuses = s.homeBuses := rfl
@[simp] theorem State.modFrame_octetAsk (s : State) (id : Nat) (f : Frame → Frame) : (s.modFrame id f).octetAsk = s.octetAsk := rfl
@[simp] theorem State.modFrame_announced (s : State) (id : Nat) (f : Frame → Frame) : (s.modFrame id f).announced = s.announced := rfl
@[simp] theorem State.modFrame_goneRemotes (s : State) (id : Nat) (f : Frame → Frame) : (s.modFrame id f).goneRemotes = s.goneRemotes := rfl
@[simp] theorem State.modFrame_evtCycles (s : State) (id : Nat) (f : Frame → Frame) : (s.modFrame id f).evtCycles = s.evtCycles := rfl
@[simp] theorem State.modFrame_spvDue (s : State) (id : Nat) (f : Frame → Frame) : (s.modFrame id f).spvDue = s.spvDue := rfl
@[simp] theorem State.modFrame_mapOld (s : State) (id : Nat) (f : Frame → Frame) : (s.modFrame id f).mapOld = s.mapOld := rfl
@[simp] theorem State.modFrame_bar4Next (s : State) (id : Nat) (f : Frame → Frame) : (s.modFrame id f).bar4Next = s.bar4Next := rfl
@[simp] theorem State.modFrame_bar4 (s : State) (id : Nat) (f : Frame → Frame) : (s.modFrame id f).bar4 = s.bar4 := rfl
@[simp] theorem State.modFrame_heldCpl (s : State) (id : Nat) (f : Frame → Frame) : (s.modFrame id f).heldCpl = s.heldCpl := rfl
@[simp] theorem State.modFrame_coreReads (s : State) (id : Nat) (f : Frame → Frame) : (s.modFrame id f).coreReads = s.coreReads := rfl
@[simp] theorem State.modFrame_sec (s : State) (id : Nat) (f : Frame → Frame) : (s.modFrame id f).sec = s.sec := rfl
@[simp] theorem State.modFrame_cul (s : State) (id : Nat) (f : Frame → Frame) : (s.modFrame id f).cul = s.cul := rfl
@[simp] theorem State.modFrame_mgt (s : State) (id : Nat) (f : Frame → Frame) : (s.modFrame id f).mgt = s.mgt := rfl
@[simp] theorem State.modFrame_board (s : State) (id : Nat) (f : Frame → Frame) : (s.modFrame id f).board = s.board := rfl
@[simp] theorem State.modFrame_slots (s : State) (id : Nat) (f : Frame → Frame) : (s.modFrame id f).slots = s.slots := rfl
@[simp] theorem State.modFrame_drainAt (s : State) (id : Nat) (f : Frame → Frame) : (s.modFrame id f).drainAt = s.drainAt := rfl
@[simp] theorem State.modFrame_safeAt (s : State) (id : Nat) (f : Frame → Frame) : (s.modFrame id f).safeAt = s.safeAt := rfl
@[simp] theorem State.modFrame_uptrip (s : State) (id : Nat) (f : Frame → Frame) : (s.modFrame id f).uptrip = s.uptrip := rfl
@[simp] theorem State.modFrame_retiredTags (s : State) (id : Nat) (f : Frame → Frame) : (s.modFrame id f).retiredTags = s.retiredTags := rfl
@[simp] theorem State.modFrame_dpcDue (s : State) (id : Nat) (f : Frame → Frame) : (s.modFrame id f).dpcDue = s.dpcDue := rfl
@[simp] theorem State.modFrame_unbridged (s : State) (id : Nat) (f : Frame → Frame) : (s.modFrame id f).unbridged = s.unbridged := rfl
@[simp] theorem State.modFrame_remoteWords (s : State) (id : Nat) (f : Frame → Frame) : (s.modFrame id f).remoteWords = s.remoteWords := rfl

@[simp] theorem State.setCopies_pending (s : State) (cs : List Copy) : (s.setCopies cs).pending = s.pending := rfl
@[simp] theorem State.setCopies_free (s : State) (cs : List Copy) : (s.setCopies cs).free = s.free := rfl
@[simp] theorem State.setCopies_undef (s : State) (cs : List Copy) : (s.setCopies cs).undef = s.undef := rfl
@[simp] theorem State.setCopies_answer (s : State) (cs : List Copy) : (s.setCopies cs).answer = s.answer := rfl
@[simp] theorem State.setCopies_now (s : State) (cs : List Copy) : (s.setCopies cs).now = s.now := rfl
@[simp] theorem State.setCopies_service (s : State) (cs : List Copy) : (s.setCopies cs).service = s.service := rfl
@[simp] theorem State.setCopies_regs (s : State) (cs : List Copy) : (s.setCopies cs).regs = s.regs := rfl
@[simp] theorem State.setCopies_ctrs (s : State) (cs : List Copy) : (s.setCopies cs).ctrs = s.ctrs := rfl
@[simp] theorem State.setCopies_tbls (s : State) (cs : List Copy) : (s.setCopies cs).tbls = s.tbls := rfl
@[simp] theorem State.setCopies_latches (s : State) (cs : List Copy) : (s.setCopies cs).latches = s.latches := rfl
@[simp] theorem State.setCopies_tblRuns (s : State) (cs : List Copy) : (s.setCopies cs).tblRuns = s.tblRuns := rfl
@[simp] theorem State.setCopies_tb (s : State) (cs : List Copy) : (s.setCopies cs).tb = s.tb := rfl
@[simp] theorem State.setCopies_fs (s : State) (cs : List Copy) : (s.setCopies cs).fs = s.fs := rfl
@[simp] theorem State.setCopies_gates (s : State) (cs : List Copy) : (s.setCopies cs).gates = s.gates := rfl
@[simp] theorem State.setCopies_armInst (s : State) (cs : List Copy) : (s.setCopies cs).armInst = s.armInst := rfl
@[simp] theorem State.setCopies_firing (s : State) (cs : List Copy) : (s.setCopies cs).firing = s.firing := rfl
@[simp] theorem State.setCopies_sweep (s : State) (cs : List Copy) : (s.setCopies cs).sweep = s.sweep := rfl
@[simp] theorem State.setCopies_sessions (s : State) (cs : List Copy) : (s.setCopies cs).sessions = s.sessions := rfl
@[simp] theorem State.setCopies_samplers (s : State) (cs : List Copy) : (s.setCopies cs).samplers = s.samplers := rfl
@[simp] theorem State.setCopies_samples (s : State) (cs : List Copy) : (s.setCopies cs).samples = s.samples := rfl
@[simp] theorem State.setCopies_govSeq (s : State) (cs : List Copy) : (s.setCopies cs).govSeq = s.govSeq := rfl
@[simp] theorem State.setCopies_err (s : State) (cs : List Copy) : (s.setCopies cs).err = s.err := rfl
@[simp] theorem State.setCopies_shadows (s : State) (cs : List Copy) : (s.setCopies cs).shadows = s.shadows := rfl
@[simp] theorem State.setCopies_bars (s : State) (cs : List Copy) : (s.setCopies cs).bars = s.bars := rfl
@[simp] theorem State.setCopies_rings (s : State) (cs : List Copy) : (s.setCopies cs).rings = s.rings := rfl
@[simp] theorem State.setCopies_engines (s : State) (cs : List Copy) : (s.setCopies cs).engines = s.engines := rfl
@[simp] theorem State.setCopies_engTags (s : State) (cs : List Copy) : (s.setCopies cs).engTags = s.engTags := rfl
@[simp] theorem State.setCopies_insts (s : State) (cs : List Copy) : (s.setCopies cs).insts = s.insts := rfl
@[simp] theorem State.setCopies_pbaRing (s : State) (cs : List Copy) : (s.setCopies cs).pbaRing = s.pbaRing := rfl
@[simp] theorem State.setCopies_remoteBridges (s : State) (cs : List Copy) : (s.setCopies cs).remoteBridges = s.remoteBridges := rfl
@[simp] theorem State.setCopies_remotePorts (s : State) (cs : List Copy) : (s.setCopies cs).remotePorts = s.remotePorts := rfl
@[simp] theorem State.setCopies_relayed (s : State) (cs : List Copy) : (s.setCopies cs).relayed = s.relayed := rfl
@[simp] theorem State.setCopies_links (s : State) (cs : List Copy) : (s.setCopies cs).links = s.links := rfl
@[simp] theorem State.setCopies_tests (s : State) (cs : List Copy) : (s.setCopies cs).tests = s.tests := rfl
@[simp] theorem State.setCopies_govAt (s : State) (cs : List Copy) : (s.setCopies cs).govAt = s.govAt := rfl
@[simp] theorem State.setCopies_upSince (s : State) (cs : List Copy) : (s.setCopies cs).upSince = s.upSince := rfl
@[simp] theorem State.setCopies_wasUsable (s : State) (cs : List Copy) : (s.setCopies cs).wasUsable = s.wasUsable := rfl
@[simp] theorem State.setCopies_firstAt (s : State) (cs : List Copy) : (s.setCopies cs).firstAt = s.firstAt := rfl
@[simp] theorem State.setCopies_homeBuses (s : State) (cs : List Copy) : (s.setCopies cs).homeBuses = s.homeBuses := rfl
@[simp] theorem State.setCopies_octetAsk (s : State) (cs : List Copy) : (s.setCopies cs).octetAsk = s.octetAsk := rfl
@[simp] theorem State.setCopies_announced (s : State) (cs : List Copy) : (s.setCopies cs).announced = s.announced := rfl
@[simp] theorem State.setCopies_goneRemotes (s : State) (cs : List Copy) : (s.setCopies cs).goneRemotes = s.goneRemotes := rfl
@[simp] theorem State.setCopies_evtCycles (s : State) (cs : List Copy) : (s.setCopies cs).evtCycles = s.evtCycles := rfl
@[simp] theorem State.setCopies_spvDue (s : State) (cs : List Copy) : (s.setCopies cs).spvDue = s.spvDue := rfl
@[simp] theorem State.setCopies_mapOld (s : State) (cs : List Copy) : (s.setCopies cs).mapOld = s.mapOld := rfl
@[simp] theorem State.setCopies_bar4Next (s : State) (cs : List Copy) : (s.setCopies cs).bar4Next = s.bar4Next := rfl
@[simp] theorem State.setCopies_bar4 (s : State) (cs : List Copy) : (s.setCopies cs).bar4 = s.bar4 := rfl
@[simp] theorem State.setCopies_heldCpl (s : State) (cs : List Copy) : (s.setCopies cs).heldCpl = s.heldCpl := rfl
@[simp] theorem State.setCopies_coreReads (s : State) (cs : List Copy) : (s.setCopies cs).coreReads = s.coreReads := rfl
@[simp] theorem State.setCopies_sec (s : State) (cs : List Copy) : (s.setCopies cs).sec = s.sec := rfl
@[simp] theorem State.setCopies_cul (s : State) (cs : List Copy) : (s.setCopies cs).cul = s.cul := rfl
@[simp] theorem State.setCopies_mgt (s : State) (cs : List Copy) : (s.setCopies cs).mgt = s.mgt := rfl
@[simp] theorem State.setCopies_board (s : State) (cs : List Copy) : (s.setCopies cs).board = s.board := rfl
@[simp] theorem State.setCopies_slots (s : State) (cs : List Copy) : (s.setCopies cs).slots = s.slots := rfl
@[simp] theorem State.setCopies_drainAt (s : State) (cs : List Copy) : (s.setCopies cs).drainAt = s.drainAt := rfl
@[simp] theorem State.setCopies_safeAt (s : State) (cs : List Copy) : (s.setCopies cs).safeAt = s.safeAt := rfl
@[simp] theorem State.setCopies_uptrip (s : State) (cs : List Copy) : (s.setCopies cs).uptrip = s.uptrip := rfl
@[simp] theorem State.setCopies_retiredTags (s : State) (cs : List Copy) : (s.setCopies cs).retiredTags = s.retiredTags := rfl
@[simp] theorem State.setCopies_dpcDue (s : State) (cs : List Copy) : (s.setCopies cs).dpcDue = s.dpcDue := rfl
@[simp] theorem State.setCopies_unbridged (s : State) (cs : List Copy) : (s.setCopies cs).unbridged = s.unbridged := rfl
@[simp] theorem State.setCopies_remoteWords (s : State) (cs : List Copy) : (s.setCopies cs).remoteWords = s.remoteWords := rfl

@[simp] theorem State.bumpBy_pending (s : State) (a n : Nat) : (s.bumpBy a n).pending = s.pending := by unfold State.bumpBy; split <;> rfl
@[simp] theorem State.bumpBy_free (s : State) (a n : Nat) : (s.bumpBy a n).free = s.free := by unfold State.bumpBy; split <;> rfl
@[simp] theorem State.bumpBy_undef (s : State) (a n : Nat) : (s.bumpBy a n).undef = s.undef := by unfold State.bumpBy; split <;> rfl
@[simp] theorem State.bumpBy_answer (s : State) (a n : Nat) : (s.bumpBy a n).answer = s.answer := by unfold State.bumpBy; split <;> rfl
@[simp] theorem State.bumpBy_now (s : State) (a n : Nat) : (s.bumpBy a n).now = s.now := by unfold State.bumpBy; split <;> rfl
@[simp] theorem State.bumpBy_service (s : State) (a n : Nat) : (s.bumpBy a n).service = s.service := by unfold State.bumpBy; split <;> rfl
@[simp] theorem State.bumpBy_regs (s : State) (a n : Nat) : (s.bumpBy a n).regs = s.regs := by unfold State.bumpBy; split <;> rfl
@[simp] theorem State.bumpBy_tbls (s : State) (a n : Nat) : (s.bumpBy a n).tbls = s.tbls := by unfold State.bumpBy; split <;> rfl
@[simp] theorem State.bumpBy_latches (s : State) (a n : Nat) : (s.bumpBy a n).latches = s.latches := by unfold State.bumpBy; split <;> rfl
@[simp] theorem State.bumpBy_tblRuns (s : State) (a n : Nat) : (s.bumpBy a n).tblRuns = s.tblRuns := by unfold State.bumpBy; split <;> rfl
@[simp] theorem State.bumpBy_tb (s : State) (a n : Nat) : (s.bumpBy a n).tb = s.tb := by unfold State.bumpBy; split <;> rfl
@[simp] theorem State.bumpBy_fs (s : State) (a n : Nat) : (s.bumpBy a n).fs = s.fs := by unfold State.bumpBy; split <;> rfl
@[simp] theorem State.bumpBy_gates (s : State) (a n : Nat) : (s.bumpBy a n).gates = s.gates := by unfold State.bumpBy; split <;> rfl
@[simp] theorem State.bumpBy_armInst (s : State) (a n : Nat) : (s.bumpBy a n).armInst = s.armInst := by unfold State.bumpBy; split <;> rfl
@[simp] theorem State.bumpBy_firing (s : State) (a n : Nat) : (s.bumpBy a n).firing = s.firing := by unfold State.bumpBy; split <;> rfl
@[simp] theorem State.bumpBy_sw (s : State) (a n : Nat) : (s.bumpBy a n).sw = s.sw := by unfold State.bumpBy; split <;> rfl
@[simp] theorem State.bumpBy_sweep (s : State) (a n : Nat) : (s.bumpBy a n).sweep = s.sweep := by unfold State.bumpBy; split <;> rfl
@[simp] theorem State.bumpBy_sessions (s : State) (a n : Nat) : (s.bumpBy a n).sessions = s.sessions := by unfold State.bumpBy; split <;> rfl
@[simp] theorem State.bumpBy_samplers (s : State) (a n : Nat) : (s.bumpBy a n).samplers = s.samplers := by unfold State.bumpBy; split <;> rfl
@[simp] theorem State.bumpBy_samples (s : State) (a n : Nat) : (s.bumpBy a n).samples = s.samples := by unfold State.bumpBy; split <;> rfl
@[simp] theorem State.bumpBy_govSeq (s : State) (a n : Nat) : (s.bumpBy a n).govSeq = s.govSeq := by unfold State.bumpBy; split <;> rfl
@[simp] theorem State.bumpBy_err (s : State) (a n : Nat) : (s.bumpBy a n).err = s.err := by unfold State.bumpBy; split <;> rfl
@[simp] theorem State.bumpBy_shadows (s : State) (a n : Nat) : (s.bumpBy a n).shadows = s.shadows := by unfold State.bumpBy; split <;> rfl
@[simp] theorem State.bumpBy_bars (s : State) (a n : Nat) : (s.bumpBy a n).bars = s.bars := by unfold State.bumpBy; split <;> rfl
@[simp] theorem State.bumpBy_rings (s : State) (a n : Nat) : (s.bumpBy a n).rings = s.rings := by unfold State.bumpBy; split <;> rfl
@[simp] theorem State.bumpBy_engines (s : State) (a n : Nat) : (s.bumpBy a n).engines = s.engines := by unfold State.bumpBy; split <;> rfl
@[simp] theorem State.bumpBy_engTags (s : State) (a n : Nat) : (s.bumpBy a n).engTags = s.engTags := by unfold State.bumpBy; split <;> rfl
@[simp] theorem State.bumpBy_insts (s : State) (a n : Nat) : (s.bumpBy a n).insts = s.insts := by unfold State.bumpBy; split <;> rfl
@[simp] theorem State.bumpBy_pbaRing (s : State) (a n : Nat) : (s.bumpBy a n).pbaRing = s.pbaRing := by unfold State.bumpBy; split <;> rfl
@[simp] theorem State.bumpBy_remoteBridges (s : State) (a n : Nat) : (s.bumpBy a n).remoteBridges = s.remoteBridges := by unfold State.bumpBy; split <;> rfl
@[simp] theorem State.bumpBy_remotePorts (s : State) (a n : Nat) : (s.bumpBy a n).remotePorts = s.remotePorts := by unfold State.bumpBy; split <;> rfl
@[simp] theorem State.bumpBy_relayed (s : State) (a n : Nat) : (s.bumpBy a n).relayed = s.relayed := by unfold State.bumpBy; split <;> rfl
@[simp] theorem State.bumpBy_links (s : State) (a n : Nat) : (s.bumpBy a n).links = s.links := by unfold State.bumpBy; split <;> rfl
@[simp] theorem State.bumpBy_tests (s : State) (a n : Nat) : (s.bumpBy a n).tests = s.tests := by unfold State.bumpBy; split <;> rfl
@[simp] theorem State.bumpBy_govAt (s : State) (a n : Nat) : (s.bumpBy a n).govAt = s.govAt := by unfold State.bumpBy; split <;> rfl
@[simp] theorem State.bumpBy_upSince (s : State) (a n : Nat) : (s.bumpBy a n).upSince = s.upSince := by unfold State.bumpBy; split <;> rfl
@[simp] theorem State.bumpBy_wasUsable (s : State) (a n : Nat) : (s.bumpBy a n).wasUsable = s.wasUsable := by unfold State.bumpBy; split <;> rfl
@[simp] theorem State.bumpBy_bar4Next (s : State) (a n : Nat) : (s.bumpBy a n).bar4Next = s.bar4Next := by unfold State.bumpBy; split <;> rfl
@[simp] theorem State.bumpBy_bar4 (s : State) (a n : Nat) : (s.bumpBy a n).bar4 = s.bar4 := by unfold State.bumpBy; split <;> rfl
@[simp] theorem State.bumpBy_heldCpl (s : State) (a n : Nat) : (s.bumpBy a n).heldCpl = s.heldCpl := by unfold State.bumpBy; split <;> rfl
@[simp] theorem State.bumpBy_coreReads (s : State) (a n : Nat) : (s.bumpBy a n).coreReads = s.coreReads := by unfold State.bumpBy; split <;> rfl
@[simp] theorem State.bumpBy_sec (s : State) (a n : Nat) : (s.bumpBy a n).sec = s.sec := by unfold State.bumpBy; split <;> rfl
@[simp] theorem State.bumpBy_cul (s : State) (a n : Nat) : (s.bumpBy a n).cul = s.cul := by unfold State.bumpBy; split <;> rfl
@[simp] theorem State.bumpBy_mgt (s : State) (a n : Nat) : (s.bumpBy a n).mgt = s.mgt := by unfold State.bumpBy; split <;> rfl
@[simp] theorem State.bumpBy_board (s : State) (a n : Nat) : (s.bumpBy a n).board = s.board := by unfold State.bumpBy; split <;> rfl
@[simp] theorem State.bumpBy_slots (s : State) (a n : Nat) : (s.bumpBy a n).slots = s.slots := by unfold State.bumpBy; split <;> rfl
@[simp] theorem State.bumpBy_drainAt (s : State) (a n : Nat) : (s.bumpBy a n).drainAt = s.drainAt := by unfold State.bumpBy; split <;> rfl
@[simp] theorem State.bumpBy_safeAt (s : State) (a n : Nat) : (s.bumpBy a n).safeAt = s.safeAt := by unfold State.bumpBy; split <;> rfl
@[simp] theorem State.bumpBy_uptrip (s : State) (a n : Nat) : (s.bumpBy a n).uptrip = s.uptrip := by unfold State.bumpBy; split <;> rfl
@[simp] theorem State.bumpBy_retiredTags (s : State) (a n : Nat) : (s.bumpBy a n).retiredTags = s.retiredTags := by unfold State.bumpBy; split <;> rfl
@[simp] theorem State.bumpBy_dpcDue (s : State) (a n : Nat) : (s.bumpBy a n).dpcDue = s.dpcDue := by unfold State.bumpBy; split <;> rfl
@[simp] theorem State.bumpBy_unbridged (s : State) (a n : Nat) : (s.bumpBy a n).unbridged = s.unbridged := by unfold State.bumpBy; split <;> rfl
@[simp] theorem State.bumpBy_remoteWords (s : State) (a n : Nat) : (s.bumpBy a n).remoteWords = s.remoteWords := by unfold State.bumpBy; split <;> rfl
@[simp] theorem State.bumpBy_firstAt (s : State) (a n : Nat) : (s.bumpBy a n).firstAt = s.firstAt := by unfold State.bumpBy; split <;> rfl
@[simp] theorem State.bumpBy_homeBuses (s : State) (a n : Nat) : (s.bumpBy a n).homeBuses = s.homeBuses := by unfold State.bumpBy; split <;> rfl
@[simp] theorem State.bumpBy_octetAsk (s : State) (a n : Nat) : (s.bumpBy a n).octetAsk = s.octetAsk := by unfold State.bumpBy; split <;> rfl
@[simp] theorem State.bumpBy_announced (s : State) (a n : Nat) : (s.bumpBy a n).announced = s.announced := by unfold State.bumpBy; split <;> rfl
@[simp] theorem State.bumpBy_goneRemotes (s : State) (a n : Nat) : (s.bumpBy a n).goneRemotes = s.goneRemotes := by unfold State.bumpBy; split <;> rfl
@[simp] theorem State.bumpBy_evtCycles (s : State) (a n : Nat) : (s.bumpBy a n).evtCycles = s.evtCycles := by unfold State.bumpBy; split <;> rfl
@[simp] theorem State.bumpBy_spvDue (s : State) (a n : Nat) : (s.bumpBy a n).spvDue = s.spvDue := by unfold State.bumpBy; split <;> rfl
@[simp] theorem State.bumpBy_mapOld (s : State) (a n : Nat) : (s.bumpBy a n).mapOld = s.mapOld := by unfold State.bumpBy; split <;> rfl
@[simp] theorem State.bump_pending (s : State) (a : Nat) : (s.bump a).pending = s.pending := State.bumpBy_pending s a 1
@[simp] theorem State.bump_free (s : State) (a : Nat) : (s.bump a).free = s.free := State.bumpBy_free s a 1
@[simp] theorem State.bump_undef (s : State) (a : Nat) : (s.bump a).undef = s.undef := State.bumpBy_undef s a 1
@[simp] theorem State.bump_answer (s : State) (a : Nat) : (s.bump a).answer = s.answer := State.bumpBy_answer s a 1
@[simp] theorem State.bump_now (s : State) (a : Nat) : (s.bump a).now = s.now := State.bumpBy_now s a 1
@[simp] theorem State.bump_service (s : State) (a : Nat) : (s.bump a).service = s.service := State.bumpBy_service s a 1
@[simp] theorem State.bump_regs (s : State) (a : Nat) : (s.bump a).regs = s.regs := State.bumpBy_regs s a 1
@[simp] theorem State.bump_tbls (s : State) (a : Nat) : (s.bump a).tbls = s.tbls := State.bumpBy_tbls s a 1
@[simp] theorem State.bump_latches (s : State) (a : Nat) : (s.bump a).latches = s.latches := State.bumpBy_latches s a 1
@[simp] theorem State.bump_tblRuns (s : State) (a : Nat) : (s.bump a).tblRuns = s.tblRuns := State.bumpBy_tblRuns s a 1
@[simp] theorem State.bump_tb (s : State) (a : Nat) : (s.bump a).tb = s.tb := State.bumpBy_tb s a 1
@[simp] theorem State.bump_fs (s : State) (a : Nat) : (s.bump a).fs = s.fs := State.bumpBy_fs s a 1
@[simp] theorem State.bump_gates (s : State) (a : Nat) : (s.bump a).gates = s.gates := State.bumpBy_gates s a 1
@[simp] theorem State.bump_armInst (s : State) (a : Nat) : (s.bump a).armInst = s.armInst := State.bumpBy_armInst s a 1
@[simp] theorem State.bump_firing (s : State) (a : Nat) : (s.bump a).firing = s.firing := State.bumpBy_firing s a 1
@[simp] theorem State.bump_sw (s : State) (a : Nat) : (s.bump a).sw = s.sw := State.bumpBy_sw s a 1
@[simp] theorem State.bump_sweep (s : State) (a : Nat) : (s.bump a).sweep = s.sweep := State.bumpBy_sweep s a 1
@[simp] theorem State.bump_sessions (s : State) (a : Nat) : (s.bump a).sessions = s.sessions := State.bumpBy_sessions s a 1
@[simp] theorem State.bump_samplers (s : State) (a : Nat) : (s.bump a).samplers = s.samplers := State.bumpBy_samplers s a 1
@[simp] theorem State.bump_samples (s : State) (a : Nat) : (s.bump a).samples = s.samples := State.bumpBy_samples s a 1
@[simp] theorem State.bump_govSeq (s : State) (a : Nat) : (s.bump a).govSeq = s.govSeq := State.bumpBy_govSeq s a 1
@[simp] theorem State.bump_err (s : State) (a : Nat) : (s.bump a).err = s.err := State.bumpBy_err s a 1
@[simp] theorem State.bump_shadows (s : State) (a : Nat) : (s.bump a).shadows = s.shadows := State.bumpBy_shadows s a 1
@[simp] theorem State.bump_bars (s : State) (a : Nat) : (s.bump a).bars = s.bars := State.bumpBy_bars s a 1
@[simp] theorem State.bump_rings (s : State) (a : Nat) : (s.bump a).rings = s.rings := State.bumpBy_rings s a 1
@[simp] theorem State.bump_engines (s : State) (a : Nat) : (s.bump a).engines = s.engines := State.bumpBy_engines s a 1
@[simp] theorem State.bump_engTags (s : State) (a : Nat) : (s.bump a).engTags = s.engTags := State.bumpBy_engTags s a 1
@[simp] theorem State.bump_insts (s : State) (a : Nat) : (s.bump a).insts = s.insts := State.bumpBy_insts s a 1
@[simp] theorem State.bump_pbaRing (s : State) (a : Nat) : (s.bump a).pbaRing = s.pbaRing := State.bumpBy_pbaRing s a 1
@[simp] theorem State.bump_remoteBridges (s : State) (a : Nat) : (s.bump a).remoteBridges = s.remoteBridges := State.bumpBy_remoteBridges s a 1
@[simp] theorem State.bump_remotePorts (s : State) (a : Nat) : (s.bump a).remotePorts = s.remotePorts := State.bumpBy_remotePorts s a 1
@[simp] theorem State.bump_relayed (s : State) (a : Nat) : (s.bump a).relayed = s.relayed := State.bumpBy_relayed s a 1
@[simp] theorem State.bump_links (s : State) (a : Nat) : (s.bump a).links = s.links := State.bumpBy_links s a 1
@[simp] theorem State.bump_tests (s : State) (a : Nat) : (s.bump a).tests = s.tests := State.bumpBy_tests s a 1
@[simp] theorem State.bump_govAt (s : State) (a : Nat) : (s.bump a).govAt = s.govAt := State.bumpBy_govAt s a 1
@[simp] theorem State.bump_upSince (s : State) (a : Nat) : (s.bump a).upSince = s.upSince := State.bumpBy_upSince s a 1
@[simp] theorem State.bump_wasUsable (s : State) (a : Nat) : (s.bump a).wasUsable = s.wasUsable := State.bumpBy_wasUsable s a 1
@[simp] theorem State.bump_bar4Next (s : State) (a : Nat) : (s.bump a).bar4Next = s.bar4Next := State.bumpBy_bar4Next s a 1
@[simp] theorem State.bump_bar4 (s : State) (a : Nat) : (s.bump a).bar4 = s.bar4 := State.bumpBy_bar4 s a 1
@[simp] theorem State.bump_heldCpl (s : State) (a : Nat) : (s.bump a).heldCpl = s.heldCpl := State.bumpBy_heldCpl s a 1
@[simp] theorem State.bump_coreReads (s : State) (a : Nat) : (s.bump a).coreReads = s.coreReads := State.bumpBy_coreReads s a 1
@[simp] theorem State.bump_sec (s : State) (a : Nat) : (s.bump a).sec = s.sec := State.bumpBy_sec s a 1
@[simp] theorem State.bump_cul (s : State) (a : Nat) : (s.bump a).cul = s.cul := State.bumpBy_cul s a 1
@[simp] theorem State.bump_mgt (s : State) (a : Nat) : (s.bump a).mgt = s.mgt := State.bumpBy_mgt s a 1
@[simp] theorem State.bump_board (s : State) (a : Nat) : (s.bump a).board = s.board := State.bumpBy_board s a 1
@[simp] theorem State.bump_slots (s : State) (a : Nat) : (s.bump a).slots = s.slots := State.bumpBy_slots s a 1
@[simp] theorem State.bump_drainAt (s : State) (a : Nat) : (s.bump a).drainAt = s.drainAt := State.bumpBy_drainAt s a 1
@[simp] theorem State.bump_safeAt (s : State) (a : Nat) : (s.bump a).safeAt = s.safeAt := State.bumpBy_safeAt s a 1
@[simp] theorem State.bump_uptrip (s : State) (a : Nat) : (s.bump a).uptrip = s.uptrip := State.bumpBy_uptrip s a 1
@[simp] theorem State.bump_retiredTags (s : State) (a : Nat) : (s.bump a).retiredTags = s.retiredTags := State.bumpBy_retiredTags s a 1
@[simp] theorem State.bump_dpcDue (s : State) (a : Nat) : (s.bump a).dpcDue = s.dpcDue := State.bumpBy_dpcDue s a 1
@[simp] theorem State.bump_unbridged (s : State) (a : Nat) : (s.bump a).unbridged = s.unbridged := State.bumpBy_unbridged s a 1
@[simp] theorem State.bump_remoteWords (s : State) (a : Nat) : (s.bump a).remoteWords = s.remoteWords := State.bumpBy_remoteWords s a 1
@[simp] theorem State.bump_firstAt (s : State) (a : Nat) : (s.bump a).firstAt = s.firstAt := State.bumpBy_firstAt s a 1
@[simp] theorem State.bump_homeBuses (s : State) (a : Nat) : (s.bump a).homeBuses = s.homeBuses := State.bumpBy_homeBuses s a 1
@[simp] theorem State.bump_octetAsk (s : State) (a : Nat) : (s.bump a).octetAsk = s.octetAsk := State.bumpBy_octetAsk s a 1
@[simp] theorem State.bump_announced (s : State) (a : Nat) : (s.bump a).announced = s.announced := State.bumpBy_announced s a 1
@[simp] theorem State.bump_goneRemotes (s : State) (a : Nat) : (s.bump a).goneRemotes = s.goneRemotes := State.bumpBy_goneRemotes s a 1
@[simp] theorem State.bump_evtCycles (s : State) (a : Nat) : (s.bump a).evtCycles = s.evtCycles := State.bumpBy_evtCycles s a 1
@[simp] theorem State.bump_spvDue (s : State) (a : Nat) : (s.bump a).spvDue = s.spvDue := State.bumpBy_spvDue s a 1
@[simp] theorem State.bump_mapOld (s : State) (a : Nat) : (s.bump a).mapOld = s.mapOld := State.bumpBy_mapOld s a 1

end Sys2Proof.Machine
end

