-- ==== Sys2Proof/Laws/Reports.lean ====
section
/-! SUPPORT. What reports of events, errors and losses leave alone: every field but registers, counters, tables, first events, samplers,
the switch core, the error log, configuration shadows and free values. -/

namespace Sys2Proof.Machine

set_option linter.all false


/-- The state without what reports of events, errors and losses write. -/
def State.rest (s : State) : State :=
  { s with regs := [], ctrs := [], tbls := [], firstAt := [], evtCycles := [], samplers := [], sw := {}, err := {}, shadows := [], bars := [], free := 0 }

@[simp] theorem rest_mk (s : State) (x_regs : Store W32) (x_ctrs : Store Nat) (x_tbls : Store W256) (x_firstAt : Store Nat) (x_evtCycles : Store EvtCycle) (x_samplers : Store Sampler) (x_sw : Switch) (x_err : ErrSt) (x_shadows : Store W32) (x_bars : Store W32) (x_free : Nat) :
    (State.mk s.pending x_free s.undef s.answer s.now s.service x_regs x_ctrs x_tbls x_firstAt x_evtCycles s.latches s.tblRuns s.tb s.fs s.gates s.armInst s.firing x_sw s.sweep s.mapOld s.sessions x_samplers s.samples s.govSeq x_err x_shadows x_bars s.rings s.engines s.engTags s.retiredTags s.insts s.pbaRing s.remoteBridges s.remotePorts s.relayed s.announced s.goneRemotes s.dpcDue s.octetAsk s.unbridged s.remoteWords s.homeBuses s.links s.tests s.govAt s.upSince s.wasUsable s.bar4Next s.bar4 s.heldCpl s.coreReads s.sec s.cul s.mgt s.board s.slots s.drainAt s.safeAt s.uptrip s.spvDue).rest = s.rest := rfl

@[simp] theorem rest_ite (c : Prop) [Decidable c] (a b : State) : (if c then a else b).rest = if c then a.rest else b.rest := by
  split <;> rfl

theorem rest_foldl {α : Type} (f : State → α → State) (l : List α) (s : State) (h : ∀ s x, (f s x).rest = s.rest) :
    (l.foldl f s).rest = s.rest := by
  induction l generalizing s with
  | nil => rfl
  | cons x l ih => simp [ih, h]

@[simp] theorem State.setReg_rest (s : State) (a : Nat) (v : W32) :
    (State.setReg s a v).rest = s.rest := by simp [State.setReg]

@[simp] theorem State.fset_rest (s : State) (f : Fld) (v : Nat) :
    (State.fset s f v).rest = s.rest := by simp [State.fset]

@[simp] theorem State.showChain_rest (s : State) (f : Nat) :
    (State.showChain s f).rest = s.rest := by simp [State.showChain]

@[simp] theorem State.fresh_rest (s : State) :
    (State.fresh s).2.rest = s.rest := by simp [State.fresh]

@[simp] theorem State.modTag_rest (s : State) (id : Nat) (f : TagRec → TagRec) :
    (State.modTag s id f).rest = s.rest := by simp [State.modTag]

@[simp] theorem State.dropTag_rest (s : State) (id : Nat) :
    (State.dropTag s id).rest = s.rest := by simp [State.dropTag]

@[simp] theorem State.setCtr_rest (s : State) (a : Nat) (v : Nat) :
    (State.setCtr s a v).rest = s.rest := by simp [State.setCtr]

@[simp] theorem State.bumpBy_rest (s : State) (a : Nat) (n : Nat) :
    (State.bumpBy s a n).rest = s.rest := by simp [State.bumpBy]

@[simp] theorem State.bump_rest (s : State) (a : Nat) :
    (State.bump s a).rest = s.rest := by simp [State.bump]

@[simp] theorem State.setTbl_rest (s : State) (page : Nat) (table : Nat) (index : Nat) (v : W256) :
    (State.setTbl s page table index v).rest = s.rest := by simp [State.setTbl]

@[simp] theorem State.evtWins_rest (s : State) (page : Nat) :
    (State.evtWins s page).rest = s.rest := by simp [State.evtWins]

@[simp] theorem State.setPort_rest (s : State) (n : Nat) (p : PortSt) :
    (State.setPort s n p).rest = s.rest := by simp [State.setPort]

@[simp] theorem State.modPort_rest (s : State) (n : Nat) (f : PortSt → PortSt) :
    (State.modPort s n f).rest = s.rest := by simp [State.modPort]

@[simp] theorem State.setCopies_rest (s : State) (cs : List Copy) :
    (State.setCopies s cs).rest = s.rest := by simp [State.setCopies]

@[simp] theorem State.enqueue_rest (s : State) (c : Copy) :
    (State.enqueue s c).rest = s.rest := by simp [State.enqueue]

@[simp] theorem State.notePeak_rest (s : State) (n : Nat) :
    (State.notePeak s n).rest = s.rest := by simp [State.notePeak]

@[simp] theorem State.store_rest (s : State) (f : Frame) :
    (State.store s f).rest = s.rest := by simp [State.store]

@[simp] theorem State.wait_rest (s : State) (f : Frame) (need : WaitFor) (cs : List Copy) :
    (State.wait s f need cs).rest = s.rest := by simp [State.wait]

@[simp] theorem State.admitOrWait_rest (s : State) (f : Frame) (cs : List Copy) :
    (State.admitOrWait s f cs).rest = s.rest := by
  unfold State.admitOrWait
  (repeat' (first | (simp [rest_foldl]; done) | split))

@[simp] theorem State.devicePost_rest (s : State) (t : Tlp) (pool : Pool) (fid : Nat) (dest : Nat) (why : Purpose) :
    (State.devicePost s t pool fid dest why).rest = s.rest := by
  unfold State.devicePost
  dsimp only
  (repeat' split) <;> simp [rest_foldl]

@[simp] theorem State.postToHost_rest (s : State) (part : Nat) (addr : W64) (data : List Byte) (pool : Pool) (why : Purpose) :
    (State.postToHost s part addr data pool why).rest = s.rest := by
  unfold State.postToHost
  (repeat' split) <;> simp

@[simp] theorem State.setBar_rest (s : State) (fn : Nat) (off : Nat) (v : W32) :
    (State.setBar s fn off v).rest = s.rest := by simp [State.setBar]

@[simp] theorem State.mgmtMessage_rest (s : State) (part : Nat) (vec : Nat) :
    (State.mgmtMessage s part vec).rest = s.rest := by simp [State.mgmtMessage]

@[simp] theorem State.sendVectors_rest (s : State) (page : Nat) (before : Nat → Bool) :
    (State.sendVectors s page before).rest = s.rest := by
  unfold State.sendVectors
  dsimp only
  (repeat' split) <;> simp [rest_foldl]

@[simp] theorem State.raiseAll_rest (s : State) (page : Nat) (evs : List Nat) : (State.raiseAll s page evs).rest = s.rest := by
  unfold State.raiseAll
  split
  · rfl
  · extract_lets s0 sts seq ev vec before s1 first low s2
    have k0 : s0.rest = s.rest := State.evtWins_rest _ _
    have k1 : s1.rest = s.rest := (State.setReg_rest _ _ _).trans k0
    have k2 : s2.rest = s.rest := by
      simp only [s2]
      split
      · exact (State.setReg_rest _ _ _).trans k1
      · exact k1
    split
    · exact (State.sendVectors_rest _ _ _).trans k2
    · exact k2

@[simp] theorem State.raise_rest (s : State) (page : Nat) (ev : Nat) :
    (State.raise s page ev).rest = s.rest := by simp [State.raise]

@[simp] theorem State.setLogSlot_rest (s : State) (slot v : Nat) :
    (State.setLogSlot s slot v).rest = s.rest := rest_foldl _ _ _ fun s q => by simp

@[simp] theorem State.swapRecords_rest (s : State) (a b : Nat) : (State.swapRecords s a b).rest = s.rest :=
  (State.fset_rest _ _ _).trans ((State.setLogSlot_rest _ _ _).trans (State.setLogSlot_rest _ _ _))

@[simp] theorem State.logRecord_rest (s : State) (v level : Nat) : (State.logRecord s v level).rest = s.rest := by
  unfold State.logRecord
  extract_lets slot s1 s2 s3 s4 s5 s6
  have h1 : s1.rest = s.rest := rest_foldl _ _ _ fun s q => by simp
  have h2 : s2.rest = s.rest := (State.fset_rest _ _ _).trans h1
  have h3 : s3.rest = s.rest := by
    simp only [s3]
    split
    · exact (State.fset_rest _ _ _).trans h2
    · exact h2
  have h5 : s5.rest = s.rest := h3
  have h6 : s6.rest = s.rest := by
    simp only [s6]
    split
    · exact ((State.fset_rest _ _ _).trans (State.fset_rest _ _ _)).trans h5
    · exact h5
  rw [State.raise_rest, State.bump_rest, h6]

@[simp] theorem State.tset_rest (s : State) (page : Nat) (table : Nat) (index : Nat) (hi : Nat) (lo : Nat) (v : Nat) :
    (State.tset s page table index hi lo v).rest = s.rest := by simp [State.tset]

@[simp] theorem State.ringOwed_rest (s : State) (part : Nat) :
    (State.ringOwed s part).rest = s.rest := by simp [State.ringOwed]

@[simp] theorem State.deliverRecord_rest (s : State) (part : Nat) (bs : List Byte) :
    (State.deliverRecord s part bs).rest = s.rest := by simp [State.deliverRecord]

@[simp] theorem State.swaps_rest (s : State) (n slot : Nat) :
    ((upTo n).foldl (fun s j => s.swapRecords ((slot + 2047 - j) % 1024) ((slot + 2048 - j) % 1024)) s).rest
      = s.rest := rest_foldl _ _ _ fun _ _ => State.swapRecords_rest _ _ _

@[simp] theorem State.record_rest (s : State) (code : Nat) (level : Nat) (part : Option Nat) (port : Nat) (detail : Nat) :
    (State.record s code level part port detail).rest = s.rest := by
  unfold State.record
  dsimp only
  (repeat' split) <;> simp [rest_foldl]

@[simp] theorem State.recordFrame_rest (s : State) (code : Nat) (level : Nat) (f : Frame) (extra : Nat) :
    (State.recordFrame s code level f extra).rest = s.rest := by simp [State.recordFrame]

@[simp] theorem State.cplNoRoute_rest (s : State) (f : Frame) :
    (State.cplNoRoute s f).rest = s.rest := by simp [State.cplNoRoute]

@[simp] theorem State.showReplay_rest (s : State) (f : Nat) :
    (State.showReplay s f).rest = s.rest := by simp [State.showReplay]

@[simp] theorem State.tbump_rest (s : State) (page : Nat) (table : Nat) (index : Nat) (hi : Nat) (lo : Nat) (n : Nat) :
    (State.tbump s page table index hi lo n).rest = s.rest := by simp [State.tbump]

@[simp] theorem State.countSample_rest (s : State) (k : Nat) (n : Nat) (f : Option Frame) :
    (State.countSample s k n f).rest = s.rest := by simp [State.countSample]

@[simp] theorem State.tel_rest (s : State) (event : Nat) (port : Nat) (n : Nat) (f : (Option Frame)) :
    (State.tel s event port n f).rest = s.rest := by
  unfold State.tel
  dsimp only
  (repeat' split) <;> simp [rest_foldl]

@[simp] theorem State.setCfg_rest (s : State) (fn : Nat) (off : Nat) (v : W32) :
    (State.setCfg s fn off v).rest = s.rest := by simp [State.setCfg]

@[simp] theorem State.orCfg_rest (s : State) (fn : Nat) (off : Nat) (m : W32) :
    (State.orCfg s fn off m).rest = s.rest := by simp [State.orCfg]

@[simp] theorem State.putCfg_rest (s : State) (fn : Nat) (off : Nat) (hi : Nat) (lo : Nat) (v : Nat) :
    (State.putCfg s fn off hi lo v).rest = s.rest := by simp [State.putCfg]

@[simp] theorem State.aerLog_rest (s : State) (fn : Nat) (b : Nat) (hdr : List Byte) :
    (State.aerLog s fn b hdr).rest = s.rest := by
  unfold State.aerLog
  dsimp only
  (repeat' split) <;> simp [rest_foldl]

@[simp] theorem State.errSignal_rest (s : State) (fn : Nat) (part : Nat) (code : BitVec 8) :
    (State.errSignal s fn part code).rest = s.rest := by
  unfold State.errSignal
  (repeat' split) <;> simp

@[simp] theorem State.aerUncorrectable_rest (s : State) (fn : Nat) (part : Nat) (b : Nat) (hdr : List Byte) :
    (State.aerUncorrectable s fn part b hdr).rest = s.rest := by
  unfold State.aerUncorrectable
  dsimp only
  (repeat' split) <;> simp [rest_foldl]

@[simp] theorem State.aerCorrectable_rest (s : State) (fn : Nat) (part : Nat) (b : Nat) :
    (State.aerCorrectable s fn part b).rest = s.rest := by
  unfold State.aerCorrectable
  dsimp only
  (repeat' split) <;> simp [rest_foldl]

@[simp] theorem State.aerAdvise_rest (s : State) (fn : Nat) (part : Nat) (b : Nat) (hdr : List Byte) :
    (State.aerAdvise s fn part b hdr).rest = s.rest := by simp [State.aerAdvise]

@[simp] theorem State.owe_rest (s : State) (ring : Nat) :
    (State.owe s ring).rest = s.rest := by simp [State.owe]

@[simp] theorem State.ledger_rest (s : State) (r : LedgerRec) :
    (State.ledger s r).rest = s.rest := by simp [State.ledger]

@[simp] theorem State.ledgerCopy_rest (s : State) (f : Frame) (c : Copy) (reason : Nat) (arrival : Bool) (egress : (Option Nat)) :
    (State.ledgerCopy s f c reason arrival egress).rest = s.rest := by
  unfold State.ledgerCopy
  (repeat' split) <;> simp

@[simp] theorem State.linkSlots_rest (s : State) (port : Nat) (category : Nat) (n : Nat) :
    (State.linkSlots s port category n).rest = s.rest := by simp [State.linkSlots]

@[simp] theorem State.wasteSlots_rest (s : State) (n : Nat) :
    (State.wasteSlots s n).rest = s.rest := by simp [State.wasteSlots]

@[simp] theorem State.pcieInactive_rest (s : State) (n : Nat) :
    (State.pcieInactive s n).rest = s.rest := by simp [State.pcieInactive]

@[simp] theorem State.removeCopy_rest (s : State) (id : Nat) :
    (State.removeCopy s id).rest = s.rest := by simp [State.removeCopy]

@[simp] theorem State.reap_rest (s : State) :
    (State.reap s).rest = s.rest := by simp [State.reap]

@[simp] theorem State.startFlush_rest (s : State) (n : Nat) :
    (State.startFlush s n).rest = s.rest := by simp [State.startFlush]

@[simp] theorem State.enterDpcWhy_rest (s : State) (n : Nat) (reason : Nat) (why : Nat) :
    (State.enterDpcWhy s n reason why).rest = s.rest := by simp [State.enterDpcWhy]

@[simp] theorem State.enterDpc_rest (s : State) (n : Nat) (reason : Nat) :
    (State.enterDpc s n reason).rest = s.rest := by simp [State.enterDpc]

@[simp] theorem State.drawWord_rest (s : State) :
    (State.drawWord s).2.rest = s.rest := by simp [State.drawWord]

@[simp] theorem State.drawBytes_rest (s : State) :
    (State.drawBytes s).2.rest = s.rest := by simp [State.drawBytes]

@[simp] theorem State.dpcRelease_rest (s : State) (n : Nat) :
    (State.dpcRelease s n).rest = s.rest := by simp [State.dpcRelease]

@[simp] theorem State.histRecord_rest (s : State) (u : Nat) (v : Nat) :
    (State.histRecord s u v).rest = s.rest := by simp [State.histRecord]

@[simp] theorem State.showRemote_rest (s : State) (fid : Nat) (port : Nat) :
    (State.showRemote s fid port).rest = s.rest := by simp [State.showRemote]

@[simp] theorem State.clearFn_rest (s : State) (fn : Nat) :
    (State.clearFn s fn).rest = s.rest := by simp [State.clearFn]

@[simp] theorem State.setQreg_rest (s : State) (i : Nat) (q : Nat) (off : Nat) (v : Nat) :
    (State.setQreg s i q off v).rest = s.rest := by simp [State.setQreg]

@[simp] theorem State.setInstState_rest (s : State) (i : Nat) (st : Nat) :
    (State.setInstState s i st).rest = s.rest := by simp [State.setInstState]

@[simp] theorem State.cmdRefused_rest (s : State) (i : Nat) (cause : Nat) :
    (State.cmdRefused s i cause).rest = s.rest := by simp [State.cmdRefused]

@[simp] theorem State.discardLog_rest (s : State) (e : Nat) (i : Nat) (q : Nat) (read : W64 × Nat × Nat) (cause : Nat) :
    (State.discardLog s e i q read cause).rest = s.rest := by simp [State.discardLog]

@[simp] theorem State.overlapFault_rest (s : State) (f : Frame) (a : Nat) (b : Nat) :
    (State.overlapFault s f a b).rest = s.rest := by simp [State.overlapFault]

@[simp] theorem State.dpcOnError_rest (s : State) (n : Nat) (b : Nat) (reason : Nat) :
    (State.dpcOnError s n b reason).rest = s.rest := by simp [State.dpcOnError]

@[simp] theorem State.poisonDrop_rest (s : State) (f : Frame) :
    (State.poisonDrop s f).rest = s.rest := by simp [State.poisonDrop]

@[simp] theorem State.mgmtUnmask_rest (s : State) (part : Nat) :
    (State.mgmtUnmask s part).rest = s.rest := by
  unfold State.mgmtUnmask
  dsimp only
  (repeat' split) <;> simp [rest_foldl]

@[simp] theorem State.bar2Write_rest (s : State) (part : Nat) (off : Nat) (v : W32) :
    (State.bar2Write s part off v).rest = s.rest := by simp [State.bar2Write]

@[simp] theorem State.bar2Store_rest (s : State) (part : Nat) (off : Nat) (bs : List Byte) :
    (State.bar2Store s part off bs).rest = s.rest := by
  unfold State.bar2Store
  dsimp only
  (repeat' split) <;> simp [rest_foldl]

@[simp] theorem State.partialWrite_rest (s : State) (r : Requester) (a : Nat) :
    (State.partialWrite s r a).rest = s.rest := by simp [State.partialWrite]

@[simp] theorem State.countForeign_rest (s : State) (r : Requester) (p : PageAt) :
    (State.countForeign s r p).rest = s.rest := by
  unfold State.countForeign
  (repeat' split) <;> simp

@[simp] theorem State.evtClear_rest (s : State) (page : Nat) (mask : Nat) (seq : Nat) :
    (State.evtClear s page mask seq).rest = s.rest := by simp [State.evtClear]

@[simp] theorem State.setTblSts_rest (s : State) (page : Nat) (busy : Bool) (done : Bool) (err : Nat) (owner : Nat) :
    (State.setTblSts s page busy done err owner).rest = s.rest := by simp [State.setTblSts]

@[simp] theorem State.advertise_rest (s : State) (n : Nat) :
    (State.advertise s n).rest = s.rest := by simp [State.advertise]

@[simp] theorem State.putQreg_rest (s : State) (i : Nat) (q : Nat) (off : Nat) (hi : Nat) (lo : Nat) (v : Nat) :
    (State.putQreg s i q off hi lo v).rest = s.rest := by simp [State.putQreg]

@[simp] theorem State.refreshHg_rest (s : State) (i : Nat) :
    (State.refreshHg s i).rest = s.rest := by simp [State.refreshHg]

@[simp] theorem State.refreshHgs_rest (s : State) :
    (State.refreshHgs s).rest = s.rest := by
  unfold State.refreshHgs
  (repeat' (first | (simp [rest_foldl]; done) | split))

@[simp] theorem State.pwrlossClear_rest (s : State) :
    (State.pwrlossClear s).rest = s.rest := by simp [State.pwrlossClear]

@[simp] theorem State.showCul_rest (s : State) :
    (State.showCul s).rest = s.rest := by simp [State.showCul]

@[simp] theorem State.busErrRecord_rest (s : State) (addr : Nat) (cause : Nat) :
    (State.busErrRecord s addr cause).rest = s.rest := by simp [State.busErrRecord]

@[simp] theorem State.setPair_rest (s : State) (lo : Nat) (hi : Nat) (v : Nat) :
    (State.setPair s lo hi v).rest = s.rest := by simp [State.setPair]

@[simp] theorem State.captureBerr_rest (s : State) (addr : Nat) (cause : Nat) (write : Nat) :
    (State.captureBerr s addr cause write).rest = s.rest := by simp [State.captureBerr]

@[simp] theorem State.freshNonce_rest (s : State) :
    (State.freshNonce s).rest = s.rest := by
  unfold State.freshNonce
  dsimp only
  (repeat' split) <;> simp [rest_foldl]

@[simp] theorem State.cutVerify_rest (s : State) :
    (State.cutVerify s).rest = s.rest := by
  unfold State.cutVerify
  dsimp only
  (repeat' split) <;> simp [rest_foldl]

@[simp] theorem State.secRefuse_rest (s : State) (result : Fld) (cause : Fld) (why : Nat) :
    (State.secRefuse s result cause why).rest = s.rest := by simp [State.secRefuse]

@[simp] theorem State.extend_rest (s : State) (i : Nat) (x : List Byte) :
    (State.extend s i x).rest = s.rest := by simp [State.extend]

@[simp] theorem State.measExt_rest (s : State) (i : Nat) :
    (State.measExt s i).rest = s.rest := by simp [State.measExt]

@[simp] theorem State.updateRefused_rest (s : State) (cause : Nat) :
    (State.updateRefused s cause).rest = s.rest := by simp [State.updateRefused]

@[simp] theorem State.hcmdTake_rest (s : State) (p : Nat) :
    (State.hcmdTake s p).rest = s.rest := by simp [State.hcmdTake]

@[simp] theorem State.sqHead_rest (s : State) (h : Nat) :
    (State.sqHead s h).rest = s.rest := by simp [State.sqHead]

@[simp] theorem State.culRevive_rest (s : State) (mask : Nat) :
    (State.culRevive s mask).rest = s.rest := by simp [State.culRevive]

@[simp] theorem State.setSlotState_rest (s : State) (n : Nat) (st : Nat) :
    (State.setSlotState s n st).rest = s.rest := by simp [State.setSlotState]

@[simp] theorem State.slotWait_rest (s : State) (n : Nat) :
    (State.slotWait s n).rest = s.rest := by simp [State.slotWait]

@[simp] theorem State.commandOn_rest (s : State) (n : Nat) (edge : Bool) :
    (State.commandOn s n edge).rest = s.rest := by simp [State.commandOn]

@[simp] theorem State.slotBits_rest (s : State) (n : Nat) (m : W32) :
    (State.slotBits s n m).rest = s.rest := by
  unfold State.slotBits
  (repeat' split) <;> simp

@[simp] theorem State.slotRecord_rest (s : State) (code : Nat) (n : Nat) (detail : Nat) :
    (State.slotRecord s code n detail).rest = s.rest := by
  unfold State.slotRecord
  (repeat' split) <;> simp

@[simp] theorem State.histClear_rest (s : State) (u : Nat) :
    (State.histClear s u).rest = s.rest := by
  unfold State.histClear
  dsimp only
  (repeat' split) <;> simp [rest_foldl]

@[simp] theorem State.histSnap_rest (s : State) (units : Nat) (clear : Bool) :
    (State.histSnap s units clear).rest = s.rest := by
  unfold State.histSnap
  dsimp only
  (repeat' split) <;> simp [rest_foldl]

@[simp] theorem State.histConfig_rest (s : State) (u : Nat) (base : Bool) (v : Nat) :
    (State.histConfig s u base v).rest = s.rest := by simp [State.histConfig]

@[simp] theorem State.samplerCtl_rest (s : State) (k : Nat) (v : Nat) :
    (State.samplerCtl s k v).rest = s.rest := by simp [State.samplerCtl]

@[simp] theorem State.modSampler_rest (s : State) (k : Nat) (f : Sampler → Sampler) :
    (State.modSampler s k f).rest = s.rest := by simp [State.modSampler]

@[simp] theorem State.samplerN_rest (s : State) (k : Nat) (n : Nat) :
    (State.samplerN s k n).rest = s.rest := by simp [State.samplerN]

@[simp] theorem State.isolateExit_rest (s : State) :
    (State.isolateExit s).rest = s.rest := by simp [State.isolateExit]

@[simp] theorem State.evict_rest (s : State) (v : Frame) :
    (State.evict s v).rest = s.rest := by
  unfold State.evict
  dsimp only
  (repeat' split) <;> simp [rest_foldl]

@[simp] theorem State.wroteEntry_rest (s : State) (table : Nat) (index : Nat) :
    (State.wroteEntry s table index).rest = s.rest := by simp [State.wroteEntry]

@[simp] theorem State.showFaulted_rest (s : State) :
    (State.showFaulted s).rest = s.rest := by simp [State.showFaulted]

@[simp] theorem State.clearFault_rest (s : State) (table : Nat) (index : Nat) :
    (State.clearFault s table index).rest = s.rest := by simp [State.clearFault]

@[simp] theorem State.writeMcmMode_rest (s : State) (k : Nat) (v : Nat) :
    (State.writeMcmMode s k v).rest = s.rest := by simp [State.writeMcmMode]

@[simp] theorem State.setTbState_rest (s : State) (st : Nat) :
    (State.setTbState s st).rest = s.rest := by simp [State.setTbState]

@[simp] theorem State.writeArmWord_rest (s : State) (g : Nat) (k : Nat) (w : Nat) (v : Nat) :
    (State.writeArmWord s g k w v).rest = s.rest := by simp [State.writeArmWord]

@[simp] theorem State.engineRestart_rest (s : State) (e : Nat) :
    (State.engineRestart s e).rest = s.rest := by simp [State.engineRestart]

@[simp] theorem State.headgateOpen_rest (s : State) (i : Nat) :
    (State.headgateOpen s i).rest = s.rest := by simp [State.headgateOpen]

@[simp] theorem State.headgateClose_rest (s : State) (i : Nat) :
    (State.headgateClose s i).rest = s.rest := by simp [State.headgateClose]

@[simp] theorem State.presence_rest (s : State) (part : Nat) :
    (State.presence s part).rest = s.rest := by simp [State.presence]

@[simp] theorem State.refuseLive_rest (s : State) (f : Frame) (cs : List Copy) :
    (State.refuseLive s f cs).rest = s.rest := by
  unfold State.refuseLive
  dsimp only
  (repeat' split) <;> simp [rest_foldl]

@[simp] theorem State.drawNat_rest (s : State) :
    (State.drawNat s).2.rest = s.rest := by simp [State.drawNat]

@[simp] theorem State.writeInstRing_rest (s : State) (i : Nat) (v : Nat) :
    (State.writeInstRing s i v).rest = s.rest := by
  unfold State.writeInstRing
  (repeat' (first | (simp [rest_foldl]; done) | split))

@[simp] theorem State.portRefused_rest (s : State) (n : Nat) (cause : Nat) :
    (State.portRefused s n cause).rest = s.rest := by simp [State.portRefused]

@[simp] theorem State.writePortCtl_rest (s : State) (n : Nat) (v : Nat) :
    (State.writePortCtl s n v).rest = s.rest := by simp [State.writePortCtl]

@[simp] theorem State.octetWritten_rest (s : State) (k : Nat) (mode : Bool) (v : Nat) :
    (State.octetWritten s k mode v).rest = s.rest := by simp [State.octetWritten]

@[simp] theorem State.showPorts_rest (s : State) :
    (State.showPorts s).rest = s.rest := by
  unfold State.showPorts
  (repeat' (first | (simp [rest_foldl]; done) | split))

@[simp] theorem State.eyeEnd_rest (s : State) (u : Nat) (st : Nat) (cause : Nat) (errors : Nat) :
    (State.eyeEnd s u st cause errors).rest = s.rest := by simp [State.eyeEnd]

@[simp] theorem State.eyeStop_rest (s : State) (u : Nat) (st : Nat) (cause : Nat) (errors : Nat) :
    (State.eyeStop s u st cause errors).rest = s.rest := by simp [State.eyeStop]

end Sys2Proof.Machine
end

