-- ==== Sys2Proof/WellFormed.lean ====
section
/-! DEFINITION. Commands whose operands name something the part has. A command is executed whatever its operands are: an
operand beyond its range is taken modulo the range. -/

namespace Sys2Proof

/-- Kinds of packet that carry a payload. -/
def TlpKind.carries : TlpKind → Bool
  | .memWrite => true
  | .defWrite => true
  | .atomic => true
  | .ioWrite => true
  | .cfgWrite => true
  | .message => true
  | .completion => true
  | _ => false

/-- A packet of the sizes PCI Express has: at most 4,096 bytes, whose payload is as long as its header says, inside one
4,096-byte block for a memory request (R18). -/
def Tlp.wf (t : Tlp) : Bool :=
  decide (t.len ≤ 4096) && (if t.kind.carries then t.data.length == t.len else t.data.isEmpty)
    && (match t.kind with
      | .memWrite => decide (t.addr.toNat % 4096 + t.len ≤ 4096)
      | .memRead => decide (t.addr.toNat % 4096 + t.len ≤ 4096)
      | _ => true)

/-- Is a command well-formed: every number within its range, every packet well-formed? -/
def Instr.wf (i : Instr) : Bool :=
  match i with
  | .registerWrite _ addr _ => decide (addr < 2 ^ 24)
  | .strayAccess _ addr _ => decide (addr < 2 ^ 24)
  | .partialWrite _ addr => decide (addr < 2 ^ 24)
  | .evtClr _ page mask seq => decide (page < 4096) && decide (mask < 65536) && decide (seq < 65536)
  | .counterLowRead _ read => decide (read.addr < 2 ^ 24)
  | .counterHighRead _ addr => decide (addr < 2 ^ 24)
  | .counterClear _ addr => decide (addr < 2 ^ 24)
  | .tbReadLatch _ => true
  | .tblNop _ page => decide (page < 4096)
  | .tblRead _ page => decide (page < 4096)
  | .tblWrite _ page => decide (page < 4096)
  | .tblReadClear _ page => decide (page < 4096)
  | .tblOpDone page _ _ => decide (page < 4096)
  | .frameArrival port tlp _ _ => decide (port < 64) && tlp.wf
  | .reservationGranted port => decide (port < 89)
  | .proxyTagGranted port => decide (port < 72)
  | .originatedTagGranted port => decide (port < 72)
  | .poolSpaceGranted => true
  | .copyStart port _ _ _ _ => decide (port < 89)
  | .copyDepart port _ => decide (port < 89)
  | .lateError port _ _ cell => decide (port < 88) && decide (cell < 2 ^ 26)
  | .underrun port => decide (port < 88)
  | .underrunResend port => decide (port < 88)
  | .ageDiscard port queue => decide (port < 89) && decide (queue < 16)
  | .weirGovTick _ => true
  | .livePoolWrite _ => true
  | .cplPoolWrite _ => true
  | .ledgerWrite => true
  | .ledgerWriteback ring => decide (ring < 256)
  | .portLinkDown port => decide (port < 72)
  | .flushRemove port => decide (port < 72)
  | .flushDone port => decide (port < 72)
  | .portLinkUp port _ _ _ => decide (port < 72)
  | .completionArrival port tlp _ _ => decide (port < 64) && tlp.wf
  | .tagRecordTimeout _ => true
  | .bankCeLimit bank => decide (bank < 16)
  | .bankRetire bank => decide (bank < 32)
  | .retireDone => true
  | .mapCommit index _ => decide (index < 65536)
  | .mapCommitDone => true
  | .mirrorSlotWrite session => decide (session < 4)
  | .mirrorWriteback session => decide (session < 4)
  | .mcmModeWrite session _ => decide (session < 4)
  | .sampleNWrite session _ => decide (session < 4)
  | .aclSweep _ => true
  | .sweepNpTimeout => true
  | .sweepDone => true
  | .ppsInEdge => true
  | .tbHoldover => true
  | .tbSet => true
  | .ptmRequest port => decide (port < 64)
  | .frameSyncEdge _ => true
  | .frameSyncMissing => true
  | .frameSyncLost => true
  | .arm group slot kind _ => decide (group < 16) && decide (slot < 4) && decide (kind < 2)
  | .cancel group slot => decide (group < 16) && decide (slot < 4)
  | .commitFire group slot => decide (group < 16) && decide (slot < 4)
  | .slotFired group slot => decide (group < 16) && decide (slot < 4)
  | .gateForce group _ => decide (group < 16)
  | .doorbell inst ring _ => decide (inst < 512) && decide (ring < 4)
  | .ringEnable inst ring => decide (inst < 512) && decide (ring < 4)
  | .ringDisable inst ring => decide (inst < 512) && decide (ring < 4)
  | .ringResume inst ring => decide (inst < 512) && decide (ring < 4)
  | .descriptorFetch inst ring => decide (inst < 512) && decide (ring < 4)
  | .contextGrant engine => decide (engine < 16)
  | .sourceReadIssue engine => decide (engine < 16)
  | .engineWriteIssue engine => decide (engine < 16)
  | .engineCompletion engine _ => decide (engine < 16)
  | .descriptorFinish inst ring => decide (inst < 512) && decide (ring < 4)
  | .timedRelease inst ring => decide (inst < 512) && decide (ring < 4)
  | .engCtoExpiry _ => true
  | .engCtoRecovExpiry _ => true
  | .engineAbort engine => decide (engine < 16)
  | .engineStopped engine => decide (engine < 16)
  | .engineRestart engine => decide (engine < 16)
  | .msixPendingSend inst vector => decide (inst < 512) && decide (vector < 8)
  | .configRead port tlp _ => decide (port < 64) && tlp.wf
  | .configWrite port tlp _ => decide (port < 64) && tlp.wf
  | .bmeClear inst => decide (inst < 512)
  | .functionLevelReset inst => decide (inst < 512)
  | .powerStateD3hot inst => decide (inst < 512)
  | .secondaryBusReset port => decide (port < 64)
  | .dpcRelease port => decide (port < 64)
  | .powerControllerOff port => decide (port < 64)
  | .powerControllerOn port => decide (port < 64)
  | .instNop inst => decide (inst < 512)
  | .create inst => decide (inst < 512)
  | .destroy inst => decide (inst < 512)
  | .freeze inst => decide (inst < 512)
  | .save inst => decide (inst < 512)
  | .restore inst => decide (inst < 512)
  | .thaw inst => decide (inst < 512)
  | .recover inst => decide (inst < 512)
  | .serve inst => decide (inst < 512)
  | .createDone inst => decide (inst < 512)
  | .destroyDone inst => decide (inst < 512)
  | .restoreDone inst => decide (inst < 512)
  | .restoreXferTimeout inst => decide (inst < 512)
  | .freezeDone inst => decide (inst < 512)
  | .saveDone inst => decide (inst < 512)
  | .saveXferTimeout inst => decide (inst < 512)
  | .headgateOpen inst => decide (inst < 512)
  | .headgateClose inst => decide (inst < 512)
  | .instanceIdle inst => decide (inst < 512)
  | .forceReset inst => decide (inst < 512)
  | .resetTagTimeout _ => true
  | .instanceResetDone inst => decide (inst < 512)
  | .octetConfigWrite octet _ _ => decide (octet < 24)
  | .portConfigWrite port _ => decide (port < 64)
  | .pcieLinkDisable port => decide (port < 64)
  | .hotReset port => decide (port < 64)
  | .pcieRetrain port _ _ => decide (port < 64)
  | .l1Entry port => decide (port < 64)
  | .laneMarginCommand octet lane _ _ _ => decide (octet < 24) && decide (lane < 8)
  | .forwardedClockDetect link => decide (link < 8)
  | .laneLock link lane line len _ => decide (link < 8) && decide (lane < 9) && decide (line < 2 ^ len)
  | .laneUnlock link lane _ => decide (link < 8) && decide (lane < 9)
  | .helloReceive link fid _ _ _ _ => decide (link < 8) && decide (fid < 16)
  | .echoReceive link _ => decide (link < 8)
  | .trainTimeout link => decide (link < 8)
  | .moabenPacketReceive link seq vc fid dest srcFid length gate flags _ _ _ tlp =>
      decide (link < 8) && decide (seq < 4096) && decide (vc < 8) && decide (fid < 16) && decide (dest < 8192) &&
        decide (srcFid < 16) && decide (length < 256) && decide (gate < 16) && decide (flags.type < 4) &&
        decide (flags.tagHi < 16) && tlp.all Tlp.wf
  | .ackSend link => decide (link < 8)
  | .ackReceive link seq _ => decide (link < 8) && decide (seq < 4096)
  | .nakReceive link seq _ => decide (link < 8) && decide (seq < 4096)
  | .replayTimeout link => decide (link < 8)
  | .xoffReceive link _ => decide (link < 8)
  | .xonReceive link _ => decide (link < 8)
  | .xoffResend link => decide (link < 8)
  | .mflRetrain link => decide (link < 8)
  | .retrainDone link => decide (link < 8)
  | .retrainTimeout link => decide (link < 8)
  | .linkChange link => decide (link < 8)
  | .changeReceive link speed width lanes =>
    decide (link < 8) && decide (speed < 3) && decide (width < 3) && decide (lanes < 256)
  | .readyReceive link => decide (link < 8)
  | .changeTimeout link => decide (link < 8)
  | .remapReceive link position => decide (link < 8) && decide (position < 16)
  | .spareMap link position => decide (link < 8) && decide (position < 16)
  | .mflLinkEnable link => decide (link < 8)
  | .mflLinkDisable link => decide (link < 8)
  | .laneGovTick _ => true
  | .tsyncRequestSend link => decide (link < 8)
  | .tsyncReqReceive req => decide (req.link < 8) && decide (req.exchange < 64)
  | .tsyncFupReceive link exchange _ _ => decide (link < 8) && decide (exchange < 64)
  | .authOfferReceive link fid _ _ _ => decide (link < 8) && decide (fid < 16)
  | .authProofReceive link _ => decide (link < 8)
  | .authAcceptReceive link => decide (link < 8)
  | .authRejectReceive link => decide (link < 8)
  | .authResumeReceive link _ => decide (link < 8)
  | .authTimeout link => decide (link < 8)
  | .signDone ctx => decide (ctx < 9)
  | .authListEdit link index _ => decide (link < 8) && decide (index < 16)
  | .authEnWrite link en => decide (link < 8) && decide (en < 65536)
  | .reauth link => decide (link < 8)
  | .routeGovTick => true
  | .mgmtPacketReceive link src dst _ => decide (link < 8) && decide (src < 16) && decide (dst < 16)
  | .bar4RemoteRead port tlp => decide (port < 64) && tlp.wf
  | .bar4RemoteWrite port tlp => decide (port < 64) && tlp.wf
  | .loopSet unit' _ => decide (unit' < 32)
  | .loopbackEntry port => decide (port < 64)
  | .prbsStart unit' _ _ => decide (unit' < 32)
  | .prbsLock unit' lane => decide (unit' < 32) && decide (lane < 9)
  | .prbsLockLost unit' lane _ _ => decide (unit' < 32) && decide (lane < 9)
  | .prbsRateAbort octet _ => decide (octet < 24)
  | .eyeScanStart unit' _ _ => decide (unit' < 32)
  | .eyeScanStop unit' _ => decide (unit' < 32)
  | .eyeScanDone unit' _ => decide (unit' < 32)
  | .eqRedo octet sub => decide (octet < 24) && decide (sub < 4)
  | .eqRedoTimeout port => decide (port < 64)
  | .scrubRead table index _ _ => decide (table < 8) && decide (index < 65536)
  | .errorInject type port _ => decide (type < 4) && decide (port < 89)
  | .recordRingWrite part => decide (part < 32)
  | .isolateEntered => true
  | .isolateExit => true
  | .isolateExitDone => true
  | .fatalAck => true
  | .lockstepMismatch => true
  | .mgtPairSwap => true
  | .pairSelftestDone pair _ => decide (pair < 2)
  | .coreLoad addr size _ _ => decide (addr < 2 ^ 64) && decide (size < 4)
  | .coreStore addr size _ _ _ => decide (addr < 2 ^ 64) && decide (size < 4)
  | .coreFence _ pred => decide (pred < 16)
  | .coreLr addr _ _ _ => decide (addr < 2 ^ 64)
  | .coreSc addr _ _ _ _ _ => decide (addr < 2 ^ 64)
  | .coreAmo _ addr _ _ _ _ => decide (addr < 2 ^ 64)
  | .machineTimer => true
  | .mailboxRetire part => decide (part < 32)
  | .hcmdDoorbell part => decide (part < 32)
  | .hcmdTake part => decide (part < 32)
  | .getFwInfo part vec _ => decide (part < 32) && decide (vec < 32)
  | .attest part _ _ vec _ => decide (part < 32) && decide (vec < 32)
  | .attestPeerRequest link _ => decide (link < 8)
  | .attestReportDone => true
  | .sqHeadWrite _ => true
  | .sampleGovTick => true
  | .wdogKick => true
  | .wdogWarn => true
  | .wdogExpire => true
  | .firmwareUpdate slot => decide (slot < 2)
  | .bootLoadDone => true
  | .updateDone => true
  | .updateLate => true
  | .culBarrier _ => true
  | .barrierDone _ => true
  | .pwrlossClear _ => true
  | .localAccess _ cs addr len _ _ => decide (cs < 8) && decide (addr < 2 ^ 32) && decide (len < 4097)
  | .lbCycleStart => true
  | .lbCycleEnd _ => true
  | .culTimeoutExpiry => true
  | .lbBusRequest => true
  | .lbBusRelease => true
  | .prefetchExpire => true
  | .culRevive _ => true
  | .culWarmReset => true
  | .culWarmResetDone => true
  | .sidebandPoll _ => true
  | .interruptPoll _ => true
  | .sidebandWake => true
  | .spvSample slot ch _ _ _ => decide (slot < 24) && decide (ch < 2)
  | .energyRead _ slot ch => decide (slot < 24) && decide (ch < 2)
  | .measClear slot _ => decide (slot < 24)
  | .fastTrip slot ch => decide (slot < 24) && decide (ch.ch < 2)
  | .currentLimitStart slot ch => decide (slot < 24) && decide (ch < 2)
  | .faultTimerExpiry slot ch => decide (slot < 24) && decide (ch < 2)
  | .faultTimerStop slot ch => decide (slot < 24) && decide (ch < 2)
  | .gateRiseTimeout slot ch => decide (slot < 24) && decide (ch < 2)
  | .fetShort slot ch _ => decide (slot < 24) && decide (ch < 2)
  | .uptripEnd => true
  | .insertionStart slot => decide (slot < 24)
  | .rampEnd slot ch => decide (slot < 24) && decide (ch < 2)
  | .channelPowerGood slot ch => decide (slot < 24) && decide (ch < 2)
  | .perstRelease slot => decide (slot < 24)
  | .pgLost slot ch => decide (slot < 24) && decide (ch < 2)
  | .slotOn slot => decide (slot < 24)
  | .slotOff slot => decide (slot < 24)
  | .slotOffGates slot => decide (slot < 24)
  | .forceOn slot ch _ => decide (slot < 24) && decide (ch < 2)
  | .slotRetry slot => decide (slot < 24)
  | .retryWindowEnd slot => decide (slot < 24)
  | .slotRemoval slot => decide (slot < 24)
  | .slotInsertion slot => decide (slot < 24)
  | .latchClear _ => true
  | .histLevelSample unit' => decide (unit' < 16)
  | .histSnapshot _ _ => true
  | .histConfigWrite unit' _ _ => decide (unit' < 16)
  | .samplerCapture sampler _ _ => decide (sampler < 4)
  | .samplerNWrite sampler _ => decide (sampler < 4)
  | .otpProgram word => decide (word < 2048)
  | .otpProgramDone _ => true
  | .lifecycleAdvance target => decide (target < 8)
  | .imageVerify type => decide (type < 4)
  | .imageVerifyDone => true
  | .measurementExtend index => decide (index < 8)
  | .debugUnlock _ => true
  | .debugUnlockDone => true
  | .debugAccess _ addr len _ => decide (addr < 2 ^ 64) && decide (len < 4097)
  | .identityDerived _ => true
  | .resetAssert => true
  | .resetRelease _ _ _ => true
  | .otpLoaded _ => true
  | .earlySelftestDone _ _ _ => true
  | .bgSelftestDone _ engines _ => decide (engines < 65536)
  | .safeUartLine => true
  | .statPatternToggle => true
  | .safeSpiRelease => true
  | .smbusStatusRead => true
  | .modeReqStandalone => true
  | .modeReqPartitioned => true
  | .modeReqComposed => true
  | .modeReqFabric => true
  | .modeReqIsolate => true
  | .modeReqDrain => true
  | .modeReqDiagnostic => true
  | .modeReqInvalid req => decide (req < 16)
  | .drainComplete => true
  | .drainTimeout => true
  | .mainPowerLoss _ => true
  | .standbyWake slot _ _ => decide (slot < 24)
  | .mainPowerReturn => true
  | .trefLost => true
  | .trefRestored => true
  | .resetMgt => true
  | .resetCul => true
  | .resetTel => true
  | .resetShake => true
  | .resetLink mask => decide (mask < 256)
  | .resetDevice => true
  | .subsysResetDone sub => decide (sub < 9)
  | .supplyUndervoltage _ => true
  | .aonUndervoltage => true
  | .supplyOvervoltage rails => decide (rails < 256)
  | .thermalGovTick _ => true
  | .criticalTemperature => true
  | .criticalCool => true
  | .recordRingWriteback part => decide (part < 32)
  | .phyCalibrationDone _ links => decide (links < 256)
  | .lifecycleAdvanceDone => true
  | .coreLoadTimeout => true
  | .badBlockReceive link lane _ => decide (link < 8) && decide (lane < 9)

end Sys2Proof
end

