-- ==== Sys2Proof/Tests/Slice0.lean ====
section
/-! SUPPORT. Tests of one step or one definition each, and for every statement with hypotheses a state and operands that meet
them, clause by clause. -/

namespace Sys2Proof.Tests

set_option maxRecDepth 100000
-- One theorem after another: each waits for the kernel in any case.
set_option Elab.async false
set_option linter.unusedVariables false

open Sys2Proof Sys2Proof.Machine

/-- A link of the route is up, whichever one R105's open choice takes (log entry 9). -/
theorem vc4Link_isSome (s : State) (fid : Nat) (hs : s.service = mFABRIC)
    (hl : ((upTo 8).filter fun f => bit (if bits (s.tbl 0x122 0 fid).toNat 16 16 = 1 then bits (s.tbl 0x122 0 fid).toNat 15 8
      else bits (s.tbl 0x122 0 fid).toNat 7 0) f && s.linkUp f) ≠ []) : (s.vc4Link fid).isSome = true := by
  unfold State.vc4Link
  simp only [hs, if_true]
  rw [List.getElem?_eq_getElem (Nat.mod_lt _ (List.length_pos_of_ne_nil hl))]
  rfl


/-! ### Well-formedness -/

namespace WellFormed

def tooLarge1 : List Instr :=
  [.registerWrite .mgmt 16777216 0, .strayAccess .mgmt 16777216 false, .partialWrite .mgmt 16777216, .evtClr .mgmt 4096 0 0,
   .evtClr .mgmt 0 65536 0, .evtClr .mgmt 0 0 65536, .counterLowRead .mgmt { addr := 16777216 },
   .counterHighRead .mgmt 16777216, .counterClear .mgmt 16777216, .tblNop .mgmt 4096, .tblRead .mgmt 4096,
   .tblWrite .mgmt 4096, .tblReadClear .mgmt 4096, .tblOpDone 4096 false false,
   .frameArrival 64 { kind := .memRead, len := 4 } false none, .frameArrival 0 { kind := .memRead, len := 5000 } false none,
   .reservationGranted 89, .proxyTagGranted 72, .originatedTagGranted 72, .copyStart 89 0 0 0 0, .copyDepart 89 none,
   .lateError 88 0 0 0, .lateError 0 0 0 67108864, .underrun 88, .underrunResend 88, .ageDiscard 89 0, .ageDiscard 0 16,
   .ledgerWriteback 256, .portLinkDown 72, .flushRemove 72, .flushDone 72, .portLinkUp 72 0 0 false,
   .completionArrival 64 { kind := .memRead, len := 4 } false false,
   .completionArrival 0 { kind := .memRead, len := 5000 } false false, .bankCeLimit 16, .bankRetire 32,
   .mapCommit 65536 false, .mirrorSlotWrite 4, .mirrorWriteback 4, .mcmModeWrite 4 0]
def tooLarge2 : List Instr :=
  [.sampleNWrite 4 0, .ptmRequest 64, .arm 16 0 0 false, .arm 0 4 0 false, .arm 0 0 2 false, .cancel 16 0, .cancel 0 4,
   .commitFire 16 0, .commitFire 0 4, .slotFired 16 0, .slotFired 0 4, .gateForce 16 false, .doorbell 512 0 0,
   .doorbell 0 4 0, .ringEnable 512 0, .ringEnable 0 4, .ringDisable 512 0, .ringDisable 0 4, .ringResume 512 0,
   .ringResume 0 4, .descriptorFetch 512 0, .descriptorFetch 0 4, .contextGrant 16, .sourceReadIssue 16, .engineWriteIssue 16,
   .engineCompletion 16 false, .descriptorFinish 512 0, .descriptorFinish 0 4, .timedRelease 512 0, .timedRelease 0 4,
   .engineAbort 16, .engineStopped 16, .engineRestart 16, .msixPendingSend 512 0, .msixPendingSend 0 8,
   .configRead 64 { kind := .memRead, len := 4 } false, .configRead 0 { kind := .memRead, len := 5000 } false,
   .configWrite 64 { kind := .memRead, len := 4 } false, .configWrite 0 { kind := .memRead, len := 5000 } false,
   .bmeClear 512]
def tooLarge3 : List Instr :=
  [.functionLevelReset 512, .powerStateD3hot 512, .secondaryBusReset 64, .dpcRelease 64, .powerControllerOff 64,
   .powerControllerOn 64, .instNop 512, .create 512, .destroy 512, .freeze 512, .save 512, .restore 512, .thaw 512,
   .recover 512, .serve 512, .createDone 512, .destroyDone 512, .restoreDone 512, .restoreXferTimeout 512, .freezeDone 512,
   .saveDone 512, .saveXferTimeout 512, .headgateOpen 512, .headgateClose 512, .instanceIdle 512, .forceReset 512,
   .instanceResetDone 512, .octetConfigWrite 24 false 0, .portConfigWrite 64 0, .pcieLinkDisable 64, .hotReset 64,
   .pcieRetrain 64 0 0, .l1Entry 64, .laneMarginCommand 24 0 false 0 { report := 0 },
   .laneMarginCommand 0 8 false 0 { report := 0 }, .forwardedClockDetect 8, .laneLock 8 0 0 0 [], .laneLock 0 9 0 0 [],
   .laneLock 0 0 1 0 [], .laneUnlock 8 0 []]
def tooLarge4 : List Instr :=
  [.laneUnlock 0 9 [], .helloReceive 8 0 0 0 0 0, .helloReceive 0 16 0 0 0 0,
   .echoReceive 8 { sent := 0, heard := 0, back := 0 }, .trainTimeout 8,
   .moabenPacketReceive 8 0 0 0 0 0 0 0 {} 0 [] false none, .moabenPacketReceive 0 4096 0 0 0 0 0 0 {} 0 [] false none,
   .moabenPacketReceive 0 0 8 0 0 0 0 0 {} 0 [] false none, .moabenPacketReceive 0 0 0 16 0 0 0 0 {} 0 [] false none,
   .moabenPacketReceive 0 0 0 0 8192 0 0 0 {} 0 [] false none, .moabenPacketReceive 0 0 0 0 0 16 0 0 {} 0 [] false none,
   .moabenPacketReceive 0 0 0 0 0 0 256 0 {} 0 [] false none, .moabenPacketReceive 0 0 0 0 0 0 0 16 {} 0 [] false none,
   .moabenPacketReceive 0 0 0 0 0 0 0 0 { type := 4 } 0 [] false none,
   .moabenPacketReceive 0 0 0 0 0 0 0 0 { tagHi := 16 } 0 [] false none,
   .moabenPacketReceive 0 0 0 0 0 0 0 0 {} 0 [] false (some { kind := .memRead, len := 5000 }), .ackSend 8, .ackReceive 8 0 0,
   .ackReceive 0 4096 0, .nakReceive 8 0 0, .nakReceive 0 4096 0, .replayTimeout 8, .xoffReceive 8 0, .xonReceive 8 0,
   .xoffResend 8, .mflRetrain 8, .retrainDone 8, .retrainTimeout 8, .linkChange 8, .changeReceive 8 0 0 0,
   .changeReceive 0 3 0 0, .changeReceive 0 0 3 0, .changeReceive 0 0 0 256, .readyReceive 8, .changeTimeout 8,
   .remapReceive 8 0, .remapReceive 0 16, .spareMap 8 0, .spareMap 0 16, .mflLinkEnable 8]
def tooLarge5 : List Instr :=
  [.mflLinkDisable 8, .tsyncRequestSend 8, .tsyncReqReceive { link := 8, exchange := 0 },
   .tsyncReqReceive { link := 0, exchange := 64 }, .tsyncFupReceive 8 0 0 0, .tsyncFupReceive 0 64 0 0,
   .authOfferReceive 8 0 [] [] [], .authOfferReceive 0 16 [] [] [], .authProofReceive 8 [], .authAcceptReceive 8,
   .authRejectReceive 8, .authResumeReceive 8 [], .authTimeout 8, .signDone 9, .authListEdit 8 0 0, .authListEdit 0 16 0,
   .authEnWrite 8 0, .authEnWrite 0 65536, .reauth 8, .mgmtPacketReceive 8 0 0 .accept, .mgmtPacketReceive 0 16 0 .accept,
   .mgmtPacketReceive 0 0 16 .accept, .bar4RemoteRead 64 { kind := .memRead, len := 4 },
   .bar4RemoteRead 0 { kind := .memRead, len := 5000 }, .bar4RemoteWrite 64 { kind := .memRead, len := 4 },
   .bar4RemoteWrite 0 { kind := .memRead, len := 5000 }, .loopSet 32 0, .loopbackEntry 64, .prbsStart 32 0 [], .prbsLock 32 0,
   .prbsLock 0 9, .prbsLockLost 32 0 0 0, .prbsLockLost 0 9 0 0, .prbsRateAbort 24 [], .eyeScanStart 32 0 false,
   .eyeScanStop 32 0, .eyeScanDone 32 { errors := 0 }, .eqRedo 24 0, .eqRedo 0 4, .eqRedoTimeout 64]
def tooLarge6 : List Instr :=
  [.scrubRead 8 0 false false, .scrubRead 0 65536 false false, .errorInject 4 0 0, .errorInject 0 89 0, .recordRingWrite 32,
   .pairSelftestDone 2 false, .coreLoad 18446744073709551616 0 false none, .coreLoad 0 4 false none,
   .coreStore 18446744073709551616 0 0 false none, .coreStore 0 4 0 false none, .coreFence 0 16,
   .coreLr 18446744073709551616 false false none, .coreSc 18446744073709551616 0 false false false none,
   .coreAmo 0 18446744073709551616 0 false false none, .mailboxRetire 32, .hcmdDoorbell 32, .hcmdTake 32,
   .getFwInfo 32 0 false, .getFwInfo 0 32 false, .attest 32 [] 0 0 false, .attest 0 [] 0 32 false, .attestPeerRequest 8 [],
   .firmwareUpdate 2, .localAccess .mgmt 8 0 0 false [], .localAccess .mgmt 0 4294967296 0 false [],
   .localAccess .mgmt 0 0 4097 false [], .spvSample 24 0 0 0 { gate := 0, vin := 0 },
   .spvSample 0 2 0 0 { gate := 0, vin := 0 }, .energyRead .mgmt 24 0, .energyRead .mgmt 0 2, .measClear 24 0,
   .fastTrip 24 { ch := 0, sense := 0 }, .fastTrip 0 { ch := 2, sense := 0 }, .currentLimitStart 24 0, .currentLimitStart 0 2,
   .faultTimerExpiry 24 0, .faultTimerExpiry 0 2, .faultTimerStop 24 0, .faultTimerStop 0 2, .gateRiseTimeout 24 0]
def tooLarge7 : List Instr :=
  [.gateRiseTimeout 0 2, .fetShort 24 0 false, .fetShort 0 2 false, .insertionStart 24, .rampEnd 24 0, .rampEnd 0 2,
   .channelPowerGood 24 0, .channelPowerGood 0 2, .perstRelease 24, .pgLost 24 0, .pgLost 0 2, .slotOn 24, .slotOff 24,
   .slotOffGates 24, .forceOn 24 0 false, .forceOn 0 2 false, .slotRetry 24, .retryWindowEnd 24, .slotRemoval 24,
   .slotInsertion 24, .histLevelSample 16, .histConfigWrite 16 false 0, .samplerCapture 4 false 0, .samplerNWrite 4 0,
   .otpProgram 2048, .lifecycleAdvance 8, .imageVerify 4, .measurementExtend 8, .debugAccess 0 18446744073709551616 0 [],
   .debugAccess 0 0 4097 [], .bgSelftestDone 0 65536 false, .modeReqInvalid 16, .standbyWake 24 false false, .resetLink 256,
   .subsysResetDone 9, .supplyOvervoltage 256, .recordRingWriteback 32, .phyCalibrationDone 0 256,
   .badBlockReceive 8 0 { bits := 0 }, .badBlockReceive 0 9 { bits := 0 }]
def largest1 : List Instr :=
  [.registerWrite .mgmt 16777215 0, .strayAccess .mgmt 16777215 false, .partialWrite .mgmt 16777215,
   .evtClr .mgmt 4095 65535 65535, .counterLowRead .mgmt { addr := 16777215 }, .counterHighRead .mgmt 16777215,
   .counterClear .mgmt 16777215, .tblNop .mgmt 4095, .tblRead .mgmt 4095, .tblWrite .mgmt 4095, .tblReadClear .mgmt 4095,
   .tblOpDone 4095 false false, .frameArrival 63 { kind := .memRead, len := 4 } false none, .reservationGranted 88,
   .proxyTagGranted 71, .originatedTagGranted 71, .copyStart 88 0 0 0 0, .copyDepart 88 none, .lateError 87 0 0 67108863,
   .underrun 87, .underrunResend 87, .ageDiscard 88 15, .ledgerWriteback 255, .portLinkDown 71, .flushRemove 71,
   .flushDone 71, .portLinkUp 71 0 0 false, .completionArrival 63 { kind := .memRead, len := 4 } false false, .bankCeLimit 15,
   .bankRetire 31, .mapCommit 65535 false, .mirrorSlotWrite 3, .mirrorWriteback 3, .mcmModeWrite 3 0, .sampleNWrite 3 0,
   .ptmRequest 63, .arm 15 3 1 false, .cancel 15 3, .commitFire 15 3, .slotFired 15 3]
def largest2 : List Instr :=
  [.gateForce 15 false, .doorbell 511 3 0, .ringEnable 511 3, .ringDisable 511 3, .ringResume 511 3, .descriptorFetch 511 3,
   .contextGrant 15, .sourceReadIssue 15, .engineWriteIssue 15, .engineCompletion 15 false, .descriptorFinish 511 3,
   .timedRelease 511 3, .engineAbort 15, .engineStopped 15, .engineRestart 15, .msixPendingSend 511 7,
   .configRead 63 { kind := .memRead, len := 4 } false, .configWrite 63 { kind := .memRead, len := 4 } false, .bmeClear 511,
   .functionLevelReset 511, .powerStateD3hot 511, .secondaryBusReset 63, .dpcRelease 63, .powerControllerOff 63,
   .powerControllerOn 63, .instNop 511, .create 511, .destroy 511, .freeze 511, .save 511, .restore 511, .thaw 511,
   .recover 511, .serve 511, .createDone 511, .destroyDone 511, .restoreDone 511, .restoreXferTimeout 511, .freezeDone 511,
   .saveDone 511]
def largest3 : List Instr :=
  [.saveXferTimeout 511, .headgateOpen 511, .headgateClose 511, .instanceIdle 511, .forceReset 511, .instanceResetDone 511,
   .octetConfigWrite 23 false 0, .portConfigWrite 63 0, .pcieLinkDisable 63, .hotReset 63, .pcieRetrain 63 0 0, .l1Entry 63,
   .laneMarginCommand 23 7 false 0 { report := 0 }, .forwardedClockDetect 7, .laneLock 7 8 0 0 [], .laneUnlock 7 8 [],
   .helloReceive 7 15 0 0 0 0, .echoReceive 7 { sent := 0, heard := 0, back := 0 }, .trainTimeout 7,
   .moabenPacketReceive 7 4095 7 15 8191 15 255 15 { type := 3, tagHi := 15 } 0 [] false none, .ackSend 7,
   .ackReceive 7 4095 0, .nakReceive 7 4095 0, .replayTimeout 7, .xoffReceive 7 0, .xonReceive 7 0, .xoffResend 7,
   .mflRetrain 7, .retrainDone 7, .retrainTimeout 7, .linkChange 7, .changeReceive 7 2 2 255, .readyReceive 7,
   .changeTimeout 7, .remapReceive 7 15, .spareMap 7 15, .mflLinkEnable 7, .mflLinkDisable 7, .tsyncRequestSend 7,
   .tsyncReqReceive { link := 7, exchange := 63 }]
def largest4 : List Instr :=
  [.tsyncFupReceive 7 63 0 0, .authOfferReceive 7 15 [] [] [], .authProofReceive 7 [], .authAcceptReceive 7,
   .authRejectReceive 7, .authResumeReceive 7 [], .authTimeout 7, .signDone 8, .authListEdit 7 15 0, .authEnWrite 7 65535,
   .reauth 7, .mgmtPacketReceive 7 15 15 .accept, .bar4RemoteRead 63 { kind := .memRead, len := 4 },
   .bar4RemoteWrite 63 { kind := .memRead, len := 4 }, .loopSet 31 0, .loopbackEntry 63, .prbsStart 31 0 [], .prbsLock 31 8,
   .prbsLockLost 31 8 0 0, .prbsRateAbort 23 [], .eyeScanStart 31 0 false, .eyeScanStop 31 0, .eyeScanDone 31 { errors := 0 },
   .eqRedo 23 3, .eqRedoTimeout 63, .scrubRead 7 65535 false false, .errorInject 3 88 0, .recordRingWrite 31,
   .pairSelftestDone 1 false, .coreLoad 18446744073709551615 3 false none, .coreStore 18446744073709551615 3 0 false none,
   .coreFence 0 15, .coreLr 18446744073709551615 false false none, .coreSc 18446744073709551615 0 false false false none,
   .coreAmo 0 18446744073709551615 0 false false none, .mailboxRetire 31, .hcmdDoorbell 31, .hcmdTake 31,
   .getFwInfo 31 31 false, .attest 31 [] 0 31 false]
def largest5 : List Instr :=
  [.attestPeerRequest 7 [], .firmwareUpdate 1, .localAccess .mgmt 7 4294967295 4096 false [],
   .spvSample 23 1 0 0 { gate := 0, vin := 0 }, .energyRead .mgmt 23 1, .measClear 23 0, .fastTrip 23 { ch := 1, sense := 0 },
   .currentLimitStart 23 1, .faultTimerExpiry 23 1, .faultTimerStop 23 1, .gateRiseTimeout 23 1, .fetShort 23 1 false,
   .insertionStart 23, .rampEnd 23 1, .channelPowerGood 23 1, .perstRelease 23, .pgLost 23 1, .slotOn 23, .slotOff 23,
   .slotOffGates 23, .forceOn 23 1 false, .slotRetry 23, .retryWindowEnd 23, .slotRemoval 23, .slotInsertion 23,
   .histLevelSample 15, .histConfigWrite 15 false 0, .samplerCapture 3 false 0, .samplerNWrite 3 0, .otpProgram 2047,
   .lifecycleAdvance 7, .imageVerify 3, .measurementExtend 7, .debugAccess 0 18446744073709551615 4096 [],
   .bgSelftestDone 0 65535 false, .modeReqInvalid 15, .standbyWake 23 false false, .resetLink 255, .subsysResetDone 8,
   .supplyOvervoltage 255]
def largest6 : List Instr :=
  [.recordRingWriteback 31, .phyCalibrationDone 0 255, .badBlockReceive 7 8 { bits := 0 }]

/-- Each range of `Instr.wf` refuses the first number beyond it, and each packet a length beyond 4,096. -/
theorem test_wf_refuses :
    tooLarge1.all (fun c => !c.wf) = true ∧
    tooLarge2.all (fun c => !c.wf) = true ∧
    tooLarge3.all (fun c => !c.wf) = true ∧
    tooLarge4.all (fun c => !c.wf) = true ∧
    tooLarge5.all (fun c => !c.wf) = true ∧
    tooLarge6.all (fun c => !c.wf) = true ∧
    tooLarge7.all (fun c => !c.wf) = true := by
  refine ⟨?_, ?_, ?_, ?_, ?_, ?_, ?_⟩ <;> decide +kernel

/-- Each range accepts its last number. -/
theorem test_wf_accepts :
    largest1.all Instr.wf = true ∧
    largest2.all Instr.wf = true ∧
    largest3.all Instr.wf = true ∧
    largest4.all Instr.wf = true ∧
    largest5.all Instr.wf = true ∧
    largest6.all Instr.wf = true := by
  refine ⟨?_, ?_, ?_, ?_, ?_, ?_⟩ <;> decide +kernel

/-- A payload longer or shorter than its header says, and a request across a 4,096-byte line, are refused. -/
theorem test_wf_packets :
    Tlp.wf { kind := .memWrite, len := 4, data := [1, 2, 3] } = false ∧
    Tlp.wf { kind := .memRead, len := 4, data := [1, 2, 3, 4] } = false ∧
    Tlp.wf { kind := .memRead, addr := 0xFFE, len := 4 } = false ∧
    Tlp.wf { kind := .memWrite, addr := 0xFFE, len := 4, data := [1, 2, 3, 4] } = false ∧
    Tlp.wf { kind := .memWrite, addr := 0xFFC, len := 4, data := [1, 2, 3, 4] } = true := by decide +kernel

end WellFormed

def md (m : Nat) : State := State.reset.setMode m
def at_ (s : State) (n : Nat) : State := { s with now := n }
def win (s : State) (i base log tgt : Nat) : State := s.setTbl 0x120 0 i (BitVec.ofNat 256 (1 + log * 16 + base + (base + 0x10000000) * 2^64 + 2^131 + 2^163 + 2^195 + tgt * 2^224))
def sw (s : State) (f : Switch → Switch) : State := { s with sw := f s.sw }
def mw : Tlp := { kind := .memWrite, addr := 0x10001000, len := 4, data := [1,2,3,4] }
def er (s : State) (f : ErrSt → ErrSt) : State := { s with err := f s.err }
def mr (n : Nat) : Tlp := { kind := .memRead, addr := 0x10001000, len := n, tag := 3, reqId := 0x123 }
def ls (s : State) (f st : Nat) (g : LinkSt → LinkSt) : State := (s.fset (R.MFL_LINK_STS_STATE f) st).modLink f g
def oct (s : State) : State := ((s.fset (R.PHY_OCTET_MODE_MODE 2) 0).setReg (R.PHY_OCTET_PORTS 2) 0x85).fset (R.PEP_PORT_STS_PRESENT 5) 1
def tbv (s : State) (t : Nat) (n : Nat) : State := { s with now := n, tb := { s.tb with time := BitVec.ofNat 80 t } }
def ins (s : State) (i st : Nat) (g : InstSt → InstSt) : State := (s.fset (R.VIM_INST_STS_STATE i) st).modInst i g
def pk (n : Nat) : Packet := { seq := n, vc := 0, bytes := 64 }
def mg (s : State) (f : Mgt → Mgt) : State := { s with mgt := f s.mgt }
def otp (s : State) (l : Store W32) : State := { s with sec := { s.sec with otp := l } }
def bd (s : State) (f : Board → Board) : State := { s with board := f s.board }

namespace RegisterWrites
def s0 := at_ (md mFABRIC) 3000000000

/-- The hypotheses of each clause of `Obligations.RegisterWrites` are met. -/
theorem witness_RegisterWrites :
    (s0.alive = true ∧ s0.undef = none ∧ s0.decodes ((.part 0)) (R.SLU_FS_CTL % 2 ^ 24 / 4 * 4) = true ∧
      ((pageAt (R.SLU_FS_CTL % 2 ^ 24 / 4 * 4)).any (fun p => decide (s0.writeBarred ((.part 0)) p = false ∧ p.off ≠ 0x14 ∧
      p.off ≠ 0x18 ∧ isCounter p = false ∧ p.off < 0xF00 ∧
      (regSpec (R.SLU_FS_CTL % 2 ^ 24 / 4 * 4)).any (fun x => decide ((s0.lckOrder ((.part 0)) (R.SLU_FS_CTL % 2 ^ 24 / 4 * 4)).writeCtlA ((.part 0)) p (R.SLU_FS_CTL % 2 ^ 24 / 4 * 4) ((0 : W32)) = none ∧
      (s0.lckOrder ((.part 0)) (R.SLU_FS_CTL % 2 ^ 24 / 4 * 4)).writeCtlB p (R.SLU_FS_CTL % 2 ^ 24 / 4 * 4) ((0 : W32)) = none ∧
      (s0.lckOrder ((.part 0)) (R.SLU_FS_CTL % 2 ^ 24 / 4 * 4)).writeCtlC ((.part 0)) p (R.SLU_FS_CTL % 2 ^ 24 / 4 * 4) ((0 : W32)) = none ∧
      (s0.reg (R.SLU_FS_CTL % 2 ^ 24 / 4 * 4) ^^^ ((0 : W32))).toNat &&& reservedBits x.fields = 0)) = true)) = true)) ∧
    (s0.alive = true ∧ s0.undef = none ∧ s0.decodes ((.part 0)) (R.SLU_FS_CTL % 2 ^ 24 / 4 * 4) = true ∧
      ((pageAt (R.SLU_FS_CTL % 2 ^ 24 / 4 * 4)).any (fun p => decide (s0.writeBarred ((.part 0)) p = false ∧ p.off ≠ 0x14 ∧
      p.off ≠ 0x18 ∧ isCounter p = false ∧ p.off < 0xF00 ∧
      (regSpec (R.SLU_FS_CTL % 2 ^ 24 / 4 * 4)).any (fun x => decide ((s0.lckOrder ((.part 0)) (R.SLU_FS_CTL % 2 ^ 24 / 4 * 4)).writeCtlA ((.part 0)) p (R.SLU_FS_CTL % 2 ^ 24 / 4 * 4) ((0xFFFFFFFF : W32)) = none ∧
      (s0.lckOrder ((.part 0)) (R.SLU_FS_CTL % 2 ^ 24 / 4 * 4)).writeCtlB p (R.SLU_FS_CTL % 2 ^ 24 / 4 * 4) ((0xFFFFFFFF : W32)) = none ∧
      (s0.lckOrder ((.part 0)) (R.SLU_FS_CTL % 2 ^ 24 / 4 * 4)).writeCtlC ((.part 0)) p (R.SLU_FS_CTL % 2 ^ 24 / 4 * 4) ((0xFFFFFFFF : W32)) = none ∧
      (s0.reg (R.SLU_FS_CTL % 2 ^ 24 / 4 * 4) ^^^ ((0xFFFFFFFF : W32))).toNat &&& reservedBits x.fields ≠ 0)) = true)) = true)) := by
  refine ⟨?_, ?_⟩ <;> decide +kernel

end RegisterWrites

namespace HostWritesToMgtPages
def s0 := at_ (md mFABRIC) 3000000000

/-- The hypotheses of each clause of `Obligations.HostWritesToMgtPages` are met. -/
theorem witness_HostWritesToMgtPages :
    (s0.alive = true ∧ s0.undef = none ∧ s0.decodes (.part ((0 : Fin 32))) ((R.MGT_HCMD_LO 3) % 2 ^ 24 / 4 * 4) = true ∧
      12 ≤ ((R.MGT_HCMD_LO 3) % 2 ^ 24 / 4 * 4) / 4096 ∧ ((R.MGT_HCMD_LO 3) % 2 ^ 24 / 4 * 4) / 4096 < 16 ∧
      ((R.MGT_HCMD_LO 3) % 2 ^ 24 / 4 * 4) ≠ R.MGT_HCMD_LO ((0 : Fin 32)) ∧
      ((R.MGT_HCMD_LO 3) % 2 ^ 24 / 4 * 4) ≠ R.MGT_HCMD_HI ((0 : Fin 32)) ∧
      ((R.MGT_HCMD_LO 3) % 2 ^ 24 / 4 * 4) ≠ R.MGT_HCMD_DB ((0 : Fin 32))) ∧
    (s0.alive = true ∧ s0.undef = none ∧ s0.decodes (.part ((3 : Fin 32))) ((R.MGT_HCMD_LO 3) % 2 ^ 24 / 4 * 4) = true ∧
      12 ≤ ((R.MGT_HCMD_LO 3) % 2 ^ 24 / 4 * 4) / 4096 ∧ ((R.MGT_HCMD_LO 3) % 2 ^ 24 / 4 * 4) / 4096 < 16 ∧
      ((R.MGT_HCMD_LO 3) % 2 ^ 24 / 4 * 4) = R.MGT_HCMD_LO ((3 : Fin 32)) ∧
      ((0 : W32)).toNat % 4096 = (s0.reg ((R.MGT_HCMD_LO 3) % 2 ^ 24 / 4 * 4)).toNat % 4096) ∧
    (s0.alive = true ∧ s0.undef = none ∧ s0.decodes (.part ((3 : Fin 32))) ((R.MGT_HCMD_HI 3) % 2 ^ 24 / 4 * 4) = true ∧
      12 ≤ ((R.MGT_HCMD_HI 3) % 2 ^ 24 / 4 * 4) / 4096 ∧ ((R.MGT_HCMD_HI 3) % 2 ^ 24 / 4 * 4) / 4096 < 16 ∧
      ((R.MGT_HCMD_HI 3) % 2 ^ 24 / 4 * 4) = R.MGT_HCMD_HI ((3 : Fin 32))) ∧
    (s0.alive = true ∧ s0.undef = none ∧ s0.decodes (.part ((3 : Fin 32))) ((R.MGT_HCMD_DB 3) % 2 ^ 24 / 4 * 4) = true ∧
      12 ≤ ((R.MGT_HCMD_DB 3) % 2 ^ 24 / 4 * 4) / 4096 ∧ ((R.MGT_HCMD_DB 3) % 2 ^ 24 / 4 * 4) / 4096 < 16 ∧
      ((R.MGT_HCMD_DB 3) % 2 ^ 24 / 4 * 4) = R.MGT_HCMD_DB ((3 : Fin 32))) := by
  refine ⟨?_, ?_, ?_, ?_⟩ <;> decide +kernel

end HostWritesToMgtPages

namespace VimPageWriters
def s0 := at_ (md mFABRIC) 3000000000

/-- The hypotheses of each clause of `Obligations.VimPageWriters` are met. -/
theorem witness_VimPageWriters :
    (s0.alive = true ∧ s0.undef = none ∧
      s0.decodes (.part ((3 : Fin 32))) (0x400000 + 0x1000 * ((0 : Fin 512)).val + 4 * ((0 : Fin 1024)).val) = true ∧
      s0.fget (R.VIM_INST_OWNER_MGR_PART ((0 : Fin 512))) ≠ ((3 : Fin 32))) ∧
    (s0.alive = true ∧ s0.undef = none ∧
      s0.decodes (.part ((0 : Fin 32))) (0x400000 + 0x1000 * ((0 : Fin 512)).val + 4 * ((64 : Fin 1024)).val) = true ∧
      s0.fget (R.VIM_INST_OWNER_MGR_PART ((0 : Fin 512))) = ((0 : Fin 32)) ∧
      (0x400000 + 0x1000 * ((0 : Fin 512)).val + 4 * ((64 : Fin 1024)).val) = R.VIM_INST_OWNER ((0 : Fin 512)) ∧
      (((0 : W32)).toNat &&& 0xE0FF00E0) = ((s0.reg (0x400000 + 0x1000 * ((0 : Fin 512)).val + 4 * ((64 : Fin 1024)).val)).toNat &&& 0xE0FF00E0)) ∧
    (s0.alive = true ∧ s0.undef = none ∧
      (0x400000 + 0x1000 * ((0 : Fin 512)).val + 4 * ((64 : Fin 1024)).val) = R.VIM_INST_OWNER ((0 : Fin 512)) ∧
      (((0 : W32)).toNat &&& 0xE0FF00E0) = ((s0.reg (0x400000 + 0x1000 * ((0 : Fin 512)).val + 4 * ((64 : Fin 1024)).val)).toNat &&& 0xE0FF00E0)) := by
  refine ⟨?_, ?_, ?_⟩ <;> decide +kernel

end VimPageWriters

namespace RegisterReads
def s0 := at_ (md mFABRIC) 3000000000

/-- The hypotheses of each clause of `Obligations.RegisterReads` are met. -/
theorem witness_RegisterReads :
    (s0.alive = true ∧ s0.decodes ((.part 0)) (R.DEV_STRAY_ACCESS % 2 ^ 24 / 8 * 8) = true ∧
      counterAt (R.DEV_STRAY_ACCESS % 2 ^ 24 / 8 * 8) = true) ∧
    (s0.alive = true ∧ s0.decodes ((.part 0)) (R.DEV_STRAY_ACCESS % 2 ^ 24 / 8 * 8) = true ∧
      counterAt (R.DEV_STRAY_ACCESS % 2 ^ 24 / 8 * 8) = true) ∧
    (s0.alive = true ∧ s0.decodes ((.part 0)) (R.DEV_STRAY_ACCESS % 2 ^ 24 / 8 * 8) = true ∧
      counterAt (R.DEV_STRAY_ACCESS % 2 ^ 24 / 8 * 8) = true) ∧
    (s0.alive = true ∧ s0.decodes ((.part 0)) (R.DEV_STRAY_ACCESS % 2 ^ 24 / 8 * 8) = true ∧
      counterAt (R.DEV_STRAY_ACCESS % 2 ^ 24 / 8 * 8) = true ∧
      (∀ p, pageAt (R.DEV_STRAY_ACCESS % 2 ^ 24 / 8 * 8) = some p → s0.writeBarred ((.part 0)) p = false)) ∧
    (s0.alive = true ∧ s0.decodes ((.part 0)) R.SLU_TB_LO = true) ∧
    (s0.alive = true ∧ 0 < 24 ∧ 0 < 2 ∧ s0.decodes ((.part 0)) (R.SPV_ENERGY_LO 0 0) = true) ∧
    (s0.alive = true ∧ s0.decodes ((.part 0)) (0xFFF000 % 2 ^ 24 / 4 * 4) = false) ∧
    (s0.alive = true ∧ s0.decodes ((.part 0)) (R.DEV_STRAY_ACCESS % 2 ^ 24) = true) := by
  refine ⟨?_, ?_, ?_, ?_, ?_, ?_, ?_, ?_⟩ <;> decide +kernel

end RegisterReads

namespace PageEvents
def s0 := at_ (md mFABRIC) 3000000000

/-- The hypotheses of each clause of `Obligations.PageEvents` are met. -/
theorem witness_PageEvents :
    (s0.alive = true ∧ 0x150 < 4096 ∧ 0x150 < 65536 ∧ 0 < 65536 ∧ s0.decodes ((.part 0)) (0x150 * 4096 + 0x14) = true ∧
      ((pageAt (0x150 * 4096 + 0x14)).any (fun p => decide (s0.writeBarred ((.part 0)) p = false ∧
      0 = bits (s0.reg (0x150 * 4096 + 0x10)).toNat 31 16 ∧ (s0.evtCycle 0x150).raised = false)) = true)) ∧
    (s0.alive = true ∧ 0x150 < 4096 ∧ 0x150 < 65536 ∧ 0x150 < 65536 ∧
      s0.decodes ((.part 0)) (0x150 * 4096 + 0x14) = true ∧
      ((pageAt (0x150 * 4096 + 0x14)).any (fun p => decide (s0.writeBarred ((.part 0)) p = false ∧
      (0x150 ≠ bits (s0.reg (0x150 * 4096 + 0x10)).toNat 31 16 ∨ (s0.evtCycle 0x150).raised = true))) = true)) := by
  refine ⟨?_, ?_⟩ <;> decide +kernel

/-- Event numbers of a page, with events set before and with none. -/
theorem witness_PageEvents_raise :
    ([3, 5] : List Nat) ≠ [] ∧ (∀ e ∈ [3, 5], e < 16) ∧
      bits (State.reset.reg (0x111 * 4096 + 0x10)).toNat 15 0 = 0 ∧
      bits ((State.reset.raise 0x111 2).reg (0x111 * 4096 + 0x10)).toNat 15 0 ≠ 0 := by decide +kernel

end PageEvents

namespace TableOperations
def up (s : State) (p part : Nat) (role : Nat := 1) (ps : PortSt := { up := true }) : State := { ((((s.fset (R.PEP_PORT_CTL_ROLE p) role).fset (R.PEP_PORT_CTL_PART p) part).fset (R.PEP_PORT_STS_PRESENT p) 1).fset (R.PEP_PORT_STS_DL_ACTIVE p) 1).fset (R.PEP_LINK_CTL_DISABLE p) 0 with sw := { s.sw with ports := storePut {} p ps s.sw.ports } }
def s0 := at_ (md mFABRIC) 3000000000
def s1 := up s0 5 3
def s2 := win (up s1 7 3 2 { up := true, epoch := 15 }) 2 0x10000000 20 5
def ti (s : State) (pg op ix : Nat) (v : W256 := 5) (o : Nat := 33) : State := { s with tblRuns := [(pg, some { op := op, index := BitVec.ofNat 32 ix, data := v, owner := o })] }
def x0 := s2.setTbl 0x120 0 2 7
def xb := { x0 with err := { x0.err with bad := [{ table := 0, index := 2, copy0 := true, copy1 := true }, { table := 5, index := 3, copy0 := true, copy1 := true },{ table := 7, index := 4, copy0 := true, copy1 := true }] } }

/-- The hypotheses of each clause of `Obligations.TableOperations` are met. -/
theorem witness_TableOperations :
    (0x120 < 4096 ∧ s0.alive = true ∧ s0.decodes ((.part 0)) (0x120 * 4096 + 0xF04) = true ∧
      ((pageAt (0x120 * 4096 + 0xF04)).any (fun p => decide (s0.writeBarred ((.part 0)) p = false ∧
      pageNtbl p.block p.page ≠ 0 ∧ s0.tblRun 0x120 = none)) = true)) ∧
    (0x120 < 4096 ∧ s0.alive = true ∧ s0.decodes ((.part 0)) (0x120 * 4096 + 0xF04) = true ∧
      ((pageAt (0x120 * 4096 + 0xF04)).any (fun p => decide (s0.writeBarred ((.part 0)) p = false ∧
      pageNtbl p.block p.page ≠ 0 ∧ s0.tblRun 0x120 = none)) = true)) ∧
    (0x120 < 4096 ∧ (ti x0 0x120 1 2).alive = true ∧ (ti x0 0x120 1 2).decodes ((.part 0)) (0x120 * 4096 + 0xF04) = true ∧
      ((pageAt (0x120 * 4096 + 0xF04)).any (fun p => decide ((ti x0 0x120 1 2).writeBarred ((.part 0)) p = false ∧
      pageNtbl p.block p.page ≠ 0 ∧ (ti x0 0x120 1 2).tblRun 0x120 ≠ none)) = true)) ∧
    (0x120 < 4096 ∧ s0.undef = none ∧ s0.tblRun 0x120 = none) ∧
    (0x120 < 4096 ∧ (ti x0 0x120 1 0x1FFFFFF).undef = none ∧
      ((pageAt (0x120 * 4096)).any (fun p => decide (((ti x0 0x120 1 0x1FFFFFF).tblRun 0x120).any (fun run => decide ((tableSize p.block p.page (run.index.toNat / 2 ^ 24)).all (fun x => decide (x.1 ≤ (run.index.toNat % 2 ^ 24))) = true)) = true)) = true)) ∧
    (0x120 < 4096 ∧ (ti x0 0x120 2 2).undef = none ∧
      ((pageAt (0x120 * 4096)).any (fun p => decide ((((ti x0 0x120 2 2).tblRun 0x120).any (fun run => decide (((tableSize p.block p.page (run.index.toNat / 2 ^ 24)).any (fun (entries, bytes) => decide ((run.index.toNat % 2 ^ 24) < entries ∧
      run.op = 2 ∧ (((tblAccess p.block p.page (run.index.toNat / 2 ^ 24)) = .denied ∨
      ((tblAccess p.block p.page (run.index.toNat / 2 ^ 24)) ≠ .counters ∧
      ((p.block == .map && p.page == 1 && decide (run.owner < 32))) = true))))) = true))) = true))) = true)) ∧
    (0x40 < 4096 ∧ (ti x0 0x40 2 1).undef = none ∧
      ((pageAt (0x40 * 4096)).any (fun p => decide (((ti x0 0x40 2 1).tblRun 0x40).any (fun run => decide ((tableSize p.block p.page (run.index.toNat / 2 ^ 24)).any (fun (entries, bytes) => decide ((run.index.toNat % 2 ^ 24) < entries ∧
      run.op = 2 ∧ (tblAccess p.block p.page (run.index.toNat / 2 ^ 24)) = .counters)) = true)) = true)) = true)) ∧
    (0x122 < 4096 ∧ (ti xb 0x122 2 0x1000003 0xFFF).undef = none ∧
      ((pageAt (0x122 * 4096)).any (fun p => decide (((ti xb 0x122 2 0x1000003 0xFFF).tblRun 0x122).any (fun run => decide ((tableSize p.block p.page (run.index.toNat / 2 ^ 24)).any (fun (entries, bytes) => decide ((run.index.toNat % 2 ^ 24) < entries ∧
      ((tblAccess p.block p.page (run.index.toNat / 2 ^ 24)).masks).any (fun (rw, ro) => decide (run.op = 2 ∧
      ((p.block == .map && p.page == 1 && decide (run.owner < 32))) = false ∧
      (decide (((run.data.toNat % 2 ^ (8 * bytes)) ^^^ ((ti xb 0x122 2 0x1000003 0xFFF).entryView p 0x122 (run.index.toNat / 2 ^ 24) (run.index.toNat % 2 ^ 24) bytes)) &&& (ones (8 * bytes - 1) 0 - (rw ||| ro)) = 0)) = false)) = true)) = true)) = true)) = true)) ∧
    (0x122 < 4096 ∧ (ti xb 0x122 2 3 0x5).undef = none ∧
      ((pageAt (0x122 * 4096)).any (fun p => decide (((ti xb 0x122 2 3 0x5).tblRun 0x122).any (fun run => decide ((tableSize p.block p.page (run.index.toNat / 2 ^ 24)).any (fun (entries, bytes) => decide ((run.index.toNat % 2 ^ 24) < entries ∧
      ((tblAccess p.block p.page (run.index.toNat / 2 ^ 24)).masks).any (fun (rw, ro) => decide (run.op = 2 ∧
      ((p.block == .map && p.page == 1 && decide (run.owner < 32))) = false ∧
      (decide (((run.data.toNat % 2 ^ (8 * bytes)) ^^^ ((ti xb 0x122 2 3 0x5).entryView p 0x122 (run.index.toNat / 2 ^ 24) (run.index.toNat % 2 ^ 24) bytes)) &&& (ones (8 * bytes - 1) 0 - (rw ||| ro)) = 0)) = true)) = true)) = true)) = true)) = true)) ∧
    (0x120 < 4096 ∧ (ti x0 0x120 3 2).undef = none ∧
      ((pageAt (0x120 * 4096)).any (fun p => decide (((ti x0 0x120 3 2).tblRun 0x120).any (fun run => decide ((tableSize p.block p.page (run.index.toNat / 2 ^ 24)).any (fun (entries, bytes) => decide ((run.index.toNat % 2 ^ 24) < entries ∧
      run.op = 3 ∧ (counterTable p.block p.page (run.index.toNat / 2 ^ 24)) = false)) = true)) = true)) = true)) ∧
    (0x120 < 4096 ∧ (ti x0 0x120 1 2).undef = none ∧
      ((pageAt (0x120 * 4096)).any (fun p => decide ((((ti x0 0x120 1 2).tblRun 0x120).any (fun run => decide (((tableSize p.block p.page (run.index.toNat / 2 ^ 24)).any (fun (entries, bytes) => decide ((run.index.toNat % 2 ^ 24) < entries ∧
      ((run.op = 1 ∨ (run.op = 3 ∧ (counterTable p.block p.page (run.index.toNat / 2 ^ 24)) = true))) ∧
      ((if (routingTable p.block p.page (run.index.toNat / 2 ^ 24)).isSome then (true && false) || (routingTable p.block p.page (run.index.toNat / 2 ^ 24)).any fun k => (ti x0 0x120 1 2).faulted k (run.index.toNat % 2 ^ 24) else true || false)) = false)) = true))) = true))) = true)) ∧
    (0x120 < 4096 ∧ (ti x0 0x120 1 2).undef = none ∧
      ((pageAt (0x120 * 4096)).any (fun p => decide ((((ti x0 0x120 1 2).tblRun 0x120).any (fun run => decide (((tableSize p.block p.page (run.index.toNat / 2 ^ 24)).any (fun (entries, bytes) => decide ((run.index.toNat % 2 ^ 24) < entries ∧
      ((run.op = 1 ∨ (run.op = 3 ∧ (counterTable p.block p.page (run.index.toNat / 2 ^ 24)) = true))) ∧
      ((if (routingTable p.block p.page (run.index.toNat / 2 ^ 24)).isSome then (true && true) || (routingTable p.block p.page (run.index.toNat / 2 ^ 24)).any fun k => (ti x0 0x120 1 2).faulted k (run.index.toNat % 2 ^ 24) else true || true)) = true)) = true))) = true))) = true)) := by
  refine ⟨?_, ?_, ?_, ?_, ?_, ?_, ?_, ?_, ?_, ?_, ?_, ?_⟩ <;> decide +kernel

end TableOperations

namespace BufferBanks
def s0 := at_ (md mFABRIC) 3000000000
def r1 := s0.fset R.BUF_SPARE_CTL_AUTO 1
def r3 := (r1.fset (bankFld 16) bkRETIRED)
def r4 := (s0.fset (bankFld 3) bkDRAINING).fset (bankLogical 3) 0x1F
def ce (s : State) : State := sw (s.fset R.BUF_SPARE_CTL_CE_LIMIT 1) fun x => { x with bankCe := (upTo 16).map fun k => (k, [2999999999]) }
def ld := (ce r1).fset R.BUF_BANK_RETIRE_STS_RESULT 1
def ld2 := (ce r1).fset (bankLogical 3) 0x1E
def r4u := sw r4 fun x => { x with frames := [{ id := 9, tlp := mw, ingress := 7, banks := [3] }] }

/-- The hypotheses of each clause of `Obligations.BufferBanks` are met. -/
theorem witness_BufferBanks :
    (r4u.alive = true ∧ (16 < (3 % 32) ∨ r4u.fget (bankFld (3 % 32)) ≠ bkACTIVE ∨
      r4u.fget R.BUF_BANK_RETIRE_STS_RESULT = 1 ∨ (r4u.spareBank = none ∧ r4u.ordWith (r4u.banksActive - 1) < 16384))) ∧
    (r4u.alive = true ∧ (0 % 32) ≤ 16 ∧ r4u.fget (bankFld (0 % 32)) = bkACTIVE ∧
      r4u.fget R.BUF_BANK_RETIRE_STS_RESULT ≠ 1 ∧ (r4u.spareBank).isSome = true) ∧
    (r3.alive = true ∧ (0 % 32) ≤ 16 ∧ r3.fget (bankFld (0 % 32)) = bkACTIVE ∧ r3.fget R.BUF_BANK_RETIRE_STS_RESULT ≠ 1 ∧
      r3.spareBank = none ∧ 16384 ≤ r3.ordWith (r3.banksActive - 1)) ∧
    (r4.alive = true ∧ (3 % 32) < 17 ∧ r4.fget (bankFld (3 % 32)) = bkDRAINING ∧
      (∀ k, k < (3 % 32) → r4.fget (bankFld k) ≠ bkDRAINING) ∧ r4.bankUsed (3 % 32) = 0) ∧
    (r4u.alive = true ∧ (3 % 32) < 17 ∧ r4u.fget (bankFld (3 % 32)) = bkDRAINING ∧
      (∀ k, k < (3 % 32) → r4u.fget (bankFld k) ≠ bkDRAINING) ∧ r4u.bankUsed (3 % 32) ≠ 0) ∧
    (s0.alive = true ∧ (∀ k, k < 17 → s0.fget (bankFld k) ≠ bkDRAINING)) ∧
    (r4u.alive = true ∧ (r4u.recentCe (0 % 16)).length < r4u.fget R.BUF_SPARE_CTL_CE_LIMIT) ∧
    (ld2.alive = true ∧ ld2.fget R.BUF_SPARE_CTL_CE_LIMIT ≤ (ld2.recentCe (3 % 16)).length ∧
      (ld2.fget R.BUF_SPARE_CTL_AUTO = 0 ∨ (ld2.activeBanks.all fun b => b.1 != 3 % 16) = true)) ∧
    (ld.alive = true ∧
      (((ld.activeBanks.find? fun b => b.1 == 0 % 16)).any (fun (l, j) => decide (ld.fget R.BUF_SPARE_CTL_CE_LIMIT ≤ (ld.recentCe (0 % 16)).length ∧
      ld.fget R.BUF_SPARE_CTL_AUTO = 1 ∧ ((ld.fget R.BUF_BANK_RETIRE_STS_RESULT = 1 ∨ (ld.spareBank = none ∧
      ld.ordWith (ld.banksActive - 1) < 16384))))) = true)) ∧
    (ld2.alive = true ∧
      (((ld2.activeBanks.find? fun b => b.1 == 0 % 16)).any (fun (l, j) => decide (ld2.fget R.BUF_SPARE_CTL_CE_LIMIT ≤ (ld2.recentCe (0 % 16)).length ∧
      ld2.fget R.BUF_SPARE_CTL_AUTO = 1 ∧
      (ld2.spareBank).any (fun k => decide (ld2.fget R.BUF_BANK_RETIRE_STS_RESULT ≠ 1)) = true)) = true)) := by
  refine ⟨?_, ?_, ?_, ?_, ?_, ?_, ?_, ?_, ?_, ?_⟩ <;> decide +kernel

end BufferBanks

namespace PoolsLedgerAndWeir
def up (s : State) (p part : Nat) (role : Nat := 1) (ps : PortSt := { up := true }) : State := { ((((s.fset (R.PEP_PORT_CTL_ROLE p) role).fset (R.PEP_PORT_CTL_PART p) part).fset (R.PEP_PORT_STS_PRESENT p) 1).fset (R.PEP_PORT_STS_DL_ACTIVE p) 1).fset (R.PEP_LINK_CTL_DISABLE p) 0 with sw := { s.sw with ports := storePut {} p ps s.sw.ports } }
def s0 := at_ (md mFABRIC) 3000000000
def s1 := up s0 5 3
def s2 := win (up s1 7 3 2 { up := true, epoch := 15 }) 2 0x10000000 20 5
def lr (k : Nat) : LedgerRec := { ring := k, time := 5, addr := 7, len := 4, reason := 2, prio := 0, arrival := false, mcast := false, window := 2, ingress := 7, fseq := 3, egress := 5 }
def ring (s : State) (k : Nat) : State := (((s.tset 0x112 0 k 63 0 0x20000000).tset 0x112 0 k 127 64 0x20001000).tset 0x112 0 k 191 160 0xFFFFFFFF |>.tset 0x112 0 k 147 144 s.selfFid).tset 0x112 0 k 142 136 5 |>.tset 0x112 0 k 133 133 1
def l1 := sw (ring s2 9) fun x => { x with ledgerQ := [lr 9, lr 4], ledgerDue := [4, 9] }
def l2 := sw (ring s2 9) fun x => { x with ledgerQ := [lr 4, lr 4] }
def w1 := s2.fset R.BUF_WEIR_GOV_EN 1
def fz := er l1 fun e => { e with bad := [{ table := 7, index := 9, copy0 := true, copy1 := true },{ table := 7, index := 4, copy0 := true, copy1 := true }] }

/-- The hypotheses of each clause of `Obligations.PoolsLedgerAndWeir` are met. -/
theorem witness_PoolsLedgerAndWeir :
    ((s2.sw.ledgerQ = [] ∨ s2.poolFree .ledger = 0)) ∧
    ((match fz.sw.ledgerQ with
      | r :: rest => decide (fz.poolFree .ledger ≠ 0 ∧ fz.faulted 7 r.ring = true)
      | _ => false) = true) ∧
    ((match l1.sw.ledgerQ with
      | r :: rest => decide (l1.poolFree .ledger ≠ 0 ∧ l1.faulted 7 r.ring = false ∧ l1.ringOn r.ring = true)
      | _ => false) = true) ∧
    ((match l2.sw.ledgerQ with
      | r :: rest => decide (l2.poolFree .ledger ≠ 0 ∧ l2.faulted 7 r.ring = false ∧ l2.ringOn r.ring = false)
      | _ => false) = true) ∧
    (0 < 256 ∧ (0 ∉ s2.sw.ledgerDue ∨ s2.poolFree .ledger = 0)) ∧
    (4 < 256 ∧ 4 ∈ fz.sw.ledgerDue ∧ fz.poolFree .ledger ≠ 0 ∧ fz.faulted 7 4 = true) ∧
    (4 < 256 ∧ 4 ∈ l1.sw.ledgerDue ∧ l1.poolFree .ledger ≠ 0 ∧ l1.faulted 7 4 = false) ∧
    (s2.alive = true ∧ ((s2.flag R.BUF_WEIR_GOV_EN && decide (storeGet 0 s2.govAt 0 + 125000 ≤ s2.now))) = false) ∧
    (w1.alive = true ∧ ((w1.flag R.BUF_WEIR_GOV_EN && decide (storeGet 0 w1.govAt 0 + 125000 ≤ w1.now))) = true) := by
  refine ⟨?_, ?_, ?_, ?_, ?_, ?_, ?_, ?_, ?_⟩ <;> decide +kernel

end PoolsLedgerAndWeir

namespace PortsDownAndUp
def up (s : State) (p part : Nat) (role : Nat := 1) (ps : PortSt := { up := true }) : State := { ((((s.fset (R.PEP_PORT_CTL_ROLE p) role).fset (R.PEP_PORT_CTL_PART p) part).fset (R.PEP_PORT_STS_PRESENT p) 1).fset (R.PEP_PORT_STS_DL_ACTIVE p) 1).fset (R.PEP_LINK_CTL_DISABLE p) 0 with sw := { s.sw with ports := storePut {} p ps s.sw.ports } }
def s0 := at_ (md mFABRIC) 3000000000
def s1 := up s0 5 3
def s2 := win (up s1 7 3 2 { up := true, epoch := 15 }) 2 0x10000000 20 5
def fr (i : Nat) (t : Tlp) : Frame := { id := i, tlp := t, ingress := 7, part := some 3, lookedUp := true, window := 2, live := i == 9 }
def cp (i f e : Nat) : Copy := { id := i, frame := f, egress := e, queue := 0, addr := 0x20001000, dest := e }
def fl (s : State) := sw s fun x => { x with nextId := 60, ports := storePut {} 5 { up := true, epoch := 1, flushing := true, downs := 14 } x.ports, frames := [fr 9 mw, fr 10 (mr 4), fr 11 { mw with kind := .completion }], copies := [cp 50 9 5, cp 51 10 5, cp 52 11 5] }
def p1 := fl ((s2.setTbl 0x120 0 2 (BitVec.ofNat 256 (1 + 20 * 16 + 0x10000000 + 0x20000000 * 2^64 + 2^131 + 2^163 + 2^195 + 5 * 2^224 + 2^243 + 9 * 2^244))))
def p4 := sw p1 fun x => { x with copies := [{ cp 50 9 7 with sending := true, egress := 7 , portEpoch := 15}] }
def p5 := sw s1 fun x => { x with ports := storePut {} 7 { epoch := 3 } x.ports }
def p6 := ((p5.fset (R.PEP_PORT_CTL_ROLE 7) 2).fset (R.PEP_PORT_STS_PRESENT 7) 1).fset (R.PEP_LINK_CTL_DISABLE 7) 0
def p7 := ls p6 2 lsUP id
def p10 := sw s2 fun x => { x with copies := [{ cp 3 9 7 with sending := true, ct := true, contain := true }, { cp 4 10 5 with sending := true, ct := true, contain := true }], frames := [{ fr 9 mw with ingress := 5, whole := false }, { fr 10 mw with ingress := 7, whole := false }] }
def p12 := sw p7 fun x => { x with copies := [{ cp 50 9 66 with sending := true }], ports := storePut {} 66 { up := true } x.ports }

/-- The hypotheses of each clause of `Obligations.PortsDownAndUp` are met. -/
theorem witness_PortsDownAndUp :
    (5 < 64 ∧ (p10.port 5).up = true) ∧
    (64 ≤ 66 ∧ 66 < 72 ∧ p10.linkState (66 - 64) = lsDISABLED) ∧
    (64 ≤ 66 ∧ 66 < 72 ∧ p12.linkState (66 - 64) ≠ lsDISABLED) ∧
    (7 < 64 ∧ p12.mayTrain 7 = true ∧ (p12.port 7).up = false) ∧
    (64 ≤ 66 ∧ 66 < 72 ∧ p7.linkLive (66 - 64) = true ∧ (p7.port 66).up = false) ∧
    (p1.alive = true ∧ (match p1.flushLeft 5 with
      | c :: rest => decide (5 < 72 ∧ p1.sw.ledgerQ.length < 1024 ∧ (p1.frame? c.frame).isSome = true)
      | _ => false) = true) ∧
    (p1.alive = true ∧ 5 < 89 ∧ 0 < 16 ∧
      ((p1.headOf 5 0).any (fun c => decide ((p1.frame? c.frame).any (fun f => decide (f.born + p1.fget R.BUF_AGE_LIMIT_LIMIT * 1250 < p1.now)) = true)) = true)) ∧
    (p4.alive = true ∧ 5 < 72 ∧ (p4.port 5).flushing = true ∧ p4.flushLeft 5 = []) := by
  refine ⟨?_, ?_, ?_, ?_, ?_, ?_, ?_, ?_⟩ <;> decide +kernel

end PortsDownAndUp

namespace Transmission
def up (s : State) (p part : Nat) (role : Nat := 1) (ps : PortSt := { up := true }) : State := { ((((s.fset (R.PEP_PORT_CTL_ROLE p) role).fset (R.PEP_PORT_CTL_PART p) part).fset (R.PEP_PORT_STS_PRESENT p) 1).fset (R.PEP_PORT_STS_DL_ACTIVE p) 1).fset (R.PEP_LINK_CTL_DISABLE p) 0 with sw := { s.sw with ports := storePut {} p ps s.sw.ports } }
def s0 := at_ (md mFABRIC) 3000000000
def s1 := up s0 5 3
def s2 := win (up s1 7 3 2 { up := true, epoch := 15 }) 2 0x10000000 20 5
def fr (i : Nat) (t : Tlp) : Frame := { id := i, tlp := t, ingress := 7, part := some 3, lookedUp := true, window := 2, live := i == 9, born := 2999999999 }
def cp (i f e : Nat) : Copy := { id := i, frame := f, egress := e, queue := 0, addr := 0x20001000, dest := e }
def ct (s : State) (snd wh : Bool) (e : Nat := 7) : State := sw s fun x => { x with nextId := 60, frames := [{ fr 9 mw with whole := wh, ingress := 5 }], copies := [{ cp 50 9 e with ct := true, sending := snd, egress := e , portEpoch := 15, queue := 0 }, cp 51 9 e] }
def q1 := ct s2 false true
def q2 := ct s2 true true
def q3 := ct s2 true false
def q4 := sw q1 fun x => { x with copies := [{ cp 50 9 7 with resend := true, portEpoch := 15 }] }
def q5 := ct (sw (ls (s2.setReg (R.MFL_SEQ_STS 2) 0x00000FFF#32) 2 lsUP id) fun x => { x with ports := storePut {} 66 { up := true } x.ports }) true true 66
def q6 := sw q1 fun x => { x with copies := [{ cp 50 9 7 with queue := 13, portEpoch := 15 },{ cp 51 9 7 with queue := 15, portEpoch := 15 }] }
def q3c := sw q3 fun x => { x with copies := x.copies.map fun c => { c with contain := true } }
def q7 := sw (ls q5 2 lsUP fun l => { l with win := 512 }) fun x => { x with copies := [{ cp 50 9 66 with portEpoch := 0 }] }
def z (s : State) : State := s.fset R.ERR_ESC_PORT_THR 0
def q2n := sw q2 fun x => { x with copies := x.copies.map fun c => { c with ct := false } }

/-- The hypotheses of each clause of `Obligations.Transmission` are met. -/
theorem witness_Transmission :
    (5 < 89 ∧
      (((if (q2n.agedHead fun c => c.egress == 5).isNone then q2n else (State.ageOut (fun c => c.egress == 5) (q2n.sw.copies.length + 1) q2n).updateXoff)).egressOpen 5 = false ∨
      (((if (q2n.agedHead fun c => c.egress == 5).isNone then q2n else (State.ageOut (fun c => c.egress == 5) (q2n.sw.copies.length + 1) q2n).updateXoff)).sendingAt 5).isSome = true ∨
      ((if (q2n.agedHead fun c => c.egress == 5).isNone then q2n else (State.ageOut (fun c => c.egress == 5) (q2n.sw.copies.length + 1) q2n).updateXoff)).selectNext 5 5 = none)) ∧
    (66 < 89 ∧
      (((if (q7.agedHead fun c => c.egress == 66).isNone then q7 else (State.ageOut (fun c => c.egress == 66) (q7.sw.copies.length + 1) q7).updateXoff)).egressOpen 66 = true) ∧
      (((if (q7.agedHead fun c => c.egress == 66).isNone then q7 else (State.ageOut (fun c => c.egress == 66) (q7.sw.copies.length + 1) q7).updateXoff)).sendingAt 66 = none) ∧
      ((((if (q7.agedHead fun c => c.egress == 66).isNone then q7 else (State.ageOut (fun c => c.egress == 66) (q7.sw.copies.length + 1) q7).updateXoff)).selectNext 66 5).isSome = true)) ∧
    (66 < 89 ∧
      (((if (q7.agedHead fun c => c.egress == 66).isNone then q7 else (State.ageOut (fun c => c.egress == 66) (q7.sw.copies.length + 1) q7).updateXoff)).egressOpen 66 = true) ∧
      (((if (q7.agedHead fun c => c.egress == 66).isNone then q7 else (State.ageOut (fun c => c.egress == 66) (q7.sw.copies.length + 1) q7).updateXoff)).sendingAt 66 = none) ∧
      ((((if (q7.agedHead fun c => c.egress == 66).isNone then q7 else (State.ageOut (fun c => c.egress == 66) (q7.sw.copies.length + 1) q7).updateXoff)).selectNext 66 5).any (fun (c, f, p) => decide (7 ≠ spQUEUE)) = true)) ∧
    (66 < 89 ∧
      (((if (q7.agedHead fun c => c.egress == 66).isNone then q7 else (State.ageOut (fun c => c.egress == 66) (q7.sw.copies.length + 1) q7).updateXoff)).egressOpen 66 = true) ∧
      (((if (q7.agedHead fun c => c.egress == 66).isNone then q7 else (State.ageOut (fun c => c.egress == 66) (q7.sw.copies.length + 1) q7).updateXoff)).sendingAt 66 = none) ∧
      ((((if (q7.agedHead fun c => c.egress == 66).isNone then q7 else (State.ageOut (fun c => c.egress == 66) (q7.sw.copies.length + 1) q7).updateXoff)).selectNext 66 5).any (fun (c, f, p) => decide (((if (q7.agedHead fun c => c.egress == 66).isNone then q7 else (State.ageOut (fun c => c.egress == 66) (q7.sw.copies.length + 1) q7).updateXoff)).err.inject = none ∧
      ((if (q7.agedHead fun c => c.egress == 66).isNone then q7 else (State.ageOut (fun c => c.egress == 66) (q7.sw.copies.length + 1) q7).updateXoff)).frame? c.frame = some f)) = true)) ∧
    (7 < 89 ∧
      (((if ((z q1).agedHead fun c => c.egress == 7).isNone then (z q1) else (State.ageOut (fun c => c.egress == 7) ((z q1).sw.copies.length + 1) (z q1)).updateXoff)).egressOpen 7 = true) ∧
      (((if ((z q1).agedHead fun c => c.egress == 7).isNone then (z q1) else (State.ageOut (fun c => c.egress == 7) ((z q1).sw.copies.length + 1) (z q1)).updateXoff)).sendingAt 7 = none) ∧
      ((((if ((z q1).agedHead fun c => c.egress == 7).isNone then (z q1) else (State.ageOut (fun c => c.egress == 7) ((z q1).sw.copies.length + 1) (z q1)).updateXoff)).selectNext 7 5).any (fun (c, f, p) => decide (((if ((z q1).agedHead fun c => c.egress == 7).isNone then (z q1) else (State.ageOut (fun c => c.egress == 7) ((z q1).sw.copies.length + 1) (z q1)).updateXoff)).err.inject = none ∧
      ((if ((z q1).agedHead fun c => c.egress == 7).isNone then (z q1) else (State.ageOut (fun c => c.egress == 7) ((z q1).sw.copies.length + 1) (z q1)).updateXoff)).frame? c.frame = some f ∧
      ((if ((z q1).agedHead fun c => c.egress == 7).isNone then (z q1) else (State.ageOut (fun c => c.egress == 7) ((z q1).sw.copies.length + 1) (z q1)).updateXoff)).fget R.ERR_ESC_PORT_THR = 0 ∧
      ((if ((z q1).agedHead fun c => c.egress == 7).isNone then (z q1) else (State.ageOut (fun c => c.egress == 7) ((z q1).sw.copies.length + 1) (z q1)).updateXoff)).alive = true)) = true)) ∧
    (7 < 89 ∧ ((q2n.sendingAt 7).any (fun c => decide ((q2n.frame? c.frame).isSome = true)) = true)) ∧
    (7 < 89 ∧
      ((q2n.sendingAt 7).any (fun c => decide ((q2n.frame? c.frame).any (fun f => decide (((none : Option (Nat × Nat))) = none)) = true)) = true)) ∧
    (5 < 89 ∧ q2n.sendingAt 5 = none) ∧
    (7 < 88 ∧ q2n.alive = true ∧
      ((q2n.sendingAt 7).any (fun c => decide (((q2n.frame? c.frame).any (fun f => decide (((c.ct = false ∨
      f.whole = true)))) = true))) = true)) ∧
    (7 < 88 ∧ q3c.alive = true ∧
      ((q3c.sendingAt 7).any (fun c => decide ((q3c.frame? c.frame).any (fun f => decide (c.ct = true ∧
      f.whole = false)) = true)) = true)) ∧
    (7 < 88 ∧ q2n.alive = true ∧
      ((q2n.sendingAt 7).any (fun c => decide ((q2n.frame? c.frame).any (fun f => decide (c.ct = false)) = true)) = true)) ∧
    (7 < 88 ∧ (z q3).alive = true ∧
      (((z q3).sendingAt 7).any (fun c => decide (((z q3).frame? c.frame).any (fun f => decide (c.ct = true ∧
      (z q3).fget R.ERR_ESC_PORT_THR = 0)) = true)) = true)) ∧
    (7 < 88 ∧ q2.alive = true ∧
      ((q2.sendingAt 7).any (fun c => decide ((q2.frame? c.frame).any (fun f => decide (c.ct = true ∧
      f.whole = true)) = true)) = true)) ∧
    (7 < 88 ∧ q3c.alive = true ∧
      ((q3c.sendingAt 7).any (fun c => decide ((q3c.frame? c.frame).any (fun f => decide (c.ct = true ∧
      f.whole = false)) = true)) = true)) ∧
    (5 < 88 ∧ q2n.alive = true ∧ q2n.sendingAt 5 = none) ∧
    (7 < 88 ∧ q4.alive = true ∧
      (((q4.sw.copies.find? fun x => x.egress == 7 && x.resend && !x.sending && !x.unacked)).isSome = true)) ∧
    (5 < 88 ∧ q2n.alive = true ∧
      ((q2n.sw.copies.find? fun x => x.egress == 5 && x.resend && !x.sending && !x.unacked) = none)) := by
  refine ⟨?_, ?_, ?_, ?_, ?_, ?_, ?_, ?_, ?_, ?_, ?_, ?_, ?_, ?_, ?_, ?_, ?_⟩ <;> decide +kernel

/-- A port that selects a copy, for `Obligations.SelectedCopyIsReadyHead`: of a queue below 12, and of one above. -/
theorem witness_SelectedCopyIsReadyHead :
    ((q1.selectNext 7 0xFFFF).any fun x => decide (x.1.queue < 12)) = true ∧
      ((q6.selectNext 7 0xFFFF).any fun x => decide (12 ≤ x.1.queue)) = true := by decide +kernel

end Transmission

namespace Admission
def up (s : State) (p part : Nat) (role : Nat := 1) (ps : PortSt := { up := true }) : State := { ((((s.fset (R.PEP_PORT_CTL_ROLE p) role).fset (R.PEP_PORT_CTL_PART p) part).fset (R.PEP_PORT_STS_PRESENT p) 1).fset (R.PEP_PORT_STS_DL_ACTIVE p) 1).fset (R.PEP_LINK_CTL_DISABLE p) 0 with sw := { s.sw with ports := storePut {} p ps s.sw.ports } }
def s0 := at_ (md mFABRIC) 3000000000
def s1 := up s0 5 3
def s2 := win (up s1 7 3 2 { up := true, epoch := 15 }) 2 0x10000000 20 5
def fr (i : Nat) (t : Tlp) : Frame := { id := i, tlp := t, ingress := 7, part := some 3, lookedUp := true }
def cp (f e : Nat) : Copy := { id := 50, frame := f, egress := e, queue := 1, addr := 0x20001000, dest := e }
def s3 := sw s2 fun x => { x with nextId := 60, waiting := [{ frame := fr 9 (mr 4), need := .reservation, copies := [] }] }
def s4 := sw s2 fun x => { x with nextId := 60, waiting := [{ frame := { fr 9 (mr 4) with record := some 3, ingress := 7 }, need := .proxyTag, copies := [cp 9 5] }], tags := [{ id := 3, reqId := 0x123, tag := 3, ingress := 7, epoch := 15 }] }
def s5 := sw s2 fun x => { x with nextId := 60, waiting := [{ frame := { fr 9 (mr 4) with ingress := 88, pool := .management, origin := .device }, need := .originatedTag, copies := [cp 9 5] }] }
def s6 := sw s2 fun x => { x with nextId := 60, waiting := [{ frame := { fr 9 mw with ingress := 88, pool := .management, origin := .device }, need := .pool, copies := [cp 9 5] }] }
def s8 := sw s2 fun x => { x with nextId := 60, waiting := [{ frame := { fr 9 mw with ingress := 7, pool := .management, origin := .device }, need := .reservation, copies := [cp 9 5] }] }
def s9 := sw s2 fun x => { x with nextId := 60, waiting := [{ frame := { fr 9 (mr 4) with ingress := 7 }, need := .reservation, copies := [cp 9 5] }, { frame := fr 10 mw, need := .reservation, copies := [] }] }
def b0 (s : State) : State := (((((s.setCfg (Fn.up 3).num cBuses 0x00080400#32).setCfg (Fn.up 3).num cCommand 6).setCfg (Fn.mgmt 3).num cCommand 6).setCfg (Fn.mgmt 3).num 0x10 0x30000000#32).setCfg (Fn.mgmt 3).num 0x14 0#32)
def w0 : Tlp := { mw with addr := 0x30000100 }
def r0 : Tlp := { mr 4 with addr := 0x30000100 }
def s10 := sw (b0 s2) fun x => { x with nextId := 60, waiting := [{ frame := { fr 9 r0 with ingress := 5 }, need := .reservation, copies := [] }] }
def s3n := sw s3 fun x => { x with tags := [{ id := 77, reqId := 9, tag := 9, ingress := 7, reserved := 2000000 }] }

/-- The hypotheses of each clause of `Obligations.Admission` are met. -/
theorem witness_Admission :
    (7 < 64 ∧ s3n.alive = true ∧ (s3n.port 7).up = true ∧ ((mw : Tlp)).crosses = false ∧ ((mw : Tlp)).poison = false ∧
      ((mw : Tlp)).isCpl = false ∧ (match s3n.entry 7 ((mw : Tlp)) true with
      | (l, u) => decide (((mw : Tlp)).posted = true ∧ u.keepsTurn l = false ∧
        ((u.arrive l false).updateXoff).undef = none)) = true) ∧
    (5 < 64 ∧ s10.alive = true ∧ (s10.port 5).up = true ∧ ((w0 : Tlp)).crosses = false ∧ ((w0 : Tlp)).poison = false ∧
      ((w0 : Tlp)).isCpl = false ∧ (match s10.entry 5 ((w0 : Tlp)) true with
      | (l, u) => decide (((w0 : Tlp)).posted = true ∧ u.keepsTurn l = true ∧ s10.undef = none)) = true) ∧
    (5 < 64 ∧ s1.alive = true ∧ (s1.port 5).up = true ∧ ((mr 4 : Tlp)).crosses = false ∧ ((mr 4 : Tlp)).poison = false ∧
      ((mr 4 : Tlp)).isCpl = false ∧ (match s1.entry 5 ((mr 4 : Tlp)) true with
      | (l, u) => decide (((mr 4 : Tlp)).nonPosted = true ∧ u.reserveQueue 5 = false ∧
        ((mr 4 : Tlp)).reserve ≤ u.poolFree .completion)) = true) ∧
    (7 < 64 ∧ s3n.alive = true ∧ (s3n.port 7).up = true ∧ ((mr 4 : Tlp)).crosses = false ∧ ((mr 4 : Tlp)).poison = false ∧
      ((mr 4 : Tlp)).isCpl = false ∧ ((match s3n.entry 7 ((mr 4 : Tlp)) true with
      | (l, u) => decide (((mr 4 : Tlp)).nonPosted = true ∧ ((u.reserveQueue 7 = true ∨
        u.poolFree .completion < ((mr 4 : Tlp)).reserve)) ∧ s3n.undef = none)) = true)) ∧
    (5 < 89 ∧ ((s3n.firstWait fun w => w.need == .reservation && w.frame.ingress == 5) = none)) ∧
    (7 < 89 ∧
      (((s3n.firstWait fun w => w.need == .reservation && w.frame.ingress == 7)).any (fun w => decide (s3n.poolFree .completion < w.frame.tlp.reserve)) = true)) ∧
    (7 < 89 ∧
      (((s3.firstWait fun w => w.need == .reservation && w.frame.ingress == 7)).any (fun w => decide (((s3.unwait w).reserveFor w.frame).any (fun (f, u) => decide (w.frame.tlp.reserve ≤ s3.poolFree .completion ∧
      w.copies = [] ∧
      ((State.freeTurns u.sw.waiting.length 7 (u.arrive f false)).updateXoff).undef = none)) = true)) = true)) ∧
    (7 < 89 ∧
      (((s9.firstWait fun w => w.need == .reservation && w.frame.ingress == 7)).any (fun w => decide (((s9.unwait w).reserveFor w.frame).any (fun (f, u) => decide (w.frame.tlp.reserve ≤ s9.poolFree .completion ∧
      (match w.copies with
      | c :: cs => decide (w.frame.origin ≠ .device ∧ ((u.fabricPass f c.dstFid c.dest).updateXoff).undef = none)
      | _ => false) = true)) = true)) = true)) ∧
    (7 < 89 ∧
      (((s8.firstWait fun w => w.need == .reservation && w.frame.ingress == 7)).any (fun w => decide ((match w.copies with
      | c :: cs => decide (w.frame.origin = .device ∧ w.frame.tlp.reserve ≤ s8.poolFree .completion)
      | _ => false) = true)) = true)) ∧
    (5 < 72 ∧ s4.shut 5 = false ∧
      (((s4.firstWait fun w => w.need == .proxyTag && w.copies.any fun c => c.egress == 5)).any (fun w => decide (w.frame.pool ≠ .management ∧
      ((match w.copies with
      | c :: cs => decide (c.egress = 5 ∧ c.frame = w.frame.id ∧ w.frame.live = false ∧ (1 < 2 ^ s4.tagBits 5 ∧
        (1 ∉ s4.usedTags (c.newReqId.getD w.frame.tlp.reqId))))
      | _ => false) = true))) = true)) ∧
    (5 < 72 ∧ s5.shut 5 = false ∧
      (((s5.firstWait fun w => w.need == .originatedTag && w.copies.any fun c => c.egress == 5)).any (fun w => decide (((match w.copies with
      | c :: cs => decide (c.egress = 5 ∧ c.frame = w.frame.id ∧ w.frame.live = false ∧
        (s5.ownerOf c.dstFid c.dest).all (fun o => decide (w.frame.part = some o)) = true ∧
        behindOf (s5.sw.waiting.takeWhile fun x => x.frame.id != w.frame.id) w.frame c = false ∧ (1 < 2 ^ s5.tagBits 5 ∧
        (1 ∉ s5.usedTags w.frame.tlp.reqId)))
      | _ => false) = true))) = true)) ∧
    ((match s6.sw.waiting with
      | w :: rest => decide (w.need = .pool ∧ w.frame.tlp.cells ≤ s6.poolFree w.frame.pool ∧ (match w.copies with
      | c :: cs => decide (c.frame = w.frame.id ∧ c.newTag = none ∧ w.frame.tlp.posted = true ∧ w.frame.live = false ∧
        s6.shut c.egress = false)
      | _ => false) = true)
      | _ => false) = true) := by
  refine ⟨?_, ?_, ?_, ?_, ?_, ?_, ?_, ?_, ?_, ?_, ?_, ?_⟩ <;> decide +kernel

end Admission

namespace PostedWriteIsForwarded
def up (s : State) (p part : Nat) (role : Nat := 1) (ps : PortSt := { up := true }) : State := { ((((s.fset (R.PEP_PORT_CTL_ROLE p) role).fset (R.PEP_PORT_CTL_PART p) part).fset (R.PEP_PORT_STS_PRESENT p) 1).fset (R.PEP_PORT_STS_DL_ACTIVE p) 1).fset (R.PEP_LINK_CTL_DISABLE p) 0 with sw := { s.sw with ports := storePut {} p ps s.sw.ports } }
def s0 := at_ (md mFABRIC) 3000000000
def s1 := up s0 5 3
def s2 := win (up s1 7 3 2 { up := true, epoch := 15 }) 2 0x10000000 20 5

/-- The hypotheses of each clause of `Obligations.PostedWriteIsForwarded` are met. -/
theorem witness_PostedWriteIsForwarded :
    5 < 64 ∧ s2.alive = true ∧ s2.undef = none ∧ (s2.port 5).up = true ∧ ((mw : Tlp)).kind = .memWrite ∧
    ((mw : Tlp)).crosses = false ∧ ((mw : Tlp)).poison = false ∧ ((mw : Tlp)).ide = none ∧ ((mw : Tlp)).locked = false ∧
    (match s2.entry 5 ((mw : Tlp)) true with
      | (l, u) => decide (u.modeRefuse ({ l with ruleEpoch := u.stampEpoch, older := u.sweptNow }) = none ∧
        u.carries 5 = true ∧ u.acsCause ({ l with ruleEpoch := u.stampEpoch, older := u.sweptNow }) = none ∧
        u.bridgeShut ({ l with ruleEpoch := u.stampEpoch, older := u.sweptNow }) = false ∧ u.keepsTurn l = false ∧
        (match u.lookup l.part 5 ((mw : Tlp)) l.stamp l.era with
      | .go (some w) (.port fid p) => decide (fid = s2.selfFid ∧ w.live = false ∧ p < 64 ∧ u.shut p = false ∧
        u.asleep l p = false)
      | _ => false) = true)) = true := by
  decide +kernel

end PostedWriteIsForwarded

namespace CompletionReturnsToItsRequester
def up (s : State) (p part : Nat) (role : Nat := 1) (ps : PortSt := { up := true }) : State := { ((((s.fset (R.PEP_PORT_CTL_ROLE p) role).fset (R.PEP_PORT_CTL_PART p) part).fset (R.PEP_PORT_STS_PRESENT p) 1).fset (R.PEP_PORT_STS_DL_ACTIVE p) 1).fset (R.PEP_LINK_CTL_DISABLE p) 0 with sw := { s.sw with ports := storePut {} p ps s.sw.ports } }
def s0 := at_ (md mFABRIC) 3000000000
def s1 := up s0 5 3
def s2 := win (up s1 7 3 2 { up := true, epoch := 15 }) 2 0x10000000 20 5
def cm : Tlp := { kind := .completion, reqId := 0x300, tag := 9, len := 4, data := [1,2,3,4], last := true }
def tr : TagRec := { id := 3, reqId := 0x123, tag := 3, ingress := 7, epoch := 15, part := some 3, proxy := some (0x300, 9, 3), reserved := 2 }
def s3 := sw s2 fun x => { x with nextId := 60, tags := [tr] }

/-- The hypotheses of each clause of `Obligations.CompletionReturnsToItsRequester` are met. -/
theorem witness_CompletionReturnsToItsRequester :
    (7 < 64 ∧ s3.alive = true ∧ (s3.port 7).up = true ∧ ((cm : Tlp)).isCpl = true ∧ ((cm : Tlp)).poison = false ∧
      ((match s3.entry 7 ((cm : Tlp)) true with
      | (l, u) => decide ((u.proxyOf l).any (fun r => decide (s3.isolating = false ∧ s3.staleTag r = false ∧
        r.ingress < 64 ∧ s3.shut r.ingress = false ∧ s3.carries r.ingress = true)) = true)) = true)) ∧
    (7 < 64 ∧ s3.alive = true ∧ (s3.port 7).up = true ∧ ((cm : Tlp)).isCpl = true ∧ ((cm : Tlp)).poison = false ∧
      ((match s3.entry 7 ((cm : Tlp)) true with
      | (l, u) => decide ((u.proxyOf l).any (fun r => decide (s3.isolating = false)) = true)) = true)) := by
  refine ⟨?_, ?_⟩ <;> decide +kernel

end CompletionReturnsToItsRequester

namespace ConfigurationAndTags
def up (s : State) (p part : Nat) (role : Nat := 1) (ps : PortSt := { up := true }) : State := { ((((s.fset (R.PEP_PORT_CTL_ROLE p) role).fset (R.PEP_PORT_CTL_PART p) part).fset (R.PEP_PORT_STS_PRESENT p) 1).fset (R.PEP_PORT_STS_DL_ACTIVE p) 1).fset (R.PEP_LINK_CTL_DISABLE p) 0 with sw := { s.sw with ports := storePut {} p ps s.sw.ports } }
def s0 := at_ (md mFABRIC) 3000000000
def s1 := up s0 5 3
def s2 := win (up s1 7 3 2 { up := true, epoch := 15 }) 2 0x10000000 20 5
def cr (dv off : Nat) : Tlp := { kind := .cfgRead, type0 := true, devfn := BitVec.ofNat 8 dv, addr := BitVec.ofNat 64 off, len := 4, reqId := 0x123, tag := 9, byteEn := 15 }
def cw (dv off v : Nat) : Tlp := { cr dv off with kind := .cfgWrite, data := leBytes 4 v }
def cb (off v : Nat) : Tlp := { cw 249 off v with type0 := false, bus := 4 }
def tr : TagRec := { id := 3, reqId := 0x123, tag := 3, ingress := 7, epoch := 15, part := some 3 }
def s3 := (s2.setCfg (Fn.up 3).num cBuses 0x00080400#32).setCfg (Fn.up 3).num cCommand 6
def s4 := sw s3 fun x => { x with nextId := 60, tags := [tr] }
def b4 (s : State) : State := ((s.setCfg (Fn.mgmt 3).num cCommand 6).setCfg (Fn.mgmt 3).num 0x20 0x40000000#32).setCfg (Fn.mgmt 3).num 0x24 0#32
def s5 := ls ((b4 s3).setTbl 0x122 0 6 (BitVec.ofNat 256 4)) 2 lsUP id
def m4 (k : TlpKind) (fid off : Nat) : Tlp := { kind := k, addr := BitVec.ofNat 64 (0x40000000 + fid * 2^24 + off), len := 4, data := if k = .memWrite then [1,2,3,4] else [] , tag := 5, reqId := 0x123}

/-- The hypotheses of each clause of `Obligations.ConfigurationAndTags` are met. -/
theorem witness_ConfigurationAndTags :
    (5 < 64 ∧ s2.alive = true ∧ (s2.port 5).up = true ∧ s2.shut 5 = false ∧
      (∀ r ∈ s2.sw.tags, r.id = s2.sw.nextId → s2.staleTag r = false) ∧ s2.role 5 = 1 ∧ s2.mode ≠ mSAFE ∧
      ((cr 0 0x44 : Tlp)).poison = false ∧ ((cr 0 0x44 : Tlp)).ecrc = none ∧
      (match s2.entry 5 ((cr 0 0x44 : Tlp)) true with
      | (l, u) => decide (u.reserveQueue 5 = false ∧ 1 ≤ u.poolFree .completion ∧
        (match s2.cfgTarget (s2.portPart 5) ((cr 0 0x44 : Tlp)) with
      | .fn fn => decide (((cr 0 0x44 : Tlp)).kind = .cfgRead)
      | _ => false) = true)) = true) ∧
    (5 < 64 ∧ s2.alive = true ∧ (s2.port 5).up = true ∧ s2.shut 5 = false ∧ s2.sw.tags = [] ∧ s2.role 5 = 1 ∧
      s2.mode ≠ mSAFE ∧ ((cw 1 0x10 5 : Tlp)).poison = false ∧ ((cw 1 0x10 5 : Tlp)).ecrc = none ∧
      ((match s2.entry 5 ((cw 1 0x10 5 : Tlp)) true with
      | (l, u) => decide (u.reserveQueue 5 = false ∧ 1 ≤ u.poolFree .completion ∧
        ((match s2.cfgTarget (s2.portPart 5) ((cw 1 0x10 5 : Tlp)) with
      | .fn fn => decide (((cw 1 0x10 5 : Tlp)).kind = .cfgWrite ∧ s2.mode ≠ mLIMP ∧ ((fn = .up (s2.portPart 5) ∨
        fn = .mgmt (s2.portPart 5) ∨ fn = .engBridge (s2.portPart 5))) ∧
        (((cw 1 0x10 5 : Tlp)).addr.toNat % 4096 / 4 * 4) ≠ cBridgeCtl ∧
        cfgMediated (cfgMask fn (((cw 1 0x10 5 : Tlp)).addr.toNat % 4096 / 4 * 4)) (s2.cfg fn.num (((cw 1 0x10 5 : Tlp)).addr.toNat % 4096 / 4 * 4)).toNat (leNat (((cw 1 0x10 5 : Tlp)).data.take 4)) (((cw 1 0x10 5 : Tlp)).byteEn.toNat % 16) = true ∧
        s2.fget R.MGT_UPDATE_STS_RESULT ≠ 1 ∧ s2.fget (R.MGT_MBX_STS_COUNT (s2.portPart 5)) < 64)
      | _ => false) = true))) = true)) ∧
    (5 < 64 ∧ s3.alive = true ∧ (s3.port 5).up = true ∧ s3.shut 5 = false ∧
      (∀ r ∈ s3.sw.tags, r.id = s3.sw.nextId → s3.staleTag r = false) ∧ s3.role 5 = 1 ∧ s3.mode ≠ mSAFE ∧
      ((cb 4 7 : Tlp)).poison = false ∧ ((cb 4 7 : Tlp)).ecrc = none ∧ (match s3.entry 5 ((cb 4 7 : Tlp)) true with
      | (l, u) => decide (u.reserveQueue 5 = false ∧ 1 ≤ u.poolFree .completion ∧
        (match s3.cfgTarget (s3.portPart 5) ((cb 4 7 : Tlp)) with
      | .fn fn => decide (((cb 4 7 : Tlp)).kind = .cfgWrite ∧ fn = .engBridge (s3.portPart 5) ∧
        cfgMediated (cfgMask fn (((cb 4 7 : Tlp)).addr.toNat % 4096 / 4 * 4)) (s3.cfg fn.num (((cb 4 7 : Tlp)).addr.toNat % 4096 / 4 * 4)).toNat (leNat (((cb 4 7 : Tlp)).data.take 4)) (((cb 4 7 : Tlp)).byteEn.toNat % 16) = false)
      | _ => false) = true)) = true) ∧
    (5 < 64 ∧ s5.alive = true ∧ (s5.port 5).up = true ∧ s5.mode = mFABRIC ∧ s5.fget R.ERR_ISO_STS_STATE = isoNORMAL ∧
      ((m4 .memRead 6 0x100 : Tlp)).crosses = false ∧ ((m4 .memRead 6 0x100 : Tlp)).poison = false ∧
      ((m4 .memRead 6 0x100 : Tlp)).ecrc = none ∧ ((m4 .memRead 6 0x100 : Tlp)).locked = false ∧
      (match s5.entry 5 ((m4 .memRead 6 0x100 : Tlp)) true with
      | (l, u) => decide (u.carries 5 = true ∧ s5.role 5 = 1 ∧ u.d3hot (u.portFn 5) = false ∧
        s5.toSlice 5 ((m4 .memRead 6 0x100 : Tlp)) = true ∧
        (match u.lookup l.part 5 ((m4 .memRead 6 0x100 : Tlp)) l.stamp l.era with
      | .go none (.mgmtBar 4 off) => decide (off / 2 ^ 24 ≠ s5.selfFid ∧ ((m4 .memRead 6 0x100 : Tlp)).kind = .memRead ∧
        u.reserveQueue 5 = false ∧ ((m4 .memRead 6 0x100 : Tlp)).reserve ≤ u.poolFree .completion ∧ off / 2 ^ 24 % 16 = 6)
      | _ => false) = true)) = true) ∧
    (5 < 64 ∧ s5.alive = true ∧ (s5.port 5).up = true ∧ s5.mode = mFABRIC ∧ s5.fget R.ERR_ISO_STS_STATE = isoNORMAL ∧
      ((m4 .memWrite 6 0x100 : Tlp)).crosses = false ∧ ((m4 .memWrite 6 0x100 : Tlp)).poison = false ∧
      ((m4 .memWrite 6 0x100 : Tlp)).ecrc = none ∧ ((m4 .memWrite 6 0x100 : Tlp)).locked = false ∧
      (match s5.entry 5 ((m4 .memWrite 6 0x100 : Tlp)) true with
      | (l, u) => decide (u.carries 5 = true ∧ s5.role 5 = 1 ∧ u.d3hot (u.portFn 5) = false ∧
        s5.toSlice 5 ((m4 .memWrite 6 0x100 : Tlp)) = true ∧
        (match u.lookup l.part 5 ((m4 .memWrite 6 0x100 : Tlp)) l.stamp l.era with
      | .go none (.mgmtBar 4 off) => decide (off / 2 ^ 24 ≠ s5.selfFid ∧ ((m4 .memWrite 6 0x100 : Tlp)).kind = .memWrite ∧
        off / 2 ^ 24 % 16 = 6)
      | _ => false) = true)) = true) ∧
    (5 < 64 ∧ s5.alive = true ∧ (s5.port 5).up = true ∧ s5.mode = mFABRIC ∧ s5.fget R.ERR_ISO_STS_STATE = isoNORMAL ∧
      ((m4 .memWrite 7 0x100 : Tlp)).crosses = false ∧ ((m4 .memWrite 7 0x100 : Tlp)).poison = false ∧
      ((m4 .memWrite 7 0x100 : Tlp)).ecrc = none ∧ ((m4 .memWrite 7 0x100 : Tlp)).locked = false ∧
      (match s5.entry 5 ((m4 .memWrite 7 0x100 : Tlp)) true with
      | (l, u) => decide (u.carries 5 = true ∧ s5.role 5 = 1 ∧ u.d3hot (u.portFn 5) = false ∧
        s5.toSlice 5 ((m4 .memWrite 7 0x100 : Tlp)) = true ∧
        (match u.lookup l.part 5 ((m4 .memWrite 7 0x100 : Tlp)) l.stamp l.era with
      | .go none (.mgmtBar 4 off) => decide (off / 2 ^ 24 ≠ s5.selfFid ∧ ((m4 .memWrite 7 0x100 : Tlp)).kind = .memWrite ∧
        s5.vc4Link (off / 2 ^ 24 % 16) = none)
      | _ => false) = true)) = true) ∧
    ((((s4.sw.tags.find? fun t => t.id == 3)).any (fun r => decide (r.engine = false ∧ r.ended = false ∧
      r.admitted + s4.fget R.MAP_PROXY_CTO_MS * 1250000 ≤ s4.now)) = true)) ∧
    (((((at_ s4 5).sw.tags.find? fun t => t.id == 3)).any (fun r => decide (r.engine = false ∧ r.ended = false ∧
      (at_ s4 5).now < r.admitted + (at_ s4 5).fget R.MAP_PROXY_CTO_MS * 1250000)) = true)) := by
  refine ⟨?_, ?_, ?_, ?_, ?_, ?_, ?_, ?_⟩ <;> decide +kernel

/-- A link to device 6 is up, whichever one is chosen. -/
theorem witness_ConfigurationAndTags_link : (s5.vc4Link 6).isSome = true :=
  vc4Link_isSome s5 6 (by decide +kernel) (by decide +kernel)

end ConfigurationAndTags

namespace FabricPackets
def up (s : State) (p part : Nat) (role : Nat := 1) (ps : PortSt := { up := true }) : State := { ((((s.fset (R.PEP_PORT_CTL_ROLE p) role).fset (R.PEP_PORT_CTL_PART p) part).fset (R.PEP_PORT_STS_PRESENT p) 1).fset (R.PEP_PORT_STS_DL_ACTIVE p) 1).fset (R.PEP_LINK_CTL_DISABLE p) 0 with sw := { s.sw with ports := storePut {} p ps s.sw.ports } }
def s0 := at_ (md mFABRIC) 3000000000
def s1 := up s0 5 3
def s2 := win (up s1 7 3 2 { up := true, epoch := 15 }) 2 0x10000000 20 5
def s3 := (ls ((s2.setTbl 0x122 0 6 (BitVec.ofNat 256 4)).setTbl 0x122 0 1 (BitVec.ofNat 256 4)) 2 lsUP id).setReg (R.MFL_SEQ_STS 2) 0x0FFF0000#32

/-- The hypotheses of each clause of `Obligations.FabricPackets` are met. -/
theorem witness_FabricPackets :
    (2 < 8 ∧ 4095 < 4096 ∧ 7 < 64 ∧ 2 < 16 ∧ s3.alive = true ∧ s3.linkLive 2 = true ∧ s3.undef = none ∧
      ((mw : Tlp)).kind = .memWrite ∧ packetBytes (wireLen ((mw : Tlp))) ≤ maxPacket ∧
      ((furrow mw : W32)) = furrow ((mw : Tlp)) ∧ 4095 = s3.fget ⟨R.MFL_SEQ_STS 2, 27, 16⟩ ∧ s3.mode = mFABRIC ∧
      s3.fget R.ERR_ISO_STS_STATE = isoNORMAL ∧ s3.shut 7 = false) ∧
    (2 < 8 ∧ 2 < 4096 ∧ 2 < 64 ∧ 2 < 16 ∧ s3.alive = true ∧ s3.linkLive 2 = true ∧ s3.undef = none ∧
      ((mw : Tlp)).kind = .memWrite ∧ packetBytes (wireLen ((mw : Tlp))) ≤ maxPacket ∧ ((5 : W32)) ≠ furrow ((mw : Tlp))) ∧
    (2 < 8 ∧ 2 < 4096 ∧ 2 < 64 ∧ 2 < 16 ∧ s3.alive = true ∧ s3.linkLive 2 = true ∧ s3.undef = none ∧
      ((mw : Tlp)).kind = .memWrite ∧ packetBytes (wireLen ((mw : Tlp))) ≤ maxPacket ∧
      (((furrow mw : W32)) ≠ furrow ((mw : Tlp)) ∨ 2 ≠ s3.fget ⟨R.MFL_SEQ_STS 2, 27, 16⟩)) ∧
    (2 < 8 ∧ 2 < 4096 ∧ 2 < 64 ∧ 2 < 16 ∧ s3.alive = true ∧ s3.linkLive 2 = true ∧ s3.undef = none ∧
      ((mw : Tlp)).kind = .memWrite ∧ packetBytes (wireLen ((mw : Tlp))) ≤ maxPacket) ∧
    (2 < 8 ∧ 2 < 16 ∧ 6 < 16 ∧ s3.linkLive 2 = true ∧ 6 ≠ s3.selfFid) ∧
    (2 < 8 ∧ s3.linkLive 2 = true ∧ 0 = s3.selfFid ∧ s3.undef = none ∧ ((s3.rxVc4 2).busRead (.part 3) 4 4).2.undef = none) ∧
    (2 < 8 ∧ 2 < 16 ∧ 0 < 16 ∧ s3.linkLive 2 = true ∧ 0 = s3.selfFid ∧ (match ((.regWrite 3 4 [1,0,0,0] 15 : Vc4)) with
      | .regWrite part addr data be => decide (((s3.rxVc4 2).busWrite (.part (Fin.ofNat 32 part)) addr data).undef = none)
      | _ => false) = true) := by
  refine ⟨?_, ?_, ?_, ?_, ?_, ?_, ?_⟩ <;> decide +kernel

/-- A link to device 6 is up, whichever one is chosen, before and after the read. -/
theorem witness_FabricPackets_link :
    (s3.vc4Link 6).isSome = true ∧ (((s3.rxVc4 2).busRead (.part 3) 4 4).2.vc4Link 6).isSome = true :=
  ⟨vc4Link_isSome s3 6 (by decide +kernel) (by decide +kernel), vc4Link_isSome _ 6 (by decide +kernel) (by decide +kernel)⟩

end FabricPackets

namespace PortConfigurationWrites
def s0 := oct (at_ (md mFABRIC) 3000000000)
def s2 := s0.fset (R.PEP_LINK_CTL_DISABLE 5) 1
def s3 := ((s2.fset (R.PEP_PORT_CTL_ROLE 7) 1).fset (R.PEP_PORT_CTL_PART 7) 3)
def alld (s : State) : State := (upTo 64).foldl (fun s n => s.fset (R.PEP_LINK_CTL_DISABLE n) 1) s
def s4 := { alld s3 with octetAsk := [3, 2] }

/-- The hypotheses of each clause of `Obligations.PortConfigurationWrites` are met. -/
theorem witness_PortConfigurationWrites :
    (0 < 24 ∧ s4.alive = true ∧ ((true && bits ((4 : W32)).toNat 2 0 == 4)) = true ∧ s4.octetMode 0 ≠ 4 ∧
      (0 / 2 * 2 + (1 - 0 % 2)) ∉ s4.octetAsk) ∧
    (0 < 24 ∧ s4.alive = true ∧ (((false && bits ((0x85#32 : W32)).toNat 2 0 == 4)) = false ∨ s4.octetMode 0 = 4 ∨
      (0 / 2 * 2 + (1 - 0 % 2)) ∈ s4.octetAsk) ∧ ((∃ n ∈ ((if s4.octetMode 0 = 4 ∨
      (s4.octetWritten 0 false ((0x85#32 : W32)).toNat).octetMode 0 = 4 then [0 / 2 * 2, 0 / 2 * 2 + 1] else [0])).flatMap s4.octetPorts ++ ((if s4.octetMode 0 = 4 ∨
      (s4.octetWritten 0 false ((0x85#32 : W32)).toNat).octetMode 0 = 4 then [0 / 2 * 2, 0 / 2 * 2 + 1] else [0])).flatMap (s4.octetWritten 0 false ((0x85#32 : W32)).toNat).octetPorts, s4.flag (R.PEP_LINK_CTL_DISABLE n) = false) ∨
      hasTwice (s4.octetWritten 0 false ((0x85#32 : W32)).toNat).formedPorts = true ∨ (false = true ∧
      ((false && bits ((0x85#32 : W32)).toNat 2 0 == 4)) = false ∧ s4.octetMode 0 = 4 ∧
      s4.octetMode (0 / 2 * 2 + (1 - 0 % 2)) = 4))) ∧
    (0 < 24 ∧ s4.alive = true ∧ (((true && bits ((0 : W32)).toNat 2 0 == 4)) = false ∨ s4.octetMode 0 = 4 ∨
      (0 / 2 * 2 + (1 - 0 % 2)) ∈ s4.octetAsk) ∧ (∀ n ∈ ((if s4.octetMode 0 = 4 ∨
      (s4.octetWritten 0 true ((0 : W32)).toNat).octetMode 0 = 4 then [0 / 2 * 2, 0 / 2 * 2 + 1] else [0])).flatMap s4.octetPorts ++ ((if s4.octetMode 0 = 4 ∨
      (s4.octetWritten 0 true ((0 : W32)).toNat).octetMode 0 = 4 then [0 / 2 * 2, 0 / 2 * 2 + 1] else [0])).flatMap (s4.octetWritten 0 true ((0 : W32)).toNat).octetPorts, s4.flag (R.PEP_LINK_CTL_DISABLE n) = true) ∧
      hasTwice (s4.octetWritten 0 true ((0 : W32)).toNat).formedPorts = false ∧ (true = false ∨
      ((true && bits ((0 : W32)).toNat 2 0 == 4)) = true ∨ s4.octetMode 0 ≠ 4 ∨ s4.octetMode (0 / 2 * 2 + (1 - 0 % 2)) ≠ 4)) ∧
    (7 < 64 ∧ s4.alive = true ∧
      (((min (bits ((0x011F0301#32 : W32)).toNat 1 0) 2) == s4.role 7 && (bits ((0x011F0301#32 : W32)).toNat 12 8) == s4.portPart 7 && (nearestOf 23 31 (bits ((0x011F0301#32 : W32)).toNat 20 16)) == s4.fget (R.PEP_PORT_CTL_SLOT 7))) = true) ∧
    (0 < 64 ∧ s0.alive = true ∧
      (((min (bits ((4 : W32)).toNat 1 0) 2) == s0.role 0 && (bits ((4 : W32)).toNat 12 8) == s0.portPart 0 && (nearestOf 23 31 (bits ((4 : W32)).toNat 20 16)) == s0.fget (R.PEP_PORT_CTL_SLOT 0))) = false ∧
      s0.fget (R.PEP_LINK_CTL_DISABLE 0) = 0) ∧
    (0 < 64 ∧ s4.alive = true ∧
      (((min (bits ((0x01000301#32 : W32)).toNat 1 0) 2) == s4.role 0 && (bits ((0x01000301#32 : W32)).toNat 12 8) == s4.portPart 0 && (nearestOf 23 31 (bits ((0x01000301#32 : W32)).toNat 20 16)) == s4.fget (R.PEP_PORT_CTL_SLOT 0))) = false ∧
      s4.fget (R.PEP_LINK_CTL_DISABLE 0) = 1 ∧ (min (bits ((0x01000301#32 : W32)).toNat 1 0) 2) = 1 ∧ (∃ m, m < 64 ∧
      m ≠ 0 ∧ s4.role m = 1 ∧ s4.portPart m = (bits ((0x01000301#32 : W32)).toNat 12 8))) ∧
    (0 < 64 ∧ s4.alive = true ∧
      (((min (bits ((4 : W32)).toNat 1 0) 2) == s4.role 0 && (bits ((4 : W32)).toNat 12 8) == s4.portPart 0 && (nearestOf 23 31 (bits ((4 : W32)).toNat 20 16)) == s4.fget (R.PEP_PORT_CTL_SLOT 0))) = false ∧
      s4.fget (R.PEP_LINK_CTL_DISABLE 0) = 1 ∧
      (∀ m, m < 64 → m ≠ 0 → s4.role m = 1 → (min (bits ((4 : W32)).toNat 1 0) 2) = 1 → s4.portPart m ≠ (bits ((4 : W32)).toNat 12 8))) := by
  refine ⟨?_, ?_, ?_, ?_, ?_, ?_, ?_⟩ <;> decide +kernel

end PortConfigurationWrites

namespace SwitchResets
def up (s : State) (p part : Nat) (role : Nat := 1) (ps : PortSt := { up := true }) : State := { ((((s.fset (R.PEP_PORT_CTL_ROLE p) role).fset (R.PEP_PORT_CTL_PART p) part).fset (R.PEP_PORT_STS_PRESENT p) 1).fset (R.PEP_PORT_STS_DL_ACTIVE p) 1).fset (R.PEP_LINK_CTL_DISABLE p) 0 with sw := { s.sw with ports := storePut {} p ps s.sw.ports } }
def s0 := at_ (md mFABRIC) 3000000000
def s1 := up s0 5 3
def s2 := up s1 7 3 2 { up := true, epoch := 15 }
def s5 := { s2 with sw := { s2.sw with copies := [{ id := 3, frame := 9, egress := 7, queue := 0, sending := true, ct := true, contain := true }, { id := 4, frame := 10, egress := 5, queue := 0, sending := true, ct := true, contain := true }], frames := [{ id := 9, tlp := { kind := .memWrite, len := 4, data := [1,2,3,4] }, ingress := 5, whole := false }, { id := 10, tlp := { kind := .memWrite, len := 4, data := [1,2,3,4] }, ingress := 7, whole := false }] } }

/-- The hypotheses of each clause of `Obligations.SwitchResets` are met. -/
theorem witness_SwitchResets :
    (0 < 64) ∧
    (5 < 64 ∧ (s5.port 5).up = true ∧ (true = true ∨ s5.role 5 = 2)) ∧
    (0 < 64 ∧ s5.role 0 ≠ 2) ∧
    (0 < 64 ∧ s5.role 0 ≠ 2 ∧ s5.role 0 ≠ 1) ∧
    (5 < 64 ∧ s5.role 5 = 1 ∧ s5.upstreamOf (s5.portPart 5) = some 5) := by
  refine ⟨?_, ?_, ?_, ?_, ?_⟩ <;> decide +kernel

end SwitchResets

namespace HotPlugAndPower
def up (s : State) (p part : Nat) (role : Nat := 1) (ps : PortSt := { up := true }) : State := { ((((s.fset (R.PEP_PORT_CTL_ROLE p) role).fset (R.PEP_PORT_CTL_PART p) part).fset (R.PEP_PORT_STS_PRESENT p) 1).fset (R.PEP_PORT_STS_DL_ACTIVE p) 1).fset (R.PEP_LINK_CTL_DISABLE p) 0 with sw := { s.sw with ports := storePut {} p ps s.sw.ports } }
def s0 := at_ (md mFABRIC) 3000000000
def s1 := up s0 5 3
def s2 := up s1 7 3 2 { up := true, epoch := 15 }
def s3 := (s2.fset (R.PEP_PORT_CTL_HOLD_DOWN 5) 1).setCfg (Fn.up 3).num cCommand 6
def s4 := { s3 with sw := { s3.sw with copies := [{ id := 3, frame := 9, egress := 7, queue := 0, sending := true }], frames := [{ id := 9, tlp := { kind := .memWrite, len := 4, data := [1,2,3,4] }, ingress := 5 }] } }
def s5 := s4.setCfg (Fn.down 7).num cDpcSts 1#32 |>.fset (R.PEP_PORT_STS_DPC 7) 1 |>.setCfg (Fn.down 7).num cPtmCtl 1
def s6 := (s3.setCfg (Fn.down 7).num cLinkCtl 2)
def s7 := (((s3.fset (R.PEP_PORT_CTL_SLOT 7) 3).fset (R.SPV_SLOT_STS_PRESENT 3) 1).fset (R.SPV_SLOT_CTL_ON 3) 1).fset (R.SPV_SLOT_STS_STATE 3) slON
def s8 := (s7.setCfg (Fn.down 7).num cSlotCtl 0x400#32).fset (R.SPV_SLOT_STS_STATE 3) slOFF

/-- The hypotheses of each clause of `Obligations.HotPlugAndPower` are met. -/
theorem witness_HotPlugAndPower :
    (0 < 64) ∧
    (0 < 64 ∧ s0.flag (R.PEP_PORT_STS_DL_ACTIVE 0) = false) ∧
    (5 < 64 ∧ s3.flag (R.PEP_PORT_STS_DL_ACTIVE 5) = true) ∧
    (7 < 64 ∧ (s6.port 7).up = true ∧ s6.cfgBits (s6.portFn 7) cLinkCtl 1 1 = 1 ∧
      (∀ c ∈ s6.sw.copies, c.egress = 7 → c.unacked = true)) ∧
    (0 < 64 ∧ ((s0.port 0).up = false ∨ s0.cfgBits (s0.portFn 0) cLinkCtl 1 1 = 0 ∨ ∃ c ∈ s0.sw.copies, c.egress = 0 ∧
      c.unacked = false)) ∧
    (0 < 64 ∧ (s0.role 0 ≠ 2 ∨ (s0.port 0).up = false)) ∧
    (7 < 64 ∧ s5.role 7 = 2 ∧ (s5.port 7).up = true ∧ s5.cfgBits (Fn.down 7).num cPtmCtl 0 0 = 1) ∧
    (7 < 64 ∧ s3.role 7 = 2 ∧ (s3.port 7).up = true ∧ s3.cfgBits (Fn.down 7).num cPtmCtl 0 0 = 0) ∧
    (7 < 64 ∧ (s7.fget (R.PEP_PORT_CTL_SLOT 7)) < 24 ∧ s7.role 7 = 2 ∧ s7.slotted 7 = true ∧
      s7.slotPort (s7.fget (R.PEP_PORT_CTL_SLOT 7)) = some 7 ∧ s7.alive = true ∧ s7.spvDue = [] ∧
      s7.cfgBits (Fn.down 7).num cSlotCtl 10 10 = 0) ∧
    (7 < 64 ∧ (s7.fget (R.PEP_PORT_CTL_SLOT 7)) < 24 ∧ s7.role 7 = 2 ∧ s7.slotted 7 = true ∧
      s7.slotPort (s7.fget (R.PEP_PORT_CTL_SLOT 7)) = some 7 ∧ s7.alive = true ∧ s7.spvDue = [] ∧
      s7.cfgBits (Fn.down 7).num cSlotCtl 10 10 = 0) ∧
    (7 < 64 ∧ ((s8.fset (R.SPV_SLOT_STS_STATE 3) slLATCHED).fget (R.PEP_PORT_CTL_SLOT 7)) < 24 ∧
      (s8.fset (R.SPV_SLOT_STS_STATE 3) slLATCHED).role 7 = 2 ∧
      (s8.fset (R.SPV_SLOT_STS_STATE 3) slLATCHED).slotted 7 = true ∧
      (s8.fset (R.SPV_SLOT_STS_STATE 3) slLATCHED).slotPort ((s8.fset (R.SPV_SLOT_STS_STATE 3) slLATCHED).fget (R.PEP_PORT_CTL_SLOT 7)) = some 7 ∧
      (s8.fset (R.SPV_SLOT_STS_STATE 3) slLATCHED).alive = true ∧
      (s8.fset (R.SPV_SLOT_STS_STATE 3) slLATCHED).spvDue = [] ∧
      (s8.fset (R.SPV_SLOT_STS_STATE 3) slLATCHED).cfgBits (Fn.down 7).num cSlotCtl 10 10 = 1 ∧
      (s8.fset (R.SPV_SLOT_STS_STATE 3) slLATCHED).slotLatched ((s8.fset (R.SPV_SLOT_STS_STATE 3) slLATCHED).fget (R.PEP_PORT_CTL_SLOT 7)) = true) ∧
    (7 < 64 ∧ (s8.fget (R.PEP_PORT_CTL_SLOT 7)) < 24 ∧ s8.role 7 = 2 ∧ s8.slotted 7 = true ∧
      s8.slotPort (s8.fget (R.PEP_PORT_CTL_SLOT 7)) = some 7 ∧ s8.alive = true ∧ s8.spvDue = [] ∧
      s8.cfgBits (Fn.down 7).num cSlotCtl 10 10 = 1 ∧ s8.slotState (s8.fget (R.PEP_PORT_CTL_SLOT 7)) = slOFF ∧
      s8.flag (R.SPV_SLOT_CTL_ON (s8.fget (R.PEP_PORT_CTL_SLOT 7))) = true ∧
      s8.flag (R.SPV_SLOT_STS_PRESENT (s8.fget (R.PEP_PORT_CTL_SLOT 7))) = true) ∧
    (0 < 64 ∧ (s0.slotted 0 = false ∨ s0.role 0 ≠ 2)) ∧
    (0 < 64 ∧ (s0.slotted 0 = false ∨ s0.role 0 ≠ 2)) := by
  refine ⟨?_, ?_, ?_, ?_, ?_, ?_, ?_, ?_, ?_, ?_, ?_, ?_, ?_, ?_⟩ <;> decide +kernel

end HotPlugAndPower

namespace MapUpdatesAndMirrors
def up (s : State) (p part : Nat) (role : Nat := 1) (ps : PortSt := { up := true }) : State := { ((((s.fset (R.PEP_PORT_CTL_ROLE p) role).fset (R.PEP_PORT_CTL_PART p) part).fset (R.PEP_PORT_STS_PRESENT p) 1).fset (R.PEP_PORT_STS_DL_ACTIVE p) 1).fset (R.PEP_LINK_CTL_DISABLE p) 0 with sw := { s.sw with ports := storePut {} p ps s.sw.ports } }
def s0 := at_ (md mFABRIC) 3000000000
def s1 := up s0 5 3
def s2 := up s1 7 3 2 { up := true, epoch := 15 }
def s3 := (s2.fset (R.PEP_PORT_CTL_HOLD_DOWN 5) 1).setCfg (Fn.up 3).num cCommand 6
def s4 := { s3 with sw := { s3.sw with copies := [{ id := 3, frame := 9, egress := 7, queue := 0, sending := true }], frames := [{ id := 9, tlp := { kind := .memWrite, len := 4, data := [1,2,3,4] }, ingress := 5 }] } }
def stg (s : State) (v : Nat) : State := (upTo 8).foldl (fun s k => s.setReg (R.MAP_STAGE k) (BitVec.ofNat 32 (v / 2^(32*k)))) s
def s5 := (win (s4.fset (R.MGT_MBX_STS_COUNT 3) 5 |>.fset (R.MGT_MBX_STS_HEAD 3) 63) 2 0x10000000 20 5).fset R.MAP_COMMIT_STS_RESULT 1
def s6 := stg (s5.fset R.MAP_COMMIT_STS_RESULT 2) (1 + 20*16 + 0x10001000)
def s7 := stg s6 (1 + 20*16 + 0x10000000 + 3 * 2^237 + 5 * 2^224)
def s8 := { s7.fset R.ACL_SWEEP_STS_STATE 1 with sweep := { start := 5, waitNp := true } }
def s9 := { s8 with sw := { s8.sw with copies := [], frames := [] } }
def se (s : State) (a : Nat) : State := (((((((s.fset R.MCM_MIRROR_CELLS_CELLS 512).fset (R.MCM_MODE_PART 3) 3).setReg (R.MCM_RING_BASE_LO 3) (BitVec.ofNat 32 a)).setReg (R.MCM_PIDX_LO 3) 0x10080000).fset (R.MCM_MODE_SLOT_LOG2 3) 9).fset (R.MCM_MODE_RING_LOG2 3) 4).setReg (R.MCM_PROD 3) 0xFFFFFFFF).modSession 3 fun x => { x with writeback := true, captures := [{ header := 5, bytes := [1,2,3] }, { header := 5, bytes := [1,2,3] }] }
def sf (s : State) : State := s.modSession 3 fun x => { x with captures := [{ header := 5, bytes := [1,2,3], cells := 99999 }] }

/-- The hypotheses of each clause of `Obligations.MapUpdatesAndMirrors` are met. -/
theorem witness_MapUpdatesAndMirrors :
    (0 < 32 ∧ (sf (se s9 0x10000000)).fget (R.MGT_MBX_STS_COUNT 0) = 0) ∧
    (3 < 32 ∧ (sf (se s9 0x10000000)).fget (R.MGT_MBX_STS_COUNT 3) ≠ 0) ∧
    (0 < 65536 ∧ s5.alive = true ∧ s5.fget R.MAP_COMMIT_STS_RESULT = 1) ∧
    (0 < 65536 ∧ s5.alive = true ∧ s5.fget R.MAP_COMMIT_STS_RESULT = 1) ∧
    (0 < 65536 ∧ (sf (se s9 0x10000000)).alive = true ∧ (sf (se s9 0x10000000)).fget R.MAP_COMMIT_STS_RESULT ≠ 1) ∧
    (0 < 65536 ∧ s6.alive = true ∧ s6.fget R.MAP_COMMIT_STS_RESULT ≠ 1 ∧ (stageCause s6.staged).isSome = true) ∧
    (0 < 65536 ∧ (sf (se s9 0x10000000)).alive = true ∧ (sf (se s9 0x10000000)).fget R.MAP_COMMIT_STS_RESULT ≠ 1 ∧
      stageCause (sf (se s9 0x10000000)).staged = none) ∧
    ((sf (se s9 0x10000000)).alive = true) ∧
    ((sf (se s9 0x10000000)).alive = true ∧ (sf (se s9 0x10000000)).fget R.ACL_SWEEP_STS_STATE = 1 ∧
      (sf (se s9 0x10000000)).sweep.waitNp = true ∧
      (sf (se s9 0x10000000)).sweep.start + (sf (se s9 0x10000000)).fget R.ACL_SWEEP_CTL_NP_TMO * 1250000 ≤ (sf (se s9 0x10000000)).now) ∧
    (s0.alive = true ∧ (s0.fget R.ACL_SWEEP_STS_STATE ≠ 1 ∨ s0.sweep.waitNp = false ∨
      s0.now < s0.sweep.start + s0.fget R.ACL_SWEEP_CTL_NP_TMO * 1250000)) ∧
    (s0.alive = true ∧ (s0.fget R.ACL_SWEEP_STS_STATE ≠ 1 ∨ s0.oldFrames ≠ 0 ∨ (s0.sweep.waitNp = true ∧ s0.oldNp ≠ 0))) ∧
    ((sf (se s9 0x10000000)).alive = true ∧ (sf (se s9 0x10000000)).fget R.ACL_SWEEP_STS_STATE = 1 ∧
      (sf (se s9 0x10000000)).oldFrames = 0 ∧
      ((sf (se s9 0x10000000)).sweep.waitNp = true → (sf (se s9 0x10000000)).oldNp = 0)) ∧
    (0 < 4) ∧
    (0 < 4) ∧
    (0 < 4 ∧ ((sf (se s9 0x10000000)).session 0).captures = []) ∧
    (3 < 4 ∧ ((match ((sf (se s9 0x10000000)).session 3).captures with
      | c :: rest => decide ((((sf (se s9 0x10000000)).poolFree .management < c.cells ∨
        (sf (se s9 0x10000000)).poolQueue .management = true)))
      | _ => false) = true)) ∧
    (0 < 4 ∧ (((sf (se s9 0x10000000)).session 0).writeback = false ∨ (sf (se s9 0x10000000)).poolFree .management = 0 ∨
      (sf (se s9 0x10000000)).poolQueue .management = true ∨
      (sf (se s9 0x10000000)).fget R.MCM_MIRROR_CELLS_CELLS < (sf (se s9 0x10000000)).mirrorCells + 1)) ∧
    (3 < 4 ∧ ((se s9 0x90000000).fset R.MAP_MISS_POLICY_UP 0).alive = true ∧
      ((match (((se s9 0x90000000).fset R.MAP_MISS_POLICY_UP 0).session 3).captures with
      | c :: rest => decide (c.cells ≤ ((se s9 0x90000000).fset R.MAP_MISS_POLICY_UP 0).poolFree .management ∧
        ((se s9 0x90000000).fset R.MAP_MISS_POLICY_UP 0).poolQueue .management = false ∧
        ((((se s9 0x90000000).fset R.MAP_MISS_POLICY_UP 0).modSession 3 (fun x => { x with captures := rest })).mirrorPieces (((se s9 0x90000000).fset R.MAP_MISS_POLICY_UP 0).fget (R.MCM_MODE_PART 3)) (((se s9 0x90000000).fset R.MAP_MISS_POLICY_UP 0).pair (R.MCM_RING_BASE_LO 3) (R.MCM_RING_BASE_HI 3) + ((se s9 0x90000000).fset R.MAP_MISS_POLICY_UP 0).slotBytes 3 * ((((se s9 0x90000000).fset R.MAP_MISS_POLICY_UP 0).reg (R.MCM_PROD 3)).toNat % 2 ^ ((se s9 0x90000000).fset R.MAP_MISS_POLICY_UP 0).fget (R.MCM_MODE_RING_LOG2 3))) (chunks 4096 3 (leBytes 32 c.header.toNat ++ c.bytes))).2 = none)
      | _ => false) = true)) ∧
    (3 < 4 ∧ (se s9 0x10000000).alive = true ∧ ((match ((se s9 0x10000000).session 3).captures with
      | c :: rest => decide (c.cells ≤ (se s9 0x10000000).poolFree .management ∧
        (se s9 0x10000000).poolQueue .management = false ∧
        (((se s9 0x10000000).modSession 3 (fun x => { x with captures := rest })).mirrorPieces ((se s9 0x10000000).fget (R.MCM_MODE_PART 3)) ((se s9 0x10000000).pair (R.MCM_RING_BASE_LO 3) (R.MCM_RING_BASE_HI 3) + (se s9 0x10000000).slotBytes 3 * (((se s9 0x10000000).reg (R.MCM_PROD 3)).toNat % 2 ^ (se s9 0x10000000).fget (R.MCM_MODE_RING_LOG2 3))) (chunks 4096 3 (leBytes 32 c.header.toNat ++ c.bytes))).2 ≠ none)
      | _ => false) = true)) ∧
    (3 < 4 ∧ (((se s9 0x10000000).setReg (R.MCM_PIDX_LO 3) 0x90000000#32).session 3).writeback = true ∧
      ((se s9 0x10000000).setReg (R.MCM_PIDX_LO 3) 0x90000000#32).poolFree .management ≠ 0 ∧
      ((se s9 0x10000000).setReg (R.MCM_PIDX_LO 3) 0x90000000#32).poolQueue .management = false ∧
      ((se s9 0x10000000).setReg (R.MCM_PIDX_LO 3) 0x90000000#32).mirrorCells + 1 ≤ ((se s9 0x10000000).setReg (R.MCM_PIDX_LO 3) 0x90000000#32).fget R.MCM_MIRROR_CELLS_CELLS ∧
      (((((se s9 0x10000000).setReg (R.MCM_PIDX_LO 3) 0x90000000#32).modSession 3 (fun x => { x with writeback := false })).mirrorWin (((se s9 0x10000000).setReg (R.MCM_PIDX_LO 3) 0x90000000#32).fget (R.MCM_MODE_PART 3)) (((se s9 0x10000000).setReg (R.MCM_PIDX_LO 3) 0x90000000#32).pair (R.MCM_PIDX_LO 3) (R.MCM_PIDX_HI 3)) (leBytes 4 (((se s9 0x10000000).setReg (R.MCM_PIDX_LO 3) 0x90000000#32).reg (R.MCM_PROD 3)).toNat)).2 = none)) ∧
    (3 < 4 ∧ ((se s9 0x10000000).session 3).writeback = true ∧ (se s9 0x10000000).poolFree .management ≠ 0 ∧
      (se s9 0x10000000).poolQueue .management = false ∧
      (se s9 0x10000000).mirrorCells + 1 ≤ (se s9 0x10000000).fget R.MCM_MIRROR_CELLS_CELLS ∧
      (((((se s9 0x10000000).modSession 3 (fun x => { x with writeback := false })).mirrorWin ((se s9 0x10000000).fget (R.MCM_MODE_PART 3)) ((se s9 0x10000000).pair (R.MCM_PIDX_LO 3) (R.MCM_PIDX_HI 3)) (leBytes 4 ((se s9 0x10000000).reg (R.MCM_PROD 3)).toNat)).2).isSome = true)) ∧
    (3 < 4 ∧ ((se s9 0x10000000).session 3).writeback = true ∧ (se s9 0x10000000).poolFree .management ≠ 0 ∧
      (se s9 0x10000000).poolQueue .management = false ∧
      (se s9 0x10000000).mirrorCells + 1 ≤ (se s9 0x10000000).fget R.MCM_MIRROR_CELLS_CELLS ∧
      (((((se s9 0x10000000).modSession 3 (fun x => { x with writeback := false })).mirrorWin ((se s9 0x10000000).fget (R.MCM_MODE_PART 3)) ((se s9 0x10000000).pair (R.MCM_PIDX_LO 3) (R.MCM_PIDX_HI 3)) (leBytes 4 ((se s9 0x10000000).reg (R.MCM_PROD 3)).toNat)).2).any (fun (w, fid, p) => decide (fid = (se s9 0x10000000).selfFid ∧
      p < 64 ∧ (se s9 0x10000000).shut p = false)) = true)) := by
  refine ⟨?_, ?_, ?_, ?_, ?_, ?_, ?_, ?_, ?_, ?_, ?_, ?_, ?_, ?_, ?_, ?_, ?_, ?_, ?_, ?_, ?_, ?_⟩ <;> decide +kernel

end MapUpdatesAndMirrors

namespace ArmedCommits
def s0 := tbv (md mFABRIC) (5000000 * 65536) 3000000000
def arm (s : State) (g k st w0 w1 : Nat) : State := ((s.fset (R.SLU_ARM_CTL_STATE g k) st).setReg (R.SLU_ARM_W0 g k) (BitVec.ofNat 32 w0)).setReg (R.SLU_ARM_W1 g k) (BitVec.ofNat 32 w1)
def s1 := arm (arm s0 2 1 asIDLE 6000000 0) 2 0 asIDLE 4000000 0
def s2 := { arm s1 2 1 asARMED 6000000 0 with armInst := [(9, some (6000000*65536))] }
def s3 := tbv s2 (6000000*65536) 3000000000
def s4 := { (s3.fset (R.SLU_ARM_CTL_BANK 2 1) 1) with firing := [8, 9] }
def s5 := (s3.fset (R.SLU_ARM_CTL_BANK 2 1) 1)
def s6 := { arm (arm s5 2 3 asARMED 7 0) 1 0 asARMED 5 5 with armInst := [(4, some 5), (9, some (6000000*65536)), (11, some 7)] }
def s7 := { s4 with armInst := [(8, some 9), (9, some (6000000*65536))], sw := { s4.sw with waiting := [{ frame := { id := 4, tlp := { kind := .memRead, len := 4 }, ingress := 5, stamp := 8 }, need := .reservation, copies := [] }] } }
def sLate := arm s0 2 1 asIDLE 4000 0

/-- The hypotheses of each clause of `Obligations.ArmedCommits` are met. -/
theorem witness_ArmedCommits :
    (1 < 16 ∧ 0 < 4 ∧ 0 < 2 ∧ s6.alive = true ∧ s6.armState 1 0 = asARMED) ∧
    (0 < 16 ∧ 0 < 4 ∧ 0 < 2 ∧ s6.alive = true ∧ s6.armState 0 0 ≠ asARMED ∧
      (((s6.fset (R.SLU_ARM_CTL_KIND 0 0) 0).fset (R.SLU_ARM_CTL_BANK 0 0) (ofBool true)).armCause 0 0).isSome = true) ∧
    (2 < 16 ∧ 0 < 4 ∧ 1 < 2 ∧ s6.alive = true ∧ s6.armState 2 0 ≠ asARMED ∧
      ((s6.fset (R.SLU_ARM_CTL_KIND 2 0) 1).fset (R.SLU_ARM_CTL_BANK 2 0) (ofBool true)).armCause 2 0 = none) ∧
    (0 < 16 ∧ 0 < 4 ∧ 0 < 2 ∧ s6.alive = true ∧ s6.armState 0 0 ≠ asARMED) ∧
    (1 < 16 ∧ 0 < 4 ∧ 0 < 2 ∧ s6.alive = true ∧ s6.armState 1 0 = asARMED ∧ 4 * 1 + 0 ∉ s6.firing) ∧
    (2 < 16 ∧ 1 < 4 ∧ 0 < 2 ∧ s7.alive = true ∧ s7.armState 2 1 = asARMED ∧ 4 * 2 + 1 ∈ s7.firing) ∧
    (2 < 16 ∧ 1 < 4 ∧ s2.alive = true ∧ s2.waitingSlot 2 1 = true ∧
      ((s2.instantOf 2 1).any (fun t0 => decide (s2.time80 < t0)) = true)) ∧
    (1 < 16 ∧ 0 < 4 ∧ s6.alive = true ∧ s6.waitingSlot 1 0 = true ∧
      ((s6.instantOf 1 0).any (fun t0 => decide (t0 ≤ s6.time80)) = true)) ∧
    (0 < 16 ∧ 0 < 4 ∧ s6.alive = true ∧ (s6.waitingSlot 0 0 = false ∨ s6.instantOf 0 0 = none)) ∧
    (0 < 16 ∧ 0 < 4 ∧ s6.alive = true ∧ (4 * 0 + 0 ∉ s6.firing ∨ s6.lookupsLeft 0 0 = true)) ∧
    (2 < 16 ∧ 0 < 4 ∧ s4.alive = true ∧ 4 * 2 + 0 ∈ s4.firing ∧ s4.lookupsLeft 2 0 = false) ∧
    (0 < 16 ∧ 0 < 4 ∧ s6.alive = true) := by
  refine ⟨?_, ?_, ?_, ?_, ?_, ?_, ?_, ?_, ?_, ?_, ?_, ?_⟩ <;> decide +kernel

/-- An instant that has passed, for a slot that is not armed in a mode that arms. -/
theorem witness_ArmedCommits_late :
    sLate.alive = true ∧ sLate.armState 2 1 ≠ asARMED ∧ sLate.mode ∉ [mLIMP, mSAFE, mDIAGNOSTIC] ∧
      sLate.armTime 2 1 < sLate.time80 + 1000 * 65536 := by decide +kernel

end ArmedCommits

namespace TimeKeeping
def s0 := tbv (md mFABRIC) (5000000 * 65536 + 3) 3000000000
def s1 := (s0.fset R.SLU_TB_CTL_SRC srcPPS).fset R.SLU_TB_CTL_AUTO_STEP 0
def s2 := tbv s1 ((2000000000 - 20) * 65536 + 3) 3000000000
def fs (s : State) (st : Nat) (b p : Nat) : State := { (s.fset R.SLU_FS_STS_STATE st).setReg R.SLU_FS_PERIOD (BitVec.ofNat 32 (p * 16)) with fs := { base := BitVec.ofNat 80 (b * 65536), last := some (BitVec.ofNat 80 (b * 65536)) } }
def s4 := fs s2 3 1000000000 999990000
def s7 := ls (((s0.fset R.SLU_TB_CTL_SRC srcFABRIC).fset R.SLU_TB_CTL_LINK 2).fset (R.MFL_RTT_NS 2) 1000) 2 lsUP fun l => { l with ts1 := some 4999000, tsN := 3, tsAt := 5 }
def s8 := ls s7 2 lsUP fun l => { l with ts1 := none }
def s10 := (s4.fset R.SLU_TB_CTL_SRC srcFRAME).fset R.SLU_TB_CTL_AUTO_STEP 1
def off3 (s : State) : State := s.modFs fun x => { x with strays := [(s.time80 : Int) - s.fsExpected, (s.time80 : Int) - s.fsExpected + 1, (s.time80 : Int) - s.fsExpected] }
def s12 := off3 (tbv s4 (2300000000 * 65536) 3000000000)
def s13 := (tbv s4 (2300000000 * 65536) 3000000000).modFs fun x => { x with strays := [1, 900000000000, 5] }
def s14 := s10.modFs fun x => { x with quiet := 17 }
def s17 := s7.fset R.SLU_TB_CTL_SRC srcPPS

/-- The hypotheses of each clause of `Obligations.TimeKeeping` are met. -/
theorem witness_TimeKeeping :
    (s10.alive = true ∧ s10.fget R.SLU_TB_CTL_SRC ≠ srcPPS) ∧
    (s12.alive = true ∧ s12.fget R.SLU_TB_CTL_SRC = srcPPS ∧ (s12.fget R.SLU_TB_CTL_AUTO_STEP = 0 ∨
      s12.fget R.SLU_TB_STS_STATE = tbLOCKED ∨
      ((s12.time80 : Int) - nearestInstant 0 (1000000000 * 65536) s12.time80).natAbs ≤ 1000 * 65536 ∨ s12.anyArmed = true)) ∧
    (s17.alive = true ∧ s17.fget R.SLU_TB_CTL_SRC = srcPPS ∧ s17.fget R.SLU_TB_CTL_AUTO_STEP = 1 ∧
      s17.fget R.SLU_TB_STS_STATE ≠ tbLOCKED ∧
      1000 * 65536 < ((s17.time80 : Int) - nearestInstant 0 (1000000000 * 65536) s17.time80).natAbs ∧ s17.anyArmed = false) ∧
    (s0.alive = true ∧
      ((s0.fget R.SLU_TB_CTL_SRC == srcFABRIC && s0.refLink.isNone || (s0.fget R.SLU_TB_CTL_SRC == srcPPS || s0.fget R.SLU_TB_CTL_SRC == srcFRAME) && (decide (s0.tb.lastRef + 2500000000 ≤ s0.now)))) = false) ∧
    (s17.alive = true ∧
      ((s17.fget R.SLU_TB_CTL_SRC == srcFABRIC && s17.refLink.isNone || (s17.fget R.SLU_TB_CTL_SRC == srcPPS || s17.fget R.SLU_TB_CTL_SRC == srcFRAME) && (decide (s17.tb.lastRef + 2500000000 ≤ s17.now)))) = true) ∧
    (s17.alive = true) ∧
    (s17.alive = true ∧ (s17.fsState = fsNONE ∨ s17.fsState = fsACQUIRING ∨
      ((s17.time80 : Int) - s17.fsExpected).natAbs ≤ s17.fsWindow)) ∧
    (s10.alive = true ∧ 2 ≤ s10.fsState ∧ s10.fsWindow < ((s10.time80 : Int) - s10.fsExpected).natAbs ∧
      s10.fs.strays.length < 3) ∧
    (s12.alive = true ∧ 2 ≤ s12.fsState ∧ s12.fsWindow < ((s12.time80 : Int) - s12.fsExpected).natAbs ∧
      s12.fs.strays.length = 3 ∧ agree s12.fsWindow (((s12.time80 : Int) - s12.fsExpected) :: s12.fs.strays) = true) ∧
    (s13.alive = true ∧ 2 ≤ s13.fsState ∧ s13.fsWindow < ((s13.time80 : Int) - s13.fsExpected).natAbs ∧
      s13.fs.strays.length = 3 ∧ agree s13.fsWindow (((s13.time80 : Int) - s13.fsExpected) :: s13.fs.strays) = false) ∧
    (s17.alive = true ∧ (s17.fsState < 2 ∨ s17.time80 ≤ s17.fsExpected + s17.fsWindow)) ∧
    (s17.alive = true ∧ s17.fs.quiet < 16) ∧
    (s17.alive = true) ∧
    (s10.alive = true ∧ 2 ≤ s10.fsState ∧ s10.fsExpected + s10.fsWindow < s10.time80) ∧
    (s14.alive = true ∧ 16 ≤ s14.fs.quiet) ∧
    (0 < 8 ∧ s17.linkUp 0 = false) ∧
    (0 < 8 ∧ s17.linkUp 0 = false) ∧
    (0 < 8 ∧ s17.linkUp 0 = false) ∧
    (2 < 8 ∧ s17.alive = true ∧ s17.linkUp 2 = true ∧ (s17.fget R.SLU_TB_CTL_SRC ≠ srcFABRIC ∨
      s17.refLink.any (fun x => x.1 == 2) = false ∨
      s17.now < (s17.link 2).tsAt + s17.fget (R.MFL_TSYNC_CTL_PERIOD_US 2) * 1250)) ∧
    (2 < 8 ∧ s8.alive = true ∧ s8.linkUp 2 = true ∧ (s8.link 2).ts1 = none) ∧
    (2 < 8 ∧ s7.alive = true ∧ s7.linkUp 2 = true ∧ s7.fget R.SLU_TB_CTL_SRC = srcFABRIC ∧
      (s7.refLink.any (fun x => x.1 == 2) = true) ∧
      (s7.link 2).tsAt + s7.fget (R.MFL_TSYNC_CTL_PERIOD_US 2) * 1250 ≤ s7.now) ∧
    (2 < 8 ∧ s17.alive = true ∧ s17.linkUp 2 = true ∧ 0 < 64) ∧
    (2 < 8 ∧ s17.alive = true ∧ s17.linkUp 2 = true ∧
      (((s17.link 2).ts1).any (fun t1 => decide (3 % 64 = (s17.link 2).tsN ∧
      ((s17.widen 0 : Int) - t1) + ((s17.tsArrival 2 : Int) - s17.widen 0) ≤ 2 * ((s17.fget ⟨R.MFL_RTT 2, 15, 0⟩ : Int) + 8))) = true)) ∧
    (2 < 8 ∧ s17.alive = true ∧ s17.linkUp 2 = true ∧
      (((s17.link 2).ts1).any (fun t1 => decide (3 % 64 = (s17.link 2).tsN ∧
      2 * ((s17.fget ⟨R.MFL_RTT 2, 15, 0⟩ : Int) + 8) < ((s17.widen 4999100 : Int) - t1) + ((s17.tsArrival 2 : Int) - s17.widen 0))) = true)) ∧
    (2 < 8 ∧ s17.alive = true ∧ s17.linkUp 2 = true ∧
      (((s17.link 2).ts1).any (fun t1 => decide (0 % 64 ≠ (s17.link 2).tsN)) = true)) := by
  refine ⟨?_, ?_, ?_, ?_, ?_, ?_, ?_, ?_, ?_, ?_, ?_, ?_, ?_, ?_, ?_, ?_, ?_, ?_, ?_, ?_, ?_, ?_, ?_, ?_, ?_⟩ <;> decide +kernel

end TimeKeeping

namespace RingsAndFetches
def up (s : State) (p part : Nat) : State := { (((s.fset (R.PEP_PORT_CTL_ROLE p) 1).fset (R.PEP_PORT_CTL_PART p) part).fset (R.PEP_PORT_STS_PRESENT p) 1).fset (R.PEP_PORT_STS_DL_ACTIVE p) 1 with sw := { s.sw with ports := storePut {} p { up := true } s.sw.ports } }
def s0 := at_ (md mFABRIC) 3000000000
def s1 := win ((((((up s0 5 3).fset R.DEV_MODE_STS_FW_RUNNING 1).fset (R.VIM_INST_OWNER_TENANT_PART 7) 3).fset (R.VIM_INST_OWNER_MGR_PART 7) 3).fset (R.VIM_INST_STS_STATE 7) iACTIVE).fset (R.VIM_INST_STS_HG 7) 1) 2 0x10000000 20 5
def s2 := ((s1.setCfg (Fn.inst 7).num cCommand 6).setReg (R.VIM_INST_RING 7) 0x8300).setCfg (Fn.inst 7).num cMsix 0x80000011#32
def s3 := ((s2.setQreg 7 1 qCFG 0x10004).setQreg 7 1 qPROD 5).setQreg 7 1 qBASE 0x10000000
def dr (n : Nat) : DescRun := { n := n, raw := 0 }
def s4 := (s3.setTbl 0x120 0 3 (BitVec.ofNat 256 (1 + 20 * 16 + 0x40000000 + 2^131 + 2^195 + 5 * 2^224))).setQreg 7 1 qBASE 0x40000000
def s5 := s3.modRing 7 1 fun r => { r with runs := [dr 5], fetched := [(6,0,0)] }
def s6 := (s3.setQreg 7 1 qSTS 0x0404).setQreg 7 1 qDONE 0xFFFFFFF8
def s8 := s3.fset (R.VIM_INST_STS_STATE 7) iRESETTING
def full (s : State) : State := { s.fset (R.PEP_TAG_CTL_WIDTH 5) 0 with engTags := (upTo 256).map fun g =>
  { id := g, engine := 9, inst := 8, ring := 0, reqId := s.instReqId 7, tag := BitVec.ofNat 14 g, why := .fetch 0 } }
def sF := full s3

/-- The hypotheses of each clause of `Obligations.RingsAndFetches` are met. -/
theorem witness_RingsAndFetches :
    (7 < 512 ∧ 0 < 4 ∧ s2.alive = true ∧ s2.qEnabled 7 0 = false) ∧
    (7 < 512 ∧ 1 < 4 ∧ s3.alive = true ∧ s3.qEnabled 7 1 = true ∧ s3.instState 7 ≠ iRESETTING ∧
      (((0 : W32)).toNat + 2 ^ 32 - s3.qreg 7 1 qDONE) % 2 ^ 32 ≤ s3.qSize 7 1) ∧
    (7 < 512 ∧ 1 < 4 ∧ s3.alive = true ∧ s3.qEnabled 7 1 = true ∧ s3.instState 7 ≠ iRESETTING ∧
      s3.qSize 7 1 < (((0xFFFFFFFF : W32)).toNat + 2 ^ 32 - s3.qreg 7 1 qDONE) % 2 ^ 32) ∧
    (7 < 512 ∧ 0 < 4 ∧ s8.alive = true ∧ s8.instState 7 = iRESETTING) ∧
    (7 < 512 ∧ 0 < 4 ∧ s2.alive = true ∧ s2.qEnabled 7 0 = false) ∧
    (7 < 512 ∧ 1 < 4 ∧ s3.alive = true ∧ s3.qEnabled 7 1 = true) ∧
    (7 < 512 ∧ 0 < 4 ∧ s2.alive = true ∧ s2.qEnabled 7 0 = false) ∧
    (7 < 512 ∧ 1 < 4 ∧ s3.alive = true ∧ s3.qEnabled 7 1 = true ∧ (s3.ring 7 1).runs = []) ∧
    (7 < 512 ∧ 1 < 4 ∧ s5.alive = true ∧ s5.qEnabled 7 1 = true ∧ (s5.ring 7 1).runs ≠ []) ∧
    (7 < 512 ∧ 1 < 4 ∧ s6.alive = true ∧ s6.halted 7 1 = true) ∧
    (7 < 512 ∧ 0 < 4 ∧ s2.alive = true ∧ s2.halted 7 0 = false) ∧
    (7 < 512 ∧ 1 < 4 ∧
      ((sF.ringServed 7 1 && decide ((sF.ring 7 1).fetched.length + sF.fetching 7 1 < 8) && decide (sF.taken 7 1 < sF.outstanding 7 1) && decide (sF.rbBytes (sF.engineOf 7 1) + 64 ≤ 262144))) = true ∧
      (((sF.engineRead (sF.engineOf 7 1) 7 1 0 (BitVec.ofNat 64 (sF.qaddr 7 1 qBASE + 64 * (((sF.qreg 7 1 qDONE + sF.taken 7 1) % 2 ^ 32) % sF.qSize 7 1))) 64 (.fetch ((sF.qreg 7 1 qDONE + sF.taken 7 1) % 2 ^ 32)) .access false)).any (fun (u, x) => decide ((match x with
      | .ok w e fid f l m => true
      | _ => false) = true)) = true)) ∧
    (7 < 512 ∧ 1 < 4 ∧
      ((s4.ringServed 7 1 && decide ((s4.ring 7 1).fetched.length + s4.fetching 7 1 < 8) && decide (s4.taken 7 1 < s4.outstanding 7 1) && decide (s4.rbBytes (s4.engineOf 7 1) + 64 ≤ 262144))) = true ∧
      (((s4.engineRead (s4.engineOf 7 1) 7 1 0 (BitVec.ofNat 64 (s4.qaddr 7 1 qBASE + 64 * (((s4.qreg 7 1 qDONE + s4.taken 7 1) % 2 ^ 32) % s4.qSize 7 1))) 64 (.fetch ((s4.qreg 7 1 qDONE + s4.taken 7 1) % 2 ^ 32)) .access false)).any (fun (u, x) => decide ((match x with
      | .failed st w => true
      | _ => false) = true)) = true)) ∧
    (7 < 512 ∧ 0 < 4 ∧
      (((s2.ringServed 7 0 && decide ((s2.ring 7 0).fetched.length + s2.fetching 7 0 < 8) && decide (s2.taken 7 0 < s2.outstanding 7 0) && decide (s2.rbBytes (s2.engineOf 7 0) + 64 ≤ 262144))) = false ∨
      (s2.engineRead (s2.engineOf 7 0) 7 0 0 (BitVec.ofNat 64 (s2.qaddr 7 0 qBASE + 64 * (((s2.qreg 7 0 qDONE + s2.taken 7 0) % 2 ^ 32) % s2.qSize 7 0))) 64 (.fetch ((s2.qreg 7 0 qDONE + s2.taken 7 0) % 2 ^ 32)) .access false) = none)) := by
  refine ⟨?_, ?_, ?_, ?_, ?_, ?_, ?_, ?_, ?_, ?_, ?_, ?_, ?_, ?_⟩ <;> decide +kernel

end RingsAndFetches

namespace GrantsAndTimes
def up (s : State) (p part : Nat) : State := { (((s.fset (R.PEP_PORT_CTL_ROLE p) 1).fset (R.PEP_PORT_CTL_PART p) part).fset (R.PEP_PORT_STS_PRESENT p) 1).fset (R.PEP_PORT_STS_DL_ACTIVE p) 1 with sw := { s.sw with ports := storePut {} p { up := true } s.sw.ports } }
def s0 := at_ (md mFABRIC) 3000000000
def s1 := win ((((((up s0 5 3).fset R.DEV_MODE_STS_FW_RUNNING 1).fset (R.VIM_INST_OWNER_TENANT_PART 7) 3).fset (R.VIM_INST_OWNER_MGR_PART 7) 3).fset (R.VIM_INST_STS_STATE 7) iACTIVE).fset (R.VIM_INST_STS_HG 7) 1) 2 0x10000000 20 5
def s2 := ((s1.setCfg (Fn.inst 7).num cCommand 6).setReg (R.VIM_INST_RING 7) 0x8300).setCfg (Fn.inst 7).num cMsix 0x80000011#32
def s3 := ((s2.setQreg 7 1 qCFG 0x10004).setQreg 7 1 qPROD 5).setQreg 7 1 qBASE 0x10000000
def tm (x : Nat) : BitVec 512 := BitVec.ofNat 512 (8 + x * 2^64)
def fe (s : State) (d : BitVec 512) (st : Nat) := s.modRing 7 1 fun r => { r with fetched := [(0,d,st),(1,tm 5,0)] }
def t0 : Nat := s3.time80 / 65536
def rn (n : Nat) (raw : BitVec 512) (i : Nat) : DescRun := { n := n, raw := raw, instant := some i }
def s4 := fe s3 (tm 5) 0
def s6 := fe s3 (tm 5) 0x25
def s9 := s3.modRing 7 1 fun r => { r with runs := [rn 0 (tm 0) 0] }
def s10 := s3.modRing 7 1 fun r => { r with runs := [rn 0 (tm 5) (2^75)] }

/-- The hypotheses of each clause of `Obligations.GrantsAndTimes` are met. -/
theorem witness_GrantsAndTimes :
    (3 < 16 ∧ (8 ≤ s3.contexts 3 ∨ s3.nextRing 3 (s3.eng 3).ctxPtr s3.canStart = none)) ∧
    (3 < 16 ∧ s6.contexts 3 < 8 ∧
      ((s6.nextRing 3 (s6.eng 3).ctxPtr s6.canStart).any (fun k => decide (((match (s6.ring (k / 4) (k % 4)).fetched with
      | (n, raw, st) :: rest => decide (((st ≠ 0 ∨ badDesc raw = true ∨
        ((((s6.ring (k / 4) (k % 4)).ahead.find? fun d => d.n == n).bind fun d => d.status)) ≠ none ∨
        dOpcode raw ≠ opTIMED)))
      | _ => false) = true))) = true)) ∧
    (3 < 16 ∧ s4.contexts 3 < 8 ∧
      ((s4.nextRing 3 (s4.eng 3).ctxPtr s4.canStart).any (fun k => decide ((match (s4.ring (k / 4) (k % 4)).fetched with
      | (n, raw, st) :: rest => decide (st = 0 ∧ badDesc raw = false ∧
        ((((s4.ring (k / 4) (k % 4)).ahead.find? fun d => d.n == n).bind fun d => d.status)) = none ∧
        dOpcode raw = opTIMED)
      | _ => false) = true)) = true)) ∧
    (7 < 512 ∧ 1 < 4 ∧
      (((((s9.ring 7 1).runs.find? fun d => d.current && d.status.isNone && d.opcode == opTIMED))).any (fun d => decide ((d.instant).any (fun t0 => decide (t0 ≤ s9.time80)) = true)) = true)) ∧
    (7 < 512 ∧ 1 < 4 ∧
      (((((s10.ring 7 1).runs.find? fun d => d.current && d.status.isNone && d.opcode == opTIMED))).any (fun d => decide ((d.instant).any (fun t0 => decide (s10.time80 < t0)) = true)) = true)) ∧
    (3 < 512 ∧ 3 < 4 ∧
      (((((s3.ring 3 3).runs.find? fun d => d.current && d.status.isNone && d.opcode == opTIMED)).bind fun d => d.instant) = none)) := by
  refine ⟨?_, ?_, ?_, ?_, ?_, ?_⟩ <;> decide +kernel

end GrantsAndTimes

namespace EngineWork
def up (s : State) (p part : Nat) : State := { (((s.fset (R.PEP_PORT_CTL_ROLE p) 1).fset (R.PEP_PORT_CTL_PART p) part).fset (R.PEP_PORT_STS_PRESENT p) 1).fset (R.PEP_PORT_STS_DL_ACTIVE p) 1 with sw := { s.sw with ports := storePut {} p { up := true } s.sw.ports } }
def s0 := at_ (md mFABRIC) 3000000000
def s1 := win ((((((up s0 5 3).fset R.DEV_MODE_STS_FW_RUNNING 1).fset (R.VIM_INST_OWNER_TENANT_PART 7) 3).fset (R.VIM_INST_OWNER_MGR_PART 7) 3).fset (R.VIM_INST_STS_STATE 7) iACTIVE).fset (R.VIM_INST_STS_HG 7) 1) 2 0x10000000 20 5
def s2 := ((s1.setCfg (Fn.inst 7).num cCommand 6).setReg (R.VIM_INST_RING 7) 0x8300).setCfg (Fn.inst 7).num cMsix 0x80000011#32
def s3 := ((s2.setQreg 7 1 qCFG 0x10004).setQreg 7 1 qPROD 5).setQreg 7 1 qBASE 0x10000000
def cpd (x n : Nat) : BitVec 512 := BitVec.ofNat 512 (1 + (0x10000000 + x) * 2^64 + (0x10001000 + x) * 2^128 + n * 2^192)
def chk (x n : Nat) : BitVec 512 := BitVec.ofNat 512 (6 + (0x10000000 + x) * 2^64 + n * 2^192 + 2^224)
def ru (n : Nat) (raw : BitVec 512) : DescRun := { n := n, raw := raw }
def sg (off n : Nat) : Seg := { off := off, data := List.replicate n 9, poison := false }
def s4 := s3.modRing 7 1 fun r => { r with runs := [ru 0 (cpd 0 300)] }
def s5 := s3.modRing 7 1 fun r => { r with runs := [{ ru 0 (cpd 0 300) with segs := [sg 0 256, sg 256 44], readPos := 300 }] }
def s6 := s3.modRing 7 1 fun r => { r with runs := [{ ru 0 (chk 0 300) with segs := [sg 0 256], readPos := 300 }] }
def c0 : Tlp := { kind := .completion, reqId := 3, tag := 5, data := [1,2,3], len := 3, status := .sc, last := true }
def tg (w : ReadFor) : EngTag := { id := 1, engine := 3, inst := 7, ring := 1, reqId := 3, tag := 5, why := w }
def ib (s : State) (b : Bool) : State := s.modEng 3 fun e => { e with inbox := [(c0, { bad := b }), (c0, {})] }
def s7 := ib s4 false
def s8b := { ib s4 false with engTags := [tg (.source 0 16)] }
def s9 := s3.modRing 7 1 fun r => { r with runs := [{ ru 0 (cpd 0 300) with segs := [sg 0 256, sg 256 44], readPos := 300, moved := 256 }] }
def s10 := s9.setTbl 0x120 0 3 (s9.tbl 0x120 0 2)
def s11 := s9.setTbl 0x120 0 2 0
def full (s : State) : State := { s.fset (R.PEP_TAG_CTL_WIDTH 5) 0 with engTags := (upTo 256).map fun g =>
  { id := g, engine := 9, inst := 8, ring := 0, reqId := s.instReqId 7, tag := BitVec.ofNat 14 g, why := .fetch 0 } }
def s19 := full s4

/-- The hypotheses of each clause of `Obligations.EngineWork` are met. -/
theorem witness_EngineWork :
    (3 < 16 ∧ s19.fget (R.ENG_STS_STATE 3) < 3 ∧
      ((s19.nextRing 3 (s19.eng 3).readPtr fun i q => (s19.nextRead 3 i q).isSome) = some 29) ∧
      ((s19.nextRead 3 (29 / 4) (29 % 4)).any (fun y => decide ((match y with
      | .source n raw off => decide (s19.rbBytes 3 + (srcPiece raw (s19.fget (R.ENG_SIZE_MAX_RD_LOG2 3)) off).2 ≤ 262144 ∧
        ((s19.modEng 3 fun y => { y with readPtr := 29 }).engineRead 3 (29 / 4) (29 % 4) (dRdTc raw) (BitVec.ofNat 64 (srcPiece raw (s19.fget (R.ENG_SIZE_MAX_RD_LOG2 3)) off).1) (srcPiece raw (s19.fget (R.ENG_SIZE_MAX_RD_LOG2 3)) off).2 (.source n off) .source false).any (fun (u, x) => decide ((match x with
      | .ok w eg fid f l m => true
      | _ => false) = true)) = true)
      | _ => false) = true)) = true)) ∧
    (3 < 16 ∧ ((s6.nextRing 3 (s6.eng 3).turnPtr fun i q => (s6.turnRun 3 i q).isSome) = some 29) ∧
      ((((s6.modEng 3 fun x => { x with turnPtr := 29 }).settleImplicit (29 / 4) (29 % 4)).turnRun 3 (29 / 4) (29 % 4)).any (fun d => decide ((readyCheck d).isSome = true)) = true)) ∧
    (3 < 16 ∧ ((s5.nextRing 3 (s5.eng 3).turnPtr fun i q => (s5.turnRun 3 i q).isSome) = some 29) ∧
      ((((s5.modEng 3 fun x => { x with turnPtr := 29 }).settleImplicit (29 / 4) (29 % 4)).turnRun 3 (29 / 4) (29 % 4)).any (fun d => decide (readyCheck d = none ∧
      ((((s5.modEng 3 fun x => { x with turnPtr := 29 }).settleImplicit (29 / 4) (29 % 4)).readyCell 3 d 256).any (fun n => decide (n = 256 ∧
      ((((s5.modEng 3 fun x => { x with turnPtr := 29 }).settleImplicit (29 / 4) (29 % 4)).readyWrite 3 d = none ∨
      ∃ w, ((s5.modEng 3 fun x => { x with turnPtr := 29 }).settleImplicit (29 / 4) (29 % 4)).readyWrite 3 d = some w ∧
      d.moved + n < w.2.1.length)))) = true))) = true)) ∧
    (3 < 16 ∧ ((s11.nextRing 3 (s11.eng 3).turnPtr fun i q => (s11.turnRun 3 i q).isSome) = some 29) ∧
      ((((s11.modEng 3 fun x => { x with turnPtr := 29 }).settleImplicit (29 / 4) (29 % 4)).turnRun 3 (29 / 4) (29 % 4)).any (fun d => decide (readyCheck d = none ∧
      (((s11.modEng 3 fun x => { x with turnPtr := 29 }).settleImplicit (29 / 4) (29 % 4)).readyCell 3 d 256).any (fun n => decide ((((s11.modEng 3 fun x => { x with turnPtr := 29 }).settleImplicit (29 / 4) (29 % 4)).readyWrite 3 d).any (fun (a, bs, p) => decide (bs.length ≤ d.moved + n ∧
      (((s11.modEng 3 fun x => { x with turnPtr := 29 }).settleImplicit (29 / 4) (29 % 4)).engineSend 3 (29 / 4) { kind := .memWrite, tc := Fin.ofNat 8 (dWrTc d.raw), addr := BitVec.ofNat 64 a, len := bs.length, data := bs, poison := p } (if d.opcode = opMCOPY then .mdest else .dest) none).any (fun (v, x) => decide ((match x with
      | .ok w eg fid f l m => decide (v.alive = true)
      | _ => false) = true)) = true)) = true)) = true)) = true)) ∧
    (3 < 16 ∧ ((s10.nextRing 3 (s10.eng 3).turnPtr fun i q => (s10.turnRun 3 i q).isSome) = some 29) ∧
      ((((s10.modEng 3 fun x => { x with turnPtr := 29 }).settleImplicit (29 / 4) (29 % 4)).turnRun 3 (29 / 4) (29 % 4)).any (fun d => decide (readyCheck d = none ∧
      (((s10.modEng 3 fun x => { x with turnPtr := 29 }).settleImplicit (29 / 4) (29 % 4)).readyCell 3 d 256).any (fun n => decide ((((s10.modEng 3 fun x => { x with turnPtr := 29 }).settleImplicit (29 / 4) (29 % 4)).readyWrite 3 d).any (fun (a, bs, p) => decide (bs.length ≤ d.moved + n ∧
      (((s10.modEng 3 fun x => { x with turnPtr := 29 }).settleImplicit (29 / 4) (29 % 4)).engineSend 3 (29 / 4) { kind := .memWrite, tc := Fin.ofNat 8 (dWrTc d.raw), addr := BitVec.ofNat 64 a, len := bs.length, data := bs, poison := p } (if d.opcode = opMCOPY then .mdest else .dest) none).any (fun (v, x) => decide ((match x with
      | .failed st w => true
      | _ => false) = true)) = true)) = true)) = true)) = true)) ∧
    (3 < 16 ∧ s7.alive = true ∧ ((match (s7.eng 3).inbox with
      | (c, dv) :: rest => decide (((dv.bad = true → s7.fget R.ERR_ESC_PORT_THR = 0)) ∧
        (s7.engTags.find? fun t => t.engine == 3 && t.reqId == c.reqId && t.tag == c.tag) = none)
      | _ => false) = true)) ∧
    (3 < 16 ∧ s8b.alive = true ∧ ((match (s8b.eng 3).inbox with
      | (c, dv) :: rest => decide (((dv.bad = true → s8b.fget R.ERR_ESC_PORT_THR = 0)) ∧
        ((s8b.engTags.find? fun t => t.engine == 3 && t.reqId == c.reqId && t.tag == c.tag)).any (fun x => decide (x.why = .source 0 16 ∧
        x.discard = false ∧ c.status = .sc ∧ c.last = true)) = true)
      | _ => false) = true)) := by
  refine ⟨?_, ?_, ?_, ?_, ?_, ?_, ?_⟩ <;> decide +kernel

end EngineWork

namespace DescriptorEnds
def up (s : State) (p part : Nat) : State := { (((s.fset (R.PEP_PORT_CTL_ROLE p) 1).fset (R.PEP_PORT_CTL_PART p) part).fset (R.PEP_PORT_STS_PRESENT p) 1).fset (R.PEP_PORT_STS_DL_ACTIVE p) 1 with sw := { s.sw with ports := storePut {} p { up := true } s.sw.ports } }
def s0 := at_ (md mFABRIC) 3000000000
def s1 := win ((((((up s0 5 3).fset R.DEV_MODE_STS_FW_RUNNING 1).fset (R.VIM_INST_OWNER_TENANT_PART 7) 3).fset (R.VIM_INST_OWNER_MGR_PART 7) 3).fset (R.VIM_INST_STS_STATE 7) iACTIVE).fset (R.VIM_INST_STS_HG 7) 1) 2 0x10000000 20 5
def s2 := ((s1.setCfg (Fn.inst 7).num cCommand 6).setReg (R.VIM_INST_RING 7) 0x8300).setCfg (Fn.inst 7).num cMsix 0x80000011#32
def s3 := ((s2.setQreg 7 1 qCFG 0x10004).setQreg 7 1 qPROD 5).setQreg 7 1 qBASE 0x10000000
def raw (op x : Nat) : BitVec 512 := BitVec.ofNat 512 (op + x * 2^8 + 0x10000000 * 2^64 + 0x10001000 * 2^128 + 16 * 2^192)
def ru (n : Nat) (op x : Nat) : DescRun := { n := n, raw := raw op x, readPos := 16, pos := 16, current := false }
def rr (l : List DescRun) := (s3.setQreg 7 1 qCMPL 0x10002000).modRing 7 1 fun r => { r with runs := l, dest := [{ window := 2, egress := 5, fid := 0, tc := 0, addr := 0, inside := true, frames := [] }] }
def s4 := rr [ru 0 1 0, ru 1 1 0]
def s5 := rr [{ ru 0 7 0 with fence := some {} }]
def s6 := rr [ru 0 1 1]
def s7 := rr [{ ru 0 1 1 with status := some 0x25 }]
def s8 := (rr [{ ru 0 1 1 with status := some stRECORD_FAILED }]).setQreg 7 1 qDONE 0xFFFFFFFF
def s9 := (rr [{ ru 0 1 1 with status := some 0x25 }]).setCfg (Fn.inst 7).num cCommand 2
def pb (q : Nat) : State := { ((s3.setCfg (Fn.inst 7).num cMsix 0x80000011#32).setBar (Fn.inst 7).num 0x9000 0x2#32 |>.setBar (Fn.inst 7).num 0x8010 0x10000040#32 |>.setBar (Fn.inst 7).num 0x8018 0x1234#32 |>.setBar (Fn.inst 7).num 0x801C 0#32) with pbaRing := [(57, q)] }
def cm (s : State) : State := s.modRing 7 1 fun r => { r with runs := r.runs.map fun d => { d with raw := d.raw ||| BitVec.ofNat 512 (2^16) } }
def base : List State := [s3,s4,s5,s6,s7,s8,s9]
def np := rr [{ n := 0, raw := raw 1 0 }]
def ov := (cm s6).setTbl 0x120 0 3 (s6.tbl 0x120 0 2)

/-- The hypotheses of each clause of `Obligations.DescriptorEnds` are met. -/
theorem witness_DescriptorEnds :
    (7 < 512 ∧ 0 < 4 ∧ np.alive = true ∧ ((np.settleImplicit 7 0).ring 7 0).runs = []) ∧
    (7 < 512 ∧ 1 < 4 ∧ np.alive = true ∧ (match ((np.settleImplicit 7 1).ring 7 1).runs with
      | d :: ds => decide ((np.settleImplicit 7 1).finishStatus 7 1 d = none)
      | _ => false) = true) ∧
    (7 < 512 ∧ 1 < 4 ∧ s4.alive = true ∧ ((match ((s4.settleImplicit 7 1).ring 7 1).runs with
      | d :: ds => decide (((s4.settleImplicit 7 1).finishStatus 7 1 d).any (fun st => decide ((decide (0x10 ≤ st)) = false ∧
        ((if (decide (0x10 ≤ st)) then !noRecord st && s4.mayIssue 7 else dCmpl d.raw)) = false)) = true)
      | _ => false) = true)) ∧
    (7 < 512 ∧ 1 < 4 ∧ s8.alive = true ∧ ((match ((s8.settleImplicit 7 1).ring 7 1).runs with
      | d :: ds => decide (((s8.settleImplicit 7 1).finishStatus 7 1 d).any (fun st => decide ((decide (0x10 ≤ st)) = true ∧
        st < 256 ∧ ((if (decide (0x10 ≤ st)) then !noRecord st && s8.mayIssue 7 else dCmpl d.raw)) = false)) = true)
      | _ => false) = true)) ∧
    (7 < 512 ∧ 1 < 4 ∧ (((cm s6).setCfg (Fn.inst 7).num cCommand 2)).alive = true ∧
      ((match (((((cm s6).setCfg (Fn.inst 7).num cCommand 2)).settleImplicit 7 1).ring 7 1).runs with
      | d :: ds => decide (((((((cm s6).setCfg (Fn.inst 7).num cCommand 2)).settleImplicit 7 1).finishStatus 7 1 d).any (fun st => decide (((if (decide (0x10 ≤ st)) then !noRecord st && (((cm s6).setCfg (Fn.inst 7).num cCommand 2)).mayIssue 7 else dCmpl d.raw)) = true ∧
        (((((cm s6).setCfg (Fn.inst 7).num cCommand 2)).mayIssue 7 = false ∨
        (((((cm s6).setCfg (Fn.inst 7).num cCommand 2)).settleImplicit 7 1).engineSend ((((cm s6).setCfg (Fn.inst 7).num cCommand 2)).engineOf 7 1) 7 (((((cm s6).setCfg (Fn.inst 7).num cCommand 2)).settleImplicit 7 1).recordTlp 7 1 st d) .access none) = none)))) = true))
      | _ => false) = true)) ∧
    (7 < 512 ∧ 1 < 4 ∧ s6.alive = true ∧ ((match ((s6.settleImplicit 7 1).ring 7 1).runs with
      | d :: ds => decide (((s6.settleImplicit 7 1).finishStatus 7 1 d).any (fun st => decide (((if (decide (0x10 ≤ st)) then !noRecord st && s6.mayIssue 7 else dCmpl d.raw)) = true ∧
        s6.mayIssue 7 = true ∧
        (((s6.settleImplicit 7 1).engineSend (s6.engineOf 7 1) 7 ((s6.settleImplicit 7 1).recordTlp 7 1 st d) .access none)).any (fun (v, x) => decide ((match x with
      | .ok w eg fid f l m => true
      | _ => false) = true)) = true)) = true)
      | _ => false) = true)) ∧
    (7 < 512 ∧ 1 < 4 ∧ ov.alive = true ∧ ((match ((ov.settleImplicit 7 1).ring 7 1).runs with
      | d :: ds => decide (((ov.settleImplicit 7 1).finishStatus 7 1 d).any (fun st => decide (((if (decide (0x10 ≤ st)) then !noRecord st && ov.mayIssue 7 else dCmpl d.raw)) = true ∧
        ov.mayIssue 7 = true ∧
        (((ov.settleImplicit 7 1).engineSend (ov.engineOf 7 1) 7 ((ov.settleImplicit 7 1).recordTlp 7 1 st d) .access none)).any (fun (v, x) => decide ((match x with
      | .failed c w => true
      | _ => false) = true)) = true)) = true)
      | _ => false) = true)) ∧
    (7 < 512 ∧ 1 < 8 ∧
      ((bit ((pb 1).bar (Fn.inst 7).num 0x9000).toNat 1 && (pb 1).msixMay 7 1 && (pb 1).instPresent 7 && (pb 1).bound 7 (storeGet 0 (pb 1).pbaRing (8 * 7 + 1)))) = true ∧
      (((pb 1).engineSend ((pb 1).engineOf 7 (storeGet 0 (pb 1).pbaRing (8 * 7 + 1))) 7 ({ kind := .memWrite, tc := Fin.ofNat 8 ((pb 1).qTc 7 (storeGet 0 (pb 1).pbaRing (8 * 7 + 1))), len := 4, addr := BitVec.ofNat 64 (((pb 1).bar (Fn.inst 7).num (0x8000 + 16 * 1)).toNat + ((pb 1).bar (Fn.inst 7).num (0x8000 + 16 * 1 + 4)).toNat * 2 ^ 32), data := leBytes 4 ((pb 1).bar (Fn.inst 7).num (0x8000 + 16 * 1 + 8)).toNat }) .access none)).isSome = true) ∧
    (7 < 512 ∧ 7 < 8 ∧
      (((bit (np.bar (Fn.inst 7).num 0x9000).toNat 7 && np.msixMay 7 7 && np.instPresent 7 && np.bound 7 (storeGet 0 np.pbaRing (8 * 7 + 7)))) = false ∨
      (np.engineSend (np.engineOf 7 (storeGet 0 np.pbaRing (8 * 7 + 7))) 7 ({ kind := .memWrite, tc := Fin.ofNat 8 (np.qTc 7 (storeGet 0 np.pbaRing (8 * 7 + 7))), len := 4, addr := BitVec.ofNat 64 ((np.bar (Fn.inst 7).num (0x8000 + 16 * 7)).toNat + (np.bar (Fn.inst 7).num (0x8000 + 16 * 7 + 4)).toNat * 2 ^ 32), data := leBytes 4 (np.bar (Fn.inst 7).num (0x8000 + 16 * 7 + 8)).toNat }) .access none) = none)) := by
  refine ⟨?_, ?_, ?_, ?_, ?_, ?_, ?_, ?_, ?_⟩ <;> decide +kernel

end DescriptorEnds

namespace TimeoutsAndAborts
def up (s : State) (p part : Nat) : State := { (((s.fset (R.PEP_PORT_CTL_ROLE p) 1).fset (R.PEP_PORT_CTL_PART p) part).fset (R.PEP_PORT_STS_PRESENT p) 1).fset (R.PEP_PORT_STS_DL_ACTIVE p) 1 with sw := { s.sw with ports := storePut {} p { up := true } s.sw.ports } }
def s0 := at_ (md mFABRIC) 3000000000
def s1 := win ((((((up s0 5 3).fset R.DEV_MODE_STS_FW_RUNNING 1).fset (R.VIM_INST_OWNER_TENANT_PART 7) 3).fset (R.VIM_INST_OWNER_MGR_PART 7) 3).fset (R.VIM_INST_STS_STATE 7) iACTIVE).fset (R.VIM_INST_STS_HG 7) 1) 2 0x10000000 20 5
def s2 := ((s1.setCfg (Fn.inst 7).num cCommand 6).setReg (R.VIM_INST_RING 7) 0x8300).setCfg (Fn.inst 7).num cMsix 0x80000011#32
def s3 := ((s2.setQreg 7 1 qCFG 0x10004).setQreg 7 1 qPROD 5).setQreg 7 1 qBASE 0x10000000
def dr (n : Nat) : DescRun := { n := n, raw := 1 }
def tg (w : ReadFor) : EngTag := { id := 1, engine := 3, inst := 7, ring := 1, reqId := 3, tag := 5, why := w, len := 32 }
def t1 := tg (.source 0 16)
def t2 := { tg (.source 0 16) with discard := true }
def t3 := { tg (.source 0 16) with recovery := true }
def s4 := { s3.modRing 7 1 fun r => { r with runs := [dr 0] } with engTags := [{ tg (.fetch 3) with id := 7 }, t1] }
def s6 := { s4 with engTags := [t3] }
def s7 := (s6.fset (R.VIM_INST_STS_STATE 7) iRESETTING).modInst 7 fun x => { x with byFlr := true, resetStart := 5 }
def s8 := (s3.fset (R.ENG_STS_STATE 3) 2).modEng 3 fun x => { x with autoRestart := true }
def fnc : Fence := { toRead := [], outstanding := 2 }
def drF : DescRun := { n := 0, raw := 7, fence := some fnc }
def t4 := { tg (.fetch 3) with recovery := true }
def t5 := { tg (.source 0 16) with stopped := true }
def t6 := { tg (.fence 0) with recovery := false }
def t7 := { tg (.source 2 16) with recovery := true }
def t8 := { tg .implicit with recovery := true }
def t9 := { tg (.fetch 3) with recovery := false }
def r9 (s : State) (x : EngTag) : State := { s.modRing 7 1 fun r => { r with runs := [drF, dr 1, dr 5], ahead := [dr 2] } with engTags := [x] }
def sA := [t1,t2,t3,t4,t5,t6,t7,t8,t9].map (r9 s3)

/-- The hypotheses of each clause of `Obligations.TimeoutsAndAborts` are met. -/
theorem witness_TimeoutsAndAborts :
    (s4.alive = true ∧ ((s4.engTags.find? fun t => t.id == t1.id) = some t1) ∧ t1.engine < 16 ∧
      true = (!t1.recovery && !t1.stopped && s4.instState t1.inst != iRESETTING && decide (t1.issued + 1250000 * s4.fget (R.ENG_CTO_MS t1.engine) ≤ s4.now)) ∧
      false = ((t1.stopped || (t1.recovery && s4.instState t1.inst != iRESETTING)) && decide (t1.issued + 1250 * s4.fget (R.ENG_CTO_RECOV_US t1.engine) ≤ s4.now)) ∧
      false = (s4.instState t1.inst == iRESETTING && decide ((s4.inst t1.inst).resetStart + 12500000 ≤ s4.now)) ∧
      true = true) ∧
    (s6.alive = true ∧ ((s6.engTags.find? fun t => t.id == t3.id) = some t3) ∧ t3.engine < 16 ∧
      false = (!t3.recovery && !t3.stopped && s6.instState t3.inst != iRESETTING && decide (t3.issued + 1250000 * s6.fget (R.ENG_CTO_MS t3.engine) ≤ s6.now)) ∧
      true = ((t3.stopped || (t3.recovery && s6.instState t3.inst != iRESETTING)) && decide (t3.issued + 1250 * s6.fget (R.ENG_CTO_RECOV_US t3.engine) ≤ s6.now)) ∧
      false = (s6.instState t3.inst == iRESETTING && decide ((s6.inst t3.inst).resetStart + 12500000 ≤ s6.now)) ∧
      false = false) ∧
    ((sA.getD 4 State.reset).alive = true ∧ (((sA.getD 4 State.reset).engTags.find? fun t => t.id == t5.id) = some t5) ∧
      t5.engine < 16 ∧
      false = (!t5.recovery && !t5.stopped && (sA.getD 4 State.reset).instState t5.inst != iRESETTING && decide (t5.issued + 1250000 * (sA.getD 4 State.reset).fget (R.ENG_CTO_MS t5.engine) ≤ (sA.getD 4 State.reset).now)) ∧
      true = ((t5.stopped || (t5.recovery && (sA.getD 4 State.reset).instState t5.inst != iRESETTING)) && decide (t5.issued + 1250 * (sA.getD 4 State.reset).fget (R.ENG_CTO_RECOV_US t5.engine) ≤ (sA.getD 4 State.reset).now)) ∧
      false = ((sA.getD 4 State.reset).instState t5.inst == iRESETTING && decide (((sA.getD 4 State.reset).inst t5.inst).resetStart + 12500000 ≤ (sA.getD 4 State.reset).now)) ∧
      true = true ∧ t5.stopped = true) ∧
    (s6.alive = true ∧ ((s6.engTags.find? fun t => t.id == t3.id) = some t3) ∧ t3.engine < 16 ∧
      false = (!t3.recovery && !t3.stopped && s6.instState t3.inst != iRESETTING && decide (t3.issued + 1250000 * s6.fget (R.ENG_CTO_MS t3.engine) ≤ s6.now)) ∧
      true = ((t3.stopped || (t3.recovery && s6.instState t3.inst != iRESETTING)) && decide (t3.issued + 1250 * s6.fget (R.ENG_CTO_RECOV_US t3.engine) ≤ s6.now)) ∧
      false = (s6.instState t3.inst == iRESETTING && decide ((s6.inst t3.inst).resetStart + 12500000 ≤ s6.now)) ∧
      true = true ∧ t3.stopped = false) ∧
    (s4.alive = true ∧ ((s4.engTags.find? fun t => t.id == t1.id) = some t1) ∧ t1.engine < 16 ∧
      true = (!t1.recovery && !t1.stopped && s4.instState t1.inst != iRESETTING && decide (t1.issued + 1250000 * s4.fget (R.ENG_CTO_MS t1.engine) ≤ s4.now)) ∧
      false = ((t1.stopped || (t1.recovery && s4.instState t1.inst != iRESETTING)) && decide (t1.issued + 1250 * s4.fget (R.ENG_CTO_RECOV_US t1.engine) ≤ s4.now)) ∧
      false = (s4.instState t1.inst == iRESETTING && decide ((s4.inst t1.inst).resetStart + 12500000 ≤ s4.now)) ∧
      false = false) ∧
    (s7.alive = true ∧ ((s7.engTags.find? fun t => t.id == t3.id) = some t3) ∧ t3.engine < 16 ∧
      false = (!t3.recovery && !t3.stopped && s7.instState t3.inst != iRESETTING && decide (t3.issued + 1250000 * s7.fget (R.ENG_CTO_MS t3.engine) ≤ s7.now)) ∧
      false = ((t3.stopped || (t3.recovery && s7.instState t3.inst != iRESETTING)) && decide (t3.issued + 1250 * s7.fget (R.ENG_CTO_RECOV_US t3.engine) ≤ s7.now)) ∧
      true = (s7.instState t3.inst == iRESETTING && decide ((s7.inst t3.inst).resetStart + 12500000 ≤ s7.now)) ∧
      true = true) ∧
    (s4.alive = true ∧ ((s4.engTags.find? fun t => t.id == t1.id) = some t1) ∧ t1.engine < 16 ∧
      true = (!t1.recovery && !t1.stopped && s4.instState t1.inst != iRESETTING && decide (t1.issued + 1250000 * s4.fget (R.ENG_CTO_MS t1.engine) ≤ s4.now)) ∧
      false = ((t1.stopped || (t1.recovery && s4.instState t1.inst != iRESETTING)) && decide (t1.issued + 1250 * s4.fget (R.ENG_CTO_RECOV_US t1.engine) ≤ s4.now)) ∧
      false = (s4.instState t1.inst == iRESETTING && decide ((s4.inst t1.inst).resetStart + 12500000 ≤ s4.now)) ∧
      false = false) ∧
    (3 < 16 ∧ s3.alive = true) ∧
    (3 < 16 ∧ s8.alive = true ∧ s8.fget (R.ENG_STS_STATE 3) = 2 ∧ s8.tagsOf 3 = []) ∧
    (3 < 16 ∧ s3.alive = true ∧ ¬ (s3.fget (R.ENG_STS_STATE 3) = 2 ∧ s3.tagsOf 3 = [])) ∧
    (3 < 16 ∧ (s3.fset (R.ENG_STS_STATE 3) 3).alive = true ∧
      (s3.fset (R.ENG_STS_STATE 3) 3).fget (R.ENG_STS_STATE 3) = 3 ∧
      bit (s3.fset (R.ENG_STS_STATE 3) 3).board.badEngines 3 = false) ∧
    (3 < 16 ∧ s3.alive = true ∧ ¬ (s3.fget (R.ENG_STS_STATE 3) = 3 ∧ bit s3.board.badEngines 3 = false)) := by
  refine ⟨?_, ?_, ?_, ?_, ?_, ?_, ?_, ?_, ?_, ?_, ?_, ?_⟩ <;> decide +kernel

end TimeoutsAndAborts

namespace CommandsToInstances
def up (s : State) (p part : Nat) : State := { (((s.fset (R.PEP_PORT_CTL_ROLE p) 1).fset (R.PEP_PORT_CTL_PART p) part).fset (R.PEP_PORT_STS_PRESENT p) 1).fset (R.PEP_PORT_STS_DL_ACTIVE p) 1 with sw := { s.sw with ports := storePut {} p { up := true } s.sw.ports } }
def s0 := at_ (md mFABRIC) 3000000000
def s1 := ((((up s0 5 3).fset R.DEV_MODE_STS_FW_RUNNING 1).fset (R.VIM_INST_OWNER_TENANT_PART 7) 3).fset (R.VIM_INST_OWNER_MGR_PART 7) 3).setReg (R.VIM_INST_SAVE_LO 7) 0x1000
def dr (n : Nat) : DescRun := { n := n, raw := 0 }
def s3 := (ins s1 7 iRESET id).modRing 7 1 fun r => { r with runs := [dr 5, {dr 6 with current := false}], ahead := [dr 7] }
def s6 := (ins s3 7 iFROZEN fun x => { x with fromRecovery := true }).modRing 7 0 fun r => { r with restored := true }

/-- The hypotheses of each clause of `Obligations.CommandsToInstances` are met. -/
theorem witness_CommandsToInstances :
    (0 < 512 ∧ s0.alive = true ∧ s0.cmdCause 0 2 = some 1) ∧
    (0 < 512 ∧ s0.alive = true ∧ s0.cmdCause 0 0 = none) ∧
    (7 < 512 ∧ s1.alive = true ∧ s1.cmdCause 7 1 = none) ∧
    (7 < 512 ∧ s3.alive = true ∧ s3.cmdCause 7 2 = none) ∧
    (7 < 512 ∧ s3.alive = true ∧ s3.cmdCause 7 3 = none) ∧
    (7 < 512 ∧ s6.alive = true ∧ s6.cmdCause 7 6 = none) ∧
    (7 < 512 ∧ s3.alive = true ∧ s3.cmdCause 7 7 = none) := by
  refine ⟨?_, ?_, ?_, ?_, ?_, ?_, ?_⟩ <;> decide +kernel

end CommandsToInstances

namespace SaveAndRestore
def up (s : State) (p part : Nat) : State := { (((s.fset (R.PEP_PORT_CTL_ROLE p) 1).fset (R.PEP_PORT_CTL_PART p) part).fset (R.PEP_PORT_STS_PRESENT p) 1).fset (R.PEP_PORT_STS_DL_ACTIVE p) 1 with sw := { s.sw with ports := storePut {} p { up := true } s.sw.ports } }
def s0 := at_ (md mFABRIC) 3000000000
def s1 := ((((up s0 5 3).fset R.DEV_MODE_STS_FW_RUNNING 1).fset (R.VIM_INST_OWNER_TENANT_PART 7) 3).fset (R.VIM_INST_OWNER_MGR_PART 7) 3).setReg (R.VIM_INST_SAVE_LO 7) 0x1000
def dr (n : Nat) : DescRun := { n := n, raw := 0 }
def s2 := ins s1 7 iFREE id
def s3 := (ins s1 7 iRESET id).modRing 7 1 fun r => { r with runs := [dr 5, {dr 6 with current := false}], ahead := [dr 7] }
def s6 := (ins s3 7 iFROZEN fun x => { x with fromRecovery := true }).modRing 7 0 fun r => { r with restored := true }
def shutS (s : State) : State := s.fset (R.VIM_INST_OWNER_MGR_PART 7) 10
def sF := ins s1 7 iFREE id

/-- The hypotheses of each clause of `Obligations.SaveAndRestore` are met. -/
theorem witness_SaveAndRestore :
    (7 < 512 ∧ s6.alive = true ∧ s6.cmdCause 7 4 = none ∧
      ((((s6.homeOf (s6.fget (R.VIM_INST_OWNER_MGR_PART 7))).bind (fun h => s6.egressTo 88 h.1 h.2 0)).any (fun e => !s6.shut e)) = true)) ∧
    (7 < 512 ∧ (shutS s6).alive = true ∧ (shutS s6).cmdCause 7 4 = none ∧
      (((((shutS s6).homeOf ((shutS s6).fget (R.VIM_INST_OWNER_MGR_PART 7))).bind (fun h => (shutS s6).egressTo 88 h.1 h.2 0)).any (fun e => !(shutS s6).shut e)) = false)) ∧
    (7 < 512 ∧ s2.alive = true ∧ s2.cmdCause 7 5 = none ∧
      ((((s2.homeOf (s2.fget (R.VIM_INST_OWNER_MGR_PART 7))).bind (fun h => s2.egressTo 88 h.1 h.2 0)).any (fun e => !s2.shut e)) = true)) ∧
    (7 < 512 ∧ (shutS sF).alive = true ∧ (shutS sF).cmdCause 7 5 = none ∧
      (((((shutS sF).homeOf ((shutS sF).fget (R.VIM_INST_OWNER_MGR_PART 7))).bind (fun h => (shutS sF).egressTo 88 h.1 h.2 0)).any (fun e => !(shutS sF).shut e)) = false)) := by
  refine ⟨?_, ?_, ?_, ?_⟩ <;> decide +kernel

end SaveAndRestore

namespace InstanceEnds
def up (s : State) (p part : Nat) : State := { (((s.fset (R.PEP_PORT_CTL_ROLE p) 1).fset (R.PEP_PORT_CTL_PART p) part).fset (R.PEP_PORT_STS_PRESENT p) 1).fset (R.PEP_PORT_STS_DL_ACTIVE p) 1 with sw := { s.sw with ports := storePut {} p { up := true } s.sw.ports } }
def s0 := at_ (md mFABRIC) 3000000000
def s1 := ((((up s0 5 3).fset R.DEV_MODE_STS_FW_RUNNING 1).fset (R.VIM_INST_OWNER_TENANT_PART 7) 3).fset (R.VIM_INST_OWNER_MGR_PART 7) 3).setReg (R.VIM_INST_SAVE_LO 7) 0x1000
def dr (n : Nat) : DescRun := { n := n, raw := 0 }
def s3 := (ins s1 7 iRESET id).modRing 7 1 fun r => { r with runs := [dr 5, {dr 6 with current := false}], ahead := [dr 7] }
def s4 := (ins s3 7 iACTIVE fun x => { x with cmd := 1 })
def fz (s : State) (f : Bool) : State := (upTo 4).foldl (fun s q => s.modRing 7 q fun r => { r with freeze := some { failed := f && q == 2 } }) s
def s8 := ins s3 7 iSETUP fun x => { x with cmd := 2 }
def s9 := fz (ins s1 7 iACTIVE fun x => { x with cmd := 3, frozenFrom := iACTIVE }) false
def s10 := fz s9 true
def cr (w : CoreWhy) (d : List Byte) : CoreRead := { id := 1, why := w, len := 128, data := d, done := true }
def s11 := { ins s3 7 iACTIVE fun x => { x with cmd := 4, cmdStart := 5 } with coreReads := [cr (.save 7) []] }
def rc : List Byte := (leBytes 8 (0x53565843 + 2 ^ 32) ++ List.replicate 4084 0) ++ leBytes 4 0xD818155F
def s13 := { ins s1 7 iSETUP fun x => { x with cmd := 5, cmdStart := 5 } with coreReads := [cr (.restore 7 0) rc] }
def s14 := { s13 with coreReads := [cr (.restore 7 0) []] }
def s15 := { s13 with coreReads := [{ cr (.restore 7 0) [] with done := false }] }
def s16 := (ins s3 7 iRESETTING fun x => { x with byFlr := true, abandoned := 70000 }).fset (R.VIM_INST_CTL_AUTO_OPEN 7) 1
def sQ := { s13 with coreReads := [{cr (.restore 7 0) (rc.take 2048) with failed := true}, {cr (.restore 7 2048) (rc.take 2048) with failed := false}] }
def sS := s11.modInst 7 fun x => { x with cmd := 0 }

/-- The hypotheses of each clause of `Obligations.InstanceEnds` are met. -/
theorem witness_InstanceEnds :
    (7 < 512 ∧ s4.alive = true ∧ (s4.inst 7).cmd = 1) ∧
    (7 < 512 ∧ s8.alive = true ∧ (s8.inst 7).cmd = 2) ∧
    (7 < 512 ∧ s8.alive = true ∧ (s8.inst 7).cmd ≠ 1) ∧
    (0 < 512 ∧ s8.alive = true ∧ (s8.inst 0).cmd ≠ 2) ∧
    (7 < 512 ∧ s8.alive = true ∧ ((s8.inst 7).cmd ≠ 3 ∨ s8.instTags 7 ≠ [] ∨
      (upTo 4).any (fun q => ((s8.ring 7 q).freeze.any s8.fenceOver) == false) = true)) ∧
    (7 < 512 ∧ s9.alive = true ∧ (s9.inst 7).cmd = 3 ∧ s9.instTags 7 = [] ∧
      (∀ q, q < 4 → ((s9.ring 7 q).freeze.any fun f => s9.fenceOver f && !f.failed) = true)) ∧
    (7 < 512 ∧ s10.alive = true ∧ (s10.inst 7).cmd = 3 ∧ s10.instTags 7 = [] ∧
      (∀ q, q < 4 → ((s10.ring 7 q).freeze.any fun f => s10.fenceOver f) = true) ∧
      ((s10.ring 7 2).freeze.any fun f => f.failed) = true) ∧
    (7 < 512 ∧ s11.alive = true ∧ (s11.inst 7).cmd = 4 ∧
      ((s11.coreReads.find? fun r => r.why == .save 7 && r.done) = some (cr (.save 7) []))) ∧
    (7 < 512 ∧ sS.alive = true ∧ (sS.inst 7).cmd ≠ 4 ∧ ((sS.coreReads.any fun r => r.why == .save 7 && r.done) = true)) ∧
    (7 < 512 ∧ s8.alive = true ∧ ((s8.coreReads.any fun r => r.why == .save 7 && r.done) = false)) ∧
    (7 < 512 ∧ s8.alive = true ∧ ((s8.inst 7).cmd ≠ 4 ∨ s8.now ≤ (s8.inst 7).cmdStart + 12500000)) ∧
    (7 < 512 ∧ s11.alive = true ∧ (s11.inst 7).cmd = 4 ∧ (s11.inst 7).cmdStart + 12500000 < s11.now) ∧
    (7 < 512 ∧ s14.alive = true ∧ (s14.inst 7).cmd = 5 ∧ s14.restoreReads 7 ≠ [] ∧
      (∀ r ∈ s14.restoreReads 7, r.done = true ∧ r.failed = false) ∧
      (s14.restoreCause 7 ((s14.restoreReads 7).flatMap (·.data))).isSome = true) ∧
    (7 < 512 ∧ sQ.alive = true ∧ (sQ.inst 7).cmd = 5 ∧ (sQ.restoreReads 7).all (·.done) = true ∧
      (sQ.restoreReads 7).any (·.failed) = true) ∧
    (7 < 512 ∧ s8.alive = true ∧ ((s8.inst 7).cmd ≠ 5 ∨ s8.restoreReads 7 = [] ∨ (s8.restoreReads 7).all (·.done) = false)) ∧
    (7 < 512 ∧ s8.alive = true ∧ ((s8.inst 7).cmd ≠ 5 ∨ s8.now ≤ (s8.inst 7).cmdStart + 12500000 ∨
      (s8.restoreReads 7).all (·.done) = true)) ∧
    (7 < 512 ∧ s15.alive = true ∧ (s15.inst 7).cmd = 5 ∧ (s15.inst 7).cmdStart + 12500000 < s15.now ∧
      (∃ r ∈ s15.restoreReads 7, r.done = false)) ∧
    (7 < 512 ∧ s9.alive = true ∧ s9.instState 7 ∉ [iFREE, iSETUP, iRESETTING]) ∧
    (7 < 512 ∧ s8.alive = true ∧ s8.instState 7 ∈ [iFREE, iSETUP]) ∧
    (7 < 512 ∧ s16.alive = true ∧ s16.instState 7 = iRESETTING) ∧
    (7 < 512 ∧ s16.alive = true ∧ s16.instState 7 = iRESETTING) ∧
    (7 < 512 ∧ s16.alive = true ∧ s16.instState 7 = iRESETTING ∧ s16.instTags 7 = []) ∧
    (7 < 512 ∧ s8.alive = true ∧ (s8.instState 7 ≠ iRESETTING ∨ s8.instTags 7 ≠ [])) := by
  refine ⟨?_, ?_, ?_, ?_, ?_, ?_, ?_, ?_, ?_, ?_, ?_, ?_, ?_, ?_, ?_, ?_, ?_, ?_, ?_, ?_, ?_, ?_, ?_⟩ <;> decide +kernel

/-- The CRC of a record whose words but the first two are zero, in four parts. -/
theorem crc_rc : crc32c (rc.take 0xFFC) = 0xD818155F#32 := by
  have h : rc.take 0xFFC = leBytes 8 (0x53565843 + 2 ^ 32) ++ List.replicate (1021 + (1021 + (1021 + 1021))) 0 :=
    List.take_left' (by simp [leBytes])
  have run (c : W32) (xs ys : List Byte) : crcRun c (xs ++ ys) = crcRun (crcRun c xs) ys := by
    induction xs generalizing c with
    | nil => rfl
    | cons x xs ih => exact ih _
  have h0 : crcRun 0xFFFFFFFF (leBytes 8 (0x53565843 + 2 ^ 32)) = 0x9026ECF1#32 := by decide +kernel
  have h1 : crcRun 0x9026ECF1#32 (List.replicate 1021 0) = 0x75F8ACBF#32 := by decide +kernel
  have h2 : crcRun 0x75F8ACBF#32 (List.replicate 1021 0) = 0x432D0A44#32 := by decide +kernel
  have h3 : crcRun 0x432D0A44#32 (List.replicate 1021 0) = 0xE1887FE8#32 := by decide +kernel
  have h4 : crcRun 0xE1887FE8#32 (List.replicate 1021 0) = 0x27E7EAA0#32 := by decide +kernel
  rw [h, crc32c, run, h0, ← List.replicate_append_replicate, run, h1, ← List.replicate_append_replicate, run, h2,
    ← List.replicate_append_replicate, run, h3, h4]
  decide

/-- A record that has been read whole and has no cause for refusal, for `RESTORE_DONE`. -/
theorem witness_InstanceEnds_restore :
    s13.alive = true ∧ (s13.inst 7).cmd = 5 ∧ s13.restoreReads 7 ≠ [] ∧
      (∀ r ∈ s13.restoreReads 7, r.done = true ∧ r.failed = false) ∧
      s13.restoreCause 7 ((s13.restoreReads 7).flatMap (·.data)) = none := by
  have hr : s13.restoreReads 7 = [cr (.restore 7 0) rc] := rfl
  have hd : ([cr (.restore 7 0) rc]).flatMap (·.data) = rc := by simp [cr]
  refine ⟨by decide +kernel, by decide +kernel, by simp [hr], by simp [hr, cr], ?_⟩
  rw [hr, hd]
  unfold State.restoreCause
  rw [crc_rc]
  decide +kernel


end InstanceEnds

namespace InstanceIssue
def up (s : State) (p part : Nat) : State := { (((s.fset (R.PEP_PORT_CTL_ROLE p) 1).fset (R.PEP_PORT_CTL_PART p) part).fset (R.PEP_PORT_STS_PRESENT p) 1).fset (R.PEP_PORT_STS_DL_ACTIVE p) 1 with sw := { s.sw with ports := storePut {} p { up := true } s.sw.ports } }
def s0 := at_ (md mFABRIC) 3000000000
def s1 := ((((up s0 5 3).fset R.DEV_MODE_STS_FW_RUNNING 1).fset (R.VIM_INST_OWNER_TENANT_PART 7) 3).fset (R.VIM_INST_OWNER_MGR_PART 7) 3).setReg (R.VIM_INST_SAVE_LO 7) 0x1000
def dr (n : Nat) : DescRun := { n := n, raw := 0 }
def s3 := (ins s1 7 iRESET id).modRing 7 1 fun r => { r with runs := [dr 5, {dr 6 with current := false}], ahead := [dr 7] }
def fz (s : State) (f : Bool) : State := (upTo 4).foldl (fun s q => s.modRing 7 q fun r => { r with freeze := some { failed := f && q == 2 } }) s
def s8 := ins s3 7 iSETUP fun x => { x with cmd := 2 }
def s9 := fz (ins s1 7 iACTIVE fun x => { x with cmd := 3, frozenFrom := iACTIVE }) false
def s16 := (ins s3 7 iRESETTING fun x => { x with byFlr := true, abandoned := 70000 }).fset (R.VIM_INST_CTL_AUTO_OPEN 7) 1

/-- The hypotheses of each clause of `Obligations.InstanceIssue` are met. -/
theorem witness_InstanceIssue :
    (7 < 512 ∧ s16.alive = true ∧ s16.instState 7 = iRESETTING) ∧
    (7 < 512 ∧ s8.alive = true ∧ s8.instState 7 ≠ iRESETTING) ∧
    (7 < 512 ∧ s8.alive = true) ∧
    (7 < 512 ∧ s9.alive = true ∧ s9.instState 7 ≠ iFREE ∧ s9.flag (R.VIM_INST_STS_IDLE 7) = false ∧ s9.instQuiet 7 = true) ∧
    (7 < 512 ∧ s8.alive = true ∧ (s8.instState 7 = iFREE ∨ s8.flag (R.VIM_INST_STS_IDLE 7) = true ∨
      s8.instQuiet 7 = false)) ∧
    (7 < 512 ∧ s8.alive = true ∧
      ((s8.instPresent 7 && s8.instState 7 != iRESETTING && if false then !s8.d3hot (Fn.inst 7).num else s8.busMaster (Fn.inst 7).num)) = false) ∧
    (7 < 512 ∧ s9.alive = true ∧
      ((s9.instPresent 7 && s9.instState 7 != iRESETTING && if true then !s9.d3hot (Fn.inst 7).num else s9.busMaster (Fn.inst 7).num)) = true) := by
  refine ⟨?_, ?_, ?_, ?_, ?_, ?_, ?_⟩ <;> decide +kernel

end InstanceIssue

namespace LinkStates
def s0 := at_ (md mFABRIC) 3000000000
def s1 := ls s0 2 lsDETECT id
def s3 := ls s0 2 lsTRAIN id
def s4 := ls s0 2 lsTRAIN fun l => { l with hello := some (3,2,2,512,0xFF) }
def s5 := { s4 with board := { s0.board with badLinks := 4 } }
def s6 := { ls s0 2 lsUP fun l => { l with replay := [pk 4095, pk 0], seen := [9,1,2], bins := [[1,1,1,1,1,1,1,1,1]] } with sw := { s0.sw with ports := storePut {} 66 { up := true, epoch := 15 } s0.sw.ports }, govAt := [(gLANE, 2999999999)] }
def s7 := ls s6 2 lsRETRAIN fun l => { l with echoed := true, hello := some (3,2,2,512,0xFF) }
def s9 := ls s6 2 lsUP fun l => { l with replay := [] }
def s7a := ls s7 2 lsRETRAIN fun l => { l with aligned := true, lanes := 0xFF }
def s10a := ls s6 2 lsCHANGE fun l => { l with replay := [], change := some (2,1,0xF,true), aligned := true }
def s2b := ls (s0.setReg (R.MFL_AL_LOCK 2) 0x01FE0000#32) 2 lsALIGN id
def s10 := ls s6 2 lsCHANGE fun l => { l with replay := [], change := some (2,1,0xF,true) }
def line0 : Nat := (upTo 64).foldl (fun n k => n + (blockOf false (BitVec.ofNat 64 (k * 12345))).toNat * 2 ^ (69 * k)) 0
def e1 := (ls s0 2 lsDETECT id).fset (R.MFL_LINK_CTL_ENABLE 2) 1
def e2 := (ls s0 2 lsTRAIN fun l => { l with hello := some (3,2,2,512,0x1FF), echoed := true, lanes := 0x1FF, aligned := true }).fset (R.MFL_LINK_CTL_WIDTH 2) 2
def e6 := ls s7a 2 lsRETRAIN fun l => { l with replay := [{pk 3 with ue := true}], vc4 := [] }
def aligns0 : List (Nat × Nat) := (upTo 9).map fun l => (laneName false l, 5)
def sR := ls (s2b.fset (R.MFL_LINK_STS_PEER_FID 2) 3) 2 lsRETRAIN id

/-- The hypotheses of each clause of `Obligations.LinkStates` are met. -/
theorem witness_LinkStates :
    (2 < 8 ∧ e1.alive = true ∧
      ((e1.linkState 2 == lsDETECT && e1.linksAllowed && !e1.linkTested 2 && e1.flag (R.MFL_LINK_CTL_ENABLE 2))) = true) ∧
    (0 < 8 ∧ s0.alive = true ∧
      ((s0.linkState 0 == lsDETECT && s0.linksAllowed && !s0.linkTested 0 && s0.flag (R.MFL_LINK_CTL_ENABLE 0))) = false) ∧
    (0 < 8 ∧ s0.alive = true ∧ 0 < 9 ∧ (hunt 0 0 (0 + 2) 0 0 0 0).1 = none) ∧
    (2 < 8 ∧ s2b.alive = true ∧ (hunt line0 4416 4418 0 0 0 0).1 ≠ none ∧
      ((putBits (s2b.fget ⟨R.MFL_AL_LOCK 2, 24, 16⟩) 2 2 1 == 0x1FF && s2b.linksAllowed && [lsALIGN, lsRETRAIN, lsCHANGE].contains (s2b.linkState 2))) = false) ∧
    (2 < 8 ∧ s2b.alive = true ∧ (hunt line0 4416 4418 0 0 0 0).1 ≠ none ∧
      ((putBits (s2b.fget ⟨R.MFL_AL_LOCK 2, 24, 16⟩) 0 0 1 == 0x1FF && s2b.linksAllowed && [lsALIGN, lsRETRAIN, lsCHANGE].contains (s2b.linkState 2))) = true ∧
      s2b.linkState 2 = lsALIGN ∧ 2 ≤ ((upTo 9).filter fun k => bit (deskewed aligns0) k).length) ∧
    (2 < 8 ∧ s2b.alive = true ∧ (hunt line0 4416 4418 0 0 0 0).1 ≠ none ∧
      ((putBits (s2b.fget ⟨R.MFL_AL_LOCK 2, 24, 16⟩) 0 0 1 == 0x1FF && s2b.linksAllowed && [lsALIGN, lsRETRAIN, lsCHANGE].contains (s2b.linkState 2))) = true ∧
      s2b.linkState 2 = lsALIGN ∧ ((upTo 9).filter fun k => bit (deskewed [(20, 3)]) k).length < 2) ∧
    (2 < 8 ∧ sR.alive = true ∧ (hunt line0 4416 4418 0 0 0 0).1 ≠ none ∧
      ((putBits (sR.fget ⟨R.MFL_AL_LOCK 2, 24, 16⟩) 0 0 1 == 0x1FF && sR.linksAllowed && [lsALIGN, lsRETRAIN, lsCHANGE].contains (sR.linkState 2))) = true ∧
      sR.linkState 2 ≠ lsALIGN) ∧
    (2 < 8 ∧ s3.alive = true ∧ 0 < 16 ∧ s3.linkState 2 = lsTRAIN ∧ s3.linksAllowed = true ∧ 0 = s3.selfFid) ∧
    (2 < 8 ∧ s3.alive = true ∧ 2 < 16 ∧ s3.linkState 2 = lsTRAIN ∧ s3.linksAllowed = true ∧ 2 ≠ s3.selfFid ∧
      ((s3.link 2).echoed = false ∨
      (((s3.sendCtl 2 (ctlTrain opECHO [s3.time80])).fset (R.MFL_LINK_STS_PEER_FID 2) 2).modLink 2 (fun l => { l with hello := some (2, min 0 2, min 0 2, 0, 0), peerWin := 0 })).settle 2 = none)) ∧
    (2 < 8 ∧ e2.alive = true ∧ 2 < 16 ∧ e2.linkState 2 = lsTRAIN ∧ e2.linksAllowed = true ∧ 2 ≠ e2.selfFid ∧
      (e2.link 2).echoed = true ∧
      (((((e2.sendCtl 2 (ctlTrain opECHO [e2.time80])).fset (R.MFL_LINK_STS_PEER_FID 2) 2).modLink 2 (fun l => { l with hello := some (2, min 0 2, min 0 2, 0, 7), peerWin := 0 })).settle 2).isSome = true)) ∧
    (2 < 8 ∧ s7.alive = true ∧ 0 < 16 ∧ s7.linkState 2 ∈ [lsRETRAIN, lsCHANGE] ∧ s7.linksAllowed = true ∧
      0 = s7.fget (R.MFL_LINK_STS_PEER_FID 2)) ∧
    (2 < 8 ∧ s7.alive = true ∧ 2 < 16 ∧ s7.linkState 2 ∈ [lsRETRAIN, lsCHANGE] ∧ s7.linksAllowed = true ∧
      2 ≠ s7.fget (R.MFL_LINK_STS_PEER_FID 2)) ∧
    (0 < 8 ∧ s0.alive = true ∧ 0 < 16 ∧ (s0.linksAllowed = false ∨ s0.linkState 0 ∉ [lsTRAIN, lsRETRAIN, lsCHANGE])) ∧
    (2 < 8 ∧ s3.alive = true ∧ ((s3.linksAllowed && [lsTRAIN, lsRETRAIN, lsCHANGE].contains (s3.linkState 2))) = true ∧
      (s3.linkState 2 ≠ lsTRAIN ∨
      ((s3.fset (R.MFL_RTT_NS 2) (min (roundTrip 0 0 0) 65535)).modLink 2 (fun l => { l with echoed := true })).settle 2 = none)) ∧
    (2 < 8 ∧ s4.alive = true ∧ ((s4.linksAllowed && [lsTRAIN, lsRETRAIN, lsCHANGE].contains (s4.linkState 2))) = true ∧
      s4.linkState 2 = lsTRAIN ∧
      ((((s4.fset (R.MFL_RTT_NS 2) (min (roundTrip 0 0 0) 65535)).modLink 2 (fun l => { l with echoed := true })).settle 2).isSome = true)) ∧
    (0 < 8 ∧ s0.alive = true ∧ ((s0.linksAllowed && [lsTRAIN, lsRETRAIN, lsCHANGE].contains (s0.linkState 0))) = false) ∧
    (2 < 8 ∧ s3.alive = true ∧
      ((((s3.linkState 2 == lsTRAIN && decide ((s3.link 2).entered + 12500000 ≤ s3.now)) || (s3.linkState 2 == lsALIGN && decide (((upTo 9).filter fun k => bit (s3.fget ⟨R.MFL_AL_LOCK 2, 24, 16⟩) k).length < 2)))) = true)) ∧
    (0 < 8 ∧ s0.alive = true ∧
      ((((s0.linkState 0 == lsTRAIN && decide ((s0.link 0).entered + 12500000 ≤ s0.now)) || (s0.linkState 0 == lsALIGN && decide (((upTo 9).filter fun k => bit (s0.fget ⟨R.MFL_AL_LOCK 0, 24, 16⟩) k).length < 2)))) = false)) ∧
    (0 < 8 ∧ s0.alive = true ∧ bit s0.board.badLinks 0 = false ∧ s0.linkState 0 = lsDISABLED) ∧
    (2 < 8 ∧ s1.alive = true ∧ bit s1.board.badLinks 2 = false ∧ s1.linkState 2 ≠ lsDISABLED) ∧
    (2 < 8 ∧ s5.alive = true ∧ bit s5.board.badLinks 2 = true) ∧
    (2 < 8 ∧ s6.alive = true ∧ s6.linkLive 2 = true) ∧
    (2 < 8 ∧ s1.alive = true ∧ s1.linkLive 2 = false ∧ s1.linkState 2 ≠ lsDISABLED) ∧
    (0 < 8 ∧ s0.alive = true ∧ s0.linkState 0 = lsDISABLED) ∧
    (2 < 8 ∧ s6.alive = true ∧ s6.linkState 2 = lsUP) ∧
    (2 < 8 ∧ s3.alive = true ∧ s3.linkState 2 ≠ lsUP ∧ s3.vc4Open 2 = true) ∧
    (0 < 8 ∧ s0.alive = true ∧ s0.linkState 0 ≠ lsUP ∧ s0.vc4Open 0 = false) ∧
    (2 < 8 ∧ s7a.alive = true ∧ ((s7a.linkState 2 == lsRETRAIN && (s7a.link 2).echoed && (s7a.link 2).aligned)) = true ∧
      ((s7a.settle 2).any (fun u => decide (((s7a.link 2).replay.any fun x => x.ue) = false)) = true)) ∧
    (2 < 8 ∧ e6.alive = true ∧ ((e6.linkState 2 == lsRETRAIN && (e6.link 2).echoed && (e6.link 2).aligned)) = true ∧
      ((e6.settle 2).any (fun u => decide (((e6.link 2).replay.any fun x => x.ue) = true)) = true)) ∧
    (0 < 8 ∧ s0.alive = true ∧ (((s0.linkState 0 == lsRETRAIN && (s0.link 0).echoed && (s0.link 0).aligned)) = false ∨
      s0.settle 0 = none)) ∧
    (2 < 8 ∧ s7.alive = true ∧ s7.linkState 2 = lsRETRAIN ∧ (s7.link 2).entered + 62500 ≤ s7.now) ∧
    (0 < 8 ∧ s0.alive = true ∧ (s0.linkState 0 ≠ lsRETRAIN ∨ s0.now < (s0.link 0).entered + 62500)) ∧
    (2 < 8 ∧ s9.alive = true ∧ s9.linkState 2 = lsUP ∧ (s9.link 2).change = none ∧
      ((widest (s9.link 2).lanes (s9.fget (R.MFL_LINK_CTL_WIDTH 2))).any (fun (w, set) => decide ((s9.link 2).replay = [])) = true)) ∧
    (2 < 8 ∧ s6.alive = true ∧ s6.linkState 2 = lsUP ∧ (s6.link 2).change = none ∧
      ((widest (s6.link 2).lanes (s6.fget (R.MFL_LINK_CTL_WIDTH 2))).any (fun (w, set) => decide ((s6.link 2).replay ≠ [])) = true)) ∧
    (0 < 8 ∧ s0.alive = true ∧ (s0.linkState 0 ≠ lsUP ∨ (s0.link 0).change ≠ none ∨
      widest (s0.link 0).lanes (s0.fget (R.MFL_LINK_CTL_WIDTH 0)) = none)) ∧
    (2 < 8 ∧ s6.alive = true ∧ 0 < 3 ∧ 0 < 3 ∧ 0 < 256 ∧ s6.linkState 2 ∈ [lsUP, lsCHANGE] ∧ (s6.link 2).change = none) ∧
    (2 < 8 ∧ s10.alive = true ∧ 0 < 3 ∧ 0 < 3 ∧ 0 < 256 ∧ s10.linkState 2 ∈ [lsUP, lsCHANGE] ∧
      ((s10.link 2).change).isSome = true) ∧
    (0 < 8 ∧ s0.alive = true ∧ s0.linkState 0 ∉ [lsUP, lsCHANGE]) ∧
    (2 < 8 ∧ s10a.alive = true ∧ s10a.linkState 2 = lsCHANGE ∧ (((s10a.link 2).change).any (fun x => decide (x.1 < 3 ∧
      x.2.1 < 3 ∧ ((x.2.2.2 && (s10a.link 2).aligned && setRuns (s10a.link 2).lanes x.2.2.1)) = true)) = true)) ∧
    (2 < 8 ∧ s10.alive = true ∧ s10.linkState 2 = lsCHANGE ∧ (((s10.link 2).change).any (fun x => decide (x.1 < 3 ∧
      x.2.1 < 3 ∧ ((x.2.2.2 && (s10.link 2).aligned && setRuns (s10.link 2).lanes x.2.2.1)) = false)) = true)) ∧
    (0 < 8 ∧ s0.alive = true ∧ (s0.linkState 0 ≠ lsCHANGE ∨ (s0.link 0).change = none)) ∧
    (2 < 8 ∧ s3.alive = true ∧ 0 < 16 ∧ 0 = (if 0 < 8 then 0 else 0xF) ∧ lsTRAIN ≤ s3.linkState 2) ∧
    (0 < 8 ∧ s0.alive = true ∧ 0 < 16 ∧ 0 = (if 0 < 8 then 0 else 0xF) ∧ s0.linkState 0 < lsTRAIN) ∧
    (2 < 8 ∧ s3.alive = true ∧ 0 < 16 ∧ 0 = (if 0 < 8 then 0 else 0xF) ∧ lsTRAIN ≤ s3.linkState 2) ∧
    (0 < 8 ∧ s0.alive = true ∧ 0 < 16 ∧ 0 = (if 0 < 8 then 0 else 0xF) ∧ s0.linkState 0 < lsTRAIN) ∧
    (0 < 8 ∧ s0.alive = true ∧ storeGet 0 s0.govAt gLANE + 125000000 ≤ s0.now) ∧
    (0 < 8 ∧ s6.alive = true ∧ s6.now < storeGet 0 s6.govAt gLANE + 125000000) := by
  refine ⟨?_, ?_, ?_, ?_, ?_, ?_, ?_, ?_, ?_, ?_, ?_, ?_, ?_, ?_, ?_, ?_, ?_, ?_, ?_, ?_, ?_, ?_, ?_, ?_, ?_, ?_, ?_, ?_, ?_, ?_, ?_, ?_, ?_, ?_, ?_, ?_, ?_, ?_, ?_, ?_, ?_, ?_, ?_, ?_, ?_, ?_, ?_⟩ <;> decide +kernel

end LinkStates

namespace LinkDelivery
def s0 := at_ (md mFABRIC) 3000000000
def s6 := { ls s0 2 lsUP fun l => { l with replay := [pk 4095, pk 0], seen := [9,1,2], bins := [[1,1,1,1,1,1,1,1,1]] } with sw := { s0.sw with ports := storePut {} 66 { up := true, epoch := 15 } s0.sw.ports }, govAt := [(gLANE, 2999999999)] }
def s8 := ls (s6.fset (R.MFL_REPLAY_LIMIT_LIMIT 2) 3) 2 lsUP fun l => { l with replay := [{pk 4095 with count := 3}, pk 0], sinceAck := 3, nak := some 5 }
def s9 := (ls s6 2 lsUP fun l => { l with replay := [], sinceAck := 100, firstAck := 2999999999 }).setReg (R.MFL_LINK_STS 2) ((s6.reg (R.MFL_LINK_STS 2)) ||| 0xFFFF0000#32)
def sc (d : W64) : BitVec 69 := blockOf true (scrambled (laneSeed 2) d)
def sc0 (d : W64) : BitVec 69 := blockOf true d
def s12 := (s6.modLink 2 fun l => { l with marks := List.replicate 9 (0x7FFF, 0), rows := 1 }).setReg (R.MFL_AL_LOCK 2) 0x01FF0000#32

/-- The hypotheses of each clause of `Obligations.LinkDelivery` are met. -/
theorem witness_LinkDelivery :
    (2 < 8 ∧ s8.alive = true ∧
      ((decide (s8.fget (R.MFL_ACK_CTL_ACK_N 2) ≤ (s8.link 2).sinceAck) || ((s8.link 2).sinceAck != 0 && decide ((s8.link 2).firstAck + cyclesOfNs (s8.fget (R.MFL_ACK_CTL_ACK_T 2)) ≤ s8.now)))) = true) ∧
    (0 < 8 ∧ s0.alive = true ∧
      ((decide (s0.fget (R.MFL_ACK_CTL_ACK_N 0) ≤ (s0.link 0).sinceAck) || ((s0.link 0).sinceAck != 0 && decide ((s0.link 0).firstAck + cyclesOfNs (s0.fget (R.MFL_ACK_CTL_ACK_T 0)) ≤ s0.now)))) = false) ∧
    (0 < 8 ∧ s0.alive = true ∧ 0 < 32 ∧ (([] : List Packet)) = leftBy (s0.link 0).replay 0) ∧
    (2 < 8 ∧ s6.alive = true ∧ 0 < 4096 ∧ 0 < 32 ∧
      (true = false → ((leftBy (s6.link 2).replay (0 + 4095)).head?.any fun p => p.seq == 0) = true ∧ s6.vc4Open 2 = true ∧
      (s6.link 2).progress + cyclesOfNs (s6.fget (R.MFL_REPLAY_CTL_TMO 2)) ≤ s6.now) ∧
      ((((leftBy (s6.link 2).replay (0 + 4095)).find? fun p => p.seq == 0)).isSome = true)) ∧
    (0 < 8 ∧ s0.alive = true ∧ 0 < 32 ∧ 0 < 4096 ∧ (([] : List Packet)) = leftBy (s0.link 0).replay (0 + 4095) ∧
      (∀ p ∈ (([] : List Packet)), p.seq ≠ 0)) ∧
    (0 < 8 ∧ s0.alive = true ∧ ((s0.link 0).replay = [] ∨ s0.vc4Open 0 = false ∨
      s0.now < (s0.link 0).progress + cyclesOfNs (s0.fget (R.MFL_REPLAY_CTL_TMO 0)))) ∧
    (0 < 8 ∧ s0.alive = true ∧ 0 < 32) ∧
    (2 < 8 ∧ s9.alive = true ∧
      ((s9.vc4Open 2 && decide ((s9.link 2).maskAt + cyclesOfNs (s9.fget (R.MFL_RTT_NS 2)) ≤ s9.now) && (s9.fget (R.MFL_LINK_STS_XOFF_RX 2) != 0 || (s9.link 2).xonDue))) = true) ∧
    (0 < 8 ∧ s0.alive = true ∧
      ((s0.vc4Open 0 && decide ((s0.link 0).maskAt + cyclesOfNs (s0.fget (R.MFL_RTT_NS 0)) ≤ s0.now) && (s0.fget (R.MFL_LINK_STS_XOFF_RX 0) != 0 || (s0.link 0).xonDue))) = false) ∧
    (0 < 8 ∧ s0.alive = true ∧ 0 < 9 ∧ blockGood ((blockOf false 5 : BitVec 69)) = true ∧
      blockCtl ((blockOf false 5 : BitVec 69)) = false) ∧
    (0 < 8 ∧ s0.alive = true ∧ 2 < 9 ∧ blockGood ((sc0 (ctlAlign 2 5 64) : BitVec 69)) = true ∧
      blockCtl ((sc0 (ctlAlign 2 5 64) : BitVec 69)) = true ∧
      ((bits ((blockData ((sc0 (ctlAlign 2 5 64) : BitVec 69))).toNat) 7 0 == cbALIGN && (s0.alignNames 0 2).contains (bits ((blockData ((sc0 (ctlAlign 2 5 64) : BitVec 69))).toNat) 11 8) && bits ((blockData ((sc0 (ctlAlign 2 5 64) : BitVec 69))).toNat) 15 12 == 0)) = true) ∧
    (0 < 8 ∧ s0.alive = true ∧ 0 < 9 ∧ blockGood ((sc0 (ctlAlign 2 5 64) : BitVec 69)) = true ∧
      blockCtl ((sc0 (ctlAlign 2 5 64) : BitVec 69)) = true ∧
      ((bits ((blockData ((sc0 (ctlAlign 2 5 64) : BitVec 69))).toNat) 7 0 == cbALIGN && (s0.alignNames 0 0).contains (bits ((blockData ((sc0 (ctlAlign 2 5 64) : BitVec 69))).toNat) 11 8) && bits ((blockData ((sc0 (ctlAlign 2 5 64) : BitVec 69))).toNat) 15 12 == 0)) = false ∧
      bits ((scrambled ((s0.link 0).rxScr.getD 0 0) (blockData ((sc0 (ctlAlign 2 5 64) : BitVec 69)))).toNat) 7 0 ∈ [cbIDLE, cbTRAIN, cbNULL]) ∧
    (0 < 8 ∧ s0.alive = true ∧ 2 < 9 ∧ blockGood ((sc (ctlSeq cbACK 4095 3) : BitVec 69)) = true ∧
      blockCtl ((sc (ctlSeq cbACK 4095 3) : BitVec 69)) = true ∧
      ((bits ((blockData ((sc (ctlSeq cbACK 4095 3) : BitVec 69))).toNat) 7 0 == cbALIGN && (s0.alignNames 0 2).contains (bits ((blockData ((sc (ctlSeq cbACK 4095 3) : BitVec 69))).toNat) 11 8) && bits ((blockData ((sc (ctlSeq cbACK 4095 3) : BitVec 69))).toNat) 15 12 == 0)) = false ∧
      bits ((scrambled ((s0.link 0).rxScr.getD 2 0) (blockData ((sc (ctlSeq cbACK 4095 3) : BitVec 69)))).toNat) 7 0 = cbACK) ∧
    (0 < 8 ∧ s0.alive = true ∧ 0 < 9 ∧ blockGood ((sc0 (ctlSeq cbACK 4095 3) : BitVec 69)) = true ∧
      blockCtl ((sc0 (ctlSeq cbACK 4095 3) : BitVec 69)) = true ∧
      ((bits ((blockData ((sc0 (ctlSeq cbACK 4095 3) : BitVec 69))).toNat) 7 0 == cbALIGN && (s0.alignNames 0 0).contains (bits ((blockData ((sc0 (ctlSeq cbACK 4095 3) : BitVec 69))).toNat) 11 8) && bits ((blockData ((sc0 (ctlSeq cbACK 4095 3) : BitVec 69))).toNat) 15 12 == 0)) = false ∧
      bits ((scrambled ((s0.link 0).rxScr.getD 0 0) (blockData ((sc0 (ctlSeq cbACK 4095 3) : BitVec 69)))).toNat) 7 0 = cbNAK) ∧
    (0 < 8 ∧ s0.alive = true ∧ 2 < 9 ∧ blockGood ((sc (ctlFlow cbXOFF 0 1) : BitVec 69)) = true ∧
      blockCtl ((sc (ctlFlow cbXOFF 0 1) : BitVec 69)) = true ∧
      ((bits ((blockData ((sc (ctlFlow cbXOFF 0 1) : BitVec 69))).toNat) 7 0 == cbALIGN && (s0.alignNames 0 2).contains (bits ((blockData ((sc (ctlFlow cbXOFF 0 1) : BitVec 69))).toNat) 11 8) && bits ((blockData ((sc (ctlFlow cbXOFF 0 1) : BitVec 69))).toNat) 15 12 == 0)) = false ∧
      bits ((scrambled ((s0.link 0).rxScr.getD 2 0) (blockData ((sc (ctlFlow cbXOFF 0 1) : BitVec 69)))).toNat) 7 0 ∈ [cbXOFF, cbXON]) ∧
    (0 < 8 ∧ s0.alive = true ∧ 0 < 9 ∧ blockGood ((0 : BitVec 69)) = false ∧
      ((decide (16 ≤ badMarks ((((s0.link 0).marks.getD 0 (0, 0)).1 * 2 ^ min 64 (max 1 ((s0.link 0).rows - ((s0.link 0).marks.getD 0 (0, 0)).2)) + 1) % 2 ^ 64)) && bit (s0.fget ⟨R.MFL_AL_LOCK 0, 24, 16⟩) 0)) = false) ∧
    (0 < 8 ∧ s0.alive = true ∧ 0 < 9 ∧ blockGood ((0 : BitVec 69)) = false ∧
      ((decide (16 ≤ badMarks ((((s0.link 0).marks.getD 0 (0, 0)).1 * 2 ^ min 64 (max 1 ((s0.link 0).rows - ((s0.link 0).marks.getD 0 (0, 0)).2)) + 1) % 2 ^ 64)) && bit (s0.fget ⟨R.MFL_AL_LOCK 0, 24, 16⟩) 0)) = false) ∧
    (2 < 8 ∧ s12.alive = true ∧ 0 < 9 ∧ blockGood ((0 : BitVec 69)) = false ∧
      ((decide (16 ≤ badMarks ((((s12.link 2).marks.getD 0 (0, 0)).1 * 2 ^ min 64 (max 1 ((s12.link 2).rows - ((s12.link 2).marks.getD 0 (0, 0)).2)) + 1) % 2 ^ 64)) && bit (s12.fget ⟨R.MFL_AL_LOCK 2, 24, 16⟩) 0)) = true) ∧
    (0 < 8 ∧ s0.alive = true ∧ 0 < 9) ∧
    (0 < 8 ∧ s0.alive = true ∧ 0 < 9 ∧ blockGood ((blockOf false 5 : BitVec 69)) = true) ∧
    (0 < 8 ∧ s0.alive = true ∧ 0 < 9) ∧
    (0 < 8 ∧ s0.alive = true ∧ 0 < 9) := by
  refine ⟨?_, ?_, ?_, ?_, ?_, ?_, ?_, ?_, ?_, ?_, ?_, ?_, ?_, ?_, ?_, ?_, ?_, ?_, ?_, ?_, ?_, ?_⟩ <;> decide +kernel

end LinkDelivery

namespace LinkAuthentication
def s0 := at_ (md mFABRIC) 3000000000
def nn : List Byte := (upTo 64).map (BitVec.ofNat 8 ·)
def o1 : List Byte := [5] ++ nn ++ nn
def s1 := ls (s0.fset R.SEC_LIFECYCLE_STATE lcOWNED) 2 lsAUTH fun l => { l with signing := true, peerOffer := o1, ourOffer := [6] ++ nn, lastPeer := some 5, peerAccept := true }
def s2 := ls (s1.setTbl (linkPage 2 2) 0 3 7 |>.setTbl (linkPage 2 2) 1 0 7) 2 lsAUTH fun l => { l with peerAccept := false }
def s3 := s2.fset (R.MFL_AUTH_EN_EN 2) 8
def s4 := ls s3 2 lsAUTH fun l => { l with peerAccept := true, resumed := true, weAccept := true, chain := some ([1], 5, List.replicate 32 7) }
def s5 := ls s4 2 lsAUTH fun l => { l with peerAccept := false, weAccept := false, chain := some ([1], 1023, List.replicate 32 8) }
def s6 := ls s4 2 lsAUTH fun l => { l with peerAccept := false, weAccept := false, chain := some ([1], 1023, List.replicate 32 7) }
def cf (s : State) : State := (ls (s.fset (R.MFL_LINK_STS_PEER_FID 2) 5) 4 lsUP fun l => { l with lastPeer := some 99 }).fset (R.MFL_LINK_STS_PEER_FID 4) 5
def s9 := ls s6 2 lsAUTH fun l => { l with chain := some ([1], 3, Config.shake256 [1] 32), lastPeer := some 5 }
def sC := ls s9 2 lsAUTH fun l => { l with chain := none }

/-- The hypotheses of each clause of `Obligations.LinkAuthentication` are met, but for what functions without a body answer (log entry 4). -/
theorem witness_LinkAuthentication :
    (2 < 8 ∧ s1.alive = true ∧ 0 < 16 ∧ ((s1.linkState 2 == lsAUTH && s1.linksAllowed)) = true ∧
      s1.fidConflict 2 (s1.fget (R.MFL_LINK_STS_PEER_FID 2)) (hash32 (([] : List Byte))) = false) ∧
    (2 < 8 ∧ (cf s1).alive = true ∧ (((cf s1).linkState 2 == lsAUTH && (cf s1).linksAllowed)) = true) ∧
    (0 < 8 ∧ s0.alive = true ∧ 0 < 16 ∧ ((s0.linkState 0 == lsAUTH && s0.linksAllowed)) = false) ∧
    (2 < 8 ∧ s1.alive = true ∧
      (((s1.link 2).signing && s1.linkState 2 == lsAUTH && s1.lifeState != lcBLANK && s1.lifeState != lcRETIRED)) = true) ∧
    (0 < 8 ∧ s0.alive = true ∧
      (((s0.link 0).signing && s0.linkState 0 == lsAUTH && s0.lifeState != lcBLANK && s0.lifeState != lcRETIRED)) = false) ∧
    (2 < 8 ∧ s1.alive = true ∧ ((s1.linkState 2 == lsAUTH && s1.linksAllowed)) = true ∧ (s1.link 2).peerOffer ≠ []) ∧
    (2 < 8 ∧ s3.alive = true ∧ ((s3.linkState 2 == lsAUTH && s3.linksAllowed)) = true ∧ (s3.link 2).peerOffer ≠ [] ∧
      (s3.link 2).peerAccept = false) ∧
    (2 < 8 ∧ s4.alive = true ∧ ((s4.linkState 2 == lsAUTH && s4.linksAllowed)) = true ∧ (s4.link 2).peerOffer ≠ [] ∧
      (s4.link 2).peerAccept = true) ∧
    (0 < 8 ∧ s0.alive = true ∧ (((s0.linkState 0 == lsAUTH && s0.linksAllowed)) = false ∨ (s0.link 0).peerOffer = [])) ∧
    (2 < 8 ∧ s1.alive = true ∧ ((s1.linkState 2 == lsAUTH && s1.linksAllowed)) = true ∧
      ((!(s1.link 2).resumed && (s1.link 2).peerOffer.isEmpty)) = false ∧ (s1.link 2).weAccept = false) ∧
    (2 < 8 ∧ s4.alive = true ∧ ((s4.linkState 2 == lsAUTH && s4.linksAllowed)) = true ∧
      ((!(s4.link 2).resumed && (s4.link 2).peerOffer.isEmpty)) = false ∧ (s4.link 2).weAccept = true) ∧
    (0 < 8 ∧ s0.alive = true ∧ (((s0.linkState 0 == lsAUTH && s0.linksAllowed)) = false ∨
      ((!(s0.link 0).resumed && (s0.link 0).peerOffer.isEmpty)) = true)) ∧
    (2 < 8 ∧ s1.alive = true ∧ ((s1.linkState 2 == lsAUTH && s1.linksAllowed)) = true) ∧
    (0 < 8 ∧ s0.alive = true ∧ ((s0.linkState 0 == lsAUTH && s0.linksAllowed)) = false) ∧
    (2 < 8 ∧ s4.alive = true ∧ (s4.link 2).chain ≠ none ∧ ((s4.linkState 2 == lsAUTH && s4.linksAllowed)) = true) ∧
    (2 < 8 ∧ (cf s9).alive = true ∧ ((cf s9).link 2).chain ≠ none ∧
      (((cf s9).linkState 2 == lsAUTH && (cf s9).linksAllowed)) = true) ∧
    (2 < 8 ∧ s5.alive = true ∧ (s5.link 2).chain ≠ none ∧ ((s5.linkState 2 == lsAUTH && s5.linksAllowed)) = true) ∧
    (2 < 8 ∧ sC.alive = true ∧ (sC.link 2).chain = none ∧ ((sC.linkState 2 == lsAUTH && sC.linksAllowed)) = true ∧
      ((sC.link 2).resumed = true ∨ (sC.link 2).ourOffer = [])) ∧
    (2 < 8 ∧ s1.alive = true ∧ (s1.link 2).chain = none ∧ ((s1.linkState 2 == lsAUTH && s1.linksAllowed)) = true ∧
      (s1.link 2).resumed = false ∧ (s1.link 2).ourOffer ≠ []) ∧
    (0 < 8 ∧ s0.alive = true ∧ ((s0.linkState 0 == lsAUTH && s0.linksAllowed)) = false) ∧
    (2 < 8 ∧ s1.alive = true ∧ s1.linkState 2 = lsAUTH ∧ (s1.link 2).entered + 500000000 ≤ s1.now) ∧
    (0 < 8 ∧ s0.alive = true ∧ (s0.linkState 0 ≠ lsAUTH ∨ s0.now < (s0.link 0).entered + 500000000)) := by
  refine ⟨?_, ?_, ?_, ?_, ?_, ?_, ?_, ?_, ?_, ?_, ?_, ?_, ?_, ?_, ?_, ?_, ?_, ?_, ?_, ?_, ?_, ?_⟩ <;> decide +kernel

end LinkAuthentication

namespace ListsAndRoutes
def s0 := at_ (md mFABRIC) 3000000000
def s1 := (ls ((s0.fset (R.MFL_AUTH_EN_EN 2) 9).setTbl (linkPage 2 2) 1 0 7) 2 lsUP fun l => { l with chain := some ([1], 5, List.replicate 32 7) }).setTbl 0x122 0 3 (BitVec.ofNat 256 0x0403)
def s2 := ls s1 2 lsSTRANGER fun l => l
def s4 := (s1.fset R.MAP_ROUTE_GOV_EN 1).fset R.MAP_ROUTE_ALT_FORCE_FORCE 0x6
def s5 := (s4.fset R.MAP_ROUTE_GOV_MIN_PRI 2).fset R.MAP_LINK_USABLE_USABLE 0xFF

/-- The hypotheses of each clause of `Obligations.ListsAndRoutes` are met. -/
theorem witness_ListsAndRoutes :
    (s0.alive = true ∧ 0 < 8 ∧ 0 < 16 ∧ 0 < 65536 ∧ (0 != s0.fget (R.MFL_AUTH_EN_EN 0)) = false) ∧
    (s1.alive = true ∧ 2 < 8 ∧ 0 < 16 ∧ 0 < 65536 ∧ true = true ∧
      false = (s1.setTbl (linkPage 2 2) 0 0 ((0 : W256))).listed 2 (s1.judgedHash 2) ∧
      false = s1.listed 2 (s1.peerHash 2) ∧ false = (s1.linkState 2 == lsSTRANGER && false && !false && s1.linksAllowed) ∧
      s1.linkLive 2 = true ∧ false = false) ∧
    (s2.alive = true ∧ 2 < 8 ∧ 0 < 16 ∧ 0 < 65536 ∧ true = true ∧
      true = (s2.setTbl (linkPage 2 2) 0 0 ((7 : W256))).listed 2 (s2.judgedHash 2) ∧ false = s2.listed 2 (s2.peerHash 2) ∧
      true = (s2.linkState 2 == lsSTRANGER && true && !false && s2.linksAllowed) ∧ true = true) ∧
    (s0.alive = true ∧ 0 < 8 ∧ 0 < 16 ∧ 0 < 65536 ∧ true = true ∧
      false = (s0.setTbl (linkPage 0 2) 0 0 ((0 : W256))).listed 0 (s0.judgedHash 0) ∧
      false = s0.listed 0 (s0.peerHash 0) ∧ false = (s0.linkState 0 == lsSTRANGER && false && !false && s0.linksAllowed) ∧
      (s0.linkLive 0 = false ∨ false = true) ∧ false = false) ∧
    (s0.alive = true ∧ 0 < 8) ∧
    ((s5.fset R.MAP_ROUTE_GOV_EN 0).alive = true ∧ (s5.fset R.MAP_ROUTE_GOV_EN 0).fget R.MAP_ROUTE_GOV_EN = 0) ∧
    (s0.alive = true ∧ s0.fget R.MAP_ROUTE_GOV_EN = 1) := by
  refine ⟨?_, ?_, ?_, ?_, ?_, ?_, ?_⟩ <;> decide +kernel

end ListsAndRoutes

namespace LoopsPatternsAndEyes
def pt (s : State) (n : Nat) (p : PortSt) : State := { s with sw := { s.sw with ports := storePut {} n p s.sw.ports } }
def s0 := oct (at_ (md mFABRIC) 3000000000)
def s1 := (pt s0 5 { up := true, epoch := 15, redoing := true, redoAt := some 7 }).fset (R.PEP_PORT_STS_DL_ACTIVE 5) 1
def s2 := (oct (at_ (md mLIMP) 3000000000))
def s4 := (s0.fset (R.PEP_LINK_CTL_DISABLE 5) 0)
def s5 := (((s4.setReg (testBase 2 + 0x104) 0x0000FF1B).setReg (testBase 2 + 0x20) 0x5).setReg (testBase 25 + 0x104) 0x0001FF1B).setReg (testBase 25 + 0x20) 0x101
def s7 := ({ s0 with tests := [(2, { margin := [3, 0], scanLane := 0 }), (25, { margin := [8] })] })
def s8 := (({ s7 with tests := [(2, { margin := [], scanLane := 3 })] }).fset (tfld 2 0x24 1 0) eyBUSY).fset (tfld 25 0x24 1 0) eyBUSY

/-- The hypotheses of each clause of `Obligations.LoopsPatternsAndEyes` are met. -/
theorem witness_LoopsPatternsAndEyes :
    (2 < 32 ∧ s2.alive = true ∧ bits ((0x00000101#32 : W32)).toNat 1 0 ≠ 0 ∧
      bits ((0x00000101#32 : W32)).toNat (7 + testLanes 2) 8 ≠ 0 ∧ s2.testsRefused = true) ∧
    (2 < 32 ∧ s0.alive = true ∧ (bits ((0 : W32)).toNat 1 0 = 0 ∨ (s0.testsRefused = false ∧
      ∀ l, l < testLanes 2 → bit (bits ((0 : W32)).toNat (7 + testLanes 2) 8) l = true → s0.laneIdle 2 l = true))) ∧
    (2 < 32 ∧ s2.alive = true ∧ bits ((0xFFFFFFFF#32 : W32)).toNat 4 3 ≠ 0 ∧ s2.testsRefused = true) ∧
    (2 < 32 ∧ s0.alive = true ∧ (bits ((0x00000101#32 : W32)).toNat 4 3 = 0 ∨ s0.testsRefused = false) ∧
      s0.mode ≠ mDIAGNOSTIC ∧ (∃ l, l < testLanes 2 ∧
      bit (bits ((0x00000101#32 : W32)).toNat (7 + testLanes 2) 8) l = true ∧ s0.laneIdle 2 l = false ∧
      bit (s0.loopedLanes 2) l = false)) ∧
    (2 < 32 ∧ s0.alive = true ∧ (bits ((0 : W32)).toNat 4 3 = 0 ∨ s0.testsRefused = false) ∧
      (∀ l, l < testLanes 2 → bit (bits ((0 : W32)).toNat (7 + testLanes 2) 8) l = true → s0.laneIdle 2 l = true)) ∧
    (2 < 32 ∧ s5.alive = true ∧ 2 < testLanes 2 ∧ s5.checking 2 2 = true) ∧
    (2 < 32 ∧ s5.alive = true ∧ 2 < testLanes 2 ∧ bit (s5.fget (tfld 2 0x20 8 0)) 2 = true) ∧
    (2 < 32 ∧ s5.alive = true ∧ 2 < 24 ∧ s5.flag (R.PHY_PRBS_CTL_CHK_EN 2) = true ∧ s5.fget (R.PHY_TEST_STS_RESULT 2) ≠ 3) ∧
    (2 < 32 ∧ s1.alive = true ∧ 2 < 24 ∧ 0 < 4 ∧ s1.laneOwner 2 0 = some 5 ∧ s1.flag (R.PEP_PORT_STS_DL_ACTIVE 5) = true ∧
      (((upTo 8).find? fun l => laneSub (s1.octetMode 2) l == 0 && (s1.laneOwner 2 l).isSome) = some 0)) ∧
    (2 < 32 ∧ s1.alive = true ∧ 5 < 64 ∧ (s1.port 5).up = true) ∧
    (2 < 32 ∧ s1.alive = true ∧ 5 < 64 ∧ (s1.port 5).up = true ∧ (s1.port 5).redoing = true ∧
      (s1.port 5).redoAt = some 7 ∧ 7 + 62500000 ≤ s1.now) ∧
    (2 < 32 ∧ s7.alive = true ∧ s7.fget (tfld 2 0x24 1 0) ≠ eyBUSY ∧
      (min (bits ((0 : W32)).toNat 3 0) (testLanes 2 - 1)) ∈ (s7.testUnit 2).margin) ∧
    (2 < 32 ∧ s0.alive = true ∧ s0.fget (tfld 2 0x24 1 0) ≠ eyBUSY ∧
      (min (bits ((0 : W32)).toNat 3 0) (testLanes 2 - 1)) ∉ (s0.testUnit 2).margin) ∧
    (2 < 32 ∧ s0.alive = true ∧ s0.fget (tfld 2 0x24 1 0) ≠ eyBUSY ∧
      (min (bits ((0 : W32)).toNat 3 0) (testLanes 2 - 1)) ∉ (s0.testUnit 2).margin) ∧
    (2 < 32 ∧ s8.alive = true ∧ s8.fget (tfld 2 0x24 1 0) = eyBUSY) ∧
    (2 < 32 ∧ s0.alive = true ∧ s0.fget (tfld 2 0x24 1 0) ≠ eyBUSY) ∧
    (2 < 32 ∧ s0.alive = true ∧ s0.fget (tfld 2 0x24 1 0) ≠ eyBUSY) ∧
    (2 < 32 ∧ s0.alive = true ∧ 2 < 24 ∧ 2 < 8) ∧
    (2 < 32 ∧ s0.alive = true ∧ 2 < 24 ∧ 2 < 8) := by
  refine ⟨?_, ?_, ?_, ?_, ?_, ?_, ?_, ?_, ?_, ?_, ?_, ?_, ?_, ?_, ?_, ?_, ?_, ?_, ?_⟩ <;> decide +kernel

end LoopsPatternsAndEyes

namespace ErrorsAndIsolation
def up (s : State) (p part : Nat) : State := { (((s.fset (R.PEP_PORT_CTL_ROLE p) 1).fset (R.PEP_PORT_CTL_PART p) part).fset (R.PEP_PORT_STS_PRESENT p) 1).fset (R.PEP_PORT_STS_DL_ACTIVE p) 1 with sw := { s.sw with ports := storePut {} p { up := true } s.sw.ports } }
def s0 := at_ (md mFABRIC) 3000000000
def b1 : BadEntry := { table := 3, index := 5, copy0 := true, copy1 := true }
def s1 := er ((up s0 5 3).setTbl 0x50 2 3 (BitVec.ofNat 256 (0x12345000 + 0x5670000 * 2^64 + (4 + 32) * 2^128 + 0xFFFFFFFF * 2 ^ 160))) fun e => { e with bad := [b1], ringQ := [(2,[1]),(3,[7,8]),(3,[9])], ringDue := [3,4] }
def iso (x : Nat) := s1.fset R.ERR_ISO_STS_STATE x
def s3 := ((iso isoENTERING).fset R.DEV_MODE_STS_RESULT 1).fset R.ERR_ISO_STS_PRIOR mFABRIC
def s4 := ((iso isoISOLATED).fset R.ERR_ISO_STS_PRIOR mFABRIC).setMode mISOLATE
def s5 := (s4.fset R.ERR_ISO_STS_STATE isoEXITING)
def s6 := er s5 fun e => { e with bad := [] }

/-- The hypotheses of each clause of `Obligations.ErrorsAndIsolation` are met. -/
theorem witness_ErrorsAndIsolation :
    (State.reset.alive = true ∧ 0 < 8 ∧
      (((State.reset.err.wroteAt == State.reset.now && State.reset.err.wrote.contains (0, 0))) = true ∨
      ((State.reset.err.bad.find? (fun b => b.table == 0 && b.index == 0)) = none ∧
      ((false || (State.reset.err.bad.find? (fun b => b.table == 0 && b.index == 0)).any (·.copy0))) = false ∧
      ((false || (State.reset.err.bad.find? (fun b => b.table == 0 && b.index == 0)).any (·.copy1))) = false))) ∧
    (State.reset.alive = true ∧ 0 < 8 ∧
      ((State.reset.err.wroteAt == State.reset.now && State.reset.err.wrote.contains (0, 0))) = false ∧
      (((true || (State.reset.err.bad.find? (fun b => b.table == 0 && b.index == 0)).any (·.copy0))) ≠ ((false || (State.reset.err.bad.find? (fun b => b.table == 0 && b.index == 0)).any (·.copy1))))) ∧
    (State.reset.alive = true ∧ 0 < 8 ∧
      ((State.reset.err.wroteAt == State.reset.now && State.reset.err.wrote.contains (0, 0))) = false ∧
      (((true || (State.reset.err.bad.find? (fun b => b.table == 0 && b.index == 0)).any (·.copy0))) = true) ∧
      (((true || (State.reset.err.bad.find? (fun b => b.table == 0 && b.index == 0)).any (·.copy1))) = true)) ∧
    (State.reset.alive = true) ∧
    (State.reset.alive = true) ∧
    (State.reset.alive = true ∧ 0 < 32 ∧ ((State.reset.err.ringQ.find? (fun r => r.1 == 0)) = none ∨
      State.reset.recordsHeld = true ∨ State.reset.poolFree .management = 0)) ∧
    (s1.alive = true ∧ 3 < 32 ∧ (((s1.err.ringQ.find? (fun r => r.1 == 3))).any (fun r => decide (s1.recordsHeld = false ∧
      s1.poolFree .management ≠ 0)) = true)) ∧
    (State.reset.alive = true ∧ 0 < 32 ∧ (0 ∉ State.reset.err.ringDue ∨ State.reset.poolFree .management = 0)) ∧
    (s1.alive = true ∧ 3 < 32 ∧ 3 ∈ s1.err.ringDue ∧ s1.poolFree .management ≠ 0) ∧
    (s3.alive = true ∧ s3.fget R.ERR_ISO_STS_STATE = isoENTERING) ∧
    (State.reset.alive = true ∧ State.reset.fget R.ERR_ISO_STS_STATE ≠ isoENTERING) ∧
    (s5.alive = true ∧ s5.fget R.ERR_ISO_STS_STATE = isoEXITING) ∧
    (State.reset.alive = true ∧ State.reset.fget R.ERR_ISO_STS_STATE ≠ isoEXITING) ∧
    (s4.alive = true ∧ s4.mode = mISOLATE ∧ s4.fget R.ERR_ISO_STS_STATE = isoISOLATED) ∧
    (State.reset.alive = true ∧ State.reset.fget R.ERR_ISO_STS_STATE ≠ isoEXITING ∧ ¬(State.reset.mode = mISOLATE ∧
      State.reset.fget R.ERR_ISO_STS_STATE = isoISOLATED)) ∧
    (s5.alive = true ∧ s5.fget R.ERR_ISO_STS_STATE = isoEXITING ∧ (∃ b ∈ s5.err.bad, b.copy0 = true ∧ b.copy1 = true)) ∧
    (s6.alive = true ∧ s6.fget R.ERR_ISO_STS_STATE = isoEXITING ∧ (∀ b ∈ s6.err.bad, (b.copy0 && b.copy1) = false)) := by
  refine ⟨?_, ?_, ?_, ?_, ?_, ?_, ?_, ?_, ?_, ?_, ?_, ?_, ?_, ?_, ?_, ?_, ?_⟩ <;> decide +kernel

end ErrorsAndIsolation

namespace CorePairs
def s0 := at_ (md mFABRIC) 3000000000
def s1 := mg (s0.fset R.MGT_PAIR_STS_B_STATE 1) fun m => { m with sb := [{id := 1, addr := 0x8000001, data := [1,2]}], ops := [{ id := 2, kind := .load, addr := 2^62 + 4, issued := some 5 }] }
def s2 := (s1.fset R.MGT_PAIR_STS_B_STATE 2).setReg R.MGT_TIMECMP_LO 5
def tr (s : State) (c : Nat) (f : Bool) := mg s fun m => { m with trig := some ⟨c, 0, f⟩ }
def fl (s : State) := mg s fun m => { m with startAt := some s.now }
def lost (s : State) := s.fset R.MGT_PAIR_STS_LOST 1
def op (a : Nat) := mg s1 fun m => { m with ops := [{ id := 2, kind := .load, addr := a, issued := some 5 }] }

/-- The hypotheses of each clause of `Obligations.CorePairs` are met. -/
theorem witness_CorePairs :
    (State.reset.alive = true ∧ State.reset.mgt.trig = none ∧ State.reset.failing = false ∧ State.reset.lost = false ∧
      State.reset.pairState (1 - State.reset.activePair) = 1) ∧
    (s2.alive = true ∧ s2.mgt.trig = none ∧ s2.failing = false ∧ s2.lost = false ∧ s2.pairState (1 - s2.activePair) ≠ 1) ∧
    (s2.alive = true ∧ s2.mgt.trig = none ∧ s2.failing = false ∧ s2.lost = false ∧ s2.pairState (1 - s2.activePair) ≠ 1) ∧
    ((fl s1).alive = true ∧ (fl s1).mgt.trig = none ∧ (fl s1).failing = true) ∧
    ((fl s1).alive = true ∧ (fl s1).mgt.trig = none ∧ (fl s1).failing = true) ∧
    ((lost s1).alive = true ∧ (lost s1).mgt.trig = none ∧ (lost s1).failing = false ∧ (lost s1).lost = true) ∧
    ((lost s1).alive = true ∧ (lost s1).mgt.trig = none ∧ (lost s1).failing = false ∧ (lost s1).lost = true ∧
      (lost s1).pairState (1 - (lost s1).activePair) = 1) ∧
    ((lost s2).alive = true ∧ (lost s2).mgt.trig = none ∧ (lost s2).failing = false ∧ (lost s2).lost = true ∧
      (lost s2).pairState (1 - (lost s2).activePair) ≠ 1) ∧
    ((tr s2 3 false).alive = true ∧ (((tr s2 3 false).mgt.trig).any (fun x => decide (x.found = false)) = true)) ∧
    ((tr s1 2 true).alive = true ∧ (((tr s1 2 true).mgt.trig).any (fun x => decide (x.found = true ∧
      x.cause ≤ pcSWAP)) = true)) ∧
    ((tr s1 0 true).alive = true ∧ (((tr s1 0 true).mgt.trig).any (fun x => decide (x.cause ≤ pcLOCKSTEP)) = true)) ∧
    ((tr s1 2 true).alive = true ∧ (((tr s1 2 true).mgt.trig).any (fun x => decide (pcLOCKSTEP < x.cause)) = true)) ∧
    (s2.alive = true ∧ 1 < 2 ∧ s2.pairState 1 = 2) ∧
    (s2.alive = true ∧ 1 < 2 ∧ s2.pairState 1 = 2) ∧
    (State.reset.alive = true ∧ 0 < 2 ∧ State.reset.pairState 0 ≠ 2) ∧
    (State.reset.alive = true) ∧
    (State.reset.alive = true ∧ State.reset.mgt.ops = []) ∧
    (s1.alive = true ∧ ((match s1.mgt.ops with
      | o :: rest => decide ((regionOf o.addr).any (fun (r, off) => decide ((o.issued).any (fun t0 => decide (r.isMain = false ∧
        r ≠ .regs ∧ ((∀ x ∈ s1.coreReads, x.why = .load → x.done = false)) ∧
        t0 + 1250 * s1.fget R.MGT_CTO_US ≤ s1.now)) = true)) = true)
      | _ => false) = true)) ∧
    ((op 0x8000000).alive = true ∧ ((match (op 0x8000000).mgt.ops with
      | o :: rest => decide (((regionOf o.addr).any (fun (r, off) => decide (((o.issued = none ∨ r.isMain = true ∨
        r = .regs ∨ (∃ x ∈ (op 0x8000000).coreReads, x.why = .load ∧ x.done = true) ∨
        (∃ t0 ∈ o.issued.toList, (op 0x8000000).now < t0 + 1250 * (op 0x8000000).fget R.MGT_CTO_US))))) = true))
      | _ => false) = true)) := by
  refine ⟨?_, ?_, ?_, ?_, ?_, ?_, ?_, ?_, ?_, ?_, ?_, ?_, ?_, ?_, ?_, ?_, ?_, ?_, ?_⟩ <;> decide +kernel

end CorePairs

namespace CoreMemoryAccesses
def s0 := at_ (md mFABRIC) 3000000000
def s1 := mg s0 fun m => { m with sb := [{id := 1, addr := 0x8000001, data := [1,2]}], sram := (upTo 200).map fun i => (i, some (BitVec.ofNat 8 (i+7))) }
def s2 := mg (((s1.fset (R.MGT_MPU_CFG_EN 0 3) 1).fset (R.MGT_MPU_BASE_LO_BASE 0 3) 0x8000000).fset (R.MGT_MPU_CFG_SIZE_LOG2 0 3) 20) fun m => { m with resv := some (0x8000040/64, 2999999999) }
def s3 := (s2.fset (R.MGT_MPU_CFG_R 0 3) 1)
def s4 := mg ((s3.fset (R.MGT_MPU_CFG_W 0 3) 1).fset (R.MGT_MPU_CFG_M 0 3) 1) fun m => { m with sb := [] }
def s6 := mg s0 fun m => { m with sb := [{id := 1, addr := 0x40000100, data := [1,2,3,4]},{id := 2, addr := 2^62+8, data := [1,2,3,4]}] }
def s7 := mg s0 fun m => { m with sb := (upTo 16).map fun i => {id := 1, addr := 0x8000100 + 8 * i, data := [1,2]} }
def hl := mg s3 fun m => { m with halted := true }
def dr := mg s3 fun m => { m with drain := some (5, 3) }

/-- The hypotheses of each clause of `Obligations.CoreMemoryAccesses` are met. -/
theorem witness_CoreMemoryAccesses :
    (2 < 2 ^ 64 ∧ s3.coreRuns = true ∧ s3.undef = none ∧ s3.mgt.ops = [] ∧ s3.mgt.drain = none ∧
      ((regionOf 2).any (fun (r, off) => decide (s3.mpuCheck 2 false true false = none ∧ r.isMain = true ∧
      oneRegion 2 (accessSize 2) = true ∧ ((2 % (accessSize 2) ≠ 0 → false = true → s3.misalignTrap = false)) ∧
      ((r = .sram → ((none : Option EccFault)) ≠ some .uncorrectable)))) = true)) ∧
    (0x8000040 < 2 ^ 64 ∧ s3.coreRuns = true ∧ s3.undef = none ∧ s3.mgt.ops = [] ∧ s3.mgt.drain = none ∧
      ((regionOf 0x8000040).any (fun (r, off) => decide (s3.mpuCheck 0x8000040 true true false = none ∧ r.isMain = true ∧
      oneRegion 0x8000040 (accessSize 2) = true ∧
      ((0x8000040 % (accessSize 2) ≠ 0 → true = true → s3.misalignTrap = false)) ∧ r = .sram ∧
      ((some .uncorrectable : Option EccFault)) = some .uncorrectable)) = true)) ∧
    ((2^62+8) < 2 ^ 64 ∧ s6.coreRuns = true ∧ s6.undef = none ∧ s6.mgt.ops = [] ∧ s6.mgt.drain = none ∧
      ((regionOf (2^62+8)).any (fun (r, off) => decide (s6.mpuCheck (2^62+8) false true false = none ∧ r.isMain = false ∧
      (2^62+8) % (accessSize 2) = 0 ∧ s6.sbChannel r = true)) = true)) ∧
    ((2^62+8) < 2 ^ 64 ∧ s3.coreRuns = true ∧ s3.undef = none ∧ s3.mgt.ops = [] ∧ s3.mgt.drain = none ∧
      ((regionOf (2^62+8)).any (fun (r, off) => decide (s3.mpuCheck (2^62+8) false true false = none ∧ r.isMain = false ∧
      (2^62+8) % (accessSize 2) = 0 ∧ s3.sbChannel r = false)) = true)) ∧
    (0x70000000 < 2 ^ 64 ∧ s3.coreRuns = true ∧ s3.undef = none ∧ s3.mgt.ops = [] ∧ s3.mgt.drain = none ∧
      regionOf 0x70000000 = none) ∧
    (2 < 2 ^ 64 ∧ s3.coreRuns = true ∧ s3.undef = none ∧ s3.mgt.ops = [] ∧ s3.mgt.drain = none ∧
      ((regionOf 2).any (fun (r, off) => decide ((s3.mpuCheck 2 true true false).any (fun c => decide (c.1 < 4 ∧
      c.2.1 < 32 ∧ c.2.2 < 32)) = true)) = true)) ∧
    (2 < 2 ^ 64 ∧ s3.coreRuns = true ∧ s3.undef = none ∧ s3.mgt.ops = [] ∧ s3.mgt.drain = none ∧
      ((regionOf 2).any (fun (r, off) => decide (s3.mpuCheck 2 false false true = none ∧
      ((((r.isMain && (!oneRegion 2 (accessSize 2) || (true && r != .sram)))) = true ∨ (2 % (accessSize 2) ≠ 0 ∧
      (r.isMain = false ∨ (false = true ∧ s3.misalignTrap = true))))))) = true)) ∧
    (0x8000040 < 2 ^ 64 ∧ s3.coreRuns = true ∧ s3.undef = none ∧ s3.mgt.ops = [] ∧ s3.mgt.drain = none ∧
      ((regionOf 0x8000040).any (fun (r, off) => decide (s3.mpuCheck 0x8000040 false false true = none ∧ (((r = .sram ∧
      oneRegion 0x8000040 (accessSize 2) = true ∧
      (0x8000040 % (accessSize 2) ≠ 0 → false = true → s3.misalignTrap = false)) ∨ (r.isMain = false ∧
      0x8000040 % (accessSize 2) = 0))) ∧
      s3.mgt.sb.length + (storePieces 0x8000040 (leBytes (accessSize 2) 2)).length ≤ 16)) = true)) ∧
    (0x8000040 < 2 ^ 64 ∧ s7.coreRuns = true ∧ s7.undef = none ∧ s7.mgt.ops = [] ∧ s7.mgt.drain = none ∧
      ((regionOf 0x8000040).any (fun (r, off) => decide (s7.mpuCheck 0x8000040 false false true = none ∧ (((r = .sram ∧
      oneRegion 0x8000040 (accessSize 2) = true ∧
      (0x8000040 % (accessSize 2) ≠ 0 → false = true → s7.misalignTrap = false)) ∨ (r.isMain = false ∧
      0x8000040 % (accessSize 2) = 0))) ∧
      16 < s7.mgt.sb.length + (storePieces 0x8000040 (leBytes (accessSize 2) 2)).length)) = true)) ∧
    (2 < 2 ^ 64 ∧ s4.coreRuns = true ∧ s4.undef = none ∧ s4.mgt.ops = [] ∧ s4.mgt.drain = none ∧
      (bit ((if 2 = 0 then 2 % 16 else if 2 = 1 then 3 else 5)) 0 = true → s4.sbHas true = false) ∧
      (bit ((if 2 = 0 then 2 % 16 else if 2 = 1 then 3 else 5)) 2 = true → s4.sbHas false = false ∧ s4.storesOut = [] ∧
      s4.cul.door = [] ∧ s4.pairWrites = [] ∧ s4.barrierOpen 32 = false)) ∧
    (2 < 2 ^ 64 ∧ s3.coreRuns = true ∧ s3.undef = none ∧ s3.mgt.ops = [] ∧ s3.mgt.drain = none ∧
      ((bit ((if 2 = 0 then 2 % 16 else if 2 = 1 then 3 else 5)) 0 = true ∧ s3.sbHas true = true) ∨
      (bit ((if 2 = 0 then 2 % 16 else if 2 = 1 then 3 else 5)) 2 = true ∧ s3.sbHas false = true))) ∧
    (2 < 2 ^ 64 ∧ s3.coreRuns = true ∧ s3.undef = none ∧ s3.mgt.ops = [] ∧ s3.mgt.drain = none ∧
      ((regionOf 2).any (fun (r, off) => decide (s3.mpuCheck 2 false true false = none ∧ ((r ≠ .sram ∨
      2 % (atomicSize true) ≠ 0)))) = true)) ∧
    (0x8000040 < 2 ^ 64 ∧ s3.coreRuns = true ∧ s3.undef = none ∧ s3.mgt.ops = [] ∧ s3.mgt.drain = none ∧
      ((regionOf 0x8000040).any (fun (r, off) => decide (s3.mpuCheck 0x8000040 true true false = none ∧ r = .sram ∧
      0x8000040 % (atomicSize true) = 0 ∧ s3.mgt.sb ≠ [])) = true)) ∧
    (0x8000040 < 2 ^ 64 ∧ s4.coreRuns = true ∧ s4.undef = none ∧ s4.mgt.ops = [] ∧ s4.mgt.drain = none ∧
      regionOf 0x8000040 = some (.sram, 0x40) ∧ 0x8000040 % (atomicSize true) = 0 ∧ s4.mgt.sb = [] ∧
      ((some .uncorrectable : Option EccFault)) = some .uncorrectable ∧ s4.mpuCheck 0x8000040 true true false = none) ∧
    (0x8000040 < 2 ^ 64 ∧ s4.coreRuns = true ∧ s4.undef = none ∧ s4.mgt.ops = [] ∧ s4.mgt.drain = none ∧
      regionOf 0x8000040 = some (.sram, 0x40) ∧ 0x8000040 % (atomicSize true) = 0 ∧ s4.mgt.sb = [] ∧
      ((none : Option EccFault)) ≠ some .uncorrectable ∧ s4.mpuCheck 0x8000040 true true false = none) ∧
    (0x8000040 < 2 ^ 64 ∧ s4.coreRuns = true ∧ s4.undef = none ∧ s4.mgt.ops = [] ∧ s4.mgt.drain = none ∧
      regionOf 0x8000040 = some (.sram, 0x40) ∧ 0x8000040 % (atomicSize true) = 0 ∧ s4.mgt.sb = [] ∧
      s4.mpuCheck 0x8000040 true false true = none ∧ s4.reserved 0x8000040 = true ∧
      (false = true → ((s4.mgt.loop != some { addr := 0x8000040, size := (atomicSize true), failed := true } || s4.externalIrq || s4.mgt.timer)) = false)) ∧
    (0x8000040 < 2 ^ 64 ∧ s4.coreRuns = true ∧ s4.undef = none ∧ s4.mgt.ops = [] ∧ s4.mgt.drain = none ∧
      regionOf 0x8000040 = some (.sram, 0x40) ∧ 0x8000040 % (atomicSize true) = 0 ∧ s4.mgt.sb = [] ∧
      s4.mpuCheck 0x8000040 true false true = none ∧ ((true = true ∧
      ((s4.mgt.loop != some { addr := 0x8000040, size := (atomicSize true), failed := true } || s4.externalIrq || s4.mgt.timer)) = true) ∨
      s4.reserved 0x8000040 = false)) ∧
    (0x8000040 < 2 ^ 64 ∧ s4.coreRuns = true ∧ s4.undef = none ∧ s4.mgt.ops = [] ∧ s4.mgt.drain = none ∧
      regionOf 0x8000040 = some (.sram, 0x40) ∧ 0x8000040 % (atomicSize true) = 0 ∧ s4.mgt.sb = [] ∧
      ((none : Option EccFault)) ≠ some .uncorrectable ∧ s4.mpuCheck 0x8000040 true true true = none) ∧
    (hl.undef = none ∧ hl.coreRuns = false) ∧
    (dr.undef = none ∧ dr.coreRuns = true ∧ dr.mgt.drain ≠ none) := by
  refine ⟨?_, ?_, ?_, ?_, ?_, ?_, ?_, ?_, ?_, ?_, ?_, ?_, ?_, ?_, ?_, ?_, ?_, ?_, ?_, ?_⟩ <;> decide +kernel

end CoreMemoryAccesses

namespace HostCommandsAndSamples
def up (s : State) (p part : Nat) : State := { (((s.fset (R.PEP_PORT_CTL_ROLE p) 1).fset (R.PEP_PORT_CTL_PART p) part).fset (R.PEP_PORT_STS_PRESENT p) 1).fset (R.PEP_PORT_STS_DL_ACTIVE p) 1 with sw := { s.sw with ports := storePut {} p { up := true } s.sw.ports } }
def s0 := at_ (md mFABRIC) 3000000000
def s1 := ((up s0 5 3).setReg (R.MGT_HCMD_LO 3) 0x1000).setReg R.MGT_HCMD_PEND 0x8

/-- The hypotheses of each clause of `Obligations.HostCommandsAndSamples` are met. -/
theorem witness_HostCommandsAndSamples :
    (0 < 32 ∧ (s0.fset R.MGT_SQ_GOV_EN 0).alive = true ∧
      bit ((s0.fset R.MGT_SQ_GOV_EN 0).reg R.MGT_HCMD_PEND).toNat 0 = false) ∧
    (3 < 32 ∧ s1.alive = true ∧ bit (s1.reg R.MGT_HCMD_PEND).toNat 3 = true) ∧
    (0 < 32 ∧ (s0.fset R.MGT_SQ_GOV_EN 0).alive = true) ∧
    (0 < 32 ∧ (s0.fset R.MGT_SQ_GOV_EN 0).alive = true) ∧
    (0 < 32 ∧ (s0.fset R.MGT_SQ_GOV_EN 0).alive = true ∧
      storeGet 0 (s0.fset R.MGT_SQ_GOV_EN 0).mgt.bells 0 ≠ (s0.fset R.MGT_SQ_GOV_EN 0).now + 1) ∧
    (0 < 32 ∧ (s0.fset R.MGT_SQ_GOV_EN 0).alive = true) ∧
    (0 < 32 ∧ (s0.fset R.MGT_SQ_GOV_EN 0).alive = true) ∧
    (0 < 32 ∧ (s0.fset R.MGT_SQ_GOV_EN 0).alive = true ∧
      (((s0.fset R.MGT_SQ_GOV_EN 0).flag R.MGT_SQ_GOV_EN && decide (storeGet 0 (s0.fset R.MGT_SQ_GOV_EN 0).govAt gSAMPLE + (s0.fset R.MGT_SQ_GOV_EN 0).fget R.MGT_SQ_GOV_PERIOD_MS * 1250000 ≤ (s0.fset R.MGT_SQ_GOV_EN 0).now))) = false) ∧
    (0 < 32 ∧ s0.alive = true ∧
      ((s0.flag R.MGT_SQ_GOV_EN && decide (storeGet 0 s0.govAt gSAMPLE + s0.fget R.MGT_SQ_GOV_PERIOD_MS * 1250000 ≤ s0.now))) = true) := by
  refine ⟨?_, ?_, ?_, ?_, ?_, ?_, ?_, ?_, ?_⟩ <;> decide +kernel

end HostCommandsAndSamples

namespace WatchdogAndUpdates
def s0 := at_ (md mFABRIC) 3000000000
def s1 := (s0.fset R.MGT_WDOG_EN 1).fset R.DEV_MODE_STS_FW_RUNNING 1
def s2 := (s1.fset R.MGT_WDOG_PERIOD_MS 1).fset R.MGT_PAIR_STS_B_STATE 1
def s3 := mg (((s2.setMode mUPDATE).fset R.MGT_UPDATE_STS_RESULT 1).fset R.MGT_UPDATE_STS_PRIOR 4) fun m => { m with updateAt := 5 }
def s5 := (s2.setMode mLIMP)
def img1 : List Byte := leBytes 4 0x474D4943 ++ [1, 0] ++ leBytes 2 1 ++ leBytes 3 0 ++ leBytes 5 0 ++ leBytes 4 16
def s6 := mg s5 fun m => { m with booting := true, bootSlot := some 1, sram := [(3, some 9), (7, some 8)], flash := (img1.zip (upTo img1.length)).map fun (x : Byte × Nat) => (0x410000 + x.2, some x.1) }
def st := mg s6 fun m => { m with bootSlot := none }
def st1 := st.fset R.DEV_STRAP_MODE 1

/-- The hypotheses of each clause of `Obligations.WatchdogAndUpdates` are met, but for what functions without a body answer (log entry 4). -/
theorem witness_WatchdogAndUpdates :
    (s0.alive = true ∧
      ((s0.watched && decide (s0.mgt.kickAt + s0.fget R.MGT_WDOG_PERIOD_MS * 1250000 ≤ s0.now))) = false ∧
      s0.fget R.MGT_WDOG_EN = 1) ∧
    ((s0.fset R.MGT_WDOG_EN 0).alive = true ∧
      ((((s0.fset R.MGT_WDOG_EN 0).watched && decide ((s0.fset R.MGT_WDOG_EN 0).mgt.kickAt + (s0.fset R.MGT_WDOG_EN 0).fget R.MGT_WDOG_PERIOD_MS * 1250000 ≤ (s0.fset R.MGT_WDOG_EN 0).now))) = true ∨
      (s0.fset R.MGT_WDOG_EN 0).fget R.MGT_WDOG_EN = 0)) ∧
    (s1.alive = true ∧
      ((s1.watched && !s1.mgt.warned && decide (2 * s1.mgt.kickAt + s1.fget R.MGT_WDOG_PERIOD_MS * 1250000 ≤ 2 * s1.now))) = true) ∧
    ((s0.fset R.MGT_WDOG_EN 0).alive = true ∧
      (((s0.fset R.MGT_WDOG_EN 0).watched && !(s0.fset R.MGT_WDOG_EN 0).mgt.warned && decide (2 * (s0.fset R.MGT_WDOG_EN 0).mgt.kickAt + (s0.fset R.MGT_WDOG_EN 0).fget R.MGT_WDOG_PERIOD_MS * 1250000 ≤ 2 * (s0.fset R.MGT_WDOG_EN 0).now))) = false) ∧
    ((s0.fset R.MGT_WDOG_EN 0).alive = true ∧
      (((s0.fset R.MGT_WDOG_EN 0).watched && decide ((s0.fset R.MGT_WDOG_EN 0).mgt.kickAt + (s0.fset R.MGT_WDOG_EN 0).fget R.MGT_WDOG_PERIOD_MS * 1250000 ≤ (s0.fset R.MGT_WDOG_EN 0).now))) = false) ∧
    (s1.alive = true ∧ ((s1.watched && decide (s1.mgt.kickAt + s1.fget R.MGT_WDOG_PERIOD_MS * 1250000 ≤ s1.now))) = true) ∧
    (s3.alive = true ∧ 0 < 2 ∧ (s3.updating = true ∨ s3.failing = true)) ∧
    (s5.alive = true ∧ 0 < 2 ∧ s5.updating = false ∧ s5.failing = false ∧ serviceMode s5.mode = false) ∧
    ((s0.fset R.MGT_WDOG_EN 0).alive = true ∧ 0 < 2 ∧ (s0.fset R.MGT_WDOG_EN 0).updating = false ∧
      (s0.fset R.MGT_WDOG_EN 0).failing = false ∧ serviceMode (s0.fset R.MGT_WDOG_EN 0).mode = true) ∧
    (st1.alive = true ∧ (st1.mgt.booting = false ∨ st1.mode = mSAFE ∨ st1.lost = true ∨ (st1.mgt.bootSlot = none ∧
      st1.fget R.DEV_STRAP_MODE = 1))) ∧
    (s6.alive = true ∧ s6.mgt.booting = true ∧ s6.mode ≠ mSAFE ∧ s6.lost = false ∧ s6.mgt.bootSlot ≠ none) ∧
    ((mg s6 fun m => { m with flash := [] }).alive = true ∧ (mg s6 fun m => { m with flash := [] }).mgt.booting = true ∧
      (mg s6 fun m => { m with flash := [] }).mode ≠ mSAFE ∧ (mg s6 fun m => { m with flash := [] }).lost = false ∧
      (mg s6 fun m => { m with flash := [] }).mgt.bootSlot ≠ none) ∧
    ((s0.fset R.MGT_WDOG_EN 0).alive = true ∧ (s0.fset R.MGT_WDOG_EN 0).updating = false) ∧
    ((s0.fset R.MGT_WDOG_EN 0).alive = true ∧ ((s0.fset R.MGT_WDOG_EN 0).updating = false ∨
      (s0.fset R.MGT_WDOG_EN 0).now < (s0.fset R.MGT_WDOG_EN 0).mgt.updateAt + 625000000)) ∧
    (s3.alive = true ∧ s3.updating = true ∧ 0 ≤ s3.now) := by
  refine ⟨?_, ?_, ?_, ?_, ?_, ?_, ?_, ?_, ?_, ?_, ?_, ?_, ?_, ?_, ?_⟩ <;> decide +kernel

end WatchdogAndUpdates

namespace CulvertBus
def cu (s : State) (f : Culvert → Culvert) : State := { s with cul := f s.cul }
def s0 := at_ (md mFABRIC) 3000000000
def s1 := (s0.fset (R.CUL_CS_CFG_EN 1) 1).fset R.CUL_STS_DEAD 4
def o1 : LbOp := { id := 1, src := .req .mgmt, cs := 1, addr := 4, len := 4, write := true, posted := true, data := [1,2,3,4], todo := [[4,5,6,7]] }
def o2 : LbOp := { o1 with write := false, posted := false, data := [] }
def o3 : LbOp := { o1 with todo := [[4,5],[6,7]] }
def o4 : LbOp := { o2 with id := 3, todo := [[4,5],[6,7]] }
def o5 : LbOp := { o1 with id := 5, posted := false }
def w (ops : List LbOp) (r : Option Nat) := cu s1 fun c => { c with ops := ops, running := r, prefetch := [{ cs := 1, base := 0, data := [1], made := 5 }, { cs := 1, base := 0, data := [1], made := 3000000000 }] }
def wm (s : State) := cu s fun c => { c with warm := some 7 }
def ba (s : State) := cu s fun c => { c with barriers := [{ view := 32, waits := [] }, { view := 33, waits := [], failed := some (2, 5) }, {view := 0, waits := [3] }] }
def pfs := (cu s1 fun c => { c with prefetch := [{ cs := 1, base := 0, data := upTo 32 |>.map (BitVec.ofNat 8), made := 3000000000 }] }).fset R.CUL_CTL_PF_EN 1
def pf1 := pfs.setTbl 0x11 0 3 (BitVec.ofNat 256 (1 + 2*1 + 32 + 2^8*6))
def ext (s : State) := s.fset R.CUL_STS_EXT_OWNS 1
def od : LbOp := { o1 with cs := 2 }

/-- The hypotheses of each clause of `Obligations.CulvertBus` are met. -/
theorem witness_CulvertBus :
    (s1.alive = true ∧ s1.cul.door = [] ∧ 1 < 8 ∧ 1 < 2 ^ 32 ∧ 1 ≤ 4096 ∧ (([1,2,3,4] : List Byte)).length ≤ 4096 ∧
      s1.cul.ops = [] ∧ s1.culOpen = true ∧ s1.flag (R.CUL_CS_CFG_EN 1) = true ∧
      (s1.prefetchHit { src := .req ((.part 0)), cs := 1, addr := 1, len := 1, write := false } (s1.lbAddrs 1 1 1)) = none) ∧
    (pf1.alive = true ∧ pf1.cul.door = [] ∧ 1 < 8 ∧ 1 < 2 ^ 32 ∧ 1 ≤ 4096 ∧ (([1,2,3,4] : List Byte)).length ≤ 4096 ∧
      pf1.cul.ops = [] ∧ pf1.culOpen = true ∧ pf1.flag (R.CUL_CS_CFG_EN 1) = true ∧
      ((pf1.prefetchHit { src := .req ((.part 0)), cs := 1, addr := 1, len := 1, write := false } (pf1.lbAddrs 1 1 1))).isSome = true) ∧
    (s1.alive = true ∧ s1.cul.door = [] ∧ 1 < 8 ∧ 1 < 2 ^ 32 ∧ 1 ≤ 4096 ∧ (([1,2,3,4] : List Byte)).length ≤ 4096 ∧
      s1.cul.ops = [] ∧ s1.culOpen = true ∧ s1.flag (R.CUL_CS_CFG_EN 1) = true ∧ s1.dead 1 = false) ∧
    (s1.alive = true ∧ s1.cul.door = [] ∧ 2 < 8 ∧ 1 < 2 ^ 32 ∧ 1 ≤ 4096 ∧ (([1,2,3,4] : List Byte)).length ≤ 4096 ∧
      s1.cul.ops = [] ∧ s1.culOpen = true ∧ s1.dead 2 = true) ∧
    (s0.alive = true ∧ s0.cul.door = [] ∧ 1 < 8 ∧ 1 < 2 ^ 32 ∧ 1 ≤ 4096 ∧ (([1,2,3,4] : List Byte)).length ≤ 4096 ∧
      s0.cul.ops = [] ∧ s0.culOpen = true ∧ s0.flag (R.CUL_CS_CFG_EN 1) = false) ∧
    (s0.alive = true ∧ s0.cul.door = [] ∧ 1 < 8 ∧ 1 < 2 ^ 32 ∧ 1 ≤ 4096 ∧ (([1,2,3,4] : List Byte)).length ≤ 4096 ∧
      s0.cul.ops = [] ∧ s0.culOpen = true ∧ s0.flag (R.CUL_CS_CFG_EN 1) = false ∧ s0.dead 1 = false) ∧
    ((wm (w [o1,o2,o5] none)).alive = true ∧ (wm (w [o1,o2,o5] none)).cul.door = [] ∧
      (wm (w [o1,o2,o5] none)).culOpen = false) ∧
    (s0.alive = true ∧ s0.cul.door = [] ∧
      (((s0.cul.running == none && !s0.flag R.CUL_STS_EXT_OWNS && !s0.cul.extReq)) = false ∨ s0.cul.ops = [])) ∧
    ((w [o1] none).alive = true ∧ (w [o1] none).cul.door = [] ∧
      (((w [o1] none).cul.running == none && !(w [o1] none).flag R.CUL_STS_EXT_OWNS && !(w [o1] none).cul.extReq)) = true ∧
      (w [o1] none).cul.ops = ((o1 : LbOp)) :: (([] : List LbOp)) ∧ ((o1 : LbOp)).todo ≠ [] ∧
      (((o1 : LbOp)).write = true → (w [o1] none).dead ((o1 : LbOp)).cs = false)) ∧
    ((w [od] none).alive = true ∧ (w [od] none).cul.door = [] ∧
      (((w [od] none).cul.running == none && !(w [od] none).flag R.CUL_STS_EXT_OWNS && !(w [od] none).cul.extReq)) = true ∧
      (w [od] none).cul.ops = ((od : LbOp)) :: (([] : List LbOp)) ∧ ((od : LbOp)).todo ≠ [] ∧ ((od : LbOp)).write = true ∧
      (w [od] none).dead ((od : LbOp)).cs = true) ∧
    ((w [o3] (some 7)).alive = true ∧ (w [o3] (some 7)).cul.door = [] ∧ (w [o3] (some 7)).cul.running = some 7 ∧
      (w [o3] (some 7)).cul.ops = [((o3 : LbOp))] ∧ ((o3 : LbOp)).src = .req .mgmt ∧
      ((o3 : LbOp)).todo = (([4,5] : List Nat)) :: (([[6,7]] : List (List Nat))) ∧
      2 * 7 + 25 * (w [o3] (some 7)).lbClocks ((o3 : LbOp)) (([4,5] : List Nat)) ≤ 2 * (w [o3] (some 7)).now ∧
      (([[6,7]] : List (List Nat))) ≠ []) ∧
    ((w [o1] (some 7)).alive = true ∧ (w [o1] (some 7)).cul.door = [] ∧ (w [o1] (some 7)).cul.running = some 7 ∧
      (w [o1] (some 7)).cul.ops = [((o1 : LbOp))] ∧ ((o1 : LbOp)).src = .req .mgmt ∧
      ((o1 : LbOp)).todo = (([4,5,6,7] : List Nat)) :: (([] : List (List Nat))) ∧
      2 * 7 + 25 * (w [o1] (some 7)).lbClocks ((o1 : LbOp)) (([4,5,6,7] : List Nat)) ≤ 2 * (w [o1] (some 7)).now ∧
      (([] : List (List Nat))) = [] ∧ ((o1 : LbOp)).write = true) ∧
    ((w [o2] (some 7)).alive = true ∧ (w [o2] (some 7)).cul.door = [] ∧ (w [o2] (some 7)).cul.running = some 7 ∧
      (w [o2] (some 7)).cul.ops = [((o2 : LbOp))] ∧ ((o2 : LbOp)).src = .req .mgmt ∧
      ((o2 : LbOp)).todo = (([4,5,6,7] : List Nat)) :: (([] : List (List Nat))) ∧
      2 * 7 + 25 * (w [o2] (some 7)).lbClocks ((o2 : LbOp)) (([4,5,6,7] : List Nat)) ≤ 2 * (w [o2] (some 7)).now ∧
      (([] : List (List Nat))) = [] ∧ ((o2 : LbOp)).write = false) ∧
    ((at_ (w [o4] (some 300)) 301).alive = true ∧ (at_ (w [o4] (some 300)) 301).cul.door = [] ∧
      (at_ (w [o4] (some 300)) 301).cul.running = some 300 ∧ (at_ (w [o4] (some 300)) 301).cul.ops = [((o4 : LbOp))] ∧
      ((o4 : LbOp)).src = .req .mgmt ∧ ((o4 : LbOp)).todo = (([4,5] : List Nat)) :: (([[6,7]] : List (List Nat))) ∧
      2 * (at_ (w [o4] (some 300)) 301).now < 2 * 300 + 25 * (at_ (w [o4] (some 300)) 301).lbClocks ((o4 : LbOp)) (([4,5] : List Nat))) ∧
    (s0.alive = true ∧ s0.cul.door = [] ∧ (s0.cul.ops = [] ∨ s0.now < s0.cul.asked + s0.fget R.CUL_TIMEOUT_US * 1250)) ∧
    ((w [o1] none).alive = true ∧ (w [o1] none).cul.door = [] ∧ (w [o1] none).cul.ops = [((o1 : LbOp))] ∧
      ((o1 : LbOp)).src = .req .mgmt ∧ ((o1 : LbOp)).cs < 8 ∧
      (w [o1] none).cul.asked + (w [o1] none).fget R.CUL_TIMEOUT_US * 1250 ≤ (w [o1] none).now) ∧
    ((ext (w [o1] none)).alive = true ∧ (ext (w [o1] none)).cul.door = [] ∧
      (ext (w [o1] none)).flag R.CUL_STS_EXT_OWNS = true) ∧
    (s0.alive = true ∧ s0.cul.door = [] ∧ s0.flag R.CUL_STS_EXT_OWNS = false ∧ s0.cul.running = none) ∧
    ((w [o2] (some 7)).alive = true ∧ (w [o2] (some 7)).cul.door = [] ∧
      (w [o2] (some 7)).flag R.CUL_STS_EXT_OWNS = false ∧ (w [o2] (some 7)).cul.running ≠ none) ∧
    (s0.alive = true ∧ s0.cul.door = []) ∧
    (s0.alive = true ∧ s0.cul.door = []) ∧
    (((s0.cul.barriers.find? fun b => b.view == reqNum ((.part 0))) = none)) ∧
    (((((ba s1).cul.barriers.find? fun b => b.view == reqNum ((.part 0)))).isSome = true)) ∧
    (((((ba s1).cul.barriers.find? fun b => b.view == reqNum .mgmt && b.waits.isEmpty && !b.gather)).any (fun b => decide (b.failed = none)) = true)) ∧
    (((((ba s1).cul.barriers.find? fun b => b.view == reqNum .debug && b.waits.isEmpty && !b.gather)).any (fun b => decide ((b.failed).any (fun (cs, a) => decide ((ba s1).alive = true)) = true)) = true)) ∧
    (((s0.cul.barriers.find? fun b => b.view == reqNum ((.part 0)) && b.waits.isEmpty && !b.gather) = none)) ∧
    (s0.cul.warm = none) ∧
    ((wm (w [o1,o2,o5] none)).cul.warm ≠ none) ∧
    (s0.cul.warm = none) ∧
    ((wm (w [o5,o1] (some 7))).cul.warm = some 7 ∧
      (wm (w [o5,o1] (some 7))).cul.ops = ((o5 : LbOp)) :: (([o1] : List LbOp)) ∧
      (((wm (w [o5,o1] (some 7))).cul.running ≠ none ∧ ((o5 : LbOp)).write = true ∧ ((o5 : LbOp)).posted = false) ∨
      ((wm (w [o5,o1] (some 7))).lbPostedUsed ≠ 0 ∧ (wm (w [o5,o1] (some 7))).now < 7 + 12500))) ∧
    ((((wm (w [o1,o2,o5] none)).cul.warm).any (fun t0 => decide ((((wm (w [o1,o2,o5] none)).cul.running = none ∨
      ((wm (w [o1,o2,o5] none)).cul.ops.head?.all fun o => !o.write || o.posted) = true)) ∧
      (((wm (w [o1,o2,o5] none)).lbPostedUsed = 0 ∨ t0 + 12500 ≤ (wm (w [o1,o2,o5] none)).now)) ∧
      (wm (w [o1,o2,o5] none)).alive = true ∧ (wm (w [o1,o2,o5] none)).ctr R.CUL_RST_DISCARD ≤ counterMax)) = true)) ∧
    ((at_ (w [o4] (some 300)) 301).now < (at_ (w [o4] (some 300)) 301).cul.sbAt + (at_ (w [o4] (some 300)) 301).fget R.CUL_SB_CTL_POLL_US * 1250) ∧
    ((2 * (cu (at_ s1 300) fun c => { c with sbAt := 300, intAt := 300 }).now < 2 * (cu (at_ s1 300) fun c => { c with sbAt := 300, intAt := 300 }).cul.intAt + 25 * (cu (at_ s1 300) fun c => { c with sbAt := 300, intAt := 300 }).fget R.CUL_INT_CTL_POLL)) ∧
    (s0.cul.sbAt + s0.fget R.CUL_SB_CTL_POLL_US * 1250 ≤ s0.now) ∧
    (1 < 256 ∧ s0.alive = true ∧ 2 * s0.cul.intAt + 25 * s0.fget R.CUL_INT_CTL_POLL ≤ 2 * s0.now) ∧
    (((s0.setMode mSTANDBY).fset R.CUL_SB_CTL_WAKE_EN 1).mode = mSTANDBY ∧
      ((s0.setMode mSTANDBY).fset R.CUL_SB_CTL_WAKE_EN 1).fget R.CUL_SB_CTL_WAKE_EN = 1) ∧
    ((s0.mode ≠ mSTANDBY ∨ s0.fget R.CUL_SB_CTL_WAKE_EN = 0)) := by
  refine ⟨?_, ?_, ?_, ?_, ?_, ?_, ?_, ?_, ?_, ?_, ?_, ?_, ?_, ?_, ?_, ?_, ?_, ?_, ?_, ?_, ?_, ?_, ?_, ?_, ?_, ?_, ?_, ?_, ?_, ?_, ?_, ?_, ?_, ?_, ?_, ?_, ?_⟩ <;> decide +kernel

end CulvertBus

namespace SlotPower
def sl (s : State) (n : Nat) (x : Slot) : State := { s with slots := storePut {} n x s.slots }
def p0 := (at_ (md mFABRIC) 3000000000).fset (R.SPV_SLOT_STS_PRESENT 3) 1
def st (s : State) (n v : Nat) : State := s.fset (R.SPV_SLOT_STS_STATE n) v
def p1 := st (p0.fset (R.SPV_SLOT_CTL_ON 3) 1) 3 slWAIT
def ch (s : State) (n c : Nat) : State := (((s.fset (R.SPV_CH_CTL_EN n c) 1).fset (R.SPV_CH_STS_ON n c) 1).fset (R.SPV_CH_STS_PG n c) 1)
def rdy (s : State) : State := (((s.fset R.DEV_MODE_STS_BG_DONE 1).fset R.SPV_VIN_VIN12 12000).fset R.SPV_VIN_VIN3V3 3300)
def valid (s : State) (n : Nat) : State := ((((s.fset (R.SPV_CH_CTL_EN n 0) 1).setReg (R.SPV_ILIMIT0 n) 0x202710).setReg (R.SPV_RSHUNT0 n) 500).setReg (R.SPV_FAULT_TIMER0 n) 100)
def q1 := rdy p1
def q2 := q1.fset (R.SPV_CH_CTL_EN 3 0) 1
def q3 := valid q1 3
def q4 := ((ch (ch p1 3 0) 3 1).fset (R.SPV_SLOT_STS_PG 3) 1)
def q5 := sl (st q4 3 slRAMP) 3 { ch0 := { ramping := true, energy := 100, ftStart := 5 }, ch1 := { ramping := true } }
def q6 := sl (st q4 3 slRAMP) 3 { ch0 := { ramping := false, energy := 100 }, ch1 := { ramping := false }, pgAt := some 5, offAt := some 5, retryDue := some 7, windowEnd := some 10 }
def q8 := sl (st q6 3 slON) 3 { pgAt := some 3000000001, windowEnd := some 5, retryDue := some 3000000001 }
def q9 := (st q8 3 slLATCHED).fset (R.SPV_SLOT_CTL_ON 3) 0 |>.fset R.SPV_GLB_LATCH_LATCHED 8
def q10 := { ((q5.fset (R.SPV_CH_STS_FT_RUN 3 0) 1).fset R.SPV_GLB_CTL_GOV_EN 1).fset R.SPV_GLB_CTL_UPTRIP_EN 1 with uptrip := some 7 }
def q11 := { (q10.fset (R.SPV_SLOT_STS_RETRIES 3) 3).fset (R.SPV_RETRY_MAX 3) 3 with uptrip := some 3000000007 }
def q12 := sl (st q3 3 slTRIPPED) 3 { retryDue := some 7 }
def q13 := (sl (st q3 3 slTRIPPED) 3 { retryDue := some 3000000008 })
def q16 := (q10.modSlot 3 fun x => x.setChan 0 fun k => { k with rising := true, shortFrom := some 5 })
def q19 := q6.fset R.SPV_GLB_CTL_GOV_EN 0
def q20 := q2.setReg (R.SPV_RSHUNT0 3) 0
def vo (s : State) : State := (s.fset (R.SPV_MEAS_V_VOUT 3 0) 12000).fset (R.SPV_MEAS_V_VOUT 3 1) 3300
def q21 := vo q5
def q22 := vo (sl (((st q4 3 slQUALIFY).fset (R.SPV_CH_STS_PG 3 0) 0).fset (R.SPV_SLOT_STS_PG 3) 0) 3 {})
def q23 := q22.fset (R.SPV_CH_CTL_FORCE_ON 3 0) 1
def q24 := sl (st q4 3 slON) 3 { ch0 := { lowFrom := some 5 } }

/-- The hypotheses of each clause of `Obligations.SlotPower` are met. -/
theorem witness_SlotPower :
    (0 < 24 ∧ 0 < 2 ∧ p0.alive = true ∧ p0.fastOver 0 0 65536 = true) ∧
    (3 < 24 ∧ p0.alive = true ∧ p0.spvDue = [] ∧ p0.slotState 3 = slOFF ∧ p0.flag (R.SPV_SLOT_STS_PRESENT 3) = true ∧
      p0.powerControllerOff 3 = false) ∧
    (3 < 24 ∧ q1.alive = true ∧ q1.spvDue = [] ∧ q1.slotState 3 = slWAIT ∧ ((q1.slot 3).holdUntil = none ∨
      q1.flag R.SPV_GLB_CTL_GOV_EN = false) ∧ q1.insertionAllowed 3 = true ∧ q1.badChannel 3 = none) ∧
    (3 < 24 ∧ q20.alive = true ∧ q20.spvDue = [] ∧ q20.slotState 3 = slWAIT ∧ ((q20.slot 3).holdUntil = none ∨
      q20.flag R.SPV_GLB_CTL_GOV_EN = false) ∧ q20.insertionAllowed 3 = true ∧ (q20.badChannel 3).isSome = true) ∧
    (0 < 24 ∧ p0.alive = true ∧ p0.spvDue = [] ∧ p0.insertionAllowed 0 = false) ∧
    (3 < 24 ∧ q21.alive = true ∧ q21.spvDue = [] ∧ 0 < 2 ∧ q21.slotState 3 = slRAMP ∧
      q21.pgThr 3 0 ≤ q21.fget (R.SPV_MEAS_V_VOUT 3 0)) ∧
    (3 < 24 ∧ q5.alive = true ∧ q5.spvDue = [] ∧ 0 < 2 ∧ q5.slotState 3 = slRAMP ∧
      q5.fget (R.SPV_MEAS_V_VOUT 3 0) < q5.pgThr 3 0) ∧
    (3 < 24 ∧ q22.alive = true ∧ q22.spvDue = [] ∧ 0 < 2 ∧ q22.flag (R.SPV_CH_STS_ON 3 0) = true ∧
      q22.flag (R.SPV_CH_STS_FT_RUN 3 0) = false ∧ ((q22.slot 3).chan 0).ramping = false ∧ q22.slotLatched 3 = false ∧
      (q22.slot 3).offAt = none ∧ q22.chanEnabled 3 0 = true ∧ q22.pgThr 3 0 ≤ q22.fget (R.SPV_MEAS_V_VOUT 3 0) ∧
      ((q22.slot 3).chan 0).qualFrom + 1250 * (if 0 = 0 then q22.fget (R.SPV_PG_CFG0_DELAY_US 3) else q22.fget (R.SPV_PG_CFG1_DELAY_US 3)) ≤ q22.now ∧
      (q22.chanEnabled 3 (1 - 0) = true → q22.flag (R.SPV_CH_STS_PG 3 (1 - 0)) = true)) ∧
    (3 < 24 ∧ q6.alive = true ∧ q6.spvDue = [] ∧
      (((q6.slot 3).pgAt).any (fun t0 => decide (t0 + 125000000 ≤ q6.now)) = true)) ∧
    (3 < 24 ∧ q8.alive = true ∧ q8.spvDue = [] ∧
      (((q8.slot 3).pgAt).any (fun t0 => decide (q8.now < t0 + 125000000)) = true)) ∧
    (0 < 24 ∧ p0.alive = true ∧ p0.spvDue = []) ∧
    (3 < 24 ∧ q6.alive = true ∧ q6.spvDue = [] ∧
      (((q6.slot 3).offAt).any (fun t0 => decide (t0 + 125000 ≤ q6.now)) = true)) ∧
    (0 < 24 ∧ p0.alive = true ∧ p0.spvDue = [] ∧ 0 < 2 ∧ p0.slotLatched 0 = false ∧ (p0.chanEnabled 0 0 = true ∨
      p0.chanEnabled 0 1 = true)) ∧
    (3 < 24 ∧ q9.alive = true ∧ q9.spvDue = [] ∧ 0 < 2 ∧ (q9.slotLatched 3 = true ∨ (q9.chanEnabled 3 0 = false ∧
      q9.chanEnabled 3 1 = false))) ∧
    (3 < 24 ∧ q23.alive = true ∧ q23.spvDue = [] ∧ 0 < 2 ∧ q23.slotLatched 3 = false ∧
      q23.flag (R.SPV_CH_CTL_FORCE_ON 3 0) = true ∧ (q23.chanEnabled 3 0 = true ∨ q23.chanEnabled 3 1 = true)) ∧
    (0 < 24 ∧ p0.alive = true ∧ p0.spvDue = []) ∧
    (0 < 24 ∧ 0 < 2 ∧ p0.alive = true) ∧
    (0 < 24 ∧ 0 < 2 ∧ p0.alive = true ∧ p0.fastOver 0 0 0 = false) ∧
    (0 < 24 ∧ 0 < 2 ∧ q10.alive = true ∧ ((q10.uptrip).any (fun t0 => decide (t0 ≤ q10.now)) = true)) ∧
    (0 < 24 ∧ 0 < 2 ∧ q11.alive = true ∧ ((q11.uptrip).any (fun t0 => decide (q11.now < t0)) = true)) ∧
    (0 < 24 ∧ 0 < 2 ∧ p0.alive = true ∧ p0.spvDue = []) ∧
    (3 < 24 ∧ 0 < 2 ∧ q4.alive = true ∧ q4.spvDue = [] ∧ q4.flag (R.SPV_CH_STS_ON 3 0) = true ∧
      q4.flag (R.SPV_CH_CTL_FORCE_ON 3 0) = false) ∧
    (0 < 24 ∧ 0 < 2 ∧ p0.alive = true ∧ p0.spvDue = [] ∧ (p0.flag (R.SPV_CH_STS_ON 0 0) = false ∨
      p0.flag (R.SPV_CH_CTL_FORCE_ON 0 0) = true)) ∧
    (3 < 24 ∧ 0 < 2 ∧ q4.alive = true ∧ q4.spvDue = [] ∧ q4.flag (R.SPV_CH_STS_ON 3 0) = true ∧
      (q4.fastOver 3 0 65536) = true) ∧
    (0 < 24 ∧ 0 < 2 ∧ p0.alive = true ∧ p0.spvDue = [] ∧ p0.flag (R.SPV_CH_STS_ON 0 0) = false) ∧
    (3 < 24 ∧ 0 < 2 ∧ q10.alive = true ∧ q10.spvDue = [] ∧ q10.flag (R.SPV_CH_STS_FT_RUN 3 0) = true ∧
      ((q10.slot 3).chan 0).limAt + 125000 ≤ q10.now) ∧
    (0 < 24 ∧ 0 < 2 ∧ p0.alive = true ∧ p0.spvDue = [] ∧ (p0.flag (R.SPV_CH_STS_FT_RUN 0 0) = false ∨
      p0.now < ((p0.slot 0).chan 0).limAt + 125000)) ∧
    (0 < 24 ∧ 0 < 2 ∧ p0.alive = true ∧ p0.spvDue = [] ∧ (p0.slotState 0 = slFENCED ∨ p0.fetShorted 0 0 true = false)) ∧
    (3 < 24 ∧ 0 < 2 ∧ q16.alive = true ∧ q16.spvDue = [] ∧ q16.slotState 3 ≠ slFENCED ∧ q16.fetShorted 3 0 false = true) ∧
    (3 < 24 ∧ 0 < 2 ∧ q24.alive = true ∧ q24.spvDue = [] ∧ q24.flag (R.SPV_CH_STS_PG 3 0) = true ∧
      q24.flag (R.SPV_CH_STS_FT_RUN 3 0) = false ∧ q24.flag (R.SPV_CH_STS_ON 3 0) = true ∧ q24.chanEnabled 3 0 = true ∧
      q24.slotLatched 3 = false ∧ (q24.slot 3).offAt = none ∧
      ((((q24.slot 3).chan 0).lowFrom).any (fun t0 => decide (t0 + 20000 ≤ q24.now)) = true)) ∧
    (0 < 24 ∧ 0 < 2 ∧ q19.alive = true ∧ q19.spvDue = [] ∧ q19.flag R.SPV_GLB_CTL_GOV_EN = false) ∧
    (3 < 24 ∧ 0 < 2 ∧ q12.alive = true ∧ q12.spvDue = [] ∧
      (((q12.slot 3).retryDue).any (fun t0 => decide (q12.slotState 3 = slTRIPPED ∧ q12.flag R.SPV_GLB_CTL_GOV_EN = true ∧
      t0 ≤ q12.now ∧ q12.insertionAllowed 3 = true ∧ q12.badChannel 3 = none)) = true)) ∧
    (3 < 24 ∧ 0 < 2 ∧ q13.alive = true ∧ q13.spvDue = [] ∧
      (((q13.slot 3).retryDue).any (fun t0 => decide (q13.slotState 3 = slTRIPPED ∧ q13.now < t0)) = true)) ∧
    (3 < 24 ∧ 0 < 2 ∧ q8.alive = true ∧ q8.spvDue = [] ∧
      (((q8.slot 3).windowEnd).any (fun t0 => decide (q8.flag R.SPV_GLB_CTL_GOV_EN = true ∧ t0 ≤ q8.now ∧
      q8.slotState 3 = slON)) = true)) ∧
    (3 < 24 ∧ 0 < 2 ∧ p0.alive = true ∧ p0.spvDue = [] ∧ p0.flag (R.SPV_SLOT_STS_PRESENT 3) = true) ∧
    (3 < 24 ∧ 0 < 2 ∧ p0.alive = true ∧ p0.spvDue = [] ∧ p0.flag (R.SPV_SLOT_STS_PRESENT 3) = true) ∧
    (0 < 24 ∧ 0 < 2 ∧ p0.alive = true ∧ p0.spvDue = [] ∧ p0.flag (R.SPV_SLOT_STS_PRESENT 0) = false) ∧
    (0 < 24 ∧ 0 < 2 ∧ p0.alive = true ∧ p0.spvDue = [] ∧ p0.flag (R.SPV_SLOT_STS_PRESENT 0) = false) := by
  refine ⟨?_, ?_, ?_, ?_, ?_, ?_, ?_, ?_, ?_, ?_, ?_, ?_, ?_, ?_, ?_, ?_, ?_, ?_, ?_, ?_, ?_, ?_, ?_, ?_, ?_, ?_, ?_, ?_, ?_, ?_, ?_, ?_, ?_, ?_, ?_, ?_, ?_, ?_⟩ <;> decide +kernel

/-- A channel that is on, for a fast trip; one whose gate rises, and one whose fault timer has run out. -/
theorem witness_SlotPower_trips :
    q5.alive = true ∧ q5.flag (R.SPV_CH_STS_ON 3 1) = true ∧ q5.slotState 3 = slRAMP ∧
      q10.flag (R.SPV_CH_STS_ON 3 0) = true ∧ q10.flag (R.SPV_CH_STS_FT_RUN 3 0) = true ∧
      ((q10.slot 3).chan 0).ftStart + 1250 * q10.fget (R.SPV_FAULT_TIMER0_US 3) ≤ q10.now := by decide +kernel

end SlotPower

namespace Telemetry
def t0 : Tlp := { kind := .memWrite, data := [1,2,3,4], len := 4 }
def fr (i : Nat) (t : Tlp) : Frame := { id := i, tlp := t, furrow := furrow t, ingress := 3 }
def cp (i f e : Nat) : Copy := { id := i, frame := f, egress := e, queue := 0, dest := e }
def c1 := at_ (md mFABRIC) 300000000
def c2 := (((c1.fset (R.TEL_HIST_CFG_SOURCE 1) 4).fset (R.TEL_HIST_CFG_PORT 1) 3).setTbl 0x42 2 1 0x5).setTbl 0x42 0 35 7
def c3 := { (((c2.fset (R.TEL_HIST_CFG_SOURCE 2) 6).fset (R.TEL_HIST_CFG_LOG 3) 1).fset (R.TEL_HIST_CFG_SOURCE 3) 5) with govAt := [(17, 299999999)], sw := { c2.sw with frames := [fr 1 t0, fr 2 t0], copies := [cp 1 1 3, cp 2 2 3, cp 3 2 4] } }.fset R.TEL_HIST_PERIOD_NS 100000
def c4 := { c2 with samplers := [(2, { count := 3, seq := 5, due := [{ cause := some (fr 1 t0), since' := 299999997, event := 2, port := 3 }] })] }.fset R.TEL_SMP_STS_NEXT 255

/-- The hypotheses of each clause of `Obligations.Telemetry` are met. -/
theorem witness_Telemetry :
    (c2.alive = true ∧ 1 < 16 ∧ c2.level 1 = some 0 ∧ 0 < 2 ^ 64 ∧ c2.mode ≠ mLIMP ∧
      1 = histBin (c2.flag (R.TEL_HIST_CFG_LOG 1)) (c2.fget (R.TEL_HIST_CFG_WSHIFT 1)) (c2.reg (R.TEL_HIST_BASE 1)).toNat 0 ∧
      1 < 32 ∧ storeGet 0 c2.govAt (16 + 1) + cyclesOfNs (c2.fget R.TEL_HIST_PERIOD_NS) ≤ c2.now) ∧
    (c3.alive = true ∧ 1 < 16 ∧ c3.level 1 = some 2 ∧ 2 < 2 ^ 64 ∧ c3.mode ≠ mLIMP ∧
      3 = histBin (c3.flag (R.TEL_HIST_CFG_LOG 1)) (c3.fget (R.TEL_HIST_CFG_WSHIFT 1)) (c3.reg (R.TEL_HIST_BASE 1)).toNat 2 ∧
      3 < 32 ∧ c3.now < storeGet 0 c3.govAt (16 + 1) + cyclesOfNs (c3.fget R.TEL_HIST_PERIOD_NS)) ∧
    (c1.alive = true ∧ 0 < 16 ∧ (c1.level 0 = none ∨ c1.mode = mLIMP)) ∧
    (c1.alive = true) ∧
    (c1.alive = true ∧ 0 < 16) ∧
    (c1.alive = true ∧ 0 < 16) ∧
    (c1.alive = true ∧ 0 < 4 ∧ (c1.sampler 0).due = []) ∧
    (c4.alive = true ∧ 2 < 4 ∧ (match (c4.sampler 2).due with
      | x :: rest => true
      | _ => false) = true) ∧
    (c1.alive = true ∧ 0 < 4) := by
  refine ⟨?_, ?_, ?_, ?_, ?_, ?_, ?_, ?_, ?_⟩ <;> decide +kernel

end Telemetry

namespace OtpBurns
def se (s : State) (f : SecSt → SecSt) : State := { s with sec := f s.sec }
def c1 := (at_ (md mFABRIC) 300000000).setReg R.SEC_OTP_DATA 0x31
def c2 := otp c1 [(4, 7), (60, 1)]
def c3 := otp (c1.fset R.SEC_LIFECYCLE_STATE 2) [(0,1),(1,1),(2,1), (60, 1)]
def c4 := se c2 fun x => { x with burn := some (30, 0x31, none, 5) }
def c5 := se c3 fun x => { x with burn := some (0, 0, some 2, 5) }

/-- The hypotheses of each clause of `Obligations.OtpBurns` are met. -/
theorem witness_OtpBurns :
    (c1.alive = true ∧ 0 < 2048 ∧ (c1.otpRefused 0 (c1.reg R.SEC_OTP_DATA).toNat).isSome = true) ∧
    (c1.alive = true ∧ 4 < 2048 ∧ c1.otpRefused 4 (c1.reg R.SEC_OTP_DATA).toNat = none) ∧
    (c4.alive = true ∧ c4.sec.burn = some (30, ((0x31#32 : W32)).toNat, none, 5)) ∧
    (c1.alive = true ∧ (c1.sec.burn.any (·.2.2.1.isNone)) = false) ∧
    (c1.alive = true ∧ (c1.sec.burn.any (·.2.2.1.isSome)) = false) ∧
    (c1.alive = true ∧ 0 < 8 ∧ c1.mayAdvance 0 = false) ∧
    (c4.alive = true ∧ 1 < 8 ∧ c4.mayAdvance 1 = true ∧ c4.sec.burn ≠ none) ∧
    (c1.alive = true ∧ 4 < 8 ∧ c1.mayAdvance 4 = true ∧ c1.sec.burn = none) ∧
    (c5.alive = true ∧ c5.sec.burn = some (0, 0, some 2, 5)) := by
  refine ⟨?_, ?_, ?_, ?_, ?_, ?_, ?_, ?_, ?_⟩ <;> decide +kernel

end OtpBurns

namespace ImagesAndDebug
def se (s : State) (f : SecSt → SecSt) : State := { s with sec := f s.sec }
def img : List Byte := leBytes 4 0x474D4943 ++ [2, 0] ++ leBytes 2 1 ++ leBytes 3 0 ++ leBytes 5 0 ++ leBytes 4 16
def c1' := (at_ (md mFABRIC) 300000000)
def pol : Policy := { state := 1, slots := 0, svnMin := 0, ownerOnly := false, vendorDebug := true }
def c2 := se c1' fun x => { x with verify := some (2, 0x8000000, pol), unlock := some (500, pol), denyNext := 15 }
def c3 := { c2 with mgt := { c2.mgt with sram := (img.zip (upTo img.length)).map fun (x : Byte × Nat) => (x.2, some x.1) }, sec := { c2.sec with verify := some (2, 0x8000000, { pol with state := 0 }) } }
def c4 := c1'.fset R.SEC_LIFECYCLE_STATE lcOWNED
def c5 := bd (c1'.setMode mLIMP) fun b => { b with tested := 256 }
def img3 : List Byte := leBytes 4 0x474D4943 ++ [3, 0] ++ leBytes 2 1 ++ leBytes 3 0 ++ leBytes 5 0 ++ leBytes 4 64
def c8 := (se c1' fun x => { x with unlock := some (30112, pol) }).setTbl 0x0B 0 0 (BitVec.ofNat 256 (leNat img3))
def c11 := { c2 with mgt := { c2.mgt with sram := (upTo 256).map fun n => (n, some 0) } }

/-- The hypotheses of each clause of `Obligations.ImagesAndDebug` are met, but for what functions without a body answer (log entry 4). -/
theorem witness_ImagesAndDebug :
    (c2.alive = true ∧ c2.sec.verify ≠ none) ∧
    (c2.alive = true ∧ c2.sec.unlock ≠ none) ∧
    (c1'.alive = true ∧ c1'.sec.verify = none) ∧
    (c1'.alive = true ∧ c1'.sec.unlock = none) ∧
    (c1'.alive = true ∧ 0 < 4 ∧ c1'.sec.verify = none) ∧
    (c3.alive = true ∧ c3.sec.verify.isSome = true) ∧
    (c11.alive = true ∧ ((c11.sec.verify).any (fun (ty, a, p) => decide ((match c11.imageAt a ty with
      | (h, body, sig) => decide ((c11.imageCause p ty h body sig).any (fun c => decide (c < 16)) = true)) = true)) = true)) ∧
    (c1'.alive = true ∧ 0 < 8 ∧ 0 < 4) ∧
    (c1'.alive = true ∧ 4 < 8 ∧ 4 ≤ 4) ∧
    (c1'.alive = true ∧ c1'.sec.unlock = none) ∧
    (c8.alive = true ∧ c8.sec.unlock.isSome = true) ∧
    (c2.alive = true ∧
      ((c2.sec.unlock).any (fun (len, p) => decide (((c2.tokenCheck len p).1).any (fun c => decide (c < 16)) = true)) = true)) ∧
    (c1'.alive = true ∧ c1'.debugDenied 4 0 ((if 4 = dkWRITE then (([] : List Byte)).length else 0 % 4097)) = true ∧
      c1'.sec.denyNext < 16) ∧
    (c1'.alive = true ∧ c1'.debugDenied 0 0 ((if 0 = dkWRITE then (([] : List Byte)).length else 0 % 4097)) = false ∧
      0 = dkREAD ∧ ((((regionOf 0).any fun x => x.1.isMain)) = true ∨ regionOf 0 = none)) ∧
    (c1'.alive = true ∧
      c1'.debugDenied 0 4294971141 ((if 0 = dkWRITE then (([] : List Byte)).length else 0 % 4097)) = false ∧ 0 = dkREAD ∧
      ((regionOf 4294971141).any (fun (r, off) => decide ((match r with
      | .culvert _ => true
      | _ => false) = true)) = true)) ∧
    (c1'.alive = true ∧
      c1'.debugDenied 0 1073778637 ((if 0 = dkWRITE then (([] : List Byte)).length else 0 % 4097)) = false ∧ 0 = dkREAD ∧
      ((regionOf 1073778637).any (fun (r, off) => decide (r = .regs)) = true)) ∧
    (c1'.alive = true ∧ c1'.debugDenied 1 0 ((if 1 = dkWRITE then (([] : List Byte)).length else 0 % 4097)) = false ∧
      1 = dkWRITE ∧ (([] : List Byte)) = []) ∧
    (c1'.alive = true ∧
      c1'.debugDenied 1 138412030 ((if 1 = dkWRITE then (([1,2,3,4] : List Byte)).length else 0 % 4097)) = false ∧
      1 = dkWRITE ∧ c1'.undef = none ∧ (([1,2,3,4] : List Byte)) ≠ [] ∧
      ((regionOf 138412030).any (fun (r, off) => decide (r = .sram ∧
      oneRegion 138412030 ((if 1 = dkWRITE then (([1,2,3,4] : List Byte)).length else 0 % 4097)) = false)) = true)) ∧
    (c1'.alive = true ∧
      c1'.debugDenied 1 134221821 ((if 1 = dkWRITE then (([1,2,3,4] : List Byte)).length else 0 % 4097)) = false ∧
      1 = dkWRITE ∧ c1'.undef = none ∧ (([1,2,3,4] : List Byte)) ≠ [] ∧
      ((regionOf 134221821).any (fun (r, off) => decide (r = .sram ∧
      oneRegion 134221821 ((if 1 = dkWRITE then (([1,2,3,4] : List Byte)).length else 0 % 4097)) = true)) = true)) ∧
    (c1'.alive = true ∧ c1'.debugDenied 1 0 ((if 1 = dkWRITE then (([] : List Byte)).length else 0 % 4097)) = false ∧
      1 = dkWRITE ∧ c1'.undef = none ∧ (regionOf 0 = none ∨ ((regionOf 0).any fun x => x.1.isMain && x.1 != .sram) = true)) ∧
    (c1'.alive = true ∧ c1'.debugDenied 2 0 ((if 2 = dkWRITE then (([] : List Byte)).length else 0 % 4097)) = false ∧
      2 = dkRUN ∧ 0 < 3) ∧
    (c1'.alive = true ∧ c1'.debugDenied 2 3 ((if 2 = dkWRITE then (([] : List Byte)).length else 0 % 4097)) = false ∧
      2 = dkRUN ∧ 3 ≤ 3) ∧
    (c1'.alive = true ∧ c1'.debugDenied 3 0 ((if 3 = dkWRITE then (([] : List Byte)).length else 0 % 4097)) = false ∧
      3 = dkSCAN) ∧
    (c1'.alive = true ∧ bit c1'.board.tested 8 = false ∧ (true = true ∨ c1'.lifeState = lcBLANK)) ∧
    (c4.alive = true ∧ bit c4.board.tested 8 = false ∧ c4.lifeState ≠ lcBLANK) ∧
    (c5.alive = true ∧ bit c5.board.tested 8 = true) := by
  refine ⟨?_, ?_, ?_, ?_, ?_, ?_, ?_, ?_, ?_, ?_, ?_, ?_, ?_, ?_, ?_, ?_, ?_, ?_, ?_, ?_, ?_, ?_, ?_, ?_, ?_, ?_⟩ <;> decide +kernel

end ImagesAndDebug

namespace Attestation
def se (s : State) (f : SecSt → SecSt) : State := { s with sec := f s.sec }
def c1 := at_ (md mFABRIC) 300000000
def up (s : State) (p part : Nat) : State := { (((s.fset (R.PEP_PORT_CTL_ROLE p) 1).fset (R.PEP_PORT_CTL_PART p) part).fset (R.PEP_PORT_STS_PRESENT p) 1).fset (R.PEP_PORT_STS_DL_ACTIVE p) 1 with sw := { s.sw with ports := storePut {} p { up := true } s.sw.ports } }
def c2 := (((up c1 5 3).fset R.SEC_LIFECYCLE_STATE lcOWNED).setReg (R.MGT_HCMD_LO 3) 0x1000).fset (R.MFL_LINK_STS_STATE 2) lsUP
def c3 := se c2 fun x => { x with asks := [(.host 3 0x12345600#64 5 true, [1,2])] }
def c4 := se c3 fun x => { x with asks := (upTo 16).map fun i => (.peer 2, [BitVec.ofNat 8 i]) }
def rep : List Byte := (upTo 300).map (BitVec.ofNat 8 ·)
def c5 := se c3 fun x => { x with report := some rep }
def c6 := se c4 fun x => { x with report := some ((upTo 30).flatMap fun _ => rep) }
def c7 := se c6 fun x => { x with asks := [(.host 3 0xF2345600#64 5 true, [1,2]), (.peer 1, [])] }
def c8 := se c3 fun x => { x with report := some rep, asks := [(.host 3 0x12345640#64 5 true, [1,2]), (.peer 1, [7])] }
def rests : List (List (Asker × List Byte)) := [c3,c4,c6,c7].map fun s => s.sec.asks.drop 1

/-- The hypotheses of each clause of `Obligations.Attestation` are met. -/
theorem witness_Attestation :
    (c1.alive = true ∧ 0 < 32 ∧ c1.sec.asks.length < 16) ∧
    (c4.alive = true ∧ 0 < 32 ∧ 16 ≤ c4.sec.asks.length) ∧
    (c1.alive = true ∧ 0 < 8 ∧ c1.vc4Open 0 = false) ∧
    (c2.alive = true ∧ 2 < 8 ∧ c2.vc4Open 2 = true ∧ c2.sec.asks.length < 16) ∧
    (c4.alive = true ∧ 2 < 8 ∧ c4.vc4Open 2 = true ∧ 16 ≤ c4.sec.asks.length) ∧
    (c3.alive = true ∧ c3.lifeState ≠ lcBLANK ∧ c3.lifeState ≠ lcRETIRED ∧ c3.sec.asks ≠ [] ∧ c3.sec.report = none) ∧
    (c1.alive = true ∧ (c1.lifeState = lcBLANK ∨ c1.lifeState = lcRETIRED)) ∧
    (c1.alive = true ∧ (c1.sec.asks = [] ∨ c1.sec.report ≠ none)) ∧
    (c1.alive = true ∧ (c1.sec.asks = [] ∨ c1.sec.report = none)) ∧
    (c8.alive = true ∧
      ((c8.sec.report).any (fun r => decide (c8.sec.asks = (((.host 3 0x12345640#64 5 true, [1,2]) : Asker × List Byte)) :: (((.peer 1, [7]) : Asker × List Byte)) :: ((rests[0]! : List (Asker × List Byte))))) = true)) ∧
    (c6.alive = true ∧ ((c6.sec.report).any (fun r => decide (2 < 8 ∧
      c6.sec.asks = (.peer 2, (([0] : List Byte))) :: ((rests[1]! : List (Asker × List Byte))))) = true)) ∧
    (c5.alive = true ∧
      ((c5.sec.report).any (fun r => decide (c5.sec.asks = (.host 3 ((0x12345600#64 : W64)) 5 true, (([1,2] : List Byte))) :: ((rests[0]! : List (Asker × List Byte))))) = true)) := by
  refine ⟨?_, ?_, ?_, ?_, ?_, ?_, ?_, ?_, ?_, ?_, ?_, ?_⟩ <;> decide +kernel

end Attestation

namespace StartUp
def c0 := md mLIMP
def c1 := otp c0 [(0,1),(1,1),(2,1),(3,1)]
def c3 := otp c0 [(0,7),(1,7),(2,7),(24, 0x12345678)]
def c4 := (otp c0 [(0,3),(1,3),(2,3),(24, 0x12345678), (25, 4), (64, 1), (66, 2)]).fset R.DEV_STRAP_PORTCFG 0xF
def c6 := (bd c1 fun b => { b with tested := 2 }).fset R.DEV_STRAP_PORTCFG 1
def c8 := ((at_ ((md mSAFE).fset R.DEV_MODE_STS_FAIL_CODE 0xB) 1250000000).setReg R.DEV_SELFTEST_FAIL 0xA800).fset R.MGT_PAIR_STS_A_STATE 0
def c12 := bd c0 fun b => { b with tested := 0x44 }

/-- The hypotheses of each clause of `Obligations.StartUp` are met. -/
theorem witness_StartUp :
    (c0.alive = true ∧ c0.mode = mLIMP ∧ bit c0.board.tested 1 = false ∧ false = false ∧
      ((((upTo 3).any fun b => c0.lifeCopies b == 2)) = false) ∧ c0.baseState ≠ lcRETIRED) ∧
    (c0.alive = true ∧ c0.mode = mLIMP ∧ bit c0.board.tested 1 = false ∧ (true = true ∨
      (((upTo 3).any fun b => c0.lifeCopies b == 2)) = true)) ∧
    (c3.alive = true ∧ c3.mode = mLIMP ∧ bit c3.board.tested 1 = false ∧ c3.baseState = lcRETIRED) ∧
    (c6.alive = true ∧ (c6.mode ≠ mLIMP ∨ bit c6.board.tested 1 = true)) ∧
    (c12.alive = true ∧ bit c12.board.tested 2 = true) ∧
    (c12.alive = true ∧ bit c12.board.tested 6 = true) ∧
    ((c4.fset R.DEV_MODE_STS_BG_DONE 1).alive = true ∧
      (c4.fset R.DEV_MODE_STS_BG_DONE 1).flag R.DEV_MODE_STS_BG_DONE = true) ∧
    (c0.alive = true ∧ bit c0.board.tested 2 = false ∧ bits 3 1 0 = 3) ∧
    (c0.alive = true ∧ bit c0.board.tested 2 = false ∧ (∀ i, i ∈ [2, 3, 9, 10] → bit 0 i = false) ∧ bits 0 1 0 = 0 ∧
      bit 0 0 = false) ∧
    (c0.alive = true ∧ bit c0.board.tested 2 = false ∧ 3 ∈ [2, 3, 9, 10] ∧ bit 8 3 = true) ∧
    (c0.alive = true ∧ bit c0.board.tested 2 = false ∧ 0 < 2 ∧ bit 1 0 = true) ∧
    (c0.alive = true ∧ bit c0.board.tested 2 = false ∧ bit 1 0 = true) ∧
    (c0.alive = true ∧ bit c0.board.tested 6 = false ∧ 0 % 2 ^ 24 = 0 ∧ 0 % 256 = 0) ∧
    (c0.alive = true ∧ bit c0.board.tested 6 = false ∧ 0 < 24 ∧ bit 1 0 = true) ∧
    (c0.alive = true ∧ bit c0.board.tested 6 = false ∧ 0 < 8 ∧ bit 1 0 = true) ∧
    (c0.alive = true ∧ c0.flag R.DEV_MODE_STS_BG_DONE = false ∧ (∀ j, j < 17 → 0 < j → bit 0 j = false)) ∧
    (c0.alive = true ∧ c0.flag R.DEV_MODE_STS_BG_DONE = false ∧ 0 < 1 ∧ 1 < 17 ∧ bit 3 1 = true) ∧
    (c0.alive = true ∧ c0.flag R.DEV_MODE_STS_BG_DONE = false ∧ 0 < 16 ∧ bit 1 0 = true ∧ false = false) ∧
    (c0.alive = true ∧ c0.flag R.DEV_MODE_STS_BG_DONE = false ∧ true = true) ∧
    (c0.alive = true ∧ ((c0.romRuns && decide (max c0.safeAt c0.board.uartAt + cyclesPerS ≤ c0.now))) = false) ∧
    (c8.alive = true ∧ ((c8.romRuns && decide (max c8.safeAt c8.board.uartAt + cyclesPerS ≤ c8.now))) = true) ∧
    (c8.alive = true ∧ c8.mode = mSAFE ∧ max c8.safeAt c8.board.statAt + cyclesPerS ≤ c8.now) ∧
    (c0.alive = true ∧ (c0.mode ≠ mSAFE ∨ c0.now < max c0.safeAt c0.board.statAt + cyclesPerS)) ∧
    (c8.alive = true ∧ c8.mode = mSAFE ∧ c8.safeAt + cyclesPerS ≤ c8.now) ∧
    (c0.alive = true ∧ (c0.mode ≠ mSAFE ∨ c0.now < c0.safeAt + cyclesPerS)) ∧
    (c0.alive = true) := by
  refine ⟨?_, ?_, ?_, ?_, ?_, ?_, ?_, ?_, ?_, ?_, ?_, ?_, ?_, ?_, ?_, ?_, ?_, ?_, ?_, ?_, ?_, ?_, ?_, ?_, ?_, ?_⟩ <;> decide +kernel

end StartUp

namespace ModeRequests
def rdy (m : Nat) : State := at_ (((md m).fset R.DEV_MODE_STS_BG_DONE 1).fset R.DEV_MODE_STS_FW_RUNNING 1) 300000000
def b3 := (rdy mDRAIN).fset R.DEV_MODE_STS_DRAINED 1
def t0 : Tlp := { kind := .memWrite, data := [1,2,3,4], len := 4 }
def fr (i : Nat) (t : Tlp) : Frame := { id := i, tlp := t, furrow := furrow t, ingress := 3 }
def cp (i f e : Nat) : Copy := { id := i, frame := f, egress := e, queue := 0, addr := 0, dstFid := 0, dest := e, purpose := .data }
def b7 := (rdy mDRAIN).fset R.DEV_DRAIN_CTL_TMO_MS 10
def b8 := { b7 with sw := { b7.sw with frames := [fr 1 t0, fr 2 { t0 with kind := .memRead, data := [] }], copies := [cp 1 1 4, { cp 2 2 5 with sending := true }, cp 3 2 5, cp 4 1 66], nextId := 9 }, drainAt := 5 }

/-- The hypotheses of each clause of `Obligations.ModeRequests` are met. -/
theorem witness_ModeRequests :
    ((rdy 2).alive = true ∧ ((rdy 2).modeCause mFABRIC).isSome = true) ∧
    ((rdy 1).alive = true ∧ (rdy 1).modeCause mSTANDALONE = none ∧ mSTANDALONE ≠ mISOLATE) ∧
    ((rdy 3).alive = true ∧ (rdy 3).modeCause mISOLATE = none) ∧
    (((rdy 1)).alive = true ∧ (serviceMode (3 % 16) = true ∨ 3 % 16 = mISOLATE ∨ 3 % 16 = mDRAIN ∨ 3 % 16 = mDIAGNOSTIC)) ∧
    (b3.alive = true ∧ b3.mode = mDRAIN ∧ b3.flag R.DEV_MODE_STS_DRAINED = true) ∧
    (b3.alive = true ∧ b3.mode = mDRAIN ∧ b3.flag R.DEV_MODE_STS_DRAINED = true) ∧
    (((rdy 9)).alive = true ∧ ((rdy 9)).mode = mDRAIN ∧ ((rdy 9)).flag R.DEV_MODE_STS_DRAINED = false ∧
      ((((((rdy 9)).sw.copies.all fun x => x.unacked) && (((rdy 9)).liveInsts.all fun i => ((rdy 9)).flag (R.VIM_INST_STS_IDLE i)) && ((rdy 9)).sw.tags.all fun x => x.proxy.isNone)) = true)) ∧
    (b8.alive = true ∧ b8.mode = mDRAIN ∧ b8.flag R.DEV_MODE_STS_DRAINED = false ∧
      ((((b8.sw.copies.all fun x => x.unacked) && (b8.liveInsts.all fun i => b8.flag (R.VIM_INST_STS_IDLE i)) && b8.sw.tags.all fun x => x.proxy.isNone)) = false)) ∧
    (b7.alive = true ∧ b7.mode = mDRAIN ∧ b7.flag R.DEV_MODE_STS_DRAINED = false ∧
      b7.drainAt + b7.fget R.DEV_DRAIN_CTL_TMO_MS * cyclesPerMs ≤ b7.now ∧ b7.ctr R.DEV_DRAIN_DROP ≤ counterMax) ∧
    (((rdy 9)).alive = true ∧ ((rdy 9)).mode = mDRAIN ∧ ((rdy 9)).flag R.DEV_MODE_STS_DRAINED = false ∧
      ((rdy 9)).now < ((rdy 9)).drainAt + ((rdy 9)).fget R.DEV_DRAIN_CTL_TMO_MS * cyclesPerMs) ∧
    (((rdy 1)).alive = true ∧ ((rdy 1)).mode ≠ mDRAIN) ∧
    (((rdy 1)).alive = true ∧ ((rdy 1)).mode ≠ mDRAIN) := by
  refine ⟨?_, ?_, ?_, ?_, ?_, ?_, ?_, ?_, ?_, ?_, ?_, ?_⟩ <;> decide +kernel

/-- A target that no request may name, outside the strap mode that takes none. -/
theorem witness_ModeRequests_target :
    mLIMP ∈ [mRESET, mLIMP, mSAFE, mUPDATE, mSTANDBY, 12, 13, 14, 15] ∧ (rdy 1).fget R.DEV_STRAP_MODE ≠ 2 := by
  decide +kernel

end ModeRequests

namespace DeviceResets
def s1 : State := ((State.reset.setMode mFABRIC).fset (R.SPV_SLOT_STS_PRESENT 3) 1).setReg 0x800200 5
def s2 := (s1.fset R.DEV_STRAP_MODE 5).fset R.CUL_SB_CTL_WAKE_EN 1
def s3 := (s2.fset R.DEV_PWRLOSS_STS_LOSSES 255).bump R.CLK_SUBSYS_RST
def s4 := bd (s3.setMode mSTANDBY) fun b => { b with power := false, wake := true }
def s5 := bd (s3.setMode mRESET) fun b => { b with need := 5, inReset := 3, rstLow := true }
def s6 := bd (s3.setMode mRESET) fun b => { b with need := 5, inReset := 5, hot := true }

/-- The hypotheses of each clause of `Obligations.DeviceResets` are met. -/
theorem witness_DeviceResets :
    ((s4.mode = mSTANDBY ∨ s4.board.aon = false)) ∧
    (State.reset.board.aon = true ∧ State.reset.board.power = true ∧ State.reset.mode ≠ mSTANDBY) ∧
    (State.reset.board.aon = true ∧ State.reset.board.power = true ∧ State.reset.alive = true) ∧
    (State.reset.board.aon = true ∧ State.reset.board.power = true ∧ State.reset.alive = true) ∧
    (State.reset.board.aon = true ∧ State.reset.board.power = true ∧ 0 < 7) ∧
    (s4.alive = false) ∧
    (s4.alive = false) ∧
    ((s4.board.aon = false ∨ s4.board.power = false)) ∧
    ((s4.board.aon = false ∨ s4.board.power = false)) ∧
    (State.reset.mode ≠ mSTANDBY) ∧
    (s4.board.power = false) ∧
    (State.reset.board.power = true) ∧
    (0 < 24 ∧ s4.mode = mSTANDBY) ∧
    (0 < 8 ∧ 0 < 8 ∧ 0 < 16 ∧ s5.mode = mRESET) ∧
    (State.reset.mode ≠ mRESET) ∧
    (((State.reset.mode == mRESET && State.reset.board.power && State.reset.board.aon && !State.reset.board.rstLow && decide (State.reset.board.need ≤ State.reset.board.inReset))) = false) ∧
    (((s6.mode == mRESET && s6.board.power && s6.board.aon && !s6.board.rstLow && decide (s6.board.need ≤ s6.board.inReset))) = true) ∧
    ((s4.alive = false ∨ s4.decodes ((.part 0)) R.DEV_PWRLOSS_CLR = false)) ∧
    (State.reset.alive = true ∧ State.reset.decodes ((.part 0)) R.DEV_PWRLOSS_CLR = true) := by
  refine ⟨?_, ?_, ?_, ?_, ?_, ?_, ?_, ?_, ?_, ?_, ?_, ?_, ?_, ?_, ?_, ?_, ?_, ?_, ?_⟩ <;> decide +kernel

end DeviceResets

namespace SubsystemsAndMonitors
def full (s : State) : State :=
  { s with mgt := { s.mgt with sb := [{ id := 1, addr := 0x8000000, data := [1,2] }] }
           tbls := [(tblKey 0x42 0 3, 5), (tblKey 0x44 0 3, 5), (tblKey 0x50 0 3, 5)] }
def a1 := at_ (full (md mFABRIC)) 200000000
def a2 := (bd a1 fun b => { b with resets := [(0, some 1), (1, some 2), (2, some 3), (3, some 3), (8, some 3)] })
def a3 := ((((at_ (md mLIMP) 200000000).fset R.CLK_STS_HOLDOVER 1).fset R.CLK_SUPPLY_STS_OV 6).fset R.CLK_THERM_GOV_EN 1).fset R.CUL_SB_CTL_WAKE_EN 1
def op1 : LbOp := { id := 1, src := .req .mgmt, cs := 1, addr := 4, len := 4, write := true, posted := true }
def a7 := ({ a1 with cul := { a1.cul with ops := [op1, { op1 with id := 2, write := false, posted := false }, { op1 with id := 3, posted := false }], barriers := [{ view := 32, waits := [1] }] } }).setReg 0x10100 3
def b1 := { a7 with cul := { a7.cul with extReq := true, lbRst := 999999999 } }
def b2 := (a2.fset R.CUL_STS_EXT_OWNS 1)

/-- The hypotheses of each clause of `Obligations.SubsystemsAndMonitors` are met. -/
theorem witness_SubsystemsAndMonitors :
    (b2.alive = true ∧ storeGet none b2.board.resets 0 ≠ none) ∧
    (b1.alive = true ∧ storeGet none b1.board.resets 0 = none) ∧
    (b1.alive = true ∧ 0 < 8 ∧ bit 1 0 = true ∧ storeGet none b1.board.resets (8 + 0) = none) ∧
    (b1.alive = true ∧ b1.ctr R.CLK_RST_IGNORED ≤ counterMax) ∧
    (b2.alive = true ∧ storeGet none b2.board.resets 0 ≠ none ∧ (0 ≠ 1 ∨ b2.cul.lbRst ≤ b2.now)) ∧
    (b1.alive = true ∧ (storeGet none b1.board.resets 0 = none ∨ (0 = 1 ∧ b1.now < b1.cul.lbRst))) ∧
    (b1.alive = true ∧ b1.flag R.CLK_STS_HOLDOVER = false) ∧
    (b1.alive = true ∧ b1.flag R.CLK_STS_HOLDOVER = false) ∧
    (a3.alive = true ∧ a3.flag R.CLK_STS_HOLDOVER = true) ∧
    (a3.alive = true ∧ a3.flag R.CLK_STS_HOLDOVER = true) ∧
    (b1.alive = true ∧ 0 < 256) ∧
    (State.reset.alive = true ∧ State.reset.now < storeGet 0 State.reset.govAt 3 + 10 * cyclesPerMs) ∧
    (b1.alive = true ∧ storeGet 0 b1.govAt 3 + 10 * cyclesPerMs ≤ b1.now) := by
  refine ⟨?_, ?_, ?_, ?_, ?_, ?_, ?_, ?_, ?_, ?_, ?_, ?_, ?_⟩ <;> decide +kernel

end SubsystemsAndMonitors

/-! ### Statements about every step -/

namespace Steps

/-- A state whose SRAM and OTP hold something, with a burn of a bit of word 3 about to end in front of the queue. -/
def burning : State :=
  { State.reset with
    mgt := { State.reset.mgt with sram := [(3, some 9), (7, some 8)] }
    sec := { State.reset.sec with otp := [(3, 1), (24, 0x12345678)] }
    pending := [.otpProgram 3, .smbusStatusRead] }

/-- Does a step answer a next state? -/
def goesOn (o : Host.Outcome State Fault Refusal) : Bool :=
  match o with
  | .next _ => true
  | _ => false

/-- Steps that answer a next state, from a canonical memory with words set and with a queue of two commands; for
`QueueIsFirstInFirstOut`, `OtpBitsAreNeverCleared` and `MemoryStaysCanonical`. -/
theorem witness_steps :
    goesOn (step burning) = true ∧ Memory.wf burning = true ∧ Otp.wf burning = true ∧
      storeGet 0 burning.sec.otp 24 ≠ 0 := by decide +kernel

/-- A command outside `writesVault` that answers a next state, for `OtherCommandsLeaveMemory`. -/
theorem witness_OtherCommandsLeaveMemory :
    writesVault .smbusStatusRead = false ∧ goesOn (exec .smbusStatusRead burning) = true := by decide +kernel

/-- Commands of both kinds of `EveryCommandCompletes`. -/
theorem witness_EveryCommandCompletes :
    writesReserved .poolSpaceGranted = false ∧ writesReserved (.coreFence 0 0) = true := by decide +kernel

/-- A powered device outside STANDBY, and two balls that carry signals, for `OutputsAndBalls`. -/
theorem witness_OutputsAndBalls :
    State.reset.board.aon = true ∧ State.reset.board.power = true ∧ State.reset.mode ≠ mSTANDBY ∧
      ballAt 0 14 = .signal (.peTxp 0) ∧ ballAt 73 74 = .rail .vss := by decide +kernel

/-- Fields of every access code in the map, for `FieldsFollowAccessCodes`. -/
theorem witness_FieldsFollowAccessCodes :
    ([(Block.buf, 1, Acc.rw), (.buf, 1, .ro), (.buf, 1, .wo), (.sec, 3, .lck)].all fun (b, p, a) =>
      (pageRegs b p).any fun x => x.fields.any fun f => f.acc == a) = true := by decide +kernel

end Steps

/-! ### The package -/

/-- The two lookups that chapter 22 works out after R458: PE_RXN[100] is CN18 and SPV_PG_5 is CL1. -/
theorem test_balls :
    rowName 69 = ['C', 'N'] ∧ ballAt 69 18 = .signal (.peRxn 100) ∧
      rowName 67 = ['C', 'L'] ∧ ballAt 67 1 = .signal (.spvPg 5) := by decide +kernel

end Sys2Proof.Tests
end

section
/-! PROOFS. The queue and the vault: what one step does to the commands waiting, to memory and to the OTP. -/

namespace Sys2Proof.Machine

/-- A command outside `writesVault` leaves the queue, the SRAM, the flash and the OTP as they are. -/
theorem exec_vault_of_not_writesVault {c : Instr} {s t : State} (hc : writesVault c = false) (h : exec c s = .next t) :
    t.vault = s.vault := by
  cases c with
  | registerWrite | strayAccess | evtClr | counterClear | tblNop | tblRead | tblWrite | tblReadClear | frameArrival
  | reservationGranted | completionArrival | configRead | configWrite | mgmtPacketReceive | bar4RemoteRead
  | bar4RemoteWrite | coreLoad | coreStore | coreFence | coreLr | coreSc | coreAmo | bootLoadDone | pwrlossClear
  | otpProgramDone | debugAccess | resetAssert | mainPowerLoss | resetMgt | resetCul | resetTel | resetShake
  | resetLink | resetDevice | supplyUndervoltage | aonUndervoltage | criticalTemperature
  | lifecycleAdvanceDone => cases hc
  | partialWrite => exact execPartialWrite_vault _ _ s t h
  | counterLowRead => exact execCounterLowRead_vault _ _ s t h
  | counterHighRead => exact execCounterHighRead_vault _ _ s t h
  | tbReadLatch => exact execTbReadLatch_vault _ s t h
  | tblOpDone => exact execTblOpDone_vault _ _ _ s t h
  | proxyTagGranted => exact execProxyTagGranted_vault _ s t h
  | originatedTagGranted => exact execOriginatedTagGranted_vault _ s t h
  | poolSpaceGranted => exact execPoolSpaceGranted_vault s t h
  | copyStart => exact execCopyStart_vault _ _ _ _ _ s t h
  | copyDepart => exact execCopyDepart_vault _ _ s t h
  | lateError => exact execLateError_vault _ _ _ _ s t h
  | underrun => exact execUnderrun_vault _ s t h
  | underrunResend => exact execUnderrunResend_vault _ s t h
  | ageDiscard => exact execAgeDiscard_vault _ _ s t h
  | weirGovTick => exact execWeirGovTick_vault _ s t h
  | livePoolWrite => exact execLivePoolWrite_vault _ s t h
  | cplPoolWrite => exact execCplPoolWrite_vault _ s t h
  | ledgerWrite => exact execLedgerWrite_vault s t h
  | ledgerWriteback => exact execLedgerWriteback_vault _ s t h
  | portLinkDown => exact execPortLinkDown_vault _ s t h
  | flushRemove => exact execFlushRemove_vault _ s t h
  | flushDone => exact execFlushDone_vault _ s t h
  | portLinkUp => exact execPortLinkUp_vault _ _ _ _ s t h
  | tagRecordTimeout => exact execTagRecordTimeout_vault _ s t h
  | bankCeLimit => exact execBankCeLimit_vault _ s t h
  | bankRetire => exact execBankRetire_vault _ s t h
  | retireDone => exact execRetireDone_vault s t h
  | mapCommit => exact execMapCommit_vault _ _ s t h
  | mapCommitDone => exact execMapCommitDone_vault s t h
  | mirrorSlotWrite => exact execMirrorSlotWrite_vault _ s t h
  | mirrorWriteback => exact execMirrorWriteback_vault _ s t h
  | mcmModeWrite => exact execMcmModeWrite_vault _ _ s t h
  | sampleNWrite => exact execSampleNWrite_vault _ _ s t h
  | aclSweep => exact execAclSweep_vault _ s t h
  | sweepNpTimeout => exact execSweepNpTimeout_vault s t h
  | sweepDone => exact execSweepDone_vault s t h
  | ppsInEdge => exact execPpsInEdge_vault s t h
  | tbHoldover => exact execTbHoldover_vault s t h
  | tbSet => exact execTbSet_vault s t h
  | ptmRequest => exact execPtmRequest_vault _ s t h
  | frameSyncEdge => exact execFrameSyncEdge_vault _ s t h
  | frameSyncMissing => exact execFrameSyncMissing_vault s t h
  | frameSyncLost => exact execFrameSyncLost_vault s t h
  | arm => exact execArm_vault _ _ _ _ s t h
  | cancel => exact execCancel_vault _ _ s t h
  | commitFire => exact execCommitFire_vault _ _ s t h
  | slotFired => exact execSlotFired_vault _ _ s t h
  | gateForce => exact execGateForce_vault _ _ s t h
  | doorbell => exact execDoorbell_vault _ _ _ s t h
  | ringEnable => exact execRingEnable_vault _ _ s t h
  | ringDisable => exact execRingDisable_vault _ _ s t h
  | ringResume => exact execRingResume_vault _ _ s t h
  | descriptorFetch => exact execDescriptorFetch_vault _ _ s t h
  | contextGrant => exact execContextGrant_vault _ s t h
  | sourceReadIssue => exact execSourceReadIssue_vault _ s t h
  | engineWriteIssue => exact execEngineWriteIssue_vault _ s t h
  | engineCompletion => exact execEngineCompletion_vault _ _ s t h
  | descriptorFinish => exact execDescriptorFinish_vault _ _ s t h
  | timedRelease => exact execTimedRelease_vault _ _ s t h
  | engCtoExpiry => exact execEngCtoExpiry_vault _ s t h
  | engCtoRecovExpiry => exact execEngCtoRecovExpiry_vault _ s t h
  | engineAbort => exact execEngineAbort_vault _ s t h
  | engineStopped => exact execEngineStopped_vault _ s t h
  | engineRestart => exact execEngineRestart_vault _ s t h
  | msixPendingSend => exact execMsixPendingSend_vault _ _ s t h
  | bmeClear => exact execBmeClear_vault _ s t h
  | functionLevelReset => exact execFunctionLevelReset_vault _ s t h
  | powerStateD3hot => exact execPowerStateD3hot_vault _ s t h
  | secondaryBusReset => exact execSecondaryBusReset_vault _ s t h
  | dpcRelease => exact execDpcRelease_vault _ s t h
  | powerControllerOff => exact execPowerControllerOff_vault _ s t h
  | powerControllerOn => exact execPowerControllerOn_vault _ s t h
  | instNop => exact execInstNop_vault _ s t h
  | create => exact execCreate_vault _ s t h
  | destroy => exact execDestroy_vault _ s t h
  | freeze => exact execFreeze_vault _ s t h
  | save => exact execSave_vault _ s t h
  | restore => exact execRestore_vault _ s t h
  | thaw => exact execThaw_vault _ s t h
  | recover => exact execRecover_vault _ s t h
  | serve => exact execServe_vault _ s t h
  | createDone => exact execCreateDone_vault _ s t h
  | destroyDone => exact execDestroyDone_vault _ s t h
  | restoreDone => exact execRestoreDone_vault _ s t h
  | restoreXferTimeout => exact execRestoreXferTimeout_vault _ s t h
  | freezeDone => exact execFreezeDone_vault _ s t h
  | saveDone => exact execSaveDone_vault _ s t h
  | saveXferTimeout => exact execSaveXferTimeout_vault _ s t h
  | headgateOpen => exact execHeadgateOpen_vault _ s t h
  | headgateClose => exact execHeadgateClose_vault _ s t h
  | instanceIdle => exact execInstanceIdle_vault _ s t h
  | forceReset => exact execForceReset_vault _ s t h
  | resetTagTimeout => exact execResetTagTimeout_vault _ s t h
  | instanceResetDone => exact execInstanceResetDone_vault _ s t h
  | octetConfigWrite => exact execOctetConfigWrite_vault _ _ _ s t h
  | portConfigWrite => exact execPortConfigWrite_vault _ _ s t h
  | pcieLinkDisable => exact execPcieLinkDisable_vault _ s t h
  | hotReset => exact execHotReset_vault _ s t h
  | pcieRetrain => exact execPcieRetrain_vault _ _ _ s t h
  | l1Entry => exact execL1Entry_vault _ s t h
  | laneMarginCommand => exact execLaneMarginCommand_vault _ _ _ _ _ s t h
  | forwardedClockDetect => exact execForwardedClockDetect_vault _ s t h
  | laneLock => exact execLaneLock_vault _ _ _ _ _ s t h
  | laneUnlock => exact execLaneUnlock_vault _ _ _ s t h
  | helloReceive => exact execHelloReceive_vault _ _ _ _ _ _ s t h
  | echoReceive => exact execEchoReceive_vault _ _ s t h
  | trainTimeout => exact execTrainTimeout_vault _ s t h
  | moabenPacketReceive => exact execMoabenPacketReceive_vault _ _ _ _ _ _ _ _ _ _ _ _ _ s t h
  | ackSend => exact execAckSend_vault _ s t h
  | ackReceive => exact execAckReceive_vault _ _ _ s t h
  | nakReceive => exact execNakReceive_vault _ _ _ s t h
  | replayTimeout => exact execReplayTimeout_vault _ s t h
  | xoffReceive => exact execXoffReceive_vault _ _ s t h
  | xonReceive => exact execXonReceive_vault _ _ s t h
  | xoffResend => exact execXoffResend_vault _ s t h
  | mflRetrain => exact execMflRetrain_vault _ s t h
  | retrainDone => exact execRetrainDone_vault _ s t h
  | retrainTimeout => exact execRetrainTimeout_vault _ s t h
  | linkChange => exact execLinkChange_vault _ s t h
  | changeReceive => exact execChangeReceive_vault _ _ _ _ s t h
  | readyReceive => exact execReadyReceive_vault _ s t h
  | changeTimeout => exact execChangeTimeout_vault _ s t h
  | remapReceive => exact execRemapReceive_vault _ _ s t h
  | spareMap => exact execSpareMap_vault _ _ s t h
  | mflLinkEnable => exact execMflLinkEnable_vault _ s t h
  | mflLinkDisable => exact execMflLinkDisable_vault _ s t h
  | laneGovTick => exact execLaneGovTick_vault _ s t h
  | tsyncRequestSend => exact execTsyncRequestSend_vault _ s t h
  | tsyncReqReceive => exact execTsyncReqReceive_vault _ s t h
  | tsyncFupReceive => exact execTsyncFupReceive_vault _ _ _ _ s t h
  | authOfferReceive => exact execAuthOfferReceive_vault _ _ _ _ _ s t h
  | authProofReceive => exact execAuthProofReceive_vault _ _ s t h
  | authAcceptReceive => exact execAuthAcceptReceive_vault _ s t h
  | authRejectReceive => exact execAuthRejectReceive_vault _ s t h
  | authResumeReceive => exact execAuthResumeReceive_vault _ _ s t h
  | authTimeout => exact execAuthTimeout_vault _ s t h
  | signDone => exact execSignDone_vault _ s t h
  | authListEdit => exact execAuthListEdit_vault _ _ _ s t h
  | authEnWrite => exact execAuthEnWrite_vault _ _ s t h
  | reauth => exact execReauth_vault _ s t h
  | routeGovTick => exact execRouteGovTick_vault s t h
  | loopSet => exact execLoopSet_vault _ _ s t h
  | loopbackEntry => exact execLoopbackEntry_vault _ s t h
  | prbsStart => exact execPrbsStart_vault _ _ _ s t h
  | prbsLock => exact execPrbsLock_vault _ _ s t h
  | prbsLockLost => exact execPrbsLockLost_vault _ _ _ _ s t h
  | prbsRateAbort => exact execPrbsRateAbort_vault _ _ s t h
  | eyeScanStart => exact execEyeScanStart_vault _ _ _ s t h
  | eyeScanStop => exact execEyeScanStop_vault _ _ s t h
  | eyeScanDone => exact execEyeScanDone_vault _ _ s t h
  | eqRedo => exact execEqRedo_vault _ _ s t h
  | eqRedoTimeout => exact execEqRedoTimeout_vault _ s t h
  | scrubRead => exact execScrubRead_vault _ _ _ _ s t h
  | errorInject => exact execErrorInject_vault _ _ _ s t h
  | recordRingWrite => exact execRecordRingWrite_vault _ s t h
  | isolateEntered => exact execIsolateEntered_vault s t h
  | isolateExit => exact execIsolateExit_vault s t h
  | isolateExitDone => exact execIsolateExitDone_vault s t h
  | fatalAck => exact execFatalAck_vault s t h
  | lockstepMismatch => exact execLockstepMismatch_vault s t h
  | mgtPairSwap => exact execMgtPairSwap_vault s t h
  | pairSelftestDone => exact execPairSelftestDone_vault _ _ s t h
  | machineTimer => exact execMachineTimer_vault s t h
  | mailboxRetire => exact execMailboxRetire_vault _ s t h
  | hcmdDoorbell => exact execHcmdDoorbell_vault _ s t h
  | hcmdTake => exact execHcmdTake_vault _ s t h
  | getFwInfo => exact execGetFwInfo_vault _ _ _ s t h
  | attest => exact execAttest_vault _ _ _ _ _ s t h
  | attestPeerRequest => exact execAttestPeerRequest_vault _ _ s t h
  | attestReportDone => exact execAttestReportDone_vault s t h
  | sqHeadWrite => exact execSqHeadWrite_vault _ s t h
  | sampleGovTick => exact execSampleGovTick_vault s t h
  | wdogKick => exact execWdogKick_vault s t h
  | wdogWarn => exact execWdogWarn_vault s t h
  | wdogExpire => exact execWdogExpire_vault s t h
  | firmwareUpdate => exact execFirmwareUpdate_vault _ s t h
  | updateDone => exact execUpdateDone_vault s t h
  | updateLate => exact execUpdateLate_vault s t h
  | culBarrier => exact execCulBarrier_vault _ s t h
  | barrierDone => exact execBarrierDone_vault _ s t h
  | localAccess => exact execLocalAccess_vault _ _ _ _ _ _ s t h
  | lbCycleStart => exact execLbCycleStart_vault s t h
  | lbCycleEnd => exact execLbCycleEnd_vault _ s t h
  | culTimeoutExpiry => exact execCulTimeoutExpiry_vault s t h
  | lbBusRequest => exact execLbBusRequest_vault s t h
  | lbBusRelease => exact execLbBusRelease_vault s t h
  | prefetchExpire => exact execPrefetchExpire_vault s t h
  | culRevive => exact execCulRevive_vault _ s t h
  | culWarmReset => exact execCulWarmReset_vault s t h
  | culWarmResetDone => exact execCulWarmResetDone_vault s t h
  | sidebandPoll => exact execSidebandPoll_vault _ s t h
  | interruptPoll => exact execInterruptPoll_vault _ s t h
  | sidebandWake => exact execSidebandWake_vault s t h
  | spvSample => exact execSpvSample_vault _ _ _ _ _ s t h
  | energyRead => exact execEnergyRead_vault _ _ _ s t h
  | measClear => exact execMeasClear_vault _ _ s t h
  | fastTrip => exact execFastTrip_vault _ _ s t h
  | currentLimitStart => exact execCurrentLimitStart_vault _ _ s t h
  | faultTimerExpiry => exact execFaultTimerExpiry_vault _ _ s t h
  | faultTimerStop => exact execFaultTimerStop_vault _ _ s t h
  | gateRiseTimeout => exact execGateRiseTimeout_vault _ _ s t h
  | fetShort => exact execFetShort_vault _ _ _ s t h
  | uptripEnd => exact execUptripEnd_vault s t h
  | insertionStart => exact execInsertionStart_vault _ s t h
  | rampEnd => exact execRampEnd_vault _ _ s t h
  | channelPowerGood => exact execChannelPowerGood_vault _ _ s t h
  | perstRelease => exact execPerstRelease_vault _ s t h
  | pgLost => exact execPgLost_vault _ _ s t h
  | slotOn => exact execSlotOn_vault _ s t h
  | slotOff => exact execSlotOff_vault _ s t h
  | slotOffGates => exact execSlotOffGates_vault _ s t h
  | forceOn => exact execForceOn_vault _ _ _ s t h
  | slotRetry => exact execSlotRetry_vault _ s t h
  | retryWindowEnd => exact execRetryWindowEnd_vault _ s t h
  | slotRemoval => exact execSlotRemoval_vault _ s t h
  | slotInsertion => exact execSlotInsertion_vault _ s t h
  | latchClear => exact execLatchClear_vault _ s t h
  | histLevelSample => exact execHistLevelSample_vault _ s t h
  | histSnapshot => exact execHistSnapshot_vault _ _ s t h
  | histConfigWrite => exact execHistConfigWrite_vault _ _ _ s t h
  | samplerCapture => exact execSamplerCapture_vault _ _ _ s t h
  | samplerNWrite => exact execSamplerNWrite_vault _ _ s t h
  | otpProgram => exact execOtpProgram_vault _ s t h
  | lifecycleAdvance => exact execLifecycleAdvance_vault _ s t h
  | imageVerify => exact execImageVerify_vault _ s t h
  | imageVerifyDone => exact execImageVerifyDone_vault s t h
  | measurementExtend => exact execMeasurementExtend_vault _ s t h
  | debugUnlock => exact execDebugUnlock_vault _ s t h
  | debugUnlockDone => exact execDebugUnlockDone_vault s t h
  | identityDerived => exact execIdentityDerived_vault _ s t h
  | resetRelease => exact execResetRelease_vault _ _ _ s t h
  | otpLoaded => exact execOtpLoaded_vault _ s t h
  | earlySelftestDone => exact execEarlySelftestDone_vault _ _ _ s t h
  | bgSelftestDone => exact execBgSelftestDone_vault _ _ _ s t h
  | safeUartLine => exact execSafeUartLine_vault s t h
  | statPatternToggle => exact execStatPatternToggle_vault s t h
  | safeSpiRelease => exact execSafeSpiRelease_vault s t h
  | smbusStatusRead => exact execSmbusStatusRead_vault s t h
  | modeReqStandalone => exact execModeReqStandalone_vault s t h
  | modeReqPartitioned => exact execModeReqPartitioned_vault s t h
  | modeReqComposed => exact execModeReqComposed_vault s t h
  | modeReqFabric => exact execModeReqFabric_vault s t h
  | modeReqIsolate => exact execModeReqIsolate_vault s t h
  | modeReqDrain => exact execModeReqDrain_vault s t h
  | modeReqDiagnostic => exact execModeReqDiagnostic_vault s t h
  | modeReqInvalid => exact execModeReqInvalid_vault _ s t h
  | drainComplete => exact execDrainComplete_vault s t h
  | drainTimeout => exact execDrainTimeout_vault s t h
  | standbyWake => exact execStandbyWake_vault _ _ _ s t h
  | mainPowerReturn => exact execMainPowerReturn_vault s t h
  | trefLost => exact execTrefLost_vault s t h
  | trefRestored => exact execTrefRestored_vault s t h
  | subsysResetDone => exact execSubsysResetDone_vault _ s t h
  | supplyOvervoltage => exact execSupplyOvervoltage_vault _ s t h
  | thermalGovTick => exact execThermalGovTick_vault _ s t h
  | criticalCool => exact execCriticalCool_vault s t h
  | recordRingWriteback => exact execRecordRingWriteback_vault _ s t h
  | phyCalibrationDone => exact execPhyCalibrationDone_vault _ _ s t h
  | coreLoadTimeout => exact execCoreLoadTimeout_vault s t h
  | badBlockReceive => exact execBadBlockReceive_vault _ _ _ s t h

/-- A command of `writesVault` keeps the queue, the canonical form of memory and OTP, and the set bits of the OTP. -/
theorem exec_vaultKept_of_writesVault {c : Instr} {s t : State} (hc : writesVault c = true) (h : exec c s = .next t) :
    VaultKept s.vault t.vault := by
  cases c with
  | registerWrite => exact execRegisterWrite_kept _ _ _ s t h
  | strayAccess => exact execStrayAccess_kept _ _ _ s t h
  | evtClr => exact execEvtClr_kept _ _ _ _ s t h
  | counterClear => exact execCounterClear_kept _ _ s t h
  | tblNop => exact execTblNop_kept _ _ s t h
  | tblRead => exact execTblRead_kept _ _ s t h
  | tblWrite => exact execTblWrite_kept _ _ s t h
  | tblReadClear => exact execTblReadClear_kept _ _ s t h
  | frameArrival => exact execFrameArrival_kept _ _ _ _ s t h
  | reservationGranted => exact execReservationGranted_kept _ s t h
  | completionArrival => exact execCompletionArrival_kept _ _ _ _ s t h
  | configRead => exact execConfigRead_kept _ _ _ s t h
  | configWrite => exact execConfigWrite_kept _ _ _ s t h
  | mgmtPacketReceive => exact execMgmtPacketReceive_kept _ _ _ _ s t h
  | bar4RemoteRead => exact execBar4RemoteRead_kept _ _ s t h
  | bar4RemoteWrite => exact execBar4RemoteWrite_kept _ _ s t h
  | coreLoad => exact execCoreLoad_kept _ _ _ _ s t h
  | coreStore => exact execCoreStore_kept _ _ _ _ _ s t h
  | coreFence => exact execCoreFence_kept _ _ s t h
  | coreLr => exact execCoreLr_kept _ _ _ _ s t h
  | coreSc => exact execCoreSc_kept _ _ _ _ _ _ s t h
  | coreAmo => exact execCoreAmo_kept _ _ _ _ _ _ s t h
  | bootLoadDone => exact execBootLoadDone_kept s t h
  | pwrlossClear => exact execPwrlossClear_kept _ s t h
  | otpProgramDone => exact execOtpProgramDone_kept _ s t h
  | debugAccess => exact execDebugAccess_kept _ _ _ _ s t h
  | resetAssert => exact execResetAssert_kept s t h
  | mainPowerLoss => exact execMainPowerLoss_kept _ s t h
  | resetMgt => exact execResetMgt_kept s t h
  | resetCul => exact execResetCul_kept s t h
  | resetTel => exact execResetTel_kept s t h
  | resetShake => exact execResetShake_kept s t h
  | resetLink => exact execResetLink_kept _ s t h
  | resetDevice => exact execResetDevice_kept s t h
  | supplyUndervoltage => exact execSupplyUndervoltage_kept _ s t h
  | aonUndervoltage => exact execAonUndervoltage_kept s t h
  | criticalTemperature => exact execCriticalTemperature_kept s t h
  | lifecycleAdvanceDone => exact execLifecycleAdvanceDone_kept s t h
  | _ => cases hc

/-- Every command leaves the rest of the queue as it stood, and memory and the OTP as `VaultKept` says. -/
theorem exec_vaultKept {c : Instr} {s t : State} (h : exec c s = .next t) : VaultKept s.vault t.vault := by
  cases hc : writesVault c with
  | false => exact vault_kept_of_eq (exec_vault_of_not_writesVault hc h)
  | true => exact exec_vaultKept_of_writesVault hc h

/-- With no command waiting, a step is one core cycle (log entry 2). -/
theorem step_of_pending_nil {s : State} (hq : s.pending = []) : step s = s.tick := by
  rw [step, hq]

/-- With a command in front, a step executes it on the state with the rest of the queue. -/
theorem step_of_pending_cons {s : State} {c : Instr} {cs : List Instr} (hq : s.pending = c :: cs) :
    step s = exec c { s with pending := cs } := by
  rw [step, hq]

/-- Settles O1: the queue of the given state is `c :: cs`, and the rest of its fields are those of `s`. -/
theorem stepRunsFrontCommand : Obligations.StepRunsFrontCommand := by
  intro c cs s
  exact step_of_pending_cons rfl

/-- Settles O2: an idle cycle and every command keep the queue they start from, which for a command is the queue
without its front. -/
theorem queueIsFirstInFirstOut : Obligations.QueueIsFirstInFirstOut := by
  intro s t h
  cases hq : s.pending with
  | nil =>
    rw [step_of_pending_nil hq] at h
    exact (State.tick_kept s t h).pending.trans hq
  | cons c cs =>
    rw [step_of_pending_cons hq] at h
    exact (exec_vaultKept h).pending

end Sys2Proof.Machine
end

section
/-! PROOFS. The register map: a property of all its registers, checked page by page; the state after reset; what a write
stores in each field. -/

namespace Sys2Proof.Machine

/-- The pages that have registers of their own (R30). -/
def mapPages : List (Block × Nat) :=
  [(.dev, 0), (.dev, 1), (.clk, 0), (.clk, 1), (.sec, 0), (.sec, 2), (.sec, 3), (.mgt, 0), (.mgt, 1), (.mgt, 2),
   (.mgt, 3), (.cul, 0), (.cul, 1), (.cul, 2), (.spv, 0), (.spvs, 0), (.tel, 2), (.tel, 3), (.tel, 4), (.err, 0),
   (.swc, 0), (.swc, 1), (.swc, 2), (.buf, 0), (.buf, 1), (.buf, 2), (.map, 0), (.map, 2), (.acl, 0), (.mcm, 1),
   (.slu, 0), (.slu, 1), (.eng, 0), (.vim, 0), (.pep, 0), (.phy, 0), (.phy, 1), (.mfl, 0), (.mfl, 1), (.mfl, 2),
   (.mfl, 3)]

/-- Every register of the map stands on a page of `mapPages`. -/
theorem mem_mapPages_of_mem_pageRegs {b : Block} {page : Nat} {x : RegSpec} (hx : x ∈ pageRegs b page) :
    (b, page) ∈ mapPages := by
  unfold pageRegs at hx
  split at hx
  case h_42 => cases hx
  all_goals decide

/-- What holds of the registers of every page of `mapPages` holds of every register of the map. -/
theorem pageRegs_forall {P : RegSpec → Prop} (h : ∀ e ∈ mapPages, ∀ x ∈ pageRegs e.1 e.2, P x) {b : Block}
    {page : Nat} {x : RegSpec} (hx : x ∈ pageRegs b page) : P x :=
  h (b, page) (mem_mapPages_of_mem_pageRegs hx) x hx

/-! ### The state after reset (R11, R29, R421) -/

/-- No register of the map lies among the common registers at the head of a page (R35). -/
theorem pageRegs_off_ge {b : Block} {page : Nat} {x : RegSpec} (hx : x ∈ pageRegs b page) : 0x20 ≤ x.off :=
  pageRegs_forall (P := fun x => 0x20 ≤ x.off) (by decide) hx

/-- The offset of an address within its page. -/
theorem pageAt_off {a : Nat} {p : PageAt} (h : pageAt a = some p) : p.off = a % 4096 := by
  have hall : (pageAt a).all (·.off == a % 4096) = true := by
    simp only [pageAt, apply_ite (Option.all _), Option.all_some, Option.all_none, beq_self_eq_true, ite_self]
  simpa [h] using hall

/-- The common registers of a page read 0 after reset. -/
theorem regReset_of_common {a : Nat} (h : a % 4096 < 0x20) : regReset a = 0 := by
  have hspec : regSpec a = none := by
    unfold regSpec
    cases hp : pageAt a with
    | none => rfl
    | some p =>
      refine List.find?_eq_none.mpr fun x hx => ?_
      have hoff := pageAt_off hp
      have hge := pageRegs_off_ge hx
      simp
      omega
  rw [regReset, hspec]

/-- No register is stored in the state after reset, so each reads as its reset value. -/
theorem State.reg_reset (a : Nat) : State.reset.reg a = regReset a := rfl

/-- No page asserts its interrupt after reset: its EVT_STS reads 0 (R32). -/
theorem State.pageIrq_reset (page : Nat) : State.reset.pageIrq page = false := by
  have hsts : State.reset.reg (page * 4096 + 0x10) = 0 := by
    rw [State.reg_reset]
    exact regReset_of_common (by omega)
  simp [State.pageIrq, hsts]

/-- Settles O5: the mode and DEV_ALIVE are fields of the map's reset values, and nothing else is stored after reset. -/
theorem resetState : Obligations.ResetState := by
  have hmode : State.reset.mode = mLIMP := by decide
  have halive : State.reset.reg R.DEV_ALIVE = 0x0C256A11 := by decide
  exact ⟨⟨hmode, halive, State.reg_reset, fun _ => rfl, State.pageIrq_reset, rfl, rfl, rfl, rfl, rfl⟩, rfl, rfl⟩

/-! ### Fields of a write (R5, R12) -/

/-- Does a write store its value in a field (R12)? -/
def FieldSpec.takes (f : FieldSpec) (locked : Bool) : Bool :=
  match f.acc with
  | .rw => true
  | .lck => !locked
  | _ => false

/-- One field's part of a write. -/
def storeField (locked : Bool) (v n : Nat) (f : FieldSpec) : Nat :=
  if f.takes locked then putBits n f.hi f.lo (clampTo f (bits v f.hi f.lo)) else n

theorem storeFields_eq_foldl (fs : List FieldSpec) (locked : Bool) (old v : Nat) :
    storeFields fs locked old v = fs.foldl (storeField locked v) old := by
  unfold storeFields
  congr 1
  funext n f
  unfold storeField FieldSpec.takes
  cases f.acc <;> cases locked <;> rfl

/-- Do two fields share no bit? -/
def FieldSpec.Apart (f g : FieldSpec) : Prop := f.hi < g.lo ∨ g.hi < f.lo

theorem clampTo_lt (f : FieldSpec) (x : Nat) : clampTo f x < 2 ^ (f.hi - f.lo + 1) := by
  unfold clampTo
  dsimp only
  have hpos : (0 : Int) < 2 ^ (f.hi - f.lo + 1) := by positivity
  have hlt := Int.emod_lt_of_pos (max f.min (min (if f.signed then signedOf (f.hi - f.lo + 1) x else x) f.max)) hpos
  have hnn := Int.emod_nonneg (max f.min (min (if f.signed then signedOf (f.hi - f.lo + 1) x else x) f.max)) hpos.ne'
  zify
  rwa [Int.toNat_of_nonneg hnn]

/-- A field's part of a write leaves a field that is apart from it alone. -/
theorem bits_storeField_of_apart {f g : FieldSpec} (hf : f.lo ≤ f.hi) (hg : g.lo ≤ g.hi) (h : f.Apart g)
    (locked : Bool) (v n : Nat) : bits (storeField locked v n g) f.hi f.lo = bits n f.hi f.lo := by
  unfold storeField
  split
  · exact bits_putBits_ne _ _ _ _ _ _ hg hf h
  · rfl

/-- Fields apart from the one read do not show in it, however many are written. -/
theorem bits_foldl_storeField_of_apart {f : FieldSpec} (hf : f.lo ≤ f.hi) (locked : Bool) (v : Nat)
    {fs : List FieldSpec} (hfs : ∀ g ∈ fs, g.lo ≤ g.hi ∧ f.Apart g) (n : Nat) :
    bits (fs.foldl (storeField locked v) n) f.hi f.lo = bits n f.hi f.lo := by
  induction fs generalizing n with
  | nil => rfl
  | cons g fs ih =>
    obtain ⟨⟨hg, hfg⟩, hrest⟩ := List.forall_mem_cons.mp hfs
    rw [List.foldl_cons, ih hrest, bits_storeField_of_apart hf hg hfg]

/-- A field's own part of a write. -/
theorem bits_storeField_same {f : FieldSpec} (hf : f.lo ≤ f.hi) (locked : Bool) (v n : Nat) :
    bits (storeField locked v n f) f.hi f.lo =
      if f.takes locked then clampTo f (bits v f.hi f.lo) else bits n f.hi f.lo := by
  unfold storeField
  split
  · rw [bits_putBits_same _ _ _ _ hf, Nat.mod_eq_of_lt (clampTo_lt f _)]
  · rfl

/-- Fields of a register that lie within its 32 bits and share no bit. -/
def FieldsWf (fs : List FieldSpec) : Prop := (∀ f ∈ fs, f.lo ≤ f.hi ∧ f.hi < 32) ∧ fs.Pairwise FieldSpec.Apart

/-- What a write stores in one field of a register whose fields share no bit. -/
theorem bits_storeFields {fs : List FieldSpec} (hwf : FieldsWf fs) {f : FieldSpec} (hf : f ∈ fs) (locked : Bool)
    (old v : Nat) :
    bits (storeFields fs locked old v) f.hi f.lo =
      if f.takes locked then clampTo f (bits v f.hi f.lo) else bits old f.hi f.lo := by
  obtain ⟨hrange, hapart⟩ := hwf
  obtain ⟨before, after, rfl⟩ := List.append_of_mem hf
  have hle : ∀ g ∈ before ++ f :: after, g.lo ≤ g.hi := fun g hg => (hrange g hg).1
  obtain ⟨-, hcons, hcross⟩ := List.pairwise_append.mp hapart
  have hafter : ∀ g ∈ after, g.lo ≤ g.hi ∧ f.Apart g := fun g hg =>
    ⟨hle g (by simp [hg]), List.rel_of_pairwise_cons hcons hg⟩
  have hbefore : ∀ g ∈ before, g.lo ≤ g.hi ∧ f.Apart g := fun g hg =>
    ⟨hle g (by simp [hg]), (hcross g hg f (by simp)).symm⟩
  rw [storeFields_eq_foldl, List.foldl_append, List.foldl_cons,
    bits_foldl_storeField_of_apart (hle f hf) locked v hafter, bits_storeField_same (hle f hf),
    bits_foldl_storeField_of_apart (hle f hf) locked v hbefore]

/-- The fields of every register of the map lie within 32 bits and share none. -/
theorem pageRegs_fieldsWf {b : Block} {page : Nat} {x : RegSpec} (hx : x ∈ pageRegs b page) : FieldsWf x.fields :=
  pageRegs_forall (P := fun x => FieldsWf x.fields) (by unfold FieldsWf FieldSpec.Apart; decide) hx

/-- Settles O9: the fields of a register share no bit, so each holds what its own part of the write stores. -/
theorem fieldsFollowAccessCodes : Obligations.FieldsFollowAccessCodes := by
  intro b page x f locked old v hx hf
  have hwf := pageRegs_fieldsWf hx
  obtain ⟨hlo, hhi⟩ := hwf.1 f hf
  refine ⟨hlo, hhi, ?_⟩
  rw [bits_storeFields hwf hf]
  unfold FieldSpec.takes
  cases f.acc <;> cases locked <;> rfl

end Sys2Proof.Machine
end

section
/-! PROOFS. REGISTER_WRITE to a register without an action (R12, R48): the reasoning rules of `lckOrder`, `storeReg` and
`writeBlock`, and the path of a write to them. -/

namespace Sys2Proof.Machine

/-! ### A register's lock ordered within a core cycle (R49, R416) -/

/-- `lckOrder` touches the locks of SEC alone. -/
theorem State.lckOrder_eq (s : State) (r : Requester) (a : Nat) :
    s.lckOrder r a = { s with sec := (s.lckOrder r a).sec } := by
  unfold State.lckOrder
  split
  · rfl
  · split <;> rfl

@[simp] theorem State.lckOrder_reg (s : State) (r : Requester) (a b : Nat) : (s.lckOrder r a).reg b = s.reg b := by
  rw [State.lckOrder_eq]; rfl
@[simp] theorem State.lckOrder_ctrs (s : State) (r : Requester) (a : Nat) : (s.lckOrder r a).ctrs = s.ctrs := by
  rw [State.lckOrder_eq]
@[simp] theorem State.lckOrder_tbls (s : State) (r : Requester) (a : Nat) : (s.lckOrder r a).tbls = s.tbls := by
  rw [State.lckOrder_eq]
@[simp] theorem State.lckOrder_undef (s : State) (r : Requester) (a : Nat) : (s.lckOrder r a).undef = s.undef := by
  rw [State.lckOrder_eq]

/-! ### The plain part of a write (R5, R12, R46) -/

section StoreReg
variable {s : State} {a : Nat} {v : W32} {x : RegSpec}

/-- A register is lockable when a field of it is. -/
theorem lockable_of_regSpec (hx : regSpec a = some x) : lockable a = x.fields.any fun f => f.acc == .lck := by
  rw [lockable, hx, Option.any_some]

/-- Where the map has no register nothing is stored. -/
theorem State.storeReg_of_none (hx : regSpec a = none) : s.storeReg a v = s := by
  rw [State.storeReg, hx]

/-- A write to a register of the map: its fields, its lock, and the note of a changed reserved field. -/
theorem State.storeReg_of_some (hx : regSpec a = some x) :
    s.storeReg a v =
      { s.setReg a (BitVec.ofNat 32 (storeFields x.fields (storeGet false s.sec.locked a) (s.reg a).toNat v.toNat)) with
        sec := { s.sec with locked := if lockable a then storePut false a true s.sec.locked else s.sec.locked }
        undef := if (s.reg a ^^^ v).toNat &&& reservedBits x.fields = 0 then s.undef else some a } := by
  simp only [State.storeReg, hx]
  split <;> split <;> rfl

theorem State.storeReg_reg_same (hx : regSpec a = some x) :
    (s.storeReg a v).reg a =
      BitVec.ofNat 32 (storeFields x.fields (storeGet false s.sec.locked a) (s.reg a).toNat v.toNat) := by
  rw [State.storeReg_of_some hx]
  exact State.reg_setReg_same s a _

theorem State.storeReg_reg_ne {b : Nat} (hb : b ≠ a) : (s.storeReg a v).reg b = s.reg b := by
  cases hx : regSpec a with
  | none => rw [State.storeReg_of_none hx]
  | some x =>
    rw [State.storeReg_of_some hx]
    exact (State.reg_setReg s b a _).trans (if_neg hb)

/-- A register with a lockable field is locked by its first write (R12). -/
theorem State.storeReg_locked (hx : regSpec a = some x) :
    storeGet false (s.storeReg a v).sec.locked a =
      (storeGet false s.sec.locked a || x.fields.any fun f => f.acc == .lck) := by
  rw [← lockable_of_regSpec hx, State.storeReg_of_some hx]
  cases lockable a <;> simp

@[simp] theorem State.storeReg_ctrs : (s.storeReg a v).ctrs = s.ctrs := by
  cases hx : regSpec a with
  | none => rw [State.storeReg_of_none hx]
  | some x => rw [State.storeReg_of_some hx]; rfl

@[simp] theorem State.storeReg_tbls : (s.storeReg a v).tbls = s.tbls := by
  cases hx : regSpec a with
  | none => rw [State.storeReg_of_none hx]
  | some x => rw [State.storeReg_of_some hx]; rfl

/-- A write that changes a reserved field is noted, and no other (R46). -/
theorem State.storeReg_undef (hx : regSpec a = some x) :
    (s.storeReg a v).undef = if (s.reg a ^^^ v).toNat &&& reservedBits x.fields = 0 then s.undef else some a := by
  rw [State.storeReg_of_some hx]

end StoreReg

/-! ### The path of a write to its register (R48) -/

theorem State.finish_of_undef_none {s : State} (h : s.undef = none) : s.finish = .next s := by
  rw [State.finish, h]

theorem State.finish_of_undef_some {s : State} {a : Nat} (h : s.undef = some a) :
    s.finish = .fault (.reservedFieldChanged a) := by
  rw [State.finish, h]

/-- A register without an action has its fields stored. -/
theorem State.writeBlock_of_no_action {s : State} {r : Requester} {p : PageAt} {a : Nat} {v : W32}
    (hA : s.writeCtlA r p a v = none) (hB : s.writeCtlB p a v = none) (hC : s.writeCtlC r p a v = none) :
    s.writeBlock r p a v = s.storeReg a v := by
  simp only [State.writeBlock, hA, hB, hC]

/-- A write that its page takes, and that meets none of a page's common registers, counters or table port, reaches a
register of the block. -/
theorem State.regWrite_eq_writeBlock {s : State} {r : Requester} {a : Nat} {p : PageAt} (v : W32)
    (hal : s.alive = true) (hdec : s.decodes r a = true) (hp : pageAt a = some p) (hbar : s.writeBarred r p = false)
    (hclr : p.off ≠ 0x14) (hmask : p.off ≠ 0x18) (hctr : isCounter p = false) (hport : p.off < 0xF00) :
    s.regWrite r a v = (s.lckOrder r a).writeBlock r p a v := by
  have hport' : ¬ 0xF00 ≤ p.off := by omega
  simp [State.regWrite, hal, hdec, hp, hbar, hclr, hmask, hctr, hport']

/-- A write that reaches a register of a block which has no action of its own. -/
structure PlainWrite (s : State) (r : Requester) (a : Nat) (p : PageAt) (v : W32) : Prop where
  alive : s.alive = true
  decodes : s.decodes r a = true
  page : pageAt a = some p
  allowed : s.writeBarred r p = false
  notEvtClr : p.off ≠ 0x14
  notEvtMask : p.off ≠ 0x18
  notCounter : isCounter p = false
  belowPort : p.off < 0xF00
  noActionA : (s.lckOrder r a).writeCtlA r p a v = none
  noActionB : (s.lckOrder r a).writeCtlB p a v = none
  noActionC : (s.lckOrder r a).writeCtlC r p a v = none

/-- Such a write stores the fields of its register, in the state that `lckOrder` leaves. -/
theorem PlainWrite.exec_eq {s : State} {r : Requester} {a addr : Nat} {p : PageAt} {v : W32} (h : PlainWrite s r a p v)
    (ha : a = addr % 2 ^ 24 / 4 * 4) : exec (.registerWrite r addr v) s = ((s.lckOrder r a).storeReg a v).finish := by
  rw [← State.writeBlock_of_no_action h.noActionA h.noActionB h.noActionC,
    ← State.regWrite_eq_writeBlock v h.alive h.decodes h.page h.allowed h.notEvtClr h.notEvtMask h.notCounter
      h.belowPort, ha]
  rfl

/-- Settles O8: such a write is `storeReg` on the state that `lckOrder` leaves, and the reserved bits decide whether it
ends in the next state or in the fault of R46. -/
theorem registerWrites : Obligations.RegisterWrites := by
  constructor
  · rintro s r addr v hal hund a ha hdec p hp hbar hclr hmask hctr hport x hx _ rfl hA hB hC hres
    have hexec := PlainWrite.exec_eq ⟨hal, hdec, hp, hbar, hclr, hmask, hctr, hport, hA, hB, hC⟩ ha
    have hundef : ((s.lckOrder r a).storeReg a v).undef = none := by
      rw [State.storeReg_undef hx, State.lckOrder_reg, if_pos hres, State.lckOrder_undef, hund]
    exact ⟨_, hexec.trans (State.finish_of_undef_none hundef), by simp [State.storeReg_reg_same hx],
      State.storeReg_locked hx, fun b hb => by simp [State.storeReg_reg_ne hb], by simp⟩
  · rintro s r addr v hal - a ha hdec p hp hbar hclr hmask hctr hport x hx _ rfl hA hB hC hres
    have hexec := PlainWrite.exec_eq ⟨hal, hdec, hp, hbar, hclr, hmask, hctr, hport, hA, hB, hC⟩ ha
    have hundef : ((s.lckOrder r a).storeReg a v).undef = some a := by
      rw [State.storeReg_undef hx, State.lckOrder_reg, if_neg hres]
    exact hexec.trans (State.finish_of_undef_some hundef)

end Sys2Proof.Machine
end

section
/-! PROOFS. The copy that a port selects (R23, R60). -/

namespace Sys2Proof.Machine

/-- What the selection rotates to is within its range. -/
theorem rotate_lt {k ptr r : Nat} {ok : Nat → Bool} (h : rotate k ptr ok = some r) : r < k := by
  obtain ⟨d, hd, rfl⟩ := List.mem_map.mp (List.mem_of_find?_eq_some h)
  exact Nat.mod_lt _ (by have := List.mem_range.mp hd; omega)

/-- What a search of a falling list finds is the highest entry that passes. -/
theorem find?_highest {l : List Nat} {ok : Nat → Bool} {q : Nat} (hl : l.Pairwise (· > ·)) (h : l.find? ok = some q) :
    ∀ r ∈ l, q < r → ok r = false := by
  obtain ⟨-, before, after, rfl, hbefore⟩ := List.find?_eq_some_iff_append.mp h
  have hafter : ∀ r ∈ after, q > r := (List.pairwise_cons.mp (List.pairwise_append.mp hl).2.1).1
  intro r hr hqr
  rcases List.mem_append.mp hr with hr | hr
  · simpa using hbefore r hr
  · rcases List.mem_cons.mp hr with rfl | hr
    · omega
    · have := hafter r hr
      omega

/-- The head of a queue that can start is the first copy queued there, ready, and held back by nothing. -/
theorem State.readyHead_spec {s : State} {all : List (Copy × Frame)} {n credits q : Nat} {c : Copy} {f : Frame}
    (h : s.readyHead all n credits q = some (c, f)) :
    c.queue = q ∧ all.find? (fun x => x.1.queue == q) = some (c, f) ∧ s.cellsReady f c = true ∧
      blocked all c f = false ∧ s.heldBack n f = false ∧ (isPcie n = true → bit credits q = true) := by
  unfold State.readyHead at h
  cases hfind : all.find? (fun x => x.1.queue == q) with
  | none => simp [hfind] at h
  | some x =>
    simp only [hfind, Option.ite_none_right_eq_some, Bool.and_eq_true, Bool.not_eq_true', Option.some.injEq] at h
    obtain ⟨⟨⟨⟨hlink, hcells⟩, hblocked⟩, hheld⟩, hx⟩ := h
    obtain rfl : x = (c, f) := hx
    have hq : c.queue = q := by simpa using List.find?_some hfind
    exact ⟨hq, rfl, hcells, hblocked, hheld, fun hp => by rwa [if_pos hp] at hlink⟩

/-- The copy that a port selects is the head of an ordered queue, or that of a live queue with none ready above it. -/
theorem State.selectNext_spec {s : State} {n credits : Nat} {c : Copy} {f : Frame} {p : PortSt}
    (h : s.selectNext n credits = some (c, f, p)) :
    ∃ q, s.readyHead (s.queued n) n credits q = some (c, f) ∧
      (q < 12 ∨ (12 ≤ q ∧ ∀ r, q < r → r < 16 → s.readyHead (s.queued n) n credits r = none)) := by
  unfold State.selectNext at h
  extract_lets all p' head live cls ordTurn at h
  by_cases hturn : ordTurn = true
  · rw [if_pos hturn] at h
    cases hcls : cls with
    | none => simp [hcls] at h
    | some k =>
      simp only [hcls] at h
      cases ht : rotate 3 (p'.typePtrs.getD k 2) fun t => (head (3 * k + t)).isSome with
      | none => simp only [ht, reduceCtorEq] at h
      | some t =>
        simp only [ht, Option.map_eq_some_iff] at h
        obtain ⟨⟨c', f'⟩, hhead, heq⟩ := h
        cases heq
        have hk := rotate_lt hcls
        have ht := rotate_lt ht
        exact ⟨3 * k + t, hhead, .inl (by omega)⟩
  · rw [if_neg hturn] at h
    cases hlive : live with
    | none => simp [hlive] at h
    | some q =>
      simp only [hlive, Option.map_eq_some_iff] at h
      obtain ⟨⟨c', f'⟩, hhead, heq⟩ := h
      cases heq
      have hq : q ∈ [15, 14, 13, 12] := List.mem_of_find?_eq_some hlive
      have habove := find?_highest (by decide) hlive
      simp only [List.mem_cons, List.not_mem_nil, or_false] at hq habove
      exact ⟨q, hhead, .inr ⟨by omega, fun r hqr hr => by simpa using habove r (by omega) hqr⟩⟩

/-- Settles O18: the selection picks a queue whose head is ready, by the rotating pointers among the ordered queues or
the highest priority among the live ones. -/
theorem selectedCopyIsReadyHead : Obligations.SelectedCopyIsReadyHead := by
  intro s n credits c f p h
  obtain ⟨q, hhead, hq⟩ := State.selectNext_spec h
  obtain ⟨rfl, hfirst, hcells, hblocked, hheld, hcredit⟩ := State.readyHead_spec hhead
  exact ⟨hfirst, hcells, hblocked, hheld, hcredit, hq⟩

end Sys2Proof.Machine
end

section
/-! PROOFS. Whether an egress takes a frame (R84, R223, R225): what decides it, and that captures and reports leave it
alone. -/

namespace Sys2Proof.Machine

/-- The registers that reports and samples write: those of events and errors (R36, R303) and MGT_SQ_STS (R325). -/
def reportReg (a : Nat) : Bool := statusReg a || a == R.MGT_SQ_STS_COUNT.addr

/-- What decides whether an egress takes a frame, and whether a command ends in the fault of R46. -/
@[ext] structure EgressView where
  reg : Nat → W32
  tbls : Store W256
  shadows : Store W32
  unbridged : List Nat
  up : Nat → Bool
  flushing : Nat → Bool
  undef : Option Nat

/-- A state as `EgressView` sees it. -/
def State.egressView (s : State) : EgressView where
  reg a := if reportReg a then 0 else s.reg a
  tbls := s.tbls
  shadows := s.shadows
  unbridged := s.unbridged
  up n := (s.port n).up
  flushing n := (s.port n).flushing
  undef := s.undef

@[simp] theorem egressView_ite (c : Prop) [Decidable c] (s t : State) :
    (if c then s else t).egressView = if c then s.egressView else t.egressView := by
  split <;> rfl

theorem egressView_foldl {α : Type} (f : State → α → State) (l : List α) (s : State)
    (h : ∀ s x, (f s x).egressView = s.egressView) : (l.foldl f s).egressView = s.egressView := by
  induction l generalizing s with
  | nil => rfl
  | cons x l ih => rw [List.foldl_cons, ih, h]

/-! ### What leaves it alone -/

theorem State.setReg_egressView {s : State} {a : Nat} (v : W32) (h : reportReg a = true) :
    (s.setReg a v).egressView = s.egressView := by
  have hreg : (s.setReg a v).egressView.reg = s.egressView.reg := by
    funext b
    by_cases hb : b = a
    · simp [State.egressView, hb, h]
    · simp [State.egressView, State.reg_setReg_ne hb]
  exact congrArg (fun r => { s.egressView with reg := r }) hreg

theorem reportReg_evtSts (page : Nat) : reportReg (page * 4096 + 0x10) = true := by
  simp [reportReg, statusReg, Nat.mul_add_mod_self_right]

theorem reportReg_evtFirst (page : Nat) : reportReg (page * 4096 + 0x1C) = true := by
  simp [reportReg, statusReg, Nat.mul_add_mod_self_right]

@[simp] theorem State.bumpBy_egressView (s : State) (a n : Nat) : (s.bumpBy a n).egressView = s.egressView := by
  unfold State.bumpBy
  split <;> rfl

@[simp] theorem State.bump_egressView (s : State) (a : Nat) : (s.bump a).egressView = s.egressView :=
  s.bumpBy_egressView a 1

theorem State.modPort_egressView (s : State) (n : Nat) {f : PortSt → PortSt}
    (hup : ∀ p, (f p).up = p.up := by intro; rfl) (hflush : ∀ p, (f p).flushing = p.flushing := by intro; rfl) :
    (s.modPort n f).egressView = s.egressView := by
  have hport : ∀ m, ((s.modPort n f).port m).up = (s.port m).up ∧
      ((s.modPort n f).port m).flushing = (s.port m).flushing := by
    intro m
    by_cases hm : m = n
    · simp [State.modPort, State.setPort, State.port, hm, hup, hflush]
    · simp [State.modPort, State.setPort, State.port, storeGet_storePut_ne _ hm]
  have hups : (s.modPort n f).egressView.up = s.egressView.up := funext fun m => (hport m).1
  have hflushes : (s.modPort n f).egressView.flushing = s.egressView.flushing := funext fun m => (hport m).2
  exact EgressView.ext rfl rfl rfl rfl hups hflushes rfl

@[simp] theorem State.notePeak_egressView (s : State) (n : Nat) : (s.notePeak n).egressView = s.egressView :=
  s.modPort_egressView n

@[simp] theorem State.store_egressView (s : State) (f : Frame) : (s.store f).egressView = s.egressView := by
  unfold State.store
  extract_lets r s1 sw s2
  have h1 : s1.egressView = s.egressView := s.modPort_egressView _
  exact (s2.notePeak_egressView f.ingress).trans h1

@[simp] theorem State.setCopies_egressView (s : State) (cs : List Copy) :
    (s.setCopies cs).egressView = s.egressView := rfl

@[simp] theorem State.enqueue_egressView (s : State) (c : Copy) : (s.enqueue c).egressView = s.egressView := by
  unfold State.enqueue
  dsimp only
  rw [State.setCopies_egressView]
  split
  · exact State.modPort_egressView _ _
  · rfl

@[simp] theorem State.wait_egressView (s : State) (f : Frame) (need : WaitFor) (cs : List Copy) :
    (s.wait f need cs).egressView = s.egressView := by
  unfold State.wait
  rw [State.notePeak_egressView]
  rfl

theorem State.storeAll_egressView (s : State) (f : Frame) (cs : List Copy) :
    (cs.foldl State.enqueue (s.store f)).egressView = s.egressView := by
  rw [egressView_foldl _ _ _ State.enqueue_egressView, State.store_egressView]

@[simp] theorem State.admitOrWait_egressView (s : State) (f : Frame) (cs : List Copy) :
    (s.admitOrWait f cs).egressView = s.egressView := by
  unfold State.admitOrWait
  split
  · exact s.storeAll_egressView f cs
  · exact s.wait_egressView f .pool cs

@[simp] theorem State.devicePost_egressView (s : State) (t : Tlp) (pool : Pool) (fid dest : Nat) (why : Purpose) :
    (s.devicePost t pool fid dest why).egressView = s.egressView := by
  unfold State.devicePost
  split
  · exact s.bump_egressView _
  · split
    · exact s.bump_egressView _
    · exact State.admitOrWait_egressView _ _ _

@[simp] theorem State.postToHost_egressView (s : State) (part : Nat) (addr : W64) (data : List Byte) (pool : Pool)
    (why : Purpose) : (s.postToHost part addr data pool why).egressView = s.egressView := by
  unfold State.postToHost
  split
  · rfl
  · exact State.devicePost_egressView _ _ _ _ _ _

@[simp] theorem State.mgmtMessage_egressView (s : State) (part vec : Nat) :
    (s.mgmtMessage part vec).egressView = s.egressView := by
  unfold State.mgmtMessage
  dsimp only
  split
  · exact State.postToHost_egressView _ _ _ _ _ _
  · rfl

@[simp] theorem State.sendVectors_egressView (s : State) (page : Nat) (before : Nat → Bool) :
    (s.sendVectors page before).egressView = s.egressView := by
  refine egressView_foldl _ _ _ fun s p => ?_
  split
  · exact s.mgmtMessage_egressView p _
  · rfl

@[simp] theorem State.evtWins_egressView (s : State) (page : Nat) : (s.evtWins page).egressView = s.egressView := by
  unfold State.evtWins
  dsimp only
  split
  · rfl
  · rw [State.bumpBy_egressView, State.setReg_egressView _ (reportReg_evtFirst page),
      State.setReg_egressView _ (reportReg_evtSts page)]
    rfl

@[simp] theorem State.raiseAll_egressView (s : State) (page : Nat) (evs : List Nat) :
    (s.raiseAll page evs).egressView = s.egressView := by
  unfold State.raiseAll
  split
  · rfl
  · extract_lets s0 sts seq ev vec before s1 first low s2
    have h1 : s1.egressView = s.egressView :=
      (State.setReg_egressView _ (reportReg_evtSts page)).trans (s.evtWins_egressView page)
    have h2 : s2.egressView = s.egressView := by
      simp only [s2]
      split
      · exact (State.setReg_egressView _ (reportReg_evtFirst page)).trans h1
      · exact h1
    split
    · exact (s2.sendVectors_egressView page before).trans h2
    · exact h2

@[simp] theorem State.raise_egressView (s : State) (page ev : Nat) : (s.raise page ev).egressView = s.egressView := by
  unfold State.raise
  split
  · exact s.raiseAll_egressView page [ev]
  · rfl

@[simp] theorem State.pushSample_egressView (s : State) (e : BitVec 1280) :
    (s.pushSample e).egressView = s.egressView := by
  unfold State.pushSample
  dsimp only
  split
  · rw [State.bump_egressView]
    exact State.setReg_egressView _ rfl
  · rw [State.raise_egressView, State.bump_egressView]

@[simp] theorem State.modSession_egressView (s : State) (k : Nat) (f : Session → Session) :
    (s.modSession k f).egressView = s.egressView := rfl

@[simp] theorem State.captureIn_egressView (s : State) (k : Nat) (f : Frame) (t : Tlp) (atEgress : Bool) (egress : Nat)
    (refused : Bool) (window : Nat) :
    (s.captureIn k f t atEgress egress refused window).egressView = s.egressView := by
  simp only [State.captureIn, State.dropCapture, egressView_ite, State.modSession_egressView,
    State.pushSample_egressView, State.bump_egressView, State.raise_egressView, ite_self]

@[simp] theorem State.capture_egressView (s : State) (f : Frame) (t : Tlp) (atEgress : Bool) (egress : Nat)
    (refused : Bool) (win : Option Win) :
    (s.capture f t atEgress egress refused win).egressView = s.egressView := by
  unfold State.capture
  split
  · rfl
  · refine egressView_foldl _ _ _ fun s k => ?_
    simp only [egressView_ite, State.captureIn_egressView, ite_self]

/-! ### What it decides -/

section SameView
variable {s t : State} (h : s.egressView = t.egressView)
include h

theorem reg_of_egressView {a : Nat} (ha : reportReg a = false) : s.reg a = t.reg a := by
  simpa [State.egressView, ha] using congrFun (congrArg EgressView.reg h) a

theorem fget_of_egressView {f : Fld} (hf : reportReg f.addr = false) : s.fget f = t.fget f := by
  rw [State.fget, State.fget, reg_of_egressView h hf]

theorem undef_of_egressView : s.undef = t.undef := congrArg EgressView.undef h

theorem selfFid_of_egressView : s.selfFid = t.selfFid := fget_of_egressView h rfl

theorem role_of_egressView (p : Nat) : s.role p = t.role p :=
  fget_of_egressView h (by simp [reportReg, statusReg]; omega)

theorem portPart_of_egressView (p : Nat) : s.portPart p = t.portPart p :=
  fget_of_egressView h (by simp [reportReg, statusReg]; omega)

theorem presentFlag_of_egressView (p : Nat) :
    s.flag (R.PEP_PORT_STS_PRESENT p) = t.flag (R.PEP_PORT_STS_PRESENT p) := by
  rw [State.flag, State.flag, fget_of_egressView h (by simp [reportReg, statusReg]; omega)]

theorem upstreamOf_of_egressView (part : Nat) : s.upstreamOf part = t.upstreamOf part := by
  simp only [State.upstreamOf, role_of_egressView h, portPart_of_egressView h, presentFlag_of_egressView h]

theorem downstreamOf_of_egressView (part : Nat) : s.downstreamOf part = t.downstreamOf part := by
  simp only [State.downstreamOf, role_of_egressView h, portPart_of_egressView h, presentFlag_of_egressView h]

theorem tget_of_egressView (page table index hi lo : Nat) :
    s.tget page table index hi lo = t.tget page table index hi lo := by
  have htbls : s.tbls = t.tbls := congrArg EgressView.tbls h
  simp only [State.tget, State.tbl, htbls]

theorem homeOf_of_egressView (part : Nat) : s.homeOf part = t.homeOf part := by
  simp only [State.homeOf, upstreamOf_of_egressView h, selfFid_of_egressView h, tget_of_egressView h]

theorem carries_of_egressView (n : Nat) : s.carries n = t.carries n := by
  have hunbridged : s.unbridged = t.unbridged := congrArg EgressView.unbridged h
  simp only [State.carries, role_of_egressView h, portPart_of_egressView h, upstreamOf_of_egressView h,
    homeOf_of_egressView h, downstreamOf_of_egressView h, hunbridged]

/-- A port that takes copies still does. -/
theorem shut_of_egressView (e : Nat) : s.shut e = t.shut e := by
  have hup : (s.port e).up = (t.port e).up := congrFun (congrArg EgressView.up h) e
  have hflush : (s.port e).flushing = (t.port e).flushing := congrFun (congrArg EgressView.flushing h) e
  simp only [State.shut, hup, hflush, carries_of_egressView h]

/-- A bridge that forwards the requests of its partition still does; of a frame only its partition and packet count. -/
theorem asleep_of_egressView {f g : Frame} (hpart : f.part = g.part) (htlp : f.tlp = g.tlp) (e : Nat) :
    s.asleep f e = t.asleep g e := by
  have hshadows : s.shadows = t.shadows := congrArg EgressView.shadows h
  simp only [State.asleep, State.d3hot, State.cfgBits, State.cfg, State.portFn, hshadows, hpart, htlp,
    portPart_of_egressView h, role_of_egressView h]

end SameView

end Sys2Proof.Machine
end

section
/-! PROOFS. Admission of a frame that is not live (R67), and what flow control leaves alone (R67 to R69). -/

namespace Sys2Proof.Machine

/-! ### A frame and its copy in the buffer -/

theorem State.enqueue_frames (s : State) (c : Copy) : (s.enqueue c).sw.frames = s.sw.frames := by
  unfold State.enqueue
  dsimp only
  split <;> rfl

theorem State.enqueue_copies (s : State) (c : Copy) :
    ∃ id epoch, (s.enqueue c).sw.copies = s.sw.copies ++ [{ c with id := id, portEpoch := epoch }] := by
  refine ⟨s.sw.nextId, (s.port c.egress).epoch, ?_⟩
  unfold State.enqueue
  dsimp only
  split <;> rfl

theorem State.store_frames (s : State) (f : Frame) :
    ∃ banks, (s.store f).sw.frames = s.sw.frames ++ [{ f with banks := banks }] :=
  ⟨_, rfl⟩

/-- A frame that is not live is stored and its copy queued, marked where a sweep has made the frame older. -/
theorem State.takeIn_of_not_live (s : State) {f : Frame} (c : Copy) (hlive : f.live = false) :
    ∃ older, s.takeIn f [c] = (s.store f).enqueue { c with older := older } := by
  unfold State.takeIn
  cases holder : f.older with
  | false => exact ⟨c.older, by simp [hlive]⟩
  | true => exact ⟨true, by simp [hlive]⟩

/-- The frame in the buffer is the one given, in the banks its cells took; its copy is the one given, with an identity,
its port's epoch, and the mark of a sweep. -/
theorem State.takeIn_carriesTo (s : State) {f : Frame} {c : Copy} (hlive : f.live = false) (hframe : c.frame = f.id)
    {P : Frame → Copy → Prop}
    (hP : ∀ banks id epoch older, P { f with banks := banks } { c with id := id, portEpoch := epoch, older := older }) :
    (s.takeIn f [c]).carriesTo c.egress P := by
  obtain ⟨older, htake⟩ := s.takeIn_of_not_live c hlive
  obtain ⟨banks, hframes⟩ := s.store_frames f
  obtain ⟨id, epoch, hcopies⟩ := (s.store f).enqueue_copies { c with older := older }
  rw [htake]
  exact ⟨{ f with banks := banks }, by simp [State.enqueue_frames, hframes],
    { c with id := id, portEpoch := epoch, older := older }, by simp [hcopies], hframe, rfl, hP _ _ _ _⟩

theorem State.takeIn_egressView (s : State) {f : Frame} (c : Copy) (hlive : f.live = false) :
    (s.takeIn f [c]).egressView = s.egressView := by
  obtain ⟨older, htake⟩ := s.takeIn_of_not_live c hlive
  rw [htake, State.enqueue_egressView, State.store_egressView]

/-! ### Flow control -/

/-- The frames and copies in the buffer, and whether a command ends in the fault of R46. -/
def State.buffered (s : State) : List Frame × List Copy × Option Nat := (s.sw.frames, s.sw.copies, s.undef)

theorem buffered_foldl {α : Type} (f : State → α → State) (l : List α) (s : State)
    (h : ∀ s x, (f s x).buffered = s.buffered) : (l.foldl f s).buffered = s.buffered := by
  induction l generalizing s with
  | nil => rfl
  | cons x l ih => rw [List.foldl_cons, ih, h]

theorem State.sendCtl_buffered (s : State) (f : Nat) (d : W64) : (s.sendCtl f d).buffered = s.buffered := by
  unfold State.sendCtl
  split <;> rfl

theorem State.bump_buffered (s : State) (a : Nat) : (s.bump a).buffered = s.buffered := by
  unfold State.bump State.bumpBy
  split <;> rfl

theorem State.sendMask_buffered (s : State) (f old mask : Nat) : (s.sendMask f old mask).buffered = s.buffered := by
  refine buffered_foldl _ _ _ fun s v => ?_
  split
  · rfl
  · split
    · rw [State.bump_buffered, State.sendCtl_buffered]
    · exact s.sendCtl_buffered f _

theorem State.updateLinks_buffered (s : State) : s.updateLinks.buffered = s.buffered := by
  refine buffered_foldl _ _ _ fun s f => ?_
  extract_lets n held short was
  split
  · rfl
  · split
    · rfl
    · exact State.sendMask_buffered _ _ _ _

theorem State.updateXoff_buffered (s : State) : s.updateXoff.buffered = s.buffered := by
  unfold State.updateXoff
  rw [buffered_foldl State.advertise _ _ fun _ _ => rfl, State.updateLinks_buffered]

theorem State.updateXoff_carriesTo {s : State} {e : Nat} {P : Frame → Copy → Prop} :
    s.updateXoff.carriesTo e P ↔ s.carriesTo e P := by
  have hframes : s.updateXoff.sw.frames = s.sw.frames := congrArg (·.1) s.updateXoff_buffered
  have hcopies : s.updateXoff.sw.copies = s.sw.copies := congrArg (·.2.1) s.updateXoff_buffered
  simp only [State.carriesTo, hframes, hcopies]

theorem State.updateXoff_undef (s : State) : s.updateXoff.undef = s.undef := congrArg (·.2.2) s.updateXoff_buffered

end Sys2Proof.Machine
end

section
/-! PROOFS. A posted write on its way from its ingress to its egress (R22, R93, R100, R101, R140). -/

namespace Sys2Proof.Machine

/-! ### At its entry -/

/-- A sound request within its 4 KiB that enters at a PCIe port whose link is up is presented to the switch core. -/
theorem State.frameIn_of_request {s : State} {n : Nat} {t : Tlp} {whole ue : Bool} (hn : n < 64) (hal : s.alive = true)
    (hup : (s.port n).up = true) (hcross : t.crosses = false) (hpoison : t.poison = false) (hcpl : t.isCpl = false) :
    s.frameIn n t whole ue none = ((s.entry n t whole).2.present (s.entry n t whole).1 ue).updateXoff := by
  have hpcie : isPcie n = true := decide_eq_true hn
  simp only [State.frameIn, State.entry, State.meetEntry, hal, hup, hpcie, hcross, hpoison, hcpl,
    Bool.not_true, Bool.or_false, Bool.false_eq_true, if_false]
  rfl

theorem State.hist_reg (s : State) (source port : Nat) (live : Bool) (v : Nat) {a : Nat} (h : statusReg a = false) :
    (s.hist source port live v).reg a = s.reg a := by
  unfold State.hist
  split
  · rfl
  · exact reg_foldl _ _ _ fun s u => by dsimp only; split <;> simp [h]

theorem State.hist_rest (s : State) (source port : Nat) (live : Bool) (v : Nat) :
    (s.hist source port live v).rest = s.rest := by
  unfold State.hist
  split
  · rfl
  · exact rest_foldl _ _ _ fun s u => by dsimp only; split <;> simp

theorem State.entered_reg (s : State) (f : Frame) {a : Nat} (h : statusReg a = false) :
    (s.entered f).reg a = s.reg a := by
  simp [State.entered, State.hist_reg, h]

theorem State.entered_rest (s : State) (f : Frame) : (s.entered f).rest = s.rest := by
  simp [State.entered, State.hist_rest]

theorem State.entry_reg (s : State) (n : Nat) (t : Tlp) (whole : Bool) {a : Nat} (h : statusReg a = false) :
    (s.entry n t whole).2.reg a = s.reg a := by
  unfold State.entry
  dsimp only
  split <;> simp [State.entered_reg, h] <;> rfl

theorem State.entry_rest (s : State) (n : Nat) (t : Tlp) (whole : Bool) :
    (s.entry n t whole).2.rest = s.rest := by
  unfold State.entry
  dsimp only
  split <;> simp [State.entered_rest] <;> rfl

theorem State.entry_undef (s : State) (n : Nat) (t : Tlp) (whole : Bool) : (s.entry n t whole).2.undef = s.undef := by
  have h : (s.entry n t whole).2.rest.undef = s.rest.undef := congrArg State.undef (s.entry_rest n t whole)
  exact h

theorem State.entry_selfFid (s : State) (n : Nat) (t : Tlp) (whole : Bool) :
    (s.entry n t whole).2.selfFid = s.selfFid := by
  rw [State.selfFid, State.fget, State.entry_reg _ _ _ _ rfl]
  rfl

/-! ### Past the checks -/

/-- A posted request that keeps no turn needs no reservation. -/
theorem State.present_of_posted {s : State} {f : Frame} {ue : Bool} (hp : f.tlp.posted = true)
    (hturn : s.keepsTurn f = false) : s.present f ue = s.arrive f ue := by
  have hnp : f.tlp.nonPosted = false := by simp [Tlp.nonPosted, hp]
  simp [State.present, State.reserveFor, hnp, hturn]

/-- A memory write that nothing at its ingress refuses is looked up, under the rule epoch of this moment. -/
theorem State.arrive_of_memWrite {s : State} {f g : Frame} {ue : Bool}
    (hg : g = { f with ruleEpoch := s.stampEpoch, older := s.sweptNow }) (hk : f.tlp.kind = .memWrite)
    (hmode : s.modeRefuse g = none) (hcarries : s.carries f.ingress = true) (hacs : s.acsCause g = none)
    (hlocked : f.tlp.locked = false) (hbridge : s.bridgeShut g = false) : s.arrive f ue = s.lookUpFrame g := by
  subst hg
  simp [State.arrive, hmode, hcarries, hk, hacs, hlocked, hbridge]

/-- Only a live frame takes a count of live frames (R80). -/
theorem State.stampLive_of_not_live {s : State} {f : Frame} (h : f.live = false) : s.stampLive f = (f, s) := by
  simp [State.stampLive, h]

/-- A request that meets a window is no miss. -/
theorem State.countMiss_of_window (s : State) (f : Frame) (w : Win) : s.countMiss f (some w) = s := by
  unfold State.countMiss
  cases f.part <;> simp

/-- A request whose lookup and checks let it pass, through a window that is not live, is captured and sent on. -/
theorem State.lookUpFrame_of_go {s : State} {f : Frame} {w : Win} {d : Dest}
    (hgo : s.lookup f.part f.ingress f.tlp f.stamp f.era = .go (some w) d) (hw : w.live = false) :
    s.lookUpFrame f =
      (s.capture (s.classify f (some w)) f.tlp false (s.lookEgress (s.classify f (some w)) d) (d == .miss)
        (some w)).dispatch (s.classify f (some w)) (some w) d := by
  have hlive : (s.classify f (some w)).live = false := by simp [State.classify, hw]
  simp only [State.lookUpFrame, hgo, State.stampLive_of_not_live hlive, State.countMiss_of_window]

/-- A posted copy is admitted at once, under the requester ID that its egress partition gives it (R101). -/
theorem State.place_of_posted (s : State) {f : Frame} (c : Copy) (owner record : Option Nat)
    (hp : f.tlp.posted = true) :
    ∃ reqId, s.place f c owner record = (s.takeIn f [{ c with newReqId := reqId }], .ok) := by
  have hnp : f.tlp.nonPosted = false := by simp [Tlp.nonPosted, hp]
  unfold State.place
  cases owner.filter fun o => f.part != some o with
  | none => exact ⟨c.newReqId, by simp [hnp]⟩
  | some o => exact ⟨some (s.mgmtReqId o), by simp [hp]⟩

/-- A memory write for a port of this device that takes it is admitted with one copy, for that port. -/
theorem State.dispatch_port_of_memWrite {s : State} {f : Frame} {w : Win} {p : Nat} (hk : f.tlp.kind = .memWrite)
    (hide : f.tlp.ide = none) (hshut : s.shut p = false) (hsleep : s.asleep f p = false) :
    ∃ c : Copy, s.dispatch f (some w) (.port s.selfFid p) = s.takeIn f [c] ∧ c.frame = f.id ∧ c.egress = p ∧
      c.addr = w.out f.tlp.addr ∧ c.dest = p := by
  have hp : f.tlp.posted = true := by simp [Tlp.posted, hk]
  have hbad : s.fabricBad f (some w) s.selfFid = none := by
    unfold State.fabricBad
    cases f.part <;> simp
  have hatomic : s.atomicBlocked f s.selfFid p = false := by simp [State.atomicBlocked, hk]
  let c : Copy :=
    { frame := f.id, egress := p, queue := queueOf f, addr := w.out f.tlp.addr, ring := w.ring, dstFid := s.selfFid,
      dest := p, ct := s.ctRequested f w.fwd }
  obtain ⟨reqId, hplace⟩ := s.place_of_posted c (s.ownerOf s.selfFid p) f.record hp
  refine ⟨{ c with newReqId := reqId }, ?_, rfl, rfl, rfl, rfl⟩
  simp [State.dispatch, State.unicast, hbad, hatomic, State.sendTo, State.egressTo, hshut, hsleep, hide, hplace, c,
    State.sent]

/-- What the lookup fixes of a frame through a window that is not live. -/
theorem State.classify_of_not_live (s : State) (f : Frame) {w : Win} (hw : w.live = false) :
    s.classify f (some w) =
      { f with window := w.idx, gate := w.gate, bank := w.bankB, lookedUp := true, live := false, prio := 0 } := by
  simp [State.classify, hw]

/-- A memory write that passes its lookup through a window that is not live, for a port of this device that takes it, is
admitted with one copy for that port; whether egresses take frames, and what a command ends in, stay as they were. -/
theorem State.lookUpFrame_forwards {s : State} {f : Frame} {w : Win} {p : Nat}
    (hgo : s.lookup f.part f.ingress f.tlp f.stamp f.era = .go (some w) (.port s.selfFid p)) (hw : w.live = false)
    (hk : f.tlp.kind = .memWrite) (hide : f.tlp.ide = none) (hshut : s.shut p = false) (hsleep : s.asleep f p = false) :
    (s.lookUpFrame f).carriesTo p (fun g c => g.tlp = f.tlp ∧ g.ingress = f.ingress ∧ g.stamp = f.stamp ∧
      g.window = w.idx ∧ c.addr = w.out f.tlp.addr ∧ c.dest = p) ∧ (s.lookUpFrame f).egressView = s.egressView := by
  rw [State.lookUpFrame_of_go hgo hw, s.classify_of_not_live f hw]
  generalize hv : s.capture _ _ _ _ _ _ = v
  have hview : v.egressView = s.egressView := by rw [← hv, State.capture_egressView]
  obtain ⟨c, hdispatch, hframe, rfl, haddr, hdest⟩ := State.dispatch_port_of_memWrite (s := v) (w := w)
    (f := { f with window := w.idx, gate := w.gate, bank := w.bankB, lookedUp := true, live := false, prio := 0 })
    hk hide ((shut_of_egressView hview p).trans hshut) ((asleep_of_egressView hview rfl rfl p).trans hsleep)
  rw [← selfFid_of_egressView hview, hdispatch]
  exact ⟨v.takeIn_carriesTo rfl hframe fun _ _ _ _ => ⟨rfl, rfl, rfl, rfl, haddr, hdest⟩,
    (v.takeIn_egressView c rfl).trans hview⟩

/-- Settles O21: nothing on the way refuses the write, and captures and flow control leave its egress open. -/
theorem postedWriteIsForwarded : Obligations.PostedWriteIsForwarded := by
  intro s n t whole hn hal hundef hup hk hcross hpoison hide hlocked l u hentry g hg hmode hcarries hacs hbridge hturn
    w fid p hgo hfid hw hp hshut hsleep
  have hl : l = (s.linkFrame n t whole).1 := (congrArg Prod.fst hentry).symm
  have hu : u = (s.entry n t whole).2 := (congrArg Prod.snd hentry).symm
  have hposted : l.tlp.posted = true := by rw [hl]; simp [State.linkFrame, State.formFrame, Tlp.posted, hk]
  have hcpl : t.isCpl = false := by simp [Tlp.isCpl, hk]
  obtain ⟨hltlp, hlin⟩ : l.tlp = t ∧ l.ingress = n := by rw [hl]; exact ⟨rfl, rfl⟩
  obtain ⟨htlp, hingress, htime⟩ : g.tlp = t ∧ g.ingress = n ∧ g.stamp = s.time80 := by
    rw [hg, hl]; exact ⟨rfl, rfl, rfl⟩
  obtain ⟨hpart, hstamp, hera⟩ : g.part = l.part ∧ g.stamp = l.stamp ∧ g.era = l.era := by
    rw [hg]; exact ⟨rfl, rfl, rfl⟩
  have hpath : s.frameIn n t whole false none = (u.lookUpFrame g).updateXoff := by
    rw [State.frameIn_of_request hn hal hup hcross hpoison hcpl, hentry, State.present_of_posted hposted hturn,
      State.arrive_of_memWrite hg (by rw [hltlp, hk]) hmode (by rw [hlin, hcarries]) hacs (by rw [hltlp, hlocked])
        hbridge]
  have hgo' : u.lookup g.part g.ingress g.tlp g.stamp g.era = .go (some w) (.port u.selfFid p) := by
    rw [hpart, hingress, htlp, hstamp, hera, hgo, hfid, hu, State.entry_selfFid]
  obtain ⟨hforwards, hview⟩ := State.lookUpFrame_forwards hgo' hw (by rw [htlp, hk]) (by rw [htlp, hide]) hshut
    ((asleep_of_egressView rfl hpart (htlp.trans hltlp.symm) p).trans hsleep)
  simp only [htlp, hingress, htime] at hforwards
  have hend : (u.lookUpFrame g).updateXoff.undef = none := by
    rw [State.updateXoff_undef, undef_of_egressView hview, hu, State.entry_undef, hundef]
  refine ⟨(u.lookUpFrame g).updateXoff, ?_, State.updateXoff_carriesTo.mpr hforwards⟩
  rw [← State.finish_of_undef_none hend, ← hpath]
  change (s.frameIn (n % 88) t whole false none).finish = _
  rw [Nat.mod_eq_of_lt (by omega)]

end Sys2Proof.Machine
end

section
/-! PROOFS. PROXY_TAG_GRANTED where the buffer holds another frame of the granted request's identity (R23, R71, R101,
R227). -/

namespace Sys2Proof.Machine

/-- Where a requester ID has a free tag of the allowed width, one is drawn (R227). -/
theorem State.freeTag_of_free {s : State} {rid : BitVec 16} {e : Nat}
    (h : ∃ g, g ≠ 0 ∧ g < 2 ^ s.tagBits e ∧ g ∉ s.usedTags rid) : ∃ g, s.freeTag rid e = some (g, s.drawNat.2) := by
  obtain ⟨g, hzero, hlt, hfree⟩ := h
  unfold State.freeTag
  extract_lets used free r
  have hmem : g ∈ free := by
    rw [List.mem_filter]
    exact ⟨List.mem_range.mpr hlt, by simp [hzero, used, hfree]⟩
  have hindex : r.1 % free.length < free.length := Nat.mod_lt _ (List.length_pos_of_mem hmem)
  exact ⟨BitVec.ofNat 14 free[r.1 % free.length], by rw [List.getElem?_eq_getElem hindex]; rfl⟩

namespace SharedIdentity

/-- A read that waits for a proxy tag towards Moaben link 0. -/
def waitingRead : Waiting where
  frame := { id := 9, tlp := { kind := .memRead, len := 4 }, ingress := 7 }
  need := .proxyTag
  copies := [{ frame := 9, egress := 64, queue := 1 }]

/-- A live write of one cell. -/
def liveWrite (id prio : Nat) : Frame where
  id := id
  tlp := { kind := .memWrite, len := 4, data := [0, 0, 0, 0] }
  ingress := 7
  live := true
  prio := prio
  pool := .live

/-- A live write of priority 1 that waits for its order behind the read. -/
def waitingWrite : Waiting where
  frame := liveWrite 10 1
  need := .order
  copies := [{ frame := 10, egress := 64, queue := 13 }]

/-- The read and the write wait, and the buffer holds a live write of priority 0 under the identity of the read. The
statement asks for no invariant of a run, where what waits for its order is non-posted and so not live (R23, R57), and
where an identity names one frame. -/
def state : State :=
  { State.reset with sw := { State.reset.sw with frames := [liveWrite 9 0], waiting := [waitingRead, waitingWrite] } }

/-- The tag drawn for the read; which one is not defined (R227). -/
def tag : BitVec 14 := ((state.freeTag 0 64).map (·.1)).getD 0

theorem freeTag_eq : state.freeTag 0 64 = some (tag, state.drawNat.2) := by
  obtain ⟨g, hg⟩ := State.freeTag_of_free (s := state) (rid := 0) (e := 64) ⟨1, by decide +kernel⟩
  rw [tag, hg]
  rfl

/-- The state once the read has been queued under its tag. -/
def queued : State := (state.drawNat.2.unwait waitingRead).tagged waitingRead.frame
  { frame := 9, egress := 64, queue := 1, newTag := some tag }

/-- The grant queues the read and lets the write go on. -/
theorem exec_eq : exec (.proxyTagGranted 64) state = .next (queued.letOn queued.sw.waiting).updateXoff := by
  have hfirst : (state.firstWait fun w => w.need == .proxyTag && w.copies.any fun c => c.egress == 64) =
      some waitingRead := by decide +kernel
  change execProxyTagGranted 64 state = _
  unfold execProxyTagGranted
  rw [hfirst]
  dsimp only [waitingRead, Option.getD]
  rw [freeTag_eq]
  rfl

/-- The write needs a cell of the live pool. The frame evicted for it takes the copies of its identity with it, the
read's among them, and the read goes with its last copy (R52, R71, R73): only the write is left. -/
theorem frames_after : ∀ f ∈ (queued.letOn queued.sw.waiting).sw.frames, f.tlp.kind = .memWrite := by
  decide +kernel

end SharedIdentity

/-- Refutes O20: in `SharedIdentity.state` a proxy tag is granted, and the request is not in the buffer afterwards, for
a live write that waited behind it has evicted a frame of the same identity. -/
theorem not_admission : ¬ Obligations.Admission := by
  intro h
  obtain ⟨-, -, hgrants, -⟩ := h.2 SharedIdentity.state 64
  obtain ⟨hproxy, -⟩ := hgrants (by omega) (by decide +kernel)
  obtain ⟨t, ht, hcarries⟩ := hproxy SharedIdentity.waitingRead (by decide +kernel) (by decide) _ _ rfl rfl rfl rfl
    ⟨1, by decide +kernel⟩
  obtain rfl : (SharedIdentity.queued.letOn SharedIdentity.queued.sw.waiting).updateXoff = t := by
    simpa [SharedIdentity.exec_eq] using ht
  obtain ⟨f, hf, c, -, -, -, htlp, -⟩ := State.updateXoff_carriesTo.mp hcarries
  have hread : f.tlp.kind = .memRead := by rw [htlp]; rfl
  have hwrite : f.tlp.kind = .memWrite := SharedIdentity.frames_after f hf
  rw [hread] at hwrite
  cases hwrite

end Sys2Proof.Machine
end

section
/-! PROOFS. What messages of the management functions and reports of errors do to registers and counters (R40, R217, R301). -/

namespace Sys2Proof.Machine

/-! ### Counters advanced (R40) -/

theorem State.ctr_eq_of_ctrs {s t : State} (h : t.ctrs = s.ctrs) (a : Nat) : t.ctr a = s.ctr a := by
  rw [State.ctr, h, State.ctr]

theorem State.reg_eq_of_regs {s t : State} (h : t.regs = s.regs) (a : Nat) : t.reg a = s.reg a := by
  rw [State.reg, h, State.reg]

theorem State.alive_eq_of_reg {s t : State} (h : t.reg R.DEV_MODE = s.reg R.DEV_MODE) : t.alive = s.alive := by
  have hmode : t.mode = s.mode := by rw [State.mode, State.fget, h]; rfl
  rw [State.alive, State.alive, hmode]

/-- A counter advanced saturates at its end. -/
theorem State.ctr_bumpBy_same {s : State} (hal : s.alive = true) (a n : Nat) :
    (s.bumpBy a n).ctr a = min (s.ctr a + n) counterMax := by
  rw [State.bumpBy, if_pos hal, State.ctr_setCtr, if_pos rfl]

theorem State.ctr_bumpBy_ne (s : State) {a b : Nat} (h : b ≠ a) (n : Nat) : (s.bumpBy a n).ctr b = s.ctr b := by
  unfold State.bumpBy
  split
  · rw [State.ctr_setCtr, if_neg h]
  · rfl

theorem State.ctr_bump_same {s : State} (hal : s.alive = true) (a : Nat) :
    (s.bump a).ctr a = min (s.ctr a + 1) counterMax :=
  State.ctr_bumpBy_same hal a 1

theorem State.ctr_bump_ne (s : State) {a b : Nat} (h : b ≠ a) : (s.bump a).ctr b = s.ctr b :=
  s.ctr_bumpBy_ne h 1

/-! ### Counters at their end -/

/-- Counters at their end in one state are so in the other. -/
def StaysFull (s t : State) : Prop := ∀ a, s.ctr a = counterMax → t.ctr a = counterMax

theorem StaysFull.refl (s : State) : StaysFull s s := fun _ h => h

theorem StaysFull.of_ctrs {s t : State} (h : t.ctrs = s.ctrs) : StaysFull s t :=
  fun a ha => (State.ctr_eq_of_ctrs h a).trans ha

theorem StaysFull.trans {s t u : State} (h : StaysFull s t) (h' : StaysFull t u) : StaysFull s u :=
  fun a ha => h' a (h a ha)

theorem StaysFull.foldl {α : Type} {f : State → α → State} (h : ∀ s x, StaysFull s (f s x)) (l : List α) (s : State) :
    StaysFull s (l.foldl f s) := by
  induction l generalizing s with
  | nil => exact .refl s
  | cons x l ih => exact (h s x).trans (ih (f s x))

theorem StaysFull.ite {c : Prop} [Decidable c] {s t u : State} (ht : StaysFull s t) (hu : StaysFull s u) :
    StaysFull s (if c then t else u) := by
  split <;> assumption

theorem State.bumpBy_staysFull (s : State) (a n : Nat) : StaysFull s (s.bumpBy a n) := by
  intro b hb
  unfold State.bumpBy
  split
  · rw [State.ctr_setCtr]
    split
    · rename_i hba
      rw [← hba, hb]
      exact Nat.min_eq_right (Nat.le_add_right _ _)
    · exact hb
  · exact hb

theorem State.bump_staysFull (s : State) (a : Nat) : StaysFull s (s.bump a) := s.bumpBy_staysFull a 1

/-! ### Posted writes of the device -/

/-- Registers and counters. -/
def State.books (s : State) : Store W32 × Store Nat := (s.regs, s.ctrs)

theorem State.enqueue_books (s : State) (c : Copy) : (s.enqueue c).books = s.books := by
  unfold State.enqueue
  dsimp only [State.fresh]
  split <;> rfl

theorem State.admitOrWait_books (s : State) (f : Frame) (cs : List Copy) : (s.admitOrWait f cs).books = s.books := by
  have hall : ∀ u : State, (cs.foldl State.enqueue u).books = u.books := by
    intro u
    induction cs generalizing u with
    | nil => rfl
    | cons c cs ih => rw [List.foldl_cons, ih, State.enqueue_books]
  unfold State.admitOrWait
  split
  · rw [hall]; rfl
  · rfl

/-- What sending posted writes leaves of registers and counters: it may count one that has no route (R106) or whose port is
down (R223). -/
structure OnlyPosts (s t : State) : Prop where
  regs : t.regs = s.regs
  ctr : ∀ a, a ≠ R.MAP_NOROUTE → a ≠ R.BUF_FLUSH_P → t.ctr a = s.ctr a
  full : StaysFull s t

theorem OnlyPosts.of_books {s t : State} (h : t.books = s.books) : OnlyPosts s t := by
  obtain ⟨hregs, hctrs⟩ := Prod.ext_iff.mp h
  exact ⟨hregs, fun a _ _ => State.ctr_eq_of_ctrs hctrs a, .of_ctrs hctrs⟩

theorem OnlyPosts.refl (s : State) : OnlyPosts s s := .of_books rfl

theorem OnlyPosts.trans {s t u : State} (h : OnlyPosts s t) (h' : OnlyPosts t u) : OnlyPosts s u where
  regs := h'.regs.trans h.regs
  ctr a hn hf := (h'.ctr a hn hf).trans (h.ctr a hn hf)
  full := h.full.trans h'.full

theorem OnlyPosts.bump (s : State) {a : Nat} (h : a = R.MAP_NOROUTE ∨ a = R.BUF_FLUSH_P) : OnlyPosts s (s.bump a) where
  regs := s.bump_regs a
  ctr b hn hf := s.ctr_bump_ne (by rintro rfl; exact h.elim hn hf)
  full := s.bump_staysFull a

theorem State.devicePost_onlyPosts (s : State) (t : Tlp) (pool : Pool) (fid dest : Nat) (why : Purpose) :
    OnlyPosts s (s.devicePost t pool fid dest why) := by
  unfold State.devicePost
  split
  · exact .bump s (.inl rfl)
  · split
    · exact .bump s (.inr rfl)
    · exact .of_books (State.admitOrWait_books _ _ _)

theorem State.postToHost_onlyPosts (s : State) (part : Nat) (addr : W64) (data : List Byte) (pool : Pool)
    (why : Purpose) : OnlyPosts s (s.postToHost part addr data pool why) := by
  unfold State.postToHost
  split
  · exact .refl s
  · exact s.devicePost_onlyPosts _ _ _ _ _

theorem State.mgmtMessage_onlyPosts (s : State) (part vec : Nat) : OnlyPosts s (s.mgmtMessage part vec) := by
  unfold State.mgmtMessage
  dsimp only
  split
  · exact s.postToHost_onlyPosts _ _ _ _ _
  · exact .of_books rfl

theorem State.sendVectors_onlyPosts (s : State) (page : Nat) (before : Nat → Bool) :
    OnlyPosts s (s.sendVectors page before) := by
  unfold State.sendVectors
  dsimp only
  generalize upTo 32 = ps
  generalize s.tget 0x50 1 page 36 32 = vec
  induction ps generalizing s with
  | nil => exact .refl s
  | cons p ps ih =>
    refine OnlyPosts.trans ?_ (ih _)
    dsimp only
    split
    · exact s.mgmtMessage_onlyPosts p _
    · exact .refl s

/-! ### Reports -/

theorem State.evtWins_staysFull (s : State) (page : Nat) : StaysFull s (s.evtWins page) := by
  unfold State.evtWins
  extract_lets e s1 sts
  split
  · exact .of_ctrs rfl
  · refine StaysFull.trans ?_ (State.bumpBy_staysFull _ _ _)
    exact .of_ctrs rfl

theorem State.raiseAll_staysFull (s : State) (page : Nat) (evs : List Nat) : StaysFull s (s.raiseAll page evs) := by
  unfold State.raiseAll
  split
  · exact .refl s
  · extract_lets s0 sts seq ev vec before s1 first low s2
    have hmarked : StaysFull s s2 := (s.evtWins_staysFull page).trans (.ite (.of_ctrs rfl) (.of_ctrs rfl))
    exact .ite (hmarked.trans (s2.sendVectors_onlyPosts page before).full) hmarked

theorem State.raise_staysFull (s : State) (page ev : Nat) : StaysFull s (s.raise page ev) :=
  .ite (s.raiseAll_staysFull page [ev]) (.refl s)

theorem State.setLogSlot_staysFull (s : State) (slot v : Nat) : StaysFull s (s.setLogSlot slot v) := by
  unfold State.setLogSlot
  exact .foldl (fun u q => .of_ctrs (u.setTbl_ctrs _ _ _ _)) _ s

theorem State.logRecord_staysFull (s : State) (v level : Nat) : StaysFull s (s.logRecord v level) := by
  unfold State.logRecord
  extract_lets slot s1 s2 s3 e s4 s5
  have h1 : StaysFull s s1 := s.setLogSlot_staysFull slot v
  have h3 : StaysFull s s3 := by
    refine h1.trans ?_
    simp only [s3]
    split <;> exact .of_ctrs rfl
  have h5 : StaysFull s s5 := by
    refine h3.trans ?_
    simp only [s5]
    split <;> exact .of_ctrs rfl
  exact (h5.trans (s5.bump_staysFull _)).trans (State.raise_staysFull _ _ _)

theorem State.ringOwed_staysFull (s : State) (part : Nat) : StaysFull s (s.ringOwed part) := by
  unfold State.ringOwed
  split
  · exact .refl s
  · exact .of_ctrs rfl

theorem State.deliverRecord_staysFull (s : State) (part : Nat) (bs : List Byte) :
    StaysFull s (s.deliverRecord part bs) := by
  unfold State.deliverRecord
  split
  · exact .refl s
  · split
    · exact .of_ctrs rfl
    · extract_lets prod s1 s2
      have h2 : StaysFull s s2 := .of_ctrs rfl
      exact ((h2.trans (s2.ringOwed_staysFull part)).trans (State.bump_staysFull _ _)).trans (State.raise_staysFull _ _ _)

theorem State.swapRecords_staysFull (s : State) (a b : Nat) : StaysFull s (s.swapRecords a b) := by
  unfold State.swapRecords
  extract_lets x y later first has ring fatal fatal' cause e s1
  have h1 : StaysFull s s1 := .of_ctrs rfl
  have hslots := (h1.trans (s1.setLogSlot_staysFull a first)).trans (State.setLogSlot_staysFull _ b later)
  exact hslots.trans (.of_ctrs (State.fset_ctrs _ _ _))

theorem State.record_staysFull (s : State) (code level : Nat) (part : Option Nat) (port detail : Nat) :
    StaysFull s (s.record code level part port detail) := by
  unfold State.record
  extract_lets seq c recent after slot e1 s1 v e2 s2 s3 s4 c' s5
  have hlogged : StaysFull s s3 := StaysFull.trans (.of_ctrs rfl) (s2.logRecord_staysFull v level)
  have hrings : StaysFull s s4 := by
    refine hlogged.trans ?_
    simp only [s4]
    split
    · exact .foldl (fun u p => u.deliverRecord_staysFull p _) _ s3
    · split
      · exact s3.deliverRecord_staysFull _ _
      · exact .refl s3
  have hmade : StaysFull s s5 := by
    simp only [s5]
    split
    · exact hrings.trans (.foldl (fun u j => u.swapRecords_staysFull _ _) _ s4)
    · refine StaysFull.trans ?_ (State.bump_staysFull _ _)
      exact .of_ctrs rfl
  split
  · exact hmade.trans (s5.raise_staysFull _ _)
  · exact hmade

end Sys2Proof.Machine
end

section
/-! PROOFS. Reads of the register space, and the accesses that only count (R31, R33, R41, R42, R133, R366). -/

namespace Sys2Proof.Machine

/-! ### Pages (R30, R31) -/

/-- A page's addresses differ in their offset only. -/
theorem pageAt_of_same_page {a b : Nat} {p : PageAt} (h : b / 4096 = a / 4096) (hp : pageAt a = some p) :
    pageAt b = some { p with off := b % 4096 } := by
  have hmap : pageAt b = (pageAt a).map fun p => { p with off := b % 4096 } := by
    simp only [pageAt, h, apply_ite (Option.map _), Option.map_some, Option.map_none]
  rw [hmap, hp, Option.map_some]

theorem isSome_pageAt_of_same_page {a b : Nat} (h : b / 4096 = a / 4096) : (pageAt b).isSome = (pageAt a).isSome := by
  cases hp : pageAt a with
  | some p => rw [pageAt_of_same_page h hp]; rfl
  | none =>
    cases hq : pageAt b with
    | none => rfl
    | some q => cases hp.symm.trans (pageAt_of_same_page h.symm hq)

/-- Whether a requester's accesses reach an address depends on its page and on the mode. -/
theorem State.decodes_of_same_page {s t : State} (r : Requester) {a b : Nat} (hmode : t.mode = s.mode)
    (h : b / 4096 = a / 4096) : t.decodes r b = s.decodes r a := by
  simp only [State.decodes, h, hmode, isSome_pageAt_of_same_page h]

theorem State.isSome_pageAt_of_decodes {s : State} {r : Requester} {a : Nat} (h : s.decodes r a = true) :
    (pageAt a).isSome = true := by
  simp only [State.decodes, Bool.and_eq_true] at h
  exact h.1

/-! ### Counters of a page (R35, R40) -/

theorem off_ge_of_isCounter {p : PageAt} (h : isCounter p = true) : 0x800 ≤ p.off := by
  simp only [isCounter, Bool.or_eq_true, Bool.and_eq_true, beq_iff_eq, decide_eq_true_eq] at h
  omega

theorem pageCounterEnd_mod (b : Block) (page : Nat) : pageCounterEnd b page % 8 = 0 := by
  unfold pageCounterEnd
  split <;> rfl

/-- A counter's high word is the counter's too. -/
theorem isCounter_highWord {p : PageAt} (hoff : p.off % 8 = 0) (h : isCounter p = true) :
    isCounter { p with off := p.off + 4 } = true := by
  have hend := pageCounterEnd_mod p.block p.page
  simp only [isCounter, Bool.or_eq_true, Bool.and_eq_true, beq_iff_eq, decide_eq_true_eq] at h ⊢
  omega

/-- The page of an address where there is a counter. -/
theorem exists_pageAt_of_counterAt {a : Nat} (h : counterAt a = true) : ∃ p, pageAt a = some p ∧ isCounter p = true := by
  rwa [counterAt, Option.any_eq_true] at h

/-! ### What a requester receives (R335) -/

/-- An answer is given on the pins, or behind the debug master's earlier reads. -/
theorem State.answerRead_eq (r : Requester) (x : W32 × State) :
    State.answerRead r x = { x.2 with
      answer := (State.answerRead r x).answer
      coreReads := (State.answerRead r x).coreReads
      sw := (State.answerRead r x).sw } := by
  unfold State.answerRead State.debugGives
  split
  · split <;> rfl
  · rfl

section AnswerRead
variable (r : Requester) (x : W32 × State)

@[simp] theorem State.answerRead_regs : (State.answerRead r x).regs = x.2.regs := by rw [State.answerRead_eq]
@[simp] theorem State.answerRead_ctrs : (State.answerRead r x).ctrs = x.2.ctrs := by rw [State.answerRead_eq]
@[simp] theorem State.answerRead_tbls : (State.answerRead r x).tbls = x.2.tbls := by rw [State.answerRead_eq]
@[simp] theorem State.answerRead_latches : (State.answerRead r x).latches = x.2.latches := by rw [State.answerRead_eq]
@[simp] theorem State.answerRead_tb : (State.answerRead r x).tb = x.2.tb := by rw [State.answerRead_eq]
@[simp] theorem State.answerRead_slots : (State.answerRead r x).slots = x.2.slots := by rw [State.answerRead_eq]

end AnswerRead

/-- The word read is received when the read has left the answer and the outstanding reads alone. -/
theorem receives_answerRead {s u : State} (r : Requester) (w : W32) (hreads : u.coreReads = s.coreReads)
    (hanswer : u.answer = s.answer) : Receives s (State.answerRead r (w, u)) r w := by
  unfold Receives State.answerRead
  by_cases h : r = .debug ∧ s.debugReads = true
  · obtain ⟨rfl, hout⟩ := h
    have hout' : (u.coreReads.any fun y => y.why == .debug) = true := by rwa [hreads]
    rw [if_pos ⟨rfl, hout⟩, if_pos (by simp [hout']), State.debugGives, if_pos hout']
    exact ⟨hanswer, u.sw.nextId, by rw [← hreads]; rfl⟩
  · have hout : ¬ ((r == .debug && u.coreReads.any fun y => y.why == .debug) = true) := by
      rw [hreads, Bool.and_eq_true, beq_iff_eq]
      exact h
    rw [if_neg h, if_neg hout]
    exact ⟨rfl, hreads⟩

/-! ### Latches (R41, R133) -/

/-- The latch taken holds the offset and what goes with it. -/
theorem State.latchOf_takeLatch (s : State) (r : Requester) (page off high : Nat) :
    (s.takeLatch r page off high).latchOf r page = { off := off, high := high, valid := true } :=
  storeGet_storePut_same _ _ _ _

theorem State.latchOf_of_latches {s t : State} (h : t.latches = s.latches) (r : Requester) (page : Nat) :
    t.latchOf r page = s.latchOf r page := by
  rw [State.latchOf, h, State.latchOf]

/-! ### Reads (R31, R41, R133, R366) -/

section Reads
variable {s : State} {r : Requester} {a : Nat} {p : PageAt}

/-- A read of a page that is not implemented is counted and returns 0. -/
theorem State.regRead_of_not_decodes (hal : s.alive = true) (hdec : s.decodes r a = false) :
    s.regRead r a = (0, s.bump R.DEV_STRAY_ACCESS) := by
  simp [State.regRead, hal, hdec]

theorem State.regRead_of_isCounter (hal : s.alive = true) (hdec : s.decodes r a = true) (hp : pageAt a = some p)
    (hc : isCounter p = true) : s.regRead r a = s.counterRead r a := by
  have hoff := off_ge_of_isCounter hc
  have h0 : p.off ≠ 0 := by omega
  have h4 : p.off ≠ 4 := by omega
  have h8 : p.off ≠ 8 := by omega
  simp [State.regRead, hal, hdec, hp, hc, h0, h4, h8]

/-- The low word of a counter latches the high one. -/
theorem State.regRead_counterLow (hal : s.alive = true) (hdec : s.decodes r a = true) (hc : counterAt a = true)
    (ha : a % 8 = 0) :
    s.regRead r a = (word (s.ctr a) 0, s.takeLatch r (a / 4096) (a % 4096) (s.ctr a / 2 ^ 32)) := by
  obtain ⟨p, hp, hcp⟩ := exists_pageAt_of_counterAt hc
  have hbase : a / 8 * 8 = a := by omega
  rw [State.regRead_of_isCounter hal hdec hp hcp, State.counterRead, if_pos ha, hbase]

/-- The high word of a counter is the latched one where the latch holds this counter. -/
theorem State.regRead_counterHigh (hal : s.alive = true) (hdec : s.decodes r a = true) (hc : counterAt a = true)
    (ha : a % 8 = 0) :
    s.regRead r (a + 4) = (word (s.latchedOr r (a / 4096) (a % 4096) (s.ctr a / 2 ^ 32)) 0, s) := by
  obtain ⟨p, hp, hcp⟩ := exists_pageAt_of_counterAt hc
  have hoff := pageAt_off hp
  have hpage : (a + 4) / 4096 = a / 4096 := by omega
  have hp4 : pageAt (a + 4) = some { p with off := p.off + 4 } := by
    rw [pageAt_of_same_page hpage hp, hoff]
    congr 2
    omega
  have hdec4 : s.decodes r (a + 4) = true := (State.decodes_of_same_page r rfl hpage).trans hdec
  have hhigh : ¬ (a + 4) % 8 = 0 := by omega
  have hbase : (a + 4) / 8 * 8 = a := by omega
  rw [State.regRead_of_isCounter hal hdec4 hp4 (isCounter_highWord (by omega) hcp), State.counterRead, if_neg hhigh,
    hbase, hpage]

/-- SLU_TB_LO latches the whole time base. -/
theorem State.regRead_tbLo (hal : s.alive = true) (hdec : s.decodes r R.SLU_TB_LO = true) :
    s.regRead r R.SLU_TB_LO = (word s.time80 16, s.takeLatch r 0x150 0x20 s.time80) := by
  have hp : pageAt R.SLU_TB_LO = some ⟨.slu, 0, 0, 0x20⟩ := rfl
  have hc : isCounter ⟨.slu, 0, 0, 0x20⟩ = false := rfl
  simp [State.regRead, hal, hdec, hp, hc, State.timeRead]

theorem pageAt_energyLo : ∀ slot < 24, ∀ ch < 2,
    pageAt (R.SPV_ENERGY_LO slot ch) = some ⟨.spvs, slot, 0, 0x50 + 8 * ch⟩ := by decide

/-- SPV_ENERGY_LO latches the high word of the channel's count of µJ. -/
theorem State.regRead_energyLo {slot ch : Nat} (hal : s.alive = true)
    (hdec : s.decodes r (R.SPV_ENERGY_LO slot ch) = true) (hslot : slot < 24) (hch : ch < 2) {e : Nat}
    (he : e = ((s.slot slot).chan ch).energy / 100 % 2 ^ 64) :
    s.regRead r (R.SPV_ENERGY_LO slot ch) =
      (word e 0, s.takeLatch r (0x28 + slot) (0x50 + 8 * ch) (e / 2 ^ 32)) := by
  have hp := pageAt_energyLo slot hslot ch hch
  have hpage : R.SPV_ENERGY_LO slot ch / 4096 = 0x28 + slot := by unfold R.SPV_ENERGY_LO; omega
  have hc : isCounter ⟨.spvs, slot, 0, 0x50 + 8 * ch⟩ = false := by
    cases hc : isCounter ⟨.spvs, slot, 0, 0x50 + 8 * ch⟩ with
    | false => rfl
    | true =>
      have hoff := off_ge_of_isCounter hc
      dsimp only at hoff
      omega
  have hwide : s.wideAt ⟨.spvs, slot, 0, 0x50 + 8 * ch⟩ = some (0x50 + 8 * ch, e) := by
    have hbase : (0x50 + 8 * ch) / 8 * 8 = 0x50 + 8 * ch := by omega
    have hch' : (0x50 + 8 * ch - 0x50) / 8 = ch := by omega
    have hoff : 0x50 + 8 * ch = 0x50 ∨ 0x50 + 8 * ch = 0x58 := by omega
    simp only [State.wideAt, hbase, hch', if_pos hoff, he]
  have hfirst : 0x50 + 8 * ch ≠ 4 ∧ 0x50 + 8 * ch ≠ 8 := by omega
  simp [State.regRead, hal, hdec, hp, hc, isRxCtl, hwide, hpage, hfirst]

/-! ### Writes to a counter, and accesses that only count (R31, R33, R42) -/

/-- A write to the low word of a counter clears it. -/
theorem State.regWrite_counterLow (v : W32) (hal : s.alive = true) (hdec : s.decodes r a = true) (hp : pageAt a = some p)
    (hbar : s.writeBarred r p = false) (hc : isCounter p = true) (ha : a % 8 = 0) :
    s.regWrite r a v = s.setCtr a 0 := by
  have hoff := off_ge_of_isCounter hc
  have h14 : p.off ≠ 0x14 := by omega
  have h18 : p.off ≠ 0x18 := by omega
  simp [State.regWrite, hal, hdec, hp, hbar, hc, ha, h14, h18]

/-- A write to a page that is not implemented is counted. -/
theorem State.regWrite_of_not_decodes (v : W32) (hal : s.alive = true) (hdec : s.decodes r a = false) :
    s.regWrite r a v = s.bump R.DEV_STRAY_ACCESS := by
  simp [State.regWrite, hal, hdec]

/-- A write of less than a register is counted. -/
theorem State.partialWrite_of_decodes (hdec : s.decodes r a = true) :
    s.partialWrite r a = s.bump R.DEV_PARTIAL_WRITE := by
  rw [State.partialWrite, if_pos hdec]

end Reads

/-- A counter found uncorrectable is reported, and reads as its end (R293). -/
def State.counterUe (s : State) (a : Nat) : State := (s.setCtr a counterMax).record eCOUNTER_UE lvNOTICE none 0x7F a

section CounterUe
variable (s : State) (a : Nat)

theorem State.ctr_counterUe : (s.counterUe a).ctr a = counterMax :=
  State.record_staysFull _ _ _ _ _ _ a (by rw [State.ctr_setCtr, if_pos rfl, Nat.min_self])

theorem State.rest_counterUe : (s.counterUe a).rest = s.rest := by
  rw [State.counterUe, State.record_rest, State.setCtr_rest]

theorem State.coreReads_counterUe : (s.counterUe a).coreReads = s.coreReads := by
  have h : (s.counterUe a).rest.coreReads = s.rest.coreReads := congrArg State.coreReads (s.rest_counterUe a)
  exact h

theorem State.answer_counterUe : (s.counterUe a).answer = s.answer := by
  have h : (s.counterUe a).rest.answer = s.rest.answer := congrArg State.answer (s.rest_counterUe a)
  exact h

theorem State.reg_counterUe {b : Nat} (hb : statusReg b = false) : (s.counterUe a).reg b = s.reg b := by
  rw [State.counterUe, State.record_reg _ _ _ _ _ _ hb, State.setCtr_reg _ _ _ hb]

end CounterUe

/-! ### The commands -/

section Commands
variable {s : State} {r : Requester} {addr a : Nat}

theorem exec_counterLowRead (ha : a = addr % 2 ^ 24 / 8 * 8) (hc : counterAt a = true) :
    exec (.counterLowRead r ⟨addr, false⟩) s = .next (State.answerRead r (s.regRead r a)) := by
  subst ha
  exact congrArg Host.Outcome.next (if_pos hc)

theorem exec_counterLowRead_ue (ha : a = addr % 2 ^ 24 / 8 * 8) (hc : counterAt a = true) (hal : s.alive = true) :
    exec (.counterLowRead r ⟨addr, true⟩) s = .next (State.answerRead r ((s.counterUe a).regRead r a)) := by
  subst ha
  refine congrArg Host.Outcome.next ((if_pos hc).trans ?_)
  simp only [hal, Bool.and_self, if_true]
  rfl

theorem exec_counterHighRead (ha : a = addr % 2 ^ 24 / 8 * 8) (hc : counterAt a = true) :
    exec (.counterHighRead r addr) s = .next (State.answerRead r (s.regRead r (a + 4))) := by
  subst ha
  exact congrArg Host.Outcome.next (if_pos hc)

theorem exec_counterClear (ha : a = addr % 2 ^ 24 / 8 * 8) (hc : counterAt a = true) :
    exec (.counterClear r addr) s = .next (s.regWrite r a 0) := by
  subst ha
  exact congrArg Host.Outcome.next (if_pos hc)

theorem exec_strayAccess_write (hdec : s.decodes r (addr % 2 ^ 24 / 4 * 4) = false) :
    exec (.strayAccess r addr true) s = .next (s.regWrite r (addr % 2 ^ 24 / 4 * 4) 0) := by
  change execStrayAccess r addr true s = _
  simp only [execStrayAccess, hdec, Bool.false_eq_true, if_false, if_true]

theorem exec_strayAccess_read (hdec : s.decodes r (addr % 2 ^ 24 / 4 * 4) = false) :
    exec (.strayAccess r addr false) s =
      .next (State.answerRead r (s.regRead r (addr % 2 ^ 24 / 4 * 4))) := by
  change execStrayAccess r addr false s = _
  simp only [execStrayAccess, hdec, Bool.false_eq_true, if_false]

theorem exec_energyRead {slot ch : Nat} (hslot : slot < 24) (hch : ch < 2) :
    exec (.energyRead r slot ch) s = .next (State.answerRead r (s.regRead r (R.SPV_ENERGY_LO slot ch))) := by
  change execEnergyRead r slot ch s = _
  rw [execEnergyRead, Nat.mod_eq_of_lt hslot, Nat.mod_eq_of_lt hch]

end Commands

/-- COUNTER_LOW_READ of a good counter (R41). -/
theorem counterLowRead_does {s : State} {r : Requester} {addr a : Nat} (ha : a = addr % 2 ^ 24 / 8 * 8)
    (hal : s.alive = true) (hdec : s.decodes r a = true) (hc : counterAt a = true) :
    Does (.counterLowRead r ⟨addr, false⟩) s fun t => Receives s t r (word (s.ctr a) 0) ∧
      t.latchOf r (a / 4096) = { off := a % 4096, high := s.ctr a / 2 ^ 32, valid := true } ∧ t.ctrs = s.ctrs ∧
      t.regs = s.regs ∧ t.vault = s.vault := by
  have hexec := exec_counterLowRead (r := r) (s := s) ha hc
  rw [State.regRead_counterLow hal hdec hc (by omega)] at hexec
  exact ⟨_, hexec, receives_answerRead r _ rfl rfl,
    (State.latchOf_of_latches (State.answerRead_latches r _) r _).trans (State.latchOf_takeLatch _ _ _ _ _),
    State.answerRead_ctrs r _, State.answerRead_regs r _, exec_vault_of_not_writesVault rfl hexec⟩

/-- COUNTER_LOW_READ of a counter found uncorrectable (R293). -/
theorem counterLowRead_ue_does {s : State} {r : Requester} {addr a : Nat} (ha : a = addr % 2 ^ 24 / 8 * 8)
    (hal : s.alive = true) (hdec : s.decodes r a = true) (hc : counterAt a = true) :
    Does (.counterLowRead r ⟨addr, true⟩) s fun t => Receives s t r 0xFFFFFFFF ∧
      t.latchOf r (a / 4096) = { off := a % 4096, high := 0xFFFF, valid := true } ∧ KeepsRegs s t [] ∧
      t.vault = s.vault := by
  have hmodeReg : (s.counterUe a).reg R.DEV_MODE = s.reg R.DEV_MODE := s.reg_counterUe a rfl
  have hal' : (s.counterUe a).alive = true := (State.alive_eq_of_reg hmodeReg).trans hal
  have hmode : (s.counterUe a).mode = s.mode := by rw [State.mode, State.fget, hmodeReg]; rfl
  have hdec' : (s.counterUe a).decodes r a = true := (State.decodes_of_same_page r hmode rfl).trans hdec
  have hexec := exec_counterLowRead_ue (r := r) ha hc hal
  rw [State.regRead_counterLow hal' hdec' hc (by omega), s.ctr_counterUe a] at hexec
  refine ⟨_, hexec, receives_answerRead r _ (s.coreReads_counterUe a) (s.answer_counterUe a),
    (State.latchOf_of_latches (State.answerRead_latches r _) r _).trans (State.latchOf_takeLatch _ _ _ _ _),
    fun b hb _ => ?_, exec_vault_of_not_writesVault rfl hexec⟩
  exact (State.reg_eq_of_regs (State.answerRead_regs r _) b).trans (s.reg_counterUe a hb)

/-- COUNTER_HIGH_READ (R41). -/
theorem counterHighRead_does {s : State} {r : Requester} {addr a : Nat} (ha : a = addr % 2 ^ 24 / 8 * 8)
    (hal : s.alive = true) (hdec : s.decodes r a = true) (hc : counterAt a = true) :
    Does (.counterHighRead r addr) s fun t =>
      Receives s t r (word (if (s.latchOf r (a / 4096)).valid && (s.latchOf r (a / 4096)).off == a % 4096
        then (s.latchOf r (a / 4096)).high else s.ctr a / 2 ^ 32) 0) ∧
      t.latches = s.latches ∧ t.ctrs = s.ctrs ∧ t.regs = s.regs ∧ t.vault = s.vault := by
  have hexec := exec_counterHighRead (r := r) (s := s) ha hc
  rw [State.regRead_counterHigh hal hdec hc (by omega)] at hexec
  exact ⟨_, hexec, receives_answerRead r _ rfl rfl, State.answerRead_latches r _, State.answerRead_ctrs r _,
    State.answerRead_regs r _, exec_vault_of_not_writesVault rfl hexec⟩

/-- COUNTER_CLEAR (R42). -/
theorem counterClear_does {s : State} {r : Requester} {addr a : Nat} (ha : a = addr % 2 ^ 24 / 8 * 8)
    (hal : s.alive = true) (hdec : s.decodes r a = true) (hc : counterAt a = true)
    (hbar : ∀ p, pageAt a = some p → s.writeBarred r p = false) :
    Does (.counterClear r addr) s fun t =>
      t.ctr a = 0 ∧ (∀ b, b ≠ a → t.ctr b = s.ctr b) ∧ t.regs = s.regs ∧ t.tbls = s.tbls ∧ t.vault = s.vault := by
  obtain ⟨p, hp, hcp⟩ := exists_pageAt_of_counterAt hc
  have hexec := exec_counterClear (r := r) (s := s) ha hc
  rw [State.regWrite_counterLow 0 hal hdec hp (hbar p hp) hcp (by omega)] at hexec
  exact ⟨_, hexec, by simp [State.ctr_setCtr], fun b hb => by rw [State.ctr_setCtr, if_neg hb], rfl, rfl, rfl⟩

/-- TB_READ_LATCH (R133). -/
theorem tbReadLatch_does {s : State} {r : Requester} (hal : s.alive = true) (hdec : s.decodes r R.SLU_TB_LO = true) :
    Does (.tbReadLatch r) s fun t => Receives s t r (word s.time80 16) ∧
      t.latchOf r 0x150 = { off := 0x20, high := s.time80, valid := true } ∧ t.regs = s.regs ∧ t.tb = s.tb ∧
      t.vault = s.vault := by
  have hexec : exec (.tbReadLatch r) s = .next (State.answerRead r (s.regRead r R.SLU_TB_LO)) := rfl
  rw [State.regRead_tbLo hal hdec] at hexec
  exact ⟨_, hexec, receives_answerRead r _ rfl rfl,
    (State.latchOf_of_latches (State.answerRead_latches r _) r _).trans (State.latchOf_takeLatch _ _ _ _ _),
    State.answerRead_regs r _, State.answerRead_tb r _, exec_vault_of_not_writesVault rfl hexec⟩

/-- ENERGY_READ (R366). -/
theorem energyRead_does {s : State} {r : Requester} {slot ch : Nat} (hal : s.alive = true) (hslot : slot < 24)
    (hch : ch < 2) (hdec : s.decodes r (R.SPV_ENERGY_LO slot ch) = true) :
    Does (.energyRead r slot ch) s fun t =>
      Receives s t r (word (((s.slot slot).chan ch).energy / 100 % 2 ^ 64) 0) ∧
      t.latchOf r (0x28 + slot) =
        { off := 0x50 + 8 * ch, high := ((s.slot slot).chan ch).energy / 100 % 2 ^ 64 / 2 ^ 32, valid := true } ∧
      t.regs = s.regs ∧ t.slots = s.slots ∧ t.vault = s.vault := by
  have hexec := exec_energyRead (r := r) (s := s) hslot hch
  rw [State.regRead_energyLo hal hdec hslot hch rfl] at hexec
  exact ⟨_, hexec, receives_answerRead r _ rfl rfl,
    (State.latchOf_of_latches (State.answerRead_latches r _) r _).trans (State.latchOf_takeLatch _ _ _ _ _),
    State.answerRead_regs r _, State.answerRead_slots r _, exec_vault_of_not_writesVault rfl hexec⟩

/-- STRAY_ACCESS (R31). -/
theorem strayAccess_does {s : State} {r : Requester} {addr : Nat} (hal : s.alive = true) (w : Bool)
    (hdec : s.decodes r (addr % 2 ^ 24 / 4 * 4) = false) :
    Does (.strayAccess r addr w) s fun t =>
      t.ctr R.DEV_STRAY_ACCESS = min (s.ctr R.DEV_STRAY_ACCESS + 1) counterMax ∧
      (∀ a, a ≠ R.DEV_STRAY_ACCESS → t.ctr a = s.ctr a) ∧ t.regs = s.regs ∧ t.tbls = s.tbls ∧ t.vault = s.vault ∧
      (w = false → Receives s t r 0) := by
  cases w with
  | true =>
    have hexec := exec_strayAccess_write hdec
    rw [State.regWrite_of_not_decodes 0 hal hdec] at hexec
    exact ⟨_, hexec, State.ctr_bump_same hal _, fun a ha => s.ctr_bump_ne ha, s.bump_regs _, s.bump_tbls _,
      s.bump_vault _, nofun⟩
  | false =>
    have hexec := exec_strayAccess_read hdec
    rw [State.regRead_of_not_decodes hal hdec] at hexec
    have hctrs := State.answerRead_ctrs r (0, s.bump R.DEV_STRAY_ACCESS)
    refine ⟨_, hexec, (State.ctr_eq_of_ctrs hctrs _).trans (State.ctr_bump_same hal _),
      fun a ha => (State.ctr_eq_of_ctrs hctrs a).trans (s.ctr_bump_ne ha), by simp, by simp, by simp,
      fun _ => receives_answerRead r 0 (s.bump_coreReads _) (s.bump_answer _)⟩

/-- PARTIAL_WRITE (R33). -/
theorem partialWrite_does {s : State} {r : Requester} {addr : Nat} (hal : s.alive = true)
    (hdec : s.decodes r (addr % 2 ^ 24) = true) :
    Does (.partialWrite r addr) s fun t =>
      t.ctr R.DEV_PARTIAL_WRITE = min (s.ctr R.DEV_PARTIAL_WRITE + 1) counterMax ∧
      (∀ a, a ≠ R.DEV_PARTIAL_WRITE → t.ctr a = s.ctr a) ∧ t.regs = s.regs ∧ t.tbls = s.tbls ∧ t.vault = s.vault := by
  have hexec : exec (.partialWrite r addr) s = .next (s.partialWrite r (addr % 2 ^ 24)) := rfl
  rw [State.partialWrite_of_decodes hdec] at hexec
  exact ⟨_, hexec, State.ctr_bump_same hal _, fun a ha => s.ctr_bump_ne ha, s.bump_regs _, s.bump_tbls _,
    s.bump_vault _⟩

/-- Settles O12: each read is `regRead` of its register, whose latch and word `answerRead` hands to the requester. -/
theorem registerReads : Obligations.RegisterReads := by
  refine ⟨?_, ?_, ?_⟩
  · intro s r addr a ha hal hdec hc
    exact ⟨counterLowRead_does ha hal hdec hc, counterLowRead_ue_does ha hal hdec hc,
      counterHighRead_does ha hal hdec hc, counterClear_does ha hal hdec hc⟩
  · intro s r hal
    exact ⟨tbReadLatch_does hal, fun slot ch hslot hch => energyRead_does hal hslot hch⟩
  · intro s r addr hal
    exact ⟨fun w => strayAccess_does hal w, partialWrite_does hal⟩

end Sys2Proof.Machine
end

section
/-! PROOFS. Page events: what occurrences and clears make of EVT_STS, EVT_FIRST and EVT_CLR_MISS (R36, R37). -/

namespace Sys2Proof.Machine

/-! ### EVT_STS and EVT_FIRST as words (R36) -/

theorem bit_eq_testBit (v n : Nat) : bit v n = v.testBit n := by
  rw [bit, Nat.testBit_eq_decide_div_mod_eq]
  rfl

theorem bits_or (a b hi lo : Nat) : bits (a ||| b) hi lo = bits a hi lo ||| bits b hi lo := by
  apply Nat.eq_of_testBit_eq
  intro i
  simp only [testBit_bits, Nat.testBit_or, Bool.and_or_distrib_left]

/-- Bits 15 to 0 hold the events. -/
theorem bit_eq_testBit_events {e : Nat} (he : e < 16) (v : Nat) : bit v e = (bits v 15 0).testBit e := by
  simp [bit_eq_testBit, testBit_bits, he]

section EvtWord
variable {seq ev : Nat} (hseq : seq < 65536) (hev : ev < 65536)
include hseq hev

theorem toNat_evtWord : (BitVec.ofNat 32 (seq * 65536 + ev)).toNat = seq * 65536 + ev := by
  rw [BitVec.toNat_ofNat]
  exact Nat.mod_eq_of_lt (by omega)

theorem seq_of_evtWord : bits (BitVec.ofNat 32 (seq * 65536 + ev)).toNat 31 16 = seq := by
  rw [toNat_evtWord hseq hev, bits]
  omega

theorem events_of_evtWord : bits (BitVec.ofNat 32 (seq * 65536 + ev)).toNat 15 0 = ev := by
  rw [toNat_evtWord hseq hev, bits]
  omega

end EvtWord

/-- EVT_FIRST holds a valid bit and the event captured beside its SEQ. -/
theorem first_of_word {seq low : Nat} (hseq : seq < 65536) (hlow : low ≤ 15) :
    bit (BitVec.ofNat 32 (seq * 65536 + 0x80 + low)).toNat 7 = true ∧
      bits (BitVec.ofNat 32 (seq * 65536 + 0x80 + low)).toNat 3 0 = low := by
  rw [Nat.add_assoc, toNat_evtWord hseq (by omega)]
  simp only [bit, bits, beq_iff_eq]
  omega

/-- The bits of a list of events, with those set before. -/
theorem testBit_foldl_events (evs : List Nat) (m i : Nat) :
    (evs.foldl (fun m e => m ||| 2 ^ e) m).testBit i = (evs.contains i || m.testBit i) := by
  induction evs generalizing m with
  | nil => simp
  | cons e evs ih =>
    have he : (2 ^ e).testBit i = (i == e) := by
      rw [Nat.testBit_two_pow, Bool.eq_iff_iff, decide_eq_true_iff, beq_iff_eq, eq_comm]
    rw [List.foldl_cons, ih, Nat.testBit_or, he, List.contains_cons]
    ac_rfl

theorem foldl_events_lt {evs : List Nat} (h : ∀ e ∈ evs, e < 16) {m : Nat} (hm : m < 65536) :
    evs.foldl (fun m e => m ||| 2 ^ e) m < 65536 := by
  induction evs generalizing m with
  | nil => exact hm
  | cons e evs ih =>
    obtain ⟨he, hrest⟩ := List.forall_mem_cons.mp h
    have hbit : 2 ^ e < 2 ^ 16 := Nat.pow_lt_pow_right (by omega) he
    exact ih hrest (Nat.or_lt_two_pow (n := 16) hm hbit)

theorem foldl_min_le (l : List Nat) (n : Nat) : l.foldl min n ≤ n := by
  induction l generalizing n with
  | nil => exact le_rfl
  | cons x l ih => exact (ih _).trans (Nat.min_le_left n x)

/-! ### Events that follow clears of their core cycle (R37) -/

section EvtWins
variable (s : State) (page : Nat)

/-- Events cleared in this core cycle, which an event of it brings back. -/
def State.takenBack : Nat := if (s.evtCycle page).clears = 0 then 0 else (s.evtCycle page).cleared

theorem State.evtWins_sts :
    (s.evtWins page).reg (page * 4096 + 0x10) = s.reg (page * 4096 + 0x10) ||| BitVec.ofNat 32 (s.takenBack page) := by
  unfold State.evtWins State.takenBack
  extract_lets e s1 sts
  split
  · simp; rfl
  · rw [State.reg_eq_of_regs (State.bumpBy_regs _ _ _), State.reg_setReg_ne (by omega), State.reg_setReg_same]
    rfl

theorem State.evtWins_first :
    (s.evtWins page).reg (page * 4096 + 0x1C) =
      if (s.evtCycle page).clears = 0 then s.reg (page * 4096 + 0x1C) else (s.evtCycle page).first := by
  unfold State.evtWins
  extract_lets e s1 sts
  split
  · rfl
  · rw [State.reg_eq_of_regs (State.bumpBy_regs _ _ _), State.reg_setReg_same]

theorem State.evtWins_ctr_miss (hal : s.alive = true) (hclears : (s.evtCycle page).clears ≠ 0) :
    (s.evtWins page).ctr (page * 4096 + 0x800) =
      min (s.ctr (page * 4096 + 0x800) + (s.evtCycle page).clears) counterMax := by
  unfold State.evtWins
  extract_lets e s1 sts
  have hmode : ((s1.setReg (page * 4096 + 0x10) (sts ||| BitVec.ofNat 32 e.cleared)).setReg
      (page * 4096 + 0x1C) e.first).reg R.DEV_MODE = s.reg R.DEV_MODE := by
    obtain ⟨hsts, hfirst⟩ := statusReg_ne (a := R.DEV_MODE) rfl page
    rw [State.reg_setReg_ne hfirst, State.reg_setReg_ne hsts]
    rfl
  rw [if_neg hclears, State.ctr_bumpBy_same ((State.alive_eq_of_reg hmode).trans hal)]
  rfl

theorem State.evtWins_firstAt : (s.evtWins page).firstAt = s.firstAt := by
  unfold State.evtWins
  extract_lets e s1 sts
  split
  · rfl
  · exact State.bumpBy_firstAt _ _ _

theorem State.evtWins_now : (s.evtWins page).now = s.now := by
  unfold State.evtWins
  extract_lets e s1 sts
  split
  · rfl
  · exact State.bumpBy_now _ _ _

end EvtWins

/-! ### Occurrences of events (R36) -/

/-- A page's EVT_STS and EVT_FIRST after occurrences of events, before any message goes out for them. -/
def State.marked (s : State) (page : Nat) (evs : List Nat) : State :=
  let s := s.evtWins page
  let sts := (s.reg (page * 4096 + 0x10)).toNat
  let seq := (bits sts 31 16 + evs.length) % 65536
  let ev := evs.foldl (fun m e => m ||| 2 ^ e) (bits sts 15 0)
  let first := bits sts 15 0 == 0
  let low := if first then 15 else bits (s.reg (page * 4096 + 0x1C)).toNat 3 0
  let t := s.setReg (page * 4096 + 0x10) (BitVec.ofNat 32 (seq * 65536 + ev))
  if first || storeGet 0 s.firstAt page == s.now + 1 then
    ({ t with firstAt := storePut 0 page (s.now + 1) t.firstAt } : State).setReg (page * 4096 + 0x1C)
      (BitVec.ofNat 32 (seq * 65536 + 0x80 + evs.foldl min low))
  else t

/-- Beyond that, occurrences only send messages (R38). -/
theorem State.raiseAll_onlyPosts (s : State) (page : Nat) {evs : List Nat} (h : evs ≠ []) :
    OnlyPosts (s.marked page evs) (s.raiseAll page evs) := by
  unfold State.raiseAll
  rw [if_neg (by simpa using h)]
  extract_lets s0 sts seq ev vec before s1 first low s2
  split
  · exact s2.sendVectors_onlyPosts page before
  · exact .refl s2

section Marked
variable (s : State) (page : Nat) {evs : List Nat}

/-- Sequence number and events before the occurrences, those taken back among the events. -/
theorem State.evtWins_seq_events (hcleared : s.takenBack page < 65536) :
    bits ((s.evtWins page).reg (page * 4096 + 0x10)).toNat 31 16 = bits (s.reg (page * 4096 + 0x10)).toNat 31 16 ∧
      bits ((s.evtWins page).reg (page * 4096 + 0x10)).toNat 15 0 =
        bits (s.reg (page * 4096 + 0x10)).toNat 15 0 ||| s.takenBack page := by
  have hword : (BitVec.ofNat 32 (s.takenBack page)).toNat = s.takenBack page := by
    rw [BitVec.toNat_ofNat]
    exact Nat.mod_eq_of_lt (by omega)
  have hhigh : bits (s.takenBack page) 31 16 = 0 := by rw [bits]; omega
  have hlow : bits (s.takenBack page) 15 0 = s.takenBack page := by rw [bits]; omega
  rw [State.evtWins_sts, BitVec.toNat_or, hword, bits_or, bits_or, hhigh, hlow, Nat.or_zero]
  exact ⟨rfl, rfl⟩

/-- EVT_STS after the occurrences. -/
theorem State.marked_sts (hcleared : s.takenBack page < 65536) :
    (s.marked page evs).reg (page * 4096 + 0x10) =
      BitVec.ofNat 32 ((bits (s.reg (page * 4096 + 0x10)).toNat 31 16 + evs.length) % 65536 * 65536 +
        evs.foldl (fun m e => m ||| 2 ^ e) (bits (s.reg (page * 4096 + 0x10)).toNat 15 0 ||| s.takenBack page)) := by
  obtain ⟨hseq, hevents⟩ := s.evtWins_seq_events page hcleared
  unfold State.marked
  extract_lets s0 sts seq ev first low t
  have ht : t.reg (page * 4096 + 0x10) = BitVec.ofNat 32 (seq * 65536 + ev) := State.reg_setReg_same _ _ _
  rw [← hseq, ← hevents]
  split
  · rw [State.reg_setReg_ne (by omega)]
    exact ht
  · exact ht

/-- EVT_FIRST captures the lowest-numbered event as EVENTS leaves zero, and those of the same core cycle lower it. -/
theorem State.marked_first_captured (hcleared : s.takenBack page < 65536) {low : Nat}
    (h : (bits (s.reg (page * 4096 + 0x10)).toNat 15 0 ||| s.takenBack page = 0 ∧ low = 15) ∨
      (bits (s.reg (page * 4096 + 0x10)).toNat 15 0 ||| s.takenBack page ≠ 0 ∧ storeGet 0 s.firstAt page = s.now + 1 ∧
        low = bits ((s.evtWins page).reg (page * 4096 + 0x1C)).toNat 3 0)) :
    (s.marked page evs).reg (page * 4096 + 0x1C) =
      BitVec.ofNat 32 ((bits (s.reg (page * 4096 + 0x10)).toNat 31 16 + evs.length) % 65536 * 65536 + 0x80 +
        evs.foldl min low) := by
  obtain ⟨hseq, hevents⟩ := s.evtWins_seq_events page hcleared
  unfold State.marked
  extract_lets s0 sts seq ev first low' t
  have hfirst : first = (bits (s.reg (page * 4096 + 0x10)).toNat 15 0 ||| s.takenBack page == 0) :=
    congrArg (· == 0) hevents
  have hcond : (first || storeGet 0 s0.firstAt page == s0.now + 1) = true := by
    rw [hfirst, s.evtWins_firstAt, s.evtWins_now]
    obtain ⟨h0, -⟩ | ⟨-, hat, -⟩ := h
    · simp [h0]
    · simp [hat]
  have hlow : low' = low := by
    obtain ⟨h0, rfl⟩ | ⟨h0, -, rfl⟩ := h
    · simp [low', hfirst, h0]
    · simp only [low', hfirst]
      rw [if_neg (by simpa using h0)]
  rw [if_pos hcond, State.reg_setReg_same, hlow, ← hseq]

/-- EVT_FIRST holds its capture otherwise. -/
theorem State.marked_first_held (hcleared : s.takenBack page < 65536)
    (hold : bits (s.reg (page * 4096 + 0x10)).toNat 15 0 ||| s.takenBack page ≠ 0)
    (hat : storeGet 0 s.firstAt page ≠ s.now + 1) :
    (s.marked page evs).reg (page * 4096 + 0x1C) = (s.evtWins page).reg (page * 4096 + 0x1C) := by
  obtain ⟨-, hevents⟩ := s.evtWins_seq_events page hcleared
  unfold State.marked
  extract_lets s0 sts seq ev first low t
  have hfirst : first = (bits (s.reg (page * 4096 + 0x10)).toNat 15 0 ||| s.takenBack page == 0) :=
    congrArg (· == 0) hevents
  have hcond : (first || storeGet 0 s0.firstAt page == s0.now + 1) = false := by
    rw [hfirst, s.evtWins_firstAt, s.evtWins_now]
    simp [hold, hat]
  rw [hcond, if_neg Bool.false_ne_true]
  exact State.reg_setReg_ne (by omega)

theorem State.marked_ctrs : (s.marked page evs).ctrs = (s.evtWins page).ctrs := by
  unfold State.marked
  extract_lets s0 sts seq ev first low t
  split <;> rfl

end Marked

/-! ### Clears (R37) -/

/-- The events that a clear leaves. -/
theorem testBit_sub_and {v mask i : Nat} (hv : v < 65536) (hmask : mask < 65536) (hi : i < 16) :
    (v - (v &&& mask)).testBit i = (v.testBit i && !mask.testBit i) := by
  let x := BitVec.ofNat 16 v
  let m := BitVec.ofNat 16 mask
  have hx : x.toNat = v := Nat.mod_eq_of_lt hv
  have hm : m.toNat = mask := Nat.mod_eq_of_lt hmask
  have hdisjoint : (x &&& m) &&& (x &&& ~~~m) = 0#16 := by
    ext j hj
    cases hmj : m[j] <;> simp [hmj]
  have hunion : (x &&& m) ||| (x &&& ~~~m) = x := by
    ext j hj
    cases hmj : m[j] <;> simp [hmj]
  have hsum : v = (v &&& mask) + (x &&& ~~~m).toNat := by
    have h := BitVec.toNat_add_of_and_eq_zero hdisjoint
    rw [BitVec.add_eq_or_of_and_eq_zero _ _ hdisjoint, hunion, BitVec.toNat_and, hx, hm] at h
    exact h
  have hleft : v - (v &&& mask) = (x &&& ~~~m).toNat := by omega
  rw [hleft, ← hx, ← hm, BitVec.testBit_toNat, BitVec.testBit_toNat, BitVec.testBit_toNat, BitVec.getLsbD_and,
    BitVec.getLsbD_not, decide_eq_true hi, Bool.true_and]

section EvtClear
variable {s : State} {page mask seq : Nat}

/-- The events of a page that a clear leaves. -/
def State.leftEvents (s : State) (page mask : Nat) : Nat :=
  bits (s.reg (page * 4096 + 0x10)).toNat 15 0 - (bits (s.reg (page * 4096 + 0x10)).toNat 15 0 &&& mask)

section Current
variable (hseq : seq = bits (s.reg (page * 4096 + 0x10)).toNat 31 16) (hraised : (s.evtCycle page).raised = false)
include hseq hraised

/-- A clear with the current sequence number, in a core cycle without an event of the page. -/
theorem State.evtClear_sts :
    (s.evtClear page mask seq).reg (page * 4096 + 0x10) =
      BitVec.ofNat 32 (seq * 65536 + s.leftEvents page mask) := by
  subst hseq
  unfold State.evtClear
  rw [if_pos ⟨rfl, hraised⟩]
  extract_lets left e s1 s2
  have h2 : s2.reg (page * 4096 + 0x10) = BitVec.ofNat 32 (bits (s.reg (page * 4096 + 0x10)).toNat 31 16 * 65536 + left) :=
    State.reg_setReg_same _ _ _
  split
  · rw [State.reg_setReg_ne (by omega), h2]; rfl
  · rw [h2]; rfl

theorem State.evtClear_first (hleft : s.leftEvents page mask = 0) :
    (s.evtClear page mask seq).reg (page * 4096 + 0x1C) = 0 := by
  subst hseq
  unfold State.evtClear
  rw [if_pos ⟨rfl, hraised⟩]
  extract_lets left e s1 s2
  have hnone : left = 0 := hleft
  rw [if_pos hnone, State.reg_setReg_same]

theorem State.evtClear_reg_ne {a : Nat} (hsts : a ≠ page * 4096 + 0x10) (hfirst : a ≠ page * 4096 + 0x1C) :
    (s.evtClear page mask seq).reg a = s.reg a := by
  subst hseq
  unfold State.evtClear
  rw [if_pos ⟨rfl, hraised⟩]
  extract_lets left e s1 s2
  have h2 : s2.reg a = s.reg a := State.reg_setReg_ne hsts
  split
  · rw [State.reg_setReg_ne hfirst, h2]
  · exact h2

theorem State.evtClear_ctrs_tbls : (s.evtClear page mask seq).ctrs = s.ctrs ∧ (s.evtClear page mask seq).tbls = s.tbls := by
  subst hseq
  unfold State.evtClear
  rw [if_pos ⟨rfl, hraised⟩]
  extract_lets left e s1 s2
  split <;> exact ⟨rfl, rfl⟩

end Current

/-- Any other clear is counted. -/
theorem State.evtClear_of_miss
    (h : seq ≠ bits (s.reg (page * 4096 + 0x10)).toNat 31 16 ∨ (s.evtCycle page).raised = true) :
    s.evtClear page mask seq = s.bump (page * 4096 + 0x800) := by
  unfold State.evtClear
  exact if_neg (by rintro ⟨hseq, hraised⟩; simp [hseq, hraised] at h)

end EvtClear

/-- EVT_CLR is a write to the page's EVT_CLR (R37). -/
theorem exec_evtClr {s : State} {r : Requester} {page mask seq : Nat} {p : PageAt} (hal : s.alive = true)
    (hpage : page < 4096) (hmask : mask < 65536) (hseq : seq < 65536) (hdec : s.decodes r (page * 4096 + 0x14) = true)
    (hp : pageAt (page * 4096 + 0x14) = some p) (hbar : s.writeBarred r p = false) :
    exec (.evtClr r page mask seq) s = .next (s.evtClear page mask seq) := by
  have hoff : p.off = 0x14 := by rw [pageAt_off hp]; omega
  have hword : (BitVec.ofNat 32 (mask + seq * 65536)).toNat = mask + seq * 65536 := by
    rw [BitVec.toNat_ofNat]
    exact Nat.mod_eq_of_lt (by omega)
  have hno : (page * 4096 + 0x14) / 4096 = page := by omega
  have hwrite : s.regWrite r (page * 4096 + 0x14) (BitVec.ofNat 32 (mask + seq * 65536)) = s.evtClear page mask seq := by
    have hm : (mask + seq * 65536) % 65536 = mask := by omega
    have hs : (mask + seq * 65536) / 65536 = seq := by omega
    simp [State.regWrite, hal, hdec, hp, hbar, hoff, hword, hno, hm, hs]
  change execEvtClr r page mask seq s = _
  rw [execEvtClr, Nat.mod_eq_of_lt hpage, Nat.mod_eq_of_lt hmask, Nat.mod_eq_of_lt hseq, hwrite]

/-! ### The obligation -/

/-- Occurrences of events (R36). -/
theorem raiseAll_events {s : State} {page : Nat} {evs : List Nat} (hevs : evs ≠ []) (hrange : ∀ e ∈ evs, e < 16)
    (hcleared : (s.evtCycle page).cleared < 65536) {old : Nat}
    (hold : old = bits (s.reg (page * 4096 + 0x10)).toNat 15 0 ||| s.takenBack page) :
    bits ((s.raiseAll page evs).reg (page * 4096 + 0x10)).toNat 31 16 =
        (bits (s.reg (page * 4096 + 0x10)).toNat 31 16 + evs.length) % 65536 ∧
      ∀ e, e < 16 → bit ((s.raiseAll page evs).reg (page * 4096 + 0x10)).toNat e = (evs.contains e || bit old e) := by
  have hback : s.takenBack page < 65536 := by unfold State.takenBack; split <;> omega
  have hlt : old < 65536 := by
    rw [hold]
    exact Nat.or_lt_two_pow (n := 16) (Nat.mod_lt _ (by omega)) hback
  have hseq : (bits (s.reg (page * 4096 + 0x10)).toNat 31 16 + evs.length) % 65536 < 65536 := Nat.mod_lt _ (by omega)
  have hnew := foldl_events_lt hrange hlt
  rw [State.reg_eq_of_regs (s.raiseAll_onlyPosts page hevs).regs, s.marked_sts page hback, ← hold]
  refine ⟨seq_of_evtWord hseq hnew, fun e he => ?_⟩
  rw [bit_eq_testBit_events he, events_of_evtWord hseq hnew, testBit_foldl_events, bit_eq_testBit]

/-- What EVT_FIRST captures (R36; log entry 12). -/
theorem raiseAll_first {s : State} {page : Nat} {evs : List Nat} (hevs : evs ≠ [])
    (hcleared : (s.evtCycle page).cleared < 65536) {old : Nat}
    (hold : old = bits (s.reg (page * 4096 + 0x10)).toNat 15 0 ||| s.takenBack page) {first : W32}
    (hfirst : first = if (s.evtCycle page).clears = 0 then s.reg (page * 4096 + 0x1C) else (s.evtCycle page).first) :
    (old = 0 → bit ((s.raiseAll page evs).reg (page * 4096 + 0x1C)).toNat 7 = true ∧
        bits ((s.raiseAll page evs).reg (page * 4096 + 0x1C)).toNat 3 0 = evs.foldl min 15) ∧
      (old ≠ 0 → storeGet 0 s.firstAt page ≠ s.now + 1 → (s.raiseAll page evs).reg (page * 4096 + 0x1C) = first) ∧
      (old ≠ 0 → storeGet 0 s.firstAt page = s.now + 1 →
        bits ((s.raiseAll page evs).reg (page * 4096 + 0x1C)).toNat 3 0 = evs.foldl min (bits first.toNat 3 0)) := by
  have hback : s.takenBack page < 65536 := by unfold State.takenBack; split <;> omega
  have hseq : (bits (s.reg (page * 4096 + 0x10)).toNat 31 16 + evs.length) % 65536 < 65536 := Nat.mod_lt _ (by omega)
  rw [State.reg_eq_of_regs (s.raiseAll_onlyPosts page hevs).regs, hold, hfirst, ← s.evtWins_first page]
  refine ⟨fun h0 => ?_, fun h0 hat => s.marked_first_held page hback h0 hat, fun h0 hat => ?_⟩
  · rw [s.marked_first_captured page hback (.inl ⟨h0, rfl⟩)]
    exact first_of_word hseq (foldl_min_le evs 15)
  · rw [s.marked_first_captured page hback (.inr ⟨h0, hat, rfl⟩)]
    have hlow : bits ((s.evtWins page).reg (page * 4096 + 0x1C)).toNat 3 0 ≤ 15 := Nat.le_of_lt_succ (Nat.mod_lt _ (by omega))
    exact (first_of_word hseq ((foldl_min_le evs _).trans hlow)).2

/-- Clears that events of their core cycle take back are counted (R37). -/
theorem raiseAll_ctr_miss {s : State} {page : Nat} {evs : List Nat} (hevs : evs ≠ []) (hal : s.alive = true)
    (hclears : (s.evtCycle page).clears ≠ 0) :
    (s.raiseAll page evs).ctr (page * 4096 + 0x800) =
      min (s.ctr (page * 4096 + 0x800) + (s.evtCycle page).clears) counterMax := by
  have hnoroute : page * 4096 + 0x800 ≠ R.MAP_NOROUTE := by unfold R.MAP_NOROUTE; omega
  have hflush : page * 4096 + 0x800 ≠ R.BUF_FLUSH_P := by unfold R.BUF_FLUSH_P; omega
  rw [(s.raiseAll_onlyPosts page hevs).ctr _ hnoroute hflush, State.ctr_eq_of_ctrs (s.marked_ctrs page),
    s.evtWins_ctr_miss page hal hclears]

/-- EVT_CLR with the current sequence number, in a core cycle without an event of the page (R37). -/
theorem evtClr_does_clear {s : State} {r : Requester} {page mask seq : Nat} (hmask : mask < 65536) (hseq : seq < 65536)
    (hexec : exec (.evtClr r page mask seq) s = .next (s.evtClear page mask seq))
    (hcurrent : seq = bits (s.reg (page * 4096 + 0x10)).toNat 31 16) (hraised : (s.evtCycle page).raised = false) :
    Does (.evtClr r page mask seq) s fun t =>
      bits (t.reg (page * 4096 + 0x10)).toNat 31 16 = seq ∧
      (∀ e, e < 16 → bit (t.reg (page * 4096 + 0x10)).toNat e =
        (bit (s.reg (page * 4096 + 0x10)).toNat e && !bit mask e)) ∧
      (bits (t.reg (page * 4096 + 0x10)).toNat 15 0 = 0 → t.reg (page * 4096 + 0x1C) = 0) ∧
      (∀ a, a ≠ page * 4096 + 0x10 → a ≠ page * 4096 + 0x1C → t.reg a = s.reg a) ∧ t.ctrs = s.ctrs ∧ t.tbls = s.tbls ∧
      t.vault = s.vault := by
  have hevents : bits (s.reg (page * 4096 + 0x10)).toNat 15 0 < 65536 := Nat.mod_lt _ (by omega)
  have hleft : s.leftEvents page mask < 65536 := (Nat.sub_le _ _).trans_lt hevents
  have hsts := State.evtClear_sts (mask := mask) hcurrent hraised
  obtain ⟨hctrs, htbls⟩ := State.evtClear_ctrs_tbls (mask := mask) hcurrent hraised
  refine ⟨_, hexec, ?_, fun e he => ?_, fun h0 => ?_, fun a => State.evtClear_reg_ne hcurrent hraised, hctrs, htbls,
    s.evtClear_vault page mask seq⟩
  · rw [hsts, seq_of_evtWord hseq hleft]
  · rw [hsts, bit_eq_testBit_events he, events_of_evtWord hseq hleft, State.leftEvents,
      testBit_sub_and hevents hmask he, bit_eq_testBit_events he, bit_eq_testBit]
  · rw [hsts, events_of_evtWord hseq hleft] at h0
    exact State.evtClear_first hcurrent hraised h0

/-- EVT_CLR otherwise (R37). -/
theorem evtClr_does_miss {s : State} {r : Requester} {page mask seq : Nat} (hal : s.alive = true)
    (hexec : exec (.evtClr r page mask seq) s = .next (s.evtClear page mask seq))
    (h : seq ≠ bits (s.reg (page * 4096 + 0x10)).toNat 31 16 ∨ (s.evtCycle page).raised = true) :
    Does (.evtClr r page mask seq) s fun t =>
      t.ctr (page * 4096 + 0x800) = min (s.ctr (page * 4096 + 0x800) + 1) counterMax ∧
      (∀ a, a ≠ page * 4096 + 0x800 → t.ctr a = s.ctr a) ∧ t.regs = s.regs ∧ t.tbls = s.tbls ∧ t.vault = s.vault := by
  rw [State.evtClear_of_miss h] at hexec
  exact ⟨_, hexec, State.ctr_bump_same hal _, fun a ha => s.ctr_bump_ne ha, s.bump_regs _, s.bump_tbls _, s.bump_vault _⟩

/-- Settles O13: occurrences mark the page and then send messages, which leave its registers alone; a clear with the current
sequence number takes its events away, and any other is counted. -/
theorem pageEvents : Obligations.PageEvents := by
  constructor
  · rintro s page evs hevs hrange _ rfl hcleared _ rfl _ rfl first hfirst old hold
    obtain ⟨hseq, hbits⟩ := raiseAll_events hevs hrange hcleared hold
    obtain ⟨hcaptured, hheld, hlowered⟩ := raiseAll_first hevs hcleared hold hfirst
    exact ⟨hseq, hbits, hcaptured, hheld, hlowered, raiseAll_ctr_miss hevs⟩
  · intro s r page mask seq hal hpage hmask hseq hdec p hp hbar
    have hexec := exec_evtClr hal hpage hmask hseq hdec hp hbar
    exact ⟨evtClr_does_clear hmask hseq hexec, evtClr_does_miss hal hexec⟩

end Sys2Proof.Machine
end

section
/-! PROOFS. TBL_OP_DONE of a READ whose entry the error handling has listed twice (R43, R293, R294). -/

namespace Sys2Proof.Machine

namespace DoublyListedEntry

/-- A READ of entry 0 of routing table 0, asked for by the management complex. -/
def read : TblRun := { op := 1, index := 0, data := 0, owner := 32 }

/-- The entry stands twice among the bad ones: with its copy 0 alone, and with both copies. The statement asks for no
invariant of a run, where `noteBad` keeps one listing of each entry. -/
def state : State :=
  { State.reset with
    tblRuns := [(0x120, some read)]
    err := { State.reset.err with
      bad := [{ table := 0, index := 0, copy0 := true, copy1 := false },
              { table := 0, index := 0, copy0 := true, copy1 := true }] } }

/-- The second listing makes the entry a faulted one. -/
theorem faulted_before : state.faulted 0 0 = true := by decide

/-- A READ that finds copy 0 bad goes by the first listing, and both listings go as that copy is mended. -/
theorem faulted_after : (state.tblDone 0x120 true false).faulted 0 0 = false := by decide +kernel

/-- The READ changes no reserved field. -/
theorem undef_after : (state.tblDone 0x120 true false).undef = none := by decide +kernel

end DoublyListedEntry

/-- Refutes O14: in `DoublyListedEntry.state` a READ of a faulted entry finds copy 0 bad, and the entry is no longer
faulted afterwards. -/
theorem not_tableOperations : ¬ Obligations.TableOperations := by
  intro h
  obtain ⟨-, hdone⟩ := h
  obtain ⟨-, hport⟩ := hdone DoublyListedEntry.state 0x120 true false (by omega) rfl
  obtain ⟨-, hentry⟩ := hport ⟨.map, 0, 0, 0⟩ rfl DoublyListedEntry.read rfl _ rfl _ rfl
  obtain ⟨-, -, -, -, -, hbad⟩ := hentry 65536 32 rfl (by decide) _ rfl _ rfl _ rfl _ rfl _ rfl _ rfl
  obtain ⟨t, ht, -, -, -, hfaulted, -⟩ := hbad (.inl rfl) DoublyListedEntry.faulted_before
  obtain ⟨-, hstays⟩ := hfaulted 0 rfl rfl
  have hexec : exec (.tblOpDone 0x120 true false) DoublyListedEntry.state = .next _ :=
    State.finish_of_undef_none DoublyListedEntry.undef_after
  cases hexec.symm.trans ht
  cases hstays.symm.trans DoublyListedEntry.faulted_after

end Sys2Proof.Machine
end

section
/-! PROOFS. Every command completes, or ends in the fault of R46. -/

namespace Sys2Proof.Machine

/-! ### Ways to end -/

/-- An answer that is a next state. -/
def Completes (o : Out) : Prop := ∃ t, o = .next t

/-- An answer that is a next state or the fault of a changed reserved field (R46). -/
def CompletesOrFaults (o : Out) : Prop := Completes o ∨ ∃ a, o = .fault (.reservedFieldChanged a)

theorem Completes.next (t : State) : Completes (.next t) := ⟨t, rfl⟩

theorem Completes.ite {c : Prop} [Decidable c] {o o' : Out} (h : Completes o) (h' : Completes o') :
    Completes (if c then o else o') := by
  split <;> assumption

theorem CompletesOrFaults.next (t : State) : CompletesOrFaults (.next t) := .inl (.next t)

/-- A command that may write registers ends as `undef` says. -/
theorem State.finish_completesOrFaults (s : State) : CompletesOrFaults s.finish := by
  cases h : s.undef with
  | none => exact .inl ⟨s, State.finish_of_undef_none h⟩
  | some a => exact .inr ⟨a, State.finish_of_undef_some h⟩

/-! ### Every command -/

/-- A command that cannot carry a register write answers a next state: at once, or in every branch of its meaning. -/
theorem exec_completes {c : Instr} {s : State} (hc : writesReserved c = false) : Completes (exec c s) := by
  cases c with
  | registerWrite | tblOpDone | frameArrival | reservationGranted | moabenPacketReceive | mgmtPacketReceive |
  coreLoad | coreStore | coreFence | coreLr | coreSc | coreAmo | debugAccess => cases hc
  | weirGovTick | flushDone | portLinkUp | bankCeLimit | sweepNpTimeout | sweepDone | frameSyncMissing |
  frameSyncLost | commitFire | slotFired | engineStopped | createDone | destroyDone | restoreXferTimeout |
  saveXferTimeout | instanceIdle | instanceResetDone | pcieRetrain | forwardedClockDetect | laneLock | echoReceive |
  trainTimeout | xoffResend | changeReceive | readyReceive | laneGovTick | tsyncRequestSend | authAcceptReceive |
  prbsLockLost | eqRedoTimeout | isolateEntered | attestPeerRequest | sampleGovTick | wdogWarn | wdogExpire |
  updateLate | localAccess | lbBusRequest | sidebandPoll | interruptPoll | identityDerived | resetRelease |
  otpLoaded | earlySelftestDone | bgSelftestDone | safeUartLine | statPatternToggle | safeSpiRelease |
  mainPowerLoss | standbyWake | subsysResetDone | supplyOvervoltage | thermalGovTick | recordRingWriteback |
  drainComplete | drainTimeout | trefLost | trefRestored | criticalTemperature | smbusStatusRead =>
    exact .ite (.next _) (.next _)
  | strayAccess | ledgerWriteback | ptmRequest | freezeDone | authOfferReceive | isolateExitDone | pairSelftestDone |
  phyCalibrationDone =>
    exact .ite (.next _) (.ite (.next _) (.next _))
  | authProofReceive | signDone =>
    exact .ite (.next _) (.ite (.next _) (.ite (.next _) (.next _)))
  | proxyTagGranted => show Completes (execProxyTagGranted _ _); fun_cases execProxyTagGranted <;> exact .next _
  | originatedTagGranted => show Completes (execOriginatedTagGranted _ _); fun_cases execOriginatedTagGranted <;> exact .next _
  | poolSpaceGranted => show Completes (execPoolSpaceGranted _); fun_cases execPoolSpaceGranted <;> exact .next _
  | copyStart => show Completes (execCopyStart _ _ _ _ _ _); fun_cases execCopyStart <;> exact .next _
  | copyDepart => show Completes (execCopyDepart _ _ _); fun_cases execCopyDepart <;> exact .next _
  | lateError => show Completes (execLateError _ _ _ _ _); fun_cases execLateError <;> exact .next _
  | underrun => show Completes (execUnderrun _ _); fun_cases execUnderrun <;> exact .next _
  | underrunResend => show Completes (execUnderrunResend _ _); fun_cases execUnderrunResend <;> exact .next _
  | ageDiscard => show Completes (execAgeDiscard _ _ _); fun_cases execAgeDiscard <;> exact .next _
  | ledgerWrite => show Completes (execLedgerWrite _); fun_cases execLedgerWrite <;> exact .next _
  | flushRemove => show Completes (execFlushRemove _ _); fun_cases execFlushRemove <;> exact .next _
  | tagRecordTimeout => show Completes (execTagRecordTimeout _ _); fun_cases execTagRecordTimeout <;> exact .next _
  | retireDone => show Completes (execRetireDone _); fun_cases execRetireDone <;> exact .next _
  | mirrorSlotWrite => show Completes (execMirrorSlotWrite _ _); fun_cases execMirrorSlotWrite <;> exact .next _
  | mirrorWriteback => show Completes (execMirrorWriteback _ _); fun_cases execMirrorWriteback <;> exact .next _
  | descriptorFetch => show Completes (execDescriptorFetch _ _ _); fun_cases execDescriptorFetch <;> exact .next _
  | contextGrant => show Completes (execContextGrant _ _); fun_cases execContextGrant <;> exact .next _
  | sourceReadIssue => show Completes (execSourceReadIssue _ _); fun_cases execSourceReadIssue <;> exact .next _
  | engineWriteIssue => show Completes (execEngineWriteIssue _ _); fun_cases execEngineWriteIssue <;> exact .next _
  | engineCompletion => show Completes (execEngineCompletion _ _ _); fun_cases execEngineCompletion <;> exact .next _
  | descriptorFinish => show Completes (execDescriptorFinish _ _ _); fun_cases execDescriptorFinish <;> exact .next _
  | timedRelease => show Completes (execTimedRelease _ _ _); fun_cases execTimedRelease <;> exact .next _
  | engCtoExpiry => show Completes (execEngCtoExpiry _ _); fun_cases execEngCtoExpiry <;> exact .next _
  | engCtoRecovExpiry => show Completes (execEngCtoRecovExpiry _ _); fun_cases execEngCtoRecovExpiry <;> exact .next _
  | restoreDone => show Completes (execRestoreDone _ _); fun_cases execRestoreDone <;> exact .next _
  | saveDone => show Completes (execSaveDone _ _); fun_cases execSaveDone <;> exact .next _
  | resetTagTimeout => show Completes (execResetTagTimeout _ _); fun_cases execResetTagTimeout <;> exact .next _
  | helloReceive => show Completes (execHelloReceive _ _ _ _ _ _ _); fun_cases execHelloReceive <;> exact .next _
  | replayTimeout => show Completes (execReplayTimeout _ _); fun_cases execReplayTimeout <;> exact .next _
  | retrainDone => show Completes (execRetrainDone _ _); fun_cases execRetrainDone <;> exact .next _
  | authResumeReceive => show Completes (execAuthResumeReceive _ _ _); fun_cases execAuthResumeReceive <;> exact .next _
  | recordRingWrite => show Completes (execRecordRingWrite _ _); fun_cases execRecordRingWrite <;> exact .next _
  | attestReportDone => show Completes (execAttestReportDone _); fun_cases execAttestReportDone <;> exact .next _
  | bootLoadDone => show Completes (execBootLoadDone _); fun_cases execBootLoadDone <;> exact .next _
  | lbCycleStart => show Completes (execLbCycleStart _); fun_cases execLbCycleStart <;> exact .next _
  | lbCycleEnd => show Completes (execLbCycleEnd _ _); fun_cases execLbCycleEnd <;> exact .next _
  | culTimeoutExpiry => show Completes (execCulTimeoutExpiry _); fun_cases execCulTimeoutExpiry <;> exact .next _
  | culWarmResetDone => show Completes (execCulWarmResetDone _); fun_cases execCulWarmResetDone <;> exact .next _
  | uptripEnd => show Completes (execUptripEnd _); fun_cases execUptripEnd <;> exact .next _
  | histLevelSample => show Completes (execHistLevelSample _ _); fun_cases execHistLevelSample <;> exact .next _
  | samplerCapture => show Completes (execSamplerCapture _ _ _ _); fun_cases execSamplerCapture <;> exact .next _
  | otpProgramDone => show Completes (execOtpProgramDone _ _); fun_cases execOtpProgramDone <;> exact .next _
  | imageVerifyDone => show Completes (execImageVerifyDone _); fun_cases execImageVerifyDone <;> exact .next _
  | debugUnlockDone => show Completes (execDebugUnlockDone _); fun_cases execDebugUnlockDone <;> exact .next _
  | lifecycleAdvanceDone => show Completes (execLifecycleAdvanceDone _); fun_cases execLifecycleAdvanceDone <;> exact .next _
  | coreLoadTimeout => show Completes (execCoreLoadTimeout _); fun_cases execCoreLoadTimeout <;> exact .next _
  | _ => exact .next _

/-- A packet that goes on into the fabric may write registers; a packet that is dropped or not taken writes none. -/
theorem State.receivePacket_completesOrFaults {s : State} {l : Nat} {slots : List LineSlot} {bad : Bool}
    {tlp : Option Tlp} : CompletesOrFaults (s.receivePacket l slots bad tlp) := by
  fun_cases State.receivePacket
  case case4 => exact State.finish_completesOrFaults _
  all_goals exact .next _

/-- A command that may carry a register write ends in a next state or in the fault of R46. -/
theorem exec_completesOrFaults {c : Instr} {s : State} (hc : writesReserved c = true) :
    CompletesOrFaults (exec c s) := by
  cases c with
  | registerWrite | tblOpDone | frameArrival | coreLoad | coreStore | coreFence | coreLr | coreSc | coreAmo =>
    exact State.finish_completesOrFaults _
  | reservationGranted =>
    show CompletesOrFaults (execReservationGranted _ _)
    fun_cases execReservationGranted
    case case5 | case6 => exact State.finish_completesOrFaults _
    all_goals exact .next _
  | moabenPacketReceive =>
    show CompletesOrFaults (execMoabenPacketReceive _ _ _ _ _ _ _ _ _ _ _ _ _ _)
    unfold execMoabenPacketReceive
    exact State.receivePacket_completesOrFaults
  | mgmtPacketReceive =>
    show CompletesOrFaults (execMgmtPacketReceive _ _ _ _ _)
    fun_cases execMgmtPacketReceive
    case case2 => exact State.finish_completesOrFaults _
    all_goals exact .next _
  | debugAccess =>
    show CompletesOrFaults (execDebugAccess _ _ _ _ _)
    fun_cases execDebugAccess
    case case5 => exact State.finish_completesOrFaults _
    all_goals exact .next _
  | _ => cases hc

/-- Settles O7: what a command answers is a next state or the fault of R46, and every next state keeps the queue. -/
theorem everyCommandCompletes : Obligations.EveryCommandCompletes := by
  have hqueue : ∀ {c : Instr} {s : State}, Completes (exec c s) → Does c s fun t => t.pending = s.pending := by
    rintro c s ⟨t, ht⟩
    exact ⟨t, ht, (exec_vaultKept ht).pending⟩
  exact ⟨fun c s hc => hqueue (exec_completes hc), fun c s hc => (exec_completesOrFaults hc).imp_left hqueue⟩

end Sys2Proof.Machine
end

section
/-! PROOFS. LATE_ERROR where the egress enters DPC while a frame is still arriving at it (R62, R64, R218). -/

namespace Sys2Proof.Machine

namespace ContainedLateError

/-- A write that is still arriving at a port. -/
def openWrite (id ingress : Nat) : Frame where
  id := id
  tlp := { kind := .memWrite, len := 4, data := [0, 0, 0, 0] }
  ingress := ingress
  whole := false

/-- The copy in transmission at port 7, which ends a bad copy by entering DPC (R62). -/
def sendingCopy : Copy where
  id := 1
  frame := 1
  egress := 7
  queue := 0
  sending := true
  ct := true
  contain := true

/-- A write from port 5 leaves at port 7, cut through, while one from port 7 to port 5 is still arriving. -/
def state : State :=
  let s := State.reset.fset R.ERR_ESC_PORT_THR 0
  { s with sw := { s.sw with
      frames := [openWrite 1 5, openWrite 2 7]
      copies := [sendingCopy, { id := 2, frame := 2, egress := 5, queue := 0 }]
      ports := [(7, { up := true })] } }

/-- The state after a bad furrow word. -/
def ended : State := state.lateFault (openWrite 1 5) sendingCopy eFURROW_LATE 0 0

theorem exec_eq : exec (.lateError 7 leFURROW 0 0) state = .next ended := rfl

/-- Two late errors are counted: the copy at port 7, and the one of the frame whose tail is lost as DPC takes the link of
port 7 down (R64, R218). -/
theorem ctr_before_after : state.ctr R.SWC_LATE_ERR = 0 ∧ ended.ctr R.SWC_LATE_ERR = 2 := by decide +kernel

end ContainedLateError

open ContainedLateError in
/-- Refutes O19: in `ContainedLateError.state` a late error at a port that enters DPC for it advances SWC_LATE_ERR by
two, for a frame that was arriving at the port is lost with its link. -/
theorem not_transmission : ¬ Obligations.Transmission := by
  intro h
  obtain ⟨-, -, hends⟩ := h
  obtain ⟨hsending, -⟩ := hends state 7 (by omega) rfl
  obtain ⟨-, -, -, hspoilt, -⟩ := hsending sendingCopy rfl (openWrite 1 5) rfl
  obtain ⟨t, ht, hcounted, -⟩ := hspoilt leFURROW (by simp) 0 0 rfl rfl
  obtain rfl : ended = t := Host.Outcome.next.inj (exec_eq.symm.trans ht)
  obtain ⟨hbefore, hafter⟩ := ctr_before_after
  rw [Counted, hbefore, hafter] at hcounted
  exact absurd hcounted (by decide)

end Sys2Proof.Machine
end

section
/-! PROOFS. SECONDARY_BUS_RESET of an upstream port under whose switch a request is in transmission (R83, R216, R217). -/

namespace Sys2Proof.Machine

namespace ResetUnderRequest

/-- Ports 7 and 9 are the upstream and a downstream port of partition 3, and a read from port 7 is in transmission at
port 9. -/
def state : State :=
  let s := (State.reset.fset (R.PEP_PORT_CTL_ROLE 7) 1).fset (R.PEP_PORT_CTL_ROLE 9) 2
  let s := (s.fset (R.PEP_PORT_CTL_PART 7) 3).fset (R.PEP_PORT_CTL_PART 9) 3
  let s := (s.fset (R.PEP_PORT_STS_PRESENT 7) 1).fset (R.PEP_PORT_STS_PRESENT 9) 1
  { s with sw := { s.sw with
      frames := [{ id := 1, tlp := { kind := .memRead, len := 4 }, ingress := 7 }]
      copies := [{ id := 1, frame := 1, egress := 9, queue := 1, sending := true }]
      ports := [(7, { up := true }), (9, { up := true })] } }

theorem exec_eq : exec (.secondaryBusReset 7) state = .next (state.resetSwitch 3) := rfl

/-- The link of port 9 goes down after the bridges have been reset; the read it loses is answered with Unsupported
Request, and the upstream bridge logs that as an advisory error (R83, R217). -/
theorem corSts_after : (state.resetSwitch 3).cfg (Fn.up 3).num cAerCorSts ≠ cfgReset (Fn.up 3).num cAerCorSts := by
  decide +kernel

end ResetUnderRequest

open ResetUnderRequest in
/-- Refutes O26: in `ResetUnderRequest.state` the upstream bridge does not hold the reset value of its Correctable Error
Status after the reset, for a request that the reset removes at a downstream port has been refused. -/
theorem not_switchResets : ¬ Obligations.SwitchResets := by
  intro h
  obtain ⟨-, hup⟩ := h
  obtain ⟨t, ht, hcfg, -⟩ := hup state 7 (by omega) 3 rfl rfl rfl
  obtain ⟨hbridge, -⟩ := hcfg cAerCorSts (by decide)
  obtain rfl : state.resetSwitch 3 = t := Host.Outcome.next.inj (exec_eq.symm.trans ht)
  exact corSts_after hbridge

end Sys2Proof.Machine
end

section
/-! PROOFS. PORT_LINK_DOWN of a Moaben link that is training (R249, R250). -/

namespace Sys2Proof.Machine

namespace TrainingLinkShownUp

/-- Link 0 is in ALIGN while its core port is shown as up. The statement asks for no invariant of a run, where a port is
up with a link in service only (R84, R250). -/
def state : State :=
  let s := State.reset.fset (R.MFL_LINK_STS_STATE 0) lsALIGN
  { s with sw := { s.sw with ports := [(64, { up := true })] } }

/-- A link that is not in service starts its training afresh. -/
theorem exec_eq : exec (.portLinkDown 64) state = .next (state.toDetect 0) := rfl

theorem port_after : ((state.toDetect 0).port 64).up = true := by decide +kernel

end TrainingLinkShownUp

open TrainingLinkShownUp in
/-- Refutes O17: in `TrainingLinkShownUp.state` the port of a link that is not disabled stays up, for a link that is not
in service has no port to take down. -/
theorem not_portsDownAndUp : ¬ Obligations.PortsDownAndUp := by
  intro h
  obtain ⟨-, hmoaben, -⟩ := h
  obtain ⟨-, hdown⟩ := hmoaben state 64 (by omega) (by omega)
  obtain ⟨t, ht, hport, -⟩ := hdown (by decide)
  obtain rfl : state.toDetect 0 = t := Host.Outcome.next.inj (exec_eq.symm.trans ht)
  exact absurd (port_after.symm.trans hport) (by decide)

end Sys2Proof.Machine
end

section
/-! PROOFS. LEDGER_WRITE for a ring whose entry has both copies bad (R81, R180, R293, R308). -/

namespace Sys2Proof.Machine

namespace RingBeyondTheTable

/-- Number of a ring that a ledger record names: the map of table entries has the discarded-read log of engine 0 there. -/
def ring : Nat := tblKey 0x200 0 0 - tblKey 0x112 0 0

/-- A record of a lost write for the ring. -/
def lost : LedgerRec where
  ring := ring
  time := 0
  addr := 0
  len := 4
  reason := lrAGE
  prio := 0
  arrival := false
  mcast := false
  window := 2
  ingress := 7
  fseq := 0
  egress := 5

/-- A record waits for the ring, whose entry has both copies bad, and a ring of engine 0 has read ahead. The time base
stands at 2^32 ns. The statement asks for no invariant of a run, where a ledger ring's number is below 256 (R78). -/
def state : State :=
  let s := State.reset.setMode mFABRIC
  { s with
    tb := { s.tb with time := BitVec.ofNat 80 (2 ^ 32 * 65536) }
    sw := { s.sw with ledgerQ := [lost] }
    err := { s.err with bad := [{ table := 7, index := ring, copy0 := true, copy1 := true }] }
    rings := [(0, { ahead := [{ n := 0, raw := 0, aheadReads := [(0, 2, 4)] }] })] }

/-- The state once the bad entry has been found. -/
def found : State := ({ state with sw := { state.sw with ledgerQ := [] } } : State).tableUe 7 ring none 88

theorem exec_eq : exec .ledgerWrite state = .next found := rfl

theorem prod_before_after : state.tget 0x112 0 ring 191 160 = 0 ∧ found.tget 0x112 0 ring 191 160 = 1 := by
  decide +kernel

end RingBeyondTheTable

open RingBeyondTheTable in
/-- Refutes O16: in `RingBeyondTheTable.state` the bad entry is an error of level DEVICE, the engines stop for ISOLATE,
and the discarded read is logged where the ring's PROD is looked for. -/
theorem not_poolsLedgerAndWeir : ¬ Obligations.PoolsLedgerAndWeir := by
  intro h
  obtain ⟨-, hledger, -⟩ := h
  obtain ⟨-, hwrite, -⟩ := hledger state
  obtain ⟨hbad, -⟩ := hwrite lost [] rfl (by decide +kernel)
  obtain ⟨t, ht, -, hprod, -⟩ := hbad (by decide +kernel)
  obtain rfl : found = t := Host.Outcome.next.inj (exec_eq.symm.trans ht)
  obtain ⟨hbefore, hafter⟩ := prod_before_after
  exact absurd (hafter.symm.trans (hprod.trans hbefore)) (by decide)

end Sys2Proof.Machine
end

section
/-! PROOFS. Banks of the shared buffer: what starts a retirement, what refuses it and how it ends (R87, R88). -/

namespace Sys2Proof.Machine

/-! ### Events, fields and flow control -/

/-- Clears that an event takes back leave every event set (R37). -/
theorem State.evtWins_event {s : State} {page e : Nat} (h : s.event page e = true) :
    (s.evtWins page).event page e = true := by
  rw [State.event, bit_eq_testBit] at h ⊢
  rw [State.evtWins_sts, BitVec.toNat_or, Nat.testBit_or, h, Bool.true_or]

/-- After an event its page shows it, and every event that the clears of its cycle leave (R36, R37). -/
theorem State.raise_event {s : State} (hal : s.alive = true) {page ev e : Nat} (hev : ev < 16) (he : e < 16) :
    (s.raise page ev).event page e = (e == ev || (s.evtWins page).event page e) := by
  have hseq : (bits ((s.evtWins page).reg (page * 4096 + 0x10)).toNat 31 16 + 1) % 65536 < 65536 :=
    Nat.mod_lt _ (by omega)
  have hlt := foldl_events_lt (evs := [ev]) (by simpa using hev)
    (m := bits ((s.evtWins page).reg (page * 4096 + 0x10)).toNat 15 0) (Nat.mod_lt _ (by omega))
  have hsts : (s.marked page [ev]).reg (page * 4096 + 0x10) = BitVec.ofNat 32
      ((bits ((s.evtWins page).reg (page * 4096 + 0x10)).toNat 31 16 + 1) % 65536 * 65536 +
        [ev].foldl (fun m e => m ||| 2 ^ e) (bits ((s.evtWins page).reg (page * 4096 + 0x10)).toNat 15 0)) := by
    unfold State.marked
    extract_lets u sts seq events first low t
    have ht : t.reg (page * 4096 + 0x10) = BitVec.ofNat 32 (seq * 65536 + events) := State.reg_setReg_same _ _ _
    split
    · rw [State.reg_setReg_ne (by omega)]
      exact ht
    · exact ht
  rw [State.raise, if_pos hal, State.event, State.event,
    State.reg_eq_of_regs (s.raiseAll_onlyPosts page (List.cons_ne_nil ev [])).regs, hsts, bit_eq_testBit_events he,
    bit_eq_testBit_events he, events_of_evtWord hseq hlt, testBit_foldl_events, List.contains_cons, List.contains_nil,
    Bool.or_false]

theorem State.raise_event_same {s : State} (hal : s.alive = true) {page ev : Nat} (hev : ev < 16) :
    (s.raise page ev).event page ev = true := by
  simp [State.raise_event hal hev hev]

theorem State.raise_event_of_event {s : State} (hal : s.alive = true) {page ev e : Nat} (hev : ev < 16) (he : e < 16)
    (h : s.event page e = true) : (s.raise page ev).event page e = true := by
  simp [State.raise_event hal hev he, State.evtWins_event h]

theorem State.event_of_reg {s t : State} {page : Nat} (h : t.reg (page * 4096 + 0x10) = s.reg (page * 4096 + 0x10))
    (e : Nat) : t.event page e = s.event page e := by
  rw [State.event, h, State.event]

theorem State.fget_of_reg {s t : State} {f : Fld} (h : t.reg f.addr = s.reg f.addr) : t.fget f = s.fget f := by
  rw [State.fget, h, State.fget]

theorem State.sendMask_regs (s : State) (f old mask : Nat) : (s.sendMask f old mask).regs = s.regs := by
  refine List.foldlRecOn _ _ (motive := fun t : State => t.regs = s.regs) rfl fun t ht v _ => ?_
  have hctl : ∀ d, (t.sendCtl f d).regs = s.regs := fun d => by
    unfold State.sendCtl
    split <;> exact ht
  split
  · exact ht
  · split
    · exact (State.bump_regs _ _).trans (hctl _)
    · exact hctl _

/-- Flow control writes the masks of the Moaben links (R240) and no other register. -/
theorem State.updateXoff_reg {s : State} {a : Nat} (ha : a ∉ xoffRegs) : s.updateXoff.reg a = s.reg a := by
  have hadvertise : ∀ u : State, (u.portsUp.foldl State.advertise s.updateLinks).reg a = s.updateLinks.reg a :=
    fun u => reg_foldl _ _ _ fun _ _ => rfl
  rw [State.updateXoff, hadvertise]
  refine List.foldlRecOn _ _ (motive := fun t : State => t.reg a = s.reg a) rfl fun t ht f hf => ?_
  have hne : a ≠ (R.MFL_LINK_STS_XOFF_RX f).addr := fun h => ha (List.mem_map.mpr ⟨f, hf, h.symm⟩)
  extract_lets n held short was
  split
  · exact ht
  · split
    · exact ht
    · rw [State.reg_eq_of_regs (State.sendMask_regs _ _ _ _)]
      exact (State.reg_fset_ne hne).trans ht

/-! ### Registers that reports leave alone -/

/-- The same registers but for those that reports write, in the same service mode. -/
structure SameRegs (s t : State) : Prop where
  reg : ∀ a, statusReg a = false → t.reg a = s.reg a
  service : t.service = s.service

theorem State.raise_sameRegs (s : State) (page ev : Nat) : SameRegs s (s.raise page ev) where
  reg _ ha := s.raise_reg page ev ha
  service := congrArg (·.service) (s.raise_rest page ev)

section SameRegs
variable {s t : State} (h : SameRegs s t)
include h

theorem SameRegs.keepsRegs (except : List Nat) : KeepsRegs s t except := fun a ha _ => h.reg a ha

theorem SameRegs.fget {f : Fld} (hf : statusReg f.addr = false) : t.fget f = s.fget f := State.fget_of_reg (h.reg _ hf)

theorem SameRegs.alive : t.alive = s.alive := State.alive_eq_of_reg (h.reg _ rfl)

theorem SameRegs.limpPools : t.limpPools = s.limpPools := by
  have hmode : t.mode = s.mode := h.fget rfl
  rw [State.limpPools, hmode, h.service, State.limpPools]

end SameRegs

theorem KeepsRegs.trans {s t u : State} {except : List Nat} (h : KeepsRegs s t except) (h' : KeepsRegs t u except) :
    KeepsRegs s u except := fun a ha hne => (h' a ha hne).trans (h a ha hne)

/-! ### The status of banks and of the retirement -/

theorem statusReg_bank {j : Nat} (hj : j < 17) : statusReg (bankFld j).addr = false := by
  revert j
  decide

/-- Registers of the banks and of the retirement are no masks of links. -/
theorem bank_not_mem_xoffRegs {j : Nat} (hj : j < 17) : (bankFld j).addr ∉ xoffRegs := by
  revert j
  decide

theorem bank_addr_ne {j k : Nat} (h : j ≠ k) : (bankFld j).addr ≠ (bankFld k).addr := by
  simp only [bankFld]
  omega

theorem bank_addr_ne_retireSts {j : Nat} (hj : j < 17) : (bankFld j).addr ≠ R.BUF_BANK_RETIRE_STS := by
  simp only [bankFld, R.BUF_BANK_RETIRE_STS]
  omega

/-- A bank's state and logical number set (R88). -/
def State.setBank (s : State) (j st l : Nat) : State := (s.fset (bankFld j) st).fset (bankLogical j) l

/-- Outcome and bank of a retirement set (R88). -/
def State.setRetire (s : State) (result j : Nat) : State :=
  (s.fset R.BUF_BANK_RETIRE_STS_RESULT result).fset R.BUF_BANK_RETIRE_STS_BANK j

section BankRegisters
variable (s : State) {j st l result a : Nat}

theorem State.setBank_state (hst : st < 8) : (s.setBank j st l).fget (bankFld j) = st := by
  have hsame : (s.fset (bankFld j) st).fget (bankFld j) = st % 8 :=
    State.fget_fset_same _ _ _ (Nat.zero_le 2) (by decide : (2 : Nat) < 32)
  rw [State.setBank, State.fget_fset_ne _ _ _ _ (by decide : (8 : Nat) ≤ 12) (by decide : (0 : Nat) ≤ 2)
    (by decide : (2 : Nat) < 32) (.inl (by decide : (2 : Nat) < 8)), hsame, Nat.mod_eq_of_lt hst]

theorem State.setBank_logical (hl : l < 32) : (s.setBank j st l).fget (bankLogical j) = l := by
  rw [State.setBank, State.fget_fset_same _ _ _ (by decide : (8 : Nat) ≤ 12) (by decide : (12 : Nat) < 32)]
  exact Nat.mod_eq_of_lt hl

theorem State.setBank_reg (ha : a ≠ (bankFld j).addr) : (s.setBank j st l).reg a = s.reg a :=
  (State.reg_fset_ne (f := bankLogical j) ha).trans (State.reg_fset_ne ha)

theorem State.bankLogical_lt (j : Nat) : s.fget (bankLogical j) < 32 := Nat.mod_lt _ (by decide : 0 < 2 ^ (12 - 8 + 1))

theorem State.setRetire_result (hr : result < 4) : (s.setRetire result j).fget R.BUF_BANK_RETIRE_STS_RESULT = result := by
  rw [State.setRetire, State.fget_fset_ne _ _ _ _ (by decide) (by decide) (by decide) (.inl (by decide)),
    State.fget_fset_same _ _ _ (by decide) (by decide)]
  exact Nat.mod_eq_of_lt hr

theorem State.setRetire_bank (hj : j < 32) : (s.setRetire result j).fget R.BUF_BANK_RETIRE_STS_BANK = j := by
  rw [State.setRetire, State.fget_fset_same _ _ _ (by decide) (by decide)]
  exact Nat.mod_eq_of_lt hj

theorem State.setRetire_reg (ha : a ≠ R.BUF_BANK_RETIRE_STS) : (s.setRetire result j).reg a = s.reg a :=
  (State.reg_fset_ne ha).trans (State.reg_fset_ne ha)

end BankRegisters

theorem State.spareBank_spec {s : State} {k : Nat} (h : s.spareBank = some k) : k < 17 ∧ s.fget (bankFld k) = bkSPARE :=
  ⟨List.mem_range.mp (List.mem_of_find?_eq_some h), by simpa using List.find?_some h⟩

theorem State.activeBanks_spec {s : State} {b : Nat × Nat} (h : b ∈ s.activeBanks) :
    b.2 < 17 ∧ s.fget (bankFld b.2) = bkACTIVE := by
  have hall : b ∈ (upTo 17).filterMap fun j =>
      let v := (s.reg (0x111020 + 4 * j)).toNat
      if bits v 2 0 = 0 then some (bits v 12 8, j) else none := by
    unfold State.activeBanks at h
    extract_lets all at h
    split at h
    · exact (List.mem_filter.mp h).1
    · exact h
  obtain ⟨j, hj, hsome⟩ := List.mem_filterMap.mp hall
  extract_lets v at hsome
  split at hsome
  · rename_i hactive
    cases hsome
    exact ⟨List.mem_range.mp hj, hactive⟩
  · cases hsome

/-! ### Reports change no bank -/

section SameBanks
variable {s t : State} (h : SameRegs s t)
include h

theorem SameRegs.bankState {j : Nat} (hj : j < 17) : t.fget (bankFld j) = s.fget (bankFld j) := h.fget (statusReg_bank hj)

theorem SameRegs.spareBank : t.spareBank = s.spareBank :=
  List.find?_congr fun j hj => by rw [h.bankState (List.mem_range.mp hj)]

theorem SameRegs.banksActive : t.banksActive = s.banksActive :=
  congrArg List.length (List.filter_congr fun j hj => by rw [h.bankState (List.mem_range.mp hj)])

theorem SameRegs.ordWith (n : Nat) : t.ordWith n = s.ordWith n := by
  rw [State.ordWith, h.fget rfl, h.fget rfl, State.ordWith]

theorem SameRegs.activeBanks : t.activeBanks = s.activeBanks := by
  have hreg : ∀ j ∈ upTo 17, t.reg (0x111020 + 4 * j) = s.reg (0x111020 + 4 * j) :=
    fun j hj => h.reg _ (statusReg_bank (List.mem_range.mp hj))
  unfold State.activeBanks
  rw [h.limpPools, List.filterMap_congr fun j hj => by rw [hreg j hj]]

end SameBanks

/-! ### BANK_RETIRE -/

/-- Why the retirement of a bank is refused (R88). -/
def State.retireRefused (s : State) (j : Nat) : Prop :=
  16 < j ∨ s.fget (bankFld j) ≠ bkACTIVE ∨ s.fget R.BUF_BANK_RETIRE_STS_RESULT = 1 ∨
    (s.spareBank = none ∧ s.ordWith (s.banksActive - 1) < 16384)

theorem State.bankRetire_of_refused {s : State} {j : Nat} (h : s.retireRefused j) :
    s.bankRetire j = (if s.fget R.BUF_BANK_RETIRE_STS_RESULT = 1 then s else s.setRetire 3 j).raise 0x111 2 :=
  if_pos h

/-- A retirement that is not refused starts: the bank drains, and a spare takes its logical number (R88). -/
theorem State.bankRetire_of_spare {s : State} {j k : Nat} (h : ¬ s.retireRefused j) (hspare : s.spareBank = some k) :
    s.bankRetire j = (((s.setBank j bkDRAINING 0x1F).setBank k bkACTIVE (s.fget (bankLogical j))).setRetire
      1 j).updateXoff := by
  unfold State.retireRefused at h
  rw [State.bankRetire, if_neg h, hspare]
  exact rfl

theorem State.bankRetire_of_no_spare {s : State} {j : Nat} (h : ¬ s.retireRefused j) (hspare : s.spareBank = none) :
    s.bankRetire j = ((s.setBank j bkDRAINING 0x1F).setRetire 1 j).updateXoff := by
  unfold State.retireRefused at h
  rw [State.bankRetire, if_neg h, hspare]
  exact rfl

/-- A refused retirement changes no bank and raises event 2 (R88). -/
theorem State.bankRetire_refused {s : State} {j : Nat} (hal : s.alive = true) (h : s.retireRefused j) (hj : j < 32) :
    (s.bankRetire j).event 0x111 2 = true ∧
      (∀ e, e < 16 → s.event 0x111 e = true → (s.bankRetire j).event 0x111 e = true) ∧
      (∀ k, k < 17 → (s.bankRetire j).reg (bankFld k).addr = s.reg (bankFld k).addr) ∧
      (s.fget R.BUF_BANK_RETIRE_STS_RESULT ≠ 1 → (s.bankRetire j).fget R.BUF_BANK_RETIRE_STS_RESULT = 3 ∧
        (s.bankRetire j).fget R.BUF_BANK_RETIRE_STS_BANK = j) ∧
      KeepsRegs s (s.bankRetire j) [R.BUF_BANK_RETIRE_STS] := by
  rw [State.bankRetire_of_refused h]
  generalize hu : (if s.fget R.BUF_BANK_RETIRE_STS_RESULT = 1 then s else s.setRetire 3 j) = u
  have hreg : ∀ a, a ≠ R.BUF_BANK_RETIRE_STS → u.reg a = s.reg a := fun a ha => by
    rw [← hu]
    split
    · rfl
    · exact s.setRetire_reg ha
  have halu : u.alive = true := (State.alive_eq_of_reg (hreg R.DEV_MODE (by decide))).trans hal
  have hsame := u.raise_sameRegs 0x111 2
  refine ⟨State.raise_event_same halu (by decide), fun e he hset => ?_, fun k hk => ?_, fun hidle => ?_,
    fun a ha hne => ?_⟩
  · exact State.raise_event_of_event halu (by decide) he
      ((State.event_of_reg (hreg _ (by decide)) e).trans hset)
  · exact (hsame.reg _ (statusReg_bank hk)).trans (hreg _ (bank_addr_ne_retireSts hk))
  · rw [hsame.fget rfl, hsame.fget rfl, ← hu, if_neg hidle]
    exact ⟨s.setRetire_result (by decide), s.setRetire_bank hj⟩
  · exact (hsame.reg a ha).trans (hreg a (by simpa using hne))

/-- A retirement that starts with a spare bank (R88). -/
theorem State.bankRetire_spare {s : State} {j k : Nat} (hj : j ≤ 16) (hactive : s.fget (bankFld j) = bkACTIVE)
    (hidle : s.fget R.BUF_BANK_RETIRE_STS_RESULT ≠ 1) (hspare : s.spareBank = some k) :
    (s.bankRetire j).fget (bankFld j) = bkDRAINING ∧ (s.bankRetire j).fget (bankLogical j) = 0x1F ∧
      (s.bankRetire j).fget (bankFld k) = bkACTIVE ∧
      (s.bankRetire j).fget (bankLogical k) = s.fget (bankLogical j) ∧
      (s.bankRetire j).fget R.BUF_BANK_RETIRE_STS_RESULT = 1 ∧
      ∀ a, a ∉ [(bankFld j).addr, (bankFld k).addr, R.BUF_BANK_RETIRE_STS] ++ xoffRegs →
        (s.bankRetire j).reg a = s.reg a := by
  obtain ⟨hk, hkspare⟩ := State.spareBank_spec hspare
  have hjk : j ≠ k := by
    rintro rfl
    exact absurd (hactive.symm.trans hkspare) (by decide)
  have hgo : ¬ s.retireRefused j := by
    simp [State.retireRefused, hactive, hidle, hspare, Nat.not_lt.mpr hj]
  rw [State.bankRetire_of_spare hgo hspare]
  -- Neither flow control nor the retirement's own status changes a bank.
  have hlast : ∀ {u : State} {i : Nat}, i < 17 →
      (u.setRetire 1 j).updateXoff.reg (bankFld i).addr = u.reg (bankFld i).addr := fun hi =>
    (State.updateXoff_reg (bank_not_mem_xoffRegs hi)).trans (State.setRetire_reg _ (bank_addr_ne_retireSts hi))
  have hother : ∀ {u : State} {st l : Nat}, (u.setBank k st l).reg (bankFld j).addr = u.reg (bankFld j).addr :=
    State.setBank_reg _ (bank_addr_ne hjk)
  have hj' : j < 17 := by omega
  refine ⟨?_, ?_, ?_, ?_, ?_, fun a ha => ?_⟩
  · rw [State.fget_of_reg (hlast hj'), State.fget_of_reg hother]
    exact s.setBank_state (by decide)
  · rw [State.fget_of_reg (f := bankLogical j) (hlast hj'), State.fget_of_reg (f := bankLogical j) hother]
    exact s.setBank_logical (by decide)
  · rw [State.fget_of_reg (hlast hk)]
    exact State.setBank_state _ (by decide)
  · rw [State.fget_of_reg (f := bankLogical k) (hlast hk)]
    exact State.setBank_logical _ (s.bankLogical_lt j)
  · rw [State.fget_of_reg (State.updateXoff_reg (by decide))]
    exact State.setRetire_result _ (by decide)
  · simp only [List.mem_append, List.mem_cons, List.not_mem_nil, or_false, not_or] at ha
    obtain ⟨⟨hne, hne', hsts⟩, hxoff⟩ := ha
    rw [State.updateXoff_reg hxoff, State.setRetire_reg _ hsts, State.setBank_reg _ hne', State.setBank_reg _ hne]

/-- A retirement that starts without one: the pools can do with a bank less (R88). -/
theorem State.bankRetire_no_spare {s : State} {j : Nat} (hj : j ≤ 16) (hactive : s.fget (bankFld j) = bkACTIVE)
    (hidle : s.fget R.BUF_BANK_RETIRE_STS_RESULT ≠ 1) (hspare : s.spareBank = none)
    (hroom : 16384 ≤ s.ordWith (s.banksActive - 1)) :
    (s.bankRetire j).fget (bankFld j) = bkDRAINING ∧ (s.bankRetire j).fget R.BUF_BANK_RETIRE_STS_RESULT = 1 ∧
      KeepsRegs s (s.bankRetire j) ([(bankFld j).addr, R.BUF_BANK_RETIRE_STS] ++ xoffRegs) := by
  have hgo : ¬ s.retireRefused j := by
    simp [State.retireRefused, hactive, hidle, Nat.not_lt.mpr hj, hroom]
  have hj' : j < 17 := by omega
  rw [State.bankRetire_of_no_spare hgo hspare]
  refine ⟨?_, ?_, fun a _ ha => ?_⟩
  · rw [State.fget_of_reg (State.updateXoff_reg (bank_not_mem_xoffRegs hj')),
      State.fget_of_reg (State.setRetire_reg _ (bank_addr_ne_retireSts hj'))]
    exact s.setBank_state (by decide)
  · rw [State.fget_of_reg (State.updateXoff_reg (by decide))]
    exact State.setRetire_result _ (by decide)
  · simp only [List.mem_append, List.mem_cons, List.not_mem_nil, or_false, not_or] at ha
    obtain ⟨⟨hne, hsts⟩, hxoff⟩ := ha
    rw [State.updateXoff_reg hxoff, State.setRetire_reg _ hsts, State.setBank_reg _ hne]

theorem exec_bankRetire (s : State) (bank : Nat) : exec (.bankRetire bank) s = .next (s.bankRetire (bank % 32)) := rfl

/-! ### RETIRE_DONE -/

/-- The bank that drains is the first one found draining. -/
theorem exec_retireDone_of_draining {s : State} {j : Nat} (hj : j < 17) (hdrain : s.fget (bankFld j) = bkDRAINING)
    (hfirst : ∀ k, k < j → s.fget (bankFld k) ≠ bkDRAINING) :
    exec .retireDone s = .next (if s.bankUsed j = 0 then
      ((s.fset (bankFld j) bkRETIRED).fset R.BUF_BANK_RETIRE_STS_RESULT 2).raise 0x111 1 else s) := by
  have hfind : ((upTo 17).find? fun j => s.fget (bankFld j) == bkDRAINING) = some j :=
    List.find?_range_eq_some.mpr ⟨by simpa using hdrain, List.mem_range.mpr hj, fun k hk => by simpa using hfirst k hk⟩
  change execRetireDone s = _
  rw [execRetireDone, hfind]

theorem exec_retireDone_of_none {s : State} (hnone : ∀ k, k < 17 → s.fget (bankFld k) ≠ bkDRAINING) :
    exec .retireDone s = .next s := by
  have hfind : ((upTo 17).find? fun j => s.fget (bankFld j) == bkDRAINING) = none :=
    List.find?_eq_none.mpr fun k hk => by simpa using hnone k (List.mem_range.mp hk)
  change execRetireDone s = _
  rw [execRetireDone, hfind]

/-- RETIRE_DONE once the draining bank is empty (R88). -/
theorem retireDone_does {s : State} {j : Nat} (hal : s.alive = true) (hj : j < 17)
    (hdrain : s.fget (bankFld j) = bkDRAINING) (hfirst : ∀ k, k < j → s.fget (bankFld k) ≠ bkDRAINING)
    (hempty : s.bankUsed j = 0) :
    Does .retireDone s fun t => t.fget (bankFld j) = bkRETIRED ∧ t.fget R.BUF_BANK_RETIRE_STS_RESULT = 2 ∧
      t.event 0x111 1 = true ∧ KeepsRegs s t [(bankFld j).addr, R.BUF_BANK_RETIRE_STS] ∧ t.vault = s.vault := by
  have hexec := exec_retireDone_of_draining hj hdrain hfirst
  rw [if_pos hempty] at hexec
  generalize hu : (s.fset (bankFld j) bkRETIRED).fset R.BUF_BANK_RETIRE_STS_RESULT 2 = u at hexec
  have hreg : ∀ a, a ≠ (bankFld j).addr → a ≠ R.BUF_BANK_RETIRE_STS → u.reg a = s.reg a := fun a ha hsts => by
    rw [← hu]
    exact (State.reg_fset_ne hsts).trans (State.reg_fset_ne ha)
  have hmode : (R.DEV_MODE : Nat) ≠ (bankFld j).addr := by
    simp only [bankFld, R.DEV_MODE]
    omega
  have halu : u.alive = true := (State.alive_eq_of_reg (hreg _ hmode (by decide))).trans hal
  have hsame := u.raise_sameRegs 0x111 1
  refine ⟨_, hexec, ?_, ?_, State.raise_event_same halu (by decide), fun a ha hne => ?_,
    exec_vault_of_not_writesVault rfl hexec⟩
  · rw [hsame.bankState hj, ← hu, State.fget_fset_reg _ _ _ _ (bank_addr_ne_retireSts hj)]
    exact State.fget_fset_same _ _ _ (Nat.zero_le 2) (by decide : (2 : Nat) < 32)
  · rw [hsame.fget rfl, ← hu]
    exact State.fget_fset_same _ _ _ (by decide) (by decide)
  · simp only [List.mem_cons, List.not_mem_nil, or_false, not_or] at hne
    exact (hsame.reg a ha).trans (hreg a hne.1 hne.2)

/-! ### BANK_CE_LIMIT -/

/-- A logical bank's corrected errors counted afresh, its limit reported (R87). -/
def State.ceReported (s : State) (l : Nat) : State := (s.setBankCe l []).raise 0x111 0

theorem State.ceReported_sameRegs (s : State) (l : Nat) : SameRegs s (s.ceReported l) :=
  have h := (s.setBankCe l []).raise_sameRegs 0x111 0
  ⟨h.reg, h.service⟩

theorem State.ceReported_event {s : State} (hal : s.alive = true) (l : Nat) : (s.ceReported l).event 0x111 0 = true :=
  State.raise_event_same (s := s.setBankCe l []) hal (by decide)

section BankCeLimit
variable {s : State} {bank : Nat}

theorem exec_bankCeLimit_of_lt (h : (s.recentCe (bank % 16)).length < s.fget R.BUF_SPARE_CTL_CE_LIMIT) :
    exec (.bankCeLimit bank) s = .next s :=
  if_pos h

variable (hlimit : s.fget R.BUF_SPARE_CTL_CE_LIMIT ≤ (s.recentCe (bank % 16)).length)
include hlimit

/-- No bank retires without AUTO, or where the logical bank is no longer in service (R87). -/
theorem bankCeLimit_does_report (hal : s.alive = true)
    (hauto : s.fget R.BUF_SPARE_CTL_AUTO = 0 ∨ (s.activeBanks.all fun b => b.1 != bank % 16) = true) :
    Does (.bankCeLimit bank) s fun t => t.event 0x111 0 = true ∧ KeepsRegs s t [] ∧ t.vault = s.vault := by
  have hsame := s.ceReported_sameRegs (bank % 16)
  have hexec : exec (.bankCeLimit bank) s = .next (s.ceReported (bank % 16)) := by
    change execBankCeLimit bank s = _
    rw [execBankCeLimit, if_neg (Nat.not_lt.mpr hlimit)]
    refine congrArg _ ?_
    obtain hauto | hall := hauto
    · have hflag : ¬ (s.ceReported (bank % 16)).flag R.BUF_SPARE_CTL_AUTO = true := by
        rw [State.flag, hsame.fget (f := R.BUF_SPARE_CTL_AUTO) rfl, hauto]
        decide
      exact if_neg hflag
    · have hnone : ((s.ceReported (bank % 16)).activeBanks.find? fun b => b.1 == bank % 16) = none := by
        rw [hsame.activeBanks]
        exact List.find?_eq_none.mpr fun b hb => by simpa using List.all_eq_true.mp hall b hb
      rw [State.ceReported] at hnone
      rw [hnone, ite_self]
      exact rfl
  exact ⟨_, hexec, State.ceReported_event hal _, hsame.keepsRegs _, exec_vault_of_not_writesVault rfl hexec⟩

/-- Under AUTO the bank found retires as though software had requested it (R87). -/
theorem exec_bankCeLimit_auto (hauto : s.fget R.BUF_SPARE_CTL_AUTO = 1) {l j : Nat}
    (hfind : (s.activeBanks.find? fun b => b.1 == bank % 16) = some (l, j)) :
    exec (.bankCeLimit bank) s = .next ((s.ceReported (bank % 16)).bankRetire j) := by
  have hsame := s.ceReported_sameRegs (bank % 16)
  have hflag : (s.ceReported (bank % 16)).flag R.BUF_SPARE_CTL_AUTO = true := by
    rw [State.flag, hsame.fget (f := R.BUF_SPARE_CTL_AUTO) rfl, hauto]
    decide
  rw [← hsame.activeBanks, State.ceReported] at hfind
  change execBankCeLimit bank s = _
  rw [execBankCeLimit, if_neg (Nat.not_lt.mpr hlimit)]
  refine congrArg _ ((if_pos hflag).trans ?_)
  rw [hfind]
  exact rfl

section Found
variable (hauto : s.fget R.BUF_SPARE_CTL_AUTO = 1) {l j : Nat}
  (hfind : (s.activeBanks.find? fun b => b.1 == bank % 16) = some (l, j))
include hauto hfind

/-- A retirement that AUTO requests and that is refused (R87, R88). -/
theorem bankCeLimit_does_refuse (hal : s.alive = true)
    (hrefused : s.fget R.BUF_BANK_RETIRE_STS_RESULT = 1 ∨ (s.spareBank = none ∧ s.ordWith (s.banksActive - 1) < 16384)) :
    Does (.bankCeLimit bank) s fun t => t.event 0x111 0 = true ∧ t.event 0x111 2 = true ∧
      (∀ k, k < 17 → t.reg (bankFld k).addr = s.reg (bankFld k).addr) ∧ KeepsRegs s t [R.BUF_BANK_RETIRE_STS] ∧
      t.vault = s.vault := by
  have hexec := exec_bankCeLimit_auto hlimit hauto hfind
  have hsame := s.ceReported_sameRegs (bank % 16)
  obtain ⟨hj, -⟩ := State.activeBanks_spec (List.mem_of_find?_eq_some hfind)
  have hrefused' : (s.ceReported (bank % 16)).retireRefused j := by
    rw [State.retireRefused, hsame.fget (f := R.BUF_BANK_RETIRE_STS_RESULT) rfl, hsame.spareBank, hsame.banksActive,
      hsame.ordWith]
    exact .inr (.inr hrefused)
  obtain ⟨hevent, hevents, hbanks, -, hkeeps⟩ :=
    State.bankRetire_refused (hsame.alive.trans hal) hrefused' (by omega : j < 32)
  exact ⟨_, hexec, hevents 0 (by decide) (State.ceReported_event hal _), hevent,
    fun k hk => (hbanks k hk).trans (hsame.reg _ (statusReg_bank hk)), (hsame.keepsRegs _).trans hkeeps,
    exec_vault_of_not_writesVault rfl hexec⟩

/-- A retirement that AUTO requests and that starts (R87, R88). -/
theorem bankCeLimit_does_retire (hal : s.alive = true) {k : Nat} (hspare : s.spareBank = some k)
    (hidle : s.fget R.BUF_BANK_RETIRE_STS_RESULT ≠ 1) :
    Does (.bankCeLimit bank) s fun t => t.event 0x111 0 = true ∧ t.fget (bankFld j) = bkDRAINING ∧
      t.fget (bankFld k) = bkACTIVE ∧ t.fget (bankLogical k) = s.fget (bankLogical j) ∧
      KeepsRegs s t ([(bankFld j).addr, (bankFld k).addr, R.BUF_BANK_RETIRE_STS] ++ xoffRegs) ∧ t.vault = s.vault := by
  have hexec := exec_bankCeLimit_auto hlimit hauto hfind
  have hsame := s.ceReported_sameRegs (bank % 16)
  obtain ⟨hj, hactive⟩ := State.activeBanks_spec (List.mem_of_find?_eq_some hfind)
  obtain ⟨hdrain, -, hact, hnew, -, hreg⟩ := State.bankRetire_spare (by omega : j ≤ 16)
    ((hsame.bankState hj).trans hactive) (by rwa [hsame.fget rfl]) (hsame.spareBank.trans hspare)
  have hsts : 0x111 * 4096 + 0x10 ∉ [(bankFld j).addr, (bankFld k).addr, R.BUF_BANK_RETIRE_STS] ++ xoffRegs := by
    have hxoff : 0x111 * 4096 + 0x10 ∉ xoffRegs := by decide
    simp only [List.mem_append, List.mem_cons, List.not_mem_nil, or_false, hxoff, bankFld, R.BUF_BANK_RETIRE_STS]
    omega
  exact ⟨_, hexec, (State.event_of_reg (hreg _ hsts) 0).trans (State.ceReported_event hal _), hdrain, hact,
    hnew.trans (hsame.fget (f := bankLogical j) (statusReg_bank hj)),
    (hsame.keepsRegs _).trans fun a _ ha => hreg a ha, exec_vault_of_not_writesVault rfl hexec⟩

end Found

end BankCeLimit

/-! ### The obligation -/

/-- Settles O15, from what BANK_RETIRE, RETIRE_DONE and BANK_CE_LIMIT do to the banks' registers, case by case. -/
theorem bufferBanks : Obligations.BufferBanks := by
  refine ⟨?_, ?_⟩
  · rintro s bank hal j rfl
    refine ⟨fun hrefused => ?_, fun hj hactive hidle => ⟨fun k hspare => ?_, fun hspare hroom => ?_⟩,
      fun hj hdrain hfirst hempty => retireDone_does hal hj hdrain hfirst hempty, fun hj hdrain hfirst hused => ?_,
      fun hnone => ?_⟩
    · obtain ⟨hevent, -, hbanks, hresult, hkeeps⟩ :=
        State.bankRetire_refused hal hrefused (Nat.mod_lt bank (by decide : 0 < 32))
      exact ⟨_, exec_bankRetire s bank, hevent, hbanks, hresult, hkeeps,
        exec_vault_of_not_writesVault rfl (exec_bankRetire s bank)⟩
    · obtain ⟨hdrain, hold, hact, hnew, hbusy, hreg⟩ := State.bankRetire_spare hj hactive hidle hspare
      exact ⟨_, exec_bankRetire s bank, hdrain, hold, hact, hnew, hbusy, fun a _ ha => hreg a ha,
        exec_vault_of_not_writesVault rfl (exec_bankRetire s bank)⟩
    · obtain ⟨hdrain, hbusy, hkeeps⟩ := State.bankRetire_no_spare hj hactive hidle hspare hroom
      exact ⟨_, exec_bankRetire s bank, hdrain, hbusy, hkeeps,
        exec_vault_of_not_writesVault rfl (exec_bankRetire s bank)⟩
    · rw [exec_retireDone_of_draining hj hdrain hfirst, if_neg hused]
    · exact exec_retireDone_of_none hnone
  · intro s bank hal
    exact ⟨exec_bankCeLimit_of_lt, fun hlimit hauto => bankCeLimit_does_report hlimit hal hauto, fun l j hfind =>
      ⟨fun hlimit hauto hrefused => bankCeLimit_does_refuse hlimit hauto hfind hal hrefused,
        fun hlimit hauto k hspare hidle => bankCeLimit_does_retire hlimit hauto hfind hal hspare hidle⟩⟩

end Sys2Proof.Machine
end

section
/-! PROOFS. The tag records of the switch core (R102): captures, reports and flow control leave them alone. -/

namespace Sys2Proof.Machine

theorem tags_foldl {α : Type} (f : State → α → State) (l : List α) (s : State)
    (h : ∀ s x, (f s x).sw.tags = s.sw.tags) : (l.foldl f s).sw.tags = s.sw.tags := by
  induction l generalizing s with
  | nil => rfl
  | cons x l ih => rw [List.foldl_cons, ih, h]

/-! ### Posted writes of the device -/

@[simp] theorem State.enqueue_tags (s : State) (c : Copy) : (s.enqueue c).sw.tags = s.sw.tags := by
  unfold State.enqueue
  dsimp only
  split <;> rfl

@[simp] theorem State.admitOrWait_tags (s : State) (f : Frame) (cs : List Copy) :
    (s.admitOrWait f cs).sw.tags = s.sw.tags := by
  unfold State.admitOrWait
  split
  · exact tags_foldl _ _ _ State.enqueue_tags
  · rfl

@[simp] theorem State.devicePost_tags (s : State) (t : Tlp) (pool : Pool) (fid dest : Nat) (why : Purpose) :
    (s.devicePost t pool fid dest why).sw.tags = s.sw.tags := by
  unfold State.devicePost
  split
  · rw [State.bump_sw]
  · split
    · rw [State.bump_sw]
    · exact State.admitOrWait_tags _ _ _

@[simp] theorem State.mgmtMessage_tags (s : State) (part vec : Nat) : (s.mgmtMessage part vec).sw.tags = s.sw.tags := by
  unfold State.mgmtMessage State.postToHost
  dsimp only
  split
  · split
    · rfl
    · exact State.devicePost_tags _ _ _ _ _ _
  · rfl

/-! ### Events and captures -/

@[simp] theorem State.evtWins_sw (s : State) (page : Nat) : (s.evtWins page).sw = s.sw := by
  unfold State.evtWins
  dsimp only
  split
  · rfl
  · rw [State.bumpBy_sw]
    rfl

@[simp] theorem State.sendVectors_tags (s : State) (page : Nat) (before : Nat → Bool) :
    (s.sendVectors page before).sw.tags = s.sw.tags := by
  refine tags_foldl _ _ _ fun s p => ?_
  split
  · exact s.mgmtMessage_tags p _
  · rfl

@[simp] theorem State.raiseAll_tags (s : State) (page : Nat) (evs : List Nat) :
    (s.raiseAll page evs).sw.tags = s.sw.tags := by
  unfold State.raiseAll
  split
  · rfl
  · extract_lets s0 sts seq ev vec before s1 first low s2
    have hmarked : s2.sw.tags = s.sw.tags := by
      simp only [s2, s1, s0]
      split <;> simp
    split
    · exact (s2.sendVectors_tags page before).trans hmarked
    · exact hmarked

@[simp] theorem State.raise_tags (s : State) (page ev : Nat) : (s.raise page ev).sw.tags = s.sw.tags := by
  unfold State.raise
  split
  · exact s.raiseAll_tags page [ev]
  · rfl

@[simp] theorem State.modSession_sw (s : State) (k : Nat) (f : Session → Session) : (s.modSession k f).sw = s.sw := rfl

@[simp] theorem State.pushSample_tags (s : State) (e : BitVec 1280) : (s.pushSample e).sw.tags = s.sw.tags := by
  unfold State.pushSample
  dsimp only
  split
  · rw [State.bump_sw]
    rfl
  · rw [State.raise_tags, State.bump_sw]

@[simp] theorem State.captureIn_tags (s : State) (k : Nat) (f : Frame) (t : Tlp) (atEgress : Bool) (egress : Nat)
    (refused : Bool) (window : Nat) :
    (s.captureIn k f t atEgress egress refused window).sw.tags = s.sw.tags := by
  unfold State.captureIn State.dropCapture
  dsimp only
  split
  · split <;> simp
  · split
    · rfl
    · split <;> simp

@[simp] theorem State.capture_tags (s : State) (f : Frame) (t : Tlp) (atEgress : Bool) (egress : Nat) (refused : Bool)
    (win : Option Win) : (s.capture f t atEgress egress refused win).sw.tags = s.sw.tags := by
  unfold State.capture
  split
  · rfl
  · refine tags_foldl _ _ _ fun s k => ?_
    extract_lets kind takes
    split
    · exact State.captureIn_tags _ _ _ _ _ _ _ _
    · rfl

/-! ### Error records -/

@[simp] theorem State.setLogSlot_tags (s : State) (slot v : Nat) : (s.setLogSlot slot v).sw.tags = s.sw.tags :=
  tags_foldl _ _ _ fun _ _ => rfl

@[simp] theorem State.logRecord_tags (s : State) (v level : Nat) : (s.logRecord v level).sw.tags = s.sw.tags := by
  unfold State.logRecord
  extract_lets slot s1 s2 s3 e s4 s5
  have h3 : s3.sw.tags = s.sw.tags := by
    simp only [s3, s2, s1]
    split <;> simp
  have h5 : s5.sw.tags = s4.sw.tags := by
    simp only [s5]
    split <;> rfl
  rw [State.raise_tags, State.bump_sw, h5]
  exact h3

@[simp] theorem State.swapRecords_tags (s : State) (a b : Nat) : (s.swapRecords a b).sw.tags = s.sw.tags := by
  unfold State.swapRecords
  extract_lets x y later first has ring fatal fatal' cause e s1
  have h1 : s1.sw.tags = s.sw.tags := rfl
  rw [State.fset_sw, State.setLogSlot_tags, State.setLogSlot_tags, h1]

@[simp] theorem State.ringOwed_sw (s : State) (part : Nat) : (s.ringOwed part).sw = s.sw := by
  unfold State.ringOwed
  split <;> rfl

@[simp] theorem State.deliverRecord_tags (s : State) (part : Nat) (bs : List Byte) :
    (s.deliverRecord part bs).sw.tags = s.sw.tags := by
  unfold State.deliverRecord
  split
  · rfl
  · split
    · rfl
    · simp

@[simp] theorem State.record_tags (s : State) (code level : Nat) (part : Option Nat) (port detail : Nat) :
    (s.record code level part port detail).sw.tags = s.sw.tags := by
  unfold State.record
  extract_lets seq c recent after slot e1 s1 v e2 s2 s3 s4 c' s5
  have hlogged : s3.sw.tags = s.sw.tags := s2.logRecord_tags v level
  have hrings : s4.sw.tags = s.sw.tags := by
    rw [← hlogged]
    simp only [s4]
    split
    · exact tags_foldl _ _ _ fun u p => u.deliverRecord_tags p _
    · split
      · exact s3.deliverRecord_tags _ _
      · rfl
  have hmade : s5.sw.tags = s.sw.tags := by
    simp only [s5]
    split
    · exact (tags_foldl _ _ _ fun u j => u.swapRecords_tags _ _).trans hrings
    · rw [State.bump_sw]
  split
  · exact (s5.raise_tags _ _).trans hmade
  · exact hmade

@[simp] theorem State.recordFrame_tags (s : State) (code level : Nat) (f : Frame) (extra : Nat) :
    (s.recordFrame code level f extra).sw.tags = s.sw.tags :=
  s.record_tags _ _ _ _ _

/-! ### Errors a bridge logs -/

theorem State.aerLog_sw (s : State) (fn b : Nat) (hdr : List Byte) : (s.aerLog fn b hdr).sw = s.sw := by
  unfold State.aerLog
  extract_lets first s1 s2
  have h2 : s2.sw = s.sw := by
    simp only [s2]
    split <;> rfl
  split
  · exact List.foldlRecOn _ _ (motive := fun t : State => t.sw = s.sw) h2 fun t ht k _ => ht
  · exact h2

@[simp] theorem State.errSignal_tags (s : State) (fn part : Nat) (code : BitVec 8) :
    (s.errSignal fn part code).sw.tags = s.sw.tags := by
  unfold State.errSignal
  split
  · rfl
  · split
    · rfl
    · exact State.devicePost_tags _ _ _ _ _ _

@[simp] theorem State.aerUncorrectable_tags (s : State) (fn part b : Nat) (hdr : List Byte) :
    (s.aerUncorrectable fn part b hdr).sw.tags = s.sw.tags := by
  unfold State.aerUncorrectable
  extract_lets masked fatal s1 s2 enabled
  have hlogged : s2.sw.tags = s.sw.tags := congrArg (·.tags) (s.aerLog_sw fn b hdr)
  split
  · exact hlogged
  · exact (s2.errSignal_tags _ _ _).trans hlogged

@[simp] theorem State.portAer_tags (s : State) (port b : Nat) (hdr : List Byte) :
    (s.portAer port b hdr).sw.tags = s.sw.tags := by
  unfold State.portAer
  dsimp only
  split
  · split <;> exact State.aerUncorrectable_tags _ _ _ _ _
  · rfl

/-! ### Flow control -/

theorem State.sendCtl_sw (s : State) (f : Nat) (d : W64) : (s.sendCtl f d).sw = s.sw := by
  unfold State.sendCtl
  split <;> rfl

theorem State.sendMask_tags (s : State) (f old mask : Nat) : (s.sendMask f old mask).sw.tags = s.sw.tags := by
  refine tags_foldl _ _ _ fun s v => ?_
  split
  · rfl
  · split
    · rw [State.bump_sw, State.sendCtl_sw]
    · rw [State.sendCtl_sw]

theorem State.updateLinks_tags (s : State) : s.updateLinks.sw.tags = s.sw.tags := by
  refine tags_foldl _ _ _ fun s f => ?_
  extract_lets n held short was
  split
  · rfl
  · split
    · rfl
    · exact State.sendMask_tags _ _ _ _

@[simp] theorem State.updateXoff_tags (s : State) : s.updateXoff.sw.tags = s.sw.tags :=
  (tags_foldl State.advertise _ _ fun _ _ => rfl).trans s.updateLinks_tags

end Sys2Proof.Machine
end

section
/-! PROOFS. Occurrences counted for telemetry (R389, R394) change neither the switch core nor whether a port carries
traffic (R212, R269). -/

namespace Sys2Proof.Machine

/-- What decides whether a port carries traffic: of the tables, the partition homes alone (R269). -/
def State.bridgeView (s : State) : EgressView × (Nat → W256) :=
  ({ s.egressView with tbls := [] }, fun part => s.tbl 0x122 1 part)

theorem bridgeView_of_egressView {s t : State} (h : s.egressView = t.egressView) : s.bridgeView = t.bridgeView := by
  have htbls : s.tbls = t.tbls := congrArg EgressView.tbls h
  simp only [State.bridgeView, State.tbl, h, htbls]

theorem carries_of_bridgeView {s t : State} (h : s.bridgeView = t.bridgeView) (n : Nat) : s.carries n = t.carries n := by
  obtain ⟨hview, hhomes⟩ := Prod.ext_iff.mp h
  have hhome : ∀ part, s.tbl 0x122 1 part = t.tbl 0x122 1 part := congrFun hhomes
  let u : State := { s with tbls := t.tbls }
  have hu : u.egressView = t.egressView := congrArg (fun v : EgressView => { v with tbls := t.tbls }) hview
  have hsame : s.carries n = u.carries n := by
    have hhome' : ∀ part, s.homeOf part = u.homeOf part := fun part => by
      simp only [State.homeOf, State.tget, hhome]
      rfl
    simp only [State.carries, hhome']
    rfl
  exact hsame.trans (carries_of_egressView hu n)

/-! ### Counts in the tables of telemetry -/

/-- Entries of a telemetry table lie below those of the partition homes. -/
theorem State.setTbl_bridgeView (s : State) {page table index : Nat} (v : W256) (hpage : page < 0x122)
    (htable : table < 256) (hindex : index < 2 ^ 24) : (s.setTbl page table index v).bridgeView = s.bridgeView := by
  have hhomes : ∀ part, (s.setTbl page table index v).tbl 0x122 1 part = s.tbl 0x122 1 part := fun part =>
    s.tbl_setTbl_ne v (by unfold tblKey; omega)
  exact Prod.ext rfl (funext hhomes)

theorem State.tbump_bridgeView (s : State) {page table index : Nat} (hi lo n : Nat) (hpage : page < 0x122)
    (htable : table < 256) (hindex : index < 2 ^ 24) :
    (s.tbump page table index hi lo n).bridgeView = s.bridgeView := by
  unfold State.tbump
  split
  · exact s.setTbl_bridgeView _ hpage htable hindex
  · rfl

theorem State.tbump_sw (s : State) (page table index hi lo n : Nat) : (s.tbump page table index hi lo n).sw = s.sw := by
  unfold State.tbump
  split <;> rfl

theorem State.tel_keeps (s : State) {event port : Nat} (n : Nat) (f : Option Frame) (h : event * 128 + port < 2 ^ 24) :
    (s.tel event port n f).bridgeView = s.bridgeView ∧ (s.tel event port n f).sw = s.sw := by
  have hcount : (s.tbump 0x40 0 (event * 128 + port) 47 0 n).bridgeView = s.bridgeView ∧
      (s.tbump 0x40 0 (event * 128 + port) 47 0 n).sw = s.sw :=
    ⟨s.tbump_bridgeView _ _ _ (by decide) (by decide) h, s.tbump_sw _ _ _ _ _ _⟩
  unfold State.tel
  extract_lets s1
  split
  · exact hcount
  · refine List.foldlRecOn _ _ (motive := fun t : State => t.bridgeView = s.bridgeView ∧ t.sw = s.sw) hcount
      fun t ht k _ => ?_
    split <;> exact ht

theorem histBin_le (log : Bool) (wshift base v : Nat) : histBin log wshift base v ≤ 32 := by
  unfold histBin
  split
  · decide
  · split
    · have hbins : (upTo 31).length = 31 := List.length_range
      have hlast : ∀ c : Bool, ofBool c ≤ 1 := by decide
      exact Nat.add_le_add ((List.length_filter_le _ _).trans hbins.le) (hlast _)
    · omega

theorem State.histRecord_keeps (s : State) {u : Nat} (v : Nat) (hu : u < 16) :
    (s.histRecord u v).bridgeView = s.bridgeView ∧ (s.histRecord u v).sw = s.sw := by
  unfold State.histRecord
  extract_lets b s1 s2 s3
  have hbin : b ≤ 32 := histBin_le _ _ _ _
  have h1 : s1.bridgeView = s.bridgeView := s.tbump_bridgeView _ _ _ (by decide) (by decide) (by omega)
  have h2 : s2.bridgeView = s1.bridgeView := s1.setTbl_bridgeView _ (by decide) (by decide) (by omega)
  have h3 : s3.bridgeView = s2.bridgeView := s2.setTbl_bridgeView _ (by decide) (by decide) (by omega)
  have hsw : s3.sw = s.sw := s.tbump_sw _ _ _ _ _ _
  constructor
  · rw [State.tbump_bridgeView _ _ _ _ (by decide) (by decide) (by omega),
      State.tbump_bridgeView _ _ _ _ (by decide) (by decide) (by omega), h3, h2, h1]
  · rw [State.tbump_sw, State.tbump_sw, hsw]

theorem State.hist_keeps (s : State) (source port : Nat) (live : Bool) (v : Nat) :
    (s.hist source port live v).bridgeView = s.bridgeView ∧ (s.hist source port live v).sw = s.sw := by
  unfold State.hist
  split
  · exact ⟨rfl, rfl⟩
  · refine List.foldlRecOn _ _ (motive := fun t : State => t.bridgeView = s.bridgeView ∧ t.sw = s.sw) ⟨rfl, rfl⟩
      fun t ht u hu => ?_
    obtain ⟨hview, hsw⟩ := t.histRecord_keeps v (List.mem_range.mp hu)
    dsimp only
    split
    · exact ⟨hview.trans ht.1, hsw.trans ht.2⟩
    · exact ht

theorem State.entered_keeps (s : State) {f : Frame} (h : f.ingress < 128) :
    (s.entered f).bridgeView = s.bridgeView ∧ (s.entered f).sw = s.sw := by
  unfold State.entered
  extract_lets s1
  obtain ⟨hview0, hsw0⟩ := s.tel_keeps (event := 0) (port := f.ingress) 1 (some f) (by omega)
  obtain ⟨hview1, hsw1⟩ :=
    (s.tel 0 f.ingress 1 (some f)).tel_keeps (event := 1) (port := f.ingress) f.tlp.bytes (some f) (by omega)
  obtain ⟨hview2, hsw2⟩ := s1.hist_keeps 3 f.ingress f.live f.tlp.cells
  exact ⟨hview2.trans (hview1.trans hview0), hsw2.trans (hsw1.trans hsw0)⟩

end Sys2Proof.Machine
end

section
/-! PROOFS. A completion on its way from its ingress to the port of its proxy record (R22, R86, R101, R102, R293). -/

namespace Sys2Proof.Machine

/-! ### At its entry -/

section Entry
variable {s : State} {n : Nat} {t : Tlp} (hcpl : t.isCpl = true)
include hcpl

/-- A completion asks for no memory. -/
theorem Tlp.isMem_of_isCpl : t.isMem = false := by
  have hkind : t.kind = .completion := by simpa [Tlp.isCpl] using hcpl
  rw [Tlp.isMem, hkind]

theorem State.entry_of_isCpl (s : State) (n : Nat) (whole : Bool) :
    s.entry n t whole =
      ((s.linkFrame n t whole).1, (s.linkFrame n t whole).2.entered (s.linkFrame n t whole).1) := by
  have hpreview : (s.linkFrame n t whole).2.preview (s.linkFrame n t whole).1 = (s.linkFrame n t whole).1 :=
    if_pos (by simpa [State.linkFrame, State.formFrame] using Tlp.isMem_of_isCpl hcpl)
  rw [State.entry, if_pos hcpl, hpreview]

/-- Its entry takes an identity, and counts. -/
theorem State.entry_keeps_of_isCpl (hn : n < 64) (whole : Bool) :
    (s.entry n t whole).2.bridgeView = s.bridgeView ∧
      (s.entry n t whole).2.sw = { s.sw with nextId := s.sw.nextId + 1 } := by
  rw [State.entry_of_isCpl hcpl]
  have hingress : (s.linkFrame n t whole).1.ingress < 128 := Nat.lt_trans hn (by decide)
  obtain ⟨hview, hsw⟩ := (s.linkFrame n t whole).2.entered_keeps hingress
  exact ⟨hview, hsw⟩

/-- A sound completion that enters at a PCIe port whose link is up is routed. -/
theorem exec_completionArrival_of_isCpl {whole ue : Bool} (hn : n < 64) (hal : s.alive = true)
    (hup : (s.port n).up = true) (hpoison : t.poison = false) :
    exec (.completionArrival n t whole ue) s =
      .next ((s.entry n t whole).2.routeCpl (s.entry n t whole).1 ue).updateXoff := by
  have hpcie : isPcie n = true := decide_eq_true hn
  have hcross : t.crosses = false := by simp [Tlp.crosses, Tlp.isMem_of_isCpl hcpl]
  have hpath : s.frameIn n t whole ue none =
      ((s.entry n t whole).2.routeCpl (s.entry n t whole).1 ue).updateXoff := by
    simp only [State.frameIn, State.entry, State.meetEntry, hal, hup, hpcie, hcross, hpoison, hcpl,
      Bool.not_true, Bool.or_false, Bool.false_eq_true, if_false, if_true]
  change Host.Outcome.next (if t.isCpl then s.frameIn (n % 64) t whole ue none else s) = _
  rw [if_pos hcpl, Nat.mod_eq_of_lt hn, hpath]

end Entry

/-! ### Its way -/

/-- A completion that does not end in the part is captured, and sent its way. -/
theorem State.routeCpl_of_way {s : State} {f : Frame} {ue : Bool} {way : CplWay} (hway : s.cplWay f ue = way)
    (hends : way.endsHere = false) :
    s.routeCpl f ue = (s.capture f f.tlp false (s.wayEgress f way) false none).goWay f way := by
  simp [State.routeCpl, hway, hends]

section Proxy
variable {s : State} {f : Frame} {r : TagRec} (hproxy : s.proxyOf f = some r) (hiso : s.isolating = false)
include hproxy hiso

theorem State.cplWay_of_proxy (hstale : s.staleTag r = false) : s.cplWay f false = .back r := by
  simp [State.cplWay, hproxy, hiso, State.wayBack, hstale]

theorem State.cplWay_of_proxy_ue : s.cplWay f true = .proxyUe := by
  simp [State.cplWay, hproxy, hiso]

end Proxy

theorem State.cplLatency_bridgeView (s : State) (left : Option (Nat × Nat)) (live : Bool) :
    (s.cplLatency left live).bridgeView = s.bridgeView := by
  unfold State.cplLatency
  split
  · exact (s.hist_keeps _ _ _ _).1
  · rfl

/-- A completion for an egress that takes it is queued there, under the requester ID and tag given. -/
theorem State.sendCpl_carriesTo {s : State} {f : Frame} (id : Nat) {egress : Nat} (fid dest : Nat)
    (reqId : BitVec 16) (tag : BitVec 14) (hlive : f.live = false) (hopen : s.carries egress = true) :
    (s.sendCpl f id egress fid dest reqId tag).carriesTo egress fun g c => g.tlp = f.tlp ∧
      c.newReqId.getD f.tlp.reqId = reqId ∧ c.newTag.getD f.tlp.tag = tag ∧ c.dest = dest := by
  unfold State.sendCpl
  extract_lets t ends less s1 s2 s3 s4 g
  have h1 : s1.bridgeView = s.bridgeView := by
    simp only [s1]
    split
    · split
      · exact s.cplLatency_bridgeView _ _
      · split
        · exact s.cplLatency_bridgeView _ _
        · rfl
    · rfl
  have hopen' : s3.carries egress = true := (carries_of_bridgeView (s := s3) (t := s) h1 egress).trans hopen
  rw [if_neg (by simp [hopen'])]
  refine State.takeIn_carriesTo s3 (f := g) hlive rfl fun _ _ _ _ => ⟨rfl, ?_, ?_, rfl⟩
  · dsimp only
    split
    · exact Eq.symm ‹_›
    · rfl
  · dsimp only
    split
    · exact Eq.symm ‹_›
    · rfl

/-! ### The obligation -/

/-- Settles O22: the completion's entry leaves proxy records and bridges as they were, so the record sends it back to its
port; of an uncorrectable one only a record and an error of the bridge are made. -/
theorem completionReturnsToItsRequester : Obligations.CompletionReturnsToItsRequester := by
  intro s n t whole hn hal hup hcpl hpoison l u hentry r hproxy hiso
  have hl : l = (s.linkFrame n t whole).1 := (congrArg Prod.fst hentry).symm
  have hu : u = (s.entry n t whole).2 := (congrArg Prod.snd hentry).symm
  obtain ⟨hview, hsw⟩ : u.bridgeView = s.bridgeView ∧ u.sw = { s.sw with nextId := s.sw.nextId + 1 } := by
    rw [hu]; exact State.entry_keeps_of_isCpl hcpl hn whole
  have hiso' : u.isolating = false := by
    rw [← hiso, hu, State.isolating, State.mode, State.fget, State.fget, State.entry_reg _ _ _ _ rfl,
      State.entry_reg _ _ _ _ rfl]
    rfl
  have hexec : ∀ ue, exec (.completionArrival n t whole ue) s = .next (u.routeCpl l ue).updateXoff := fun ue => by
    rw [exec_completionArrival_of_isCpl hcpl hn hal hup hpoison, hentry]
  refine ⟨fun hstale hport _ hopen => ?_, ?_⟩
  · have hstale' : u.staleTag r = false := by
      rw [← hstale, State.staleTag, State.port, hsw]
      rfl
    have hends : (CplWay.back r).endsHere = false := decide_eq_false (by omega)
    have hroute := State.routeCpl_of_way (State.cplWay_of_proxy hproxy hiso' hstale') hends
    refine ⟨_, hexec false, State.updateXoff_carriesTo.mpr ?_⟩
    rw [hroute]
    generalize hv : u.capture _ _ _ _ _ _ = v
    have hopen' : v.carries r.ingress = true := by
      rw [carries_of_egressView (t := u) (by rw [← hv, State.capture_egressView]), carries_of_bridgeView hview, hopen]
    have hback : v.goWay l (.back r) = v.sendCpl l r.id r.ingress r.fid r.ingress r.reqId r.tag := by
      have hreturn : v.returnEgress r.ingress r.fid l.tlp.tc.val = some r.ingress :=
        if_neg (by simp [isMoaben]; omega)
      rw [State.goWay, State.cplByRecord, hreturn]
    have htlp : l.tlp = t := by rw [hl]; rfl
    have hsent := State.sendCpl_carriesTo r.id r.fid r.ingress r.reqId r.tag (f := l) (by rw [hl]; rfl) hopen'
    rw [hback]
    rwa [htlp] at hsent
  · have hvault : u.vault = s.vault := by
      rw [hu, State.entry_of_isCpl hcpl, State.entered_vault, State.linkFrame_vault]
    refine ⟨_, hexec true, ?_, by rw [State.updateXoff_vault, State.routeCpl_vault, hvault]⟩
    rw [State.updateXoff_tags, State.routeCpl_of_way (State.cplWay_of_proxy_ue hproxy hiso') rfl, State.goWay,
      State.portAer_tags, State.recordFrame_tags, State.capture_tags, hsw]

end Sys2Proof.Machine
end

section
/-! PROOFS. MOABEN_PACKET_RECEIVE of a write for a port whose bridge is in D3hot (R148, R225). -/

namespace Sys2Proof.Machine

/-- A packet of the TLP its header spells, whole and under its own furrow word, is judged by its number alone (R243,
R290). -/
theorem State.receivePacket_of_whole {s : State} {l h : Nat} {slots : List LineSlot} {t : Tlp} (hlive : s.linkLive l = true)
    (halive : s.alive = true) (hhead : headerOf slots = some h) (hnull : (bit h 51 || endedNull slots (bits h 11 0)) = false)
    (hvc : bits h 14 12 ≠ 4) (htlp : tlpOf h t = t) (hlength : lengthFits h (some t) = true)
    (hbody : bodyFits slots (some t) = true) (hfurrow : (furrow t).toNat = bits h 95 64)
    (hnext : (s.rxPacket l (bits h 11 0) false false).2 = true) :
    s.receivePacket l slots false (some t) = ((s.rxPacket l (bits h 11 0) false false).1.fabricIn l t (bits h 19 16)
      (bits h 32 20) (bits h 36 33) (bit h 52) (bit h 50) (bit h 49) (bits h 48 45)).updateXoff.finish := by
  have hlisten : s.listens l = true := by simp [State.listens, hlive]
  have hgot : (if s.linkLive l && !(bit h 51 || endedNull slots (bits h 11 0)) && bits h 14 12 != 4 then
      (some t).map (tlpOf h) else none) = some t := by
    simp [hlive, hnull, hvc, htlp]
  rw [State.receivePacket, if_neg (by simp [hlisten, halive]), hhead]
  dsimp only
  rw [hgot, hnull, hlength, hbody]
  simp [hfurrow, hnext]

/-- The frame of a unicast packet of a link for port `dest` of this device, that is not live (R148). -/
def State.fabricFrame (s : State) (l : Nat) (t : Tlp) (dest srcFid : Nat) (bank : Bool) (gate : Nat) : Frame :=
  { (s.linkFrame (64 + l) t true).1 with
    part := some (s.portPart dest), srcFid := srcFid, mcast := false, group := 0, live := false, prio := 0
    gate := gate % 16, bank := bank }

/-- A write of a link for a port of this device is counted at its entry, captured and carried on while the mode is FABRIC
and nothing is isolated (R105, R121, R148). -/
theorem State.fabricIn_of_write {s v : State} {f : Frame} {l dest srcFid gate : Nat} {t : Tlp} {bank : Bool}
    (hkind : t.kind = .memWrite) (hdest : dest < 64) (hf : s.fabricFrame l t dest srcFid bank gate = f)
    (hv : (s.linkFrame (64 + l) t true).2.entered f = v) (hself : v.selfFid = s.selfFid) (hmode : v.mode = mFABRIC)
    (hisolating : v.isolating = false) :
    s.fabricIn l t s.selfFid dest srcFid false false bank gate =
      (v.capture f t false dest false none).carry f s.selfFid dest := by
  have hcpl : t.isCpl = false := by simp [Tlp.isCpl, hkind]
  have hposted : t.nonPosted = false := by simp [Tlp.nonPosted, Tlp.posted, hkind]
  have htlp : f.tlp = t := by rw [← hf]; rfl
  have hmcast : f.mcast = false := by rw [← hf]; rfl
  have hreserve : v.reserveFor f = some (f, v) := by simp [State.reserveFor, htlp, hposted]
  have hpass : v.modeRefuse f = none := by simp [State.modeRefuse, hmode, hisolating]
  have hshown : v.shownEgress f s.selfFid dest = dest := by simp [State.shownEgress, State.egressTo, hself]
  have hin : s.fabricIn l t s.selfFid dest srcFid false false bank gate = v.fabricPass f s.selfFid dest := by
    have hself' : (s.linkFrame (64 + l) t true).2.selfFid = s.selfFid := rfl
    have hpart : (s.linkFrame (64 + l) t true).2.portPart dest = s.portPart dest := rfl
    unfold State.fabricFrame at hf
    unfold State.fabricIn
    generalize s.linkFrame (64 + l) t true = entry at hf hv hself' hpart
    simp [hself', hpart, hdest, State.stampLive, hf, hv, hisolating, hcpl, hposted, hreserve]
  rw [hin, State.fabricPass, hpass]
  simp [hmcast, hshown, htlp]

/-- A port in D3hot refuses a write carried to it, but for one of its management function (R225). -/
theorem State.carry_of_asleep {s : State} {f : Frame} {fid dest : Nat} (hfid : fid = s.selfFid) (hdest : dest < 64)
    (hkind : f.tlp.kind = .memWrite) (hshut : s.shut dest = false) (hsleep : s.asleep f dest = true)
    (hreq : f.tlp.reqId ≠ s.mgmtReqId (s.portPart dest)) : s.carry f fid dest = s.refuse f := by
  have hegress : s.egressTo f.ingress fid dest f.tlp.tc.val = some dest := if_pos hfid
  have hatomic : s.atomicBlocked f fid dest = false := by simp [State.atomicBlocked, hkind]
  rw [State.carry]
  subst hfid
  simp [hegress, hshut, hatomic, hsleep, hreq, Nat.not_le.mpr hdest]

/-- A refused posted write is discarded, and an ingress that is a link has no AER to report it (R26, R95). -/
theorem State.refuse_of_linkWrite {s : State} {f : Frame} (hkind : f.tlp.kind = .memWrite)
    (hingress : isPcie f.ingress = false) : s.refuse f = s := by
  have hposted : f.tlp.nonPosted = false := by simp [Tlp.nonPosted, Tlp.posted, hkind]
  simp [State.refuse, State.ingressError, hposted, hingress]

namespace SleepingDestination

/-- A write of one DW, whose requester ID is not that of a management function. -/
def write : Tlp where
  kind := .memWrite
  len := 4
  data := [0, 0, 0, 0]

/-- Link 2 is UP. Port 7 is the upstream port of partition 3, with its link up and its bridge in D3hot. -/
def state : State :=
  let s := (State.reset.setMode mFABRIC).fset (R.MFL_LINK_STS_STATE 2) lsUP
  let s := (s.fset (R.PEP_PORT_CTL_ROLE 7) 1).fset (R.PEP_PORT_CTL_PART 7) 3
  let s := s.setCfg (Fn.up 3).num cPmcsr 3
  { s with sw := { s.sw with ports := [(7, { up := true })] } }

/-- The header of the packet, under the number expected and the write's own furrow word. -/
def header : Nat := linkHeader 0 0 state.selfFid 7 1 (packetBytes (wireLen write) / 32) 0 false false false false false 0
  (bits write.tag.toNat 13 10) (furrow write).toNat

def body : List LineSlot := (bodySlots (packetBytes (wireLen write)) write.wire).map LineSlot.data

/-- The packet that carries the write from device 1 to port 7. -/
def packet : Instr :=
  .moabenPacketReceive 2 0 0 state.selfFid 7 1 (packetBytes (wireLen write) / 32) 0
    { bank := false, tagHi := bits write.tag.toNat 13 10 } (furrow write) body false (some write)

/-- The state once the packet has been accepted under its number. -/
def accepted : State := (state.rxPacket 2 0 false false).1

/-- The frame that the packet brings. -/
def frame : Frame := accepted.fabricFrame 2 write 7 1 false 0

/-- The state once the frame has been counted at its entry. -/
def entered : State := (accepted.linkFrame 66 write true).2.entered frame

/-- The state in which the frame is carried on. -/
def captured : State := entered.capture frame write false 7 false none

theorem receive_eq :
    exec packet state = (accepted.fabricIn 2 write accepted.selfFid 7 1 false false false 0).updateXoff.finish := by
  have hexec : exec packet state = state.receivePacket 2 ((headSlots header).map .data ++ body) false (some write) := rfl
  have hseq : bits header 11 0 = 0 := by decide +kernel
  have hfid : bits header 19 16 = accepted.selfFid := by decide +kernel
  have hdest : bits header 32 20 = 7 := by decide +kernel
  have hsrc : bits header 36 33 = 1 := by decide +kernel
  have hflags : bit header 52 = false ∧ bit header 50 = false ∧ bit header 49 = false ∧ bits header 48 45 = 0 := by
    decide +kernel
  obtain ⟨hmcast, hlive, hbank, hgate⟩ := hflags
  rw [hexec, State.receivePacket_of_whole (h := header), hseq, hfid, hdest, hsrc, hmcast, hlive, hbank, hgate]
  · rfl
  all_goals decide +kernel

/-- Port 7 refuses the write, for its bridge sleeps. -/
theorem fabricIn_eq : accepted.fabricIn 2 write accepted.selfFid 7 1 false false false 0 = captured := by
  have hin : accepted.fabricIn 2 write accepted.selfFid 7 1 false false false 0 = captured.carry frame accepted.selfFid 7 :=
    State.fabricIn_of_write rfl (by decide) rfl rfl (by decide +kernel) (by decide +kernel) (by decide +kernel)
  have hsleep : captured.asleep frame 7 = true := by decide +kernel
  rw [hin, State.carry_of_asleep (by decide +kernel) (by decide) rfl (by decide +kernel) hsleep (by decide +kernel)]
  exact State.refuse_of_linkWrite rfl rfl

theorem exec_eq : exec packet state = .next captured.updateXoff := by
  have hundef : captured.updateXoff.undef = none := by decide +kernel
  rw [receive_eq, fabricIn_eq, State.finish_of_undef_none hundef]

theorem frames_after : captured.sw.frames = [] := by decide +kernel

end SleepingDestination

open SleepingDestination in
/-- Refutes O24: in `SleepingDestination.state` the bridge of the destination is in D3hot, where it forwards no memory
request (R225), and the write is not in the buffer afterwards. -/
theorem not_fabricPackets : ¬ Obligations.FabricPackets := by
  intro h
  obtain ⟨hreceive, -⟩ := h
  obtain ⟨hstored, -⟩ := hreceive state 2 0 7 1 write false 0 (furrow write) (by decide) (by decide) (by decide)
    (by decide) (by decide +kernel) (by decide +kernel) (by decide +kernel) rfl (by decide +kernel) _ rfl _ rfl body rfl
  obtain ⟨t, ht, -, -, hcarries⟩ := hstored rfl (by decide +kernel) (by decide +kernel) (by decide +kernel)
    (by decide +kernel)
  obtain rfl : captured.updateXoff = t := Host.Outcome.next.inj (exec_eq.symm.trans ht)
  obtain ⟨f, hf, -⟩ := State.updateXoff_carriesTo.mp hcarries
  rw [frames_after] at hf
  exact absurd hf List.not_mem_nil

end Sys2Proof.Machine
end

section
/-! PROOFS. What events, counts, fired commits and steps of the time base leave alone (R36, R40, R136, R143). -/

namespace Sys2Proof.Machine

/-! ### Fields -/

theorem State.fget_lt (s : State) (f : Fld) : s.fget f < 2 ^ (f.hi - f.lo + 1) :=
  Nat.mod_lt _ (Nat.two_pow_pos _)

/-- A field reads as it was set to a value of its width. -/
theorem State.fget_fset_of_lt (s : State) {f : Fld} {v : Nat} (h : f.lo ≤ f.hi) (h' : f.hi < 32)
    (hv : v < 2 ^ (f.hi - f.lo + 1)) : (s.fset f v).fget f = v := by
  rw [State.fget_fset_same _ _ _ h h', Nat.mod_eq_of_lt hv]

theorem putBits_bits (v : Nat) {hi lo : Nat} (h : lo ≤ hi) : putBits v hi lo (bits v hi lo) = v := by
  apply Nat.eq_of_testBit_eq
  intro i
  rw [testBit_putBits _ _ _ _ _ h, testBit_bits]
  split
  · rename_i hi'
    rw [Nat.add_sub_cancel' hi'.1]
    simp
    omega
  · rfl

/-- A field set to what it holds leaves every register as it was. -/
theorem State.reg_fset_own (s : State) {f : Fld} (h : f.lo ≤ f.hi) (a : Nat) : (s.fset f (s.fget f)).reg a = s.reg a := by
  have hword : BitVec.ofNat 32 (putBits (s.reg f.addr).toNat f.hi f.lo (s.fget f)) = s.reg f.addr := by
    rw [State.fget, putBits_bits _ h, BitVec.ofNat_toNat, BitVec.setWidth_eq]
  rw [State.fset, hword, State.reg_setReg]
  split
  · next ha => rw [ha]
  · rfl

/-- Two registers read as the halves they were set to. -/
theorem State.reg_setPair (s : State) (lo hi v : Nat) (h : lo ≠ hi) :
    (s.setPair lo hi v).reg lo = BitVec.ofNat 32 v ∧ (s.setPair lo hi v).reg hi = BitVec.ofNat 32 (v / 2 ^ 32) :=
  ⟨(State.reg_setReg_ne h).trans (State.reg_setReg_same _ _ _), State.reg_setReg_same _ _ _⟩

/-! ### Counters and events -/

theorem State.evtWins_ctr_ne (s : State) {page a : Nat} (h : a ≠ page * 4096 + 0x800) :
    (s.evtWins page).ctr a = s.ctr a := by
  unfold State.evtWins
  extract_lets e s1 sts
  split
  · rfl
  · exact State.ctr_bumpBy_ne _ h _

/-- An event advances no counter but EVT_CLR_MISS of its page (R37) and those of messages that find no way (R106, R223). -/
theorem State.raise_ctr_ne (s : State) {page ev a : Nat} (hroute : a ≠ R.MAP_NOROUTE) (hflush : a ≠ R.BUF_FLUSH_P)
    (hmiss : a ≠ page * 4096 + 0x800) : (s.raise page ev).ctr a = s.ctr a := by
  unfold State.raise
  split
  · rw [(s.raiseAll_onlyPosts page (List.cons_ne_nil ev [])).ctr a hroute hflush,
      State.ctr_eq_of_ctrs (State.marked_ctrs s page), s.evtWins_ctr_ne hmiss]
  · rfl

theorem State.tbump_books (s : State) (page table index hi lo n : Nat) :
    (s.tbump page table index hi lo n).books = s.books := by
  unfold State.tbump
  split <;> rfl

theorem State.histRecord_books (s : State) (u v : Nat) : (s.histRecord u v).books = s.books := by
  have htset : ∀ (x : State) (page table index hi lo n : Nat), (x.tset page table index hi lo n).books = x.books :=
    fun _ _ _ _ _ _ _ => rfl
  rw [State.histRecord, State.tbump_books, State.tbump_books, htset, htset, State.tbump_books]

/-- A histogram's value goes to its tables. -/
theorem State.hist_books (s : State) (source port : Nat) (live : Bool) (v : Nat) :
    (s.hist source port live v).books = s.books := by
  unfold State.hist
  split
  · rfl
  · refine List.foldlRecOn _ _ (motive := fun t : State => t.books = s.books) rfl fun t ht u _ => ?_
    dsimp only
    split
    · exact (t.histRecord_books u v).trans ht
    · exact ht

/-! ### The sluice's frame -/

/-- The state without what the sluice's events, commits, edges and steps of the time base write. -/
def State.apart (s : State) : State :=
  { s.rest with tb := {}, gates := [], armInst := [], firing := [], rings := [] }

theorem State.apart_of_rest {s t : State} (h : t.rest = s.rest) : t.apart = s.apart := by
  unfold State.apart
  rw [h]

/-- Counters that the sluice's events and fired commits may advance: posted writes that find no way (R106, R223),
EVT_CLR_MISS of its page (R37) and flips (R143). -/
def sluiceCtrs : List Nat := [R.MAP_NOROUTE, R.BUF_FLUSH_P, 0x150 * 4096 + 0x800, R.SLU_FLIPS]

/-- What the sluice's operations keep: registers but those given and those that reports write, counters, the events of page
0x150, and the parts of the state that are not its own. -/
structure SluiceKeeps (regs : List Nat) (s t : State) : Prop where
  regs : KeepsRegs s t regs
  ctr : ∀ a, a ∉ sluiceCtrs → t.ctr a = s.ctr a
  alive : t.alive = s.alive
  event : s.alive = true → ∀ e, e < 16 → s.event 0x150 e = true → t.event 0x150 e = true
  apart : t.apart = s.apart

theorem SluiceKeeps.refl (regs : List Nat) (s : State) : SluiceKeeps regs s s :=
  ⟨fun _ _ _ => rfl, fun _ _ => rfl, rfl, fun _ _ _ h => h, rfl⟩

/-- Where no register changes, nor any counter but those of `sluiceCtrs`. -/
theorem SluiceKeeps.of_regs {regs : List Nat} {s t : State} (hregs : t.regs = s.regs)
    (hctr : ∀ a, a ∉ sluiceCtrs → t.ctr a = s.ctr a) (hapart : t.apart = s.apart) : SluiceKeeps regs s t where
  regs a _ _ := State.reg_eq_of_regs hregs a
  ctr := hctr
  alive := State.alive_eq_of_reg (State.reg_eq_of_regs hregs _)
  event _ e _ h := (State.event_of_reg (State.reg_eq_of_regs hregs _) e).trans h
  apart := hapart

theorem SluiceKeeps.mono {rs rs' : List Nat} {s t : State} (h : SluiceKeeps rs s t) (hrs : rs ⊆ rs') :
    SluiceKeeps rs' s t :=
  ⟨fun a ha hne => h.regs a ha fun hmem => hne (hrs hmem), h.ctr, h.alive, h.event, h.apart⟩

theorem SluiceKeeps.trans {rs : List Nat} {s t u : State} (h : SluiceKeeps rs s t) (h' : SluiceKeeps rs t u) :
    SluiceKeeps rs s u where
  regs := h.regs.trans h'.regs
  ctr a ha := (h'.ctr a ha).trans (h.ctr a ha)
  alive := h'.alive.trans h.alive
  event hal e he hset := h'.event (h.alive.trans hal) e he (h.event hal e he hset)
  apart := h'.apart.trans h.apart

theorem SluiceKeeps.foldl {α : Type} {rs : List Nat} {f : State → α → State} (h : ∀ s x, SluiceKeeps rs s (f s x))
    (l : List α) (s : State) : SluiceKeeps rs s (l.foldl f s) :=
  List.foldlRecOn l f (motive := SluiceKeeps rs s) (.refl rs s) fun t ht x _ => ht.trans (h t x)

theorem SluiceKeeps.ite {c : Prop} [Decidable c] {rs : List Nat} {s t u : State} (ht : SluiceKeeps rs s t)
    (hu : SluiceKeeps rs s u) : SluiceKeeps rs s (if c then t else u) := by
  split <;> assumption

section Fields
variable {rs : List Nat} {s t : State} (h : SluiceKeeps rs s t)
include h

theorem SluiceKeeps.fget {f : Fld} (hf : statusReg f.addr = false) (hne : f.addr ∉ rs) : t.fget f = s.fget f :=
  State.fget_of_reg (h.regs _ hf hne)

theorem SluiceKeeps.flag {f : Fld} (hf : statusReg f.addr = false) (hne : f.addr ∉ rs) : t.flag f = s.flag f := by
  rw [State.flag, h.fget hf hne, State.flag]

theorem SluiceKeeps.now : t.now = s.now := congrArg (·.now) h.apart

theorem SluiceKeeps.fs : t.fs = s.fs := congrArg (·.fs) h.apart

theorem SluiceKeeps.link (l : Nat) : t.link l = s.link l := congrArg (·.link l) h.apart

/-- A counter that the operation leaves alone counts what was counted before it. -/
theorem SluiceKeeps.counted {u : State} {a : Nat} (ha : a ∉ sluiceCtrs) (hcount : Counted u s a) : Counted u t a :=
  (h.ctr a ha).trans hcount

end Fields

/-! ### Single operations -/

theorem State.raise_sluiceKeeps (s : State) (ev : Nat) (hev : ev < 16) : SluiceKeeps [] s (s.raise 0x150 ev) where
  regs a ha _ := s.raise_reg _ _ ha
  ctr a ha := by
    simp only [sluiceCtrs, List.mem_cons, List.not_mem_nil, or_false, not_or] at ha
    obtain ⟨hroute, hflush, hmiss, -⟩ := ha
    exact s.raise_ctr_ne hroute hflush hmiss
  alive := (s.raise_sameRegs _ _).alive
  event hal _ he := State.raise_event_of_event hal hev he
  apart := State.apart_of_rest (s.raise_rest _ _)

theorem State.hist_sluiceKeeps (s : State) (source port : Nat) (live : Bool) (v : Nat) :
    SluiceKeeps [] s (s.hist source port live v) :=
  have hbooks := Prod.ext_iff.mp (s.hist_books source port live v)
  .of_regs hbooks.1 (fun a _ => State.ctr_eq_of_ctrs hbooks.2 a) (State.apart_of_rest (s.hist_rest _ _ _ _))

/-- A register set that is neither the mode nor the EVT_STS of the page. -/
theorem State.setReg_sluiceKeeps (s : State) {a : Nat} (v : W32) (hmode : R.DEV_MODE ≠ a)
    (hsts : 0x150 * 4096 + 0x10 ≠ a) : SluiceKeeps [a] s (s.setReg a v) where
  regs b _ hb := State.reg_setReg_ne (by simpa using hb)
  ctr _ _ := rfl
  alive := State.alive_eq_of_reg (State.reg_setReg_ne hmode)
  event _ e _ hset := (State.event_of_reg (State.reg_setReg_ne hsts) e).trans hset
  apart := rfl

theorem State.fset_sluiceKeeps (s : State) {f : Fld} (v : Nat) (hmode : R.DEV_MODE ≠ f.addr)
    (hsts : 0x150 * 4096 + 0x10 ≠ f.addr) : SluiceKeeps [f.addr] s (s.fset f v) :=
  s.setReg_sluiceKeeps _ hmode hsts

end Sys2Proof.Machine
end

section
/-! PROOFS. Commits that fire (R141, R143) and steps of the time base (R136): what they do to banks, slots and time. -/

namespace Sys2Proof.Machine

/-! ### The register of an arm slot -/

theorem statusReg_armCtl {g k : Nat} (hg : g < 16) (hk : k < 4) : statusReg (R.SLU_ARM_CTL g k) = false := by
  simp only [statusReg, R.SLU_ARM_CTL, Bool.or_eq_false_iff, beq_eq_false_iff_ne]
  omega

/-! ### One commit -/

theorem State.pushFired_latestBank (s : State) (g : Nat) (c : Fired) (h : Nat) :
    (s.pushFired g c).latestBank h = if h = g then c.bank else s.latestBank h := by
  have hget := storeGet_storePut (fun _ => []) g h (c :: storeGet [] s.gates g) s.gates
  unfold State.latestBank State.pushFired
  rw [hget]
  by_cases hh : h = g
  · rw [if_pos hh, if_pos hh]
  · rw [if_neg hh, if_neg hh]

section FireSlot
variable (s : State) (g k t : Nat)

theorem State.fireSlot_regs : (s.fireSlot g k t).regs = s.regs := by
  unfold State.fireSlot
  extract_lets b was s1 s2
  split
  · rfl
  · exact State.bump_regs _ _

theorem State.fireSlot_rest : (s.fireSlot g k t).rest =
    { s.rest with
      gates := storePut [] g ({ instant := t, bank := s.flag (R.SLU_ARM_CTL_BANK g k), era := s.tb.era } ::
        storeGet [] s.gates g) s.gates
      firing := s.firing ++ [4 * g + k] } := by
  unfold State.fireSlot
  extract_lets b was s1 s2
  split
  · rfl
  · exact State.bump_rest _ _

theorem State.fireSlot_firing : (s.fireSlot g k t).firing = s.firing ++ [4 * g + k] :=
  congrArg (·.firing) (s.fireSlot_rest g k t)

theorem State.fireSlot_latestBank (h : Nat) :
    (s.fireSlot g k t).latestBank h = if h = g then s.flag (R.SLU_ARM_CTL_BANK g k) else s.latestBank h :=
  (congrArg (·.latestBank h) (s.fireSlot_rest g k t)).trans (State.pushFired_latestBank s g _ h)

theorem State.fireSlot_sluiceKeeps : SluiceKeeps [] s (s.fireSlot g k t) := by
  refine .of_regs (s.fireSlot_regs g k t) (fun a ha => ?_) ?_
  · have hflips : a ≠ R.SLU_FLIPS := fun h => ha (by simp [h, sluiceCtrs])
    unfold State.fireSlot
    extract_lets b was s1 s2
    split
    · rfl
    · exact State.ctr_bump_ne s2 hflips
  · exact congrArg (fun r : State => { r with tb := {}, gates := [], armInst := [], firing := [], rings := [] })
      (s.fireSlot_rest g k t)

/-- A commit that changes its group's bank is a flip (R143). -/
theorem State.fireSlot_counted (hal : s.alive = true) (h : s.latestBank g ≠ s.flag (R.SLU_ARM_CTL_BANK g k)) :
    Counted s (s.fireSlot g k t) R.SLU_FLIPS := by
  unfold State.fireSlot
  extract_lets b was s1 s2
  rw [if_neg h]
  exact State.ctr_bump_same (s := s2) hal _

end FireSlot

/-! ### The commits of a group -/

section FireAll
variable (s : State) (g : Nat) (xs : List (Nat × Nat))

/-- The commits given, one after another. -/
def State.fireList : State := xs.foldl (fun s x => s.fireSlot g x.2 x.1) s

theorem State.fireAll_eq :
    s.fireAll g xs = if 2 ≤ xs.length then (s.fireList g xs).raise 0x150 5 else s.fireList g xs := rfl

theorem State.fireList_concat (x : Nat × Nat) : s.fireList g (xs ++ [x]) = (s.fireList g xs).fireSlot g x.2 x.1 :=
  List.foldl_concat _ _ _ _

theorem State.fireList_sluiceKeeps : SluiceKeeps [] s (s.fireList g xs) :=
  List.foldlRecOn xs _ (motive := SluiceKeeps [] s) (.refl [] s)
    fun t ht x _ => ht.trans (t.fireSlot_sluiceKeeps g x.2 x.1)

theorem State.fireAll_sluiceKeeps : SluiceKeeps [] s (s.fireAll g xs) := by
  have h := s.fireList_sluiceKeeps g xs
  exact .ite (h.trans (State.raise_sluiceKeeps _ 5 (by decide))) h

/-- Beside registers and counters, a report changes nothing of the sluice, so its slots and banks are as the commits leave
them. -/
theorem State.fireAll_rest : (s.fireAll g xs).rest = (s.fireList g xs).rest := by
  rw [State.fireAll_eq]
  split
  · exact State.raise_rest _ _ _
  · rfl

theorem State.fireAll_firing : (s.fireAll g xs).firing = s.firing ++ xs.map (4 * g + ·.2) := by
  have hall : (s.fireAll g xs).firing = (s.fireList g xs).firing := congrArg (·.firing) (s.fireAll_rest g xs)
  rw [hall]
  induction xs using List.reverseRecOn with
  | nil => exact (List.append_nil _).symm
  | append_singleton xs x ih =>
    rw [State.fireList_concat, State.fireSlot_firing, ih (congrArg (·.firing) (s.fireAll_rest g xs))]
    simp

theorem State.fireList_tb_armInst : (s.fireList g xs).tb = s.tb ∧ (s.fireList g xs).armInst = s.armInst :=
  List.foldlRecOn xs _ (motive := fun t : State => t.tb = s.tb ∧ t.armInst = s.armInst) ⟨rfl, rfl⟩ fun t ht x _ =>
    have hrest := t.fireSlot_rest g x.2 x.1
    ⟨(congrArg (·.tb) hrest).trans ht.1, (congrArg (·.armInst) hrest).trans ht.2⟩

theorem State.fireAll_tb : (s.fireAll g xs).tb = s.tb :=
  (congrArg (·.tb) (s.fireAll_rest g xs)).trans (s.fireList_tb_armInst g xs).1

theorem State.fireAll_armInst : (s.fireAll g xs).armInst = s.armInst :=
  (congrArg (·.armInst) (s.fireAll_rest g xs)).trans (s.fireList_tb_armInst g xs).2

/-- The last commit selects the group's bank (R143). -/
theorem State.fireAll_latestBank (h : Nat) : (s.fireAll g xs).latestBank h =
    if h = g then xs.getLast?.elim (s.latestBank g) (fun x => s.flag (R.SLU_ARM_CTL_BANK g x.2)) else s.latestBank h := by
  have hall : (s.fireAll g xs).latestBank h = (s.fireList g xs).latestBank h :=
    congrArg (·.latestBank h) (s.fireAll_rest g xs)
  have hregs : ∀ ys, (s.fireList g ys).regs = s.regs := fun ys =>
    List.foldlRecOn ys _ (motive := fun t : State => t.regs = s.regs) rfl
      fun t ht x _ => (t.fireSlot_regs g x.2 x.1).trans ht
  rw [hall]
  induction xs using List.reverseRecOn with
  | nil =>
    split
    · next hg => rw [hg]; rfl
    · rfl
  | append_singleton xs x ih =>
    rw [State.fireList_concat, State.fireSlot_latestBank, List.getLast?_concat]
    split
    · rw [State.flag, State.fget_of_reg (State.reg_eq_of_regs (hregs xs) _), Option.elim_some, State.flag]
    · next hg =>
      rw [ih (congrArg (·.latestBank h) (s.fireAll_rest g xs)), if_neg hg]

/-- Two commits of one group in one core cycle raise event 5 (R143). -/
theorem State.fireAll_event (hal : s.alive = true) (h : 2 ≤ xs.length) : (s.fireAll g xs).event 0x150 5 = true := by
  rw [State.fireAll_eq, if_pos h]
  exact State.raise_event_same ((s.fireList_sluiceKeeps g xs).alive.trans hal) (by decide)

end FireAll

/-! ### Slots that are due -/

theorem State.mem_dueSlots {s : State} {g limit : Nat} {x : Nat × Nat} :
    x ∈ s.dueSlots g limit ↔ x.2 < 4 ∧ s.waitingSlot g x.2 = true ∧ s.instantOf g x.2 = some x.1 ∧ x.1 ≤ limit := by
  obtain ⟨t, k⟩ := x
  simp only [State.dueSlots, List.mem_filterMap, upTo, List.mem_range]
  constructor
  · rintro ⟨j, hj, hdue⟩
    split at hdue
    · split at hdue
      · split at hdue
        · simp only [Option.some.injEq, Prod.mk.injEq] at hdue
          obtain ⟨rfl, rfl⟩ := hdue
          exact ⟨hj, ‹_›, ‹_›, ‹_›⟩
        · cases hdue
      · cases hdue
    · cases hdue
  · rintro ⟨hk, hwait, hinst, hle⟩
    refine ⟨k, hk, ?_⟩
    simp [hwait, hinst, hle]

theorem State.dueSlots_congr {s t : State} {g : Nat} (hwait : ∀ k, k < 4 → t.waitingSlot g k = s.waitingSlot g k)
    (harm : t.armInst = s.armInst) (limit : Nat) : t.dueSlots g limit = s.dueSlots g limit := by
  refine List.filterMap_congr fun k hk => ?_
  rw [hwait k (List.mem_range.mp hk), State.instantOf, harm, State.instantOf]

/-- Slots wait as before where the registers of the arms and the slots that have fired are the same. -/
theorem SluiceKeeps.waitingSlot {rs : List Nat} {s t : State} (h : SluiceKeeps rs s t) {g k : Nat} (hg : g < 16)
    (hk : k < 4) (hrs : R.SLU_ARM_CTL g k ∉ rs) (hfiring : 4 * g + k ∈ t.firing ↔ 4 * g + k ∈ s.firing) :
    t.waitingSlot g k = s.waitingSlot g k := by
  have hstate : t.armState g k = s.armState g k := h.fget (statusReg_armCtl hg hk) hrs
  simp [State.waitingSlot, hstate, hfiring]

/-! ### All groups in one core cycle -/

/-- The state once the groups below `n` have fired what is due. -/
def State.firedBelow (s : State) (n : Nat) : State :=
  (upTo n).foldl (fun u g => u.fireAll g (u.dueSlots g u.time80)) s

theorem State.fireDue_eq (s : State) : s.fireDue = s.firedBelow 16 := rfl

theorem State.firedBelow_succ (s : State) (n : Nat) : s.firedBelow (n + 1) =
    (s.firedBelow n).fireAll n ((s.firedBelow n).dueSlots n (s.firedBelow n).time80) := by
  rw [State.firedBelow, upTo, List.range_succ, List.foldl_concat]
  rfl

theorem State.firedBelow_sluiceKeeps (s : State) (n : Nat) : SluiceKeeps [] s (s.firedBelow n) :=
  .foldl (fun u g => u.fireAll_sluiceKeeps g _) _ s

theorem State.fireDue_sluiceKeeps (s : State) : SluiceKeeps [] s s.fireDue := s.firedBelow_sluiceKeeps 16

theorem State.firedBelow_tb (s : State) (n : Nat) : (s.firedBelow n).tb = s.tb :=
  List.foldlRecOn _ _ (motive := fun t : State => t.tb = s.tb) rfl fun t ht g _ => (t.fireAll_tb g _).trans ht

theorem State.firedBelow_armInst (s : State) (n : Nat) : (s.firedBelow n).armInst = s.armInst :=
  List.foldlRecOn _ _ (motive := fun t : State => t.armInst = s.armInst) rfl
    fun t ht g _ => (t.fireAll_armInst g _).trans ht

section FiredBelow
variable (s : State)

/-- The slots that fire are those due at first: a group's commits leave the slots of later groups waiting. -/
theorem State.firedBelow_firing_dueSlots {n : Nat} (hn : n ≤ 16) :
    (s.firedBelow n).firing = s.firing ++ (upTo n).flatMap (fun h => (s.dueSlots h s.time80).map (4 * h + ·.2)) ∧
      ∀ g, n ≤ g → g < 16 → (s.firedBelow n).dueSlots g (s.firedBelow n).time80 = s.dueSlots g s.time80 := by
  have hdue : ∀ {n : Nat}, (s.firedBelow n).firing =
      s.firing ++ (upTo n).flatMap (fun h => (s.dueSlots h s.time80).map (4 * h + ·.2)) →
      ∀ g, n ≤ g → g < 16 → (s.firedBelow n).dueSlots g (s.firedBelow n).time80 = s.dueSlots g s.time80 := by
    intro n hfiring g hng hg
    rw [State.time80, s.firedBelow_tb, ← State.time80]
    refine State.dueSlots_congr (fun k hk => ?_) (s.firedBelow_armInst n) _
    refine (s.firedBelow_sluiceKeeps n).waitingSlot hg hk List.not_mem_nil ?_
    rw [hfiring, List.mem_append, or_iff_left]
    simp only [List.mem_flatMap, List.mem_map, upTo, List.mem_range, not_exists, not_and]
    intro h hh x hx
    obtain ⟨hlt, -⟩ := State.mem_dueSlots.mp hx
    omega
  induction n with
  | zero => exact ⟨by simp [State.firedBelow, upTo], fun g _ _ => rfl⟩
  | succ n ih =>
    obtain ⟨hfiring, hsame⟩ := ih (by omega)
    have hnext : (s.firedBelow (n + 1)).firing =
        s.firing ++ (upTo (n + 1)).flatMap (fun h => (s.dueSlots h s.time80).map (4 * h + ·.2)) := by
      rw [State.firedBelow_succ, State.fireAll_firing, hsame n le_rfl (by omega), hfiring]
      simp [upTo, List.range_succ]
    exact ⟨hnext, hdue hnext⟩

theorem State.firedBelow_succ_due {n : Nat} (hn : n < 16) :
    s.firedBelow (n + 1) = (s.firedBelow n).fireAll n (s.dueSlots n s.time80) := by
  rw [State.firedBelow_succ, (s.firedBelow_firing_dueSlots hn.le).2 n le_rfl hn]

theorem State.mem_fireDue_firing {h : Nat} (hh : h < 16) {x : Nat × Nat} (hx : x ∈ s.dueSlots h s.time80) :
    4 * h + x.2 ∈ s.fireDue.firing := by
  rw [State.fireDue_eq, (s.firedBelow_firing_dueSlots le_rfl).1]
  refine List.mem_append_right _ (List.mem_flatMap.mpr ⟨h, List.mem_range.mpr hh, List.mem_map.mpr ⟨x, hx, rfl⟩⟩)

theorem State.firedBelow_latestBank {n : Nat} (hn : n ≤ 16) {h : Nat} (hh : h < 16) : (s.firedBelow n).latestBank h =
    if h < n then (s.dueSlots h s.time80).getLast?.elim (s.latestBank h) (fun x => s.flag (R.SLU_ARM_CTL_BANK h x.2))
    else s.latestBank h := by
  induction n with
  | zero => rfl
  | succ n ih =>
    have ih := ih (by omega)
    rw [s.firedBelow_succ_due hn, State.fireAll_latestBank]
    obtain hlt | rfl | hgt := Nat.lt_trichotomy h n
    · rw [if_neg hlt.ne, ih, if_pos hlt, if_pos (by omega)]
    · rw [if_pos rfl, ih, if_neg (lt_irrefl h), if_pos (Nat.lt_succ_self h)]
      cases hlast : (s.dueSlots h s.time80).getLast? with
      | none => rfl
      | some x =>
        obtain ⟨hk, -⟩ := State.mem_dueSlots.mp (List.mem_of_getLast? hlast)
        exact (s.firedBelow_sluiceKeeps h).flag (f := R.SLU_ARM_CTL_BANK h x.2) (statusReg_armCtl hh hk) List.not_mem_nil
    · rw [if_neg (by omega), ih, if_neg (by omega), if_neg (by omega)]

theorem State.fireDue_event (hal : s.alive = true) {g : Nat} (hg : g < 16) (h : 2 ≤ (s.dueSlots g s.time80).length) :
    s.fireDue.event 0x150 5 = true := by
  have hbelow : ∀ n, n ≤ 16 → g < n → (s.firedBelow n).event 0x150 5 = true := by
    intro n hn hgn
    induction n with
    | zero => omega
    | succ n ih =>
      have halive : (s.firedBelow n).alive = true := (s.firedBelow_sluiceKeeps n).alive.trans hal
      rw [s.firedBelow_succ_due hn]
      obtain hlt | rfl := Nat.lt_succ_iff_lt_or_eq.mp hgn
      · exact (State.fireAll_sluiceKeeps _ _ _).event halive 5 (by decide) (ih (by omega) hlt)
      · exact State.fireAll_event _ _ _ halive h
  exact hbelow 16 le_rfl hg

/-- Where one slot alone is due, it alone fires. -/
theorem State.fireDue_of_only {g : Nat} (hg : g < 16) {x : Nat × Nat} (hx : s.dueSlots g s.time80 = [x])
    (hnone : ∀ h, h < 16 → h ≠ g → s.dueSlots h s.time80 = []) : s.fireDue = s.fireSlot g x.2 x.1 := by
  have hbelow : ∀ n, n ≤ 16 → s.firedBelow n = if n ≤ g then s else s.fireSlot g x.2 x.1 := by
    intro n hn
    induction n with
    | zero => exact (if_pos (Nat.zero_le g)).symm
    | succ n ih =>
      rw [s.firedBelow_succ_due hn, ih (by omega)]
      obtain hlt | rfl | hgt := Nat.lt_trichotomy n g
      · rw [hnone n (by omega) hlt.ne, if_pos hlt.le, if_pos (Nat.succ_le_of_lt hlt)]
        rfl
      · rw [hx, if_pos le_rfl, if_neg (by omega)]
        rfl
      · rw [hnone n (by omega) hgt.ne', if_neg (by omega), if_neg (by omega)]
        rfl
  rw [State.fireDue_eq, hbelow 16 le_rfl, if_neg (by omega)]

end FiredBelow

/-! ### Steps of the time base -/

/-- The commits that a step to `v` passes over, fired (R136). -/
def State.passedOver (s : State) (v : Nat) : State :=
  (upTo 16).foldl (fun s g => s.fireAll g ((s.dueSlots g v).foldr insertDue [])) s

/-- The time base set, in an era of its own. -/
def State.setTime (s : State) (v : Nat) : State :=
  { s with tb := { s.tb with time := BitVec.ofNat 80 v, sub := 0, era := s.tb.era + 1 } }

theorem State.stepTime_eq (s : State) (v : Nat) : s.stepTime v = ((s.passedOver v).setTime v).raise 0x150 6 := rfl

section StepTime
variable (s : State) (v : Nat)

theorem State.passedOver_sluiceKeeps : SluiceKeeps [] s (s.passedOver v) :=
  .foldl (fun u g => u.fireAll_sluiceKeeps g _) _ s

theorem State.passedOver_tb : (s.passedOver v).tb = s.tb :=
  List.foldlRecOn _ _ (motive := fun t : State => t.tb = s.tb) rfl fun t ht g _ => (t.fireAll_tb g _).trans ht

theorem State.setTime_sluiceKeeps : SluiceKeeps [] s (s.setTime v) := .of_regs rfl (fun _ _ => rfl) rfl

theorem State.passedOver_setTime_sluiceKeeps : SluiceKeeps [] s ((s.passedOver v).setTime v) :=
  (s.passedOver_sluiceKeeps v).trans (State.setTime_sluiceKeeps _ v)

theorem State.stepTime_sluiceKeeps : SluiceKeeps [] s (s.stepTime v) := by
  rw [State.stepTime_eq]
  exact (s.passedOver_setTime_sluiceKeeps v).trans (State.raise_sluiceKeeps _ 6 (by decide))

theorem State.stepTime_tb :
    (s.stepTime v).tb = { s.tb with time := BitVec.ofNat 80 v, sub := 0, era := s.tb.era + 1 } := by
  have hraise : (((s.passedOver v).setTime v).raise 0x150 6).tb = ((s.passedOver v).setTime v).tb :=
    congrArg (·.tb) (State.raise_rest _ 0x150 6)
  rw [State.stepTime_eq, hraise, State.setTime, s.passedOver_tb]

theorem State.stepTime_event (hal : s.alive = true) : (s.stepTime v).event 0x150 6 = true := by
  rw [State.stepTime_eq]
  exact State.raise_event_same ((s.passedOver_setTime_sluiceKeeps v).alive.trans hal) (by decide)

end StepTime

end Sys2Proof.Machine
end

section
/-! PROOFS. ARM, CANCEL, COMMIT_FIRE, SLOT_FIRED and GATE_FORCE (R141 to R146). -/

namespace Sys2Proof.Machine

/-! ### The fields of an arm slot -/

section ArmRegister
variable (s : State) (g k : Nat)

/-- KIND and BANK of a slot written (R142). -/
def State.armFields (kind : Nat) (bank : Bool) : State :=
  (s.fset (R.SLU_ARM_CTL_KIND g k) kind).fset (R.SLU_ARM_CTL_BANK g k) (ofBool bank)

/-- STATE and CAUSE of a slot written. -/
def State.setArm (st cause : Nat) : State :=
  (s.fset (R.SLU_ARM_CTL_STATE g k) st).fset (R.SLU_ARM_CTL_CAUSE g k) cause

theorem armCtl_ne : R.DEV_MODE ≠ R.SLU_ARM_CTL g k ∧ 0x150 * 4096 + 0x10 ≠ R.SLU_ARM_CTL g k := by
  simp only [R.SLU_ARM_CTL, R.DEV_MODE]
  omega

theorem State.fset_armCtl_sluiceKeeps {f : Fld} (hf : f.addr = R.SLU_ARM_CTL g k) (v : Nat) :
    SluiceKeeps [R.SLU_ARM_CTL g k] s (s.fset f v) := by
  have hne := armCtl_ne g k
  rw [← hf] at hne ⊢
  exact s.fset_sluiceKeeps v hne.1 hne.2

theorem State.armFields_sluiceKeeps (kind : Nat) (bank : Bool) :
    SluiceKeeps [R.SLU_ARM_CTL g k] s (s.armFields g k kind bank) :=
  (s.fset_armCtl_sluiceKeeps g k rfl _).trans (State.fset_armCtl_sluiceKeeps _ g k rfl _)

theorem State.setArm_sluiceKeeps (st cause : Nat) : SluiceKeeps [R.SLU_ARM_CTL g k] s (s.setArm g k st cause) :=
  (s.fset_armCtl_sluiceKeeps g k rfl _).trans (State.fset_armCtl_sluiceKeeps _ g k rfl _)

theorem State.armFields_reg (kind : Nat) (bank : Bool) {a : Nat} (ha : a ≠ R.SLU_ARM_CTL g k) :
    (s.armFields g k kind bank).reg a = s.reg a :=
  (State.reg_fset_ne ha).trans (State.reg_fset_ne ha)

theorem State.setArm_reg (st cause : Nat) {a : Nat} (ha : a ≠ R.SLU_ARM_CTL g k) :
    (s.setArm g k st cause).reg a = s.reg a :=
  (State.reg_fset_ne ha).trans (State.reg_fset_ne ha)

theorem State.armFields_armKind {kind : Nat} (hkind : kind < 2) (bank : Bool) :
    (s.armFields g k kind bank).armKind g k = kind := by
  rw [State.armKind, State.armFields, State.fget_fset_ne _ _ _ _ (le_refl 3) (le_refl 2) (by decide : (2 : Nat) < 32)
    (.inl (by decide : (2 : Nat) < 3))]
  exact s.fget_fset_of_lt (le_refl 2) (by decide : (2 : Nat) < 32) hkind

theorem State.armFields_bank (kind : Nat) (bank : Bool) :
    (s.armFields g k kind bank).flag (R.SLU_ARM_CTL_BANK g k) = bank := by
  have hlt : ofBool bank < 2 := by cases bank <;> decide
  have hbank : (s.armFields g k kind bank).fget (R.SLU_ARM_CTL_BANK g k) = ofBool bank :=
    State.fget_fset_of_lt _ (le_refl 3) (by decide : (3 : Nat) < 32) hlt
  rw [State.flag, hbank]
  cases bank <;> rfl

theorem State.setArm_armState {st : Nat} (hst : st < 8) (cause : Nat) : (s.setArm g k st cause).armState g k = st := by
  rw [State.armState, State.setArm, State.fget_fset_ne _ _ _ _ (by decide : (8 : Nat) ≤ 9) (by decide : (4 : Nat) ≤ 6)
    (by decide : (6 : Nat) < 32) (.inl (by decide : (6 : Nat) < 8))]
  exact s.fget_fset_of_lt (by decide : (4 : Nat) ≤ 6) (by decide : (6 : Nat) < 32) hst

theorem State.setArm_cause (st : Nat) {cause : Nat} (hc : cause < 4) :
    (s.setArm g k st cause).fget (R.SLU_ARM_CTL_CAUSE g k) = cause :=
  State.fget_fset_of_lt _ (by decide : (8 : Nat) ≤ 9) (by decide : (9 : Nat) < 32) hc

/-- The fields below STATE are left alone. -/
theorem State.setArm_fget (st cause : Nat) {hi lo : Nat} (h : lo ≤ hi) (hhi : hi < 4) :
    (s.setArm g k st cause).fget ⟨R.SLU_ARM_CTL g k, hi, lo⟩ = s.fget ⟨R.SLU_ARM_CTL g k, hi, lo⟩ :=
  (State.fget_fset_ne _ _ ⟨_, hi, lo⟩ _ (by decide : (8 : Nat) ≤ 9) h (by omega : hi < 32)
    (.inl (by omega : hi < 8))).trans
    (State.fget_fset_ne _ _ ⟨_, hi, lo⟩ _ (by decide : (4 : Nat) ≤ 6) h (by omega : hi < 32) (.inl (by omega : hi < 4)))

theorem State.instantOf_setInstant (t : Option Nat) : (s.setInstant g k t).instantOf g k = t :=
  storeGet_storePut_same _ _ _ _

theorem State.armTime_of_reg {t : State} (h : ∀ a, a ≠ R.SLU_ARM_CTL g k → t.reg a = s.reg a) :
    t.armTime g k = s.armTime g k := by
  have hne : R.SLU_ARM_W0 g k ≠ R.SLU_ARM_CTL g k ∧ R.SLU_ARM_W1 g k ≠ R.SLU_ARM_CTL g k ∧
      R.SLU_ARM_W2 g k ≠ R.SLU_ARM_CTL g k := by
    simp only [R.SLU_ARM_W0, R.SLU_ARM_W1, R.SLU_ARM_W2, R.SLU_ARM_CTL]
    omega
  obtain ⟨h0, h1, h2⟩ := hne
  rw [State.armTime, h _ h0, h _ h1, State.fget_of_reg (f := R.SLU_ARM_W2_FRAC g k) (h _ h2), State.armTime]

/-! ### Why an arm is refused (R142) -/

theorem State.armCause_of_mode (h : s.mode ∈ [mLIMP, mSAFE, mDIAGNOSTIC]) : s.armCause g k = some 3 :=
  if_pos (by simpa using h)

theorem State.armCause_of_late (hmode : s.mode ∉ [mLIMP, mSAFE, mDIAGNOSTIC]) (hkind : s.armKind g k = 0)
    (hlate : s.armTime g k < s.time80 + 1000 * 65536) : s.armCause g k = some 1 := by
  have hmode' : ¬ (s.mode = mLIMP ∨ s.mode = mSAFE ∨ s.mode = mDIAGNOSTIC) := by simpa using hmode
  rw [State.armCause, if_neg hmode']
  simp only [hkind, hlate]
  rfl

theorem State.armCause_lt {c : Nat} (h : s.armCause g k = some c) : c < 4 := by
  unfold State.armCause at h
  extract_lets m late at h
  split at h
  · cases h; decide
  · split at h
    · cases h; decide
    · split at h
      · cases h; decide
      · cases h

end ArmRegister

/-! ### ARM -/

/-- The word that ARM writes to SLU_ARM_CTL. -/
theorem armWord {kind : Nat} (hkind : kind < 2) (bank : Bool) :
    bit (1 + kind % 2 * 4 + ofBool bank * 8) 0 = true ∧ bit (1 + kind % 2 * 4 + ofBool bank * 8) 1 = false ∧
      bits (1 + kind % 2 * 4 + ofBool bank * 8) 2 2 = kind ∧
      bits (1 + kind % 2 * 4 + ofBool bank * 8) 3 3 = ofBool bank := by
  cases bank <;> interval_cases kind <;> decide

section Arm
variable {s : State} {g k kind : Nat} (hg : g < 16) (hk : k < 4) (hkind : kind < 2) (bank : Bool)
include hg hk

theorem exec_arm : exec (.arm g k kind bank) s =
    .next (s.writeArmCtl g k (1 + kind % 2 * 4 + ofBool bank * 8)) := by
  change execArm g k kind bank s = _
  rw [execArm, Nat.mod_eq_of_lt hg, Nat.mod_eq_of_lt hk]

include hkind

theorem arm_does_collide (hal : s.alive = true) (harmed : s.armState g k = asARMED) :
    Does (.arm g k kind bank) s fun t => Counted s t R.SLU_ARM_COLLIDE ∧ t.regs = s.regs ∧ t.armInst = s.armInst ∧
      t.vault = s.vault := by
  obtain ⟨-, hcancel, -⟩ := armWord hkind bank
  have hexec : exec (.arm g k kind bank) s = .next (s.bump R.SLU_ARM_COLLIDE) := by
    rw [exec_arm hg hk, State.writeArmCtl, if_pos harmed, hcancel]
    rfl
  exact ⟨_, hexec, State.ctr_bump_same hal _, State.bump_regs _ _, State.bump_armInst _ _, State.bump_vault _ _⟩

variable (harmed : s.armState g k ≠ asARMED)
include harmed

theorem exec_arm_of_refused {c : Nat} (hc : (s.armFields g k kind bank).armCause g k = some c) :
    exec (.arm g k kind bank) s =
      .next ((((s.armFields g k kind bank).setArm g k asREFUSED c).bump R.SLU_ARM_REFUSED).raise 0x150 1) := by
  obtain ⟨harm, -, hword, hbank⟩ := armWord hkind bank
  rw [exec_arm hg hk, State.writeArmCtl, if_neg harmed, harm, hword, hbank]
  unfold State.armFields at hc ⊢
  simp only [Bool.not_true, Bool.false_eq_true, if_false, hc]
  rfl

theorem exec_arm_of_accepted (hc : (s.armFields g k kind bank).armCause g k = none) :
    exec (.arm g k kind bank) s = .next (((s.armFields g k kind bank).setArm g k asARMED 0).setInstant g k
      (if ((s.armFields g k kind bank).setArm g k asARMED 0).armKind g k = 0 then
        some (((s.armFields g k kind bank).setArm g k asARMED 0).armTime g k) else none)) := by
  obtain ⟨harm, -, hword, hbank⟩ := armWord hkind bank
  rw [exec_arm hg hk, State.writeArmCtl, if_neg harmed, harm, hword, hbank]
  unfold State.armFields at hc ⊢
  simp only [Bool.not_true, Bool.false_eq_true, if_false, hc]
  rfl

theorem arm_does_refuse (hal : s.alive = true) {c : Nat} (hc : (s.armFields g k kind bank).armCause g k = some c) :
    Does (.arm g k kind bank) s fun t => t.armState g k = asREFUSED ∧
      t.fget (R.SLU_ARM_CTL_CAUSE g k) = c ∧ Counted s t R.SLU_ARM_REFUSED ∧ t.event 0x150 1 = true ∧
      t.armInst = s.armInst ∧ KeepsRegs s t [R.SLU_ARM_CTL g k] ∧ t.vault = s.vault := by
  have hexec := exec_arm_of_refused hg hk hkind bank harmed hc
  generalize hu : (s.armFields g k kind bank).setArm g k asREFUSED c = u at hexec
  have hfields : SluiceKeeps [R.SLU_ARM_CTL g k] s u :=
    hu ▸ (s.armFields_sluiceKeeps g k kind bank).trans (State.setArm_sluiceKeeps _ g k asREFUSED c)
  have halu : u.alive = true := hfields.alive.trans hal
  have hctrs : u.ctrs = s.ctrs := by rw [← hu]; rfl
  have harm : u.armInst = s.armInst := by rw [← hu]; rfl
  have hbump : ∀ a, (u.bump R.SLU_ARM_REFUSED).reg a = u.reg a := State.reg_eq_of_regs (u.bump_regs _)
  have halb : (u.bump R.SLU_ARM_REFUSED).alive = true := (State.alive_eq_of_reg (hbump _)).trans halu
  have hraise := (u.bump R.SLU_ARM_REFUSED).raise_sluiceKeeps 1 (by decide)
  have hstatus := statusReg_armCtl hg hk
  refine ⟨_, hexec, ?_, ?_, ?_, State.raise_event_same halb (by decide), ?_, ?_, exec_vault_of_not_writesVault rfl hexec⟩
  · rw [State.armState, hraise.fget (f := R.SLU_ARM_CTL_STATE g k) hstatus List.not_mem_nil, State.fget_of_reg (hbump _),
      ← hu]
    exact State.setArm_armState _ g k (by decide) c
  · rw [hraise.fget (f := R.SLU_ARM_CTL_CAUSE g k) hstatus List.not_mem_nil, State.fget_of_reg (hbump _), ← hu]
    exact State.setArm_cause _ g k asREFUSED (State.armCause_lt _ g k hc)
  · refine hraise.counted (by decide) ?_
    rw [Counted, State.ctr_bump_same halu, State.ctr_eq_of_ctrs hctrs]
  · exact (congrArg (·.armInst) (State.raise_rest _ _ _)).trans ((State.bump_armInst _ _).trans harm)
  · intro a ha hne
    exact (hraise.regs a ha List.not_mem_nil).trans ((hbump a).trans (hfields.regs a ha hne))

theorem arm_does_accept (hc : (s.armFields g k kind bank).armCause g k = none) :
    Does (.arm g k kind bank) s fun t => t.armState g k = asARMED ∧ t.armKind g k = kind ∧
      t.flag (R.SLU_ARM_CTL_BANK g k) = bank ∧ t.instantOf g k = (if kind = 0 then some (s.armTime g k) else none) ∧
      (∀ a, a ≠ R.SLU_ARM_CTL g k → t.reg a = s.reg a) ∧ t.vault = s.vault := by
  have hexec := exec_arm_of_accepted hg hk hkind bank harmed hc
  have hreg : ∀ a, a ≠ R.SLU_ARM_CTL g k → ((s.armFields g k kind bank).setArm g k asARMED 0).reg a = s.reg a :=
    fun a ha => (State.setArm_reg _ g k asARMED 0 ha).trans (s.armFields_reg g k kind bank ha)
  have hkind' : ((s.armFields g k kind bank).setArm g k asARMED 0).armKind g k = kind :=
    (State.setArm_fget _ g k asARMED 0 (le_refl 2) (by decide)).trans (s.armFields_armKind g k hkind bank)
  have hstate := (s.armFields g k kind bank).setArm_armState g k (by decide : asARMED < 8) 0
  rw [hkind', s.armTime_of_reg g k hreg] at hexec
  refine ⟨_, hexec, hstate, hkind', ?_, State.instantOf_setInstant _ g k _, hreg,
    exec_vault_of_not_writesVault rfl hexec⟩
  have hbank : ((s.armFields g k kind bank).setArm g k asARMED 0).fget (R.SLU_ARM_CTL_BANK g k) = _ :=
    State.setArm_fget _ g k asARMED 0 (le_refl 3) (by decide)
  have hflag := s.armFields_bank g k kind bank
  rw [State.flag] at hflag
  exact (congrArg (· == 1) hbank).trans hflag

end Arm

/-! ### CANCEL -/

/-- The word that CANCEL writes to SLU_ARM_CTL: KIND and BANK as they read. -/
theorem cancelWord {kind bank : Nat} (hkind : kind < 2) (hbank : bank < 2) :
    bit (2 + kind * 4 + bank * 8) 0 = false ∧ bit (2 + kind * 4 + bank * 8) 1 = true ∧
      bits (2 + kind * 4 + bank * 8) 2 2 = kind ∧ bits (2 + kind * 4 + bank * 8) 3 3 = bank := by
  interval_cases bank <;> interval_cases kind <;> decide

section Cancel
variable {s : State} {g k : Nat} (hg : g < 16) (hk : k < 4)
include hg hk

theorem exec_cancel : exec (.cancel g k) s =
    .next (s.writeArmCtl g k (2 + s.armKind g k * 4 + s.fget (R.SLU_ARM_CTL_BANK g k) * 8)) := by
  change execCancel g k s = _
  rw [execCancel, Nat.mod_eq_of_lt hg, Nat.mod_eq_of_lt hk]

theorem cancel_does_nothing (h : s.armState g k ≠ asARMED) :
    Does (.cancel g k) s fun t => t.armState g k = s.armState g k ∧ (∀ a, t.reg a = s.reg a) ∧
      t.ctrs = s.ctrs ∧ t.armInst = s.armInst ∧ t.vault = s.vault := by
  obtain ⟨harm, -, hkind, hbank⟩ := cancelWord (s.fget_lt (R.SLU_ARM_CTL_KIND g k)) (s.fget_lt (R.SLU_ARM_CTL_BANK g k))
  have hexec := exec_cancel (s := s) hg hk
  rw [State.writeArmCtl, if_neg h, State.armKind, harm, hkind, hbank] at hexec
  have hreg : ∀ a, ((s.fset (R.SLU_ARM_CTL_KIND g k) (s.fget (R.SLU_ARM_CTL_KIND g k))).fset (R.SLU_ARM_CTL_BANK g k)
      (s.fget (R.SLU_ARM_CTL_BANK g k))).reg a = s.reg a := fun a => by
    have hkeep := s.reg_fset_own (f := R.SLU_ARM_CTL_KIND g k) (le_refl 2)
    rw [← State.fget_of_reg (hkeep (R.SLU_ARM_CTL_BANK g k).addr), State.reg_fset_own _ (le_refl 3), hkeep]
  exact ⟨_, hexec, State.fget_of_reg (hreg _), hreg, rfl, rfl, rfl⟩

theorem exec_cancel_of_armed (h : s.armState g k = asARMED) : exec (.cancel g k) s =
    .next (if s.firing.contains (4 * g + k) then s else s.fset (R.SLU_ARM_CTL_STATE g k) asCANCELLED) := by
  obtain ⟨-, hcancel, -⟩ := cancelWord (s.fget_lt (R.SLU_ARM_CTL_KIND g k)) (s.fget_lt (R.SLU_ARM_CTL_BANK g k))
  rw [exec_cancel hg hk, State.writeArmCtl, if_pos h, State.armKind, hcancel, if_pos rfl]

theorem cancel_does_cancel (h : s.armState g k = asARMED) (hfiring : 4 * g + k ∉ s.firing) :
    Does (.cancel g k) s fun t => t.armState g k = asCANCELLED ∧
      (∀ a, a ≠ R.SLU_ARM_CTL g k → t.reg a = s.reg a) ∧ t.ctrs = s.ctrs ∧ t.vault = s.vault := by
  have hexec := exec_cancel_of_armed hg hk h
  rw [if_neg (by simpa using hfiring)] at hexec
  exact ⟨_, hexec, s.fget_fset_of_lt (by decide : (4 : Nat) ≤ 6) (by decide : (6 : Nat) < 32)
    (by decide : asCANCELLED < 8), fun a ha => State.reg_fset_ne ha, rfl, rfl⟩

theorem exec_cancel_of_fired (h : s.armState g k = asARMED) (hfiring : 4 * g + k ∈ s.firing) :
    exec (.cancel g k) s = .next s := by
  rw [exec_cancel_of_armed hg hk h, if_pos (by simpa using hfiring)]

end Cancel

/-! ### COMMIT_FIRE -/

section CommitFire
variable {s : State} {g k : Nat} (hg : g < 16) (hk : k < 4)
include hg hk

theorem exec_commitFire : exec (.commitFire g k) s =
    if (s.dueSlots g s.time80).any (fun x => x.2 == k) then .next s.fireDue else .next s := by
  change execCommitFire g k s = _
  rw [execCommitFire, Nat.mod_eq_of_lt hg, Nat.mod_eq_of_lt hk]

/-- A slot that is not due fires nothing. -/
theorem exec_commitFire_of_not_due
    (h : s.waitingSlot g k = true → ∀ t0, s.instantOf g k = some t0 → s.time80 < t0) :
    exec (.commitFire g k) s = .next s := by
  rw [exec_commitFire hg hk, if_neg]
  simp only [List.any_eq_true, beq_iff_eq, not_exists, not_and]
  rintro ⟨t0, j⟩ hx rfl
  obtain ⟨-, hwait, hinst, hle⟩ := State.mem_dueSlots.mp hx
  exact absurd (h hwait t0 hinst) (Nat.not_lt.mpr hle)

variable (hwait : s.waitingSlot g k = true) {t0 : Nat} (hinst : s.instantOf g k = some t0) (hdue : t0 ≤ s.time80)
include hwait hinst hdue

theorem exec_commitFire_of_due : exec (.commitFire g k) s = .next s.fireDue := by
  rw [exec_commitFire hg hk, if_pos]
  exact List.any_eq_true.mpr ⟨(t0, k), State.mem_dueSlots.mpr ⟨hk, hwait, hinst, hdue⟩, beq_self_eq_true k⟩

/-- The slot alone is due where its group counts one due slot and every other group none. -/
theorem State.fireDue_of_lengths (h : ((upTo 16).map fun h => (s.dueSlots h s.time80).length) =
    (upTo 16).map (fun h => if h = g then 1 else 0)) : s.fireDue = s.fireSlot g k t0 := by
  have hlen : ∀ h, h < 16 → (s.dueSlots h s.time80).length = if h = g then 1 else 0 := fun h' hh =>
    List.map_inj_left.mp h h' (List.mem_range.mpr hh)
  obtain ⟨x, hx⟩ := List.length_eq_one_iff.mp ((hlen g hg).trans (if_pos rfl))
  have hmem : (t0, k) ∈ s.dueSlots g s.time80 := State.mem_dueSlots.mpr ⟨hk, hwait, hinst, hdue⟩
  rw [hx, List.mem_singleton] at hmem
  subst hmem
  rw [s.fireDue_of_only hg hx fun h hh hne => List.length_eq_zero_iff.mp ((hlen h hh).trans (if_neg hne))]

theorem commitFire_does (hal : s.alive = true) : Does (.commitFire g k) s fun t => 4 * g + k ∈ t.firing ∧
    (∀ h, h < 16 → ∀ x ∈ s.dueSlots h s.time80, 4 * h + x.2 ∈ t.firing) ∧
    (∀ h, h < 16 → t.latestBank h = match (s.dueSlots h s.time80).getLast? with
      | some x => s.flag (R.SLU_ARM_CTL_BANK h x.2)
      | none => s.latestBank h) ∧
    (2 ≤ (s.dueSlots g s.time80).length → t.event 0x150 5 = true) ∧
    (((upTo 16).map fun h => (s.dueSlots h s.time80).length) = (upTo 16).map (fun h => if h = g then 1 else 0) →
      s.latestBank g ≠ s.flag (R.SLU_ARM_CTL_BANK g k) → Counted s t R.SLU_FLIPS) ∧
    KeepsRegs s t [] ∧ t.vault = s.vault := by
  have hmem : (t0, k) ∈ s.dueSlots g s.time80 := State.mem_dueSlots.mpr ⟨hk, hwait, hinst, hdue⟩
  refine ⟨_, exec_commitFire_of_due hg hk hwait hinst hdue, s.mem_fireDue_firing hg hmem,
    fun h hh x hx => s.mem_fireDue_firing hh hx, fun h hh => ?_, s.fireDue_event hal hg, fun hlen hflip => ?_,
    s.fireDue_sluiceKeeps.regs, s.fireDue_vault⟩
  · rw [State.fireDue_eq, s.firedBelow_latestBank le_rfl hh, if_pos hh]
    cases (s.dueSlots h s.time80).getLast? <;> rfl
  · rw [State.fireDue_of_lengths hg hk hwait hinst hdue hlen]
    exact s.fireSlot_counted g k t0 hal hflip

end CommitFire

/-! ### SLOT_FIRED and GATE_FORCE -/

section SlotFired
variable {s : State} {g k : Nat} (hg : g < 16) (hk : k < 4)
include hg hk

theorem exec_slotFired : exec (.slotFired g k) s =
    if s.firing.contains (4 * g + k) && !s.lookupsLeft g k then
      .next ((({ s with firing := s.firing.filter (· != 4 * g + k) } : State).fset (R.SLU_ARM_CTL_STATE g k)
        asFIRED).setInstant g k none |>.raise 0x150 0)
    else .next s := by
  change execSlotFired g k s = _
  rw [execSlotFired, Nat.mod_eq_of_lt hg, Nat.mod_eq_of_lt hk]

theorem exec_slotFired_of_waiting (h : 4 * g + k ∉ s.firing ∨ s.lookupsLeft g k = true) :
    exec (.slotFired g k) s = .next s := by
  rw [exec_slotFired hg hk, if_neg]
  obtain h | h := h <;> simp [h]

theorem slotFired_does (hal : s.alive = true) (hfiring : 4 * g + k ∈ s.firing) (hleft : s.lookupsLeft g k = false) :
    Does (.slotFired g k) s fun t => t.armState g k = asFIRED ∧ 4 * g + k ∉ t.firing ∧
      t.instantOf g k = none ∧ t.event 0x150 0 = true ∧ KeepsRegs s t [R.SLU_ARM_CTL g k] ∧ t.vault = s.vault := by
  have hexec := exec_slotFired (s := s) hg hk
  rw [if_pos (by simp [hfiring, hleft])] at hexec
  generalize hv : ({ s with firing := s.firing.filter (· != 4 * g + k) } : State) = v at hexec
  generalize hu : (v.fset (R.SLU_ARM_CTL_STATE g k) asFIRED).setInstant g k none = u at hexec
  have hkeeps : SluiceKeeps [R.SLU_ARM_CTL g k] s u := by
    refine SluiceKeeps.trans (t := v) ?_ ?_
    · exact .of_regs (by rw [← hv]) (fun a _ => by rw [← hv]; rfl) (by rw [← hv]; rfl)
    · rw [← hu]
      exact (v.fset_armCtl_sluiceKeeps g k (f := R.SLU_ARM_CTL_STATE g k) rfl asFIRED).trans
        (.of_regs rfl (fun _ _ => rfl) rfl)
  have hraise := u.raise_sluiceKeeps 0 (by decide)
  have hrest := u.raise_rest 0x150 0
  refine ⟨_, hexec, ?_, ?_, ?_, State.raise_event_same (hkeeps.alive.trans hal) (by decide),
    hkeeps.regs.trans (hraise.mono (List.nil_subset _)).regs, exec_vault_of_not_writesVault rfl hexec⟩
  · rw [State.armState, hraise.fget (f := R.SLU_ARM_CTL_STATE g k) (statusReg_armCtl hg hk) List.not_mem_nil, ← hu]
    exact v.fget_fset_of_lt (by decide : (4 : Nat) ≤ 6) (by decide : (6 : Nat) < 32) (by decide : asFIRED < 8)
  · have hfirings : (u.raise 0x150 0).firing = s.firing.filter (· != 4 * g + k) :=
      (congrArg (·.firing) hrest).trans (by rw [← hu, ← hv]; rfl)
    simp [hfirings]
  · have harm : (u.raise 0x150 0).instantOf g k = u.instantOf g k := congrArg (·.instantOf g k) hrest
    rw [harm, ← hu]
    exact State.instantOf_setInstant _ g k none

end SlotFired

theorem gateForce_does {s : State} {g : Nat} (hg : g < 16) (hal : s.alive = true) (b : Bool) :
    Does (.gateForce g b) s fun t => t.latestBank g = b ∧ (∀ h, h ≠ g → t.latestBank h = s.latestBank h) ∧
      Counted s t R.SLU_FORCED ∧ t.regs = s.regs ∧ t.vault = s.vault := by
  generalize hu : s.pushFired g { instant := s.time80 + 1, bank := b, era := s.tb.era } = u
  have hexec : exec (.gateForce g b) s = .next (u.bump R.SLU_FORCED) := by
    change execGateForce g b s = _
    rw [execGateForce, Nat.mod_eq_of_lt hg, State.gateForce, hu]
  have hregs : u.regs = s.regs := by rw [← hu]; rfl
  have hctrs : u.ctrs = s.ctrs := by rw [← hu]; rfl
  have hbank : ∀ h, (u.bump R.SLU_FORCED).latestBank h = if h = g then b else s.latestBank h := fun h => by
    rw [State.latestBank, State.bump_gates, ← State.latestBank, ← hu]
    exact s.pushFired_latestBank g _ h
  refine ⟨_, hexec, (hbank g).trans (if_pos rfl), fun h hne => (hbank h).trans (if_neg hne), ?_,
    (State.bump_regs _ _).trans hregs, exec_vault_of_not_writesVault rfl hexec⟩
  rw [Counted, State.ctr_bump_same ((State.alive_eq_of_reg (State.reg_eq_of_regs hregs _)).trans hal),
    State.ctr_eq_of_ctrs hctrs]

/-- Settles O29: a write of SLU_ARM_CTL by the state of its slot and the cause of its refusal, and the commits of a core
cycle by the slots that were due at its start. -/
theorem armedCommits : Obligations.ArmedCommits := by
  unfold Obligations.ArmedCommits
  refine ⟨fun s g k kind bank hg hk hkind hal u hu => ?_, fun s g k hg hk hal => ?_⟩
  · obtain rfl : u = s.armFields g k kind bank := hu
    have hkeeps := s.armFields_sluiceKeeps g k kind bank
    have hmode : (s.armFields g k kind bank).mode = s.mode :=
      hkeeps.fget (f := R.DEV_MODE_CODE) rfl (by simpa using (armCtl_ne g k).1)
    refine ⟨arm_does_collide hg hk hkind bank hal, fun harmed => ⟨fun c hc => ?_, fun hm => ?_, fun hm hk0 hlate => ?_,
      fun hc => ?_⟩, cancel_does_nothing hg hk, cancel_does_cancel hg hk, exec_cancel_of_fired hg hk⟩
    · exact arm_does_refuse hg hk hkind bank harmed hal hc
    · exact State.armCause_of_mode _ g k (hmode ▸ hm)
    · refine State.armCause_of_late _ g k (hmode ▸ hm) ((s.armFields_armKind g k hkind bank).trans hk0) ?_
      rw [s.armTime_of_reg g k fun a ha => s.armFields_reg g k kind bank ha]
      exact hlate
    · exact arm_does_accept hg hk hkind bank harmed hc
  · refine ⟨fun hwait t0 hinst => ⟨fun hlt => ?_, fun hdue => ?_⟩, fun hnot => ?_, exec_slotFired_of_waiting hg hk,
      slotFired_does hg hk hal, gateForce_does hg hal⟩
    · refine exec_commitFire_of_not_due hg hk fun _ t1 h1 => ?_
      obtain rfl : t0 = t1 := Option.some.inj (hinst.symm.trans h1)
      exact hlt
    · exact commitFire_does hg hk hwait hinst hdue hal
    · refine exec_commitFire_of_not_due hg hk fun hwait t0 h0 => ?_
      obtain hnot | hnot := hnot
      · rw [hwait] at hnot
        cases hnot
      · rw [h0] at hnot
        cases hnot

end Sys2Proof.Machine
end

section
/-! PROOFS. The discipline of the time base: PPS_IN_EDGE, TB_HOLDOVER and TB_SET (R134 to R136). -/

namespace Sys2Proof.Machine

/-! ### SLU_TB_STS -/

section TbState
variable (s : State) (st : Nat)

theorem State.fset_tbSts_sluiceKeeps {f : Fld} (hf : f.addr = R.SLU_TB_STS) (v : Nat) :
    SluiceKeeps [R.SLU_TB_STS] s (s.fset f v) := by
  rw [← hf]
  exact s.fset_sluiceKeeps v (by rw [hf]; decide) (by rw [hf]; decide)

theorem State.setTbState_sluiceKeeps : SluiceKeeps [R.SLU_TB_STS] s (s.setTbState st) :=
  .ite (.refl _ s) ((s.fset_tbSts_sluiceKeeps rfl st).trans
    ((State.raise_sluiceKeeps _ 4 (by decide)).mono (List.nil_subset _)))

theorem State.setTbState_tb : (s.setTbState st).tb = s.tb := congrArg (·.tb) (s.setTbState_rest st)

theorem State.setTbState_of_eq (h : s.fget R.SLU_TB_STS_STATE = st) : s.setTbState st = s := if_pos h

theorem State.setTbState_of_ne (h : s.fget R.SLU_TB_STS_STATE ≠ st) :
    s.setTbState st = (s.fset R.SLU_TB_STS_STATE st).raise 0x150 4 := if_neg h

theorem State.setTbState_state {st : Nat} (hst : st < 4) : (s.setTbState st).fget R.SLU_TB_STS_STATE = st := by
  by_cases h : s.fget R.SLU_TB_STS_STATE = st
  · rw [s.setTbState_of_eq st h, h]
  · rw [s.setTbState_of_ne st h, (State.raise_sluiceKeeps _ 4 (by decide)).fget rfl List.not_mem_nil]
    exact s.fget_fset_of_lt (by decide) (by decide) hst

theorem State.setTbState_phaseErr : (s.setTbState st).fget R.SLU_TB_STS_PHASE_ERR = s.fget R.SLU_TB_STS_PHASE_ERR := by
  by_cases h : s.fget R.SLU_TB_STS_STATE = st
  · rw [s.setTbState_of_eq st h]
  · rw [s.setTbState_of_ne st h, (State.raise_sluiceKeeps _ 4 (by decide)).fget rfl List.not_mem_nil,
      State.fget_fset_ne _ _ _ _ (by decide) (by decide) (by decide) (by decide)]

/-- A change of STATE raises event 4 (R134). -/
theorem State.setTbState_event (hal : s.alive = true) (h : s.fget R.SLU_TB_STS_STATE ≠ st) :
    (s.setTbState st).event 0x150 4 = true := by
  rw [s.setTbState_of_ne st h]
  exact State.raise_event_same ((s.fset_tbSts_sluiceKeeps rfl st).alive.trans hal) (by decide)

end TbState

theorem SluiceKeeps.anyArmed {rs : List Nat} {s t : State} (h : SluiceKeeps rs s t)
    (hrs : ∀ g k, R.SLU_ARM_CTL g k ∉ rs) (hfiring : t.firing = s.firing) : t.anyArmed = s.anyArmed := by
  rw [Bool.eq_iff_iff, State.anyArmed, State.anyArmed, List.any_eq_true, List.any_eq_true]
  refine exists_congr fun x => and_congr_right fun hx => ?_
  simp only [allSlots, upTo, List.mem_flatMap, List.mem_map, List.mem_range] at hx
  obtain ⟨g, hg, k, hk, rfl⟩ := hx
  rw [h.waitingSlot hg hk (hrs g k) (by rw [hfiring])]

/-! ### A reference event, step by step -/

section Reference
variable (s : State) (e : Int)

/-- A reference event ends HOLDOVER and FREE (R134). -/
def State.refStarted : State :=
  let st := s.fget R.SLU_TB_STS_STATE
  if st = tbHOLDOVER ∨ st = tbFREE then s.setTbState tbACQUIRING else s

/-- Does an error step the time base (R134)? -/
def State.refSteps : Bool :=
  s.fget R.SLU_TB_STS_STATE == tbACQUIRING && s.flag R.SLU_TB_CTL_AUTO_STEP && decide (1000 * 65536 < e.natAbs)
    && !s.anyArmed

/-- The good events in a row, an event of error `e` counted. -/
def State.refGood : Nat := if e.natAbs ≤ s.fget R.SLU_TB_CTL_LOCK_NS * 65536 then s.tb.good + 1 else 0

/-- The error shown and recorded (R134). -/
def State.refShown : State :=
  (s.fset R.SLU_TB_STS_PHASE_ERR (satSigned 16 (e.tdiv 65536))).hist 8 0 false (e.natAbs / 65536)

/-- A time base disciplined by an error, the good events counted before in `s`. -/
def State.refSlewed (t : State) : State :=
  { t with tb := { t.tb with
      rate := clampInt (s.fget R.SLU_TB_CTL_SLEW_PPM * 1000 * 65536) (-e), good := s.refGood e, lastRef := t.now } }

/-- LOCKED after four good events, and left at an error beyond four times LOCK_NS. -/
def State.refJudged (lock good : Nat) : State :=
  let s := if 4 ≤ good then s.setTbState tbLOCKED else s
  if s.fget R.SLU_TB_STS_STATE = tbLOCKED ∧ 4 * lock < e.natAbs then
    { s.setTbState tbACQUIRING with tb := { s.tb with good := 0 } }
  else s

/-- All that follows a step, or the lack of one. -/
def State.refEnded : State :=
  (s.refSlewed e (s.refShown e)).refJudged e (s.fget R.SLU_TB_CTL_LOCK_NS * 65536) (s.refGood e)

theorem State.refStarted_sluiceKeeps : SluiceKeeps [R.SLU_TB_STS] s s.refStarted :=
  .ite (s.setTbState_sluiceKeeps _) (.refl _ s)

theorem State.refStarted_rest : s.refStarted.rest = s.rest := by
  unfold State.refStarted
  simp

theorem State.refStarted_state : s.refStarted.fget R.SLU_TB_STS_STATE =
    if s.fget R.SLU_TB_STS_STATE = tbLOCKED then tbLOCKED else tbACQUIRING := by
  have hlt : s.fget R.SLU_TB_STS_STATE < 4 := s.fget_lt _
  unfold State.refStarted
  extract_lets st
  by_cases hst : st = tbHOLDOVER ∨ st = tbFREE
  · have hne : st ≠ tbLOCKED := by
      obtain hst | hst := hst <;> rw [hst] <;> decide
    rw [if_pos hst, s.setTbState_state (by decide), if_neg hne]
  · rw [if_neg hst]
    obtain ⟨h3, h0⟩ := not_or.mp hst
    change st ≠ 3 at h3
    change st ≠ 0 at h0
    change st < 4 at hlt
    change st = if st = 2 then 2 else 1
    split <;> omega

theorem State.refStarted_anyArmed : s.refStarted.anyArmed = s.anyArmed :=
  s.refStarted_sluiceKeeps.anyArmed (fun g k => by simp only [R.SLU_ARM_CTL, R.SLU_TB_STS, List.mem_singleton]; omega)
    (congrArg (·.firing) s.refStarted_rest)

theorem State.refStarted_refSteps : s.refStarted.refSteps e =
    (decide (s.fget R.SLU_TB_STS_STATE ≠ tbLOCKED) && s.flag R.SLU_TB_CTL_AUTO_STEP && decide (1000 * 65536 < e.natAbs)
      && !s.anyArmed) := by
  have hstate : (s.refStarted.fget R.SLU_TB_STS_STATE == tbACQUIRING) = decide (s.fget R.SLU_TB_STS_STATE ≠ tbLOCKED) := by
    rw [s.refStarted_state]
    split <;> simp [*]
  rw [State.refSteps, hstate, s.refStarted_anyArmed, s.refStarted_sluiceKeeps.flag rfl (by decide)]

theorem State.refShown_sluiceKeeps : SluiceKeeps [R.SLU_TB_STS] s (s.refShown e) :=
  (s.fset_tbSts_sluiceKeeps (f := R.SLU_TB_STS_PHASE_ERR) rfl _).trans
    ((State.hist_sluiceKeeps _ 8 0 false _).mono (List.nil_subset _))

theorem State.refShown_rest : (s.refShown e).rest = s.rest :=
  (State.hist_rest _ 8 0 false _).trans (s.fset_rest _ _)

theorem satSigned_lt (x : Int) : satSigned 16 x < 65536 := by
  unfold satSigned
  extract_lets m y
  omega

theorem State.refShown_phaseErr : (s.refShown e).fget R.SLU_TB_STS_PHASE_ERR = satSigned 16 (e.tdiv 65536) :=
  ((State.hist_sluiceKeeps _ 8 0 false _).fget (f := R.SLU_TB_STS_PHASE_ERR) rfl List.not_mem_nil).trans
    (s.fget_fset_of_lt (by decide) (by decide) (satSigned_lt _))

theorem State.refSlewed_sluiceKeeps (t : State) : SluiceKeeps [R.SLU_TB_STS] t (s.refSlewed e t) :=
  .of_regs rfl (fun _ _ => rfl) rfl

section Judged
variable (lock good : Nat)

theorem State.refJudged_sluiceKeeps : SluiceKeeps [R.SLU_TB_STS] s (s.refJudged e lock good) := by
  unfold State.refJudged
  extract_lets u
  have hu : SluiceKeeps [R.SLU_TB_STS] s u := .ite (s.setTbState_sluiceKeeps _) (.refl _ s)
  split
  · refine (hu.trans (u.setTbState_sluiceKeeps tbACQUIRING)).trans ?_
    exact .of_regs rfl (fun _ _ => rfl) rfl
  · exact hu

/-- An error beyond four times LOCK_NS is no good event, so the count is 0 when LOCKED is left. -/
theorem State.refJudged_tb (h : lock < e.natAbs → s.tb.good = 0) : (s.refJudged e lock good).tb = s.tb := by
  unfold State.refJudged
  extract_lets u
  have hu : u.tb = s.tb := by
    dsimp only [u]
    split
    · exact s.setTbState_tb _
    · rfl
  split
  · next hleft =>
    have hgood : s.tb.good = 0 := h (by omega)
    change { u.tb with good := 0 } = s.tb
    rw [hu, ← hgood]
  · exact hu

theorem State.refJudged_phaseErr :
    (s.refJudged e lock good).fget R.SLU_TB_STS_PHASE_ERR = s.fget R.SLU_TB_STS_PHASE_ERR := by
  unfold State.refJudged
  extract_lets u
  have hu : u.fget R.SLU_TB_STS_PHASE_ERR = s.fget R.SLU_TB_STS_PHASE_ERR := by
    dsimp only [u]
    split
    · exact s.setTbState_phaseErr _
    · rfl
  split
  · exact (u.setTbState_phaseErr tbACQUIRING).trans hu
  · exact hu

end Judged

theorem State.refEnded_sluiceKeeps : SluiceKeeps [R.SLU_TB_STS] s (s.refEnded e) :=
  ((s.refShown_sluiceKeeps e).trans (s.refSlewed_sluiceKeeps e _)).trans (State.refJudged_sluiceKeeps _ e _ _)

theorem State.refEnded_phaseErr : (s.refEnded e).fget R.SLU_TB_STS_PHASE_ERR = satSigned 16 (e.tdiv 65536) :=
  (State.refJudged_phaseErr _ e _ _).trans (s.refShown_phaseErr e)

theorem State.refEnded_tb : (s.refEnded e).tb = { s.tb with
    rate := clampInt (s.fget R.SLU_TB_CTL_SLEW_PPM * 1000 * 65536) (-e), good := s.refGood e, lastRef := s.now } := by
  have hslewed : (s.refSlewed e (s.refShown e)).tb = { s.tb with
      rate := clampInt (s.fget R.SLU_TB_CTL_SLEW_PPM * 1000 * 65536) (-e), good := s.refGood e, lastRef := s.now } := by
    have hnow : (s.refShown e).now = s.now := congrArg (·.now) (s.refShown_rest e)
    have htb : (s.refShown e).tb = s.tb := congrArg (·.tb) (s.refShown_rest e)
    rw [State.refSlewed, hnow, htb]
  rw [State.refEnded, State.refJudged_tb, hslewed]
  intro hbad
  rw [hslewed]
  exact if_neg (Nat.not_le.mpr hbad)

end Reference

section Discipline
variable (s : State) (c ideal : Int)

theorem State.discipline_eq : s.discipline c ideal =
    (if s.refStarted.refSteps (c - ideal) then
      s.refStarted.stepTime ((s.refStarted.time80 : Int) - (c - ideal)).toNat else s.refStarted).refEnded
      (if s.refStarted.refSteps (c - ideal) then 0 else c - ideal) := rfl

theorem State.discipline_sluiceKeeps : SluiceKeeps [R.SLU_TB_STS] s (s.discipline c ideal) := by
  rw [State.discipline_eq]
  refine SluiceKeeps.trans (s.refStarted_sluiceKeeps.trans ?_) (State.refEnded_sluiceKeeps _ _)
  exact .ite ((State.stepTime_sluiceKeeps _ _).mono (List.nil_subset _)) (.refl _ _)

/-- An error that steps nothing slews the time base. -/
theorem State.discipline_of_slew (h : s.refStarted.refSteps (c - ideal) = false) :
    s.discipline c ideal = s.refStarted.refEnded (c - ideal) := by
  rw [State.discipline_eq, h]
  rfl

/-- A step leaves no error to measure. -/
theorem State.discipline_of_step (h : s.refStarted.refSteps (c - ideal) = true) :
    s.discipline c ideal =
      (s.refStarted.stepTime ((s.refStarted.time80 : Int) - (c - ideal)).toNat).refEnded 0 := by
  rw [State.discipline_eq, h]
  rfl

end Discipline

/-! ### PPS_IN_EDGE -/

theorem nearestInstant_nonneg {period c : Int} (hp : 0 < period) (hc : 0 ≤ c) : 0 ≤ nearestInstant 0 period c := by
  unfold nearestInstant
  have hdiv : 0 ≤ (2 * (c - 0) + period) / (2 * period) := Int.ediv_nonneg (by omega) (by omega)
  have hmul := Int.mul_nonneg hdiv hp.le
  omega

section PpsInEdge
variable {s : State} (hal : s.alive = true)

/-- An edge that is no reference changes nothing. -/
theorem exec_ppsInEdge_of_ne (h : s.fget R.SLU_TB_CTL_SRC ≠ srcPPS) : exec .ppsInEdge s = .next s := by
  change execPpsInEdge s = _
  rw [execPpsInEdge, if_neg (by simp [h])]

variable (hsrc : s.fget R.SLU_TB_CTL_SRC = srcPPS) {e : Int}
  (he : e = (s.time80 : Int) - nearestInstant 0 (1000000000 * 65536) s.time80)
include hal hsrc he

theorem exec_ppsInEdge_of_slew (h : s.refStarted.refSteps e = false) :
    exec .ppsInEdge s = .next (s.refStarted.refEnded e) := by
  change execPpsInEdge s = _
  rw [execPpsInEdge, if_pos (by simp [hal, hsrc]), State.discipline_of_slew _ _ _ (he ▸ h), ← he]

theorem exec_ppsInEdge_of_step (h : s.refStarted.refSteps e = true) : exec .ppsInEdge s =
    .next ((s.refStarted.stepTime ((s.refStarted.time80 : Int) - e).toNat).refEnded 0) := by
  change execPpsInEdge s = _
  rw [execPpsInEdge, if_pos (by simp [hal, hsrc]), State.discipline_of_step _ _ _ (he ▸ h), ← he]

theorem ppsInEdge_does_slew (hno : s.fget R.SLU_TB_CTL_AUTO_STEP = 0 ∨ s.fget R.SLU_TB_STS_STATE = tbLOCKED ∨
    e.natAbs ≤ 1000 * 65536 ∨ s.anyArmed = true) :
    Does .ppsInEdge s fun t => t.tb.time = s.tb.time ∧
      t.fget R.SLU_TB_STS_PHASE_ERR = satSigned 16 (e.tdiv 65536) ∧ t.tb.lastRef = s.now ∧
      t.tb.rate = clampInt (s.fget R.SLU_TB_CTL_SLEW_PPM * 1000 * 65536) (-e) ∧
      t.tb.good = (if e.natAbs ≤ s.fget R.SLU_TB_CTL_LOCK_NS * 65536 then s.tb.good + 1 else 0) ∧
      KeepsRegs s t [R.SLU_TB_STS] ∧ t.vault = s.vault := by
  have hsteps : s.refStarted.refSteps e = false := by
    rw [s.refStarted_refSteps, State.flag]
    obtain h | h | h | h := hno
    · simp [h]
    · simp [h]
    · simp [Nat.not_lt.mpr h]
    · simp [h]
  have hexec := exec_ppsInEdge_of_slew hal hsrc he hsteps
  have hkeeps := s.refStarted_sluiceKeeps
  have hslew : s.refStarted.fget R.SLU_TB_CTL_SLEW_PPM = s.fget R.SLU_TB_CTL_SLEW_PPM := hkeeps.fget rfl (by decide)
  have hlock : s.refStarted.fget R.SLU_TB_CTL_LOCK_NS = s.fget R.SLU_TB_CTL_LOCK_NS := hkeeps.fget rfl (by decide)
  have htb : s.refStarted.tb = s.tb := congrArg (·.tb) s.refStarted_rest
  have hend := s.refStarted.refEnded_tb e
  rw [hslew, State.refGood, hlock, hkeeps.now, htb] at hend
  exact ⟨_, hexec, congrArg (·.time) hend, State.refEnded_phaseErr _ e, congrArg (·.lastRef) hend,
    congrArg (·.rate) hend, congrArg (·.good) hend, (hkeeps.trans (State.refEnded_sluiceKeeps _ e)).regs,
    exec_vault_of_not_writesVault rfl hexec⟩

theorem ppsInEdge_does_step (hauto : s.fget R.SLU_TB_CTL_AUTO_STEP = 1) (hstate : s.fget R.SLU_TB_STS_STATE ≠ tbLOCKED)
    (hfar : 1000 * 65536 < e.natAbs) (hunarmed : s.anyArmed = false) :
    Does .ppsInEdge s fun t => t.tb.time = BitVec.ofInt 80 ((s.time80 : Int) - e) ∧ t.event 0x150 6 = true ∧
      t.fget R.SLU_TB_STS_PHASE_ERR = 0 ∧ t.tb.lastRef = s.now ∧ t.tb.rate = 0 ∧ t.tb.good = s.tb.good + 1 ∧
      KeepsRegs s t [R.SLU_TB_STS] ∧ t.vault = s.vault := by
  have hsteps : s.refStarted.refSteps e = true := by
    rw [s.refStarted_refSteps, State.flag]
    simp [hauto, hstate, hfar, hunarmed]
  have hexec := exec_ppsInEdge_of_step hal hsrc he hsteps
  have hkeeps := s.refStarted_sluiceKeeps
  have htb : s.refStarted.tb = s.tb := congrArg (·.tb) s.refStarted_rest
  have htime : s.refStarted.time80 = s.time80 := congrArg (·.time.toNat) htb
  rw [htime] at hexec
  generalize hu : s.refStarted.stepTime ((s.time80 : Int) - e).toNat = u at hexec
  have hstep : SluiceKeeps [R.SLU_TB_STS] s.refStarted u :=
    hu ▸ (s.refStarted.stepTime_sluiceKeeps _).mono (List.nil_subset _)
  have hutb : u.tb = _ := hu ▸ s.refStarted.stepTime_tb _
  have hend := u.refEnded_tb 0
  have hgood : u.refGood 0 = u.tb.good + 1 := if_pos (Nat.zero_le _)
  have hevent : u.event 0x150 6 = true := hu ▸ s.refStarted.stepTime_event _ (hkeeps.alive.trans hal)
  have hended := u.refEnded_sluiceKeeps 0
  rw [hgood, (hkeeps.trans hstep).now, hutb, htb] at hend
  refine ⟨_, hexec, ?_, hended.event ((hkeeps.trans hstep).alive.trans hal) 6 (by decide) hevent,
    u.refEnded_phaseErr 0, congrArg (·.lastRef) hend, ?_, congrArg (·.good) hend,
    ((hkeeps.trans hstep).trans hended).regs, exec_vault_of_not_writesVault rfl hexec⟩
  · have hnonneg : 0 ≤ (s.time80 : Int) - e := by
      have := nearestInstant_nonneg (period := 1000000000 * 65536) (c := s.time80) (by decide) (Int.natCast_nonneg _)
      omega
    rw [congrArg (·.time) hend]
    dsimp only
    rw [← BitVec.ofInt_natCast, Int.toNat_of_nonneg hnonneg]
  · rw [congrArg (·.rate) hend]
    dsimp only
    unfold clampInt
    split
    · omega
    · split <;> omega

end PpsInEdge

/-! ### TB_HOLDOVER and TB_SET -/

/-- TB_HOLDOVER, by whether it is due (R135). -/
theorem exec_tbHoldover {s : State} {late due : Bool} (hlate : late = decide (s.tb.lastRef + 2500000000 ≤ s.now))
    (hdue : due = (s.fget R.SLU_TB_CTL_SRC == srcFABRIC && s.refLink.isNone
      || (s.fget R.SLU_TB_CTL_SRC == srcPPS || s.fget R.SLU_TB_CTL_SRC == srcFRAME) && late)) :
    exec .tbHoldover s = .next (if due then s.setTbState tbHOLDOVER else s) := by
  rw [hdue, hlate]
  rfl

theorem tbHoldover_does {s : State} (hal : s.alive = true) (h : exec .tbHoldover s = .next (s.setTbState tbHOLDOVER)) :
    Does .tbHoldover s fun t => t.fget R.SLU_TB_STS_STATE = tbHOLDOVER ∧
      (s.fget R.SLU_TB_STS_STATE ≠ tbHOLDOVER → t.event 0x150 4 = true) ∧ t.tb = s.tb ∧
      KeepsRegs s t [R.SLU_TB_STS] ∧ t.vault = s.vault :=
  ⟨_, h, s.setTbState_state (by decide), s.setTbState_event _ hal, s.setTbState_tb _, (s.setTbState_sluiceKeeps _).regs,
    s.setTbState_vault _⟩

theorem tbSet_does {s : State} (hal : s.alive = true) :
    Does .tbSet s fun t => t.tb.time = BitVec.ofNat 80 (s.pair R.SLU_TB_SET_LO R.SLU_TB_SET_HI * 65536) ∧
      t.event 0x150 6 = true ∧ KeepsRegs s t [] ∧ t.vault = s.vault := by
  have hexec : exec .tbSet s = .next (s.stepTime (s.pair R.SLU_TB_SET_LO R.SLU_TB_SET_HI * 65536)) := rfl
  exact ⟨_, hexec, congrArg (·.time) (s.stepTime_tb _), s.stepTime_event _ hal, (s.stepTime_sluiceKeeps _).regs,
    s.stepTime_vault _⟩

end Sys2Proof.Machine
end

section
/-! PROOFS. The FRAME_SYNC tracker: FRAME_SYNC_EDGE, FRAME_SYNC_MISSING and FRAME_SYNC_LOST (R138, R139). -/

namespace Sys2Proof.Machine

/-! ### An edge counted -/

section CountEdge
variable (s : State) (real : Bool) (t : Nat)

/-- The tracker after an edge. -/
def trackEdge (x : FrameSync) : FrameSync :=
  { x with
    intervals := ((match x.last with
      | some l => if real && x.lastReal && !x.missed then [t - l.toNat] else []
      | none => []) ++ x.intervals).take 16
    last := some (BitVec.ofNat 80 t), lastReal := real, missed := false, base := BitVec.ofNat 80 t
    strays := if real then [] else x.strays, quiet := if real then 0 else x.quiet }

/-- The number of the edge that is counted next. -/
def State.nextEdge : Nat := (s.fget R.SLU_FS_COUNT_COUNT + 1) % 2 ^ 32

/-- An edge in SLU_FS_COUNT, in its capture and in its counter, and the tracker after it (R138). -/
def State.edgeCounted : State :=
  let u := s.modFs (trackEdge real t)
  let v := (u.setReg R.SLU_FS_COUNT (BitVec.ofNat 32 s.nextEdge)).setPair R.SLU_FS_LAST_LO R.SLU_FS_LAST_HI (t / 65536)
  (v.bump (if real then R.SLU_FS_EDGES else R.SLU_FS_FLYWHEEL)).showPeriod

theorem State.countEdge_eq : s.countEdge real t = ((s.edgeCounted real t).fixInstants s.nextEdge t).fireDue := rfl

/-- Registers that an edge writes. -/
def edgeRegs : List Nat := [R.SLU_FS_COUNT, R.SLU_FS_LAST_LO, R.SLU_FS_LAST_HI, R.SLU_FS_PERIOD]

theorem State.edgeCounted_reg {a : Nat} (ha : a ∉ edgeRegs) : (s.edgeCounted real t).reg a = s.reg a := by
  simp only [edgeRegs, List.mem_cons, List.not_mem_nil, or_false, not_or] at ha
  obtain ⟨hcount, hlo, hhi, hperiod⟩ := ha
  refine (State.reg_setReg_ne hperiod).trans ((State.reg_eq_of_regs (State.bump_regs _ _) a).trans ?_)
  exact (State.reg_setReg_ne hhi).trans ((State.reg_setReg_ne hlo).trans (State.reg_setReg_ne hcount))

theorem State.edgeCounted_captured :
    (s.edgeCounted real t).fget R.SLU_FS_COUNT_COUNT = s.nextEdge ∧
      (s.edgeCounted real t).reg R.SLU_FS_LAST_LO = BitVec.ofNat 32 (t / 65536) ∧
      (s.edgeCounted real t).reg R.SLU_FS_LAST_HI = BitVec.ofNat 32 (t / 65536 / 2 ^ 32) := by
  have hend : ∀ a, a ≠ R.SLU_FS_PERIOD → (s.edgeCounted real t).reg a = (((s.modFs (trackEdge real t)).setReg
      R.SLU_FS_COUNT (BitVec.ofNat 32 s.nextEdge)).setPair R.SLU_FS_LAST_LO R.SLU_FS_LAST_HI (t / 65536)).reg a :=
    fun a ha => (State.reg_setReg_ne ha).trans (State.reg_eq_of_regs (State.bump_regs _ _) a)
  obtain ⟨hlo, hhi⟩ := State.reg_setPair ((s.modFs (trackEdge real t)).setReg R.SLU_FS_COUNT
    (BitVec.ofNat 32 s.nextEdge)) R.SLU_FS_LAST_LO R.SLU_FS_LAST_HI (t / 65536) (by decide)
  refine ⟨?_, (hend _ (by decide)).trans hlo, (hend _ (by decide)).trans hhi⟩
  have hcount : (s.edgeCounted real t).reg R.SLU_FS_COUNT = BitVec.ofNat 32 s.nextEdge :=
    (hend _ (by decide)).trans ((State.reg_setReg_ne (by decide)).trans
      ((State.reg_setReg_ne (by decide)).trans (State.reg_setReg_same _ _ _)))
  rw [State.fget, hcount, BitVec.toNat_ofNat, bits]
  simp [State.nextEdge]

theorem State.edgeCounted_alive : (s.edgeCounted real t).alive = s.alive :=
  State.alive_eq_of_reg (s.edgeCounted_reg real t (by decide))

theorem State.edgeCounted_ctr (hal : s.alive = true) :
    Counted s (s.edgeCounted real t) (if real then R.SLU_FS_EDGES else R.SLU_FS_FLYWHEEL) ∧
      ∀ a, a ≠ (if real then R.SLU_FS_EDGES else R.SLU_FS_FLYWHEEL) → (s.edgeCounted real t).ctr a = s.ctr a := by
  constructor
  · refine State.ctr_bump_same (s := ((s.modFs (trackEdge real t)).setReg R.SLU_FS_COUNT
      (BitVec.ofNat 32 s.nextEdge)).setPair R.SLU_FS_LAST_LO R.SLU_FS_LAST_HI (t / 65536)) ?_ _
    refine (State.alive_eq_of_reg ?_).trans hal
    exact (State.reg_setReg_ne (by decide)).trans
      ((State.reg_setReg_ne (by decide)).trans (State.reg_setReg_ne (by decide)))
  · exact fun a ha => State.ctr_bump_ne _ ha

theorem State.edgeCounted_fs : (s.edgeCounted real t).fs = trackEdge real t s.fs := State.bump_fs _ _

theorem State.setInstant_sluiceKeeps (g k : Nat) (x : Option Nat) : SluiceKeeps [] s (s.setInstant g k x) :=
  .of_regs rfl (fun _ _ => rfl) rfl

theorem State.modRing_sluiceKeeps (i q : Nat) (f : RingSt → RingSt) : SluiceKeeps [] s (s.modRing i q f) :=
  .of_regs rfl (fun _ _ => rfl) rfl

theorem State.releaseTimed_sluiceKeeps (i q n : Nat) (late missed : Bool) :
    SluiceKeeps [] s (s.releaseTimed i q n late missed) := .of_regs rfl (fun _ _ => rfl) rfl

theorem State.fixInstants_sluiceKeeps (n : Nat) : SluiceKeeps [] s (s.fixInstants n t) := by
  unfold State.fixInstants
  extract_lets u
  refine SluiceKeeps.trans (t := u) (.foldl (fun v x => ?_) _ _) (.foldl (fun v k => v.modRing_sluiceKeeps _ _ _) _ _)
  exact .ite (v.setInstant_sluiceKeeps _ _ _) (.refl _ _)

/-- The triggers that the edge fixes, and the commits that fire with it, leave the tracker alone. -/
theorem State.countEdge_sluiceKeeps : SluiceKeeps [] (s.edgeCounted real t) (s.countEdge real t) := by
  rw [State.countEdge_eq]
  exact (State.fixInstants_sluiceKeeps _ t _).trans (State.fireDue_sluiceKeeps _)

end CountEdge

/-! ### FRAME_SYNC_EDGE -/

theorem State.fset_fsSts_sluiceKeeps (s : State) (v : Nat) : SluiceKeeps [R.SLU_FS_STS] s (s.fset R.SLU_FS_STS_STATE v) :=
  s.fset_sluiceKeeps (f := R.SLU_FS_STS_STATE) v (by decide) (by decide)

theorem State.fset_fsState (s : State) {v : Nat} (hv : v < 4) : (s.fset R.SLU_FS_STS_STATE v).fsState = v :=
  s.fget_fset_of_lt (by decide) (by decide) hv

theorem State.frameRef_sluiceKeeps (s : State) (t : Nat) : SluiceKeeps [R.SLU_TB_STS] s (s.frameRef t) :=
  .ite (s.discipline_sluiceKeeps _ _) (.refl _ s)

/-- What a counted edge shows of itself: its number, its counter and its capture (R138). -/
structure EdgeShown (s t : State) : Prop where
  count : t.fget R.SLU_FS_COUNT_COUNT = (s.fget R.SLU_FS_COUNT_COUNT + 1) % 2 ^ 32
  edges : Counted s t R.SLU_FS_EDGES
  lo : t.reg R.SLU_FS_LAST_LO = BitVec.ofNat 32 s.ns
  hi : t.reg R.SLU_FS_LAST_HI = BitVec.ofNat 32 (s.ns / 2 ^ 32)
  last : t.fs.last = some s.tb.time

theorem SluiceKeeps.of_edge {u t : State} {time : Nat}
    (h : SluiceKeeps [R.SLU_FS_STS, R.SLU_TB_STS] (u.countEdge true time) t) :
    SluiceKeeps [R.SLU_FS_STS, R.SLU_TB_STS] (u.edgeCounted true time) t :=
  ((u.countEdge_sluiceKeeps true time).mono (List.nil_subset _)).trans h

section EdgeShown
variable {s u t : State} (hal : s.alive = true) (hregs : u.regs = s.regs)
  (hkeeps : SluiceKeeps [R.SLU_FS_STS, R.SLU_TB_STS] (u.countEdge true s.time80) t)
include hal hregs hkeeps

/-- An edge counted from a state with the same registers, the tracker and the count of strays aside. -/
theorem EdgeShown.of_countEdge (hctr : ∀ a, a ≠ R.SLU_FS_STRAY → u.ctr a = s.ctr a) : EdgeShown s t := by
  have hedge := hkeeps.of_edge
  have halu : u.alive = true := (State.alive_eq_of_reg (State.reg_eq_of_regs hregs _)).trans hal
  obtain ⟨hcount, hlo, hhi⟩ := u.edgeCounted_captured true s.time80
  obtain ⟨hedges, -⟩ := u.edgeCounted_ctr true s.time80 halu
  have hnext : u.nextEdge = (s.fget R.SLU_FS_COUNT_COUNT + 1) % 2 ^ 32 := by
    rw [State.nextEdge, State.fget_of_reg (State.reg_eq_of_regs hregs _)]
  refine ⟨?_, ?_, (hedge.regs _ rfl (by decide)).trans hlo, (hedge.regs _ rfl (by decide)).trans hhi, ?_⟩
  · rw [hedge.fget rfl (by decide), hcount, hnext]
  · have hcounted : Counted u t R.SLU_FS_EDGES := hedge.counted (by decide) hedges
    rwa [Counted, hctr _ (by decide)] at hcounted
  · rw [hedge.fs, u.edgeCounted_fs true s.time80]
    exact congrArg some (BitVec.eq_of_toNat_eq (by simp [State.time80]))

/-- Its counter of strays is the one it had. -/
theorem stray_of_countEdge : t.ctr R.SLU_FS_STRAY = u.ctr R.SLU_FS_STRAY := by
  have halu : u.alive = true := (State.alive_eq_of_reg (State.reg_eq_of_regs hregs _)).trans hal
  rw [hkeeps.of_edge.ctr _ (by decide), (u.edgeCounted_ctr true s.time80 halu).2 _ (by decide)]

end EdgeShown

section FrameEdge
variable {s : State} {t : Nat}

/-- An edge that locks the tracker, and may be a reference (R134, R138). -/
theorem State.lockedRef_sluiceKeeps (u : State) (t : Nat) : SluiceKeeps [R.SLU_FS_STS, R.SLU_TB_STS] u
    ((u.fset R.SLU_FS_STS_STATE fsLOCKED).frameRef t) :=
  ((u.fset_fsSts_sluiceKeeps _).mono (by simp)).trans ((State.frameRef_sluiceKeeps _ t).mono (by simp))

theorem State.lockedRef_fsState (u : State) (t : Nat) :
    ((u.fset R.SLU_FS_STS_STATE fsLOCKED).frameRef t).fsState = fsLOCKED :=
  ((State.frameRef_sluiceKeeps _ t).fget (f := R.SLU_FS_STS_STATE) rfl (by decide)).trans (u.fset_fsState (by decide))

/-- While the tracker is not locked every edge is counted (R138). -/
theorem State.frameEdge_of_unlocked (h : s.fsState = fsNONE ∨ s.fsState = fsACQUIRING) :
    ∃ u : State, u.regs = s.regs ∧ u.ctrs = s.ctrs ∧
      SluiceKeeps [R.SLU_FS_STS, R.SLU_TB_STS] (u.countEdge true t) (s.frameEdge t) := by
  unfold State.frameEdge
  extract_lets st u v eight w
  rw [if_pos h]
  refine ⟨u, ?_, ?_, ?_⟩
  · dsimp only [u]
    split <;> rfl
  · dsimp only [u]
    split <;> rfl
  · have hv : SluiceKeeps [R.SLU_FS_STS, R.SLU_TB_STS] (u.countEdge true t) v :=
      (State.fset_fsSts_sluiceKeeps _ _).mono (by simp)
    have hw : SluiceKeeps [R.SLU_FS_STS, R.SLU_TB_STS] v w :=
      .ite ((v.fset_fsSts_sluiceKeeps _).mono (by simp)) (.refl _ v)
    exact (hv.trans hw).trans ((w.frameRef_sluiceKeeps t).mono (by simp))

variable (h : 2 ≤ s.fsState)
include h

theorem State.not_unlocked : ¬ (s.fsState = fsNONE ∨ s.fsState = fsACQUIRING) := by
  change ¬ (s.fsState = 0 ∨ s.fsState = 1)
  omega

theorem State.frameEdge_of_near (hnear : ((t : Int) - s.fsExpected).natAbs ≤ s.fsWindow) :
    s.frameEdge t = ((s.countEdge true t).fset R.SLU_FS_STS_STATE fsLOCKED).frameRef t := by
  unfold State.frameEdge
  extract_lets st u v eight w off y
  rw [if_neg (State.not_unlocked h), if_pos hnear]

/-- The tracker with a stray edge noted and counted (R139). -/
def State.strayed (s : State) (off : Int) : State :=
  (s.bump R.SLU_FS_STRAY).modFs fun x => { x with strays := (off :: x.strays).take 4 }

theorem State.frameEdge_of_stray (hfar : s.fsWindow < ((t : Int) - s.fsExpected).natAbs) {u : State}
    (hu : s.strayed ((t : Int) - s.fsExpected) = u) :
    s.frameEdge t = if u.fs.strays.length = 4 ∧ agree u.fsWindow u.fs.strays = true then
      (((u.countEdge true t).fset R.SLU_FS_STS_STATE fsLOCKED).raise 0x150 3).frameRef t else u := by
  subst hu
  unfold State.frameEdge
  extract_lets st u v eight w off y
  rw [if_neg (State.not_unlocked h), if_neg (Nat.not_le.mpr hfar)]
  rfl

end FrameEdge

section Strayed
variable (s : State) (off : Int)

theorem State.strayed_regs : (s.strayed off).regs = s.regs := State.bump_regs _ _

/-- Up to four stray edges are held, the latest first (R139). -/
theorem State.strayed_strays (h : s.fs.strays.length ≤ 3) : (s.strayed off).fs.strays = off :: s.fs.strays := by
  have hfs : (s.bump R.SLU_FS_STRAY).fs = s.fs := State.bump_fs _ _
  unfold State.strayed State.modFs
  rw [hfs]
  exact List.take_of_length_le (Nat.succ_le_succ h)

theorem State.strayed_fsWindow : (s.strayed off).fsWindow = s.fsWindow := by
  rw [State.fsWindow, State.fget_of_reg (State.reg_eq_of_regs (s.strayed_regs off) _), State.fsWindow]

theorem State.strayed_counted (hal : s.alive = true) : Counted s (s.strayed off) R.SLU_FS_STRAY :=
  State.ctr_bump_same hal _

theorem State.strayed_ctr_ne {a : Nat} (ha : a ≠ R.SLU_FS_STRAY) : (s.strayed off).ctr a = s.ctr a :=
  State.ctr_bump_ne s ha

end Strayed

section FrameSyncEdge
variable {s : State}

theorem exec_frameSyncEdge_of_inactive : exec (.frameSyncEdge (!s.flag R.SLU_FS_CTL_EDGE)) s = .next s := by
  change execFrameSyncEdge _ s = _
  rw [execFrameSyncEdge, if_neg (by simp)]

variable (hal : s.alive = true)
include hal

theorem exec_frameSyncEdge :
    exec (.frameSyncEdge (s.flag R.SLU_FS_CTL_EDGE)) s = .next (s.frameEdge s.time80) := by
  change execFrameSyncEdge _ s = _
  rw [execFrameSyncEdge, if_pos (by simp [hal])]

theorem frameSyncEdge_does_count (h : s.fsState = fsNONE ∨ s.fsState = fsACQUIRING ∨
    ((s.time80 : Int) - s.fsExpected).natAbs ≤ s.fsWindow) :
    Does (.frameSyncEdge (s.flag R.SLU_FS_CTL_EDGE)) s fun t =>
      EdgeShown s t ∧ (2 ≤ s.fsState → t.fsState = fsLOCKED) ∧ t.vault = s.vault := by
  have hexec := exec_frameSyncEdge hal
  by_cases hunlocked : s.fsState = fsNONE ∨ s.fsState = fsACQUIRING
  · obtain ⟨u, hregs, hctrs, hkeeps⟩ := State.frameEdge_of_unlocked (t := s.time80) hunlocked
    exact ⟨_, hexec, .of_countEdge hal hregs hkeeps fun a _ => State.ctr_eq_of_ctrs hctrs a,
      fun hlocked => absurd hunlocked (State.not_unlocked hlocked), exec_vault_of_not_writesVault rfl hexec⟩
  · obtain ⟨hnone, hacquiring⟩ := not_or.mp hunlocked
    have hnear := (h.resolve_left hnone).resolve_left hacquiring
    have hlocked : 2 ≤ s.fsState := by
      change s.fsState ≠ 0 at hnone
      change s.fsState ≠ 1 at hacquiring
      omega
    have hedge := State.frameEdge_of_near hlocked hnear
    rw [hedge] at hexec
    exact ⟨_, hexec, .of_countEdge hal rfl (State.lockedRef_sluiceKeeps _ _) fun _ _ => rfl,
      fun _ => State.lockedRef_fsState _ _, exec_vault_of_not_writesVault rfl hexec⟩

variable (hlocked : 2 ≤ s.fsState) (hfar : s.fsWindow < ((s.time80 : Int) - s.fsExpected).natAbs)
include hlocked hfar

/-- A stray edge that relocks nothing is only counted (R139). -/
theorem frameSyncEdge_does_stray (hlen : s.fs.strays.length ≤ 3)
    (hno : s.fs.strays.length = 3 → agree s.fsWindow (((s.time80 : Int) - s.fsExpected) :: s.fs.strays) = false) :
    Does (.frameSyncEdge (s.flag R.SLU_FS_CTL_EDGE)) s fun t => Counted s t R.SLU_FS_STRAY ∧ t.regs = s.regs ∧
      t.fs.strays.length = s.fs.strays.length + 1 ∧ t.vault = s.vault := by
  have hexec := exec_frameSyncEdge hal
  have hstrays := s.strayed_strays ((s.time80 : Int) - s.fsExpected) hlen
  rw [State.frameEdge_of_stray hlocked hfar rfl, State.strayed_fsWindow, hstrays, if_neg] at hexec
  · exact ⟨_, hexec, s.strayed_counted _ hal, s.strayed_regs _, congrArg List.length hstrays,
      exec_vault_of_not_writesVault rfl hexec⟩
  · rintro ⟨hfour, hagree⟩
    rw [hno (Nat.succ.inj hfour)] at hagree
    cases hagree

/-- Four stray edges that agree lock the tracker to them (R139). -/
theorem frameSyncEdge_does_relock (hlen : s.fs.strays.length = 3)
    (hagree : agree s.fsWindow (((s.time80 : Int) - s.fsExpected) :: s.fs.strays) = true) :
    Does (.frameSyncEdge (s.flag R.SLU_FS_CTL_EDGE)) s fun t => EdgeShown s t ∧ Counted s t R.SLU_FS_STRAY ∧
      t.fsState = fsLOCKED ∧ t.event 0x150 3 = true ∧ t.vault = s.vault := by
  have hexec := exec_frameSyncEdge hal
  have hstrays := s.strayed_strays ((s.time80 : Int) - s.fsExpected) hlen.le
  rw [State.frameEdge_of_stray hlocked hfar rfl, State.strayed_fsWindow, hstrays,
    if_pos ⟨by simp [hlen], hagree⟩] at hexec
  generalize hu : s.strayed ((s.time80 : Int) - s.fsExpected) = u at hexec
  have hregs : u.regs = s.regs := hu ▸ s.strayed_regs _
  have hcounted : Counted s u R.SLU_FS_STRAY := hu ▸ s.strayed_counted _ hal
  have hctr : ∀ a, a ≠ R.SLU_FS_STRAY → u.ctr a = s.ctr a := fun a ha => hu ▸ s.strayed_ctr_ne _ ha
  generalize hv : (u.countEdge true s.time80).fset R.SLU_FS_STS_STATE fsLOCKED = v at hexec
  have hcount : SluiceKeeps [R.SLU_FS_STS, R.SLU_TB_STS] (u.countEdge true s.time80) v :=
    hv ▸ (State.fset_fsSts_sluiceKeeps _ _).mono (by simp)
  have hraise := v.raise_sluiceKeeps 3 (by decide)
  have href := (v.raise 0x150 3).frameRef_sluiceKeeps s.time80
  have hkeeps := (hcount.trans (hraise.mono (List.nil_subset _))).trans (href.mono (by simp))
  have halv : v.alive = true := by
    rw [hcount.of_edge.alive, u.edgeCounted_alive, State.alive_eq_of_reg (State.reg_eq_of_regs hregs _), hal]
  refine ⟨_, hexec, .of_countEdge hal hregs hkeeps hctr, (stray_of_countEdge hal hregs hkeeps).trans hcounted, ?_,
    href.event (hraise.alive.trans halv) 3 (by decide) (State.raise_event_same halv (by decide)),
    exec_vault_of_not_writesVault rfl hexec⟩
  rw [State.fsState, href.fget (f := R.SLU_FS_STS_STATE) rfl (by decide),
    hraise.fget (f := R.SLU_FS_STS_STATE) rfl List.not_mem_nil, ← hv]
  exact State.fset_fsState _ (by decide)

end FrameSyncEdge

/-! ### FRAME_SYNC_MISSING -/

/-- The registers of the arm slots. -/
def armCtls : List Nat := allSlots.map fun x => R.SLU_ARM_CTL x.1 x.2

theorem State.missFrames_sluiceKeeps (s : State) : SluiceKeeps armCtls s s.missFrames := by
  unfold State.missFrames
  extract_lets u
  refine SluiceKeeps.trans (t := u) ?_ (.foldl (fun v k => ?_) _ _)
  · refine List.foldlRecOn _ _ (motive := SluiceKeeps armCtls s) (.refl _ s) fun v hv x hx => hv.trans ?_
    refine .ite ((v.fset_armCtl_sluiceKeeps x.1 x.2 rfl _).mono ?_) (.refl _ v)
    exact List.cons_subset.mpr ⟨List.mem_map.mpr ⟨x, hx, rfl⟩, List.nil_subset _⟩
  · split
    · exact (v.releaseTimed_sluiceKeeps _ _ _ _ _).mono (List.nil_subset _)
    · exact .refl _ v

section FrameSyncMissing
variable {s : State}

/-- One more expected period without an edge (R139). -/
def State.quieter (s : State) : State := s.modFs fun x => { x with quiet := x.quiet + 1 }

/-- An edge that is missed and not counted: it is expected again one period later. -/
def State.skipped (s : State) (t : Nat) : State := s.modFs fun x => { x with missed := true, base := BitVec.ofNat 80 t }

/-- What POLICY makes of a missed edge (R139). -/
def State.missEdge (s : State) : State :=
  if s.fget R.SLU_FS_CTL_POLICY = 1 then s.quieter.countEdge false s.fsExpected
  else if s.fget R.SLU_FS_CTL_POLICY = 2 then (s.quieter.skipped s.fsExpected).missFrames
  else s.quieter.skipped s.fsExpected

theorem exec_frameSyncMissing_of_early (h : s.fsState < 2 ∨ s.time80 ≤ s.fsExpected + s.fsWindow) :
    exec .frameSyncMissing s = .next s := by
  change execFrameSyncMissing s = _
  rw [execFrameSyncMissing, if_neg]
  simp only [Bool.and_eq_true, Bool.or_eq_true, beq_iff_eq, decide_eq_true_eq]
  change ¬ ((s.fsState = 2 ∨ s.fsState = 3) ∧ _)
  omega

theorem exec_frameSyncMissing_of_late (hlocked : 2 ≤ s.fsState) (hlate : s.fsExpected + s.fsWindow < s.time80) :
    exec .frameSyncMissing s = .next ((s.missEdge.fset R.SLU_FS_STS_STATE fsFLYWHEEL).raise 0x150 2) := by
  have hlt : s.fsState < 4 := s.fget_lt _
  change execFrameSyncMissing s = _
  rw [execFrameSyncMissing, if_pos]
  · rfl
  · simp only [Bool.and_eq_true, Bool.or_eq_true, beq_iff_eq, decide_eq_true_eq]
    change (s.fsState = 2 ∨ s.fsState = 3) ∧ _
    omega

/-- Under POLICY FLYWHEEL the expected edge is counted (R139). -/
theorem State.missEdge_of_flywheel (h : s.fget R.SLU_FS_CTL_POLICY = 1) :
    SluiceKeeps [] (s.quieter.edgeCounted false s.fsExpected) s.missEdge := by
  rw [State.missEdge, if_pos h]
  exact State.countEdge_sluiceKeeps _ false _

/-- Under the other policies it is only missed. -/
theorem State.missEdge_of_ne (h : s.fget R.SLU_FS_CTL_POLICY ≠ 1) :
    SluiceKeeps armCtls (s.quieter.skipped s.fsExpected) s.missEdge := by
  rw [State.missEdge, if_neg h]
  exact .ite (State.missFrames_sluiceKeeps _) (.refl _ _)

theorem State.missEdge_alive_quiet : s.missEdge.alive = s.alive ∧ s.missEdge.fs.quiet = s.fs.quiet + 1 := by
  by_cases h : s.fget R.SLU_FS_CTL_POLICY = 1
  · have hkeeps := State.missEdge_of_flywheel h
    exact ⟨hkeeps.alive.trans (State.edgeCounted_alive _ false _),
      (congrArg (·.quiet) (hkeeps.fs.trans (State.edgeCounted_fs _ false _)))⟩
  · have hkeeps := State.missEdge_of_ne h
    exact ⟨hkeeps.alive, congrArg (·.quiet) hkeeps.fs⟩

theorem frameSyncMissing_does (hal : s.alive = true) (hlocked : 2 ≤ s.fsState)
    (hlate : s.fsExpected + s.fsWindow < s.time80) :
    Does .frameSyncMissing s fun t => t.fsState = fsFLYWHEEL ∧ t.event 0x150 2 = true ∧ t.fs.quiet = s.fs.quiet + 1 ∧
      (s.fget R.SLU_FS_CTL_POLICY = 1 → t.fget R.SLU_FS_COUNT_COUNT = (s.fget R.SLU_FS_COUNT_COUNT + 1) % 2 ^ 32 ∧
        Counted s t R.SLU_FS_FLYWHEEL) ∧
      (s.fget R.SLU_FS_CTL_POLICY ≠ 1 → t.fget R.SLU_FS_COUNT_COUNT = s.fget R.SLU_FS_COUNT_COUNT) ∧
      t.vault = s.vault := by
  have hexec := exec_frameSyncMissing_of_late hlocked hlate
  obtain ⟨halive, hquiet⟩ := s.missEdge_alive_quiet
  generalize hw : s.missEdge.fset R.SLU_FS_STS_STATE fsFLYWHEEL = w at hexec
  have hfset : SluiceKeeps [R.SLU_FS_STS] s.missEdge w := hw ▸ s.missEdge.fset_fsSts_sluiceKeeps _
  have hraise := w.raise_sluiceKeeps 2 (by decide)
  have hend := hfset.trans (hraise.mono (List.nil_subset _))
  refine ⟨_, hexec, ?_, State.raise_event_same ((hfset.alive.trans halive).trans hal) (by decide),
    (congrArg (·.quiet) hend.fs).trans hquiet, fun hpolicy => ?_, fun hpolicy => ?_,
    exec_vault_of_not_writesVault rfl hexec⟩
  · rw [State.fsState, hraise.fget (f := R.SLU_FS_STS_STATE) rfl List.not_mem_nil, ← hw]
    exact State.fset_fsState _ (by decide)
  · have hkeeps := ((State.missEdge_of_flywheel hpolicy).mono (List.nil_subset _)).trans hend
    obtain ⟨hcount, -⟩ := s.quieter.edgeCounted_captured false s.fsExpected
    obtain ⟨hflywheel, -⟩ := s.quieter.edgeCounted_ctr false s.fsExpected hal
    exact ⟨(hkeeps.fget rfl (by decide)).trans hcount, hkeeps.counted (by decide) hflywheel⟩
  · have hkeeps := ((State.missEdge_of_ne hpolicy).mono (List.subset_append_left _ [R.SLU_FS_STS])).trans
      (hend.mono (List.subset_append_right _ _))
    exact hkeeps.fget (f := R.SLU_FS_COUNT_COUNT) rfl (by decide)

end FrameSyncMissing

/-! ### FRAME_SYNC_LOST -/

section FrameSyncLost
variable {s : State}

theorem exec_frameSyncLost_of_lt (h : s.fs.quiet < 16) : exec .frameSyncLost s = .next s := by
  change execFrameSyncLost s = _
  rw [execFrameSyncLost, if_neg (Nat.not_le.mpr h)]

/-- The tracker given up (R139). -/
def State.trackLost (s : State) : State :=
  (s.modFs fun x => { x with missed := true, strays := [], quiet := 0 }).fset R.SLU_FS_STS_STATE fsNONE

theorem exec_frameSyncLost_of_le (h : 16 ≤ s.fs.quiet) : exec .frameSyncLost s =
    .next (if s.trackLost.fget R.SLU_TB_CTL_SRC = srcFRAME then s.trackLost.setTbState tbHOLDOVER else s.trackLost) := by
  change execFrameSyncLost s = _
  rw [execFrameSyncLost, if_pos h]
  rfl

theorem frameSyncLost_does (h : 16 ≤ s.fs.quiet) :
    Does .frameSyncLost s fun t => t.fsState = fsNONE ∧ t.reg R.SLU_FS_PERIOD = s.reg R.SLU_FS_PERIOD ∧
      t.fs.intervals = s.fs.intervals ∧ t.fs.quiet = 0 ∧
      (s.fget R.SLU_TB_CTL_SRC = srcFRAME → t.fget R.SLU_TB_STS_STATE = tbHOLDOVER) ∧ t.vault = s.vault := by
  have hexec := exec_frameSyncLost_of_le h
  have hreg : ∀ a, a ≠ R.SLU_FS_STS → s.trackLost.reg a = s.reg a := fun a ha => State.reg_fset_ne ha
  rw [State.fget_of_reg (hreg _ (by decide))] at hexec
  have hkeeps : SluiceKeeps [R.SLU_TB_STS] s.trackLost (if s.fget R.SLU_TB_CTL_SRC = srcFRAME then
      s.trackLost.setTbState tbHOLDOVER else s.trackLost) := .ite (State.setTbState_sluiceKeeps _ _) (.refl _ _)
  refine ⟨_, hexec, ?_, (hkeeps.regs _ rfl (by decide)).trans (hreg _ (by decide)),
    congrArg (·.intervals) hkeeps.fs, congrArg (·.quiet) hkeeps.fs, fun hsrc => ?_,
    exec_vault_of_not_writesVault rfl hexec⟩
  · exact (hkeeps.fget (f := R.SLU_FS_STS_STATE) rfl (by decide)).trans (State.fset_fsState _ (by decide))
  · rw [if_pos hsrc]
    exact State.setTbState_state _ (by decide)

end FrameSyncLost

end Sys2Proof.Machine
end

section
/-! PROOFS. The TSYNC exchange of Moaben links (R256): TSYNC_REQUEST_SEND, TSYNC_REQ_RECEIVE and TSYNC_FUP_RECEIVE. -/

namespace Sys2Proof.Machine

/-! ### Links -/

section Links
variable (s : State) (f : Nat)

theorem State.modLink_link (g : LinkSt → LinkSt) : (s.modLink f g).link f = g (s.link f) :=
  storeGet_storePut_same _ _ _ _

theorem State.sendCtl_regs (d : W64) : (s.sendCtl f d).regs = s.regs := by
  unfold State.sendCtl
  split <;> rfl

theorem State.sendCtl_ctrs (d : W64) : (s.sendCtl f d).ctrs = s.ctrs := by
  unfold State.sendCtl
  split <;> rfl

/-- A control block joins those that wait for a slot, where the link sends rows (R239). -/
theorem State.sendCtl_link (d : W64) : (s.sendCtl f d).link f =
    if s.transmits f then { s.link f with ctl := (s.link f).ctl ++ [d] } else s.link f := by
  unfold State.sendCtl
  split
  · exact s.modLink_link f _
  · rfl

theorem State.transmits_of_linkUp (h : s.linkUp f = true) : s.transmits f = true := by
  have hup : s.fget (R.MFL_LINK_STS_STATE f) = 6 := by simpa [State.linkUp] using h
  simp [State.transmits, hup]

end Links

/-! ### The steps of an exchange -/

section Exchange
variable (s : State) (l : Nat)

/-- An exchange still open is counted as lost (R256). -/
def State.tsyncLost : State :=
  if (s.link l).ts1.isSome then s.bump (R.MFL_TSYNC_DISCARD l) else s

/-- An exchange opened with its t1. -/
def State.tsyncOpened : State :=
  s.modLink l fun x => { x with tsN := (x.tsN + 1) % 64, tsAt := s.now, ts1 := some s.ns, ts24 := none }

theorem State.tsyncLost_rest : (s.tsyncLost l).rest = s.rest := by
  unfold State.tsyncLost
  split
  · exact State.bump_rest _ _
  · rfl

theorem State.tsyncLost_regs : (s.tsyncLost l).regs = s.regs := by
  unfold State.tsyncLost
  split
  · exact State.bump_regs _ _
  · rfl

/-- The RSP with t2 and the FUP with t3 that answer a request. -/
def State.tsyncReplied (x : Nat) : State :=
  (s.sendCtl l (ctlTsync 1 x (s.tsArrival l))).sendCtl l (ctlTsync 2 x s.ns)

theorem State.tsyncReplied_link (hup : s.linkUp l = true) (x : Nat) : ((s.tsyncReplied l x).link l).ctl =
    (s.link l).ctl ++ [ctlTsync 1 x (s.tsArrival l), ctlTsync 2 x s.ns] := by
  have htransmits : s.transmits l = true := s.transmits_of_linkUp l hup
  have hnext : (s.sendCtl l (ctlTsync 1 x (s.tsArrival l))).transmits l = true := by
    rw [State.transmits, State.fget_of_reg (State.reg_eq_of_regs (s.sendCtl_regs l _) _), ← State.transmits, htransmits]
  rw [State.tsyncReplied, State.sendCtl_link, if_pos hnext, State.sendCtl_link, if_pos htransmits]
  exact List.append_assoc _ _ _

/-- The response's t2 kept for the FUP. -/
def State.tsyncHeard (t2 x : Nat) : State := s.modLink l fun y => { y with ts24 := some (t2, x) }

/-- The exchange ended: neither its t1 nor its response is kept. -/
def State.tsyncClosed (t2 x : Nat) : State :=
  (s.tsyncHeard l t2 x).modLink l fun y => { y with ts1 := none, ts24 := none }

theorem State.tsyncClosed_link (t2 x : Nat) : ((s.tsyncClosed l t2 x).link l).ts1 = none := by
  rw [State.tsyncClosed, State.modLink_link]

/-- Offset and delay shown (R256). -/
def State.tsyncShown (a b : Int) : State :=
  (s.fset (R.MFL_TSYNC_STS_OFFSET l) (satSigned 16 ((a - b).tdiv 2))).fset (R.MFL_TSYNC_STS_DELAY l)
    (min ((a + b) / 2).toNat 65535)

theorem State.tsyncShown_fields (a b : Int) :
    (s.tsyncShown l a b).fget (R.MFL_TSYNC_STS_OFFSET l) = satSigned 16 ((a - b).tdiv 2) ∧
      (s.tsyncShown l a b).fget (R.MFL_TSYNC_STS_DELAY l) = min ((a + b) / 2).toNat 65535 := by
  constructor
  · rw [State.tsyncShown, State.fget_fset_ne _ _ _ _ (by decide : (16 : Nat) ≤ 31) (Nat.zero_le 15)
      (by decide : (15 : Nat) < 32) (.inl (by decide : (15 : Nat) < 16))]
    exact s.fget_fset_of_lt (Nat.zero_le 15) (by decide : (15 : Nat) < 32) (satSigned_lt _)
  · exact State.fget_fset_of_lt _ (by decide : (16 : Nat) ≤ 31) (by decide : (31 : Nat) < 32)
      (Nat.lt_succ_of_le (Nat.min_le_right _ _) : _ < 65536)

/-- An exchange that is shown feeds the discipline where its link is the reference (R134). -/
def State.tsyncRef (t4 : Nat) (a b : Int) : State :=
  if s.fget R.SLU_TB_CTL_SRC = srcFABRIC ∧ s.refLink.any (fun x => x.1 == l) = true then
    s.discipline (t4 * 65536) (t4 * 65536 + (a - b) * 32768)
  else s

end Exchange

section Tsync
variable {s : State} {l : Nat} (hl : l < 8)
include hl

theorem exec_tsyncReqReceive (x : Nat) : exec (.tsyncReqReceive ⟨l, x⟩) s = .next (s.tsyncReq l (x % 64)) := by
  change execTsyncReqReceive ⟨l, x⟩ s = _
  rw [execTsyncReqReceive, Nat.mod_eq_of_lt hl]

theorem exec_tsyncFupReceive (x t2 t3 : Nat) :
    exec (.tsyncFupReceive l x t2 t3) s = .next ((s.tsyncRsp l (x % 64) t2).tsyncFup l (x % 64) t3) := by
  change execTsyncFupReceive l x t2 t3 s = _
  rw [execTsyncFupReceive, Nat.mod_eq_of_lt hl]

/-! ### TSYNC_REQUEST_SEND -/

/-- A request waits for its period, and for the link that disciplines the time base. -/
theorem exec_tsyncRequestSend_of_not_due (h : s.linkUp l = false ∨ s.fget R.SLU_TB_CTL_SRC ≠ srcFABRIC ∨
    s.refLink.any (fun x => x.1 == l) = false ∨
    s.now < (s.link l).tsAt + s.fget (R.MFL_TSYNC_CTL_PERIOD_US l) * 1250) :
    exec (.tsyncRequestSend l) s = .next s := by
  change execTsyncRequestSend l s = _
  rw [execTsyncRequestSend, Nat.mod_eq_of_lt hl, if_neg]
  simp only [Bool.and_eq_true, beq_iff_eq, decide_eq_true_eq]
  rintro ⟨⟨⟨hsrc, href⟩, hup⟩, hdue⟩
  obtain h | h | h | h := h
  · rw [hup] at h
    cases h
  · exact h hsrc
  · rw [href] at h
    cases h
  · exact absurd h (Nat.not_lt.mpr hdue)

theorem exec_tsyncRequestSend_of_due (hup : s.linkUp l = true) (hsrc : s.fget R.SLU_TB_CTL_SRC = srcFABRIC)
    (href : s.refLink.any (fun x => x.1 == l) = true)
    (hdue : (s.link l).tsAt + s.fget (R.MFL_TSYNC_CTL_PERIOD_US l) * 1250 ≤ s.now) :
    exec (.tsyncRequestSend l) s = .next (((s.tsyncLost l).tsyncOpened l).sendCtl l
      (ctlTsync 0 (((s.tsyncLost l).tsyncOpened l).link l).tsN ((s.tsyncLost l).tsyncOpened l).ns)) := by
  change execTsyncRequestSend l s = _
  rw [execTsyncRequestSend, Nat.mod_eq_of_lt hl, if_pos (by simp [hup, hsrc, href, cyclesPerUs, hdue])]
  rfl

theorem tsyncRequestSend_does (hal : s.alive = true) (hup : s.linkUp l = true)
    (hsrc : s.fget R.SLU_TB_CTL_SRC = srcFABRIC) (href : s.refLink.any (fun x => x.1 == l) = true)
    (hdue : (s.link l).tsAt + s.fget (R.MFL_TSYNC_CTL_PERIOD_US l) * 1250 ≤ s.now) :
    Does (.tsyncRequestSend l) s fun t => (t.link l).ts1 = some s.ns ∧ (t.link l).tsN = ((s.link l).tsN + 1) % 64 ∧
      (t.link l).tsAt = s.now ∧ ((s.link l).ts1.isSome = true → Counted s t (R.MFL_TSYNC_DISCARD l)) ∧
      t.regs = s.regs ∧ t.vault = s.vault := by
  have hexec := exec_tsyncRequestSend_of_due hl hup hsrc href hdue
  generalize hu : s.tsyncLost l = u at hexec
  have hrest : u.rest = s.rest := hu ▸ s.tsyncLost_rest l
  have hnow : u.now = s.now := congrArg (·.now) hrest
  have hns : u.ns = s.ns := congrArg (·.ns) hrest
  have hulink : u.link l = s.link l := congrArg (·.link l) hrest
  have hlink : (u.tsyncOpened l).link l =
      { s.link l with tsN := ((s.link l).tsN + 1) % 64, tsAt := s.now, ts1 := some s.ns, ts24 := none } := by
    rw [State.tsyncOpened, State.modLink_link, hulink, hnow, hns]
  generalize hd : ctlTsync 0 ((u.tsyncOpened l).link l).tsN (u.tsyncOpened l).ns = d at hexec
  have hend : ∀ {α : Type} (p : LinkSt → α), (∀ x c, p { x with ctl := c } = p x) →
      p (((u.tsyncOpened l).sendCtl l d).link l) = p ((u.tsyncOpened l).link l) := fun p hp => by
    rw [State.sendCtl_link]
    split
    · exact hp _ _
    · rfl
  refine ⟨_, hexec, ?_, ?_, ?_, fun hopen => ?_, (State.sendCtl_regs _ _ _).trans (hu ▸ s.tsyncLost_regs l),
    exec_vault_of_not_writesVault rfl hexec⟩
  · rw [hend (·.ts1) fun _ _ => rfl, hlink]
  · rw [hend (·.tsN) fun _ _ => rfl, hlink]
  · rw [hend (·.tsAt) fun _ _ => rfl, hlink]
  · have hctr : ((u.tsyncOpened l).sendCtl l d).ctr (R.MFL_TSYNC_DISCARD l) = u.ctr (R.MFL_TSYNC_DISCARD l) :=
      State.ctr_eq_of_ctrs (State.sendCtl_ctrs _ _ _) _
    rw [Counted, hctr, ← hu, State.tsyncLost, if_pos hopen]
    exact State.ctr_bump_same hal _

/-! ### TSYNC_REQ_RECEIVE -/

theorem exec_tsyncReqReceive_of_down (h : s.linkUp l = false) (x : Nat) :
    exec (.tsyncReqReceive ⟨l, x⟩) s = .next s := by
  rw [exec_tsyncReqReceive hl, State.tsyncReq, if_neg (by simp [h])]

theorem exec_tsyncReqReceive_of_up (hup : s.linkUp l = true) {x : Nat} (hx : x < 64) :
    exec (.tsyncReqReceive ⟨l, x⟩) s = .next { s.tsyncReplied l x with
      answer := .words [BitVec.ofNat 32 (s.tsArrival l), BitVec.ofNat 32 (s.tsArrival l / 2 ^ 32 % 2 ^ 16),
        BitVec.ofNat 32 (s.tsyncReplied l x).ns, BitVec.ofNat 32 ((s.tsyncReplied l x).ns / 2 ^ 32 % 2 ^ 16)] } := by
  rw [exec_tsyncReqReceive hl, State.tsyncReq, if_pos hup, Nat.mod_eq_of_lt hx]
  rfl

theorem tsyncReqReceive_does (hup : s.linkUp l = true) {x : Nat} (hx : x < 64) :
    Does (.tsyncReqReceive ⟨l, x⟩) s fun t => t.answer = .words [BitVec.ofNat 32 (s.tsArrival l),
        BitVec.ofNat 32 (s.tsArrival l / 2 ^ 32 % 2 ^ 16), BitVec.ofNat 32 s.ns,
        BitVec.ofNat 32 (s.ns / 2 ^ 32 % 2 ^ 16)] ∧
      (t.link l).ctl = (s.link l).ctl ++ [ctlTsync 1 x (s.tsArrival l), ctlTsync 2 x s.ns] ∧ t.regs = s.regs ∧
      t.vault = s.vault := by
  have hexec := exec_tsyncReqReceive_of_up hl hup hx
  have hns : (s.tsyncReplied l x).ns = s.ns := by
    have hsend : ∀ (u : State) (d : W64), (u.sendCtl l d).ns = u.ns := fun u d => by
      unfold State.sendCtl
      split <;> rfl
    rw [State.tsyncReplied, hsend, hsend]
  rw [hns] at hexec
  exact ⟨_, hexec, rfl, s.tsyncReplied_link l hup x, (State.sendCtl_regs _ _ _).trans (s.sendCtl_regs l _),
    exec_vault_of_not_writesVault rfl hexec⟩

/-! ### TSYNC_FUP_RECEIVE -/

section Fup
variable {x t2 t3 : Nat}

/-- A response and a FUP of no open exchange, or of another than the open one, are nothing to it (R256). -/
theorem exec_tsyncFupReceive_of_other
    (h : s.linkUp l = false ∨ (s.link l).ts1 = none ∨ x % 64 ≠ (s.link l).tsN) :
    exec (.tsyncFupReceive l x t2 t3) s = .next s := by
  have hrsp : s.tsyncRsp l (x % 64) t2 = s := by
    rw [State.tsyncRsp, if_neg]
    obtain h | h | h := h <;> simp [h]
  rw [exec_tsyncFupReceive hl, hrsp, State.tsyncFup]
  split
  · rfl
  · next t1 hopen =>
    rw [if_pos]
    obtain h | h | h := h
    · simp [h]
    · rw [hopen] at h
      cases h
    · simp [h]

variable (hup : s.linkUp l = true) {t1 : Nat} (hopen : (s.link l).ts1 = some t1) (hx : x % 64 = (s.link l).tsN)
  {a b : Int} (ha : a = (s.widen t2 : Int) - t1) (hb : b = (s.tsArrival l : Int) - s.widen t3)
include hup hopen hx ha hb

theorem exec_tsyncFupReceive_of_open : exec (.tsyncFupReceive l x t2 t3) s =
    .next (if 2 * ((s.fget ⟨R.MFL_RTT l, 15, 0⟩ : Int) + 8) < a + b then
        (s.tsyncClosed l t2 (x % 64)).bump (R.MFL_TSYNC_DISCARD l)
      else ((s.tsyncClosed l t2 (x % 64)).tsyncShown l a b).tsyncRef l (s.tsArrival l) a b) := by
  have hrsp : s.tsyncRsp l (x % 64) t2 = s.tsyncHeard l t2 (x % 64) := if_pos (by simp [hup, hopen, hx])
  have hlink : (s.tsyncHeard l t2 (x % 64)).link l = { s.link l with ts24 := some (t2, x % 64) } := s.modLink_link l _
  have hopen' : ((s.tsyncHeard l t2 (x % 64)).link l).ts1 = some t1 := (congrArg (·.ts1) hlink).trans hopen
  have htsN : ((s.tsyncHeard l t2 (x % 64)).link l).tsN = (s.link l).tsN := congrArg (·.tsN) hlink
  have hts24 : ((s.tsyncHeard l t2 (x % 64)).link l).ts24 = some (t2, x % 64) := congrArg (·.ts24) hlink
  have hup' : (s.tsyncHeard l t2 (x % 64)).linkUp l = true := hup
  have hmine : ¬ ((!(s.tsyncHeard l t2 (x % 64)).linkUp l ||
      x % 64 != ((s.tsyncHeard l t2 (x % 64)).link l).tsN) = true) := by
    rw [hup', htsN, hx]
    simp
  rw [exec_tsyncFupReceive hl, hrsp, State.tsyncFup, hopen']
  dsimp only
  rw [if_neg hmine, hts24, ha, hb]
  rfl

/-- An exchange whose delay does not fit the link's round trip is discarded (R256). -/
theorem tsyncFupReceive_does_discard (hal : s.alive = true)
    (hlong : 2 * ((s.fget ⟨R.MFL_RTT l, 15, 0⟩ : Int) + 8) < a + b) :
    Does (.tsyncFupReceive l x t2 t3) s fun t => Counted s t (R.MFL_TSYNC_DISCARD l) ∧ (t.link l).ts1 = none ∧
      t.regs = s.regs ∧ t.vault = s.vault := by
  have hexec := exec_tsyncFupReceive_of_open hl hup hopen hx ha hb
  rw [if_pos hlong] at hexec
  have hlink : ((s.tsyncClosed l t2 (x % 64)).bump (R.MFL_TSYNC_DISCARD l)).link l =
      (s.tsyncClosed l t2 (x % 64)).link l := by
    rw [State.link, State.bump_links, ← State.link]
  exact ⟨_, hexec, State.ctr_bump_same (s := s.tsyncClosed l t2 (x % 64)) hal _,
    (congrArg (·.ts1) hlink).trans (s.tsyncClosed_link l _ _), State.bump_regs _ _,
    exec_vault_of_not_writesVault rfl hexec⟩

/-- An exchange whose delay fits ends with OFFSET and DELAY (R256). -/
theorem tsyncFupReceive_does_show (hfit : a + b ≤ 2 * ((s.fget ⟨R.MFL_RTT l, 15, 0⟩ : Int) + 8)) :
    Does (.tsyncFupReceive l x t2 t3) s fun t =>
      t.fget (R.MFL_TSYNC_STS_OFFSET l) = satSigned 16 ((a - b).tdiv 2) ∧
      t.fget (R.MFL_TSYNC_STS_DELAY l) = min ((a + b) / 2).toNat 65535 ∧ (t.link l).ts1 = none ∧ t.vault = s.vault := by
  have hexec := exec_tsyncFupReceive_of_open hl hup hopen hx ha hb
  rw [if_neg (Int.not_lt.mpr hfit)] at hexec
  generalize hu : s.tsyncClosed l t2 (x % 64) = u at hexec
  have hclosed : (u.link l).ts1 = none := hu ▸ s.tsyncClosed_link l _ _
  obtain ⟨hoffset, hdelay⟩ := u.tsyncShown_fields l a b
  have href : SluiceKeeps [R.SLU_TB_STS] (u.tsyncShown l a b) ((u.tsyncShown l a b).tsyncRef l (s.tsArrival l) a b) :=
    .ite (State.discipline_sluiceKeeps _ _ _) (.refl _ _)
  have hstatus : statusReg (R.MFL_TSYNC_STS l) = false ∧ R.MFL_TSYNC_STS l ∉ [R.SLU_TB_STS] := by
    interval_cases l <;> decide
  obtain ⟨hstatus, hne⟩ := hstatus
  exact ⟨_, hexec, (href.fget (f := R.MFL_TSYNC_STS_OFFSET l) hstatus hne).trans hoffset,
    (href.fget (f := R.MFL_TSYNC_STS_DELAY l) hstatus hne).trans hdelay, (congrArg (·.ts1) (href.link l)).trans hclosed,
    exec_vault_of_not_writesVault rfl hexec⟩

end Fup

end Tsync

/-- Settles O30: the time base by what its discipline, holdover and steps do, the tracker by the kind of edge that comes,
and the exchange by whether it is the open one and its delay fits. -/
theorem timeKeeping : Obligations.TimeKeeping := by
  unfold Obligations.TimeKeeping
  refine ⟨fun s hal => ⟨exec_ppsInEdge_of_ne, fun hsrc e he => ?_,
    fun late hlate due hdue => ⟨fun hnot => ?_, fun hyes => ?_⟩, tbSet_does hal⟩, fun s hal => ?_, fun s l x t2 t3 hl hdown => ?_, fun s l hl hal hup => ?_⟩
  · exact ⟨ppsInEdge_does_slew hal hsrc he, ppsInEdge_does_step hal hsrc he⟩
  · rw [exec_tbHoldover hlate hdue, hnot]
    rfl
  · refine tbHoldover_does hal ?_
    rw [exec_tbHoldover hlate hdue, hyes]
    rfl
  · refine ⟨fun h => ?_, fun hlocked hfar hlen => frameSyncEdge_does_stray hal hlocked hfar hlen.le fun h3 => ?_,
      fun hlocked off hoff hfar hlen => ⟨fun hagree => ?_, fun hagree => ?_⟩, exec_frameSyncMissing_of_early,
      exec_frameSyncLost_of_lt, exec_frameSyncEdge_of_inactive, frameSyncMissing_does hal, frameSyncLost_does⟩
    · obtain ⟨t, ht, ⟨hcount, hedges, hlo, hhi, hlast⟩, hstate, hvault⟩ := frameSyncEdge_does_count hal h
      exact ⟨t, ht, hcount, hedges, hlo, hhi, hstate, hlast, hvault⟩
    · omega
    · rw [hoff] at hfar hagree
      obtain ⟨t, ht, ⟨hcount, hedges, -, -, -⟩, hstray, hstate, hevent, hvault⟩ :=
        frameSyncEdge_does_relock hal hlocked hfar hlen hagree
      exact ⟨t, ht, hstray, hedges, hstate, hevent, hcount, hvault⟩
    · rw [hoff] at hfar hagree
      obtain ⟨t, ht, hstray, hregs, -, hvault⟩ := frameSyncEdge_does_stray hal hlocked hfar hlen.le fun _ => hagree
      exact ⟨t, ht, hstray, hregs, hvault⟩
  · exact ⟨exec_tsyncRequestSend_of_not_due hl (.inl hdown), exec_tsyncReqReceive_of_down hl hdown x,
      exec_tsyncFupReceive_of_other hl (.inl hdown)⟩
  · exact ⟨fun h => exec_tsyncRequestSend_of_not_due hl (.inr h),
      fun x t2 t3 hnone => exec_tsyncFupReceive_of_other hl (.inr (.inl hnone)),
      fun hsrc href hdue => tsyncRequestSend_does hl hal hup hsrc href hdue,
      fun x hx => tsyncReqReceive_does hl hup hx,
      fun x t2 t3 t1 hopen a ha b hb => ⟨fun hx hfit => tsyncFupReceive_does_show hl hup hopen hx ha hb hfit,
        fun hx hlong => tsyncFupReceive_does_discard hl hup hopen hx ha hb hal hlong,
        fun hne => exec_tsyncFupReceive_of_other hl (.inr (.inr hne))⟩⟩

end Sys2Proof.Machine
end

section
/-! PROOFS. DESCRIPTOR_FINISH whose message is refused on a window entry with both copies bad (R164, R192, R293, R308). -/

namespace Sys2Proof.Machine

namespace MessageMeetsBadWindow

/-- Ring 1 of INST 7: a COPY that has finished and asks for an interrupt of vector 0 stands before a current COPY. -/
def runs : List DescRun :=
  [{ n := 0, raw := 0x201, current := false, status := some stOK },
   { n := 1, raw := 1 }]

/-- INST 7 is ACTIVE in FABRIC mode, with Bus Master Enable and MSI-X enabled; its ring 1 is enabled and bound to engine
3, and vector 0 is unmasked. Both copies of entry 0 of the window table are bad. -/
def state : State :=
  let s := (State.reset.setMode mFABRIC).fset (R.VIM_INST_STS_STATE 7) iACTIVE
  let s := (s.setReg (R.VIM_INST_RING 7) 0x8300).setCfg (Fn.inst 7).num cCommand 6
  let s := (s.setCfg (Fn.inst 7).num cMsix 0x80000011).setBar (Fn.inst 7).num 0x800C 0
  let s := (s.setQreg 7 1 qCFG 0x10004).setRing 7 1 { runs := runs }
  { s with err := { s.err with bad := [{ table := 0, index := 0, copy0 := true, copy1 := true }] } }

/-- The state once the first descriptor has finished. -/
def finished : State := state.finishWith 7 1 stOK (runs.headD { n := 0, raw := 0 })

theorem exec_eq : exec (.descriptorFinish 7 1) state = .next finished := rfl

/-- The message meets the bad entry, and ISOLATE puts the current descriptor back (R308, R310). -/
theorem runs_after : (finished.ring 7 1).runs = [] := by decide +kernel

end MessageMeetsBadWindow

open MessageMeetsBadWindow in
/-- Refutes O34: in `MessageMeetsBadWindow.state` the message of the first descriptor is looked up, the bad window entry is an
error of level DEVICE, and the engines stop for ISOLATE: the current descriptor behind the finished one is no longer a
started one of its ring. -/
theorem not_descriptorEnds : ¬ Obligations.DescriptorEnds := by
  intro h
  obtain ⟨hfinish, -⟩ := h
  obtain ⟨-, hhead⟩ := hfinish state 7 1 (by decide) (by decide) (by decide +kernel) _ rfl _ rfl
  obtain ⟨-, hends⟩ := hhead _ _ (rfl : ((state.settleImplicit 7 1).ring 7 1).runs = runs)
  obtain ⟨hgood, -⟩ := hends stOK rfl false rfl false (by decide +kernel)
  obtain ⟨t, ht, -, -, hruns, -⟩ := hgood rfl rfl
  obtain rfl : finished = t := Host.Outcome.next.inj (exec_eq.symm.trans ht)
  exact absurd (runs_after.symm.trans hruns) (by decide)

end Sys2Proof.Machine
end

section
/-! PROOFS. Rings, queue registers and engines: the rules of their updates (R153 to R158). -/

namespace Sys2Proof.Machine

/-! ### Rings -/

theorem State.ring_setRing (s : State) (i q j p : Nat) (r : RingSt) :
    (s.setRing i q r).ring j p = if 4 * j + p = 4 * i + q then r else s.ring j p :=
  storeGet_storePut (fun _ => ({} : RingSt)) (4 * i + q) (4 * j + p) r s.rings

@[simp] theorem State.ring_setRing_same (s : State) (i q : Nat) (r : RingSt) : (s.setRing i q r).ring i q = r := by
  rw [State.ring_setRing, if_pos rfl]

@[simp] theorem State.ring_modRing_same (s : State) (i q : Nat) (f : RingSt → RingSt) :
    (s.modRing i q f).ring i q = f (s.ring i q) := s.ring_setRing_same i q _

theorem State.ring_modRing_ne (s : State) {i q j p : Nat} (h : 4 * j + p ≠ 4 * i + q) (f : RingSt → RingSt) :
    (s.modRing i q f).ring j p = s.ring j p := by
  rw [State.modRing, State.ring_setRing, if_neg h]

theorem State.ring_of_rings {s t : State} (h : t.rings = s.rings) (i q : Nat) : t.ring i q = s.ring i q := by
  rw [State.ring, h, State.ring]

/-- The runs of a ring once those of one descriptor have been changed in place. -/
theorem State.modRun_ring (s : State) (i q n : Nat) (f : DescRun → DescRun) : (s.modRun i q n f).ring i q =
    { s.ring i q with runs := (s.ring i q).runs.map fun d => if d.n = n then f d else d } := s.ring_modRing_same i q _

theorem State.modRun_fetched (s : State) (i q n : Nat) (f : DescRun → DescRun) :
    ((s.modRun i q n f).ring i q).fetched = (s.ring i q).fetched := by
  rw [State.modRun_ring]

theorem State.modRun_regs (s : State) (i q n : Nat) (f : DescRun → DescRun) : (s.modRun i q n f).regs = s.regs := rfl

theorem State.modRun_eng (s : State) (i q n : Nat) (f : DescRun → DescRun) (e : Nat) : (s.modRun i q n f).eng e = s.eng e :=
  rfl

/-- A run of the descriptor stands changed among the runs. -/
theorem State.mem_modRun_runs {s : State} {i q n : Nat} (f : DescRun → DescRun) {d : DescRun}
    (hd : d ∈ (s.ring i q).runs) (hn : d.n = n) : f d ∈ ((s.modRun i q n f).ring i q).runs := by
  rw [State.modRun_ring]
  exact List.mem_map.mpr ⟨d, hd, if_pos hn⟩

/-! ### Engines -/

@[simp] theorem State.eng_modEng_same (s : State) (e : Nat) (f : EngSt → EngSt) : (s.modEng e f).eng e = f (s.eng e) :=
  storeGet_storePut_same _ _ _ _

end Sys2Proof.Machine
end

section
/-! PROOFS. Context grants and TIMED descriptors (R157, R162, R168, R175, R176). -/

namespace Sys2Proof.Machine

/-! ### The run a granted descriptor begins with -/

namespace RingSt
variable (r : RingSt) (n : Nat) (raw : BitVec 512) (st now : Nat)

/-- A descriptor's run as its run-ahead reads have left it (R179). -/
def readAhead : DescRun := (r.ahead.find? fun d => d.n == n).getD { n := n, raw := raw, started := now }

/-- The run with which a fetched descriptor starts (R157, R162, R168). -/
def started : DescRun :=
  let base := r.readAhead n raw now
  let crc : W32 := if bit (dOpx1 raw) 0 then ~~~ (BitVec.ofNat 32 (dOpx0 raw)) else 0xFFFFFFFF
  if st ≠ 0 then { base with current := false, status := some st, result := 0xFFFF + 2 * 2 ^ 16 }
  else if badDesc raw then { base with current := false, status := some stBAD_DESC, result := 0xFFFF }
  else if base.status.isSome then { base with current := false, segs := [] }
  else if dOpcode raw = opFENCE then
    { base with
      current := true, fence := some (fenceOf r.destNow), fencedInside := r.destNow.any (·.inside), started := now }
  else { base with current := true, started := now, crc := if base.pos = 0 then crc else base.crc }

theorem readAhead_n : (r.readAhead n raw now).n = n := by
  unfold readAhead
  cases hfind : r.ahead.find? fun d => d.n == n with
  | none => rfl
  | some d => simpa using List.find?_some hfind

theorem readAhead_status :
    (r.readAhead n raw now).status = (r.ahead.find? fun d => d.n == n).bind fun d => d.status := by
  unfold readAhead
  cases r.ahead.find? fun d => d.n == n <;> rfl

theorem started_n : (r.started n raw st now).n = n := by
  have hbase := r.readAhead_n n raw now
  unfold started
  dsimp only
  split_ifs <;> exact hbase

theorem started_status : (r.started n raw st now).status =
    if st ≠ 0 then some st else if badDesc raw = true then some stBAD_DESC
    else (r.ahead.find? fun d => d.n == n).bind fun d => d.status := by
  rw [← r.readAhead_status n raw now]
  unfold started
  dsimp only
  split_ifs <;> rfl

theorem started_current : (r.started n raw st now).current = (r.started n raw st now).status.isNone := by
  unfold started
  dsimp only
  split_ifs with hst hbad hahead
  · rfl
  · rfl
  · exact (Option.isNone_eq_false_iff.mpr hahead).symm
  all_goals simpa using hahead

/-- The ring with the descriptor among its started ones, taken from those fetched. -/
def placed : RingSt :=
  { r with
    fetched := r.fetched.drop 1, runs := r.runs ++ [r.started n raw st now], ahead := r.ahead.filter fun x => x.n != n
    restored := false }

end RingSt

section StartDesc
variable (s : State) (i q n : Nat) (raw : BitVec 512) (st : Nat)

/-- The state with a granted descriptor among the started ones of its ring, before its instant is settled. -/
def State.placed : State :=
  (s.modRing i q fun r => r.placed n raw st s.now).modEngTags fun t =>
    if t.inst = i ∧ t.ring = q ∧ (match t.why with
      | .source m _ => m == n
      | _ => false) = true then { t with ahead := false } else t

theorem State.placed_ring : (s.placed i q n raw st).ring i q = (s.ring i q).placed n raw st s.now :=
  s.ring_modRing_same i q fun r => r.placed n raw st s.now

theorem State.placed_fetched : ((s.placed i q n raw st).ring i q).fetched = (s.ring i q).fetched.drop 1 := by
  rw [State.placed_ring, RingSt.placed]

theorem State.placed_runs :
    ((s.placed i q n raw st).ring i q).runs = (s.ring i q).runs ++ [(s.ring i q).started n raw st s.now] := by
  rw [State.placed_ring, RingSt.placed]

theorem State.placed_regs : (s.placed i q n raw st).regs = s.regs := rfl

theorem State.placed_eng (e : Nat) : (s.placed i q n raw st).eng e = s.eng e := rfl

theorem State.placed_timedInstant : (s.placed i q n raw st).timedInstant raw = s.timedInstant raw := by
  unfold State.timedInstant
  rfl

theorem State.startDesc_eq : s.startDesc i q n raw st =
    if ((s.ring i q).started n raw st s.now).status.isNone && dOpcode raw == opTIMED then
      if ((s.placed i q n raw st).timedInstant raw).2 then
        ((s.placed i q n raw st).modRun i q n fun d =>
          { d with instant := ((s.placed i q n raw st).timedInstant raw).1 }).releaseTimed i q n true false
      else (s.placed i q n raw st).modRun i q n fun d =>
        { d with instant := ((s.placed i q n raw st).timedInstant raw).1 }
    else s.placed i q n raw st := by
  unfold State.startDesc
  rfl

/-- A descriptor that is not TIMED, or that has ended at once, is placed and no more. -/
theorem State.startDesc_of_plain (h : ((s.ring i q).started n raw st s.now).status ≠ none ∨ dOpcode raw ≠ opTIMED) :
    s.startDesc i q n raw st = s.placed i q n raw st := by
  rw [State.startDesc_eq, if_neg]
  rw [Bool.and_eq_true_iff, Option.isNone_iff_eq_none, beq_iff_eq]
  exact fun hand => h.elim (fun h => h hand.1) fun h => h hand.2

/-- A TIMED descriptor takes its instant, and is released late where that has passed (R175, R176). -/
theorem State.startDesc_of_timed (hnone : ((s.ring i q).started n raw st s.now).status = none)
    (htimed : dOpcode raw = opTIMED) {x : Option Nat} {passed : Bool} (hinstant : s.timedInstant raw = (x, passed)) :
    s.startDesc i q n raw st =
      if passed then ((s.placed i q n raw st).modRun i q n fun d => { d with instant := x }).releaseTimed i q n true false
      else (s.placed i q n raw st).modRun i q n fun d => { d with instant := x } := by
  rw [State.startDesc_eq, State.placed_timedInstant, hinstant, hnone, htimed]
  rfl

end StartDesc

/-- The instant of TIME, and of FRAME by how much later K is than the count (R175). -/
theorem State.timedInstant_eq (s : State) (raw : BitVec 512) {frac later : Nat} (hfrac : frac = bits (dOpx0 raw) 15 0)
    (hlater : later = (bits (dSrc raw) 31 0 + 2 ^ 32 - s.fget R.SLU_FS_COUNT_COUNT) % 2 ^ 32) {x : Option Nat}
    (hx : x = (if bit (dOpx0 raw) 16 = false then some (dSrc raw * 65536 + frac)
      else if later = 0 then some (s.fs.last.elim 0 (·.toNat) + bits (dSrc raw) 61 32 * 65536 + frac)
      else if later < 2 ^ 31 then none else some 0)) :
    s.timedInstant raw =
      (x, x.any fun y => decide (y < s.time80) || (bit (dOpx0 raw) 16 && decide (2 ^ 31 ≤ later))) := by
  subst hx hlater hfrac
  unfold State.timedInstant
  dsimp only
  cases hkind : bit (dOpx0 raw) 16 with
  | false => simp
  | true =>
    generalize (bits (dSrc raw) 31 0 + 2 ^ 32 - s.fget R.SLU_FS_COUNT_COUNT) % 2 ^ 32 = later
    by_cases hzero : later = 0
    · cases s.fs.last <;> simp [hzero, Nat.add_assoc]
    · rw [if_neg hzero, if_neg hzero]
      by_cases hsoon : later < 2 ^ 31
      · simp only [if_pos hsoon, Bool.not_true, Bool.false_eq_true, Bool.true_eq_false, if_false, Option.any_none]
      · simp only [if_neg hsoon, Bool.not_true, Bool.false_eq_true, Bool.true_eq_false, if_false, Option.any_some,
          decide_eq_true (Nat.le_of_not_lt hsoon), Bool.and_self, Bool.or_true]

/-! ### CONTEXT_GRANT (R157) -/

/-- The rotating pointer of an engine stands at the ring whose turn it is. -/
def State.granted (s : State) (e k : Nat) : State := s.modEng e fun x => { x with ctxPtr := k }

theorem State.granted_ctxPtr (s : State) (e k : Nat) : ((s.granted e k).eng e).ctxPtr = k :=
  congrArg (·.ctxPtr) (s.eng_modEng_same e fun x => { x with ctxPtr := k })

section ContextGrant
variable {s : State} {e : Nat} (he : e < 16)
include he

theorem exec_contextGrant_of_none (h : 8 ≤ s.contexts e ∨ s.nextRing e (s.eng e).ctxPtr s.canStart = none) :
    exec (.contextGrant e) s = .next s := by
  change execContextGrant e s = .next s
  unfold execContextGrant
  rw [Nat.mod_eq_of_lt he]
  dsimp only
  split
  · rfl
  · next hfew => rw [h.resolve_left hfew]

variable {k n st : Nat} {raw : BitVec 512} {rest : List (Nat × BitVec 512 × Nat)} (hfew : s.contexts e < 8)
  (hk : s.nextRing e (s.eng e).ctxPtr s.canStart = some k) (hfetched : (s.ring (k / 4) (k % 4)).fetched = (n, raw, st) :: rest)
include hfew hk hfetched

theorem exec_contextGrant_of_some :
    exec (.contextGrant e) s = .next ((s.granted e k).startDesc (k / 4) (k % 4) n raw st) := by
  change execContextGrant e s = _
  unfold execContextGrant
  rw [Nat.mod_eq_of_lt he, if_neg (Nat.not_le.mpr hfew), hk]
  change (match (s.ring (k / 4) (k % 4)).fetched with
    | (n, raw, st) :: _ => Host.Outcome.next ((s.granted e k).startDesc (k / 4) (k % 4) n raw st)
    | [] => .next (s.granted e k)) = _
  rw [hfetched]

theorem contextGrant_does_start {early : Option Nat}
    (hearly : early = (((s.ring (k / 4) (k % 4)).ahead.find? fun d => d.n == n).bind fun d => d.status))
    (h : st ≠ 0 ∨ badDesc raw = true ∨ early ≠ none ∨ dOpcode raw ≠ opTIMED) :
    Does (.contextGrant e) s fun t => (t.eng e).ctxPtr = k ∧ (t.ring (k / 4) (k % 4)).fetched = rest ∧
      (∃ d : DescRun, (t.ring (k / 4) (k % 4)).runs = (s.ring (k / 4) (k % 4)).runs ++ [d] ∧ d.n = n ∧
        d.status = (if st ≠ 0 then some st else if badDesc raw = true then some stBAD_DESC else early) ∧
        d.current = d.status.isNone) ∧ t.regs = s.regs ∧ t.vault = s.vault := by
  have hexec := exec_contextGrant_of_some he hfew hk hfetched
  have hstatus := (s.ring (k / 4) (k % 4)).started_status n raw st s.now
  rw [← hearly] at hstatus
  have hplain : ((s.ring (k / 4) (k % 4)).started n raw st s.now).status ≠ none ∨ dOpcode raw ≠ opTIMED := by
    rw [hstatus]
    split_ifs with hst hbad
    · exact .inl nofun
    · exact .inl nofun
    · exact (h.resolve_left hst).resolve_left hbad
  rw [(s.granted e k).startDesc_of_plain _ _ _ _ _ hplain] at hexec
  have hrest := (s.granted e k).placed_fetched (k / 4) (k % 4) n raw st
  have hptr := (congrArg (·.ctxPtr) (State.placed_eng _ (k / 4) (k % 4) n raw st e)).trans (s.granted_ctxPtr e k)
  exact ⟨_, hexec, hptr, hrest.trans (congrArg (List.drop 1) hfetched),
    ⟨_, (s.granted e k).placed_runs _ _ _ _ _, RingSt.started_n _ _ _ _ _, hstatus, RingSt.started_current _ _ _ _ _⟩,
    State.placed_regs _ _ _ _ _ _, exec_vault_of_not_writesVault rfl hexec⟩

theorem contextGrant_does_hold {x : Option Nat} {passed : Bool} (hst : st = 0) (hbad : badDesc raw = false)
    (hearly : (((s.ring (k / 4) (k % 4)).ahead.find? fun d => d.n == n).bind fun d => d.status) = none)
    (htimed : dOpcode raw = opTIMED) (hinstant : s.timedInstant raw = (x, passed)) :
    Does (.contextGrant e) s fun t => (t.eng e).ctxPtr = k ∧ (t.ring (k / 4) (k % 4)).fetched = rest ∧
      (∃ d : DescRun, d ∈ (t.ring (k / 4) (k % 4)).runs ∧ d.n = n ∧ d.instant = x ∧ (passed = false → d.status = none ∧ d.current = true) ∧
        (passed = true → d.status = some stOK ∧ d.current = false ∧ d.late = true)) ∧ t.regs = s.regs ∧ t.vault = s.vault := by
  have hexec := exec_contextGrant_of_some he hfew hk hfetched
  have hn := (s.ring (k / 4) (k % 4)).started_n n raw st s.now
  have hnone : ((s.ring (k / 4) (k % 4)).started n raw st s.now).status = none := by
    rw [RingSt.started_status, if_neg (not_not.mpr hst), if_neg (Bool.not_eq_true _ ▸ hbad), hearly]
  have hcurrent := (s.ring (k / 4) (k % 4)).started_current n raw st s.now
  rw [hnone] at hcurrent
  rw [(s.granted e k).startDesc_of_timed _ _ _ _ _ hnone htimed hinstant] at hexec
  have hptr : (((s.granted e k).placed (k / 4) (k % 4) n raw st).eng e).ctxPtr = k :=
    (congrArg (·.ctxPtr) (State.placed_eng _ _ _ _ _ _ e)).trans (s.granted_ctxPtr e k)
  have hrest := ((s.granted e k).placed_fetched (k / 4) (k % 4) n raw st).trans (congrArg (List.drop 1) hfetched)
  have hmem : (s.ring (k / 4) (k % 4)).started n raw st s.now ∈
      (((s.granted e k).placed (k / 4) (k % 4) n raw st).ring (k / 4) (k % 4)).runs := by
    rw [State.placed_runs]
    exact List.mem_append_right _ (List.mem_singleton.mpr rfl)
  have hset := State.mem_modRun_runs (fun d => { d with instant := x }) hmem hn
  have hrest' := (State.modRun_fetched _ (k / 4) (k % 4) n fun d => { d with instant := x }).trans hrest
  have hptr' := (congrArg (·.ctxPtr) (State.modRun_eng _ (k / 4) (k % 4) n (fun d => { d with instant := x }) e)).trans hptr
  have hregs : (((s.granted e k).placed (k / 4) (k % 4) n raw st).modRun (k / 4) (k % 4) n
      fun d => { d with instant := x }).regs = s.regs :=
    (State.modRun_regs _ _ _ _ _).trans (State.placed_regs _ _ _ _ _ _)
  generalize ((s.granted e k).placed (k / 4) (k % 4) n raw st).modRun (k / 4) (k % 4) n
    (fun d => { d with instant := x }) = u at hexec hset hrest' hptr' hregs
  cases passed with
  | false =>
    rw [if_neg Bool.false_ne_true] at hexec
    exact ⟨u, hexec, hptr', hrest', ⟨_, hset, hn, rfl, fun _ => ⟨hnone, hcurrent⟩, nofun⟩, hregs,
      exec_vault_of_not_writesVault rfl hexec⟩
  | true =>
    rw [if_pos rfl] at hexec
    exact ⟨_, hexec, (congrArg (·.ctxPtr) (u.modRun_eng _ _ _ _ _)).trans hptr', (u.modRun_fetched _ _ _ _).trans hrest',
      ⟨_, State.mem_modRun_runs _ hset hn, hn, rfl, nofun, fun _ => ⟨rfl, rfl, rfl⟩⟩, hregs,
      exec_vault_of_not_writesVault rfl hexec⟩

end ContextGrant

/-! ### TIMED_RELEASE (R176) -/

/-- The descriptor that holds a ring until its instant (R175). -/
def State.heldTimed (s : State) (i q : Nat) : Option DescRun :=
  (s.ring i q).runs.find? fun d => d.current && d.status.isNone && d.opcode == opTIMED

section TimedRelease
variable {s : State} {i q : Nat} (hi : i < 512) (hq : q < 4)
include hi hq

theorem exec_timedRelease_of_settled {d : DescRun} (hd : s.heldTimed i q = some d) {t0 : Nat} (ht0 : d.instant = some t0) :
    exec (.timedRelease i q) s = .next (if t0 ≤ s.time80 then s.releaseTimed i q d.n false false else s) := by
  change execTimedRelease i q s = _
  unfold execTimedRelease
  unfold State.heldTimed at hd
  rw [Nat.mod_eq_of_lt hi, Nat.mod_eq_of_lt hq]
  dsimp only
  rw [hd]
  simp only [ht0]

theorem exec_timedRelease_of_unsettled (h : ((s.heldTimed i q).bind fun d => d.instant) = none) :
    exec (.timedRelease i q) s = .next s := by
  change execTimedRelease i q s = _
  unfold execTimedRelease
  unfold State.heldTimed at h
  rw [Nat.mod_eq_of_lt hi, Nat.mod_eq_of_lt hq]
  dsimp only
  generalize ((s.ring i q).runs.find? fun d => d.current && d.status.isNone && d.opcode == opTIMED) = held at h ⊢
  cases held with
  | none => rfl
  | some d => simp only [show d.instant = none from h]

theorem timedRelease_does_release {d : DescRun} (hd : s.heldTimed i q = some d) {t0 : Nat} (ht0 : d.instant = some t0)
    (hpast : t0 ≤ s.time80) : Does (.timedRelease i q) s fun t => (∃ x : DescRun, x ∈ (t.ring i q).runs ∧ x.n = d.n ∧
      x.status = some stOK ∧ x.released = some s.ns ∧ x.late = false) ∧ t.regs = s.regs ∧ t.vault = s.vault := by
  have hexec := exec_timedRelease_of_settled hi hq hd ht0
  rw [if_pos hpast] at hexec
  have hmem : d ∈ (s.ring i q).runs := List.mem_of_find?_eq_some hd
  exact ⟨_, hexec, ⟨_, State.mem_modRun_runs _ hmem rfl, rfl, rfl, rfl, rfl⟩, rfl, exec_vault_of_not_writesVault rfl hexec⟩

end TimedRelease

/-- Settles O32: a grant places the ring's fetched descriptor and settles the instant of a TIMED one; the release of a held
one acts once its instant has come. -/
theorem grantsAndTimes : Obligations.GrantsAndTimes := by
  unfold Obligations.GrantsAndTimes
  refine ⟨fun s e he => ⟨exec_contextGrant_of_none he, ?_⟩, fun s i q hi hq held hheld => ⟨?_, ?_⟩⟩
  · intro hfew k hk r hr n raw st rest hfetched early hearly
    subst hr
    refine ⟨contextGrant_does_start he hfew hk hfetched hearly, ?_⟩
    intro hst hbad hnone htimed frac hfrac later hlater x hx passed hpassed
    exact contextGrant_does_hold he hfew hk hfetched hst hbad (hearly.symm.trans hnone) htimed
      ((s.timedInstant_eq raw hfrac hlater hx).trans (hpassed ▸ rfl))
  · intro d hd t0 ht0
    have hd' : s.heldTimed i q = some d := hheld.symm.trans hd
    refine ⟨timedRelease_does_release hi hq hd' ht0, fun hearly => ?_⟩
    rw [exec_timedRelease_of_settled hi hq hd' ht0, if_neg (Nat.not_le.mpr hearly)]
  · subst hheld
    exact exec_timedRelease_of_unsettled hi hq

end Sys2Proof.Machine
end

section
/-! PROOFS. Queue registers and discarded run-ahead reads: what they change and leave (R153 to R156, R180). -/

namespace Sys2Proof.Machine

/-! ### Queue registers (R153 to R156) -/

theorem State.bar_setBar_same (s : State) (fn off : Nat) (v : W32) : (s.setBar fn off v).bar fn off = v :=
  storeGet_storePut_same _ _ _ _

theorem State.bar_setBar_ne (s : State) {fn off fn' off' : Nat} (h : fn' * 65536 + off' ≠ fn * 65536 + off) (v : W32) :
    (s.setBar fn off v).bar fn' off' = s.bar fn' off' :=
  storeGet_storePut_ne _ h

theorem State.setQreg_regs (s : State) (i q off v : Nat) : (s.setQreg i q off v).regs = s.regs := rfl

theorem State.putQreg_regs (s : State) (i q off hi lo v : Nat) : (s.putQreg i q off hi lo v).regs = s.regs := rfl

theorem State.setQreg_ring (s : State) (i q off v j p : Nat) : (s.setQreg i q off v).ring j p = s.ring j p := rfl

theorem State.putQreg_ring (s : State) (i q off hi lo v j p : Nat) : (s.putQreg i q off hi lo v).ring j p = s.ring j p := rfl

section ModRing
variable (s : State) (i q : Nat) (f : RingSt → RingSt)

theorem State.modRing_regs : (s.modRing i q f).regs = s.regs := rfl

theorem State.modRing_qreg (j p off : Nat) : (s.modRing i q f).qreg j p off = s.qreg j p off := rfl

end ModRing

section Qreg
variable (s : State) (i q : Nat)

theorem State.qreg_setQreg_same (off v : Nat) : (s.setQreg i q off v).qreg i q off = v % 2 ^ 32 := by
  rw [State.qreg, State.setQreg, State.bar_setBar_same, BitVec.toNat_ofNat]

theorem State.qreg_setQreg_ne {off off' : Nat} (h : off' ≠ off) (v : Nat) :
    (s.setQreg i q off v).qreg i q off' = s.qreg i q off' := by
  rw [State.qreg, State.setQreg, State.bar_setBar_ne s (by omega), State.qreg]

theorem State.qreg_putQreg_ne {off off' : Nat} (h : off' ≠ off) (hi lo v : Nat) :
    (s.putQreg i q off hi lo v).qreg i q off' = s.qreg i q off' :=
  s.qreg_setQreg_ne i q h _

theorem State.bits_putQreg_same {hi lo : Nat} (h : lo ≤ hi) (h' : hi < 32) (off v : Nat) :
    bits ((s.putQreg i q off hi lo v).qreg i q off) hi lo = v % 2 ^ (hi - lo + 1) := by
  rw [State.putQreg, State.qreg_setQreg_same, bits_mod _ _ _ _ h h', bits_putBits_same _ _ _ _ h]

theorem State.bits_putQreg_ne {hi lo hi' lo' : Nat} (h : lo ≤ hi) (h' : lo' ≤ hi') (hlt : hi' < 32)
    (hd : hi' < lo ∨ hi < lo') (off v : Nat) :
    bits ((s.putQreg i q off hi lo v).qreg i q off) hi' lo' = bits (s.qreg i q off) hi' lo' := by
  rw [State.putQreg, State.qreg_setQreg_same, bits_mod _ _ _ _ h' hlt, bits_putBits_ne _ _ _ _ _ _ h h' hd]

theorem State.qEnabled_of_qreg {s t : State} {i q : Nat} (h : t.qreg i q qCFG = s.qreg i q qCFG) :
    t.qEnabled i q = s.qEnabled i q := by
  rw [State.qEnabled, h, State.qEnabled]

/-- EN set or cleared reads so (R156). -/
theorem State.qEnabled_putQreg (b : Bool) : (s.putQreg i q qCFG 16 16 b.toNat).qEnabled i q = b := by
  have hbit : (s.putQreg i q qCFG 16 16 b.toNat).qEnabled i q =
      (bits ((s.putQreg i q qCFG 16 16 b.toNat).qreg i q qCFG) 16 16 == 1) := rfl
  rw [hbit, State.bits_putQreg_same s i q (Nat.le_refl 16) (by decide)]
  cases b <;> rfl

end Qreg

theorem State.qreg_of_bar {s t : State} {i : Nat} (h : ∀ off, t.bar (Fn.inst i).num off = s.bar (Fn.inst i).num off)
    (q off : Nat) : t.qreg i q off = s.qreg i q off := by
  rw [State.qreg, h, State.qreg]

theorem State.engineOf_of_reg {s t : State} {i : Nat} (h : t.reg (R.VIM_INST_RING i) = s.reg (R.VIM_INST_RING i)) (q : Nat) :
    t.engineOf i q = s.engineOf i q := by
  rw [State.engineOf, h, State.engineOf]

theorem State.engineOf_lt (s : State) (i q : Nat) : s.engineOf i q < 16 := by
  unfold State.engineOf bits
  rw [show 8 * q + 3 - 8 * q + 1 = 4 by omega]
  exact Nat.mod_lt _ (by decide)

theorem statusReg_vimInstRing (i : Nat) : statusReg (R.VIM_INST_RING i) = false := by
  simp only [statusReg, R.VIM_INST_RING, Bool.or_eq_false_iff, beq_eq_false_iff_ne]
  omega

theorem statusReg_engSts (e : Nat) : statusReg (R.ENG_STS e) = false := by
  simp only [statusReg, R.ENG_STS, Bool.or_eq_false_iff, beq_eq_false_iff_ne]
  omega

/-! ### Reports and BAR0 of the instances

A report writes pending bits of management functions only. -/

theorem State.bar_of_bars {s t : State} (h : t.bars = s.bars) (fn off : Nat) : t.bar fn off = s.bar fn off := by
  rw [State.bar, h, State.bar]

/-- The registers of BAR0 of all instances read the same. -/
def SameBar0 (s t : State) : Prop := ∀ i off, t.bar (Fn.inst i).num off = s.bar (Fn.inst i).num off

theorem SameBar0.refl (s : State) : SameBar0 s s := fun _ _ => rfl

theorem SameBar0.of_bars {s t : State} (h : t.bars = s.bars) : SameBar0 s t := fun _ _ => State.bar_of_bars h _ _

theorem SameBar0.trans {s t u : State} (h : SameBar0 s t) (h' : SameBar0 t u) : SameBar0 s u :=
  fun i off => (h' i off).trans (h i off)

theorem State.enqueue_bars (s : State) (c : Copy) : (s.enqueue c).bars = s.bars := by
  unfold State.enqueue
  dsimp only [State.fresh]
  split <;> rfl

theorem State.admitOrWait_bars (s : State) (f : Frame) (cs : List Copy) : (s.admitOrWait f cs).bars = s.bars := by
  unfold State.admitOrWait
  split
  · exact List.foldlRecOn (b := s.store f) cs State.enqueue (motive := fun u => u.bars = s.bars) rfl
      fun u hu c _ => (u.enqueue_bars c).trans hu
  · rfl

theorem State.devicePost_bars (s : State) (t : Tlp) (pool : Pool) (fid dest : Nat) (why : Purpose) :
    (s.devicePost t pool fid dest why).bars = s.bars := by
  unfold State.devicePost
  split
  · exact s.bump_bars _
  · split
    · exact s.bump_bars _
    · exact State.admitOrWait_bars _ _ _

theorem State.postToHost_bars (s : State) (part : Nat) (addr : W64) (data : List Byte) (pool : Pool) (why : Purpose) :
    (s.postToHost part addr data pool why).bars = s.bars := by
  unfold State.postToHost
  split
  · rfl
  · exact s.devicePost_bars _ _ _ _ _

theorem State.mgmtMessage_sameBar0 (s : State) {part : Nat} (h : part < 32) (vec : Nat) :
    SameBar0 s (s.mgmtMessage part vec) := by
  unfold State.mgmtMessage
  dsimp only
  split
  · exact .of_bars (s.postToHost_bars _ _ _ _ _)
  · intro i off
    refine s.bar_setBar_ne ?_ _
    simp only [Fn.num]
    omega

theorem State.sendVectors_sameBar0 (s : State) (page : Nat) (before : Nat → Bool) : SameBar0 s (s.sendVectors page before) := by
  unfold State.sendVectors
  refine List.foldlRecOn (upTo 32) _ (motive := SameBar0 s) (.refl s) fun u hu p hp => ?_
  have hp' : p < 32 := by simpa [upTo] using hp
  split
  · exact hu.trans (u.mgmtMessage_sameBar0 hp' _)
  · exact hu

theorem State.evtWins_bars (s : State) (page : Nat) : (s.evtWins page).bars = s.bars := by
  unfold State.evtWins
  extract_lets e s1 sts
  split
  · rfl
  · exact State.bumpBy_bars _ _ _

theorem State.raise_sameBar0 (s : State) (page ev : Nat) : SameBar0 s (s.raise page ev) := by
  unfold State.raise
  split
  · unfold State.raiseAll
    split
    · exact .refl s
    · extract_lets s0 sts seq evs vec before s1 first low s2
      have h2 : SameBar0 s s2 := by
        refine .of_bars (Eq.trans ?_ (s.evtWins_bars page))
        simp only [s2]
        split <;> rfl
      split
      · exact h2.trans (s2.sendVectors_sameBar0 page before)
      · exact h2
  · exact .refl s

/-! ### Discarded run-ahead reads (R180) -/

theorem State.modEngTags_ring (s : State) (f : EngTag → EngTag) (i q : Nat) : (s.modEngTags f).ring i q = s.ring i q := rfl

/-- What logging discarded reads of an engine leaves: its LOG_NEXT, the log, its counter and event 1 apart, everything. -/
structure LogsDiscards (e : Nat) (s t : State) : Prop where
  regs : KeepsRegs s t [R.ENG_STS e]
  state : t.fget (R.ENG_STS_STATE e) = s.fget (R.ENG_STS_STATE e)
  bar0 : SameBar0 s t
  rest : t.rest = s.rest

theorem LogsDiscards.refl (e : Nat) (s : State) : LogsDiscards e s s := ⟨fun _ _ _ => rfl, rfl, .refl s, rfl⟩

theorem LogsDiscards.trans {e : Nat} {s t u : State} (h : LogsDiscards e s t) (h' : LogsDiscards e t u) :
    LogsDiscards e s u where
  regs := h.regs.trans h'.regs
  state := h'.state.trans h.state
  bar0 := h.bar0.trans h'.bar0
  rest := h'.rest.trans h.rest

section LogsDiscards
variable {e : Nat} {s t : State} (h : LogsDiscards e s t)
include h

theorem LogsDiscards.rings : t.rings = s.rings := congrArg (·.rings) h.rest

theorem LogsDiscards.ring (i q : Nat) : t.ring i q = s.ring i q := State.ring_of_rings h.rings i q

theorem LogsDiscards.qreg (i q off : Nat) : t.qreg i q off = s.qreg i q off := State.qreg_of_bar (h.bar0 i) q off

theorem LogsDiscards.engineOf (i q : Nat) : t.engineOf i q = s.engineOf i q := by
  refine State.engineOf_of_reg (h.regs _ ?_ ?_) q
  · exact statusReg_vimInstRing i
  · rw [List.mem_singleton]
    simp only [R.VIM_INST_RING, R.ENG_STS]
    omega

end LogsDiscards

theorem State.setTbl_logsDiscards (e : Nat) (s : State) (page table index : Nat) (v : W256) :
    LogsDiscards e s (s.setTbl page table index v) := ⟨fun _ _ _ => rfl, rfl, .refl s, rfl⟩

theorem State.fsetLogNext_logsDiscards (e : Nat) (s : State) (v : Nat) :
    LogsDiscards e s (s.fset (R.ENG_STS_LOG_NEXT e) v) where
  regs a _ hne := State.reg_fset_ne fun h => hne (List.mem_singleton.mpr h)
  state := State.fget_fset_ne _ _ _ _ (by simp) (by simp) (by simp) (.inl (by simp))
  bar0 := .refl s
  rest := s.fset_rest _ _

theorem State.bump_logsDiscards (e : Nat) (s : State) (a : Nat) : LogsDiscards e s (s.bump a) where
  regs b _ _ := State.reg_eq_of_regs (s.bump_regs a) b
  state := State.fget_of_reg (State.reg_eq_of_regs (s.bump_regs a) _)
  bar0 := .of_bars (s.bump_bars a)
  rest := s.bump_rest a

theorem State.raise_logsDiscards (e : Nat) (s : State) (page ev : Nat) : LogsDiscards e s (s.raise page ev) where
  regs _ ha _ := s.raise_reg page ev ha
  state := State.fget_of_reg (s.raise_reg page ev (statusReg_engSts e))
  bar0 := s.raise_sameBar0 page ev
  rest := s.raise_rest page ev

theorem State.discardLog_logsDiscards (s : State) (e i q : Nat) (read : W64 × Nat × Nat) (cause : Nat) :
    LogsDiscards e s (s.discardLog e i q read cause) := by
  unfold State.discardLog
  extract_lets k v s1
  have h1 : LogsDiscards e s s1 := s.setTbl_logsDiscards e _ _ _ _
  exact ((h1.trans (s1.fsetLogNext_logsDiscards e _)).trans (State.bump_logsDiscards e _ _)).trans
    (State.raise_logsDiscards e _ _ _)

theorem State.discardLogs_logsDiscards {e : Nat} (f : State → W64 × Nat × Nat → State)
    (reads : List (W64 × Nat × Nat)) (s : State) (hf : ∀ u, LogsDiscards e s u → ∀ x, LogsDiscards e u (f u x)) :
    LogsDiscards e s (reads.foldl f s) :=
  List.foldlRecOn reads f (motive := LogsDiscards e s) (.refl e s) fun u hu x _ => hu.trans (hf u hu x)

section DiscardAhead
variable (s : State) (i q cause : Nat)

/-- The discards of a ring's run-ahead reads, logged (R180). -/
def State.aheadLogged : State :=
  ((s.ring i q).ahead.flatMap fun d => d.aheadReads).foldl (fun t x => t.discardLog (s.engineOf i q) i q x cause) s

theorem State.aheadLogged_logsDiscards : LogsDiscards (s.engineOf i q) s (s.aheadLogged i q cause) :=
  s.discardLogs_logsDiscards _ _ fun u _ x => u.discardLog_logsDiscards _ _ _ x cause

theorem State.discardAhead_eq : s.discardAhead i q cause =
    ((s.aheadLogged i q cause).modRing i q fun r => { r with ahead := [] }).modEngTags fun t =>
      if t.inst = i ∧ t.ring = q ∧ t.ahead = true then { t with discard := true } else t := rfl

theorem State.discardAhead_ring_same : (s.discardAhead i q cause).ring i q = { s.ring i q with ahead := [] } :=
  by rw [State.discardAhead_eq, State.modEngTags_ring, State.ring_modRing_same, (s.aheadLogged_logsDiscards i q cause).ring]

theorem State.discardAhead_ring_ne {j p : Nat} (h : 4 * j + p ≠ 4 * i + q) :
    (s.discardAhead i q cause).ring j p = s.ring j p :=
  by rw [State.discardAhead_eq, State.modEngTags_ring, State.ring_modRing_ne _ h, (s.aheadLogged_logsDiscards i q cause).ring]

theorem State.discardAhead_keepsRegs : KeepsRegs s (s.discardAhead i q cause) [R.ENG_STS (s.engineOf i q)] :=
  (s.aheadLogged_logsDiscards i q cause).regs

theorem State.discardAhead_state : (s.discardAhead i q cause).fget (R.ENG_STS_STATE (s.engineOf i q)) =
    s.fget (R.ENG_STS_STATE (s.engineOf i q)) :=
  (s.aheadLogged_logsDiscards i q cause).state

theorem State.discardAhead_sameBar0 : SameBar0 s (s.discardAhead i q cause) :=
  (s.aheadLogged_logsDiscards i q cause).bar0

end DiscardAhead

end Sys2Proof.Machine
end

section
/-! PROOFS. Doorbells, rings enabled, disabled and resumed, and descriptor fetches (R154 to R156). -/

namespace Sys2Proof.Machine

/-! ### Descriptors withdrawn by a doorbell (R154) -/

section DropWithdrawn
variable (s : State) (i q : Nat)

/-- Is a descriptor withdrawn: at or beyond PROD, and not started? -/
def State.withdrawn (k : Nat) : Bool :=
  decide (s.outstanding i q ≤ (k + 2 ^ 32 - s.qreg i q qDONE) % 2 ^ 32) && !(s.ring i q).runs.any fun d => d.n == k

/-- The run-ahead reads of withdrawn descriptors, logged (R154, R180). -/
def State.withdrawnLogged : State :=
  (((s.ring i q).ahead.filter fun d => s.withdrawn i q d.n).flatMap fun d => d.aheadReads).foldl
    (fun t x => t.discardLog (t.engineOf i q) i q x dSTOP) s

theorem State.dropWithdrawn_eq : s.dropWithdrawn i q =
    ((s.withdrawnLogged i q).modRing i q fun r => { r with
      fetched := r.fetched.filter (fun x => !s.withdrawn i q x.1), ahead := r.ahead.filter fun d => !s.withdrawn i q d.n }).modEngTags
      fun t => if t.inst = i ∧ t.ring = q ∧ (match t.why with
        | .fetch k => s.withdrawn i q k
        | .source k _ => s.withdrawn i q k
        | _ => false) = true then { t with discard := true } else t := rfl

theorem State.withdrawnLogged_logsDiscards : LogsDiscards (s.engineOf i q) s (s.withdrawnLogged i q) :=
  s.discardLogs_logsDiscards _ _ fun u hu x => hu.engineOf i q ▸ u.discardLog_logsDiscards _ i q x dSTOP

theorem State.withdrawnLogged_of_ahead_nil (h : (s.ring i q).ahead = []) : s.withdrawnLogged i q = s := by
  rw [State.withdrawnLogged, h]
  rfl

theorem State.dropWithdrawn_runs : ((s.dropWithdrawn i q).ring i q).runs = (s.ring i q).runs := by
  rw [State.dropWithdrawn_eq, State.modEngTags_ring, State.ring_modRing_same, (s.withdrawnLogged_logsDiscards i q).ring]

theorem State.dropWithdrawn_qreg (off : Nat) : (s.dropWithdrawn i q).qreg i q off = s.qreg i q off :=
  (s.withdrawnLogged_logsDiscards i q).qreg i q off

theorem State.dropWithdrawn_keepsRegs : KeepsRegs s (s.dropWithdrawn i q) [R.ENG_STS (s.engineOf i q)] :=
  (s.withdrawnLogged_logsDiscards i q).regs

/-- Without run-ahead data nothing is logged. -/
theorem State.dropWithdrawn_books (h : (s.ring i q).ahead = []) : (s.dropWithdrawn i q).books = s.books := by
  rw [State.dropWithdrawn_eq, State.withdrawnLogged_of_ahead_nil s i q h]
  rfl

end DropWithdrawn

/-! ### DOORBELL (R154) -/

/-- The state with PROD set, what it was noted for a reset of the same core cycle. -/
def State.rungTo (s : State) (i q v : Nat) : State :=
  (s.modRing i q fun r => { r with rung := match r.rung with
    | some (at', prod) => some (s.now, if at' = s.now then prod else s.qreg i q qPROD)
    | none => some (s.now, s.qreg i q qPROD) }).setQreg i q qPROD v

section RungTo
variable (s : State) (i q v : Nat)

theorem State.rungTo_regs : (s.rungTo i q v).regs = s.regs := rfl

theorem State.rungTo_books : (s.rungTo i q v).books = s.books := rfl

theorem State.rungTo_prod : (s.rungTo i q v).qreg i q qPROD = v % 2 ^ 32 := State.qreg_setQreg_same _ i q qPROD v

theorem State.rungTo_done : (s.rungTo i q v).qreg i q qDONE = s.qreg i q qDONE :=
  State.qreg_setQreg_ne _ i q (by decide) v

theorem State.rungTo_ring : (s.rungTo i q v).ring i q = { s.ring i q with rung := ((s.rungTo i q v).ring i q).rung } := by
  rw [State.rungTo, State.setQreg_ring, State.ring_modRing_same]

end RungTo

section Doorbell
variable {s : State} {i q : Nat} (hi : i < 512) (hq : q < 4)
include hi hq

theorem exec_doorbell (v : W32) : exec (.doorbell i q v) s = .next (s.doorbell i q v) := by
  change execDoorbell i q v s = _
  rw [execDoorbell, Nat.mod_eq_of_lt hi, Nat.mod_eq_of_lt hq]

theorem exec_doorbell_of_ignored (v : W32) (h : s.qEnabled i q = false ∨ s.instState i = iRESETTING) :
    exec (.doorbell i q v) s = .next s := by
  rw [exec_doorbell hi hq, State.doorbell, if_pos]
  simpa using h

variable (hen : s.qEnabled i q = true) (hstate : s.instState i ≠ iRESETTING)
include hen hstate

theorem doorbell_does_accept {v : W32} (hfits : (v.toNat + 2 ^ 32 - s.qreg i q qDONE) % 2 ^ 32 ≤ s.qSize i q) :
    Does (.doorbell i q v) s fun t =>
      t.qreg i q qPROD = v.toNat ∧ t.qreg i q qDONE = s.qreg i q qDONE ∧ (t.ring i q).runs = (s.ring i q).runs ∧
      ((s.ring i q).ahead = [] → t.regs = s.regs ∧ t.ctrs = s.ctrs) ∧ KeepsRegs s t [R.ENG_STS (s.engineOf i q)] ∧
      t.vault = s.vault := by
  have hexec := exec_doorbell (s := s) hi hq v
  rw [State.doorbell, if_neg (by simp [hen, hstate]), if_pos hfits] at hexec
  change _ = Host.Outcome.next ((s.rungTo i q v.toNat).dropWithdrawn i q) at hexec
  have hring := s.rungTo_ring i q v.toNat
  have hkeeps := (s.rungTo i q v.toNat).dropWithdrawn_keepsRegs i q
  refine ⟨_, hexec, ?_, ?_, ?_, fun hahead => ?_, ?_, exec_vault_of_not_writesVault rfl hexec⟩
  · rw [State.dropWithdrawn_qreg, State.rungTo_prod, Nat.mod_eq_of_lt v.isLt]
  · rw [State.dropWithdrawn_qreg, State.rungTo_done]
  · rw [State.dropWithdrawn_runs, hring]
  · have hahead' : ((s.rungTo i q v.toNat).ring i q).ahead = [] := by rw [hring, hahead]
    exact Prod.ext_iff.mp ((State.dropWithdrawn_books _ i q hahead').trans (s.rungTo_books i q v.toNat))
  · exact hkeeps

theorem doorbell_does_refuse {v : W32} (hal : s.alive = true)
    (hbeyond : s.qSize i q < (v.toNat + 2 ^ 32 - s.qreg i q qDONE) % 2 ^ 32) :
    Does (.doorbell i q v) s fun t =>
      t.qreg i q qPROD = s.qreg i q qPROD ∧
      bits (t.qreg i q qSTS) 31 24 = min (bits (s.qreg i q qSTS) 31 24 + 1) 255 ∧
      (s.bound i q = true → Counted s t (R.ENG_DB_REFUSED (s.engineOf i q))) ∧ t.regs = s.regs ∧ t.vault = s.vault := by
  have hexec := exec_doorbell (s := s) hi hq v
  rw [State.doorbell, if_neg (by simp [hen, hstate]), if_neg (Nat.not_le.mpr hbeyond)] at hexec
  dsimp only at hexec
  have hprod := s.qreg_putQreg_ne i q (show qPROD ≠ qSTS by decide) 31 24 (min (bits (s.qreg i q qSTS) 31 24 + 1) 255)
  have hcount := s.bits_putQreg_same i q (show 24 ≤ 31 by decide) (by decide) qSTS (min (bits (s.qreg i q qSTS) 31 24 + 1) 255)
  rw [Nat.mod_eq_of_lt (by omega)] at hcount
  have hregs : (s.putQreg i q qSTS 31 24 (min (bits (s.qreg i q qSTS) 31 24 + 1) 255)).regs = s.regs := rfl
  have hctrs : (s.putQreg i q qSTS 31 24 (min (bits (s.qreg i q qSTS) 31 24 + 1) 255)).ctrs = s.ctrs := rfl
  generalize s.putQreg i q qSTS 31 24 (min (bits (s.qreg i q qSTS) 31 24 + 1) 255) = u at hexec hprod hcount hregs hctrs
  have hreg := State.reg_eq_of_regs hregs
  have hbound : u.bound i q = s.bound i q := by rw [State.bound, hreg, State.bound]
  rw [hbound, State.engineOf_of_reg (hreg _)] at hexec
  have hal' : u.alive = true := (State.alive_eq_of_reg (hreg _)).trans hal
  cases hb : s.bound i q with
  | false =>
    rw [hb, if_neg Bool.false_ne_true] at hexec
    exact ⟨u, hexec, hprod, hcount, nofun, hregs, exec_vault_of_not_writesVault rfl hexec⟩
  | true =>
    rw [hb, if_pos rfl] at hexec
    have hbar (off : Nat) := State.qreg_of_bar (fun off => State.bar_of_bars (u.bump_bars (R.ENG_DB_REFUSED (s.engineOf i q)))
      (Fn.inst i).num off) q off
    refine ⟨_, hexec, (hbar _).trans hprod, ?_, fun _ => ?_, (u.bump_regs _).trans hregs,
      exec_vault_of_not_writesVault rfl hexec⟩
    · rw [hbar, hcount]
    · rw [Counted, State.ctr_bump_same hal', State.ctr_eq_of_ctrs hctrs]

end Doorbell

/-! ### RING_ENABLE, RING_DISABLE and RING_RESUME (R156) -/

section RingCommands
variable (s : State) (i q : Nat)

theorem State.ringEnable_regs : (s.ringEnable i q).regs = s.regs := by
  simp only [State.ringEnable, State.putQreg_regs, State.setQreg_regs, State.modRing_regs]

theorem State.ringEnable_qEnabled : (s.ringEnable i q).qEnabled i q = true := State.qEnabled_putQreg _ i q true

theorem State.ringEnable_runs : ((s.ringEnable i q).ring i q).runs = [] := by
  rw [State.ringEnable, State.putQreg_ring, State.ring_modRing_same]

theorem State.ringEnable_prod : (s.ringEnable i q).qreg i q qPROD = 0 := by
  unfold State.ringEnable
  rw [State.qreg_putQreg_ne _ _ _ (by decide), State.modRing_qreg, State.qreg_putQreg_ne _ _ _ (by decide),
    State.qreg_putQreg_ne _ _ _ (by decide), State.qreg_setQreg_ne _ _ _ (by decide), State.qreg_setQreg_same, Nat.zero_mod]

theorem State.ringEnable_done : (s.ringEnable i q).qreg i q qDONE = 0 := by
  unfold State.ringEnable
  rw [State.qreg_putQreg_ne _ _ _ (by decide), State.modRing_qreg, State.qreg_putQreg_ne _ _ _ (by decide),
    State.qreg_putQreg_ne _ _ _ (by decide), State.qreg_setQreg_same, Nat.zero_mod]

theorem State.ringEnable_refused : bits ((s.ringEnable i q).qreg i q qSTS) 31 24 = 0 := by
  unfold State.ringEnable
  rw [State.qreg_putQreg_ne _ _ _ (by decide), State.modRing_qreg, State.bits_putQreg_same _ _ _ (by decide) (by decide), Nat.zero_mod]

theorem State.ringOff_qEnabled : (s.ringOff i q).qEnabled i q = false :=
  (State.qEnabled_of_qreg (State.qreg_putQreg_ne _ i q (show qCFG ≠ qSTS by decide) 2 0 0)).trans
    (State.qEnabled_putQreg _ i q false)

theorem State.ringOff_fetched : ((s.ringOff i q).ring i q).fetched = [] := by
  rw [State.ringOff, State.putQreg_ring, State.putQreg_ring, State.ring_modRing_same]

theorem State.ringOff_keepsRegs : KeepsRegs s (s.ringOff i q) [R.ENG_STS (s.engineOf i q)] := by
  intro a ha hne
  rw [State.ringOff, State.putQreg_reg _ _ _ _ _ _ _ ha, State.putQreg_reg _ _ _ _ _ _ _ ha, State.modRing_reg _ _ _ _ ha,
    State.modEngTags_reg _ _ ha, s.discardAhead_keepsRegs i q dSTOP a ha hne]

theorem State.putQreg_halted (v : Nat) (h : v % 8 ≠ 4) : (s.putQreg i q qSTS 2 0 v).halted i q = false := by
  rw [State.halted, State.bits_putQreg_same _ _ _ (by decide) (by decide)]
  simpa using h

end RingCommands

section RingCommands
variable {s : State} {i q : Nat} (hi : i < 512) (hq : q < 4)
include hi hq

theorem exec_ringEnable : exec (.ringEnable i q) s = .next (if s.qEnabled i q then s else s.ringEnable i q) := by
  change execRingEnable i q s = _
  rw [execRingEnable, Nat.mod_eq_of_lt hi, Nat.mod_eq_of_lt hq]

theorem exec_ringDisable : exec (.ringDisable i q) s = .next (s.ringDisable i q) := by
  change execRingDisable i q s = _
  rw [execRingDisable, Nat.mod_eq_of_lt hi, Nat.mod_eq_of_lt hq]

theorem exec_ringResume : exec (.ringResume i q) s = .next (s.ringResume i q) := by
  change execRingResume i q s = _
  rw [execRingResume, Nat.mod_eq_of_lt hi, Nat.mod_eq_of_lt hq]

theorem ringEnable_does_enable (hen : s.qEnabled i q = false) :
    Does (.ringEnable i q) s fun t => t.qEnabled i q = true ∧ t.qreg i q qPROD = 0 ∧
      t.qreg i q qDONE = 0 ∧ bits (t.qreg i q qSTS) 31 24 = 0 ∧ (t.ring i q).runs = [] ∧ t.regs = s.regs ∧
      t.vault = s.vault := by
  have hexec := exec_ringEnable (s := s) hi hq
  rw [hen, if_neg Bool.false_ne_true] at hexec
  exact ⟨_, hexec, s.ringEnable_qEnabled i q, s.ringEnable_prod i q, s.ringEnable_done i q, s.ringEnable_refused i q,
    s.ringEnable_runs i q, s.ringEnable_regs i q, exec_vault_of_not_writesVault rfl hexec⟩

theorem ringDisable_does_off (hen : s.qEnabled i q = true) (hruns : (s.ring i q).runs = []) :
    Does (.ringDisable i q) s fun t => t.qEnabled i q = false ∧ (t.ring i q).fetched = [] ∧
      KeepsRegs s t [R.ENG_STS (s.engineOf i q)] ∧ t.vault = s.vault := by
  have hexec := exec_ringDisable (s := s) hi hq
  rw [State.ringDisable, hen, hruns] at hexec
  exact ⟨_, hexec, s.ringOff_qEnabled i q, s.ringOff_fetched i q, s.ringOff_keepsRegs i q,
    exec_vault_of_not_writesVault rfl hexec⟩

theorem ringDisable_does_wait (hen : s.qEnabled i q = true) (hruns : (s.ring i q).runs ≠ []) :
    Does (.ringDisable i q) s fun t => t.qEnabled i q = true ∧ (t.ring i q).disabling = true ∧
      (t.ring i q).runs = (s.ring i q).runs ∧ t.regs = s.regs ∧ t.vault = s.vault := by
  have hexec := exec_ringDisable (s := s) hi hq
  rw [State.ringDisable, hen, if_neg (by simp), if_neg (by simpa using hruns)] at hexec
  have hring := s.ring_modRing_same i q fun r => { r with disabling := true }
  have hen' := (State.qEnabled_of_qreg (s.modRing_qreg i q (fun r => { r with disabling := true }) i q qCFG)).trans hen
  have hregs := s.modRing_regs i q fun r => { r with disabling := true }
  generalize s.modRing i q (fun r => { r with disabling := true }) = u at hexec hring hen' hregs
  exact ⟨u, hexec, hen', congrArg (·.disabling) hring, congrArg (·.runs) hring, hregs, exec_vault_of_not_writesVault rfl hexec⟩

theorem ringResume_does_resume (h : s.halted i q = true) :
    Does (.ringResume i q) s fun t => t.halted i q = false ∧ t.rings = s.rings ∧ t.regs = s.regs ∧ t.vault = s.vault := by
  have hexec := exec_ringResume (s := s) hi hq
  rw [State.ringResume, if_pos h] at hexec
  exact ⟨_, hexec, s.putQreg_halted i q 0 (by decide), rfl, rfl, exec_vault_of_not_writesVault rfl hexec⟩

end RingCommands

/-! ### DESCRIPTOR_FETCH (R154, R155) -/

/-- Does the ring fetch its next descriptor now? -/
def State.fetchDue (s : State) (i q : Nat) : Bool :=
  s.ringServed i q && decide ((s.ring i q).fetched.length + s.fetching i q < 8) &&
    decide (s.taken i q < s.outstanding i q) && decide (s.rbBytes (s.engineOf i q) + 64 ≤ 262144)

/-- The read of the ring's next descriptor. -/
def State.fetchRead (s : State) (i q n : Nat) : Option (State × Issue) :=
  s.engineRead (s.engineOf i q) i q 0 (BitVec.ofNat 64 (s.qaddr i q qBASE + 64 * (n % s.qSize i q))) 64 (.fetch n) .access
    false

section DescriptorFetch
variable {s : State} {i q : Nat} (hi : i < 512) (hq : q < 4)
include hi hq

theorem exec_descriptorFetch {n : Nat} (hn : n = (s.qreg i q qDONE + s.taken i q) % 2 ^ 32) :
    exec (.descriptorFetch i q) s = if s.fetchDue i q then (match s.fetchRead i q n with
      | none => .next s
      | some (u, .ok _ _ _ _ _ _) => .next u
      | some (u, .failed _ _) => .next (u.fetchedOne i q n 0 stRECORD_FAILED)) else .next s := by
  subst hn
  change execDescriptorFetch i q s = _
  unfold execDescriptorFetch
  rw [Nat.mod_eq_of_lt hi, Nat.mod_eq_of_lt hq]
  dsimp only
  have hdue : s.fetchDue i q = !(!s.ringServed i q || decide (8 ≤ (s.ring i q).fetched.length + s.fetching i q) ||
      decide (s.outstanding i q ≤ s.taken i q) || decide (262144 < s.rbBytes (s.engineOf i q) + 64)) := by
    simp [State.fetchDue, ← decide_not]
  rw [hdue]
  cases !s.ringServed i q || decide (8 ≤ (s.ring i q).fetched.length + s.fetching i q) ||
    decide (s.outstanding i q ≤ s.taken i q) || decide (262144 < s.rbBytes (s.engineOf i q) + 64) <;> rfl

end DescriptorFetch

/-- Settles O31: the queue registers and the ring after each command, and the read that a fetch makes. -/
theorem ringsAndFetches : Obligations.RingsAndFetches := by
  unfold Obligations.RingsAndFetches
  refine ⟨fun s i q hi hq hal => ⟨fun v => ⟨?_, ?_, ?_⟩, ?_, ?_, ?_, ?_, ?_, ?_⟩, fun s i q hi hq n hn due hdue read hread => ?_⟩
  · exact fun hen => exec_doorbell_of_ignored hi hq v (.inl hen)
  · exact fun hen hstate => ⟨doorbell_does_accept hi hq hen hstate, doorbell_does_refuse hi hq hen hstate hal⟩
  · exact fun hstate => exec_doorbell_of_ignored hi hq v (.inr hstate)
  · exact ringEnable_does_enable hi hq
  · exact fun hen => (exec_ringEnable hi hq).trans (by rw [if_pos hen])
  · exact fun hen => (exec_ringDisable hi hq).trans (by rw [State.ringDisable, hen]; rfl)
  · exact fun hen => ⟨ringDisable_does_off hi hq hen, ringDisable_does_wait hi hq hen⟩
  · exact ringResume_does_resume hi hq
  · exact fun h => (exec_ringResume hi hq).trans (by rw [State.ringResume, h]; rfl)
  · have hexec := exec_descriptorFetch (s := s) hi hq hn
    rw [show s.fetchDue i q = due from hdue.symm, show s.fetchRead i q n = read from hread.symm] at hexec
    refine ⟨fun htrue u x hx => ⟨?_, ?_⟩, ?_⟩
    · rintro w e fid f l m rfl
      rw [hexec, htrue, hx]
      rfl
    · rintro st w rfl
      rw [hexec, htrue, hx]
      rfl
    · rintro (hfalse | hnone)
      · rw [hexec, hfalse, if_neg Bool.false_ne_true]
      · rw [hexec, hnone, ite_self]

end Sys2Proof.Machine
end

section
/-! PROOFS. Engine reads that time out (R181, R182, R183, R198). -/

namespace Sys2Proof.Machine

/-! ### AER errors: no register, and no counter but those of messages without a way (R106, R223) -/

theorem State.setCfg_books (s : State) (fn off : Nat) (v : W32) : (s.setCfg fn off v).books = s.books := rfl

theorem State.orCfg_books (s : State) (fn off : Nat) (m : W32) : (s.orCfg fn off m).books = s.books := s.setCfg_books _ _ _

theorem State.putCfg_books (s : State) (fn off hi lo v : Nat) : (s.putCfg fn off hi lo v).books = s.books :=
  s.setCfg_books _ _ _

theorem State.aerLog_books (s : State) (fn b : Nat) (hdr : List Byte) : (s.aerLog fn b hdr).books = s.books := by
  unfold State.aerLog
  extract_lets first s1 s2
  have h1 : s1.books = s.books := s.orCfg_books fn _ _
  have h2 : s2.books = s.books := by
    simp only [s2]
    split
    · exact (s1.putCfg_books _ _ _ _ _).trans h1
    · exact h1
  split
  · exact List.foldlRecOn (b := s2) (upTo 4) _ (motive := fun u => u.books = s.books) h2
      fun u hu _ _ => (u.setCfg_books _ _ _).trans hu
  · exact h2

theorem State.errSignal_onlyPosts (s : State) (fn part : Nat) (code : BitVec 8) :
    OnlyPosts s (s.errSignal fn part code) := by
  unfold State.errSignal
  split
  · exact .refl s
  · split
    · exact .refl s
    · exact s.devicePost_onlyPosts _ _ _ _ _

theorem State.aerUncorrectable_onlyPosts (s : State) (fn part b : Nat) (hdr : List Byte) :
    OnlyPosts s (s.aerUncorrectable fn part b hdr) := by
  unfold State.aerUncorrectable
  extract_lets masked fatal s1 s2 enabled
  have h2 : OnlyPosts s s2 := .of_books ((s1.orCfg_books fn cDevCtl _).trans (s.aerLog_books fn b hdr))
  split
  · exact h2
  · exact h2.trans (s2.errSignal_onlyPosts _ _ _)

theorem State.engineAer_onlyPosts (s : State) (i : Nat) : OnlyPosts s (s.engineAer i) :=
  s.aerUncorrectable_onlyPosts _ _ _ _

theorem State.engineAer_rest (s : State) (i : Nat) : (s.engineAer i).rest = s.rest := s.aerUncorrectable_rest _ _ _ _

/-! ### A read counted and reported (R181, R182) -/

/-- A counter of an engine and an event of its page. -/
def State.reportRead (s : State) (a e ev : Nat) : State := (s.bump a).raise (0x200 + e) ev

section ReportRead
variable (s : State) (a e ev : Nat)

theorem State.reportRead_rest : (s.reportRead a e ev).rest = s.rest := by simp [State.reportRead]

theorem State.reportRead_engTags : (s.reportRead a e ev).engTags = s.engTags := congrArg (·.engTags) (s.reportRead_rest a e ev)

theorem State.reportRead_ring (i q : Nat) : (s.reportRead a e ev).ring i q = s.ring i q :=
  State.ring_of_rings (congrArg (·.rings) (s.reportRead_rest a e ev)) i q

/-- The counter of the engine's page advances by the one read, and the event stands. -/
theorem State.reportRead_reports {s u : State} {a e ev : Nat} (hbooks : u.books = s.books) (hal : s.alive = true)
    (ha : 0x200800 + 0x1000 * e < a) (hev : ev < 16) :
    Counted s (u.reportRead a e ev) a ∧ (u.reportRead a e ev).event (0x200 + e) ev = true := by
  obtain ⟨hregs, hctrs⟩ := Prod.ext_iff.mp hbooks
  have halu : u.alive = true := (State.alive_eq_of_reg (State.reg_eq_of_regs hregs _)).trans hal
  refine ⟨?_, State.raise_event_same ((State.alive_eq_of_reg (State.reg_eq_of_regs (u.bump_regs a) _)).trans halu) hev⟩
  rw [Counted, State.reportRead, State.raise_ctr_ne _ (by simp only [R.MAP_NOROUTE]; omega) (by simp only [R.BUF_FLUSH_P]; omega)
    (by omega), State.ctr_bump_same halu, State.ctr_eq_of_ctrs hctrs]

end ReportRead

/-! ### Descriptors fetched, and runs changed in place -/

theorem mem_insertFetched (x : Nat × BitVec 512 × Nat) (done : Nat) (l : List (Nat × BitVec 512 × Nat)) :
    x ∈ insertFetched x done l := by
  induction l with
  | nil => exact List.mem_singleton.mpr rfl
  | cons y ys ih =>
    unfold insertFetched
    split
    · exact List.mem_cons_self
    · exact List.mem_cons_of_mem _ ih

theorem State.mem_fetchedOne (s : State) (i q n : Nat) (raw : BitVec 512) (st : Nat) :
    (n, raw, st) ∈ ((s.fetchedOne i q n raw st).ring i q).fetched := by
  rw [State.fetchedOne, State.ring_modRing_same]
  exact mem_insertFetched _ _ _

theorem State.fetchedOne_books (s : State) (i q n : Nat) (raw : BitVec 512) (st : Nat) :
    (s.fetchedOne i q n raw st).books = s.books := rfl

theorem State.modSource_books (s : State) (i q n : Nat) (f : DescRun → DescRun) : (s.modSource i q n f).books = s.books := rfl

theorem State.retireTag_books (s : State) (id : Nat) : (s.retireTag id).books = s.books := rfl

/-- The run or run-ahead data that a source read is for stands changed. -/
theorem State.mem_modSource {s : State} {i q n : Nat} (f : DescRun → DescRun) {d : DescRun}
    (hd : d ∈ (s.ring i q).runs ++ (s.ring i q).ahead) (hn : d.n = n) (hst : d.status = none) :
    f d ∈ ((s.modSource i q n f).ring i q).runs ++ ((s.modSource i q n f).ring i q).ahead := by
  rw [State.modSource, State.ring_modRing_same]
  have hmap : ∀ l : List DescRun, d ∈ l → f d ∈ l.map fun d => if d.n = n ∧ d.status = none then f d else d :=
    fun l hl => List.mem_map.mpr ⟨d, hl, if_pos ⟨hn, hst⟩⟩
  rw [List.mem_append] at hd ⊢
  exact hd.imp (hmap _) (hmap _)

theorem State.modEngTags_regs (s : State) (f : EngTag → EngTag) : (s.modEngTags f).regs = s.regs := rfl

theorem State.endDesc_regs (s : State) (i q n st res : Nat) : (s.endDesc i q n st res).regs = s.regs :=
  s.modRun_regs i q n fun d => if d.status.isSome then d else
    { d with status := some st, result := res, current := false, segs := [] }

theorem State.endDesc_ring (s : State) (i q n st res j p : Nat) : (s.endDesc i q n st res).ring j p =
    (s.modRun i q n fun d => if d.status.isSome then d else
      { d with status := some st, result := res, current := false, segs := [] }).ring j p := rfl

/-- A run of a descriptor ended that had no status takes that of the end (R169). -/
theorem State.mem_endDesc_runs {s : State} {i q n : Nat} (st res : Nat) {d : DescRun} (hd : d ∈ (s.ring i q).runs)
    (hn : d.n = n) (hnone : d.status = none) :
    { d with status := some st, result := res, current := false, segs := [] } ∈ ((s.endDesc i q n st res).ring i q).runs := by
  have hmem := State.mem_modRun_runs (fun d => if d.status.isSome then d else
    { d with status := some st, result := res, current := false, segs := [] }) hd hn
  rw [State.endDesc_ring]
  simpa [hnone] using hmem

theorem State.endDesc_ahead (s : State) (i q n st res : Nat) :
    ((s.endDesc i q n st res).ring i q).ahead = (s.ring i q).ahead := by
  rw [State.endDesc_ring, State.modRun_ring]

/-- An ended descriptor's reads keep their tags. -/
theorem State.endDesc_tagIds (s : State) (i q n st res : Nat) :
    (s.endDesc i q n st res).engTags.map (·.id) = s.engTags.map (·.id) := by
  rw [show (s.endDesc i q n st res).engTags = s.engTags.map _ from rfl, List.map_map]
  refine List.map_congr_left fun t _ => ?_
  exact (apply_ite EngTag.id _ _ _).trans (ite_self _)

theorem State.sourceFailed_of_ahead {s : State} {i q n : Nat} (h : ((s.ring i q).ahead.any fun d => d.n == n) = true)
    (st w : Nat) : s.sourceFailed i q n st w = s.modRing i q fun r => { r with
      ahead := r.ahead.map fun d => if d.n = n then { d with status := some st, result := errResult w 0 } else d } :=
  if_pos h

theorem State.sourceFailed_of_started {s : State} {i q n : Nat} (h : ((s.ring i q).ahead.any fun d => d.n == n) = false)
    (st w : Nat) : s.sourceFailed i q n st w = s.endDesc i q n st (errResult w 0) :=
  if_neg (by rw [h]; exact Bool.false_ne_true)

theorem State.sourceFailed_tagIds (s : State) (i q n st w : Nat) :
    (s.sourceFailed i q n st w).engTags.map (·.id) = s.engTags.map (·.id) := by
  unfold State.sourceFailed
  split
  · rfl
  · exact s.endDesc_tagIds _ _ _ _ _

theorem State.modFence_engTags (s : State) (i q : Nat) (why : ReadFor) (f : Fence → Fence) :
    (s.modFence i q why f).engTags = s.engTags := by
  cases why <;> rfl

/-! ### ENG_CTO_EXPIRY (R181) -/

/-- Is a read of normal service due to be filled? -/
def State.fillDue (s : State) (x : EngTag) : Bool :=
  !x.recovery && !x.stopped && s.instState x.inst != iRESETTING
    && decide (x.issued + 1250000 * s.fget (R.ENG_CTO_MS x.engine) ≤ s.now)

/-- The bytes still to come, poisoned zeros. -/
def EngTag.zeros (x : EngTag) (off : Nat) : Seg :=
  { off := off + x.got, data := List.replicate (x.len - x.got) 0, poison := true }

/-- A descriptor whose bytes still to come are poisoned zeros. -/
def EngTag.fills (x : EngTag) (off : Nat) (d : DescRun) : DescRun :=
  { d with filled := true, segs := d.segs ++ [x.zeros off] }

section Expiry
variable {s : State} {x : EngTag} (hx : (s.engTags.find? fun t => t.id == x.id) = some x)

include hx in
theorem exec_engCtoExpiry : exec (.engCtoExpiry x.id) s = .next (if s.fillDue x then s.fillRead x else s) := by
  change execEngCtoExpiry x.id s = _
  unfold execEngCtoExpiry
  rw [hx]
  exact (apply_ite Host.Outcome.next _ _ _).symm

theorem State.fillRead_of_discard (h : x.discard = true) : s.fillRead x = s.retireTag x.id := by
  rw [State.fillRead]
  exact if_pos h

section Kept
variable (h : x.discard = false) {n : Nat}
include h

theorem State.fillRead_of_source {off : Nat} (hwhy : x.why = .source n off) : s.fillRead x =
    ((s.retireTag x.id).modSource x.inst x.ring n (x.fills off)).reportRead (R.ENG_POISON_FILL x.engine) x.engine 2 := by
  rw [State.fillRead, h, hwhy]
  rfl

theorem State.fillRead_of_fetch (hwhy : x.why = .fetch n) : s.fillRead x =
    ((s.retireTag x.id).fetchedOne x.inst x.ring n 0 stFETCH_POISON).reportRead (R.ENG_POISON_FILL x.engine) x.engine 2 := by
  rw [State.fillRead, h, hwhy]
  rfl

theorem State.fillRead_of_fence (hwhy : x.why = .fence n) : s.fillRead x =
    (s.retireTag x.id).modRun x.inst x.ring n fun d =>
      { d with fence := d.fence.map fun f => { f with outstanding := f.outstanding - 1, failed := true } } := by
  rw [State.fillRead, h, hwhy]
  rfl

theorem State.fillRead_of_implicit (hwhy : x.why = .implicit ∨ x.why = .freeze) : s.fillRead x =
    (s.retireTag x.id).modFence x.inst x.ring x.why fun f => { f with outstanding := f.outstanding - 1, failed := true } := by
  rw [State.fillRead, h]
  rcases hwhy with hwhy | hwhy <;> rw [hwhy] <;> rfl

end Kept

/-- The tag retires whatever the read was for. -/
theorem State.fillRead_engTags : (s.fillRead x).engTags = s.engTags.filter fun y => y.id != x.id := by
  cases hdiscard : x.discard with
  | true => rw [State.fillRead_of_discard hdiscard]; rfl
  | false =>
    cases hwhy : x.why with
    | fetch n => rw [State.fillRead_of_fetch hdiscard hwhy, State.reportRead_engTags]; rfl
    | source n off => rw [State.fillRead_of_source hdiscard hwhy, State.reportRead_engTags]; rfl
    | fence n => rw [State.fillRead_of_fence hdiscard hwhy]; rfl
    | implicit => rw [State.fillRead_of_implicit hdiscard (.inl hwhy), State.modFence_engTags]; rfl
    | freeze => rw [State.fillRead_of_implicit hdiscard (.inr hwhy), State.modFence_engTags]; rfl

theorem State.retireTag_ring (id i q : Nat) : (s.retireTag id).ring i q = s.ring i q := rfl

theorem State.retireTag_alive (id : Nat) : (s.retireTag id).alive = s.alive := rfl

/-- What the expiry of a read in normal service does by what the read was for. -/
def FillsRead (s : State) (x : EngTag) (t : State) : Prop :=
  t.engTags = s.engTags.filter (fun y => y.id != x.id) ∧
  (x.discard = true → t.regs = s.regs ∧ t.rings = s.rings ∧ t.ctrs = s.ctrs) ∧
  (x.discard = false → ∀ n off, x.why = .source n off →
    Counted s t (R.ENG_POISON_FILL x.engine) ∧ t.event (0x200 + x.engine) 2 = true ∧
    ∀ d ∈ (s.ring x.inst x.ring).runs ++ (s.ring x.inst x.ring).ahead, d.n = n → d.status = none →
      ∃ d' ∈ (t.ring x.inst x.ring).runs ++ (t.ring x.inst x.ring).ahead, d'.n = n ∧ d'.filled = true ∧
        d'.segs = d.segs ++ [x.zeros off]) ∧
  (x.discard = false → ∀ n, x.why = .fetch n → Counted s t (R.ENG_POISON_FILL x.engine) ∧
    t.event (0x200 + x.engine) 2 = true ∧ (n, 0, stFETCH_POISON) ∈ (t.ring x.inst x.ring).fetched) ∧
  (x.discard = false → ∀ n, x.why = .fence n → t.regs = s.regs ∧ ∀ d ∈ (s.ring x.inst x.ring).runs, d.n = n →
    ∀ f, d.fence = some f → ∃ d' ∈ (t.ring x.inst x.ring).runs, d'.n = n ∧
      d'.fence = some { f with outstanding := f.outstanding - 1, failed := true })

theorem State.fillRead_fillsRead (hal : s.alive = true) : FillsRead s x (s.fillRead x) := by
  refine ⟨s.fillRead_engTags, fun hdiscard => ?_, fun hkept n off hwhy => ?_, fun hkept n hwhy => ?_, fun hkept n hwhy => ?_⟩
  · rw [State.fillRead_of_discard hdiscard]
    exact ⟨rfl, rfl, rfl⟩
  all_goals have hbooks := s.retireTag_books x.id
  · rw [State.fillRead_of_source hkept hwhy, ← s.retireTag_ring x.id x.inst x.ring]
    generalize s.retireTag x.id = u at hbooks
    obtain ⟨hcount, hevent⟩ := State.reportRead_reports (a := R.ENG_POISON_FILL x.engine) (e := x.engine) (ev := 2)
      ((u.modSource_books x.inst x.ring n (x.fills off)).trans hbooks) hal (by simp only [R.ENG_POISON_FILL]; omega) (by decide)
    refine ⟨hcount, hevent, fun d hd hn hst => ⟨x.fills off d, ?_, hn, rfl, rfl⟩⟩
    rw [State.reportRead_ring]
    exact State.mem_modSource _ hd hn hst
  · rw [State.fillRead_of_fetch hkept hwhy]
    generalize s.retireTag x.id = u at hbooks
    obtain ⟨hcount, hevent⟩ := State.reportRead_reports (a := R.ENG_POISON_FILL x.engine) (e := x.engine) (ev := 2)
      ((u.fetchedOne_books x.inst x.ring n 0 stFETCH_POISON).trans hbooks) hal (by simp only [R.ENG_POISON_FILL]; omega) (by decide)
    refine ⟨hcount, hevent, ?_⟩
    rw [State.reportRead_ring]
    exact State.mem_fetchedOne _ _ _ _ _ _
  · rw [State.fillRead_of_fence hkept hwhy, ← s.retireTag_ring x.id x.inst x.ring]
    have hregs := (Prod.ext_iff.mp hbooks).1
    generalize s.retireTag x.id = u at hregs
    exact ⟨(u.modRun_regs _ _ _ _).trans hregs, fun d hd hn f hf =>
      ⟨_, State.mem_modRun_runs _ hd hn, hn, congrArg (Option.map _) hf⟩⟩

/-! ### ENG_CTO_RECOV_EXPIRY (R182, R183) -/

/-- Is a read of the recovery class, or one left over by an abort, due? -/
def State.recovDue (s : State) (x : EngTag) : Bool :=
  (x.stopped || (x.recovery && s.instState x.inst != iRESETTING))
    && decide (x.issued + 1250 * s.fget (R.ENG_CTO_RECOV_US x.engine) ≤ s.now)

/-- One left over by an abort only retires, counted apart while its engine is ABORTING. -/
def State.abandonRead (s : State) (x : EngTag) : State :=
  if s.fget (R.ENG_STS_STATE x.engine) = 2 then (s.retireTag x.id).bump (R.ENG_ABORT_TMO x.engine) else s.retireTag x.id

include hx in
theorem exec_engCtoRecovExpiry : exec (.engCtoRecovExpiry x.id) s =
    .next (if s.recovDue x then (if x.stopped then s.abandonRead x else s.ctoRead x) else s) := by
  change execEngCtoRecovExpiry x.id s = _
  unfold execEngCtoRecovExpiry State.recovDue
  rw [hx]
  dsimp only
  change (if (!decide (x.issued + 1250 * s.fget (R.ENG_CTO_RECOV_US x.engine) ≤ s.now)) = true then _ else _) = _
  cases decide (x.issued + 1250 * s.fget (R.ENG_CTO_RECOV_US x.engine) ≤ s.now) with
  | false => simp
  | true =>
    cases x.stopped with
    | true => rfl
    | false => cases x.recovery && s.instState x.inst != iRESETTING <;> rfl

theorem State.abandonRead_ctr (hal : s.alive = true) (h : s.fget (R.ENG_STS_STATE x.engine) = 2) :
    Counted s (s.abandonRead x) (R.ENG_ABORT_TMO x.engine) := by
  rw [State.abandonRead, if_pos h]
  exact State.ctr_bump_same (s := s.retireTag x.id) hal _

theorem State.abandonRead_ctrs (h : s.fget (R.ENG_STS_STATE x.engine) ≠ 2) : (s.abandonRead x).ctrs = s.ctrs := by
  rw [State.abandonRead, if_neg h]
  rfl

theorem State.abandonRead_keeps : (s.abandonRead x).engTags = s.engTags.filter (fun y => y.id != x.id) ∧
    (s.abandonRead x).rings = s.rings ∧ (s.abandonRead x).regs = s.regs := by
  unfold State.abandonRead
  split
  · have hrest := (s.retireTag x.id).bump_rest (R.ENG_ABORT_TMO x.engine)
    exact ⟨congrArg (·.engTags) hrest, congrArg (·.rings) hrest, State.bump_regs _ _⟩
  · exact ⟨rfl, rfl, rfl⟩

/-- What a read of the recovery class was for ends with CTO, before it is reported. -/
def State.ctoEnded (s : State) (x : EngTag) : State :=
  if x.discard then s.retireTag x.id else match x.why with
    | .fetch n => (s.retireTag x.id).fetchedOne x.inst x.ring n 0 stCTO
    | .source n _ => (s.retireTag x.id).sourceFailed x.inst x.ring n stCTO x.window
    | why => (s.retireTag x.id).modFence x.inst x.ring why fun f => { f with outstanding := f.outstanding - 1, failed := true }

theorem State.ctoRead_eq : s.ctoRead x =
    ((s.ctoEnded x).reportRead (R.ENG_CTO_HALT x.engine) x.engine 3).engineAer x.inst := rfl

theorem State.ctoRead_rest : (s.ctoRead x).rest = (s.ctoEnded x).rest := by
  rw [State.ctoRead_eq, State.engineAer_rest, State.reportRead_rest]

theorem State.ctoRead_ring (i q : Nat) : (s.ctoRead x).ring i q = (s.ctoEnded x).ring i q :=
  State.ring_of_rings (congrArg (·.rings) s.ctoRead_rest) i q

theorem State.ctoEnded_books : (s.ctoEnded x).books = s.books := by
  unfold State.ctoEnded
  split
  · rfl
  · cases x.why with
    | source n off =>
      dsimp only
      unfold State.sourceFailed
      split <;> rfl
    | fetch | fence | implicit | freeze => rfl

theorem State.ctoEnded_tagIds : (s.ctoEnded x).engTags.map (·.id) = (s.retireTag x.id).engTags.map (·.id) := by
  unfold State.ctoEnded
  split
  · rfl
  · cases x.why with
    | source n off => exact State.sourceFailed_tagIds _ _ _ _ _ _
    | fetch | fence | implicit | freeze => rfl

/-- The tag is gone. -/
theorem State.ctoRead_engTags_ne : ∀ y ∈ (s.ctoRead x).engTags, y.id ≠ x.id := by
  intro y hy
  have hid : y.id ∈ (s.retireTag x.id).engTags.map (·.id) := by
    rw [← State.ctoEnded_tagIds, ← show (s.ctoRead x).engTags = (s.ctoEnded x).engTags from
      congrArg (·.engTags) s.ctoRead_rest]
    exact List.mem_map_of_mem hy
  obtain ⟨z, hz, hzy⟩ := List.mem_map.mp hid
  have hne := (List.mem_filter.mp (show z ∈ s.engTags.filter fun t => t.id != x.id from hz)).2
  rw [← hzy]
  simpa using hne

/-- The read is counted with event 3, whatever the report of the partition's host meets. -/
theorem State.ctoRead_reported (hal : s.alive = true) :
    Counted s (s.ctoRead x) (R.ENG_CTO_HALT x.engine) ∧ (s.ctoRead x).event (0x200 + x.engine) 3 = true := by
  obtain ⟨hcount, hevent⟩ := State.reportRead_reports (a := R.ENG_CTO_HALT x.engine) (e := x.engine) (ev := 3)
    (s.ctoEnded_books (x := x)) hal (by simp only [R.ENG_CTO_HALT]; omega) (by decide)
  have hposts := ((s.ctoEnded x).reportRead (R.ENG_CTO_HALT x.engine) x.engine 3).engineAer_onlyPosts x.inst
  rw [State.ctoRead_eq]
  refine ⟨?_, (State.event_of_reg (State.reg_eq_of_regs hposts.regs _) 3).trans hevent⟩
  rw [Counted, hposts.ctr _ (by simp only [R.MAP_NOROUTE, R.ENG_CTO_HALT]; omega)
    (by simp only [R.BUF_FLUSH_P, R.ENG_CTO_HALT]; omega)]
  exact hcount

section Kept
variable (h : x.discard = false) {n : Nat}
include h

theorem State.ctoEnded_of_source {off : Nat} (hwhy : x.why = .source n off) :
    s.ctoEnded x = (s.retireTag x.id).sourceFailed x.inst x.ring n stCTO x.window := by
  rw [State.ctoEnded, h, hwhy]
  rfl

theorem State.ctoEnded_of_fetch (hwhy : x.why = .fetch n) :
    s.ctoEnded x = (s.retireTag x.id).fetchedOne x.inst x.ring n 0 stCTO := by
  rw [State.ctoEnded, h, hwhy]
  rfl

theorem State.ctoRead_started {off : Nat} (hwhy : x.why = .source n off)
    (hahead : ((s.ring x.inst x.ring).ahead.any fun d => d.n == n) = false) :
    ∀ d ∈ (s.ring x.inst x.ring).runs, d.n = n → d.status = none → ∃ d' ∈ ((s.ctoRead x).ring x.inst x.ring).runs,
      d'.n = n ∧ d'.status = some stCTO ∧ d'.current = false := by
  intro d hd hn hst
  rw [State.ctoRead_ring, State.ctoEnded_of_source h hwhy, State.sourceFailed_of_started (s := s.retireTag x.id) hahead]
  exact ⟨_, State.mem_endDesc_runs (s := s.retireTag x.id) _ _ hd hn hst, hn, rfl, rfl⟩

theorem State.ctoRead_ahead {off : Nat} (hwhy : x.why = .source n off) :
    ∀ d ∈ (s.ring x.inst x.ring).ahead, d.n = n →
      ∃ d' ∈ ((s.ctoRead x).ring x.inst x.ring).ahead, d'.n = n ∧ d'.status = some stCTO := by
  intro d hd hn
  have hahead : ((s.ring x.inst x.ring).ahead.any fun d => d.n == n) = true :=
    List.any_eq_true.mpr ⟨d, hd, beq_iff_eq.mpr hn⟩
  rw [State.ctoRead_ring, State.ctoEnded_of_source h hwhy, State.sourceFailed_of_ahead (s := s.retireTag x.id) hahead,
    State.ring_modRing_same]
  exact ⟨_, List.mem_map.mpr ⟨d, hd, if_pos hn⟩, hn, rfl⟩

theorem State.ctoRead_fetched (hwhy : x.why = .fetch n) :
    (n, 0, stCTO) ∈ ((s.ctoRead x).ring x.inst x.ring).fetched := by
  rw [State.ctoRead_ring, State.ctoEnded_of_fetch h hwhy]
  exact State.mem_fetchedOne _ _ _ _ _ _

end Kept

/-! ### RESET_TAG_TIMEOUT (R198) -/

/-- Has the reset of the function begun 10 ms ago? -/
def State.resetDue (s : State) (x : EngTag) : Bool :=
  s.instState x.inst == iRESETTING && decide ((s.inst x.inst).resetStart + 12500000 ≤ s.now)

/-- A tag of a function under reset retires, reported in an FLR. -/
def State.resetRead (s : State) (x : EngTag) : State :=
  if (s.inst x.inst).byFlr then ((s.retireTag x.id).bump (R.ENG_CTO_HALT x.engine)).engineAer x.inst else s.retireTag x.id

include hx in
theorem exec_resetTagTimeout : exec (.resetTagTimeout x.id) s = .next (if s.resetDue x then s.resetRead x else s) := by
  change execResetTagTimeout x.id s = _
  unfold execResetTagTimeout
  rw [hx]
  exact (apply_ite Host.Outcome.next _ _ _).symm

theorem State.resetRead_keeps : (s.resetRead x).engTags = s.engTags.filter (fun y => y.id != x.id) ∧
    (s.resetRead x).rings = s.rings ∧ (s.resetRead x).regs = s.regs := by
  unfold State.resetRead
  split
  · have hrest := (State.engineAer_rest ((s.retireTag x.id).bump (R.ENG_CTO_HALT x.engine)) x.inst).trans
      ((s.retireTag x.id).bump_rest (R.ENG_CTO_HALT x.engine))
    exact ⟨congrArg (·.engTags) hrest, congrArg (·.rings) hrest,
      (State.engineAer_onlyPosts _ x.inst).regs.trans (State.bump_regs _ _)⟩
  · exact ⟨rfl, rfl, rfl⟩

theorem State.resetRead_ctr (hal : s.alive = true) (hflr : (s.inst x.inst).byFlr = true) :
    Counted s (s.resetRead x) (R.ENG_CTO_HALT x.engine) := by
  rw [State.resetRead, if_pos hflr, Counted, (State.engineAer_onlyPosts _ x.inst).ctr _
    (by simp only [R.MAP_NOROUTE, R.ENG_CTO_HALT]; omega) (by simp only [R.BUF_FLUSH_P, R.ENG_CTO_HALT]; omega)]
  exact State.ctr_bump_same (s := s.retireTag x.id) hal _

theorem State.resetRead_ctrs (hflr : (s.inst x.inst).byFlr = false) : (s.resetRead x).ctrs = s.ctrs := by
  rw [State.resetRead, hflr]
  rfl

end Expiry

end Sys2Proof.Machine
end

section
/-! PROOFS. Aborts of an engine, its stop and its restart (R183, R184, R297, R426). -/

namespace Sys2Proof.Machine

/-! ### Registers set elsewhere and the rings bound to an engine -/

section FilterStore
variable {α : Type} {q : Nat} (m : Store α) {p : Nat × α → Bool} (hp : ∀ w, p (q, w) = false)
include hp

theorem filter_storeDrop : (storeDrop q m).filter p = m.filter p := by
  induction m with
  | nil => rfl
  | cons a m ih =>
    obtain ⟨k, w⟩ := a
    unfold storeDrop
    split
    · next h => rw [ih, List.filter_cons_of_neg (by simp [← h, hp])]
    · rw [List.filter_cons, ih, ← List.filter_cons]

theorem filter_storeInsert (v : α) : (storeInsert q v m).filter p = m.filter p := by
  have hneg (w : α) : ¬ p (q, w) = true := by rw [hp]; exact Bool.false_ne_true
  induction m with
  | nil => exact List.filter_cons_of_neg (hneg v)
  | cons a m ih =>
    obtain ⟨k, w⟩ := a
    unfold storeInsert
    split_ifs with hlt heq
    · exact List.filter_cons_of_neg (hneg v)
    · subst heq
      rw [List.filter_cons_of_neg (hneg v), List.filter_cons_of_neg (hneg w)]
    · rw [List.filter_cons, ih, ← List.filter_cons]

/-- What is sought among other keys is not changed by a write. -/
theorem filter_storePut [DecidableEq α] (d v : α) : (storePut d q v m).filter p = m.filter p := by
  rw [storePut_eq]
  split
  · exact filter_storeDrop m hp
  · exact filter_storeInsert m hp v

end FilterStore

/-- A register of the engine pages does not say which instances are live. -/
theorem State.liveInsts_fset_state (s : State) {e : Nat} (he : e < 16) (v : Nat) :
    (s.fset (R.ENG_STS_STATE e) v).liveInsts = s.liveInsts :=
  congrArg (List.map _) (filter_storePut s.regs (fun w => by simp; omega) _ _)

theorem State.boundRings_of_regs {s t : State} {e : Nat} (hlive : t.liveInsts = s.liveInsts)
    (hreg : ∀ i, t.reg (R.VIM_INST_RING i) = s.reg (R.VIM_INST_RING i)) : t.boundRings e = s.boundRings e := by
  unfold State.boundRings State.bound
  simp only [hlive, hreg, State.engineOf_of_reg (hreg _)]

theorem State.boundRings_fset_state (s : State) {e : Nat} (he : e < 16) (v : Nat) :
    (s.fset (R.ENG_STS_STATE e) v).boundRings e = s.boundRings e :=
  State.boundRings_of_regs (s.liveInsts_fset_state he v) fun i => State.reg_fset_ne (by simp only [R.VIM_INST_RING]; omega)

/-- A ring among those bound to an engine is bound to it. -/
theorem State.engineOf_of_mem_boundRings {s : State} {e k : Nat} (h : k ∈ s.boundRings e) :
    s.engineOf (k / 4) (k % 4) = e := by
  unfold State.boundRings at h
  obtain ⟨i, _, hk⟩ := List.mem_flatMap.mp h
  obtain ⟨q, hq, rfl⟩ := List.mem_map.mp hk
  obtain ⟨hlt, hbound⟩ := List.mem_filter.mp hq
  have hq4 : q < 4 := by simpa [upTo] using hlt
  rw [show (4 * i + q) / 4 = i by omega, show (4 * i + q) % 4 = q by omega]
  rw [Bool.and_eq_true, beq_iff_eq] at hbound
  exact hbound.2

/-! ### A ring under an abort (R157, R183, R184) -/

/-- Is a run current for an abort? A FENCE that has issued its last read is not. -/
def DescRun.abortable (d : DescRun) : Bool :=
  d.current && d.status.isNone && !(d.opcode == 7 && d.fence.any fun f => f.toRead.isEmpty)

/-- The run ended by an abort, where it has no status yet. -/
def DescRun.aborted (d : DescRun) : DescRun :=
  if d.status.isSome then d else
    { d with status := some stABORTED, result := errResult 0xFFFF 0, current := false, segs := [] }

/-- The ring after an abort. -/
def RingSt.aborted (r : RingSt) : RingSt := match r.runs.find? DescRun.abortable with
  | some d => { r with
    ahead := [], runs := r.runs.map fun x => if x.n = d.n then x.aborted else x, dest := r.destNow, implicit := none }
  | none => { r with ahead := [] }

/-- What an abort leaves of a ring: its current descriptor has ended ABORTED, and its run-ahead data is gone. -/
def RingAborted (r r' : RingSt) : Prop :=
  (r.runs.find? DescRun.abortable = none → r'.runs = r.runs) ∧
  (∀ d, r.runs.find? DescRun.abortable = some d →
    ∃ x ∈ r'.runs, x.n = d.n ∧ x.status = some stABORTED ∧ x.current = false) ∧ r'.ahead = []

section Aborted
variable (r : RingSt)

theorem RingSt.aborted_of_none (h : r.runs.find? DescRun.abortable = none) : r.aborted = { r with ahead := [] } := by
  rw [RingSt.aborted, h]

theorem RingSt.aborted_of_some {d : DescRun} (h : r.runs.find? DescRun.abortable = some d) : r.aborted = { r with
    ahead := [], runs := r.runs.map fun x => if x.n = d.n then x.aborted else x, dest := r.destNow, implicit := none } := by
  rw [RingSt.aborted, h]

theorem RingSt.aborted_ahead : r.aborted.ahead = [] := by
  unfold RingSt.aborted
  split <;> rfl

/-- A run that has ended stands unchanged. -/
theorem RingSt.mem_aborted_runs {x : DescRun} (hx : x ∈ r.runs) (hst : x.status.isSome = true) : x ∈ r.aborted.runs := by
  cases h : r.runs.find? DescRun.abortable with
  | none => rwa [r.aborted_of_none h]
  | some d =>
    rw [r.aborted_of_some h]
    have hself : x.aborted = x := if_pos hst
    exact List.mem_map.mpr ⟨x, hx, by rw [hself, ite_self]⟩

theorem RingSt.aborted_ringAborted : RingAborted r r.aborted := by
  refine ⟨fun h => by rw [r.aborted_of_none h], fun d h => ?_, r.aborted_ahead⟩
  have hd := List.find?_some h
  simp only [DescRun.abortable, Bool.and_eq_true] at hd
  have hnone : ¬ d.status.isSome = true := by simpa using hd.1.2
  rw [r.aborted_of_some h]
  refine ⟨d.aborted, List.mem_map.mpr ⟨d, List.mem_of_find?_eq_some h, if_pos rfl⟩, ?_⟩
  rw [DescRun.aborted, if_neg hnone]
  exact ⟨rfl, rfl, rfl⟩

/-- A second abort leaves the ring aborted. -/
theorem RingAborted.again {r r' : RingSt} (h : RingAborted r r') : RingAborted r r'.aborted := by
  obtain ⟨hnone, hsome, _⟩ := h
  refine ⟨fun hr => ?_, fun d hd => ?_, r'.aborted_ahead⟩
  · have hruns := hnone hr
    rw [← hruns] at hr
    rw [r'.aborted_of_none hr]
    exact hruns
  · obtain ⟨x, hx, hn, hst, hcur⟩ := hsome d hd
    exact ⟨x, r'.mem_aborted_runs hx (by rw [hst]; rfl), hn, hst, hcur⟩

end Aborted

/-! ### ENGINE_ABORT (R184) -/

/-- One ring of the engine aborted. -/
def State.abortRing (s : State) (k : Nat) : State :=
  let s := s.discardAhead (k / 4) (k % 4) dABORT
  match (s.ring (k / 4) (k % 4)).runs.find? DescRun.abortable with
  | some d =>
    ((s.endDesc (k / 4) (k % 4) d.n stABORTED (errResult 0xFFFF 0)).modRing (k / 4) (k % 4) fun r =>
      { r with dest := r.destNow, implicit := none }).modEngTags fun t =>
        if t.inst = k / 4 ∧ t.ring = k % 4 ∧ (t.discard || t.why == .implicit) = true then
          { t with discard := true, stopped := true } else t
  | none => s

theorem State.abortEngine_eq (s : State) (e : Nat) : s.abortEngine e =
    ((s.fset (R.ENG_STS_STATE e) 2).boundRings e).foldl State.abortRing (s.fset (R.ENG_STS_STATE e) 2) := rfl

section AbortRing
variable (s : State) (k : Nat)

theorem State.abortRing_regs : (s.abortRing k).regs = (s.discardAhead (k / 4) (k % 4) dABORT).regs := by
  unfold State.abortRing
  dsimp only
  generalize s.discardAhead (k / 4) (k % 4) dABORT = u
  split
  · exact ((State.modEngTags_regs _ _).trans (State.modRing_regs _ _ _ _)).trans (u.endDesc_regs _ _ _ _ _)
  · rfl

theorem State.abortRing_ring_same : (s.abortRing k).ring (k / 4) (k % 4) = (s.ring (k / 4) (k % 4)).aborted := by
  have hahead := s.discardAhead_ring_same (k / 4) (k % 4) dABORT
  unfold State.abortRing
  dsimp only
  generalize s.discardAhead (k / 4) (k % 4) dABORT = u at hahead
  have hruns : (u.ring (k / 4) (k % 4)).runs = (s.ring (k / 4) (k % 4)).runs := congrArg (·.runs) hahead
  rw [hruns]
  cases h : (s.ring (k / 4) (k % 4)).runs.find? DescRun.abortable with
  | none =>
    rw [RingSt.aborted_of_none _ h]
    exact hahead
  | some d =>
    dsimp only
    rw [RingSt.aborted_of_some _ h, State.modEngTags_ring, State.ring_modRing_same, State.endDesc_ring, State.modRun_ring, hahead]
    rfl

theorem State.abortRing_ring_ne {j : Nat} (h : j ≠ k) :
    (s.abortRing k).ring (j / 4) (j % 4) = s.ring (j / 4) (j % 4) := by
  have hne : 4 * (j / 4) + j % 4 ≠ 4 * (k / 4) + k % 4 := by omega
  refine Eq.trans ?_ (s.discardAhead_ring_ne (k / 4) (k % 4) dABORT hne)
  unfold State.abortRing
  dsimp only
  generalize s.discardAhead (k / 4) (k % 4) dABORT = u
  split
  · rw [State.modEngTags_ring, State.ring_modRing_ne _ hne, State.endDesc_ring, State.modRun, State.ring_modRing_ne _ hne]
  · rfl

end AbortRing

/-- A ring of the list is aborted once all its rings are. -/
theorem State.abortRings_ringAborted (l : List Nat) (s : State) {j : Nat} (r : RingSt)
    (h : RingAborted r (s.ring (j / 4) (j % 4)) ∨ s.ring (j / 4) (j % 4) = r ∧ j ∈ l) :
    RingAborted r ((l.foldl State.abortRing s).ring (j / 4) (j % 4)) := by
  induction l generalizing s with
  | nil => exact h.resolve_right fun hr => List.not_mem_nil hr.2
  | cons k l ih =>
    refine ih (s.abortRing k) ?_
    by_cases hk : j = k
    · subst hk
      rw [State.abortRing_ring_same]
      refine .inl (h.elim RingAborted.again fun hr => ?_)
      rw [hr.1]
      exact r.aborted_ringAborted
    · rw [State.abortRing_ring_ne _ _ hk]
      exact h.imp_right fun hr => ⟨hr.1, (List.mem_cons.mp hr.2).resolve_left hk⟩

/-- The rings of an engine aborted leave its STATE, and the registers but its ENG_STS. -/
theorem State.abortRings_keeps (l : List Nat) (s : State) {e : Nat} (h : ∀ k ∈ l, s.engineOf (k / 4) (k % 4) = e) :
    KeepsRegs s (l.foldl State.abortRing s) [R.ENG_STS e] ∧
      (l.foldl State.abortRing s).fget (R.ENG_STS_STATE e) = s.fget (R.ENG_STS_STATE e) := by
  refine List.foldlRecOn l State.abortRing
    (motive := fun u => KeepsRegs s u [R.ENG_STS e] ∧ u.fget (R.ENG_STS_STATE e) = s.fget (R.ENG_STS_STATE e))
    ⟨fun _ _ _ => rfl, rfl⟩ fun u hu k hk => ?_
  obtain ⟨hkeeps, hstate⟩ := hu
  have hne : R.VIM_INST_RING (k / 4) ∉ [R.ENG_STS e] := by
    rw [List.mem_singleton]
    simp only [R.VIM_INST_RING, R.ENG_STS]
    omega
  have hengine : u.engineOf (k / 4) (k % 4) = e :=
    (State.engineOf_of_reg (hkeeps _ (statusReg_vimInstRing _) hne) _).trans (h k hk)
  have hregs := u.abortRing_regs k
  have hdiscards := u.discardAhead_keepsRegs (k / 4) (k % 4) dABORT
  have hdiscardState := u.discardAhead_state (k / 4) (k % 4) dABORT
  rw [hengine] at hdiscards hdiscardState
  refine ⟨hkeeps.trans fun a ha hn => (State.reg_eq_of_regs hregs a).trans (hdiscards a ha hn), ?_⟩
  exact ((State.fget_of_reg (State.reg_eq_of_regs hregs _)).trans hdiscardState).trans hstate

section EngineCommands
variable {s : State} {e : Nat} (he : e < 16)
include he

theorem engineAbort_does_abort : Does (.engineAbort e) s fun t => t.fget (R.ENG_STS_STATE e) = 2 ∧
    (∀ k ∈ s.boundRings e, RingAborted (s.ring (k / 4) (k % 4)) (t.ring (k / 4) (k % 4))) ∧
    KeepsRegs s t [R.ENG_STS e] ∧ t.vault = s.vault := by
  have hexec : exec (.engineAbort e) s = .next (s.abortEngine e) := by
    change execEngineAbort e s = _
    rw [execEngineAbort, Nat.mod_eq_of_lt he]
  have hrings := s.boundRings_fset_state he 2
  have hset : KeepsRegs s (s.fset (R.ENG_STS_STATE e) 2) [R.ENG_STS e] :=
    fun a _ hne => State.reg_fset_ne fun h => hne (List.mem_singleton.mpr h)
  have hstate := State.fget_fset_of_lt s (f := R.ENG_STS_STATE e) (v := 2) (Nat.zero_le _) (by simp) (by simp)
  have hring (k : Nat) : (s.fset (R.ENG_STS_STATE e) 2).ring (k / 4) (k % 4) = s.ring (k / 4) (k % 4) :=
    State.ring_of_rings rfl _ _
  have habort := s.abortEngine_eq e
  have hengines (k : Nat) (hk : k ∈ (s.fset (R.ENG_STS_STATE e) 2).boundRings e) :=
    State.engineOf_of_mem_boundRings hk
  generalize s.fset (R.ENG_STS_STATE e) 2 = u at habort hrings hset hstate hring hengines
  obtain ⟨hkeeps, hkept⟩ := State.abortRings_keeps _ u hengines
  rw [← habort] at hkeeps hkept
  refine ⟨_, hexec, hkept.trans hstate, fun k hk => ?_, hset.trans hkeeps, exec_vault_of_not_writesVault rfl hexec⟩
  rw [habort, ← hring]
  exact State.abortRings_ringAborted _ u _ (.inr ⟨rfl, hrings ▸ hk⟩)

/-! ### ENGINE_STOPPED and ENGINE_RESTART (R184, R297, R426) -/

/-- An engine without outstanding reads leaves ABORTING, with event 4. -/
def State.engineStop (s : State) (e : Nat) : State :=
  ((s.fset (R.ENG_STS_STATE e) (if (s.eng e).autoRestart then 0 else 3)).raise (0x200 + e) 4).modEng e fun x =>
    { x with autoRestart := false }

theorem exec_engineStopped : exec (.engineStopped e) s =
    .next (if s.fget (R.ENG_STS_STATE e) = 2 ∧ s.tagsOf e = [] then s.engineStop e else s) := by
  change execEngineStopped e s = _
  unfold execEngineStopped
  rw [Nat.mod_eq_of_lt he]
  dsimp only
  by_cases hstop : s.fget (R.ENG_STS_STATE e) = 2 ∧ s.tagsOf e = []
  · rw [if_neg (by simp [hstop]), if_pos hstop]
    rfl
  · rw [if_neg hstop, if_pos]
    rw [Bool.or_eq_true, bne_iff_ne, Bool.not_eq_true', List.isEmpty_eq_false_iff]
    exact not_and_or.mp hstop

theorem engineStopped_does_stop (hal : s.alive = true) (hstate : s.fget (R.ENG_STS_STATE e) = 2) (hnone : s.tagsOf e = []) :
    Does (.engineStopped e) s fun t =>
      t.fget (R.ENG_STS_STATE e) = (if (s.eng e).autoRestart then 0 else 3) ∧ (t.eng e).autoRestart = false ∧
      t.event (0x200 + e) 4 = true ∧ KeepsRegs s t [R.ENG_STS e] ∧ t.vault = s.vault := by
  have hexec := exec_engineStopped (s := s) he
  rw [if_pos ⟨hstate, hnone⟩] at hexec
  have hset : KeepsRegs s (s.fset (R.ENG_STS_STATE e) (if (s.eng e).autoRestart then 0 else 3)) [R.ENG_STS e] :=
    fun a _ hne => State.reg_fset_ne fun h => hne (List.mem_singleton.mpr h)
  have hto := State.fget_fset_of_lt s (f := R.ENG_STS_STATE e) (v := if (s.eng e).autoRestart then 0 else 3) (Nat.zero_le _)
    (by simp) (by dsimp only; split <;> decide)
  have hmode : R.DEV_MODE ∉ [R.ENG_STS e] := by
    rw [List.mem_singleton]
    simp only [R.DEV_MODE, R.ENG_STS]
    omega
  unfold State.engineStop at hexec
  generalize s.fset (R.ENG_STS_STATE e) (if (s.eng e).autoRestart then 0 else 3) = u at hexec hset hto
  have halu : u.alive = true := (State.alive_eq_of_reg (hset _ rfl hmode)).trans hal
  have hraised := u.raise_sameRegs (0x200 + e) 4
  have hevent := State.raise_event_same halu (page := 0x200 + e) (ev := 4) (by decide)
  generalize u.raise (0x200 + e) 4 = v at hexec hraised hevent
  refine ⟨_, hexec, ?_, congrArg (·.autoRestart) (v.eng_modEng_same e _), hevent, hset.trans (hraised.keepsRegs _),
    exec_vault_of_not_writesVault rfl hexec⟩
  exact (hraised.fget (statusReg_engSts e)).trans hto

theorem exec_engineRestart : exec (.engineRestart e) s =
    .next (if s.fget (R.ENG_STS_STATE e) = 3 ∧ bit s.board.badEngines e = false then s.fset (R.ENG_STS_STATE e) 0 else s) := by
  change execEngineRestart e s = _
  rw [execEngineRestart, Nat.mod_eq_of_lt he, State.engineRestart]

end EngineCommands

/-- Settles O35: what each expiry does by the class of the read and by what it was for, and the rings of an engine that
aborts, one by one. -/
theorem timeoutsAndAborts : Obligations.TimeoutsAndAborts := by
  unfold Obligations.TimeoutsAndAborts
  refine ⟨fun s x hal hx he fill recov reset hfill hrecov hreset => ?_, fun s e he hal => ⟨?_, ?_, ?_, ?_, ?_⟩⟩
  · have hexec := exec_engCtoExpiry hx
    have hexec' := exec_engCtoRecovExpiry hx
    have hexec'' := exec_resetTagTimeout hx
    rw [show s.fillDue x = fill from hfill.symm] at hexec
    rw [show s.recovDue x = recov from hrecov.symm] at hexec'
    rw [show s.resetDue x = reset from hreset.symm] at hexec''
    refine ⟨fun hdue => ?_, fun hdue => ?_, fun hdue hstopped => ?_, fun hdue hstopped => ?_, fun hdue => ?_, fun hdue => ?_,
      fun hdue => ?_⟩
    · rw [if_pos hdue] at hexec
      obtain ⟨htags, hdiscard, hsource, hfetch, hfence⟩ := s.fillRead_fillsRead (x := x) hal
      exact ⟨_, hexec, htags, hdiscard, hsource, hfetch, hfence, exec_vault_of_not_writesVault rfl hexec⟩
    · rw [hexec, hdue, if_neg Bool.false_ne_true]
    · rw [if_pos hdue, if_pos hstopped] at hexec'
      obtain ⟨htags, hrings, hregs⟩ := s.abandonRead_keeps (x := x)
      exact ⟨_, hexec', htags, State.abandonRead_ctr hal, State.abandonRead_ctrs, hrings, hregs,
        exec_vault_of_not_writesVault rfl hexec'⟩
    · rw [if_pos hdue, hstopped, if_neg Bool.false_ne_true] at hexec'
      obtain ⟨hcount, hevent⟩ := State.ctoRead_reported (x := x) hal
      exact ⟨_, hexec', s.ctoRead_engTags_ne, hcount, hevent, fun hkept n off => State.ctoRead_started hkept,
        fun hkept n off => State.ctoRead_ahead hkept, fun hkept n => State.ctoRead_fetched hkept,
        exec_vault_of_not_writesVault rfl hexec'⟩
    · rw [hexec', hdue, if_neg Bool.false_ne_true]
    · rw [if_pos hdue] at hexec''
      obtain ⟨htags, hrings, hregs⟩ := s.resetRead_keeps (x := x)
      exact ⟨_, hexec'', htags, State.resetRead_ctr hal, State.resetRead_ctrs, hrings, hregs,
        exec_vault_of_not_writesVault rfl hexec''⟩
    · rw [hexec'', hdue, if_neg Bool.false_ne_true]
  · obtain ⟨t, hexec, hstate, hrings, hkeeps, hvault⟩ := engineAbort_does_abort (s := s) he
    refine ⟨t, hexec, hstate, fun k hk cur hcur => ?_, hkeeps, hvault⟩
    subst hcur
    exact hrings k hk
  · exact engineStopped_does_stop he hal
  · exact fun hne => (exec_engineStopped he).trans (by rw [if_neg hne])
  · exact fun hstate hgood => (exec_engineRestart he).trans (by rw [if_pos ⟨hstate, hgood⟩])
  · exact fun hne => (exec_engineRestart he).trans (by rw [if_neg hne])

end Sys2Proof.Machine
end

section
/-! PROOFS. Counters only grow: in reports, captures, losses and containment (R40). -/

namespace Sys2Proof.Machine

-- One after another: side by side these proofs wait for one another, each on a thread of its own.
set_option Elab.async false

/-! ### Growth -/

/-- No counter is less in the later state, up to the end of its range (R40). -/
def Grows (s t : State) : Prop := ∀ a, min (s.ctr a) counterMax ≤ t.ctr a

theorem Grows.refl (s : State) : Grows s s := fun _ => Nat.min_le_left _ _

theorem Grows.trans {s t u : State} (h : Grows s t) (h' : Grows t u) : Grows s u :=
  fun a => le_trans (le_min (h a) (Nat.min_le_right _ _)) (h' a)

/-- A bound of a counter's range that it has reached it keeps. -/
theorem Grows.le {s t : State} (h : Grows s t) {a c : Nat} (hc : c ≤ counterMax) (ha : c ≤ s.ctr a) : c ≤ t.ctr a :=
  le_trans (le_min ha hc) (h a)

section Rules
variable {s₀ s : State} (h : Grows s₀ s)
include h

/-- Where no counter changes. -/
theorem Grows.of {t : State} (hctrs : t.ctrs = s.ctrs := by rfl) : Grows s₀ t := by
  intro a
  rw [State.ctr_eq_of_ctrs hctrs]
  exact h a

theorem Grows.of_books {t : State} (hbooks : t.books = s.books) : Grows s₀ t := h.of (Prod.ext_iff.mp hbooks).2

theorem Grows.ite {c : Prop} [Decidable c] {t u : State} (ht : Grows s t) (hu : Grows s u) :
    Grows s₀ (if c then t else u) := by
  split
  · exact h.trans ht
  · exact h.trans hu

theorem Grows.foldl {α : Type} {f : State → α → State} (hf : ∀ u x, Grows u (f u x)) (l : List α) :
    Grows s₀ (l.foldl f s) :=
  List.foldlRecOn l f h fun u hu x _ => hu.trans (hf u x)

theorem Grows.bumpBy (a n : Nat) : Grows s₀ (s.bumpBy a n) := by
  intro b
  refine le_trans (le_min (h b) (Nat.min_le_right _ _)) ?_
  unfold State.bumpBy
  split
  · rw [State.ctr_setCtr]
    split
    · next hab => rw [hab]; exact min_le_min_right _ (Nat.le_add_right _ _)
    · exact Nat.min_le_left _ _
  · exact Nat.min_le_left _ _

theorem Grows.bump (a : Nat) : Grows s₀ (s.bump a) := h.bumpBy a 1

end Rules

/-! ### Samples, histograms and frames taken in -/

theorem State.tel_ctrs (s : State) (event port n : Nat) (f : Option Frame) : (s.tel event port n f).ctrs = s.ctrs := by
  unfold State.tel
  extract_lets s1
  have h1 : s1.ctrs = s.ctrs := (Prod.ext_iff.mp (s.tbump_books 0x40 0 (event * 128 + port) 47 0 n)).2
  split
  · exact h1
  · refine List.foldlRecOn (b := s1) (upTo 4) _ (motive := fun u => u.ctrs = s.ctrs) h1 fun u hu k _ => ?_
    split
    · exact hu
    · exact hu

theorem State.store_ctrs (s : State) (f : Frame) : (s.store f).ctrs = s.ctrs := rfl

theorem State.wait_ctrs (s : State) (f : Frame) (need : WaitFor) (cs : List Copy) : (s.wait f need cs).ctrs = s.ctrs := rfl

theorem State.enqueue_ctrs (s : State) (c : Copy) : (s.enqueue c).ctrs = s.ctrs := (Prod.ext_iff.mp (s.enqueue_books c)).2

theorem State.entered_ctrs (s : State) (f : Frame) : (s.entered f).ctrs = s.ctrs := by
  unfold State.entered
  exact (Prod.ext_iff.mp (State.hist_books _ _ _ _ _)).2.trans ((State.tel_ctrs _ _ _ _ _).trans (s.tel_ctrs _ _ _ _))

theorem State.countMiss_ctrs (s : State) (f : Frame) (win : Option Win) : (s.countMiss f win).ctrs = s.ctrs := by
  unfold State.countMiss
  split
  · split
    · exact s.tel_ctrs _ _ _ _
    · rfl
  · rfl

theorem State.stampLive_ctrs (s : State) (f : Frame) : (s.stampLive f).2.ctrs = s.ctrs := by
  unfold State.stampLive
  split <;> rfl

theorem State.removeCopy_ctrs (s : State) (id : Nat) : (s.removeCopy id).ctrs = s.ctrs := rfl

theorem State.reap_ctrs (s : State) : s.reap.ctrs = s.ctrs := rfl

section Grows
variable {s₀ s : State} (h : Grows s₀ s)
include h

theorem Grows.tel (event port n : Nat) (f : Option Frame) : Grows s₀ (s.tel event port n f) := h.of (s.tel_ctrs _ _ _ _)

theorem Grows.enqueued (f : Frame) (cs : List Copy) : Grows s₀ (cs.foldl State.enqueue (s.store f)) :=
  (h.of (s.store_ctrs f)).foldl (fun u c => (Grows.refl u).of (u.enqueue_ctrs c)) cs

/-! ### XOFF towards links and credits -/

theorem Grows.sendCtl (f : Nat) (d : W64) : Grows s₀ (s.sendCtl f d) := by
  unfold State.sendCtl
  split
  · exact h.of
  · exact h

theorem Grows.sendMask (f old mask : Nat) : Grows s₀ (s.sendMask f old mask) := by
  unfold State.sendMask
  refine h.foldl (fun u v => ?_) _
  split
  · exact .refl u
  · split
    · exact ((Grows.refl u).sendCtl _ _).bump _
    · exact (Grows.refl u).sendCtl _ _

theorem Grows.updateLinks : Grows s₀ s.updateLinks := by
  unfold State.updateLinks
  refine h.foldl (fun u f => ?_) _
  dsimp only
  split
  · exact .refl u
  · split
    · exact .refl u
    · exact Grows.sendMask (Grows.refl u).of _ _ _

theorem Grows.updateXoff : Grows s₀ s.updateXoff := h.updateLinks.foldl (fun u _ => (Grows.refl u).of) _

/-! ### Posted writes of the device and AER errors -/

theorem Grows.devicePost (t : Tlp) (pool : Pool) (fid dest : Nat) (why : Purpose) :
    Grows s₀ (s.devicePost t pool fid dest why) := by
  unfold State.devicePost
  split
  · exact h.bump _
  · split
    · exact h.bump _
    · exact h.of_books (State.admitOrWait_books _ _ _)

theorem Grows.postToHost (part : Nat) (addr : W64) (data : List Byte) (pool : Pool) (why : Purpose) :
    Grows s₀ (s.postToHost part addr data pool why) := by
  unfold State.postToHost
  split
  · exact h
  · exact h.devicePost _ _ _ _ _

theorem Grows.errSignal (fn part : Nat) (code : BitVec 8) : Grows s₀ (s.errSignal fn part code) := by
  unfold State.errSignal
  split
  · exact h
  · split
    · exact h
    · exact h.devicePost _ _ _ _ _

theorem Grows.aerUncorrectable (fn part b : Nat) (hdr : List Byte) : Grows s₀ (s.aerUncorrectable fn part b hdr) := by
  unfold State.aerUncorrectable
  extract_lets masked fatal s1 s2 enabled
  have h2 : Grows s₀ s2 := (h.of_books (s.aerLog_books fn b hdr)).of_books (s1.orCfg_books _ _ _)
  exact h2.ite (.refl s2) ((Grows.refl s2).errSignal _ _ _)

theorem Grows.aerCorrectable (fn part b : Nat) : Grows s₀ (s.aerCorrectable fn part b) := by
  unfold State.aerCorrectable
  extract_lets masked s1
  have h1 : Grows s₀ s1 := (h.of_books (s.orCfg_books _ _ _)).of_books (State.orCfg_books _ _ _ _)
  exact h1.ite (.refl s1) ((Grows.refl s1).errSignal _ _ _)

theorem Grows.aerAdvise (fn part b : Nat) (hdr : List Byte) : Grows s₀ (s.aerAdvise fn part b hdr) := by
  unfold State.aerAdvise
  split
  · exact h.aerUncorrectable _ _ _ _
  · exact (h.of_books (s.aerLog_books _ _ _)).aerCorrectable _ _ _

theorem Grows.portAer (port b : Nat) (hdr : List Byte) : Grows s₀ (s.portAer port b hdr) := by
  unfold State.portAer
  split
  · extract_lets s1
    have h1 : Grows s₀ s1 := h.aerUncorrectable _ _ _ _
    exact h1.ite (Grows.refl s1).of (.refl s1)
  · exact h

theorem Grows.portAdvise (port b : Nat) (hdr : List Byte) : Grows s₀ (s.portAdvise port b hdr) := by
  unfold State.portAdvise
  split
  · split
    · exact h.portAer _ _ _
    · exact h.aerAdvise _ _ _ _
  · exact h

theorem Grows.missRefused (f : Frame) : Grows s₀ (s.missRefused f) := by
  unfold State.missRefused
  split
  · exact (h.bump _).portAer _ _ _
  · exact h.bump _

/-! ### Events -/

theorem Grows.mgmtMessage (part vec : Nat) : Grows s₀ (s.mgmtMessage part vec) := by
  unfold State.mgmtMessage
  dsimp only
  split
  · exact h.postToHost _ _ _ _ _
  · exact h.of

theorem Grows.sendVectors (page : Nat) (before : Nat → Bool) : Grows s₀ (s.sendVectors page before) := by
  unfold State.sendVectors
  refine h.foldl (fun u p => ?_) _
  split
  · exact (Grows.refl u).mgmtMessage _ _
  · exact .refl u

theorem Grows.evtWins (page : Nat) : Grows s₀ (s.evtWins page) := by
  unfold State.evtWins
  extract_lets e s1 sts
  split
  · exact h.of
  · exact Grows.bumpBy h.of _ _

theorem Grows.raise (page ev : Nat) : Grows s₀ (s.raise page ev) := by
  unfold State.raise State.raiseAll
  split
  · split
    · exact h
    · extract_lets s0 sts seq ev vec before s1 first low s2
      have h1 : Grows s₀ s1 := (h.evtWins page).of
      have h2 : Grows s₀ s2 := h1.ite (Grows.refl s1).of (.refl s1)
      exact h2.ite ((Grows.refl s2).sendVectors _ _) (.refl s2)
  · exact h

/-! ### Records, samples and ledgers -/

theorem Grows.setLogSlot (slot v : Nat) : Grows s₀ (s.setLogSlot slot v) :=
  h.foldl (fun u _ => (Grows.refl u).of (u.setTbl_ctrs _ _ _ _)) _

theorem Grows.logRecord (v level : Nat) : Grows s₀ (s.logRecord v level) := by
  unfold State.logRecord
  extract_lets slot s1 s2 s3 e s4 s5
  have h2 : Grows s₀ s2 := (h.setLogSlot slot v).of (s1.fset_ctrs _ _)
  have h3 : Grows s₀ s3 := h2.ite ((Grows.refl s2).of (s2.fset_ctrs _ _)) (.refl s2)
  have h4 : Grows s₀ s4 := h3.of
  have h5 : Grows s₀ s5 := h4.ite (Grows.refl s4).of (.refl s4)
  exact (h5.bump _).raise _ _

theorem Grows.deliverRecord (part : Nat) (bs : List Byte) : Grows s₀ (s.deliverRecord part bs) := by
  unfold State.deliverRecord
  split
  · exact h
  · split
    · exact h.of
    · extract_lets prod s1 s2
      have h2 : Grows s₀ (s2.ringOwed part) := by
        unfold State.ringOwed
        split <;> exact h.of
      exact (h2.bump _).raise _ _

theorem Grows.swapRecords (a b : Nat) : Grows s₀ (s.swapRecords a b) := by
  unfold State.swapRecords
  extract_lets x y later first has ring fatal fatal' cause e s1
  have h1 : Grows s₀ s1 := h.of
  exact ((h1.setLogSlot a first).setLogSlot b later).of (State.fset_ctrs _ _ _)

theorem Grows.record (code level : Nat) (part : Option Nat) (port detail : Nat) :
    Grows s₀ (s.record code level part port detail) := by
  unfold State.record
  extract_lets seq c recent after slot e1 s1 v e2 s2 s3 s4 c' s5
  have hlogged : Grows s₀ s3 := Grows.logRecord h.of v level
  have hrings : Grows s₀ s4 := by
    refine hlogged.ite ((Grows.refl s3).foldl (fun u p => (Grows.refl u).deliverRecord p _) _) ?_
    split
    · exact (Grows.refl s3).deliverRecord _ _
    · exact .refl s3
  have hmade : Grows s₀ s5 := by
    simp only [s5]
    split
    · exact hrings.foldl (fun u j => (Grows.refl u).swapRecords _ _) _
    · exact Grows.bump h.of _
  exact hmade.ite ((Grows.refl s5).raise _ _) (.refl s5)

theorem Grows.recordFrame (code level : Nat) (f : Frame) (extra : Nat) : Grows s₀ (s.recordFrame code level f extra) :=
  h.record _ _ _ _ _

theorem Grows.ledger (r : LedgerRec) : Grows s₀ (s.ledger r) := by
  unfold State.ledger
  split
  · exact h.of
  · exact (Grows.bump h.of _).raise _ _

theorem Grows.ledgerCopy (f : Frame) (c : Copy) (reason : Nat) (arrival : Bool) (egress : Option Nat) :
    Grows s₀ (s.ledgerCopy f c reason arrival egress) := by
  unfold State.ledgerCopy
  split
  · exact h
  · split
    · exact h
    · exact h.ledger _

theorem Grows.pushSample (e : BitVec 1280) : Grows s₀ (s.pushSample e) := by
  unfold State.pushSample
  dsimp only
  split
  · exact Grows.bump h.of _
  · exact (h.bump _).raise _ _

theorem Grows.captureIn (k : Nat) (f : Frame) (t : Tlp) (atEgress : Bool) (egress : Nat) (refused : Bool) (window : Nat) :
    Grows s₀ (s.captureIn k f t atEgress egress refused window) := by
  unfold State.captureIn
  extract_lets bs tagHi room hd cells fits s1 n e full s2 s3
  split
  · have h1 : Grows s₀ s1 := h.of
    exact h1.ite (.refl s1) (((Grows.refl s1).bump _).raise _ _)
  · split
    · exact h.of
    · have h3 : Grows s₀ s3 := (h.pushSample _).of
      exact h3.ite (.refl s3) ((Grows.refl s3).bump _)

theorem Grows.capture (f : Frame) (t : Tlp) (atEgress : Bool) (egress : Nat) (refused : Bool) (win : Option Win) :
    Grows s₀ (s.capture f t atEgress egress refused win) := by
  unfold State.capture
  split
  · exact h
  · refine h.foldl (fun u k => ?_) _
    exact (Grows.refl u).ite ((Grows.refl u).captureIn _ _ _ _ _ _ _) (.refl u)

end Grows

end Sys2Proof.Machine
end

section
/-! PROOFS. Counters only grow: in losses, answers, forwarding and containment (R40). -/

namespace Sys2Proof.Machine

-- One after another: side by side these proofs wait for one another, each on a thread of its own.
set_option Elab.async false

/-! ### Live frames taken in (R67, R71) -/

section TakeIn
variable {s₀ s : State} (h : Grows s₀ s)
include h

theorem Grows.loseNoRoute (f : Frame) (addr : W64) (ring : Option Nat) : Grows s₀ (s.loseNoRoute f addr ring) :=
  (h.bump _).ledgerCopy _ _ _ _ _

theorem Grows.refuseLive (f : Frame) (cs : List Copy) : Grows s₀ (s.refuseLive f cs) :=
  ((h.bump _).tel _ _ _ _).foldl (fun u _ => (Grows.refl u).ledgerCopy _ _ _ _ _) _

theorem Grows.evict (v : Frame) : Grows s₀ (s.evict v) := by
  unfold State.evict
  extract_lets cs s1
  have h1 : Grows s₀ s1 := by
    refine h.foldl (fun u c => ?_) cs
    have hgone := (Grows.refl u).of (u.removeCopy_ctrs c.id)
    exact ((hgone.ledgerCopy _ _ _ _ _).bump _).tel _ _ _ _
  exact h1.of (s1.reap_ctrs)

theorem Grows.evictAt (q need : Nat) (egresses : List Nat) (fuel : Nat) : Grows s₀ (s.evictAt q need egresses fuel).1 := by
  induction fuel generalizing s need with
  | zero => exact h
  | succ fuel ih =>
    unfold State.evictAt
    dsimp only
    split
    · exact h
    · split
      · exact ih (h.evict _) _
      · exact ih (h.evict _) _
      · exact h

theorem Grows.makeRoom (f : Frame) (egresses : List Nat) {t : State} (ht : s.makeRoom f egresses = some t) : Grows s₀ t := by
  unfold State.makeRoom at ht
  dsimp only at ht
  split_ifs at ht
  · cases ht; exact h
  · cases ht
    exact List.foldlRecOn (b := (s, f.tlp.cells - s.poolFree .live)) (upTo f.prio) _ (motive := fun r => Grows s₀ r.1) h
      fun r hr q _ => hr.evictAt _ _ _ _

theorem Grows.takeIn (f : Frame) (cs : List Copy) : Grows s₀ (s.takeIn f cs) := by
  unfold State.takeIn
  dsimp only
  generalize (if f.older then cs.map fun c => { c with older := true } else cs) = cs
  split
  · exact h
  · split
    · split
      · exact h.refuseLive _ _
      · next t ht => exact (h.makeRoom _ _ ht).enqueued _ _
    · exact h.enqueued _ _

end TakeIn

/-! ### Completions of the device and denials -/

theorem State.freeTag_ctrs {s t : State} {rid : BitVec 16} {e : Nat} {g : BitVec 14} (h : s.freeTag rid e = some (g, t)) :
    t.ctrs = s.ctrs := by
  unfold State.freeTag at h
  obtain ⟨x, _, hx⟩ := Option.map_eq_some_iff.mp h
  cases hx
  rfl

section Answers
variable {s₀ s : State} (h : Grows s₀ s)
include h

theorem Grows.cplNoRoute (f : Frame) : Grows s₀ (s.cplNoRoute f) := (h.bump _).recordFrame _ _ _ _

theorem Grows.dropRecord (r : Option Nat) : Grows s₀ (match r with
    | some r => s.dropTag r
    | none => s) := by
  cases r with
  | some r => exact h.of
  | none => exact h

theorem Grows.complete (f : Frame) (st : CplStatus) (data : List Byte) : Grows s₀ (s.complete f st data) := by
  unfold State.complete
  extract_lets t drop
  split
  next id s1 hfresh =>
  have h1 : Grows s₀ s1 := by
    cases hfresh
    exact h.of
  extract_lets formed g s2
  have h2 : Grows s₀ s2 := by
    simp only [s2]
    split
    · exact h1.of
    · exact h1
  have hdrop (u : State) (hu : Grows s₀ u) : Grows s₀ (drop u) := hu.dropRecord f.record
  split
  · exact hdrop _ (h2.bump _)
  · split
    · exact hdrop _ (h2.cplNoRoute _)
    · split
      · exact hdrop _ (h2.bump _)
      · exact (h2.of (s2.store_ctrs _)).of (State.enqueue_ctrs _ _)

theorem Grows.unsupported (f : Frame) : Grows s₀ (s.unsupported f) := by
  unfold State.unsupported
  extract_lets s1 s2 s3
  have h2 : Grows s₀ s2 := (h.complete _ _ _).tel _ _ _ _
  have h3 : Grows s₀ s3 := h2.ite ((Grows.refl s2).bump _) (.refl s2)
  exact h3.portAdvise _ _ _

theorem Grows.overlapFault (f : Frame) (a b : Nat) : Grows s₀ (s.overlapFault f a b) :=
  ((h.bump _).raise _ _).recordFrame _ _ _ _

theorem Grows.deny (f : Frame) (cause window : Nat) : Grows s₀ (s.deny f cause window) := by
  unfold State.deny
  extract_lets g s1 s2 s3 k e s4 s5 s6 recent e7 s7
  have h1 : Grows s₀ s1 := h.bump _
  have h3 : Grows s₀ s3 := (h1.ite ((Grows.refl s1).bump _) (.refl s1)).tel _ _ _ _
  have h4 : Grows s₀ s4 := h3.of
  have h5 : Grows s₀ s5 := Grows.raise (h4.of) _ _
  have h6 : Grows s₀ s6 := h5.portAer _ _ _
  have h7 : Grows s₀ s7 := h6.ite (Grows.recordFrame (Grows.refl s6).of _ _ _ _) ((Grows.refl s6).bump _)
  exact h7.ite ((Grows.refl s7).unsupported _) (.refl s7)

/-! ### Copies sent (R103, R108) -/

theorem Grows.proxied (f : Frame) (c : Copy) (o : Nat) (record : Option Nat) : Grows s₀ (s.proxied f c o record).1 := by
  unfold State.proxied
  extract_lets rid c'
  split
  · exact h.of (s.wait_ctrs _ _ _)
  · next g t ht =>
    have htag : Grows s₀ t := by
      split at ht
      · cases ht
      · exact h.of (State.freeTag_ctrs ht)
    dsimp only
    refine Grows.takeIn ?_ _ _
    cases record with
    | some r => exact htag.of
    | none => exact htag

theorem Grows.place (f : Frame) (c : Copy) (owner record : Option Nat) : Grows s₀ (s.place f c owner record).1 := by
  unfold State.place
  split
  · split
    · exact h.of (s.wait_ctrs _ _ _)
    · exact h.takeIn _ _
  · split
    · exact h.takeIn _ _
    · exact h.proxied _ _ _ _

theorem Grows.sendTo (f : Frame) (fid p : Nat) (addr : W64) (fwd : Nat) (ring record : Option Nat) (why : Purpose) :
    Grows s₀ (s.sendTo f fid p addr fwd ring record why).1 := by
  unfold State.sendTo
  split
  · dsimp only
    split
    · exact h.loseNoRoute _ _ _
    · exact h
  · dsimp only
    split_ifs
    · exact (h.bump _).ledgerCopy _ _ _ _ _
    · exact h
    · exact h
    · exact h.bump _
    · exact h
    · exact h.place _ _ _ _

theorem Grows.replicate (f : Frame) (k fwd : Nat) {t : State} {cs : List Copy} (ht : s.replicate f k fwd = some (t, cs)) :
    Grows s₀ t := by
  unfold State.replicate at ht
  dsimp only at ht
  split at ht
  · cases ht
  · cases ht
    refine Grows.foldl ?_ (fun u c => ((Grows.refl u).bump _).ledgerCopy _ _ _ _ _) _
    have h1 := (h.bumpBy R.MCM_LINK_SUBST (s.groupLinks f k).2.1).bumpBy R.MCM_LINK_NOROUTE (s.groupLinks f k).2.2
    have h2 (base : Copy) := h1.foldl (f := fun u _ => u.ledgerCopy f base lrPORT_DOWN false (some 0x7F))
      (fun u _ => (Grows.refl u).ledgerCopy _ _ _ _ _) (upTo (s.groupLinks f k).2.2)
    exact (h2 _).ite (.refl _) ((Grows.refl _).portAer _ _ _)

theorem Grows.sendGroup (f : Frame) (k fwd : Nat) : Grows s₀ (s.sendGroup f k fwd) := by
  unfold State.sendGroup
  dsimp only
  split
  · exact (h.bump _).raise _ _
  · next t cs ht =>
    have h1 := (h.replicate _ _ _ ht).takeIn { f with mcast := true, group := k } cs
    exact h1.ite ((Grows.refl _).bumpBy _ _) (.refl _)

end Answers

end Sys2Proof.Machine
end

section
/-! PROOFS. Counters only grow: where links and ports go down, and in containment (R40). -/

namespace Sys2Proof.Machine

-- One after another: side by side these proofs wait for one another, each on a thread of its own.
set_option Elab.async false

/-! ### Packets of VC4 (R239, R244) -/

section Vc4
variable {s₀ s : State} (h : Grows s₀ s)
include h

theorem Grows.pushPacket (f : Nat) (p : Packet) : Grows s₀ (s.pushPacket f p) := by
  unfold State.pushPacket
  extract_lets seq p' s1
  have h1 : Grows s₀ s1 := h.of
  exact Grows.of ((h1.of (s1.fset_ctrs _ _)).bump _)

theorem Grows.poolVc4 (ps : List Vc4Packet) (f : Nat) : Grows s₀ (State.poolVc4 ps s f) := by
  induction ps generalizing s with
  | nil => exact h
  | cons p ps ih =>
    unfold State.poolVc4
    dsimp only
    split_ifs <;> exact ih h.of

theorem Grows.drainVc4 (ps : List Vc4Packet) (f : Nat) : Grows s₀ (State.drainVc4 ps s f) := by
  induction ps generalizing s with
  | nil => exact h.of
  | cons p ps ih =>
    unfold State.drainVc4
    dsimp only
    split
    · exact ih (h.pushPacket _ _)
    · exact h.of

theorem Grows.retryVc4 (f : Nat) : Grows s₀ (s.retryVc4 f) := by
  unfold State.retryVc4
  extract_lets ps s1
  have h1 : Grows s₀ s1 := Grows.poolVc4 h.of _ _
  exact h1.drainVc4 _ _

theorem Grows.sendMgmt (f src dst : Nat) (v : Vc4) : Grows s₀ (s.sendMgmt f src dst v) := Grows.retryVc4 h.of f

theorem Grows.loseVc4 (gone : List Vc4Packet) : Grows s₀ (State.loseVc4 gone s) := by
  unfold State.loseVc4
  refine h.foldl (fun u p => ?_) gone
  have hu := Grows.refl u
  split
  · split
    · exact hu.of.foldl (fun v r => (Grows.refl v).complete _ _ _) _
    · split
      · exact hu.sendMgmt _ _ _ _
      · exact hu
  · exact hu.bump _
  · split
    · exact hu.sendMgmt _ _ _ _
    · exact hu
  · split
    · exact hu.of
    · exact hu
  · exact hu

theorem Grows.losePacket (f : Nat) (p : Packet) : Grows s₀ (s.losePacket f p) := by
  unfold State.losePacket
  extract_lets s1
  have h1 : Grows s₀ s1 := h.bump _
  split
  · split_ifs
    · exact h1
    · exact h1.unsupported _
    · exact h1.ledgerCopy _ _ _ _ _
    · exact h1
  · exact h1

end Vc4

/-! ### Ports that go down (R82 to R85, R223) -/

theorem State.wasteSlots_ctrs (s : State) (n : Nat) : (s.wasteSlots n).ctrs = s.ctrs := by
  unfold State.wasteSlots State.linkSlots
  split
  · exact (Prod.ext_iff.mp (s.tbump_books _ _ _ _ _ _)).2
  · rfl

theorem State.endOnLink_ctrs (s : State) (c : Copy) : (s.endOnLink c).ctrs = s.ctrs := by
  unfold State.endOnLink
  split
  · dsimp only
    split <;> rfl
  · rfl

section PortDown
variable {s₀ s : State} (h : Grows s₀ s)
include h

theorem Grows.endLate (f : Frame) (c : Copy) (reason : Option Nat) : Grows s₀ (s.endLate f c reason) := by
  unfold State.endLate
  extract_lets s1 s2 s3
  have h1 : Grows s₀ s1 := ((h.of (s.wasteSlots_ctrs _)).bump _).tel _ _ _ _
  have h2 : Grows s₀ s2 := (h1.raise _ _).of (State.endOnLink_ctrs _ _)
  have h3 : Grows s₀ s3 := by
    simp only [s3]
    split
    · exact h2.ledgerCopy _ _ _ _ _
    · exact h2
  exact h3.of (s3.removeCopy_ctrs _)

theorem Grows.loseCopy (c : Copy) (reason ctrP ctrNp ctrCpl : Nat) : Grows s₀ (s.loseCopy c reason ctrP ctrNp ctrCpl) := by
  unfold State.loseCopy
  split
  · exact h.of (s.removeCopy_ctrs _)
  · extract_lets s1 s2
    have h1 : Grows s₀ s1 := h.of (s.removeCopy_ctrs _)
    have h2 : Grows s₀ s2 := by
      simp only [s2]
      split
      · exact (h1.ledgerCopy _ _ _ _ _).bump _
      · exact (h1.unsupported _).bump _
      · exact h1.bump _
    exact h2.of (s2.reap_ctrs)

theorem Grows.flushCopy (c : Copy) : Grows s₀ (s.flushCopy c) := (h.loseCopy _ _ _ _ _).tel _ _ _ _

theorem Grows.startFlush (n : Nat) : Grows s₀ (s.startFlush n) := by
  unfold State.startFlush
  extract_lets p downs all s1 s2
  have h1 : Grows s₀ s1 := h.of
  have h2 : Grows s₀ s2 := h1.ite (Grows.refl s1).of (.refl s1)
  exact h2.ite (.refl s2) ((Grows.refl s2).raise _ _)

theorem Grows.pcieInactive (n : Nat) : Grows s₀ (s.pcieInactive n) := by
  unfold State.pcieInactive
  extract_lets was s1 s2
  have h1 : Grows s₀ s1 := h.of
  have h2 : Grows s₀ s2 := h1.ite ((Grows.refl s1).raise _ _) (.refl s1)
  split
  · exact h2.ite (Grows.refl s2).of (.refl s2)
  · exact h2

theorem Grows.linkLoss (n : Nat) : Grows s₀ (s.linkLoss n) := by
  unfold State.linkLoss
  extract_lets s1 s2
  have h1 : Grows s₀ s1 := h.of (s.wasteSlots_ctrs n)
  have h2 : Grows s₀ s2 := h1.ite ((Grows.refl s1).pcieInactive n) (.refl s1)
  exact (h2.startFlush n).foldl (fun u c => (Grows.refl u).flushCopy c) _

theorem Grows.loseTail (f : Frame) : Grows s₀ (s.loseTail f).1 := by
  unfold State.loseTail
  extract_lets cs started s1 s2 s3
  have h1 : Grows s₀ s1 := by
    refine h.foldl (fun u c => ?_) cs
    have hu := Grows.refl u
    split
    · exact hu.endLate _ _ _
    · exact ((hu.bump _).ledgerCopy _ _ _ _ _).of (State.removeCopy_ctrs _ _)
  have h2 : Grows s₀ s2 := h1.ite ((Grows.refl s1).unsupported f) (.refl s1)
  have h3 : Grows s₀ s3 := h2.recordFrame _ _ _ _
  exact h3.of s3.reap_ctrs

theorem Grows.loseWaiting (w : Waiting) : Grows s₀ (s.loseWaiting w) := by
  unfold State.loseWaiting
  extract_lets f sw s1 s2 s3
  have h1 : Grows s₀ s1 := h.of
  have h2 : Grows s₀ s2 := h1.bumpBy _ _
  have h3 : Grows s₀ s3 := h2.ite ((Grows.refl s2).unsupported f) (.refl s2)
  exact h3.recordFrame _ _ _ _

theorem Grows.loseTails (n : Nat) : Grows s₀ (s.loseTails n).1 := by
  unfold State.loseTails
  extract_lets s1
  have h1 : Grows s₀ s1 := h.foldl (fun u w => (Grows.refl u).loseWaiting w) _
  refine List.foldlRecOn (motive := fun r : State × List (Nat × List Byte) => Grows s₀ r.1) _ _ h1 ?_
  intro r hr f _
  exact hr.loseTail f

theorem Grows.enterDpcWhy (n reason why : Nat) : Grows s₀ (s.enterDpcWhy n reason why) := by
  unfold State.enterDpcWhy
  extract_lets s1 s2 s3
  have h1 : Grows s₀ s1 := h.of
  have h2 : Grows s₀ s2 := h1.of
  have h3 : Grows s₀ s3 := h2.of
  exact (h3.bump _).raise _ _

theorem Grows.dpcLate (n : Nat) (hdr : List Byte) : Grows s₀ (s.dpcLate n hdr) := (h.portAer _ _ _).enterDpcWhy _ _ _

theorem Grows.portDownN (fuel n : Nat) : Grows s₀ (State.portDownN fuel s n) := by
  induction fuel generalizing s n with
  | zero => exact h
  | succ fuel ih =>
    unfold State.portDownN
    split
    · exact h
    · extract_lets s1 r
      have hr : Grows s₀ r.1 := (h.linkLoss n).loseTails n
      exact List.foldlRecOn (b := r.1) _ _ (motive := Grows s₀) hr fun u hu m _ => ih (hu.dpcLate _ _) _

theorem Grows.setLinkState (f st : Nat) : Grows s₀ (s.setLinkState f st) := by
  unfold State.setLinkState
  split
  · exact h
  · exact Grows.raise h.of _ _

theorem Grows.moabenDown (f next : Nat) : Grows s₀ (s.moabenDown f next) := by
  unfold State.moabenDown
  split
  · split
    · exact h
    · exact Grows.loseVc4 (Grows.setLinkState h.of _ _) _
  · extract_lets gone lost s1 s2 s3 s4 s5 s6 s7 s8
    have h1 : Grows s₀ s1 := (h.bump _).raise _ _
    have h2 : Grows s₀ s2 := h1.ite ((Grows.refl s1).bump _) (.refl s1)
    have h4 : Grows s₀ s4 := Grows.of (h2.setLinkState f next)
    have h5 : Grows s₀ s5 := h4.foldl (fun u p => (Grows.refl u).losePacket f p) lost
    have h6 : Grows s₀ s6 := h5.of
    have h7 : Grows s₀ s7 := h6.of
    have h8 : Grows s₀ s8 := h7.of
    exact (h8.loseVc4 gone).portDownN _ _

end PortDown

/-! ### Rings that stop, slots that go off (R156, R308, R374) -/

theorem State.modRing_ctrs (s : State) (i q : Nat) (f : RingSt → RingSt) : (s.modRing i q f).ctrs = s.ctrs := rfl

theorem State.modEngTags_ctrs (s : State) (f : EngTag → EngTag) : (s.modEngTags f).ctrs = s.ctrs := rfl

theorem State.discardAhead_ctrs (s : State) (i q cause : Nat) :
    (s.discardAhead i q cause).ctrs = (s.aheadLogged i q cause).ctrs :=
  (congrArg (·.ctrs) (s.discardAhead_eq i q cause)).trans ((State.modEngTags_ctrs _ _).trans (State.modRing_ctrs _ _ _ _))

theorem State.putQreg_ctrs (s : State) (i q off hi lo v : Nat) : (s.putQreg i q off hi lo v).ctrs = s.ctrs := rfl

theorem State.ringOff_ctrs (s : State) (i q : Nat) : (s.ringOff i q).ctrs = (s.discardAhead i q dSTOP).ctrs := by
  rw [State.ringOff, State.putQreg_ctrs, State.putQreg_ctrs, State.modRing_ctrs, State.modEngTags_ctrs]

section Stops
variable {s₀ s : State} (h : Grows s₀ s)
include h

theorem Grows.discardAhead (i q cause : Nat) : Grows s₀ (s.discardAhead i q cause) := by
  refine Grows.of (s := s.aheadLogged i q cause) ?_ (s.discardAhead_ctrs i q cause)
  unfold State.aheadLogged
  refine h.foldl (fun u x => ?_) _
  unfold State.discardLog
  extract_lets k v s1
  have h1 : Grows u s1 := (Grows.refl u).of
  exact Grows.raise ((h1.of (s1.fset_ctrs _ _)).bump _) _ _

theorem Grows.settleOff (i q : Nat) : Grows s₀ (s.settleOff i q) := by
  unfold State.settleOff
  exact h.ite (((Grows.refl s).discardAhead i q dSTOP).of (s.ringOff_ctrs i q)) (.refl s)

theorem Grows.stopForIsolate : Grows s₀ s.stopForIsolate := by
  unfold State.stopForIsolate
  extract_lets lost s1
  have h1 : Grows s₀ s1 := h.of
  refine h1.foldl (fun u k => ?_) _
  extract_lets i q u1
  have hu1 : Grows u u1 := (Grows.refl u).discardAhead _ _ _
  exact Grows.settleOff hu1.of _ _

theorem Grows.setSlotPg (n : Nat) (on : Bool) : Grows s₀ (s.setSlotPg n on) := by
  unfold State.setSlotPg
  split
  · exact h
  · extract_lets s1 g s2 s3
    have h2 : Grows s₀ s2 := h.of
    have h3 : Grows s₀ s3 := h2.ite (Grows.refl s2).of (Grows.refl s2).of
    exact h3.raise _ _

theorem Grows.slotOff (n : Nat) : Grows s₀ (s.slotOff n) := by
  unfold State.slotOff
  extract_lets s1 on s2
  have h1 : Grows s₀ s1 := Grows.of (h.setSlotPg n false)
  have h2 : Grows s₀ s2 := h1.of
  exact h2.ite (.refl s2) (Grows.refl s2).of

theorem Grows.slotsOff : Grows s₀ s.slotsOff :=
  h.foldl (fun u n => (Grows.refl u).ite (.refl u) ((Grows.refl u).slotOff n)) _

/-! ### ISOLATE, SAFE and errors of the device (R307 to R310, R427) -/

theorem Grows.enterMode (m : Nat) : Grows s₀ (s.enterMode m) := by
  unfold State.enterMode
  split
  · exact h
  · extract_lets old s1 s2 s3 s4
    have h1 : Grows s₀ s1 := by
      simp only [s1, State.setMode]
      split
      · exact h.of
      · exact h.of
    have h2 : Grows s₀ s2 := h1.ite (Grows.refl s1).of (.refl s1)
    have h3 : Grows s₀ s3 := h2.ite (Grows.refl s2).of (.refl s2)
    have h4 : Grows s₀ s4 := h3.ite (Grows.refl s3).of (.refl s3)
    exact h4.raise _ _

theorem Grows.flushEverything (count : Bool) : Grows s₀ (s.flushEverything count) := by
  unfold State.flushEverything
  refine h.foldl (fun u c => ?_) _
  extract_lets err u1 u2
  have h1 : Grows u u1 := (Grows.refl u).ite (Grows.bump (Grows.refl u).of _) (.refl u)
  split
  · exact h1.of (u1.removeCopy_ctrs _)
  · have h2 : Grows u u2 := h1.of (u1.removeCopy_ctrs _)
    exact (h2.ite ((Grows.refl u2).unsupported _) (.refl u2)).of (State.reap_ctrs _)

theorem Grows.enterSafe : Grows s₀ s.enterSafe := by
  unfold State.enterSafe
  extract_lets s1 s2 s3 s4
  have h3 : Grows s₀ s3 := ((h.enterMode _).flushEverything _).slotsOff
  have h4 : Grows s₀ s4 := h3.foldl (fun u f => ((Grows.refl u).moabenDown f _).of (State.fset_ctrs _ _ _)) _
  exact Grows.of h4.stopForIsolate

theorem Grows.selftestFail (item : Nat) (fatal : Bool) : Grows s₀ (s.selftestFail item fatal) := by
  unfold State.selftestFail
  extract_lets s1
  have h1 : Grows s₀ s1 := h.of
  split
  · exact (h1.ite (Grows.refl s1).of (.refl s1)).enterSafe
  · exact h1.ite (.refl s1) ((Grows.refl s1).raise _ _)

theorem Grows.startIsolate (cause : Nat) : Grows s₀ (s.startIsolate cause) := by
  unfold State.startIsolate
  extract_lets s1 err s2
  have h2 : Grows s₀ s2 := h.of
  exact h2.stopForIsolate.updateXoff

theorem Grows.deviceError (code : Nat) (part : Option Nat) (port detail : Nat) :
    Grows s₀ (s.deviceError code part port detail) := by
  unfold State.deviceError
  extract_lets seq s1
  have h1 : Grows s₀ s1 := h.record _ _ _ _ _
  split
  · exact h1.selftestFail _ _
  · split
    · exact Grows.raise h1.of _ _
    · split
      · exact Grows.of (h1.startIsolate seq)
      · exact h1

theorem Grows.tablesUe (es : List (Nat × Nat)) (part : Option Nat) (port : Nat) : Grows s₀ (s.tablesUe es part port) :=
  h.foldl (fun u _ => (Grows.refl u).deviceError _ _ _ _) es

end Stops

/-! ### A request of an engine -/

section EngineSend
variable {s₀ s : State} (h : Grows s₀ s)
include h

theorem Grows.engineUnicast {f : Frame} {win : Option Win} {fid p : Nat} {et : Option EngTag} {t : State} {x : Issue}
    (ht : s.engineUnicast f win fid p et = some (t, x)) : Grows s₀ t := by
  unfold State.engineUnicast at ht
  dsimp only at ht
  split at ht
  · split_ifs at ht
    · cases ht; exact h.loseNoRoute _ _ _
    · cases ht; exact h
  · split at ht
    · split_ifs at ht
      · cases ht; exact h
      · cases ht; exact h.sendTo _ _ _ _ _ _ _ _
    · split at ht
      · cases ht; exact h
      · split at ht
        · cases ht
          exact (Grows.ite h.of (Grows.refl _).of (.refl _)).of (State.wait_ctrs _ _ _ _)
        · next g u hfree =>
          cases ht
          have hu : Grows s₀ u := h.of (State.freeTag_ctrs (Option.ite_none_left_eq_some.mp hfree).2)
          exact (Grows.ite hu.of (Grows.refl _).of (.refl _)).place _ _ _ _

theorem Grows.engineSend {e i : Nat} {m : Tlp} {want : Want} {et : Option EngTag} {t : State} {x : Issue}
    (ht : s.engineSend e i m want et = some (t, x)) : Grows s₀ t := by
  unfold State.engineSend at ht
  extract_lets n part m' at ht
  split at ht
  next id s1 hfresh =>
  have h1 : Grows s₀ s1 := by
    cases hfresh
    exact h.of
  extract_lets f1 f at ht
  have hin : Grows s₀ (s1.entered f) := h1.of (s1.entered_ctrs f)
  split at ht
  · cases ht
  · split at ht
    · cases ht; exact (hin.capture _ _ _ _ _ _).tablesUe _ _ _
    · cases ht; exact ((hin.capture _ _ _ _ _ _).overlapFault _ _ _).tel _ _ _ _
    · cases ht; exact (hin.capture _ _ _ _ _ _).deny _ _ _
    · cases ht; exact hin.capture _ _ _ _ _ _
    · next win dest hlookup =>
      extract_lets fc at ht
      split at ht
      · cases ht; exact (h1.of (s1.entered_ctrs fc)).capture _ _ _ _ _ _
      · split at ht
        · cases ht
        · split at ht
          next fs s2 hstamp =>
          have h2 : Grows s₀ s2 := h1.of ((congrArg (fun r => State.ctrs r.2) hstamp).symm.trans (s1.stampLive_ctrs fc))
          extract_lets s3 at ht
          have h3 : Grows s₀ s3 := ((h2.of (s2.entered_ctrs fs)).of (State.countMiss_ctrs _ fs win)).capture _ _ _ _ _ _
          clear_value s3
          split at ht
          · exact h3.engineUnicast ht
          · split at ht
            · cases ht; exact h3.sendGroup _ _ _
            · cases ht; exact h3
          · split at ht
            · cases ht; exact h3.bump _
            · cases ht; exact h3
          · cases ht; exact h3.missRefused _
          · cases ht; exact h3

end EngineSend

end Sys2Proof.Machine
end

section
/-! PROOFS. Source reads and destination writes of the engines (R157, R159, R166, R177). -/

namespace Sys2Proof.Machine

-- One after another: side by side these proofs wait for one another, each on a thread of its own.
set_option Elab.async false

/-! ### SOURCE_READ_ISSUE (R157, R177) -/

theorem State.modEng_rbBytes (s : State) (e : Nat) (f : EngSt → EngSt) : (s.modEng e f).rbBytes e = s.rbBytes e := rfl

/-- A source read that fits the reorder buffer and is issued moves the run on, and may free its context. -/
theorem State.issueRead_of_ok {s u : State} {e i q n off : Nat} {raw : BitVec 512} {pc : Nat × Nat}
    (hpc : srcPiece raw (s.fget (R.ENG_SIZE_MAX_RD_LOG2 e)) off = pc) (hroom : s.rbBytes e + pc.2 ≤ 262144)
    {w eg fid f : Nat} {l m : Bool} (hread : s.engineRead e i q (dRdTc raw) (BitVec.ofNat 64 pc.1) pc.2 (.source n off) .source
      false = some (u, .ok w eg fid f l m)) : s.issueRead e i q (.source n raw off) =
      (u.modRun i q n fun d => { d with readPos := off + pc.2 }).release i q n := by
  unfold State.issueRead
  dsimp only
  rw [hpc, if_neg (Nat.not_lt.mpr hroom), hread]

theorem exec_sourceReadIssue_of_read {s : State} {e k : Nat} (he : e < 16) (hstate : s.fget (R.ENG_STS_STATE e) < 3)
    (hk : (s.nextRing e (s.eng e).readPtr fun i q => (s.nextRead e i q).isSome) = some k) {y : NextRead}
    (hy : s.nextRead e (k / 4) (k % 4) = some y) : exec (.sourceReadIssue e) s =
      .next ((s.modEng e fun y => { y with readPtr := k }).issueRead e (k / 4) (k % 4) y) := by
  change execSourceReadIssue e s = _
  unfold execSourceReadIssue
  rw [Nat.mod_eq_of_lt he]
  dsimp only
  rw [if_neg (Nat.not_le.mpr hstate), hk]
  dsimp only
  rw [hy]

/-! ### Destination writes (R159, R166, R170) -/

/-- The write of a piece whose bytes have all moved. -/
def destWrite (d : DescRun) (a : Nat) (bs : List Byte) (p : Bool) : Tlp :=
  { kind := .memWrite, tc := Fin.ofNat 8 (dWrTc d.raw), addr := BitVec.ofNat 64 a, len := bs.length, data := bs, poison := p }

/-- What the descriptor wants of its destination. -/
def DescRun.wants (d : DescRun) : Want := if d.opcode = opMCOPY then .mdest else .dest

/-- The entry of the destination set for a write that has been issued (R170). -/
def DescRun.destEntry (d : DescRun) (a w eg fid fr : Nat) (inside : Bool) : DestEntry :=
  { window := w, egress := eg, fid := fid, tc := dWrTc d.raw, addr := BitVec.ofNat 64 a
    inside := inside || decide (4 ≤ dWrTc d.raw), frames := [fr] }

/-- The state once a piece has been written: its bytes counted, the run moved on, its destination in the set. -/
def State.written (s : State) (e i q : Nat) (d : DescRun) (bs : List Byte) (p : Bool) (x : DestEntry) : State :=
  (((s.bumpBy (R.ENG_BYTES_WR e) bs.length).modRun i q d.n fun x => { x with
    pos := x.pos + bs.length, moved := 0, poison := x.poison || p
    segs := releaseSegs x.segs (sourceNeeded x.raw (x.pos + bs.length)) }).release i q d.n).addDest i q d.n x

theorem State.modRun_ctrs (s : State) (i q n : Nat) (f : DescRun → DescRun) : (s.modRun i q n f).ctrs = s.ctrs := rfl

theorem State.endDesc_ctrs (s : State) (i q n st res : Nat) : (s.endDesc i q n st res).ctrs = s.ctrs :=
  s.modRun_ctrs i q n fun d => if d.status.isSome then d else
    { d with status := some st, result := res, current := false, segs := [] }

/-- A write counts no bytes beside its own. -/
theorem State.addDest_ctr (s : State) (e i q n : Nat) (x : DestEntry) :
    (s.addDest i q n x).ctr (R.ENG_BYTES_WR e) = s.ctr (R.ENG_BYTES_WR e) := by
  unfold State.addDest
  extract_lets r same keep
  split_ifs
  · exact State.ctr_eq_of_ctrs (s.modRing_ctrs i q _) _
  · exact State.ctr_eq_of_ctrs (s.modRing_ctrs i q _) _
  · rw [State.ctr_bump_ne _ (by simp only [R.ENG_BYTES_WR, R.ENG_FENCE_IMPLICIT]; omega)]
    exact State.ctr_eq_of_ctrs (s.modRing_ctrs i q _) _

theorem State.written_ctr {s : State} (hal : s.alive = true) (e i q : Nat) (d : DescRun) (bs : List Byte) (p : Bool)
    (x : DestEntry) : (s.written e i q d bs p x).ctr (R.ENG_BYTES_WR e) =
      min (s.ctr (R.ENG_BYTES_WR e) + bs.length) counterMax := by
  rw [State.written, State.addDest_ctr, State.release, State.ctr_eq_of_ctrs (State.modRun_ctrs _ _ _ _ _),
    State.ctr_eq_of_ctrs (State.modRun_ctrs _ _ _ _ _), State.ctr_bumpBy_same hal]

section Written
variable {s₀ s : State} (h : Grows s₀ s)
include h

theorem Grows.addDest (i q n : Nat) (x : DestEntry) : Grows s₀ (s.addDest i q n x) := by
  unfold State.addDest
  extract_lets r same keep
  split_ifs
  · exact h.of (s.modRing_ctrs i q _)
  · exact h.of (s.modRing_ctrs i q _)
  · exact (h.of (s.modRing_ctrs i q _)).bump _

theorem Grows.written (e i q : Nat) (d : DescRun) (bs : List Byte) (p : Bool) (x : DestEntry) :
    Grows s₀ (s.written e i q d bs p x) := by
  refine Grows.addDest ?_ _ _ _ _
  exact ((h.bumpBy _ _).of (State.modRun_ctrs _ _ _ _ _)).of (State.modRun_ctrs _ _ _ _ _)

end Written

/-! ### Turns of an engine's contexts (R157, R166) -/

section Turn
variable {u : State} {e i q : Nat} {d : DescRun} (hd : u.turnRun e i q = some d)
include hd

theorem State.mem_runs_of_turnRun : d ∈ (u.ring i q).runs := by
  unfold State.turnRun at hd
  dsimp only at hd
  split at hd
  · cases hd
  · exact List.mem_of_find?_eq_some hd

variable (hcheck : readyCheck d = none)
include hcheck

/-- A turn is its first part, and what is left of its cell. -/
theorem State.turn_of_cell : u.turn e i q d =
    if (u.turnPart e i q d 256).2 = 0 then (u.turnPart e i q d 256).1
    else State.turnParts e i q d.n 255 (256 - (u.turnPart e i q d 256).2) (u.turnPart e i q d 256).1 := by
  rw [State.turn, hcheck]
  dsimp only
  rw [State.turnParts, hd]
  exact if_pos ⟨rfl, by decide, by rw [hcheck]; rfl⟩

end Turn

theorem State.turnParts_of_no_room (e i q n fuel : Nat) (s : State) : State.turnParts e i q n fuel 0 s = s := by
  cases fuel with
  | zero => rfl
  | succ fuel =>
    unfold State.turnParts
    split
    · exact if_neg fun h => absurd h.2.1 (Nat.lt_irrefl 0)
    · rfl

section TurnPart
variable {u : State} {e i q : Nat} {d : DescRun} {room n : Nat} (hcell : u.readyCell e d room = some n)
include hcell

/-- Without a write, or with one that wants more bytes, the bytes only move. -/
theorem State.turnPart_of_moving
    (hmoving : u.readyWrite e d = none ∨ ∃ w, u.readyWrite e d = some w ∧ d.moved + n < w.2.1.length) :
    u.turnPart e i q d room = (u.modRun i q d.n fun x => { x with moved := x.moved + n }, n) := by
  unfold State.turnPart
  rw [hcell]
  rcases hmoving with hnone | ⟨⟨a, bs, p⟩, hsome, hlt⟩
  · rw [hnone]
  · rw [hsome]
    exact if_pos hlt

variable {a : Nat} {bs : List Byte} {p : Bool} (hwrite : u.readyWrite e d = some (a, bs, p)) (hwhole : bs.length ≤ d.moved + n)
include hwrite hwhole

theorem State.turnPart_of_failed {v : State} {st w : Nat}
    (hsend : u.engineSend e i (destWrite d a bs p) d.wants none = some (v, .failed st w)) :
    u.turnPart e i q d room = (v.endDesc i q d.n st (errResult w 1), 0) := by
  unfold State.turnPart
  rw [hcell, hwrite]
  dsimp only
  rw [if_neg (Nat.not_lt.mpr hwhole)]
  unfold destWrite DescRun.wants at hsend
  rw [hsend]

theorem State.turnPart_of_none (hsend : u.engineSend e i (destWrite d a bs p) d.wants none = none) :
    u.turnPart e i q d room = (u, 0) := by
  unfold State.turnPart
  rw [hcell, hwrite]
  dsimp only
  rw [if_neg (Nat.not_lt.mpr hwhole)]
  unfold destWrite DescRun.wants at hsend
  rw [hsend]

theorem State.turnPart_of_ok {v : State} {w eg fid fr : Nat} {live mcast : Bool}
    (hsend : u.engineSend e i (destWrite d a bs p) d.wants none = some (v, .ok w eg fid fr live mcast)) :
    u.turnPart e i q d room = (v.written e i q d bs p (d.destEntry a w eg fid fr (live || mcast)), n) := by
  unfold State.turnPart
  rw [hcell, hwrite]
  dsimp only
  rw [if_neg (Nat.not_lt.mpr hwhole)]
  unfold destWrite DescRun.wants at hsend
  rw [hsend]
  rfl

end TurnPart

/-- A part of a turn takes no counter back. -/
theorem State.turnPart_grows (u : State) (e i q : Nat) (d : DescRun) (room : Nat) : Grows u (u.turnPart e i q d room).1 := by
  cases hcell : u.readyCell e d room with
  | none =>
    rw [State.turnPart, hcell]
    exact .refl u
  | some n =>
    by_cases hmoving : u.readyWrite e d = none ∨ ∃ w, u.readyWrite e d = some w ∧ d.moved + n < w.2.1.length
    · rw [State.turnPart_of_moving hcell hmoving]
      exact (Grows.refl u).of (u.modRun_ctrs _ _ _ _)
    · obtain ⟨hsome, hwhole⟩ := not_or.mp hmoving
      obtain ⟨⟨a, bs, p⟩, hwrite⟩ := Option.ne_none_iff_exists'.mp hsome
      have hwhole' : bs.length ≤ d.moved + n := Nat.not_lt.mp fun hlt => hwhole ⟨_, hwrite, hlt⟩
      cases hsend : u.engineSend e i (destWrite d a bs p) d.wants none with
      | none =>
        rw [State.turnPart_of_none hcell hwrite hwhole' hsend]
        exact .refl u
      | some r =>
        obtain ⟨v, x⟩ := r
        have hv : Grows u v := (Grows.refl u).engineSend hsend
        cases x with
        | ok w eg fid fr live mcast =>
          rw [State.turnPart_of_ok hcell hwrite hwhole' hsend]
          exact hv.written _ _ _ _ _ _ _
        | failed st w =>
          rw [State.turnPart_of_failed hcell hwrite hwhole' hsend]
          exact hv.of (v.endDesc_ctrs _ _ _ _ _)

theorem State.turnParts_grows (e i q n fuel room : Nat) (u : State) : Grows u (State.turnParts e i q n fuel room u) := by
  induction fuel generalizing room u with
  | zero => exact .refl u
  | succ fuel ih =>
    unfold State.turnParts
    split
    · next d hd =>
      split
      · exact (u.turnPart_grows e i q d room).ite (.refl _) (ih _ _)
      · exact .refl u
    · exact .refl u

/-! ### ENGINE_WRITE_ISSUE (R157, R159) -/

section EngineWriteIssue
variable {s u : State} {e k : Nat} {d : DescRun} (he : e < 16)
  (hk : (s.nextRing e (s.eng e).turnPtr fun i q => (s.turnRun e i q).isSome) = some k)
  (hu : u = (s.modEng e fun x => { x with turnPtr := k }).settleImplicit (k / 4) (k % 4))
  (hd : u.turnRun e (k / 4) (k % 4) = some d)
include he hk hu hd

theorem exec_engineWriteIssue_of_turn : exec (.engineWriteIssue e) s = .next (u.turn e (k / 4) (k % 4) d) := by
  subst hu
  change execEngineWriteIssue e s = _
  unfold execEngineWriteIssue
  rw [Nat.mod_eq_of_lt he]
  dsimp only
  rw [hk]
  dsimp only
  rw [hd]

theorem engineWriteIssue_does_check {bs : List Byte} {p : Bool} (hcheck : readyCheck d = some (bs, p)) :
    Does (.engineWriteIssue e) s fun t => ∃ x ∈ (t.ring (k / 4) (k % 4)).runs,
      x.n = d.n ∧ x.crc = crcRun d.crc bs ∧ x.pos = d.pos + bs.length ∧ t.regs = u.regs ∧ t.vault = s.vault := by
  have hexec := exec_engineWriteIssue_of_turn he hk hu hd
  rw [State.turn, hcheck] at hexec
  exact ⟨_, hexec, _, State.mem_modRun_runs _ (State.mem_runs_of_turnRun hd) rfl, rfl, rfl, rfl, State.modRun_regs _ _ _ _ _,
    exec_vault_of_not_writesVault rfl hexec⟩

variable (hcheck : readyCheck d = none) {n : Nat} (hcell : u.readyCell e d 256 = some n)
include hcheck hcell

theorem exec_engineWriteIssue_of_moving (hn : n = 256)
    (hmoving : u.readyWrite e d = none ∨ ∃ w, u.readyWrite e d = some w ∧ d.moved + n < w.2.1.length) :
    exec (.engineWriteIssue e) s = .next (u.modRun (k / 4) (k % 4) d.n fun x => { x with moved := x.moved + n }) := by
  rw [exec_engineWriteIssue_of_turn he hk hu hd, State.turn_of_cell hd hcheck, State.turnPart_of_moving hcell hmoving]
  dsimp only
  rw [if_neg (by omega), hn, Nat.sub_self, State.turnParts_of_no_room]

variable {a : Nat} {bs : List Byte} {p : Bool} (hwrite : u.readyWrite e d = some (a, bs, p)) (hwhole : bs.length ≤ d.moved + n)
include hwrite hwhole

theorem exec_engineWriteIssue_of_failed {v : State} {st w : Nat}
    (hsend : u.engineSend e (k / 4) (destWrite d a bs p) d.wants none = some (v, .failed st w)) :
    exec (.engineWriteIssue e) s = .next (v.endDesc (k / 4) (k % 4) d.n st (errResult w 1)) := by
  rw [exec_engineWriteIssue_of_turn he hk hu hd, State.turn_of_cell hd hcheck,
    State.turnPart_of_failed hcell hwrite hwhole hsend]
  rfl

theorem engineWriteIssue_does_write {v : State} {w eg fid f : Nat} {l m : Bool}
    (hsend : u.engineSend e (k / 4) (destWrite d a bs p) d.wants none = some (v, .ok w eg fid f l m)) (hal : v.alive = true) :
    Does (.engineWriteIssue e) s fun t =>
      min (v.ctr (R.ENG_BYTES_WR e) + bs.length) counterMax ≤ t.ctr (R.ENG_BYTES_WR e) ∧
      (n = 256 → t.ctr (R.ENG_BYTES_WR e) = min (v.ctr (R.ENG_BYTES_WR e) + bs.length) counterMax) := by
  have hexec := exec_engineWriteIssue_of_turn he hk hu hd
  rw [State.turn_of_cell hd hcheck, State.turnPart_of_ok hcell hwrite hwhole hsend] at hexec
  have hcount := State.written_ctr hal e (k / 4) (k % 4) d bs p (d.destEntry a w eg fid f (l || m))
  dsimp only at hexec
  generalize v.written e (k / 4) (k % 4) d bs p (d.destEntry a w eg fid f (l || m)) = t at hexec hcount
  refine ⟨_, hexec, ?_, fun hn => ?_⟩
  · have hgrows : Grows t (if n = 0 then t else State.turnParts e (k / 4) (k % 4) d.n 255 (256 - n) t) :=
      (Grows.refl t).ite (.refl t) (State.turnParts_grows _ _ _ _ _ _ _)
    exact hgrows.le (Nat.min_le_right _ _) hcount.ge
  · rw [hn, Nat.sub_self, State.turnParts_of_no_room, ite_self, hcount]

end EngineWriteIssue

end Sys2Proof.Machine
end

section
/-! PROOFS. Completions delivered to the engines (R178, R290, R293). -/

namespace Sys2Proof.Machine

-- One after another: side by side these proofs wait for one another, each on a thread of its own.
set_option Elab.async false

/-! ### Records leave the counters of the engines -/

/-- Counters of the engines and of what lies beyond them read the same. -/
def KeepsEngineCtrs (s t : State) : Prop := ∀ a, 0x200000 ≤ a → t.ctr a = s.ctr a

theorem KeepsEngineCtrs.refl (s : State) : KeepsEngineCtrs s s := fun _ _ => rfl

section KeepsEngineCtrs
variable {s₀ s : State} (h : KeepsEngineCtrs s₀ s)
include h

theorem KeepsEngineCtrs.of {t : State} (hctrs : t.ctrs = s.ctrs := by rfl) : KeepsEngineCtrs s₀ t :=
  fun a ha => (State.ctr_eq_of_ctrs hctrs a).trans (h a ha)

theorem KeepsEngineCtrs.bump {a : Nat} (ha : a < 0x200000) : KeepsEngineCtrs s₀ (s.bump a) :=
  fun b hb => (s.ctr_bump_ne (by omega)).trans (h b hb)

theorem KeepsEngineCtrs.raise {page : Nat} (hpage : page < 0x1FF) (ev : Nat) : KeepsEngineCtrs s₀ (s.raise page ev) :=
  fun a ha => (s.raise_ctr_ne (by simp only [R.MAP_NOROUTE]; omega) (by simp only [R.BUF_FLUSH_P]; omega) (by omega)).trans
    (h a ha)

theorem KeepsEngineCtrs.foldl {α : Type} {f : State → α → State} (l : List α)
    (hf : ∀ u x, KeepsEngineCtrs s₀ u → KeepsEngineCtrs s₀ (f u x)) : KeepsEngineCtrs s₀ (l.foldl f s) :=
  List.foldlRecOn l f h fun u hu x _ => hf u x hu

theorem KeepsEngineCtrs.setLogSlot (slot v : Nat) : KeepsEngineCtrs s₀ (s.setLogSlot slot v) :=
  h.foldl _ fun u _ hu => hu.of (u.setTbl_ctrs _ _ _ _)

theorem KeepsEngineCtrs.logRecord (v level : Nat) : KeepsEngineCtrs s₀ (s.logRecord v level) := by
  unfold State.logRecord
  extract_lets slot s1 s2 s3 e s4 s5
  have h2 : KeepsEngineCtrs s₀ s2 := (h.setLogSlot slot v).of (s1.fset_ctrs _ _)
  have h3 : KeepsEngineCtrs s₀ s3 := by
    simp only [s3]
    split
    · exact h2.of
    · exact h2
  have h4 : KeepsEngineCtrs s₀ s4 := h3.of
  have h5 : KeepsEngineCtrs s₀ s5 := by
    simp only [s5]
    split
    · exact h4.of
    · exact h4
  exact (h5.bump (by decide)).raise (by decide) _

theorem KeepsEngineCtrs.deliverRecord (part : Nat) (bs : List Byte) : KeepsEngineCtrs s₀ (s.deliverRecord part bs) := by
  unfold State.deliverRecord
  split
  · exact h
  · split
    · exact h.of
    · extract_lets prod s1 s2
      have h2 : KeepsEngineCtrs s₀ (s2.ringOwed part) := by
        unfold State.ringOwed
        split <;> exact h.of
      exact (h2.bump (by decide)).raise (by decide) _

theorem KeepsEngineCtrs.swapRecords (a b : Nat) : KeepsEngineCtrs s₀ (s.swapRecords a b) := by
  unfold State.swapRecords
  extract_lets x y later first has ring fatal fatal' cause e s1
  have h1 : KeepsEngineCtrs s₀ s1 := h.of
  exact ((h1.setLogSlot a first).setLogSlot b later).of (State.fset_ctrs _ _ _)

theorem KeepsEngineCtrs.record (code level : Nat) (part : Option Nat) (port detail : Nat) :
    KeepsEngineCtrs s₀ (s.record code level part port detail) := by
  unfold State.record
  extract_lets seq c recent after slot e1 s1 v e2 s2 s3 s4 c' s5
  have h2 : KeepsEngineCtrs s₀ s2 := h.of
  have h3 : KeepsEngineCtrs s₀ s3 := h2.logRecord v level
  have h4 : KeepsEngineCtrs s₀ s4 := by
    simp only [s4]
    split
    · exact h3.foldl _ fun u p hu => hu.deliverRecord p _
    · split
      · exact h3.deliverRecord _ _
      · exact h3
  have h5 : KeepsEngineCtrs s₀ s5 := by
    simp only [s5]
    split
    · exact h4.foldl _ fun u j hu => hu.swapRecords _ _
    · exact KeepsEngineCtrs.bump h.of (by decide)
  split
  · exact h5.raise (by decide) _
  · exact h5

end KeepsEngineCtrs

/-! ### ENGINE_COMPLETION (R178, R290, R293) -/

theorem State.eng_of_engines {s t : State} (h : t.engines = s.engines) (e : Nat) : t.eng e = s.eng e := by
  rw [State.eng, h, State.eng]

theorem State.eng_of_rest {s t : State} (h : t.rest = s.rest) (e : Nat) : t.eng e = s.eng e :=
  State.eng_of_engines (congrArg (·.engines) h) e

theorem State.ring_of_rest {s t : State} (h : t.rest = s.rest) (i q : Nat) : t.ring i q = s.ring i q :=
  State.ring_of_rings (congrArg (·.rings) h) i q

/-- A completion delivered to the engine is taken from it. -/
def State.delivered (s : State) (e : Nat) (rest : List (Tlp × Delivery)) : State := s.modEng e fun x => { x with inbox := rest }

/-- Without an escalation threshold an error of a port is only remembered (R298). -/
theorem State.countError_of_no_threshold (s : State) (n : Nat) (h : s.fget R.ERR_ESC_PORT_THR = 0) :
    s.countError n = s.modPort n fun p =>
      { p with errors := s.now :: (s.port n).errors.filter fun t => decide (s.now < t + cyclesPerS) } := by
  unfold State.countError
  dsimp only
  rw [h]
  rfl

/-- So an error of a port that may be remembered changes nothing of the engines. -/
theorem State.remembered_keeps (s : State) (n : Nat) {b : Bool} (h : b = true → s.fget R.ERR_ESC_PORT_THR = 0) :
    (if b then s.countError n else s).engTags = s.engTags ∧ (if b then s.countError n else s).engines = s.engines ∧
    (if b then s.countError n else s).ctrs = s.ctrs ∧ (if b then s.countError n else s).rings = s.rings := by
  cases b with
  | false => exact ⟨rfl, rfl, rfl, rfl⟩
  | true =>
    rw [if_pos rfl, s.countError_of_no_threshold n (h rfl)]
    exact ⟨rfl, rfl, rfl, rfl⟩

theorem State.mem_modSource_runs {s : State} {i q n : Nat} (f : DescRun → DescRun) {d : DescRun}
    (hd : d ∈ (s.ring i q).runs) (hn : d.n = n) (hst : d.status = none) : f d ∈ ((s.modSource i q n f).ring i q).runs := by
  rw [State.modSource, State.ring_modRing_same]
  exact List.mem_map.mpr ⟨d, hd, if_pos ⟨hn, hst⟩⟩


/-- Are the bytes of a completion hurt: its furrow word did not verify, or the reorder buffer met an error (R178, R293)? -/
def rbHurt (c : Tlp) (dv : Delivery) (rb : Bool) : Bool := (dv.bad || rb) && !c.data.isEmpty

/-- Hurt bytes are recorded. -/
def State.rbNoted (s : State) (e : Nat) (x : EngTag) (c : Tlp) (dv : Delivery) (rb : Bool) : State :=
  if rbHurt c dv rb then
    s.record eRB_UE lvFRAME (some (s.instPart x.inst)) (72 + e)
      (x.addr.toNat + x.window * 2 ^ 64 + c.reqId.toNat * 2 ^ 80 + c.tag.toNat * 2 ^ 96 + dv.ingress * 2 ^ 112
        + (72 + e) * 2 ^ 120 + dv.carried.toNat * 2 ^ 128 + dv.got.toNat * 2 ^ 160 + 6 * 2 ^ 192 + c.data.length * 2 ^ 200)
  else s

section RbNoted
variable (s : State) (e : Nat) (x : EngTag) (c : Tlp) (dv : Delivery) (rb : Bool)

theorem State.rbNoted_rest : (s.rbNoted e x c dv rb).rest = s.rest := by
  unfold State.rbNoted
  split
  · exact s.record_rest _ _ _ _ _
  · rfl

theorem State.rbNoted_reg {a : Nat} (ha : statusReg a = false) : (s.rbNoted e x c dv rb).reg a = s.reg a := by
  unfold State.rbNoted
  split
  · exact s.record_reg _ _ _ _ _ ha
  · rfl

theorem State.rbNoted_keepsEngineCtrs : KeepsEngineCtrs s (s.rbNoted e x c dv rb) := by
  unfold State.rbNoted
  split
  · exact (KeepsEngineCtrs.refl s).record _ _ _ _ _
  · exact .refl s

end RbNoted

/-- The bytes of a completion of a source read, as its descriptor holds them. -/
def EngTag.takes (x : EngTag) (off : Nat) (c : Tlp) (poison : Bool) (d : DescRun) : DescRun :=
  { d with segs := d.segs ++ [{ off := off + x.got, data := c.data, poison := poison }] }

/-- The last completion of a source read retires its tag; its bytes are counted and held. -/
def State.sourceTaken (s : State) (x : EngTag) (n off : Nat) (c : Tlp) (poison : Bool) : State :=
  ((s.retireTag x.id).bumpBy (R.ENG_BYTES_RD x.engine) c.data.length).modSource x.inst x.ring n (x.takes off c poison)

section SourceTaken
variable (s : State) {x : EngTag} {n off : Nat} {c : Tlp} (poison : Bool)

theorem State.takeCompletion_of_source (hwhy : x.why = .source n off) (hkept : x.discard = false) (hsc : c.status = .sc)
    (hlast : c.last = true) : s.takeCompletion x c poison = s.sourceTaken x n off c poison := by
  rw [State.takeCompletion, hwhy, hkept, hsc, hlast]
  rfl

theorem State.modSource_regs (i q n : Nat) (f : DescRun → DescRun) : (s.modSource i q n f).regs = s.regs := rfl

theorem State.modSource_ctrs (i q n : Nat) (f : DescRun → DescRun) : (s.modSource i q n f).ctrs = s.ctrs := rfl

theorem State.modSource_engTags (i q n : Nat) (f : DescRun → DescRun) : (s.modSource i q n f).engTags = s.engTags := rfl

theorem State.modSource_eng (i q n : Nat) (f : DescRun → DescRun) (e : Nat) : (s.modSource i q n f).eng e = s.eng e := rfl

theorem State.sourceTaken_engTags :
    (s.sourceTaken x n off c poison).engTags = s.engTags.filter fun y => y.id != x.id := by
  rw [State.sourceTaken, State.modSource_engTags]
  exact congrArg (·.engTags) (State.bumpBy_rest _ _ _)

theorem State.sourceTaken_eng (e : Nat) : (s.sourceTaken x n off c poison).eng e = s.eng e := by
  rw [State.sourceTaken, State.modSource_eng]
  exact State.eng_of_rest (State.bumpBy_rest _ _ _) e

theorem State.sourceTaken_regs : (s.sourceTaken x n off c poison).regs = s.regs :=
  (State.modSource_regs _ _ _ _ _).trans (State.bumpBy_regs _ _ _)

theorem State.sourceTaken_ctr (hal : s.alive = true) : (s.sourceTaken x n off c poison).ctr (R.ENG_BYTES_RD x.engine) =
    min (s.ctr (R.ENG_BYTES_RD x.engine) + c.data.length) counterMax := by
  rw [State.sourceTaken, State.ctr_eq_of_ctrs (State.modSource_ctrs _ _ _ _ _)]
  exact State.ctr_bumpBy_same (s := s.retireTag x.id) hal _ _

theorem State.mem_sourceTaken_runs {d : DescRun} (hd : d ∈ (s.ring x.inst x.ring).runs) (hn : d.n = n)
    (hst : d.status = none) :
    x.takes off c poison d ∈ ((s.sourceTaken x n off c poison).ring x.inst x.ring).runs := by
  refine State.mem_modSource_runs _ ?_ hn hst
  rw [State.ring_of_rest (State.bumpBy_rest _ _ _), State.retireTag_ring]
  exact hd

end SourceTaken

section EngineCompletion
variable {s : State} {e : Nat} (rb : Bool) (he : e < 16) {c : Tlp} {dv : Delivery} {rest : List (Tlp × Delivery)}
  (hinbox : (s.eng e).inbox = (c, dv) :: rest)
include he hinbox

theorem exec_engineCompletion_of_late
    (hnone : (s.engTags.find? fun t => t.engine == e && t.reqId == c.reqId && t.tag == c.tag) = none) :
    exec (.engineCompletion e rb) s = .next ((s.delivered e rest).bump (R.ENG_LATE_CPL e)) := by
  change execEngineCompletion e rb s = _
  unfold execEngineCompletion
  rw [Nat.mod_eq_of_lt he]
  dsimp only
  rw [hinbox]
  dsimp only
  change (match s.engTags.find? fun t => t.engine == e && t.reqId == c.reqId && t.tag == c.tag with
    | none => Host.Outcome.next ((s.delivered e rest).bump (R.ENG_LATE_CPL e))
    | some x => _) = _
  rw [hnone]

theorem exec_engineCompletion_of_tag {x : EngTag}
    (hx : (s.engTags.find? fun t => t.engine == e && t.reqId == c.reqId && t.tag == c.tag) = some x) :
    exec (.engineCompletion e rb) s =
      .next (if dv.bad then
        (((s.delivered e rest).rbNoted e x c dv rb).takeCompletion x c (c.poison || rbHurt c dv rb)).countError (72 + e)
      else ((s.delivered e rest).rbNoted e x c dv rb).takeCompletion x c (c.poison || rbHurt c dv rb)) := by
  change execEngineCompletion e rb s = _
  unfold execEngineCompletion
  rw [Nat.mod_eq_of_lt he]
  dsimp only
  rw [hinbox]
  dsimp only
  change (match s.engTags.find? fun t => t.engine == e && t.reqId == c.reqId && t.tag == c.tag with
    | none => Host.Outcome.next ((s.delivered e rest).bump (R.ENG_LATE_CPL e))
    | some x => .next (if dv.bad then
        (((s.delivered e rest).rbNoted e x c dv rb).takeCompletion x c (c.poison || rbHurt c dv rb)).countError (72 + e)
      else ((s.delivered e rest).rbNoted e x c dv rb).takeCompletion x c (c.poison || rbHurt c dv rb))) = _
  rw [hx]

theorem engineCompletion_does_drop (hal : s.alive = true)
    (hnone : (s.engTags.find? fun t => t.engine == e && t.reqId == c.reqId && t.tag == c.tag) = none) :
    Does (.engineCompletion e rb) s fun t => Counted s t (R.ENG_LATE_CPL e) ∧ (t.eng e).inbox = rest ∧ t.rings = s.rings ∧
      t.regs = s.regs ∧ t.vault = s.vault := by
  have hexec := exec_engineCompletion_of_late rb he hinbox hnone
  have hrest := (s.delivered e rest).bump_rest (R.ENG_LATE_CPL e)
  refine ⟨_, hexec, State.ctr_bump_same (s := s.delivered e rest) hal _, ?_, congrArg (·.rings) hrest, State.bump_regs _ _,
    exec_vault_of_not_writesVault rfl hexec⟩
  rw [State.eng_of_rest hrest, State.delivered, State.eng_modEng_same]

/-- What a completion taken leaves of tags, bytes counted and runs, a remembered error of the port apart. -/
theorem engineCompletion_does_take (hal : s.alive = true) (hthr : dv.bad = true → s.fget R.ERR_ESC_PORT_THR = 0)
    {x : EngTag} (hx : (s.engTags.find? fun t => t.engine == e && t.reqId == c.reqId && t.tag == c.tag) = some x)
    {n off : Nat} (hwhy : x.why = .source n off) (hkept : x.discard = false) (hsc : c.status = .sc) (hlast : c.last = true) :
    Does (.engineCompletion e rb) s fun t =>
      t.engTags = s.engTags.filter (fun y => y.id != x.id) ∧ (t.eng e).inbox = rest ∧
      t.ctr (R.ENG_BYTES_RD x.engine) = min (s.ctr (R.ENG_BYTES_RD x.engine) + c.data.length) counterMax ∧
      (∀ d ∈ (s.ring x.inst x.ring).runs, d.n = n → d.status = none →
        x.takes off c (c.poison || rbHurt c dv rb) d ∈ (t.ring x.inst x.ring).runs) ∧ t.vault = s.vault := by
  have hexec := exec_engineCompletion_of_tag rb he hinbox hx
  rw [State.takeCompletion_of_source _ _ hwhy hkept hsc hlast] at hexec
  have hinbox' : ((s.delivered e rest).eng e).inbox = rest := by rw [State.delivered, State.eng_modEng_same]
  have hrest := (s.delivered e rest).rbNoted_rest e x c dv rb
  have hreg (a : Nat) (ha : statusReg a = false) := (s.delivered e rest).rbNoted_reg e x c dv rb ha
  have hctr := (s.delivered e rest).rbNoted_keepsEngineCtrs e x c dv rb
  generalize (s.delivered e rest).rbNoted e x c dv rb = u at hexec hrest hreg hctr
  have halu : u.alive = true := (State.alive_eq_of_reg (hreg R.DEV_MODE rfl)).trans hal
  have htags := u.sourceTaken_engTags (x := x) (n := n) (off := off) (c := c) (c.poison || rbHurt c dv rb)
  have heng := u.sourceTaken_eng (x := x) (n := n) (off := off) (c := c) (c.poison || rbHurt c dv rb) e
  have hregs := u.sourceTaken_regs (x := x) (n := n) (off := off) (c := c) (c.poison || rbHurt c dv rb)
  have hbytes := u.sourceTaken_ctr (x := x) (n := n) (off := off) (c := c) (c.poison || rbHurt c dv rb) halu
  have hruns (d : DescRun) := u.mem_sourceTaken_runs (x := x) (n := n) (off := off) (c := c) (c.poison || rbHurt c dv rb) (d := d)
  generalize u.sourceTaken x n off c (c.poison || rbHurt c dv rb) = t at hexec htags heng hregs hbytes hruns
  have hthr' : dv.bad = true → t.fget R.ERR_ESC_PORT_THR = 0 := fun hbad =>
    ((State.fget_of_reg (State.reg_eq_of_regs hregs _)).trans (State.fget_of_reg (hreg _ rfl))).trans (hthr hbad)
  obtain ⟨htags', hengines, hctrs, hrings⟩ := t.remembered_keeps (72 + e) hthr'
  generalize (if dv.bad then t.countError (72 + e) else t) = v at hexec htags' hengines hctrs hrings
  refine ⟨v, hexec, ?_, ?_, ?_, fun d hd hn hst => ?_, exec_vault_of_not_writesVault rfl hexec⟩
  · rw [htags', htags, show u.engTags = s.engTags from congrArg (·.engTags) hrest]
  · rw [State.eng_of_engines hengines, heng, State.eng_of_rest hrest, hinbox']
  · rw [State.ctr_eq_of_ctrs hctrs, hbytes, hctr _ (by simp only [R.ENG_BYTES_RD]; omega)]
    rfl
  · rw [State.ring_of_rings hrings]
    refine hruns d ?_ hn hst
    rw [State.ring_of_rest hrest]
    exact hd

end EngineCompletion

/-- Settles O33: the read that a ring makes, the turn of a context and its write, and what becomes of a completion; no counter
falls while the rest of a cell is written. -/
theorem engineWork : Obligations.EngineWork := by
  unfold Obligations.EngineWork
  refine ⟨fun s e k he => ⟨?_, fun hk u hu d hd => ⟨fun bs p => engineWriteIssue_does_check he hk hu hd, ?_⟩⟩, ?_⟩
  · rintro hstate hk y hy n raw off rfl hroom u x hread w eg fid f l m rfl
    rw [exec_sourceReadIssue_of_read he hstate hk hy]
    exact congrArg _ (State.issueRead_of_ok rfl (by rwa [State.modEng_rbBytes]) hread)
  · intro hcheck n hcell
    refine ⟨exec_engineWriteIssue_of_moving he hk hu hd hcheck hcell, fun a bs p hwrite hwhole v x hsend => ⟨?_, ?_⟩⟩
    · rintro w eg fid f l m rfl hal
      exact engineWriteIssue_does_write he hk hu hd hcheck hcell hwrite hwhole hsend hal
    · rintro st w rfl
      exact exec_engineWriteIssue_of_failed he hk hu hd hcheck hcell hwrite hwhole hsend
  · intro s e rb he hal c dv rest hinbox hthr
    refine ⟨engineCompletion_does_drop rb he hinbox hal, fun x hx n off hwhy hkept hsc hlast => ?_⟩
    obtain ⟨t, hexec, htags, hrest, hbytes, hruns, hvault⟩ :=
      engineCompletion_does_take rb he hinbox hal hthr hx hwhy hkept hsc hlast
    exact ⟨t, hexec, htags, hrest, hbytes, fun d hd hn hst => ⟨_, hruns d hd hn hst, hn, rfl⟩, hvault⟩

end Sys2Proof.Machine
end

section
/-! PROOFS. CONFIG_READ of the engine bridge while the ID route of its bus is bad in both copies (R103, R293, R294). -/

namespace Sys2Proof.Machine

namespace BadRouteToEngineBridge

/-- Port 5 is the upstream port of partition 3 in COMPOSED mode. Its upstream bridge has internal bus 4, and the ID route
of that bus is bad in both copies. -/
def state : State :=
  let s := State.reset.setMode mCOMPOSED
  let s := (s.fset (R.PEP_PORT_CTL_ROLE 5) 1).fset (R.PEP_PORT_CTL_PART 5) 3
  let s := (s.putCfg (Fn.up 3).num cBuses 15 8 4).putCfg (Fn.up 3).num cBuses 23 16 4
  { s with
    sw := { s.sw with ports := [(5, { up := true })] }
    err := { s.err with bad := [{ table := 4, index := 3 * 256 + 4, copy0 := true, copy1 := true }] } }

/-- A Type 1 read of the engine bridge's first word. -/
def read : Tlp := { kind := .cfgRead, bus := 4, devfn := 249, len := 4, byteEn := 15 }

/-- The state after the read. -/
def refused : State := state.frameIn 5 read true false none

theorem exec_eq : exec (.configRead 5 read false) state = .next refused := by
  change execConfigRead 5 read false state = _
  rw [execConfigRead, if_pos (show read.kind = .cfgRead from rfl)]
  exact congrArg (fun p => Host.Outcome.next (state.frameIn p read true false none)) (Nat.mod_eq_of_lt (by decide))

theorem target_eq : state.cfgTarget 3 read = .fn (.engBridge 3) := by decide +kernel

/-- The read enters with room for its completion. -/
theorem enters : (state.entry 5 read true).2.reserveQueue 5 = false ∧
    1 ≤ (state.entry 5 read true).2.poolFree .completion := by decide +kernel

/-- The only frame towards the host is the completion that refuses the read. -/
theorem frames_after : ∀ f ∈ refused.sw.frames, f.tlp.status = .ur := by decide +kernel

end BadRouteToEngineBridge

open BadRouteToEngineBridge in
/-- Refutes O23: in `BadRouteToEngineBridge.state` the read of the engine bridge meets the bad ID route of its bus, an error
of level DEVICE, and is answered with Unsupported Request in place of the word that the bridge shows. -/
theorem not_configurationAndTags : ¬ Obligations.ConfigurationAndTags := by
  intro h
  obtain ⟨hcfg, -, -⟩ := h
  obtain ⟨hqueue, hroom⟩ := enters
  obtain ⟨hread, -⟩ := hcfg state 5 read (by omega) (by decide +kernel) (by decide +kernel) (by decide +kernel)
    (by simp [state, State.setMode]; decide) (by decide +kernel) 3 (by decide +kernel) (by decide +kernel) rfl rfl
    _ _ rfl hqueue hroom _ target_eq _ rfl
  obtain ⟨t, ht, f, hf, -, -, -, -, -, hstatus, -⟩ := hread rfl
  obtain rfl : refused = t := Host.Outcome.next.inj (exec_eq.symm.trans ht)
  exact absurd ((frames_after f hf).symm.trans hstatus) (by decide)

end Sys2Proof.Machine
end

section
/-! PROOFS. The status and control registers of an instance's page (R195 to R203): what its updates change and leave. -/

namespace Sys2Proof.Machine

set_option Elab.async false

/-! ### Registers that stay -/

theorem KeepsRegs.refl (s : State) (except : List Nat) : KeepsRegs s s except := fun _ _ _ => rfl

theorem KeepsRegs.of_regs {s t : State} (h : t.regs = s.regs) (except : List Nat) : KeepsRegs s t except :=
  fun a _ _ => State.reg_eq_of_regs h a

theorem State.fset_keepsRegs (s : State) {f : Fld} {except : List Nat} (h : f.addr ∈ except) (v : Nat) :
    KeepsRegs s (s.fset f v) except := fun _ _ hne => State.reg_fset_ne fun ha => hne (ha ▸ h)

theorem State.raise_keepsRegs (s : State) (page ev : Nat) (except : List Nat) : KeepsRegs s (s.raise page ev) except :=
  (s.raise_sameRegs page ev).keepsRegs except

theorem statusReg_vimInstSts (i : Nat) : statusReg (R.VIM_INST_STS i) = false := by
  simp only [statusReg, R.VIM_INST_STS, Bool.or_eq_false_iff, beq_eq_false_iff_ne]
  omega

theorem statusReg_vimInstCtl (i : Nat) : statusReg (R.VIM_INST_CTL i) = false := by
  simp only [statusReg, R.VIM_INST_CTL, Bool.or_eq_false_iff, beq_eq_false_iff_ne]
  omega

theorem KeepsRegs.alive {s t : State} {except : List Nat} (h : KeepsRegs s t except) (hmode : R.DEV_MODE ∉ except) :
    t.alive = s.alive := State.alive_eq_of_reg (h _ rfl hmode)

theorem devMode_ne_vim {a i : Nat} (h : a = R.VIM_INST_STS i ∨ a = R.VIM_INST_CTL i) : R.DEV_MODE ≠ a := by
  simp only [R.DEV_MODE, R.VIM_INST_STS, R.VIM_INST_CTL] at *
  omega

/-! ### The page of an instance -/

/-- Fields of VIM_INST_STS and VIM_INST_CTL of an instance. -/
structure InstPage where
  state : Nat
  idle : Nat
  hg : Nat
  d3hot : Nat
  result : Nat
  cause : Nat
  abandoned : Nat
  hgOpen : Nat
  autoOpen : Nat

/-- What the two registers of an instance show. -/
def State.instPage (s : State) (i : Nat) : InstPage where
  state := s.instState i
  idle := s.fget (R.VIM_INST_STS_IDLE i)
  hg := s.fget (R.VIM_INST_STS_HG i)
  d3hot := s.fget (R.VIM_INST_STS_D3HOT i)
  result := s.fget (R.VIM_INST_STS_CMD_RESULT i)
  cause := s.fget (R.VIM_INST_STS_CAUSE i)
  abandoned := s.fget (R.VIM_INST_STS_ABANDONED i)
  hgOpen := s.fget (R.VIM_INST_CTL_HG_OPEN i)
  autoOpen := s.fget (R.VIM_INST_CTL_AUTO_OPEN i)

theorem State.instPage_of_reg {s t : State} {i : Nat} (hsts : t.reg (R.VIM_INST_STS i) = s.reg (R.VIM_INST_STS i))
    (hctl : t.reg (R.VIM_INST_CTL i) = s.reg (R.VIM_INST_CTL i)) : t.instPage i = s.instPage i := by
  have hs {f : Fld} (hf : f.addr = R.VIM_INST_STS i) : t.fget f = s.fget f := State.fget_of_reg (by rw [hf, hsts])
  have hc {f : Fld} (hf : f.addr = R.VIM_INST_CTL i) : t.fget f = s.fget f := State.fget_of_reg (by rw [hf, hctl])
  simp only [State.instPage, State.instState, InstPage.mk.injEq]
  exact ⟨hs rfl, hs rfl, hs rfl, hs rfl, hs rfl, hs rfl, hs rfl, hc rfl, hc rfl⟩

theorem State.instPage_of_regs {s t : State} (h : t.regs = s.regs) (i : Nat) : t.instPage i = s.instPage i :=
  State.instPage_of_reg (State.reg_eq_of_regs h _) (State.reg_eq_of_regs h _)

theorem KeepsRegs.instPage {s t : State} {except : List Nat} (h : KeepsRegs s t except) {i : Nat}
    (hsts : R.VIM_INST_STS i ∉ except) (hctl : R.VIM_INST_CTL i ∉ except) : t.instPage i = s.instPage i :=
  State.instPage_of_reg (h _ (statusReg_vimInstSts i) hsts) (h _ (statusReg_vimInstCtl i) hctl)

/-! ### One field written -/

section Fields
variable (s : State) (i v : Nat)

/-- A field of the instance's registers after a write of another one that shares no bit with it. -/
theorem State.fget_fset_apart {f g : Fld} (hf : f.lo ≤ f.hi ∧ f.hi < 32) (hg : g.lo ≤ g.hi ∧ g.hi < 32)
    (h : g.addr = f.addr → g.hi < f.lo ∨ f.hi < g.lo) : (s.fset f v).fget g = s.fget g := by
  by_cases ha : g.addr = f.addr
  · exact s.fget_fset_ne f g v hf.1 hg.1 hg.2 (h ha)
  · exact s.fget_fset_reg f g v ha

@[simp] theorem State.instPage_setInstState : (s.setInstState i v).instPage i = { s.instPage i with state := v % 8 } := by
  simp [State.instPage, State.setInstState, State.instState, State.fget_fset_apart, State.fget_fset_same]

@[simp] theorem State.instPage_fset_idle :
    (s.fset (R.VIM_INST_STS_IDLE i) v).instPage i = { s.instPage i with idle := v % 2 } := by
  simp [State.instPage, State.instState, State.fget_fset_apart, State.fget_fset_same]

@[simp] theorem State.instPage_fset_hg :
    (s.fset (R.VIM_INST_STS_HG i) v).instPage i = { s.instPage i with hg := v % 2 } := by
  simp [State.instPage, State.instState, State.fget_fset_apart, State.fget_fset_same]

@[simp] theorem State.instPage_fset_d3hot :
    (s.fset (R.VIM_INST_STS_D3HOT i) v).instPage i = { s.instPage i with d3hot := v % 2 } := by
  simp [State.instPage, State.instState, State.fget_fset_apart, State.fget_fset_same]

@[simp] theorem State.instPage_fset_result :
    (s.fset (R.VIM_INST_STS_CMD_RESULT i) v).instPage i = { s.instPage i with result := v % 4 } := by
  simp [State.instPage, State.instState, State.fget_fset_apart, State.fget_fset_same]

@[simp] theorem State.instPage_fset_cause :
    (s.fset (R.VIM_INST_STS_CAUSE i) v).instPage i = { s.instPage i with cause := v % 16 } := by
  simp [State.instPage, State.instState, State.fget_fset_apart, State.fget_fset_same]

@[simp] theorem State.instPage_fset_abandoned :
    (s.fset (R.VIM_INST_STS_ABANDONED i) v).instPage i = { s.instPage i with abandoned := v % 65536 } := by
  simp [State.instPage, State.instState, State.fget_fset_apart, State.fget_fset_same]

@[simp] theorem State.instPage_fset_hgOpen :
    (s.fset (R.VIM_INST_CTL_HG_OPEN i) v).instPage i = { s.instPage i with hgOpen := v % 2 } := by
  simp [State.instPage, State.instState, State.fget_fset_apart, State.fget_fset_same]

end Fields

/-! ### What leaves the page alone -/

section Apart
variable (s : State) (i : Nat)

@[simp] theorem State.instPage_raise (page ev : Nat) : (s.raise page ev).instPage i = s.instPage i :=
  (s.raise_keepsRegs page ev []).instPage (by simp) (by simp)

@[simp] theorem State.instPage_modInst (j : Nat) (f : InstSt → InstSt) : (s.modInst j f).instPage i = s.instPage i :=
  State.instPage_of_regs rfl i

@[simp] theorem State.instPage_setRing (j q : Nat) (r : RingSt) : (s.setRing j q r).instPage i = s.instPage i :=
  State.instPage_of_regs rfl i

@[simp] theorem State.instPage_modRing (j q : Nat) (f : RingSt → RingSt) : (s.modRing j q f).instPage i = s.instPage i :=
  State.instPage_of_regs rfl i

@[simp] theorem State.instPage_modEngTags (f : EngTag → EngTag) : (s.modEngTags f).instPage i = s.instPage i :=
  State.instPage_of_regs rfl i

end Apart

/-! ### The instance beside its page -/

@[simp] theorem State.inst_modInst_same (s : State) (i : Nat) (f : InstSt → InstSt) : (s.modInst i f).inst i = f (s.inst i) :=
  storeGet_storePut_same _ _ _ _

theorem State.inst_modInst_ne (s : State) {i j : Nat} (h : j ≠ i) (f : InstSt → InstSt) : (s.modInst i f).inst j = s.inst j :=
  storeGet_storePut_ne _ h

theorem State.inst_of_insts {s t : State} (h : t.insts = s.insts) (i : Nat) : t.inst i = s.inst i := by
  rw [State.inst, h, State.inst]

theorem State.inst_of_rest {s t : State} (h : t.rest = s.rest) (i : Nat) : t.inst i = s.inst i :=
  State.inst_of_insts (congrArg (·.insts) h) i

@[simp] theorem State.inst_fset (s : State) (f : Fld) (v i : Nat) : (s.fset f v).inst i = s.inst i := rfl

@[simp] theorem State.inst_setInstState (s : State) (j st i : Nat) : (s.setInstState j st).inst i = s.inst i := rfl

@[simp] theorem State.inst_raise (s : State) (page ev i : Nat) : (s.raise page ev).inst i = s.inst i :=
  State.inst_of_rest (s.raise_rest page ev) i

theorem State.modInst_keepsRegs (s : State) (i : Nat) (f : InstSt → InstSt) (except : List Nat) :
    KeepsRegs s (s.modInst i f) except := .of_regs rfl except

/-! ### A command that begins and one that ends (R196) -/

section Commands
variable (s : State) (i : Nat)

theorem vimInstSts_mem : R.VIM_INST_STS i ∈ [R.VIM_INST_STS i] := List.mem_singleton_self _

@[simp] theorem State.instPage_cmdBusy (cmd : Nat) :
    (s.cmdBusy i cmd).instPage i = { s.instPage i with result := 1, cause := 0 } := by
  simp [State.cmdBusy]

@[simp] theorem State.inst_cmdBusy (cmd : Nat) : (s.cmdBusy i cmd).inst i = { s.inst i with cmd := cmd, cmdStart := s.now } := by
  simp [State.cmdBusy]

theorem State.cmdBusy_keepsRegs (cmd : Nat) : KeepsRegs s (s.cmdBusy i cmd) [R.VIM_INST_STS i] :=
  ((s.fset_keepsRegs (vimInstSts_mem i) _).trans (State.fset_keepsRegs _ (vimInstSts_mem i) _)).trans
    (State.modInst_keepsRegs _ _ _ _)

theorem State.setInstState_keepsRegs (st : Nat) : KeepsRegs s (s.setInstState i st) [R.VIM_INST_STS i] :=
  s.fset_keepsRegs (vimInstSts_mem i) st

@[simp] theorem State.instPage_cmdRefused (cause : Nat) :
    (s.cmdRefused i cause).instPage i = { s.instPage i with result := 3, cause := cause % 16 } := by
  simp [State.cmdRefused]

@[simp] theorem State.inst_cmdRefused (cause j : Nat) : (s.cmdRefused i cause).inst j = s.inst j := by
  simp [State.cmdRefused]

theorem State.cmdRefused_keepsRegs (cause : Nat) : KeepsRegs s (s.cmdRefused i cause) [R.VIM_INST_STS i] :=
  ((s.fset_keepsRegs (vimInstSts_mem i) _).trans (State.fset_keepsRegs _ (vimInstSts_mem i) _)).trans
    (State.raise_keepsRegs _ _ _ _)

@[simp] theorem State.instPage_cmdDone :
    (s.cmdDone i).instPage i = { s.instPage i with result := 2, cause := 0 } := by
  simp [State.cmdDone]

@[simp] theorem State.inst_cmdDone : (s.cmdDone i).inst i = { s.inst i with cmd := 0 } := by
  simp [State.cmdDone]

theorem State.cmdDone_keepsRegs : KeepsRegs s (s.cmdDone i) [R.VIM_INST_STS i] :=
  (((s.fset_keepsRegs (vimInstSts_mem i) _).trans (State.fset_keepsRegs _ (vimInstSts_mem i) _)).trans
    (State.modInst_keepsRegs _ _ _ _)).trans (State.raise_keepsRegs _ _ _ _)

@[simp] theorem State.instPage_cmdFailed (cause : Nat) :
    (s.cmdFailed i cause).instPage i = { s.instPage i with result := 3, cause := cause % 16 } := by
  simp [State.cmdFailed]

@[simp] theorem State.inst_cmdFailed (cause : Nat) : (s.cmdFailed i cause).inst i = { s.inst i with cmd := 0 } := by
  simp [State.cmdFailed]

theorem State.cmdFailed_keepsRegs (cause : Nat) : KeepsRegs s (s.cmdFailed i cause) [R.VIM_INST_STS i] :=
  (s.modInst_keepsRegs i _ _).trans (State.cmdRefused_keepsRegs _ i cause)

variable {s}

/-- VIM_INST_STS is none of the registers that say whether the device runs. -/
theorem KeepsRegs.alive_of_sts {t : State} (h : KeepsRegs s t [R.VIM_INST_STS i]) (hal : s.alive = true) : t.alive = true :=
  (h.alive (by rw [List.mem_singleton]; exact devMode_ne_vim (.inl rfl))).trans hal

theorem State.cmdRefused_event (hal : s.alive = true) (cause : Nat) : (s.cmdRefused i cause).event (vimPage i) 1 = true :=
  State.raise_event_same (((s.fset_keepsRegs (vimInstSts_mem i) _).trans
    (State.fset_keepsRegs _ (vimInstSts_mem i) _)).alive_of_sts i hal) (by decide)

theorem State.cmdDone_event (hal : s.alive = true) : (s.cmdDone i).event (vimPage i) 0 = true :=
  State.raise_event_same ((((s.fset_keepsRegs (vimInstSts_mem i) _).trans
    (State.fset_keepsRegs _ (vimInstSts_mem i) _)).trans (State.modInst_keepsRegs _ _ _ _)).alive_of_sts i hal) (by decide)

theorem State.cmdFailed_event (hal : s.alive = true) (cause : Nat) : (s.cmdFailed i cause).event (vimPage i) 1 = true :=
  State.cmdRefused_event i (s := s.modInst i fun x => { x with cmd := 0 }) hal cause

end Commands

/-! ### The headgate (R195, R197) -/

/-- Does the headgate stand open: in ACTIVE or RECOVERY with HG_OPEN set, outside DRAIN and with no FREEZE running? -/
def State.hgStands (s : State) (i : Nat) : Bool :=
  (s.instState i == iACTIVE || s.instState i == iRECOVERY) && s.flag (R.VIM_INST_CTL_HG_OPEN i) && s.mode != mDRAIN &&
    (s.inst i).cmd != 3

section Headgate
variable (s : State) (i : Nat)

theorem State.refreshHg_eq : s.refreshHg i = if s.hgStands i then
    (s.fset (R.VIM_INST_STS_HG i) 1).fset (R.VIM_INST_STS_IDLE i) 0 else s.fset (R.VIM_INST_STS_HG i) 0 := by
  unfold State.refreshHg State.hgStands
  dsimp only
  split
  · next h => rw [h]; rfl
  · next h => rw [Bool.not_eq_true] at h; rw [h]; rfl

@[simp] theorem State.instPage_refreshHg : (s.refreshHg i).instPage i =
    { s.instPage i with hg := ofBool (s.hgStands i), idle := if s.hgStands i then 0 else (s.instPage i).idle } := by
  rw [State.refreshHg_eq]
  cases s.hgStands i <;> simp [ofBool]

@[simp] theorem State.inst_refreshHg (j : Nat) : (s.refreshHg i).inst j = s.inst j :=
  State.inst_of_rest (s.refreshHg_rest i) j

theorem State.refreshHg_keepsRegs : KeepsRegs s (s.refreshHg i) [R.VIM_INST_STS i] := by
  rw [State.refreshHg_eq]
  split
  · exact (s.fset_keepsRegs (vimInstSts_mem i) _).trans (State.fset_keepsRegs _ (vimInstSts_mem i) _)
  · exact s.fset_keepsRegs (vimInstSts_mem i) _

end Headgate

end Sys2Proof.Machine
end

section
/-! PROOFS. Commands to virtual instances: refused, or begun or carried out (R186, R196, R203). -/

namespace Sys2Proof.Machine

set_option Elab.async false

/-! ### A fold that takes each number once -/

/-- A fold over `0 … n - 1` whose turn `q` takes `P q` to `Q q`, while the other turns leave both alone. -/
theorem foldl_upTo_turns {σ : Type} {P Q : Nat → σ → Prop} {f : σ → Nat → σ} {n : Nat} {a : σ}
    (hown : ∀ u q, q < n → P q u → Q q (f u q)) (hP : ∀ u p q, p ≠ q → P p u → P q u → P q (f u p))
    (hQ : ∀ u p q, p ≠ q → P p u → Q q u → Q q (f u p)) (h : ∀ q, q < n → P q a) :
    ∀ q, q < n → Q q ((upTo n).foldl f a) := by
  have hall : ∀ m, m ≤ n → (∀ q, q < m → Q q ((upTo m).foldl f a)) ∧ ∀ q, m ≤ q → q < n → P q ((upTo m).foldl f a) := by
    intro m
    induction m with
    | zero => exact fun _ => ⟨fun _ hq => absurd hq (Nat.not_lt_zero _), fun q _ hq => h q hq⟩
    | succ m ih =>
      intro hm
      obtain ⟨hdone, hleft⟩ := ih (Nat.le_of_succ_le hm)
      simp only [upTo] at hdone hleft ⊢
      rw [List.range_succ, List.foldl_append, List.foldl_cons, List.foldl_nil]
      refine ⟨fun q hq => ?_, fun q hq hqn => hP _ _ _ (by omega) (hleft m le_rfl hm) (hleft q (by omega) hqn)⟩
      rcases Nat.lt_succ_iff_lt_or_eq.mp hq with hlt | rfl
      · exact hQ _ _ _ (by omega) (hleft m le_rfl hm) (hdone q hlt)
      · exact hown _ _ hm (hleft q le_rfl hm)
  exact (hall n le_rfl).1

/-- A fold over the rings whose turn `q` changes ring `q` of instance `i` alone, by `g`. -/
theorem State.foldl_rings {f : State → Nat → State} {g : RingSt → RingSt} {i : Nat} (s : State)
    (hsame : ∀ u q, (f u q).ring i q = g (u.ring i q)) (hne : ∀ u p q, p ≠ q → (f u p).ring i q = u.ring i q) :
    ∀ q, q < 4 → ((upTo 4).foldl f s).ring i q = g (s.ring i q) :=
  foldl_upTo_turns (P := fun q u => u.ring i q = s.ring i q) (Q := fun q u => u.ring i q = g (s.ring i q))
    (fun u q _ h => (hsame u q).trans (congrArg g h)) (fun u p q hpq _ h => (hne u p q hpq).trans h)
    (fun u p q hpq _ h => (hne u p q hpq).trans h) fun _ _ => rfl

/-! ### A command written (R196) -/

/-- The instance's record once a command has been written: the core cycle of the write is noted, but for a NOP. -/
def State.noted (s : State) (i cmd : Nat) : State :=
  if cmd = 0 then s else s.modInst i fun x => { x with cmdAt := s.now + 1 }

section Noted
variable (s : State) (i cmd : Nat)

theorem State.noted_regs : (s.noted i cmd).regs = s.regs := by
  unfold State.noted
  split <;> rfl

theorem State.noted_rings : (s.noted i cmd).rings = s.rings := by
  unfold State.noted
  split <;> rfl

theorem State.noted_engTags : (s.noted i cmd).engTags = s.engTags := by
  unfold State.noted
  split <;> rfl

theorem State.noted_now : (s.noted i cmd).now = s.now := by
  unfold State.noted
  split <;> rfl

theorem State.noted_inst_same :
    (s.noted i cmd).inst i = { s.inst i with cmdAt := if cmd = 0 then (s.inst i).cmdAt else s.now + 1 } := by
  unfold State.noted
  split
  · rfl
  · exact s.inst_modInst_same i _

theorem State.noted_inst_ne {j : Nat} (h : j ≠ i) : (s.noted i cmd).inst j = s.inst j := by
  unfold State.noted
  split
  · rfl
  · exact s.inst_modInst_ne h _

theorem State.noted_alive : (s.noted i cmd).alive = s.alive := by
  unfold State.noted
  split <;> rfl

theorem State.noted_ring (j q : Nat) : (s.noted i cmd).ring j q = s.ring j q := State.ring_of_rings (s.noted_rings i cmd) j q

theorem State.noted_instPage : (s.noted i cmd).instPage i = s.instPage i := State.instPage_of_regs (s.noted_regs i cmd) i

theorem State.noted_keepsRegs (except : List Nat) : KeepsRegs s (s.noted i cmd) except := .of_regs (s.noted_regs i cmd) except

/-- Noting the cycle does not change why a command is refused. -/
theorem State.noted_cmdCause (cmd' : Nat) : (s.noted i cmd).cmdCause i cmd' = s.cmdCause i cmd' := by
  have hcmd : ((s.noted i cmd).inst i).cmd = (s.inst i).cmd := by rw [State.noted_inst_same]
  unfold State.cmdCause
  rw [hcmd]
  unfold State.noted
  split <;> rfl

end Noted

theorem State.command_eq (s : State) (i cmd : Nat) (go : State → State) : s.command i cmd go =
    match (s.noted i cmd).cmdCause i cmd with
    | some c => (s.noted i cmd).cmdRefused i c
    | none => go (s.noted i cmd) := rfl

theorem State.command_of_some {s : State} {i cmd c : Nat} (h : s.cmdCause i cmd = some c) (go : State → State) :
    s.command i cmd go = (s.noted i cmd).cmdRefused i c := by
  rw [State.command_eq, State.noted_cmdCause, h]

theorem State.command_of_none {s : State} {i cmd : Nat} (h : s.cmdCause i cmd = none) (go : State → State) :
    s.command i cmd go = go (s.noted i cmd) := by
  rw [State.command_eq, State.noted_cmdCause, h]

/-- The causes of refusal fit VIM_INST_STS.CAUSE. -/
theorem State.cmdCause_lt {s : State} {i cmd c : Nat} (h : s.cmdCause i cmd = some c) : c < 16 := by
  unfold State.cmdCause at h
  dsimp only at h
  split_ifs at h
  all_goals exact Option.some.inj h ▸ by decide

/-- The command codes and their commands. -/
theorem exec_instCommand (s : State) {i : Nat} (hi : i < 512) :
    ∀ c ∈ [(Instr.instNop i, 0), (.create i, 1), (.destroy i, 2), (.freeze i, 3), (.save i, 4), (.restore i, 5), (.thaw i, 6),
      (.recover i, 7), (.serve i, 8)], exec c.1 s = .next (s.instCommand i c.2) := by
  simp only [List.forall_mem_cons, List.not_mem_nil, false_imp_iff, implies_true, and_true]
  refine ⟨?_, ?_, ?_, ?_, ?_, ?_, ?_, ?_, ?_⟩
  · change execInstNop i s = _
    rw [execInstNop, Nat.mod_eq_of_lt hi]
  · change execCreate i s = _
    rw [execCreate, Nat.mod_eq_of_lt hi]
    rfl
  · change execDestroy i s = _
    rw [execDestroy, Nat.mod_eq_of_lt hi]
    rfl
  · change execFreeze i s = _
    rw [execFreeze, Nat.mod_eq_of_lt hi]
    rfl
  · change execSave i s = _
    rw [execSave, Nat.mod_eq_of_lt hi]
    rfl
  · change execRestore i s = _
    rw [execRestore, Nat.mod_eq_of_lt hi]
    rfl
  · change execThaw i s = _
    rw [execThaw, Nat.mod_eq_of_lt hi]
    rfl
  · change execRecover i s = _
    rw [execRecover, Nat.mod_eq_of_lt hi]
    rfl
  · change execServe i s = _
    rw [execServe, Nat.mod_eq_of_lt hi]
    rfl

/-- A command code that names a command is refused, or does what the command does. -/
theorem State.instCommand_eq (s : State) (i : Nat) {cmd : Nat} (h : cmd < 9) : ∃ go, s.instCommand i cmd = s.command i cmd go := by
  match cmd, h with
  | 0, _ | 1, _ | 2, _ | 3, _ | 4, _ | 5, _ | 6, _ | 7, _ | 8, _ =>
    simp only [State.instCommand, State.createInst, State.destroyInst, State.freezeInst, State.saveInst, State.restoreInst,
      State.thawInst, State.moveInst]
    exact ⟨_, rfl⟩

end Sys2Proof.Machine
end

section
/-! PROOFS. What a command to a virtual instance does when it runs (R186, R196, R203). -/

namespace Sys2Proof.Machine

set_option Elab.async false

theorem KeepsRegs.mono {s t : State} {l l' : List Nat} (h : KeepsRegs s t l) (hl : l ⊆ l') : KeepsRegs s t l' :=
  fun a ha hne => h a ha fun hm => hne (hl hm)

/-! ### A store without the keys of a range -/

theorem storeGet_filter_gone {α : Type} (d : α) {p : Nat × α → Bool} {k : Nat} (h : ∀ v, p (k, v) = false) (m : Store α) :
    storeGet d (m.filter p) k = d := by
  induction m with
  | nil => rfl
  | cons e m ih =>
    obtain ⟨j, v⟩ := e
    rw [List.filter_cons]
    split
    · next hp =>
      have hk : k ≠ j := by
        rintro rfl
        rw [h v] at hp
        exact absurd hp (by decide)
      rw [storeGet, if_neg hk, ih]
    · exact ih

/-! ### A function that disappears (R186) -/

section DropFunction
variable (s : State) (i : Nat)

theorem State.dropFunction_regs : (s.dropFunction i).regs = s.regs :=
  List.foldlRecOn (upTo 4) _ (motive := fun u : State => u.regs = s.regs) rfl fun _ hu _ _ => hu

theorem State.dropFunction_insts : (s.dropFunction i).insts = s.insts :=
  List.foldlRecOn (upTo 4) _ (motive := fun u : State => u.insts = s.insts) rfl fun _ hu _ _ => hu

theorem State.dropFunction_shadows :
    (s.dropFunction i).shadows = s.shadows.filter fun e => e.1 / 4096 != (Fn.inst i).num :=
  List.foldlRecOn (upTo 4) _ (motive := fun u : State => u.shadows = s.shadows.filter _) rfl fun _ hu _ _ => hu

theorem State.dropFunction_ring : ∀ q, q < 4 → (s.dropFunction i).ring i q = {} :=
  State.foldl_rings (g := fun _ => {}) _ (fun u q => u.ring_setRing_same i q {})
    fun u p q hpq => by rw [State.ring_setRing, if_neg (by omega)]

theorem State.cfg_of_shadows {t : State} (h : t.shadows = s.shadows) (fn off : Nat) : t.cfg fn off = s.cfg fn off := by
  rw [State.cfg, h, State.cfg]

theorem State.dropFunction_cfg {off : Nat} (hoff : off < 4096) :
    (s.dropFunction i).cfg (Fn.inst i).num off = cfgReset (Fn.inst i).num off := by
  rw [State.cfg, State.dropFunction_shadows]
  refine storeGet_filter_gone _ (fun v => ?_) _
  rw [bne_eq_false_iff_eq]
  omega

theorem State.dropFunction_keepsRegs (except : List Nat) : KeepsRegs s (s.dropFunction i) except :=
  .of_regs (s.dropFunction_regs i) except

theorem State.instPage_dropFunction : (s.dropFunction i).instPage i = s.instPage i :=
  State.instPage_of_regs (s.dropFunction_regs i) i

end DropFunction

theorem State.cfg_putCfg_ne (s : State) {fn off fn' off' : Nat} (h : fn' ≠ fn) (hoff : off < 4096) (hoff' : off' < 4096)
    (hi lo v : Nat) : (s.putCfg fn off hi lo v).cfg fn' off' = s.cfg fn' off' :=
  storeGet_storePut_ne _ (by omega)

theorem State.cfg_orCfg_ne (s : State) {fn off fn' off' : Nat} (h : fn' ≠ fn) (hoff : off < 4096) (hoff' : off' < 4096)
    (m : W32) : (s.orCfg fn off m).cfg fn' off' = s.cfg fn' off' :=
  storeGet_storePut_ne _ (by omega)

section Presence
variable (s : State) (part : Nat)

theorem State.presence_regs : (s.presence part).regs = s.regs := rfl

theorem State.presence_insts : (s.presence part).insts = s.insts := rfl

theorem State.presence_rings : (s.presence part).rings = s.rings := rfl

theorem State.instPage_presence (i : Nat) : (s.presence part).instPage i = s.instPage i := State.instPage_of_regs rfl i

theorem State.presence_keepsRegs (except : List Nat) : KeepsRegs s (s.presence part) except :=
  .of_regs (s.presence_regs part) except

/-- Presence Detect belongs to the engine bridge, none of the instances' functions. -/
theorem State.presence_cfg (hpart : part < 32) {off : Nat} (hoff : off < 4096) (i : Nat) :
    (s.presence part).cfg (Fn.inst i).num off = s.cfg (Fn.inst i).num off := by
  have hne : (Fn.inst i).num ≠ (Fn.engBridge part).num := by
    simp only [Fn.num]
    omega
  refine (State.cfg_putCfg_ne _ hne (by decide) hoff _ _ _).trans (s.cfg_orCfg_ne hne (by decide) hoff _)

end Presence

/-- What a DESTROY does that is not refused. -/
def State.destroyRuns (s : State) (i : Nat) : State :=
  let s := (s.cmdBusy i 2).setInstState i iSETUP
  (s.dropFunction i).presence (s.instPart i)

theorem State.instNop_eq (s : State) (i : Nat) : s.instCommand i 0 = s.command i 0 fun u => u.cmdDone i := rfl

theorem State.createInst_eq (s : State) (i : Nat) :
    s.createInst i = s.command i 1 fun u => (u.cmdBusy i 1).setInstState i iSETUP := rfl

theorem State.destroyInst_eq (s : State) (i : Nat) : s.destroyInst i = s.command i 2 fun u => u.destroyRuns i := rfl

theorem State.instPart_lt (s : State) (i : Nat) : s.instPart i < 32 := s.fget_lt _

theorem State.setInstState_reg (s : State) {a i : Nat} (h : a ≠ R.VIM_INST_STS i) (st : Nat) :
    (s.setInstState i st).reg a = s.reg a := State.reg_fset_ne h

theorem State.cmdBusy_reg (s : State) {a i : Nat} (h : a ≠ R.VIM_INST_STS i) (cmd : Nat) :
    (s.cmdBusy i cmd).reg a = s.reg a := by
  have hinst : (s.cmdBusy i cmd).reg a = ((s.fset (R.VIM_INST_STS_CMD_RESULT i) 1).fset (R.VIM_INST_STS_CAUSE i) 0).reg a := rfl
  rw [hinst, State.reg_fset_ne h, State.reg_fset_ne h]

theorem State.destroyRuns_facts (s : State) (i : Nat) :
    (s.destroyRuns i).instPage i = { s.instPage i with state := iSETUP, result := 1, cause := 0 } ∧
    (∀ off, off < 4096 → (s.destroyRuns i).cfg (Fn.inst i).num off = cfgReset (Fn.inst i).num off) ∧
    (∀ q, q < 4 → (s.destroyRuns i).ring i q = {}) ∧ ∀ a, a ≠ R.VIM_INST_STS i → (s.destroyRuns i).reg a = s.reg a := by
  have hpage : ((s.cmdBusy i 2).setInstState i iSETUP).instPage i =
      { s.instPage i with state := iSETUP, result := 1, cause := 0 } := by
    rw [State.instPage_setInstState, State.instPage_cmdBusy]
    rfl
  have hregs : ∀ a, a ≠ R.VIM_INST_STS i → ((s.cmdBusy i 2).setInstState i iSETUP).reg a = s.reg a := fun a ha => by
    rw [State.setInstState_reg _ ha, State.cmdBusy_reg _ ha]
  unfold State.destroyRuns
  dsimp only
  generalize (s.cmdBusy i 2).setInstState i iSETUP = u at *
  exact ⟨(State.instPage_presence _ _ i).trans ((u.instPage_dropFunction i).trans hpage),
    fun off hoff => (State.presence_cfg _ _ (u.instPart_lt i) hoff i).trans (u.dropFunction_cfg i hoff),
    fun q hq => (State.ring_of_rings (State.presence_rings _ _) i q).trans (u.dropFunction_ring i q hq),
    fun a ha => (State.reg_eq_of_regs ((State.presence_regs _ _).trans (u.dropFunction_regs i)) a).trans (hregs a ha)⟩

/-! ### FREEZE: run-ahead data and fences (R203) -/

section Freeze
variable (s : State) (i : Nat)

theorem vimInst_notMem_engSts {e : Nat} (he : e < 16) :
    R.VIM_INST_STS i ∉ [R.ENG_STS e] ∧ R.VIM_INST_CTL i ∉ [R.ENG_STS e] := by
  simp only [List.mem_singleton, R.VIM_INST_STS, R.VIM_INST_CTL, R.ENG_STS]
  omega

theorem State.instPage_discardAhead (j q cause : Nat) : (s.discardAhead j q cause).instPage i = s.instPage i := by
  obtain ⟨hsts, hctl⟩ := vimInst_notMem_engSts i (s.engineOf_lt j q)
  exact (s.discardAhead_keepsRegs j q cause).instPage hsts hctl

theorem State.inst_discardAhead (j q cause k : Nat) : (s.discardAhead j q cause).inst k = s.inst k := by
  rw [State.discardAhead_eq]
  exact State.inst_of_rest (s.aheadLogged_logsDiscards j q cause).rest k

/-- The run-ahead data of every ring of an instance discarded. -/
def State.allAheadDiscarded (s : State) (i cause : Nat) : State :=
  (upTo 4).foldl (fun s q => s.discardAhead i q cause) s

theorem State.instPage_allAheadDiscarded (cause : Nat) : (s.allAheadDiscarded i cause).instPage i = s.instPage i :=
  List.foldlRecOn (upTo 4) _ (motive := fun u : State => u.instPage i = s.instPage i) rfl
    fun u hu q _ => (State.instPage_discardAhead u i i q cause).trans hu

theorem State.inst_allAheadDiscarded (cause : Nat) : (s.allAheadDiscarded i cause).inst i = s.inst i :=
  List.foldlRecOn (upTo 4) _ (motive := fun u : State => u.inst i = s.inst i) rfl
    fun u hu q _ => (State.inst_discardAhead u i q cause i).trans hu

theorem State.allAheadDiscarded_ring (cause : Nat) :
    ∀ q, q < 4 → (s.allAheadDiscarded i cause).ring i q = { s.ring i q with ahead := [] } :=
  s.foldl_rings (g := fun r => { r with ahead := [] }) (fun u q => u.discardAhead_ring_same i q cause)
    fun u p q hpq => u.discardAhead_ring_ne i p cause (by omega)

theorem State.startFreezeFences_regs : (s.startFreezeFences i).regs = s.regs :=
  List.foldlRecOn (upTo 4) _ (motive := fun u : State => u.regs = s.regs) rfl fun _ hu _ _ => hu

theorem State.startFreezeFences_insts : (s.startFreezeFences i).insts = s.insts :=
  List.foldlRecOn (upTo 4) _ (motive := fun u : State => u.insts = s.insts) rfl fun _ hu _ _ => hu

/-- The fences that a FREEZE starts leave the run-ahead data of its rings. -/
theorem State.startFreezeFences_ahead : ∀ q, q < 4 → ((s.startFreezeFences i).ring i q).ahead = (s.ring i q).ahead :=
  foldl_upTo_turns (P := fun q (u : State) => (u.ring i q).ahead = (s.ring i q).ahead)
    (Q := fun q (u : State) => (u.ring i q).ahead = (s.ring i q).ahead)
    (fun u q _ h => by rw [State.ring_modRing_same]; exact h)
    (fun u p q hpq _ h => by rw [State.ring_modRing_ne _ (by omega)]; exact h)
    (fun u p q hpq _ h => by rw [State.ring_modRing_ne _ (by omega)]; exact h) fun _ _ => rfl

/-- A FREEZE that has begun: BUSY, with what the instance came from noted. -/
def State.freezeBegun (s : State) (i : Nat) : State :=
  (s.cmdBusy i 3).modInst i fun x =>
    { x with fromRecovery := s.instState i == iRECOVERY, hgAtFreeze := s.flag (R.VIM_INST_CTL_HG_OPEN i), frozenFrom := s.instState i }

/-- What a FREEZE does that is not refused. -/
def State.freezeRuns (s : State) (i : Nat) : State :=
  let s := ((s.freezeBegun i).refreshHg i).allAheadDiscarded i dSTOP
  if s.flag (R.VIM_INST_STS_IDLE i) then s.startFreezeFences i else s

theorem State.freezeInst_eq : s.freezeInst i = s.command i 3 fun u => u.freezeRuns i := rfl

/-- The headgate does not stand open while a FREEZE runs. -/
theorem State.freezeBegun_hgStands : (s.freezeBegun i).hgStands i = false := by
  have hcmd : ((s.freezeBegun i).inst i).cmd = 3 := by simp [State.freezeBegun]
  rw [State.hgStands, hcmd]
  exact Bool.and_false _

theorem State.freezeRuns_facts : (s.freezeRuns i).instPage i = { s.instPage i with result := 1, cause := 0, hg := 0 } ∧
    ((s.freezeRuns i).inst i).cmd = 3 ∧ ((s.freezeRuns i).inst i).frozenFrom = s.instState i ∧
    ∀ q, q < 4 → ((s.freezeRuns i).ring i q).ahead = [] := by
  have hpage : (((s.freezeBegun i).refreshHg i).allAheadDiscarded i dSTOP).instPage i =
      { s.instPage i with result := 1, cause := 0, hg := 0 } := by
    rw [State.instPage_allAheadDiscarded, State.instPage_refreshHg, s.freezeBegun_hgStands]
    simp [State.freezeBegun, ofBool]
  have hinst : (((s.freezeBegun i).refreshHg i).allAheadDiscarded i dSTOP).inst i = (s.freezeBegun i).inst i := by
    rw [State.inst_allAheadDiscarded, State.inst_refreshHg]
  have hahead : ∀ q, q < 4 → ((((s.freezeBegun i).refreshHg i).allAheadDiscarded i dSTOP).ring i q).ahead = [] :=
    fun q hq => by rw [State.allAheadDiscarded_ring _ _ _ q hq]
  have hcmd : ((s.freezeBegun i).inst i).cmd = 3 ∧ ((s.freezeBegun i).inst i).frozenFrom = s.instState i := by
    simp [State.freezeBegun]
  unfold State.freezeRuns
  dsimp only
  generalize ((s.freezeBegun i).refreshHg i).allAheadDiscarded i dSTOP = u at *
  rw [← hinst] at hcmd
  split
  · refine ⟨(State.instPage_of_regs (u.startFreezeFences_regs i) i).trans hpage, ?_, ?_,
      fun q hq => (u.startFreezeFences_ahead i q hq).trans (hahead q hq)⟩
    · rw [State.inst_of_insts (u.startFreezeFences_insts i)]
      exact hcmd.1
    · rw [State.inst_of_insts (u.startFreezeFences_insts i)]
      exact hcmd.2
  · exact ⟨hpage, hcmd.1, hcmd.2, hahead⟩

end Freeze

/-! ### THAW (R196) -/

section Thaw
variable (s : State) (i : Nat)

/-- The rings of a thawed instance no longer show what a record restored. -/
def State.ringsThawed (s : State) (i : Nat) : State :=
  (upTo 4).foldl (fun s q => s.modRing i q fun r => { r with restored := false }) s

theorem State.ringsThawed_regs : (s.ringsThawed i).regs = s.regs :=
  List.foldlRecOn (upTo 4) _ (motive := fun u : State => u.regs = s.regs) rfl fun _ hu _ _ => hu

theorem State.ringsThawed_insts : (s.ringsThawed i).insts = s.insts :=
  List.foldlRecOn (upTo 4) _ (motive := fun u : State => u.insts = s.insts) rfl fun _ hu _ _ => hu

theorem State.ringsThawed_ring : ∀ q, q < 4 → (s.ringsThawed i).ring i q = { s.ring i q with restored := false } :=
  s.foldl_rings (g := fun r => { r with restored := false }) (fun u q => u.ring_modRing_same i q _)
    fun u p q hpq => u.ring_modRing_ne (by omega) _

/-- The state that a thawed instance goes to: RECOVERY where it was frozen there, ACTIVE with HG_OPEN otherwise. -/
def State.thawedTo (s : State) (i : Nat) : State :=
  if (s.inst i).fromRecovery then s.setInstState i iRECOVERY else (s.setInstState i iACTIVE).fset (R.VIM_INST_CTL_HG_OPEN i) 1

theorem State.thawInst_eq :
    s.thawInst i = s.command i 6 fun u => (((u.ringsThawed i).thawedTo i).refreshHg i).cmdDone i := rfl

theorem State.thawedTo_instPage : (s.thawedTo i).instPage i = if (s.inst i).fromRecovery
    then { s.instPage i with state := iRECOVERY } else { s.instPage i with state := iACTIVE, hgOpen := 1 } := by
  unfold State.thawedTo
  split
  · exact s.instPage_setInstState i _
  · rw [State.instPage_fset_hgOpen, State.instPage_setInstState]
    rfl

theorem State.thawedTo_keepsRegs : KeepsRegs s (s.thawedTo i) [R.VIM_INST_STS i, R.VIM_INST_CTL i] := by
  have hstate (st : Nat) : KeepsRegs s (s.setInstState i st) [R.VIM_INST_STS i, R.VIM_INST_CTL i] :=
    s.fset_keepsRegs List.mem_cons_self st
  unfold State.thawedTo
  split
  · exact hstate _
  · exact (hstate _).trans (State.fset_keepsRegs _ (List.mem_cons_of_mem _ (List.mem_singleton_self _)) 1)

theorem State.thawedTo_rings : (s.thawedTo i).rings = s.rings := by
  unfold State.thawedTo
  split <;> rfl

theorem State.cmdDone_rings : (s.cmdDone i).rings = s.rings :=
  congrArg (·.rings) (State.raise_rest _ (vimPage i) 0)

end Thaw

/-! ### The commands, each with its clause of O36 -/

section Clauses
variable {s : State} {i : Nat} (hi : i < 512) (hal : s.alive = true)
include hi

section
include hal

/-- A refused command leaves the instance but for its result and, a NOP's apart, the cycle of its write (R196). -/
theorem command_does_refuse {cause : Nat} {c : Instr × Nat}
    (hc : c ∈ [(Instr.instNop i, 0), (.create i, 1), (.destroy i, 2), (.freeze i, 3), (.save i, 4), (.restore i, 5), (.thaw i, 6),
      (.recover i, 7), (.serve i, 8)]) (hcause : s.cmdCause i c.2 = some cause) :
    Does c.1 s fun t => t.fget (R.VIM_INST_STS_CMD_RESULT i) = 3 ∧
      t.fget (R.VIM_INST_STS_CAUSE i) = cause ∧ t.instState i = s.instState i ∧ t.event (vimPage i) 1 = true ∧
      t.inst i = { s.inst i with cmdAt := if c.2 = 0 then (s.inst i).cmdAt else s.now + 1 } ∧
      (∀ j, j ≠ i → t.inst j = s.inst j) ∧ t.rings = s.rings ∧ t.engTags = s.engTags ∧
      KeepsRegs s t [R.VIM_INST_STS i] ∧ t.vault = s.vault := by
  have hlt : c.2 < 9 := by
    simp only [List.mem_cons, List.not_mem_nil, or_false] at hc
    rcases hc with rfl | rfl | rfl | rfl | rfl | rfl | rfl | rfl | rfl <;> simp
  have hexec : exec c.1 s = .next ((s.noted i c.2).cmdRefused i cause) := by
    obtain ⟨go, hgo⟩ := s.instCommand_eq i hlt
    rw [exec_instCommand s hi c hc, hgo, State.command_of_some hcause]
  have hwrites : writesVault c.1 = false := by
    simp only [List.mem_cons, List.not_mem_nil, or_false] at hc
    rcases hc with rfl | rfl | rfl | rfl | rfl | rfl | rfl | rfl | rfl <;> rfl
  have hpage : ((s.noted i c.2).cmdRefused i cause).instPage i = { s.instPage i with result := 3, cause := cause } := by
    rw [State.instPage_cmdRefused, State.noted_instPage, Nat.mod_eq_of_lt (State.cmdCause_lt hcause)]
  have hrest := (s.noted i c.2).cmdRefused_rest i cause
  exact ⟨_, hexec, congrArg InstPage.result hpage, congrArg InstPage.cause hpage, congrArg InstPage.state hpage,
    State.cmdRefused_event i ((s.noted_alive i c.2).trans hal) cause,
    (State.inst_cmdRefused _ i cause i).trans (s.noted_inst_same i c.2),
    fun j hj => (State.inst_cmdRefused _ i cause j).trans (s.noted_inst_ne i c.2 hj),
    (congrArg (·.rings) hrest).trans (s.noted_rings i c.2), (congrArg (·.engTags) hrest).trans (s.noted_engTags i c.2),
    (s.noted_keepsRegs i c.2 _).trans (State.cmdRefused_keepsRegs _ i cause),
    exec_vault_of_not_writesVault hwrites hexec⟩

theorem instNop_does (h : s.cmdCause i 0 = none) : Does (.instNop i) s fun t => t.fget (R.VIM_INST_STS_CMD_RESULT i) = 2 ∧
    t.instState i = s.instState i ∧ t.event (vimPage i) 0 = true ∧ KeepsRegs s t [R.VIM_INST_STS i] ∧ t.vault = s.vault := by
  have hexec : exec (.instNop i) s = .next (s.cmdDone i) :=
    (exec_instCommand s hi (.instNop i, 0) (by simp)).trans
      (congrArg _ ((s.instNop_eq i).trans (State.command_of_none h _)))
  have hpage := s.instPage_cmdDone i
  exact ⟨_, hexec, congrArg InstPage.result hpage, congrArg InstPage.state hpage, State.cmdDone_event i hal,
    s.cmdDone_keepsRegs i, exec_vault_of_not_writesVault rfl hexec⟩

end

theorem create_does (h : s.cmdCause i 1 = none) : Does (.create i) s fun t => t.fget (R.VIM_INST_STS_CMD_RESULT i) = 1 ∧
    t.instState i = iSETUP ∧ (t.inst i).cmd = 1 ∧ (t.inst i).cmdStart = s.now ∧
    (∀ a, a ≠ R.VIM_INST_STS i → t.reg a = s.reg a) ∧ t.vault = s.vault := by
  have hexec : exec (.create i) s = .next (((s.noted i 1).cmdBusy i 1).setInstState i iSETUP) :=
    (exec_instCommand s hi (.create i, 1) (by simp)).trans
      (congrArg _ ((s.createInst_eq i).trans (State.command_of_none h _)))
  have hpage : (((s.noted i 1).cmdBusy i 1).setInstState i iSETUP).instPage i =
      { s.instPage i with state := iSETUP, result := 1, cause := 0 } := by
    rw [State.instPage_setInstState, State.instPage_cmdBusy, State.noted_instPage]
    rfl
  have hinst : (((s.noted i 1).cmdBusy i 1).setInstState i iSETUP).inst i =
      { (s.noted i 1).inst i with cmd := 1, cmdStart := (s.noted i 1).now } := by
    rw [State.inst_setInstState, State.inst_cmdBusy]
  exact ⟨_, hexec, congrArg InstPage.result hpage, congrArg InstPage.state hpage, congrArg InstSt.cmd hinst,
    (congrArg InstSt.cmdStart hinst).trans (s.noted_now i 1),
    fun a ha => by
      rw [State.setInstState_reg _ ha, State.cmdBusy_reg _ ha, State.reg_eq_of_regs (s.noted_regs i 1)],
    exec_vault_of_not_writesVault rfl hexec⟩

theorem destroy_does (h : s.cmdCause i 2 = none) : Does (.destroy i) s fun t => t.fget (R.VIM_INST_STS_CMD_RESULT i) = 1 ∧
    t.instState i = iSETUP ∧ (∀ off, off < 4096 → t.cfg (Fn.inst i).num off = cfgReset (Fn.inst i).num off) ∧
    (∀ q, q < 4 → t.ring i q = {}) ∧ (∀ a, a ≠ R.VIM_INST_STS i → t.reg a = s.reg a) ∧ t.vault = s.vault := by
  have hexec : exec (.destroy i) s = .next ((((s.noted i 2).cmdBusy i 2).setInstState i iSETUP).dropFunction i |>.presence
      ((((s.noted i 2).cmdBusy i 2).setInstState i iSETUP).instPart i)) :=
    (exec_instCommand s hi (.destroy i, 2) (by simp)).trans
      (congrArg _ ((s.destroyInst_eq i).trans (State.command_of_none h _)))
  obtain ⟨hpage, hcfg, hrings, hregs⟩ := (s.noted i 2).destroyRuns_facts i
  exact ⟨_, hexec, congrArg InstPage.result hpage, congrArg InstPage.state hpage, hcfg, hrings,
    fun a ha => (hregs a ha).trans (State.reg_eq_of_regs (s.noted_regs i 2) a), exec_vault_of_not_writesVault rfl hexec⟩

theorem freeze_does (h : s.cmdCause i 3 = none) : Does (.freeze i) s fun t => t.fget (R.VIM_INST_STS_CMD_RESULT i) = 1 ∧
    t.headgate i = false ∧ (t.inst i).cmd = 3 ∧ (t.inst i).frozenFrom = s.instState i ∧ (∀ q, q < 4 → (t.ring i q).ahead = []) ∧
    t.instState i = s.instState i ∧ t.vault = s.vault := by
  have hexec : exec (.freeze i) s = .next ((s.noted i 3).freezeRuns i) :=
    (exec_instCommand s hi (.freeze i, 3) (by simp)).trans
      (congrArg _ ((s.freezeInst_eq i).trans (State.command_of_none h _)))
  obtain ⟨hpage, hcmd, hfrom, hahead⟩ := (s.noted i 3).freezeRuns_facts i
  have hstate : (s.noted i 3).instState i = s.instState i := congrArg InstPage.state (s.noted_instPage i 3)
  have hhg : ((s.noted i 3).freezeRuns i).fget (R.VIM_INST_STS_HG i) = 0 := congrArg InstPage.hg hpage
  refine ⟨_, hexec, congrArg InstPage.result hpage, ?_, hcmd, hfrom.trans hstate, hahead,
    (congrArg InstPage.state hpage).trans hstate, exec_vault_of_not_writesVault rfl hexec⟩
  rw [State.headgate, State.flag, hhg]
  rfl

section
include hal

theorem thaw_does (h : s.cmdCause i 6 = none) : Does (.thaw i) s fun t => t.fget (R.VIM_INST_STS_CMD_RESULT i) = 2 ∧
    t.instState i = (if (s.inst i).fromRecovery then iRECOVERY else iACTIVE) ∧
    ((s.inst i).fromRecovery = false → t.flag (R.VIM_INST_CTL_HG_OPEN i) = true) ∧
    (∀ q, q < 4 → (t.ring i q).restored = false) ∧ t.event (vimPage i) 0 = true ∧
    KeepsRegs s t [R.VIM_INST_STS i, R.VIM_INST_CTL i] ∧ t.vault = s.vault := by
  have hexec : exec (.thaw i) s = .next (((((s.noted i 6).ringsThawed i).thawedTo i).refreshHg i).cmdDone i) :=
    (exec_instCommand s hi (.thaw i, 6) (by simp)).trans
      (congrArg _ ((s.thawInst_eq i).trans (State.command_of_none h _)))
  refine ⟨_, hexec, ?_⟩
  have hvault := exec_vault_of_not_writesVault rfl hexec
  have hregs : ((s.noted i 6).ringsThawed i).regs = s.regs := (State.ringsThawed_regs _ i).trans (s.noted_regs i 6)
  have hrec : (((s.noted i 6).ringsThawed i).inst i).fromRecovery = (s.inst i).fromRecovery := by
    rw [State.inst_of_insts (State.ringsThawed_insts _ i), State.noted_inst_same]
  have hrings : ∀ q, q < 4 → (((s.noted i 6).ringsThawed i).ring i q).restored = false := fun q hq => by
    rw [State.ringsThawed_ring _ _ q hq]
  generalize (s.noted i 6).ringsThawed i = u at *
  have hpage : (((u.thawedTo i).refreshHg i).cmdDone i).instState i = ((u.thawedTo i).instPage i).state ∧
      (((u.thawedTo i).refreshHg i).cmdDone i).fget (R.VIM_INST_CTL_HG_OPEN i) = ((u.thawedTo i).instPage i).hgOpen ∧
      (((u.thawedTo i).refreshHg i).cmdDone i).fget (R.VIM_INST_STS_CMD_RESULT i) = 2 := by
    have hdone := State.instPage_cmdDone ((u.thawedTo i).refreshHg i) i
    rw [State.instPage_refreshHg] at hdone
    exact ⟨congrArg InstPage.state hdone, congrArg InstPage.hgOpen hdone, congrArg InstPage.result hdone⟩
  obtain ⟨hstate, hopen, hresult⟩ := hpage
  rw [State.thawedTo_instPage, hrec] at hstate hopen
  have hkeeps : KeepsRegs s ((u.thawedTo i).refreshHg i) [R.VIM_INST_STS i, R.VIM_INST_CTL i] :=
    ((KeepsRegs.of_regs hregs _).trans (u.thawedTo_keepsRegs i)).trans
      ((State.refreshHg_keepsRegs _ i).mono (by simp))
  have hal' : ((u.thawedTo i).refreshHg i).alive = true := (hkeeps.alive (by
    simp only [List.mem_cons, List.not_mem_nil, or_false, not_or]
    exact ⟨devMode_ne_vim (.inl rfl), devMode_ne_vim (.inr rfl)⟩)).trans hal
  refine ⟨hresult, hstate.trans (by split <;> rfl), fun hr => ?_, fun q hq => ?_, State.cmdDone_event i hal',
    hkeeps.trans ((State.cmdDone_keepsRegs _ i).mono (by simp)), hvault⟩
  · rw [State.flag, hopen, hr]
    rfl
  · rw [State.ring_of_rings (State.cmdDone_rings _ i), State.ring_of_rest (State.refreshHg_rest _ i),
      State.ring_of_rings (u.thawedTo_rings i), hrings q hq]

omit hi in
/-- RECOVER and SERVE end DONE in the state they lead to. -/
theorem move_does {cmd st : Nat} {c : Instr} (hst : st < 8) (hexec : exec c s = .next (s.moveInst i cmd st))
    (hwrites : writesVault c = false) (h : s.cmdCause i cmd = none) : Does c s fun t =>
    t.fget (R.VIM_INST_STS_CMD_RESULT i) = 2 ∧ t.instState i = st ∧ t.event (vimPage i) 0 = true ∧
      KeepsRegs s t [R.VIM_INST_STS i] ∧ t.vault = s.vault := by
  have hmove : s.moveInst i cmd st = (((s.noted i cmd).setInstState i st).refreshHg i).cmdDone i := State.command_of_none h _
  rw [hmove] at hexec
  have hkeeps : KeepsRegs s (((s.noted i cmd).setInstState i st).refreshHg i) [R.VIM_INST_STS i] :=
    ((s.noted_keepsRegs i cmd _).trans (State.setInstState_keepsRegs _ i st)).trans (State.refreshHg_keepsRegs _ i)
  have hdone := State.instPage_cmdDone (((s.noted i cmd).setInstState i st).refreshHg i) i
  rw [State.instPage_refreshHg, State.instPage_setInstState] at hdone
  exact ⟨_, hexec, congrArg InstPage.result hdone, (congrArg InstPage.state hdone).trans (Nat.mod_eq_of_lt hst),
    State.cmdDone_event i (hkeeps.alive_of_sts i hal), hkeeps.trans (State.cmdDone_keepsRegs _ i),
    exec_vault_of_not_writesVault hwrites hexec⟩

end
end Clauses

/-- Settles O36: a command is refused with its cause, or does what its clause says. -/
theorem commandsToInstances : Obligations.CommandsToInstances := by
  unfold Obligations.CommandsToInstances
  refine ⟨fun s i cause hi hal c hc h => command_does_refuse hi hal hc h, fun s i hi hal =>
    ⟨instNop_does hi hal, create_does hi, destroy_does hi, freeze_does hi, thaw_does hi hal, ?_⟩⟩
  simp only [List.forall_mem_cons, List.not_mem_nil, false_imp_iff, implies_true, and_true]
  exact ⟨move_does hal (by decide) (exec_instCommand s hi (.recover i, 7) (by simp)) rfl,
    move_does hal (by decide) (exec_instCommand s hi (.serve i, 8) (by simp)) rfl⟩

end Sys2Proof.Machine
end

section
/-! PROOFS. The headgate and an idle instance (R195 to R197). -/

namespace Sys2Proof.Machine

set_option Elab.async false

theorem State.flag_eq (s : State) (f : Fld) : s.flag f = (s.fget f == 1) := rfl

/-- The device mode after a write of one of the instance's two registers. -/
theorem State.mode_fset_vim (s : State) {f : Fld} {i : Nat} (h : f.addr = R.VIM_INST_STS i ∨ f.addr = R.VIM_INST_CTL i) (v : Nat) :
    (s.fset f v).mode = s.mode := by
  refine s.fget_fset_reg f _ v ?_
  have hne : R.DEV_MODE ≠ f.addr := by
    rcases h with h | h
    · exact h ▸ devMode_ne_vim (.inl rfl)
    · exact h ▸ devMode_ne_vim (.inr rfl)
  exact hne

theorem State.refreshHg_reg (s : State) {a i : Nat} (h : a ≠ R.VIM_INST_STS i) : (s.refreshHg i).reg a = s.reg a := by
  rw [State.refreshHg_eq]
  split
  · rw [State.reg_fset_ne h, State.reg_fset_ne h]
  · rw [State.reg_fset_ne h]

section Headgate
variable (s : State) (i : Nat)

/-- An instance whose HG_OPEN is set, in ACTIVE where it was in RESET. -/
def State.hgOpened (s : State) (i : Nat) : State :=
  let s := s.fset (R.VIM_INST_CTL_HG_OPEN i) 1
  if s.instState i = iRESET then s.setInstState i iACTIVE else s

theorem State.headgateOpen_eq (h : s.instState i ≠ iRESETTING) : s.headgateOpen i = (s.hgOpened i).refreshHg i := by
  rw [State.headgateOpen, if_neg h]
  rfl

theorem State.hgOpened_facts : (s.hgOpened i).instPage i =
      { s.instPage i with state := if s.instState i = iRESET then iACTIVE else s.instState i, hgOpen := 1 } ∧
    (s.hgOpened i).mode = s.mode ∧ (s.hgOpened i).inst i = s.inst i ∧
    ∀ a, a ≠ R.VIM_INST_STS i → a ≠ R.VIM_INST_CTL i → (s.hgOpened i).reg a = s.reg a := by
  have hpage := s.instPage_fset_hgOpen i 1
  have hmode := s.mode_fset_vim (f := R.VIM_INST_CTL_HG_OPEN i) (.inr rfl) 1
  have hinst := s.inst_fset (R.VIM_INST_CTL_HG_OPEN i) 1 i
  have hregs : ∀ a, a ≠ R.VIM_INST_CTL i → (s.fset (R.VIM_INST_CTL_HG_OPEN i) 1).reg a = s.reg a :=
    fun a ha => State.reg_fset_ne ha
  unfold State.hgOpened
  dsimp only
  generalize s.fset (R.VIM_INST_CTL_HG_OPEN i) 1 = u at *
  have hstate : u.instState i = s.instState i := congrArg InstPage.state hpage
  rw [hstate]
  split
  · refine ⟨?_, (u.mode_fset_vim (.inl rfl) _).trans hmode, (u.inst_setInstState i _ i).trans hinst,
      fun a hsts hctl => (u.setInstState_reg hsts _).trans (hregs a hctl)⟩
    rw [State.instPage_setInstState, hpage]
    rfl
  · exact ⟨hpage, hmode, hinst, fun a _ hctl => hregs a hctl⟩

end Headgate

section Clauses
variable {s : State} {i : Nat} (hi : i < 512)
include hi

theorem exec_headgateOpen : exec (.headgateOpen i) s = .next (s.headgateOpen i) := by
  change execHeadgateOpen i s = _
  rw [execHeadgateOpen, Nat.mod_eq_of_lt hi]

theorem exec_headgateClose : exec (.headgateClose i) s = .next (s.headgateClose i) := by
  change execHeadgateClose i s = _
  rw [execHeadgateClose, Nat.mod_eq_of_lt hi]

theorem exec_headgateOpen_of_resetting (h : s.instState i = iRESETTING) : exec (.headgateOpen i) s = .next s := by
  rw [exec_headgateOpen hi, State.headgateOpen, if_pos h]

/-- HG_OPEN leads an instance in RESET to ACTIVE; the headgate opens where it may stand open (R196, R197). -/
theorem headgateOpen_does (h : s.instState i ≠ iRESETTING) : Does (.headgateOpen i) s fun t =>
    t.headgate i = ([iRESET, iACTIVE, iRECOVERY].contains (s.instState i) && s.mode != mDRAIN && (s.inst i).cmd != 3) ∧
    t.flag (R.VIM_INST_CTL_HG_OPEN i) = true ∧
    t.flag (R.VIM_INST_STS_IDLE i) = (s.flag (R.VIM_INST_STS_IDLE i) && !t.headgate i) ∧
    t.instState i = (if s.instState i = iRESET then iACTIVE else s.instState i) ∧
    (∀ a, a ≠ R.VIM_INST_STS i → a ≠ R.VIM_INST_CTL i → t.reg a = s.reg a) ∧ t.vault = s.vault := by
  have hexec := exec_headgateOpen (s := s) hi
  rw [s.headgateOpen_eq i h] at hexec
  obtain ⟨hpage, hmode, hinst, hregs⟩ := s.hgOpened_facts i
  have hvault := exec_vault_of_not_writesVault rfl hexec
  refine ⟨_, hexec, ?_⟩
  generalize s.hgOpened i = u at *
  have hstate : u.instState i = if s.instState i = iRESET then iACTIVE else s.instState i := congrArg InstPage.state hpage
  have hopen : u.fget (R.VIM_INST_CTL_HG_OPEN i) = 1 := congrArg InstPage.hgOpen hpage
  have hidle : u.fget (R.VIM_INST_STS_IDLE i) = s.fget (R.VIM_INST_STS_IDLE i) := congrArg InstPage.idle hpage
  have hstands : u.hgStands i =
      ([iRESET, iACTIVE, iRECOVERY].contains (s.instState i) && s.mode != mDRAIN && (s.inst i).cmd != 3) := by
    rw [State.hgStands, hstate, State.flag_eq, hopen, hmode, hinst]
    by_cases hr : s.instState i = iRESET <;> simp [hr, beq_eq_decide]
  have hgate : (u.refreshHg i).headgate i = u.hgStands i := by
    have hhg : (u.refreshHg i).fget (R.VIM_INST_STS_HG i) = ofBool (u.hgStands i) := congrArg InstPage.hg (u.instPage_refreshHg i)
    rw [State.headgate, State.flag_eq, hhg]
    cases u.hgStands i <;> rfl
  refine ⟨hgate.trans hstands, ?_, ?_, (congrArg InstPage.state (u.instPage_refreshHg i)).trans hstate,
    fun a hsts hctl => (u.refreshHg_reg hsts).trans (hregs a hsts hctl), hvault⟩
  · have hopen' : (u.refreshHg i).fget (R.VIM_INST_CTL_HG_OPEN i) = 1 :=
      (congrArg InstPage.hgOpen (u.instPage_refreshHg i)).trans hopen
    rw [State.flag_eq, hopen']
    rfl
  · have hidle' : (u.refreshHg i).fget (R.VIM_INST_STS_IDLE i) = if u.hgStands i then 0 else u.fget (R.VIM_INST_STS_IDLE i) :=
      congrArg InstPage.idle (u.instPage_refreshHg i)
    rw [hgate, State.flag_eq, hidle', hidle, State.flag_eq]
    cases u.hgStands i <;> simp

/-- HG_OPEN cleared closes the headgate at once (R197). -/
theorem headgateClose_does : Does (.headgateClose i) s fun t => t.headgate i = false ∧
    t.flag (R.VIM_INST_CTL_HG_OPEN i) = false ∧ t.instState i = s.instState i ∧
    (∀ a, a ≠ R.VIM_INST_STS i → a ≠ R.VIM_INST_CTL i → t.reg a = s.reg a) ∧ t.vault = s.vault := by
  have hexec := exec_headgateClose (s := s) hi
  rw [State.headgateClose] at hexec
  have hpage := s.instPage_fset_hgOpen i 0
  have hregs : ∀ a, a ≠ R.VIM_INST_CTL i → (s.fset (R.VIM_INST_CTL_HG_OPEN i) 0).reg a = s.reg a :=
    fun a ha => State.reg_fset_ne ha
  have hvault := exec_vault_of_not_writesVault rfl hexec
  refine ⟨_, hexec, ?_⟩
  generalize s.fset (R.VIM_INST_CTL_HG_OPEN i) 0 = u at *
  have hopen : u.fget (R.VIM_INST_CTL_HG_OPEN i) = 0 := congrArg InstPage.hgOpen hpage
  have hstands : u.hgStands i = false := by
    rw [State.hgStands, State.flag_eq, hopen]
    simp
  have hclosed := u.instPage_refreshHg i
  rw [hstands, hpage] at hclosed
  have hhg : (u.refreshHg i).fget (R.VIM_INST_STS_HG i) = 0 := congrArg InstPage.hg hclosed
  have hopen' : (u.refreshHg i).fget (R.VIM_INST_CTL_HG_OPEN i) = 0 := congrArg InstPage.hgOpen hclosed
  refine ⟨?_, ?_, congrArg InstPage.state hclosed, fun a hsts hctl => (u.refreshHg_reg hsts).trans (hregs a hctl), hvault⟩
  · rw [State.headgate, State.flag_eq, hhg]
    rfl
  · rw [State.flag_eq, hopen']
    rfl

/-! ### INSTANCE_IDLE (R197) -/

/-- An instance that has become idle, with its event. -/
def State.becameIdle (s : State) (i : Nat) : State := (s.fset (R.VIM_INST_STS_IDLE i) 1).raise (vimPage i) 3

omit hi in
theorem State.startFreezeFences_freeze (s : State) (i : Nat) :
    ∀ q, q < 4 → ((s.startFreezeFences i).ring i q).freeze.isSome = true :=
  foldl_upTo_turns (P := fun _ (_ : State) => True) (Q := fun q (u : State) => (u.ring i q).freeze.isSome = true)
    (fun u q _ _ => by rw [State.ring_modRing_same]; rfl) (fun _ _ _ _ _ _ => trivial)
    (fun u p q hpq _ h => by rw [State.ring_modRing_ne _ (by omega)]; exact h) fun _ _ => trivial

theorem exec_instanceIdle : exec (.instanceIdle i) s = .next
    (if s.instState i == iFREE || s.flag (R.VIM_INST_STS_IDLE i) || !s.instQuiet i then s
    else if ((s.becameIdle i).inst i).cmd = 3 ∧ (upTo 4).all (fun q => ((s.becameIdle i).ring i q).freeze.isNone) = true
    then (s.becameIdle i).startFreezeFences i else s.becameIdle i) := by
  change execInstanceIdle i s = _
  unfold execInstanceIdle
  rw [Nat.mod_eq_of_lt hi]
  dsimp only
  split
  · rfl
  · rfl

theorem exec_instanceIdle_of_not (h : s.instState i = iFREE ∨ s.flag (R.VIM_INST_STS_IDLE i) = true ∨ s.instQuiet i = false) :
    exec (.instanceIdle i) s = .next s := by
  rw [exec_instanceIdle hi, if_pos]
  rcases h with h | h | h <;> simp [h]

theorem instanceIdle_does (hal : s.alive = true) (hstate : s.instState i ≠ iFREE)
    (hidle : s.flag (R.VIM_INST_STS_IDLE i) = false) (hquiet : s.instQuiet i = true) : Does (.instanceIdle i) s fun t =>
    t.flag (R.VIM_INST_STS_IDLE i) = true ∧ t.event (vimPage i) 3 = true ∧ KeepsRegs s t [R.VIM_INST_STS i] ∧
    ((s.inst i).cmd = 3 → ∀ q, q < 4 → (t.ring i q).freeze.isSome = true ∨ ∃ k, k < 4 ∧ (s.ring i k).freeze.isSome = true) ∧
    t.vault = s.vault := by
  have hexec := exec_instanceIdle (s := s) hi
  rw [if_neg (by simp [hstate, hidle, hquiet])] at hexec
  have hkeeps : KeepsRegs s (s.becameIdle i) [R.VIM_INST_STS i] :=
    (s.fset_keepsRegs (vimInstSts_mem i) 1).trans (State.raise_keepsRegs _ _ _ _)
  have hidle' : (s.becameIdle i).fget (R.VIM_INST_STS_IDLE i) = 1 :=
    congrArg InstPage.idle ((State.instPage_raise _ i _ _).trans (s.instPage_fset_idle i 1))
  have hevent : (s.becameIdle i).event (vimPage i) 3 = true :=
    State.raise_event_same ((s.fset_keepsRegs (vimInstSts_mem i) 1).alive_of_sts i hal) (by decide)
  have hcmd : (s.becameIdle i).inst i = s.inst i := by
    rw [State.becameIdle, State.inst_raise, State.inst_fset]
  have hring (q : Nat) : (s.becameIdle i).ring i q = s.ring i q := State.ring_of_rest (State.raise_rest _ _ _) i q
  have hfreeze := (s.becameIdle i).startFreezeFences_freeze i
  have hregs := (s.becameIdle i).startFreezeFences_regs i
  have hvault := exec_vault_of_not_writesVault rfl hexec
  refine ⟨_, hexec, ?_⟩
  generalize s.becameIdle i = u at *
  have hflag : u.flag (R.VIM_INST_STS_IDLE i) = true := by
    rw [State.flag_eq, hidle']
    rfl
  split at hvault
  · rw [if_pos ‹_›]
    refine ⟨?_, ?_, hkeeps.trans (.of_regs hregs _), fun _ q hq => .inl (hfreeze q hq), hvault⟩
    · rw [State.flag_eq, State.fget_of_reg (State.reg_eq_of_regs hregs _), ← State.flag_eq, hflag]
    · rw [State.event_of_reg (State.reg_eq_of_regs hregs _), hevent]
  · next hnot =>
    rw [if_neg ‹_›]
    refine ⟨hflag, hevent, hkeeps, fun h3 q hq => .inr ?_, hvault⟩
    simp only [hcmd, hring, h3, true_and, List.all_eq_true, not_forall, upTo, List.mem_range] at hnot
    obtain ⟨k, hk, hsome⟩ := hnot
    exact ⟨k, hk, by simpa [Option.isSome_iff_ne_none] using hsome⟩

end Clauses

end Sys2Proof.Machine
end

section
/-! PROOFS. BME_CLEAR and POWER_STATE_D3HOT (R156, R190, R200 to R202): what stops, ring by ring. -/

namespace Sys2Proof.Machine

set_option Elab.async false

/-! ### What leaves the shadow registers alone -/

theorem State.raise_shadows (s : State) (page ev : Nat) : (s.raise page ev).shadows = s.shadows :=
  congrArg EgressView.shadows (s.raise_egressView page ev)

theorem State.discardLog_shadows (s : State) (e i q : Nat) (read : W64 × Nat × Nat) (cause : Nat) :
    (s.discardLog e i q read cause).shadows = s.shadows := by
  unfold State.discardLog
  extract_lets k v s1
  exact (State.raise_shadows _ _ _).trans (State.bump_shadows _ _)

theorem State.discardAhead_shadows (s : State) (i q cause : Nat) : (s.discardAhead i q cause).shadows = s.shadows := by
  rw [State.discardAhead_eq]
  exact List.foldlRecOn _ _ (motive := fun u : State => u.shadows = s.shadows) rfl
    fun u hu x _ => (State.discardLog_shadows u _ i q x cause).trans hu

/-! ### What one ring's turn leaves -/

/-- What happens to ring `q` of instance `i` leaves its other rings, their registers, the instance's page and every shadow
register. -/
structure RingTurn (i q : Nat) (s t : State) : Prop where
  ring : ∀ p, p ≠ q → t.ring i p = s.ring i p
  qreg : ∀ p, p < 4 → p ≠ q → ∀ off, off < 256 → t.qreg i p off = s.qreg i p off
  page : t.instPage i = s.instPage i
  shadows : t.shadows = s.shadows

theorem RingTurn.trans {i q : Nat} {s t u : State} (h : RingTurn i q s t) (h' : RingTurn i q t u) : RingTurn i q s u where
  ring p hp := (h'.ring p hp).trans (h.ring p hp)
  qreg p hp hpq off hoff := (h'.qreg p hp hpq off hoff).trans (h.qreg p hp hpq off hoff)
  page := h'.page.trans h.page
  shadows := h'.shadows.trans h.shadows

theorem RingTurn.refl (i q : Nat) (s : State) : RingTurn i q s s :=
  ⟨fun _ _ => rfl, fun _ _ _ _ _ => rfl, rfl, rfl⟩

section Turns
variable (s : State) (i q : Nat)

theorem State.discardAhead_turn (cause : Nat) : RingTurn i q s (s.discardAhead i q cause) where
  ring p hp := s.discardAhead_ring_ne i q cause (by omega)
  qreg p _ _ off _ := State.qreg_of_bar (s.discardAhead_sameBar0 i q cause i) p off
  page := s.instPage_discardAhead i i q cause
  shadows := s.discardAhead_shadows i q cause

theorem State.modRing_turn (f : RingSt → RingSt) : RingTurn i q s (s.modRing i q f) where
  ring p hp := s.ring_modRing_ne (by omega) f
  qreg _ _ _ _ _ := rfl
  page := s.instPage_modRing i i q f
  shadows := rfl

theorem State.modEngTags_turn (f : EngTag → EngTag) : RingTurn i q s (s.modEngTags f) where
  ring _ _ := rfl
  qreg _ _ _ _ _ := rfl
  page := s.instPage_modEngTags i f
  shadows := rfl

theorem State.setQreg_turn {off : Nat} (hoff : off < 256) (v : Nat) : RingTurn i q s (s.setQreg i q off v) where
  ring _ _ := rfl
  qreg p _ hpq off' hoff' := congrArg BitVec.toNat (s.bar_setBar_ne (by omega) _)
  page := State.instPage_of_regs rfl i
  shadows := rfl

theorem State.putQreg_turn {off : Nat} (hoff : off < 256) (hi lo v : Nat) : RingTurn i q s (s.putQreg i q off hi lo v) :=
  s.setQreg_turn i q hoff _

theorem State.report_turn (a page ev : Nat) : RingTurn i q s ((s.bump a).raise page ev) where
  ring p _ := State.ring_of_rest ((State.raise_rest _ _ _).trans (s.bump_rest a)) i p
  qreg p _ _ off _ := State.qreg_of_bar
    ((SameBar0.of_bars (s.bump_bars a)).trans (State.raise_sameBar0 _ page ev) i) p off
  page := (State.instPage_raise _ i page ev).trans (State.instPage_of_regs (s.bump_regs a) i)
  shadows := (State.raise_shadows _ page ev).trans (s.bump_shadows a)

theorem State.pendVector_qreg (v : Nat) {p off : Nat} (hp : p < 4) (hoff : off < 256) :
    (s.pendVector i q v).qreg i p off = s.qreg i p off :=
  congrArg BitVec.toNat (s.bar_setBar_ne (by omega) _)

theorem State.pendVector_turn (v : Nat) : RingTurn i q s (s.pendVector i q v) where
  ring _ _ := rfl
  qreg _ hp _ _ hoff := s.pendVector_qreg i q v hp hoff
  page := State.instPage_of_regs rfl i
  shadows := rfl

end Turns

/-! ### A ring that halts (R169) -/

/-- The registers of a ring that has halted: HALTED with a status, at an index. -/
def State.haltMarked (s : State) (i q n status : Nat) : State :=
  ((s.putQreg i q qSTS 2 0 4).putQreg i q qSTS 15 8 status).setQreg i q qHALT_IDX n

/-- ERR_VEC's message of a ring that halted is due where its vector is enabled. -/
def State.haltVector (s : State) (i q : Nat) : State :=
  if bit (s.qreg i q qCFG) 15 then s.pendVector i q (bits (s.qreg i q qCFG) 14 12) else s

section Halt
variable (s : State) (i q n status : Nat)

theorem State.haltRing_eq : s.haltRing i q n status =
    ((((s.discardAhead i q dSTOP).haltMarked i q n status).bump (R.ENG_HALTS (s.engineOf i q))).raise
      (0x200 + s.engineOf i q) 0).haltVector i q := rfl

theorem State.haltMarked_turn : RingTurn i q s (s.haltMarked i q n status) :=
  ((s.putQreg_turn i q (by decide) _ _ _).trans (State.putQreg_turn _ i q (by decide) _ _ _)).trans
    (State.setQreg_turn _ i q (by decide) _)

theorem State.haltVector_turn : RingTurn i q s (s.haltVector i q) := by
  unfold State.haltVector
  split
  · exact s.pendVector_turn i q _
  · exact .refl i q s

theorem State.haltVector_ring : (s.haltVector i q).ring i q = s.ring i q := by
  unfold State.haltVector
  split <;> rfl

theorem State.haltVector_qreg {off : Nat} (hq : q < 4) (hoff : off < 256) : (s.haltVector i q).qreg i q off = s.qreg i q off := by
  unfold State.haltVector
  split
  · exact s.pendVector_qreg i q _ hq hoff
  · rfl

theorem State.haltMarked_halted : (s.haltMarked i q n status).halted i q = true := by
  rw [State.halted, State.haltMarked, State.qreg_setQreg_ne _ _ _ (by decide),
    State.bits_putQreg_ne _ _ _ (by decide) (by decide) (by decide) (by decide),
    State.bits_putQreg_same _ _ _ (by decide) (by decide)]
  rfl

theorem State.haltMarked_status : bits ((s.haltMarked i q n status).qreg i q qSTS) 15 8 = status % 256 := by
  rw [State.haltMarked, State.qreg_setQreg_ne _ _ _ (by decide), State.bits_putQreg_same _ _ _ (by decide) (by decide)]
  rfl

theorem State.haltMarked_ring : (s.haltMarked i q n status).ring i q = s.ring i q := rfl

theorem State.haltMarked_qreg {off : Nat} (hsts : off ≠ qSTS) (hidx : off ≠ qHALT_IDX) :
    (s.haltMarked i q n status).qreg i q off = s.qreg i q off := by
  rw [State.haltMarked, State.qreg_setQreg_ne _ _ _ hidx, State.qreg_putQreg_ne _ _ _ hsts, State.qreg_putQreg_ne _ _ _ hsts]

theorem State.haltRing_turn : RingTurn i q s (s.haltRing i q n status) := by
  rw [State.haltRing_eq]
  exact (((s.discardAhead_turn i q _).trans (State.haltMarked_turn _ i q n status)).trans
    (State.report_turn _ i q _ _ _)).trans (State.haltVector_turn _ i q)

theorem State.haltRing_ring : (s.haltRing i q n status).ring i q = { s.ring i q with ahead := [] } := by
  rw [State.haltRing_eq, State.haltVector_ring, State.ring_of_rest (State.raise_rest _ _ _),
    State.ring_of_rest (State.bump_rest _ _), State.haltMarked_ring, s.discardAhead_ring_same i q dSTOP]

theorem State.haltRing_qreg {off : Nat} (hq : q < 4) (hoff : off < 256) :
    (s.haltRing i q n status).qreg i q off = ((s.discardAhead i q dSTOP).haltMarked i q n status).qreg i q off := by
  rw [State.haltRing_eq, State.haltVector_qreg _ i q hq hoff]
  exact State.qreg_of_bar ((SameBar0.of_bars (State.bump_bars _ _)).trans (State.raise_sameBar0 _ _ _) i) q off

theorem State.haltRing_qregs (hq : q < 4) : (s.haltRing i q n status).halted i q = true ∧
    bits ((s.haltRing i q n status).qreg i q qSTS) 15 8 = status % 256 ∧
    (s.haltRing i q n status).qreg i q qDONE = s.qreg i q qDONE := by
  refine ⟨?_, ?_, ?_⟩
  · rw [State.halted, State.haltRing_qreg _ _ _ _ _ hq (by decide), ← State.halted, State.haltMarked_halted]
  · rw [State.haltRing_qreg _ _ _ _ _ hq (by decide), State.haltMarked_status]
  · rw [State.haltRing_qreg _ _ _ _ _ hq (by decide), State.haltMarked_qreg _ _ _ _ _ (by decide) (by decide)]
    exact State.qreg_of_bar (s.discardAhead_sameBar0 i q dSTOP i) q qDONE

end Halt

/-! ### A ring disabled (R156) -/

section RingOff
variable (s : State) (i q : Nat)

/-- Fetches of a ring on their way discarded. -/
def State.fetchesDropped (s : State) (i q : Nat) : State :=
  s.modEngTags fun t => if t.inst = i ∧ t.ring = q ∧ (match t.why with
    | .fetch _ => true
    | _ => false) = true then { t with discard := true } else t

theorem State.fetchesDropped_qreg (j p off : Nat) : (s.fetchesDropped i q).qreg j p off = s.qreg j p off := rfl

theorem State.ringOff_eq : s.ringOff i q =
    (((((s.discardAhead i q dSTOP).fetchesDropped i q).modRing i q fun r => { dest := r.destNow, freeze := r.freeze }).putQreg
      i q qCFG 16 16 0).putQreg i q qSTS 2 0 0) := rfl

theorem State.ringOff_turn : RingTurn i q s (s.ringOff i q) := by
  rw [State.ringOff_eq]
  exact ((((s.discardAhead_turn i q _).trans (State.modEngTags_turn _ i q _)).trans (State.modRing_turn _ i q _)).trans
    (State.putQreg_turn _ i q (by decide) _ _ _)).trans (State.putQreg_turn _ i q (by decide) _ _ _)

theorem State.ringOff_runs : ((s.ringOff i q).ring i q).runs = [] := by
  rw [State.ringOff_eq, State.putQreg_ring, State.putQreg_ring, State.ring_modRing_same]

theorem State.ringOff_halted : (s.ringOff i q).halted i q = false :=
  State.putQreg_halted _ i q 0 (by decide)

theorem State.ringOff_status : bits ((s.ringOff i q).qreg i q qSTS) 15 8 = bits (s.qreg i q qSTS) 15 8 := by
  rw [State.ringOff_eq, State.bits_putQreg_ne _ _ _ (by decide) (by decide) (by decide) (by decide),
    State.qreg_putQreg_ne _ _ _ (by decide), State.modRing_qreg, State.fetchesDropped_qreg,
    State.qreg_of_bar (s.discardAhead_sameBar0 i q dSTOP i)]

theorem State.ringOff_done : (s.ringOff i q).qreg i q qDONE = s.qreg i q qDONE := by
  rw [State.ringOff_eq, State.qreg_putQreg_ne _ _ _ (by decide), State.qreg_putQreg_ne _ _ _ (by decide),
    State.modRing_qreg, State.fetchesDropped_qreg, State.qreg_of_bar (s.discardAhead_sameBar0 i q dSTOP i)]

end RingOff

/-! ### One ring of an instance that may not issue any more (R200, R202) -/

/-- A ring whose started descriptors are withdrawn: a FREEZE waits for its tags alone. -/
def RingSt.bmeStopped (r : RingSt) : RingSt :=
  { r with
    runs := [], fetched := [], dest := r.destNow, implicit := none
    freeze := r.freeze.map fun f => { f with toRead := [], outstanding := 0 } }

/-- A ring that halts with BME_OFF behind `k` descriptors, the last of them `n`. -/
def State.bmeHalted (s : State) (i q n k : Nat) : State :=
  ((s.setQreg i q qDONE ((s.qreg i q qDONE + k) % 2 ^ 32)).haltRing i q n stBME_OFF).settleOff i q

/-- One ring's turn. -/
def State.bmeRing (s : State) (i q : Nat) : State :=
  let runs := ((s.discardAhead i q dBME).ring i q).runs
  let s := (s.discardAhead i q dBME).modRing i q RingSt.bmeStopped
  match runs.getLast? with
  | none => s
  | some d => s.bmeHalted i q d.n runs.length

theorem State.stopBme_eq (s : State) (i : Nat) : s.stopBme i =
    ((upTo 4).foldl (fun s q => s.bmeRing i q)
      (if (s.inst i).cmd = 3 ∧ (s.inst i).cmdStart = s.now then s.stopIsBme i else s)).modEngTags fun t =>
        if t.inst = i then { t with discard := true } else t := rfl

section BmeHalted
variable (s : State) (i q n k : Nat)

theorem State.settleOff_turn : RingTurn i q s (s.settleOff i q) := by
  unfold State.settleOff
  split
  · exact s.ringOff_turn i q
  · exact .refl i q s

theorem State.bmeHalted_turn : RingTurn i q s (s.bmeHalted i q n k) :=
  ((s.setQreg_turn i q (by decide) _).trans (State.haltRing_turn _ i q _ _)).trans (State.settleOff_turn _ i q)

/-- The ring halts with BME_OFF, or is disabled where that waited for its descriptors. -/
theorem State.bmeHalted_facts (hq : q < 4) (hruns : (s.ring i q).runs = []) (hfetched : (s.ring i q).fetched = []) :
    ((s.bmeHalted i q n k).ring i q).runs = [] ∧ ((s.bmeHalted i q n k).ring i q).fetched = [] ∧
    (s.bmeHalted i q n k).halted i q = !(s.ring i q).disabling ∧
    bits ((s.bmeHalted i q n k).qreg i q qSTS) 15 8 = stBME_OFF ∧
    (s.bmeHalted i q n k).qreg i q qDONE = (s.qreg i q qDONE + k) % 2 ^ 32 ∧
    ((s.ring i q).disabling = true → (s.bmeHalted i q n k).qEnabled i q = false) := by
  unfold State.bmeHalted
  obtain ⟨hhalted, hstatus, hdone⟩ :=
    (s.setQreg i q qDONE ((s.qreg i q qDONE + k) % 2 ^ 32)).haltRing_qregs i q n stBME_OFF hq
  rw [State.qreg_setQreg_same, Nat.mod_mod] at hdone
  have hring := (s.setQreg i q qDONE ((s.qreg i q qDONE + k) % 2 ^ 32)).haltRing_ring i q n stBME_OFF
  rw [State.setQreg_ring] at hring
  generalize (s.setQreg i q qDONE ((s.qreg i q qDONE + k) % 2 ^ 32)).haltRing i q n stBME_OFF = u at *
  rw [State.settleOff, hring]
  dsimp only
  rw [hruns]
  cases hdis : (s.ring i q).disabling with
  | true =>
    rw [if_pos (by simp)]
    exact ⟨u.ringOff_runs i q, u.ringOff_fetched i q, u.ringOff_halted i q, (u.ringOff_status i q).trans hstatus,
      (u.ringOff_done i q).trans hdone, fun _ => u.ringOff_qEnabled i q⟩
  | false =>
    rw [if_neg (by simp)]
    refine ⟨?_, ?_, hhalted, hstatus, hdone, fun h => absurd h (by decide)⟩
    · rw [hring]
      exact hruns
    · rw [hring]
      exact hfetched

end BmeHalted

/-- What a ring's turn makes of it, given the ring as it was and its count DONE. -/
structure BmeStopped (i q : Nat) (r : RingSt) (done : Nat) (t : State) : Prop where
  runs : (t.ring i q).runs = []
  fetched : (t.ring i q).fetched = []
  started : r.runs ≠ [] → t.halted i q = !r.disabling ∧ bits (t.qreg i q qSTS) 15 8 = stBME_OFF ∧
    t.qreg i q qDONE = (done + r.runs.length) % 2 ^ 32 ∧ (r.disabling = true → t.qEnabled i q = false)

section BmeRing
variable (s : State) (i q : Nat)

theorem State.bmeRing_turn : RingTurn i q s (s.bmeRing i q) := by
  have hstop : RingTurn i q s ((s.discardAhead i q dBME).modRing i q RingSt.bmeStopped) :=
    (s.discardAhead_turn i q _).trans (State.modRing_turn _ i q _)
  unfold State.bmeRing
  dsimp only
  split
  · exact hstop
  · exact hstop.trans (State.bmeHalted_turn _ i q _ _)

theorem State.bmeRing_stopped (hq : q < 4) : BmeStopped i q (s.ring i q) (s.qreg i q qDONE) (s.bmeRing i q) := by
  have hring : ((s.discardAhead i q dBME).modRing i q RingSt.bmeStopped).ring i q =
      RingSt.bmeStopped { s.ring i q with ahead := [] } := by
    rw [State.ring_modRing_same, State.discardAhead_ring_same]
  have hdone : ((s.discardAhead i q dBME).modRing i q RingSt.bmeStopped).qreg i q qDONE = s.qreg i q qDONE :=
    State.qreg_of_bar (s.discardAhead_sameBar0 i q dBME i) q qDONE
  unfold State.bmeRing
  dsimp only
  rw [s.discardAhead_ring_same i q dBME]
  dsimp only
  generalize (s.discardAhead i q dBME).modRing i q RingSt.bmeStopped = u at *
  have hruns : (u.ring i q).runs = [] := by rw [hring]; rfl
  have hfetched : (u.ring i q).fetched = [] := by rw [hring]; rfl
  have hdis : (u.ring i q).disabling = (s.ring i q).disabling := by rw [hring]; rfl
  cases hlast : (s.ring i q).runs.getLast? with
  | none => exact ⟨hruns, hfetched, fun h => absurd (List.getLast?_eq_none_iff.mp hlast) h⟩
  | some d =>
    obtain ⟨hruns', hfetched', hrest⟩ := u.bmeHalted_facts i q d.n (s.ring i q).runs.length hq hruns hfetched
    rw [hdis, hdone] at hrest
    exact ⟨hruns', hfetched', fun _ => hrest⟩

/-- A ring's outcome stands while the other rings take their turns. -/
theorem BmeStopped.of_turn {i p q : Nat} {r : RingSt} {done : Nat} {u t : State} (hq : q < 4) (hpq : p ≠ q)
    (hturn : RingTurn i p u t) (h : BmeStopped i q r done u) : BmeStopped i q r done t := by
  have hring := hturn.ring q hpq.symm
  have hqreg := hturn.qreg q hq hpq.symm
  refine ⟨hring ▸ h.runs, hring ▸ h.fetched, fun hne => ?_⟩
  rw [State.halted, State.qEnabled, hqreg _ (by decide), hqreg _ (by decide), hqreg _ (by decide)]
  exact h.started hne

end BmeRing

/-- Every ring of an instance after its turn. -/
theorem State.bmeRings_stopped (s : State) (i : Nat) : ∀ q, q < 4 →
    BmeStopped i q (s.ring i q) (s.qreg i q qDONE) ((upTo 4).foldl (fun u q => u.bmeRing i q) s) := by
  have hall := foldl_upTo_turns (n := 4) (a := s) (f := fun (u : State) q => u.bmeRing i q)
    (P := fun q (u : State) => q < 4 → u.ring i q = s.ring i q ∧ u.qreg i q qDONE = s.qreg i q qDONE)
    (Q := fun q (u : State) => q < 4 → BmeStopped i q (s.ring i q) (s.qreg i q qDONE) u)
    (fun u q _ h hq => by
      obtain ⟨hring, hdone⟩ := h hq
      rw [← hring, ← hdone]
      exact u.bmeRing_stopped i q hq)
    (fun u p q hpq _ h hq => ⟨((u.bmeRing_turn i p).ring q hpq.symm).trans (h hq).1,
      ((u.bmeRing_turn i p).qreg q hq hpq.symm _ (by decide)).trans (h hq).2⟩)
    (fun u p q hpq _ h hq => (h hq).of_turn hq hpq (u.bmeRing_turn i p)) fun _ _ _ => ⟨rfl, rfl⟩
  exact fun q hq => hall q hq hq

/-- The turns of all rings leave the instance's page and the shadow registers. -/
theorem State.bmeRings_rest (s : State) (i : Nat) :
    ((upTo 4).foldl (fun u q => u.bmeRing i q) s).instPage i = s.instPage i ∧
    ((upTo 4).foldl (fun u q => u.bmeRing i q) s).shadows = s.shadows :=
  List.foldlRecOn (upTo 4) _ (motive := fun u : State => u.instPage i = s.instPage i ∧ u.shadows = s.shadows) ⟨rfl, rfl⟩
    fun u hu q _ => ⟨(State.bmeRing_turn u i q).page.trans hu.1, (State.bmeRing_turn u i q).shadows.trans hu.2⟩

/-! ### Discarded reads logged anew (R180, R202) -/

/-- What a change of tables leaves. -/
structure OnlyTables (s t : State) : Prop where
  regs : t.regs = s.regs
  rings : t.rings = s.rings
  bars : t.bars = s.bars
  shadows : t.shadows = s.shadows

theorem OnlyTables.refl (s : State) : OnlyTables s s := ⟨rfl, rfl, rfl, rfl⟩

theorem OnlyTables.setTbl {s t : State} (h : OnlyTables s t) (page table index : Nat) (v : W256) :
    OnlyTables s (t.setTbl page table index v) := ⟨h.regs, h.rings, h.bars, h.shadows⟩

theorem State.stopIsBme_onlyTables (s : State) (i : Nat) : OnlyTables s (s.stopIsBme i) := by
  unfold State.stopIsBme
  refine List.foldlRecOn (upTo 16) _ (motive := OnlyTables s) (.refl s) fun u hu e _ => ?_
  refine List.foldlRecOn (upTo 16) _ (motive := OnlyTables s) hu fun v hv k _ => ?_
  dsimp only
  split
  · exact hv.setTbl _ _ _ _
  · exact hv

/-- What stops an instance's issue leaves of it (R200, R202). -/
theorem State.stopBme_facts (s : State) (i : Nat) :
    (s.stopBme i).instPage i = s.instPage i ∧ (s.stopBme i).shadows = s.shadows ∧
    (∀ x ∈ (s.stopBme i).engTags, x.inst = i → x.discard = true) ∧
    ∀ q, q < 4 → BmeStopped i q (s.ring i q) (s.qreg i q qDONE) (s.stopBme i) := by
  have htables : OnlyTables s (if (s.inst i).cmd = 3 ∧ (s.inst i).cmdStart = s.now then s.stopIsBme i else s) := by
    split
    · exact s.stopIsBme_onlyTables i
    · exact .refl s
  rw [State.stopBme_eq]
  generalize (if (s.inst i).cmd = 3 ∧ (s.inst i).cmdStart = s.now then s.stopIsBme i else s) = u at htables
  obtain ⟨hpage, hshadows⟩ := u.bmeRings_rest i
  have hrings := u.bmeRings_stopped i
  generalize (upTo 4).foldl (fun u q => u.bmeRing i q) u = v at hpage hshadows hrings ⊢
  refine ⟨hpage.trans (State.instPage_of_regs htables.regs i), hshadows.trans htables.shadows, ?_, fun q hq => ?_⟩
  · intro x hx hinst
    obtain ⟨y, -, rfl⟩ := List.mem_map.mp hx
    by_cases hy : y.inst = i
    · rw [if_pos hy]
    · rw [if_neg hy] at hinst
      exact absurd hinst hy
  · have hdone : u.qreg i q qDONE = s.qreg i q qDONE := State.qreg_of_bar (fun off => State.bar_of_bars htables.bars _ off) q qDONE
    have hstopped := hrings q hq
    rw [State.ring_of_rings htables.rings, hdone] at hstopped
    exact ⟨hstopped.runs, hstopped.fetched, hstopped.started⟩

/-! ### The two commands -/

theorem State.cfgBits_putCfg_same (s : State) (fn off : Nat) {hi lo : Nat} (h : lo ≤ hi) (hlt : hi < 32) (v : Nat) :
    (s.putCfg fn off hi lo v).cfgBits fn off hi lo = v % 2 ^ (hi - lo + 1) := by
  have hcfg : (s.putCfg fn off hi lo v).cfg fn off = BitVec.ofNat 32 (putBits (s.cfg fn off).toNat hi lo v) :=
    storeGet_storePut_same _ _ _ _
  rw [State.cfgBits, hcfg, BitVec.toNat_ofNat, bits_mod _ _ _ _ h hlt, bits_putBits_same _ _ _ _ h]

theorem State.cfgBits_of_shadows {s t : State} (h : t.shadows = s.shadows) (fn off hi lo : Nat) :
    t.cfgBits fn off hi lo = s.cfgBits fn off hi lo :=
  congrArg (fun w : W32 => bits w.toNat hi lo) (s.cfg_of_shadows h fn off)

section Clauses
variable {s : State} {i : Nat} (hi : i < 512)
include hi

theorem exec_bmeClear : exec (.bmeClear i) s =
    .next (if s.instPresent i && s.busMaster (Fn.inst i).num && s.instState i != iRESETTING
      then (s.putCfg (Fn.inst i).num cCommand 2 2 0).stopBme i else s) := by
  change execBmeClear i s = _
  rw [execBmeClear, Nat.mod_eq_of_lt hi]
  rfl

theorem exec_powerStateD3hot : exec (.powerStateD3hot i) s =
    .next (if s.instPresent i && !s.d3hot (Fn.inst i).num && s.instState i != iRESETTING
      then ((s.putCfg (Fn.inst i).num cPmcsr 1 0 3).fset (R.VIM_INST_STS_D3HOT i) 1).stopBme i else s) := by
  change execPowerStateD3hot i s = _
  rw [execPowerStateD3hot, Nat.mod_eq_of_lt hi]
  rfl

omit hi in
/-- What the two commands leave of an instance's tags and rings. -/
theorem State.stopBme_rings {s u : State} (hrings : u.rings = s.rings) (hbars : u.bars = s.bars) (i : Nat) :
    (∀ x ∈ (u.stopBme i).engTags, x.inst = i → x.discard = true) ∧
    ∀ q, q < 4 → ((u.stopBme i).ring i q).runs = [] ∧ ((u.stopBme i).ring i q).fetched = [] ∧
      ((s.ring i q).runs ≠ [] → (u.stopBme i).halted i q = !(s.ring i q).disabling ∧
        bits ((u.stopBme i).qreg i q qSTS) 15 8 = stBME_OFF ∧
        (u.stopBme i).qreg i q qDONE = (s.qreg i q qDONE + (s.ring i q).runs.length) % 2 ^ 32 ∧
        ((s.ring i q).disabling = true → (u.stopBme i).qEnabled i q = false)) := by
  obtain ⟨-, -, htags, hstopped⟩ := u.stopBme_facts i
  refine ⟨htags, fun q hq => ?_⟩
  have h := hstopped q hq
  rw [State.ring_of_rings hrings, State.qreg_of_bar (fun off => State.bar_of_bars hbars _ off) q qDONE] at h
  exact ⟨h.runs, h.fetched, h.started⟩

/-- The clause of BME_CLEAR and POWER_STATE_D3HOT, for one that acts or does not. -/
theorem issueStop_does : ∀ c ∈ [(Instr.bmeClear i, false), (.powerStateD3hot i, true)],
    ∀ acts : Bool, acts = (s.instPresent i && s.instState i != iRESETTING &&
      if c.2 then !s.d3hot (Fn.inst i).num else s.busMaster (Fn.inst i).num) →
      (acts = false → exec c.1 s = .next s) ∧
      (acts = true → Does c.1 s fun t => (c.2 = false → t.busMaster (Fn.inst i).num = false) ∧
        (c.2 = true → t.d3hot (Fn.inst i).num = true ∧ t.flag (R.VIM_INST_STS_D3HOT i) = true) ∧
        (∀ x ∈ t.engTags, x.inst = i → x.discard = true) ∧
        (∀ q, q < 4 → (t.ring i q).runs = [] ∧ (t.ring i q).fetched = [] ∧
          ((s.ring i q).runs ≠ [] → t.halted i q = !(s.ring i q).disabling ∧ bits (t.qreg i q qSTS) 15 8 = stBME_OFF ∧
            t.qreg i q qDONE = (s.qreg i q qDONE + (s.ring i q).runs.length) % 2 ^ 32 ∧
            ((s.ring i q).disabling = true → t.qEnabled i q = false))) ∧ t.vault = s.vault) := by
  intro c hc acts hacts
  simp only [List.mem_cons, List.not_mem_nil, or_false] at hc
  rcases hc with rfl | rfl
  · have hexec := exec_bmeClear (s := s) hi
    rw [Bool.and_right_comm, show (s.instPresent i && s.instState i != iRESETTING && s.busMaster (Fn.inst i).num) = acts from
      hacts.symm] at hexec
    refine ⟨fun h => by rw [hexec, h, if_neg Bool.false_ne_true], fun h => ?_⟩
    rw [h, if_pos rfl] at hexec
    obtain ⟨-, hshadows, -⟩ := (s.putCfg (Fn.inst i).num cCommand 2 2 0).stopBme_facts i
    obtain ⟨htags, hrings⟩ := State.stopBme_rings (s := s) (u := s.putCfg (Fn.inst i).num cCommand 2 2 0) rfl rfl i
    refine ⟨_, hexec, fun _ => ?_, fun h => absurd h Bool.false_ne_true, htags, hrings, exec_vault_of_not_writesVault rfl hexec⟩
    rw [State.busMaster, State.cfgBits_of_shadows hshadows, State.cfgBits_putCfg_same _ _ _ (by decide) (by decide)]
    rfl
  · have hexec := exec_powerStateD3hot (s := s) hi
    rw [Bool.and_right_comm, show (s.instPresent i && s.instState i != iRESETTING && !s.d3hot (Fn.inst i).num) = acts from
      hacts.symm] at hexec
    refine ⟨fun h => by rw [hexec, h, if_neg Bool.false_ne_true], fun h => ?_⟩
    rw [h, if_pos rfl] at hexec
    obtain ⟨hpage, hshadows, -⟩ := ((s.putCfg (Fn.inst i).num cPmcsr 1 0 3).fset (R.VIM_INST_STS_D3HOT i) 1).stopBme_facts i
    rw [State.instPage_fset_d3hot] at hpage
    obtain ⟨htags, hrings⟩ := State.stopBme_rings (s := s)
      (u := (s.putCfg (Fn.inst i).num cPmcsr 1 0 3).fset (R.VIM_INST_STS_D3HOT i) 1) rfl rfl i
    refine ⟨_, hexec, fun h => absurd h.symm Bool.false_ne_true, fun _ => ⟨?_, ?_⟩, htags, hrings,
      exec_vault_of_not_writesVault rfl hexec⟩
    · have hcfg := State.cfgBits_of_shadows (s := s.putCfg (Fn.inst i).num cPmcsr 1 0 3) hshadows (Fn.inst i).num cPmcsr 1 0
      rw [State.d3hot, hcfg, State.cfgBits_putCfg_same _ _ _ (by decide) (by decide)]
      rfl
    · have hflag := congrArg InstPage.d3hot hpage
      exact beq_iff_eq.mpr hflag

end Clauses

/-- Settles O39: the headgate opens and closes, a quiet instance becomes idle, and an instance that may not issue any more
stops ring by ring. -/
theorem instanceIssue : Obligations.InstanceIssue := by
  unfold Obligations.InstanceIssue
  exact ⟨fun s i hi hal => ⟨exec_headgateOpen_of_resetting hi, headgateOpen_does hi, headgateClose_does hi,
    instanceIdle_does hi hal, exec_instanceIdle_of_not hi⟩, fun s i hi _ => issueStop_does hi⟩

end Sys2Proof.Machine
end

section
/-! PROOFS. What an error record leaves: the registers of other pages, shadow registers and BAR0 (R301 to R307). -/

namespace Sys2Proof.Machine

set_option Elab.async false

/-! ### An occurrence changes registers of its own page only (R36) -/

theorem reg_ne_of_page {page a off : Nat} (hoff : off < 4096) (h : a / 4096 ≠ page) : a ≠ page * 4096 + off := by
  omega

section Page
variable (s : State) {page a : Nat} (h : a / 4096 ≠ page)
include h

theorem State.evtWins_reg_ne : (s.evtWins page).reg a = s.reg a := by
  have h1 : a ≠ page * 4096 + 0x10 := reg_ne_of_page (by decide) h
  have h2 : a ≠ page * 4096 + 0x1C := reg_ne_of_page (by decide) h
  unfold State.evtWins
  extract_lets e s1 sts
  split
  · rfl
  · rw [State.reg_eq_of_regs (State.bumpBy_regs _ _ _), State.reg_setReg_ne h2, State.reg_setReg_ne h1]
    rfl

theorem State.marked_reg_ne (evs : List Nat) : (s.marked page evs).reg a = s.reg a := by
  have h1 : a ≠ page * 4096 + 0x10 := reg_ne_of_page (by decide) h
  have h2 : a ≠ page * 4096 + 0x1C := reg_ne_of_page (by decide) h
  unfold State.marked
  extract_lets s0 sts seq ev first low t
  have ht : t.reg a = s.reg a := (State.reg_setReg_ne h1).trans (s.evtWins_reg_ne h)
  split
  · exact (State.reg_setReg_ne h2).trans ht
  · exact ht

theorem State.raise_reg_ne (ev : Nat) : (s.raise page ev).reg a = s.reg a := by
  unfold State.raise
  split
  · rw [State.reg_eq_of_regs (s.raiseAll_onlyPosts page (List.cons_ne_nil _ _)).regs, s.marked_reg_ne h]
  · rfl

end Page

/-! ### Records -/

/-- Registers outside the ERR page, shadow registers and BAR0 of the instances read the same. -/
structure OnlyErrPage (s t : State) : Prop where
  reg : ∀ a, a / 4096 ≠ 0x50 → t.reg a = s.reg a
  shadows : t.shadows = s.shadows
  bar0 : SameBar0 s t

theorem OnlyErrPage.refl (s : State) : OnlyErrPage s s := ⟨fun _ _ => rfl, rfl, .refl s⟩

section OnlyErrPage
variable {s₀ s : State} (h : OnlyErrPage s₀ s)
include h

theorem OnlyErrPage.of {t : State} (hregs : t.regs = s.regs := by rfl) (hshadows : t.shadows = s.shadows := by rfl)
    (hbars : t.bars = s.bars := by rfl) : OnlyErrPage s₀ t where
  reg a ha := (State.reg_eq_of_regs hregs a).trans (h.reg a ha)
  shadows := hshadows.trans h.shadows
  bar0 := h.bar0.trans (.of_bars hbars)

theorem OnlyErrPage.fset {f : Fld} (hf : f.addr / 4096 = 0x50) (v : Nat) : OnlyErrPage s₀ (s.fset f v) where
  reg a ha := by
    rw [State.reg_fset_ne, h.reg a ha]
    rintro rfl
    exact ha hf
  shadows := h.shadows
  bar0 := h.bar0

theorem OnlyErrPage.bump (a : Nat) : OnlyErrPage s₀ (s.bump a) :=
  h.of (s.bump_regs a) (s.bump_shadows a) (s.bump_bars a)

theorem OnlyErrPage.raise (ev : Nat) : OnlyErrPage s₀ (s.raise 0x50 ev) where
  reg a ha := (s.raise_reg_ne ha ev).trans (h.reg a ha)
  shadows := (s.raise_shadows 0x50 ev).trans h.shadows
  bar0 := h.bar0.trans (s.raise_sameBar0 0x50 ev)

theorem OnlyErrPage.foldl {α : Type} {f : State → α → State} (l : List α)
    (hf : ∀ u x, OnlyErrPage s₀ u → OnlyErrPage s₀ (f u x)) : OnlyErrPage s₀ (l.foldl f s) :=
  List.foldlRecOn l f h fun u hu x _ => hf u x hu

theorem OnlyErrPage.setLogSlot (slot v : Nat) : OnlyErrPage s₀ (s.setLogSlot slot v) :=
  h.foldl _ fun _ _ hu => hu.of

theorem OnlyErrPage.logRecord (v level : Nat) : OnlyErrPage s₀ (s.logRecord v level) := by
  unfold State.logRecord
  extract_lets slot s1 s2 s3 e s4 s5
  have h2 : OnlyErrPage s₀ s2 := (h.setLogSlot slot v).fset rfl _
  have h3 : OnlyErrPage s₀ s3 := by
    simp only [s3]
    split
    · exact h2.fset rfl _
    · exact h2
  have h4 : OnlyErrPage s₀ s4 := h3.of
  have h5 : OnlyErrPage s₀ s5 := by
    simp only [s5]
    split
    · exact (h4.fset rfl _).fset rfl _
    · exact h4
  exact (h5.bump _).raise _

theorem OnlyErrPage.deliverRecord (part : Nat) (bs : List Byte) : OnlyErrPage s₀ (s.deliverRecord part bs) := by
  unfold State.deliverRecord
  split
  · exact h
  · split
    · exact h.of
    · extract_lets prod s1 s2
      have h2 : OnlyErrPage s₀ (s2.ringOwed part) := by
        unfold State.ringOwed
        split <;> exact h.of
      exact (h2.bump _).raise _

theorem OnlyErrPage.swapRecords (a b : Nat) : OnlyErrPage s₀ (s.swapRecords a b) := by
  unfold State.swapRecords
  extract_lets x y later first has ring fatal fatal' cause e s1
  have h1 : OnlyErrPage s₀ s1 := h.of
  exact ((h1.setLogSlot a first).setLogSlot b later).fset rfl _

theorem OnlyErrPage.record (code level : Nat) (part : Option Nat) (port detail : Nat) :
    OnlyErrPage s₀ (s.record code level part port detail) := by
  unfold State.record
  extract_lets seq c recent after slot e1 s1 v e2 s2 s3 s4 c' s5
  have h3 : OnlyErrPage s₀ s3 := OnlyErrPage.logRecord (s := s2) h.of v level
  have h4 : OnlyErrPage s₀ s4 := by
    simp only [s4]
    split
    · exact h3.foldl _ fun u p hu => hu.deliverRecord p _
    · split
      · exact h3.deliverRecord _ _
      · exact h3
  have h5 : OnlyErrPage s₀ s5 := by
    simp only [s5]
    split
    · exact h4.foldl _ fun u j hu => hu.swapRecords _ _
    · exact OnlyErrPage.bump h.of _
  split
  · exact h5.raise _
  · exact h5

end OnlyErrPage

end Sys2Proof.Machine
end

section
/-! PROOFS. Commands of an instance that end (R196, R203, R205, R206). -/

namespace Sys2Proof.Machine

set_option Elab.async false

theorem regs_foldl {α : Type} (f : State → α → State) (l : List α) (s : State) (h : ∀ u x, (f u x).regs = u.regs) :
    (l.foldl f s).regs = s.regs :=
  List.foldlRecOn l f (motive := fun u => u.regs = s.regs) rfl fun u hu x _ => (h u x).trans hu

theorem State.setRing_regs (s : State) (i q : Nat) (r : RingSt) : (s.setRing i q r).regs = s.regs := rfl

theorem State.setBar_regs (s : State) (fn off : Nat) (v : W32) : (s.setBar fn off v).regs = s.regs := rfl

theorem State.cmdDone_shadows (s : State) (i : Nat) : (s.cmdDone i).shadows = s.shadows := State.raise_shadows _ _ _

theorem State.cmdFailed_coreReads (s : State) (i cause : Nat) : (s.cmdFailed i cause).coreReads = s.coreReads :=
  congrArg (·.coreReads) (State.cmdRefused_rest _ i cause)

theorem State.cmdDone_coreReads (s : State) (i : Nat) : (s.cmdDone i).coreReads = s.coreReads :=
  congrArg (·.coreReads) (State.raise_rest _ (vimPage i) 0)

section Ends
variable {s : State} {i : Nat} (hi : i < 512)
include hi

/-! ### CREATE_DONE and DESTROY_DONE (R186, R196) -/

theorem exec_createDone : exec (.createDone i) s = if (s.inst i).cmd != 1 then .next s else
    .next ((((s.dropFunction i).setInstState i iRESET).presence (((s.dropFunction i).setInstState i iRESET).instPart i)).cmdDone
      i) := by
  change execCreateDone i s = _
  rw [execCreateDone, Nat.mod_eq_of_lt hi]

theorem exec_destroyDone : exec (.destroyDone i) s = if (s.inst i).cmd != 2 then .next s else
    .next ((s.setInstState i iFREE).cmdDone i) := by
  change execDestroyDone i s = _
  rw [execDestroyDone, Nat.mod_eq_of_lt hi]

theorem exec_createDone_of_not (h : (s.inst i).cmd ≠ 1) : exec (.createDone i) s = .next s := by
  rw [exec_createDone hi, if_pos (bne_iff_ne.mpr h)]

theorem exec_destroyDone_of_not (h : (s.inst i).cmd ≠ 2) : exec (.destroyDone i) s = .next s := by
  rw [exec_destroyDone hi, if_pos (bne_iff_ne.mpr h)]

theorem createDone_does (h : (s.inst i).cmd = 1) : Does (.createDone i) s fun t => t.instState i = iRESET ∧
    t.fget (R.VIM_INST_STS_CMD_RESULT i) = 2 ∧
    (∀ off, off < 4096 → t.cfg (Fn.inst i).num off = cfgReset (Fn.inst i).num off) ∧ (t.inst i).cmd = 0 ∧ t.vault = s.vault := by
  have hexec := exec_createDone (s := s) hi
  rw [if_neg (by simp [h])] at hexec
  have hvault := exec_vault_of_not_writesVault rfl hexec
  have hcfg : ∀ off, off < 4096 → ((s.dropFunction i).setInstState i iRESET).cfg (Fn.inst i).num off =
      cfgReset (Fn.inst i).num off := fun off hoff => s.dropFunction_cfg i hoff
  have hstate := congrArg InstPage.state ((s.dropFunction i).instPage_setInstState i iRESET)
  refine ⟨_, hexec, ?_⟩
  generalize (s.dropFunction i).setInstState i iRESET = u at *
  have hdone := State.instPage_cmdDone (u.presence (u.instPart i)) i
  rw [State.instPage_presence] at hdone
  refine ⟨(congrArg InstPage.state hdone).trans hstate, congrArg InstPage.result hdone, fun off hoff => ?_,
    congrArg InstSt.cmd (State.inst_cmdDone _ i), hvault⟩
  rw [State.cfg_of_shadows _ (State.cmdDone_shadows _ i), State.presence_cfg _ _ (u.instPart_lt i) hoff, hcfg off hoff]

theorem destroyDone_does (hal : s.alive = true) (h : (s.inst i).cmd = 2) : Does (.destroyDone i) s fun t =>
    t.instState i = iFREE ∧ t.fget (R.VIM_INST_STS_CMD_RESULT i) = 2 ∧ (t.inst i).cmd = 0 ∧ t.event (vimPage i) 0 = true ∧
    KeepsRegs s t [R.VIM_INST_STS i] ∧ t.vault = s.vault := by
  have hexec := exec_destroyDone (s := s) hi
  rw [if_neg (by simp [h])] at hexec
  have hdone := State.instPage_cmdDone (s.setInstState i iFREE) i
  rw [State.instPage_setInstState] at hdone
  have hkeeps := s.setInstState_keepsRegs i iFREE
  exact ⟨_, hexec, congrArg InstPage.state hdone, congrArg InstPage.result hdone, congrArg InstSt.cmd (State.inst_cmdDone _ i),
    State.cmdDone_event i (hkeeps.alive_of_sts i hal), hkeeps.trans (State.cmdDone_keepsRegs _ i),
    exec_vault_of_not_writesVault rfl hexec⟩

/-! ### FREEZE_DONE (R203) -/

omit hi in
/-- Is the fence of every ring of an instance over? -/
def State.fencesOver (s : State) (i : Nat) : Bool := 
  ((upTo 4).map fun q => (s.ring i q).freeze).all fun f => match f with
    | some f => s.fenceOver f
    | none => false

/-- Has the fence of some ring of an instance failed? -/
def State.fenceFailed (s : State) (i : Nat) : Bool := 
  ((upTo 4).map fun q => (s.ring i q).freeze).any fun f => match f with
    | some f => f.failed
    | none => false

omit hi in
theorem State.fencesOver_eq (s : State) (i : Nat) :
    s.fencesOver i = (upTo 4).all fun q => (s.ring i q).freeze.any s.fenceOver := by
  rw [State.fencesOver, List.all_map]
  refine congrArg (List.all (upTo 4)) (funext fun q => ?_)
  rw [Function.comp_apply]
  cases (s.ring i q).freeze <;> rfl

omit hi in
theorem State.fenceFailed_eq (s : State) (i : Nat) :
    s.fenceFailed i = (upTo 4).any fun q => (s.ring i q).freeze.any (·.failed) := by
  rw [State.fenceFailed, List.any_map]
  refine congrArg (List.any (upTo 4)) (funext fun q => ?_)
  rw [Function.comp_apply]
  cases (s.ring i q).freeze <;> rfl

/-- The fences of a FREEZE taken away, with the destination sets where none has failed. -/
def State.fencesTaken (s : State) (i : Nat) (failed : Bool) : State :=
  (upTo 4).foldl (fun s q => s.modRing i q fun r => { r with freeze := none, dest := if failed then r.dest else [] }) s

omit hi in
theorem State.fencesTaken_regs (s : State) (i : Nat) (failed : Bool) : (s.fencesTaken i failed).regs = s.regs :=
  List.foldlRecOn (upTo 4) _ (motive := fun u : State => u.regs = s.regs) rfl fun _ hu _ _ => hu

omit hi in
theorem State.fencesTaken_ring (s : State) (i : Nat) (failed : Bool) : ∀ q, q < 4 → (s.fencesTaken i failed).ring i q =
    { s.ring i q with freeze := none, dest := if failed then (s.ring i q).dest else [] } :=
  s.foldl_rings (g := fun r => { r with freeze := none, dest := if failed then r.dest else [] })
    (fun u q => u.ring_modRing_same i q _) fun u p q hpq => u.ring_modRing_ne (by omega) _

theorem exec_freezeDone : exec (.freezeDone i) s =
    if (s.inst i).cmd != 3 || !s.fencesOver i || !(s.instTags i).isEmpty then .next s
    else if s.fenceFailed i then .next (((s.fencesTaken i (s.fenceFailed i)).fset (R.VIM_INST_CTL_HG_OPEN i) 0).cmdFailed i ciXFER)
    else .next ((((s.fencesTaken i (s.fenceFailed i)).setInstState i iFROZEN).cmdDone i).refreshHg i) := by
  change execFreezeDone i s = _
  unfold execFreezeDone
  rw [Nat.mod_eq_of_lt hi]
  rfl

theorem exec_freezeDone_of_not (h : (s.inst i).cmd ≠ 3 ∨ s.instTags i ≠ [] ∨
    (upTo 4).any (fun q => ((s.ring i q).freeze.any s.fenceOver) == false) = true) : exec (.freezeDone i) s = .next s := by
  rw [exec_freezeDone hi, if_pos]
  rcases h with h | h | h
  · simp [h]
  · simp [h]
  · have hover : s.fencesOver i = false := by
      simpa [State.fencesOver_eq, List.all_eq_false] using h
    simp [hover]

section FreezeDone
variable (hcmd : (s.inst i).cmd = 3) (htags : s.instTags i = [])
  (hover : ∀ q, q < 4 → ∃ f, (s.ring i q).freeze = some f ∧ s.fenceOver f = true)
include hcmd htags hover

theorem exec_freezeDone_of_over : exec (.freezeDone i) s =
    if s.fenceFailed i then .next (((s.fencesTaken i (s.fenceFailed i)).fset (R.VIM_INST_CTL_HG_OPEN i) 0).cmdFailed i ciXFER)
    else .next ((((s.fencesTaken i (s.fenceFailed i)).setInstState i iFROZEN).cmdDone i).refreshHg i) := by
  have hall : s.fencesOver i = true := by
    simp only [State.fencesOver_eq, List.all_eq_true, upTo, List.mem_range]
    intro q hq
    obtain ⟨f, hf, hend⟩ := hover q hq
    rw [hf, Option.any_some, hend]
  rw [exec_freezeDone hi, if_neg (by simp [hcmd, htags, hall])]

theorem freezeDone_does_freeze (hnone : ∀ q f, q < 4 → (s.ring i q).freeze = some f → f.failed = false) :
    Does (.freezeDone i) s fun t => t.instState i = iFROZEN ∧ t.fget (R.VIM_INST_STS_CMD_RESULT i) = 2 ∧
      (∀ q, q < 4 → (t.ring i q).dest = [] ∧ (t.ring i q).freeze = none) ∧ t.vault = s.vault := by
  have hfailed : s.fenceFailed i = false := by
    simp only [State.fenceFailed_eq, List.any_eq_false, upTo, List.mem_range]
    intro q hq
    obtain ⟨f, hf, -⟩ := hover q hq
    rw [hf, Option.any_some, hnone q f hq hf]
    exact Bool.false_ne_true
  have hexec := exec_freezeDone_of_over hi hcmd htags hover
  rw [hfailed, if_neg Bool.false_ne_true] at hexec
  have hdone := State.instPage_refreshHg (((s.fencesTaken i false).setInstState i iFROZEN).cmdDone i) i
  rw [State.instPage_cmdDone, State.instPage_setInstState] at hdone
  refine ⟨_, hexec, congrArg InstPage.state hdone, congrArg InstPage.result hdone, fun q hq => ?_,
    exec_vault_of_not_writesVault rfl hexec⟩
  have hring : ((((s.fencesTaken i false).setInstState i iFROZEN).cmdDone i).refreshHg i).ring i q =
      (s.fencesTaken i false).ring i q :=
    (State.ring_of_rest (State.refreshHg_rest _ i) i q).trans (State.ring_of_rings (State.cmdDone_rings _ i) i q)
  rw [hring, s.fencesTaken_ring i false q hq]
  exact ⟨rfl, rfl⟩

theorem freezeDone_does_refuse (hsome : ∃ q f, q < 4 ∧ (s.ring i q).freeze = some f ∧ f.failed = true) :
    Does (.freezeDone i) s fun t => t.instState i = s.instState i ∧ t.fget (R.VIM_INST_STS_CMD_RESULT i) = 3 ∧
      t.fget (R.VIM_INST_STS_CAUSE i) = ciXFER ∧ t.flag (R.VIM_INST_CTL_HG_OPEN i) = false ∧ t.vault = s.vault := by
  have hfailed : s.fenceFailed i = true := by
    obtain ⟨q, f, hq, hf, hfail⟩ := hsome
    rw [State.fenceFailed_eq, List.any_eq_true]
    exact ⟨q, List.mem_range.mpr hq, by rw [hf, Option.any_some, hfail]⟩
  have hexec := exec_freezeDone_of_over hi hcmd htags hover
  rw [hfailed, if_pos rfl] at hexec
  have hpage := State.instPage_cmdFailed ((s.fencesTaken i true).fset (R.VIM_INST_CTL_HG_OPEN i) 0) i ciXFER
  rw [State.instPage_fset_hgOpen, State.instPage_of_regs (s.fencesTaken_regs i true)] at hpage
  refine ⟨_, hexec, congrArg InstPage.state hpage, congrArg InstPage.result hpage, congrArg InstPage.cause hpage, ?_,
    exec_vault_of_not_writesVault rfl hexec⟩
  have hopen : (((s.fencesTaken i true).fset (R.VIM_INST_CTL_HG_OPEN i) 0).cmdFailed i ciXFER).fget (R.VIM_INST_CTL_HG_OPEN i) = 0 :=
    congrArg InstPage.hgOpen hpage
  rw [State.flag_eq, hopen]
  rfl

end FreezeDone

/-! ### SAVE_DONE and SAVE_XFER_TIMEOUT (R205) -/

omit hi in
/-- The closing read of a SAVE taken away. -/
def State.closeTaken (s : State) (i : Nat) : State :=
  { s with coreReads := s.coreReads.filter fun x => x.why != .save i }

theorem exec_saveDone : exec (.saveDone i) s = match s.coreReads.find? fun r => r.why == .save i && r.done with
    | none => .next s
    | some r => if (s.inst i).cmd != 4 then .next (s.closeTaken i)
      else .next (if r.failed then (s.closeTaken i).cmdFailed i ciXFER else (s.closeTaken i).cmdDone i) := by
  change execSaveDone i s = _
  unfold execSaveDone
  rw [Nat.mod_eq_of_lt hi]
  rfl

theorem exec_saveDone_of_none (h : (s.coreReads.any fun r => r.why == .save i && r.done) = false) :
    exec (.saveDone i) s = .next s := by
  have hnone : (s.coreReads.find? fun r => r.why == .save i && r.done) = none := by
    rw [List.find?_eq_none]
    exact List.any_eq_false.mp h
  rw [exec_saveDone hi, hnone]

theorem exec_saveDone_of_some {r : CoreRead} (h : (s.coreReads.find? fun r => r.why == .save i && r.done) = some r) :
    exec (.saveDone i) s = if (s.inst i).cmd != 4 then .next (s.closeTaken i)
      else .next (if r.failed then (s.closeTaken i).cmdFailed i ciXFER else (s.closeTaken i).cmdDone i) := by
  rw [exec_saveDone hi, h]

theorem exec_saveDone_of_not (hcmd : (s.inst i).cmd ≠ 4) (h : (s.coreReads.any fun r => r.why == .save i && r.done) = true) :
    exec (.saveDone i) s = .next { s with coreReads := s.coreReads.filter fun x => x.why != .save i } := by
  obtain ⟨r, hr⟩ := Option.isSome_iff_exists.mp (List.find?_isSome.mpr (List.any_eq_true.mp h))
  rw [exec_saveDone_of_some hi hr, if_pos (bne_iff_ne.mpr hcmd)]
  rfl

theorem saveDone_does {r : CoreRead} (hcmd : (s.inst i).cmd = 4)
    (h : (s.coreReads.find? fun r => r.why == .save i && r.done) = some r) : Does (.saveDone i) s fun t =>
    t.fget (R.VIM_INST_STS_CMD_RESULT i) = (if r.failed then 3 else 2) ∧ (t.inst i).cmd = 0 ∧
    (∀ x ∈ t.coreReads, x.why ≠ .save i) ∧ KeepsRegs s t [R.VIM_INST_STS i] ∧ t.vault = s.vault := by
  have hexec := exec_saveDone_of_some hi h
  rw [if_neg (by simp [hcmd])] at hexec
  have hvault := exec_vault_of_not_writesVault rfl hexec
  have hgone : ∀ x ∈ (s.closeTaken i).coreReads, x.why ≠ .save i := fun x hx => bne_iff_ne.mp (List.mem_filter.mp hx).2
  have hregs : KeepsRegs s (s.closeTaken i) [R.VIM_INST_STS i] := .of_regs rfl _
  refine ⟨_, hexec, ?_⟩
  generalize s.closeTaken i = u at *
  cases hr : r.failed with
  | true =>
    rw [hr, if_pos rfl] at hvault
    rw [if_pos rfl, if_pos rfl]
    refine ⟨congrArg InstPage.result (u.instPage_cmdFailed i ciXFER), congrArg InstSt.cmd (u.inst_cmdFailed i ciXFER), ?_,
      hregs.trans (u.cmdFailed_keepsRegs i ciXFER), hvault⟩
    rwa [State.cmdFailed_coreReads]
  | false =>
    rw [hr, if_neg Bool.false_ne_true] at hvault
    rw [if_neg Bool.false_ne_true, if_neg Bool.false_ne_true]
    refine ⟨congrArg InstPage.result (u.instPage_cmdDone i), congrArg InstSt.cmd (u.inst_cmdDone i), ?_,
      hregs.trans (u.cmdDone_keepsRegs i), hvault⟩
    rwa [State.cmdDone_coreReads]

theorem exec_saveXferTimeout : exec (.saveXferTimeout i) s =
    if (s.inst i).cmd != 4 || decide (s.now ≤ (s.inst i).cmdStart + 12500000) then .next s
    else .next ((s.closeTaken i).cmdFailed i ciXFER) := by
  change execSaveXferTimeout i s = _
  unfold execSaveXferTimeout
  rw [Nat.mod_eq_of_lt hi]
  rfl

theorem exec_saveXferTimeout_of_not (h : (s.inst i).cmd ≠ 4 ∨ s.now ≤ (s.inst i).cmdStart + 12500000) :
    exec (.saveXferTimeout i) s = .next s := by
  rw [exec_saveXferTimeout hi, if_pos (by simpa using h)]

theorem saveXferTimeout_does (hcmd : (s.inst i).cmd = 4) (hlate : (s.inst i).cmdStart + 12500000 < s.now) :
    Does (.saveXferTimeout i) s fun t => t.fget (R.VIM_INST_STS_CMD_RESULT i) = 3 ∧
      t.fget (R.VIM_INST_STS_CAUSE i) = ciXFER ∧ (t.inst i).cmd = 0 ∧ KeepsRegs s t [R.VIM_INST_STS i] ∧
      t.vault = s.vault := by
  have hexec := exec_saveXferTimeout (s := s) hi
  rw [if_neg (by simp [hcmd, hlate])] at hexec
  have hpage := (s.closeTaken i).instPage_cmdFailed i ciXFER
  have hregs : KeepsRegs s (s.closeTaken i) [R.VIM_INST_STS i] := .of_regs rfl _
  exact ⟨_, hexec, congrArg InstPage.result hpage, congrArg InstPage.cause hpage,
    congrArg InstSt.cmd (State.inst_cmdFailed _ i ciXFER), hregs.trans (State.cmdFailed_keepsRegs _ i ciXFER),
    exec_vault_of_not_writesVault rfl hexec⟩

/-! ### RESTORE_DONE and RESTORE_XFER_TIMEOUT (R206) -/

omit hi in
/-- A RESTORE that fails leaves its instance FREE. -/
def State.restoreFailed (s : State) (i cause : Nat) : State := ((s.dropRestoreReads i).setInstState i iFREE).cmdFailed i cause

omit hi in
theorem State.dropRestoreReads_restoreReads (s : State) (i : Nat) : (s.dropRestoreReads i).restoreReads i = [] := by
  unfold State.dropRestoreReads State.restoreReads
  dsimp only
  rw [List.filter_filter, List.filter_eq_nil_iff]
  intro r _
  cases r.why <;> simp

omit hi in
theorem State.restoreFailed_facts (s : State) (i : Nat) {cause : Nat} (hc : cause < 16) :
    (s.restoreFailed i cause).instState i = iFREE ∧ (s.restoreFailed i cause).fget (R.VIM_INST_STS_CMD_RESULT i) = 3 ∧
    (s.restoreFailed i cause).fget (R.VIM_INST_STS_CAUSE i) = cause ∧ (s.restoreFailed i cause).restoreReads i = [] ∧
    KeepsRegs s (s.restoreFailed i cause) [R.VIM_INST_STS i] := by
  have hregs : KeepsRegs s (s.dropRestoreReads i) [R.VIM_INST_STS i] := .of_regs rfl _
  have hnone := s.dropRestoreReads_restoreReads i
  unfold State.restoreFailed
  generalize s.dropRestoreReads i = u at *
  have hpage := State.instPage_cmdFailed (u.setInstState i iFREE) i cause
  rw [State.instPage_setInstState, Nat.mod_eq_of_lt hc] at hpage
  refine ⟨congrArg InstPage.state hpage, congrArg InstPage.result hpage, congrArg InstPage.cause hpage, ?_,
    (hregs.trans (u.setInstState_keepsRegs i iFREE)).trans (State.cmdFailed_keepsRegs _ i cause)⟩
  rw [State.restoreReads, State.cmdFailed_coreReads]
  exact hnone

omit hi in
/-- The causes for which a record is refused fit VIM_INST_STS.CAUSE. -/
theorem State.restoreCause_lt {bs : List Byte} {c : Nat} (h : s.restoreCause i bs = some c) : c < 16 := by
  unfold State.restoreCause at h
  split_ifs at h
  all_goals exact Option.some.inj h ▸ by decide

/-- A record that is accepted, put in the place of the function's state. -/
def State.restored (s : State) (i : Nat) (bs : List Byte) : State :=
  let s := (upTo 4).foldl (fun s q => s.restoreRing i q bs) (s.dropFunction i)
  let s := if s.flag (R.VIM_INST_CTL_RESTORE_CFG i) then s.restoreCfg i bs else s
  s.modInst i fun x => { x with
    fromRecovery := bit (recWord bs 20) 9, hgAtFreeze := bit (recWord bs 20) 8, frozenFrom := iFROZEN }

/-- The instance of an accepted record, FROZEN. -/
def State.restoredFrozen (s : State) (i : Nat) (bs : List Byte) : State :=
  let s := s.restored i bs
  (s.fset (R.VIM_INST_STS_D3HOT i) (ofBool (s.d3hot (Fn.inst i).num))).setInstState i iFROZEN

theorem exec_restoreDone : exec (.restoreDone i) s =
    if (s.inst i).cmd != 5 || (s.restoreReads i).any (fun r => !r.done) || (s.restoreReads i).isEmpty then .next s
    else if (s.restoreReads i).any (·.failed) then .next (s.restoreFailed i ciXFER)
    else match s.restoreCause i ((s.restoreReads i).flatMap (·.data)) with
      | some c => .next (s.restoreFailed i c)
      | none => .next ((((s.dropRestoreReads i).restoredFrozen i ((s.restoreReads i).flatMap (·.data))).presence
          (((s.dropRestoreReads i).restoredFrozen i ((s.restoreReads i).flatMap (·.data))).instPart i)).cmdDone i) := by
  change execRestoreDone i s = _
  unfold execRestoreDone
  rw [Nat.mod_eq_of_lt hi]
  rfl

theorem exec_restoreDone_of_not
    (h : (s.inst i).cmd ≠ 5 ∨ s.restoreReads i = [] ∨ (s.restoreReads i).all (·.done) = false) :
    exec (.restoreDone i) s = .next s := by
  rw [exec_restoreDone hi, if_pos]
  rcases h with h | h | h
  · simp [h]
  · simp [h]
  · have hany : (s.restoreReads i).any (fun r => !r.done) = true := by
      simpa [List.all_eq_false, List.any_eq_true] using h
    simp [hany]

omit hi in
theorem State.restoreRing_regs (s : State) (i q : Nat) (bs : List Byte) : (s.restoreRing i q bs).regs = s.regs := by
  simp only [State.restoreRing]
  rw [State.setRing_regs, State.setQreg_regs, State.setQreg_regs, State.setQreg_regs, State.setQreg_regs, State.setQreg_regs]
  exact regs_foldl _ _ _ fun u k => u.setQreg_regs i q _ _

omit hi in
theorem State.restoreRings_regs (s : State) (i : Nat) (bs : List Byte) :
    ((upTo 4).foldl (fun s q => s.restoreRing i q bs) s).regs = s.regs :=
  regs_foldl _ _ _ fun u q => u.restoreRing_regs i q bs

omit hi in
theorem State.restoreCfg_regs (s : State) (i : Nat) (bs : List Byte) : (s.restoreCfg i bs).regs = s.regs := by
  simp only [State.restoreCfg]
  rw [regs_foldl _ _ _ fun u k => ?_, State.setBar_regs]
  · exact regs_foldl _ _ _ fun u k => u.setBar_regs _ _ _
  · split <;> rfl

omit hi in
theorem State.restored_regs (s : State) (i : Nat) (bs : List Byte) : (s.restored i bs).regs = s.regs := by
  have hrings := (State.restoreRings_regs (s.dropFunction i) i bs).trans (s.dropFunction_regs i)
  unfold State.restored
  dsimp only
  generalize (upTo 4).foldl (fun s q => s.restoreRing i q bs) (s.dropFunction i) = u at hrings ⊢
  rw [State.modInst]
  dsimp only
  split
  · exact (u.restoreCfg_regs i bs).trans hrings
  · exact hrings

theorem restoreDone_does_freeze (hcmd : (s.inst i).cmd = 5) (hne : s.restoreReads i ≠ [])
    (hdone : ∀ r ∈ s.restoreReads i, r.done = true ∧ r.failed = false)
    (hcause : s.restoreCause i ((s.restoreReads i).flatMap (·.data)) = none) : Does (.restoreDone i) s fun t =>
    t.instState i = iFROZEN ∧ t.fget (R.VIM_INST_STS_CMD_RESULT i) = 2 ∧ t.vault = s.vault := by
  have hall : (s.restoreReads i).any (fun r => !r.done) = false := by
    rw [List.any_eq_false]
    exact fun r hr => by simp [(hdone r hr).1]
  have hgood : (s.restoreReads i).any (·.failed) = false := by
    rw [List.any_eq_false]
    exact fun r hr => by simp [(hdone r hr).2]
  have hexec := exec_restoreDone (s := s) hi
  rw [if_neg (by simp [hcmd, hall, hne]), if_neg (by simp [hgood]), hcause] at hexec
  dsimp only at hexec
  have hvault := exec_vault_of_not_writesVault rfl hexec
  have hstate : ((s.dropRestoreReads i).restoredFrozen i ((s.restoreReads i).flatMap (·.data))).instState i = iFROZEN :=
    congrArg InstPage.state (State.instPage_setInstState _ i iFROZEN)
  refine ⟨_, hexec, ?_⟩
  generalize (s.dropRestoreReads i).restoredFrozen i ((s.restoreReads i).flatMap (·.data)) = u at *
  have hpage := State.instPage_cmdDone (u.presence (u.instPart i)) i
  rw [State.instPage_presence] at hpage
  exact ⟨(congrArg InstPage.state hpage).trans hstate, congrArg InstPage.result hpage, hvault⟩

theorem restoreDone_does_refuse (hcmd : (s.inst i).cmd = 5) (hne : s.restoreReads i ≠ [])
    (hdone : ∀ r ∈ s.restoreReads i, r.done = true ∧ r.failed = false) {c : Nat}
    (hcause : s.restoreCause i ((s.restoreReads i).flatMap (·.data)) = some c) : Does (.restoreDone i) s fun t =>
    t.instState i = iFREE ∧ t.fget (R.VIM_INST_STS_CMD_RESULT i) = 3 ∧ t.fget (R.VIM_INST_STS_CAUSE i) = c ∧
    KeepsRegs s t [R.VIM_INST_STS i] ∧ t.vault = s.vault := by
  have hall : (s.restoreReads i).any (fun r => !r.done) = false := by
    rw [List.any_eq_false]
    exact fun r hr => by simp [(hdone r hr).1]
  have hgood : (s.restoreReads i).any (·.failed) = false := by
    rw [List.any_eq_false]
    exact fun r hr => by simp [(hdone r hr).2]
  have hexec := exec_restoreDone (s := s) hi
  rw [if_neg (by simp [hcmd, hall, hne]), if_neg (by simp [hgood]), hcause] at hexec
  obtain ⟨hstate, hresult, hwhy, -, hkeeps⟩ := s.restoreFailed_facts i (State.restoreCause_lt hcause)
  exact ⟨_, hexec, hstate, hresult, hwhy, hkeeps, exec_vault_of_not_writesVault rfl hexec⟩

theorem restoreDone_does_fail (hcmd : (s.inst i).cmd = 5) (hdone : (s.restoreReads i).all (·.done) = true)
    (hfailed : (s.restoreReads i).any (·.failed) = true) : Does (.restoreDone i) s fun t =>
    t.instState i = iFREE ∧ t.fget (R.VIM_INST_STS_CMD_RESULT i) = 3 ∧ t.fget (R.VIM_INST_STS_CAUSE i) = ciXFER ∧
    t.restoreReads i = [] ∧ KeepsRegs s t [R.VIM_INST_STS i] ∧ t.vault = s.vault := by
  have hall : (s.restoreReads i).any (fun r => !r.done) = false := by
    rw [List.any_eq_false]
    exact fun r hr => by simp [List.all_eq_true.mp hdone r hr]
  have hne : s.restoreReads i ≠ [] := by
    obtain ⟨r, hr, -⟩ := List.any_eq_true.mp hfailed
    exact List.ne_nil_of_mem hr
  have hexec := exec_restoreDone (s := s) hi
  rw [if_neg (by simp [hcmd, hall, hne]), if_pos hfailed] at hexec
  obtain ⟨hstate, hresult, hwhy, hnone, hkeeps⟩ := s.restoreFailed_facts i (cause := ciXFER) (by decide)
  exact ⟨_, hexec, hstate, hresult, hwhy, hnone, hkeeps, exec_vault_of_not_writesVault rfl hexec⟩

theorem exec_restoreXferTimeout : exec (.restoreXferTimeout i) s =
    if (s.inst i).cmd != 5 || decide (s.now ≤ (s.inst i).cmdStart + 12500000) || (s.restoreReads i).all (·.done) then .next s
    else .next (s.restoreFailed i ciXFER) := by
  change execRestoreXferTimeout i s = _
  unfold execRestoreXferTimeout
  rw [Nat.mod_eq_of_lt hi]
  rfl

theorem exec_restoreXferTimeout_of_not
    (h : (s.inst i).cmd ≠ 5 ∨ s.now ≤ (s.inst i).cmdStart + 12500000 ∨ (s.restoreReads i).all (·.done) = true) :
    exec (.restoreXferTimeout i) s = .next s := by
  rw [exec_restoreXferTimeout hi, if_pos]
  rcases h with h | h | h <;> simp [h]

theorem restoreXferTimeout_does (hcmd : (s.inst i).cmd = 5) (hlate : (s.inst i).cmdStart + 12500000 < s.now)
    (hopen : ∃ r ∈ s.restoreReads i, r.done = false) : Does (.restoreXferTimeout i) s fun t =>
    t.instState i = iFREE ∧ t.fget (R.VIM_INST_STS_CMD_RESULT i) = 3 ∧ t.fget (R.VIM_INST_STS_CAUSE i) = ciXFER ∧
    t.restoreReads i = [] ∧ KeepsRegs s t [R.VIM_INST_STS i] ∧ t.vault = s.vault := by
  have hsome : (s.restoreReads i).all (·.done) = false := by
    obtain ⟨r, hr, hrd⟩ := hopen
    rw [List.all_eq_false]
    exact ⟨r, hr, by simp [hrd]⟩
  have hexec := exec_restoreXferTimeout (s := s) hi
  rw [if_neg (by simp [hcmd, hlate, hsome])] at hexec
  obtain ⟨hstate, hresult, hwhy, hnone, hkeeps⟩ := s.restoreFailed_facts i (cause := ciXFER) (by decide)
  exact ⟨_, hexec, hstate, hresult, hwhy, hnone, hkeeps, exec_vault_of_not_writesVault rfl hexec⟩

end Ends

end Sys2Proof.Machine
end

section
/-! PROOFS. FORCE_RESET, FUNCTION_LEVEL_RESET and the end of a reset (R198, R199, R202). -/

namespace Sys2Proof.Machine

set_option Elab.async false

/-! ### Doorbells of the core cycle of a reset (R202) -/

/-- A ring's PROD as it was before a doorbell of this core cycle. -/
def State.rungBack (s : State) (i q : Nat) : State :=
  match (s.ring i q).rung with
  | some (at', prod) => if at' = s.now then s.setQreg i q qPROD prod else s
  | none => s

/-- Every ring's. -/
def State.allRungBack (s : State) (i : Nat) : State := (upTo 4).foldl (fun s q => s.rungBack i q) s

section RungBack
variable (s : State) (i q : Nat)

theorem State.rungBack_eq : s.rungBack i q = s ∨ ∃ v, s.rungBack i q = s.setQreg i q qPROD v := by
  unfold State.rungBack
  split
  · split
    · exact .inr ⟨_, rfl⟩
    · exact .inl rfl
  · exact .inl rfl

theorem State.rungBack_turn : RingTurn i q s (s.rungBack i q) := by
  rcases s.rungBack_eq i q with h | ⟨v, h⟩
  · rw [h]
    exact .refl i q s
  · rw [h]
    exact s.setQreg_turn i q (by decide) v

theorem State.rungBack_rest : (s.rungBack i q).rest = s.rest := by
  rcases s.rungBack_eq i q with h | ⟨v, h⟩ <;> rw [h]
  rfl

theorem State.rungBack_prod {x : Nat × Nat} (h : (s.ring i q).rung = some x) (hnow : x.1 = s.now) :
    (s.rungBack i q).qreg i q qPROD = x.2 % 2 ^ 32 := by
  obtain ⟨t, prod⟩ := x
  rw [State.rungBack, h]
  dsimp only at hnow ⊢
  rw [if_pos hnow, State.qreg_setQreg_same]

theorem State.rungBack_of_earlier (h : (s.ring i q).rung.all (fun x => x.1 != s.now) = true) : s.rungBack i q = s := by
  unfold State.rungBack
  split
  · next t prod hr =>
    rw [hr, Option.all_some, bne_iff_ne] at h
    exact if_neg h
  · rfl

theorem State.allRungBack_facts : (s.allRungBack i).rest = s.rest ∧ (s.allRungBack i).instPage i = s.instPage i :=
  List.foldlRecOn (upTo 4) _ (motive := fun u : State => u.rest = s.rest ∧ u.instPage i = s.instPage i) ⟨rfl, rfl⟩
    fun u hu q _ => ⟨(State.rungBack_rest u i q).trans hu.1, (State.rungBack_turn u i q).page.trans hu.2⟩

theorem State.allRungBack_prod (hq : q < 4) : ∀ x, (s.ring i q).rung = some x → x.1 = s.now →
    (s.allRungBack i).qreg i q qPROD = x.2 % 2 ^ 32 :=
  foldl_upTo_turns (n := 4) (a := s) (f := fun (u : State) q => u.rungBack i q) (P := fun _ (u : State) => u.rest = s.rest)
    (Q := fun q (u : State) => q < 4 → ∀ x, (s.ring i q).rung = some x → x.1 = s.now → u.qreg i q qPROD = x.2 % 2 ^ 32)
    (fun u q _ hu _ x hx hnow => u.rungBack_prod i q ((congrArg RingSt.rung (State.ring_of_rest hu i q)).trans hx)
      (hnow.trans (congrArg (·.now) hu).symm))
    (fun u p q _ _ hu => (u.rungBack_rest i p).trans hu)
    (fun u p q hpq _ h hq x hx hnow => ((u.rungBack_turn i p).qreg q hq hpq.symm _ (by decide)).trans (h hq x hx hnow))
    (fun _ _ => rfl) q hq hq

theorem State.allRungBack_of_earlier (h : ∀ q, q < 4 → (s.ring i q).rung.all (fun x => x.1 != s.now) = true) :
    s.allRungBack i = s :=
  List.foldlRecOn (upTo 4) _ (motive := fun u : State => u = s) rfl fun u hu q hq => by
    rw [hu]
    exact s.rungBack_of_earlier i q (h q (List.mem_range.mp hq))

end RungBack

/-! ### The steps of a reset that begins (R198) -/

/-- RESETTING, with the headgate closed. -/
def State.resetting (s : State) (i : Nat) : State :=
  ((s.fset (R.VIM_INST_STS_HG i) 0).fset (R.VIM_INST_CTL_HG_OPEN i) 0).setInstState i iRESETTING

/-- A command of the reset's core cycle is refused with STATE, one that runs with RESET. -/
def State.resetRefuses (s : State) (i : Nat) (busy : Bool) : State :=
  if (s.inst i).cmdAt = s.now + 1 then s.cmdRefused i ciSTATE else if busy then s.cmdRefused i ciRESET else s

/-- Every ring emptied. -/
def State.ringsReset (s : State) (i : Nat) : State := (upTo 4).foldl (fun s q => (s.discardAhead i q dRESET).setRing i q {}) s

/-- What returns for the instance is discarded, and the reset waits for it. -/
def State.resetWaits (s : State) (i : Nat) (byFlr : Bool) (n : Nat) : State :=
  let s := s.modEngTags fun t => if t.inst = i then { t with discard := true } else t
  let s : State := { s with coreReads := s.coreReads.filter fun r => r.why != .save i }
  s.modInst i fun _ => { byFlr := byFlr, abandoned := n, resetStart := s.now }

theorem State.startReset_eq {s : State} {i : Nat} (h : s.instState i ∉ [iFREE, iSETUP, iRESETTING]) (byFlr : Bool) :
    s.startReset i byFlr = ((((s.allRungBack i).resetting i).resetRefuses i ((s.inst i).cmd != 0)).ringsReset i).resetWaits i
      byFlr ((s.allRungBack i).unfinished i) := by
  simp only [List.mem_cons, List.not_mem_nil, or_false, not_or] at h
  obtain ⟨hfree, hsetup, hresetting⟩ := h
  unfold State.startReset
  extract_lets st busy s1 n s2 s3 s4 s5 s6 s7
  have h1 : s1 = s.allRungBack i := rfl
  have hn : n = s1.unfinished i := rfl
  have h3 : s3 = s1.resetting i := rfl
  have h4 : s4 = s3.resetRefuses i busy := rfl
  have h5 : s5 = s4.ringsReset i := rfl
  have h7 : s7.modInst i (fun _ => { byFlr := byFlr, abandoned := n, resetStart := s7.now }) = s5.resetWaits i byFlr n := rfl
  rw [if_neg (by simp [st, hfree, hsetup]), if_neg hresetting, h7, h5, h4, h3, hn, h1]

section Steps
variable (s : State) (i : Nat)

theorem State.resetting_instPage :
    (s.resetting i).instPage i = { s.instPage i with hg := 0, hgOpen := 0, state := iRESETTING } := by
  rw [State.resetting, State.instPage_setInstState, State.instPage_fset_hgOpen, State.instPage_fset_hg]
  rfl

theorem State.cmdRefused_sameBar0 (cause : Nat) : SameBar0 s (s.cmdRefused i cause) := State.raise_sameBar0 _ _ _

theorem State.resetRefuses_rest (busy : Bool) : (s.resetRefuses i busy).rest = s.rest := by
  unfold State.resetRefuses
  split
  · exact s.cmdRefused_rest i _
  · split
    · exact s.cmdRefused_rest i _
    · rfl

theorem State.resetRefuses_sameBar0 (busy : Bool) : SameBar0 s (s.resetRefuses i busy) := by
  unfold State.resetRefuses
  split
  · exact s.cmdRefused_sameBar0 i _
  · split
    · exact s.cmdRefused_sameBar0 i _
    · exact .refl s

theorem State.resetRefuses_instPage (busy : Bool) : (s.resetRefuses i busy).instPage i =
    if (s.inst i).cmdAt = s.now + 1 then { s.instPage i with result := 3, cause := ciSTATE }
    else if busy then { s.instPage i with result := 3, cause := ciRESET } else s.instPage i := by
  unfold State.resetRefuses
  split
  · exact s.instPage_cmdRefused i ciSTATE
  · split
    · exact s.instPage_cmdRefused i ciRESET
    · rfl

theorem State.discardAhead_now (q cause : Nat) : (s.discardAhead i q cause).now = s.now :=
  congrArg (·.now) (s.aheadLogged_logsDiscards i q cause).rest

theorem State.ringsReset_facts : (s.ringsReset i).instPage i = s.instPage i ∧ (s.ringsReset i).now = s.now ∧
    SameBar0 s (s.ringsReset i) :=
  List.foldlRecOn (upTo 4) _
    (motive := fun u : State => u.instPage i = s.instPage i ∧ u.now = s.now ∧ SameBar0 s u) ⟨rfl, rfl, .refl s⟩
    fun u hu q _ => by
      obtain ⟨hpage, hnow, hbar⟩ := hu
      refine ⟨?_, (State.discardAhead_now u i q dRESET).trans hnow,
        (hbar.trans (State.discardAhead_sameBar0 u i q dRESET)).trans (.of_bars rfl)⟩
      rw [State.instPage_setRing, State.instPage_discardAhead, hpage]

theorem State.ringsReset_ring : ∀ q, q < 4 → (s.ringsReset i).ring i q = {} :=
  s.foldl_rings (g := fun _ => {}) (fun u q => State.ring_setRing_same _ i q {})
    fun u p q hpq => by rw [State.ring_setRing, if_neg (by omega), State.discardAhead_ring_ne _ _ _ _ (by omega)]

section Waits
variable (byFlr : Bool) (n : Nat)

theorem State.resetWaits_instPage : (s.resetWaits i byFlr n).instPage i = s.instPage i := State.instPage_of_regs rfl i

theorem State.resetWaits_inst :
    (s.resetWaits i byFlr n).inst i = { byFlr := byFlr, abandoned := n, resetStart := s.now } := State.inst_modInst_same _ i _

theorem State.resetWaits_ring (q : Nat) : (s.resetWaits i byFlr n).ring i q = s.ring i q := rfl

theorem State.resetWaits_qreg (q off : Nat) : (s.resetWaits i byFlr n).qreg i q off = s.qreg i q off := rfl

theorem State.modEngTags_discarded {x : EngTag} (hx : x ∈ (s.modEngTags fun t => if t.inst = i then { t with discard := true } else t).engTags)
    (hinst : x.inst = i) : x.discard = true := by
  obtain ⟨y, -, rfl⟩ := List.mem_map.mp hx
  by_cases hy : y.inst = i
  · rw [if_pos hy]
  · rw [if_neg hy] at hinst
    exact absurd hinst hy

theorem State.resetWaits_engTags : ∀ x ∈ (s.resetWaits i byFlr n).engTags, x.inst = i → x.discard = true :=
  fun _ hx hinst => s.modEngTags_discarded i hx hinst

end Waits
end Steps

/-! ### FORCE_RESET and FUNCTION_LEVEL_RESET -/

section Clauses
variable {s : State} {i : Nat} (hi : i < 512)
include hi

theorem exec_forceReset : exec (.forceReset i) s = .next (s.startReset i false) := by
  change execForceReset i s = _
  rw [execForceReset, Nat.mod_eq_of_lt hi]

theorem exec_functionLevelReset : exec (.functionLevelReset i) s = .next (s.startReset i true) := by
  change execFunctionLevelReset i s = _
  rw [execFunctionLevelReset, Nat.mod_eq_of_lt hi]

omit hi in
/-- A reset, by command or by FLR, of an instance that exists and is not being reset. -/
theorem reset_does (h : s.instState i ∉ [iFREE, iSETUP, iRESETTING]) {c : Instr} {byFlr : Bool}
    (hexec : exec c s = .next (s.startReset i byFlr)) (hwrites : writesVault c = false) : Does c s fun t =>
    t.instState i = iRESETTING ∧ t.headgate i = false ∧ t.flag (R.VIM_INST_CTL_HG_OPEN i) = false ∧
      (∀ q, q < 4 → t.ring i q = {}) ∧ (∀ x ∈ t.engTags, x.inst = i → x.discard = true) ∧ (t.inst i).byFlr = byFlr ∧
      (t.inst i).resetStart = s.now ∧ (t.inst i).cmd = 0 ∧
      ((∀ q, q < 4 → (s.ring i q).rung.all (fun x => x.1 != s.now) = true) → (t.inst i).abandoned = s.unfinished i) ∧
      (∀ q, q < 4 → ∀ x, (s.ring i q).rung = some x → x.1 = s.now → t.qreg i q qPROD = x.2 % 2 ^ 32) ∧
      ((s.inst i).cmdAt = s.now + 1 → t.fget (R.VIM_INST_STS_CMD_RESULT i) = 3 ∧ t.fget (R.VIM_INST_STS_CAUSE i) = ciSTATE) ∧
      ((s.inst i).cmdAt ≠ s.now + 1 → (s.inst i).cmd ≠ 0 →
        t.fget (R.VIM_INST_STS_CMD_RESULT i) = 3 ∧ t.fget (R.VIM_INST_STS_CAUSE i) = ciRESET) ∧ t.vault = s.vault := by
  rw [State.startReset_eq h] at hexec
  have hvault := exec_vault_of_not_writesVault hwrites hexec
  obtain ⟨hrest, -⟩ := s.allRungBack_facts i
  have hprod (q : Nat) := s.allRungBack_prod i q
  have hsame := s.allRungBack_of_earlier i
  refine ⟨_, hexec, ?_⟩
  generalize hu : s.allRungBack i = u at *
  have hinst : (u.resetting i).inst i = s.inst i := State.inst_of_rest hrest i
  have hnow : (u.resetting i).now = s.now := congrArg (·.now) hrest
  have hpage := u.resetting_instPage i
  have hbar : SameBar0 u (u.resetting i) := .of_bars rfl
  generalize u.resetting i = v at *
  have hrefuses := v.resetRefuses_instPage i ((s.inst i).cmd != 0)
  rw [hinst, hnow] at hrefuses
  have hnow' : (v.resetRefuses i ((s.inst i).cmd != 0)).now = s.now := (congrArg (·.now) (v.resetRefuses_rest i _)).trans hnow
  have hbar' := hbar.trans (v.resetRefuses_sameBar0 i ((s.inst i).cmd != 0))
  generalize v.resetRefuses i ((s.inst i).cmd != 0) = w at *
  obtain ⟨hpage', hnow'', hbar''⟩ := w.ringsReset_facts i
  have hrings := w.ringsReset_ring i
  generalize w.ringsReset i = r at *
  have hall := (r.resetWaits_instPage i byFlr (u.unfinished i)).trans (hpage'.trans hrefuses)
  have hqreg (q : Nat) : r.qreg i q qPROD = u.qreg i q qPROD := State.qreg_of_bar ((hbar'.trans hbar'') i) q qPROD
  have hrec := r.resetWaits_inst i byFlr (u.unfinished i)
  have hstate : (r.resetWaits i byFlr (u.unfinished i)).instState i = iRESETTING ∧
      (r.resetWaits i byFlr (u.unfinished i)).fget (R.VIM_INST_STS_HG i) = 0 ∧
      (r.resetWaits i byFlr (u.unfinished i)).fget (R.VIM_INST_CTL_HG_OPEN i) = 0 := by
    rw [hpage] at hall
    split_ifs at hall
    all_goals exact ⟨congrArg InstPage.state hall, congrArg InstPage.hg hall, congrArg InstPage.hgOpen hall⟩
  obtain ⟨hresetting, hhg, hopen⟩ := hstate
  refine ⟨hresetting, ?_, ?_, hrings, r.resetWaits_engTags i _ _, congrArg InstSt.byFlr hrec, ?_, congrArg InstSt.cmd hrec,
    fun hearlier => ?_, fun q hq x hx hat => (hqreg q).trans (hprod q hq x hx hat), fun hat => ?_, fun hat hbusy => ?_, hvault⟩
  · rw [State.headgate, State.flag_eq, hhg]
    rfl
  · rw [State.flag_eq, hopen]
    rfl
  · exact (congrArg InstSt.resetStart hrec).trans (hnow''.trans hnow')
  · exact (congrArg InstSt.abandoned hrec).trans (congrArg (State.unfinished · i) (hsame hearlier))
  · rw [if_pos hat] at hall
    exact ⟨congrArg InstPage.result hall, congrArg InstPage.cause hall⟩
  · rw [if_neg hat, if_pos (bne_iff_ne.mpr hbusy)] at hall
    exact ⟨congrArg InstPage.result hall, congrArg InstPage.cause hall⟩

omit hi in
theorem State.startReset_of_absent (h : s.instState i ∈ [iFREE, iSETUP]) (byFlr : Bool) : s.startReset i byFlr = s := by
  simp only [List.mem_cons, List.not_mem_nil, or_false] at h
  rw [State.startReset]
  exact if_pos h

omit hi in
theorem State.startReset_of_resetting (h : s.instState i = iRESETTING) (byFlr : Bool) : s.startReset i byFlr =
    if !byFlr && (s.inst i).byFlr && (s.inst i).resetStart == s.now then s.modInst i fun x => { x with byFlr := false } else s := by
  unfold State.startReset
  dsimp only
  rw [if_neg (by simp [h]), if_pos h]

/-- An instance that does not exist is not reset. -/
theorem exec_reset_of_absent (h : s.instState i ∈ [iFREE, iSETUP]) :
    ∀ c ∈ [Instr.forceReset i, .functionLevelReset i], exec c s = .next s := by
  simp only [List.forall_mem_cons, List.not_mem_nil, false_imp_iff, implies_true, and_true]
  constructor
  · rw [exec_forceReset hi, State.startReset_of_absent h]
  · rw [exec_functionLevelReset hi, State.startReset_of_absent h]

/-- While a reset runs, only a FORCE_RESET in the core cycle of the FLR counts. -/
theorem exec_reset_of_resetting (h : s.instState i = iRESETTING) : exec (.functionLevelReset i) s = .next s ∧
    ∀ one : Bool, one = ((s.inst i).byFlr && (s.inst i).resetStart == s.now) →
      exec (.forceReset i) s = .next (if one then s.modInst i fun x => { x with byFlr := false } else s) := by
  constructor
  · rw [exec_functionLevelReset hi, State.startReset_of_resetting h]
    rfl
  · rintro one rfl
    rw [exec_forceReset hi, State.startReset_of_resetting h]
    rfl

end Clauses

end Sys2Proof.Machine
end

section
/-! PROOFS. INSTANCE_RESET_DONE, and how the commands of an instance end (R196, R198, R199). -/

namespace Sys2Proof.Machine

set_option Elab.async false

/-! ### What leaves the functions alone -/

/-- Every shadow register and BAR0 of the instances read the same. -/
structure SameFunctions (s t : State) : Prop where
  shadows : t.shadows = s.shadows
  bar0 : SameBar0 s t

section SameFunctions
variable {s t : State}

theorem SameFunctions.of_stores (hshadows : t.shadows = s.shadows) (hbars : t.bars = s.bars) : SameFunctions s t :=
  ⟨hshadows, .of_bars hbars⟩

theorem SameFunctions.trans {u : State} (h : SameFunctions s t) (h' : SameFunctions t u) : SameFunctions s u :=
  ⟨h'.shadows.trans h.shadows, h.bar0.trans h'.bar0⟩

variable (s)

theorem SameFunctions.refl : SameFunctions s s := .of_stores rfl rfl

theorem State.fset_sameFunctions (f : Fld) (v : Nat) : SameFunctions s (s.fset f v) := .of_stores rfl rfl

theorem State.bumpBy_sameFunctions (a n : Nat) : SameFunctions s (s.bumpBy a n) :=
  .of_stores (s.bumpBy_shadows a n) (s.bumpBy_bars a n)

theorem State.raise_sameFunctions (page ev : Nat) : SameFunctions s (s.raise page ev) :=
  ⟨s.raise_shadows page ev, s.raise_sameBar0 page ev⟩

theorem State.record_sameFunctions (code level : Nat) (part : Option Nat) (port detail : Nat) :
    SameFunctions s (s.record code level part port detail) := by
  have h := (OnlyErrPage.refl s).record code level part port detail
  exact ⟨h.shadows, h.bar0⟩

theorem State.modInst_sameFunctions (i : Nat) (f : InstSt → InstSt) : SameFunctions s (s.modInst i f) := .of_stores rfl rfl

theorem State.refreshHg_sameFunctions (i : Nat) : SameFunctions s (s.refreshHg i) := by
  rw [State.refreshHg_eq]
  split
  · exact .of_stores rfl rfl
  · exact .of_stores rfl rfl

end SameFunctions

/-! ### A function at its reset values (R198) -/

/-- A ring at its reset values. -/
def State.resetRing (s : State) (i q : Nat) : State :=
  ((((s.setRing i q {}).putQreg i q qCFG 16 16 0).setQreg i q qPROD 0).setQreg i q qDONE 0).putQreg i q qSTS 2 0 0

/-- The registers of a function at their reset values, but for Max_Payload_Size. -/
def State.resetShadows (s : State) (fn : Nat) : State :=
  ({ s with
    shadows := s.shadows.filter fun e => e.1 / 4096 != fn
    bars := s.bars.filter fun e => !(e.1 / 65536 == fn && decide (0x8000 ≤ e.1 % 65536)) } : State).putCfg fn cDevCtl 7 5
      (s.cfgBits fn cDevCtl 7 5)

section ResetFunction
variable (s : State) (i q : Nat)

theorem State.resetFunction_eq : s.resetFunction i = (upTo 4).foldl (fun s q => s.resetRing i q) (s.resetShadows (Fn.inst i).num) :=
  rfl

theorem State.setRing_turn (r : RingSt) : RingTurn i q s (s.setRing i q r) where
  ring p hp := by rw [State.ring_setRing, if_neg (by omega)]
  qreg _ _ _ _ _ := rfl
  page := s.instPage_setRing i i q r
  shadows := rfl

theorem State.resetRing_turn : RingTurn i q s (s.resetRing i q) :=
  ((((s.setRing_turn i q {}).trans (State.putQreg_turn _ i q (by decide) _ _ _)).trans
    (State.setQreg_turn _ i q (by decide) _)).trans (State.setQreg_turn _ i q (by decide) _)).trans
    (State.putQreg_turn _ i q (by decide) _ _ _)

theorem State.regs_of_books {s t : State} (h : t.books = s.books) : t.regs = s.regs := congrArg Prod.fst h

theorem State.ctrs_of_books {s t : State} (h : t.books = s.books) : t.ctrs = s.ctrs := congrArg Prod.snd h

theorem State.setQreg_books (off v : Nat) : (s.setQreg i q off v).books = s.books := rfl

theorem State.putQreg_books (off hi lo v : Nat) : (s.putQreg i q off hi lo v).books = s.books := rfl

theorem State.setRing_books (r : RingSt) : (s.setRing i q r).books = s.books := rfl

theorem State.resetRing_books : (s.resetRing i q).books = s.books := by
  rw [State.resetRing, State.putQreg_books, State.setQreg_books, State.setQreg_books, State.putQreg_books, State.setRing_books]

theorem State.resetShadows_books (fn : Nat) : (s.resetShadows fn).books = s.books := rfl

/-- A ring at its reset values is disabled, with its counts at 0. -/
theorem State.resetRing_facts : (s.resetRing i q).qEnabled i q = false ∧ (s.resetRing i q).qreg i q qPROD = 0 ∧
    (s.resetRing i q).qreg i q qDONE = 0 := by
  unfold State.resetRing
  refine ⟨?_, ?_, ?_⟩
  · rw [State.qEnabled_of_qreg (s := (s.setRing i q {}).putQreg i q qCFG 16 16 0)]
    · exact State.qEnabled_putQreg _ i q false
    · rw [State.qreg_putQreg_ne _ _ _ (by decide), State.qreg_setQreg_ne _ _ _ (by decide),
        State.qreg_setQreg_ne _ _ _ (by decide)]
  · rw [State.qreg_putQreg_ne _ _ _ (by decide), State.qreg_setQreg_ne _ _ _ (by decide), State.qreg_setQreg_same, Nat.zero_mod]
  · rw [State.qreg_putQreg_ne _ _ _ (by decide), State.qreg_setQreg_same, Nat.zero_mod]

theorem State.resetFunction_books : (s.resetFunction i).books = s.books := by
  rw [State.resetFunction_eq]
  exact List.foldlRecOn (upTo 4) _ (motive := fun u : State => u.books = s.books) (s.resetShadows_books _)
    fun u hu q _ => (State.resetRing_books u i q).trans hu

theorem State.resetFunction_shadows : (s.resetFunction i).shadows = (s.resetShadows (Fn.inst i).num).shadows := by
  rw [State.resetFunction_eq]
  exact List.foldlRecOn (upTo 4) _ (motive := fun u : State => u.shadows = (s.resetShadows (Fn.inst i).num).shadows) rfl
    fun u hu q _ => (State.resetRing_turn u i q).shadows.trans hu

theorem State.resetFunction_rings (hq : q < 4) : (s.resetFunction i).qEnabled i q = false ∧
    (s.resetFunction i).qreg i q qPROD = 0 ∧ (s.resetFunction i).qreg i q qDONE = 0 := by
  rw [State.resetFunction_eq]
  refine foldl_upTo_turns (n := 4) (P := fun _ (_ : State) => True)
    (Q := fun q (u : State) => q < 4 → u.qEnabled i q = false ∧ u.qreg i q qPROD = 0 ∧ u.qreg i q qDONE = 0)
    (fun u q _ _ _ => u.resetRing_facts i q) (fun _ _ _ _ _ _ => trivial) (fun u p q hpq _ h hq => ?_)
    (fun _ _ => trivial) q hq hq
  have hqreg := (u.resetRing_turn i p).qreg q hq hpq.symm
  rw [State.qEnabled, hqreg _ (by decide), hqreg _ (by decide), hqreg _ (by decide)]
  exact h hq

/-- Every shadow register but Device Control is at its reset value. -/
theorem State.resetFunction_cfg {off : Nat} (hoff : off < 4096) (hne : off ≠ cDevCtl) :
    (s.resetFunction i).cfg (Fn.inst i).num off = cfgReset (Fn.inst i).num off := by
  rw [State.cfg_of_shadows _ (s.resetFunction_shadows i)]
  refine (storeGet_storePut_ne _ (by omega)).trans (storeGet_filter_gone _ (fun v => ?_) _)
  rw [bne_eq_false_iff_eq]
  omega

theorem State.resetFunction_mps :
    (s.resetFunction i).cfgBits (Fn.inst i).num cDevCtl 7 5 = s.cfgBits (Fn.inst i).num cDevCtl 7 5 := by
  rw [State.cfgBits_of_shadows (s.resetFunction_shadows i), State.resetShadows,
    State.cfgBits_putCfg_same _ _ _ (by decide) (by decide)]
  exact Nat.mod_mod _ _

end ResetFunction

/-! ### Steps 4 and 5 of a reset (R198, R199) -/

/-- RESET, with the descriptors that the reset abandoned. -/
def State.resetMarked (s : State) (i n : Nat) : State :=
  ((s.setInstState i iRESET).fset (R.VIM_INST_STS_ABANDONED i) (min n 65535)).fset (R.VIM_INST_STS_D3HOT i) 0

/-- The reset counted, with its event. -/
def State.resetCounted (s : State) (i n : Nat) : State :=
  ((s.bumpBy (R.VIM_ABANDONED i) n).bump (R.VIM_FORCED_RESETS i)).raise (vimPage i) 2

/-- The reset's record, and the instance as new. -/
def State.resetRecorded (s : State) (i n : Nat) : State :=
  (s.record eFORCED_RESET lvINSTANCE (some (s.instPart i)) 0x7F (i + min n 65535 * 2 ^ 16)).modInst i fun _ => {}

/-- AUTO_OPEN after an FLR: on to ACTIVE. -/
def State.autoOpened (s : State) (i : Nat) : State :=
  ((s.setInstState i iACTIVE).fset (R.VIM_INST_CTL_HG_OPEN i) 1).refreshHg i

/-- A reset up to its record. -/
def State.resetDone (s : State) (i : Nat) : State :=
  (((s.resetFunction i).resetMarked i (s.inst i).abandoned).resetCounted i (s.inst i).abandoned).resetRecorded i (s.inst i).abandoned

section Stages
variable (s : State) (i n : Nat)

theorem State.resetMarked_instPage : (s.resetMarked i n).instPage i =
    { s.instPage i with state := iRESET, abandoned := min n 65535, d3hot := 0 } := by
  rw [State.resetMarked, State.instPage_fset_d3hot, State.instPage_fset_abandoned, State.instPage_setInstState,
    Nat.mod_eq_of_lt (Nat.lt_succ_of_le (Nat.min_le_right n 65535))]
  rfl

theorem State.resetMarked_keepsRegs : KeepsRegs s (s.resetMarked i n) [R.VIM_INST_STS i] :=
  ((s.setInstState_keepsRegs i iRESET).trans (State.fset_keepsRegs _ (vimInstSts_mem i) _)).trans
    (State.fset_keepsRegs _ (vimInstSts_mem i) _)

theorem State.resetMarked_sameFunctions : SameFunctions s (s.resetMarked i n) := .of_stores rfl rfl

theorem State.resetCounted_instPage : (s.resetCounted i n).instPage i = s.instPage i := by
  rw [State.resetCounted, State.instPage_raise]
  exact State.instPage_of_regs ((State.bump_regs _ _).trans (s.bumpBy_regs _ n)) i

theorem State.resetCounted_sameFunctions : SameFunctions s (s.resetCounted i n) :=
  ((s.bumpBy_sameFunctions _ n).trans (State.bumpBy_sameFunctions _ _ 1)).trans (State.raise_sameFunctions _ _ _)

theorem State.resetCounted_counts (hal : s.alive = true) (hi : i < 512) : (s.resetCounted i n).event (vimPage i) 2 = true ∧
    Counted s (s.resetCounted i n) (R.VIM_FORCED_RESETS i) := by
  have hal' : (s.bumpBy (R.VIM_ABANDONED i) n).alive = true :=
    (State.alive_eq_of_reg (State.reg_eq_of_regs (s.bumpBy_regs _ n) _)).trans hal
  have hal'' : ((s.bumpBy (R.VIM_ABANDONED i) n).bump (R.VIM_FORCED_RESETS i)).alive = true :=
    (State.alive_eq_of_reg (State.reg_eq_of_regs (State.bump_regs _ _) _)).trans hal'
  refine ⟨State.raise_event_same hal'' (by decide), ?_⟩
  have hother : R.VIM_FORCED_RESETS i ≠ R.VIM_ABANDONED i := by
    simp only [R.VIM_FORCED_RESETS, R.VIM_ABANDONED]
    omega
  rw [Counted, State.resetCounted, State.raise_ctr_ne _ (by simp only [R.VIM_FORCED_RESETS, R.MAP_NOROUTE]; omega)
    (by simp only [R.VIM_FORCED_RESETS, R.BUF_FLUSH_P]; omega) (by simp only [R.VIM_FORCED_RESETS, vimPage]; omega),
    State.ctr_bump_same hal', State.ctr_bumpBy_ne _ hother]

theorem State.resetRecorded_reg {a : Nat} (ha : a / 4096 ≠ 0x50) : (s.resetRecorded i n).reg a = s.reg a :=
  ((OnlyErrPage.refl s).record _ _ _ _ _).reg a ha

theorem State.resetRecorded_instPage : (s.resetRecorded i n).instPage i = s.instPage i := by
  refine State.instPage_of_reg (s.resetRecorded_reg i n ?_) (s.resetRecorded_reg i n ?_)
  · simp only [R.VIM_INST_STS]
    omega
  · simp only [R.VIM_INST_CTL]
    omega

theorem State.resetRecorded_sameFunctions : SameFunctions s (s.resetRecorded i n) :=
  (s.record_sameFunctions _ _ _ _ _).trans (State.modInst_sameFunctions _ i _)

theorem State.resetRecorded_ctr {a : Nat} (ha : 0x200000 ≤ a) : (s.resetRecorded i n).ctr a = s.ctr a :=
  (KeepsEngineCtrs.refl s).record _ _ _ _ _ a ha

theorem State.refreshHg_ctrs : (s.refreshHg i).ctrs = s.ctrs := by
  rw [State.refreshHg_eq]
  split <;> rfl

theorem State.autoOpened_sameFunctions : SameFunctions s (s.autoOpened i) :=
  ((s.fset_sameFunctions (R.VIM_INST_STS_STATE i) iACTIVE).trans (State.fset_sameFunctions _ (R.VIM_INST_CTL_HG_OPEN i) 1)).trans
    (State.refreshHg_sameFunctions _ i)

theorem State.autoOpened_ctr (a : Nat) : (s.autoOpened i).ctr a = s.ctr a := State.ctr_eq_of_ctrs (State.refreshHg_ctrs _ i) a

theorem State.autoOpened_reg {a : Nat} (hsts : a ≠ R.VIM_INST_STS i) (hctl : a ≠ R.VIM_INST_CTL i) :
    (s.autoOpened i).reg a = s.reg a := by
  rw [State.autoOpened, State.refreshHg_reg _ hsts, State.reg_fset_ne hctl, State.setInstState_reg _ hsts]

theorem State.autoOpened_page : (s.autoOpened i).instState i = iACTIVE ∧
    (s.autoOpened i).fget (R.VIM_INST_STS_ABANDONED i) = s.fget (R.VIM_INST_STS_ABANDONED i) := by
  have hpage := State.instPage_refreshHg ((s.setInstState i iACTIVE).fset (R.VIM_INST_CTL_HG_OPEN i) 1) i
  rw [State.instPage_fset_hgOpen, State.instPage_setInstState] at hpage
  exact ⟨congrArg InstPage.state hpage, congrArg InstPage.abandoned hpage⟩

end Stages

/-! ### INSTANCE_RESET_DONE -/

section Clauses
variable {s : State} {i : Nat} (hi : i < 512)
include hi

theorem exec_instanceResetDone : exec (.instanceResetDone i) s =
    if s.instState i != iRESETTING || !(s.instTags i).isEmpty then .next s
    else .next (if (s.inst i).byFlr && (s.resetDone i).flag (R.VIM_INST_CTL_AUTO_OPEN i) then (s.resetDone i).autoOpened i
      else s.resetDone i) := by
  change execInstanceResetDone i s = _
  unfold execInstanceResetDone
  rw [Nat.mod_eq_of_lt hi]
  rfl

theorem exec_instanceResetDone_of_not (h : s.instState i ≠ iRESETTING ∨ s.instTags i ≠ []) :
    exec (.instanceResetDone i) s = .next s := by
  rw [exec_instanceResetDone hi, if_pos]
  rcases h with h | h <;> simp [h]

/-- A reset from the function's reset values to its record: the page, the function, the counter and the event. -/
theorem State.resetReported_facts (hal : s.alive = true) {r : State} (hregs : r.regs = s.regs) (hctrs : r.ctrs = s.ctrs) (n : Nat) :
    (((r.resetMarked i n).resetCounted i n).resetRecorded i n).instPage i =
      { s.instPage i with state := iRESET, abandoned := min n 65535, d3hot := 0 } ∧
    SameFunctions r (((r.resetMarked i n).resetCounted i n).resetRecorded i n) ∧
    Counted s (((r.resetMarked i n).resetCounted i n).resetRecorded i n) (R.VIM_FORCED_RESETS i) ∧
    (((r.resetMarked i n).resetCounted i n).resetRecorded i n).event (vimPage i) 2 = true := by
  have hmarked := r.resetMarked_instPage i n
  rw [State.instPage_of_regs hregs] at hmarked
  have hal' : (r.resetMarked i n).alive = true :=
    ((KeepsRegs.of_regs hregs _).trans (r.resetMarked_keepsRegs i n)).alive_of_sts i hal
  have hctrs' : (r.resetMarked i n).ctrs = s.ctrs := hctrs
  have hsame := r.resetMarked_sameFunctions i n
  generalize r.resetMarked i n = u at *
  obtain ⟨hevent, hcounted⟩ := u.resetCounted_counts i n hal' hi
  have hfunctions := (hsame.trans (u.resetCounted_sameFunctions i n)).trans
    ((u.resetCounted i n).resetRecorded_sameFunctions i n)
  refine ⟨?_, hfunctions, ?_, ?_⟩
  · rw [State.resetRecorded_instPage, State.resetCounted_instPage, hmarked]
  · rw [Counted, State.resetRecorded_ctr _ _ _ (by simp only [R.VIM_FORCED_RESETS]; omega), hcounted, State.ctr_eq_of_ctrs hctrs']
  · rw [State.event_of_reg (State.resetRecorded_reg _ _ _ _), hevent]
    simp only [vimPage]
    omega

theorem State.resetDone_facts (hal : s.alive = true) :
    (s.resetDone i).instPage i =
      { s.instPage i with state := iRESET, abandoned := min (s.inst i).abandoned 65535, d3hot := 0 } ∧
    SameFunctions (s.resetFunction i) (s.resetDone i) ∧ Counted s (s.resetDone i) (R.VIM_FORCED_RESETS i) ∧
    (s.resetDone i).event (vimPage i) 2 = true :=
  State.resetReported_facts hi hal (State.regs_of_books (s.resetFunction_books i)) (State.ctrs_of_books (s.resetFunction_books i)) _

theorem instanceResetDone_does (hal : s.alive = true) (hstate : s.instState i = iRESETTING) (htags : s.instTags i = []) :
    Does (.instanceResetDone i) s fun t =>
      t.instState i = (if (s.inst i).byFlr = true ∧ s.flag (R.VIM_INST_CTL_AUTO_OPEN i) = true then iACTIVE else iRESET) ∧
      (∀ off, off < 4096 → off ≠ cDevCtl → t.cfg (Fn.inst i).num off = cfgReset (Fn.inst i).num off) ∧
      t.cfgBits (Fn.inst i).num cDevCtl 7 5 = s.cfgBits (Fn.inst i).num cDevCtl 7 5 ∧
      (∀ q, q < 4 → t.qEnabled i q = false ∧ t.qreg i q qPROD = 0 ∧ t.qreg i q qDONE = 0) ∧
      t.fget (R.VIM_INST_STS_ABANDONED i) = min (s.inst i).abandoned 65535 ∧ Counted s t (R.VIM_FORCED_RESETS i) ∧
      t.event (vimPage i) 2 = true ∧ t.vault = s.vault := by
  have hexec := exec_instanceResetDone (s := s) hi
  rw [if_neg (by simp [hstate, htags])] at hexec
  have hvault := exec_vault_of_not_writesVault rfl hexec
  refine ⟨_, hexec, ?_⟩
  obtain ⟨hpage, hsame, hcounted, hevent⟩ := State.resetDone_facts hi hal
  have hauto : (s.resetDone i).flag (R.VIM_INST_CTL_AUTO_OPEN i) = s.flag (R.VIM_INST_CTL_AUTO_OPEN i) :=
    congrArg (· == 1) (congrArg InstPage.autoOpen hpage)
  have hstate' : (s.resetDone i).instState i = iRESET := congrArg InstPage.state hpage
  have habandoned : (s.resetDone i).fget (R.VIM_INST_STS_ABANDONED i) = min (s.inst i).abandoned 65535 :=
    congrArg InstPage.abandoned hpage
  rw [hauto] at hvault ⊢
  generalize s.resetDone i = u at *
  have hfunction {t : State} (h : SameFunctions (s.resetFunction i) t) :
      (∀ off, off < 4096 → off ≠ cDevCtl → t.cfg (Fn.inst i).num off = cfgReset (Fn.inst i).num off) ∧
      t.cfgBits (Fn.inst i).num cDevCtl 7 5 = s.cfgBits (Fn.inst i).num cDevCtl 7 5 ∧
      ∀ q, q < 4 → t.qEnabled i q = false ∧ t.qreg i q qPROD = 0 ∧ t.qreg i q qDONE = 0 := by
    refine ⟨fun off hoff hne => (State.cfg_of_shadows _ h.shadows _ off).trans (s.resetFunction_cfg i hoff hne),
      (State.cfgBits_of_shadows h.shadows _ _ _ _).trans (s.resetFunction_mps i), fun q hq => ?_⟩
    rw [State.qEnabled, State.qreg_of_bar (h.bar0 i), State.qreg_of_bar (h.bar0 i), State.qreg_of_bar (h.bar0 i)]
    exact s.resetFunction_rings i q hq
  cases hopens : ((s.inst i).byFlr && s.flag (R.VIM_INST_CTL_AUTO_OPEN i)) with
  | true =>
    rw [hopens, if_pos rfl] at hvault
    rw [if_pos rfl, if_pos (by simpa using hopens)]
    obtain ⟨hcfg, hmps, hrings⟩ := hfunction (hsame.trans (u.autoOpened_sameFunctions i))
    obtain ⟨hactive, habandoned'⟩ := u.autoOpened_page i
    refine ⟨hactive, hcfg, hmps, hrings, habandoned'.trans habandoned, (u.autoOpened_ctr i _).trans hcounted, ?_, hvault⟩
    refine (State.event_of_reg (u.autoOpened_reg i ?_ ?_) 2).trans hevent
    · simp only [vimPage, R.VIM_INST_STS]
      omega
    · simp only [vimPage, R.VIM_INST_CTL]
      omega
  | false =>
    rw [hopens, if_neg Bool.false_ne_true] at hvault
    rw [if_neg Bool.false_ne_true, if_neg (by simpa using hopens)]
    obtain ⟨hcfg, hmps, hrings⟩ := hfunction hsame
    exact ⟨hstate', hcfg, hmps, hrings, habandoned, hcounted, hevent, hvault⟩

end Clauses

/-- Settles O38: each command of an instance ends as its clause says, and a reset begins, is ignored or ends. -/
theorem instanceEnds : Obligations.InstanceEnds := by
  unfold Obligations.InstanceEnds
  refine ⟨fun s i hi hal => ⟨createDone_does hi, destroyDone_does hi hal, exec_createDone_of_not hi, exec_destroyDone_of_not hi,
    exec_freezeDone_of_not hi, fun hcmd htags hover => ⟨freezeDone_does_freeze hi hcmd htags hover,
      freezeDone_does_refuse hi hcmd htags hover⟩, fun r => saveDone_does hi, exec_saveDone_of_not hi, exec_saveDone_of_none hi,
    exec_saveXferTimeout_of_not hi, saveXferTimeout_does hi,
    fun hcmd hne hdone => ⟨restoreDone_does_freeze hi hcmd hne hdone, fun c => restoreDone_does_refuse hi hcmd hne hdone⟩,
    restoreDone_does_fail hi, exec_restoreDone_of_not hi, exec_restoreXferTimeout_of_not hi, restoreXferTimeout_does hi⟩,
    fun s i hi hal => ⟨fun h => ?_, exec_reset_of_absent hi, exec_reset_of_resetting hi, instanceResetDone_does hi hal,
      exec_instanceResetDone_of_not hi⟩⟩
  simp only [List.forall_mem_cons, List.not_mem_nil, false_imp_iff, implies_true, and_true]
  exact ⟨reset_does h (exec_forceReset hi) rfl, reset_does h (exec_functionLevelReset hi) rfl⟩

end Sys2Proof.Machine
end

section
/-! PROOFS. The way to a partition's upstream port, and what core port 88 sends on it (R105, R212, R223, R465). -/

namespace Sys2Proof.Machine

set_option Elab.async false

/-! ### The same ways out -/

/-- What decides the way to a partition's upstream port stands: registers outside the instances' pages, tables, ports. -/
structure SameWays (s t : State) : Prop where
  regs : ∀ a, reportReg a = false → (a / 4096 < 0x400 ∨ 0x600 ≤ a / 4096) → t.reg a = s.reg a
  tbls : t.tbls = s.tbls
  unbridged : t.unbridged = s.unbridged
  up : ∀ n, (t.port n).up = (s.port n).up
  flushing : ∀ n, (t.port n).flushing = (s.port n).flushing
  service : t.service = s.service

theorem SameWays.refl (s : State) : SameWays s s :=
  ⟨fun _ _ _ => rfl, rfl, rfl, fun _ => rfl, fun _ => rfl, rfl⟩

theorem SameWays.trans {s t u : State} (h : SameWays s t) (h' : SameWays t u) : SameWays s u where
  regs a ha hp := (h'.regs a ha hp).trans (h.regs a ha hp)
  tbls := h'.tbls.trans h.tbls
  unbridged := h'.unbridged.trans h.unbridged
  up n := (h'.up n).trans (h.up n)
  flushing n := (h'.flushing n).trans (h.flushing n)
  service := h'.service.trans h.service

theorem SameWays.of_egressView {s t : State} (h : t.egressView = s.egressView) (hservice : t.service = s.service) :
    SameWays s t where
  regs _ ha _ := reg_of_egressView h ha
  tbls := congrArg EgressView.tbls h
  unbridged := congrArg EgressView.unbridged h
  up n := congrFun (congrArg EgressView.up h) n
  flushing n := congrFun (congrArg EgressView.flushing h) n
  service := hservice

section SameWays
variable {s t : State} (h : SameWays s t)
include h

theorem SameWays.fget {f : Fld} (hf : reportReg f.addr = false) (hp : f.addr / 4096 < 0x400 ∨ 0x600 ≤ f.addr / 4096) :
    t.fget f = s.fget f := State.fget_of_reg (h.regs _ hf hp)

theorem SameWays.role (p : Nat) : t.role p = s.role p :=
  h.fget (by simp [reportReg, statusReg]; omega) (.inr (by dsimp only; omega))

theorem SameWays.portPart (p : Nat) : t.portPart p = s.portPart p :=
  h.fget (by simp [reportReg, statusReg]; omega) (.inr (by dsimp only; omega))

theorem SameWays.present (p : Nat) : t.flag (R.PEP_PORT_STS_PRESENT p) = s.flag (R.PEP_PORT_STS_PRESENT p) := by
  rw [State.flag, State.flag, h.fget (by simp [reportReg, statusReg]; omega) (.inr (by dsimp only; omega))]

theorem SameWays.selfFid : t.selfFid = s.selfFid := h.fget rfl (.inl (by decide))

theorem SameWays.upstreamOf (part : Nat) : t.upstreamOf part = s.upstreamOf part := by
  simp only [State.upstreamOf, h.role, h.portPart, h.present]

theorem SameWays.downstreamOf (part : Nat) : t.downstreamOf part = s.downstreamOf part := by
  simp only [State.downstreamOf, h.role, h.portPart, h.present]

theorem SameWays.tget (page table index hi lo : Nat) : t.tget page table index hi lo = s.tget page table index hi lo := by
  simp only [State.tget, State.tbl, h.tbls]

theorem SameWays.homeOf (part : Nat) : t.homeOf part = s.homeOf part := by
  simp only [State.homeOf, h.upstreamOf, h.selfFid, h.tget]

theorem SameWays.carries (n : Nat) : t.carries n = s.carries n := by
  simp only [State.carries, h.role, h.portPart, h.upstreamOf, h.homeOf, h.downstreamOf, h.unbridged]

theorem SameWays.shut (e : Nat) : t.shut e = s.shut e := by
  simp only [State.shut, h.up, h.flushing, h.carries]

theorem SameWays.egressTo (ingress fid dest tc : Nat) : t.egressTo ingress fid dest tc = s.egressTo ingress fid dest tc := by
  have husable : t.fget R.MAP_LINK_USABLE_USABLE = s.fget R.MAP_LINK_USABLE_USABLE := h.fget rfl (.inl (by decide))
  have hroute : t.routeLinks fid = s.routeLinks fid := by
    unfold State.routeLinks
    rw [State.tbl, h.tbls, husable, ← State.tbl]
  simp only [State.egressTo, State.chooseLink, hroute, h.selfFid, h.service]

end SameWays

/-- A core port of a device can be reached: a local port that takes copies, or a link towards the device. -/
def State.reaches (s : State) (fid p : Nat) : Bool := (s.egressTo 88 fid p 0).any fun e => !s.shut e

theorem SameWays.reaches {s t : State} (h : SameWays s t) (fid p : Nat) : t.reaches fid p = s.reaches fid p := by
  simp only [State.reaches, h.egressTo, h.shut]

theorem State.reaches_iff {s : State} {fid p : Nat} :
    s.reaches fid p = true ↔ ∃ e, s.egressTo 88 fid p 0 = some e ∧ s.shut e = false := by
  simp [State.reaches, Option.any_eq_true]

/-! ### Frames sent or kept waiting -/

/-- What sending from core port 88 leaves: what decides its way, all but the switch core's own state, and the frames that
are in the buffer or wait. -/
structure Sends (s t : State) : Prop where
  view : t.egressView = s.egressView
  rest : t.rest = s.rest
  frames : s.sw.frames ⊆ t.sw.frames
  waiting : s.sw.waiting ⊆ t.sw.waiting

theorem Sends.refl (s : State) : Sends s s := ⟨rfl, rfl, fun _ h => h, fun _ h => h⟩

theorem Sends.trans {s t u : State} (h : Sends s t) (h' : Sends t u) : Sends s u where
  view := h'.view.trans h.view
  rest := h'.rest.trans h.rest
  frames := List.Subset.trans h.frames h'.frames
  waiting := List.Subset.trans h.waiting h'.waiting

section Sends
variable {s t : State} (h : Sends s t)
include h

theorem Sends.sameWays : SameWays s t := .of_egressView h.view (congrArg (·.service) h.rest)

theorem Sends.reg {a : Nat} (ha : reportReg a = false) : t.reg a = s.reg a := reg_of_egressView h.view ha

theorem Sends.holdsWrite {addr : W64} {data : List Byte} (hw : s.holdsWrite addr data) : t.holdsWrite addr data := by
  obtain ⟨f, hf, hkind⟩ := hw
  rw [List.mem_append, List.mem_map] at hf
  refine ⟨f, List.mem_append.mpr ?_, hkind⟩
  rcases hf with hf | ⟨w, hw, rfl⟩
  · exact .inl (h.frames hf)
  · exact .inr (List.mem_map_of_mem (h.waiting hw))

end Sends

section Steps
variable (s : State)

theorem State.bump_sends (a : Nat) : Sends s (s.bump a) :=
  ⟨s.bump_egressView a, s.bump_rest a, by rw [State.bump_sw]; exact fun _ h => h, by rw [State.bump_sw]; exact fun _ h => h⟩

theorem State.fresh_sends : Sends s s.fresh.2 := ⟨rfl, rfl, fun _ h => h, fun _ h => h⟩

theorem State.modTag_sends (id : Nat) (f : TagRec → TagRec) : Sends s (s.modTag id f) :=
  ⟨rfl, rfl, fun _ h => h, fun _ h => h⟩

theorem State.drawNat_sends : Sends s s.drawNat.2 := ⟨rfl, rfl, fun _ h => h, fun _ h => h⟩

theorem State.wait_sends (f : Frame) (need : WaitFor) (cs : List Copy) : Sends s (s.wait f need cs) where
  view := s.wait_egressView f need cs
  rest := s.wait_rest f need cs
  frames _ h := h
  waiting _ h := List.mem_append_left _ h

/-- The frame that waits is among those that wait. -/
theorem State.wait_holds (f : Frame) (need : WaitFor) (cs : List Copy) : f ∈ (s.wait f need cs).sw.waiting.map (·.frame) :=
  List.mem_map.mpr ⟨{ frame := f, need := need, copies := cs }, List.mem_append_right _ (List.mem_singleton_self _), rfl⟩

theorem State.enqueue_waiting (c : Copy) : (s.enqueue c).sw.waiting = s.sw.waiting := by
  unfold State.enqueue
  dsimp only [State.fresh]
  split <;> rfl

theorem State.stored_sends (f : Frame) (c : Copy) : Sends s ((s.store f).enqueue c) where
  view := by rw [State.enqueue_egressView, State.store_egressView]
  rest := by rw [State.enqueue_rest, State.store_rest]
  frames _ h := by
    obtain ⟨banks, hframes⟩ := s.store_frames f
    rw [State.enqueue_frames, hframes]
    exact List.mem_append_left _ h
  waiting _ h := by
    rw [State.enqueue_waiting]
    exact h

theorem State.takeIn_sends {f : Frame} (c : Copy) (hlive : f.live = false) : Sends s (s.takeIn f [c]) := by
  obtain ⟨older, htake⟩ := s.takeIn_of_not_live c hlive
  rw [htake]
  exact s.stored_sends f _

theorem State.freeTag_sends {rid : BitVec 16} {e : Nat} {g : BitVec 14} {t : State} (h : s.freeTag rid e = some (g, t)) :
    Sends s t := by
  unfold State.freeTag at h
  obtain ⟨x, -, hx⟩ := Option.map_eq_some_iff.mp h
  obtain ⟨-, rfl⟩ := Prod.mk.inj hx
  exact s.drawNat_sends

theorem State.proxied_sends {f : Frame} (c : Copy) (o : Nat) (record : Option Nat) (hlive : f.live = false) :
    Sends s (s.proxied f c o record).1 := by
  unfold State.proxied
  dsimp only
  split
  · exact s.wait_sends _ _ _
  · next g t hfree =>
    have hsend : Sends s t := by
      split at hfree
      · exact absurd hfree (by simp)
      · exact s.freeTag_sends hfree
    split
    · exact (hsend.trans (t.modTag_sends _ _)).trans (State.takeIn_sends _ _ hlive)
    · exact hsend.trans (State.takeIn_sends _ _ hlive)

theorem State.place_sends {f : Frame} (c : Copy) (owner record : Option Nat) (hlive : f.live = false) :
    Sends s (s.place f c owner record).1 := by
  unfold State.place
  split
  · split
    · exact s.wait_sends _ _ _
    · exact s.takeIn_sends c hlive
  · split
    · exact s.takeIn_sends _ hlive
    · exact s.proxied_sends c _ record hlive

theorem State.launchCore_sends {f : Frame} (c : Copy) (owner : Option Nat) (hlive : f.live = false) :
    Sends s (s.launchCore f c owner) := by
  unfold State.launchCore
  split
  · exact .refl s
  · dsimp only
    split
    · exact s.wait_sends _ _ _
    · split
      · exact (s.modTag_sends _ _).trans (State.wait_sends _ _ _ _)
      · exact (s.modTag_sends _ _).trans (State.place_sends _ _ _ _ hlive)

end Steps

/-! ### Writes to a host -/

section Posts
variable (s : State)

theorem State.admitOrWait_sends (f : Frame) (c : Copy) : Sends s (s.admitOrWait f [c]) := by
  unfold State.admitOrWait
  split
  · exact s.stored_sends f c
  · exact s.wait_sends f _ _

theorem State.admitOrWait_holdsWrite {f : Frame} (c : Copy) (hkind : f.tlp.kind = .memWrite) :
    (s.admitOrWait f [c]).holdsWrite f.tlp.addr f.tlp.data := by
  unfold State.admitOrWait
  split
  · obtain ⟨banks, hframes⟩ := s.store_frames f
    refine ⟨{ f with banks := banks }, List.mem_append_left _ ?_, hkind, rfl, rfl⟩
    rw [List.foldl_cons, List.foldl_nil, State.enqueue_frames, hframes]
    exact List.mem_append_right _ (List.mem_singleton_self _)
  · exact ⟨f, List.mem_append_right _ (s.wait_holds f _ _), hkind, rfl, rfl⟩

theorem State.devicePost_sends (t : Tlp) (pool : Pool) (fid dest : Nat) (why : Purpose) :
    Sends s (s.devicePost t pool fid dest why) := by
  unfold State.devicePost
  split
  · exact s.bump_sends _
  · split
    · exact s.bump_sends _
    · exact s.fresh_sends.trans (State.admitOrWait_sends _ _ _)

theorem State.devicePost_holdsWrite {t : Tlp} (pool : Pool) {fid dest e : Nat} (why : Purpose) (hkind : t.kind = .memWrite)
    (he : s.egressTo 88 fid dest t.tc.val = some e) (hshut : s.shut e = false) :
    (s.devicePost t pool fid dest why).holdsWrite t.addr t.data := by
  rw [State.devicePost, he]
  dsimp only
  rw [if_neg (by simp [hshut])]
  exact State.admitOrWait_holdsWrite (f := s.fresh.2.formFrame s.fresh.1 88 t pool .device) _ _ hkind

theorem State.postToHost_sends (part : Nat) (addr : W64) (data : List Byte) (pool : Pool) (why : Purpose) :
    Sends s (s.postToHost part addr data pool why) := by
  unfold State.postToHost
  split
  · exact .refl s
  · exact s.devicePost_sends _ _ _ _ _

theorem State.postToHost_holdsWrite {part fid p : Nat} (addr : W64) (data : List Byte) (pool : Pool) (why : Purpose)
    (hhome : s.homeOf part = some (fid, p)) (hreach : s.reaches fid p = true) :
    (s.postToHost part addr data pool why).holdsWrite addr data := by
  obtain ⟨e, he, hshut⟩ := State.reaches_iff.mp hreach
  rw [State.postToHost, hhome]
  exact s.devicePost_holdsWrite pool why rfl he hshut

end Posts

/-! ### Reads of core port 88 -/

section CoreRead
variable (s : State) (fid p : Nat) (addr : W64) (len : Nat) (why : CoreWhy)

theorem State.coreRead_of_not_reaches (h : s.reaches fid p = false) : s.coreRead fid p addr len why = (s, false) := by
  unfold State.coreRead
  split
  · rfl
  · next e he =>
    have hshut : s.shut e = true := by simpa [State.reaches, he] using h
    rw [if_pos hshut]

/-- The frame of a read. -/
def State.readFrame (s : State) (addr : W64) (len : Nat) : Frame :=
  { s.fresh.2.formFrame s.fresh.1 88 { kind := .memRead, addr := addr, len := len } .management .device with
    record := some s.fresh.1 }

/-- A read noted, with its tag record. -/
def State.readNoted (s : State) (len : Nat) (why : CoreWhy) : State :=
  { s.fresh.2 with
    sw := { s.fresh.2.sw with tags := s.fresh.2.sw.tags ++
      [{ id := s.fresh.1, reqId := 0, tag := 0, ingress := 88, fid := s.fresh.2.selfFid, admitted := s.fresh.2.now }] }
    coreReads := s.coreReads ++ [{ id := s.fresh.1, why := why, len := len }] }

theorem State.coreRead_eq {e : Nat} (he : s.egressTo 88 fid p 0 = some e) (hshut : s.shut e = false) :
    s.coreRead fid p addr len why = ((s.readNoted len why).launchCore (s.readFrame addr len)
      { frame := s.fresh.1, egress := e, queue := queueOf (s.readFrame addr len), addr := addr, dstFid := fid, dest := p,
        purpose := .mgmt } ((s.readNoted len why).ownerOf fid p), true) := by
  unfold State.coreRead
  rw [he]
  dsimp only
  rw [if_neg (by simp [hshut])]
  rfl

/-- A read that has a way out is noted, and sent or kept waiting. -/
theorem State.coreRead_of_reaches (h : s.reaches fid p = true) : (s.coreRead fid p addr len why).2 = true ∧
    ∃ r : CoreRead, r.why = why ∧ r.len = len ∧
      Sends { s with coreReads := s.coreReads ++ [r] } (s.coreRead fid p addr len why).1 := by
  obtain ⟨e, he, hshut⟩ := State.reaches_iff.mp h
  have hnoted : Sends { s with coreReads := s.coreReads ++ [{ id := s.fresh.1, why := why, len := len }] }
      (s.readNoted len why) := ⟨rfl, rfl, fun _ h => h, fun _ h => h⟩
  have hlive : (s.readFrame addr len).live = false := rfl
  rw [State.coreRead_eq s fid p addr len why he hshut]
  exact ⟨rfl, _, rfl, rfl, hnoted.trans (State.launchCore_sends _ _ _ hlive)⟩

end CoreRead

end Sys2Proof.Machine
end

section
/-! PROOFS. SAVE and RESTORE of an instance (R205, R206). -/

namespace Sys2Proof.Machine

set_option Elab.async false

/-! ### What the beginning of a command leaves -/

/-- What a command of instance `i` leaves when it begins: VIM_INST_STS and the instance's record apart, everything that its
transfer looks at. -/
structure Begun (i : Nat) (s t : State) : Prop where
  reg : ∀ a, a ≠ R.VIM_INST_STS i → t.reg a = s.reg a
  tbls : t.tbls = s.tbls
  unbridged : t.unbridged = s.unbridged
  sw : t.sw = s.sw
  service : t.service = s.service
  coreReads : t.coreReads = s.coreReads

theorem Begun.trans {i : Nat} {s t u : State} (h : Begun i s t) (h' : Begun i t u) : Begun i s u where
  reg a ha := (h'.reg a ha).trans (h.reg a ha)
  tbls := h'.tbls.trans h.tbls
  unbridged := h'.unbridged.trans h.unbridged
  sw := h'.sw.trans h.sw
  service := h'.service.trans h.service
  coreReads := h'.coreReads.trans h.coreReads

theorem State.noted_begun (s : State) (i cmd : Nat) : Begun i s (s.noted i cmd) := by
  unfold State.noted
  split
  · exact ⟨fun _ _ => rfl, rfl, rfl, rfl, rfl, rfl⟩
  · exact ⟨fun _ _ => rfl, rfl, rfl, rfl, rfl, rfl⟩

theorem State.cmdBusy_begun (s : State) (i cmd : Nat) : Begun i s (s.cmdBusy i cmd) :=
  ⟨fun _ ha => s.cmdBusy_reg ha cmd, rfl, rfl, rfl, rfl, rfl⟩

theorem State.setInstState_begun (s : State) (i st : Nat) : Begun i s (s.setInstState i st) :=
  ⟨fun _ ha => s.setInstState_reg ha st, rfl, rfl, rfl, rfl, rfl⟩

section Begun
variable {i : Nat} {s t : State} (h : Begun i s t)
include h

theorem Begun.keepsRegs : KeepsRegs s t [R.VIM_INST_STS i] :=
  fun a _ hne => h.reg a fun ha => hne (ha ▸ List.mem_singleton_self _)

theorem Begun.sameWays (hi : i < 512) : SameWays s t where
  regs a _ hpage := h.reg a (by rintro rfl; simp only [R.VIM_INST_STS] at hpage; omega)
  tbls := h.tbls
  unbridged := h.unbridged
  up n := by rw [State.port, h.sw, State.port]
  flushing n := by rw [State.port, h.sw, State.port]
  service := h.service

theorem Begun.mgrPart : t.fget (R.VIM_INST_OWNER_MGR_PART i) = s.fget (R.VIM_INST_OWNER_MGR_PART i) :=
  State.fget_of_reg (h.reg _ (by simp only [R.VIM_INST_STS]; omega))

theorem Begun.saveAddr : t.pair (R.VIM_INST_SAVE_LO i) (R.VIM_INST_SAVE_HI i) = s.pair (R.VIM_INST_SAVE_LO i) (R.VIM_INST_SAVE_HI i) := by
  rw [State.pair, h.reg _ (by simp only [R.VIM_INST_SAVE_LO, R.VIM_INST_STS]; omega),
    h.reg _ (by simp only [R.VIM_INST_SAVE_HI, R.VIM_INST_STS]; omega), State.pair]

end Begun

/-! ### The record of a SAVE (R204) -/

/-- A record of an instance as it is written, with its check. -/
def State.saveRecord (s : State) (i : Nat) : List Byte := s.saveBody i ++ leBytes 4 (crc32c (s.saveBody i)).toNat

/-- Of the instance's own record, a save record shows where it was frozen and its headgate then. -/
theorem State.saveBody_of_insts (s : State) (i : Nat) (m : Store InstSt)
    (hhg : (({ s with insts := m } : State).inst i).hgAtFreeze = (s.inst i).hgAtFreeze)
    (hrec : (({ s with insts := m } : State).inst i).fromRecovery = (s.inst i).fromRecovery) :
    ({ s with insts := m } : State).saveBody i = s.saveBody i := by
  have hfget (f : Fld) : ({ s with insts := m } : State).fget f = s.fget f := rfl
  have hns : ({ s with insts := m } : State).ns = s.ns := rfl
  have hfid : ({ s with insts := m } : State).selfFid = s.selfFid := rfl
  have hpart : ({ s with insts := m } : State).instPart i = s.instPart i := rfl
  have hd3 (fn : Nat) : ({ s with insts := m } : State).d3hot fn = s.d3hot fn := rfl
  have haddr (q off : Nat) : ({ s with insts := m } : State).qaddr i q off = s.qaddr i q off := rfl
  have hbar0 (off : Nat) : ({ s with insts := m } : State).bar0Read i off = s.bar0Read i off := rfl
  have hbar (fn off : Nat) : ({ s with insts := m } : State).bar fn off = s.bar fn off := rfl
  have hcfg (fn off : Nat) : ({ s with insts := m } : State).cfgRead fn off = s.cfgRead fn off := rfl
  simp only [State.saveBody, hhg, hrec, hfget, hns, hfid, hpart, hd3, haddr, hbar0, hbar, hcfg]

/-- The cycle noted for a command is in the instance's record alone. -/
theorem State.noted_cmdBusy (s : State) (i : Nat) :
    (s.noted i 4).cmdBusy i 4 = { s.cmdBusy i 4 with insts := ((s.noted i 4).cmdBusy i 4).insts } := rfl

theorem State.saveRecord_noted (s : State) (i : Nat) : ((s.noted i 4).cmdBusy i 4).saveRecord i = (s.cmdBusy i 4).saveRecord i := by
  have hnoted := (s.noted i 4).inst_cmdBusy i 4
  rw [State.noted_inst_same] at hnoted
  have hplain := s.inst_cmdBusy i 4
  have hbody : ((s.noted i 4).cmdBusy i 4).saveBody i = (s.cmdBusy i 4).saveBody i := by
    rw [State.noted_cmdBusy]
    exact State.saveBody_of_insts _ i _
      ((congrArg InstSt.hgAtFreeze hnoted).trans (congrArg InstSt.hgAtFreeze hplain).symm)
      ((congrArg InstSt.fromRecovery hnoted).trans (congrArg InstSt.fromRecovery hplain).symm)
  rw [State.saveRecord, hbody, State.saveRecord]

/-! ### SAVE (R205) -/

/-- A piece of a record. -/
def recordPiece (bs : List Byte) (k : Nat) : List Byte := (bs.drop (savePiece * k)).take savePiece

/-- The pieces of a record written to the host of a partition. -/
def State.postPieces (s : State) (part addr : Nat) (bs : List Byte) : State :=
  (upTo 32).foldl (fun s k => s.postToHost part (BitVec.ofNat 64 (addr + savePiece * k)) (recordPiece bs k) .management .mgmt) s

/-- What a SAVE does once it is BUSY. -/
def State.saveRuns (s : State) (i : Nat) : State :=
  let part := s.fget (R.VIM_INST_OWNER_MGR_PART i)
  let addr := s.pair (R.VIM_INST_SAVE_LO i) (R.VIM_INST_SAVE_HI i)
  match s.homeOf part with
  | none => s.cmdFailed i ciXFER
  | some (fid, p) =>
    match (s.postPieces part addr (s.saveRecord i)).coreRead fid p (BitVec.ofNat 64 (addr + 4095)) 0 (.save i) with
    | (s, true) => s
    | (s, false) => s.cmdFailed i ciXFER

theorem State.saveInst_eq (s : State) (i : Nat) : s.saveInst i = s.command i 4 fun u => (u.cmdBusy i 4).saveRuns i := rfl

section PostPieces
variable (s : State) (part addr : Nat) (bs : List Byte)

theorem State.postPieces_regs : (s.postPieces part addr bs).regs = s.regs :=
  regs_foldl _ _ _ fun u _ => (u.postToHost_onlyPosts _ _ _ _ _).regs

theorem State.postPieces_sends : Sends s (s.postPieces part addr bs) :=
  List.foldlRecOn (upTo 32) _ (motive := Sends s) (.refl s) fun u hu _ _ => hu.trans (State.postToHost_sends u _ _ _ _ _)

variable {part fid p : Nat} (hhome : s.homeOf part = some (fid, p)) (hreach : s.reaches fid p = true)
include hhome hreach

/-- Towards a port that can be reached every piece goes out. -/
theorem State.postPieces_holdsWrite : ∀ k, k < 32 →
    (s.postPieces part addr bs).holdsWrite (BitVec.ofNat 64 (addr + savePiece * k)) (recordPiece bs k) := by
  have hpost (u : State) (k : Nat) := u.postToHost_sends part (BitVec.ofNat 64 (addr + savePiece * k)) (recordPiece bs k) .management .mgmt
  exact foldl_upTo_turns (P := fun _ (u : State) => SameWays s u)
    (Q := fun k (u : State) => u.holdsWrite (BitVec.ofNat 64 (addr + savePiece * k)) (recordPiece bs k))
    (fun u k _ h => u.postToHost_holdsWrite _ _ _ _ ((h.homeOf part).trans hhome) ((h.reaches fid p).trans hreach))
    (fun u j k _ _ h => h.trans (hpost u j).sameWays) (fun u j k _ _ h => (hpost u j).holdsWrite h) fun _ _ => .refl s

end PostPieces

/-- A transfer that cannot begin: the command is REFUSED with cause XFER. -/
structure XferFailed (i st : Nat) (s t : State) : Prop where
  result : t.fget (R.VIM_INST_STS_CMD_RESULT i) = 3
  cause : t.fget (R.VIM_INST_STS_CAUSE i) = ciXFER
  cmd : (t.inst i).cmd = 0
  state : t.instState i = st
  event : t.event (vimPage i) 1 = true
  coreReads : t.coreReads = s.coreReads
  regs : KeepsRegs s t [R.VIM_INST_STS i]

theorem State.cmdFailed_xferFailed {s u : State} {i st : Nat} (hal : s.alive = true) (hst : u.instState i = st)
    (hregs : KeepsRegs s u [R.VIM_INST_STS i]) (hreads : u.coreReads = s.coreReads) :
    XferFailed i st s (u.cmdFailed i ciXFER) where
  result := congrArg InstPage.result (u.instPage_cmdFailed i ciXFER)
  cause := congrArg InstPage.cause (u.instPage_cmdFailed i ciXFER)
  cmd := congrArg InstSt.cmd (u.inst_cmdFailed i ciXFER)
  state := (congrArg InstPage.state (u.instPage_cmdFailed i ciXFER)).trans hst
  event := State.cmdFailed_event i (hregs.alive_of_sts i hal) ciXFER
  coreReads := (u.cmdFailed_coreReads i ciXFER).trans hreads
  regs := hregs.trans (u.cmdFailed_keepsRegs i ciXFER)

section Save
variable {s : State} {i : Nat}

theorem State.saveRuns_of_unreached (hal : s.alive = true)
    (h : ∀ fid p, s.homeOf (s.fget (R.VIM_INST_OWNER_MGR_PART i)) = some (fid, p) → s.reaches fid p = false) :
    XferFailed i (s.instState i) s (s.saveRuns i) := by
  unfold State.saveRuns
  dsimp only
  split
  · exact State.cmdFailed_xferFailed hal rfl (.refl s _) rfl
  · next fid p hhome =>
    have hsends := s.postPieces_sends (s.fget (R.VIM_INST_OWNER_MGR_PART i))
      (s.pair (R.VIM_INST_SAVE_LO i) (R.VIM_INST_SAVE_HI i)) (s.saveRecord i)
    have hregs := s.postPieces_regs (s.fget (R.VIM_INST_OWNER_MGR_PART i))
      (s.pair (R.VIM_INST_SAVE_LO i) (R.VIM_INST_SAVE_HI i)) (s.saveRecord i)
    generalize s.postPieces _ _ _ = u at hsends hregs ⊢
    rw [u.coreRead_of_not_reaches fid p _ 0 _ ((hsends.sameWays.reaches fid p).trans (h fid p hhome))]
    have hstate : u.instState i = s.instState i := congrArg InstPage.state (State.instPage_of_regs hregs i)
    exact State.cmdFailed_xferFailed hal hstate (.of_regs hregs _) (congrArg (·.coreReads) hsends.rest)

theorem reportReg_vimInstSts (i : Nat) : reportReg (R.VIM_INST_STS i) = false := by
  simp only [reportReg, statusReg, R.VIM_INST_STS, Bool.or_eq_false_iff, beq_eq_false_iff_ne]
  omega

theorem reportReg_vimInstCtl (i : Nat) : reportReg (R.VIM_INST_CTL i) = false := by
  simp only [reportReg, statusReg, R.VIM_INST_CTL, Bool.or_eq_false_iff, beq_eq_false_iff_ne]
  omega

theorem Sends.instPage {s t : State} (h : Sends s t) (i : Nat) : t.instPage i = s.instPage i :=
  State.instPage_of_reg (h.reg (reportReg_vimInstSts i)) (h.reg (reportReg_vimInstCtl i))

theorem State.saveRuns_of_reached {fid p : Nat} (hhome : s.homeOf (s.fget (R.VIM_INST_OWNER_MGR_PART i)) = some (fid, p))
    (hreach : s.reaches fid p = true) : (s.saveRuns i).instPage i = s.instPage i ∧ (s.saveRuns i).insts = s.insts ∧
    (∃ r ∈ (s.saveRuns i).coreReads, r.why = .save i ∧ r.len = 0) ∧
    ∀ k, k < 32 → (s.saveRuns i).holdsWrite
      (BitVec.ofNat 64 (s.pair (R.VIM_INST_SAVE_LO i) (R.VIM_INST_SAVE_HI i) + savePiece * k)) (recordPiece (s.saveRecord i) k) := by
  have hheld := s.postPieces_holdsWrite (s.pair (R.VIM_INST_SAVE_LO i) (R.VIM_INST_SAVE_HI i)) (s.saveRecord i) hhome hreach
  have hsends := s.postPieces_sends (s.fget (R.VIM_INST_OWNER_MGR_PART i))
    (s.pair (R.VIM_INST_SAVE_LO i) (R.VIM_INST_SAVE_HI i)) (s.saveRecord i)
  unfold State.saveRuns
  dsimp only
  rw [hhome]
  dsimp only
  generalize s.postPieces _ _ _ = u at hsends hheld ⊢
  obtain ⟨hissued, r, hwhy, hlen, hread⟩ := u.coreRead_of_reaches fid p
    (BitVec.ofNat 64 (s.pair (R.VIM_INST_SAVE_LO i) (R.VIM_INST_SAVE_HI i) + 4095)) 0 (.save i)
    ((hsends.sameWays.reaches fid p).trans hreach)
  generalize u.coreRead _ _ _ _ _ = x at hissued hread ⊢
  obtain ⟨t, issued⟩ := x
  dsimp only at hissued hread
  subst hissued
  have hreads : t.coreReads = u.coreReads ++ [r] := congrArg (·.coreReads) hread.rest
  exact ⟨(hread.instPage i).trans (hsends.instPage i), (congrArg (·.insts) hread.rest).trans (congrArg (·.insts) hsends.rest),
    ⟨r, hreads ▸ List.mem_append_right _ (List.mem_singleton_self r), hwhy, hlen⟩, fun k hk => hread.holdsWrite (hheld k hk)⟩

end Save

/-! ### RESTORE (R206) -/

/-- The read of one piece of a record, with whether all have gone out so far. -/
def State.readPiece (fid p addr i : Nat) (r : State × Bool) (k : Nat) : State × Bool :=
  let x := r.1.coreRead fid p (BitVec.ofNat 64 (addr + savePiece * k)) savePiece (.restore i (savePiece * k))
  (x.1, r.2 && x.2)

/-- What a RESTORE does once it is BUSY, in SETUP. -/
def State.restoreRuns (s : State) (i : Nat) : State :=
  match s.homeOf (s.fget (R.VIM_INST_OWNER_MGR_PART i)) with
  | none => (s.setInstState i iFREE).cmdFailed i ciXFER
  | some (fid, p) =>
    let r := (upTo 32).foldl (State.readPiece fid p (s.pair (R.VIM_INST_SAVE_LO i) (R.VIM_INST_SAVE_HI i)) i) (s, true)
    if r.2 then r.1 else (r.1.setInstState i iFREE).cmdFailed i ciXFER

theorem State.restoreInst_eq (s : State) (i : Nat) :
    s.restoreInst i = s.command i 5 fun u => ((u.cmdBusy i 5).setInstState i iSETUP).restoreRuns i := rfl

section Restore
variable {s : State} {i : Nat}

/-- Reads towards a port that cannot be reached leave the state. -/
theorem State.readPieces_of_unreached {fid p : Nat} (addr i : Nat) (h : s.reaches fid p = false) :
    (upTo 32).foldl (State.readPiece fid p addr i) (s, true) = (s, false) := by
  have hread (b : Bool) (k : Nat) : State.readPiece fid p addr i (s, b) k = (s, false) := by
    rw [State.readPiece]
    dsimp only
    rw [s.coreRead_of_not_reaches fid p _ _ _ h, Bool.and_false]
  refine foldl_upTo_turns (n := 32) (f := State.readPiece fid p addr i) (a := (s, true))
    (P := fun _ (x : State × Bool) => x.1 = s) (Q := fun _ (x : State × Bool) => x = (s, false))
    ?_ ?_ ?_ (fun _ _ => rfl) 0 (by decide)
  · rintro ⟨u, b⟩ k - rfl
    exact hread b k
  · rintro ⟨u, b⟩ j k - rfl -
    rw [hread]
  · rintro ⟨u, b⟩ j k - rfl -
    exact hread b j

theorem State.restoreRuns_of_unreached (hal : s.alive = true)
    (h : ∀ fid p, s.homeOf (s.fget (R.VIM_INST_OWNER_MGR_PART i)) = some (fid, p) → s.reaches fid p = false) :
    XferFailed i iFREE s (s.restoreRuns i) := by
  have hfailed : XferFailed i iFREE s ((s.setInstState i iFREE).cmdFailed i ciXFER) := by
    have hstate : (s.setInstState i iFREE).instState i = iFREE := congrArg InstPage.state (s.instPage_setInstState i iFREE)
    exact State.cmdFailed_xferFailed hal hstate (s.setInstState_keepsRegs i iFREE) rfl
  unfold State.restoreRuns
  split
  · exact hfailed
  · next fid p hhome =>
    dsimp only
    rw [State.readPieces_of_unreached _ i (h fid p hhome)]
    exact hfailed

/-- What the reads of a record leave while all have gone out. -/
structure PiecesRead (i : Nat) (s : State) (x : State × Bool) : Prop where
  all : x.2 = true
  ways : SameWays s x.1
  page : x.1.instPage i = s.instPage i
  insts : x.1.insts = s.insts

theorem State.readPiece_of_reaches {fid p : Nat} (addr : Nat) {x : State × Bool} (k : Nat) (h : PiecesRead i s x)
    (hreach : s.reaches fid p = true) : PiecesRead i s (State.readPiece fid p addr i x k) ∧
    ∃ r : CoreRead, r.why = .restore i (savePiece * k) ∧ r.len = savePiece ∧
      (State.readPiece fid p addr i x k).1.coreReads = x.1.coreReads ++ [r] := by
  obtain ⟨hissued, r, hwhy, hlen, hread⟩ := x.1.coreRead_of_reaches fid p (BitVec.ofNat 64 (addr + savePiece * k)) savePiece
    (.restore i (savePiece * k)) ((h.ways.reaches fid p).trans hreach)
  have hways : SameWays x.1 { x.1 with coreReads := x.1.coreReads ++ [r] } := .of_egressView rfl rfl
  unfold State.readPiece
  dsimp only
  generalize x.1.coreRead _ _ _ _ _ = y at hissued hread ⊢
  refine ⟨⟨?_, (h.ways.trans hways).trans hread.sameWays, (hread.instPage i).trans h.page,
    (congrArg (·.insts) hread.rest).trans h.insts⟩, r, hwhy, hlen, congrArg (·.coreReads) hread.rest⟩
  rw [h.all, hissued]
  rfl

theorem State.readPieces_of_reaches {fid p : Nat} (addr : Nat) (hreach : s.reaches fid p = true) : ∀ k, k < 32 →
    PiecesRead i s ((upTo 32).foldl (State.readPiece fid p addr i) (s, true)) ∧
    ∃ r ∈ ((upTo 32).foldl (State.readPiece fid p addr i) (s, true)).1.coreReads,
      r.why = .restore i (savePiece * k) ∧ r.len = savePiece := by
  refine foldl_upTo_turns (n := 32) (f := State.readPiece fid p addr i) (a := (s, true)) (P := fun _ x => PiecesRead i s x)
    (Q := fun k x => PiecesRead i s x ∧ ∃ r ∈ x.1.coreReads, r.why = .restore i (savePiece * k) ∧ r.len = savePiece)
    (fun x k _ h => ?_) (fun x j k _ _ h => (State.readPiece_of_reaches addr j h hreach).1) (fun x j k _ h hk => ?_)
    fun _ _ => ⟨rfl, .refl s, rfl, rfl⟩
  · obtain ⟨hnext, r, hwhy, hlen, hreads⟩ := State.readPiece_of_reaches addr k h hreach
    exact ⟨hnext, r, hreads ▸ List.mem_append_right _ (List.mem_singleton_self r), hwhy, hlen⟩
  · obtain ⟨hnext, _, -, -, hreads⟩ := State.readPiece_of_reaches addr j h hreach
    obtain ⟨-, r, hr, hread⟩ := hk
    exact ⟨hnext, r, hreads ▸ List.mem_append_left _ hr, hread⟩

theorem State.restoreRuns_of_reached {fid p : Nat} (hhome : s.homeOf (s.fget (R.VIM_INST_OWNER_MGR_PART i)) = some (fid, p))
    (hreach : s.reaches fid p = true) : (s.restoreRuns i).instPage i = s.instPage i ∧ (s.restoreRuns i).insts = s.insts ∧
    ∀ k, k < 32 → ∃ r ∈ (s.restoreRuns i).coreReads, r.why = .restore i (savePiece * k) ∧ r.len = savePiece := by
  have hreads := State.readPieces_of_reaches (i := i) (s.pair (R.VIM_INST_SAVE_LO i) (R.VIM_INST_SAVE_HI i)) hreach
  unfold State.restoreRuns
  rw [hhome]
  dsimp only
  generalize (upTo 32).foldl (State.readPiece _ _ _ i) (s, true) = x at hreads ⊢
  obtain ⟨hall, -⟩ := hreads 0 (by decide)
  rw [if_pos hall.all]
  exact ⟨hall.page, hall.insts, fun k hk => (hreads k hk).2⟩

end Restore

/-! ### The two commands -/

section Clauses
variable {s : State} {i : Nat} (hi : i < 512)
include hi

/-- Whether the manager's port can be reached, asked when the command has begun. -/
theorem Begun.opened {t : State} (h : Begun i s t) :
    (((t.homeOf (t.fget (R.VIM_INST_OWNER_MGR_PART i))).bind fun h => t.egressTo 88 h.1 h.2 0).any fun e => !t.shut e) =
    ((s.homeOf (s.fget (R.VIM_INST_OWNER_MGR_PART i))).bind fun h => s.egressTo 88 h.1 h.2 0).any fun e => !s.shut e := by
  have hways := h.sameWays hi
  simp only [h.mgrPart, hways.homeOf, hways.egressTo, hways.shut]

omit hi in
theorem reached_of_opened (part : Nat)
    (h : (((s.homeOf part).bind fun h => s.egressTo 88 h.1 h.2 0).any fun e => !s.shut e) = true) :
    ∃ fid p, s.homeOf part = some (fid, p) ∧ s.reaches fid p = true := by
  cases hhome : s.homeOf part with
  | none =>
    rw [hhome] at h
    exact absurd h (by simp)
  | some x =>
    rw [hhome] at h
    exact ⟨x.1, x.2, rfl, h⟩

omit hi in
theorem unreached_of_not_opened (part : Nat)
    (h : (((s.homeOf part).bind fun h => s.egressTo 88 h.1 h.2 0).any fun e => !s.shut e) = false) :
    ∀ fid p, s.homeOf part = some (fid, p) → s.reaches fid p = false := by
  intro fid p hhome
  rw [hhome] at h
  exact h

omit hi in
/-- A SAVE begun. -/
theorem saveBegun (s : State) (i : Nat) : Begun i s ((s.noted i 4).cmdBusy i 4) :=
  (s.noted_begun i 4).trans (State.cmdBusy_begun _ i 4)

omit hi in
/-- A RESTORE begun. -/
theorem restoreBegun (s : State) (i : Nat) : Begun i s (((s.noted i 5).cmdBusy i 5).setInstState i iSETUP) :=
  ((s.noted_begun i 5).trans (State.cmdBusy_begun _ i 5)).trans (State.setInstState_begun _ i iSETUP)

theorem exec_save_of_none (h : s.cmdCause i 4 = none) : exec (.save i) s = .next (((s.noted i 4).cmdBusy i 4).saveRuns i) :=
  (exec_instCommand s hi (.save i, 4) (by simp)).trans (congrArg _ ((s.saveInst_eq i).trans (State.command_of_none h _)))

theorem exec_restore_of_none (h : s.cmdCause i 5 = none) :
    exec (.restore i) s = .next ((((s.noted i 5).cmdBusy i 5).setInstState i iSETUP).restoreRuns i) :=
  (exec_instCommand s hi (.restore i, 5) (by simp)).trans (congrArg _ ((s.restoreInst_eq i).trans (State.command_of_none h _)))

variable {opened : Bool}
  (hopened : opened = ((s.homeOf (s.fget (R.VIM_INST_OWNER_MGR_PART i))).bind fun h => s.egressTo 88 h.1 h.2 0).any
    fun e => !s.shut e)
include hopened

theorem save_does_transfer (h : s.cmdCause i 4 = none) (ho : opened = true) : Does (.save i) s fun t =>
    t.fget (R.VIM_INST_STS_CMD_RESULT i) = 1 ∧ (t.inst i).cmd = 4 ∧ (∃ r ∈ t.coreReads, r.why = .save i ∧ r.len = 0) ∧
    (∀ k, k < 32 → t.holdsWrite (BitVec.ofNat 64 (s.pair (R.VIM_INST_SAVE_LO i) (R.VIM_INST_SAVE_HI i) + savePiece * k))
      (recordPiece ((s.cmdBusy i 4).saveRecord i) k)) ∧ t.vault = s.vault := by
  have hexec := exec_save_of_none hi h
  have hvault := exec_vault_of_not_writesVault rfl hexec
  have hbegun := saveBegun s i
  have hrecord := s.saveRecord_noted i
  have hpage := (s.noted i 4).instPage_cmdBusy i 4
  have hinst := (s.noted i 4).inst_cmdBusy i 4
  refine ⟨_, hexec, ?_⟩
  generalize (s.noted i 4).cmdBusy i 4 = v at *
  obtain ⟨fid, p, hhome, hreach⟩ := reached_of_opened _ ((hbegun.opened hi).trans (hopened.symm.trans ho))
  obtain ⟨hpage', hinsts, hread, hheld⟩ := State.saveRuns_of_reached hhome hreach
  rw [hbegun.saveAddr, hrecord] at hheld
  exact ⟨congrArg InstPage.result (hpage'.trans hpage),
    congrArg InstSt.cmd ((State.inst_of_insts hinsts i).trans hinst), hread, hheld, hvault⟩

theorem save_does_fail (hal : s.alive = true) (h : s.cmdCause i 4 = none) (ho : opened = false) : Does (.save i) s fun t =>
    t.fget (R.VIM_INST_STS_CMD_RESULT i) = 3 ∧ t.fget (R.VIM_INST_STS_CAUSE i) = ciXFER ∧ (t.inst i).cmd = 0 ∧
    t.instState i = s.instState i ∧ t.event (vimPage i) 1 = true ∧ t.coreReads = s.coreReads ∧
    KeepsRegs s t [R.VIM_INST_STS i] ∧ t.vault = s.vault := by
  have hexec := exec_save_of_none hi h
  have hvault := exec_vault_of_not_writesVault rfl hexec
  have hbegun := saveBegun s i
  have hstate := congrArg InstPage.state (((s.noted i 4).instPage_cmdBusy i 4).trans (by rw [State.noted_instPage]))
  refine ⟨_, hexec, ?_⟩
  generalize (s.noted i 4).cmdBusy i 4 = v at *
  have hfailed := State.saveRuns_of_unreached (hbegun.keepsRegs.alive_of_sts i hal)
    (unreached_of_not_opened _ ((hbegun.opened hi).trans (hopened.symm.trans ho)))
  exact ⟨hfailed.result, hfailed.cause, hfailed.cmd, hfailed.state.trans hstate, hfailed.event,
    hfailed.coreReads.trans hbegun.coreReads, hbegun.keepsRegs.trans hfailed.regs, hvault⟩

theorem restore_does_transfer (h : s.cmdCause i 5 = none) (ho : opened = true) : Does (.restore i) s fun t =>
    t.fget (R.VIM_INST_STS_CMD_RESULT i) = 1 ∧ t.instState i = iSETUP ∧ (t.inst i).cmd = 5 ∧
    (∀ k, k < 32 → ∃ r ∈ t.coreReads, r.why = .restore i (savePiece * k) ∧ r.len = savePiece) ∧ t.vault = s.vault := by
  have hexec := exec_restore_of_none hi h
  have hvault := exec_vault_of_not_writesVault rfl hexec
  have hbegun := restoreBegun s i
  have hpage := State.instPage_setInstState ((s.noted i 5).cmdBusy i 5) i iSETUP
  rw [State.instPage_cmdBusy] at hpage
  have hinst := (State.inst_setInstState ((s.noted i 5).cmdBusy i 5) i iSETUP i).trans ((s.noted i 5).inst_cmdBusy i 5)
  refine ⟨_, hexec, ?_⟩
  generalize ((s.noted i 5).cmdBusy i 5).setInstState i iSETUP = v at *
  obtain ⟨fid, p, hhome, hreach⟩ := reached_of_opened _ ((hbegun.opened hi).trans (hopened.symm.trans ho))
  obtain ⟨hpage', hinsts, hreads⟩ := State.restoreRuns_of_reached hhome hreach
  exact ⟨congrArg InstPage.result (hpage'.trans hpage), congrArg InstPage.state (hpage'.trans hpage),
    congrArg InstSt.cmd ((State.inst_of_insts hinsts i).trans hinst), hreads, hvault⟩

theorem restore_does_fail (hal : s.alive = true) (h : s.cmdCause i 5 = none) (ho : opened = false) :
    Does (.restore i) s fun t => t.fget (R.VIM_INST_STS_CMD_RESULT i) = 3 ∧ t.fget (R.VIM_INST_STS_CAUSE i) = ciXFER ∧
    (t.inst i).cmd = 0 ∧ t.instState i = iFREE ∧ t.event (vimPage i) 1 = true ∧ t.coreReads = s.coreReads ∧
    KeepsRegs s t [R.VIM_INST_STS i] ∧ t.vault = s.vault := by
  have hexec := exec_restore_of_none hi h
  have hvault := exec_vault_of_not_writesVault rfl hexec
  have hbegun := restoreBegun s i
  refine ⟨_, hexec, ?_⟩
  generalize ((s.noted i 5).cmdBusy i 5).setInstState i iSETUP = v at *
  have hfailed := State.restoreRuns_of_unreached (hbegun.keepsRegs.alive_of_sts i hal)
    (unreached_of_not_opened _ ((hbegun.opened hi).trans (hopened.symm.trans ho)))
  exact ⟨hfailed.result, hfailed.cause, hfailed.cmd, hfailed.state, hfailed.event,
    hfailed.coreReads.trans hbegun.coreReads, hbegun.keepsRegs.trans hfailed.regs, hvault⟩

end Clauses

/-- Settles O37: towards a port that can be reached the record goes out, or is read, in pieces; towards another one the
command is refused at once. -/
theorem saveAndRestore : Obligations.SaveAndRestore := by
  unfold Obligations.SaveAndRestore
  rintro s i hi hal way rfl opened hopened addr rfl
  refine ⟨?_, save_does_fail hi hopened hal, restore_does_transfer hi hopened, restore_does_fail hi hopened hal⟩
  rintro h ho u rfl
  exact save_does_transfer hi hopened h ho

end Sys2Proof.Machine
end

section
/-! PROOFS. VIM_INST_OWNER: who writes an instance's page, and what a write of its owner stores (R194). -/

namespace Sys2Proof.Machine
set_option Elab.async false

/-! ### Fields of a word -/

/-- A field without a range of its own stores every value that fits in it (R5). -/
theorem clampTo_rw {hi lo x : Nat} (reset : Nat) (hx : x < 2 ^ (hi - lo + 1)) : clampTo (rw hi lo reset) x = x := by
  simp only [clampTo, rw, Bool.false_eq_true, if_false]
  have hle : (x : Int) ≤ 2 ^ (hi - lo + 1) - 1 := by
    have : (x : Int) < 2 ^ (hi - lo + 1) := by exact_mod_cast hx
    omega
  rw [min_eq_left hle, max_eq_right (by omega), ← Nat.cast_ofNat (R := Int), ← Nat.cast_pow, ← Int.natCast_emod,
    Nat.mod_eq_of_lt hx, Int.toNat_natCast]

theorem bits_lt (v hi lo : Nat) : bits v hi lo < 2 ^ (hi - lo + 1) := Nat.mod_lt _ (Nat.two_pow_pos _)

/-- A mask that misses a field does not see it written. -/
theorem putBits_and_of_apart {mask hi lo : Nat} (v x : Nat) (h : lo ≤ hi) (hm : bits mask hi lo = 0) :
    putBits v hi lo x &&& mask = v &&& mask := by
  apply Nat.eq_of_testBit_eq
  intro i
  rw [Nat.testBit_and, Nat.testBit_and, testBit_putBits _ _ _ _ _ h]
  split
  · rename_i hi'
    have hbit : mask.testBit i = false := by
      have := testBit_bits mask hi lo (i - lo)
      rw [hm, Nat.zero_testBit, Nat.add_sub_cancel' hi'.1] at this
      simpa [show i - lo < hi - lo + 1 by omega] using this.symm
    simp [hbit]
  · rfl

/-- A mask of `n` bits sees the low `n` bits alone. -/
theorem mod_and_of_lt {mask n : Nat} (v : Nat) (hm : mask < 2 ^ n) : v % 2 ^ n &&& mask = v &&& mask := by
  rw [← Nat.mod_eq_of_lt (Nat.lt_of_le_of_lt Nat.and_le_right hm : v &&& mask < 2 ^ n), Nat.and_mod_two_pow,
    Nat.mod_eq_of_lt hm]

/-- Words that agree under a mask differ in no bit of it. -/
theorem xor_and_eq_zero_of_and_eq {x y : W32} {mask : Nat} (h : y.toNat &&& mask = x.toNat &&& mask) :
    (x ^^^ y).toNat &&& mask = 0 := by
  rw [BitVec.toNat_xor, Nat.and_xor_distrib_right, h, Nat.xor_self]

/-! ### The page of an instance (R30) -/

/-- The page of instance `i`. -/
theorem pageAt_vim {i off : Nat} (hi : i < 512) (ho : off < 4096) :
    pageAt (0x400000 + 0x1000 * i + off) = some ⟨.vim, i, 0, off⟩ := by
  have hpage : (0x400000 + 0x1000 * i + off) / 4096 = 0x400 + i := by omega
  have hoff : (0x400000 + 0x1000 * i + off) % 4096 = off := by omega
  unfold pageAt
  rw [hpage, hoff]
  dsimp only
  iterate 20 rw [if_neg (by omega)]
  rw [if_pos (by omega), Nat.add_sub_cancel_left]

theorem pageAt_owner {i : Nat} (hi : i < 512) : pageAt (R.VIM_INST_OWNER i) = some ⟨.vim, i, 0, 0x100⟩ := by
  rw [show R.VIM_INST_OWNER i = 0x400000 + 0x1000 * i + 0x100 by unfold R.VIM_INST_OWNER; omega]
  exact pageAt_vim hi (by omega)

theorem isCounter_owner (i : Nat) : isCounter ⟨.vim, i, 0, 0x100⟩ = false := by simp [isCounter]

/-- VIM_INST_OWNER in the register map. -/
def ownerSpec : RegSpec := ⟨"VIM_INST_OWNER", 0x100, [], [rw 4 0 0, rw 15 8 0, rw 28 24 0]⟩

theorem ownerSpec_mem : ownerSpec ∈ pageRegs .vim 0 := by simp [pageRegs, regsVIM0, ownerSpec]

theorem regSpec_owner {i : Nat} (hi : i < 512) : regSpec (R.VIM_INST_OWNER i) = some ownerSpec := by
  simp [regSpec, pageAt_owner hi, pageRegs, regsVIM0, ownerSpec, inDims]

/-- The bits of VIM_INST_OWNER that no field covers. -/
theorem reservedBits_owner : reservedBits ownerSpec.fields = 0xE0FF00E0 := by decide

/-! ### The owner written (R194) -/

/-- The word that a write of VIM_INST_OWNER stores: TENANT_PART and FUNC kept but in FREE, MGR_PART kept from partitions. -/
def State.ownerWord (s : State) (r : Requester) (i old v : Nat) : Nat :=
  let v := if s.instState i = iFREE then v else putBits (putBits v 4 0 (bits old 4 0)) 15 8 (bits old 15 8)
  match r with
  | .part _ => putBits v 28 24 (bits old 28 24)
  | _ => v

theorem State.writeOwner_eq_storeReg (s : State) (r : Requester) (i a : Nat) (v : W32) :
    s.writeOwner r i a v = s.storeReg a (BitVec.ofNat 32 (s.ownerWord r i (s.reg a).toNat v.toNat)) := rfl

section OwnerWord
variable (s : State) (r : Requester) (i old v : Nat)

/-- A write of the owner keeps what the value gives to the bits that no field covers. -/
theorem State.ownerWord_and_reserved : s.ownerWord r i old v &&& 0xE0FF00E0 = v &&& 0xE0FF00E0 := by
  have htenant : (if s.instState i = iFREE then v else putBits (putBits v 4 0 (bits old 4 0)) 15 8 (bits old 15 8))
      &&& 0xE0FF00E0 = v &&& 0xE0FF00E0 := by
    split
    · rfl
    · rw [putBits_and_of_apart _ _ (by decide) (by decide), putBits_and_of_apart _ _ (by decide) (by decide)]
  unfold State.ownerWord
  cases r with
  | part k => exact (putBits_and_of_apart _ _ (by decide) (by decide)).trans htenant
  | mgmt => exact htenant
  | debug => exact htenant

/-- The word depends on the instance's state alone. -/
theorem State.ownerWord_lckOrder (a : Nat) : (s.lckOrder r a).ownerWord r i old v = s.ownerWord r i old v := by
  have hstate : (s.lckOrder r a).instState i = s.instState i := State.fget_of_reg (State.lckOrder_reg s r a _)
  simp only [State.ownerWord, hstate]

/-- A partition's write keeps MGR_PART. -/
theorem State.ownerWord_mgrPart_of_part (k : Fin 32) : bits (s.ownerWord (.part k) i old v) 28 24 = bits old 28 24 := by
  rw [State.ownerWord, bits_putBits_same _ _ _ _ (by decide), Nat.mod_eq_of_lt (bits_lt old 28 24)]

/-- The management complex and the debug master write MGR_PART. -/
theorem State.ownerWord_mgrPart_of_not_part (hr : r = .mgmt ∨ r = .debug) :
    bits (s.ownerWord r i old v) 28 24 = bits v 28 24 := by
  have htenant : bits (if s.instState i = iFREE then v else
      putBits (putBits v 4 0 (bits old 4 0)) 15 8 (bits old 15 8)) 28 24 = bits v 28 24 := by
    split
    · rfl
    · rw [bits_putBits_ne _ _ _ _ _ _ (by decide) (by decide) (by decide),
        bits_putBits_ne _ _ _ _ _ _ (by decide) (by decide) (by decide)]
  rcases hr with rfl | rfl <;> exact htenant

/-- FUNC is written in FREE. -/
theorem State.ownerWord_func_of_free (k : Fin 32) (hfree : s.instState i = iFREE) :
    bits (s.ownerWord (.part k) i old v) 15 8 = bits v 15 8 := by
  rw [State.ownerWord, if_pos hfree, bits_putBits_ne _ _ _ _ _ _ (by decide) (by decide) (by decide)]

end OwnerWord

/-! ### The write's path (R48, R194) -/

section OwnerWrite
variable {s : State} {r : Requester} {i : Nat} {v : W32} (hi : i < 512)
include hi

/-- The address of an instance's owner, as the register bus cuts it. -/
theorem owner_aligned : R.VIM_INST_OWNER i % 2 ^ 24 / 4 * 4 = R.VIM_INST_OWNER i := by
  unfold R.VIM_INST_OWNER
  omega

/-- A write of the owner that changes no reserved bit is `writeOwner` and has no other effect. -/
theorem State.writeBlock_owner (hund : s.undef = none)
    (hres : (s.reg (R.VIM_INST_OWNER i) ^^^ v).toNat &&& 0xE0FF00E0 = 0) :
    s.writeBlock r ⟨.vim, i, 0, 0x100⟩ (R.VIM_INST_OWNER i) v = s.writeOwner r i (R.VIM_INST_OWNER i) v := by
  have hnote : (s.noteReserved (R.VIM_INST_OWNER i) v).undef = none := by
    simp only [State.noteReserved, regSpec_owner hi, reservedBits_owner, hres, if_true, hund]
  have hA : s.writeCtlA r ⟨.vim, i, 0, 0x100⟩ (R.VIM_INST_OWNER i) v = none := rfl
  have hB : s.writeCtlB ⟨.vim, i, 0, 0x100⟩ (R.VIM_INST_OWNER i) v = none := rfl
  have hC : s.writeCtlC r ⟨.vim, i, 0, 0x100⟩ (R.VIM_INST_OWNER i) v =
    some (s.writeOwner r i (R.VIM_INST_OWNER i) v) := rfl
  simp [State.writeBlock, hA, hB, hC, hnote]

/-- What a field of the owner reads once a word is stored there. -/
theorem bits_storeReg_owner {hi' lo' : Nat} (hf : rw hi' lo' 0 ∈ ownerSpec.fields) (w : Nat) :
    bits ((s.storeReg (R.VIM_INST_OWNER i) (BitVec.ofNat 32 w)).reg (R.VIM_INST_OWNER i)).toNat hi' lo' =
      bits w hi' lo' := by
  have hwf := pageRegs_fieldsWf ownerSpec_mem
  obtain ⟨hle, hlt⟩ := hwf.1 _ hf
  have hstored := bits_storeFields hwf hf (storeGet false s.sec.locked (R.VIM_INST_OWNER i))
    (s.reg (R.VIM_INST_OWNER i)).toNat (w % 2 ^ 32)
  rw [State.storeReg_reg_same (regSpec_owner hi), BitVec.toNat_ofNat, BitVec.toNat_ofNat]
  refine (bits_mod _ _ _ _ hle hlt).trans (hstored.trans ?_)
  rw [FieldSpec.takes, rw, if_pos rfl]
  exact (clampTo_rw 0 (bits_lt _ _ _)).trans (bits_mod _ _ _ _ hle hlt)

/-- Storing the owner's word notes no reserved bit where the value keeps them. -/
theorem State.writeOwner_undef (hund : s.undef = none)
    (hkeep : v.toNat &&& 0xE0FF00E0 = (s.reg (R.VIM_INST_OWNER i)).toNat &&& 0xE0FF00E0) :
    (s.writeOwner r i (R.VIM_INST_OWNER i) v).undef = none := by
  have hword := (s.ownerWord_and_reserved r i (s.reg (R.VIM_INST_OWNER i)).toNat v.toNat).trans hkeep
  have hsame : (s.reg (R.VIM_INST_OWNER i) ^^^
      BitVec.ofNat 32 (s.ownerWord r i (s.reg (R.VIM_INST_OWNER i)).toNat v.toNat)).toNat &&& 0xE0FF00E0 = 0 := by
    apply xor_and_eq_zero_of_and_eq
    rw [BitVec.toNat_ofNat, ← hword]
    exact mod_and_of_lt _ (by decide)
  rw [State.writeOwner_eq_storeReg, State.storeReg_undef (regSpec_owner hi), reservedBits_owner, if_pos hsame, hund]

/-- A write of the owner that its page takes and that keeps the reserved bits stores the owner's word. -/
theorem does_write_owner {P : State → Prop} (hal : s.alive = true) (hund : s.undef = none)
    (hdec : s.decodes r (R.VIM_INST_OWNER i) = true) (hbar : s.writeBarred r ⟨.vim, i, 0, 0x100⟩ = false)
    (hkeep : v.toNat &&& 0xE0FF00E0 = (s.reg (R.VIM_INST_OWNER i)).toNat &&& 0xE0FF00E0)
    (hP : ∀ t : State, (∀ hi' lo', rw hi' lo' 0 ∈ ownerSpec.fields → t.fget ⟨R.VIM_INST_OWNER i, hi', lo'⟩ =
      bits (s.ownerWord r i (s.reg (R.VIM_INST_OWNER i)).toNat v.toNat) hi' lo') → P t) :
    Does (.registerWrite r (R.VIM_INST_OWNER i) v) s P := by
  have hkeep' : v.toNat &&& 0xE0FF00E0 =
      ((s.lckOrder r (R.VIM_INST_OWNER i)).reg (R.VIM_INST_OWNER i)).toNat &&& 0xE0FF00E0 := by
    rwa [State.lckOrder_reg]
  have hund' : (s.lckOrder r (R.VIM_INST_OWNER i)).undef = none := by rwa [State.lckOrder_undef]
  have hwrite : s.regWrite r (R.VIM_INST_OWNER i) v =
      (s.lckOrder r (R.VIM_INST_OWNER i)).writeOwner r i (R.VIM_INST_OWNER i) v := by
    rw [State.regWrite_eq_writeBlock v hal hdec (pageAt_owner hi) hbar (by simp) (by simp) (isCounter_owner i) (by simp),
      State.writeBlock_owner hi hund' (xor_and_eq_zero_of_and_eq hkeep')]
  have hexec : exec (.registerWrite r (R.VIM_INST_OWNER i) v) s =
      .next ((s.lckOrder r (R.VIM_INST_OWNER i)).writeOwner r i (R.VIM_INST_OWNER i) v) := by
    rw [exec, execRegisterWrite, owner_aligned hi, hwrite]
    exact State.finish_of_undef_none (State.writeOwner_undef hi hund' hkeep')
  refine ⟨_, hexec, hP _ fun hi' lo' hf => ?_⟩
  rw [← State.ownerWord_lckOrder, ← State.lckOrder_reg s r]
  exact bits_storeReg_owner hi hf _

end OwnerWrite

/-- Settles O11: a foreign partition's write is barred and counted; the others' go through `writeOwner`, which keeps
MGR_PART from partitions. -/
theorem vimPageWriters : Obligations.VimPageWriters := by
  unfold Obligations.VimPageWriters
  rintro s ⟨i, hi⟩ ⟨off, hoff⟩ v addr haddr hal hund
  refine ⟨fun k hdec hk => ?_, fun k hdec hk ha hkeep => ?_, fun r hr ha hkeep => ?_⟩
  · have hp : pageAt addr = some ⟨.vim, i, 0, 4 * off⟩ := haddr ▸ pageAt_vim hi (by omega)
    have haligned : addr % 2 ^ 24 / 4 * 4 = addr := by
      dsimp only at haddr
      omega
    have hwrite : s.regWrite (.part k) addr v = s.bump (R.VIM_FOREIGN_WR i) := by
      simp [State.regWrite, hal, hdec, hp, State.writeBarred, State.countForeign, hk]
    rw [exec, execRegisterWrite, haligned, hwrite]
    exact State.finish_of_undef_none (by rw [State.bump_undef, hund])
  · subst ha
    refine does_write_owner hi hal hund hdec (by simp [State.writeBarred, hk]) hkeep fun t ht => ⟨?_, fun hfree => ?_⟩
    · exact (ht 28 24 (by simp [ownerSpec])).trans (s.ownerWord_mgrPart_of_part i _ _ k)
    · exact (ht 15 8 (by simp [ownerSpec])).trans (s.ownerWord_func_of_free i _ _ k hfree)
  · subst ha
    have hdec : s.decodes r (R.VIM_INST_OWNER i) = true := by
      rcases hr with rfl | rfl <;> simp [State.decodes, pageAt_owner hi]
    have hbar : s.writeBarred r ⟨.vim, i, 0, 0x100⟩ = false := by rcases hr with rfl | rfl <;> rfl
    exact does_write_owner hi hal hund hdec hbar hkeep fun t ht =>
      (ht 28 24 (by simp [ownerSpec])).trans (s.ownerWord_mgrPart_of_not_part r i _ _ hr)

end Sys2Proof.Machine
end

section
/-! PROOFS. OCTET_CONFIG_WRITE and PORT_CONFIG_WRITE: what refuses a write, and what one that is applied stores (R210,
R212). -/

namespace Sys2Proof.Machine
set_option Elab.async false

/-! ### Refusals and flags -/

theorem State.bump_alive (s : State) (a : Nat) : (s.bump a).alive = s.alive :=
  State.alive_eq_of_reg (State.reg_eq_of_regs (s.bump_regs a) _)

/-- A refusal counted and raised as an event of its page, and no other register changed but those of the event. -/
theorem State.counted_raise {s : State} (hal : s.alive = true) {page ev a : Nat} (hev : ev < 16)
    (hroute : a ≠ R.MAP_NOROUTE) (hflush : a ≠ R.BUF_FLUSH_P) (hmiss : a ≠ page * 4096 + 0x800) :
    Counted s ((s.bump a).raise page ev) a ∧ ((s.bump a).raise page ev).event page ev = true ∧
      SameRegs s ((s.bump a).raise page ev) where
  left := (State.raise_ctr_ne _ hroute hflush hmiss).trans (State.ctr_bump_same hal a)
  right :=
    have hraise := (s.bump a).raise_sameRegs page ev
    ⟨State.raise_event_same ((s.bump_alive a).trans hal) hev,
      fun b hb => (hraise.reg b hb).trans (State.reg_eq_of_regs (s.bump_regs a) b),
      hraise.service.trans (s.bump_service a)⟩

theorem bits_self (v n : Nat) : bits v n n = ofBool (bit v n) := by
  unfold bits bit ofBool
  rw [Nat.sub_self]
  split <;> simp_all

theorem ofBool_lt_two (b : Bool) : ofBool b < 2 := by
  cases b <;> decide

/-- A one-bit field reads as it was set. -/
theorem State.flag_fset_ofBool (s : State) {f : Fld} (h : f.hi = f.lo) (h' : f.hi < 32) (b : Bool) :
    (s.fset f (ofBool b)).flag f = b := by
  rw [State.flag, State.fget_fset_of_lt _ h.ge h' (by rw [h, Nat.sub_self]; exact ofBool_lt_two b)]
  cases b <;> rfl

theorem State.flag_eq_false_iff_fget {s : State} {f : Fld} (h : f.hi = f.lo) : s.flag f = false ↔ s.fget f = 0 := by
  have hlt : s.fget f < 2 ^ (f.hi - f.lo + 1) := s.fget_lt f
  rw [h, Nat.sub_self] at hlt
  rw [State.flag, beq_eq_false_iff_ne]
  omega

/-! ### Ports formed by the octets (R209, R210) -/

section Formed
variable {s t : State} (h : ∀ a, 0x900000 ≤ a → t.reg a = s.reg a)
include h

/-- The ports of an octet follow from the octets' registers. -/
theorem State.octetPorts_of_reg (k : Nat) : t.octetPorts k = s.octetPorts k := by
  have hmode : ∀ j, t.octetMode j = s.octetMode j := fun j => State.fget_of_reg (h _ (by simp only; omega))
  have hports : t.reg (R.PHY_OCTET_PORTS k) = s.reg (R.PHY_OCTET_PORTS k) := h _ (by simp only [R.PHY_OCTET_PORTS]; omega)
  simp only [State.octetPorts, hmode, hports]

theorem State.formedPorts_of_reg : t.formedPorts = s.formedPorts := by
  rw [State.formedPorts, State.formedPorts, funext fun k => State.octetPorts_of_reg h k]

end Formed

/-- PRESENT follows the ports formed, port by port, and no other register changes. -/
theorem State.showPorts_below (s : State) {m : Nat} (hm : m ≤ 64) :
    ∀ t, t = (upTo m).foldl (fun s n => s.fset (R.PEP_PORT_STS_PRESENT n) (ofBool (s.formedPorts.contains n))) s →
      (∀ n, n < m → t.flag (R.PEP_PORT_STS_PRESENT n) = s.formedPorts.contains n) ∧
      ∀ a, (∀ n, n < m → a ≠ (R.PEP_PORT_STS_PRESENT n).addr) → t.reg a = s.reg a := by
  induction m with
  | zero =>
    rintro t rfl
    exact ⟨fun _ h => absurd h (Nat.not_lt_zero _), fun _ _ => rfl⟩
  | succ m ih =>
    obtain ⟨hflag, hreg⟩ := ih (by omega) _ rfl
    rintro t rfl
    rw [upTo, List.range_succ, List.foldl_append, List.foldl_cons, List.foldl_nil]
    simp only [upTo] at hflag hreg
    generalize List.foldl _ s (List.range m) = u at hflag hreg ⊢
    have hformed : u.formedPorts = s.formedPorts := State.formedPorts_of_reg fun a ha => hreg a fun n hn => by omega
    refine ⟨fun n hn => ?_, fun a ha => (State.reg_fset_ne (ha m (by omega))).trans (hreg a fun n hn => ha n (by omega))⟩
    obtain hlt | rfl := Nat.lt_succ_iff_lt_or_eq.mp hn
    · rw [State.flag, State.fget_fset_reg _ _ _ _ (by simp only; omega)]
      exact hflag n hlt
    · rw [State.flag_fset_ofBool _ rfl (by decide : (2 : Nat) < 32), hformed]

theorem State.showPorts_present (s : State) {n : Nat} (hn : n < 64) :
    s.showPorts.flag (R.PEP_PORT_STS_PRESENT n) = s.formedPorts.contains n :=
  (s.showPorts_below le_rfl _ rfl).1 n hn

theorem State.showPorts_reg_ne (s : State) {a : Nat} (h : ∀ n, n < 64 → a ≠ (R.PEP_PORT_STS_PRESENT n).addr) :
    s.showPorts.reg a = s.reg a :=
  (s.showPorts_below le_rfl _ rfl).2 a h

theorem State.showPorts_ctrs (s : State) : s.showPorts.ctrs = s.ctrs :=
  List.foldlRecOn (upTo 64) _ (motive := fun t : State => t.ctrs = s.ctrs) rfl fun _ ht _ _ => ht

/-! ### OCTET_CONFIG_WRITE (R210) -/

/-- The other octet of an octet's pair. -/
def octetOther (k : Nat) : Nat := k / 2 * 2 + (1 - k % 2)

/-- Does the write ask for X16? -/
def asksX16 (mode : Bool) (v : Nat) : Bool := mode && bits v 2 0 == 4

/-- Ports of the octets that a write of octet `k` concerns, before it and in `u`, after it. -/
def State.portsConcerned (s : State) (k : Nat) (u : State) : List Nat :=
  let mine := if s.octetMode k = 4 ∨ u.octetMode k = 4 then [k / 2 * 2, k / 2 * 2 + 1] else [k]
  mine.flatMap s.octetPorts ++ mine.flatMap u.octetPorts

/-- Why a write of an octet is refused, `u` being the state with it (R210). -/
def State.octetRefused (s : State) (k : Nat) (mode : Bool) (v : Nat) (u : State) : Prop :=
  (∃ n ∈ s.portsConcerned k u, s.flag (R.PEP_LINK_CTL_DISABLE n) = false) ∨ hasTwice u.formedPorts = true ∨
    (mode = true ∧ asksX16 mode v = false ∧ s.octetMode k = 4 ∧ s.octetMode (octetOther k) = 4)

section Octet
variable {s : State} {k : Nat} {mode : Bool} {v : Nat}

/-- A first write of X16 waits for the other octet of its pair (log entry 26). -/
theorem State.writeOctet_of_waiting (hx16 : asksX16 mode v = true) (hmode : s.octetMode k ≠ 4)
    (hask : octetOther k ∉ s.octetAsk) :
    s.writeOctet k mode v = { s with octetAsk := if s.octetAsk.contains k then s.octetAsk else s.octetAsk ++ [k] } := by
  unfold asksX16 at hx16
  unfold octetOther at hask
  unfold State.writeOctet
  rw [if_pos (by simp [hx16, hmode, hask])]

variable (h : asksX16 mode v = false ∨ s.octetMode k = 4 ∨ octetOther k ∈ s.octetAsk)
include h

/-- A write that does not wait is refused, or changes the octet's register, the octets that ask for X16, and PRESENT. -/
theorem State.writeOctet_of_not_waiting : (s.octetRefused k mode v (s.octetWritten k mode v) ∧
      s.writeOctet k mode v = (s.bump (R.PHY_CFG_REFUSED k)).raise (0x900 + 4 * k) 0) ∨
    (¬ s.octetRefused k mode v (s.octetWritten k mode v) ∧
      ∃ ask, s.writeOctet k mode v = ({ s.octetWritten k mode v with octetAsk := ask } : State).showPorts) := by
  have hwait : ¬ (asksX16 mode v && s.octetMode k != 4 && !s.octetAsk.contains (octetOther k)) = true := by
    simpa [or_iff_not_imp_left] using h
  unfold State.writeOctet
  extract_lets x16 other t mine ports parts asked
  rw [if_neg (show ¬ (x16 && s.octetMode k != 4 && !s.octetAsk.contains other) = true from hwait)]
  have hrefused : (ports.any (fun n => !s.flag (R.PEP_LINK_CTL_DISABLE n)) || hasTwice t.formedPorts || parts) = true ↔
      s.octetRefused k mode v t := by
    simp only [Bool.or_eq_true, List.any_eq_true, Bool.not_eq_true', or_assoc, State.octetRefused, parts,
      Bool.and_eq_true, beq_iff_eq, and_assoc]
    exact Iff.rfl
  split
  · next hc => exact .inl ⟨hrefused.mp hc, rfl⟩
  · next hc =>
    refine .inr ⟨fun hr => hc (hrefused.mpr hr), ?_⟩
    cases mode
    · exact ⟨t.octetAsk, rfl⟩
    · exact ⟨_, rfl⟩

end Octet

section OctetClauses
variable {s : State} {k : Nat} (hk : k < 24) {mode : Bool} {v : W32}
include hk

theorem exec_octetConfigWrite : exec (.octetConfigWrite k mode v) s = .next (s.writeOctet k mode v.toNat) := by
  rw [exec, execOctetConfigWrite, Nat.mod_eq_of_lt hk]

theorem octetConfigWrite_does_wait (hx16 : asksX16 mode v.toNat = true) (hmode : s.octetMode k ≠ 4)
    (hask : octetOther k ∉ s.octetAsk) : Does (.octetConfigWrite k mode v) s fun t =>
      k ∈ t.octetAsk ∧ t.regs = s.regs ∧ t.ctrs = s.ctrs ∧ t.vault = s.vault := by
  have hexec := exec_octetConfigWrite (s := s) (mode := mode) (v := v) hk
  rw [State.writeOctet_of_waiting hx16 hmode hask] at hexec
  refine ⟨_, hexec, ?_, rfl, rfl, rfl⟩
  dsimp only
  split
  · next hc => simpa using hc
  · exact List.mem_append_right _ (List.mem_singleton_self k)

variable (h : asksX16 mode v.toNat = false ∨ s.octetMode k = 4 ∨ octetOther k ∈ s.octetAsk)
include h

theorem octetConfigWrite_does_refuse (hal : s.alive = true)
    (hr : s.octetRefused k mode v.toNat (s.octetWritten k mode v.toNat)) :
    Does (.octetConfigWrite k mode v) s fun t =>
      KeepsRegs s t [] ∧ Counted s t (R.PHY_CFG_REFUSED k) ∧ t.event (0x900 + 4 * k) 0 = true ∧ t.vault = s.vault := by
  have hexec := exec_octetConfigWrite (s := s) (mode := mode) (v := v) hk
  obtain ⟨-, heq⟩ | ⟨hnot, -⟩ := State.writeOctet_of_not_waiting h
  · rw [heq] at hexec
    obtain ⟨hcount, hevent, hregs⟩ := State.counted_raise hal (page := 0x900 + 4 * k) (ev := 0) (a := R.PHY_CFG_REFUSED k)
      (by decide) (by simp only [R.PHY_CFG_REFUSED, R.MAP_NOROUTE]; omega)
      (by simp only [R.PHY_CFG_REFUSED, R.BUF_FLUSH_P]; omega) (by simp only [R.PHY_CFG_REFUSED]; omega)
    exact ⟨_, hexec, hregs.keepsRegs [], hcount, hevent, exec_vault_of_not_writesVault rfl hexec⟩
  · exact absurd hr hnot

theorem octetConfigWrite_does_apply (hr : ¬ s.octetRefused k mode v.toNat (s.octetWritten k mode v.toNat)) :
    Does (.octetConfigWrite k mode v) s fun t =>
      (∀ n, n < 64 → t.flag (R.PEP_PORT_STS_PRESENT n) = (s.octetWritten k mode v.toNat).formedPorts.contains n) ∧
      (∀ a, (∀ n, n < 64 → a ≠ (R.PEP_PORT_STS_PRESENT n).addr) → t.reg a = (s.octetWritten k mode v.toNat).reg a) ∧
      t.ctrs = s.ctrs ∧ t.vault = s.vault := by
  have hexec := exec_octetConfigWrite (s := s) (mode := mode) (v := v) hk
  obtain ⟨hyes, -⟩ | ⟨-, ask, heq⟩ := State.writeOctet_of_not_waiting h
  · exact absurd hyes hr
  · rw [heq] at hexec
    refine ⟨_, hexec, fun n hn => State.showPorts_present _ hn, fun a ha => State.showPorts_reg_ne _ ha, ?_,
      exec_vault_of_not_writesVault rfl hexec⟩
    rw [State.showPorts_ctrs]
    unfold State.octetWritten
    split
    · rfl
    · split <;> rfl

end OctetClauses

/-! ### PORT_CONFIG_WRITE (R212) -/

/-- PEP_PORT_CTL with the given fields. -/
def portCtlWord (role part slot hold : Nat) : W32 :=
  BitVec.ofNat 32 (role + part * 2 ^ 8 + slot * 2 ^ 16 + hold * 2 ^ 24)

theorem bits_portCtlWord {role part slot hold : Nat} (hrole : role < 4) (hpart : part < 32) (hslot : slot < 32)
    (hhold : hold < 2) :
    bits (portCtlWord role part slot hold).toNat 1 0 = role ∧ bits (portCtlWord role part slot hold).toNat 12 8 = part ∧
      bits (portCtlWord role part slot hold).toNat 20 16 = slot ∧
      bits (portCtlWord role part slot hold).toNat 24 24 = hold := by
  rw [portCtlWord, BitVec.toNat_ofNat, Nat.mod_eq_of_lt (by omega)]
  simp only [bits]
  omega

theorem nearestOf_lt {v : Nat} (hv : v < 32) : nearestOf 23 31 v < 32 := by
  unfold nearestOf
  split
  · exact hv
  · split <;> decide

/-- Fields of PEP_PORT_CTL that a write asks for: ROLE, PART and SLOT as they are stored (R5; log entries 74 and 90). -/
def askedRole (v : Nat) : Nat := min (bits v 1 0) 2
def askedSlot (v : Nat) : Nat := nearestOf 23 31 (bits v 20 16)

/-- Does a write leave ROLE, PART and SLOT as they are? -/
def State.keepsAssignment (s : State) (n v : Nat) : Bool :=
  askedRole v == s.role n && bits v 12 8 == s.portPart n && askedSlot v == s.fget (R.PEP_PORT_CTL_SLOT n)

/-- Has the partition asked for another upstream port (R212)? -/
def State.secondUpstream (s : State) (n v : Nat) : Prop :=
  askedRole v = 1 ∧ ∃ m, m < 64 ∧ m ≠ n ∧ s.role m = 1 ∧ s.portPart m = bits v 12 8

/-- PEP_PORT_CTL as an applied write leaves it, before the conflict of R269 is raised. -/
def State.assigned (s : State) (n v : Nat) : State :=
  s.setReg (R.PEP_PORT_CTL n) (portCtlWord (askedRole v) (bits v 12 8) (askedSlot v) (bits v 24 24))

section PortCtl
variable {s : State} {n v : Nat}

theorem State.writePortCtl_of_kept (h : s.keepsAssignment n v = true) :
    s.writePortCtl n v = s.fset (R.PEP_PORT_CTL_HOLD_DOWN n) (bits v 24 24) :=
  if_pos h

variable (h : s.keepsAssignment n v = false)
include h

theorem State.writePortCtl_of_enabled (hlink : s.flag (R.PEP_LINK_CTL_DISABLE n) = false) :
    s.writePortCtl n v = s.portRefused n 1 :=
  (if_neg (ne_true_of_eq_false h)).trans (if_pos (by rw [hlink]; rfl))

variable (hlink : s.flag (R.PEP_LINK_CTL_DISABLE n) = true)
include hlink

theorem State.writePortCtl_of_disabled : (s.secondUpstream n v ∧ s.writePortCtl n v = s.portRefused n 2) ∨
    (¬ s.secondUpstream n v ∧ ∃ t, SameRegs (s.assigned n v) t ∧ s.writePortCtl n v = t) := by
  unfold State.writePortCtl
  extract_lets role part slot0 slot same dup assigned
  have hdup : dup = true ↔ s.secondUpstream n v := by
    simp only [dup, Bool.and_eq_true, beq_iff_eq, List.any_eq_true, upTo, List.mem_range, bne_iff_ne, and_assoc]
    exact Iff.rfl
  rw [if_neg (show ¬ same = true from ne_true_of_eq_false h), if_neg (by rw [hlink]; decide)]
  split
  · next hc => exact .inl ⟨hdup.mp hc, rfl⟩
  · next hc =>
    refine .inr ⟨fun hs => hc (hdup.mpr hs), _, ?_, rfl⟩
    split
    · exact State.raise_sameRegs _ _ _
    · exact ⟨fun _ _ => rfl, rfl⟩

end PortCtl

section PortClauses
variable {s : State} {n : Nat} (hn : n < 64) {v : W32}
include hn

theorem exec_portConfigWrite : exec (.portConfigWrite n v) s = .next (s.writePortCtl n v.toNat) := by
  rw [exec, execPortConfigWrite, Nat.mod_eq_of_lt hn]

theorem portConfigWrite_does_keep (h : s.keepsAssignment n v.toNat = true) : Does (.portConfigWrite n v) s fun t =>
    t.flag (R.PEP_PORT_CTL_HOLD_DOWN n) = bit v.toNat 24 ∧ t.role n = s.role n ∧ t.portPart n = s.portPart n ∧
      (∀ a, a ≠ R.PEP_PORT_CTL n → t.reg a = s.reg a) ∧ t.vault = s.vault := by
  have hexec := exec_portConfigWrite (s := s) (v := v) hn
  rw [State.writePortCtl_of_kept h, bits_self] at hexec
  refine ⟨_, hexec, State.flag_fset_ofBool _ rfl (by decide : (24 : Nat) < 32) _, ?_, ?_,
    fun a ha => State.reg_fset_ne ha, exec_vault_of_not_writesVault rfl hexec⟩
  · exact State.fget_fset_ne _ _ _ _ (by simp) (by simp) (by simp) (.inl (by simp))
  · exact State.fget_fset_ne _ _ _ _ (by simp) (by simp) (by simp) (.inl (by simp))

/-- What a refused write leaves (R212). -/
theorem portConfigWrite_does_refuse (hal : s.alive = true) {cause : Nat} (hcause : cause < 16)
    (heq : s.writePortCtl n v.toNat = s.portRefused n cause) : Does (.portConfigWrite n v) s fun t =>
      t.fget (R.PEP_PORT_STS_CAUSE n) = cause ∧ Counted s t (R.PEP_CFG_REFUSED n) ∧ t.event (0x800 + 4 * n) 3 = true ∧
      KeepsRegs s t [(R.PEP_PORT_STS_CAUSE n).addr] ∧ t.vault = s.vault := by
  have hexec := exec_portConfigWrite (s := s) (v := v) hn
  rw [heq, State.portRefused] at hexec
  generalize hu : s.fset (R.PEP_PORT_STS_CAUSE n) cause = u at hexec
  have hreg : ∀ a, a ≠ (R.PEP_PORT_STS_CAUSE n).addr → u.reg a = s.reg a := fun a ha => hu ▸ State.reg_fset_ne ha
  have hal' : u.alive = true :=
    (State.alive_eq_of_reg (hreg _ (by simp only [R.DEV_MODE]; omega))).trans hal
  obtain ⟨hcount, hevent, hregs⟩ := State.counted_raise hal' (page := 0x800 + 4 * n) (ev := 3) (a := R.PEP_CFG_REFUSED n)
    (by decide) (by simp only [R.PEP_CFG_REFUSED, R.MAP_NOROUTE]; omega)
    (by simp only [R.PEP_CFG_REFUSED, R.BUF_FLUSH_P]; omega) (by simp only [R.PEP_CFG_REFUSED]; omega)
  refine ⟨_, hexec, ?_, ?_, hevent, fun a ha hne => (hregs.reg a ha).trans (hreg a (by simpa using hne)),
    exec_vault_of_not_writesVault rfl hexec⟩
  · rw [hregs.fget (by simp [statusReg]; omega), ← hu]
    exact State.fget_fset_of_lt _ (by simp) (by simp) (by simpa using hcause)
  · rw [← hu] at hcount ⊢
    exact hcount

theorem portConfigWrite_does_apply (h : s.keepsAssignment n v.toNat = false)
    (hlink : s.flag (R.PEP_LINK_CTL_DISABLE n) = true) (hsecond : ¬ s.secondUpstream n v.toNat) :
    Does (.portConfigWrite n v) s fun t => t.role n = askedRole v.toNat ∧ t.portPart n = bits v.toNat 12 8 ∧
      t.fget (R.PEP_PORT_CTL_SLOT n) = askedSlot v.toNat ∧ t.flag (R.PEP_PORT_CTL_HOLD_DOWN n) = bit v.toNat 24 ∧
      KeepsRegs s t [R.PEP_PORT_CTL n] ∧ t.vault = s.vault := by
  have hexec := exec_portConfigWrite (s := s) (v := v) hn
  obtain ⟨hdup, -⟩ | ⟨-, t, hregs, heq⟩ := State.writePortCtl_of_disabled h hlink
  · exact absurd hdup hsecond
  · rw [heq] at hexec
    have hctl : t.reg (R.PEP_PORT_CTL n) =
        portCtlWord (askedRole v.toNat) (bits v.toNat 12 8) (askedSlot v.toNat) (bits v.toNat 24 24) :=
      (hregs.reg _ (by simp [statusReg, R.PEP_PORT_CTL]; omega)).trans (State.reg_setReg_same _ _ _)
    obtain ⟨hrole, hpart, hslot, hhold⟩ := bits_portCtlWord (role := askedRole v.toNat) (part := bits v.toNat 12 8)
      (slot := askedSlot v.toNat) (hold := bits v.toNat 24 24) (Nat.lt_of_le_of_lt (Nat.min_le_right _ _) (by decide))
      (bits_lt _ 12 8) (nearestOf_lt (bits_lt _ 20 16)) (bits_lt _ 24 24)
    refine ⟨t, hexec, ?_, ?_, ?_, ?_, fun a ha hne => ?_, exec_vault_of_not_writesVault rfl hexec⟩
    · rw [State.role, State.fget, hctl, hrole]
    · rw [State.portPart, State.fget, hctl, hpart]
    · rw [State.fget, hctl, hslot]
    · rw [State.flag, State.fget, hctl, hhold, bits_self]
      cases bit v.toNat 24 <;> rfl
    · exact (hregs.reg a ha).trans (State.reg_setReg_ne (by simpa using hne))

end PortClauses

/-- Settles O25: a write of an octet or of a port waits, is refused or is applied, and each way leaves what its clause
says. -/
theorem portConfigurationWrites : Obligations.PortConfigurationWrites := by
  unfold Obligations.PortConfigurationWrites
  refine ⟨?_, fun s k v _ => ⟨fun hx16 => ?_, fun a ha => ?_, ?_⟩, ?_⟩
  · rintro s k mode v hk hal other rfl x16 rfl u rfl mine rfl
    refine ⟨octetConfigWrite_does_wait hk, fun h => ⟨octetConfigWrite_does_refuse hk h hal, fun hdis htwice hpart => ?_⟩⟩
    refine octetConfigWrite_does_apply hk h ?_
    rintro (⟨n, hmem, hn⟩ | ht | ⟨hm, hx, h4, ho⟩)
    · exact Bool.noConfusion (hn.symm.trans (hdis n hmem))
    · exact Bool.noConfusion (ht.symm.trans htwice)
    · obtain hp | hp | hp | hp := hpart
      · exact Bool.noConfusion (hm.symm.trans hp)
      · exact Bool.noConfusion (hx.symm.trans hp)
      · exact hp h4
      · exact hp ho
  · rw [State.octetWritten, if_neg (by simp), if_neg hx16]
    exact State.fget_fset_of_lt _ (by simp) (by simp) (Nat.lt_of_le_of_lt (Nat.min_le_right _ _) (by simp))
  · exact State.reg_setReg_ne ha
  · exact State.reg_setReg_same _ _ _
  · rintro s n v hn hal role rfl part rfl slot rfl same rfl
    refine ⟨portConfigWrite_does_keep hn, fun hsame => ⟨fun hlink => ?_, fun hlink hrole hex => ?_, fun hlink hall => ?_⟩⟩
    · exact portConfigWrite_does_refuse hn hal (by decide)
        (State.writePortCtl_of_enabled hsame ((State.flag_eq_false_iff_fget rfl).mpr hlink))
    · obtain ⟨-, heq⟩ | ⟨hnot, -⟩ := State.writePortCtl_of_disabled hsame (beq_iff_eq.mpr hlink)
      · exact portConfigWrite_does_refuse hn hal (by decide) heq
      · exact absurd ⟨hrole, hex⟩ hnot
    · refine portConfigWrite_does_apply hn hsame (beq_iff_eq.mpr hlink) ?_
      rintro ⟨hrole, m, hm, hne, hup, hpart⟩
      exact hall m hm hne hup hrole hpart

end Sys2Proof.Machine
end

section
/-! PROOFS. DPC release, retraining, L1 and PTM requests at a port, and its slot's power controller (R207, R218 to R220,
R222, R225). -/

namespace Sys2Proof.Machine
set_option Elab.async false

/-! ### Epochs of ports (R82) -/

/-- Every port has the epoch it had. -/
def SameEpochs (s t : State) : Prop := ∀ n, (t.port n).epoch = (s.port n).epoch

theorem SameEpochs.refl (s : State) : SameEpochs s s := fun _ => rfl

theorem SameEpochs.of_sw {s t : State} (h : t.sw = s.sw) : SameEpochs s t := fun n => by
  rw [State.port, h, State.port]

theorem SameEpochs.trans {s t u : State} (h : SameEpochs s t) (h' : SameEpochs t u) : SameEpochs s u :=
  fun n => (h' n).trans (h n)

theorem SameEpochs.foldl {α : Type} {f : State → α → State} (h : ∀ s x, SameEpochs s (f s x)) (l : List α) (s : State) :
    SameEpochs s (l.foldl f s) :=
  List.foldlRecOn l f (motive := SameEpochs s) (.refl s) fun t ht x _ => ht.trans (h t x)

/-- A port whose epoch an update keeps. -/
theorem State.modPort_sameEpochs (s : State) (n : Nat) {f : PortSt → PortSt}
    (hf : ∀ p, (f p).epoch = p.epoch := by intro; rfl) : SameEpochs s (s.modPort n f) := by
  intro m
  by_cases hm : m = n
  · simp [State.modPort, State.setPort, State.port, hm, hf]
  · simp [State.modPort, State.setPort, State.port, storeGet_storePut_ne _ hm]

theorem State.store_sameEpochs (s : State) (f : Frame) : SameEpochs s (s.store f) := by
  unfold State.store
  extract_lets r s1 sw s2
  have h1 : SameEpochs s s1 := s.modPort_sameEpochs _
  have h2 : SameEpochs s1 s2 := fun _ => rfl
  exact h1.trans (h2.trans (s2.modPort_sameEpochs _))

theorem State.enqueue_sameEpochs (s : State) (c : Copy) : SameEpochs s (s.enqueue c) := by
  unfold State.enqueue
  dsimp only [State.fresh]
  split
  · exact (s.modPort_sameEpochs c.egress (f := fun p => { p with l1 := false })).trans fun _ => rfl
  · exact fun _ => rfl

theorem State.admitOrWait_sameEpochs (s : State) (f : Frame) (cs : List Copy) : SameEpochs s (s.admitOrWait f cs) := by
  unfold State.admitOrWait
  split
  · exact (s.store_sameEpochs f).trans (.foldl State.enqueue_sameEpochs cs _)
  · exact State.modPort_sameEpochs _ _

theorem State.devicePost_sameEpochs (s : State) (t : Tlp) (pool : Pool) (fid dest : Nat) (why : Purpose) :
    SameEpochs s (s.devicePost t pool fid dest why) := by
  unfold State.devicePost
  split
  · exact .of_sw (s.bump_sw _)
  · split
    · exact .of_sw (s.bump_sw _)
    · exact State.admitOrWait_sameEpochs _ _ _

theorem State.mgmtMessage_sameEpochs (s : State) (part vec : Nat) : SameEpochs s (s.mgmtMessage part vec) := by
  unfold State.mgmtMessage State.postToHost
  dsimp only
  split
  · split
    · exact .refl s
    · exact s.devicePost_sameEpochs _ _ _ _ _
  · exact .of_sw rfl

theorem State.sendVectors_sameEpochs (s : State) (page : Nat) (before : Nat → Bool) :
    SameEpochs s (s.sendVectors page before) :=
  .foldl (fun s p => by
    split
    · exact s.mgmtMessage_sameEpochs p _
    · exact .refl s) _ s

theorem State.marked_sw (s : State) (page : Nat) (evs : List Nat) : (s.marked page evs).sw = s.sw := by
  have hwins : (s.evtWins page).sw = s.sw := by
    unfold State.evtWins
    extract_lets e s1 sts
    split
    · rfl
    · exact State.bumpBy_sw _ _ _
  unfold State.marked
  extract_lets s0 sts seq ev first low t
  split <;> exact hwins

/-- An event sends messages, which change no epoch (R38). -/
theorem State.raise_sameEpochs (s : State) (page ev : Nat) : SameEpochs s (s.raise page ev) := by
  unfold State.raise
  split
  · have hmarked : SameEpochs s (s.marked page [ev]) := .of_sw (s.marked_sw page [ev])
    unfold State.raiseAll
    rw [if_neg (by simp)]
    extract_lets s0 sts seq events vec before s1 first low s2
    have h2 : SameEpochs s s2 := hmarked
    split
    · exact h2.trans (s2.sendVectors_sameEpochs page before)
    · exact h2
  · exact .refl s

/-! ### A link that retrains (R207) -/

theorem State.prbsTake_sw (s : State) (u : Nat) : (s.prbsTake u).sw = s.sw := by
  unfold State.prbsTake State.prbsCount
  split
  · rfl
  · refine List.foldlRecOn _ _ (motive := fun t : State => t.sw = s.sw) rfl fun t ht l _ => ?_
    split
    · split
      · exact (State.bumpBy_sw _ _ _).trans ((State.bumpBy_sw _ _ _).trans ht)
      · exact ht
    · exact ht

theorem State.prbsAbort_sw (s : State) (k : Nat) : (s.prbsAbort k).sw = s.sw := by
  unfold State.prbsAbort
  split <;> rfl

/-- A link that has trained leaves the switch core as it is. -/
theorem State.setLink_sw (s : State) (n rate width : Nat) (flit : Bool) : (s.setLink n rate width flit).1.sw = s.sw := by
  unfold State.setLink
  extract_lets rate width s1 flit changed
  have h1 : s1.sw = s.sw := by
    simp only [s1]
    split
    · refine List.foldlRecOn _ _ (motive := fun t : State => t.sw = s.sw) rfl fun t ht k _ => ?_
      split
      · exact (State.prbsAbort_sw _ _).trans ((State.prbsTake_sw _ _).trans ht)
      · exact ht
    · rfl
  exact h1

theorem State.rateCeiling_lt (s : State) (n : Nat) : s.rateCeiling n < 8 := by
  have hmax : s.fget (R.PEP_LINK_CTL_MAX_RATE n) < 8 := s.fget_lt _
  unfold State.rateCeiling
  extract_lets m
  split <;> omega

theorem State.trainWidth_lt (s : State) (n width : Nat) : s.trainWidth n width < 32 := by
  unfold State.trainWidth
  cases h : [16, 8, 4, 2].find? fun w => decide (w ≤ min width (s.portWidth n)) with
  | none => decide
  | some w =>
    have hw : ∀ w ∈ [16, 8, 4, 2], w < 32 := by decide
    exact hw w (List.mem_of_find?_eq_some h)

/-- Its rate and width are shown (R207). -/
theorem State.setLink_shows (s : State) (n rate width : Nat) (flit : Bool) :
    (s.setLink n rate width flit).1.fget (R.PEP_PORT_STS_RATE n) = max 1 (min rate (s.rateCeiling n)) ∧
      (s.setLink n rate width flit).1.fget (R.PEP_PORT_STS_WIDTH n) = s.trainWidth n width := by
  have hrate : max 1 (min rate (s.rateCeiling n)) < 8 := by
    have := s.rateCeiling_lt n
    omega
  have hwidth := s.trainWidth_lt n width
  unfold State.setLink
  extract_lets rate' width' s1 flit' changed
  constructor
  · rw [State.fget_fset_ne _ _ _ _ (by simp) (by simp) (by simp) (by simp),
      State.fget_fset_ne _ _ _ _ (by simp) (by simp) (by simp) (by simp)]
    exact State.fget_fset_of_lt _ (by simp) (by simp) hrate
  · rw [State.fget_fset_ne _ _ _ _ (by simp) (by simp) (by simp) (by simp)]
    exact State.fget_fset_of_lt _ (by simp) (by simp) hwidth

section Requests
variable {s : State} {n : Nat} (hn : n < 64)
include hn

theorem exec_pcieRetrain_of_inactive (rate width : Nat) (h : s.flag (R.PEP_PORT_STS_DL_ACTIVE n) = false) :
    exec (.pcieRetrain n rate width) s = .next s := by
  rw [exec, execPcieRetrain, Nat.mod_eq_of_lt hn]
  exact if_pos (by simp [h])

theorem pcieRetrain_does (rate width : Nat) (h : s.flag (R.PEP_PORT_STS_DL_ACTIVE n) = true) :
    Does (.pcieRetrain n rate width) s fun t =>
      t.fget (R.PEP_PORT_STS_RATE n) = max 1 (min rate (s.rateCeiling n)) ∧
      t.fget (R.PEP_PORT_STS_WIDTH n) = s.trainWidth n width ∧ (t.port n).epoch = (s.port n).epoch ∧
      (t.port n).up = (s.port n).up ∧ t.vault = s.vault := by
  generalize hu : s.modPort n (fun p => { p with redoing := false }) = u
  have hepoch : SameEpochs s u := hu ▸ s.modPort_sameEpochs n
  have hup : u.egressView = s.egressView := hu ▸ s.modPort_egressView n
  generalize hl : u.setLink n rate width (u.flag (R.PEP_PORT_STS_FLIT n)) = l
  have hexec : exec (.pcieRetrain n rate width) s = .next (if l.2 then l.1.raise (0x800 + 4 * n) 2 else l.1) := by
    rw [exec, execPcieRetrain, Nat.mod_eq_of_lt hn, ← hl, ← hu]
    exact if_neg (by simp [h])
  have hsw : l.1.sw = u.sw := hl ▸ u.setLink_sw n rate width _
  obtain ⟨hrate, hwidth⟩ := u.setLink_shows n rate width (u.flag (R.PEP_PORT_STS_FLIT n))
  rw [hl] at hrate hwidth
  have hceiling : u.rateCeiling n = s.rateCeiling n := by rw [← hu]; rfl
  have htrain : u.trainWidth n width = s.trainWidth n width := by rw [← hu]; rfl
  rw [hceiling] at hrate
  rw [htrain] at hwidth
  have hlup : (l.1.port n).up = (s.port n).up :=
    (by rw [State.port, hsw, State.port] : (l.1.port n).up = (u.port n).up).trans
      (congrFun (congrArg EgressView.up hup) n)
  have hlepoch : SameEpochs s l.1 := hepoch.trans (.of_sw hsw)
  have hraise := l.1.raise_sameRegs (0x800 + 4 * n) 2
  have hvault := exec_vault_of_not_writesVault rfl hexec
  refine ⟨_, hexec, ?_⟩
  split
  · next hc =>
    rw [if_pos hc] at hvault
    have hsts : statusReg (R.PEP_PORT_STS n) = false := by simp [statusReg, R.PEP_PORT_STS]; omega
    exact ⟨(hraise.fget hsts).trans hrate, (hraise.fget hsts).trans hwidth,
      (hlepoch.trans (l.1.raise_sameEpochs _ _)) n,
      (congrFun (congrArg EgressView.up (l.1.raise_egressView _ _)) n).trans hlup, hvault⟩
  · next hc =>
    rw [if_neg hc] at hvault
    exact ⟨hrate, hwidth, hlepoch n, hlup, hvault⟩

/-! ### DPC release, L1 and PTM (R218, R222, R225) -/

theorem dpcRelease_does : Does (.dpcRelease n) s fun t =>
    t.flag (R.PEP_PORT_STS_DPC n) = false ∧ t.cfgBits (Fn.down n).num cDpcSts 0 0 = 0 ∧
      (∀ a, a ≠ (R.PEP_PORT_STS_DPC n).addr → t.reg a = s.reg a) ∧ t.sw = s.sw ∧ t.vault = s.vault := by
  have hexec : exec (.dpcRelease n) s = .next (s.dpcRelease n) := by
    rw [exec, execDpcRelease, Nat.mod_eq_of_lt hn]
  refine ⟨_, hexec, ?_, ?_, fun a ha => State.reg_fset_ne ha, rfl, exec_vault_of_not_writesVault rfl hexec⟩
  · exact s.flag_fset_ofBool (f := R.PEP_PORT_STS_DPC n) rfl (by simp) false
  · exact State.cfgBits_putCfg_same _ _ _ le_rfl (by decide) 0

theorem exec_l1Entry : exec (.l1Entry n) s = .next (if (s.port n).up && s.cfgBits (s.portFn n) cLinkCtl 1 1 == 1 &&
    (s.sw.copies.all fun c => c.egress != n || c.unacked) then s.setPort n { s.port n with l1 := true } else s) := by
  rw [exec, execL1Entry, Nat.mod_eq_of_lt hn]
  rfl

theorem exec_l1Entry_of_idle (hup : (s.port n).up = true) (hen : s.cfgBits (s.portFn n) cLinkCtl 1 1 = 1)
    (hidle : ∀ c ∈ s.sw.copies, c.egress = n → c.unacked = true) :
    exec (.l1Entry n) s = .next (s.setPort n { s.port n with l1 := true }) := by
  have hall : (s.sw.copies.all fun c => c.egress != n || c.unacked) = true := by
    simpa [← imp_iff_not_or] using hidle
  rw [exec_l1Entry hn, hup, hen, hall]
  rfl

theorem exec_l1Entry_of_stays (h : (s.port n).up = false ∨ s.cfgBits (s.portFn n) cLinkCtl 1 1 = 0 ∨
    ∃ c ∈ s.sw.copies, c.egress = n ∧ c.unacked = false) : exec (.l1Entry n) s = .next s := by
  rw [exec_l1Entry hn, if_neg]
  simp only [Bool.and_eq_true, beq_iff_eq, List.all_eq_true, Bool.or_eq_true, bne_iff_ne]
  rintro ⟨⟨hup, hen⟩, hall⟩
  obtain hdown | hoff | ⟨c, hc, hegress, hcopy⟩ := h
  · exact Bool.noConfusion (hup.symm.trans hdown)
  · omega
  · exact (hall c hc).elim (absurd hegress) fun hsent => Bool.noConfusion (hsent.symm.trans hcopy)

theorem exec_ptmRequest_of_none (h : s.role n ≠ 2 ∨ (s.port n).up = false) : exec (.ptmRequest n) s = .next s := by
  rw [exec, execPtmRequest, Nat.mod_eq_of_lt hn]
  exact if_pos (by simpa using h)

section Ptm
variable (hrole : s.role n = 2) (hup : (s.port n).up = true)
include hrole hup

theorem exec_ptmRequest : exec (.ptmRequest n) s = if s.cfgBits (Fn.down n).num cPtmCtl 0 0 = 1 then
    .next { s with answer := .words [BitVec.ofNat 32 s.ns, BitVec.ofNat 32 (s.ns / 2 ^ 32)] }
    else .next (s.portAer n aerUnsupported []) := by
  rw [exec, execPtmRequest, Nat.mod_eq_of_lt hn]
  exact if_neg (by simp [hrole, hup])

theorem ptmRequest_does_answer (hen : s.cfgBits (Fn.down n).num cPtmCtl 0 0 = 1) : Does (.ptmRequest n) s fun t =>
    t.answer = .words [BitVec.ofNat 32 s.ns, BitVec.ofNat 32 (s.ns / 2 ^ 32)] ∧ t.regs = s.regs ∧ t.sw = s.sw ∧
      t.vault = s.vault :=
  ⟨_, (exec_ptmRequest hn hrole hup).trans (if_pos hen), rfl, rfl, rfl, rfl⟩

end Ptm
end Requests

/-- An error logged stands in the bridge's uncorrectable status. -/
theorem State.aerLog_status (s : State) (fn : Nat) {b : Nat} (hb : b < 32) :
    bit ((s.aerLog fn b []).cfg fn cAerUncSts).toNat b = true := by
  have hlog : (s.aerLog fn b []).cfg fn cAerUncSts = s.cfg fn cAerUncSts ||| (1 : W32) <<< b := by
    have hor : (s.orCfg fn cAerUncSts (1 <<< b)).cfg fn cAerUncSts = s.cfg fn cAerUncSts ||| (1 : W32) <<< b :=
      storeGet_storePut_same _ _ _ _
    unfold State.aerLog
    extract_lets first s1 s2
    rw [if_neg (by simp)]
    simp only [s2]
    split
    · exact (storeGet_storePut_ne _ (by simp)).trans hor
    · exact hor
  rw [hlog, bit_eq_testBit, BitVec.toNat_or, Nat.testBit_or, BitVec.toNat_shiftLeft]
  rw [Nat.testBit_mod_two_pow, Nat.testBit_shiftLeft]
  simp [hb]

/-- The message for an error goes out without a change of any shadow register. -/
theorem State.aerUncorrectable_status (s : State) (fn part : Nat) {b : Nat} (hb : b < 32) :
    bit ((s.aerUncorrectable fn part b []).cfg fn cAerUncSts).toNat b = true := by
  unfold State.aerUncorrectable
  extract_lets masked fatal s1 s2 enabled
  have h2 : s2.cfg fn cAerUncSts = s1.cfg fn cAerUncSts := storeGet_storePut_ne _ (by simp)
  have hsignal : ∀ code, (s2.errSignal fn part code).shadows = s2.shadows := fun code => by
    unfold State.errSignal
    split
    · rfl
    · split
      · rfl
      · exact congrArg EgressView.shadows (State.devicePost_egressView _ _ _ _ _ _)
  have hlogged := s.aerLog_status fn hb
  split
  · rw [h2]
    exact hlogged
  · rw [State.cfg_of_shadows _ (hsignal _), h2]
    exact hlogged

/-- Without PTM Enable a request is an Unsupported Request of its bridge (R222). -/
theorem ptmRequest_does_refuse {s : State} {n : Nat} (hn : n < 64) (hrole : s.role n = 2) (hup : (s.port n).up = true)
    (hen : s.cfgBits (Fn.down n).num cPtmCtl 0 0 = 0) : Does (.ptmRequest n) s fun t =>
      bit (t.cfg (s.portFn n) cAerUncSts).toNat aerUnsupported = true ∧ t.regs = s.regs ∧ t.vault = s.vault := by
  have hexec := (exec_ptmRequest hn hrole hup).trans (if_neg (by omega))
  refine ⟨_, hexec, ?_, ?_, exec_vault_of_not_writesVault rfl hexec⟩
  all_goals
    unfold State.portAer
    rw [if_pos (show isPcie n = true by simpa [isPcie] using hn)]
    extract_lets u
  · have hstatus : bit (u.cfg (s.portFn n) cAerUncSts).toNat aerUnsupported = true :=
      s.aerUncorrectable_status _ _ (by decide)
    split <;> exact hstatus
  · have hregs : u.regs = s.regs := (s.aerUncorrectable_onlyPosts _ _ _ _).regs
    split <;> exact hregs

/-! ### The supervisor's turn (R368, R374) -/

/-- A tick that finds one software write does what it says. -/
theorem State.spvTick_of_single {s : State} {e : SpvEvent} (h : s.spvDue = [e]) (he : e.place = 0) :
    s.spvTick = ({ s with spvDue := [] } : State).spvApply e := by
  have hfirst : (s.spvDue.filter fun e => e.place == 0) = [e] := by simp [h, he]
  have hlater : ∀ k, (s.spvDue.filter fun e => e.place == k + 1) = [] := fun k => by simp [h, he]
  rw [State.spvTick, show upTo 15 = 0 :: (upTo 14).map (· + 1) from by decide, List.foldl_cons, hfirst]
  refine List.foldlRecOn _ _ (motive := fun t => t = ({ s with spvDue := [] } : State).spvApply e) rfl
    fun t ht k hk => ?_
  obtain ⟨j, -, rfl⟩ := List.mem_map.mp hk
  rw [hlater, List.foldl_nil, ht]

/-- PERST asserted and power-good away: what else of the slot that changes, and what does not (R220, R373). -/
structure PerstAsserted (k : Nat) (s t : State) : Prop where
  perst : t.flag (R.SPV_SLOT_STS_PERST k) = true
  pg : t.flag (R.SPV_SLOT_STS_PG k) = false
  state : t.slotState k = s.slotState k
  reg : ∀ a, statusReg a = false → a ∉ [R.SPV_SLOT_STS k, R.SPV_GLB_STS] → t.reg a = s.reg a
  shadows : t.shadows = s.shadows
  now : t.now = s.now

section Slot
variable {k : Nat} (hk : k < 24)
include hk

theorem statusReg_slotSts : statusReg (R.SPV_SLOT_STS k) = false := by
  simp [statusReg, R.SPV_SLOT_STS]
  omega

theorem State.setSlotPg_off (s : State) : (s.setSlotPg k false).flag (R.SPV_SLOT_STS_PG k) = false ∧
    (s.setSlotPg k false).slotState k = s.slotState k ∧
    (∀ a, statusReg a = false → a ∉ [R.SPV_SLOT_STS k, R.SPV_GLB_STS] → (s.setSlotPg k false).reg a = s.reg a) ∧
    (s.setSlotPg k false).shadows = s.shadows ∧ (s.setSlotPg k false).now = s.now := by
  unfold State.setSlotPg
  split
  · next h => exact ⟨h, rfl, fun _ _ _ => rfl, rfl, rfl⟩
  · extract_lets s1 g s2 s3
    have hu : s3 = (s2.fset (R.SPV_SLOT_STS_PERST k) 1).modSlot k fun x => { x with pgAt := none } :=
      if_neg Bool.false_ne_true
    generalize s3 = u at hu ⊢
    replace hu := hu.symm
    have hraise := u.raise_sameRegs (slotPage k) 4
    have hglb : (R.SPV_SLOT_STS k : Nat) ≠ R.SPV_GLB_STS := by
      simp only [R.SPV_SLOT_STS, R.SPV_GLB_STS]
      omega
    have hureg : ∀ a, a ≠ R.SPV_SLOT_STS k → a ≠ R.SPV_GLB_STS → u.reg a = s.reg a := fun a hsts hne => by
      rw [← hu]
      exact (State.reg_fset_ne hsts).trans ((State.reg_fset_ne hne).trans (State.reg_fset_ne hsts))
    have hother : ∀ f : Fld, f.addr = R.SPV_SLOT_STS k → f.lo ≤ f.hi → f.hi < 6 → u.fget f = s1.fget f :=
      fun f hf hle hlt => by
        rw [← hu]
        refine (State.fget_fset_ne _ (R.SPV_SLOT_STS_PERST k) _ _ (by simp) hle (by omega) (.inl (by simpa using hlt))).trans ?_
        exact State.fget_fset_reg _ _ _ _ (by rw [hf]; exact hglb)
    refine ⟨?_, ?_, fun a ha hne => ?_, ?_, ?_⟩
    · rw [State.flag, hraise.fget (statusReg_slotSts hk), hother _ rfl (by simp) (by simp)]
      exact s.flag_fset_ofBool (f := R.SPV_SLOT_STS_PG k) rfl (by simp) false
    · rw [State.slotState, hraise.fget (statusReg_slotSts hk), hother _ rfl (by simp) (by simp)]
      exact State.fget_fset_ne _ _ _ _ (by simp) (by simp) (by simp) (.inl (by simp))
    · simp only [List.mem_cons, List.not_mem_nil, or_false, not_or] at hne
      exact (hraise.reg a ha).trans (hureg a hne.1 hne.2)
    · rw [State.raise_shadows, ← hu]
      rfl
    · rw [show (u.raise (slotPage k) 4).now = u.now from congrArg (·.now) (u.raise_rest _ _), ← hu]
      rfl

theorem State.perstNow_asserted (s : State) : PerstAsserted k s (s.perstNow k) := by
  obtain ⟨hpg, hstate, hreg, hshadows, hnow⟩ := s.setSlotPg_off hk
  refine ⟨State.flag_fset_ofBool _ rfl (by simp) true, ?_, ?_, fun a ha hne => ?_, hshadows, hnow⟩
  · rw [State.flag, State.perstNow, State.fget_fset_ne _ _ _ _ (by simp) (by simp) (by simp) (by simp)]
    exact hpg
  · rw [State.slotState, State.perstNow, State.fget_fset_ne _ _ _ _ (by simp) (by simp) (by simp) (by simp)]
    exact hstate
  · exact (State.reg_fset_ne (by simp at hne; exact hne.1)).trans (hreg a ha hne)

/-- A turn-off by software or the host: PERST at once, the gates later if a channel was on (R374; log entry 74). -/
theorem State.slotOff_spec (s : State) : (s.slotOff k).flag (R.SPV_SLOT_STS_PERST k) = true ∧
    (s.slotOff k).flag (R.SPV_SLOT_STS_PG k) = false ∧
    ((s.slotOff k).slot k).offAt = (if (upTo 2).any (fun c => s.flag (R.SPV_CH_STS_ON k c)) then some s.now else none) ∧
    ((s.slotOff k).slot k).retryDue = none ∧ (s.slotLatched k = false → (s.slotOff k).slotState k = slOFF) ∧
    (s.slotOff k).shadows = s.shadows := by
  have h := s.perstNow_asserted hk
  have hon : ∀ c, c < 2 → (s.perstNow k).flag (R.SPV_CH_STS_ON k c) = s.flag (R.SPV_CH_STS_ON k c) := fun c hc => by
    rw [State.flag, State.fget_of_reg (h.reg _ (by simp [statusReg]; omega)
      (by simp [R.SPV_SLOT_STS, R.SPV_GLB_STS]; omega)), State.flag]
  have hlatched : (s.perstNow k).slotLatched k = s.slotLatched k := by
    rw [State.slotLatched, h.state, State.slotLatched]
  unfold State.slotOff
  extract_lets u on v
  have honEq : on = (upTo 2).any fun c => s.flag (R.SPV_CH_STS_ON k c) := by
    simp only [on, u, upTo, show List.range 2 = [0, 1] from rfl, List.any_cons, List.any_nil, hon 0 (by decide),
      hon 1 (by decide)]
  have hslot : v.slot k = { u.slot k with retryDue := none, holdUntil := none, offAt := if on then some u.now else none } :=
    storeGet_storePut_same _ _ _ _
  have hnow : u.now = s.now := h.now
  have hvlatched : v.slotLatched k = s.slotLatched k := hlatched
  rw [hvlatched]
  cases hl : s.slotLatched k with
  | true =>
    rw [if_pos rfl, hslot, honEq, hnow]
    exact ⟨h.perst, h.pg, rfl, rfl, fun hf => absurd hf.symm Bool.false_ne_true, h.shadows⟩
  | false =>
    rw [if_neg Bool.false_ne_true]
    have hset : (v.setSlotState k slOFF).slot k = v.slot k := rfl
    rw [hset, hslot, honEq, hnow]
    refine ⟨?_, ?_, rfl, rfl, fun _ => State.fget_fset_of_lt _ (by simp) (by simp) (by simp), h.shadows⟩
    · rw [State.flag, State.setSlotState, State.fget_fset_ne _ _ _ _ (by simp) (by simp) (by simp) (by simp)]
      exact h.perst
    · rw [State.flag, State.setSlotState, State.fget_fset_ne _ _ _ _ (by simp) (by simp) (by simp) (by simp)]
      exact h.pg

end Slot

/-! ### Power Controller Control (R219, R220) -/

/-- The slot control word of a bridge with Power Controller Control written and Command Completed set (R219). -/
def State.pccWritten (s : State) (n : Nat) (off : Bool) : State :=
  (s.putCfg (Fn.down n).num cSlotCtl 10 10 (ofBool off)).orCfg (Fn.down n).num cSlotCtl ssCommandCompleted

theorem State.cfg_orCfg_same (s : State) (fn off : Nat) (m : W32) : (s.orCfg fn off m).cfg fn off = s.cfg fn off ||| m :=
  storeGet_storePut_same _ _ _ _

/-- Bits set in a word: a field that they miss is kept, and each stands. -/
theorem bits_or_of_apart {w m : W32} {hi lo : Nat} (h : bits m.toNat hi lo = 0) :
    bits (w ||| m).toNat hi lo = bits w.toNat hi lo := by
  have hm : ∀ i, i < hi - lo + 1 → m.toNat.testBit (lo + i) = false := fun i hi' => by
    have := testBit_bits m.toNat hi lo i
    rw [h, Nat.zero_testBit, decide_eq_true hi', Bool.true_and] at this
    exact this.symm
  apply Nat.eq_of_testBit_eq
  intro i
  rw [testBit_bits, testBit_bits, BitVec.toNat_or, Nat.testBit_or]
  by_cases hi' : i < hi - lo + 1
  · rw [hm i hi', Bool.or_false]
  · simp [hi']

theorem bit_or_of_bit {w m : W32} {n : Nat} (h : bit w.toNat n = true ∨ bit m.toNat n = true) :
    bit (w ||| m).toNat n = true := by
  simpa only [bit_eq_testBit, BitVec.toNat_or, Nat.testBit_or, Bool.or_eq_true] using h

section Pcc
variable (s : State) (n : Nat) (off : Bool)

theorem State.pccWritten_control : (s.pccWritten n off).cfgBits (Fn.down n).num cSlotCtl 10 10 = ofBool off := by
  have hput := s.cfgBits_putCfg_same (Fn.down n).num cSlotCtl (hi := 10) (lo := 10) le_rfl (by decide) (ofBool off)
  rw [State.cfgBits, State.pccWritten, State.cfg_orCfg_same, bits_or_of_apart (by decide), ← State.cfgBits, hput]
  exact Nat.mod_eq_of_lt (ofBool_lt_two off)

theorem State.pccWritten_completed : bit ((s.pccWritten n off).cfg (Fn.down n).num cSlotCtl).toNat 20 = true := by
  rw [State.pccWritten, State.cfg_orCfg_same]
  exact bit_or_of_bit (.inr (by decide))

variable {s n}

theorem State.writePcc_of_slotless (h : s.slotted n = false ∨ s.role n ≠ 2) : s.writePcc n off = s :=
  if_pos (by simpa using h)

variable (hrole : s.role n = 2) (hslot : s.slotted n = true)
include hrole hslot

theorem State.writePcc_of_same (h : s.cfgBits (Fn.down n).num cSlotCtl 10 10 = ofBool off) :
    s.writePcc n off = s.pccWritten n off := by
  have hwas : ((s.cfgBits (Fn.down n).num cSlotCtl 10 10 == 1) == off) = true := by
    rw [h]
    cases off <;> rfl
  unfold State.writePcc
  rw [if_neg (by simp [hrole, hslot])]
  exact if_pos hwas

/-- A change waits for the supervisor's next tick (R368). -/
theorem State.writePcc_of_change {k : Nat} (hk : s.fget (R.PEP_PORT_CTL_SLOT n) = k) (hlt : k < 24) (hal : s.alive = true)
    (h : s.cfgBits (Fn.down n).num cSlotCtl 10 10 = ofBool (!off)) :
    s.writePcc n off = { s.pccWritten n off with spvDue := s.spvDue ++ [.control k (!off)] } := by
  have hwas : (s.cfgBits (Fn.down n).num cSlotCtl 10 10 == 1) = !off := by
    rw [h]
    cases off <;> rfl
  have hslotNum : (s.pccWritten n off).fget (R.PEP_PORT_CTL_SLOT n) = k := hk
  have halive : (s.pccWritten n off).alive = true := hal
  have hevent : (s.pccWritten n off).spvEvent (.control k (!off)) =
      { s.pccWritten n off with spvDue := s.spvDue ++ [.control k (!off)] } := if_pos halive
  unfold State.writePcc
  rw [if_neg (by simp [hrole, hslot])]
  extract_lets fn was t
  rw [if_neg (by rw [show was = !off from hwas]; cases off <;> decide), ← hevent]
  cases off
  · refine (if_neg Bool.false_ne_true).trans ?_
    unfold State.pccOn
    rw [show t.fget (R.PEP_PORT_CTL_SLOT n) = k from hslotNum, if_pos hlt]
    rfl
  · refine (if_pos rfl).trans ?_
    unfold State.pccOff
    rw [show t.fget (R.PEP_PORT_CTL_SLOT n) = k from hslotNum, if_pos hlt]
    rfl

end Pcc

section Controller
variable {s : State} {n : Nat} (hn : n < 64)
include hn

theorem exec_powerControllerOff : exec (.powerControllerOff n) s = .next (s.writePcc n true) := by
  rw [exec, execPowerControllerOff, Nat.mod_eq_of_lt hn]

theorem exec_powerControllerOn : exec (.powerControllerOn n) s = .next (s.writePcc n false) := by
  rw [exec, execPowerControllerOn, Nat.mod_eq_of_lt hn]

variable {k : Nat} (hk : s.fget (R.PEP_PORT_CTL_SLOT n) = k) (hlt : k < 24) (hrole : s.role n = 2)
  (hslot : s.slotted n = true) (hport : s.slotPort k = some n) (hal : s.alive = true) (hdue : s.spvDue = [])
include hrole hslot

/-- A write that changes nothing completes at once (R219). -/
theorem powerController_does_keep (hdue : s.spvDue = []) {c : Instr} {v : Nat}
    (hc : (c, v) ∈ [(Instr.powerControllerOff n, 1), (.powerControllerOn n, 0)])
    (hwas : s.cfgBits (Fn.down n).num cSlotCtl 10 10 = v) : Does c s fun t =>
      t.cfgBits (Fn.down n).num cSlotCtl 10 10 = v ∧ bit (t.cfg (Fn.down n).num cSlotCtl).toNat 20 = true ∧
      t.regs = s.regs ∧ t.slots = s.slots ∧ t.spvDue = [] ∧ t.vault = s.vault := by
  have hexec : ∃ off, v = ofBool off ∧ exec c s = .next (s.writePcc n off) := by
    simp only [List.mem_cons, Prod.mk.injEq, List.not_mem_nil, or_false] at hc
    obtain ⟨rfl, rfl⟩ | ⟨rfl, rfl⟩ := hc
    · exact ⟨true, rfl, exec_powerControllerOff hn⟩
    · exact ⟨false, rfl, exec_powerControllerOn hn⟩
  obtain ⟨off, rfl, hexec⟩ := hexec
  rw [State.writePcc_of_same off hrole hslot hwas] at hexec
  exact ⟨_, hexec, s.pccWritten_control n off, s.pccWritten_completed n off, rfl, rfl, hdue, rfl⟩

include hk hlt hal hdue

theorem powerControllerOff_ticks (hwas : s.cfgBits (Fn.down n).num cSlotCtl 10 10 = 0) :
    Ticks (.powerControllerOff n) s fun t =>
      t.cfgBits (Fn.down n).num cSlotCtl 10 10 = 1 ∧ bit (t.cfg (Fn.down n).num cSlotCtl).toNat 20 = true ∧
      t.flag (R.SPV_SLOT_STS_PERST k) = true ∧ t.flag (R.SPV_SLOT_STS_PG k) = false ∧
      (t.slot k).offAt = (if (upTo 2).any (fun c => s.flag (R.SPV_CH_STS_ON k c)) then some s.now else none) ∧
      (t.slot k).retryDue = none ∧ (s.slotLatched k = false → t.slotState k = slOFF) ∧ t.vault = s.vault := by
  have hexec := exec_powerControllerOff (s := s) hn
  rw [State.writePcc_of_change true hrole hslot hk hlt hal hwas, hdue] at hexec
  refine ⟨_, hexec, ?_⟩
  rw [State.spvTick_of_single rfl rfl]
  generalize hu : ({ { s.pccWritten n true with spvDue := [] ++ [SpvEvent.control k (!true)] } with spvDue := [] } : State) = u
  have hu' : u = { s.pccWritten n true with spvDue := [] } := hu.symm
  have happly : u.spvApply (.control k (!true)) = u.slotOff k := rfl
  rw [happly]
  obtain ⟨hperst, hpg, hoff, hretry, hstate, hshadows⟩ := u.slotOff_spec hlt
  refine ⟨?_, ?_, hperst, hpg, ?_, hretry, fun hl => hstate ?_, ?_⟩
  · rw [State.cfgBits_of_shadows hshadows, hu']
    exact s.pccWritten_control n true
  · rw [State.cfg_of_shadows _ hshadows, hu']
    exact s.pccWritten_completed n true
  · rw [hoff, hu']
    rfl
  · rw [hu']
    exact hl
  · rw [State.slotOff_vault, hu']
    rfl

variable (hwas : s.cfgBits (Fn.down n).num cSlotCtl 10 10 = 1)
include hwas

theorem exec_powerControllerOn_ticks : ∃ t, exec (.powerControllerOn n) s = .next t ∧
    t.spvTick = ({ s.pccWritten n false with spvDue := [] } : State).spvApply (.control k true) := by
  have hexec := exec_powerControllerOn (s := s) hn
  rw [State.writePcc_of_change false hrole hslot hk hlt hal hwas, hdue] at hexec
  exact ⟨_, hexec, State.spvTick_of_single rfl rfl⟩

include hport

theorem powerControllerOn_ticks_latched (hlatched : s.slotLatched k = true) : Ticks (.powerControllerOn n) s fun t =>
    t.cfgBits (Fn.down n).num cSlotCtl 10 10 = 0 ∧ bit (t.cfg (Fn.down n).num cSlotCtl).toNat 17 = true ∧
      t.regs = s.regs ∧ t.vault = s.vault := by
  obtain ⟨t, hexec, htick⟩ := exec_powerControllerOn_ticks hn hk hlt hrole hslot hal hdue hwas
  refine ⟨t, hexec, ?_⟩
  generalize hu : ({ s.pccWritten n false with spvDue := [] } : State) = u at htick
  have hulatched : u.slotLatched k = true := by rw [← hu]; exact hlatched
  have huport : u.slotPort k = some n := by rw [← hu]; exact hport
  have hurole : u.role n = 2 := by rw [← hu]; exact hrole
  have happly : u.spvApply (.control k true) = u.orCfg (Fn.down n).num cSlotCtl ssPowerFault := by
    have hbits : u.slotBits k ssPowerFault = u.orCfg (Fn.down n).num cSlotCtl ssPowerFault := by
      rw [State.slotBits, huport]
      exact if_pos hurole
    exact (if_pos hulatched).trans hbits
  rw [htick, happly]
  have hcontrol : u.cfgBits (Fn.down n).num cSlotCtl 10 10 = 0 := by rw [← hu]; exact s.pccWritten_control n false
  refine ⟨?_, ?_, by rw [← hu]; rfl, by rw [← hu]; rfl⟩
  · rw [State.cfgBits, State.cfg_orCfg_same, bits_or_of_apart (by decide)]
    exact hcontrol
  · rw [State.cfg_orCfg_same]
    exact bit_or_of_bit (.inr (by decide))

theorem powerControllerOn_ticks_wait (hstate : s.slotState k = slOFF) (hon : s.flag (R.SPV_SLOT_CTL_ON k) = true)
    (hpresent : s.flag (R.SPV_SLOT_STS_PRESENT k) = true) : Ticks (.powerControllerOn n) s fun t =>
      t.cfgBits (Fn.down n).num cSlotCtl 10 10 = 0 ∧ t.slotState k = slWAIT ∧ t.vault = s.vault := by
  obtain ⟨t, hexec, htick⟩ := exec_powerControllerOn_ticks hn hk hlt hrole hslot hal hdue hwas
  refine ⟨t, hexec, ?_⟩
  generalize hu : ({ s.pccWritten n false with spvDue := [] } : State) = u at htick
  have hustate : u.slotState k = slOFF := by rw [← hu]; exact hstate
  have huon : u.flag (R.SPV_SLOT_CTL_ON k) = true := by rw [← hu]; exact hon
  have hupresent : u.flag (R.SPV_SLOT_STS_PRESENT k) = true := by rw [← hu]; exact hpresent
  have huport : u.slotPort k = some n := by rw [← hu]; exact hport
  have hcontrol : u.cfgBits (Fn.down n).num cSlotCtl 10 10 = 0 := by rw [← hu]; exact s.pccWritten_control n false
  have hlatched : u.slotLatched k = false := by rw [State.slotLatched, hustate]; rfl
  have hoff : u.powerControllerOff k = false := by
    rw [State.powerControllerOff, huport]
    simp [hcontrol]
  have happly : u.spvApply (.control k true) = u.setSlotState k slWAIT := by
    have hwait : u.slotWait k = u.setSlotState k slWAIT := by
      rw [State.slotWait, hupresent, hlatched, hoff, hustate]
      rfl
    rw [← hwait]
    exact (if_neg (by rw [hlatched]; decide)).trans (if_pos huon)
  rw [htick, happly]
  refine ⟨hcontrol, State.fget_fset_of_lt _ (by simp) (by simp) (by simp), by rw [← hu]; rfl⟩

end Controller

/-! ### The obligation -/

/-- Settles O27: each request of a port does what its clause says; the power controller's change is `slotOff`, `slotWait` or
Power Fault Detected at the supervisor's next tick. -/
theorem hotPlugAndPower : Obligations.HotPlugAndPower := by
  unfold Obligations.HotPlugAndPower
  refine ⟨fun s n hn => ⟨dpcRelease_does hn, exec_pcieRetrain_of_inactive hn, pcieRetrain_does hn,
    exec_l1Entry_of_idle hn, exec_l1Entry_of_stays hn, exec_ptmRequest_of_none hn,
    fun hrole hup => ⟨ptmRequest_does_answer hn hrole hup, ptmRequest_does_refuse hn hrole hup⟩⟩, ?_, fun s n hn h => ?_⟩
  · rintro s n hn k hk hlt hrole hslot hport hal hdue
    exact ⟨fun c hc hwas => powerController_does_keep hn hrole hslot hdue hc hwas,
      powerControllerOff_ticks hn hk.symm hlt hrole hslot hal hdue,
      fun hwas => ⟨powerControllerOn_ticks_latched hn hk.symm hlt hrole hslot hport hal hdue hwas,
        powerControllerOn_ticks_wait hn hk.symm hlt hrole hslot hport hal hdue hwas⟩⟩
  · exact ⟨(exec_powerControllerOff hn).trans (congrArg _ (State.writePcc_of_slotless true h)),
      (exec_powerControllerOn hn).trans (congrArg _ (State.writePcc_of_slotless false h))⟩

end Sys2Proof.Machine
end

section
/-! PROOFS. What a device-wide reset leaves, and what its sources write before it (R343, R344, R444, R449, R453). -/

namespace Sys2Proof.Machine
set_option Elab.async false

/-! ### Device modes (R29, R431) -/

/-- A change of mode writes DEV_MODE and the service mode alone. -/
theorem State.setMode_eq (s : State) (m : Nat) :
    ∃ service, s.setMode m = { s.fset R.DEV_MODE_CODE m with service := service } := by
  unfold State.setMode
  split
  · exact ⟨m, rfl⟩
  · exact ⟨s.service, rfl⟩

theorem State.setMode_mode (s : State) {m : Nat} (hm : m < 16) : (s.setMode m).mode = m := by
  obtain ⟨service, h⟩ := s.setMode_eq m
  rw [h]
  exact s.fget_fset_of_lt (f := R.DEV_MODE_CODE) (by decide) (by decide) hm

theorem State.setMode_reg_ne (s : State) (m : Nat) {a : Nat} (h : a ≠ R.DEV_MODE) : (s.setMode m).reg a = s.reg a := by
  obtain ⟨service, hs⟩ := s.setMode_eq m
  rw [hs]
  exact State.reg_fset_ne h

/-! ### The reset itself (R343, R344, R444) -/

/-- What a device-wide reset keeps in being beside registers, and the time it asks for. -/
def State.resetBoard (s : State) (need : Nat) : Board where
  power := s.board.power
  aon := s.board.aon
  wake := s.board.wake
  hot := s.board.hot
  rstLow := s.board.rstLow
  need := max (if s.mode = mRESET then s.board.need - s.board.inReset else 0) need
  cards := s.cardsKnown

/-- The device after a reset, before the registers that VDD_AON keeps. -/
def State.blank (s : State) (need : Nat) : State :=
  { State.reset with
    pending := s.pending, free := s.free + 1, undef := s.undef, sec := { otp := s.sec.otp }
    mgt := { flash := s.mgt.flash, era := s.free }, board := s.resetBoard need }

/-- The reset's registers, before the mode: those that VDD_AON keeps, and the two fields that outlast it. -/
def State.keptOver (s t : State) : State :=
  ((keptRegs.foldl (fun t a => t.setReg a (s.reg a)) t).fset R.CLK_THERM_STS_CRIT_SEEN
    (s.fget R.CLK_THERM_STS_CRIT_SEEN)).fset R.CUL_SB_CTL_WAKE_EN (s.fget R.CUL_SB_CTL_WAKE_EN)

theorem State.deviceReset_eq (s : State) (need : Nat) :
    s.deviceReset need = (s.keptOver (s.blank need)).setMode (if s.board.power then mRESET else mSTANDBY) := rfl

/-- Registers set in turn to what another state holds read as there. -/
theorem foldl_setReg_reg (s t : State) (as : List Nat) (a : Nat) :
    (as.foldl (fun t a => t.setReg a (s.reg a)) t).reg a = if a ∈ as then s.reg a else t.reg a := by
  induction as generalizing t with
  | nil => rfl
  | cons b bs ih =>
    rw [List.foldl_cons, ih, State.reg_setReg]
    by_cases hb : a = b <;> simp [hb]

section DeviceReset
variable (s : State) (need : Nat)

theorem State.deviceReset_mode : (s.deviceReset need).mode = if s.board.power then mRESET else mSTANDBY := by
  rw [State.deviceReset_eq, State.setMode_mode _ (by split <;> decide)]

theorem State.deviceReset_reg {a : Nat} (h : a ∉ [R.DEV_MODE, R.CLK_THERM_STS, R.CUL_SB_CTL]) :
    (s.deviceReset need).reg a = if a ∈ keptRegs then s.reg a else regReset a := by
  simp only [List.mem_cons, List.not_mem_nil, or_false, not_or] at h
  obtain ⟨hmode, htherm, hcul⟩ := h
  rw [State.deviceReset_eq, State.setMode_reg_ne _ _ hmode, State.keptOver, State.reg_fset_ne hcul,
    State.reg_fset_ne htherm, foldl_setReg_reg]
  rfl

theorem State.deviceReset_keptReg {a : Nat} (h : a ∈ keptRegs) : (s.deviceReset need).reg a = s.reg a := by
  have hne : ∀ a ∈ keptRegs, a ∉ [R.DEV_MODE, R.CLK_THERM_STS, R.CUL_SB_CTL] := by decide
  rw [s.deviceReset_reg need (hne a h), if_pos h]

theorem State.deviceReset_critSeen :
    (s.deviceReset need).fget R.CLK_THERM_STS_CRIT_SEEN = s.fget R.CLK_THERM_STS_CRIT_SEEN := by
  rw [State.deviceReset_eq, State.fget_of_reg (State.setMode_reg_ne _ _ (by decide)), State.keptOver,
    State.fget_fset_reg _ _ _ _ (by decide)]
  exact State.fget_fset_of_lt _ (by decide) (by decide) (s.fget_lt _)

theorem State.deviceReset_wakeEn :
    (s.deviceReset need).fget R.CUL_SB_CTL_WAKE_EN = s.fget R.CUL_SB_CTL_WAKE_EN := by
  rw [State.deviceReset_eq, State.fget_of_reg (State.setMode_reg_ne _ _ (by decide)), State.keptOver]
  exact State.fget_fset_of_lt _ (by decide) (by decide) (s.fget_lt _)

theorem State.deviceReset_board : (s.deviceReset need).board = s.resetBoard need := by
  obtain ⟨service, h⟩ := (s.keptOver (s.blank need)).setMode_eq (if s.board.power then mRESET else mSTANDBY)
  rw [State.deviceReset_eq, h]
  rfl

theorem State.le_deviceReset_need : need ≤ (s.deviceReset need).board.need := by
  rw [State.deviceReset_board]
  exact Nat.le_max_right _ _

/-- A device-wide reset wipes all but what R444 and VDD_AON keep. -/
theorem State.deviceReset_wiped : s.wiped (s.deviceReset need) := by
  refine ⟨?_, ?_, ?_, ?_, ?_, ?_, ?_, ?_, ?_, ?_, fun a hkept hne => ?_, s.deviceReset_keptReg need (by decide),
    s.deviceReset_wakeEn need, congrArg Board.cards (s.deviceReset_board need)⟩
  case refine_11 => rw [s.deviceReset_reg need hne, if_neg hkept]
  all_goals
    obtain ⟨service, h⟩ := (s.keptOver (s.blank need)).setMode_eq (if s.board.power then mRESET else mSTANDBY)
    rw [State.deviceReset_eq, h]
    rfl

end DeviceReset

/-! ### What a source writes before its reset -/

/-- Registers that the source of a reset may write before it: the always-on log and the sensors' status (R344, R453). -/
def sourceRegs : List Nat :=
  [R.DEV_PWRLOSS_STS, R.DEV_PWRLOSS_POSTED, R.DEV_PWRLOSS_TB_LO, R.DEV_PWRLOSS_TB_HI, R.CLK_THERM_STS]

/-- The state as a source hands it to the reset: it has written no more than those registers, and parts of the board that the
reset does not read. -/
structure Prepared (s u : State) : Prop where
  reg : ∀ a, a ∉ sourceRegs → u.reg a = s.reg a
  pending : u.pending = s.pending
  sec : u.sec = s.sec
  mgt : u.mgt = s.mgt
  cards : u.board.cards = s.board.cards

section Prepared
variable {s u : State} (h : Prepared s u)
include h

theorem Prepared.cardsKnown : u.cardsKnown = s.cardsKnown := by
  have halive : u.alive = s.alive := State.alive_eq_of_reg (h.reg _ (by decide))
  have hpresent : ∀ k, u.fget (R.SPV_SLOT_STS_PRESENT k) = s.fget (R.SPV_SLOT_STS_PRESENT k) := fun k =>
    State.fget_of_reg (h.reg _ (by
      simp only [sourceRegs, R.DEV_PWRLOSS_STS, R.DEV_PWRLOSS_POSTED, R.DEV_PWRLOSS_TB_LO, R.DEV_PWRLOSS_TB_HI,
        R.CLK_THERM_STS, List.mem_cons, List.not_mem_nil, or_false]
      omega))
  simp only [State.cardsKnown, halive, hpresent, h.cards]

/-- What is wiped of the prepared state is wiped of the state before. -/
theorem Prepared.wiped {t : State} (ht : u.wiped t) : s.wiped t := by
  obtain ⟨hpending, hotp, hflash, hsram, hsb, hframes, hcopies, hrings, hctrs, htbls, hreg, hstrap, hwake, hcards⟩ := ht
  exact ⟨hpending.trans h.pending, hotp.trans (congrArg (·.otp) h.sec), hflash.trans (congrArg (·.flash) h.mgt), hsram,
    hsb, hframes, hcopies, hrings, hctrs, htbls, hreg, hstrap.trans (h.reg _ (by decide)),
    hwake.trans (State.fget_of_reg (h.reg _ (by decide))), hcards.trans h.cardsKnown⟩

theorem Prepared.deviceReset_wiped (need : Nat) : s.wiped (u.deviceReset need) := h.wiped (u.deviceReset_wiped need)

end Prepared

/-- The main rails are gone (R226). -/
def State.unpowered (s : State) : State := { s with board := { s.board with power := false } }

theorem State.unpowered_regs (s : State) : s.unpowered.regs = s.regs := rfl

theorem State.unpowered_deviceReset_mode (s : State) (need : Nat) :
    (s.unpowered.deviceReset need).mode = mSTANDBY :=
  s.unpowered.deviceReset_mode need

theorem Prepared.unpowered {s u : State} (h : Prepared s u) : Prepared s u.unpowered :=
  ⟨h.reg, h.pending, h.sec, h.mgt, h.cards⟩

/-! ### The always-on log (R344) -/

section Capture
variable (s : State) (rail : Nat)

theorem State.capture344_reg_ne {a : Nat} (h : a ∉ sourceRegs) : (s.capture344 rail).reg a = s.reg a := by
  simp only [sourceRegs, List.mem_cons, List.not_mem_nil, or_false, not_or] at h
  obtain ⟨hsts, hposted, hlo, hhi, -⟩ := h
  unfold State.capture344
  extract_lets losses posted s1 s2 s3 s4
  have h1 : s1.reg a = s.reg a := by
    rw [State.reg_fset_ne (f := R.DEV_PWRLOSS_STS_RAIL) hsts, State.reg_fset_ne (f := R.DEV_PWRLOSS_STS_VALID) hsts]
  have h4 : s4.reg a = s1.reg a := by
    rw [State.reg_fset_ne (f := R.DEV_PWRLOSS_POSTED_POSTED) hposted, State.reg_fset_ne (f := R.DEV_PWRLOSS_STS_LOSSES) hsts,
      State.reg_fset_ne (f := R.DEV_PWRLOSS_STS_CUL) hsts, State.reg_fset_ne (f := R.DEV_PWRLOSS_STS_SB) hsts]
  rw [State.setPair, State.reg_setReg_ne hhi, State.reg_setReg_ne hlo, h4, h1]

/-- The log's entry: it is valid, names its rail, counts the loss and holds the time base (R344). -/
theorem State.capture344_entry (hrail : rail < 8) : (s.capture344 rail).fget R.DEV_PWRLOSS_STS_VALID = 1 ∧
    (s.capture344 rail).fget R.DEV_PWRLOSS_STS_RAIL = rail ∧
    (s.capture344 rail).fget R.DEV_PWRLOSS_STS_LOSSES = min 255 (s.fget R.DEV_PWRLOSS_STS_LOSSES + 1) ∧
    (s.capture344 rail).pair R.DEV_PWRLOSS_TB_LO R.DEV_PWRLOSS_TB_HI = s.ns % 2 ^ 64 := by
  unfold State.capture344
  extract_lets losses posted s1 s2 s3 s4
  generalize ht : s4.setPair R.DEV_PWRLOSS_TB_LO R.DEV_PWRLOSS_TB_HI (s4.ns % 2 ^ 64) = t
  have hsts : t.reg R.DEV_PWRLOSS_STS = (s3.fset R.DEV_PWRLOSS_STS_LOSSES losses).reg R.DEV_PWRLOSS_STS := by
    rw [← ht, State.setPair, State.reg_setReg_ne (by decide), State.reg_setReg_ne (by decide)]
    exact State.reg_fset_ne (f := R.DEV_PWRLOSS_POSTED_POSTED) (by decide)
  have hlow : ∀ f : Fld, f.addr = R.DEV_PWRLOSS_STS → f.lo ≤ f.hi → f.hi < 8 → t.fget f = s1.fget f :=
    fun f hf hle hlt => by
      rw [State.fget_of_reg (show t.reg f.addr = _ from hf ▸ hsts),
        State.fget_fset_ne _ R.DEV_PWRLOSS_STS_LOSSES f _ (by decide) hle (by omega) (.inl (by simp only; omega)),
        State.fget_fset_ne _ R.DEV_PWRLOSS_STS_CUL f _ (by decide) hle (by omega) (.inl (by simp only; omega)),
        State.fget_fset_ne _ R.DEV_PWRLOSS_STS_SB f _ (by decide) hle (by omega) (.inl (by simp only; omega))]
  obtain ⟨hlo, hhi⟩ := s4.reg_setPair R.DEV_PWRLOSS_TB_LO R.DEV_PWRLOSS_TB_HI (s4.ns % 2 ^ 64) (by decide)
  refine ⟨?_, ?_, ?_, ?_⟩
  · rw [hlow R.DEV_PWRLOSS_STS_VALID rfl (by decide) (by decide),
      State.fget_fset_ne _ R.DEV_PWRLOSS_STS_RAIL _ _ (by decide) (by decide) (by decide) (by decide)]
    exact s.fget_fset_of_lt (f := R.DEV_PWRLOSS_STS_VALID) (by decide) (by decide) (by decide)
  · rw [hlow R.DEV_PWRLOSS_STS_RAIL rfl (by decide) (by decide)]
    exact State.fget_fset_of_lt _ (f := R.DEV_PWRLOSS_STS_RAIL) (by decide) (by decide) hrail
  · rw [State.fget_of_reg (f := R.DEV_PWRLOSS_STS_LOSSES) hsts]
    exact s3.fget_fset_of_lt (f := R.DEV_PWRLOSS_STS_LOSSES) (by decide) (by decide)
      (Nat.lt_of_le_of_lt (Nat.min_le_left _ _) (by decide))
  · have hns : s4.ns = s.ns := rfl
    rw [State.pair, ← ht, hlo, hhi, BitVec.toNat_ofNat, BitVec.toNat_ofNat, hns]
    omega

theorem State.capture344_prepared : Prepared s (s.capture344 rail) where
  reg _ ha := s.capture344_reg_ne rail ha
  pending := by simp [State.capture344, State.setPair]
  sec := by simp [State.capture344, State.setPair]
  mgt := by simp [State.capture344, State.setPair]
  cards := by simp [State.capture344, State.setPair]

theorem State.capture344_power : (s.capture344 rail).board.power = s.board.power := by
  simp [State.capture344, State.setPair]

/-- The log of the prepared state is what the reset keeps of it (R344). -/
theorem State.deviceReset_log {u : State} (hu : u.regs = (s.capture344 rail).regs) (need : Nat) (hrail : rail < 8) :
    (u.deviceReset need).fget R.DEV_PWRLOSS_STS_VALID = 1 ∧ (u.deviceReset need).fget R.DEV_PWRLOSS_STS_RAIL = rail ∧
      (u.deviceReset need).fget R.DEV_PWRLOSS_STS_LOSSES = min 255 (s.fget R.DEV_PWRLOSS_STS_LOSSES + 1) ∧
      (u.deviceReset need).pair R.DEV_PWRLOSS_TB_LO R.DEV_PWRLOSS_TB_HI = s.ns % 2 ^ 64 := by
  have hreg : ∀ a ∈ keptRegs, (u.deviceReset need).reg a = (s.capture344 rail).reg a := fun a ha =>
    (u.deviceReset_keptReg need ha).trans (State.reg_eq_of_regs hu a)
  obtain ⟨hvalid, hnum, hlosses, hpair⟩ := s.capture344_entry rail hrail
  refine ⟨(State.fget_of_reg (hreg _ (by decide))).trans hvalid, (State.fget_of_reg (hreg _ (by decide))).trans hnum,
    (State.fget_of_reg (hreg _ (by decide))).trans hlosses, ?_⟩
  rw [State.pair, hreg _ (by decide), hreg _ (by decide), ← hpair, State.pair]

end Capture

/-! ### The sources (R343, R344, R444, R449, R453) -/

section Sources
variable {s : State}

theorem resetAssert_does (haon : s.board.aon = true) (hpower : s.board.power = true) (hmode : s.mode ≠ mSTANDBY) :
    Does .resetAssert s fun t => t.mode = mRESET ∧ t.board.rstLow = true ∧ us10 ≤ t.board.need ∧ s.wiped t := by
  generalize hu : ({ s with board := { s.board with rstLow := true } } : State) = u
  have hprepared : Prepared s u := by subst hu; exact ⟨fun _ _ => rfl, rfl, rfl, rfl, rfl⟩
  have hexec : exec .resetAssert s = .next (u.deviceReset us10) := by
    subst hu
    exact congrArg _ (if_neg fun h => h.elim hmode fun hoff => Bool.noConfusion (hoff.symm.trans haon))
  refine ⟨_, hexec, ?_, ?_, u.le_deviceReset_need us10, hprepared.deviceReset_wiped us10⟩
  · rw [State.deviceReset_mode, ← hu]
    exact if_pos hpower
  · rw [State.deviceReset_board, ← hu]
    rfl

theorem resetDevice_does (hpower : s.board.power = true) (hal : s.alive = true) : Does .resetDevice s fun t =>
    t.mode = mRESET ∧ us10 ≤ t.board.need ∧ s.wiped t ∧ ∀ a ∈ keptRegs, t.reg a = s.reg a := by
  have hexec : exec .resetDevice s = .next (s.deviceReset us10) := congrArg _ (if_pos hal)
  refine ⟨_, hexec, ?_, s.le_deviceReset_need us10, s.deviceReset_wiped us10, fun a ha => s.deviceReset_keptReg us10 ha⟩
  rw [State.deviceReset_mode, if_pos hpower]

theorem criticalTemperature_does (hpower : s.board.power = true) (hal : s.alive = true) :
    Does .criticalTemperature s fun t => t.mode = mRESET ∧ t.board.hot = true ∧
      t.fget R.CLK_THERM_STS_CRIT_SEEN = 1 ∧ s.wiped t := by
  generalize hu : ({ s.fset R.CLK_THERM_STS_CRIT_SEEN 1 with board := { s.board with hot := true } } : State) = u
  have hprepared : Prepared s u := by
    subst hu
    exact ⟨fun a ha => State.reg_fset_ne (by rintro rfl; exact ha (by decide)), rfl, rfl, rfl, rfl⟩
  have hexec : exec .criticalTemperature s = .next (u.deviceReset us10) := by
    subst hu
    exact if_neg (by simp [hal])
  refine ⟨_, hexec, ?_, ?_, ?_, hprepared.deviceReset_wiped us10⟩
  · rw [State.deviceReset_mode, ← hu]
    exact if_pos hpower
  · rw [State.deviceReset_board, ← hu]
    rfl
  · rw [State.deviceReset_critSeen, ← hu]
    exact s.fget_fset_of_lt (f := R.CLK_THERM_STS_CRIT_SEEN) (by decide) (by decide) (by decide)

/-- A main rail that fails, with the others or without them (R344, R449). -/
theorem railFails_does (haon : s.board.aon = true) (hpower : s.board.power = true) {rail : Nat} (hrail : rail < 7)
    {c : Instr} {m : Nat} (h : (c, m) ∈ [(Instr.supplyUndervoltage rail, mRESET), (.mainPowerLoss rail, mSTANDBY)]) :
    Does c s fun t => t.mode = m ∧ cyclesPerMs ≤ t.board.need ∧ s.wiped t ∧ t.fget R.DEV_PWRLOSS_STS_VALID = 1 ∧
      t.fget R.DEV_PWRLOSS_STS_RAIL = rail ∧
      t.fget R.DEV_PWRLOSS_STS_LOSSES = min 255 (s.fget R.DEV_PWRLOSS_STS_LOSSES + 1) ∧
      t.pair R.DEV_PWRLOSS_TB_LO R.DEV_PWRLOSS_TB_HI = s.ns % 2 ^ 64 := by
  have hmin : min rail 6 = rail := Nat.min_eq_left (by omega)
  have hrails : (s.board.power && s.board.aon) = true := by rw [hpower, haon]; rfl
  have hprepared := s.capture344_prepared rail
  simp only [List.mem_cons, Prod.mk.injEq, List.not_mem_nil, or_false] at h
  obtain ⟨rfl, rfl⟩ | ⟨rfl, rfl⟩ := h
  · have hexec : exec (.supplyUndervoltage rail) s = .next ((s.capture344 rail).deviceReset cyclesPerMs) := by
      rw [exec, execSupplyUndervoltage, if_pos hrails, hmin]
    refine ⟨_, hexec, ?_, State.le_deviceReset_need _ _, hprepared.deviceReset_wiped _,
      s.deviceReset_log rail rfl _ (by omega)⟩
    rw [State.deviceReset_mode, State.capture344_power, if_pos hpower]
  · have hexec : exec (.mainPowerLoss rail) s = .next ((s.capture344 rail).unpowered.deviceReset cyclesPerMs) := by
      rw [exec, execMainPowerLoss, if_pos hrails, hmin]
      rfl
    exact ⟨_, hexec, State.unpowered_deviceReset_mode _ _, State.le_deviceReset_need _ _,
      hprepared.unpowered.deviceReset_wiped _, s.deviceReset_log rail (State.unpowered_regs _) _ (by omega)⟩

/-- Without VDD_AON only the OTP and the flash outlast the loss (R344, R449; log entry 66). -/
theorem aonUndervoltage_does : Does .aonUndervoltage s fun t => t.mode = mRESET ∧ t.board.power = false ∧
    t.board.aon = false ∧ t.pending = s.pending ∧ t.sec.otp = s.sec.otp ∧ t.mgt.flash = s.mgt.flash ∧ t.ctrs = [] ∧
    ∀ a, a ≠ R.DEV_MODE → t.reg a = regReset a := by
  refine ⟨_, rfl, State.setMode_mode _ (by decide), ?_, ?_, ?_, ?_, ?_, ?_,
    fun a ha => (State.setMode_reg_ne _ _ ha).trans rfl⟩
  all_goals exact rfl

end Sources

end Sys2Proof.Machine
end

section
/-! PROOFS. How the device leaves RESET, and the clear of the always-on log (R11, R211, R344, R419, R421, R430, R453). -/

namespace Sys2Proof.Machine
set_option Elab.async false

/-! ### The strap layout (R211) -/

/-- The layout of an octet follows from the OTP alone. -/
theorem State.layoutOctet_of_otp {s t : State} (h : t.sec.otp = s.sec.otp) (cfg k : Nat) :
    t.layoutOctet cfg k = s.layoutOctet cfg k := by
  have hword : ∀ w, t.otpWord w = s.otpWord w := fun w => by rw [State.otpWord, h, State.otpWord]
  simp only [State.layoutOctet, hword]

/-- MODE of a layout fits its field. -/
theorem State.layoutOctet_mode_lt (s : State) (cfg k : Nat) : (s.layoutOctet cfg k).1 < 8 := by
  unfold State.layoutOctet
  extract_lets x16
  repeat' split
  all_goals simp only [x16]
  all_goals omega

/-- The layout's octets, written in turn. -/
def State.octetsLaid (s : State) (cfg m : Nat) : State :=
  (upTo m).foldl (fun s k =>
    let x := s.layoutOctet cfg k
    (s.fset (R.PHY_OCTET_MODE_MODE k) x.1).setReg (R.PHY_OCTET_PORTS k) (BitVec.ofNat 32 (x.2 &&& 0xBFBFBFBF))) s

/-- Each octet has the mode of the layout, and registers below those of the octets are unchanged. -/
theorem State.octetsLaid_spec (s : State) (cfg m : Nat) : (s.octetsLaid cfg m).sec = s.sec ∧
    (∀ k, k < m → (s.octetsLaid cfg m).fget (R.PHY_OCTET_MODE_MODE k) = (s.layoutOctet cfg k).1) ∧
    ∀ a, a < 0x900000 → (s.octetsLaid cfg m).reg a = s.reg a := by
  induction m with
  | zero => exact ⟨rfl, fun _ h => absurd h (Nat.not_lt_zero _), fun _ _ => rfl⟩
  | succ m ih =>
    obtain ⟨hsec, hmode, hreg⟩ := ih
    have hstep : s.octetsLaid cfg (m + 1) = ((s.octetsLaid cfg m).fset (R.PHY_OCTET_MODE_MODE m)
        ((s.octetsLaid cfg m).layoutOctet cfg m).1).setReg (R.PHY_OCTET_PORTS m)
        (BitVec.ofNat 32 (((s.octetsLaid cfg m).layoutOctet cfg m).2 &&& 0xBFBFBFBF)) := by
      rw [State.octetsLaid, upTo, List.range_succ, List.foldl_append]
      rfl
    rw [hstep]
    generalize s.octetsLaid cfg m = u at hsec hmode hreg ⊢
    refine ⟨hsec, fun k hk => ?_, fun a ha => ?_⟩
    · rw [State.fget_of_reg (State.reg_setReg_ne (by simp only [R.PHY_OCTET_PORTS]; omega))]
      obtain hlt | rfl := Nat.lt_succ_iff_lt_or_eq.mp hk
      · rw [State.fget_fset_reg _ _ _ _ (by simp only; omega), hmode k hlt]
      · rw [State.layoutOctet_of_otp (congrArg (·.otp) hsec)]
        exact State.fget_fset_of_lt _ (by simp) (by simp) (by simpa using s.layoutOctet_mode_lt cfg k)
    · exact (State.reg_setReg_ne (by simp only [R.PHY_OCTET_PORTS]; omega)).trans
        ((State.reg_fset_ne (by simp only; omega)).trans (hreg a ha))

/-- ROLE and PART of the ports that a layout forms (R211). -/
def State.portsAssigned (s : State) : State :=
  let ports := (upTo 64).filter fun n => s.flag (R.PEP_PORT_STS_PRESENT n)
  match ports with
  | [] => s
  | first :: _ => ports.foldl (fun s n =>
      (s.fset (R.PEP_PORT_CTL_ROLE n) (if n = first then 1 else 2)).fset (R.PEP_PORT_CTL_PART n) 0) s

theorem State.strapLayout_eq (s : State) :
    s.strapLayout = (s.octetsLaid (s.fget R.DEV_STRAP_PORTCFG) 24).showPorts.portsAssigned := rfl

/-- Ports are assigned in their own pages. -/
theorem State.portsAssigned_reg (s : State) {a : Nat} (h : a < 0x800000 ∨ 0x900000 ≤ a) :
    s.portsAssigned.reg a = s.reg a := by
  unfold State.portsAssigned
  extract_lets ports
  have hlt : ∀ n ∈ ports, n < 64 := fun n hn => List.mem_range.mp (List.mem_filter.mp hn).1
  clear_value ports
  split
  · rfl
  · refine List.foldlRecOn _ _ (motive := fun t : State => t.reg a = s.reg a) rfl fun t ht n hn => ?_
    have hn64 := hlt n hn
    exact (State.reg_fset_ne (by simp only; omega)).trans ((State.reg_fset_ne (by simp only; omega)).trans ht)

theorem State.portsAssigned_rest (s : State) : s.portsAssigned.rest = s.rest := by
  unfold State.portsAssigned
  extract_lets ports
  clear_value ports
  split
  · rfl
  · exact rest_foldl _ _ _ fun _ _ => by simp

theorem State.strapLayout_reg (s : State) {a : Nat} (h : a < 0x800000) : s.strapLayout.reg a = s.reg a := by
  rw [State.strapLayout_eq, State.portsAssigned_reg _ (.inl h),
    State.showPorts_reg_ne _ fun n _ => by simp only; omega]
  exact (s.octetsLaid_spec _ 24).2.2 a (by omega)

theorem State.strapLayout_mode (s : State) {k : Nat} (hk : k < 24) :
    s.strapLayout.fget (R.PHY_OCTET_MODE_MODE k) = (s.layoutOctet (s.fget R.DEV_STRAP_PORTCFG) k).1 := by
  rw [State.strapLayout_eq, State.fget_of_reg (State.portsAssigned_reg _ (.inr (by simp only; omega))),
    State.fget_of_reg (State.showPorts_reg_ne _ fun n _ => by simp only; omega)]
  exact (s.octetsLaid_spec _ 24).2.1 k hk

theorem State.strapLayout_rest (s : State) : s.strapLayout.rest = s.rest := by
  have hlaid : ∀ cfg, (s.octetsLaid cfg 24).rest = s.rest := fun cfg =>
    rest_foldl _ _ _ fun _ _ => by simp
  rw [State.strapLayout_eq, State.portsAssigned_rest, State.showPorts_rest, hlaid]

/-! ### What the OTP gives (R401, R403) -/

theorem State.freshNonce_reg_low (s : State) {a : Nat} (h : a < 0xB000) : s.freshNonce.reg a = s.reg a := by
  unfold State.freshNonce
  exact List.foldlRecOn _ _ (motive := fun t : State => t.reg a = s.reg a) rfl fun t ht k _ =>
    (State.reg_setReg_ne (by simp only [R.SEC_DEBUG_NONCE]; omega)).trans ht

theorem State.freshNonce_sec (s : State) : s.freshNonce.sec = s.sec := congrArg (·.sec) s.freshNonce_rest

theorem State.freshNonce_now (s : State) : s.freshNonce.now = s.now := congrArg (·.now) s.freshNonce_rest

theorem State.freshNonce_board (s : State) : s.freshNonce.board = s.board := congrArg (·.board) s.freshNonce_rest

theorem State.otpFields_reg (s : State) {a : Nat} (hlife : a ≠ R.SEC_LIFECYCLE) (hsub : a ≠ R.DEV_SUBSYS) :
    s.otpFields.reg a = s.reg a := by
  unfold State.otpFields State.showOtp
  exact (State.reg_setReg_ne hsub).trans ((State.reg_fset_ne hlife).trans ((State.reg_fset_ne hlife).trans
    ((State.reg_fset_ne hlife).trans ((State.reg_fset_ne hlife).trans (State.reg_fset_ne hlife)))))

theorem State.otpFields_otp (s : State) : s.otpFields.sec.otp = s.sec.otp := rfl

theorem State.otpFields_now (s : State) : s.otpFields.now = s.now := rfl

theorem State.otpFields_board (s : State) : s.otpFields.board = s.board := rfl

theorem State.otpFields_subsys (s : State) : s.otpFields.reg R.DEV_SUBSYS = BitVec.ofNat 32 (s.otpWord 24) :=
  State.reg_setReg_same _ _ _

theorem State.baseState_of_otp {s t : State} (h : t.sec.otp = s.sec.otp) : t.baseState = s.baseState := by
  have hcopies : ∀ b, t.lifeCopies b = s.lifeCopies b := fun b => by
    simp only [State.lifeCopies, State.otpWord, h]
  have hbit : ∀ b, t.lifeBit b = s.lifeBit b := fun b => by rw [State.lifeBit, hcopies, State.lifeBit]
  rw [State.baseState, hbit 2, hbit 1, hbit 0, State.baseState]

theorem State.baseState_lt (s : State) : s.baseState < 8 := by
  unfold State.baseState
  repeat' split
  all_goals decide

theorem State.otpFields_lifeState (s : State) : s.otpFields.lifeState = s.baseState := by
  unfold State.otpFields
  extract_lets u v
  have hbase : u.baseState = s.baseState := rfl
  rw [State.lifeState, State.fget_of_reg (State.reg_setReg_ne (by decide))]
  exact (State.fget_fset_of_lt _ (by decide) (by decide) (u.baseState_lt)).trans hbase

/-! ### Out of RESET (R421, R440, R453) -/

/-- The device as it enters LIMP, its clock at 0 and its time in RESET forgotten. -/
def State.inLimp (s : State) : State :=
  { s.setMode mLIMP with now := 0, board := { s.board with inReset := 0, need := 0 } }

/-- The device in LIMP, its strap layout and what the OTP gives in effect. -/
def State.started (s : State) : State := s.inLimp.freshNonce.otpFields.strapLayout

/-- A critical temperature seen before the reset is recorded and its mark cleared (R453). -/
def State.critNoted (s : State) : State :=
  if s.flag R.CLK_THERM_STS_CRIT_SEEN then
    ((s.record 0x0405 lvNOTICE none 0x7F 0).alert).fset R.CLK_THERM_STS_CRIT_SEEN 0
  else s

theorem State.leaveReset_of_mayLeave {s : State} (h : s.mayLeave = true) : s.leaveReset = s.started.critNoted := by
  obtain ⟨service, hs⟩ := s.setMode_eq mLIMP
  unfold State.leaveReset State.started State.inLimp State.critNoted
  rw [if_neg (by simp [h]), hs]

theorem State.leaveReset_of_not_mayLeave {s : State} (h : s.mayLeave = false) : s.leaveReset = s :=
  if_pos (by simp [h])

section Started
variable (s : State)

theorem State.inLimp_reg (a : Nat) : s.inLimp.reg a = (s.setMode mLIMP).reg a := rfl

theorem State.inLimp_hot : s.inLimp.board.hot = s.board.hot := rfl

theorem State.inLimp_otp : s.inLimp.sec.otp = s.sec.otp := by
  obtain ⟨service, hs⟩ := s.setMode_eq mLIMP
  rw [State.inLimp, hs]
  rfl

theorem State.otp_at_start : s.inLimp.freshNonce.sec.otp = s.sec.otp := by
  rw [State.freshNonce_sec, State.inLimp_otp]

/-- Registers below those of the ports, but for those of the OTP. -/
theorem State.started_reg {a : Nat} (h : a < 0xB000) (hlife : a ≠ R.SEC_LIFECYCLE) (hsub : a ≠ R.DEV_SUBSYS) :
    s.started.reg a = (s.setMode mLIMP).reg a := by
  rw [State.started, State.strapLayout_reg _ (by omega), State.otpFields_reg _ hlife hsub, State.freshNonce_reg_low _ h,
    State.inLimp_reg]

theorem State.started_mode : s.started.mode = mLIMP :=
  (State.fget_of_reg (f := R.DEV_MODE_CODE) (s.started_reg (by decide) (by decide) (by decide))).trans
    (s.setMode_mode (by decide))

theorem State.started_strap : s.started.reg R.DEV_STRAP = s.reg R.DEV_STRAP :=
  (s.started_reg (by decide) (by decide) (by decide)).trans (s.setMode_reg_ne mLIMP (by decide))

theorem State.started_lifeState : s.started.lifeState = s.baseState := by
  rw [State.started, State.lifeState, State.fget_of_reg (State.strapLayout_reg _ (by decide)), ← State.lifeState,
    State.otpFields_lifeState, State.baseState_of_otp s.otp_at_start]

theorem State.started_subsys : s.started.reg R.DEV_SUBSYS = BitVec.ofNat 32 (s.otpWord 24) := by
  rw [State.started, State.strapLayout_reg _ (by decide), State.otpFields_subsys, State.otpWord, s.otp_at_start,
    State.otpWord]

theorem State.started_octet {k : Nat} (hk : k < 24) :
    s.started.fget (R.PHY_OCTET_MODE_MODE k) = (s.layoutOctet (s.fget R.DEV_STRAP_PORTCFG) k).1 := by
  have hcfg : s.inLimp.freshNonce.otpFields.fget R.DEV_STRAP_PORTCFG = s.fget R.DEV_STRAP_PORTCFG :=
    State.fget_of_reg ((State.otpFields_reg _ (by decide) (by decide)).trans ((State.freshNonce_reg_low _ (by decide)).trans
      ((s.inLimp_reg _).trans (s.setMode_reg_ne mLIMP (by decide)))))
  rw [State.started, State.strapLayout_mode _ hk, hcfg,
    State.layoutOctet_of_otp ((State.otpFields_otp _).trans s.otp_at_start)]

theorem State.started_now : s.started.now = 0 := by
  have hstrap : s.started.now = s.inLimp.freshNonce.otpFields.now := congrArg (·.now) (State.strapLayout_rest _)
  rw [hstrap, State.otpFields_now, State.freshNonce_now]
  rfl

theorem State.started_hot : s.started.board.hot = s.board.hot := by
  have hstrap : s.started.board = s.inLimp.freshNonce.otpFields.board := congrArg (·.board) (State.strapLayout_rest _)
  rw [hstrap, State.otpFields_board, State.freshNonce_board, State.inLimp_hot]

end Started

section CritNoted
variable (s : State)

/-- The record of a critical temperature goes to the ERR page. -/
theorem State.critNoted_reg {a : Nat} (hpage : a / 4096 ≠ 0x50) (hne : a ≠ R.CLK_THERM_STS) :
    s.critNoted.reg a = s.reg a := by
  unfold State.critNoted
  split
  · exact (State.reg_fset_ne hne).trans ((((OnlyErrPage.refl s).record _ _ _ _ _).raise 4).reg a hpage)
  · rfl

theorem State.critNoted_critSeen : s.critNoted.fget R.CLK_THERM_STS_CRIT_SEEN = 0 := by
  unfold State.critNoted
  split
  · exact State.fget_fset_of_lt _ (by decide) (by decide) (by decide)
  · next h => exact (State.flag_eq_false_iff_fget rfl).mp (eq_false_of_ne_true h)

theorem State.critNoted_rest : s.critNoted.rest = s.rest := by
  unfold State.critNoted State.alert
  split <;> simp

end CritNoted

/-- What the device is like as it leaves RESET, of the state it leaves it in (R11, R211, R421). -/
structure LeftReset (s t : State) : Prop where
  mode : t.mode = mLIMP
  now : t.now = 0
  hot : t.board.hot = s.board.hot
  life : t.lifeState = s.baseState
  subsys : t.reg R.DEV_SUBSYS = BitVec.ofNat 32 (s.otpWord 24)
  critSeen : t.fget R.CLK_THERM_STS_CRIT_SEEN = 0
  octet : ∀ k, k < 24 → t.fget (R.PHY_OCTET_MODE_MODE k) = (s.layoutOctet (s.fget R.DEV_STRAP_PORTCFG) k).1
  strap : t.reg R.DEV_STRAP = s.reg R.DEV_STRAP

theorem State.leaveReset_left {s : State} (h : s.mayLeave = true) : LeftReset s s.leaveReset := by
  rw [State.leaveReset_of_mayLeave h]
  exact {
    mode := (State.fget_of_reg (f := R.DEV_MODE_CODE) (s.started.critNoted_reg (by decide) (by decide))).trans
      s.started_mode
    now := (congrArg (·.now) s.started.critNoted_rest).trans s.started_now
    hot := (congrArg (·.board.hot) s.started.critNoted_rest).trans s.started_hot
    life := (State.fget_of_reg (f := R.SEC_LIFECYCLE_STATE) (s.started.critNoted_reg (by decide) (by decide))).trans
      s.started_lifeState
    subsys := (s.started.critNoted_reg (by decide) (by decide)).trans s.started_subsys
    critSeen := s.started.critNoted_critSeen
    octet := fun k hk => (State.fget_of_reg (s.started.critNoted_reg (by simp only; omega)
      (by simp only [R.CLK_THERM_STS]; omega))).trans (s.started_octet hk)
    strap := (s.started.critNoted_reg (by decide) (by decide)).trans s.started_strap }

/-! ### RST_N rises, and the device cools (R419, R453) -/

/-- The straps as RST_N's rise samples them. -/
def State.sampled (s : State) (m smb cfg : Nat) : State :=
  ((({ s with board := { s.board with rstLow := false, power := true, aon := true } } : State).fset
    R.DEV_STRAP_MODE m).fset R.DEV_STRAP_SMBADDR smb).fset R.DEV_STRAP_PORTCFG cfg

theorem State.sampled_straps (s : State) {m smb cfg : Nat} (hm : m < 8) (hsmb : smb < 8) (hcfg : cfg < 16) :
    (s.sampled m smb cfg).fget R.DEV_STRAP_MODE = m ∧ (s.sampled m smb cfg).fget R.DEV_STRAP_SMBADDR = smb ∧
      (s.sampled m smb cfg).fget R.DEV_STRAP_PORTCFG = cfg := by
  unfold State.sampled
  refine ⟨?_, ?_, State.fget_fset_of_lt _ (by decide) (by decide) hcfg⟩
  · rw [State.fget_fset_ne _ _ _ _ (by decide) (by decide) (by decide) (by decide),
      State.fget_fset_ne _ _ _ _ (by decide) (by decide) (by decide) (by decide)]
    exact State.fget_fset_of_lt _ (by decide) (by decide) hm
  · rw [State.fget_fset_ne _ _ _ _ (by decide) (by decide) (by decide) (by decide)]
    exact State.fget_fset_of_lt _ (by decide) (by decide) hsmb

theorem State.sampled_mode (s : State) (m smb cfg : Nat) : (s.sampled m smb cfg).mode = s.mode :=
  State.fget_of_reg (f := R.DEV_MODE_CODE) ((State.reg_fset_ne (by decide)).trans
    ((State.reg_fset_ne (by decide)).trans (State.reg_fset_ne (by decide))))

theorem State.sampled_mayLeave {s : State} (hmode : s.mode = mRESET) (m smb cfg : Nat) :
    (s.sampled m smb cfg).mayLeave = (!s.board.hot && decide (s.board.need ≤ s.board.inReset)) := by
  rw [State.mayLeave, State.sampled_mode, hmode]
  show (true && true && true && !s.board.hot && true && decide (s.board.need ≤ s.board.inReset)) = _
  simp only [Bool.true_and, Bool.and_true]

theorem resetRelease_does {s : State} {m smb cfg : Nat} (hm : m < 8) (hsmb : smb < 8) (hcfg : cfg < 16)
    (hmode : s.mode = mRESET) : Does (.resetRelease m smb cfg) s fun t =>
      t.fget R.DEV_STRAP_MODE = m ∧ t.fget R.DEV_STRAP_SMBADDR = smb ∧ t.fget R.DEV_STRAP_PORTCFG = cfg ∧
      (s.board.need ≤ s.board.inReset → s.board.hot = false → t.mode = mLIMP ∧ t.now = 0 ∧ t.lifeState = s.baseState ∧
        t.reg R.DEV_SUBSYS = BitVec.ofNat 32 (s.otpWord 24) ∧ t.fget R.CLK_THERM_STS_CRIT_SEEN = 0 ∧
        ∀ k, k < 24 → t.fget (R.PHY_OCTET_MODE_MODE k) = (s.layoutOctet cfg k).1) ∧
      (s.board.inReset < s.board.need ∨ s.board.hot = true → t.mode = mRESET) ∧ t.vault = s.vault := by
  have hexec : exec (.resetRelease m smb cfg) s = .next (s.sampled m smb cfg).leaveReset := by
    rw [exec, execResetRelease, if_neg (by simp [hmode])]
    rfl
  obtain ⟨hstrapM, hstrapS, hstrapC⟩ := s.sampled_straps hm hsmb hcfg
  have hleave := State.sampled_mayLeave hmode m smb cfg
  have hvault := exec_vault_of_not_writesVault rfl hexec
  cases hmay : (s.sampled m smb cfg).mayLeave with
  | false =>
    rw [hmay] at hleave
    rw [State.leaveReset_of_not_mayLeave hmay] at hexec hvault
    refine ⟨_, hexec, hstrapM, hstrapS, hstrapC, fun hneed hhot => ?_, fun _ => ?_, hvault⟩
    · simp [hneed, hhot] at hleave
    · exact (s.sampled_mode m smb cfg).trans hmode
  | true =>
    rw [hmay] at hleave
    have left := State.leaveReset_left hmay
    refine ⟨_, hexec, (State.fget_of_reg left.strap).trans hstrapM, (State.fget_of_reg left.strap).trans hstrapS,
      (State.fget_of_reg left.strap).trans hstrapC,
      fun _ _ => ⟨left.mode, left.now, left.life, left.subsys, left.critSeen, fun k hk => ?_⟩, fun hstay => ?_, hvault⟩
    · rw [left.octet k hk, hstrapC]
      rfl
    · simp only [Bool.true_eq, Bool.and_eq_true, Bool.not_eq_true', decide_eq_true_eq] at hleave
      obtain ⟨hhot, hneed⟩ := hleave
      obtain hlt | htrue := hstay
      · exact absurd hneed (Nat.not_le.mpr hlt)
      · exact Bool.noConfusion (htrue.symm.trans hhot)

/-- May the device leave RESET once it has cooled (R453)? -/
def State.leavesCool (s : State) : Bool :=
  s.mode == mRESET && s.board.power && s.board.aon && !s.board.rstLow && decide (s.board.need ≤ s.board.inReset)

theorem State.mayLeave_cooled (s : State) :
    ({ s with board := { s.board with hot := false } } : State).mayLeave = s.leavesCool := by
  unfold State.mayLeave State.leavesCool
  rw [Bool.not_false, Bool.and_true]
  rfl

theorem exec_criticalCool_of_stays {s : State} (h : s.leavesCool = false) :
    exec .criticalCool s = .next { s with board := { s.board with hot := false } } :=
  congrArg _ (State.leaveReset_of_not_mayLeave (s.mayLeave_cooled.trans h))

theorem criticalCool_does_leave {s : State} (h : s.leavesCool = true) : Does .criticalCool s fun t =>
    t.mode = mLIMP ∧ t.now = 0 ∧ t.board.hot = false ∧ t.fget R.CLK_THERM_STS_CRIT_SEEN = 0 ∧ t.vault = s.vault := by
  have left := State.leaveReset_left (s.mayLeave_cooled.trans h)
  exact ⟨_, rfl, left.mode, left.now, left.hot, left.critSeen, exec_vault_of_not_writesVault (c := .criticalCool) rfl rfl⟩

/-! ### Power and wake-up (R226, R430) -/

/-- The main rails are back, and RESET lasts 1 ms from here (R430, R444). -/
def State.repowered (s : State) : State :=
  { s with board := { s.board with power := true, aon := true, wake := false, inReset := 0, need := cyclesPerMs } }

theorem State.repowered_reset_board (s : State) : (s.repowered.setMode mRESET).board = s.repowered.board := by
  obtain ⟨service, hs⟩ := s.repowered.setMode_eq mRESET
  rw [hs]
  rfl

theorem mainPowerReturn_does {s : State} (h : s.board.power = false) : Does .mainPowerReturn s fun t =>
    t.mode = mRESET ∧ t.board.power = true ∧ t.board.wake = false ∧ t.board.need = cyclesPerMs ∧
      (∀ a, a ≠ R.DEV_MODE → t.reg a = s.reg a) ∧ t.vault = s.vault := by
  have hexec : exec .mainPowerReturn s = .next (s.repowered.setMode mRESET) := by
    rw [exec, execMainPowerReturn, if_neg (by simp [h])]
    rfl
  refine ⟨_, hexec, State.setMode_mode _ (by decide), ?_, ?_, ?_,
    fun a ha => (s.repowered.setMode_reg_ne mRESET ha).trans rfl, exec_vault_of_not_writesVault rfl hexec⟩
  all_goals
    rw [State.repowered_reset_board]
    rfl

/-- WAKE# asserted, and the card of slot `n` noted unless it is for a fault (R226). -/
def State.woken (s : State) (n : Nat) (present fault : Bool) : State :=
  let cards := if fault then s.board.cards else putBits s.board.cards n n (ofBool present)
  { s with board := { s.board with wake := true, cards := cards } }

theorem bit_putBits_same (v n : Nat) (b : Bool) : bit (putBits v n n (ofBool b)) n = b := by
  have hbit := bits_putBits_same v n n (ofBool b) le_rfl
  rw [bits_self, Nat.sub_self, Nat.zero_add, pow_one, Nat.mod_eq_of_lt (ofBool_lt_two b)] at hbit
  revert hbit
  cases bit (putBits v n n (ofBool b)) n <;> cases b <;> decide

theorem standbyWake_does {s : State} {n : Nat} (hn : n < 24) (present fault : Bool) (h : s.mode = mSTANDBY) :
    Does (.standbyWake n present fault) s fun t => t.board.wake = true ∧
      bit t.board.cards n = (if fault then bit s.board.cards n else present) ∧ t.regs = s.regs ∧ t.vault = s.vault := by
  have hexec : exec (.standbyWake n present fault) s = .next (s.woken n present fault) := by
    rw [exec, execStandbyWake, if_neg (by simp [h]), Nat.mod_eq_of_lt hn]
    rfl
  refine ⟨_, hexec, rfl, ?_, rfl, rfl⟩
  cases fault
  · exact bit_putBits_same _ _ _
  · rfl

/-! ### PWRLOSS_CLEAR (R344) -/

/-- The always-on log. -/
def lossLog : List Nat := [R.DEV_PWRLOSS_STS, R.DEV_PWRLOSS_POSTED, R.DEV_PWRLOSS_TB_LO, R.DEV_PWRLOSS_TB_HI]

section LossLog
variable (s : State)

theorem State.pwrlossClear_reg_ne {a : Nat} (h : a ∉ lossLog) : s.pwrlossClear.reg a = s.reg a := by
  simp only [lossLog, List.mem_cons, List.not_mem_nil, or_false, not_or] at h
  obtain ⟨hsts, hposted, hlo, hhi⟩ := h
  exact (State.reg_setReg_ne hhi).trans ((State.reg_setReg_ne hlo).trans ((State.reg_setReg_ne hposted).trans
    (State.reg_setReg_ne hsts)))

/-- The clear leaves LOSSES of the log, and nothing else of it. -/
theorem State.pwrlossClear_log :
    s.pwrlossClear.fget R.DEV_PWRLOSS_STS_LOSSES = s.fget R.DEV_PWRLOSS_STS_LOSSES ∧
      bits (s.pwrlossClear.reg R.DEV_PWRLOSS_STS).toNat 23 0 = 0 ∧ s.pwrlossClear.reg R.DEV_PWRLOSS_POSTED = 0 ∧
      s.pwrlossClear.reg R.DEV_PWRLOSS_TB_LO = 0 ∧ s.pwrlossClear.reg R.DEV_PWRLOSS_TB_HI = 0 := by
  have hsts : s.pwrlossClear.reg R.DEV_PWRLOSS_STS =
      BitVec.ofNat 32 (putBits 0 31 24 (s.fget R.DEV_PWRLOSS_STS_LOSSES)) :=
    (State.reg_setReg_ne (by decide)).trans ((State.reg_setReg_ne (by decide)).trans
      ((State.reg_setReg_ne (by decide)).trans (State.reg_setReg_same _ _ _)))
  refine ⟨?_, ?_, ?_, ?_, State.reg_setReg_same _ _ _⟩
  · rw [State.fget, hsts, BitVec.toNat_ofNat, bits_mod _ _ _ _ (by decide) (by decide),
      bits_putBits_same _ _ _ _ (by decide)]
    exact Nat.mod_eq_of_lt (s.fget_lt _)
  · rw [hsts, BitVec.toNat_ofNat, bits_mod _ _ _ _ (by decide) (by decide),
      bits_putBits_ne _ _ _ _ _ _ (by decide) (by decide) (by decide)]
    rfl
  · exact (State.reg_setReg_ne (by decide)).trans ((State.reg_setReg_ne (by decide)).trans (State.reg_setReg_same _ _ _))
  · exact (State.reg_setReg_ne (by decide)).trans (State.reg_setReg_same _ _ _)

theorem State.pwrlossClear_ctrs : s.pwrlossClear.ctrs = s.ctrs := rfl

end LossLog

theorem exec_pwrlossClear (r : Requester) (s : State) :
    exec (.pwrlossClear r) s = .next (s.regWrite r R.DEV_PWRLOSS_CLR 1) := rfl

/-- An access that reaches no register changes none. -/
theorem pwrlossClear_does_miss {s : State} {r : Requester}
    (h : s.alive = false ∨ s.decodes r R.DEV_PWRLOSS_CLR = false) : Does (.pwrlossClear r) s fun t =>
      (∀ a ∈ lossLog, t.reg a = s.reg a) ∧ t.vault = s.vault := by
  by_cases hal : s.alive = true
  · have hexec := exec_pwrlossClear r s
    rw [State.regWrite_of_not_decodes 1 hal (h.resolve_left (by simp [hal]))] at hexec
    exact ⟨_, hexec, fun a _ => State.reg_eq_of_regs (s.bump_regs _) a, s.bump_vault _⟩
  · have hwrite : s.regWrite r R.DEV_PWRLOSS_CLR 1 = s := if_pos (by simpa using hal)
    exact ⟨_, (exec_pwrlossClear r s).trans (congrArg _ hwrite), fun _ _ => rfl, rfl⟩

/-- The state with another note of a reserved field changed (R46). -/
def State.withUndef (s : State) (undef : Option Nat) : State := { s with undef := undef }

theorem State.withUndef_self (s : State) : s.withUndef s.undef = s := rfl

theorem State.writeCtlA_pwrlossClr (s : State) (r : Requester) :
    s.writeCtlA r ⟨.dev, 0, 1, 0x100⟩ R.DEV_PWRLOSS_CLR 1 = some s.pwrlossClear := by
  have hbit : bit (1 : W32).toNat 0 = true := by decide
  show some (if bit (1 : W32).toNat 0 then s.pwrlossClear else s) = _
  rw [if_pos hbit]

/-- A write of 1 to PWRLOSS_CLR clears the log, whatever the register's reserved bits make of it (R46). -/
theorem State.writeBlock_pwrlossClr (s : State) (r : Requester) : ∃ undef,
    s.writeBlock r ⟨.dev, 0, 1, 0x100⟩ R.DEV_PWRLOSS_CLR 1 = s.pwrlossClear.withUndef undef := by
  simp only [State.writeBlock, s.writeCtlA_pwrlossClr]
  generalize s.pwrlossClear = t
  split
  · exact ⟨some R.DEV_PWRLOSS_CLR, rfl⟩
  · exact ⟨t.undef, t.withUndef_self.symm⟩

theorem State.regWrite_pwrlossClr {s : State} {r : Requester} (hal : s.alive = true)
    (hdec : s.decodes r R.DEV_PWRLOSS_CLR = true) : ∃ undef, s.regWrite r R.DEV_PWRLOSS_CLR 1 =
      (s.lckOrder r R.DEV_PWRLOSS_CLR).pwrlossClear.withUndef undef := by
  have hp : pageAt R.DEV_PWRLOSS_CLR = some ⟨.dev, 0, 1, 0x100⟩ := by decide
  rw [State.regWrite_eq_writeBlock 1 hal hdec hp rfl (by decide) (by decide) (by decide) (by decide)]
  exact State.writeBlock_pwrlossClr _ r

/-- What the clear of the log leaves of the state before it (R344). -/
structure LogCleared (s t : State) : Prop where
  losses : t.fget R.DEV_PWRLOSS_STS_LOSSES = s.fget R.DEV_PWRLOSS_STS_LOSSES
  status : bits (t.reg R.DEV_PWRLOSS_STS).toNat 23 0 = 0
  posted : t.reg R.DEV_PWRLOSS_POSTED = 0
  timeLo : t.reg R.DEV_PWRLOSS_TB_LO = 0
  timeHi : t.reg R.DEV_PWRLOSS_TB_HI = 0
  other : ∀ a, a ∉ lossLog → t.reg a = s.reg a
  ctrs : t.ctrs = s.ctrs
  vault : t.vault = s.vault

theorem State.pwrlossClear_logCleared (s : State) : LogCleared s s.pwrlossClear := by
  obtain ⟨hlosses, hstatus, hposted, hlo, hhi⟩ := s.pwrlossClear_log
  exact ⟨hlosses, hstatus, hposted, hlo, hhi, fun _ => s.pwrlossClear_reg_ne, s.pwrlossClear_ctrs, s.pwrlossClear_vault⟩

theorem LogCleared.withUndef {s t : State} (h : LogCleared s t) (undef : Option Nat) :
    LogCleared s (t.withUndef undef) :=
  ⟨h.losses, h.status, h.posted, h.timeLo, h.timeHi, h.other, h.ctrs, h.vault⟩

/-- Noting the order of two writes of one cycle (R49, R416) changes none of what the clear leaves. -/
theorem LogCleared.of_lckOrder {s t : State} {r : Requester} {a : Nat} (h : LogCleared (s.lckOrder r a) t) :
    LogCleared s t where
  losses := h.losses.trans (State.fget_of_reg (s.lckOrder_reg r a _))
  status := h.status
  posted := h.posted
  timeLo := h.timeLo
  timeHi := h.timeHi
  other b hb := (h.other b hb).trans (s.lckOrder_reg r a b)
  ctrs := h.ctrs.trans (s.lckOrder_ctrs r a)
  vault := h.vault.trans (s.lckOrder_vault r a)

theorem pwrlossClear_does_clear {s : State} {r : Requester} (hal : s.alive = true)
    (hdec : s.decodes r R.DEV_PWRLOSS_CLR = true) : Does (.pwrlossClear r) s fun t =>
      t.fget R.DEV_PWRLOSS_STS_LOSSES = s.fget R.DEV_PWRLOSS_STS_LOSSES ∧ bits (t.reg R.DEV_PWRLOSS_STS).toNat 23 0 = 0 ∧
      t.reg R.DEV_PWRLOSS_POSTED = 0 ∧ t.reg R.DEV_PWRLOSS_TB_LO = 0 ∧ t.reg R.DEV_PWRLOSS_TB_HI = 0 ∧
      (∀ a, a ∉ lossLog → t.reg a = s.reg a) ∧ t.ctrs = s.ctrs ∧ t.vault = s.vault := by
  obtain ⟨undef, hwrite⟩ := State.regWrite_pwrlossClr hal hdec
  have h := (State.pwrlossClear_logCleared _).withUndef undef |>.of_lckOrder (s := s) (r := r) (a := R.DEV_PWRLOSS_CLR)
  exact ⟨_, by rw [exec_pwrlossClear, hwrite], h.losses, h.status, h.posted, h.timeLo, h.timeHi, h.other, h.ctrs, h.vault⟩

/-! ### The obligation -/

/-- Settles O58: each source writes what the reset keeps and then resets the device; out of RESET the straps and the OTP are
in effect; the clear of the log keeps LOSSES. -/
theorem deviceResets : Obligations.DeviceResets := by
  unfold Obligations.DeviceResets
  intro s
  refine ⟨fun h => congrArg _ (if_pos h), fun haon hpower => ⟨resetAssert_does haon hpower, resetDevice_does hpower,
    criticalTemperature_does hpower, fun rail hrail c m hc => railFails_does haon hpower hrail hc⟩, fun hal => ⟨?_, ?_⟩,
    fun hoff rail => ⟨?_, ?_⟩, fun hmode n present fault => ?_, aonUndervoltage_does, mainPowerReturn_does, fun h => ?_,
    fun n present fault hn => standbyWake_does hn present fault, fun m smb cfg hm hsmb hcfg => resetRelease_does hm hsmb hcfg,
    fun hmode m smb cfg => ?_, ?_, fun r => pwrlossClear_does_miss, fun r => pwrlossClear_does_clear⟩
  · exact congrArg _ (if_neg (by simp [hal]))
  · exact if_pos (by simp [hal])
  · exact congrArg _ (if_neg (by rw [Bool.and_eq_true]; rintro ⟨hp, ha⟩; simp [hp, ha] at hoff))
  · exact if_neg (by rw [Bool.and_eq_true]; rintro ⟨hp, ha⟩; simp [hp, ha] at hoff)
  · exact if_pos (by simpa using hmode)
  · exact congrArg _ (if_pos h)
  · exact if_pos (by simpa using hmode)
  · rintro go rfl
    exact ⟨exec_criticalCool_of_stays, criticalCool_does_leave⟩

end Sys2Proof.Machine
end
